-- ==== Sys2Proof/Word.lean ====
section
/-! DEFINITION. The words of the machine: bytes, registers, addresses and stamps, and the plainest
arithmetic on them (R4-R6, R45). -/

namespace Sys2Proof

/-- A byte of memory. -/
abbrev Byte := BitVec 8
/-- A 32-bit register, instruction word or Confluence word. -/
abbrev Word := BitVec 32
/-- A 48-bit angle stamp (R5): cycle count in [47:32], fraction in [31:0]. -/
abbrev Stamp := BitVec 48

end Sys2Proof
end

