-- ==== Sys2Proof/Syntax.lean ====
section
/-! DEFINITION. The commands the block takes: one constructor per row of the spec's table of operations and
events, with what the outside supplies with it as operands, and the small types the operands need. -/

namespace Sys2Proof

/-- Who makes a register access (the SOURCE coding of SYS_RSVD_SRC, R20, R46). -/
inductive Req where
  | inst (i : Fin 256) | sup | host | smbus | jtag | remote | catchup
  deriving DecidableEq, Repr

/-- A quadrature step (R61): up, down, or both inputs changing within one 125 ps step. -/
inductive QuadEdge where
  | up | down | illegal
  deriving DecidableEq, Repr

/-- What an ARM lists besides the epoch: devices to join, devices to leave (R514, R515, R523). -/
structure EpochLists where
  join : List (Fin 512)
  leave : List (Fin 512)
  deriving DecidableEq, Repr

/-- A calibration measurement (Table 18.1): class, index in the class, its components in the units of Table 18.2. -/
structure CalMeas where
  cls : Fin 7
  index : Nat
  vals : List Int
  deriving DecidableEq, Repr

/-- What lay at the input of a conversion at its hold instant (R243): the level as its origin takes it, and the deviation of
the reference from 1.6 V in µV. -/
structure ConvInput where
  level : Int
  dev : Int
  deriving DecidableEq, Repr

/-- What a BIND reads outside this device (R33, R34): descriptors of other devices (none: LINK_LOST), and whether a live
handle of another device reaches the unit bound. -/
structure FarUnits where
  reads : List (Word × Option (List Word))
  live : Bool
  deriving DecidableEq, Repr

/-- The instructions of the test access port (R687). -/
inductive TapIr where
  | bypass
  | idcode
  | sample
  | extest
  | highz
  | debug
  deriving DecidableEq, Repr

/-- How a message of the chain came in: the port, and whether its check held (R487, R492). -/
structure Rx where
  port : Fin 4
  ok : Bool
  deriving DecidableEq, Repr

/-- What an ANG message carries (Table 14.2): active angle in 2^-16 au, velocity in 2^-16 au/ns, acceleration in
2^-32 au/ns², COAST, cycles of coasting left, loss cause, generation, time counter, send count. -/
structure AngMsg where
  angle : BitVec 64
  vel : Int
  acc : Int
  coast : Bool
  left : Byte
  cause : Byte
  gen : Word
  time : BitVec 64
  count : Word
  deriving DecidableEq, Repr

/-- A path as enumeration gives it (R500, R502): the device, whether it crosses a level-1 hop, the port it leaves
by, its links and its one-way time. -/
structure PathRec where
  dev : Fin 512
  l1 : Bool
  port : Fin 4
  hops : BitVec 9
  oneway : BitVec 17
  deriving DecidableEq, Repr

/-- What enumeration gives a device (R500, R510, R512, R518): its index and whether it was the one asked for, the
headwater's index, the topology, the paths, the current members, the headwater's generation and the journal sequence
of its record of this index. -/
structure EnumRec where
  dev : Fin 512
  granted : Bool
  head : Fin 512
  topo : Fin 4
  paths : List PathRec
  members : List (Fin 512)
  gen : Word
  jseq : Option (BitVec 64)
  deriving DecidableEq, Repr

/-- What training finds (Table 14.5, R494, R496, R499, R532): the partner's highest level, kind, identity, index,
pass-through delay and twin position, lane order and polarity, cable delay, whether both claim to be headwater,
whether the port closes a cycle, the result of the enumeration that follows. -/
structure PortUp where
  lvl : Fin 3
  p5120 : Bool
  uid : BitVec 64
  peer : Fin 512
  pt : Byte
  posB : Bool
  lrev : Bool
  lpol : BitVec 4
  cable : BitVec 16
  conflict : Bool
  unused : Bool
  enum : Option EnumRec
  deriving DecidableEq, Repr

/-- What the device samples at a reset (R590, R510, R531, R641, R469): BOOT_MODE, HWSEL, TWIN_POS, PWR_STRAP_AHI, the
banks supplied at 3.3 V. -/
structure Straps where
  mode : BitVec 2
  hwsel : Bool
  posB : Bool
  ahi : Bool
  v33 : BitVec 16
  deriving DecidableEq, Repr

/-- Where a register write goes (R552): register space, or BAR0 of the function of a queue pair. -/
inductive RegPlace where
  | space (a : Word)
  | queuePair (p : Fin 257) (off : BitVec 12)
  deriving DecidableEq, Repr

/-- The offset of a unit register as an instruction gives it (R182): woff, or the register that holds it. -/
inductive UOff where
  | imm (woff : BitVec 7)
  | reg (ro : Fin 32)
  deriving DecidableEq, Repr

/-- A unit operation (Table 3.9): register offset and value, read with its combine code, UCMD code and argument, words. -/
inductive UnitReq where
  | uwr (kind : BitVec 4) (off : BitVec 12) (v : Word)
  | stg (kind : BitVec 4) (off : BitVec 12) (v : Word)
  | urd (kind : BitVec 4) (off : BitVec 12) (comb : BitVec 3)
  | ucmd (code : BitVec 4) (a : Byte)
  | wload (ws : List Word)
  deriving DecidableEq, Repr

/-- The header of a packet of another device (Table 14.3): its sender, its sequence number, the issuing instance (none: a
supervisor core or a host physical function) and its generation. -/
structure PktHead where
  src : Fin 512
  seq : BitVec 16
  inst : Option (Fin 256)
  gen : Byte
  deriving DecidableEq, Repr

/-- What a URSP carries (Table 14.4): the value of a read, if a leaf gave one; an acknowledgement; a fault of a leaf. -/
inductive UrspMsg where
  | value (v : Option Word)
  | ack
  | fault (leaf : Word) (sub : Byte)
  deriving DecidableEq, Repr

/-- What a BENMOS packet carries (R573): a forwarded command with its payload, or a completion with what the command has
read. -/
inductive BenmosMsg where
  | command (body : BitVec 512) (payload : List Byte)
  | completion (jseq : BitVec 64) (status detail : Byte) (jnl : Bool) (data : List Byte)
  deriving DecidableEq, Repr

/-- A block of a catch-up (R519): a journal entry with its payload; active and staged words of registers; a compound
descriptor; bytes of memory (handle tables); the image of a region; the end, with the source's generation and journal
sequence. -/
inductive XferMsg where
  | entry (d payload : List Byte)
  | regs (active staged : List (Word × Word))
  | compound (i : BitVec 14) (m : List Word)
  | memory (off : BitVec 39) (d : List Byte)
  | region (r : Fin 256) (image : List Byte)
  | last (gen : Word) (jseq : BitVec 64)
  deriving DecidableEq, Repr, Inhabited

/-- What a TWIN packet carries (R535-R537, R547-R549): the messages of the pair's commands, the result of an epoch
check, that the mirror has ended (R536, R537, R539), a request for a catch-up, and what the primary has consumed: words of a receiving slot, a write (of MWR, or the
one a MAMO made), a unit operation, a reply to a context's request, a journalled command, a BOOT or XFER packet. -/
inductive TwinMsg where
  | attach (gen : Word) (jseq : BitVec 64)
  | swap (done : Bool)
  | detach
  | ready
  | epoch (ok : Bool)
  | lost
  | catchup (method : Fin 4) (jseq : BitVec 64)
  | strm (r : Fin 64) (ws : List Word)
  | mwr (hd : PktHead) (addr : BitVec 48) (d : List Byte)
  | uop (hd : PktHead) (r : UnitReq) (leaves : List Word) (st : Option (Stamp × BitVec 2))
  | mrsp (c : Fin 257) (gen sub : Byte) (d : List Byte)
  | ursp (c : Fin 257) (gen : Byte) (m : UrspMsg)
  | benmos (p : Fin 257) (dev : Fin 512) (body : BitVec 512) (payload : List Byte) (seq : BitVec 64) (pos : BitVec 17) (gen : Byte)
  | boot (d : List Byte)
  | xfer (m : XferMsg)
  deriving DecidableEq, Repr


/-- The commands of the block (spec/opcode_table.json, one constructor per row). -/
inductive Instr where
  /-- REGISTER_WRITE (R7). A write to a register that has no row of its own, applied field by field by access code. -/
  | registerWrite (q : Req) (place : RegPlace) (bytes : Nat) (val : Word)
  /-- RSVD_CAPTURE_CLEAR (R22). A write of 1 to SYS_RSVD_SRC.VALID clears the capture and re-arms it. -/
  | rsvdCaptureClear (q : Req)
  /-- COUNTER_LO_READ (R46). A read of name_LO returns the live low bits and copies the high bits and OVF into the requester's shadow. -/
  | counterLoRead (q : Req) (addr : Word)
  /-- COUNTER_HI_READ (R47). A read of name_HI returns the requester's shadow if name_LO was read since, and the live value otherwise. -/
  | counterHiRead (q : Req) (addr : Word)
  /-- COUNTER_HOLD_WRITE (R48). A write to name_LO or to a lower high register goes into the requester's holding register. -/
  | counterHoldWrite (q : Req) (addr : Word) (val : Word)
  /-- COUNTER_LOAD_WRITE (R48). A write to the topmost high register requests a load of the whole counter from the holding register. -/
  | counterLoadWrite (q : Req) (addr : Word) (val : Word)
  /-- COUNTER_LOAD_APPLY (R49). The load takes effect at the next count edge of the counter's domain, before that edge's count. -/
  | counterLoadApply (addr : Word)
  /-- CLOCK_LOST (R40). A monitored domain loses lock or stops: SYS_CLK_LOST is set, MACHINE_CHECK is raised, and for domains 0, 1, 14 and 23 the device goes safe and fences. -/
  | clockLost (d : Fin 29)
  /-- QUAD_EDGE (R61). A filtered quadrature edge becomes a measurement of its angle source. -/
  | quadEdge (src : Fin 4) (edge : QuadEdge) (age : Nat)
  /-- INDEX_PULSE (R62). An index pulse aligns the angle or sets ZERR. -/
  | indexPulse (src : Fin 4) (age : Nat)
  /-- SSI_FRAME (R63). An SSI frame is decoded into a position measurement. -/
  | ssiFrame (src : Fin 4) (startHigh : Bool) (stopHigh : Bool) (raw : Word) (age : Nat)
  /-- SINCOS_SAMPLE (R65). A stamped sin/cos sample pair arriving on the angle bus becomes a measurement or an error. -/
  | sincosSample (src : Fin 4)
  /-- MAINS_ZERO_CROSSING (R59). A positive-going mains zero crossing becomes a period measurement. -/
  | mainsZeroCrossing (src : Fin 4) (age : Nat)
  /-- MEASUREMENT_TIMEOUT (R72). No measurement arrives within MISS times the last interval, giving standstill or loss by TIMEOUT. -/
  | measurementTimeout (src : Fin 4)
  /-- INDEX_TIMEOUT (R72). No index pulse arrives within 1.5/ZDIV cycle of travel, and the source is lost with cause INDEX. -/
  | indexTimeout (src : Fin 4)
  /-- COAST_EXPIRED (R75). After COAST_CYC cycles of coasting the device fences. -/
  | coastExpired
  /-- ANGLE_OUTPUT_EMIT (R58). Every OUT_PERIOD ns a source emits its velocity and angle stamp on its angle-bus port. -/
  | angleOutputEmit (src : Fin 4)
  /-- EVENT_RELEASE (R78). A stamped event is released when its high-water or low-water mark reaches the stamp. -/
  | eventRelease
  /-- IDLE_WINDOW_OPEN (R703). An enabled idle window opens and is a boundary for swaps, corrections, tests and SWAP. -/
  | idleWindowOpen (w : Fin 16)
  /-- IDLE_WINDOW_CLOSE (R703). An idle window closes when the angle fraction leaves its range. -/
  | idleWindowClose (w : Fin 16)
  /-- EPOCH_ARM_REQUEST (R87). ANG_EPOCH_CTL CMD ARM sends an epoch request for E to the headwater. -/
  | epochArmRequest (q : Req)
  /-- EPOCH_CANCEL_REQUEST (R95). ANG_EPOCH_CTL CMD CANCEL asks the headwater to abandon the epoch in progress. -/
  | epochCancelRequest (q : Req)
  /-- EPOCH_APPLY_NOW (R96). ANG_EPOCH_CTL CMD APPLY_NOW applies this device's shadows at once or refuses. -/
  | epochApplyNow (q : Req)
  /-- EPO_REQ (R88). The headwater receives an epoch request and refuses it or sends ARM. -/
  | epoReq (rx : Rx) (dev : Fin 512) (e : Stamp) (cancel : Bool)
  /-- EPO_ARM (R90). A participant receives ARM, makes its three checks and replies ARMED or REFUSED. -/
  | epoArm (rx : Rx) (n : Word) (e : Stamp) (lists : EpochLists)
  /-- EPO_REPLY (R91). The headwater receives a reply, and a REFUSED reply abandons the epoch at once. -/
  | epoReply (rx : Rx) (dev : Fin 512) (n : Word) (armed : Bool) (status : Byte)
  /-- EPOCH_DECIDE (R91). At E minus LEAD the headwater sends COMMIT or ABANDON. -/
  | epochDecide
  /-- EPO_DEC_RESEND (R91). A further copy of the decision is sent 100 ns after the previous one, up to REPEAT copies. -/
  | epoDecResend
  /-- EPO_DEC (R92). A participant receives COMMIT or ABANDON for the epoch it armed. -/
  | epoDec (rx : Rx) (n : Word) (commit : Bool) (status : Byte) (joined : List (Fin 512))
  /-- EPOCH_APPLY (R93). After COMMIT the participant applies every shadow when its high-water mark reaches E. -/
  | epochApply
  /-- EPOCH_APPLY_COMPLETE (R93). The application ends within 1 µs, the deferred events are released and the generation becomes N. -/
  | epochApplyComplete
  /-- EPOCH_NO_DECISION (R94). An armed participant without a decision at E fences with FENCED_NO_DECISION. -/
  | epochNoDecision
  /-- EPO_RES (R95). The requester receives the refusal or end result of its epoch request. -/
  | epoRes (rx : Rx) (status : Byte) (ignored : Bool)
  /-- ILLEGAL_WORD (R161). An undefined or malformed instruction word raises ILLEGAL. -/
  | illegalWord (c : Fin 257) (w : Word)
  /-- TAKE_INTERRUPT (R459). A context with a pending view and IE set takes INTERRUPT at an instruction boundary. -/
  | takeInterrupt (c : Fin 257)
  /-- TAKE_MACHINE_CHECK (R123). The supervisor takes a pending MACHINE_CHECK once TD and WT are both 0. -/
  | takeMachineCheck
  /-- MEMORY_RESPONSE (R127). Data of a load, far load, atomic, WSPILL or WFILL returns and the context resumes. -/
  | memoryResponse (c : Fin 257)
  /-- STORE_ACCEPTED (R189). A posted store is accepted at its target and leaves the store queue. -/
  | storeAccepted (c : Fin 257)
  /-- POSTED_STORE_FAILURE (R129). A posted store that fails at its target is reported as a BUSERR with POSTED at the next boundary. -/
  | postedStoreFailure (c : Fin 257)
  /-- STAMP_QUEUE_ROOM (R144). A consumer accepts a stamped operation that stalled the context on a full queue. -/
  | stampQueueRoom (c : Fin 257)
  /-- UNTIL_TIMEOUT (R139). An UNTIL time limit expires with the event unreleased, and rd becomes 1. -/
  | untilTimeout (c : Fin 257)
  /-- STREAM_RX_WORD (R136). A word arrives at an instance stream port's receive FIFO. -/
  | streamRxWord (i : Fin 256)
  /-- STREAM_TX_ROOM (R191). The transmit queue gains room, and a waiting PUSH or PUSHS completes. -/
  | streamTxRoom (c : Fin 257)
  /-- SYNC_COMPLETE (R133). Every earlier operation of the selected classes completes, and SYNC resumes. -/
  | syncComplete (c : Fin 257)
  /-- ADD (R167). Adds two registers modulo 2^32. -/
  | add (c : Fin 257) (rd : Fin 32) (ra : Fin 32) (rb : Fin 32)
  /-- SUB (R167). Subtracts two registers modulo 2^32. -/
  | sub (c : Fin 257) (rd : Fin 32) (ra : Fin 32) (rb : Fin 32)
  /-- AND (R167). Bitwise and. -/
  | and (c : Fin 257) (rd : Fin 32) (ra : Fin 32) (rb : Fin 32)
  /-- OR (R167). Bitwise or. -/
  | or (c : Fin 257) (rd : Fin 32) (ra : Fin 32) (rb : Fin 32)
  /-- XOR (R167). Bitwise exclusive or. -/
  | xor (c : Fin 257) (rd : Fin 32) (ra : Fin 32) (rb : Fin 32)
  /-- SLL (R167). Shift left by a register amount. -/
  | sll (c : Fin 257) (rd : Fin 32) (ra : Fin 32) (rb : Fin 32)
  /-- SRL (R167). Logical shift right by a register amount. -/
  | srl (c : Fin 257) (rd : Fin 32) (ra : Fin 32) (rb : Fin 32)
  /-- SRA (R167). Arithmetic shift right by a register amount. -/
  | sra (c : Fin 257) (rd : Fin 32) (ra : Fin 32) (rb : Fin 32)
  /-- SLT (R167). Set if less than, signed. -/
  | slt (c : Fin 257) (rd : Fin 32) (ra : Fin 32) (rb : Fin 32)
  /-- SLTU (R167). Set if less than, unsigned. -/
  | sltu (c : Fin 257) (rd : Fin 32) (ra : Fin 32) (rb : Fin 32)
  /-- MIN (R167). Signed minimum. -/
  | min (c : Fin 257) (rd : Fin 32) (ra : Fin 32) (rb : Fin 32)
  /-- MAX (R167). Signed maximum. -/
  | max (c : Fin 257) (rd : Fin 32) (ra : Fin 32) (rb : Fin 32)
  /-- MINU (R167). Unsigned minimum. -/
  | minu (c : Fin 257) (rd : Fin 32) (ra : Fin 32) (rb : Fin 32)
  /-- MAXU (R167). Unsigned maximum. -/
  | maxu (c : Fin 257) (rd : Fin 32) (ra : Fin 32) (rb : Fin 32)
  /-- MUL (R167). Low 32 bits of the product. -/
  | mul (c : Fin 257) (rd : Fin 32) (ra : Fin 32) (rb : Fin 32)
  /-- MULH (R167). High 32 bits of the signed product. -/
  | mulh (c : Fin 257) (rd : Fin 32) (ra : Fin 32) (rb : Fin 32)
  /-- MULHU (R167). High 32 bits of the unsigned product. -/
  | mulhu (c : Fin 257) (rd : Fin 32) (ra : Fin 32) (rb : Fin 32)
  /-- CLZ (R167). Counts the leading zeros of ra. -/
  | clz (c : Fin 257) (rd : Fin 32) (ra : Fin 32)
  /-- ADDI (R168). Adds a sign-extended immediate. -/
  | addi (c : Fin 257) (rd : Fin 32) (ra : Fin 32) (imm : BitVec 16)
  /-- ANDI (R168). And with a zero-extended immediate. -/
  | andi (c : Fin 257) (rd : Fin 32) (ra : Fin 32) (imm : BitVec 16)
  /-- ORI (R168). Or with a zero-extended immediate. -/
  | ori (c : Fin 257) (rd : Fin 32) (ra : Fin 32) (imm : BitVec 16)
  /-- XORI (R168). Exclusive or with a zero-extended immediate. -/
  | xori (c : Fin 257) (rd : Fin 32) (ra : Fin 32) (imm : BitVec 16)
  /-- SLTI (R168). Set if less than an immediate, signed. -/
  | slti (c : Fin 257) (rd : Fin 32) (ra : Fin 32) (imm : BitVec 16)
  /-- SLTIU (R168). Set if less than an immediate, unsigned. -/
  | sltiu (c : Fin 257) (rd : Fin 32) (ra : Fin 32) (imm : BitVec 16)
  /-- SLLI (R168). Shift left by an immediate. -/
  | slli (c : Fin 257) (rd : Fin 32) (ra : Fin 32) (imm : BitVec 16)
  /-- SRLI (R168). Logical shift right by an immediate. -/
  | srli (c : Fin 257) (rd : Fin 32) (ra : Fin 32) (imm : BitVec 16)
  /-- SRAI (R168). Arithmetic shift right by an immediate. -/
  | srai (c : Fin 257) (rd : Fin 32) (ra : Fin 32) (imm : BitVec 16)
  /-- LUI (R168). Loads the immediate into the upper half. -/
  | lui (c : Fin 257) (rd : Fin 32) (imm : BitVec 16)
  /-- ADDS (R169). Saturating signed add. -/
  | adds (c : Fin 257) (rd : Fin 32) (ra : Fin 32) (rb : Fin 32)
  /-- SUBS (R169). Saturating signed subtract. -/
  | subs (c : Fin 257) (rd : Fin 32) (ra : Fin 32) (rb : Fin 32)
  /-- NEGS (R169). Saturating negate. -/
  | negs (c : Fin 257) (rd : Fin 32) (ra : Fin 32)
  /-- ABSS (R169). Saturating absolute value. -/
  | abss (c : Fin 257) (rd : Fin 32) (ra : Fin 32)
  /-- MULQ (R169). Rounded, saturated Q1.31 product. -/
  | mulq (c : Fin 257) (rd : Fin 32) (ra : Fin 32) (rb : Fin 32)
  /-- MACQ (R169). Saturating 64-bit multiply-accumulate into a pair. -/
  | macq (c : Fin 257) (rd : Fin 32) (ra : Fin 32) (rb : Fin 32)
  /-- SHRR (R169). Rounded arithmetic shift right. -/
  | shrr (c : Fin 257) (rd : Fin 32) (ra : Fin 32) (rb : Fin 32)
  /-- SATN (R169). Clamps to signed n bits. -/
  | satn (c : Fin 257) (rd : Fin 32) (ra : Fin 32) (n : BitVec 5)
  /-- PKS (R169). Packs a Confluence sample word with flags. -/
  | pks (c : Fin 257) (rd : Fin 32) (ra : Fin 32) (rb : Fin 32)
  /-- LD_B (R170). Loads a byte, sign-extended, and waits for the data. -/
  | ldB (c : Fin 257) (rd : Fin 32) (ra : Fin 32) (imm : BitVec 16)
  /-- LD_BU (R170). Loads a byte, zero-extended. -/
  | ldBu (c : Fin 257) (rd : Fin 32) (ra : Fin 32) (imm : BitVec 16)
  /-- LD_H (R170). Loads a half-word, sign-extended. -/
  | ldH (c : Fin 257) (rd : Fin 32) (ra : Fin 32) (imm : BitVec 16)
  /-- LD_HU (R170). Loads a half-word, zero-extended. -/
  | ldHu (c : Fin 257) (rd : Fin 32) (ra : Fin 32) (imm : BitVec 16)
  /-- LD_W (R170). Loads a word. -/
  | ldW (c : Fin 257) (rd : Fin 32) (ra : Fin 32) (imm : BitVec 16)
  /-- LD_D (R170). Loads a pair. -/
  | ldD (c : Fin 257) (rd : Fin 32) (ra : Fin 32) (imm : BitVec 16)
  /-- ST_B (R170). Posts a byte store. -/
  | stB (c : Fin 257) (rs : Fin 32) (ra : Fin 32) (imm : BitVec 16)
  /-- ST_H (R170). Posts a half-word store. -/
  | stH (c : Fin 257) (rs : Fin 32) (ra : Fin 32) (imm : BitVec 16)
  /-- ST_W (R170). Posts a word store. -/
  | stW (c : Fin 257) (rs : Fin 32) (ra : Fin 32) (imm : BitVec 16)
  /-- ST_D (R170). Posts a pair store. -/
  | stD (c : Fin 257) (rs : Fin 32) (ra : Fin 32) (imm : BitVec 16)
  /-- LDF_B (R171). Far load of a byte, sign-extended, from a global address. -/
  | ldfB (c : Fin 257) (rd : Fin 32) (ra : Fin 32)
  /-- LDF_BU (R171). Far load of a byte, zero-extended. -/
  | ldfBu (c : Fin 257) (rd : Fin 32) (ra : Fin 32)
  /-- LDF_H (R171). Far load of a half-word, sign-extended. -/
  | ldfH (c : Fin 257) (rd : Fin 32) (ra : Fin 32)
  /-- LDF_HU (R171). Far load of a half-word, zero-extended. -/
  | ldfHu (c : Fin 257) (rd : Fin 32) (ra : Fin 32)
  /-- LDF_W (R171). Far load of a word. -/
  | ldfW (c : Fin 257) (rd : Fin 32) (ra : Fin 32)
  /-- LDF_D (R171). Far load of a pair. -/
  | ldfD (c : Fin 257) (rd : Fin 32) (ra : Fin 32)
  /-- STF_B (R171). Far store of a byte. -/
  | stfB (c : Fin 257) (rs : Fin 32) (ra : Fin 32)
  /-- STF_H (R171). Far store of a half-word. -/
  | stfH (c : Fin 257) (rs : Fin 32) (ra : Fin 32)
  /-- STF_W (R171). Far store of a word. -/
  | stfW (c : Fin 257) (rs : Fin 32) (ra : Fin 32)
  /-- STF_D (R171). Far store of a pair. -/
  | stfD (c : Fin 257) (rs : Fin 32) (ra : Fin 32)
  /-- AMOSWAP (R172). Atomic swap, returning the old word. -/
  | amoswap (c : Fin 257) (rd : Fin 32) (ra : Fin 32) (rb : Fin 32) (f : Bool)
  /-- AMOADD (R172). Atomic add, returning the old word. -/
  | amoadd (c : Fin 257) (rd : Fin 32) (ra : Fin 32) (rb : Fin 32) (f : Bool)
  /-- AMOCAS (R172). Atomic compare-and-swap. -/
  | amocas (c : Fin 257) (rd : Fin 32) (ra : Fin 32) (rb : Fin 32) (f : Bool)
  /-- B (R173). Unconditional branch. -/
  | b (c : Fin 257) (disp : BitVec 26)
  /-- CALL (R173). Writes the return address into W23 and branches. -/
  | call (c : Fin 257) (disp : BitVec 26)
  /-- BEQ (R173). Branch if equal. -/
  | beq (c : Fin 257) (ra : Fin 32) (rb : Fin 32) (disp : BitVec 16)
  /-- BNE (R173). Branch if not equal. -/
  | bne (c : Fin 257) (ra : Fin 32) (rb : Fin 32) (disp : BitVec 16)
  /-- BLT (R173). Branch if less, signed. -/
  | blt (c : Fin 257) (ra : Fin 32) (rb : Fin 32) (disp : BitVec 16)
  /-- BGE (R173). Branch if greater or equal, signed. -/
  | bge (c : Fin 257) (ra : Fin 32) (rb : Fin 32) (disp : BitVec 16)
  /-- BLTU (R173). Branch if less, unsigned. -/
  | bltu (c : Fin 257) (ra : Fin 32) (rb : Fin 32) (disp : BitVec 16)
  /-- BGEU (R173). Branch if greater or equal, unsigned. -/
  | bgeu (c : Fin 257) (ra : Fin 32) (rb : Fin 32) (disp : BitVec 16)
  /-- JR (R174). Jumps to a register target. -/
  | jr (c : Fin 257) (ra : Fin 32)
  /-- CALLR (R174). Calls a register target. -/
  | callr (c : Fin 257) (ra : Fin 32)
  /-- ENTER (R108). Advances the register window, or raises WINDOW_OVF. -/
  | enter (c : Fin 257)
  /-- LEAVE (R109). Steps the register window back, or raises WINDOW_UNF. -/
  | leave (c : Fin 257)
  /-- RETT (R115). Ends a trap handler and restores status and PC. -/
  | rett (c : Fin 257)
  /-- RETW (R118). Ends a window trap and reissues the trapping instruction. -/
  | retw (c : Fin 257)
  /-- WSPILL (R117). Stores the oldest resident window to memory. -/
  | wspill (c : Fin 257) (ra : Fin 32)
  /-- WFILL (R117). Loads a window from memory. -/
  | wfill (c : Fin 257) (ra : Fin 32)
  /-- GETC (R156). Reads a control word. -/
  | getc (c : Fin 257) (rd : Fin 32) (n : BitVec 5)
  /-- SETC (R156). Writes a control word. -/
  | setc (c : Fin 257) (n : BitVec 5) (ra : Fin 32)
  /-- SYNC (R133). Stalls until the selected classes of earlier operations are complete. -/
  | sync (c : Fin 257) (m : BitVec 5)
  /-- PUSH (R135). Sends one word into the instance stream port. -/
  | push (c : Fin 257) (ra : Fin 32)
  /-- PUSHS (R135). Sends a stamped sample word and its two stamp words. -/
  | pushs (c : Fin 257) (ra : Fin 32) (rb : Fin 32)
  /-- PULL (R136). Takes a word from the receive FIFO and waits while it is empty. -/
  | pull (c : Fin 257) (rd : Fin 32)
  /-- PULLNB (R136). Takes a word if there is one, with a flag. -/
  | pullnb (c : Fin 257) (rd : Fin 32) (rf : Fin 32)
  /-- PULLS (R136). Takes a word and its stamp words. -/
  | pulls (c : Fin 257) (rd : Fin 32) (rp : Fin 32)
  /-- ANOW (R138). Reads the active angle. -/
  | anow (c : Fin 257) (rd : Fin 32)
  /-- TNOW (R138). Reads the time counter. -/
  | tnow (c : Fin 257) (rd : Fin 32)
  /-- AADD (R138). Adds an au offset to a stamp. -/
  | aadd (c : Fin 257) (rd : Fin 32) (ra : Fin 32) (rb : Fin 32)
  /-- ACMP (R138). Compares two stamps. -/
  | acmp (c : Fin 257) (rd : Fin 32) (ra : Fin 32) (rb : Fin 32)
  /-- ACYC (R138). Adds whole cycles to a stamp. -/
  | acyc (c : Fin 257) (rd : Fin 32) (ra : Fin 32) (imm : BitVec 16)
  /-- UNTIL (R139). Waits for a stamped event, with a time limit. -/
  | until (c : Fin 257) (rd : Fin 32) (ra : Fin 32) (q : BitVec 2) (rb : Fin 32)
  /-- AT (R143). Stamps the following instruction and hands it to its consumer. -/
  | atStamp (c : Fin 257) (ra : Fin 32) (q : BitVec 2) (w : Word) (far : List (Word × Option (List Word)))
  /-- UWR (R146). Writes a register at every implementing leaf of a handle. -/
  | uwr (c : Fin 257) (rd : Fin 32) (h : Fin 32) (v : Fin 32) (kind : BitVec 4) (off : UOff) (far : List (Word × Option (List Word)))
  /-- STG (R146). Writes an RWS shadow at every implementing leaf. -/
  | stg (c : Fin 257) (rd : Fin 32) (h : Fin 32) (v : Fin 32) (kind : BitVec 4) (off : UOff) (far : List (Word × Option (List Word)))
  /-- URD (R147). Reads and combines a register over the leaves and waits for every reply. -/
  | urd (c : Fin 257) (rd : Fin 32) (h : Fin 32) (comb : BitVec 3) (kind : BitVec 4) (off : UOff) (far : List (Word × Option (List Word)))
  /-- WLOAD (R149). Loads waveform or coefficient words into every implementing leaf. -/
  | wload (c : Fin 257) (n : Fin 32) (h : Fin 32) (addr : Fin 32) (far : List (Word × Option (List Word)))
  /-- UCMD_ENABLE (R146). Performs ENABLE on every implementing leaf. -/
  | ucmdEnable (c : Fin 257) (h : Fin 32) (a : Byte) (far : List (Word × Option (List Word)))
  /-- UCMD_DISABLE (R146). Performs DISABLE on every implementing leaf. -/
  | ucmdDisable (c : Fin 257) (h : Fin 32) (a : Byte) (far : List (Word × Option (List Word)))
  /-- UCMD_START (R146). Performs START on groups or filter channels. -/
  | ucmdStart (c : Fin 257) (h : Fin 32) (a : Byte) (far : List (Word × Option (List Word)))
  /-- UCMD_STOP (R146). Performs STOP on groups or filter channels. -/
  | ucmdStop (c : Fin 257) (h : Fin 32) (a : Byte) (far : List (Word × Option (List Word)))
  /-- UCMD_FIRE (R154). Issues a drive start on pulse generators, whatever the fire budget. -/
  | ucmdFire (c : Fin 257) (h : Fin 32) (a : Byte) (far : List (Word × Option (List Word)))
  /-- UCMD_TRIG (R146). Triggers an urgent entry of converter groups. -/
  | ucmdTrig (c : Fin 257) (h : Fin 32) (a : Byte) (far : List (Word × Option (List Word)))
  /-- UCMD_SAFE (R146). Sets the safe latch of cells or pulse generators. -/
  | ucmdSafe (c : Fin 257) (h : Fin 32) (a : Byte) (far : List (Word × Option (List Word)))
  /-- UCMD_CLEAR (R146). Performs CLEAR on every implementing leaf. -/
  | ucmdClear (c : Fin 257) (h : Fin 32) (a : Byte) (far : List (Word × Option (List Word)))
  /-- ARM (R155). Requests an epoch at a stamp (privileged). -/
  | arm (c : Fin 257) (ra : Fin 32)
  /-- EPCAN (R155). Cancels the epoch request (privileged). -/
  | epcan (c : Fin 257)
  /-- EPWAIT (R155). Waits until the epoch state is IDLE or FENCED and returns the result. -/
  | epwait (c : Fin 257) (rd : Fin 32)
  /-- PINW (R184). Writes masked levels to the tile's GPIO pins. -/
  | pinw (c : Fin 257) (ra : Fin 32)
  /-- PINR (R194). Reads the levels of the tile's GPIO pins. -/
  | pinr (c : Fin 257) (rd : Fin 32)
  /-- DAC_UPDATE (R205). On the 20 ns grid the cell applies the code of its source to the DAC. -/
  | dacUpdate (u : Fin 512)
  /-- CELL_STREAM_WORD (R207). A word arrives at a cell's Confluence port in STREAM mode. -/
  | cellStreamWord (u : Fin 512)
  /-- HOLD_TIMEOUT (R222). The hold timer reaches HOLD_MAX, setting HTO and the safe latch. -/
  | holdTimeout (u : Fin 512)
  /-- STARVE_TIMEOUT (R220). The starvation timer reaches STARVE, setting STARVE and the safe latch. -/
  | starveTimeout (u : Fin 512)
  /-- OVERCURRENT (R214). Output current above OC_TH for OC_T sets OC and possibly the safe latch. -/
  | overcurrent (u : Fin 512)
  /-- WAVE_LOAD_COMPLETE (R210). A load of the inactive bank ends, recording its length and setting READY. -/
  | waveLoadComplete (u : Fin 512)
  /-- CEL_WAVE_DATA_READ (R210). A read of CEL_WAVE_DATA returns a bank code and advances INDEX. -/
  | celWaveDataRead (q : Req) (u : Fin 512)
  /-- CVG_ENABLE (R250). CVG_CTL CMD ENABLE powers up the slices of a disabled group. -/
  | cvgEnable (q : Req) (g : Fin 64)
  /-- CVG_DISABLE (R250). CVG_CTL CMD DISABLE aborts the conversions and disables the group. -/
  | cvgDisable (q : Req) (g : Fin 64)
  /-- CVG_START (R250). CVG_CTL CMD START runs the sequence from entry 0 and restarts the decimators. -/
  | cvgStart (q : Req) (g : Fin 64)
  /-- CVG_STOP (R250). CVG_CTL CMD STOP issues no new entries. -/
  | cvgStop (q : Req) (g : Fin 64)
  /-- CVG_CLEAR (R250). CVG_CTL CMD CLEAR clears the event flags and restarts the decimators. -/
  | cvgClear (q : Req) (g : Fin 64)
  /-- CVG_TRIG (R253). CVG_CTL.TRIG bits trigger urgent entries. -/
  | cvgTrig (q : Req) (g : Fin 64) (mask : BitVec 4)
  /-- CVG_POWER_UP_DONE (R250). 2 µs after ENABLE the group enters STOPPED. -/
  | cvgPowerUpDone (g : Fin 64)
  /-- SEQ_ISSUE (R247). The sequencer issues the next entry to the lowest free active slice. -/
  | seqIssue (g : Fin 64)
  /-- CONVERSION_END (R248). A conversion phase ends and its result leaves through the reorder buffer. -/
  | conversionEnd (g : Fin 64) (slice : Fin 5) (input : ConvInput) (clip : Bool)
  /-- URGENT_ANGLE_TRIGGER (R254). An armed angle trigger is released ahead of its stamp and re-armed. -/
  | urgentAngleTrigger (g : Fin 64) (u : Fin 4)
  /-- WEIR_URGENT_TRIGGER (R253). A rising blanked comparator output triggers an urgent entry. -/
  | weirUrgentTrigger (p : Fin 512) (low : Bool)
  /-- CVG_PARITY_ERROR (R245). A parity error poisons the entry's next result and restarts its decimator. -/
  | cvgParityError (g : Fin 64) (e : Fin 20) (inTable : Bool)
  /-- CVG_REF_WRITE (R265). A write that enables a reference queues its wake item. -/
  | cvgRefWrite (q : Req) (d : Fin 2) (v : Word)
  /-- REF_RDY_CHANGE (R265). A reference settles, or leaves its band, and RDY changes. -/
  | refRdyChange (d : Fin 2) (refB : Bool) (ready : Bool)
  /-- EDDY_RUN_END (R268). An Eddy calibration run ends, passing to READY or failing to SUSPECT. -/
  | eddyRunEnd (g : Fin 64) (limited : Int × Int) (weights : List Int)
  /-- EDDY_SWAP (R271). After a boundary, a READY Eddy slice swaps with the outgoing slice once it is free. -/
  | eddySwap (g : Fin 64)
  /-- EDDY_STALE (R272). AGE reaches STALE_MS and EDDY_STALE is set. -/
  | eddyStale (g : Fin 64)
  /-- FLT_ENABLE (R285). FLT_CH_CTL CMD ENABLE makes the channel STOPPED. -/
  | fltEnable (q : Req) (u : Fin 512)
  /-- FLT_DISABLE (R285). FLT_CH_CTL CMD DISABLE makes the channel DISABLED. -/
  | fltDisable (q : Req) (u : Fin 512)
  /-- FLT_START (R285). FLT_CH_CTL CMD START restarts the channel and makes it RUNNING. -/
  | fltStart (q : Req) (u : Fin 512)
  /-- FLT_STOP (R285). FLT_CH_CTL CMD STOP takes no further words. -/
  | fltStop (q : Req) (u : Fin 512)
  /-- FLT_CLEAR (R285). FLT_CH_CTL CMD CLEAR clears the flags and restarts a running channel. -/
  | fltClear (q : Req) (u : Fin 512)
  /-- FLT_INPUT_WORD (R282). A word arrives at the engine input and is taken by the matching channels. -/
  | fltInputWord (e : Fin 64)
  /-- FLT_PROCESS (R295). The engine processes the word at the FIFO head and sends the outputs it completes. -/
  | fltProcess (e : Fin 64) (bad : Bool)
  /-- FLT_COEF_WRITE (R302). A write of FLT_COEF_DATA stores a coefficient in the inactive bank and advances ADDR. -/
  | fltCoefWrite (q : Req) (e : Fin 64) (v : Word)
  /-- FLT_COEF_READ (R302). A read of FLT_COEF_DATA returns a coefficient and advances ADDR. -/
  | fltCoefRead (q : Req) (e : Fin 64)
  /-- FLT_LOAD_READ (R294). A read of FLT_LOAD returns PEAK and clears it. -/
  | fltLoadRead (q : Req) (e : Fin 64)
  /-- LEARNING_START (R342). A learning begins when its window's last output is computed or the previous learning completes. -/
  | learningStart (e : Fin 64)
  /-- LEARNING_COMPLETE (R339). A learning updates the correction and loads the inactive bank, or is abandoned. -/
  | learningComplete (e : Fin 64)
  /-- DRV_ENABLE (R311). DRV_CTL CMD ENABLE sets EN. -/
  | drvEnable (q : Req) (n : Fin 512)
  /-- DRV_DISABLE (R311). DRV_CTL CMD DISABLE ends the shot and discards the starts. -/
  | drvDisable (q : Req) (n : Fin 512)
  /-- DRV_FIRE (R311). DRV_CTL CMD FIRE issues a start with profile PROF. -/
  | drvFire (q : Req) (n : Fin 512) (prof : BitVec 2)
  /-- DRV_SAFE (R311). DRV_CTL CMD SAFE sets the safe latch. -/
  | drvSafe (q : Req) (n : Fin 512)
  /-- DRV_CLEAR (R311). DRV_CTL CMD CLEAR clears the safe latch. -/
  | drvClear (q : Req) (n : Fin 512)
  /-- DRV_CFG_WRITE (R311). A write to DRV_CFG that changes EN acts at once as ENABLE or DISABLE. -/
  | drvCfgWrite (q : Req) (n : Fin 512) (v : Word)
  /-- DRV_START_RELEASE (R322). A released start is granted and begins a shot, becomes pending, or is dropped. -/
  | drvStartRelease (n : Fin 512)
  /-- BUDGET_STEP_BOUNDARY (R322). At each 50 ns step boundary the pending starts are offered and tested against TOL. -/
  | budgetStepBoundary
  /-- SHOT_EDGE (R313). A timed edge of a running shot begins or ends an on-time or ends the shot. -/
  | shotEdge (n : Fin 512)
  /-- WEIR_TRIP (R332). A selected comparator output ends the on-time or shot and fills the trip record. -/
  | weirTrip (p : Fin 512) (fout pre : Int)
  /-- BLANKING_EXPIRE (R331). A blanking window ends after BLEN ns, and the comparator outputs are unmasked. -/
  | blankingExpire (p : Fin 512)
  /-- CXB_WORD_DELIVER (R350). An offered word reaches every destination that selects its source 2.0 ns later. -/
  | cxbWordDeliver (perr : List (Nat × Bool))
  /-- CXB_ROUTE_WRITE (R360). A write to CXB_ROUTE is checked for ownership and staged. -/
  | cxbRouteWrite (q : Req) (d : Fin 1600) (v : Word)
  /-- CXB_RNOW_WRITE (R358). A write to CXB_RNOW changes one allowed destination's route at once. -/
  | cxbRnowWrite (q : Req) (v : Word)
  /-- CXB_OWN_WRITE (R360). A write to CXB_OWN changes a port's owner unless the port is LOCKED. -/
  | cxbOwnWrite (q : Req) (p : Fin 1600) (v : Word)
  /-- CXB_ROUTE_SWITCH (R359). A route change takes effect at a switch cycle that keeps trios whole. -/
  | cxbRouteSwitch (d : Fin 1600)
  /-- BORDER_HOLD_REPEAT (R370). Every 1 µs the last word from a source in border state is repeated with HOLD. -/
  | borderHoldRepeat
  /-- CXB_LOAD_READ (R351). A read of CXB_LOAD returns PEAK and clears it. -/
  | cxbLoadRead (q : Req)
  /-- RR_PLAYOUT (R503). A receiving slot offers each remote word exactly the route delay after it was sent. -/
  | rrPlayout (r : Fin 64)
  /-- LGC_ENABLE (R385). LGC_RG_CTL CMD ENABLE restarts clocks or releases a loaded region. -/
  | lgcEnable (q : Req) (r : Fin 256)
  /-- LGC_DISABLE (R385). LGC_RG_CTL CMD DISABLE stops a running region's clocks. -/
  | lgcDisable (q : Req) (r : Fin 256)
  /-- LGC_CLEAR (R385). LGC_RG_CTL CMD CLEAR returns the flip-flops to INIT and clears the flags. -/
  | lgcClear (q : Req) (r : Fin 256)
  /-- LGC_RECONF (R387). LGC_RG_CTL CMD RECONF stops the region's clocks and starts loading an image. -/
  | lgcReconf (q : Req) (r : Fin 256) (auto : Bool)
  /-- RECONF_LOAD_END (R387). The image load ends and is checked, making the region LOADED or FAILED. -/
  | reconfLoadEnd (r : Fin 256)
  /-- LOGIC_PORT_RX (R380). A word arrives at a logic port's inbound FIFO. -/
  | logicPortRx (p : Fin 256)
  /-- OBS_CAP_ARM (R391). OBS_CAP_CTL.ARM arms the capture. -/
  | obsCapArm (q : Req) (v : BitVec 31)
  /-- OBS_TRIGGER (R391). The armed capture's trigger arrives. -/
  | obsTrigger
  /-- OBS_CAPTURE (R392). At the N-th GC edge after the trigger, the fabric state is copied into the buffer. -/
  | obsCapture
  /-- OBS_CAP_DATA_READ (R393). A read of OBS_CAP_DATA returns a buffer word and advances ADDR. -/
  | obsCapDataRead (q : Req)
  /-- ECC_LOG_POP (R402). ECC_LOG_CTL.POP removes the oldest error record. -/
  | eccLogPop (q : Req)
  /-- PATROL_READ (R403). The patrol reads a codeword, and logs and counts any error. -/
  | patrolRead (addr : Nat) (d0 : Word) (d1 : Word) (c : Word)
  /-- MEM_RET_ADD (R413). MEM_RET_CMD ADD starts retiring a DDR page to spare entry k. -/
  | memRetAdd (q : Req) (k : BitVec 10)
  /-- MEM_RET_REMOVE (R413). MEM_RET_CMD REMOVE starts copying a spare back to its page. -/
  | memRetRemove (q : Req) (k : BitVec 10)
  /-- RET_COPY_END (R414). A retirement copy ends, and its NVM record is written. -/
  | retCopyEnd
  /-- SRAM_BANK_DISABLE (R415). MEM_SRAM_CMD DISABLE starts mapping a bank to a spare. -/
  | sramBankDisable (q : Req) (t : Fin 16) (b : Fin 32)
  /-- SRAM_BANK_ENABLE (R415). MEM_SRAM_CMD ENABLE starts mapping a bank back. -/
  | sramBankEnable (q : Req) (t : Fin 16) (b : Fin 32)
  /-- SRAM_COPY_END (R415). A bank copy ends, and its record is persisted. -/
  | sramCopyEnd
  /-- DMA_SUBMIT (R417). A write to MEM_DMA_Q queues a descriptor or reports QFULL. -/
  | dmaSubmit (q : Req) (e : Fin 16) (v : Word)
  /-- DMA_DESC_START (R419). An engine starts its next descriptor and checks the whole transfer. -/
  | dmaDescStart (e : Fin 16)
  /-- DMA_BURST_DONE (R420). A burst of at most 256 bytes is committed or fails. -/
  | dmaBurstDone (e : Fin 16)
  /-- DMA_ABORT (R423). MEM_DMA_CTL.ABORT stops the running descriptor at its next burst boundary. -/
  | dmaAbort (q : Req) (e : Fin 16)
  /-- DMA_STREAM_RX (R421). A word arrives at a FROM_STREAM port's FIFO. -/
  | dmaStreamRx (p : Fin 64)
  /-- NVM_CMD_GO (R428). NVM_CMD.GO writes NVM_BUF to a health-log line, or is refused. -/
  | nvmCmdGo (q : Req) (line : BitVec 19)
  /-- NVM_LINE_DURABLE (R426). An NVM line write completes verified, or fails after three attempts. -/
  | nvmLineDurable (h : Fin 2) (ok : Bool)
  /-- NVM_HALF_FAIL (R429). An NVM half is declared failed, raising MACHINE_CHECK NVM_HALF. -/
  | nvmHalfFail (h : Fin 2)
  /-- INST_START (R433). INST_CTL CMD START starts a stopped allocated context at INST_PC. -/
  | instStart (q : Req) (i : Fin 256)
  /-- INST_HOLD (R433). INST_CTL CMD HOLD holds a running context at its next boundary. -/
  | instHold (q : Req) (i : Fin 256)
  /-- INST_RESUME (R433). INST_CTL CMD RESUME resumes a held context. -/
  | instResume (q : Req) (i : Fin 256)
  /-- INST_RESET (R449). INST_CTL CMD RESET increments GEN, sets RESET_BUSY and stops the context. -/
  | instReset (q : Req) (i : Fin 256)
  /-- FUNCTION_LEVEL_RESET (R449). A function-level reset of a virtual function resets its instance and disables its queue pair. -/
  | functionLevelReset (fn : Fin 257)
  /-- RESET_DRAINED (R450). Every engine reports drained, and RESET_BUSY clears. -/
  | resetDrained (i : Fin 256)
  /-- IRQ_SOURCE_CHANGE (R456). A source is asserted, deasserted or occurs, and changes state under Table 13.2. -/
  | irqSourceChange (n : Fin 4096)
  /-- IRQ_CLAIM_WRITE (R461). A write to IRQ_CLAIM attempts to claim a source. -/
  | irqClaimWrite (q : Req) (v : Word)
  /-- IRQ_CLAIM_READ (R461). A read of IRQ_CLAIM returns the requester's last claim result. -/
  | irqClaimRead (q : Req)
  /-- IRQ_DONE (R463). A write to IRQ_DONE ends a claim. -/
  | irqDone (q : Req) (v : Word)
  /-- IRQ_SWSET (R465). A write to IRQ_SWSET makes a doorbell occurrence. -/
  | irqSwset (q : Req) (v : Word)
  /-- PIN_OUT_WRITE (R472). A masked write to PIN_OUT stores levels on the pins it may take. -/
  | pinOutWrite (q : Req) (g : Fin 16) (v : Word)
  /-- PIN_OE_WRITE (R472). A masked write to PIN_OE sets output enables. -/
  | pinOeWrite (q : Req) (g : Fin 16) (v : Word)
  /-- PIN_CFG_WRITE (R471). A write to PIN_CFG, with owner and LOCKED handling. -/
  | pinCfgWrite (q : Req) (n : Fin 256) (v : Word)
  /-- PIN_FAB_WRITE (R471). A write to PIN_FAB, rejected on a locked pin. -/
  | pinFabWrite (q : Req) (n : Fin 256) (v : Word)
  /-- GPIO_GROUP_WORD (R474). A word arrives at a GPIO group port and is applied or waits for its stamp. -/
  | gpioGroupWord (k : Fin 32)
  /-- PIN_INPUT_CHANGE (R475). A filtered pin level changes, and STREAM inputs offer a word. -/
  | pinInputChange (l : List (Fin 256 × Bool))
  /-- PM_WRITE (R477). A write to a matcher register takes effect without causing an event. -/
  | pmWrite (q : Req) (m : Fin 32) (r : Fin 3) (v : Word)
  /-- WAKE_PIN (R480). A wake pin in STANDBY is at WPOL for two always-on edges and raises a wake. -/
  | wakePin (n : Fin 256)
  /-- ANG (R506). A member receives the headwater's angle message and tracks the predicted angle. -/
  | ang (rx : Rx) (m : AngMsg)
  /-- ANG_SEND (R487). The headwater sends ANG at position 0 of every fourth frame. -/
  | angSend
  /-- HB (R513). The headwater receives a heartbeat and records generation and journal sequence. -/
  | hb (rx : Rx) (dev : Fin 512) (st : Fin 8) (gen : Word) (jseq : BitVec 64) (role : Fin 3)
  /-- HB_SEND (R513). Every 50 µs each device sends HB with its twin role. -/
  | hbSend
  /-- MEMB (R513). A membership change message is received. -/
  | memb (rx : Rx) (dev : Fin 512) (st : Fin 8) (mapgen : BitVec 16) (paths : List PathRec)
  /-- WRAP (R504). A device receives WRAP and re-paths around a ring break. -/
  | wrap (rx : Rx) (dev : Fin 512) (port : Fin 4) (on : Bool) (paths : List PathRec)
  /-- GNOT (R451). A generation notice discards queued remote operations of an old generation. -/
  | gnot (rx : Rx) (dev : Fin 512) (inst : Fin 256) (gen : Byte)
  /-- STRM_FLIT (R486). A STRM flit of remote-route words is received and checked. -/
  | strmFlit (rx : Rx) (r : Fin 64) (dev : Fin 512) (slot : Fin 64) (ws : List Word)
  /-- PASS_THROUGH (R501). A flit not for this device is forwarded by the path rule. -/
  | passThrough (inp : Fin 4) (out : Fin 4) (cls : Fin 3) (dst : Fin 512) (ok : Bool) (fits : Bool) (body : List Nat)
  /-- MRD (R408). A remote read request is served at the target. -/
  | mrd (rx : Rx) (hd : PktHead) (addr : BitVec 48) (len : Nat)
  /-- MWR (R408). A remote write request is served at the target. -/
  | mwr (rx : Rx) (hd : PktHead) (addr : BitVec 48) (d : List Byte)
  /-- MAMO (R408). A remote atomic request is served at the target. -/
  | mamo (rx : Rx) (hd : PktHead) (op : Fin 3) (addr : BitVec 48) (a : Word) (b : Word)
  /-- MRSP (R492). A memory response returns to its origin. -/
  | mrsp (rx : Rx) (hd : PktHead) (sub : Byte) (d : List Byte)
  /-- UOP (R444). A remote unit operation arrives and is delivered to permitted leaves. -/
  | uop (rx : Rx) (hd : PktHead) (r : UnitReq) (leaves : List Word) (st : Option (Stamp × BitVec 2))
  /-- URSP (R466). A URD reply, acknowledgement or asynchronous fault arrives. -/
  | ursp (rx : Rx) (hd : PktHead) (m : UrspMsg)
  /-- BENMOS_PACKET (R573). A forwarded host command or completion packet arrives. -/
  | benmosPacket (rx : Rx) (hd : PktHead) (m : BenmosMsg)
  /-- BOOT_PACKET (R600). A boot-image packet arrives and is digested, checked and stored. -/
  | bootPacket (rx : Rx) (d : List Byte)
  /-- TWIN_PACKET (R535). A mirrored traffic packet arrives at the standby. -/
  | twinPacket (rx : Rx) (m : TwinMsg)
  /-- XFER_PACKET (R519). A journal replay or state transfer block arrives for a catch-up. -/
  | xferPacket (rx : Rx) (m : XferMsg)
  /-- PACKET_RETRY (R492). A request with no reply after 20 µs is sent again. -/
  | packetRetry (dst : Fin 512) (seq : BitVec 16)
  /-- PACKET_TIMEOUT (R492). A request with no reply 100 µs after its first send completes with LINK_LOST. -/
  | packetTimeout (dst : Fin 512) (seq : BitVec 16)
  /-- LEAT_TRAIN_ATTEMPT (R493). An enabled DOWN port starts training, at once and every 1 ms. -/
  | leatTrainAttempt (p : Fin 4)
  /-- TRAIN_STEP_TIMEOUT (R493). A training step exceeds its limit, and the port returns to DOWN. -/
  | trainStepTimeout (p : Fin 4)
  /-- LEAT_PORT_UP (R493). Training ends and the port carries traffic. -/
  | leatPortUp (p : Fin 4) (i : PortUp)
  /-- LEAT_PORT_DOWN (R495). A port goes DOWN and raises its state-change source. -/
  | leatPortDown (p : Fin 4)
  /-- LANE_LOCK_LOSS (R495). A lane without block lock for 1 µs takes the port DOWN. -/
  | laneLockLoss (p : Fin 4)
  /-- LP_RETRAIN (R495). LP_CFG.RETRAIN takes the port DOWN and retrains it. -/
  | lpRetrain (q : Req) (p : Fin 4) (v : Word)
  /-- LEAT_CFG_WRITE (R495). A write to LEAT_CFG; clearing a PEN bit takes the port DOWN, and setting one queues its wake item. -/
  | leatCfgWrite (q : Req) (v : Word)
  /-- TS_EXCHANGE (R495). An UP port exchanges TS every 1 ms, and a changed partner UID puts it DOWN. -/
  | tsExchange (p : Fin 4) (uid : BitVec 64)
  /-- DIST_TIMEOUT (R508). No ANG for 1 µs: the member switches copy or coasts with DIST_LOST. -/
  | distTimeout
  /-- DIST_HOLD_EXPIRE (R508). Distribution is absent for DIST_HOLD µs, and the member fences with cause 0x04. -/
  | distHoldExpire
  /-- MEMBER_HB_TIMEOUT (R513). No HB for 150 µs: the headwater declares the member GONE. -/
  | memberHbTimeout (dev : Fin 512)
  /-- ADMIT (R520). LEAT_ADMIT OP ADMIT queues a device to be listed for JOIN. -/
  | leatAdmit (q : Req) (dev : Fin 512)
  /-- GRACEFUL_LEAVE (R523). LEAT_ADMIT OP LEAVE queues a member to leave at an epoch. -/
  | gracefulLeave (q : Req) (dev : Fin 512)
  /-- LEAVE_DRAIN_END (R523). 100 µs after E a LEAVING device becomes JOINED. -/
  | leaveDrainEnd
  /-- CATCHUP_LOCAL (R519). LEAT_STALE GO with LOCAL applies the device's own shadows. -/
  | catchupLocal (q : Req) (host : Bool)
  /-- CATCHUP_REPLAY (R519). LEAT_STALE GO with REPLAY receives and executes journal entries. -/
  | catchupReplay (q : Req) (host : Bool)
  /-- CATCHUP_TRANSFER (R519). LEAT_STALE GO with TRANSFER receives the complete state. -/
  | catchupTransfer (q : Req) (host : Bool)
  /-- CATCHUP_BLANK (R519). LEAT_STALE GO with BLANK takes the headwater's generation. -/
  | catchupBlank (q : Req) (host : Bool)
  /-- CATCHUP_END (R520). The catch-up reaches the reference and the device becomes READY, or it fails. -/
  | catchupEnd (failed : Bool)
  /-- RETIRE (R525). LEAT_TRET OP RETIRE queues a tile's retirement for the next epoch. -/
  | retire (q : Req) (t : Fin 16)
  /-- FORCE (R525). LEAT_TRET OP FORCE retires a tile at once. -/
  | force (q : Req) (t : Fin 16)
  /-- RETURN (R525). LEAT_TRET OP RETURN queues a tile's return for the next epoch. -/
  | return (q : Req) (t : Fin 16)
  /-- ATTACH (R548). TWIN_CMD ATTACH pairs the primary with a partner. -/
  | attach (q : Req)
  /-- DETACH (R549). TWIN_CMD DETACH ends mirroring at the next epoch. -/
  | detach (q : Req)
  /-- SWAP (R547). TWIN_CMD SWAP exchanges roles at the next full-scope idle-window opening. -/
  | swap (q : Req)
  /-- TWIN_PEER_CHANGE (R531). The TWIN_PEER input changes, resolving primaries or starting a takeover. -/
  | twinPeerChange (level : Bool)
  /-- TWIN_HB_SEND (R543). The primary sends a twin heartbeat every 2 µs. -/
  | twinHbSend
  /-- TWIN_HB_LOST (R544). No twin heartbeat for HB_MISS × 2 µs, and the standby decides by Table 15.2. -/
  | twinHbLost
  /-- TWIN_FAULT (R544). The standby receives FAULT from the primary. -/
  | twinFault (cause : Byte)
  /-- TWIN_FAULT_WAIT_EXPIRE (R544). TWIN_PEER is still high 10 µs after FAULT, and the standby becomes STALE. -/
  | twinFaultWaitExpire
  /-- TWIN_SENDER_SILENT (R533). The primary's own heartbeat sender is silent for 10 µs, and it drops TWIN_SEL. -/
  | twinSenderSilent
  /-- DIGEST_WINDOW_END (R541). At a digest window end the digest is sent and the window before is compared. -/
  | digestWindowEnd (start : Stamp)
  /-- TWIN_DIGEST (R541). The partner's digest of a window arrives. -/
  | twinDigest (start : Stamp) (sum : Word) (count : Nat)
  /-- MIRROR_REPLY_TIMEOUT (R536). A standby request finds no mirrored reply within 100 µs, and MIRROR ends. -/
  | mirrorReplyTimeout
  /-- MIRROR_JOURNAL_TIMEOUT (R537). The standby's durable report misses 100 µs, and the primary becomes SOLO. -/
  | mirrorJournalTimeout
  /-- QP_ENABLE (R557). Setting QP_CFG.EN starts both queues at index 0. -/
  | qpEnable (p : Fin 257) (v : Word)
  /-- QP_DISABLE (R557). Clearing QP_CFG.EN disables the queue pair at once. -/
  | qpDisable (p : Fin 257)
  /-- SQ_DOORBELL (R559). A write to QP_SQ_TAIL rings the submission doorbell. -/
  | sqDoorbell (p : Fin 257) (v : Word)
  /-- CQ_DOORBELL (R553). A write to QP_CQ_HEAD frees completion entries. -/
  | cqDoorbell (p : Fin 257) (v : Word)
  /-- COMMAND_FETCH (R560). The engine reads a command in round robin and checks it. -/
  | commandFetch (body : Option (BitVec 512)) (payload : Option (List Byte))
  /-- COMMAND_EXECUTE (R566). An accepted command executes in journal-sequence order. -/
  | commandExecute (far : FarUnits)
  /-- REG_WRITE (R568). Benmos REG_WRITE writes one register as the requester. -/
  | regWrite
  /-- REG_WRITE_N (R568). Benmos REG_WRITE_N applies address-value pairs in order. -/
  | regWriteN
  /-- BIND (R33). Benmos BIND checks and writes a compound descriptor. -/
  | bind (far : FarUnits)
  /-- EPOCH_REQ (R568). Benmos EPOCH_REQ requests an epoch and completes at its end. -/
  | epochReq
  /-- APPLY_NOW (R96). Benmos APPLY_NOW applies the shadows at once. -/
  | applyNow
  /-- POST (R569). Benmos POST writes the command into the target's mailbox slot. -/
  | post
  /-- MAILBOX_DONE (R570). A store to a POSTED slot's STATE completes the command. -/
  | mailboxDone (t : Fin 257) (k : Fin 8)
  /-- INST (R433). Benmos INST applies an INST_CTL command to an instance. -/
  | inst
  /-- TWIN (R547). Benmos TWIN applies a TWIN_CMD operation. -/
  | twin
  /-- CATCHUP (R519). Benmos CATCHUP writes LEAT_STALE with GO. -/
  | catchup
  /-- TILE (R525). Benmos TILE applies a LEAT_TRET operation. -/
  | tile
  /-- FENCE (R97). Benmos FENCE fences the device with cause 0x05. -/
  | fence
  /-- REG_READ (R563). Benmos REG_READ writes register values to the payload. -/
  | regRead
  /-- STATUS (R563). Benmos STATUS writes the 64-byte status block. -/
  | status
  /-- JNL_READ (R580). Benmos JNL_READ returns journal entries. -/
  | jnlRead
  /-- REPLAY (R519). Benmos REPLAY executes one journal entry for a catch-up. -/
  | replay (payload : Option (List Byte))
  /-- STATE (R519). Benmos STATE delivers one transfer block. -/
  | state
  /-- JNL_BUCKET_REFILL (R579). The journal rate bucket refills, allowing journalled commands to be read. -/
  | jnlBucketRefill
  /-- SMBUS_REG_READ (R583). SMBus command 0x10 reads a register. -/
  | smbusRegRead (addr : Word)
  /-- SMBUS_REG_WRITE (R583). SMBus command 0x11 writes a register. -/
  | smbusRegWrite (addr : Word) (val : Word)
  /-- MGT_GO (R584). HOST_MGT.GO passes the management message to the supervisor. -/
  | mgtGo (q : Req)
  /-- MGT_DONE (R584). HOST_MGT.DONE clears BUSY. -/
  | mgtDone (q : Req)
  /-- UART_TX_WRITE (R585). A write of HOST_UART_DATA queues a character for transmission. -/
  | uartTxWrite (q : Req) (ch : Byte)
  /-- UART_RX_READ (R585). A read of HOST_UART_DATA removes the oldest received character. -/
  | uartRxRead (q : Req)
  /-- UART_RX_CHAR (R585). A character arrives on UART_RX. -/
  | uartRxChar (ch : Byte)
  /-- POWER_ON_RELEASE (R641). The power-on reset is released and start-up begins. -/
  | powerOnRelease (st : Straps)
  /-- RESET_N_ASSERT (R587). RESET_N low for at least 1 µs resets the device. -/
  | resetNAssert (st : Straps)
  /-- BOOT_RST (R587). BOOT_CTL.RST = 0xD5 resets the device. -/
  | bootRst (q : Req)
  /-- PERST (R587). PERST# resets the PCI Express endpoint and disables the queue pairs. -/
  | perst
  /-- JGO (R590). BOOT_CTL.JGO starts the JTAG-loaded supervisor core. -/
  | jgo (q : Req)
  /-- FLASH_READ_DONE (R599). The headwater finishes reading an image header and table. -/
  | flashReadDone (d : Option (List Byte))
  /-- BOOT_START (R599). A member receives START and answers. -/
  | bootStart (rx : Rx) (oxbow : Bool) (late : Bool)
  /-- BOOT_ENUM_TIMEOUT (R599). ENUM_MS passes, and the headwater streams to those that answered. -/
  | bootEnumTimeout (answered : List (Fin 512))
  /-- BOOT_SECTION_REPORT (R600). The headwater receives a device's report after a SYNC section. -/
  | bootSectionReport (rx : Rx) (dev : Fin 512) (cause : BitVec 4)
  /-- BOOT_SYNC_TIMEOUT (R600). SYNC_MS passes and the silent devices are excluded. -/
  | bootSyncTimeout
  /-- BOOT_VERIFY_REPORT (R601). The headwater receives a VERIFIED or cause report. -/
  | bootVerifyReport (rx : Rx) (dev : Fin 512) (cause : BitVec 4)
  /-- BOOT_GO (R601). A device in the GO mask starts its supervisor core. -/
  | bootGo (rx : Rx) (mask : List (Fin 512))
  /-- BOOT_ABORT (R601). ABORT moves the chain to Oxbow or to FAILED. -/
  | bootAbort (rx : Rx)
  /-- BOOT_LINK_TIMEOUT (R601). A member without a BOOT packet for SYNC_MS ends with LINK. -/
  | bootLinkTimeout
  /-- LATE_LOAD (R603). After GO the headwater unicasts the image to a joined device in WAIT. -/
  | lateLoad (waiting : List (Fin 512))
  /-- DDR_TRAIN_DONE (R595). DDR channel training ends, passing or failing the load. -/
  | ddrTrainDone (c : Fin 2) (ok : Bool)
  /-- SLUICE_GO (R607). BOOT_SLUICE_CTL.GO, or AUTO, starts Sluice. -/
  | sluiceGo (q : Req)
  /-- SLUICE_STEP (R607). After its delay the next Sluice step (LOCK, SRREL or WREN) is performed. -/
  | sluiceStep
  /-- OUTREL (R609). Outputs are released once PROGRDY, membership and RUN all hold. -/
  | outrel
  /-- PROGRDY (R609). The supervisor sets BOOT_SLUICE_CTL.PROGRDY. -/
  | progrdy (q : Req)
  /-- SLUICE_LOCK_TIMEOUT (R608). LOCK is not complete after LTMO ms, and FAIL is set. -/
  | sluiceLockTimeout
  /-- SET_HASH (R611). BOOT_KEYCMD SET_HASH writes KEYHASH. -/
  | setHash (q : Req)
  /-- SET_INDEX (R611). BOOT_KEYCMD SET_INDEX writes INDEX. -/
  | setIndex (q : Req) (arg : BitVec 10)
  /-- SET_OXBOW (R611). BOOT_KEYCMD SET_OXBOW writes the Oxbow offset. -/
  | setOxbow (q : Req)
  /-- LOCK_KEY (R611). BOOT_KEYCMD LOCK_KEY sets KLOCK for good. -/
  | lockKey (q : Req)
  /-- LOCK_DEBUG (R611). BOOT_KEYCMD LOCK_DEBUG sets DLOCK for good. -/
  | lockDebug (q : Req)
  /-- SESSION (R611). BOOT_KEYCMD SESSION sets the debug lock until reset. -/
  | session (q : Req)
  /-- CI_SCAN_FRAME (R615). The integrity scan reads a frame and checks its CRC. -/
  | ciScanFrame (id : Word) (diff : BitVec 1024) (overlap : Bool) (refBad : Bool)
  /-- JTAG_EXTEST (R687, R688). An instruction of the test access port becomes active and its data register is scanned; as
  the row stands, EXTEST with nothing scanned. EXTEST and HIGHZ fence with cause 0x14. -/
  | jtagExtest (ir : TapIr := .extest) (scan : List (Fin 791 × Bool) := [])
  /-- CAL_POWERUP_START (R620). The power-up calibration run begins on a die. -/
  | calPowerupStart (d : Fin 2)
  /-- CAL_POWERUP_END (R620). The power-up run ends and PUDONE sets. -/
  | calPowerupEnd (res : List CalMeas)
  /-- RECAL (R626). CAL_CMD RECAL measures the selected classes. -/
  | recal (q : Req) (cls : BitVec 7)
  /-- RECAL_END (R626). RECAL ends with NFAIL. -/
  | recalEnd (res : List CalMeas)
  /-- SAVE (R630). CAL_CMD SAVE writes the values in force as a new set. -/
  | save (q : Req)
  /-- EXPORT (R632). CAL_CMD EXPORT copies the stored set to memory. -/
  | calExport (q : Req)
  /-- EXPORT_END (R632). The export copy completes. -/
  | exportEnd
  /-- IMPORT (R632). CAL_CMD IMPORT reads a set from memory. -/
  | calImport (q : Req)
  /-- IMPORT_READ_END (R632). The imported set has been read and is checked and saved. -/
  | importReadEnd
  /-- AMP (R627). CAL_CMD AMP measures a sin/cos amplitude over a machine cycle. -/
  | amp (q : Req) (src : Fin 4)
  /-- AMP_END (R627). The amplitude measurement ends, passing or refused. -/
  | ampEnd
  /-- PWR_TILE_IDLE (R644). PWR_TILE_CMD IDLE gates a quiet tile's clocks. -/
  | pwrTileIdle (q : Req) (t : Fin 16)
  /-- PWR_TILE_RUN (R643). PWR_TILE_CMD RUN queues a tile's wake item. -/
  | pwrTileRun (q : Req) (t : Fin 16)
  /-- PWR_TILE_STANDBY (R646). PWR_TILE_CMD STANDBY powers off a retired tile. -/
  | pwrTileStandby (q : Req) (t : Fin 16)
  /-- WAKE_ITEM_START (R650). The scheduler starts the first waiting wake item within the slew budget. -/
  | wakeItemStart
  /-- WAKE_ITEM_END (R650). A wake item's ramp ends and its block is powered. -/
  | wakeItemEnd (rank : Fin 7) (k : Fin 16)
  /-- ENTER_STANDBY (R647). PWR_SBY with KEY 0x5B takes the device to STANDBY. -/
  | enterStandby (q : Req) (v : Word)
  /-- STANDBY_TIMER_WAKE (R648). PWR_SBY.TIMER seconds pass and the device wakes. -/
  | standbyTimerWake
  /-- RAIL_FALL (R639). A rail below its falling threshold for 200 ns is no longer good. -/
  | railFall (k : Fin 11)
  /-- RAIL_GOOD (R639). A rail rises above its rising threshold. -/
  | railGood (k : Fin 11)
  /-- VIO_UNDERVOLTAGE (R642). A VIO bank falls below its threshold. -/
  | vioUndervoltage (t : Fin 16)
  /-- PFAIL_N_LOW (R653). PFAIL_N low for 20 ns begins a PFAIL. -/
  | pfailNLow
  /-- PFAIL_CLOCK_STOP (R655). Within 50 µs of a PFAIL the listed clock domains stop. -/
  | pfailClockStop
  /-- PFAIL_END (R657). Rails good and PFAIL_N high for 2 ms end the PFAIL. -/
  | pfailEnd
  /-- TEMP_READING (R658). Every 1 ms the sensors are read, and TWARN, THOT and TSHUT act. -/
  | tempReading (l : List (BitVec 16))
  /-- TSHUT_RESET (R661). 2 ms after a TSHUT PFAIL the device enters device reset. -/
  | tshutReset
  /-- TST_STEP_START (R666). A due in-service test step begins when its class is idle. -/
  | tstStepStart (cls : Fin 4) (i : BitVec 16)
  /-- TST_STEP_END (R668). A test step ends, passing or failing, and is logged. -/
  | tstStepEnd (pass : Bool) (expected : Word) (measured : Word) (limit : Word)
  /-- TST_OVERDUE (R666). A pass not complete PERIOD hours after it began sets OVERDUE. -/
  | tstOverdue
  /-- PWR_TMAX_READ (R658). A read of PWR_TMAX returns the highest reading and clears it. -/
  | pwrTmaxRead (q : Req)
  /-- CLOCK_DOMAIN_LOCKED (R37). A clock domain's PLL locks, or relocks after a loss, and its SYS_CLK_LOCK bit sets. -/
  | clockDomainLocked (d : Fin 29)
  /-- ALWAYS_ON_OSCILLATOR_FAIL (R653). The always-on oscillator fails and the device behaves as for a PFAIL. -/
  | alwaysOnOscillatorFail
  /-- PCIE_LINK_CHANGE (R551). The PCI Express link trains up or goes down, changing HOST_STATUS.LINKUP, SPEED and WIDTH. -/
  | pcieLinkChange (up : Bool) (speed : Fin 4) (width : Fin 3)
  /-- VIO_BANK_GOOD (R642). A VIO bank that was below its threshold is good again, so its UV bit clears and its pins work again. -/
  | vioBankGood (t : Fin 16)
  /-- PFAIL_N_RISE (R648). PFAIL_N goes high while a wake in STANDBY is held off, and the wake proceeds by driving PWR_EN high. -/
  | pfailNRise
  /-- UART_CHAR_SENT (R585). A character has been shifted out on UART_TX, freeing transmit FIFO room and clearing TXFULL. -/
  | uartCharSent
  /-- TWIN_HEARTBEAT_ARRIVAL (R543). A twin heartbeat from the primary arrives at the standby and restarts its loss timer. -/
  | twinHeartbeatArrival
  /-- MIRROR_DURABLE_REPORT (R537). The standby's report that a mirrored journal entry is durable reaches the primary, which then accepts the command. -/
  | mirrorDurableReport (seq : Nat)
  /-- IDENTITY_READ_DONE (R588). The read of the NVM identity region ends, SYS_UID becomes valid and BOOT_STATUS leaves IDENT. -/
  | identityReadDone
  /-- FLASH_SECTION_DATA (R600). Flash read data of the image sections arrives at the headwater, which digests it and broadcasts it as BOOT packets. -/
  | flashSectionData (d : Option (List Byte))
  /-- SIGNATURE_CHECK_DONE (R601). A device finishes the row-10 signature check after the last byte and reports VERIFIED or its cause. -/
  | signatureCheckDone
  deriving DecidableEq, Repr

end Sys2Proof
end

