-- ==== Sys2Proof/Decode.lean ====
section
/-! DEFINITION. The reading of table words. The block has no decoder of a processor's kind: no row of the spec's
table gives a command any bits (log entry 4), so that no word spells a command. The instruction words of an
Evnath core are decoded in Machine/Words.lean. -/

namespace Sys2Proof

/-- The command that a word of `nbits` bits spells by the table: none, since no row of the table has bits. -/
def decodeTableWord (_nbits _w : Nat) : Option Instr := none

end Sys2Proof
end

