-- ==== Sys2Proof/Config.lean ====
section
/-! DEFINITION. What an implementation fixes and the spec leaves open: constants without a body, so that no
proof can rest on a value of them. Each is named in the assumption log. -/

namespace Sys2Proof.Config

/-- A fresh free value: the machine applies it to its own counter of free values taken (log entry 2). -/
opaque freeValue : Nat → Nat

/-- Whether the tracking loop rounds the exact quotient of a numerator and a denominator up (R53, R67: the
spec gives the real-valued formula and no rounding; log entry 3). -/
opaque loopRoundUp : Int → Nat → Bool

/-- How much of a negative correction the interpolated angle takes back while it slows (R69): from the
outstanding correction and the advance of one step (log entry 3). -/
opaque slowShare : Nat → Nat → Nat

/-- The phase of a sine and cosine pair of two zeros, for which atan2 has none (Table 2.2; log entry 3). -/
opaque phaseOfZero : BitVec 16

/-- Fraction bits of a DC estimate beyond the 24 that R289 guarantees (log entry 14). -/
opaque dcExtraBits : Nat

/-- The fabric source that feeds a bit (0-31, 32 VALID) of a logic port (R380 gives no selection; log entry 26). -/
opaque portSource : Nat → Nat → Nat

/-- The level of a fabric signal that lies on a combinational loop (log entry 26). -/
opaque fabricLoop : Nat → Nat → Bool

/-- The block of a transfer that the payload of a Benmos STATE command spells (R519, Table 16.4: the spec gives no
layout of it; log entry 51). -/
opaque transferBlock : List Byte → XferMsg

end Sys2Proof.Config
end

