-- ==== Sys2Proof/Machine/Field.lean ====
section
/-! DEFINITION. Register fields, their access codes (R7, Table 0.4), the description of a register and the
generic reading and writing of one register's fields (R9, R16, R17). -/

namespace Sys2Proof.Machine

/-- The access codes of Table 0.4. -/
inductive Access where
  | rw | ro | wo | w1c | w1s | rc | rws
  deriving DecidableEq, Repr

/-- A field of a register: its bits, its access code and the inclusive ranges of its reserved encodings. -/
structure Field where
  hi : Nat
  lo : Nat
  acc : Access
  rsv : List (Nat × Nat)
  deriving DecidableEq, Repr

/-- What a register is besides its fields: part of a counter (R45), of a pair read together (R46), the time
or the angle, a register whose read moves data, or none of these. -/
inductive RegKind where
  | plain | counterLo | counterHi | pairLo | pairHi | data | timeLo | timeHi | timeHi2 | posLo | posHi
  deriving DecidableEq, Repr

/-- One row of the register table: first address, how often it is repeated at which stride (strides falling),
reset value, kind and fields. -/
structure RegDesc where
  base : Nat
  dims : List (Nat × Nat)
  reset : Word
  kind : RegKind
  fields : List Field
  deriving DecidableEq, Repr

/-- Number of bits of a field. -/
def fieldWidth (f : Field) : Nat := f.hi + 1 - f.lo

/-- The field's bits as a mask of its register. -/
def fieldMask (f : Field) : Word := BitVec.ofNat 32 (2 ^ (f.hi + 1) - 2 ^ f.lo)

/-- The value of a field in a register word. -/
def fieldGet (f : Field) (v : Word) : Nat := (v.toNat / 2 ^ f.lo) % 2 ^ fieldWidth f

/-- The register word with a field set (the value taken modulo the field's range). -/
def fieldPut (f : Field) (v : Word) (x : Nat) : Word :=
  (v &&& ~~~ fieldMask f) ||| BitVec.ofNat 32 ((x % 2 ^ fieldWidth f) * 2 ^ f.lo)

/-- The fields of the low register of a counter (R45). -/
def counterLoFields : List Field := [⟨31, 0, .rw, []⟩]
/-- The fields of the high register of a 48-bit counter (Table 1.9). -/
def counterHiFields : List Field := [⟨31, 31, .w1c, []⟩, ⟨15, 0, .rw, []⟩]

/-- Does an offset lie on a register repeated as the dims say? -/
def dimsMatch : Nat → List (Nat × Nat) → Bool
  | off, [] => off == 0
  | off, (c, s) :: r => decide (off / s < c) && dimsMatch (off % s) r

/-- Is the address one of the described register's? -/
def descMatches (a : Nat) (r : RegDesc) : Bool := decide (r.base ≤ a) && dimsMatch (a - r.base) r.dims

/-- The bits of a register that no field covers: reserved (R16). -/
def reservedBits (fs : List Field) : Word := ~~~ fs.foldl (fun m f => m ||| fieldMask f) 0

/-- The RWS bits of a register. -/
def rwsMask (fs : List Field) : Word := fs.foldl (fun m f => if f.acc = .rws then m ||| fieldMask f else m) 0

/-- Does any field of the register have the RWS code? -/
def hasRws (fs : List Field) : Bool := fs.any (fun f => f.acc == .rws)

/-- Can a program write the field at all? -/
def fieldWritable (f : Field) : Bool :=
  match f.acc with
  | .rw | .wo | .w1c | .w1s | .rws => true
  | .ro | .rc => false

/-- The written word places a reserved encoding into some field (R17). -/
def reservedEncoding (fs : List Field) (w : Word) : Bool :=
  fs.any fun f => fieldWritable f && f.rsv.any fun (a, b) => decide (a ≤ fieldGet f w ∧ fieldGet f w ≤ b)

/-- The active word after a write takes effect field by field (R7, R9): RW fields take the written bits, W1C
bits written 1 clear, W1S bits written 1 set; RO, RC, WO and RWS fields of the active word stay. -/
def writeActive (fs : List Field) (old w : Word) : Word :=
  fs.foldl (fun v f =>
    match f.acc with
    | .rw => fieldPut f v (fieldGet f w)
    | .w1c => v &&& ~~~ (w &&& fieldMask f)
    | .w1s => v ||| (w &&& fieldMask f)
    | .ro | .rc | .wo | .rws => v) old

/-- What a read returns of a register word: WO fields read 0 (R7). -/
def readMasked (fs : List Field) (v : Word) : Word :=
  fs.foldl (fun m f => if f.acc = .wo then m else m ||| (v &&& fieldMask f)) 0

/-- A field that lies in a word. -/
def Field.ok (f : Field) : Bool := decide (f.lo ≤ f.hi) && decide (f.hi < 32)

/-- Two fields without a common bit. -/
def Field.apart (f g : Field) : Bool := decide (f.hi < g.lo) || decide (g.hi < f.lo)

end Sys2Proof.Machine
end

