-- ==== Sys2Proof/Machine/RegsAnalogue.lean ====
section
/-! DEFINITION. The register tables of the spec: the cell, matrix, converter and filter registers.
Each register has its address as a function of its unit or entry number, one constant per field
(bits, access code, reserved encodings) and one row of the block table (R7, R13-R17). -/

namespace Sys2Proof.Machine

/-- `CEL_STATUS` (05_analogue_cells.md). -/
def CEL_STATUS (u : Nat) : Nat := 0xF1000000 + u / 32 * 0x100000 + u % 32 * 0x400
def CEL_STATUS_RSVD_WR : Field := ⟨31, 31, .w1c, []⟩
def CEL_STATUS_STAGE_WR : Field := ⟨30, 30, .w1c, []⟩
def CEL_STATUS_REL : Field := ⟨12, 12, .ro, []⟩
def CEL_STATUS_DROP : Field := ⟨11, 11, .w1c, []⟩
def CEL_STATUS_POISON : Field := ⟨10, 10, .w1c, []⟩
def CEL_STATUS_OC : Field := ⟨9, 9, .w1c, []⟩
def CEL_STATUS_STARVE : Field := ⟨8, 8, .w1c, []⟩
def CEL_STATUS_HTO : Field := ⟨7, 7, .w1c, []⟩
def CEL_STATUS_LATCH : Field := ⟨6, 6, .ro, []⟩
def CEL_STATUS_OUTST : Field := ⟨5, 4, .ro, []⟩
def CEL_STATUS_LCAUSE : Field := ⟨3, 0, .ro, []⟩

/-- `CEL_IN` (05_analogue_cells.md). -/
def CEL_IN (u : Nat) : Nat := 0xF1000004 + u / 32 * 0x100000 + u % 32 * 0x400
def CEL_IN_TAP : Field := ⟨13, 12, .rws, [(2, 3)]⟩
def CEL_IN_REF : Field := ⟨11, 10, .rws, [(2, 3)]⟩
def CEL_IN_AYMODE : Field := ⟨9, 9, .rws, []⟩
def CEL_IN_GAIN : Field := ⟨7, 4, .rws, [(10, 15)]⟩
def CEL_IN_SRC : Field := ⟨2, 0, .rws, [(6, 7)]⟩

/-- `CEL_FILT` (05_analogue_cells.md). -/
def CEL_FILT (u : Nat) : Nat := 0xF1000008 + u / 32 * 0x100000 + u % 32 * 0x400
def CEL_FILT_SHAPE : Field := ⟨15, 14, .rws, [(3, 3)]⟩
def CEL_FILT_FC_E : Field := ⟨11, 8, .rws, []⟩
def CEL_FILT_FC_M : Field := ⟨5, 0, .rws, []⟩

/-- `CEL_OUT` (05_analogue_cells.md). -/
def CEL_OUT (u : Nat) : Nat := 0xF100000C + u / 32 * 0x100000 + u % 32 * 0x400
def CEL_OUT_BIND : Field := ⟨23, 21, .rws, [(5, 7)]⟩
def CEL_OUT_PSIZE : Field := ⟨20, 19, .rws, [(3, 3)]⟩
def CEL_OUT_SAFE : Field := ⟨17, 16, .rws, []⟩
def CEL_OUT_MODE : Field := ⟨13, 12, .rws, [(3, 3)]⟩
def CEL_OUT_ECHO : Field := ⟨11, 10, .rws, [(3, 3)]⟩
def CEL_OUT_POISON_SAFE : Field := ⟨9, 9, .rws, []⟩
def CEL_OUT_OC_SAFE : Field := ⟨8, 8, .rws, []⟩
def CEL_OUT_EN : Field := ⟨0, 0, .rw, []⟩

/-- `CEL_SAFE_CODE` (05_analogue_cells.md). -/
def CEL_SAFE_CODE (u : Nat) : Nat := 0xF1000010 + u / 32 * 0x100000 + u % 32 * 0x400
def CEL_SAFE_CODE_CODE : Field := ⟨31, 18, .rws, []⟩

/-- `CEL_CONST` (05_analogue_cells.md). -/
def CEL_CONST (u : Nat) : Nat := 0xF1000014 + u / 32 * 0x100000 + u % 32 * 0x400
def CEL_CONST_CODE : Field := ⟨31, 18, .rw, []⟩

/-- `CEL_WAVE` (05_analogue_cells.md). -/
def CEL_WAVE (u : Nat) : Nat := 0xF1000018 + u / 32 * 0x100000 + u % 32 * 0x400
def CEL_WAVE_IDLE : Field := ⟨31, 18, .rws, []⟩
def CEL_WAVE_READY : Field := ⟨15, 15, .ro, []⟩
def CEL_WAVE_ACTIVE : Field := ⟨14, 14, .ro, []⟩
def CEL_WAVE_LEN : Field := ⟨12, 0, .ro, []⟩

/-- `CEL_HOLD` (05_analogue_cells.md). -/
def CEL_HOLD (u : Nat) : Nat := 0xF100001C + u / 32 * 0x100000 + u % 32 * 0x400
def CEL_HOLD_STARVE : Field := ⟨31, 16, .rws, []⟩
def CEL_HOLD_HOLD_MAX : Field := ⟨13, 0, .rws, [(0, 0), (10001, 16383)]⟩

/-- `CEL_PATH_DLY` (05_analogue_cells.md). -/
def CEL_PATH_DLY (u : Nat) : Nat := 0xF1000020 + u / 32 * 0x100000 + u % 32 * 0x400
def CEL_PATH_DLY_DLY : Field := ⟨23, 0, .ro, []⟩

/-- `CEL_OC` (05_analogue_cells.md). -/
def CEL_OC (u : Nat) : Nat := 0xF1000024 + u / 32 * 0x100000 + u % 32 * 0x400
def CEL_OC_OC_T : Field := ⟨15, 8, .rws, [(0, 0)]⟩
def CEL_OC_OC_TH : Field := ⟨7, 0, .rws, [(0, 0), (151, 255)]⟩

/-- `CEL_WAVE_ADDR` (05_analogue_cells.md). -/
def CEL_WAVE_ADDR (u : Nat) : Nat := 0xF1000028 + u / 32 * 0x100000 + u % 32 * 0x400
def CEL_WAVE_ADDR_BANK : Field := ⟨13, 13, .rw, []⟩
def CEL_WAVE_ADDR_INDEX : Field := ⟨11, 0, .rw, []⟩

/-- `CEL_WAVE_DATA` (05_analogue_cells.md). -/
def CEL_WAVE_DATA (u : Nat) : Nat := 0xF100002C + u / 32 * 0x100000 + u % 32 * 0x400
def CEL_WAVE_DATA_CODE : Field := ⟨31, 18, .ro, []⟩

/-- `CEL_DROP_LO` (05_analogue_cells.md). -/
def CEL_DROP_LO (u : Nat) : Nat := 0xF1000030 + u / 32 * 0x100000 + u % 32 * 0x400

/-- `CEL_DROP_HI` (05_analogue_cells.md). -/
def CEL_DROP_HI (u : Nat) : Nat := 0xF1000034 + u / 32 * 0x100000 + u % 32 * 0x400

/-- `CEL_POIS_LO` (05_analogue_cells.md). -/
def CEL_POIS_LO (u : Nat) : Nat := 0xF1000038 + u / 32 * 0x100000 + u % 32 * 0x400

/-- `CEL_POIS_HI` (05_analogue_cells.md). -/
def CEL_POIS_HI (u : Nat) : Nat := 0xF100003C + u / 32 * 0x100000 + u % 32 * 0x400

/-- `CEL_LATE_LO` (05_analogue_cells.md). -/
def CEL_LATE_LO (u : Nat) : Nat := 0xF1000040 + u / 32 * 0x100000 + u % 32 * 0x400

/-- `CEL_LATE_HI` (05_analogue_cells.md). -/
def CEL_LATE_HI (u : Nat) : Nat := 0xF1000044 + u / 32 * 0x100000 + u % 32 * 0x400

/-- `CEL_MX_STATUS` (05_analogue_cells.md). -/
def CEL_MX_STATUS (u : Nat) : Nat := 0xF1008000 + u * 0x100000
def CEL_MX_STATUS_RSVD_WR : Field := ⟨31, 31, .w1c, []⟩
def CEL_MX_STATUS_STAGE_WR : Field := ⟨30, 30, .w1c, []⟩

/-- `CEL_MX_SEL` (05_analogue_cells.md). -/
def CEL_MX_SEL (u : Nat) (o : Nat) : Nat := 0xF1008100 + u * 0x100000 + o * 0x4
def CEL_MX_SEL_IN : Field := ⟨5, 0, .rws, [(48, 62)]⟩

/-- `CEL_MX_TRUNK` (05_analogue_cells.md). -/
def CEL_MX_TRUNK (u : Nat) : Nat := 0xF1008200 + u * 0x100000
def CEL_MX_TRUNK_MODE_0 : Field := ⟨1, 0, .rws, [(3, 3)]⟩
def CEL_MX_TRUNK_MODE_1 : Field := ⟨3, 2, .rws, [(3, 3)]⟩
def CEL_MX_TRUNK_MODE_2 : Field := ⟨5, 4, .rws, [(3, 3)]⟩
def CEL_MX_TRUNK_MODE_3 : Field := ⟨7, 6, .rws, [(3, 3)]⟩
def CEL_MX_TRUNK_MODE_4 : Field := ⟨9, 8, .rws, [(3, 3)]⟩
def CEL_MX_TRUNK_MODE_5 : Field := ⟨11, 10, .rws, [(3, 3)]⟩
def CEL_MX_TRUNK_MODE_6 : Field := ⟨13, 12, .rws, [(3, 3)]⟩
def CEL_MX_TRUNK_MODE_7 : Field := ⟨15, 14, .rws, [(3, 3)]⟩
def CEL_MX_TRUNK_MODE_8 : Field := ⟨17, 16, .rws, [(3, 3)]⟩
def CEL_MX_TRUNK_MODE_9 : Field := ⟨19, 18, .rws, [(3, 3)]⟩
def CEL_MX_TRUNK_MODE_10 : Field := ⟨21, 20, .rws, [(3, 3)]⟩
def CEL_MX_TRUNK_MODE_11 : Field := ⟨23, 22, .rws, [(3, 3)]⟩
def CEL_MX_TRUNK_MODE_12 : Field := ⟨25, 24, .rws, [(3, 3)]⟩
def CEL_MX_TRUNK_MODE_13 : Field := ⟨27, 26, .rws, [(3, 3)]⟩
def CEL_MX_TRUNK_MODE_14 : Field := ⟨29, 28, .rws, [(3, 3)]⟩
def CEL_MX_TRUNK_MODE_15 : Field := ⟨31, 30, .rws, [(3, 3)]⟩

/-- `CVG_STATUS` (06_converters.md). -/
def CVG_STATUS (u : Nat) : Nat := 0xF1010000 + u / 4 * 0x100000 + u % 4 * 0x1000
def CVG_STATUS_RSVD_WR : Field := ⟨31, 31, .w1c, []⟩
def CVG_STATUS_STAGE_WR : Field := ⟨30, 30, .w1c, []⟩
def CVG_STATUS_NEXT : Field := ⟨15, 12, .ro, []⟩
def CVG_STATUS_BADOP : Field := ⟨11, 11, .w1c, []⟩
def CVG_STATUS_POISON : Field := ⟨10, 10, .w1c, []⟩
def CVG_STATUS_LATE : Field := ⟨9, 9, .w1c, []⟩
def CVG_STATUS_URG_OVR : Field := ⟨8, 8, .w1c, []⟩
def CVG_STATUS_REFNS : Field := ⟨7, 7, .w1c, []⟩
def CVG_STATUS_EDDY_STALE : Field := ⟨4, 4, .ro, []⟩
def CVG_STATUS_URG_ACT : Field := ⟨3, 3, .ro, []⟩
def CVG_STATUS_STATE : Field := ⟨1, 0, .ro, []⟩

/-- `CVG_CTL` (06_converters.md). -/
def CVG_CTL (u : Nat) : Nat := 0xF1010004 + u / 4 * 0x100000 + u % 4 * 0x1000
def CVG_CTL_TRIG : Field := ⟨7, 4, .wo, []⟩
def CVG_CTL_CMD : Field := ⟨2, 0, .wo, [(6, 7)]⟩

/-- `CVG_CFG` (06_converters.md). -/
def CVG_CFG (u : Nat) : Nat := 0xF1010008 + u / 4 * 0x100000 + u % 4 * 0x1000
def CVG_CFG_SLICE_DIS : Field := ⟨28, 24, .rws, [(31, 31)]⟩
def CVG_CFG_SEQ_LAST : Field := ⟨19, 16, .rws, []⟩
def CVG_CFG_REFSEL : Field := ⟨12, 12, .rws, []⟩
def CVG_CFG_STAMP : Field := ⟨9, 8, .rws, [(3, 3)]⟩
def CVG_CFG_OUT_EN : Field := ⟨0, 0, .rws, []⟩

/-- `CVG_TDAC` (06_converters.md). -/
def CVG_TDAC (u : Nat) : Nat := 0xF101000C + u / 4 * 0x100000 + u % 4 * 0x1000
def CVG_TDAC_CODE : Field := ⟨31, 20, .rw, []⟩
def CVG_TDAC_EN : Field := ⟨0, 0, .rw, []⟩

/-- `CVG_EDDY` (06_converters.md). -/
def CVG_EDDY (u : Nat) : Nat := 0xF1010010 + u / 4 * 0x100000 + u % 4 * 0x1000
def CVG_EDDY_AGE : Field := ⟨31, 16, .ro, []⟩
def CVG_EDDY_SUSPECT : Field := ⟨12, 8, .ro, []⟩
def CVG_EDDY_STATE : Field := ⟨5, 4, .ro, []⟩
def CVG_EDDY_SLICE : Field := ⟨2, 0, .ro, []⟩

/-- `CVG_EDDY_CFG` (06_converters.md). -/
def CVG_EDDY_CFG (u : Nat) : Nat := 0xF1010014 + u / 4 * 0x100000 + u % 4 * 0x1000
def CVG_EDDY_CFG_EN : Field := ⟨16, 16, .rws, []⟩
def CVG_EDDY_CFG_STALE_MS : Field := ⟨15, 0, .rws, []⟩

/-- `CVG_LAST` (06_converters.md). -/
def CVG_LAST (u : Nat) : Nat := 0xF1010018 + u / 4 * 0x100000 + u % 4 * 0x1000
def CVG_LAST_WORD : Field := ⟨31, 0, .ro, []⟩

/-- `CVG_SEQ_ENTRY` (06_converters.md). -/
def CVG_SEQ_ENTRY (u : Nat) (e : Nat) : Nat := 0xF1010040 + u / 4 * 0x100000 + u % 4 * 0x1000 + e * 0x8
def CVG_SEQ_ENTRY_DLYC : Field := ⟨26, 26, .rws, []⟩
def CVG_SEQ_ENTRY_OUT : Field := ⟨25, 25, .rws, []⟩
def CVG_SEQ_ENTRY_CIC_EN : Field := ⟨24, 24, .rws, []⟩
def CVG_SEQ_ENTRY_GAIN : Field := ⟨23, 22, .rws, []⟩
def CVG_SEQ_ENTRY_SMP : Field := ⟨16, 6, .rws, [(0, 1), (1025, 2047)]⟩
def CVG_SEQ_ENTRY_INSEL : Field := ⟨5, 0, .rws, [(35, 63)]⟩

/-- `CVG_SEQ_CIC` (06_converters.md). -/
def CVG_SEQ_CIC (u : Nat) (e : Nat) : Nat := 0xF1010044 + u / 4 * 0x100000 + u % 4 * 0x1000 + e * 0x8
def CVG_SEQ_CIC_SHIFT : Field := ⟨29, 24, .rws, [(61, 63)]⟩
def CVG_SEQ_CIC_ORDER : Field := ⟨22, 20, .rws, [(0, 0), (6, 6), (7, 7)]⟩
def CVG_SEQ_CIC_SUPP : Field := ⟨19, 19, .rws, []⟩
def CVG_SEQ_CIC_DEC : Field := ⟨12, 0, .rws, [(0, 0), (4097, 8191)]⟩

/-- `CVG_URG_ENTRY` (06_converters.md). -/
def CVG_URG_ENTRY (u : Nat) (v : Nat) : Nat := 0xF10100C0 + u / 4 * 0x100000 + u % 4 * 0x1000 + v * 0x10
def CVG_URG_ENTRY_EN : Field := ⟨31, 31, .rws, []⟩
def CVG_URG_ENTRY_DLYC : Field := ⟨26, 26, .rws, []⟩
def CVG_URG_ENTRY_OUT : Field := ⟨25, 25, .rws, []⟩
def CVG_URG_ENTRY_GAIN : Field := ⟨23, 22, .rws, []⟩
def CVG_URG_ENTRY_SMP : Field := ⟨16, 6, .rws, [(0, 1), (1025, 2047)]⟩
def CVG_URG_ENTRY_INSEL : Field := ⟨5, 0, .rws, [(35, 63)]⟩

/-- `CVG_URG_TRIG` (06_converters.md). -/
def CVG_URG_TRIG (u : Nat) (v : Nat) : Nat := 0xF10100C4 + u / 4 * 0x100000 + u % 4 * 0x1000 + v * 0x10
def CVG_URG_TRIG_CMP : Field := ⟨14, 13, .rws, [(3, 3)]⟩
def CVG_URG_TRIG_CELL : Field := ⟨12, 8, .rws, []⟩
def CVG_URG_TRIG_Q : Field := ⟨3, 2, .rws, [(3, 3)]⟩
def CVG_URG_TRIG_SRC : Field := ⟨1, 0, .rws, [(3, 3)]⟩

/-- `CVG_URG_ANG` (06_converters.md). -/
def CVG_URG_ANG (u : Nat) (v : Nat) : Nat := 0xF10100C8 + u / 4 * 0x100000 + u % 4 * 0x1000 + v * 0x10
def CVG_URG_ANG_FRAC : Field := ⟨31, 0, .rws, []⟩

/-- `CVG_ABORT_LO` (06_converters.md). -/
def CVG_ABORT_LO (u : Nat) : Nat := 0xF1010100 + u / 4 * 0x100000 + u % 4 * 0x1000

/-- `CVG_ABORT_HI` (06_converters.md). -/
def CVG_ABORT_HI (u : Nat) : Nat := 0xF1010104 + u / 4 * 0x100000 + u % 4 * 0x1000

/-- `CVG_URG_OVR_LO` (06_converters.md). -/
def CVG_URG_OVR_LO (u : Nat) : Nat := 0xF1010108 + u / 4 * 0x100000 + u % 4 * 0x1000

/-- `CVG_URG_OVR_HI` (06_converters.md). -/
def CVG_URG_OVR_HI (u : Nat) : Nat := 0xF101010C + u / 4 * 0x100000 + u % 4 * 0x1000

/-- `CVG_LATE_LO` (06_converters.md). -/
def CVG_LATE_LO (u : Nat) : Nat := 0xF1010110 + u / 4 * 0x100000 + u % 4 * 0x1000

/-- `CVG_LATE_HI` (06_converters.md). -/
def CVG_LATE_HI (u : Nat) : Nat := 0xF1010114 + u / 4 * 0x100000 + u % 4 * 0x1000

/-- `CVG_REFNS_LO` (06_converters.md). -/
def CVG_REFNS_LO (u : Nat) : Nat := 0xF1010118 + u / 4 * 0x100000 + u % 4 * 0x1000

/-- `CVG_REFNS_HI` (06_converters.md). -/
def CVG_REFNS_HI (u : Nat) : Nat := 0xF101011C + u / 4 * 0x100000 + u % 4 * 0x1000

/-- `CVG_SWAP_LO` (06_converters.md). -/
def CVG_SWAP_LO (u : Nat) : Nat := 0xF1010120 + u / 4 * 0x100000 + u % 4 * 0x1000

/-- `CVG_SWAP_HI` (06_converters.md). -/
def CVG_SWAP_HI (u : Nat) : Nat := 0xF1010124 + u / 4 * 0x100000 + u % 4 * 0x1000

/-- `CVG_POIS_LO` (06_converters.md). -/
def CVG_POIS_LO (u : Nat) : Nat := 0xF1010128 + u / 4 * 0x100000 + u % 4 * 0x1000

/-- `CVG_POIS_HI` (06_converters.md). -/
def CVG_POIS_HI (u : Nat) : Nat := 0xF101012C + u / 4 * 0x100000 + u % 4 * 0x1000

/-- `CVG_DISC_LO` (06_converters.md). -/
def CVG_DISC_LO (u : Nat) : Nat := 0xF1010130 + u / 4 * 0x100000 + u % 4 * 0x1000

/-- `CVG_DISC_HI` (06_converters.md). -/
def CVG_DISC_HI (u : Nat) : Nat := 0xF1010134 + u / 4 * 0x100000 + u % 4 * 0x1000

/-- `CVG_COM_STATUS` (06_converters.md). -/
def CVG_COM_STATUS (u : Nat) : Nat := 0xF1014000 + u * 0x100000
def CVG_COM_STATUS_RSVD_WR : Field := ⟨31, 31, .w1c, []⟩
def CVG_COM_STATUS_STAGE_WR : Field := ⟨30, 30, .w1c, []⟩

/-- `CVG_REF` (06_converters.md). -/
def CVG_REF (d : Nat) : Nat := 0xF1014004 + d * 0x800000
def CVG_REF_RDY_B : Field := ⟨3, 3, .ro, []⟩
def CVG_REF_RDY_A : Field := ⟨2, 2, .ro, []⟩
def CVG_REF_EN_B : Field := ⟨1, 1, .rw, []⟩
def CVG_REF_EN_A : Field := ⟨0, 0, .rw, []⟩

/-- `CVG_CLK` (06_converters.md). -/
def CVG_CLK (q : Nat) : Nat := 0xF1014008 + q * 0x400000
def CVG_CLK_CKDIV : Field := ⟨3, 0, .rws, []⟩

/-- `FLT_STATUS` (07_filter_chain.md). -/
def FLT_STATUS (u : Nat) : Nat := 0xF1020000 + u / 4 * 0x100000 + u % 4 * 0x1000
def FLT_STATUS_RSVD_WR : Field := ⟨31, 31, .w1c, []⟩
def FLT_STATUS_STAGE_WR : Field := ⟨30, 30, .w1c, []⟩
def FLT_STATUS_LATE : Field := ⟨10, 10, .w1c, []⟩
def FLT_STATUS_POISON : Field := ⟨9, 9, .w1c, []⟩
def FLT_STATUS_DROP : Field := ⟨8, 8, .w1c, []⟩
def FLT_STATUS_BANK : Field := ⟨0, 0, .ro, []⟩

/-- `FLT_CFG` (07_filter_chain.md). -/
def FLT_CFG (u : Nat) : Nat := 0xF1020008 + u / 4 * 0x100000 + u % 4 * 0x1000
def FLT_CFG_SWAP : Field := ⟨8, 8, .rws, []⟩

/-- `FLT_LOAD` (07_filter_chain.md). -/
def FLT_LOAD (u : Nat) : Nat := 0xF102000C + u / 4 * 0x100000 + u % 4 * 0x1000
def FLT_LOAD_PEAK : Field := ⟨31, 16, .rc, []⟩
def FLT_LOAD_LAST : Field := ⟨15, 0, .ro, []⟩

/-- `FLT_DCB` (07_filter_chain.md). -/
def FLT_DCB (u : Nat) : Nat := 0xF1020010 + u / 4 * 0x100000 + u % 4 * 0x1000
def FLT_DCB_FRZ_NOW : Field := ⟨15, 8, .rw, []⟩
def FLT_DCB_FREEZE : Field := ⟨7, 0, .rws, []⟩

/-- `FLT_COEF_ADDR` (07_filter_chain.md). -/
def FLT_COEF_ADDR (u : Nat) : Nat := 0xF1020014 + u / 4 * 0x100000 + u % 4 * 0x1000
def FLT_COEF_ADDR_BANK : Field := ⟨13, 13, .rw, []⟩
def FLT_COEF_ADDR_ADDR : Field := ⟨12, 0, .rw, []⟩

/-- `FLT_COEF_DATA` (07_filter_chain.md). -/
def FLT_COEF_DATA (u : Nat) : Nat := 0xF1020018 + u / 4 * 0x100000 + u % 4 * 0x1000
def FLT_COEF_DATA_COEF : Field := ⟨31, 14, .rw, []⟩

/-- `FLT_DROP_LO` (07_filter_chain.md). -/
def FLT_DROP_LO (u : Nat) : Nat := 0xF1020020 + u / 4 * 0x100000 + u % 4 * 0x1000

/-- `FLT_DROP_HI` (07_filter_chain.md). -/
def FLT_DROP_HI (u : Nat) : Nat := 0xF1020024 + u / 4 * 0x100000 + u % 4 * 0x1000

/-- `FLT_POIS_LO` (07_filter_chain.md). -/
def FLT_POIS_LO (u : Nat) : Nat := 0xF1020028 + u / 4 * 0x100000 + u % 4 * 0x1000

/-- `FLT_POIS_HI` (07_filter_chain.md). -/
def FLT_POIS_HI (u : Nat) : Nat := 0xF102002C + u / 4 * 0x100000 + u % 4 * 0x1000

/-- `FLT_LATE_LO` (07_filter_chain.md). -/
def FLT_LATE_LO (u : Nat) : Nat := 0xF1020030 + u / 4 * 0x100000 + u % 4 * 0x1000

/-- `FLT_LATE_HI` (07_filter_chain.md). -/
def FLT_LATE_HI (u : Nat) : Nat := 0xF1020034 + u / 4 * 0x100000 + u % 4 * 0x1000

/-- `FLT_CH_STATUS` (07_filter_chain.md). -/
def FLT_CH_STATUS (u : Nat) : Nat := 0xF1020100 + u / 32 * 0x100000 + u / 8 % 4 * 0x1000 + u % 8 * 0x40
def FLT_CH_STATUS_NOSTAMP : Field := ⟨9, 9, .w1c, []⟩
def FLT_CH_STATUS_GAP : Field := ⟨8, 8, .w1c, []⟩
def FLT_CH_STATUS_SAT : Field := ⟨7, 7, .w1c, []⟩
def FLT_CH_STATUS_HOLDING : Field := ⟨6, 6, .ro, []⟩
def FLT_CH_STATUS_FILL : Field := ⟨5, 5, .ro, []⟩
def FLT_CH_STATUS_FROZEN : Field := ⟨4, 4, .ro, []⟩
def FLT_CH_STATUS_STATE : Field := ⟨1, 0, .ro, []⟩

/-- `FLT_CH_CTL` (07_filter_chain.md). -/
def FLT_CH_CTL (u : Nat) : Nat := 0xF1020104 + u / 32 * 0x100000 + u / 8 % 4 * 0x1000 + u % 8 * 0x40
def FLT_CH_CTL_CMD : Field := ⟨2, 0, .wo, [(6, 7)]⟩

/-- `FLT_CH_CFG` (07_filter_chain.md). -/
def FLT_CH_CFG (u : Nat) : Nat := 0xF1020108 + u / 32 * 0x100000 + u / 8 % 4 * 0x1000 + u % 8 * 0x40
def FLT_CH_CFG_SUPP : Field := ⟨12, 12, .rws, []⟩
def FLT_CH_CFG_ROLE : Field := ⟨11, 10, .rws, []⟩
def FLT_CH_CFG_STIN : Field := ⟨8, 8, .rws, []⟩
def FLT_CH_CFG_SELV : Field := ⟨6, 2, .rws, []⟩
def FLT_CH_CFG_SEL : Field := ⟨1, 0, .rws, []⟩

/-- `FLT_CH_DLY` (07_filter_chain.md). -/
def FLT_CH_DLY (u : Nat) : Nat := 0xF102010C + u / 32 * 0x100000 + u / 8 % 4 * 0x1000 + u % 8 * 0x40
def FLT_CH_DLY_FRAC : Field := ⟨31, 16, .rws, []⟩
def FLT_CH_DLY_D_INT : Field := ⟨9, 0, .rws, []⟩

/-- `FLT_CH_DC` (07_filter_chain.md). -/
def FLT_CH_DC (u : Nat) : Nat := 0xF1020110 + u / 32 * 0x100000 + u / 8 % 4 * 0x1000 + u % 8 * 0x40
def FLT_CH_DC_GSEL : Field := ⟨28, 24, .rws, []⟩
def FLT_CH_DC_TAIL : Field := ⟨23, 16, .rws, []⟩
def FLT_CH_DC_GEN : Field := ⟨8, 8, .rws, []⟩
def FLT_CH_DC_EN : Field := ⟨5, 5, .rws, []⟩
def FLT_CH_DC_K : Field := ⟨4, 0, .rws, [(0, 0), (25, 31)]⟩

/-- `FLT_CH_FIR` (07_filter_chain.md). -/
def FLT_CH_FIR (u : Nat) : Nat := 0xF1020114 + u / 32 * 0x100000 + u / 8 % 4 * 0x1000 + u % 8 * 0x40
def FLT_CH_FIR_MODE : Field := ⟨31, 30, .rws, [(3, 3)]⟩
def FLT_CH_FIR_LEN : Field := ⟨24, 16, .rws, []⟩
def FLT_CH_FIR_BASE : Field := ⟨12, 0, .rws, []⟩

/-- `FLT_CH_FDLY` (07_filter_chain.md). -/
def FLT_CH_FDLY (u : Nat) : Nat := 0xF1020118 + u / 32 * 0x100000 + u / 8 % 4 * 0x1000 + u % 8 * 0x40
def FLT_CH_FDLY_FIR_DLY : Field := ⟨17, 0, .rws, []⟩

/-- `FLT_CH_RS` (07_filter_chain.md). -/
def FLT_CH_RS (u : Nat) : Nat := 0xF102011C + u / 32 * 0x100000 + u / 8 % 4 * 0x1000 + u % 8 * 0x40
def FLT_CH_RS_INTERP : Field := ⟨9, 9, .rws, []⟩
def FLT_CH_RS_EN : Field := ⟨8, 8, .rws, []⟩
def FLT_CH_RS_PBASE : Field := ⟨2, 0, .rws, []⟩

/-- `FLT_CH_RATIO` (07_filter_chain.md). -/
def FLT_CH_RATIO (u : Nat) : Nat := 0xF1020120 + u / 32 * 0x100000 + u / 8 % 4 * 0x1000 + u % 8 * 0x40
def FLT_CH_RATIO_RATIO : Field := ⟨31, 0, .rws, [(0, 1048575)]⟩

/-- `FLT_CH_SHIFT` (07_filter_chain.md). -/
def FLT_CH_SHIFT (u : Nat) : Nat := 0xF1020124 + u / 32 * 0x100000 + u / 8 % 4 * 0x1000 + u % 8 * 0x40
def FLT_CH_SHIFT_SH_RS : Field := ⟨28, 24, .rws, []⟩
def FLT_CH_SHIFT_SH_FIR : Field := ⟨20, 16, .rws, []⟩
def FLT_CH_SHIFT_SH_DC : Field := ⟨12, 8, .rws, []⟩
def FLT_CH_SHIFT_SH_IN : Field := ⟨4, 0, .rws, []⟩

/-- `FLT_CH_SAT_LO` (07_filter_chain.md). -/
def FLT_CH_SAT_LO (u : Nat) : Nat := 0xF1020128 + u / 32 * 0x100000 + u / 8 % 4 * 0x1000 + u % 8 * 0x40

/-- `FLT_CH_SAT_HI` (07_filter_chain.md). -/
def FLT_CH_SAT_HI (u : Nat) : Nat := 0xF102012C + u / 32 * 0x100000 + u / 8 % 4 * 0x1000 + u % 8 * 0x40

/-- `FLT_CH_HOLD_LO` (07_filter_chain.md). -/
def FLT_CH_HOLD_LO (u : Nat) : Nat := 0xF1020130 + u / 32 * 0x100000 + u / 8 % 4 * 0x1000 + u % 8 * 0x40

/-- `FLT_CH_HOLD_HI` (07_filter_chain.md). -/
def FLT_CH_HOLD_HI (u : Nat) : Nat := 0xF1020134 + u / 32 * 0x100000 + u / 8 % 4 * 0x1000 + u % 8 * 0x40

/-- `FLT_CH_NOST_LO` (07_filter_chain.md). -/
def FLT_CH_NOST_LO (u : Nat) : Nat := 0xF1020138 + u / 32 * 0x100000 + u / 8 % 4 * 0x1000 + u % 8 * 0x40

/-- `FLT_CH_NOST_HI` (07_filter_chain.md). -/
def FLT_CH_NOST_HI (u : Nat) : Nat := 0xF102013C + u / 32 * 0x100000 + u / 8 % 4 * 0x1000 + u % 8 * 0x40

def regTableCel0 : List RegDesc := [
  ⟨0xF1000000, [(16, 0x100000), (32, 0x400)], 0x0, .plain, [CEL_STATUS_RSVD_WR, CEL_STATUS_STAGE_WR, CEL_STATUS_REL, CEL_STATUS_DROP, CEL_STATUS_POISON, CEL_STATUS_OC, CEL_STATUS_STARVE, CEL_STATUS_HTO, CEL_STATUS_LATCH, CEL_STATUS_OUTST, CEL_STATUS_LCAUSE]⟩,
  ⟨0xF1000004, [(16, 0x100000), (32, 0x400)], 0x30, .plain, [CEL_IN_TAP, CEL_IN_REF, CEL_IN_AYMODE, CEL_IN_GAIN, CEL_IN_SRC]⟩,
  ⟨0xF1000008, [(16, 0x100000), (32, 0x400)], 0x0, .plain, [CEL_FILT_SHAPE, CEL_FILT_FC_E, CEL_FILT_FC_M]⟩,
  ⟨0xF100000C, [(16, 0x100000), (32, 0x400)], 0x0, .plain, [CEL_OUT_BIND, CEL_OUT_PSIZE, CEL_OUT_SAFE, CEL_OUT_MODE, CEL_OUT_ECHO, CEL_OUT_POISON_SAFE, CEL_OUT_OC_SAFE, CEL_OUT_EN]⟩,
  ⟨0xF1000010, [(16, 0x100000), (32, 0x400)], 0x0, .plain, [CEL_SAFE_CODE_CODE]⟩,
  ⟨0xF1000014, [(16, 0x100000), (32, 0x400)], 0x0, .plain, [CEL_CONST_CODE]⟩,
  ⟨0xF1000018, [(16, 0x100000), (32, 0x400)], 0x0, .plain, [CEL_WAVE_IDLE, CEL_WAVE_READY, CEL_WAVE_ACTIVE, CEL_WAVE_LEN]⟩,
  ⟨0xF100001C, [(16, 0x100000), (32, 0x400)], 0x2710, .plain, [CEL_HOLD_STARVE, CEL_HOLD_HOLD_MAX]⟩,
  ⟨0xF1000020, [(16, 0x100000), (32, 0x400)], 0x1E, .plain, [CEL_PATH_DLY_DLY]⟩,
  ⟨0xF1000024, [(16, 0x100000), (32, 0x400)], 0x6478, .plain, [CEL_OC_OC_T, CEL_OC_OC_TH]⟩,
  ⟨0xF1000028, [(16, 0x100000), (32, 0x400)], 0x0, .plain, [CEL_WAVE_ADDR_BANK, CEL_WAVE_ADDR_INDEX]⟩,
  ⟨0xF100002C, [(16, 0x100000), (32, 0x400)], 0x0, .data, [CEL_WAVE_DATA_CODE]⟩,
  ⟨0xF1000030, [(16, 0x100000), (32, 0x400)], 0x0, .counterLo, counterLoFields⟩,
  ⟨0xF1000034, [(16, 0x100000), (32, 0x400)], 0x0, .counterHi, counterHiFields⟩,
  ⟨0xF1000038, [(16, 0x100000), (32, 0x400)], 0x0, .counterLo, counterLoFields⟩,
  ⟨0xF100003C, [(16, 0x100000), (32, 0x400)], 0x0, .counterHi, counterHiFields⟩,
  ⟨0xF1000040, [(16, 0x100000), (32, 0x400)], 0x0, .counterLo, counterLoFields⟩,
  ⟨0xF1000044, [(16, 0x100000), (32, 0x400)], 0x0, .counterHi, counterHiFields⟩]
/-- Every register row of the CEL group. -/
def regTableCel : List RegDesc := regTableCel0

def regTableCelMx0 : List RegDesc := [
  ⟨0xF1008000, [(16, 0x100000)], 0x0, .plain, [CEL_MX_STATUS_RSVD_WR, CEL_MX_STATUS_STAGE_WR]⟩,
  ⟨0xF1008100, [(16, 0x100000), (48, 0x4)], 0x3F, .plain, [CEL_MX_SEL_IN]⟩,
  ⟨0xF1008200, [(16, 0x100000)], 0x0, .plain, [CEL_MX_TRUNK_MODE_0, CEL_MX_TRUNK_MODE_1, CEL_MX_TRUNK_MODE_2, CEL_MX_TRUNK_MODE_3, CEL_MX_TRUNK_MODE_4, CEL_MX_TRUNK_MODE_5, CEL_MX_TRUNK_MODE_6, CEL_MX_TRUNK_MODE_7, CEL_MX_TRUNK_MODE_8, CEL_MX_TRUNK_MODE_9, CEL_MX_TRUNK_MODE_10, CEL_MX_TRUNK_MODE_11, CEL_MX_TRUNK_MODE_12, CEL_MX_TRUNK_MODE_13, CEL_MX_TRUNK_MODE_14, CEL_MX_TRUNK_MODE_15]⟩]
/-- Every register row of the CEL_MX group. -/
def regTableCelMx : List RegDesc := regTableCelMx0

def regTableCvg0 : List RegDesc := [
  ⟨0xF1010000, [(16, 0x100000), (4, 0x1000)], 0x0, .plain, [CVG_STATUS_RSVD_WR, CVG_STATUS_STAGE_WR, CVG_STATUS_NEXT, CVG_STATUS_BADOP, CVG_STATUS_POISON, CVG_STATUS_LATE, CVG_STATUS_URG_OVR, CVG_STATUS_REFNS, CVG_STATUS_EDDY_STALE, CVG_STATUS_URG_ACT, CVG_STATUS_STATE]⟩,
  ⟨0xF1010004, [(16, 0x100000), (4, 0x1000)], 0x0, .plain, [CVG_CTL_TRIG, CVG_CTL_CMD]⟩,
  ⟨0xF1010008, [(16, 0x100000), (4, 0x1000)], 0x1, .plain, [CVG_CFG_SLICE_DIS, CVG_CFG_SEQ_LAST, CVG_CFG_REFSEL, CVG_CFG_STAMP, CVG_CFG_OUT_EN]⟩,
  ⟨0xF101000C, [(16, 0x100000), (4, 0x1000)], 0x0, .plain, [CVG_TDAC_CODE, CVG_TDAC_EN]⟩,
  ⟨0xF1010010, [(16, 0x100000), (4, 0x1000)], 0x4, .plain, [CVG_EDDY_AGE, CVG_EDDY_SUSPECT, CVG_EDDY_STATE, CVG_EDDY_SLICE]⟩,
  ⟨0xF1010014, [(16, 0x100000), (4, 0x1000)], 0x103E8, .plain, [CVG_EDDY_CFG_EN, CVG_EDDY_CFG_STALE_MS]⟩,
  ⟨0xF1010018, [(16, 0x100000), (4, 0x1000)], 0x0, .plain, [CVG_LAST_WORD]⟩,
  ⟨0xF1010040, [(16, 0x100000), (4, 0x1000), (16, 0x8)], 0x20000A1, .plain, [CVG_SEQ_ENTRY_DLYC, CVG_SEQ_ENTRY_OUT, CVG_SEQ_ENTRY_CIC_EN, CVG_SEQ_ENTRY_GAIN, CVG_SEQ_ENTRY_SMP, CVG_SEQ_ENTRY_INSEL]⟩,
  ⟨0xF1010044, [(16, 0x100000), (4, 0x1000), (16, 0x8)], 0x100001, .plain, [CVG_SEQ_CIC_SHIFT, CVG_SEQ_CIC_ORDER, CVG_SEQ_CIC_SUPP, CVG_SEQ_CIC_DEC]⟩,
  ⟨0xF10100C0, [(16, 0x100000), (4, 0x1000), (4, 0x10)], 0x20000A1, .plain, [CVG_URG_ENTRY_EN, CVG_URG_ENTRY_DLYC, CVG_URG_ENTRY_OUT, CVG_URG_ENTRY_GAIN, CVG_URG_ENTRY_SMP, CVG_URG_ENTRY_INSEL]⟩,
  ⟨0xF10100C4, [(16, 0x100000), (4, 0x1000), (4, 0x10)], 0x0, .plain, [CVG_URG_TRIG_CMP, CVG_URG_TRIG_CELL, CVG_URG_TRIG_Q, CVG_URG_TRIG_SRC]⟩,
  ⟨0xF10100C8, [(16, 0x100000), (4, 0x1000), (4, 0x10)], 0x0, .plain, [CVG_URG_ANG_FRAC]⟩,
  ⟨0xF1010100, [(16, 0x100000), (4, 0x1000)], 0x0, .counterLo, counterLoFields⟩,
  ⟨0xF1010104, [(16, 0x100000), (4, 0x1000)], 0x0, .counterHi, counterHiFields⟩,
  ⟨0xF1010108, [(16, 0x100000), (4, 0x1000)], 0x0, .counterLo, counterLoFields⟩,
  ⟨0xF101010C, [(16, 0x100000), (4, 0x1000)], 0x0, .counterHi, counterHiFields⟩,
  ⟨0xF1010110, [(16, 0x100000), (4, 0x1000)], 0x0, .counterLo, counterLoFields⟩,
  ⟨0xF1010114, [(16, 0x100000), (4, 0x1000)], 0x0, .counterHi, counterHiFields⟩,
  ⟨0xF1010118, [(16, 0x100000), (4, 0x1000)], 0x0, .counterLo, counterLoFields⟩,
  ⟨0xF101011C, [(16, 0x100000), (4, 0x1000)], 0x0, .counterHi, counterHiFields⟩,
  ⟨0xF1010120, [(16, 0x100000), (4, 0x1000)], 0x0, .counterLo, counterLoFields⟩,
  ⟨0xF1010124, [(16, 0x100000), (4, 0x1000)], 0x0, .counterHi, counterHiFields⟩,
  ⟨0xF1010128, [(16, 0x100000), (4, 0x1000)], 0x0, .counterLo, counterLoFields⟩,
  ⟨0xF101012C, [(16, 0x100000), (4, 0x1000)], 0x0, .counterHi, counterHiFields⟩]
def regTableCvg1 : List RegDesc := [
  ⟨0xF1010130, [(16, 0x100000), (4, 0x1000)], 0x0, .counterLo, counterLoFields⟩,
  ⟨0xF1010134, [(16, 0x100000), (4, 0x1000)], 0x0, .counterHi, counterHiFields⟩]
/-- Every register row of the CVG group. -/
def regTableCvg : List RegDesc := regTableCvg0 ++ regTableCvg1

def regTableCvgCom0 : List RegDesc := [
  ⟨0xF1014000, [(16, 0x100000)], 0x0, .plain, [CVG_COM_STATUS_RSVD_WR, CVG_COM_STATUS_STAGE_WR]⟩,
  ⟨0xF1014004, [(2, 0x800000)], 0x0, .plain, [CVG_REF_RDY_B, CVG_REF_RDY_A, CVG_REF_EN_B, CVG_REF_EN_A]⟩,
  ⟨0xF1014008, [(4, 0x400000)], 0x0, .plain, [CVG_CLK_CKDIV]⟩]
/-- Every register row of the CVG_COM group. -/
def regTableCvgCom : List RegDesc := regTableCvgCom0

def regTableFlt0 : List RegDesc := [
  ⟨0xF1020000, [(16, 0x100000), (4, 0x1000)], 0x0, .plain, [FLT_STATUS_RSVD_WR, FLT_STATUS_STAGE_WR, FLT_STATUS_LATE, FLT_STATUS_POISON, FLT_STATUS_DROP, FLT_STATUS_BANK]⟩,
  ⟨0xF1020008, [(16, 0x100000), (4, 0x1000)], 0x0, .plain, [FLT_CFG_SWAP]⟩,
  ⟨0xF102000C, [(16, 0x100000), (4, 0x1000)], 0x0, .data, [FLT_LOAD_PEAK, FLT_LOAD_LAST]⟩,
  ⟨0xF1020010, [(16, 0x100000), (4, 0x1000)], 0x0, .plain, [FLT_DCB_FRZ_NOW, FLT_DCB_FREEZE]⟩,
  ⟨0xF1020014, [(16, 0x100000), (4, 0x1000)], 0x0, .plain, [FLT_COEF_ADDR_BANK, FLT_COEF_ADDR_ADDR]⟩,
  ⟨0xF1020018, [(16, 0x100000), (4, 0x1000)], 0x0, .data, [FLT_COEF_DATA_COEF]⟩,
  ⟨0xF1020020, [(16, 0x100000), (4, 0x1000)], 0x0, .counterLo, counterLoFields⟩,
  ⟨0xF1020024, [(16, 0x100000), (4, 0x1000)], 0x0, .counterHi, counterHiFields⟩,
  ⟨0xF1020028, [(16, 0x100000), (4, 0x1000)], 0x0, .counterLo, counterLoFields⟩,
  ⟨0xF102002C, [(16, 0x100000), (4, 0x1000)], 0x0, .counterHi, counterHiFields⟩,
  ⟨0xF1020030, [(16, 0x100000), (4, 0x1000)], 0x0, .counterLo, counterLoFields⟩,
  ⟨0xF1020034, [(16, 0x100000), (4, 0x1000)], 0x0, .counterHi, counterHiFields⟩]
/-- Every register row of the FLT group. -/
def regTableFlt : List RegDesc := regTableFlt0

def regTableFltch0 : List RegDesc := [
  ⟨0xF1020100, [(16, 0x100000), (4, 0x1000), (8, 0x40)], 0x0, .plain, [FLT_CH_STATUS_NOSTAMP, FLT_CH_STATUS_GAP, FLT_CH_STATUS_SAT, FLT_CH_STATUS_HOLDING, FLT_CH_STATUS_FILL, FLT_CH_STATUS_FROZEN, FLT_CH_STATUS_STATE]⟩,
  ⟨0xF1020104, [(16, 0x100000), (4, 0x1000), (8, 0x40)], 0x0, .plain, [FLT_CH_CTL_CMD]⟩,
  ⟨0xF1020108, [(16, 0x100000), (4, 0x1000), (8, 0x40)], 0x102, .plain, [FLT_CH_CFG_SUPP, FLT_CH_CFG_ROLE, FLT_CH_CFG_STIN, FLT_CH_CFG_SELV, FLT_CH_CFG_SEL]⟩,
  ⟨0xF102010C, [(16, 0x100000), (4, 0x1000), (8, 0x40)], 0x0, .plain, [FLT_CH_DLY_FRAC, FLT_CH_DLY_D_INT]⟩,
  ⟨0xF1020110, [(16, 0x100000), (4, 0x1000), (8, 0x40)], 0xC, .plain, [FLT_CH_DC_GSEL, FLT_CH_DC_TAIL, FLT_CH_DC_GEN, FLT_CH_DC_EN, FLT_CH_DC_K]⟩,
  ⟨0xF1020114, [(16, 0x100000), (4, 0x1000), (8, 0x40)], 0x0, .plain, [FLT_CH_FIR_MODE, FLT_CH_FIR_LEN, FLT_CH_FIR_BASE]⟩,
  ⟨0xF1020118, [(16, 0x100000), (4, 0x1000), (8, 0x40)], 0x0, .plain, [FLT_CH_FDLY_FIR_DLY]⟩,
  ⟨0xF102011C, [(16, 0x100000), (4, 0x1000), (8, 0x40)], 0x0, .plain, [FLT_CH_RS_INTERP, FLT_CH_RS_EN, FLT_CH_RS_PBASE]⟩,
  ⟨0xF1020120, [(16, 0x100000), (4, 0x1000), (8, 0x40)], 0x1000000, .plain, [FLT_CH_RATIO_RATIO]⟩,
  ⟨0xF1020124, [(16, 0x100000), (4, 0x1000), (8, 0x40)], 0x0, .plain, [FLT_CH_SHIFT_SH_RS, FLT_CH_SHIFT_SH_FIR, FLT_CH_SHIFT_SH_DC, FLT_CH_SHIFT_SH_IN]⟩,
  ⟨0xF1020128, [(16, 0x100000), (4, 0x1000), (8, 0x40)], 0x0, .counterLo, counterLoFields⟩,
  ⟨0xF102012C, [(16, 0x100000), (4, 0x1000), (8, 0x40)], 0x0, .counterHi, counterHiFields⟩,
  ⟨0xF1020130, [(16, 0x100000), (4, 0x1000), (8, 0x40)], 0x0, .counterLo, counterLoFields⟩,
  ⟨0xF1020134, [(16, 0x100000), (4, 0x1000), (8, 0x40)], 0x0, .counterHi, counterHiFields⟩,
  ⟨0xF1020138, [(16, 0x100000), (4, 0x1000), (8, 0x40)], 0x0, .counterLo, counterLoFields⟩,
  ⟨0xF102013C, [(16, 0x100000), (4, 0x1000), (8, 0x40)], 0x0, .counterHi, counterHiFields⟩]
/-- Every register row of the FLTCH group. -/
def regTableFltch : List RegDesc := regTableFltch0

end Sys2Proof.Machine
end

