-- ==== Sys2Proof/Machine/RegsCore.lean ====
section
/-! DEFINITION. The register tables of the spec: the SYS, ANG, INST, IRQ and PIN registers.
Each register has its address as a function of its unit or entry number, one constant per field
(bits, access code, reserved encodings) and one row of the block table (R7, R13-R17). -/

namespace Sys2Proof.Machine

/-- `SYS_DEV_ID` (00_scope.md). -/
def SYS_DEV_ID : Nat := 0xF0000000
def SYS_DEV_ID_PART : Field := ⟨15, 0, .ro, []⟩

/-- `SYS_REV` (00_scope.md). -/
def SYS_REV : Nat := 0xF0000004
def SYS_REV_MAJOR : Field := ⟨15, 8, .ro, []⟩
def SYS_REV_MINOR : Field := ⟨7, 0, .ro, []⟩

/-- `SYS_UID_LO` (00_scope.md). -/
def SYS_UID_LO : Nat := 0xF0000008
def SYS_UID_LO_UID_LO : Field := ⟨31, 0, .ro, []⟩

/-- `SYS_UID_HI` (00_scope.md). -/
def SYS_UID_HI : Nat := 0xF000000C
def SYS_UID_HI_UID_HI : Field := ⟨31, 0, .ro, []⟩

/-- `SYS_STATUS` (00_scope.md). -/
def SYS_STATUS : Nat := 0xF0000010
def SYS_STATUS_RSVD_WR : Field := ⟨31, 31, .w1c, []⟩
def SYS_STATUS_STAGE_WR : Field := ⟨30, 30, .w1c, []⟩

/-- `SYS_RSVD_ADDR` (00_scope.md). -/
def SYS_RSVD_ADDR : Nat := 0xF0000014
def SYS_RSVD_ADDR_ADDR : Field := ⟨31, 0, .ro, []⟩

/-- `SYS_RSVD_SRC` (00_scope.md). -/
def SYS_RSVD_SRC : Nat := 0xF0000018
def SYS_RSVD_SRC_VALID : Field := ⟨31, 31, .w1c, []⟩
def SYS_RSVD_SRC_KIND : Field := ⟨30, 30, .ro, []⟩
def SYS_RSVD_SRC_MORE : Field := ⟨29, 29, .ro, []⟩
def SYS_RSVD_SRC_SOURCE : Field := ⟨8, 0, .ro, []⟩

/-- `SYS_GRADE` (00_scope.md). -/
def SYS_GRADE : Nat := 0xF000001C
def SYS_GRADE_GRADE : Field := ⟨3, 0, .ro, []⟩

/-- `SYS_CLK_LOCK` (00_scope.md). -/
def SYS_CLK_LOCK : Nat := 0xF0000020
def SYS_CLK_LOCK_LOCK : Field := ⟨28, 0, .ro, []⟩

/-- `SYS_CLK_LOST` (00_scope.md). -/
def SYS_CLK_LOST : Nat := 0xF0000024
def SYS_CLK_LOST_LOST : Field := ⟨28, 0, .w1c, []⟩

/-- `ANG_STATUS` (02_angle_timebase.md). -/
def ANG_STATUS : Nat := 0xF0010000
def ANG_STATUS_RSVD_WR : Field := ⟨31, 31, .w1c, []⟩
def ANG_STATUS_STAGE_WR : Field := ⟨30, 30, .w1c, []⟩
def ANG_STATUS_PSTG : Field := ⟨6, 6, .ro, []⟩
def ANG_STATUS_HEADWATER : Field := ⟨5, 5, .ro, []⟩
def ANG_STATUS_FENCED : Field := ⟨4, 4, .ro, []⟩
def ANG_STATUS_ACTIVE : Field := ⟨3, 2, .ro, []⟩
def ANG_STATUS_COAST : Field := ⟨1, 1, .ro, []⟩
def ANG_STATUS_LOCKED : Field := ⟨0, 0, .ro, []⟩

/-- `ANG_CTL` (02_angle_timebase.md). -/
def ANG_CTL : Nat := 0xF0010004
def ANG_CTL_OUT_PERIOD : Field := ⟨31, 16, .rws, [(1, 15)]⟩
def ANG_CTL_SRC_EN : Field := ⟨7, 4, .rws, []⟩
def ANG_CTL_PRIMARY : Field := ⟨1, 0, .rws, []⟩

/-- `ANG_TIME_LO` (02_angle_timebase.md). -/
def ANG_TIME_LO : Nat := 0xF0010010
def ANG_TIME_LO_CNT_LO : Field := ⟨31, 0, .rw, []⟩

/-- `ANG_TIME_HI` (02_angle_timebase.md). -/
def ANG_TIME_HI : Nat := 0xF0010014
def ANG_TIME_HI_CNT_HI : Field := ⟨15, 0, .rw, []⟩

/-- `ANG_TIME_HI2` (02_angle_timebase.md). -/
def ANG_TIME_HI2 : Nat := 0xF0010018
def ANG_TIME_HI2_OVF : Field := ⟨31, 31, .w1c, []⟩
def ANG_TIME_HI2_CNT_HI2 : Field := ⟨15, 0, .rw, []⟩

/-- `ANG_POS_LO` (02_angle_timebase.md). -/
def ANG_POS_LO : Nat := 0xF0010020
def ANG_POS_LO_FRAC : Field := ⟨31, 0, .ro, []⟩

/-- `ANG_POS_HI` (02_angle_timebase.md). -/
def ANG_POS_HI : Nat := 0xF0010024
def ANG_POS_HI_CYCLE : Field := ⟨15, 0, .ro, []⟩

/-- `ANG_VEL` (02_angle_timebase.md). -/
def ANG_VEL : Nat := 0xF0010028
def ANG_VEL_VEL : Field := ⟨31, 0, .ro, []⟩

/-- `ANG_EPOCH_CTL` (02_angle_timebase.md). -/
def ANG_EPOCH_CTL : Nat := 0xF0010040
def ANG_EPOCH_CTL_REPEAT : Field := ⟨11, 8, .rw, [(0, 0), (5, 15)]⟩
def ANG_EPOCH_CTL_CMD : Field := ⟨2, 0, .wo, [(4, 7)]⟩

/-- `ANG_EPOCH_E_LO` (02_angle_timebase.md). -/
def ANG_EPOCH_E_LO : Nat := 0xF0010044
def ANG_EPOCH_E_LO_FRAC : Field := ⟨31, 0, .rw, []⟩

/-- `ANG_EPOCH_E_HI` (02_angle_timebase.md). -/
def ANG_EPOCH_E_HI : Nat := 0xF0010048
def ANG_EPOCH_E_HI_CYCLE : Field := ⟨15, 0, .rw, []⟩

/-- `ANG_EPOCH_LEAD` (02_angle_timebase.md). -/
def ANG_EPOCH_LEAD : Nat := 0xF001004C
def ANG_EPOCH_LEAD_LEAD : Field := ⟨31, 0, .rw, []⟩

/-- `ANG_EPOCH_STAT` (02_angle_timebase.md). -/
def ANG_EPOCH_STAT : Nat := 0xF0010050
def ANG_EPOCH_STAT_RESULT : Field := ⟨15, 8, .ro, []⟩
def ANG_EPOCH_STAT_CMDREJ : Field := ⟨3, 3, .w1c, []⟩
def ANG_EPOCH_STAT_STATE : Field := ⟨2, 0, .ro, []⟩

/-- `ANG_CFG_GEN` (02_angle_timebase.md). -/
def ANG_CFG_GEN : Nat := 0xF0010054
def ANG_CFG_GEN_GEN : Field := ⟨31, 0, .ro, []⟩

/-- `ANG_EPOCH_MISS` (02_angle_timebase.md). -/
def ANG_EPOCH_MISS : Nat := 0xF0010058
def ANG_EPOCH_MISS_VALID : Field := ⟨31, 31, .w1c, []⟩
def ANG_EPOCH_MISS_DEV : Field := ⟨8, 0, .ro, []⟩

/-- `ANG_FENCE` (02_angle_timebase.md). -/
def ANG_FENCE : Nat := 0xF001005C
def ANG_FENCE_LIFT : Field := ⟨31, 31, .rws, []⟩
def ANG_FENCE_MORE : Field := ⟨8, 8, .ro, []⟩
def ANG_FENCE_CAUSE : Field := ⟨7, 0, .ro, []⟩

/-- `ANG_EPOCH_DEFER_LO` (02_angle_timebase.md). -/
def ANG_EPOCH_DEFER_LO : Nat := 0xF0010060

/-- `ANG_EPOCH_DEFER_HI` (02_angle_timebase.md). -/
def ANG_EPOCH_DEFER_HI : Nat := 0xF0010064

/-- `ANG_SRC_CFG` (02_angle_timebase.md). -/
def ANG_SRC_CFG (s : Nat) : Nat := 0xF0010100 + s * 0x80
def ANG_SRC_CFG_FILT : Field := ⟨15, 8, .rws, []⟩
def ANG_SRC_CFG_INV : Field := ⟨3, 3, .rws, []⟩
def ANG_SRC_CFG_KIND : Field := ⟨2, 0, .rws, [(5, 7)]⟩

/-- `ANG_SRC_EPC` (02_angle_timebase.md). -/
def ANG_SRC_EPC (s : Nat) : Nat := 0xF0010104 + s * 0x80
def ANG_SRC_EPC_EPC : Field := ⟨31, 0, .rws, []⟩

/-- `ANG_SRC_IDX` (02_angle_timebase.md). -/
def ANG_SRC_IDX (s : Nat) : Nat := 0xF0010108 + s * 0x80
def ANG_SRC_IDX_ZERR_TH : Field := ⟨23, 8, .rws, []⟩
def ANG_SRC_IDX_ZDIV : Field := ⟨7, 0, .rws, []⟩

/-- `ANG_SRC_ZOFF` (02_angle_timebase.md). -/
def ANG_SRC_ZOFF (s : Nat) : Nat := 0xF001010C + s * 0x80
def ANG_SRC_ZOFF_ZOFF : Field := ⟨31, 0, .rws, []⟩

/-- `ANG_SRC_SSI` (02_angle_timebase.md). -/
def ANG_SRC_SSI (s : Nat) : Nat := 0xF0010110 + s * 0x80
def ANG_SRC_SSI_PERIOD : Field := ⟨31, 20, .rws, []⟩
def ANG_SRC_SSI_CLKDIV : Field := ⟨17, 8, .rws, []⟩
def ANG_SRC_SSI_GRAY : Field := ⟨6, 6, .rws, []⟩
def ANG_SRC_SSI_BITS : Field := ⟨5, 0, .rws, []⟩

/-- `ANG_SRC_LOOP` (02_angle_timebase.md). -/
def ANG_SRC_LOOP (s : Nat) : Nat := 0xF0010114 + s * 0x80
def ANG_SRC_LOOP_ERR_MAX : Field := ⟨31, 24, .rws, [(0, 0)]⟩
def ANG_SRC_LOOP_MISS : Field := ⟨23, 16, .rws, []⟩
def ANG_SRC_LOOP_REV_HYST : Field := ⟨11, 8, .rws, [(0, 0)]⟩
def ANG_SRC_LOOP_AFF : Field := ⟨4, 4, .rws, []⟩
def ANG_SRC_LOOP_BW : Field := ⟨3, 0, .rws, [(8, 15)]⟩

/-- `ANG_SRC_STILL` (02_angle_timebase.md). -/
def ANG_SRC_STILL (s : Nat) : Nat := 0xF0010118 + s * 0x80
def ANG_SRC_STILL_V_STILL : Field := ⟨31, 0, .rws, []⟩

/-- `ANG_SRC_FAIL` (02_angle_timebase.md). -/
def ANG_SRC_FAIL (s : Nat) : Nat := 0xF001011C + s * 0x80
def ANG_SRC_FAIL_COAST_CYC : Field := ⟨15, 8, .rws, []⟩
def ANG_SRC_FAIL_BACKUP : Field := ⟨2, 1, .rws, []⟩
def ANG_SRC_FAIL_BACKUP_EN : Field := ⟨0, 0, .rws, []⟩

/-- `ANG_SRC_STAT` (02_angle_timebase.md). -/
def ANG_SRC_STAT (s : Nat) : Nat := 0xF0010120 + s * 0x80
def ANG_SRC_STAT_LATE : Field := ⟨18, 18, .w1c, []⟩
def ANG_SRC_STAT_ILL : Field := ⟨17, 17, .w1c, []⟩
def ANG_SRC_STAT_ZERR : Field := ⟨16, 16, .w1c, []⟩
def ANG_SRC_STAT_CAUSE : Field := ⟨15, 8, .ro, []⟩
def ANG_SRC_STAT_ALIGNED : Field := ⟨6, 6, .ro, []⟩
def ANG_SRC_STAT_BW_LIM : Field := ⟨5, 5, .ro, []⟩
def ANG_SRC_STAT_LOST : Field := ⟨4, 4, .ro, []⟩
def ANG_SRC_STAT_CLAMP : Field := ⟨3, 3, .ro, []⟩
def ANG_SRC_STAT_REV : Field := ⟨2, 2, .ro, []⟩
def ANG_SRC_STAT_STILL : Field := ⟨1, 1, .ro, []⟩
def ANG_SRC_STAT_LOCKED : Field := ⟨0, 0, .ro, []⟩

/-- `ANG_SRC_POS_LO` (02_angle_timebase.md). -/
def ANG_SRC_POS_LO (s : Nat) : Nat := 0xF0010124 + s * 0x80

/-- `ANG_SRC_POS_HI` (02_angle_timebase.md). -/
def ANG_SRC_POS_HI (s : Nat) : Nat := 0xF0010128 + s * 0x80

/-- `ANG_SRC_VEL` (02_angle_timebase.md). -/
def ANG_SRC_VEL (s : Nat) : Nat := 0xF001012C + s * 0x80
def ANG_SRC_VEL_VEL : Field := ⟨31, 0, .ro, []⟩

/-- `ANG_SRC_ALIGN` (02_angle_timebase.md). -/
def ANG_SRC_ALIGN (s : Nat) : Nat := 0xF0010130 + s * 0x80
def ANG_SRC_ALIGN_ALIGN : Field := ⟨31, 0, .ro, []⟩

/-- `ANG_SRC_ILL_LO` (02_angle_timebase.md). -/
def ANG_SRC_ILL_LO (s : Nat) : Nat := 0xF0010134 + s * 0x80

/-- `ANG_SRC_ILL_HI` (02_angle_timebase.md). -/
def ANG_SRC_ILL_HI (s : Nat) : Nat := 0xF0010138 + s * 0x80

/-- `ANG_SRC_LATE_LO` (02_angle_timebase.md). -/
def ANG_SRC_LATE_LO (s : Nat) : Nat := 0xF001013C + s * 0x80

/-- `ANG_SRC_LATE_HI` (02_angle_timebase.md). -/
def ANG_SRC_LATE_HI (s : Nat) : Nat := 0xF0010140 + s * 0x80

/-- `ANG_IDLE_START` (02_angle_timebase.md). -/
def ANG_IDLE_START (w : Nat) : Nat := 0xF0010400 + w * 0x10
def ANG_IDLE_START_START : Field := ⟨31, 0, .rws, []⟩

/-- `ANG_IDLE_END` (02_angle_timebase.md). -/
def ANG_IDLE_END (w : Nat) : Nat := 0xF0010404 + w * 0x10
def ANG_IDLE_END_END : Field := ⟨31, 0, .rws, []⟩

/-- `ANG_IDLE_CTL` (02_angle_timebase.md). -/
def ANG_IDLE_CTL (w : Nat) : Nat := 0xF0010408 + w * 0x10
def ANG_IDLE_CTL_EN : Field := ⟨31, 31, .rws, []⟩
def ANG_IDLE_CTL_OVERRUN : Field := ⟨30, 30, .w1c, []⟩
def ANG_IDLE_CTL_TILES : Field := ⟨15, 0, .rws, []⟩

/-- `INST_STATUS` (12_instances.md). -/
def INST_STATUS : Nat := 0xF0060000
def INST_STATUS_RSVD_WR : Field := ⟨31, 31, .w1c, []⟩
def INST_STATUS_STAGE_WR : Field := ⟨30, 30, .w1c, []⟩

/-- `INST_SV_HT` (12_instances.md). -/
def INST_SV_HT : Nat := 0xF0060008
def INST_SV_HT_EN : Field := ⟨31, 31, .rw, []⟩
def INST_SV_HT_TILE : Field := ⟨19, 16, .rw, []⟩
def INST_SV_HT_SLOT : Field := ⟨6, 0, .rw, []⟩

/-- `INST_CTL` (12_instances.md). -/
def INST_CTL (i : Nat) : Nat := 0x100000100 + i * 0x1000
def INST_CTL_CMD : Field := ⟨2, 0, .wo, [(5, 7)]⟩

/-- `INST_STATE` (12_instances.md). -/
def INST_STATE (i : Nat) : Nat := 0x100000104 + i * 0x1000
def INST_STATE_RESET_BUSY : Field := ⟨31, 31, .ro, []⟩
def INST_STATE_BADOP : Field := ⟨30, 30, .w1c, []⟩
def INST_STATE_REF : Field := ⟨29, 29, .w1c, []⟩
def INST_STATE_GEN : Field := ⟨23, 16, .ro, []⟩
def INST_STATE_STATE : Field := ⟨1, 0, .ro, []⟩

/-- `INST_PC` (12_instances.md). -/
def INST_PC (i : Nat) : Nat := 0x100000108 + i * 0x1000
def INST_PC_PC : Field := ⟨31, 2, .rw, []⟩

/-- `INST_CFG` (12_instances.md). -/
def INST_CFG (i : Nat) : Nat := 0x10000010C + i * 0x1000
def INST_CFG_EN : Field := ⟨0, 0, .rw, []⟩

/-- `INST_HT` (12_instances.md). -/
def INST_HT (i : Nat) : Nat := 0x100000110 + i * 0x1000
def INST_HT_EN : Field := ⟨31, 31, .rw, []⟩
def INST_HT_SLOT : Field := ⟨6, 0, .rw, []⟩

/-- `INST_HELD` (12_instances.md). -/
def INST_HELD (i : Nat) : Nat := 0x100000114 + i * 0x1000
def INST_HELD_VALID : Field := ⟨31, 31, .w1c, []⟩
def INST_HELD_SRC : Field := ⟨30, 29, .ro, []⟩
def INST_HELD_CODE : Field := ⟨23, 16, .ro, []⟩
def INST_HELD_SECOND : Field := ⟨14, 10, .ro, []⟩
def INST_HELD_FIRST : Field := ⟨9, 5, .ro, []⟩

/-- `INST_REFADDR` (12_instances.md). -/
def INST_REFADDR (i : Nat) : Nat := 0x100000118 + i * 0x1000
def INST_REFADDR_ADDR : Field := ⟨31, 0, .ro, []⟩

/-- `INST_RDISC_LO` (12_instances.md). -/
def INST_RDISC_LO (i : Nat) : Nat := 0x100000120 + i * 0x1000

/-- `INST_RDISC_HI` (12_instances.md). -/
def INST_RDISC_HI (i : Nat) : Nat := 0x100000124 + i * 0x1000

/-- `INST_MPU_BASE_LO` (12_instances.md). -/
def INST_MPU_BASE_LO (i : Nat) (k : Nat) : Nat := 0x100000200 + i * 0x1000 + k * 0x10
def INST_MPU_BASE_LO_BASE : Field := ⟨31, 12, .rw, []⟩
def INST_MPU_BASE_LO_EN : Field := ⟨3, 3, .rw, []⟩
def INST_MPU_BASE_LO_X : Field := ⟨2, 2, .rw, []⟩
def INST_MPU_BASE_LO_W : Field := ⟨1, 1, .rw, []⟩
def INST_MPU_BASE_LO_R : Field := ⟨0, 0, .rw, []⟩

/-- `INST_MPU_BASE_HI` (12_instances.md). -/
def INST_MPU_BASE_HI (i : Nat) (k : Nat) : Nat := 0x100000204 + i * 0x1000 + k * 0x10
def INST_MPU_BASE_HI_BASE_HI : Field := ⟨15, 0, .rw, []⟩

/-- `INST_MPU_LIM_LO` (12_instances.md). -/
def INST_MPU_LIM_LO (i : Nat) (k : Nat) : Nat := 0x100000208 + i * 0x1000 + k * 0x10
def INST_MPU_LIM_LO_LIMIT : Field := ⟨31, 12, .rw, []⟩

/-- `INST_MPU_LIM_HI` (12_instances.md). -/
def INST_MPU_LIM_HI (i : Nat) (k : Nat) : Nat := 0x10000020C + i * 0x1000 + k * 0x10
def INST_MPU_LIM_HI_LIMIT_HI : Field := ⟨15, 0, .rw, []⟩

/-- `INST_SEL` (12_instances.md). -/
def INST_SEL (q : Nat) : Nat := 0x200000004 + q * 0x100
def INST_SEL_INST : Field := ⟨7, 0, .rw, []⟩

/-- `INST_UOWN_SEL` (12_instances.md). -/
def INST_UOWN_SEL (q : Nat) : Nat := 0x200000010 + q * 0x100
def INST_UOWN_SEL_KIND : Field := ⟨22, 19, .rw, [(5, 6), (9, 15)]⟩
def INST_UOWN_SEL_INDEX : Field := ⟨13, 0, .rw, []⟩

/-- `INST_UOWN` (12_instances.md). -/
def INST_UOWN (k : Nat) (x : Nat) : Nat := 0x400000000 + k * 0x10000 + x * 0x4
def INST_UOWN_MODE : Field := ⟨31, 30, .rw, [(3, 3)]⟩
def INST_UOWN_INST : Field := ⟨7, 0, .rw, []⟩

/-- `IRQ_STATUS` (13_interrupts_and_pins.md). -/
def IRQ_STATUS : Nat := 0xF0040000
def IRQ_STATUS_RSVD_WR : Field := ⟨31, 31, .w1c, []⟩
def IRQ_STATUS_STAGE_WR : Field := ⟨30, 30, .w1c, []⟩
def IRQ_STATUS_DONE_REJ : Field := ⟨29, 29, .w1c, []⟩

/-- `IRQ_DONE` (13_interrupts_and_pins.md). -/
def IRQ_DONE : Nat := 0xF0040008
def IRQ_DONE_SRC : Field := ⟨11, 0, .wo, []⟩

/-- `IRQ_SWSET` (13_interrupts_and_pins.md). -/
def IRQ_SWSET : Nat := 0xF004000C
def IRQ_SWSET_SRC : Field := ⟨11, 0, .wo, [(0, 2303), (2560, 4095)]⟩

/-- `IRQ_CLAIM` (13_interrupts_and_pins.md). -/
def IRQ_CLAIM (q : Nat) : Nat := 0x200000024 + q * 0x100
def IRQ_CLAIM_SRC : Field := ⟨11, 0, .rw, []⟩

/-- `IRQ_TSEL` (13_interrupts_and_pins.md). -/
def IRQ_TSEL (q : Nat) : Nat := 0x200000030 + q * 0x100
def IRQ_TSEL_SRC : Field := ⟨11, 0, .rw, [(1972, 1983), (2816, 4095)]⟩

/-- `IRQ_TCTL` (13_interrupts_and_pins.md). -/
def IRQ_TCTL (s : Nat) : Nat := 0x300000000 + s * 0x40
def IRQ_TCTL_SV : Field := ⟨31, 31, .rw, []⟩
def IRQ_TCTL_STATE : Field := ⟨17, 16, .ro, []⟩
def IRQ_TCTL_KIND : Field := ⟨15, 15, .ro, []⟩
def IRQ_TCTL_RE : Field := ⟨14, 14, .ro, []⟩
def IRQ_TCTL_CLAIMER : Field := ⟨8, 0, .ro, []⟩

/-- `IRQ_TMASK` (13_interrupts_and_pins.md). -/
def IRQ_TMASK (s : Nat) (w : Nat) : Nat := 0x300000020 + s * 0x40 + w * 0x4
def IRQ_TMASK_MASK : Field := ⟨31, 0, .rw, []⟩

/-- `IRQ_UF_UNIT` (13_interrupts_and_pins.md). -/
def IRQ_UF_UNIT (i : Nat) : Nat := 0xF0040800 + i * 0x8
def IRQ_UF_UNIT_UNIT : Field := ⟨31, 0, .ro, []⟩

/-- `IRQ_UF_STAT` (13_interrupts_and_pins.md). -/
def IRQ_UF_STAT (i : Nat) : Nat := 0xF0040804 + i * 0x8
def IRQ_UF_STAT_VALID : Field := ⟨31, 31, .w1c, []⟩
def IRQ_UF_STAT_MORE : Field := ⟨30, 30, .ro, []⟩
def IRQ_UF_STAT_SUB : Field := ⟨15, 8, .ro, []⟩
def IRQ_UF_STAT_GEN : Field := ⟨7, 0, .ro, []⟩

/-- `IRQ_PEND` (13_interrupts_and_pins.md). -/
def IRQ_PEND (w : Nat) : Nat := 0xF0041000 + w * 0x4
def IRQ_PEND_PEND : Field := ⟨31, 0, .ro, []⟩

/-- `PIN_STATUS` (13_interrupts_and_pins.md). -/
def PIN_STATUS : Nat := 0xF0050000
def PIN_STATUS_RSVD_WR : Field := ⟨31, 31, .w1c, []⟩
def PIN_STATUS_STAGE_WR : Field := ⟨30, 30, .w1c, []⟩
def PIN_STATUS_PIN_REJ : Field := ⟨29, 29, .w1c, []⟩
def PIN_STATUS_SDROP : Field := ⟨28, 28, .w1c, []⟩
def PIN_STATUS_LATE : Field := ⟨27, 27, .w1c, []⟩

/-- `PIN_REJ` (13_interrupts_and_pins.md). -/
def PIN_REJ : Nat := 0xF0050004
def PIN_REJ_VALID : Field := ⟨31, 31, .w1c, []⟩
def PIN_REJ_CAUSE : Field := ⟨29, 28, .ro, []⟩
def PIN_REJ_SOURCE : Field := ⟨16, 8, .ro, []⟩
def PIN_REJ_PIN : Field := ⟨7, 0, .ro, []⟩

/-- `PIN_BANKV` (13_interrupts_and_pins.md). -/
def PIN_BANKV : Nat := 0xF0050008
def PIN_BANKV_V33 : Field := ⟨15, 0, .ro, []⟩

/-- `PIN_WAKE` (13_interrupts_and_pins.md). -/
def PIN_WAKE : Nat := 0xF005000C
def PIN_WAKE_VALID : Field := ⟨31, 31, .w1c, []⟩
def PIN_WAKE_PIN : Field := ⟨7, 0, .ro, []⟩

/-- `PIN_SDROP_LO` (13_interrupts_and_pins.md). -/
def PIN_SDROP_LO : Nat := 0xF0050010

/-- `PIN_SDROP_HI` (13_interrupts_and_pins.md). -/
def PIN_SDROP_HI : Nat := 0xF0050014

/-- `PIN_LATE_LO` (13_interrupts_and_pins.md). -/
def PIN_LATE_LO : Nat := 0xF0050018

/-- `PIN_LATE_HI` (13_interrupts_and_pins.md). -/
def PIN_LATE_HI : Nat := 0xF005001C

/-- `PIN_IN` (13_interrupts_and_pins.md). -/
def PIN_IN (g : Nat) : Nat := 0xF0050040 + g * 0x4
def PIN_IN_LVL : Field := ⟨15, 0, .ro, []⟩

/-- `PIN_OUT` (13_interrupts_and_pins.md). -/
def PIN_OUT (g : Nat) : Nat := 0xF0050080 + g * 0x4
def PIN_OUT_MASK : Field := ⟨31, 16, .wo, []⟩
def PIN_OUT_DATA : Field := ⟨15, 0, .rw, []⟩

/-- `PIN_OE` (13_interrupts_and_pins.md). -/
def PIN_OE (g : Nat) : Nat := 0xF00500C0 + g * 0x4
def PIN_OE_MASK : Field := ⟨31, 16, .wo, []⟩
def PIN_OE_OE : Field := ⟨15, 0, .rw, []⟩

/-- `PIN_CFG` (13_interrupts_and_pins.md). -/
def PIN_CFG (n : Nat) : Nat := 0xF0050400 + n * 0x4
def PIN_CFG_OWN : Field := ⟨31, 30, .rw, [(3, 3)]⟩
def PIN_CFG_INST : Field := ⟨29, 22, .rw, []⟩
def PIN_CFG_SAFE : Field := ⟨19, 18, .rws, []⟩
def PIN_CFG_ASRC : Field := ⟨17, 16, .rws, []⟩
def PIN_CFG_WAKE : Field := ⟨15, 15, .rws, []⟩
def PIN_CFG_WPOL : Field := ⟨14, 14, .rws, []⟩
def PIN_CFG_FILT : Field := ⟨13, 12, .rws, []⟩
def PIN_CFG_PULL : Field := ⟨11, 10, .rws, [(3, 3)]⟩
def PIN_CFG_DRIVE : Field := ⟨9, 8, .rws, []⟩
def PIN_CFG_SLEW : Field := ⟨7, 7, .rws, []⟩
def PIN_CFG_OD : Field := ⟨6, 6, .rws, []⟩
def PIN_CFG_MUX : Field := ⟨3, 0, .rws, [(11, 15)]⟩

/-- `PIN_FAB` (13_interrupts_and_pins.md). -/
def PIN_FAB (n : Nat) : Nat := 0xF0050800 + n * 0x4
def PIN_FAB_OE_SRC : Field := ⟨27, 16, .rws, [(2082, 4095)]⟩
def PIN_FAB_OUT_SRC : Field := ⟨11, 0, .rws, [(2082, 4095)]⟩

/-- `PM_CTL` (13_interrupts_and_pins.md). -/
def PM_CTL (m : Nat) : Nat := 0xF0050C00 + m * 0x20
def PM_CTL_EN : Field := ⟨31, 31, .rw, []⟩
def PM_CTL_MODE : Field := ⟨30, 29, .rw, [(3, 3)]⟩
def PM_CTL_WIN : Field := ⟨26, 24, .rw, []⟩

/-- `PM_VAL` (13_interrupts_and_pins.md). -/
def PM_VAL (m : Nat) : Nat := 0xF0050C04 + m * 0x20
def PM_VAL_VAL : Field := ⟨31, 0, .rw, []⟩

/-- `PM_MASK` (13_interrupts_and_pins.md). -/
def PM_MASK (m : Nat) : Nat := 0xF0050C08 + m * 0x20
def PM_MASK_MASK : Field := ⟨31, 0, .rw, []⟩

/-- `PM_LVL` (13_interrupts_and_pins.md). -/
def PM_LVL (m : Nat) : Nat := 0xF0050C0C + m * 0x20
def PM_LVL_LVL : Field := ⟨31, 0, .ro, []⟩

/-- `PM_TIME_LO` (13_interrupts_and_pins.md). -/
def PM_TIME_LO (m : Nat) : Nat := 0xF0050C10 + m * 0x20
def PM_TIME_LO_TIME : Field := ⟨31, 0, .ro, []⟩

/-- `PM_TIME_HI` (13_interrupts_and_pins.md). -/
def PM_TIME_HI (m : Nat) : Nat := 0xF0050C14 + m * 0x20
def PM_TIME_HI_TIME : Field := ⟨15, 0, .ro, []⟩

/-- `PM_ANG_LO` (13_interrupts_and_pins.md). -/
def PM_ANG_LO (m : Nat) : Nat := 0xF0050C18 + m * 0x20
def PM_ANG_LO_ANG : Field := ⟨31, 0, .ro, []⟩

/-- `PM_ANG_HI` (13_interrupts_and_pins.md). -/
def PM_ANG_HI (m : Nat) : Nat := 0xF0050C1C + m * 0x20
def PM_ANG_HI_ANG : Field := ⟨15, 0, .ro, []⟩

/-- `PIN_GRP` (13_interrupts_and_pins.md). -/
def PIN_GRP (k : Nat) : Nat := 0xF0051000 + k * 0x4
def PIN_GRP_IN_EN : Field := ⟨31, 31, .rws, []⟩
def PIN_GRP_STAMP : Field := ⟨30, 29, .rws, [(3, 3)]⟩

def regTableSys0 : List RegDesc := [
  ⟨0xF0000000, [], 0x5120, .plain, [SYS_DEV_ID_PART]⟩,
  ⟨0xF0000004, [], 0xB00, .plain, [SYS_REV_MAJOR, SYS_REV_MINOR]⟩,
  ⟨0xF0000008, [], 0x0, .plain, [SYS_UID_LO_UID_LO]⟩,
  ⟨0xF000000C, [], 0x0, .plain, [SYS_UID_HI_UID_HI]⟩,
  ⟨0xF0000010, [], 0x0, .plain, [SYS_STATUS_RSVD_WR, SYS_STATUS_STAGE_WR]⟩,
  ⟨0xF0000014, [], 0x0, .plain, [SYS_RSVD_ADDR_ADDR]⟩,
  ⟨0xF0000018, [], 0x0, .plain, [SYS_RSVD_SRC_VALID, SYS_RSVD_SRC_KIND, SYS_RSVD_SRC_MORE, SYS_RSVD_SRC_SOURCE]⟩,
  ⟨0xF000001C, [], 0x1, .plain, [SYS_GRADE_GRADE]⟩,
  ⟨0xF0000020, [], 0x0, .plain, [SYS_CLK_LOCK_LOCK]⟩,
  ⟨0xF0000024, [], 0x0, .plain, [SYS_CLK_LOST_LOST]⟩]
/-- Every register row of the SYS group. -/
def regTableSys : List RegDesc := regTableSys0

def regTableAng0 : List RegDesc := [
  ⟨0xF0010000, [], 0x0, .plain, [ANG_STATUS_RSVD_WR, ANG_STATUS_STAGE_WR, ANG_STATUS_PSTG, ANG_STATUS_HEADWATER, ANG_STATUS_FENCED, ANG_STATUS_ACTIVE, ANG_STATUS_COAST, ANG_STATUS_LOCKED]⟩,
  ⟨0xF0010004, [], 0x0, .plain, [ANG_CTL_OUT_PERIOD, ANG_CTL_SRC_EN, ANG_CTL_PRIMARY]⟩,
  ⟨0xF0010010, [], 0x0, .timeLo, [ANG_TIME_LO_CNT_LO]⟩,
  ⟨0xF0010014, [], 0x0, .timeHi, [ANG_TIME_HI_CNT_HI]⟩,
  ⟨0xF0010018, [], 0x0, .timeHi2, [ANG_TIME_HI2_OVF, ANG_TIME_HI2_CNT_HI2]⟩,
  ⟨0xF0010020, [], 0x0, .posLo, [ANG_POS_LO_FRAC]⟩,
  ⟨0xF0010024, [], 0x0, .posHi, [ANG_POS_HI_CYCLE]⟩,
  ⟨0xF0010028, [], 0x0, .plain, [ANG_VEL_VEL]⟩,
  ⟨0xF0010040, [], 0x300, .plain, [ANG_EPOCH_CTL_REPEAT, ANG_EPOCH_CTL_CMD]⟩,
  ⟨0xF0010044, [], 0x0, .plain, [ANG_EPOCH_E_LO_FRAC]⟩,
  ⟨0xF0010048, [], 0x0, .plain, [ANG_EPOCH_E_HI_CYCLE]⟩,
  ⟨0xF001004C, [], 0x40000, .plain, [ANG_EPOCH_LEAD_LEAD]⟩,
  ⟨0xF0010050, [], 0x0, .plain, [ANG_EPOCH_STAT_RESULT, ANG_EPOCH_STAT_CMDREJ, ANG_EPOCH_STAT_STATE]⟩,
  ⟨0xF0010054, [], 0x0, .plain, [ANG_CFG_GEN_GEN]⟩,
  ⟨0xF0010058, [], 0x0, .plain, [ANG_EPOCH_MISS_VALID, ANG_EPOCH_MISS_DEV]⟩,
  ⟨0xF001005C, [], 0x0, .plain, [ANG_FENCE_LIFT, ANG_FENCE_MORE, ANG_FENCE_CAUSE]⟩,
  ⟨0xF0010060, [], 0x0, .counterLo, counterLoFields⟩,
  ⟨0xF0010064, [], 0x0, .counterHi, counterHiFields⟩,
  ⟨0xF0010100, [(4, 0x80)], 0x0, .plain, [ANG_SRC_CFG_FILT, ANG_SRC_CFG_INV, ANG_SRC_CFG_KIND]⟩,
  ⟨0xF0010104, [(4, 0x80)], 0x0, .plain, [ANG_SRC_EPC_EPC]⟩,
  ⟨0xF0010108, [(4, 0x80)], 0x0, .plain, [ANG_SRC_IDX_ZERR_TH, ANG_SRC_IDX_ZDIV]⟩,
  ⟨0xF001010C, [(4, 0x80)], 0x0, .plain, [ANG_SRC_ZOFF_ZOFF]⟩,
  ⟨0xF0010110, [(4, 0x80)], 0x0, .plain, [ANG_SRC_SSI_PERIOD, ANG_SRC_SSI_CLKDIV, ANG_SRC_SSI_GRAY, ANG_SRC_SSI_BITS]⟩,
  ⟨0xF0010114, [(4, 0x80)], 0x8000203, .plain, [ANG_SRC_LOOP_ERR_MAX, ANG_SRC_LOOP_MISS, ANG_SRC_LOOP_REV_HYST, ANG_SRC_LOOP_AFF, ANG_SRC_LOOP_BW]⟩]
def regTableAng1 : List RegDesc := [
  ⟨0xF0010118, [(4, 0x80)], 0x0, .plain, [ANG_SRC_STILL_V_STILL]⟩,
  ⟨0xF001011C, [(4, 0x80)], 0x0, .plain, [ANG_SRC_FAIL_COAST_CYC, ANG_SRC_FAIL_BACKUP, ANG_SRC_FAIL_BACKUP_EN]⟩,
  ⟨0xF0010120, [(4, 0x80)], 0x0, .plain, [ANG_SRC_STAT_LATE, ANG_SRC_STAT_ILL, ANG_SRC_STAT_ZERR, ANG_SRC_STAT_CAUSE, ANG_SRC_STAT_ALIGNED, ANG_SRC_STAT_BW_LIM, ANG_SRC_STAT_LOST, ANG_SRC_STAT_CLAMP, ANG_SRC_STAT_REV, ANG_SRC_STAT_STILL, ANG_SRC_STAT_LOCKED]⟩,
  ⟨0xF0010124, [(4, 0x80)], 0x0, .counterLo, counterLoFields⟩,
  ⟨0xF0010128, [(4, 0x80)], 0x0, .counterHi, counterHiFields⟩,
  ⟨0xF001012C, [(4, 0x80)], 0x0, .plain, [ANG_SRC_VEL_VEL]⟩,
  ⟨0xF0010130, [(4, 0x80)], 0x0, .plain, [ANG_SRC_ALIGN_ALIGN]⟩,
  ⟨0xF0010134, [(4, 0x80)], 0x0, .counterLo, counterLoFields⟩,
  ⟨0xF0010138, [(4, 0x80)], 0x0, .counterHi, counterHiFields⟩,
  ⟨0xF001013C, [(4, 0x80)], 0x0, .counterLo, counterLoFields⟩,
  ⟨0xF0010140, [(4, 0x80)], 0x0, .counterHi, counterHiFields⟩,
  ⟨0xF0010400, [(16, 0x10)], 0x0, .plain, [ANG_IDLE_START_START]⟩,
  ⟨0xF0010404, [(16, 0x10)], 0x0, .plain, [ANG_IDLE_END_END]⟩,
  ⟨0xF0010408, [(16, 0x10)], 0x0, .plain, [ANG_IDLE_CTL_EN, ANG_IDLE_CTL_OVERRUN, ANG_IDLE_CTL_TILES]⟩]
/-- Every register row of the ANG group. -/
def regTableAng : List RegDesc := regTableAng0 ++ regTableAng1

def regTableInst0 : List RegDesc := [
  ⟨0xF0060000, [], 0x0, .plain, [INST_STATUS_RSVD_WR, INST_STATUS_STAGE_WR]⟩,
  ⟨0xF0060008, [], 0x0, .plain, [INST_SV_HT_EN, INST_SV_HT_TILE, INST_SV_HT_SLOT]⟩]
/-- Every register row of the INST group. -/
def regTableInst : List RegDesc := regTableInst0

def regTableInstk0 : List RegDesc := [
  ⟨0x100000100, [(256, 0x1000)], 0x0, .plain, [INST_CTL_CMD]⟩,
  ⟨0x100000104, [(256, 0x1000)], 0x0, .plain, [INST_STATE_RESET_BUSY, INST_STATE_BADOP, INST_STATE_REF, INST_STATE_GEN, INST_STATE_STATE]⟩,
  ⟨0x100000108, [(256, 0x1000)], 0x0, .plain, [INST_PC_PC]⟩,
  ⟨0x10000010C, [(256, 0x1000)], 0x0, .plain, [INST_CFG_EN]⟩,
  ⟨0x100000110, [(256, 0x1000)], 0x0, .plain, [INST_HT_EN, INST_HT_SLOT]⟩,
  ⟨0x100000114, [(256, 0x1000)], 0x0, .plain, [INST_HELD_VALID, INST_HELD_SRC, INST_HELD_CODE, INST_HELD_SECOND, INST_HELD_FIRST]⟩,
  ⟨0x100000118, [(256, 0x1000)], 0x0, .plain, [INST_REFADDR_ADDR]⟩,
  ⟨0x100000120, [(256, 0x1000)], 0x0, .counterLo, counterLoFields⟩,
  ⟨0x100000124, [(256, 0x1000)], 0x0, .counterHi, counterHiFields⟩,
  ⟨0x100000200, [(256, 0x1000), (16, 0x10)], 0x0, .plain, [INST_MPU_BASE_LO_BASE, INST_MPU_BASE_LO_EN, INST_MPU_BASE_LO_X, INST_MPU_BASE_LO_W, INST_MPU_BASE_LO_R]⟩,
  ⟨0x100000204, [(256, 0x1000), (16, 0x10)], 0x0, .plain, [INST_MPU_BASE_HI_BASE_HI]⟩,
  ⟨0x100000208, [(256, 0x1000), (16, 0x10)], 0x0, .plain, [INST_MPU_LIM_LO_LIMIT]⟩,
  ⟨0x10000020C, [(256, 0x1000), (16, 0x10)], 0x0, .plain, [INST_MPU_LIM_HI_LIMIT_HI]⟩,
  ⟨0x200000004, [(512, 0x100)], 0x0, .plain, [INST_SEL_INST]⟩,
  ⟨0x200000010, [(512, 0x100)], 0x0, .plain, [INST_UOWN_SEL_KIND, INST_UOWN_SEL_INDEX]⟩,
  ⟨0x400000000, [(16, 0x10000), (16384, 0x4)], 0x0, .plain, [INST_UOWN_MODE, INST_UOWN_INST]⟩]
/-- Every register row of the INSTK group. -/
def regTableInstk : List RegDesc := regTableInstk0

def regTableIrq0 : List RegDesc := [
  ⟨0xF0040000, [], 0x0, .plain, [IRQ_STATUS_RSVD_WR, IRQ_STATUS_STAGE_WR, IRQ_STATUS_DONE_REJ]⟩,
  ⟨0xF0040008, [], 0x0, .plain, [IRQ_DONE_SRC]⟩,
  ⟨0xF004000C, [], 0x0, .plain, [IRQ_SWSET_SRC]⟩,
  ⟨0xF0040800, [(256, 0x8)], 0x0, .plain, [IRQ_UF_UNIT_UNIT]⟩,
  ⟨0xF0040804, [(256, 0x8)], 0x0, .plain, [IRQ_UF_STAT_VALID, IRQ_UF_STAT_MORE, IRQ_UF_STAT_SUB, IRQ_UF_STAT_GEN]⟩,
  ⟨0xF0041000, [(128, 0x4)], 0x0, .plain, [IRQ_PEND_PEND]⟩]
/-- Every register row of the IRQ group. -/
def regTableIrq : List RegDesc := regTableIrq0

def regTableIrqk0 : List RegDesc := [
  ⟨0x200000024, [(512, 0x100)], 0xFFF, .plain, [IRQ_CLAIM_SRC]⟩,
  ⟨0x200000030, [(512, 0x100)], 0x0, .plain, [IRQ_TSEL_SRC]⟩,
  ⟨0x300000000, [(4096, 0x40)], 0x0, .plain, [IRQ_TCTL_SV, IRQ_TCTL_STATE, IRQ_TCTL_KIND, IRQ_TCTL_RE, IRQ_TCTL_CLAIMER]⟩,
  ⟨0x300000020, [(4096, 0x40), (8, 0x4)], 0x0, .plain, [IRQ_TMASK_MASK]⟩]
/-- Every register row of the IRQK group. -/
def regTableIrqk : List RegDesc := regTableIrqk0

def regTablePin0 : List RegDesc := [
  ⟨0xF0050000, [], 0x0, .plain, [PIN_STATUS_RSVD_WR, PIN_STATUS_STAGE_WR, PIN_STATUS_PIN_REJ, PIN_STATUS_SDROP, PIN_STATUS_LATE]⟩,
  ⟨0xF0050004, [], 0x0, .plain, [PIN_REJ_VALID, PIN_REJ_CAUSE, PIN_REJ_SOURCE, PIN_REJ_PIN]⟩,
  ⟨0xF0050008, [], 0x0, .plain, [PIN_BANKV_V33]⟩,
  ⟨0xF005000C, [], 0x0, .plain, [PIN_WAKE_VALID, PIN_WAKE_PIN]⟩,
  ⟨0xF0050010, [], 0x0, .counterLo, counterLoFields⟩,
  ⟨0xF0050014, [], 0x0, .counterHi, counterHiFields⟩,
  ⟨0xF0050018, [], 0x0, .counterLo, counterLoFields⟩,
  ⟨0xF005001C, [], 0x0, .counterHi, counterHiFields⟩,
  ⟨0xF0050040, [(16, 0x4)], 0x0, .plain, [PIN_IN_LVL]⟩,
  ⟨0xF0050080, [(16, 0x4)], 0x0, .plain, [PIN_OUT_MASK, PIN_OUT_DATA]⟩,
  ⟨0xF00500C0, [(16, 0x4)], 0x0, .plain, [PIN_OE_MASK, PIN_OE_OE]⟩,
  ⟨0xF0050400, [(256, 0x4)], 0x40500, .plain, [PIN_CFG_OWN, PIN_CFG_INST, PIN_CFG_SAFE, PIN_CFG_ASRC, PIN_CFG_WAKE, PIN_CFG_WPOL, PIN_CFG_FILT, PIN_CFG_PULL, PIN_CFG_DRIVE, PIN_CFG_SLEW, PIN_CFG_OD, PIN_CFG_MUX]⟩,
  ⟨0xF0050800, [(256, 0x4)], 0x8200820, .plain, [PIN_FAB_OE_SRC, PIN_FAB_OUT_SRC]⟩,
  ⟨0xF0050C00, [(32, 0x20)], 0x0, .plain, [PM_CTL_EN, PM_CTL_MODE, PM_CTL_WIN]⟩,
  ⟨0xF0050C04, [(32, 0x20)], 0x0, .plain, [PM_VAL_VAL]⟩,
  ⟨0xF0050C08, [(32, 0x20)], 0x0, .plain, [PM_MASK_MASK]⟩,
  ⟨0xF0050C0C, [(32, 0x20)], 0x0, .plain, [PM_LVL_LVL]⟩,
  ⟨0xF0050C10, [(32, 0x20)], 0x0, .pairLo, [PM_TIME_LO_TIME]⟩,
  ⟨0xF0050C14, [(32, 0x20)], 0x0, .pairHi, [PM_TIME_HI_TIME]⟩,
  ⟨0xF0050C18, [(32, 0x20)], 0x0, .pairLo, [PM_ANG_LO_ANG]⟩,
  ⟨0xF0050C1C, [(32, 0x20)], 0x0, .pairHi, [PM_ANG_HI_ANG]⟩,
  ⟨0xF0051000, [(32, 0x4)], 0x0, .plain, [PIN_GRP_IN_EN, PIN_GRP_STAMP]⟩]
/-- Every register row of the PIN group. -/
def regTablePin : List RegDesc := regTablePin0

end Sys2Proof.Machine
end

