-- ==== Sys2Proof/Machine/RegsDrive.lean ====
section
/-! DEFINITION. The register tables of the spec: the drive, Weir, Confluence, logic and observation registers.
Each register has its address as a function of its unit or entry number, one constant per field
(bits, access code, reserved encodings) and one row of the block table (R7, R13-R17). -/

namespace Sys2Proof.Machine

/-- `DRV_STATUS` (08_drive_weir_and_shot_learning.md). -/
def DRV_STATUS (u : Nat) : Nat := 0xF1030000 + u / 32 * 0x100000 + u % 32 * 0x100
def DRV_STATUS_RSVD_WR : Field := ⟨31, 31, .w1c, []⟩
def DRV_STATUS_STAGE_WR : Field := ⟨30, 30, .w1c, []⟩
def DRV_STATUS_LCAUSE : Field := ⟨23, 20, .ro, []⟩
def DRV_STATUS_SKCAUSE : Field := ⟨19, 18, .ro, []⟩
def DRV_STATUS_LRN_BUSY : Field := ⟨17, 17, .ro, []⟩
def DRV_STATUS_BADOP : Field := ⟨15, 15, .w1c, []⟩
def DRV_STATUS_LRNERR : Field := ⟨14, 14, .w1c, []⟩
def DRV_STATUS_IWIN : Field := ⟨13, 13, .w1c, []⟩
def DRV_STATUS_SKIP : Field := ⟨12, 12, .w1c, []⟩
def DRV_STATUS_DEFER : Field := ⟨11, 11, .w1c, []⟩
def DRV_STATUS_LATE : Field := ⟨10, 10, .w1c, []⟩
def DRV_STATUS_TRIPPED : Field := ⟨9, 9, .w1c, []⟩
def DRV_STATUS_LATCH : Field := ⟨7, 7, .ro, []⟩
def DRV_STATUS_PEND : Field := ⟨6, 6, .ro, []⟩
def DRV_STATUS_BUSY : Field := ⟨5, 5, .ro, []⟩
def DRV_STATUS_PINST : Field := ⟨1, 0, .ro, []⟩

/-- `DRV_CTL` (08_drive_weir_and_shot_learning.md). -/
def DRV_CTL (u : Nat) : Nat := 0xF1030004 + u / 32 * 0x100000 + u % 32 * 0x100
def DRV_CTL_PROF : Field := ⟨5, 4, .wo, []⟩
def DRV_CTL_CMD : Field := ⟨2, 0, .wo, [(6, 7)]⟩

/-- `DRV_CFG` (08_drive_weir_and_shot_learning.md). -/
def DRV_CFG (u : Nat) : Nat := 0xF1030008 + u / 32 * 0x100000 + u % 32 * 0x100
def DRV_CFG_TRIP_IE : Field := ⟨30, 30, .rws, []⟩
def DRV_CFG_TRIPM : Field := ⟨29, 28, .rws, [(3, 3)]⟩
def DRV_CFG_POLICY : Field := ⟨27, 27, .rws, []⟩
def DRV_CFG_SAFE : Field := ⟨26, 26, .rws, []⟩
def DRV_CFG_POL : Field := ⟨25, 25, .rws, []⟩
def DRV_CFG_TOL : Field := ⟨23, 8, .rws, []⟩
def DRV_CFG_EN : Field := ⟨7, 7, .rw, []⟩
def DRV_CFG_MODE : Field := ⟨1, 0, .rws, [(3, 3)]⟩

/-- `DRV_TRIP_H` (08_drive_weir_and_shot_learning.md). -/
def DRV_TRIP_H (u : Nat) : Nat := 0xF103000C + u / 32 * 0x100000 + u % 32 * 0x100
def DRV_TRIP_H_MASK : Field := ⟨31, 0, .rws, []⟩

/-- `DRV_TRIP_L` (08_drive_weir_and_shot_learning.md). -/
def DRV_TRIP_L (u : Nat) : Nat := 0xF1030010 + u / 32 * 0x100000 + u % 32 * 0x100
def DRV_TRIP_L_MASK : Field := ⟨31, 0, .rws, []⟩

/-- `DRV_PWM` (08_drive_weir_and_shot_learning.md). -/
def DRV_PWM (u : Nat) : Nat := 0xF1030014 + u / 32 * 0x100000 + u % 32 * 0x100
def DRV_PWM_ON : Field := ⟨31, 16, .rws, []⟩
def DRV_PWM_PERIOD : Field := ⟨15, 0, .rws, []⟩

/-- `DRV_PROF_A` (08_drive_weir_and_shot_learning.md). -/
def DRV_PROF_A (u : Nat) (p : Nat) : Nat := 0xF1030020 + u / 32 * 0x100000 + u % 32 * 0x100 + p * 0x8
def DRV_PROF_A_T1 : Field := ⟨23, 0, .rws, []⟩

/-- `DRV_PROF_B` (08_drive_weir_and_shot_learning.md). -/
def DRV_PROF_B (u : Nat) (p : Nat) : Nat := 0xF1030024 + u / 32 * 0x100000 + u % 32 * 0x100 + p * 0x8
def DRV_PROF_B_NREP : Field := ⟨31, 24, .rws, []⟩
def DRV_PROF_B_T2 : Field := ⟨23, 0, .rws, []⟩

/-- `DRV_SHOT_ANG_LO` (08_drive_weir_and_shot_learning.md). -/
def DRV_SHOT_ANG_LO (u : Nat) : Nat := 0xF1030040 + u / 32 * 0x100000 + u % 32 * 0x100
def DRV_SHOT_ANG_LO_FRAC : Field := ⟨31, 0, .ro, []⟩

/-- `DRV_SHOT_ANG_HI` (08_drive_weir_and_shot_learning.md). -/
def DRV_SHOT_ANG_HI (u : Nat) : Nat := 0xF1030044 + u / 32 * 0x100000 + u % 32 * 0x100
def DRV_SHOT_ANG_HI_CYCLE : Field := ⟨15, 0, .ro, []⟩

/-- `DRV_SHOT_LATE` (08_drive_weir_and_shot_learning.md). -/
def DRV_SHOT_LATE (u : Nat) : Nat := 0xF1030048 + u / 32 * 0x100000 + u % 32 * 0x100
def DRV_SHOT_LATE_LATE : Field := ⟨31, 0, .ro, []⟩

/-- `DRV_TRIP_REC` (08_drive_weir_and_shot_learning.md). -/
def DRV_TRIP_REC (u : Nat) : Nat := 0xF103004C + u / 32 * 0x100000 + u % 32 * 0x100
def DRV_TRIP_REC_VALID : Field := ⟨31, 31, .w1c, []⟩
def DRV_TRIP_REC_AT_START : Field := ⟨30, 30, .ro, []⟩
def DRV_TRIP_REC_CMP : Field := ⟨6, 6, .ro, []⟩
def DRV_TRIP_REC_CELL : Field := ⟨4, 0, .ro, []⟩

/-- `DRV_TRIP_ANG_LO` (08_drive_weir_and_shot_learning.md). -/
def DRV_TRIP_ANG_LO (u : Nat) : Nat := 0xF1030050 + u / 32 * 0x100000 + u % 32 * 0x100
def DRV_TRIP_ANG_LO_VAL : Field := ⟨31, 0, .ro, []⟩

/-- `DRV_TRIP_ANG_HI` (08_drive_weir_and_shot_learning.md). -/
def DRV_TRIP_ANG_HI (u : Nat) : Nat := 0xF1030054 + u / 32 * 0x100000 + u % 32 * 0x100
def DRV_TRIP_ANG_HI_VAL : Field := ⟨15, 0, .ro, []⟩

/-- `DRV_TRIP_TIME_LO` (08_drive_weir_and_shot_learning.md). -/
def DRV_TRIP_TIME_LO (u : Nat) : Nat := 0xF1030058 + u / 32 * 0x100000 + u % 32 * 0x100
def DRV_TRIP_TIME_LO_VAL : Field := ⟨31, 0, .ro, []⟩

/-- `DRV_TRIP_TIME_HI` (08_drive_weir_and_shot_learning.md). -/
def DRV_TRIP_TIME_HI (u : Nat) : Nat := 0xF103005C + u / 32 * 0x100000 + u % 32 * 0x100
def DRV_TRIP_TIME_HI_VAL : Field := ⟨15, 0, .ro, []⟩

/-- `DRV_LRN_CFG` (08_drive_weir_and_shot_learning.md). -/
def DRV_LRN_CFG (u : Nat) : Nat := 0xF1030060 + u / 32 * 0x100000 + u % 32 * 0x100
def DRV_LRN_CFG_EN : Field := ⟨31, 31, .rws, []⟩
def DRV_LRN_CFG_SKIND : Field := ⟨30, 30, .rws, []⟩
def DRV_LRN_CFG_SIGN : Field := ⟨29, 29, .rws, []⟩
def DRV_LRN_CFG_K : Field := ⟨28, 24, .rws, []⟩
def DRV_LRN_CFG_ENG : Field := ⟨20, 19, .rws, []⟩
def DRV_LRN_CFG_CH : Field := ⟨18, 16, .rws, []⟩
def DRV_LRN_CFG_R : Field := ⟨5, 0, .rws, [(0, 0)]⟩

/-- `DRV_LRN_LEN` (08_drive_weir_and_shot_learning.md). -/
def DRV_LRN_LEN (u : Nat) : Nat := 0xF1030064 + u / 32 * 0x100000 + u % 32 * 0x100
def DRV_LRN_LEN_N : Field := ⟨28, 16, .rws, [(0, 0), (4097, 8191)]⟩
def DRV_LRN_LEN_M : Field := ⟨10, 0, .rws, [(0, 0), (1025, 2047)]⟩

/-- `DRV_LRN_TPL` (08_drive_weir_and_shot_learning.md). -/
def DRV_LRN_TPL (u : Nat) : Nat := 0xF1030068 + u / 32 * 0x100000 + u % 32 * 0x100
def DRV_LRN_TPL_OFF : Field := ⟨21, 2, .rws, []⟩

/-- `DRV_LRN_BASE` (08_drive_weir_and_shot_learning.md). -/
def DRV_LRN_BASE (u : Nat) : Nat := 0xF103006C + u / 32 * 0x100000 + u % 32 * 0x100
def DRV_LRN_BASE_OFF : Field := ⟨21, 2, .rws, []⟩

/-- `DRV_LRN_COR` (08_drive_weir_and_shot_learning.md). -/
def DRV_LRN_COR (u : Nat) : Nat := 0xF1030070 + u / 32 * 0x100000 + u % 32 * 0x100
def DRV_LRN_COR_OFF : Field := ⟨21, 2, .rws, []⟩

/-- `DRV_LRN_BOUND` (08_drive_weir_and_shot_learning.md). -/
def DRV_LRN_BOUND (u : Nat) : Nat := 0xF1030074 + u / 32 * 0x100000 + u % 32 * 0x100
def DRV_LRN_BOUND_CMAX : Field := ⟨29, 16, .rws, []⟩
def DRV_LRN_BOUND_DMAX : Field := ⟨13, 0, .rws, []⟩

/-- `DRV_LRN_AUX` (08_drive_weir_and_shot_learning.md). -/
def DRV_LRN_AUX (u : Nat) : Nat := 0xF1030078 + u / 32 * 0x100000 + u % 32 * 0x100
def DRV_LRN_AUX_DEAD : Field := ⟨31, 16, .rws, []⟩
def DRV_LRN_AUX_LAG : Field := ⟨9, 0, .rws, []⟩

/-- `DRV_LRN_EMAX` (08_drive_weir_and_shot_learning.md). -/
def DRV_LRN_EMAX (u : Nat) : Nat := 0xF103007C + u / 32 * 0x100000 + u % 32 * 0x100
def DRV_LRN_EMAX_EMAX : Field := ⟨23, 0, .ro, []⟩

/-- `DRV_SHOTS_LO` (08_drive_weir_and_shot_learning.md). -/
def DRV_SHOTS_LO (u : Nat) : Nat := 0xF1030080 + u / 32 * 0x100000 + u % 32 * 0x100

/-- `DRV_SHOTS_HI` (08_drive_weir_and_shot_learning.md). -/
def DRV_SHOTS_HI (u : Nat) : Nat := 0xF1030084 + u / 32 * 0x100000 + u % 32 * 0x100

/-- `DRV_TRIPS_LO` (08_drive_weir_and_shot_learning.md). -/
def DRV_TRIPS_LO (u : Nat) : Nat := 0xF1030088 + u / 32 * 0x100000 + u % 32 * 0x100

/-- `DRV_TRIPS_HI` (08_drive_weir_and_shot_learning.md). -/
def DRV_TRIPS_HI (u : Nat) : Nat := 0xF103008C + u / 32 * 0x100000 + u % 32 * 0x100

/-- `DRV_STAG_LO` (08_drive_weir_and_shot_learning.md). -/
def DRV_STAG_LO (u : Nat) : Nat := 0xF1030090 + u / 32 * 0x100000 + u % 32 * 0x100

/-- `DRV_STAG_HI` (08_drive_weir_and_shot_learning.md). -/
def DRV_STAG_HI (u : Nat) : Nat := 0xF1030094 + u / 32 * 0x100000 + u % 32 * 0x100

/-- `DRV_DEFER_LO` (08_drive_weir_and_shot_learning.md). -/
def DRV_DEFER_LO (u : Nat) : Nat := 0xF1030098 + u / 32 * 0x100000 + u % 32 * 0x100

/-- `DRV_DEFER_HI` (08_drive_weir_and_shot_learning.md). -/
def DRV_DEFER_HI (u : Nat) : Nat := 0xF103009C + u / 32 * 0x100000 + u % 32 * 0x100

/-- `DRV_SKIP_LO` (08_drive_weir_and_shot_learning.md). -/
def DRV_SKIP_LO (u : Nat) : Nat := 0xF10300A0 + u / 32 * 0x100000 + u % 32 * 0x100

/-- `DRV_SKIP_HI` (08_drive_weir_and_shot_learning.md). -/
def DRV_SKIP_HI (u : Nat) : Nat := 0xF10300A4 + u / 32 * 0x100000 + u % 32 * 0x100

/-- `DRV_IWIN_LO` (08_drive_weir_and_shot_learning.md). -/
def DRV_IWIN_LO (u : Nat) : Nat := 0xF10300A8 + u / 32 * 0x100000 + u % 32 * 0x100

/-- `DRV_IWIN_HI` (08_drive_weir_and_shot_learning.md). -/
def DRV_IWIN_HI (u : Nat) : Nat := 0xF10300AC + u / 32 * 0x100000 + u % 32 * 0x100

/-- `DRV_LATE_LO` (08_drive_weir_and_shot_learning.md). -/
def DRV_LATE_LO (u : Nat) : Nat := 0xF10300B0 + u / 32 * 0x100000 + u % 32 * 0x100

/-- `DRV_LATE_HI` (08_drive_weir_and_shot_learning.md). -/
def DRV_LATE_HI (u : Nat) : Nat := 0xF10300B4 + u / 32 * 0x100000 + u % 32 * 0x100

/-- `DRV_DISC_LO` (08_drive_weir_and_shot_learning.md). -/
def DRV_DISC_LO (u : Nat) : Nat := 0xF10300B8 + u / 32 * 0x100000 + u % 32 * 0x100

/-- `DRV_DISC_HI` (08_drive_weir_and_shot_learning.md). -/
def DRV_DISC_HI (u : Nat) : Nat := 0xF10300BC + u / 32 * 0x100000 + u % 32 * 0x100

/-- `DRV_LRN_OK_LO` (08_drive_weir_and_shot_learning.md). -/
def DRV_LRN_OK_LO (u : Nat) : Nat := 0xF10300C0 + u / 32 * 0x100000 + u % 32 * 0x100

/-- `DRV_LRN_OK_HI` (08_drive_weir_and_shot_learning.md). -/
def DRV_LRN_OK_HI (u : Nat) : Nat := 0xF10300C4 + u / 32 * 0x100000 + u % 32 * 0x100

/-- `DRV_LRN_TRIP_LO` (08_drive_weir_and_shot_learning.md). -/
def DRV_LRN_TRIP_LO (u : Nat) : Nat := 0xF10300C8 + u / 32 * 0x100000 + u % 32 * 0x100

/-- `DRV_LRN_TRIP_HI` (08_drive_weir_and_shot_learning.md). -/
def DRV_LRN_TRIP_HI (u : Nat) : Nat := 0xF10300CC + u / 32 * 0x100000 + u % 32 * 0x100

/-- `DRV_LRN_BAD_LO` (08_drive_weir_and_shot_learning.md). -/
def DRV_LRN_BAD_LO (u : Nat) : Nat := 0xF10300D0 + u / 32 * 0x100000 + u % 32 * 0x100

/-- `DRV_LRN_BAD_HI` (08_drive_weir_and_shot_learning.md). -/
def DRV_LRN_BAD_HI (u : Nat) : Nat := 0xF10300D4 + u / 32 * 0x100000 + u % 32 * 0x100

/-- `DRV_LRN_MISS_LO` (08_drive_weir_and_shot_learning.md). -/
def DRV_LRN_MISS_LO (u : Nat) : Nat := 0xF10300D8 + u / 32 * 0x100000 + u % 32 * 0x100

/-- `DRV_LRN_MISS_HI` (08_drive_weir_and_shot_learning.md). -/
def DRV_LRN_MISS_HI (u : Nat) : Nat := 0xF10300DC + u / 32 * 0x100000 + u % 32 * 0x100

/-- `DRV_COM_STATUS` (08_drive_weir_and_shot_learning.md). -/
def DRV_COM_STATUS (u : Nat) : Nat := 0xF1038000 + u * 0x100000
def DRV_COM_STATUS_RSVD_WR : Field := ⟨31, 31, .w1c, []⟩
def DRV_COM_STATUS_STAGE_WR : Field := ⟨30, 30, .w1c, []⟩

/-- `DRV_BUDGET` (08_drive_weir_and_shot_learning.md). -/
def DRV_BUDGET (u : Nat) : Nat := 0xF1038004 + u * 0x100000
def DRV_BUDGET_WIN_TILE : Field := ⟨31, 16, .rws, []⟩
def DRV_BUDGET_STEP_TILE : Field := ⟨5, 0, .rws, [(33, 63)]⟩

/-- `DRV_DEV_BUDGET` (08_drive_weir_and_shot_learning.md). -/
def DRV_DEV_BUDGET : Nat := 0xF1038008
def DRV_DEV_BUDGET_WIN_DEV : Field := ⟨31, 16, .rws, []⟩
def DRV_DEV_BUDGET_WIN_L : Field := ⟨15, 10, .rws, [(0, 15), (33, 63)]⟩
def DRV_DEV_BUDGET_STEP_DEV : Field := ⟨9, 0, .rws, [(513, 1023)]⟩

/-- `WEIR_STATUS` (08_drive_weir_and_shot_learning.md). -/
def WEIR_STATUS (u : Nat) : Nat := 0xF1040000 + u / 32 * 0x100000 + u % 32 * 0x40
def WEIR_STATUS_RSVD_WR : Field := ⟨31, 31, .w1c, []⟩
def WEIR_STATUS_STAGE_WR : Field := ⟨30, 30, .w1c, []⟩
def WEIR_STATUS_LATE : Field := ⟨4, 4, .w1c, []⟩
def WEIR_STATUS_LIVE_BL : Field := ⟨3, 3, .ro, []⟩
def WEIR_STATUS_LIVE_BH : Field := ⟨2, 2, .ro, []⟩
def WEIR_STATUS_LIVE_L : Field := ⟨1, 1, .ro, []⟩
def WEIR_STATUS_LIVE_H : Field := ⟨0, 0, .ro, []⟩

/-- `WEIR_CFG` (08_drive_weir_and_shot_learning.md). -/
def WEIR_CFG (u : Nat) : Nat := 0xF1040004 + u / 32 * 0x100000 + u % 32 * 0x40
def WEIR_CFG_HYST : Field := ⟨15, 14, .rws, []⟩
def WEIR_CFG_RES : Field := ⟨13, 12, .rws, []⟩
def WEIR_CFG_MODE_L : Field := ⟨11, 10, .rws, []⟩
def WEIR_CFG_MODE_H : Field := ⟨9, 8, .rws, []⟩
def WEIR_CFG_CIN : Field := ⟨4, 4, .rws, []⟩
def WEIR_CFG_ENL : Field := ⟨1, 1, .rw, []⟩
def WEIR_CFG_ENH : Field := ⟨0, 0, .rw, []⟩

/-- `WEIR_TH` (08_drive_weir_and_shot_learning.md). -/
def WEIR_TH (u : Nat) : Nat := 0xF1040008 + u / 32 * 0x100000 + u % 32 * 0x40
def WEIR_TH_TH_H : Field := ⟨27, 16, .rw, []⟩
def WEIR_TH_TH_L : Field := ⟨11, 0, .rw, []⟩

/-- `WEIR_BLANK` (08_drive_weir_and_shot_learning.md). -/
def WEIR_BLANK (u : Nat) : Nat := 0xF104000C + u / 32 * 0x100000 + u % 32 * 0x40
def WEIR_BLANK_BEDGE : Field := ⟨31, 30, .rws, []⟩
def WEIR_BLANK_BSRC : Field := ⟨28, 24, .rws, []⟩
def WEIR_BLANK_BLEN : Field := ⟨13, 0, .rws, []⟩

/-- `WEIR_LATE_LO` (08_drive_weir_and_shot_learning.md). -/
def WEIR_LATE_LO (u : Nat) : Nat := 0xF1040010 + u / 32 * 0x100000 + u % 32 * 0x40

/-- `WEIR_LATE_HI` (08_drive_weir_and_shot_learning.md). -/
def WEIR_LATE_HI (u : Nat) : Nat := 0xF1040014 + u / 32 * 0x100000 + u % 32 * 0x40

/-- `CXB_STATUS` (09_confluence.md). -/
def CXB_STATUS : Nat := 0xF0020000
def CXB_STATUS_RSVD_WR : Field := ⟨31, 31, .w1c, []⟩
def CXB_STATUS_STAGE_WR : Field := ⟨30, 30, .w1c, []⟩
def CXB_STATUS_OWN_REJ : Field := ⟨29, 29, .w1c, []⟩
def CXB_STATUS_PERR : Field := ⟨28, 28, .w1c, []⟩
def CXB_STATUS_BORDER : Field := ⟨0, 0, .ro, []⟩

/-- `CXB_RNOW` (09_confluence.md). -/
def CXB_RNOW : Nat := 0xF0020004
def CXB_RNOW_DST : Field := ⟨26, 16, .wo, []⟩
def CXB_RNOW_SRC : Field := ⟨10, 0, .wo, []⟩

/-- `CXB_LOAD` (09_confluence.md). -/
def CXB_LOAD : Nat := 0xF0020008
def CXB_LOAD_PEAK : Field := ⟨31, 16, .rc, []⟩
def CXB_LOAD_LAST : Field := ⟨15, 0, .ro, []⟩

/-- `CXB_PERR_LO` (09_confluence.md). -/
def CXB_PERR_LO : Nat := 0xF0020010

/-- `CXB_PERR_HI` (09_confluence.md). -/
def CXB_PERR_HI : Nat := 0xF0020014

/-- `CXB_BSTAT` (09_confluence.md). -/
def CXB_BSTAT (w : Nat) : Nat := 0xF0020100 + w * 0x4
def CXB_BSTAT_BS : Field := ⟨31, 0, .ro, []⟩

/-- `CXB_ROUTE` (09_confluence.md). -/
def CXB_ROUTE (d : Nat) : Nat := 0xF0024000 + d * 0x4
def CXB_ROUTE_SRC : Field := ⟨10, 0, .rws, []⟩

/-- `CXB_OWN` (09_confluence.md). -/
def CXB_OWN (p : Nat) : Nat := 0xF0028000 + p * 0x4
def CXB_OWN_MODE : Field := ⟨31, 30, .rw, [(3, 3)]⟩
def CXB_OWN_SHARE : Field := ⟨9, 9, .rw, []⟩
def CXB_OWN_INST : Field := ⟨7, 0, .rw, []⟩

/-- `CXB_RR_CFG` (09_confluence.md). -/
def CXB_RR_CFG (r : Nat) : Nat := 0xF002C000 + r * 0x10
def CXB_RR_CFG_EN : Field := ⟨31, 31, .rws, []⟩
def CXB_RR_CFG_PEER_DEV : Field := ⟨30, 22, .rws, []⟩
def CXB_RR_CFG_PEER_SLOT : Field := ⟨21, 16, .rws, []⟩
def CXB_RR_CFG_RATE : Field := ⟨11, 0, .rws, [(2501, 4095)]⟩

/-- `CXB_RR_STAT` (09_confluence.md). -/
def CXB_RR_STAT (r : Nat) : Nat := 0xF002C004 + r * 0x10
def CXB_RR_STAT_CAUSE : Field := ⟨15, 8, .ro, []⟩
def CXB_RR_STAT_MISMATCH : Field := ⟨4, 4, .w1c, []⟩
def CXB_RR_STAT_DCHG : Field := ⟨3, 3, .w1c, []⟩
def CXB_RR_STAT_DROP : Field := ⟨2, 2, .w1c, []⟩
def CXB_RR_STAT_BORDER : Field := ⟨1, 1, .ro, []⟩
def CXB_RR_STAT_UP : Field := ⟨0, 0, .ro, []⟩

/-- `CXB_RR_DLY` (09_confluence.md). -/
def CXB_RR_DLY (r : Nat) : Nat := 0xF002C008 + r * 0x10
def CXB_RR_DLY_DLY : Field := ⟨15, 0, .ro, []⟩

/-- `CXB_RR_DROP_LO` (09_confluence.md). -/
def CXB_RR_DROP_LO (r : Nat) : Nat := 0xF002D000 + r * 0x8

/-- `CXB_RR_DROP_HI` (09_confluence.md). -/
def CXB_RR_DROP_HI (r : Nat) : Nat := 0xF002D004 + r * 0x8

/-- `LGC_STATUS` (10_logic_fabric.md). -/
def LGC_STATUS (u : Nat) : Nat := 0xF1060000 + u * 0x100000
def LGC_STATUS_RSVD_WR : Field := ⟨31, 31, .w1c, []⟩
def LGC_STATUS_STAGE_WR : Field := ⟨30, 30, .w1c, []⟩
def LGC_STATUS_OVR : Field := ⟨15, 0, .w1c, []⟩

/-- `LGC_PORT_CFG` (10_logic_fabric.md). -/
def LGC_PORT_CFG (u : Nat) (p : Nat) : Nat := 0xF1060040 + u * 0x100000 + p * 0x4
def LGC_PORT_CFG_REGION : Field := ⟨19, 16, .rws, []⟩
def LGC_PORT_CFG_GC : Field := ⟨10, 8, .rws, []⟩
def LGC_PORT_CFG_EN : Field := ⟨0, 0, .rws, []⟩

/-- `LGC_GC` (10_logic_fabric.md). -/
def LGC_GC (k : Nat) : Nat := 0xF1060100 + k * 0x4
def LGC_GC_EN : Field := ⟨31, 31, .rws, []⟩
def LGC_GC_DIV : Field := ⟨7, 0, .rws, [(0, 2)]⟩

/-- `LGC_RG_STATUS` (10_logic_fabric.md). -/
def LGC_RG_STATUS (u : Nat) : Nat := 0xF1050000 + u / 16 * 0x100000 + u % 16 * 0x1000
def LGC_RG_STATUS_CAUSE : Field := ⟨11, 8, .ro, []⟩
def LGC_RG_STATUS_BADOP : Field := ⟨7, 7, .w1c, []⟩
def LGC_RG_STATUS_CAP : Field := ⟨6, 6, .ro, []⟩
def LGC_RG_STATUS_PRB : Field := ⟨5, 5, .ro, []⟩
def LGC_RG_STATUS_LATE : Field := ⟨3, 3, .w1c, []⟩
def LGC_RG_STATUS_STATE : Field := ⟨2, 0, .ro, []⟩

/-- `LGC_RG_CTL` (10_logic_fabric.md). -/
def LGC_RG_CTL (u : Nat) : Nat := 0xF1050004 + u / 16 * 0x100000 + u % 16 * 0x1000
def LGC_RG_CTL_AUTO : Field := ⟨8, 8, .wo, []⟩
def LGC_RG_CTL_CMD : Field := ⟨2, 0, .wo, [(5, 7)]⟩

/-- `LGC_RG_IMG_LO` (10_logic_fabric.md). -/
def LGC_RG_IMG_LO (u : Nat) : Nat := 0xF1050008 + u / 16 * 0x100000 + u % 16 * 0x1000
def LGC_RG_IMG_LO_ADDR : Field := ⟨31, 6, .rw, []⟩

/-- `LGC_RG_IMG_HI` (10_logic_fabric.md). -/
def LGC_RG_IMG_HI (u : Nat) : Nat := 0xF105000C + u / 16 * 0x100000 + u % 16 * 0x1000
def LGC_RG_IMG_HI_ADDR_HI : Field := ⟨6, 0, .rw, []⟩

/-- `LGC_RG_CFG` (10_logic_fabric.md). -/
def LGC_RG_CFG (u : Nat) : Nat := 0xF1050010 + u / 16 * 0x100000 + u % 16 * 0x1000
def LGC_RG_CFG_PRB : Field := ⟨17, 17, .rws, []⟩
def LGC_RG_CFG_CAP : Field := ⟨16, 16, .rws, []⟩
def LGC_RG_CFG_GCEN : Field := ⟨7, 0, .rws, []⟩

/-- `LGC_RG_HOLD` (10_logic_fabric.md). -/
def LGC_RG_HOLD (u : Nat) (w : Nat) : Nat := 0xF1050020 + u / 16 * 0x100000 + u % 16 * 0x1000 + w * 0x4
def LGC_RG_HOLD_HOLD_0 : Field := ⟨1, 0, .rw, [(3, 3)]⟩
def LGC_RG_HOLD_HOLD_1 : Field := ⟨3, 2, .rw, [(3, 3)]⟩
def LGC_RG_HOLD_HOLD_2 : Field := ⟨5, 4, .rw, [(3, 3)]⟩
def LGC_RG_HOLD_HOLD_3 : Field := ⟨7, 6, .rw, [(3, 3)]⟩
def LGC_RG_HOLD_HOLD_4 : Field := ⟨9, 8, .rw, [(3, 3)]⟩
def LGC_RG_HOLD_HOLD_5 : Field := ⟨11, 10, .rw, [(3, 3)]⟩
def LGC_RG_HOLD_HOLD_6 : Field := ⟨13, 12, .rw, [(3, 3)]⟩
def LGC_RG_HOLD_HOLD_7 : Field := ⟨15, 14, .rw, [(3, 3)]⟩
def LGC_RG_HOLD_HOLD_8 : Field := ⟨17, 16, .rw, [(3, 3)]⟩
def LGC_RG_HOLD_HOLD_9 : Field := ⟨19, 18, .rw, [(3, 3)]⟩
def LGC_RG_HOLD_HOLD_10 : Field := ⟨21, 20, .rw, [(3, 3)]⟩
def LGC_RG_HOLD_HOLD_11 : Field := ⟨23, 22, .rw, [(3, 3)]⟩
def LGC_RG_HOLD_HOLD_12 : Field := ⟨25, 24, .rw, [(3, 3)]⟩
def LGC_RG_HOLD_HOLD_13 : Field := ⟨27, 26, .rw, [(3, 3)]⟩
def LGC_RG_HOLD_HOLD_14 : Field := ⟨29, 28, .rw, [(3, 3)]⟩
def LGC_RG_HOLD_HOLD_15 : Field := ⟨31, 30, .rw, [(3, 3)]⟩

/-- `OBS_STATUS` (10_logic_fabric.md). -/
def OBS_STATUS : Nat := 0xF0110000
def OBS_STATUS_RSVD_WR : Field := ⟨31, 31, .w1c, []⟩
def OBS_STATUS_STAGE_WR : Field := ⟨30, 30, .w1c, []⟩
def OBS_STATUS_LATE : Field := ⟨6, 6, .w1c, []⟩
def OBS_STATUS_DLOCK : Field := ⟨5, 5, .ro, []⟩
def OBS_STATUS_DENIED : Field := ⟨4, 4, .w1c, []⟩
def OBS_STATUS_LOST : Field := ⟨3, 3, .w1c, []⟩
def OBS_STATUS_MISSED : Field := ⟨2, 2, .w1c, []⟩
def OBS_STATUS_DONE : Field := ⟨1, 1, .w1c, []⟩
def OBS_STATUS_ARMED : Field := ⟨0, 0, .ro, []⟩

/-- `OBS_CAP_CTL` (10_logic_fabric.md). -/
def OBS_CAP_CTL : Nat := 0xF0110004
def OBS_CAP_CTL_ARM : Field := ⟨31, 31, .wo, []⟩
def OBS_CAP_CTL_GC : Field := ⟨30, 28, .rw, []⟩
def OBS_CAP_CTL_TRIG : Field := ⟨27, 26, .rw, [(3, 3)]⟩
def OBS_CAP_CTL_TILE : Field := ⟨25, 22, .rw, []⟩
def OBS_CAP_CTL_SRC : Field := ⟨11, 0, .rw, [(2082, 4095)]⟩

/-- `OBS_CAP_N` (10_logic_fabric.md). -/
def OBS_CAP_N : Nat := 0xF0110008
def OBS_CAP_N_N : Field := ⟨15, 0, .rw, []⟩

/-- `OBS_CAP_ANG_LO` (10_logic_fabric.md). -/
def OBS_CAP_ANG_LO : Nat := 0xF0110010
def OBS_CAP_ANG_LO_VAL : Field := ⟨31, 0, .rw, []⟩

/-- `OBS_CAP_ANG_HI` (10_logic_fabric.md). -/
def OBS_CAP_ANG_HI : Nat := 0xF0110014
def OBS_CAP_ANG_HI_VAL : Field := ⟨15, 0, .rw, []⟩

/-- `OBS_CAP_STAMP_LO` (10_logic_fabric.md). -/
def OBS_CAP_STAMP_LO : Nat := 0xF0110018
def OBS_CAP_STAMP_LO_VAL : Field := ⟨31, 0, .ro, []⟩

/-- `OBS_CAP_STAMP_HI` (10_logic_fabric.md). -/
def OBS_CAP_STAMP_HI : Nat := 0xF011001C
def OBS_CAP_STAMP_HI_VAL : Field := ⟨15, 0, .ro, []⟩

/-- `OBS_CAP_TIME_LO` (10_logic_fabric.md). -/
def OBS_CAP_TIME_LO : Nat := 0xF0110020
def OBS_CAP_TIME_LO_VAL : Field := ⟨31, 0, .ro, []⟩

/-- `OBS_CAP_TIME_HI` (10_logic_fabric.md). -/
def OBS_CAP_TIME_HI : Nat := 0xF0110024
def OBS_CAP_TIME_HI_VAL : Field := ⟨15, 0, .ro, []⟩

/-- `OBS_CAP_ADDR` (10_logic_fabric.md). -/
def OBS_CAP_ADDR : Nat := 0xF0110028
def OBS_CAP_ADDR_ADDR : Field := ⟨9, 0, .rw, []⟩

/-- `OBS_CAP_DATA` (10_logic_fabric.md). -/
def OBS_CAP_DATA : Nat := 0xF011002C
def OBS_CAP_DATA_DATA : Field := ⟨31, 0, .ro, []⟩

/-- `OBS_CAP_RV` (10_logic_fabric.md). -/
def OBS_CAP_RV (w : Nat) : Nat := 0xF0110040 + w * 0x4
def OBS_CAP_RV_RV : Field := ⟨31, 0, .ro, []⟩

/-- `OBS_PRB` (10_logic_fabric.md). -/
def OBS_PRB (k : Nat) : Nat := 0xF0110100 + k * 0x4
def OBS_PRB_EN : Field := ⟨31, 31, .rw, []⟩
def OBS_PRB_TILE : Field := ⟨19, 16, .rw, []⟩
def OBS_PRB_SRC : Field := ⟨11, 0, .rw, [(2082, 4095)]⟩

def regTableDrv0 : List RegDesc := [
  ⟨0xF1030000, [(16, 0x100000), (32, 0x100)], 0x0, .plain, [DRV_STATUS_RSVD_WR, DRV_STATUS_STAGE_WR, DRV_STATUS_LCAUSE, DRV_STATUS_SKCAUSE, DRV_STATUS_LRN_BUSY, DRV_STATUS_BADOP, DRV_STATUS_LRNERR, DRV_STATUS_IWIN, DRV_STATUS_SKIP, DRV_STATUS_DEFER, DRV_STATUS_LATE, DRV_STATUS_TRIPPED, DRV_STATUS_LATCH, DRV_STATUS_PEND, DRV_STATUS_BUSY, DRV_STATUS_PINST]⟩,
  ⟨0xF1030004, [(16, 0x100000), (32, 0x100)], 0x0, .plain, [DRV_CTL_PROF, DRV_CTL_CMD]⟩,
  ⟨0xF1030008, [(16, 0x100000), (32, 0x100)], 0x0, .plain, [DRV_CFG_TRIP_IE, DRV_CFG_TRIPM, DRV_CFG_POLICY, DRV_CFG_SAFE, DRV_CFG_POL, DRV_CFG_TOL, DRV_CFG_EN, DRV_CFG_MODE]⟩,
  ⟨0xF103000C, [(16, 0x100000), (32, 0x100)], 0x0, .plain, [DRV_TRIP_H_MASK]⟩,
  ⟨0xF1030010, [(16, 0x100000), (32, 0x100)], 0x0, .plain, [DRV_TRIP_L_MASK]⟩,
  ⟨0xF1030014, [(16, 0x100000), (32, 0x100)], 0x0, .plain, [DRV_PWM_ON, DRV_PWM_PERIOD]⟩,
  ⟨0xF1030020, [(16, 0x100000), (32, 0x100), (4, 0x8)], 0x0, .plain, [DRV_PROF_A_T1]⟩,
  ⟨0xF1030024, [(16, 0x100000), (32, 0x100), (4, 0x8)], 0x0, .plain, [DRV_PROF_B_NREP, DRV_PROF_B_T2]⟩,
  ⟨0xF1030040, [(16, 0x100000), (32, 0x100)], 0x0, .pairLo, [DRV_SHOT_ANG_LO_FRAC]⟩,
  ⟨0xF1030044, [(16, 0x100000), (32, 0x100)], 0x0, .pairHi, [DRV_SHOT_ANG_HI_CYCLE]⟩,
  ⟨0xF1030048, [(16, 0x100000), (32, 0x100)], 0x0, .plain, [DRV_SHOT_LATE_LATE]⟩,
  ⟨0xF103004C, [(16, 0x100000), (32, 0x100)], 0x0, .plain, [DRV_TRIP_REC_VALID, DRV_TRIP_REC_AT_START, DRV_TRIP_REC_CMP, DRV_TRIP_REC_CELL]⟩,
  ⟨0xF1030050, [(16, 0x100000), (32, 0x100)], 0x0, .pairLo, [DRV_TRIP_ANG_LO_VAL]⟩,
  ⟨0xF1030054, [(16, 0x100000), (32, 0x100)], 0x0, .pairHi, [DRV_TRIP_ANG_HI_VAL]⟩,
  ⟨0xF1030058, [(16, 0x100000), (32, 0x100)], 0x0, .pairLo, [DRV_TRIP_TIME_LO_VAL]⟩,
  ⟨0xF103005C, [(16, 0x100000), (32, 0x100)], 0x0, .pairHi, [DRV_TRIP_TIME_HI_VAL]⟩,
  ⟨0xF1030060, [(16, 0x100000), (32, 0x100)], 0x8000001, .plain, [DRV_LRN_CFG_EN, DRV_LRN_CFG_SKIND, DRV_LRN_CFG_SIGN, DRV_LRN_CFG_K, DRV_LRN_CFG_ENG, DRV_LRN_CFG_CH, DRV_LRN_CFG_R]⟩,
  ⟨0xF1030064, [(16, 0x100000), (32, 0x100)], 0x10001, .plain, [DRV_LRN_LEN_N, DRV_LRN_LEN_M]⟩,
  ⟨0xF1030068, [(16, 0x100000), (32, 0x100)], 0x0, .plain, [DRV_LRN_TPL_OFF]⟩,
  ⟨0xF103006C, [(16, 0x100000), (32, 0x100)], 0x0, .plain, [DRV_LRN_BASE_OFF]⟩,
  ⟨0xF1030070, [(16, 0x100000), (32, 0x100)], 0x0, .plain, [DRV_LRN_COR_OFF]⟩,
  ⟨0xF1030074, [(16, 0x100000), (32, 0x100)], 0x400100, .plain, [DRV_LRN_BOUND_CMAX, DRV_LRN_BOUND_DMAX]⟩,
  ⟨0xF1030078, [(16, 0x100000), (32, 0x100)], 0x0, .plain, [DRV_LRN_AUX_DEAD, DRV_LRN_AUX_LAG]⟩,
  ⟨0xF103007C, [(16, 0x100000), (32, 0x100)], 0x0, .plain, [DRV_LRN_EMAX_EMAX]⟩]
def regTableDrv1 : List RegDesc := [
  ⟨0xF1030080, [(16, 0x100000), (32, 0x100)], 0x0, .counterLo, counterLoFields⟩,
  ⟨0xF1030084, [(16, 0x100000), (32, 0x100)], 0x0, .counterHi, counterHiFields⟩,
  ⟨0xF1030088, [(16, 0x100000), (32, 0x100)], 0x0, .counterLo, counterLoFields⟩,
  ⟨0xF103008C, [(16, 0x100000), (32, 0x100)], 0x0, .counterHi, counterHiFields⟩,
  ⟨0xF1030090, [(16, 0x100000), (32, 0x100)], 0x0, .counterLo, counterLoFields⟩,
  ⟨0xF1030094, [(16, 0x100000), (32, 0x100)], 0x0, .counterHi, counterHiFields⟩,
  ⟨0xF1030098, [(16, 0x100000), (32, 0x100)], 0x0, .counterLo, counterLoFields⟩,
  ⟨0xF103009C, [(16, 0x100000), (32, 0x100)], 0x0, .counterHi, counterHiFields⟩,
  ⟨0xF10300A0, [(16, 0x100000), (32, 0x100)], 0x0, .counterLo, counterLoFields⟩,
  ⟨0xF10300A4, [(16, 0x100000), (32, 0x100)], 0x0, .counterHi, counterHiFields⟩,
  ⟨0xF10300A8, [(16, 0x100000), (32, 0x100)], 0x0, .counterLo, counterLoFields⟩,
  ⟨0xF10300AC, [(16, 0x100000), (32, 0x100)], 0x0, .counterHi, counterHiFields⟩,
  ⟨0xF10300B0, [(16, 0x100000), (32, 0x100)], 0x0, .counterLo, counterLoFields⟩,
  ⟨0xF10300B4, [(16, 0x100000), (32, 0x100)], 0x0, .counterHi, counterHiFields⟩,
  ⟨0xF10300B8, [(16, 0x100000), (32, 0x100)], 0x0, .counterLo, counterLoFields⟩,
  ⟨0xF10300BC, [(16, 0x100000), (32, 0x100)], 0x0, .counterHi, counterHiFields⟩,
  ⟨0xF10300C0, [(16, 0x100000), (32, 0x100)], 0x0, .counterLo, counterLoFields⟩,
  ⟨0xF10300C4, [(16, 0x100000), (32, 0x100)], 0x0, .counterHi, counterHiFields⟩,
  ⟨0xF10300C8, [(16, 0x100000), (32, 0x100)], 0x0, .counterLo, counterLoFields⟩,
  ⟨0xF10300CC, [(16, 0x100000), (32, 0x100)], 0x0, .counterHi, counterHiFields⟩,
  ⟨0xF10300D0, [(16, 0x100000), (32, 0x100)], 0x0, .counterLo, counterLoFields⟩,
  ⟨0xF10300D4, [(16, 0x100000), (32, 0x100)], 0x0, .counterHi, counterHiFields⟩,
  ⟨0xF10300D8, [(16, 0x100000), (32, 0x100)], 0x0, .counterLo, counterLoFields⟩,
  ⟨0xF10300DC, [(16, 0x100000), (32, 0x100)], 0x0, .counterHi, counterHiFields⟩]
/-- Every register row of the DRV group. -/
def regTableDrv : List RegDesc := regTableDrv0 ++ regTableDrv1

def regTableDrvCom0 : List RegDesc := [
  ⟨0xF1038000, [(16, 0x100000)], 0x0, .plain, [DRV_COM_STATUS_RSVD_WR, DRV_COM_STATUS_STAGE_WR]⟩,
  ⟨0xF1038004, [(16, 0x100000)], 0x0, .plain, [DRV_BUDGET_WIN_TILE, DRV_BUDGET_STEP_TILE]⟩,
  ⟨0xF1038008, [], 0x8000, .plain, [DRV_DEV_BUDGET_WIN_DEV, DRV_DEV_BUDGET_WIN_L, DRV_DEV_BUDGET_STEP_DEV]⟩]
/-- Every register row of the DRV_COM group. -/
def regTableDrvCom : List RegDesc := regTableDrvCom0

def regTableWeir0 : List RegDesc := [
  ⟨0xF1040000, [(16, 0x100000), (32, 0x40)], 0x0, .plain, [WEIR_STATUS_RSVD_WR, WEIR_STATUS_STAGE_WR, WEIR_STATUS_LATE, WEIR_STATUS_LIVE_BL, WEIR_STATUS_LIVE_BH, WEIR_STATUS_LIVE_L, WEIR_STATUS_LIVE_H]⟩,
  ⟨0xF1040004, [(16, 0x100000), (32, 0x40)], 0x3000, .plain, [WEIR_CFG_HYST, WEIR_CFG_RES, WEIR_CFG_MODE_L, WEIR_CFG_MODE_H, WEIR_CFG_CIN, WEIR_CFG_ENL, WEIR_CFG_ENH]⟩,
  ⟨0xF1040008, [(16, 0x100000), (32, 0x40)], 0xFFF0000, .plain, [WEIR_TH_TH_H, WEIR_TH_TH_L]⟩,
  ⟨0xF104000C, [(16, 0x100000), (32, 0x40)], 0x0, .plain, [WEIR_BLANK_BEDGE, WEIR_BLANK_BSRC, WEIR_BLANK_BLEN]⟩,
  ⟨0xF1040010, [(16, 0x100000), (32, 0x40)], 0x0, .counterLo, counterLoFields⟩,
  ⟨0xF1040014, [(16, 0x100000), (32, 0x40)], 0x0, .counterHi, counterHiFields⟩]
/-- Every register row of the WEIR group. -/
def regTableWeir : List RegDesc := regTableWeir0

def regTableCxb0 : List RegDesc := [
  ⟨0xF0020000, [], 0x0, .plain, [CXB_STATUS_RSVD_WR, CXB_STATUS_STAGE_WR, CXB_STATUS_OWN_REJ, CXB_STATUS_PERR, CXB_STATUS_BORDER]⟩,
  ⟨0xF0020004, [], 0x0, .plain, [CXB_RNOW_DST, CXB_RNOW_SRC]⟩,
  ⟨0xF0020008, [], 0x0, .data, [CXB_LOAD_PEAK, CXB_LOAD_LAST]⟩,
  ⟨0xF0020010, [], 0x0, .counterLo, counterLoFields⟩,
  ⟨0xF0020014, [], 0x0, .counterHi, counterHiFields⟩,
  ⟨0xF0020100, [(50, 0x4)], 0x0, .plain, [CXB_BSTAT_BS]⟩,
  ⟨0xF0024000, [(1600, 0x4)], 0x7FF, .plain, [CXB_ROUTE_SRC]⟩,
  ⟨0xF0028000, [(1600, 0x4)], 0x0, .plain, [CXB_OWN_MODE, CXB_OWN_SHARE, CXB_OWN_INST]⟩,
  ⟨0xF002C000, [(64, 0x10)], 0x0, .plain, [CXB_RR_CFG_EN, CXB_RR_CFG_PEER_DEV, CXB_RR_CFG_PEER_SLOT, CXB_RR_CFG_RATE]⟩,
  ⟨0xF002C004, [(64, 0x10)], 0x0, .plain, [CXB_RR_STAT_CAUSE, CXB_RR_STAT_MISMATCH, CXB_RR_STAT_DCHG, CXB_RR_STAT_DROP, CXB_RR_STAT_BORDER, CXB_RR_STAT_UP]⟩,
  ⟨0xF002C008, [(64, 0x10)], 0x0, .plain, [CXB_RR_DLY_DLY]⟩,
  ⟨0xF002D000, [(64, 0x8)], 0x0, .counterLo, counterLoFields⟩,
  ⟨0xF002D004, [(64, 0x8)], 0x0, .counterHi, counterHiFields⟩]
/-- Every register row of the CXB group. -/
def regTableCxb : List RegDesc := regTableCxb0

def regTableLgc0 : List RegDesc := [
  ⟨0xF1060000, [(16, 0x100000)], 0x0, .plain, [LGC_STATUS_RSVD_WR, LGC_STATUS_STAGE_WR, LGC_STATUS_OVR]⟩,
  ⟨0xF1060040, [(16, 0x100000), (16, 0x4)], 0x0, .plain, [LGC_PORT_CFG_REGION, LGC_PORT_CFG_GC, LGC_PORT_CFG_EN]⟩,
  ⟨0xF1060100, [(8, 0x4)], 0x3, .plain, [LGC_GC_EN, LGC_GC_DIV]⟩]
/-- Every register row of the LGC group. -/
def regTableLgc : List RegDesc := regTableLgc0

def regTableLgcrg0 : List RegDesc := [
  ⟨0xF1050000, [(16, 0x100000), (16, 0x1000)], 0x0, .plain, [LGC_RG_STATUS_CAUSE, LGC_RG_STATUS_BADOP, LGC_RG_STATUS_CAP, LGC_RG_STATUS_PRB, LGC_RG_STATUS_LATE, LGC_RG_STATUS_STATE]⟩,
  ⟨0xF1050004, [(16, 0x100000), (16, 0x1000)], 0x0, .plain, [LGC_RG_CTL_AUTO, LGC_RG_CTL_CMD]⟩,
  ⟨0xF1050008, [(16, 0x100000), (16, 0x1000)], 0x0, .plain, [LGC_RG_IMG_LO_ADDR]⟩,
  ⟨0xF105000C, [(16, 0x100000), (16, 0x1000)], 0x0, .plain, [LGC_RG_IMG_HI_ADDR_HI]⟩,
  ⟨0xF1050010, [(16, 0x100000), (16, 0x1000)], 0x0, .plain, [LGC_RG_CFG_PRB, LGC_RG_CFG_CAP, LGC_RG_CFG_GCEN]⟩,
  ⟨0xF1050020, [(16, 0x100000), (16, 0x1000), (6, 0x4)], 0x0, .plain, [LGC_RG_HOLD_HOLD_0, LGC_RG_HOLD_HOLD_1, LGC_RG_HOLD_HOLD_2, LGC_RG_HOLD_HOLD_3, LGC_RG_HOLD_HOLD_4, LGC_RG_HOLD_HOLD_5, LGC_RG_HOLD_HOLD_6, LGC_RG_HOLD_HOLD_7, LGC_RG_HOLD_HOLD_8, LGC_RG_HOLD_HOLD_9, LGC_RG_HOLD_HOLD_10, LGC_RG_HOLD_HOLD_11, LGC_RG_HOLD_HOLD_12, LGC_RG_HOLD_HOLD_13, LGC_RG_HOLD_HOLD_14, LGC_RG_HOLD_HOLD_15]⟩]
/-- Every register row of the LGCRG group. -/
def regTableLgcrg : List RegDesc := regTableLgcrg0

def regTableObs0 : List RegDesc := [
  ⟨0xF0110000, [], 0x0, .plain, [OBS_STATUS_RSVD_WR, OBS_STATUS_STAGE_WR, OBS_STATUS_LATE, OBS_STATUS_DLOCK, OBS_STATUS_DENIED, OBS_STATUS_LOST, OBS_STATUS_MISSED, OBS_STATUS_DONE, OBS_STATUS_ARMED]⟩,
  ⟨0xF0110004, [], 0x0, .plain, [OBS_CAP_CTL_ARM, OBS_CAP_CTL_GC, OBS_CAP_CTL_TRIG, OBS_CAP_CTL_TILE, OBS_CAP_CTL_SRC]⟩,
  ⟨0xF0110008, [], 0x0, .plain, [OBS_CAP_N_N]⟩,
  ⟨0xF0110010, [], 0x0, .pairLo, [OBS_CAP_ANG_LO_VAL]⟩,
  ⟨0xF0110014, [], 0x0, .pairHi, [OBS_CAP_ANG_HI_VAL]⟩,
  ⟨0xF0110018, [], 0x0, .pairLo, [OBS_CAP_STAMP_LO_VAL]⟩,
  ⟨0xF011001C, [], 0x0, .pairHi, [OBS_CAP_STAMP_HI_VAL]⟩,
  ⟨0xF0110020, [], 0x0, .pairLo, [OBS_CAP_TIME_LO_VAL]⟩,
  ⟨0xF0110024, [], 0x0, .pairHi, [OBS_CAP_TIME_HI_VAL]⟩,
  ⟨0xF0110028, [], 0x0, .plain, [OBS_CAP_ADDR_ADDR]⟩,
  ⟨0xF011002C, [], 0x0, .data, [OBS_CAP_DATA_DATA]⟩,
  ⟨0xF0110040, [(8, 0x4)], 0x0, .plain, [OBS_CAP_RV_RV]⟩,
  ⟨0xF0110100, [(16, 0x4)], 0x0, .plain, [OBS_PRB_EN, OBS_PRB_TILE, OBS_PRB_SRC]⟩]
/-- Every register row of the OBS group. -/
def regTableObs : List RegDesc := regTableObs0

end Sys2Proof.Machine
end

