-- ==== Sys2Proof/Machine/RegsSystem.lean ====
section
/-! DEFINITION. The register tables of the spec: the memory, NVM, Leat, twin, host, journal, start-up, calibration, power and test registers.
Each register has its address as a function of its unit or entry number, one constant per field
(bits, access code, reserved encodings) and one row of the block table (R7, R13-R17). -/

namespace Sys2Proof.Machine

/-- `MEM_STATUS` (11_memory_and_ecc.md). -/
def MEM_STATUS : Nat := 0xF0070000
def MEM_STATUS_RSVD_WR : Field := ⟨31, 31, .w1c, []⟩
def MEM_STATUS_STAGE_WR : Field := ⟨30, 30, .w1c, []⟩
def MEM_STATUS_DDR_UP1 : Field := ⟨1, 1, .ro, []⟩
def MEM_STATUS_DDR_UP0 : Field := ⟨0, 0, .ro, []⟩

/-- `MEM_DDR_CFG` (11_memory_and_ecc.md). -/
def MEM_DDR_CFG (c : Nat) : Nat := 0xF0070010 + c * 0x4
def MEM_DDR_CFG_SIZE : Field := ⟨7, 5, .rw, [(5, 7)]⟩
def MEM_DDR_CFG_RANKS : Field := ⟨4, 4, .rw, []⟩
def MEM_DDR_CFG_WIDTH : Field := ⟨3, 2, .rw, [(2, 3)]⟩
def MEM_DDR_CFG_RATE : Field := ⟨1, 0, .rw, [(3, 3)]⟩

/-- `MEM_DDR_MAP` (11_memory_and_ecc.md). -/
def MEM_DDR_MAP : Nat := 0xF0070018
def MEM_DDR_MAP_INSTALLED : Field := ⟨23, 16, .ro, []⟩
def MEM_DDR_MAP_SPARE_EN : Field := ⟨1, 1, .rw, []⟩
def MEM_DDR_MAP_ILV : Field := ⟨0, 0, .rw, []⟩

/-- `MEM_PATROL` (11_memory_and_ecc.md). -/
def MEM_PATROL : Nat := 0xF0070020
def MEM_PATROL_EN : Field := ⟨31, 31, .rw, []⟩
def MEM_PATROL_HOURS : Field := ⟨15, 0, .rw, [(0, 0)]⟩

/-- `MEM_RET_CMD` (11_memory_and_ecc.md). -/
def MEM_RET_CMD : Nat := 0xF0070030
def MEM_RET_CMD_OP : Field := ⟨31, 30, .wo, [(3, 3)]⟩
def MEM_RET_CMD_IDX : Field := ⟨9, 0, .wo, []⟩

/-- `MEM_RET_PAGE` (11_memory_and_ecc.md). -/
def MEM_RET_PAGE : Nat := 0xF0070034
def MEM_RET_PAGE_PAGE : Field := ⟨24, 0, .rw, []⟩

/-- `MEM_RET_STAT` (11_memory_and_ecc.md). -/
def MEM_RET_STAT : Nat := 0xF0070038
def MEM_RET_STAT_BUSY : Field := ⟨31, 31, .ro, []⟩
def MEM_RET_STAT_RESULT : Field := ⟨7, 0, .ro, []⟩

/-- `MEM_SRAM_CMD` (11_memory_and_ecc.md). -/
def MEM_SRAM_CMD : Nat := 0xF0070040
def MEM_SRAM_CMD_OP : Field := ⟨31, 30, .wo, [(3, 3)]⟩
def MEM_SRAM_CMD_TILE : Field := ⟨11, 8, .wo, []⟩
def MEM_SRAM_CMD_BANK : Field := ⟨4, 0, .wo, []⟩

/-- `MEM_SRAM_STAT` (11_memory_and_ecc.md). -/
def MEM_SRAM_STAT : Nat := 0xF0070044
def MEM_SRAM_STAT_BUSY : Field := ⟨31, 31, .ro, []⟩
def MEM_SRAM_STAT_RESULT : Field := ⟨7, 0, .ro, []⟩

/-- `MEM_DMA_RES` (11_memory_and_ecc.md). -/
def MEM_DMA_RES (q : Nat) : Nat := 0x200000050 + q * 0x100
def MEM_DMA_RES_RESULT : Field := ⟨1, 0, .ro, []⟩

/-- `MEM_SRAM_MAP` (11_memory_and_ecc.md). -/
def MEM_SRAM_MAP (t : Nat) : Nat := 0xF0070080 + t * 0x4
def MEM_SRAM_MAP_SP1_USED : Field := ⟨15, 15, .ro, []⟩
def MEM_SRAM_MAP_SP1_BANK : Field := ⟨12, 8, .ro, []⟩
def MEM_SRAM_MAP_SP0_USED : Field := ⟨7, 7, .ro, []⟩
def MEM_SRAM_MAP_SP0_BANK : Field := ⟨4, 0, .ro, []⟩

/-- `ECC_LOG_CTL` (11_memory_and_ecc.md). -/
def ECC_LOG_CTL : Nat := 0xF0070100
def ECC_LOG_CTL_POP : Field := ⟨31, 31, .wo, []⟩
def ECC_LOG_CTL_OVF : Field := ⟨30, 30, .w1c, []⟩
def ECC_LOG_CTL_COUNT : Field := ⟨5, 0, .ro, []⟩

/-- `ECC_LOG_W` (11_memory_and_ecc.md). -/
def ECC_LOG_W (k : Nat) : Nat := 0xF0070104 + k * 0x4
def ECC_LOG_W_VAL : Field := ⟨31, 0, .ro, []⟩

/-- `ECC_LOG_LOST_LO` (11_memory_and_ecc.md). -/
def ECC_LOG_LOST_LO : Nat := 0xF0070118

/-- `ECC_LOG_LOST_HI` (11_memory_and_ecc.md). -/
def ECC_LOG_LOST_HI : Nat := 0xF007011C

/-- `ECC_CE_LO` (11_memory_and_ecc.md). -/
def ECC_CE_LO (m : Nat) : Nat := 0xF0071000 + m * 0x10

/-- `ECC_CE_HI` (11_memory_and_ecc.md). -/
def ECC_CE_HI (m : Nat) : Nat := 0xF0071004 + m * 0x10

/-- `ECC_UE_LO` (11_memory_and_ecc.md). -/
def ECC_UE_LO (m : Nat) : Nat := 0xF0071008 + m * 0x10

/-- `ECC_UE_HI` (11_memory_and_ecc.md). -/
def ECC_UE_HI (m : Nat) : Nat := 0xF007100C + m * 0x10

/-- `ECC_FLIP_CTL` (11_memory_and_ecc.md). -/
def ECC_FLIP_CTL (m : Nat) : Nat := 0xF0072000 + m * 0x20
def ECC_FLIP_CTL_ARM : Field := ⟨31, 31, .rw, []⟩
def ECC_FLIP_CTL_DONE : Field := ⟨30, 30, .w1c, []⟩
def ECC_FLIP_CTL_MATCH : Field := ⟨29, 29, .rw, []⟩
def ECC_FLIP_CTL_WORD : Field := ⟨2, 0, .rw, []⟩

/-- `ECC_FLIP_ADDR_LO` (11_memory_and_ecc.md). -/
def ECC_FLIP_ADDR_LO (m : Nat) : Nat := 0xF0072004 + m * 0x20
def ECC_FLIP_ADDR_LO_ADDR : Field := ⟨31, 0, .rw, []⟩

/-- `ECC_FLIP_ADDR_HI` (11_memory_and_ecc.md). -/
def ECC_FLIP_ADDR_HI (m : Nat) : Nat := 0xF0072008 + m * 0x20
def ECC_FLIP_ADDR_HI_ADDR_HI : Field := ⟨6, 0, .rw, []⟩

/-- `ECC_FLIP_D0` (11_memory_and_ecc.md). -/
def ECC_FLIP_D0 (m : Nat) : Nat := 0xF007200C + m * 0x20
def ECC_FLIP_D0_D0 : Field := ⟨31, 0, .rw, []⟩

/-- `ECC_FLIP_D1` (11_memory_and_ecc.md). -/
def ECC_FLIP_D1 (m : Nat) : Nat := 0xF0072010 + m * 0x20
def ECC_FLIP_D1_D1 : Field := ⟨31, 0, .rw, []⟩

/-- `ECC_FLIP_C` (11_memory_and_ecc.md). -/
def ECC_FLIP_C (m : Nat) : Nat := 0xF0072014 + m * 0x20
def ECC_FLIP_C_C : Field := ⟨31, 0, .rw, []⟩

/-- `MEM_WIN` (11_memory_and_ecc.md). -/
def MEM_WIN (c : Nat) (s : Nat) : Nat := 0xF0074000 + c * 0x20 + s * 0x4
def MEM_WIN_EN : Field := ⟨31, 31, .rw, []⟩
def MEM_WIN_BASE : Field := ⟨8, 0, .rw, []⟩

/-- `MEM_RET_ENTRY` (11_memory_and_ecc.md). -/
def MEM_RET_ENTRY (k : Nat) : Nat := 0xF0078000 + k * 0x4
def MEM_RET_ENTRY_VALID : Field := ⟨31, 31, .ro, []⟩
def MEM_RET_ENTRY_PAGE : Field := ⟨24, 0, .ro, []⟩

/-- `MEM_DMA_Q` (11_memory_and_ecc.md). -/
def MEM_DMA_Q (e : Nat) : Nat := 0xF007A000 + e * 0x40
def MEM_DMA_Q_ADDR : Field := ⟨25, 5, .wo, []⟩

/-- `MEM_DMA_STAT` (11_memory_and_ecc.md). -/
def MEM_DMA_STAT (e : Nat) : Nat := 0xF007A004 + e * 0x40
def MEM_DMA_STAT_RUN : Field := ⟨31, 31, .ro, []⟩
def MEM_DMA_STAT_DROP : Field := ⟨30, 30, .w1c, []⟩
def MEM_DMA_STAT_DEPTH : Field := ⟨5, 0, .ro, []⟩

/-- `MEM_DMA_CTL` (11_memory_and_ecc.md). -/
def MEM_DMA_CTL (e : Nat) : Nat := 0xF007A008 + e * 0x40
def MEM_DMA_CTL_ABORT : Field := ⟨0, 0, .wo, []⟩

/-- `MEM_DMA_DROP_LO` (11_memory_and_ecc.md). -/
def MEM_DMA_DROP_LO (e : Nat) : Nat := 0xF007A010 + e * 0x40

/-- `MEM_DMA_DROP_HI` (11_memory_and_ecc.md). -/
def MEM_DMA_DROP_HI (e : Nat) : Nat := 0xF007A014 + e * 0x40

/-- `NVM_STATUS` (11_memory_and_ecc.md). -/
def NVM_STATUS : Nat := 0xF0080000
def NVM_STATUS_RSVD_WR : Field := ⟨31, 31, .w1c, []⟩
def NVM_STATUS_STAGE_WR : Field := ⟨30, 30, .w1c, []⟩
def NVM_STATUS_HALF_E_FAIL : Field := ⟨9, 9, .ro, []⟩
def NVM_STATUS_HALF_W_FAIL : Field := ⟨8, 8, .ro, []⟩
def NVM_STATUS_BUSY : Field := ⟨7, 7, .ro, []⟩
def NVM_STATUS_REFUSED : Field := ⟨6, 6, .w1c, []⟩
def NVM_STATUS_RESULT : Field := ⟨1, 0, .ro, []⟩

/-- `NVM_CMD` (11_memory_and_ecc.md). -/
def NVM_CMD : Nat := 0xF0080004
def NVM_CMD_GO : Field := ⟨31, 31, .wo, []⟩
def NVM_CMD_LINE : Field := ⟨24, 6, .rw, []⟩

/-- `NVM_BUF` (11_memory_and_ecc.md). -/
def NVM_BUF (k : Nat) : Nat := 0xF0080040 + k * 0x4
def NVM_BUF_DATA : Field := ⟨31, 0, .rw, []⟩

/-- `NVM_WEAR_LO` (11_memory_and_ecc.md). -/
def NVM_WEAR_LO : Nat := 0xF0080080
def NVM_WEAR_LO_VAL : Field := ⟨31, 0, .ro, []⟩

/-- `NVM_WEAR_HI` (11_memory_and_ecc.md). -/
def NVM_WEAR_HI : Nat := 0xF0080084
def NVM_WEAR_HI_VAL : Field := ⟨15, 0, .ro, []⟩

/-- `NVM_TORN_LO` (11_memory_and_ecc.md). -/
def NVM_TORN_LO : Nat := 0xF0080088

/-- `NVM_TORN_HI` (11_memory_and_ecc.md). -/
def NVM_TORN_HI : Nat := 0xF008008C

/-- `LEAT_STATUS` (14_leat_chains.md). -/
def LEAT_STATUS : Nat := 0xF0090000
def LEAT_STATUS_RSVD_WR : Field := ⟨31, 31, .w1c, []⟩
def LEAT_STATUS_STAGE_WR : Field := ⟨30, 30, .w1c, []⟩
def LEAT_STATUS_IDXCONF : Field := ⟨12, 12, .w1c, []⟩
def LEAT_STATUS_DIST_LOST : Field := ⟨11, 11, .ro, []⟩
def LEAT_STATUS_WRAP : Field := ⟨10, 10, .ro, []⟩
def LEAT_STATUS_HEADWATER : Field := ⟨9, 9, .ro, []⟩
def LEAT_STATUS_MSTATE : Field := ⟨5, 3, .ro, []⟩
def LEAT_STATUS_TOPO : Field := ⟨1, 0, .ro, []⟩

/-- `LEAT_ID` (14_leat_chains.md). -/
def LEAT_ID : Nat := 0xF0090004
def LEAT_ID_HWIDX : Field := ⟨24, 16, .ro, []⟩
def LEAT_ID_DEV : Field := ⟨8, 0, .ro, []⟩

/-- `LEAT_CFG` (14_leat_chains.md). -/
def LEAT_CFG : Nat := 0xF0090008
def LEAT_CFG_HWSEL : Field := ⟨31, 31, .ro, []⟩
def LEAT_CFG_FIX : Field := ⟨30, 30, .rw, []⟩
def LEAT_CFG_FIXIDX : Field := ⟨29, 21, .rw, []⟩
def LEAT_CFG_PEN : Field := ⟨11, 8, .rw, []⟩
def LEAT_CFG_DIST_HOLD : Field := ⟨7, 0, .rw, []⟩

/-- `LEAT_MAP` (14_leat_chains.md). -/
def LEAT_MAP : Nat := 0xF009000C
def LEAT_MAP_MAPGEN : Field := ⟨31, 16, .ro, []⟩
def LEAT_MAP_MEMBERS : Field := ⟨9, 0, .ro, []⟩

/-- `LEAT_STALE` (14_leat_chains.md). -/
def LEAT_STALE : Nat := 0xF0090010
def LEAT_STALE_GO : Field := ⟨31, 31, .wo, []⟩
def LEAT_STALE_CAUSE : Field := ⟨27, 26, .ro, []⟩
def LEAT_STALE_METHOD : Field := ⟨25, 24, .rw, []⟩
def LEAT_STALE_SRC : Field := ⟨23, 23, .rw, []⟩
def LEAT_STALE_RESULT : Field := ⟨22, 20, .ro, []⟩
def LEAT_STALE_TILES : Field := ⟨15, 0, .ro, []⟩

/-- `LEAT_REF_GEN` (14_leat_chains.md). -/
def LEAT_REF_GEN : Nat := 0xF0090014
def LEAT_REF_GEN_GEN : Field := ⟨31, 0, .ro, []⟩

/-- `LEAT_REF_JSEQ_LO` (14_leat_chains.md). -/
def LEAT_REF_JSEQ_LO : Nat := 0xF0090018
def LEAT_REF_JSEQ_LO_JSEQ : Field := ⟨31, 0, .ro, []⟩

/-- `LEAT_REF_JSEQ_HI` (14_leat_chains.md). -/
def LEAT_REF_JSEQ_HI : Nat := 0xF009001C
def LEAT_REF_JSEQ_HI_JSEQ_HI : Field := ⟨31, 0, .ro, []⟩

/-- `LEAT_ADMIT` (14_leat_chains.md). -/
def LEAT_ADMIT : Nat := 0xF0090020
def LEAT_ADMIT_OP : Field := ⟨31, 30, .wo, [(3, 3)]⟩
def LEAT_ADMIT_DEV : Field := ⟨8, 0, .wo, []⟩

/-- `LEAT_ADMIT_STAT` (14_leat_chains.md). -/
def LEAT_ADMIT_STAT : Nat := 0xF0090024
def LEAT_ADMIT_STAT_PEND : Field := ⟨31, 28, .ro, []⟩
def LEAT_ADMIT_STAT_RESULT : Field := ⟨7, 0, .ro, []⟩

/-- `LEAT_TOFS_LO` (14_leat_chains.md). -/
def LEAT_TOFS_LO : Nat := 0xF0090028
def LEAT_TOFS_LO_VAL : Field := ⟨31, 0, .ro, []⟩

/-- `LEAT_TOFS_HI` (14_leat_chains.md). -/
def LEAT_TOFS_HI : Nat := 0xF009002C
def LEAT_TOFS_HI_VAL : Field := ⟨31, 0, .ro, []⟩

/-- `LEAT_TRET` (14_leat_chains.md). -/
def LEAT_TRET : Nat := 0xF0090030
def LEAT_TRET_OP : Field := ⟨31, 30, .wo, []⟩
def LEAT_TRET_TILE : Field := ⟨3, 0, .wo, []⟩

/-- `LEAT_TRET_STAT` (14_leat_chains.md). -/
def LEAT_TRET_STAT : Nat := 0xF0090034
def LEAT_TRET_STAT_PEND : Field := ⟨31, 31, .ro, []⟩
def LEAT_TRET_STAT_RESULT : Field := ⟨23, 16, .ro, []⟩
def LEAT_TRET_STAT_RETIRED : Field := ⟨15, 0, .ro, []⟩

/-- `LP_STATUS` (14_leat_chains.md). -/
def LP_STATUS (p : Nat) : Nat := 0xF0090100 + p * 0x40
def LP_STATUS_UP : Field := ⟨31, 31, .ro, []⟩
def LP_STATUS_STATE : Field := ⟨30, 28, .ro, []⟩
def LP_STATUS_LEVEL : Field := ⟨27, 26, .ro, []⟩
def LP_STATUS_P5120 : Field := ⟨25, 25, .ro, []⟩
def LP_STATUS_HWCONF : Field := ⟨24, 24, .w1c, []⟩
def LP_STATUS_LREV : Field := ⟨23, 23, .ro, []⟩
def LP_STATUS_LPOL : Field := ⟨22, 19, .ro, []⟩
def LP_STATUS_PEER_DEV : Field := ⟨17, 9, .ro, []⟩
def LP_STATUS_PEER_PT : Field := ⟨7, 0, .ro, []⟩

/-- `LP_CFG` (14_leat_chains.md). -/
def LP_CFG (p : Nat) : Nat := 0xF0090104 + p * 0x40
def LP_CFG_RETRAIN : Field := ⟨31, 31, .wo, []⟩
def LP_CFG_LVLMAX : Field := ⟨29, 28, .rw, [(0, 0), (3, 3)]⟩

/-- `LP_CABLE` (14_leat_chains.md). -/
def LP_CABLE (p : Nat) : Nat := 0xF0090108 + p * 0x40
def LP_CABLE_DLY : Field := ⟨15, 0, .ro, []⟩

/-- `LP_CRC_LO` (14_leat_chains.md). -/
def LP_CRC_LO (p : Nat) : Nat := 0xF0090110 + p * 0x40

/-- `LP_CRC_HI` (14_leat_chains.md). -/
def LP_CRC_HI (p : Nat) : Nat := 0xF0090114 + p * 0x40

/-- `LP_PTDROP_LO` (14_leat_chains.md). -/
def LP_PTDROP_LO (p : Nat) : Nat := 0xF0090118 + p * 0x40

/-- `LP_PTDROP_HI` (14_leat_chains.md). -/
def LP_PTDROP_HI (p : Nat) : Nat := 0xF009011C + p * 0x40

/-- `LP_TRAIN_LO` (14_leat_chains.md). -/
def LP_TRAIN_LO (p : Nat) : Nat := 0xF0090120 + p * 0x40

/-- `LP_TRAIN_HI` (14_leat_chains.md). -/
def LP_TRAIN_HI (p : Nat) : Nat := 0xF0090124 + p * 0x40

/-- `LEAT_PATH` (14_leat_chains.md). -/
def LEAT_PATH (d : Nat) : Nat := 0xF0090400 + d * 0x4
def LEAT_PATH_MEMBER : Field := ⟨31, 31, .ro, []⟩
def LEAT_PATH_L1 : Field := ⟨30, 30, .ro, []⟩
def LEAT_PATH_PORT : Field := ⟨29, 28, .ro, []⟩
def LEAT_PATH_HOPS : Field := ⟨27, 19, .ro, []⟩
def LEAT_PATH_ONEWAY : Field := ⟨16, 0, .ro, []⟩

/-- `LEAT_MREC` (14_leat_chains.md). -/
def LEAT_MREC (d : Nat) : Nat := 0xF0091000 + d * 0x10
def LEAT_MREC_STATE : Field := ⟨31, 29, .ro, []⟩

/-- `LEAT_MREC_GEN` (14_leat_chains.md). -/
def LEAT_MREC_GEN (d : Nat) : Nat := 0xF0091004 + d * 0x10
def LEAT_MREC_GEN_VAL : Field := ⟨31, 0, .ro, []⟩

/-- `LEAT_MREC_JSEQ_LO` (14_leat_chains.md). -/
def LEAT_MREC_JSEQ_LO (d : Nat) : Nat := 0xF0091008 + d * 0x10
def LEAT_MREC_JSEQ_LO_VAL : Field := ⟨31, 0, .ro, []⟩

/-- `LEAT_MREC_JSEQ_HI` (14_leat_chains.md). -/
def LEAT_MREC_JSEQ_HI (d : Nat) : Nat := 0xF009100C + d * 0x10
def LEAT_MREC_JSEQ_HI_VAL : Field := ⟨31, 0, .ro, []⟩

/-- `TWIN_STATUS` (15_twin.md). -/
def TWIN_STATUS : Nat := 0xF00A0000
def TWIN_STATUS_RSVD_WR : Field := ⟨31, 31, .w1c, []⟩
def TWIN_STATUS_STAGE_WR : Field := ⟨30, 30, .w1c, []⟩
def TWIN_STATUS_POSCONF : Field := ⟨15, 15, .ro, []⟩
def TWIN_STATUS_SCAUSE : Field := ⟨14, 12, .ro, []⟩
def TWIN_STATUS_MISMATCH : Field := ⟨11, 11, .w1c, []⟩
def TWIN_STATUS_HBLOST : Field := ⟨10, 10, .ro, []⟩
def TWIN_STATUS_PEER_SEL : Field := ⟨9, 9, .ro, []⟩
def TWIN_STATUS_SEL : Field := ⟨8, 8, .ro, []⟩
def TWIN_STATUS_ROLE : Field := ⟨5, 4, .ro, []⟩
def TWIN_STATUS_STATE : Field := ⟨2, 0, .ro, []⟩

/-- `TWIN_CFG` (15_twin.md). -/
def TWIN_CFG : Nat := 0xF00A0004
def TWIN_CFG_EN : Field := ⟨31, 31, .rw, []⟩
def TWIN_CFG_POS : Field := ⟨30, 30, .ro, []⟩
def TWIN_CFG_PORT : Field := ⟨25, 24, .rw, []⟩
def TWIN_CFG_HB_MISS : Field := ⟨23, 20, .rw, [(0, 1)]⟩
def TWIN_CFG_WIN_L : Field := ⟨13, 8, .rws, [(0, 15), (33, 63)]⟩

/-- `TWIN_CMD` (15_twin.md). -/
def TWIN_CMD : Nat := 0xF00A0008
def TWIN_CMD_OP : Field := ⟨2, 0, .wo, [(4, 7)]⟩

/-- `TWIN_RESULT` (15_twin.md). -/
def TWIN_RESULT : Nat := 0xF00A000C
def TWIN_RESULT_PEND : Field := ⟨31, 31, .ro, []⟩
def TWIN_RESULT_RESULT : Field := ⟨7, 0, .ro, []⟩

/-- `TWIN_PEER_UID_LO` (15_twin.md). -/
def TWIN_PEER_UID_LO : Nat := 0xF00A0010
def TWIN_PEER_UID_LO_VAL : Field := ⟨31, 0, .ro, []⟩

/-- `TWIN_PEER_UID_HI` (15_twin.md). -/
def TWIN_PEER_UID_HI : Nat := 0xF00A0014
def TWIN_PEER_UID_HI_VAL : Field := ⟨31, 0, .ro, []⟩

/-- `TWIN_DIG` (15_twin.md). -/
def TWIN_DIG : Nat := 0xF00A0018
def TWIN_DIG_SUM : Field := ⟨31, 0, .ro, []⟩

/-- `TWIN_PDIG` (15_twin.md). -/
def TWIN_PDIG : Nat := 0xF00A001C
def TWIN_PDIG_SUM : Field := ⟨31, 0, .ro, []⟩

/-- `TWIN_DCNT` (15_twin.md). -/
def TWIN_DCNT : Nat := 0xF00A0020
def TWIN_DCNT_PCOUNT : Field := ⟨31, 16, .ro, []⟩
def TWIN_DCNT_COUNT : Field := ⟨15, 0, .ro, []⟩

/-- `TWIN_MWIN_LO` (15_twin.md). -/
def TWIN_MWIN_LO : Nat := 0xF00A0024
def TWIN_MWIN_LO_VAL : Field := ⟨31, 0, .ro, []⟩

/-- `TWIN_MWIN_HI` (15_twin.md). -/
def TWIN_MWIN_HI : Nat := 0xF00A0028
def TWIN_MWIN_HI_VAL : Field := ⟨15, 0, .ro, []⟩

/-- `TWIN_TAKE` (15_twin.md). -/
def TWIN_TAKE : Nat := 0xF00A002C
def TWIN_TAKE_VALID : Field := ⟨31, 31, .w1c, []⟩
def TWIN_TAKE_PCAUSE : Field := ⟨15, 8, .ro, []⟩
def TWIN_TAKE_CAUSE : Field := ⟨2, 0, .ro, []⟩

/-- `TWIN_TAKE_T_LO` (15_twin.md). -/
def TWIN_TAKE_T_LO : Nat := 0xF00A0030
def TWIN_TAKE_T_LO_VAL : Field := ⟨31, 0, .ro, []⟩

/-- `TWIN_TAKE_T_HI` (15_twin.md). -/
def TWIN_TAKE_T_HI : Nat := 0xF00A0034
def TWIN_TAKE_T_HI_VAL : Field := ⟨15, 0, .ro, []⟩

/-- `TWIN_MISM_LO` (15_twin.md). -/
def TWIN_MISM_LO : Nat := 0xF00A0040

/-- `TWIN_MISM_HI` (15_twin.md). -/
def TWIN_MISM_HI : Nat := 0xF00A0044

/-- `TWIN_SPLIT_LO` (15_twin.md). -/
def TWIN_SPLIT_LO : Nat := 0xF00A0048

/-- `TWIN_SPLIT_HI` (15_twin.md). -/
def TWIN_SPLIT_HI : Nat := 0xF00A004C

/-- `TWIN_DMISS_LO` (15_twin.md). -/
def TWIN_DMISS_LO : Nat := 0xF00A0050

/-- `TWIN_DMISS_HI` (15_twin.md). -/
def TWIN_DMISS_HI : Nat := 0xF00A0054

/-- `TWIN_TAKES_LO` (15_twin.md). -/
def TWIN_TAKES_LO : Nat := 0xF00A0058

/-- `TWIN_TAKES_HI` (15_twin.md). -/
def TWIN_TAKES_HI : Nat := 0xF00A005C

/-- `HOST_STATUS` (16_host_and_journal.md). -/
def HOST_STATUS : Nat := 0xF00B0000
def HOST_STATUS_RSVD_WR : Field := ⟨31, 31, .w1c, []⟩
def HOST_STATUS_STAGE_WR : Field := ⟨30, 30, .w1c, []⟩
def HOST_STATUS_SVHALT : Field := ⟨7, 7, .w1c, []⟩
def HOST_STATUS_LINKUP : Field := ⟨6, 6, .ro, []⟩
def HOST_STATUS_SPEED : Field := ⟨5, 4, .ro, []⟩
def HOST_STATUS_WIDTH : Field := ⟨3, 2, .ro, []⟩

/-- `HOST_QP_ALLOW` (16_host_and_journal.md). -/
def HOST_QP_ALLOW (w : Nat) : Nat := 0xF00B0010 + w * 0x4
def HOST_QP_ALLOW_ALLOW : Field := ⟨31, 0, .rw, []⟩

/-- `HOST_SV_MBX` (16_host_and_journal.md). -/
def HOST_SV_MBX : Nat := 0xF00B0040
def HOST_SV_MBX_EN : Field := ⟨31, 31, .rw, []⟩
def HOST_SV_MBX_TILE : Field := ⟨25, 22, .rw, []⟩
def HOST_SV_MBX_OFF : Field := ⟨21, 10, .rw, []⟩

/-- `HOST_QP_MBX` (16_host_and_journal.md). -/
def HOST_QP_MBX (i : Nat) : Nat := 0xF00B0400 + i * 0x4
def HOST_QP_MBX_EN : Field := ⟨31, 31, .rw, []⟩
def HOST_QP_MBX_OFF : Field := ⟨21, 10, .rw, []⟩

/-- `HOST_MGT` (16_host_and_journal.md). -/
def HOST_MGT : Nat := 0xF00B0044
def HOST_MGT_GO : Field := ⟨31, 31, .wo, []⟩
def HOST_MGT_BUSY : Field := ⟨30, 30, .ro, []⟩
def HOST_MGT_DONE : Field := ⟨29, 29, .w1s, []⟩

/-- `HOST_MGT_DATA` (16_host_and_journal.md). -/
def HOST_MGT_DATA (k : Nat) : Nat := 0xF00B0048 + k * 0x4
def HOST_MGT_DATA_DATA : Field := ⟨31, 0, .rw, []⟩

/-- `HOST_PF_VEC` (16_host_and_journal.md). -/
def HOST_PF_VEC (k : Nat) : Nat := 0xF00B0080 + k * 0x4
def HOST_PF_VEC_EN : Field := ⟨31, 31, .rw, []⟩
def HOST_PF_VEC_SRC : Field := ⟨11, 0, .rw, [(1972, 1983), (2816, 4095)]⟩

/-- `HOST_UART_CFG` (16_host_and_journal.md). -/
def HOST_UART_CFG : Nat := 0xF00B0100
def HOST_UART_CFG_DIV : Field := ⟨11, 0, .rw, []⟩

/-- `HOST_UART_DATA` (16_host_and_journal.md). -/
def HOST_UART_DATA : Nat := 0xF00B0104
def HOST_UART_DATA_CHAR : Field := ⟨7, 0, .rw, []⟩

/-- `HOST_UART_STAT` (16_host_and_journal.md). -/
def HOST_UART_STAT : Nat := 0xF00B0108
def HOST_UART_STAT_OVR : Field := ⟨2, 2, .w1c, []⟩
def HOST_UART_STAT_TXFULL : Field := ⟨1, 1, .ro, []⟩
def HOST_UART_STAT_RXAV : Field := ⟨0, 0, .ro, []⟩

/-- `QP_SQB_LO` (16_host_and_journal.md). -/
def QP_SQB_LO (q : Nat) : Nat := 0x500000000 + q * 0x1000
def QP_SQB_LO_BASE : Field := ⟨31, 12, .rw, []⟩

/-- `QP_SQB_HI` (16_host_and_journal.md). -/
def QP_SQB_HI (q : Nat) : Nat := 0x500000004 + q * 0x1000
def QP_SQB_HI_BASE : Field := ⟨31, 0, .rw, []⟩

/-- `QP_CQB_LO` (16_host_and_journal.md). -/
def QP_CQB_LO (q : Nat) : Nat := 0x500000008 + q * 0x1000
def QP_CQB_LO_BASE : Field := ⟨31, 12, .rw, []⟩

/-- `QP_CQB_HI` (16_host_and_journal.md). -/
def QP_CQB_HI (q : Nat) : Nat := 0x50000000C + q * 0x1000
def QP_CQB_HI_BASE : Field := ⟨31, 0, .rw, []⟩

/-- `QP_CFG` (16_host_and_journal.md). -/
def QP_CFG (q : Nat) : Nat := 0x500000010 + q * 0x1000
def QP_CFG_EN : Field := ⟨31, 31, .rw, []⟩
def QP_CFG_LEVEL : Field := ⟨17, 16, .rw, [(0, 1)]⟩
def QP_CFG_CQS : Field := ⟨15, 12, .rw, [(0, 3), (13, 15)]⟩
def QP_CFG_SQS : Field := ⟨11, 8, .rw, [(0, 3), (13, 15)]⟩

/-- `QP_STATUS` (16_host_and_journal.md). -/
def QP_STATUS (q : Nat) : Nat := 0x500000014 + q * 0x1000
def QP_STATUS_ERR : Field := ⟨31, 31, .w1c, []⟩
def QP_STATUS_ALLOWED : Field := ⟨30, 30, .ro, []⟩
def QP_STATUS_INFL : Field := ⟨5, 0, .ro, []⟩

/-- `QP_SQ_TAIL` (16_host_and_journal.md). -/
def QP_SQ_TAIL (q : Nat) : Nat := 0x500000018 + q * 0x1000
def QP_SQ_TAIL_TAIL : Field := ⟨11, 0, .wo, []⟩

/-- `QP_CQ_HEAD` (16_host_and_journal.md). -/
def QP_CQ_HEAD (q : Nat) : Nat := 0x50000001C + q * 0x1000
def QP_CQ_HEAD_HEAD : Field := ⟨11, 0, .wo, []⟩

/-- `JNL_STATUS` (16_host_and_journal.md). -/
def JNL_STATUS : Nat := 0xF00C0000
def JNL_STATUS_RSVD_WR : Field := ⟨31, 31, .w1c, []⟩
def JNL_STATUS_STAGE_WR : Field := ⟨30, 30, .w1c, []⟩
def JNL_STATUS_PFAIL : Field := ⟨2, 2, .ro, []⟩
def JNL_STATUS_DEGRADED : Field := ⟨1, 1, .ro, []⟩
def JNL_STATUS_RWAIT : Field := ⟨0, 0, .ro, []⟩

/-- `JNL_RATE` (16_host_and_journal.md). -/
def JNL_RATE : Nat := 0xF00C0004
def JNL_RATE_RATE : Field := ⟨31, 16, .rw, [(0, 0), (50001, 65535)]⟩
def JNL_RATE_BURST : Field := ⟨12, 0, .rw, [(0, 0), (4097, 8191)]⟩

/-- `JNL_SEQ_LO` (16_host_and_journal.md). -/
def JNL_SEQ_LO : Nat := 0xF00C0008
def JNL_SEQ_LO_VAL : Field := ⟨31, 0, .ro, []⟩

/-- `JNL_SEQ_HI` (16_host_and_journal.md). -/
def JNL_SEQ_HI : Nat := 0xF00C000C
def JNL_SEQ_HI_VAL : Field := ⟨31, 0, .ro, []⟩

/-- `JNL_POS` (16_host_and_journal.md). -/
def JNL_POS : Nat := 0xF00C0010
def JNL_POS_POS : Field := ⟨16, 0, .ro, []⟩

/-- `JNL_INFL` (16_host_and_journal.md). -/
def JNL_INFL : Nat := 0xF00C0014
def JNL_INFL_INFL : Field := ⟨5, 0, .ro, []⟩

/-- `JNL_FAIL_LO` (16_host_and_journal.md). -/
def JNL_FAIL_LO : Nat := 0xF00C0020

/-- `JNL_FAIL_HI` (16_host_and_journal.md). -/
def JNL_FAIL_HI : Nat := 0xF00C0024

/-- `BOOT_STATUS` (17_startup_and_images.md). -/
def BOOT_STATUS : Nat := 0xF00D0000
def BOOT_STATUS_RSVD_WR : Field := ⟨31, 31, .w1c, []⟩
def BOOT_STATUS_STAGE_WR : Field := ⟨30, 30, .w1c, []⟩
def BOOT_STATUS_WREJ : Field := ⟨29, 29, .w1c, []⟩
def BOOT_STATUS_CAUSE2 : Field := ⟨23, 20, .ro, []⟩
def BOOT_STATUS_CAUSE : Field := ⟨19, 16, .ro, []⟩
def BOOT_STATUS_IMAGE : Field := ⟨13, 12, .ro, []⟩
def BOOT_STATUS_LATE : Field := ⟨11, 11, .ro, []⟩
def BOOT_STATUS_MODE : Field := ⟨7, 6, .ro, []⟩
def BOOT_STATUS_STATE : Field := ⟨2, 0, .ro, []⟩

/-- `BOOT_CTL` (17_startup_and_images.md). -/
def BOOT_CTL : Nat := 0xF00D0004
def BOOT_CTL_JGO : Field := ⟨31, 31, .wo, []⟩
def BOOT_CTL_RST : Field := ⟨7, 0, .wo, [(1, 212), (214, 255)]⟩

/-- `BOOT_IMG` (17_startup_and_images.md). -/
def BOOT_IMG : Nat := 0xF00D0008
def BOOT_IMG_VAL : Field := ⟨31, 0, .ro, []⟩

/-- `BOOT_OXBOW` (17_startup_and_images.md). -/
def BOOT_OXBOW : Nat := 0xF00D000C
def BOOT_OXBOW_VAL : Field := ⟨31, 0, .ro, []⟩

/-- `BOOT_HDR` (17_startup_and_images.md). -/
def BOOT_HDR : Nat := 0xF00D0010
def BOOT_HDR_NDEV : Field := ⟨25, 16, .ro, []⟩
def BOOT_HDR_DUMMY : Field := ⟨15, 8, .ro, []⟩
def BOOT_HDR_FCLK : Field := ⟨7, 0, .ro, []⟩

/-- `BOOT_LATE` (17_startup_and_images.md). -/
def BOOT_LATE : Nat := 0xF00D0014
def BOOT_LATE_BUSY : Field := ⟨31, 31, .ro, []⟩
def BOOT_LATE_DEV : Field := ⟨24, 16, .ro, []⟩
def BOOT_LATE_PEND : Field := ⟨15, 7, .ro, []⟩
def BOOT_LATE_RESULT : Field := ⟨1, 0, .ro, []⟩

/-- `BOOT_SLUICE_CTL` (17_startup_and_images.md). -/
def BOOT_SLUICE_CTL : Nat := 0xF00D0020
def BOOT_SLUICE_CTL_GO : Field := ⟨31, 31, .wo, []⟩
def BOOT_SLUICE_CTL_PROGRDY : Field := ⟨30, 30, .w1s, []⟩
def BOOT_SLUICE_CTL_POS3 : Field := ⟨21, 20, .rw, []⟩
def BOOT_SLUICE_CTL_POS2 : Field := ⟨19, 18, .rw, []⟩
def BOOT_SLUICE_CTL_POS1 : Field := ⟨17, 16, .rw, []⟩
def BOOT_SLUICE_CTL_LTMO : Field := ⟨7, 0, .rw, [(0, 0)]⟩

/-- `BOOT_SLUICE_STAT` (17_startup_and_images.md). -/
def BOOT_SLUICE_STAT : Nat := 0xF00D0034
def BOOT_SLUICE_STAT_BADOP : Field := ⟨31, 31, .w1c, []⟩
def BOOT_SLUICE_STAT_FAIL : Field := ⟨30, 30, .ro, []⟩
def BOOT_SLUICE_STAT_DONE : Field := ⟨7, 4, .ro, []⟩
def BOOT_SLUICE_STAT_POS : Field := ⟨2, 0, .ro, []⟩

/-- `BOOT_LOCKMASK` (17_startup_and_images.md). -/
def BOOT_LOCKMASK : Nat := 0xF00D0038
def BOOT_LOCKMASK_MASK : Field := ⟨28, 0, .ro, []⟩

/-- `BOOT_KEYCMD` (17_startup_and_images.md). -/
def BOOT_KEYCMD : Nat := 0xF00D0040
def BOOT_KEYCMD_OP : Field := ⟨31, 29, .wo, [(7, 7)]⟩
def BOOT_KEYCMD_ARG : Field := ⟨9, 0, .wo, []⟩

/-- `BOOT_KEYSTAT` (17_startup_and_images.md). -/
def BOOT_KEYSTAT : Nat := 0xF00D0074
def BOOT_KEYSTAT_BUSY : Field := ⟨31, 31, .ro, []⟩
def BOOT_KEYSTAT_RESULT : Field := ⟨9, 8, .ro, []⟩
def BOOT_KEYSTAT_SESSION : Field := ⟨3, 3, .ro, []⟩
def BOOT_KEYSTAT_DLOCK : Field := ⟨2, 2, .ro, []⟩
def BOOT_KEYSTAT_KLOCK : Field := ⟨1, 1, .ro, []⟩
def BOOT_KEYSTAT_HASHSET : Field := ⟨0, 0, .ro, []⟩

/-- `BOOT_CI_CFG` (17_startup_and_images.md). -/
def BOOT_CI_CFG : Nat := 0xF00D0080
def BOOT_CI_CFG_EN : Field := ⟨31, 31, .rw, []⟩
def BOOT_CI_CFG_REPAIR : Field := ⟨30, 30, .rw, []⟩
def BOOT_CI_CFG_FENCE : Field := ⟨29, 29, .rw, []⟩
def BOOT_CI_CFG_PERIOD : Field := ⟨15, 0, .rw, [(0, 0)]⟩

/-- `BOOT_CI_STATUS` (17_startup_and_images.md). -/
def BOOT_CI_STATUS : Nat := 0xF00D0084
def BOOT_CI_STATUS_ALARM : Field := ⟨31, 31, .w1c, []⟩
def BOOT_CI_STATUS_REFERR : Field := ⟨30, 30, .w1c, []⟩
def BOOT_CI_STATUS_FRAMES : Field := ⟨12, 0, .ro, []⟩

/-- `BOOT_CI_REC_ID` (17_startup_and_images.md). -/
def BOOT_CI_REC_ID : Nat := 0xF00D0088
def BOOT_CI_REC_ID_ID : Field := ⟨31, 0, .ro, []⟩

/-- `BOOT_CI_REC` (17_startup_and_images.md). -/
def BOOT_CI_REC : Nat := 0xF00D008C
def BOOT_CI_REC_VALID : Field := ⟨31, 31, .w1c, []⟩
def BOOT_CI_REC_ESS : Field := ⟨30, 30, .ro, []⟩
def BOOT_CI_REC_REPAIRED : Field := ⟨29, 29, .ro, []⟩
def BOOT_CI_REC_BIT : Field := ⟨9, 0, .ro, []⟩

/-- `BOOT_SLUICE_DLY` (17_startup_and_images.md). -/
def BOOT_SLUICE_DLY (k : Nat) : Nat := 0xF00D0024 + k * 0x4
def BOOT_SLUICE_DLY_DLY : Field := ⟨15, 0, .rw, []⟩

/-- `BOOT_KEYBUF` (17_startup_and_images.md). -/
def BOOT_KEYBUF (k : Nat) : Nat := 0xF00D0044 + k * 0x4
def BOOT_KEYBUF_DATA : Field := ⟨31, 0, .rw, []⟩

/-- `BOOT_CI_ESS_LO` (17_startup_and_images.md). -/
def BOOT_CI_ESS_LO : Nat := 0xF00D00A0

/-- `BOOT_CI_ESS_HI` (17_startup_and_images.md). -/
def BOOT_CI_ESS_HI : Nat := 0xF00D00A4

/-- `BOOT_CI_NESS_LO` (17_startup_and_images.md). -/
def BOOT_CI_NESS_LO : Nat := 0xF00D00A8

/-- `BOOT_CI_NESS_HI` (17_startup_and_images.md). -/
def BOOT_CI_NESS_HI : Nat := 0xF00D00AC

/-- `BOOT_CI_REP_LO` (17_startup_and_images.md). -/
def BOOT_CI_REP_LO : Nat := 0xF00D00B0

/-- `BOOT_CI_REP_HI` (17_startup_and_images.md). -/
def BOOT_CI_REP_HI : Nat := 0xF00D00B4

/-- `CAL_STATUS` (18_calibration.md). -/
def CAL_STATUS : Nat := 0xF00E0000
def CAL_STATUS_RSVD_WR : Field := ⟨31, 31, .w1c, []⟩
def CAL_STATUS_STAGE_WR : Field := ⟨30, 30, .w1c, []⟩
def CAL_STATUS_FAIL : Field := ⟨29, 29, .w1c, []⟩
def CAL_STATUS_NOSTORE : Field := ⟨28, 28, .ro, []⟩
def CAL_STATUS_PEND : Field := ⟨27, 27, .ro, []⟩
def CAL_STATUS_PUDONE : Field := ⟨26, 26, .ro, []⟩
def CAL_STATUS_BUSY : Field := ⟨25, 25, .ro, []⟩
def CAL_STATUS_BANK : Field := ⟨1, 0, .ro, []⟩

/-- `CAL_CMD` (18_calibration.md). -/
def CAL_CMD : Nat := 0xF00E0004
def CAL_CMD_OP : Field := ⟨31, 28, .wo, [(6, 15)]⟩
def CAL_CMD_SRC : Field := ⟨9, 8, .wo, []⟩
def CAL_CMD_CLASS : Field := ⟨6, 0, .wo, []⟩

/-- `CAL_RESULT` (18_calibration.md). -/
def CAL_RESULT : Nat := 0xF00E0008
def CAL_RESULT_NFAIL : Field := ⟨23, 8, .ro, []⟩
def CAL_RESULT_RESULT : Field := ⟨7, 0, .ro, []⟩

/-- `CAL_SEQ` (18_calibration.md). -/
def CAL_SEQ : Nat := 0xF00E000C
def CAL_SEQ_VAL : Field := ⟨31, 0, .ro, []⟩

/-- `CAL_XADDR_LO` (18_calibration.md). -/
def CAL_XADDR_LO : Nat := 0xF00E0010
def CAL_XADDR_LO_ADDR : Field := ⟨31, 6, .rw, []⟩

/-- `CAL_XADDR_HI` (18_calibration.md). -/
def CAL_XADDR_HI : Nat := 0xF00E0014
def CAL_XADDR_HI_ADDR_HI : Field := ⟨6, 0, .rw, []⟩

/-- `CAL_FREC` (18_calibration.md). -/
def CAL_FREC : Nat := 0xF00E0030
def CAL_FREC_VALID : Field := ⟨31, 31, .w1c, []⟩
def CAL_FREC_KIND : Field := ⟨30, 30, .ro, []⟩
def CAL_FREC_CLASS : Field := ⟨26, 24, .ro, []⟩
def CAL_FREC_INDEX : Field := ⟨12, 0, .ro, []⟩

/-- `CAL_DRIFT0` (18_calibration.md). -/
def CAL_DRIFT0 : Nat := 0xF00E0020
def CAL_DRIFT0_DL_REF : Field := ⟨31, 24, .rw, [(0, 0)]⟩
def CAL_DRIFT0_DL_TDAC : Field := ⟨23, 16, .rw, [(0, 0)]⟩
def CAL_DRIFT0_DL_SLICE : Field := ⟨15, 8, .rw, [(0, 0)]⟩
def CAL_DRIFT0_DL_CELL_IN : Field := ⟨7, 0, .rw, [(0, 0)]⟩

/-- `CAL_DRIFT1` (18_calibration.md). -/
def CAL_DRIFT1 : Nat := 0xF00E0024
def CAL_DRIFT1_DL_CELL_FC : Field := ⟨31, 24, .rw, [(0, 0)]⟩
def CAL_DRIFT1_DL_CELL_DAC : Field := ⟨23, 16, .rw, [(0, 0)]⟩
def CAL_DRIFT1_DL_CMP : Field := ⟨15, 8, .rw, [(0, 0)]⟩

/-- `CAL_FAILS_LO` (18_calibration.md). -/
def CAL_FAILS_LO : Nat := 0xF00E0040

/-- `CAL_FAILS_HI` (18_calibration.md). -/
def CAL_FAILS_HI : Nat := 0xF00E0044

/-- `CAL_DEFER_LO` (18_calibration.md). -/
def CAL_DEFER_LO : Nat := 0xF00E0048

/-- `CAL_DEFER_HI` (18_calibration.md). -/
def CAL_DEFER_HI : Nat := 0xF00E004C

/-- `PWR_STATUS` (19_power_and_health.md). -/
def PWR_STATUS : Nat := 0xF00F0000
def PWR_STATUS_RSVD_WR : Field := ⟨31, 31, .w1c, []⟩
def PWR_STATUS_STAGE_WR : Field := ⟨30, 30, .w1c, []⟩
def PWR_STATUS_THOT : Field := ⟨12, 12, .ro, []⟩
def PWR_STATUS_TWARN : Field := ⟨11, 11, .ro, []⟩
def PWR_STATUS_PFL : Field := ⟨10, 10, .ro, []⟩
def PWR_STATUS_PFSEEN : Field := ⟨9, 9, .w1c, []⟩
def PWR_STATUS_VAHI_E_UV : Field := ⟨8, 8, .ro, []⟩
def PWR_STATUS_VAHI_W_UV : Field := ⟨7, 7, .ro, []⟩
def PWR_STATUS_WQ : Field := ⟨6, 6, .ro, []⟩
def PWR_STATUS_STATE : Field := ⟨1, 0, .ro, []⟩

/-- `PWR_LASTLOSS` (19_power_and_health.md). -/
def PWR_LASTLOSS : Nat := 0xF00F0004
def PWR_LASTLOSS_VALID : Field := ⟨31, 31, .w1c, []⟩
def PWR_LASTLOSS_RAIL : Field := ⟨11, 8, .ro, []⟩
def PWR_LASTLOSS_CAUSE : Field := ⟨3, 0, .ro, []⟩

/-- `PWR_RAIL` (19_power_and_health.md). -/
def PWR_RAIL : Nat := 0xF00F0008
def PWR_RAIL_GOOD : Field := ⟨10, 0, .ro, []⟩

/-- `PWR_VIO_UV` (19_power_and_health.md). -/
def PWR_VIO_UV : Nat := 0xF00F000C
def PWR_VIO_UV_UV : Field := ⟨15, 0, .ro, []⟩

/-- `PWR_TLIM` (19_power_and_health.md). -/
def PWR_TLIM : Nat := 0xF00F0010
def PWR_TLIM_TWARN : Field := ⟨15, 8, .rw, [(0, 59)]⟩
def PWR_TLIM_THOT : Field := ⟨7, 0, .rw, [(0, 99), (121, 255)]⟩

/-- `PWR_TMAX` (19_power_and_health.md). -/
def PWR_TMAX : Nat := 0xF00F0050
def PWR_TMAX_MAX : Field := ⟨15, 0, .rc, []⟩

/-- `PWR_WAKE_CFG` (19_power_and_health.md). -/
def PWR_WAKE_CFG : Nat := 0xF00F0060
def PWR_WAKE_CFG_SLEW : Field := ⟨10, 0, .rw, [(0, 9), (1601, 2047)]⟩

/-- `PWR_WAKE_STAT` (19_power_and_health.md). -/
def PWR_WAKE_STAT : Nat := 0xF00F0064
def PWR_WAKE_STAT_BUSY : Field := ⟨31, 31, .ro, []⟩
def PWR_WAKE_STAT_QLEN : Field := ⟨13, 8, .ro, []⟩

/-- `PWR_TILE_CMD` (19_power_and_health.md). -/
def PWR_TILE_CMD : Nat := 0xF00F0070
def PWR_TILE_CMD_OP : Field := ⟨31, 30, .wo, []⟩
def PWR_TILE_CMD_TILE : Field := ⟨3, 0, .wo, []⟩

/-- `PWR_TILE_STAT` (19_power_and_health.md). -/
def PWR_TILE_STAT : Nat := 0xF00F0074
def PWR_TILE_STAT_PEND : Field := ⟨31, 31, .ro, []⟩
def PWR_TILE_STAT_RESULT : Field := ⟨7, 0, .ro, []⟩

/-- `PWR_TILE_STATE` (19_power_and_health.md). -/
def PWR_TILE_STATE : Nat := 0xF00F0078
def PWR_TILE_STATE_ST0 : Field := ⟨1, 0, .ro, []⟩
def PWR_TILE_STATE_ST1 : Field := ⟨3, 2, .ro, []⟩
def PWR_TILE_STATE_ST2 : Field := ⟨5, 4, .ro, []⟩
def PWR_TILE_STATE_ST3 : Field := ⟨7, 6, .ro, []⟩
def PWR_TILE_STATE_ST4 : Field := ⟨9, 8, .ro, []⟩
def PWR_TILE_STATE_ST5 : Field := ⟨11, 10, .ro, []⟩
def PWR_TILE_STATE_ST6 : Field := ⟨13, 12, .ro, []⟩
def PWR_TILE_STATE_ST7 : Field := ⟨15, 14, .ro, []⟩
def PWR_TILE_STATE_ST8 : Field := ⟨17, 16, .ro, []⟩
def PWR_TILE_STATE_ST9 : Field := ⟨19, 18, .ro, []⟩
def PWR_TILE_STATE_ST10 : Field := ⟨21, 20, .ro, []⟩
def PWR_TILE_STATE_ST11 : Field := ⟨23, 22, .ro, []⟩
def PWR_TILE_STATE_ST12 : Field := ⟨25, 24, .ro, []⟩
def PWR_TILE_STATE_ST13 : Field := ⟨27, 26, .ro, []⟩
def PWR_TILE_STATE_ST14 : Field := ⟨29, 28, .ro, []⟩
def PWR_TILE_STATE_ST15 : Field := ⟨31, 30, .ro, []⟩

/-- `PWR_SBY` (19_power_and_health.md). -/
def PWR_SBY : Nat := 0xF00F0080
def PWR_SBY_KEY : Field := ⟨31, 24, .wo, [(1, 90), (92, 255)]⟩
def PWR_SBY_TIMER : Field := ⟨19, 0, .rw, []⟩

/-- `PWR_SBY_STAT` (19_power_and_health.md). -/
def PWR_SBY_STAT : Nat := 0xF00F0084
def PWR_SBY_STAT_RESULT : Field := ⟨7, 0, .ro, []⟩

/-- `PWR_TEMP` (19_power_and_health.md). -/
def PWR_TEMP (k : Nat) : Nat := 0xF00F0020 + k * 0x4
def PWR_TEMP_VALID : Field := ⟨31, 31, .ro, []⟩
def PWR_TEMP_TEMP : Field := ⟨15, 0, .ro, []⟩

/-- `PWR_WAKE_WAIT_LO` (19_power_and_health.md). -/
def PWR_WAKE_WAIT_LO : Nat := 0xF00F00A0

/-- `PWR_WAKE_WAIT_HI` (19_power_and_health.md). -/
def PWR_WAKE_WAIT_HI : Nat := 0xF00F00A4

/-- `PWR_PFAILS_LO` (19_power_and_health.md). -/
def PWR_PFAILS_LO : Nat := 0xF00F00A8

/-- `PWR_PFAILS_HI` (19_power_and_health.md). -/
def PWR_PFAILS_HI : Nat := 0xF00F00AC

/-- `TST_STATUS` (19_power_and_health.md). -/
def TST_STATUS : Nat := 0xF0100000
def TST_STATUS_RSVD_WR : Field := ⟨31, 31, .w1c, []⟩
def TST_STATUS_STAGE_WR : Field := ⟨30, 30, .w1c, []⟩
def TST_STATUS_FAIL : Field := ⟨29, 29, .w1c, []⟩
def TST_STATUS_OVERDUE : Field := ⟨28, 28, .ro, []⟩
def TST_STATUS_LOGLOST : Field := ⟨27, 27, .w1c, []⟩
def TST_STATUS_RUNNING : Field := ⟨7, 7, .ro, []⟩
def TST_STATUS_CLASS : Field := ⟨2, 0, .ro, []⟩

/-- `TST_CFG` (19_power_and_health.md). -/
def TST_CFG : Nat := 0xF0100004
def TST_CFG_EN : Field := ⟨31, 31, .rw, []⟩
def TST_CFG_CLS : Field := ⟨19, 16, .rw, []⟩
def TST_CFG_PERIOD : Field := ⟨15, 0, .rw, [(0, 0)]⟩

/-- `TST_PROG` (19_power_and_health.md). -/
def TST_PROG : Nat := 0xF0100008
def TST_PROG_ELAPSED : Field := ⟨31, 16, .ro, []⟩
def TST_PROG_DONE : Field := ⟨9, 0, .ro, []⟩

/-- `TST_NOTFREE` (19_power_and_health.md). -/
def TST_NOTFREE : Nat := 0xF010000C
def TST_NOTFREE_NF : Field := ⟨15, 0, .ro, []⟩

/-- `TST_FREC` (19_power_and_health.md). -/
def TST_FREC : Nat := 0xF0100010
def TST_FREC_VALID : Field := ⟨31, 31, .w1c, []⟩
def TST_FREC_CLASS : Field := ⟨18, 16, .ro, []⟩
def TST_FREC_INDEX : Field := ⟨15, 0, .ro, []⟩

/-- `TST_LOG_HEAD_LO` (19_power_and_health.md). -/
def TST_LOG_HEAD_LO : Nat := 0xF0100018
def TST_LOG_HEAD_LO_VAL : Field := ⟨31, 0, .ro, []⟩

/-- `TST_LOG_HEAD_HI` (19_power_and_health.md). -/
def TST_LOG_HEAD_HI : Nat := 0xF010001C
def TST_LOG_HEAD_HI_VAL : Field := ⟨31, 0, .ro, []⟩

/-- `TST_LOG_RATE` (19_power_and_health.md). -/
def TST_LOG_RATE : Nat := 0xF0100020
def TST_LOG_RATE_RATE : Field := ⟨15, 0, .rw, [(0, 0), (1001, 65535)]⟩

/-- `TST_SRAM_FREE` (19_power_and_health.md). -/
def TST_SRAM_FREE (t : Nat) : Nat := 0xF0100040 + t * 0x4
def TST_SRAM_FREE_FREE : Field := ⟨31, 0, .rw, []⟩

/-- `TST_FAILS_LO` (19_power_and_health.md). -/
def TST_FAILS_LO : Nat := 0xF0100080

/-- `TST_FAILS_HI` (19_power_and_health.md). -/
def TST_FAILS_HI : Nat := 0xF0100084

/-- `TST_ABORT_LO` (19_power_and_health.md). -/
def TST_ABORT_LO : Nat := 0xF0100088

/-- `TST_ABORT_HI` (19_power_and_health.md). -/
def TST_ABORT_HI : Nat := 0xF010008C

/-- `TST_PASSES_LO` (19_power_and_health.md). -/
def TST_PASSES_LO : Nat := 0xF0100090

/-- `TST_PASSES_HI` (19_power_and_health.md). -/
def TST_PASSES_HI : Nat := 0xF0100094

/-- `TST_LOG_LOST_LO` (19_power_and_health.md). -/
def TST_LOG_LOST_LO : Nat := 0xF0100098

/-- `TST_LOG_LOST_HI` (19_power_and_health.md). -/
def TST_LOG_LOST_HI : Nat := 0xF010009C

def regTableMem0 : List RegDesc := [
  ⟨0xF0070000, [], 0x0, .plain, [MEM_STATUS_RSVD_WR, MEM_STATUS_STAGE_WR, MEM_STATUS_DDR_UP1, MEM_STATUS_DDR_UP0]⟩,
  ⟨0xF0070010, [(2, 0x4)], 0x0, .plain, [MEM_DDR_CFG_SIZE, MEM_DDR_CFG_RANKS, MEM_DDR_CFG_WIDTH, MEM_DDR_CFG_RATE]⟩,
  ⟨0xF0070018, [], 0x0, .plain, [MEM_DDR_MAP_INSTALLED, MEM_DDR_MAP_SPARE_EN, MEM_DDR_MAP_ILV]⟩,
  ⟨0xF0070020, [], 0x18, .plain, [MEM_PATROL_EN, MEM_PATROL_HOURS]⟩,
  ⟨0xF0070030, [], 0x0, .plain, [MEM_RET_CMD_OP, MEM_RET_CMD_IDX]⟩,
  ⟨0xF0070034, [], 0x0, .plain, [MEM_RET_PAGE_PAGE]⟩,
  ⟨0xF0070038, [], 0x0, .plain, [MEM_RET_STAT_BUSY, MEM_RET_STAT_RESULT]⟩,
  ⟨0xF0070040, [], 0x0, .plain, [MEM_SRAM_CMD_OP, MEM_SRAM_CMD_TILE, MEM_SRAM_CMD_BANK]⟩,
  ⟨0xF0070044, [], 0x0, .plain, [MEM_SRAM_STAT_BUSY, MEM_SRAM_STAT_RESULT]⟩,
  ⟨0xF0070080, [(16, 0x4)], 0x0, .plain, [MEM_SRAM_MAP_SP1_USED, MEM_SRAM_MAP_SP1_BANK, MEM_SRAM_MAP_SP0_USED, MEM_SRAM_MAP_SP0_BANK]⟩,
  ⟨0xF0070100, [], 0x0, .plain, [ECC_LOG_CTL_POP, ECC_LOG_CTL_OVF, ECC_LOG_CTL_COUNT]⟩,
  ⟨0xF0070104, [(4, 0x4)], 0x0, .plain, [ECC_LOG_W_VAL]⟩,
  ⟨0xF0070118, [], 0x0, .counterLo, counterLoFields⟩,
  ⟨0xF007011C, [], 0x0, .counterHi, counterHiFields⟩,
  ⟨0xF0071000, [(50, 0x10)], 0x0, .counterLo, counterLoFields⟩,
  ⟨0xF0071400, [(2, 0x10)], 0x0, .counterLo, counterLoFields⟩,
  ⟨0xF0071004, [(50, 0x10)], 0x0, .counterHi, counterHiFields⟩,
  ⟨0xF0071404, [(2, 0x10)], 0x0, .counterHi, counterHiFields⟩,
  ⟨0xF0071008, [(50, 0x10)], 0x0, .counterLo, counterLoFields⟩,
  ⟨0xF0071408, [(2, 0x10)], 0x0, .counterLo, counterLoFields⟩,
  ⟨0xF007100C, [(50, 0x10)], 0x0, .counterHi, counterHiFields⟩,
  ⟨0xF007140C, [(2, 0x10)], 0x0, .counterHi, counterHiFields⟩,
  ⟨0xF0072000, [(50, 0x20)], 0x0, .plain, [ECC_FLIP_CTL_ARM, ECC_FLIP_CTL_DONE, ECC_FLIP_CTL_MATCH, ECC_FLIP_CTL_WORD]⟩,
  ⟨0xF0072800, [(2, 0x20)], 0x0, .plain, [ECC_FLIP_CTL_ARM, ECC_FLIP_CTL_DONE, ECC_FLIP_CTL_MATCH, ECC_FLIP_CTL_WORD]⟩]
def regTableMem1 : List RegDesc := [
  ⟨0xF0072004, [(50, 0x20)], 0x0, .plain, [ECC_FLIP_ADDR_LO_ADDR]⟩,
  ⟨0xF0072804, [(2, 0x20)], 0x0, .plain, [ECC_FLIP_ADDR_LO_ADDR]⟩,
  ⟨0xF0072008, [(50, 0x20)], 0x0, .plain, [ECC_FLIP_ADDR_HI_ADDR_HI]⟩,
  ⟨0xF0072808, [(2, 0x20)], 0x0, .plain, [ECC_FLIP_ADDR_HI_ADDR_HI]⟩,
  ⟨0xF007200C, [(50, 0x20)], 0x0, .plain, [ECC_FLIP_D0_D0]⟩,
  ⟨0xF007280C, [(2, 0x20)], 0x0, .plain, [ECC_FLIP_D0_D0]⟩,
  ⟨0xF0072010, [(50, 0x20)], 0x0, .plain, [ECC_FLIP_D1_D1]⟩,
  ⟨0xF0072810, [(2, 0x20)], 0x0, .plain, [ECC_FLIP_D1_D1]⟩,
  ⟨0xF0072014, [(50, 0x20)], 0x0, .plain, [ECC_FLIP_C_C]⟩,
  ⟨0xF0072814, [(2, 0x20)], 0x0, .plain, [ECC_FLIP_C_C]⟩,
  ⟨0xF0074000, [(257, 0x20), (7, 0x4)], 0x0, .plain, [MEM_WIN_EN, MEM_WIN_BASE]⟩,
  ⟨0xF0078000, [(1024, 0x4)], 0x0, .plain, [MEM_RET_ENTRY_VALID, MEM_RET_ENTRY_PAGE]⟩,
  ⟨0xF007A000, [(16, 0x40)], 0x0, .plain, [MEM_DMA_Q_ADDR]⟩,
  ⟨0xF007A004, [(16, 0x40)], 0x0, .plain, [MEM_DMA_STAT_RUN, MEM_DMA_STAT_DROP, MEM_DMA_STAT_DEPTH]⟩,
  ⟨0xF007A008, [(16, 0x40)], 0x0, .plain, [MEM_DMA_CTL_ABORT]⟩,
  ⟨0xF007A010, [(16, 0x40)], 0x0, .counterLo, counterLoFields⟩,
  ⟨0xF007A014, [(16, 0x40)], 0x0, .counterHi, counterHiFields⟩]
/-- Every register row of the MEM group. -/
def regTableMem : List RegDesc := regTableMem0 ++ regTableMem1

def regTableMemk0 : List RegDesc := [
  ⟨0x200000050, [(512, 0x100)], 0x0, .plain, [MEM_DMA_RES_RESULT]⟩]
/-- Every register row of the MEMK group. -/
def regTableMemk : List RegDesc := regTableMemk0

def regTableNvm0 : List RegDesc := [
  ⟨0xF0080000, [], 0x0, .plain, [NVM_STATUS_RSVD_WR, NVM_STATUS_STAGE_WR, NVM_STATUS_HALF_E_FAIL, NVM_STATUS_HALF_W_FAIL, NVM_STATUS_BUSY, NVM_STATUS_REFUSED, NVM_STATUS_RESULT]⟩,
  ⟨0xF0080004, [], 0x0, .plain, [NVM_CMD_GO, NVM_CMD_LINE]⟩,
  ⟨0xF0080040, [(16, 0x4)], 0x0, .plain, [NVM_BUF_DATA]⟩,
  ⟨0xF0080080, [], 0x0, .pairLo, [NVM_WEAR_LO_VAL]⟩,
  ⟨0xF0080084, [], 0x0, .pairHi, [NVM_WEAR_HI_VAL]⟩,
  ⟨0xF0080088, [], 0x0, .counterLo, counterLoFields⟩,
  ⟨0xF008008C, [], 0x0, .counterHi, counterHiFields⟩]
/-- Every register row of the NVM group. -/
def regTableNvm : List RegDesc := regTableNvm0

def regTableLeat0 : List RegDesc := [
  ⟨0xF0090000, [], 0x0, .plain, [LEAT_STATUS_RSVD_WR, LEAT_STATUS_STAGE_WR, LEAT_STATUS_IDXCONF, LEAT_STATUS_DIST_LOST, LEAT_STATUS_WRAP, LEAT_STATUS_HEADWATER, LEAT_STATUS_MSTATE, LEAT_STATUS_TOPO]⟩,
  ⟨0xF0090004, [], 0x0, .plain, [LEAT_ID_HWIDX, LEAT_ID_DEV]⟩,
  ⟨0xF0090008, [], 0xF32, .plain, [LEAT_CFG_HWSEL, LEAT_CFG_FIX, LEAT_CFG_FIXIDX, LEAT_CFG_PEN, LEAT_CFG_DIST_HOLD]⟩,
  ⟨0xF009000C, [], 0x0, .plain, [LEAT_MAP_MAPGEN, LEAT_MAP_MEMBERS]⟩,
  ⟨0xF0090010, [], 0x0, .plain, [LEAT_STALE_GO, LEAT_STALE_CAUSE, LEAT_STALE_METHOD, LEAT_STALE_SRC, LEAT_STALE_RESULT, LEAT_STALE_TILES]⟩,
  ⟨0xF0090014, [], 0x0, .plain, [LEAT_REF_GEN_GEN]⟩,
  ⟨0xF0090018, [], 0x0, .pairLo, [LEAT_REF_JSEQ_LO_JSEQ]⟩,
  ⟨0xF009001C, [], 0x0, .pairHi, [LEAT_REF_JSEQ_HI_JSEQ_HI]⟩,
  ⟨0xF0090020, [], 0x0, .plain, [LEAT_ADMIT_OP, LEAT_ADMIT_DEV]⟩,
  ⟨0xF0090024, [], 0x0, .plain, [LEAT_ADMIT_STAT_PEND, LEAT_ADMIT_STAT_RESULT]⟩,
  ⟨0xF0090028, [], 0x0, .pairLo, [LEAT_TOFS_LO_VAL]⟩,
  ⟨0xF009002C, [], 0x0, .pairHi, [LEAT_TOFS_HI_VAL]⟩,
  ⟨0xF0090030, [], 0x0, .plain, [LEAT_TRET_OP, LEAT_TRET_TILE]⟩,
  ⟨0xF0090034, [], 0x0, .plain, [LEAT_TRET_STAT_PEND, LEAT_TRET_STAT_RESULT, LEAT_TRET_STAT_RETIRED]⟩,
  ⟨0xF0090100, [(4, 0x40)], 0x0, .plain, [LP_STATUS_UP, LP_STATUS_STATE, LP_STATUS_LEVEL, LP_STATUS_P5120, LP_STATUS_HWCONF, LP_STATUS_LREV, LP_STATUS_LPOL, LP_STATUS_PEER_DEV, LP_STATUS_PEER_PT]⟩,
  ⟨0xF0090104, [(4, 0x40)], 0x20000000, .plain, [LP_CFG_RETRAIN, LP_CFG_LVLMAX]⟩,
  ⟨0xF0090108, [(4, 0x40)], 0x0, .plain, [LP_CABLE_DLY]⟩,
  ⟨0xF0090110, [(4, 0x40)], 0x0, .counterLo, counterLoFields⟩,
  ⟨0xF0090114, [(4, 0x40)], 0x0, .counterHi, counterHiFields⟩,
  ⟨0xF0090118, [(4, 0x40)], 0x0, .counterLo, counterLoFields⟩,
  ⟨0xF009011C, [(4, 0x40)], 0x0, .counterHi, counterHiFields⟩,
  ⟨0xF0090120, [(4, 0x40)], 0x0, .counterLo, counterLoFields⟩,
  ⟨0xF0090124, [(4, 0x40)], 0x0, .counterHi, counterHiFields⟩,
  ⟨0xF0090400, [(512, 0x4)], 0x0, .plain, [LEAT_PATH_MEMBER, LEAT_PATH_L1, LEAT_PATH_PORT, LEAT_PATH_HOPS, LEAT_PATH_ONEWAY]⟩]
def regTableLeat1 : List RegDesc := [
  ⟨0xF0091000, [(512, 0x10)], 0x0, .plain, [LEAT_MREC_STATE]⟩,
  ⟨0xF0091004, [(512, 0x10)], 0x0, .plain, [LEAT_MREC_GEN_VAL]⟩,
  ⟨0xF0091008, [(512, 0x10)], 0x0, .pairLo, [LEAT_MREC_JSEQ_LO_VAL]⟩,
  ⟨0xF009100C, [(512, 0x10)], 0x0, .pairHi, [LEAT_MREC_JSEQ_HI_VAL]⟩]
/-- Every register row of the LEAT group. -/
def regTableLeat : List RegDesc := regTableLeat0 ++ regTableLeat1

def regTableTwin0 : List RegDesc := [
  ⟨0xF00A0000, [], 0x0, .plain, [TWIN_STATUS_RSVD_WR, TWIN_STATUS_STAGE_WR, TWIN_STATUS_POSCONF, TWIN_STATUS_SCAUSE, TWIN_STATUS_MISMATCH, TWIN_STATUS_HBLOST, TWIN_STATUS_PEER_SEL, TWIN_STATUS_SEL, TWIN_STATUS_ROLE, TWIN_STATUS_STATE]⟩,
  ⟨0xF00A0004, [], 0x3502000, .plain, [TWIN_CFG_EN, TWIN_CFG_POS, TWIN_CFG_PORT, TWIN_CFG_HB_MISS, TWIN_CFG_WIN_L]⟩,
  ⟨0xF00A0008, [], 0x0, .plain, [TWIN_CMD_OP]⟩,
  ⟨0xF00A000C, [], 0x0, .plain, [TWIN_RESULT_PEND, TWIN_RESULT_RESULT]⟩,
  ⟨0xF00A0010, [], 0x0, .plain, [TWIN_PEER_UID_LO_VAL]⟩,
  ⟨0xF00A0014, [], 0x0, .plain, [TWIN_PEER_UID_HI_VAL]⟩,
  ⟨0xF00A0018, [], 0x0, .plain, [TWIN_DIG_SUM]⟩,
  ⟨0xF00A001C, [], 0x0, .plain, [TWIN_PDIG_SUM]⟩,
  ⟨0xF00A0020, [], 0x0, .plain, [TWIN_DCNT_PCOUNT, TWIN_DCNT_COUNT]⟩,
  ⟨0xF00A0024, [], 0x0, .pairLo, [TWIN_MWIN_LO_VAL]⟩,
  ⟨0xF00A0028, [], 0x0, .pairHi, [TWIN_MWIN_HI_VAL]⟩,
  ⟨0xF00A002C, [], 0x0, .plain, [TWIN_TAKE_VALID, TWIN_TAKE_PCAUSE, TWIN_TAKE_CAUSE]⟩,
  ⟨0xF00A0030, [], 0x0, .pairLo, [TWIN_TAKE_T_LO_VAL]⟩,
  ⟨0xF00A0034, [], 0x0, .pairHi, [TWIN_TAKE_T_HI_VAL]⟩,
  ⟨0xF00A0040, [], 0x0, .counterLo, counterLoFields⟩,
  ⟨0xF00A0044, [], 0x0, .counterHi, counterHiFields⟩,
  ⟨0xF00A0048, [], 0x0, .counterLo, counterLoFields⟩,
  ⟨0xF00A004C, [], 0x0, .counterHi, counterHiFields⟩,
  ⟨0xF00A0050, [], 0x0, .counterLo, counterLoFields⟩,
  ⟨0xF00A0054, [], 0x0, .counterHi, counterHiFields⟩,
  ⟨0xF00A0058, [], 0x0, .counterLo, counterLoFields⟩,
  ⟨0xF00A005C, [], 0x0, .counterHi, counterHiFields⟩]
/-- Every register row of the TWIN group. -/
def regTableTwin : List RegDesc := regTableTwin0

def regTableHost0 : List RegDesc := [
  ⟨0xF00B0000, [], 0x0, .plain, [HOST_STATUS_RSVD_WR, HOST_STATUS_STAGE_WR, HOST_STATUS_SVHALT, HOST_STATUS_LINKUP, HOST_STATUS_SPEED, HOST_STATUS_WIDTH]⟩,
  ⟨0xF00B0010, [(8, 0x4)], 0x0, .plain, [HOST_QP_ALLOW_ALLOW]⟩,
  ⟨0xF00B0040, [], 0x0, .plain, [HOST_SV_MBX_EN, HOST_SV_MBX_TILE, HOST_SV_MBX_OFF]⟩,
  ⟨0xF00B0400, [(256, 0x4)], 0x0, .plain, [HOST_QP_MBX_EN, HOST_QP_MBX_OFF]⟩,
  ⟨0xF00B0044, [], 0x0, .plain, [HOST_MGT_GO, HOST_MGT_BUSY, HOST_MGT_DONE]⟩,
  ⟨0xF00B0048, [(4, 0x4)], 0x0, .plain, [HOST_MGT_DATA_DATA]⟩,
  ⟨0xF00B0080, [(32, 0x4)], 0x0, .plain, [HOST_PF_VEC_EN, HOST_PF_VEC_SRC]⟩,
  ⟨0xF00B0100, [], 0x35, .plain, [HOST_UART_CFG_DIV]⟩,
  ⟨0xF00B0104, [], 0x0, .data, [HOST_UART_DATA_CHAR]⟩,
  ⟨0xF00B0108, [], 0x0, .plain, [HOST_UART_STAT_OVR, HOST_UART_STAT_TXFULL, HOST_UART_STAT_RXAV]⟩]
/-- Every register row of the HOST group. -/
def regTableHost : List RegDesc := regTableHost0

def regTableQpk0 : List RegDesc := [
  ⟨0x500000000, [(257, 0x1000)], 0x0, .plain, [QP_SQB_LO_BASE]⟩,
  ⟨0x500000004, [(257, 0x1000)], 0x0, .plain, [QP_SQB_HI_BASE]⟩,
  ⟨0x500000008, [(257, 0x1000)], 0x0, .plain, [QP_CQB_LO_BASE]⟩,
  ⟨0x50000000C, [(257, 0x1000)], 0x0, .plain, [QP_CQB_HI_BASE]⟩,
  ⟨0x500000010, [(257, 0x1000)], 0x0, .plain, [QP_CFG_EN, QP_CFG_LEVEL, QP_CFG_CQS, QP_CFG_SQS]⟩,
  ⟨0x500000014, [(257, 0x1000)], 0x0, .plain, [QP_STATUS_ERR, QP_STATUS_ALLOWED, QP_STATUS_INFL]⟩,
  ⟨0x500000018, [(257, 0x1000)], 0x0, .plain, [QP_SQ_TAIL_TAIL]⟩,
  ⟨0x50000001C, [(257, 0x1000)], 0x0, .plain, [QP_CQ_HEAD_HEAD]⟩]
/-- Every register row of the QPK group. -/
def regTableQpk : List RegDesc := regTableQpk0

def regTableJnl0 : List RegDesc := [
  ⟨0xF00C0000, [], 0x0, .plain, [JNL_STATUS_RSVD_WR, JNL_STATUS_STAGE_WR, JNL_STATUS_PFAIL, JNL_STATUS_DEGRADED, JNL_STATUS_RWAIT]⟩,
  ⟨0xF00C0004, [], 0x27101000, .plain, [JNL_RATE_RATE, JNL_RATE_BURST]⟩,
  ⟨0xF00C0008, [], 0x0, .pairLo, [JNL_SEQ_LO_VAL]⟩,
  ⟨0xF00C000C, [], 0x0, .pairHi, [JNL_SEQ_HI_VAL]⟩,
  ⟨0xF00C0010, [], 0x0, .plain, [JNL_POS_POS]⟩,
  ⟨0xF00C0014, [], 0x0, .plain, [JNL_INFL_INFL]⟩,
  ⟨0xF00C0020, [], 0x0, .counterLo, counterLoFields⟩,
  ⟨0xF00C0024, [], 0x0, .counterHi, counterHiFields⟩]
/-- Every register row of the JNL group. -/
def regTableJnl : List RegDesc := regTableJnl0

def regTableBoot0 : List RegDesc := [
  ⟨0xF00D0000, [], 0x0, .plain, [BOOT_STATUS_RSVD_WR, BOOT_STATUS_STAGE_WR, BOOT_STATUS_WREJ, BOOT_STATUS_CAUSE2, BOOT_STATUS_CAUSE, BOOT_STATUS_IMAGE, BOOT_STATUS_LATE, BOOT_STATUS_MODE, BOOT_STATUS_STATE]⟩,
  ⟨0xF00D0004, [], 0x0, .plain, [BOOT_CTL_JGO, BOOT_CTL_RST]⟩,
  ⟨0xF00D0008, [], 0x0, .plain, [BOOT_IMG_VAL]⟩,
  ⟨0xF00D000C, [], 0x0, .plain, [BOOT_OXBOW_VAL]⟩,
  ⟨0xF00D0010, [], 0x0, .plain, [BOOT_HDR_NDEV, BOOT_HDR_DUMMY, BOOT_HDR_FCLK]⟩,
  ⟨0xF00D0014, [], 0x0, .plain, [BOOT_LATE_BUSY, BOOT_LATE_DEV, BOOT_LATE_PEND, BOOT_LATE_RESULT]⟩,
  ⟨0xF00D0020, [], 0x39000A, .plain, [BOOT_SLUICE_CTL_GO, BOOT_SLUICE_CTL_PROGRDY, BOOT_SLUICE_CTL_POS3, BOOT_SLUICE_CTL_POS2, BOOT_SLUICE_CTL_POS1, BOOT_SLUICE_CTL_LTMO]⟩,
  ⟨0xF00D0034, [], 0x5, .plain, [BOOT_SLUICE_STAT_BADOP, BOOT_SLUICE_STAT_FAIL, BOOT_SLUICE_STAT_DONE, BOOT_SLUICE_STAT_POS]⟩,
  ⟨0xF00D0038, [], 0x0, .plain, [BOOT_LOCKMASK_MASK]⟩,
  ⟨0xF00D0040, [], 0x0, .plain, [BOOT_KEYCMD_OP, BOOT_KEYCMD_ARG]⟩,
  ⟨0xF00D0074, [], 0x0, .plain, [BOOT_KEYSTAT_BUSY, BOOT_KEYSTAT_RESULT, BOOT_KEYSTAT_SESSION, BOOT_KEYSTAT_DLOCK, BOOT_KEYSTAT_KLOCK, BOOT_KEYSTAT_HASHSET]⟩,
  ⟨0xF00D0080, [], 0xC0000001, .plain, [BOOT_CI_CFG_EN, BOOT_CI_CFG_REPAIR, BOOT_CI_CFG_FENCE, BOOT_CI_CFG_PERIOD]⟩,
  ⟨0xF00D0084, [], 0x0, .plain, [BOOT_CI_STATUS_ALARM, BOOT_CI_STATUS_REFERR, BOOT_CI_STATUS_FRAMES]⟩,
  ⟨0xF00D0088, [], 0x0, .plain, [BOOT_CI_REC_ID_ID]⟩,
  ⟨0xF00D008C, [], 0x0, .plain, [BOOT_CI_REC_VALID, BOOT_CI_REC_ESS, BOOT_CI_REC_REPAIRED, BOOT_CI_REC_BIT]⟩,
  ⟨0xF00D0024, [(4, 0x4)], 0x0, .plain, [BOOT_SLUICE_DLY_DLY]⟩,
  ⟨0xF00D0044, [(12, 0x4)], 0x0, .plain, [BOOT_KEYBUF_DATA]⟩,
  ⟨0xF00D00A0, [], 0x0, .counterLo, counterLoFields⟩,
  ⟨0xF00D00A4, [], 0x0, .counterHi, counterHiFields⟩,
  ⟨0xF00D00A8, [], 0x0, .counterLo, counterLoFields⟩,
  ⟨0xF00D00AC, [], 0x0, .counterHi, counterHiFields⟩,
  ⟨0xF00D00B0, [], 0x0, .counterLo, counterLoFields⟩,
  ⟨0xF00D00B4, [], 0x0, .counterHi, counterHiFields⟩]
/-- Every register row of the BOOT group. -/
def regTableBoot : List RegDesc := regTableBoot0

def regTableCal0 : List RegDesc := [
  ⟨0xF00E0000, [], 0x0, .plain, [CAL_STATUS_RSVD_WR, CAL_STATUS_STAGE_WR, CAL_STATUS_FAIL, CAL_STATUS_NOSTORE, CAL_STATUS_PEND, CAL_STATUS_PUDONE, CAL_STATUS_BUSY, CAL_STATUS_BANK]⟩,
  ⟨0xF00E0004, [], 0x0, .plain, [CAL_CMD_OP, CAL_CMD_SRC, CAL_CMD_CLASS]⟩,
  ⟨0xF00E0008, [], 0x0, .plain, [CAL_RESULT_NFAIL, CAL_RESULT_RESULT]⟩,
  ⟨0xF00E000C, [], 0x0, .plain, [CAL_SEQ_VAL]⟩,
  ⟨0xF00E0010, [], 0x0, .plain, [CAL_XADDR_LO_ADDR]⟩,
  ⟨0xF00E0014, [], 0x0, .plain, [CAL_XADDR_HI_ADDR_HI]⟩,
  ⟨0xF00E0030, [], 0x0, .plain, [CAL_FREC_VALID, CAL_FREC_KIND, CAL_FREC_CLASS, CAL_FREC_INDEX]⟩,
  ⟨0xF00E0020, [], 0x10101010, .plain, [CAL_DRIFT0_DL_REF, CAL_DRIFT0_DL_TDAC, CAL_DRIFT0_DL_SLICE, CAL_DRIFT0_DL_CELL_IN]⟩,
  ⟨0xF00E0024, [], 0x10101000, .plain, [CAL_DRIFT1_DL_CELL_FC, CAL_DRIFT1_DL_CELL_DAC, CAL_DRIFT1_DL_CMP]⟩,
  ⟨0xF00E0040, [], 0x0, .counterLo, counterLoFields⟩,
  ⟨0xF00E0044, [], 0x0, .counterHi, counterHiFields⟩,
  ⟨0xF00E0048, [], 0x0, .counterLo, counterLoFields⟩,
  ⟨0xF00E004C, [], 0x0, .counterHi, counterHiFields⟩]
/-- Every register row of the CAL group. -/
def regTableCal : List RegDesc := regTableCal0

def regTablePwr0 : List RegDesc := [
  ⟨0xF00F0000, [], 0x0, .plain, [PWR_STATUS_RSVD_WR, PWR_STATUS_STAGE_WR, PWR_STATUS_THOT, PWR_STATUS_TWARN, PWR_STATUS_PFL, PWR_STATUS_PFSEEN, PWR_STATUS_VAHI_E_UV, PWR_STATUS_VAHI_W_UV, PWR_STATUS_WQ, PWR_STATUS_STATE]⟩,
  ⟨0xF00F0004, [], 0x0, .plain, [PWR_LASTLOSS_VALID, PWR_LASTLOSS_RAIL, PWR_LASTLOSS_CAUSE]⟩,
  ⟨0xF00F0008, [], 0x0, .plain, [PWR_RAIL_GOOD]⟩,
  ⟨0xF00F000C, [], 0x0, .plain, [PWR_VIO_UV_UV]⟩,
  ⟨0xF00F0010, [], 0x6973, .plain, [PWR_TLIM_TWARN, PWR_TLIM_THOT]⟩,
  ⟨0xF00F0050, [], 0x0, .plain, [PWR_TMAX_MAX]⟩,
  ⟨0xF00F0060, [], 0x64, .plain, [PWR_WAKE_CFG_SLEW]⟩,
  ⟨0xF00F0064, [], 0x0, .plain, [PWR_WAKE_STAT_BUSY, PWR_WAKE_STAT_QLEN]⟩,
  ⟨0xF00F0070, [], 0x0, .plain, [PWR_TILE_CMD_OP, PWR_TILE_CMD_TILE]⟩,
  ⟨0xF00F0074, [], 0x0, .plain, [PWR_TILE_STAT_PEND, PWR_TILE_STAT_RESULT]⟩,
  ⟨0xF00F0078, [], 0xFFFFFFFF, .plain, [PWR_TILE_STATE_ST0, PWR_TILE_STATE_ST1, PWR_TILE_STATE_ST2, PWR_TILE_STATE_ST3, PWR_TILE_STATE_ST4, PWR_TILE_STATE_ST5, PWR_TILE_STATE_ST6, PWR_TILE_STATE_ST7, PWR_TILE_STATE_ST8, PWR_TILE_STATE_ST9, PWR_TILE_STATE_ST10, PWR_TILE_STATE_ST11, PWR_TILE_STATE_ST12, PWR_TILE_STATE_ST13, PWR_TILE_STATE_ST14, PWR_TILE_STATE_ST15]⟩,
  ⟨0xF00F0080, [], 0x0, .plain, [PWR_SBY_KEY, PWR_SBY_TIMER]⟩,
  ⟨0xF00F0084, [], 0x0, .plain, [PWR_SBY_STAT_RESULT]⟩,
  ⟨0xF00F0020, [(12, 0x4)], 0x0, .plain, [PWR_TEMP_VALID, PWR_TEMP_TEMP]⟩,
  ⟨0xF00F00A0, [], 0x0, .counterLo, counterLoFields⟩,
  ⟨0xF00F00A4, [], 0x0, .counterHi, counterHiFields⟩,
  ⟨0xF00F00A8, [], 0x0, .counterLo, counterLoFields⟩,
  ⟨0xF00F00AC, [], 0x0, .counterHi, counterHiFields⟩]
/-- Every register row of the PWR group. -/
def regTablePwr : List RegDesc := regTablePwr0

def regTableTst0 : List RegDesc := [
  ⟨0xF0100000, [], 0x7, .plain, [TST_STATUS_RSVD_WR, TST_STATUS_STAGE_WR, TST_STATUS_FAIL, TST_STATUS_OVERDUE, TST_STATUS_LOGLOST, TST_STATUS_RUNNING, TST_STATUS_CLASS]⟩,
  ⟨0xF0100004, [], 0x800F0018, .plain, [TST_CFG_EN, TST_CFG_CLS, TST_CFG_PERIOD]⟩,
  ⟨0xF0100008, [], 0x0, .plain, [TST_PROG_ELAPSED, TST_PROG_DONE]⟩,
  ⟨0xF010000C, [], 0x0, .plain, [TST_NOTFREE_NF]⟩,
  ⟨0xF0100010, [], 0x0, .plain, [TST_FREC_VALID, TST_FREC_CLASS, TST_FREC_INDEX]⟩,
  ⟨0xF0100018, [], 0x0, .pairLo, [TST_LOG_HEAD_LO_VAL]⟩,
  ⟨0xF010001C, [], 0x0, .pairHi, [TST_LOG_HEAD_HI_VAL]⟩,
  ⟨0xF0100020, [], 0xA, .plain, [TST_LOG_RATE_RATE]⟩,
  ⟨0xF0100040, [(16, 0x4)], 0x0, .plain, [TST_SRAM_FREE_FREE]⟩,
  ⟨0xF0100080, [], 0x0, .counterLo, counterLoFields⟩,
  ⟨0xF0100084, [], 0x0, .counterHi, counterHiFields⟩,
  ⟨0xF0100088, [], 0x0, .counterLo, counterLoFields⟩,
  ⟨0xF010008C, [], 0x0, .counterHi, counterHiFields⟩,
  ⟨0xF0100090, [], 0x0, .counterLo, counterLoFields⟩,
  ⟨0xF0100094, [], 0x0, .counterHi, counterHiFields⟩,
  ⟨0xF0100098, [], 0x0, .counterLo, counterLoFields⟩,
  ⟨0xF010009C, [], 0x0, .counterHi, counterHiFields⟩]
/-- Every register row of the TST group. -/
def regTableTst : List RegDesc := regTableTst0

end Sys2Proof.Machine
end

