-- ==== Sys2Proof/Machine/RegMap.lean ====
section
/-! DEFINITION. The register map: which block a register-space address lies in (R13-R15, Tables 0.5 and 0.6),
the register defined there and its reset value, and the status register that reports RSVD_WR and STAGE_WR for
it (R19). -/

namespace Sys2Proof.Machine

/-- The blocks of register space. -/
inductive Block where
  | sys | ang | cxb | irq | pin | inst | mem | nvm | leat | twin | host | jnl | boot | cal | pwr | tst | obs
  | cel | celMx | cvg | cvgCom | flt | drv | drvCom | weir | lgcRg | lgcCom | tileGap
  | none
  deriving DecidableEq, Repr

/-- The unit block at an offset of a tile's range (Table 0.6). -/
def tileBlock (o : Nat) : Block :=
  if o < 0x8000 then .cel
  else if o < 0x9000 then .celMx
  else if o < 0x10000 then .tileGap
  else if o < 0x14000 then .cvg
  else if o < 0x15000 then .cvgCom
  else if o < 0x20000 then .tileGap
  else if o < 0x24000 then .flt
  else if o < 0x30000 then .tileGap
  else if o < 0x32000 then .drv
  else if o < 0x38000 then .tileGap
  else if o < 0x39000 then .drvCom
  else if o < 0x40000 then .tileGap
  else if o < 0x40800 then .weir
  else if o < 0x50000 then .tileGap
  else if o < 0x60000 then .lgcRg
  else if o < 0x61000 then .lgcCom
  else .tileGap

/-- The block of a register-space address (Tables 0.5 and 0.6). -/
def blockOf (a : Nat) : Block :=
  if 0xF1000000 ≤ a then (if a < 0xF2000000 then tileBlock (a % 0x100000) else .none)
  else if a < 0xF0000000 then .none
  else match a / 0x10000 - 0xF000 with
    | 0 => .sys | 1 => .ang | 2 => .cxb | 3 => .cxb | 4 => .irq | 5 => .pin | 6 => .inst | 7 => .mem
    | 8 => .nvm | 9 => .leat | 10 => .twin | 11 => .host | 12 => .jnl | 13 => .boot | 14 => .cal
    | 15 => .pwr | 16 => .tst | 17 => .obs
    | _ => .none

/-- The register rows of a block; the model's keys of windowed and per-requester registers lie above 2^32. -/
def blockTable (a : Nat) : List RegDesc :=
  if 0x100000000 ≤ a then
    match a / 0x100000000 with
    | 1 => regTableInstk
    | 2 => regTableInst ++ regTableIrq ++ regTableMemk ++ regTableInstk ++ regTableIrqk
    | 3 => regTableIrqk
    | 4 => regTableInstk
    | _ => regTableQpk
  else match blockOf a with
    | .sys => regTableSys | .ang => regTableAng | .cxb => regTableCxb | .irq => regTableIrq
    | .pin => regTablePin | .inst => regTableInst | .mem => regTableMem | .nvm => regTableNvm
    | .leat => regTableLeat | .twin => regTableTwin | .host => regTableHost | .jnl => regTableJnl
    | .boot => regTableBoot | .cal => regTableCal | .pwr => regTablePwr | .tst => regTableTst
    | .obs => regTableObs | .cel => regTableCel | .celMx => regTableCelMx | .cvg => regTableCvg
    | .cvgCom => regTableCvgCom | .flt => regTableFltch ++ regTableFlt | .drv => regTableDrv
    | .drvCom => regTableDrvCom | .weir => regTableWeir | .lgcRg => regTableLgcrg
    | .lgcCom => regTableLgc | .tileGap => [] | .none => []

/-- The register at an address, if one is defined there. -/
def descOf (a : Nat) : Option RegDesc := (blockTable a).find? (descMatches a)

/-- The reset value of the register at an address. -/
def resetWord (a : Nat) : Word :=
  match descOf a with
  | some r => r.reset
  | none => 0

/-- The tile of a tile-range address. -/
def tileOf (a : Nat) : Nat := a / 0x100000 % 0x10

/-- The status register that holds RSVD_WR and STAGE_WR for an address (R19). -/
def statusOf (a : Nat) : Nat :=
  let t := tileOf a
  let o := a % 0x100000
  match blockOf a with
  | .sys => SYS_STATUS | .ang => ANG_STATUS | .cxb => CXB_STATUS | .irq => IRQ_STATUS | .pin => PIN_STATUS
  | .inst => INST_STATUS | .mem => MEM_STATUS | .nvm => NVM_STATUS | .leat => LEAT_STATUS
  | .twin => TWIN_STATUS | .host => HOST_STATUS | .jnl => JNL_STATUS | .boot => BOOT_STATUS
  | .cal => CAL_STATUS | .pwr => PWR_STATUS | .tst => TST_STATUS | .obs => OBS_STATUS
  | .cel => CEL_STATUS (t * 32 + o / 0x400)
  | .celMx => CEL_MX_STATUS t
  | .cvg => CVG_STATUS (t * 4 + o / 0x1000 % 16)
  | .cvgCom => CVG_COM_STATUS t
  | .flt => FLT_STATUS (t * 4 + o / 0x1000 % 16)
  | .drv => DRV_STATUS (t * 32 + o / 0x100 % 256)
  | .drvCom => DRV_COM_STATUS t
  | .weir => WEIR_STATUS (t * 32 + o / 0x40 % 1024)
  | .lgcRg | .lgcCom | .tileGap => LGC_STATUS t
  | .none => SYS_STATUS

end Sys2Proof.Machine
end

