-- ==== Sys2Proof/Machine/State.lean ====
section
/-! DEFINITION. The state of the block as plain data: the registers in sparse tables over the register map, and
for each block what the spec gives it besides its registers. INVENTORY.md lists every piece with its rule. -/

namespace Sys2Proof.Machine

/-- A 48-bit event counter (R45). -/
structure Ctr where
  count : BitVec 48
  ovf : Bool
  deriving DecidableEq, Repr

/-- What a read of a counter's low register leaves for the requester (R46): the bits above [31] and OVF. -/
structure CtrShadow where
  hi : Nat
  ovf : Bool
  deriving DecidableEq, Repr

/-- A counter load on its way to the next count edge (R48, R49): the value, and whether OVF is cleared. -/
structure CtrLoad where
  value : Nat
  clrOvf : Bool
  deriving DecidableEq, Repr

/-- A Confluence word with its stamp words, if its STAMP flag is set (R352-R355). -/
structure CWord where
  word : Word
  stamp : Option (Word × Word)
  deriving DecidableEq, Repr

/-- The direction qualifier of a stamped event (R78). -/
inductive Qual where
  | fwd | rev | both
  deriving DecidableEq, Repr

/-- What the last command returned to its requester (R11, R13, R42, R46). -/
inductive Reply where
  | none
  | done
  | value (v : Nat)
  | error (subcause : Nat)
  deriving DecidableEq, Repr

/-- The regime of a source's interpolator (Table 2.3); `acquire` is the loop before its first lock. -/
inductive Regime where
  | acquire | forward | dither | reverse | still
  deriving DecidableEq, Repr

/-- A tracking loop (section 2.3): internal angle and interpolated angle in 2^-16 au (R53), velocity in
2^-16 au/ns, acceleration in 2^-16 au/ns² (R705), whether lock has brought the loop into Forward, the angle the
interpolation may not pass (R69), and the last measurements, newest first, as (125 ps steps since the one before,
angle). -/
structure Loop where
  theta : BitVec 64
  vis : BitVec 64
  omega : Int
  alpha : Int
  regime : Regime
  locked : Bool
  acquired : Bool
  backward : Bool
  opp : Nat
  cap : Option (BitVec 64)
  hist : List (Nat × BitVec 64)
  bwLim : Bool
  clamp : Bool
  deriving DecidableEq, Repr

/-- The running sums of a source's offset to the active angle over one of its cycles (R73), and that cycle. -/
structure AlignAcc where
  sum : Int
  n : Nat
  lo : Int
  hi : Int
  whole : Bool
  cyc : BitVec 16
  deriving DecidableEq, Repr

/-- An angle source (R57-R73): its loop, position, re-base offset, runs of good, erroneous and illegal
measurements, index state and marks (R77). `tLast` is the age of the last measurement in 125 ps steps. -/
structure AngSrc where
  on : Bool
  loop : Loop
  pos : Int
  base : Int
  good : Nat
  errs : Nat
  ill : Nat
  indexed : Bool
  indexAt : Option (BitVec 64)
  tLast : Option Nat
  interval : Nat
  lastFrame : Option Nat
  acc : AlignAcc
  hwm : Option Stamp
  lwm : Option Stamp
  deriving DecidableEq, Repr

/-- A unit operation or stamped operation of a consumer (R78, R144): UCMD with its operation code and argument, a
register write, a write to a register's shadow, words for a bank, a word on a stream port, or a pin write. -/
inductive Op where
  | ucmd (code arg : Nat)
  | uwr (addr : Nat) (val : Word)
  | words (port : Nat) (w : List CWord)
  | pinw (mask level : Word)
  | stg (addr : Nat) (val : Word)
  | wload (ws : List Word)
  | until
  | stream (w : CWord)
  | group (w : CWord)
  | capture
  deriving DecidableEq, Repr

/-- A stamped operation waiting at its consumer (R78, R144): the leaf (kind and index), the stamp and qualifier,
the operation, who issued it and the issuer's instance generation. -/
structure StOp where
  kind : Nat
  index : Nat
  stamp : Stamp
  qual : Qual
  op : Op
  issuer : Req
  gen : Nat
  deriving DecidableEq, Repr

/-- The angle block: time counter and its OVF (R56), sources, the active angle with the offset a backup switch
left (R74), cycles of coasting left (R75), marks (R77), open idle windows (R703), those whose users wait for inactive drive
outputs (R83), each with the keys of the corrections that fell due, angle and time at the last two ns (R193). -/
structure Ang where
  time : BitVec 64
  timeOvf : Bool
  srcs : Tbl AngSrc
  act : Loop
  actOff : Int
  coastCycles : Nat
  hwm : Option Stamp
  lwm : Option Stamp
  windows : List Nat
  opened : List (Nat × List Nat)
  past : List (Stamp × BitVec 64)
  deriving DecidableEq, Repr

/-- A device's view of an epoch (R90-R94, R515, R516, R523): epoch number, stamp, whether COMMIT has been received,
its part in it (0 participant, 1 listed to join, 2 READY and not listed, 3 listed to leave). -/
structure EpPart where
  n : Word
  e : Stamp
  commit : Bool
  role : Nat
  deriving DecidableEq, Repr

/-- The headwater's record of the epoch in progress (R87-R91): requester (device), number, stamp, participants,
devices listed for JOIN and to leave, who replied ARMED, the decision (COMMIT or status) and copies left. -/
structure EpHead where
  requester : Nat
  n : Word
  e : Stamp
  parts : List Nat
  join : List Nat
  leave : List Nat
  armed : List Nat
  dropped : List Nat
  decided : Option (Bool × Nat)
  copies : Nat
  deriving DecidableEq, Repr

/-- The epoch state of the device: its part, the headwater's record, whether a PRIMARY is staged (R75), the number of the
epoch that this device refused and that has not been abandoned yet (R92). -/
structure Epoch where
  part : Option EpPart
  head : Option EpHead
  stagedPrimary : Bool
  refused : Option Word
  deriving DecidableEq, Repr

/-- A memory access a context waits for (R127, R117, R130). -/
inductive MemOp where
  | load (rd size : Nat) (signed : Bool)
  | swap (rd : Nat) (v : Word)
  | add (rd : Nat) (v : Word)
  | cas (rd : Nat) (old v : Word)
  | spill
  | fill
  deriving DecidableEq, Repr

/-- What a remote device answered: a BUSERR subcause (0: none) and the bytes. -/
structure FarData where
  sub : Nat
  bytes : List Byte
  deriving DecidableEq, Repr

/-- A posted store (R129, R189): the local address, or the global one of a far store, and its bytes. -/
structure PStore where
  far : Bool
  addr : Nat
  bytes : List Byte
  deriving DecidableEq, Repr

/-- What a context that issues nothing waits for (Table 3.1, R186). `ops` holds the operations of the local leaves, the
requests to other devices, the unit named and the register of UWR; `urd` the values by place in the walk and, of each
device that has yet to answer, its place and its first leaf. -/
inductive Stall where
  | none
  | mem (op : MemOp) (far : Bool) (addr : Nat) (reply : Option FarData)
  | store (st : PStore)
  | until (rd : Nat) (limit since : Nat)
  | pull (rd : Nat)
  | pulls (rd rp : Nat)
  | push (ws : List Word) (st : Option (Stamp × Qual)) (len : Nat)
  | sync (m : Nat)
  | ops (left : List StOp) (sends : List (Nat × List Nat)) (leaf rd : Nat)
  | urd (rd comb handle : Nat) (vals : List (Nat × Word)) (left : List (Nat × Nat × Word))
  | epwait (rd : Nat)
  | apply
  | arm
  deriving DecidableEq, Repr

/-- A word in a transmit queue (R191): with the stamp it waits for, if any (R143). -/
structure TxWord where
  word : Word
  stamp : Option (Stamp × Qual)
  deriving DecidableEq, Repr

/-- A context (chapter 3): registers (globals 0-7, private register j of window w at 8 + 16w + j, handoff register j
at 16 + 16w + j), PC, the flags of CW_STATUS, the other control words, WIX and RESIDENT, the window cause and the window that trapped while WT is 1,
what it waits for, posted stores, the global addresses of far stores not yet acknowledged, a posted failure not yet reported, unit operations
not yet acknowledged, the stream queues, devices sent to since the last reset, a hold that waits for the next boundary. -/
structure Ctx where
  regs : Tbl Word
  pc : Word
  ie : Bool
  td : Bool
  wt : Bool
  sovr : Bool
  pserr : Bool
  slate : Bool
  tstatus : Word
  tpc : Word
  tcause : Word
  tval : Word
  tvalh : Word
  tbase : Word
  wtpc : Word
  wsp : Word
  mcause : Word
  wix : Nat
  resident : Nat
  wcause : Nat
  wfrom : Nat
  stall : Stall
  stores : List PStore
  farOut : List Nat
  postFail : Option (Nat × Nat)
  unitOut : Nat
  tx : List TxWord
  rx : List Word
  sentTo : List Nat
  holdReq : Option Nat
  deriving DecidableEq, Repr

/-- An analogue cell (chapter 5): the two waveform banks and the recorded lengths (R210), the receive FIFO with
the mark that the stamped sample at its head has been released (R207, R208), the last code and whether rounding
saturated it, what the DAC latch holds (R216), the playback position (R212), the hold
pending and engaged (R221), the code whose level the sample-and-hold took, whether no sample is taken because a hold
ended by timeout (R222), a load of the inactive bank in progress (its words, its requester), the late stamped operations
that the next update performs (R206), the ns until which a conversion of FOUT may be wrong (R236). -/
structure Cell where
  bankA : Tbl (BitVec 14)
  bankB : Tbl (BitVec 14)
  lenA : Nat
  lenB : Nat
  fifo : List CWord
  headDue : Bool
  code : BitVec 14
  sat : Bool
  playing : Option Nat
  held : Bool
  holdPend : Bool
  holdEnd : Bool
  loading : Option (Nat × Nat)
  dac : BitVec 14
  heldCode : BitVec 14
  timedOut : Bool
  lateQ : List StOp
  unsettled : Nat
  deriving DecidableEq, Repr

/-- Where a signal comes from (Tables 5.2 and 6.1), as what the level given with a conversion says of it: the level itself, in
nV at FOUT (an open route, a path that has not settled); a level at a ball, in nV or pA, less an offset and times a
factor; a test DAC, in nV within a range; half of the selected reference; a level in nV as a quotient. -/
inductive Origin where
  | direct
  | ball (num den : Nat) (off : Int)
  | between (lo hi : Int)
  | half
  | exact (num : Int) (den : Nat)
  deriving DecidableEq, Repr

/-- A signal at an input of a converter group: its origin, the PGA codes of the cells on its way, whether it comes from a
cell's FOUT. -/
structure Signal where
  origin : Origin
  gains : List Nat
  cell : Bool
  deriving DecidableEq, Repr

/-- What a conversion holds from its hold instant on (R240, R261, R263, R279): the signal, its stamp, whether it comes
from a test DAC. -/
structure Sample where
  signal : Signal
  stamp : Option Stamp
  test : Bool
  deriving DecidableEq, Repr

/-- A conversion of a group (R240, R247): the entry (0-15 sequence, 16 + u urgent), the slice; the settings it began with
(R279): input, gain, whether its result is sent, DLYC, STAMP, REFSEL; the sixteenths of a ns left of its sampling phase;
what it held then; whether the selected reference was unsettled while it ran; whether it was aborted and
waits to be issued again in its place (R259); its result once converted (`some none`: nothing to send). -/
structure Conv where
  entry : Nat
  slice : Nat
  insel : Nat
  gain : Nat
  send : Bool
  dlyc : Bool
  mode : Nat
  refB : Bool
  left : Nat
  held : Option Sample
  refns : Bool
  aborted : Bool
  result : Option (Option CWord)
  deriving DecidableEq, Repr

/-- A CIC decimator (R273-R276): integrators and comb delays of 80 bits, inputs since the last output, outputs
since the restart, stamps of the inputs (newest first), the flags gathered since the last output. -/
structure Cic where
  integ : List (BitVec 80)
  comb : List (BitVec 80)
  count : Nat
  outs : Nat
  stamps : List Stamp
  flags : Word
  deriving DecidableEq, Repr

/-- An armed angle trigger of an urgent entry (R254): the fraction and qualifier it is armed with, the stamps it is armed at,
each with the direction that releases it and whether it was late when it was armed. -/
structure UrgArm where
  entry : Nat
  frac : Word
  q : Nat
  at' : List (Stamp × Qual × Bool)
  deriving DecidableEq, Repr

/-- A converter group (chapter 6): power-up under way; sequence conversions in issue order until sent (R248), those
aborted and to be repeated in their places (R259);
urgent conversions running; urgent entries waiting for a slice; decimators;
entries whose next result is poisoned, and those poisoned until the next epoch (R245); angle triggers; the
outgoing slice of a swap that fell due (R271); trims of the latest passing run and in force per slice (R268);
the SLICE_DIS in force before the last application (R241); the range in nV of the test DAC's earlier values, and the ns until
which it settles (R277, R278). -/
structure Group where
  powering : Bool
  seq : List Conv
  urg : List Conv
  urgWait : List Nat
  cics : Tbl (Option Cic)
  poison : List Nat
  poisonTable : List Nat
  arms : List UrgArm
  swap : Option Nat
  latest : Tbl (List Int)
  trims : Tbl (List Int)
  lastDis : Nat
  tdacLo : Int
  tdacHi : Int
  tdacTill : Nat
  deriving DecidableEq, Repr

/-- A value in a channel (R287, R299): the signed 24-bit value, its flags, its stamp if stamps are kept. -/
structure FVal where
  v : Int
  flags : Word
  stamp : Option Stamp
  deriving DecidableEq, Repr

/-- A filter channel (R282-R300): restart at the next input that arrives; words counted from FRAME; the last two input stamps;
the phase-delay line; the DC estimate and the K in use; FIR inputs, FIR outputs and the values that left the delay,
newest first; how many left the delay and how many FIR outputs exist since the restart; the resampler's position;
the last output, and when it was last repeated. -/
structure Chan where
  restart : Bool
  pos : Option Nat
  s1 : Option Stamp
  s2 : Option Stamp
  delay : List FVal
  est : Option Int
  k : Nat
  hist : List FVal
  firs : List FVal
  left : List FVal
  n : Nat
  acc : Nat
  lastOut : Option CWord
  repeated : Option Nat
  deriving DecidableEq, Repr

/-- A word in an engine's FIFO (R284, R290): the channels that take it, those that restart at it after a gap, those whose
freeze held when it reached the engine. -/
structure FltItem where
  word : CWord
  takers : List Nat
  gaps : List Nat
  frozen : List Nat
  deriving DecidableEq, Repr

/-- A filter engine (R284, R294, R301): words taken, banks, busy cycles of this µs. -/
structure Engine where
  fifo : List FltItem
  bankA : Tbl (BitVec 18)
  bankB : Tbl (BitVec 18)
  busy : Nat
  deriving DecidableEq, Repr

/-- A start of a pulse generator (R312, R315): profile, stamp if it had one, instant of its release in ns of the
time counter, whether it became pending. -/
structure Start where
  prof : Nat
  stamp : Option Stamp
  rel : Nat
  deriving DecidableEq, Repr

/-- A running shot (R312, R313): the settings it began with, the ns from its start to its last edge, whether an
on-time is in progress, on-times begun. -/
structure Shot where
  mode : Nat
  pol : Nat
  tripm : Nat
  t1 : Nat
  t2 : Nat
  nrep : Nat
  period : Nat
  onT : Nat
  t : Nat
  active : Bool
  begun : Nat
  deriving DecidableEq, Repr

/-- A learning window (R338): start stamp in the window's kind, velocity at the start, the next start's stamp,
whether the shot was tripped, the outputs taken, whether it is complete or cut short. -/
structure LearnWin where
  start : Stamp
  omega : Int
  next : Option Stamp
  tripped : Bool
  taken : List CWord
  closed : Bool
  deriving DecidableEq, Repr

/-- A pulse generator (chapter 8): released starts to be granted, the pending start, the running shot, learning
windows not yet queued, the on-time gate and the instant it last fell (R290); the ns at which an on-time last ended by
its program or by a trip, its TRIPM, and whether a trip ended it (R335); the start of the learning window of the latest shot. -/
structure Pulse where
  released : List Start
  pend : Option Start
  shot : Option Shot
  wins : List LearnWin
  gate : Bool
  gateFell : Option Nat
  fell : Option (Nat × Nat × Bool)
  lrnStart : Option Stamp
  deriving DecidableEq, Repr

/-- A comparator pair (R327-R331): the levels at the cell's conversion node and ahead of its filter, in nV; the outputs of the
two comparators; blanked; the ns for which each output is still held at 0 after a change of its settings; the settings
that were in force last. -/
structure Pair where
  fout : Int
  pre : Int
  high : Bool
  low : Bool
  blanked : Bool
  holdH : Nat
  holdL : Nat
  modes : Nat
  deriving DecidableEq, Repr

/-- The fire budget (R320, R321): the present step and window, the starts begun in them per tile and in all; tiles
whose pulse generators take no start (R346). -/
structure Budget where
  step : Nat
  stepTile : Tbl Nat
  stepDev : Nat
  win : Nat
  winTile : Tbl Nat
  winDev : Nat
  border : List Nat
  deriving DecidableEq, Repr

/-- A learning unit (R342): learnings in order, each with its pulse generator; whether the first is running. -/
structure Learn where
  queue : List (Nat × LearnWin)
  running : Bool
  deriving DecidableEq, Repr

/-- A word on its way through the crossbar (R350): source port, word and the destinations that selected the
source when it was offered (R349, R359). -/
structure Flight where
  src : Nat
  word : CWord
  dests : List Nat
  deriving DecidableEq, Repr

/-- The crossbar: words in flight; words arrived at each destination and not yet taken by its block; the route in
force at each destination (R359); the last sample word each destination received since its route changed (R370);
source ports in border state, each marked when its region has been released (R368, R371); words sent and received
per remote slot this µs (R364). -/
structure Cxb where
  flights : List Flight
  arrived : Tbl (List CWord)
  route : Tbl Nat
  last : Tbl (Option CWord)
  border : Tbl Bool
  released : Tbl Bool
  delivered : Nat
  rrSent : Tbl Nat
  rrMicro : Nat
  playout : Tbl (List CWord)
  deriving DecidableEq, Repr

/-- A logic cell (R374, Tables 10.2 and 10.3): its record, its two flip-flops, and the level FCLK last had (R383). -/
structure LCell where
  lut : BitVec 64
  sel : List Nat
  mode : Nat
  comb : Nat
  clk : Nat
  async : Bool
  d0 : Nat
  d1 : Nat
  init0 : Bool
  init1 : Bool
  srv0 : Bool
  srv1 : Bool
  q0 : Bool
  q1 : Bool
  fclk : Bool
  deriving DecidableEq, Repr

/-- A region (R385-R388): its 96 outputs as they stood when its clocks stopped, the AUTO and the issuer of the load
in progress with the issuer's instance generation, the reset of the issuer during it. -/
structure Region where
  frozen : List Bool
  auto : Bool
  issuer : Req
  gen : Nat
  issuerReset : Bool
  deriving DecidableEq, Repr

/-- A logic port (R380): the inbound FIFO, the words of an outbound trio not yet whole (R355). -/
structure LPort where
  fifo : List Word
  part : List Word
  deriving DecidableEq, Repr

/-- The observation capture (R391-R393): the trigger has come, the buffer. -/
structure Obs where
  triggered : Bool
  buf : Tbl Word
  deriving DecidableEq, Repr

/-- The logic fabric. -/
structure Lgc where
  cells : Tbl LCell
  regions : Tbl Region
  ports : Tbl LPort
  obs : Obs
  deriving DecidableEq, Repr

/-- What is wrong with a stored codeword (R398, R401, R410): the data bits and check bits that are stored inverted,
or the check pattern of a poisoned codeword. -/
structure CodeErr where
  d0 : Word
  d1 : Word
  c : Word
  poison : Bool
  deriving DecidableEq, Repr

/-- A record of the error log (Table 11.3). -/
structure EccRec where
  ue : Bool
  mid : Nat
  req : Nat
  addr : Nat
  synd : Byte
  time : BitVec 64
  deriving DecidableEq, Repr

/-- A slot of an NVM line (R426): its 16 words and how many of its bits are stored inverted. -/
structure NvmSlot where
  data : List Word
  flips : Nat
  deriving DecidableEq, Repr

/-- An NVM line: the slot with the higher sequence number, the older one, a write cut off in the older slot, writes. -/
structure NvmLine where
  cur : NvmSlot
  prev : NvmSlot
  torn : Bool
  writes : Nat
  deriving DecidableEq, Repr

/-- What an NVM line write is for (Table 11.7). -/
inductive NvmUse where
  | cmd | ret | sram | log
  | cal (last : Bool)
  | jnl (seq : Nat) (last : Bool)
  | key
  deriving DecidableEq, Repr

/-- An NVM line write that waits or runs: the line's number, its words, attempts that did not verify. -/
structure NvmWrite where
  line : Nat
  data : List Word
  use : NvmUse
  deriving DecidableEq, Repr

/-- A retirement command in progress (R413, R414): ADD or REMOVE, entry, page, whether the copy has ended. -/
structure RetOp where
  add : Bool
  idx : Nat
  page : Nat
  copied : Bool
  deriving DecidableEq, Repr

/-- A bank command in progress (R415): DISABLE or ENABLE, tile, bank, spare, whether the copy has ended. -/
structure BankOp where
  disable : Bool
  tile : Nat
  bank : Nat
  spare : Nat
  copied : Bool
  deriving DecidableEq, Repr

/-- A queued descriptor (R417): its tile-SRAM offset, the submitter's code and instance generation. -/
structure DmaDesc where
  addr : Nat
  sub : Nat
  gen : Nat
  deriving DecidableEq, Repr

/-- A running descriptor (Table 11.5, R420-R423): bytes moved, whether an uncorrectable word was offered, the words
of a trio not yet whole, whether ABORT was written, how far the burst has got with other devices (1 data asked for,
2 data here, 3 sent, 4 accepted) and what they answered. -/
structure DmaRun where
  op : Nat
  port : Nat
  irq : Bool
  src : Nat
  dst : Nat
  len : Nat
  fill : Word
  cpl : Nat
  sub : Nat
  gen : Nat
  done : Nat
  ecc : Bool
  trio : List Word
  abort : Bool
  phase : Nat
  data : FarData
  deriving DecidableEq, Repr

/-- A DMA engine: its queue, the running descriptor, the FIFO of FROM_STREAM words. -/
structure DmaEng where
  queue : List DmaDesc
  run : Option DmaRun
  fifo : List Word
  deriving DecidableEq, Repr

/-- The memories of chapter 11. Bytes are kept under their per-device offset, those of the supervisor instruction
memory under 2^40 + offset; codeword errors under the same addresses, those of filter coefficient memory of tile t
under 2^41 + t * 2^20 + (engine * 2 + bank) * 8192 + word. `last` is the record the error log accepted last. -/
structure Mem where
  bytes : List Host.Cell
  errs : Tbl CodeErr
  log : List EccRec
  last : Option EccRec
  nvm : Tbl NvmLine
  nvmQ : List NvmWrite
  nvmBad : List Nat
  ret : Option RetOp
  bank : Option BankOp
  dma : Tbl DmaEng
  deriving DecidableEq, Repr

/-- A GPIO group port (R474, R475): the words at its destination side, whether the stamp of the head has been
released; the pins changed since the last word it offered, whether a word is to be offered, and the ns of the last. -/
structure PGroup where
  fifo : List CWord
  headDue : Bool
  changed : Byte
  due : Bool
  offered : Option Nat
  deriving DecidableEq, Repr

/-- The pin block: the group ports, which matchers match (R476), the ns of the last upward wrap of the active
angle's fraction (AMARK, Table 13.4). -/
structure Pins where
  groups : Tbl PGroup
  matched : Tbl Bool
  amark : Option Nat
  deriving DecidableEq, Repr

/-- The state of an interrupt source (Table 13.2). -/
inductive SrcPhase where
  | idle | pending | claimed
  deriving DecidableEq, Repr

/-- An interrupt source: its state, the claimer (requester code, R461) and the re-assertion flag. -/
structure IrqSrc where
  phase : SrcPhase
  claimer : Nat
  re : Bool
  deriving DecidableEq, Repr

/-- The interrupt controller: source states, occurrences of event sources not yet taken up. -/
structure Irq where
  src : Tbl IrqSrc
  occ : Tbl Bool
  deriving DecidableEq, Repr

/-- Where a Benmos command stands (R565-R571): its first line is being made durable; accepted; executing until an
outside end (EPOCH_REQ, TWIN, CATCHUP, TILE); waiting in its target's mailbox slot; executed, its second line being
made durable; forwarded to another device; `ready`: read, checked and executed without an entry of its own (R563). -/
inductive HPhase where
  | first
  | accepted
  | running
  | posted (slot : Nat)
  | ended (status detail : Nat)
  | forwarded
  | ready
  deriving DecidableEq, Repr

/-- A Benmos command the engine has read and not completed (R560, R565-R573): the queue pair it came from and its
index, the device and tag it was forwarded from, the requester code with its instance generation, the 64 bytes, the
payload, journal sequence and entry, time and stamp at acceptance, whether it was dropped by a reset. -/
structure HCmd where
  qp : Nat
  origin : Option (Nat × Nat)
  req : Nat
  gen : Nat
  body : BitVec 512
  payload : List Byte
  seq : Nat
  pos : Nat
  phase : HPhase
  time : BitVec 64
  stamp : Stamp
  dropped : Bool
  deriving DecidableEq, Repr

/-- A queue pair (R554-R559): indices, completion phase, stopped by a read error, MSI-X message of vector 0 sent. -/
structure Qp where
  sqHead : Nat
  sqTail : Nat
  cqTail : Nat
  cqHead : Nat
  phase : Bool
  stopped : Bool
  sent : Bool
  deriving DecidableEq, Repr

/-- The host interface: queue pairs, the pair last served, commands read and not completed, next mailbox slot per
target (256: the supervisor), instance views that hold a 1 (R553), UART FIFOs, whether the last write of the SMBus was
refused (R583). -/
structure HostIf where
  qps : Tbl Qp
  last : Nat
  cmds : List HCmd
  slot : Tbl Nat
  viewed : Tbl Bool
  uartTx : List Byte
  uartRx : List Byte
  smbBad : Bool
  deriving DecidableEq, Repr

/-- The journal (R575-R579): last sequence assigned, the head, durable first lines above it, next entry, tokens. -/
structure Jnl where
  last : Nat
  head : Nat
  above : List Nat
  pos : Nat
  tokens : Nat
  deriving DecidableEq, Repr

/-- The kinds of message the block sends on the chain (chapter 14, Table 14.2). -/
inductive LeatKind where
  | ang | hb | memb | wrap | gnot | strm | mrd | mwr | mamo | mrsp | uop | ursp | benmos | boot | twin | xfer
  | pass | epoReq | epoArm | epoReply | epoDec | epoRes
  deriving DecidableEq, Repr

/-- Who waits for the answer to a request sent on the chain (R492): a far load or atomic of a context, a far store of
a context, a burst of a DMA engine, a unit operation of a context with the unit it named, a read of units of a
context, a Benmos command forwarded for a queue pair. -/
inductive Waiter where
  | load (c : Nat)
  | store (c addr : Nat)
  | burst (e : Nat)
  | unit (c gen leaf : Nat)
  | urd (c : Nat)
  | benmos (qp cid : Nat)
  deriving DecidableEq, Repr

/-- A request sent on the chain and not yet answered (R492): sequence number, target, kind and fields to send again,
how often it was sent. -/
structure LReq where
  seq : Nat
  dst : Nat
  kind : LeatKind
  args : List Nat
  sends : Nat
  who : Waiter
  deriving DecidableEq, Repr

/-- A request of another device that has been applied (R492): origin, sequence number, kind and fields of its reply. -/
structure Served where
  src : Nat
  seq : Nat
  kind : LeatKind
  args : List Nat
  deriving DecidableEq, Repr

/-- A message with its target and its fields, as it waits for an output of a port. -/
structure LMsg where
  kind : LeatKind
  dst : Nat
  args : List Nat
  deriving DecidableEq, Repr

/-- What an output carries in one flit time (Table 14.1). -/
inductive Flit where
  | idle
  | ctrl (m : LMsg)
  | strm (dev slot : Nat) (ws : List CWord)
  | thru (m : LMsg)
  | pkth (m : LMsg)
  | pktd
  | ts
  | align
  deriving DecidableEq, Repr

/-- The output of a Leat port (R484, R485, R488): hundredths of a ns into the present flit time, its position in the frame,
the frame's number among 16,384; control messages that wait, in the order of origin, and whether an ANG among them has
been displaced; STRM flits that pass through and words of remote routes that wait; packets that wait, with the flits of
the first that have gone; whether a TS exchange of an UP port is due (R495); the present flit. -/
structure LLine where
  sub : Nat
  pos : Nat
  frame : Nat
  ctrl : List LMsg
  displaced : Bool
  thru : List LMsg
  strm : List (Nat × Nat × CWord)
  pkts : List LMsg
  carried : Nat
  ts : Bool
  now : Flit
  deriving DecidableEq, Repr

/-- A Leat port besides its registers (R493-R495): failed CTRL flits in a row, the partner's identity, its output. -/
structure LPortSt where
  bad : Nat
  uid : BitVec 64
  line : LLine
  deriving DecidableEq, Repr

/-- A tile command that waits for its epoch (R525): RETURN or RETIRE, the tile. -/
structure TRet where
  back : Bool
  tile : Nat
  deriving DecidableEq, Repr

/-- A unit operation of another device that waits for the end of an application (R153). -/
structure HeldUop where
  hd : PktHead
  r : UnitReq
  leaves : List Word
  st : Option (Stamp × Qual)
  deriving DecidableEq, Repr

/-- The chain block (chapter 14): ports; the port whose ANG copy is used and the ports a copy has come in by lately
(R507, R508); ANG messages sent; sequence numbers per
target, open requests, requests served; devices queued to join or leave (R514), devices with an earlier record
(R520), the tile command that waits; the wrapped port (R504); whether a catch-up runs,
whether the headwater holds a record of this index (R518), unit operations that wait; off the headwater the states of
other indices as MEMB gave them (R43); how many of the messages sent have gone to the outputs. -/
structure Leat where
  ports : Tbl LPortSt
  angPort : Nat
  angSeen : List Nat
  angCount : Nat
  seqs : Tbl Nat
  reqs : List LReq
  served : List Served
  queue : List (Bool × Nat)
  known : List Nat
  tret : Option TRet
  wrapPort : Option Nat
  catching : Bool
  recorded : Bool
  uops : List HeldUop
  states : Tbl Nat
  taken : Nat
  deriving DecidableEq, Repr

/-- The digest of a window (R540): its start, the sum and the number of its records. -/
structure Digest where
  start : Stamp
  sum : Word
  count : Nat
  deriving DecidableEq, Repr

/-- A twinned position (chapter 15): partner's position strap and identity as trained, the level of TWIN_PEER at the
last two steps, FAULT received and its cause, a wait under row 2 of Table 15.2, the digests of open and of
ended windows of this device and of the partner's windows, the command that waits, entries the partner has not yet made durable,
the method of the catch-up that this device feeds its partner (R548), whether mirroring runs before MIRROR (R548), the ns of the last takeover,
whether a cause of R533 holds TWIN_SEL low, whether the device was detached as a standby (R549). -/
structure Twin where
  partnerPos : Option Bool
  partnerUid : BitVec 64
  partner5120 : Bool
  lowSteps : Nat
  fault : Option Nat
  faultWait : Bool
  own : List Digest
  closed : List Digest
  theirs : List Digest
  pend : Option Nat
  unreported : List Nat
  feeding : Option Nat
  mirroring : Bool
  took : Option Nat
  dropped : Bool
  hiz : Bool
  deriving DecidableEq, Repr

/-- Start-up and configuration integrity (chapter 17): whether the attempt is Oxbow's, the bytes of its stream, the
sections done, the cause found here; on the headwater the members that answered START, those excluded, the final
reports, those that have reported the present section, whether it waits for them; key hash in force; GO given; the
devices waiting for a late load, whether the present one has been retried; Sluice begun; the DDR channels that
train; the key command that runs; masks of essential bits (1: essential) of the frames that have one; a START that
waits for R589 (Oxbow, late); the bits by which a frame differs from its reference copy (R616); whether the attempt is a
late load of this device (R603). -/
structure Boot where
  oxbow : Bool
  img : List Byte
  next : Nat
  cause : Nat
  answered : List Nat
  excluded : List Nat
  reports : List (Nat × Nat)
  synced : List Nat
  syncing : Bool
  keyHash : BitVec 384
  gone : Bool
  late : List Nat
  lateRetry : Bool
  sluice : Bool
  training : List Nat
  key : Option (Nat × Nat)
  verifying : Bool
  ess : Tbl (Option (BitVec 1024))
  startDue : Option (Bool × Bool)
  upsets : Tbl (BitVec 1024)
  lateHere : Bool
  deriving DecidableEq, Repr

/-- A calibration command that runs (R626-R632): RECAL, SAVE with the body lines not yet durable, EXPORT, IMPORT,
AMP. -/
inductive CalOp where
  | recal
  | save (left : Nat) (bank : Nat)
  | exporting
  | importing
  | amp
  deriving DecidableEq, Repr

/-- An amplitude measurement (R627): the source, the cycle at the command, whether the full cycle runs, the sum and
number of its pairs, whether it has ended. -/
structure AmpRun where
  src : Nat
  cycle : BitVec 16
  on : Bool
  sum : Nat
  n : Nat
  ended : Bool
  deriving DecidableEq, Repr

/-- Calibration (chapter 18). A value stands under class * 8192 + index, classes as CAL_CMD.CLASS and 7 for AMP; the
empty list is the nominal correction. Values in force, the slices' values of the power-up run (R270), the stored set,
values that wait for a boundary, the body of the set that is being written, the command that runs, the amplitude
measurement, the power-up run. -/
structure Cal where
  force : Tbl (List Int)
  powerup : Tbl (List Int)
  stored : Tbl (List Int)
  wait : Tbl (List Int)
  saving : List Byte
  op : Option CalOp
  amp : Option AmpRun
  running : Bool
  deriving DecidableEq, Repr

/-- An operation held at a tile that is IDLE (R645), and whether it is stamped. -/
structure HeldOp where
  op : StOp
  stamped : Bool
  deriving DecidableEq, Repr

/-- Power (chapter 19): wake items waiting and ramping as (rank, number) in order of service, operations held for a
tile, tiles being powered off, level of the PFAIL_N ball, STANDBY and a wake held off in it, every tile powered
since reset, whether the present PFAIL began after GO, whether THOT has been reached and the reading has not
fallen below THOT - 2 since (R660), whether the device is held in reset (R641), PWR_STRAP_AHI, whether a TSHUT reset
is due (R661), whether no temperature has been read since PWR_TMAX was, tiles whose RUN command waits, the clock domains
that were lost and have not relocked (R40). -/
structure Pwr where
  waiting : List (Nat × Nat)
  ramping : List (Nat × Nat)
  held : List HeldOp
  pfailN : Bool
  standby : Bool
  wakeHeld : Bool
  tilesUp : Bool
  released : Bool
  hot : Bool
  inReset : Bool
  ahi : Bool
  tshut : Bool
  tmaxNew : Bool
  cmds : List Nat
  dead : Word
  deriving DecidableEq, Repr

/-- The test access port (R687, R688): the active instruction, the boundary-scan register by ball as it was last loaded
(0-255 GP, 256-767 DRV, 768-779 xSPI, 780-790 the control balls of bank 0), whether TCK toggles (R40). -/
structure Tap where
  ir : TapIr
  scan : Tbl Bool
  tck : Bool
  deriving DecidableEq, Repr

/-- The in-service test (R662-R671): the items done, failed steps, steps ended early and items not free in this pass;
the running step; the second and the records written in it (R671); the ns at which the pass began. -/
structure Tst where
  passing : Bool
  done : List (Nat × Nat)
  failed : Nat
  aborted : Nat
  run : Option (Nat × Nat)
  second : Nat
  written : Nat
  began : Option Nat
  deriving DecidableEq, Repr

/-- A line of a tile's resolution cache (R151): a compound unit, its leaf list, and the descriptors of other devices it was
built from. -/
structure CacheLine where
  unit : Word
  leaves : List Word
  reads : List (Word × List Word)
  deriving DecidableEq, Repr

/-- What leaves the block: a message on the chain to a device index, a word of a remote route (peer device, peer
slot, own slot), bytes written to host memory, an MSI-X message (function, vector), a completion of a queue pair with
its index, a character on UART_TX. -/
inductive OutMsg where
  | leat (kind : LeatKind) (dst : Nat) (args : List Nat)
  | strm (dev slot own : Nat) (w : CWord)
  | hostWrite (addr : Nat) (bytes : List Byte)
  | msix (fn vec : Nat)
  | completion (qp index : Nat) (bytes : List Byte)
  | uart (ch : Byte)
  deriving DecidableEq, Repr

/-- The state of the block. -/
structure State where
  regs : Tbl Word
  staged : Tbl Word
  ctrs : Tbl Ctr
  ctrShadow : Tbl (Option CtrShadow)
  ctrHold : Tbl Nat
  ctrLoad : Tbl (Option CtrLoad)
  reply : Reply
  freeIx : Nat
  ang : Ang
  ep : Epoch
  stq : List StOp
  irq : Irq
  mchk : Bool
  ctxs : Tbl Ctx
  supState : Nat
  pins : Pins
  host : HostIf
  jnl : Jnl
  cmpd : Tbl (List Word)
  cmpdStaged : Tbl (List Word)
  caches : Tbl (List CacheLine)
  cxb : Cxb
  cells : Tbl Cell
  groups : Tbl Group
  chans : Tbl Chan
  engines : Tbl Engine
  pulses : Tbl Pulse
  pairs : Tbl Pair
  budget : Budget
  learns : Tbl Learn
  mem : Mem
  lgc : Lgc
  leat : Leat
  twin : Twin
  boot : Boot
  cal : Cal
  pwr : Pwr
  tst : Tst
  tap : Tap
  health : List (Nat × List Nat)
  out : List OutMsg
  pending : List Instr
  deriving DecidableEq, Repr

/-- The reasons the machine stops. -/
inductive Fault where
  /-- Raised by no meaning: every fault the spec describes is an effect on the state (a trap of a context, an
  error completion, a fence). Safe. -/
  | stuck
  deriving DecidableEq, Repr

/-- The reasons a command has no meaning. -/
inductive Refusal where
  /-- Raised by `exec` for a row that has no meaning yet. Safe: no statement is made about such a row. -/
  | notModelled (mnemonic : String)
  deriving DecidableEq, Repr

/-- The loop of a source that has measured nothing. -/
def Loop.reset : Loop where
  theta := 0
  vis := 0
  omega := 0
  alpha := 0
  regime := .acquire
  locked := false
  acquired := false
  backward := false
  opp := 0
  cap := none
  hist := []
  bwLim := false
  clamp := false

/-- No offset summed yet. -/
def AlignAcc.reset : AlignAcc := ⟨0, 0, 0, 0, false, 0⟩

/-- A source that is off. -/
def AngSrc.reset : AngSrc where
  on := false
  loop := Loop.reset
  pos := 0
  base := 0
  good := 0
  errs := 0
  ill := 0
  indexed := false
  indexAt := none
  tLast := none
  interval := 0
  lastFrame := none
  acc := AlignAcc.reset
  hwm := none
  lwm := none

/-- The angle block after reset. -/
def Ang.reset : Ang where
  time := 0
  timeOvf := false
  srcs := []
  act := Loop.reset
  actOff := 0
  coastCycles := 0
  hwm := none
  lwm := none
  windows := []
  opened := []
  past := []

/-- No epoch armed or in progress. -/
def Epoch.reset : Epoch := ⟨none, none, false, none⟩

/-- Every source idle. -/
def Irq.reset : Irq := ⟨[], []⟩

/-- A crossbar without routes or words. -/
def Cxb.reset : Cxb := ⟨[], [], [], [], [], [], 0, [], 0, []⟩

/-- A cell with empty banks and FIFO (R700: the banks are cleared; the DAC's code: log entry 1). -/
def Cell.reset : Cell where
  bankA := []
  bankB := []
  lenA := 0
  lenB := 0
  fifo := []
  headDue := false
  code := 0
  sat := false
  playing := none
  held := false
  holdPend := false
  holdEnd := false
  loading := none
  dac := 0
  heldCode := 0
  timedOut := false
  lateQ := []
  unsettled := 0

/-- A disabled group. -/
def Group.reset : Group := ⟨false, [], [], [], [], [], [], [], none, [], [], 0, 0, 0, 0⟩

/-- A pulse generator without starts. -/
def Pulse.reset : Pulse := ⟨[], none, none, [], false, none, none, none⟩
/-- A comparator pair with both outputs 0. -/
def Pair.reset : Pair := ⟨0, 0, false, false, false, 0, 0, 0x3000⟩
/-- Nothing begun in the present step and window. -/
def Budget.reset : Budget := ⟨0, [], 0, 0, [], 0, []⟩
/-- A learning unit without learnings. -/
def Learn.reset : Learn := ⟨[], false⟩

/-- A channel after a restart (R284, R292: A = 16). -/
def Chan.reset : Chan where
  restart := false
  pos := none
  s1 := none
  s2 := none
  delay := []
  est := none
  k := 12
  hist := []
  firs := []
  left := []
  n := 0
  acc := 16 * 2 ^ 24
  lastOut := none
  repeated := none
/-- An engine with cleared banks (R700). -/
def Engine.reset : Engine := ⟨[], [], [], 0⟩

/-- An NVM slot of zeros (log entry 20). -/
def NvmSlot.blank : NvmSlot := ⟨List.replicate 16 0, 0⟩
/-- An NVM line never written (log entry 20). -/
def NvmLine.blank : NvmLine := ⟨NvmSlot.blank, NvmSlot.blank, false, 0⟩
/-- An engine without descriptors. -/
def DmaEng.reset : DmaEng := ⟨[], none, []⟩
/-- Memories with nothing written (R700; DDR5 and NVM: log entry 20). -/
def Mem.reset : Mem := ⟨[], [], [], none, [], [], [], none, none, []⟩

/-- A cell without a record (log entry 25). -/
def LCell.reset : LCell := ⟨0, [], 0, 0, 15, false, 0, 0, false, false, false, false, false, false, false⟩
/-- A region that has stopped at no time. -/
def Region.reset : Region := ⟨[], false, .sup, 0, false⟩
/-- A port without words. -/
def LPort.reset : LPort := ⟨[], []⟩
/-- A fabric without records, nothing captured. -/
def Lgc.reset : Lgc := ⟨[], [], [], ⟨false, []⟩⟩

/-- A context as it leaves STOPPED (R102). -/
def Ctx.reset : Ctx where
  regs := []
  pc := 0
  ie := false
  td := false
  wt := false
  sovr := false
  pserr := false
  slate := false
  tstatus := 0
  tpc := 0
  tcause := 0
  tval := 0
  tvalh := 0
  tbase := 0
  wtpc := 0
  wsp := 0
  mcause := 0
  wix := 0
  resident := 1
  wcause := 0
  wfrom := 0
  stall := .none
  stores := []
  farOut := []
  postFail := none
  unitOut := 0
  tx := []
  rx := []
  sentTo := []
  holdReq := none

/-- A GPIO group port without words. -/
def PGroup.reset : PGroup := ⟨[], false, 0, false, none⟩
/-- The pin block after reset. -/
def Pins.reset : Pins := ⟨[], [], none⟩

/-- A queue pair that is not enabled. -/
def Qp.reset : Qp := ⟨0, 0, 0, 0, true, false, false⟩
/-- The host interface after reset. -/
def HostIf.reset : HostIf := ⟨[], 256, [], [], [], [], [], false⟩
/-- An empty journal; the bucket is full (log entry 32). -/
def Jnl.reset : Jnl := ⟨0, 0, [], 0, 4096⟩

/-- No port trained, no request open. -/
def Leat.reset : Leat := ⟨[], 0, [], 0, [], [], [], [], [], none, none, false, false, [], [], 0⟩
/-- An output between flits, with nothing to send. -/
def LLine.reset : LLine := ⟨0, 0, 0, [], false, [], [], [], 0, false, .idle⟩
/-- A port that has no partner. -/
def LPortSt.reset : LPortSt := ⟨0, 0, LLine.reset⟩
/-- No pair. -/
def Twin.reset : Twin := ⟨none, 0, false, 0, none, false, [], [], [], none, [], none, false, none, false, false⟩
/-- Nothing loaded. -/
def Boot.reset : Boot :=
  ⟨false, [], 0, 0, [], [], [], [], false, 0, false, [], false, false, [], none, false, [], none, [], false⟩
/-- Nominal corrections. -/
def Cal.reset : Cal := ⟨[], [], [], [], [], none, none, false⟩
/-- Every wake item waits (R649). -/
def Pwr.reset : Pwr where
  waiting := (List.range 4).map (fun k => (1, k)) ++ (List.range 16).map (fun k => (2, k))
    ++ (List.range 16).map (fun k => (3, k)) ++ (List.range 2).map (fun k => (4, k)) ++ [(5, 0)]
    ++ (List.range 4).map (fun k => (6, k))
  ramping := []
  held := []
  pfailN := true
  standby := false
  wakeHeld := false
  tilesUp := false
  released := false
  hot := false
  inReset := true
  ahi := true
  tshut := false
  tmaxNew := true
  cmds := []
  dead := 0
/-- Test-Logic-Reset: IDCODE is the instruction. -/
def Tap.reset : Tap := ⟨.idcode, [], false⟩
/-- No pass begun. -/
def Tst.reset : Tst := ⟨false, [], 0, 0, none, 0, 0, none⟩

/-- The machine right after reset (log entry 1 names the values the spec does not give). -/
def State.reset : State where
  regs := []
  staged := []
  ctrs := []
  ctrShadow := []
  ctrHold := []
  ctrLoad := []
  reply := .none
  freeIx := 0
  ang := Ang.reset
  ep := Epoch.reset
  stq := []
  irq := Irq.reset
  mchk := false
  ctxs := []
  supState := 0
  pins := Pins.reset
  host := HostIf.reset
  jnl := Jnl.reset
  cmpd := []
  cmpdStaged := []
  caches := []
  cxb := Cxb.reset
  cells := []
  groups := []
  chans := []
  engines := []
  pulses := []
  pairs := []
  budget := Budget.reset
  learns := []
  mem := Mem.reset
  lgc := Lgc.reset
  leat := Leat.reset
  twin := Twin.reset
  boot := Boot.reset
  cal := Cal.reset
  pwr := Pwr.reset
  tst := Tst.reset
  tap := Tap.reset
  health := []
  out := []
  pending := []

end Sys2Proof.Machine
end

