-- ==== Sys2Proof/Machine/Ops.lean ====
section
/-! DEFINITION. The named operations over the state that every block uses: registers and their shadows (R7-R20),
counters (R45-R50), interrupt occurrences, machine checks, free values, tables of units, stamps (R5, R54). -/

namespace Sys2Proof.Machine

/-! ### Registers -/

/-- The active value of a register. -/
def State.reg (s : State) (a : Nat) : Word := tblGet resetWord s.regs a

/-- A field of a register's active value. -/
def State.fld (s : State) (a : Nat) (f : Field) : Nat := fieldGet f (s.reg a)

/-- Is a one-bit field of the active value set? -/
def State.bit (s : State) (a : Nat) (f : Field) : Bool := s.fld a f != 0

/-- The machine itself sets a register's active value. -/
def State.put (s : State) (a : Nat) (v : Word) : State := { s with regs := tblSet resetWord s.regs a v }

/-- The machine itself sets a field of a register's active value. -/
def State.setF (s : State) (a : Nat) (f : Field) (x : Nat) : State := s.put a (fieldPut f (s.reg a) x)

/-- Setting a one-bit flag. -/
def State.flag (s : State) (a : Nat) (f : Field) : State := s.setF a f 1

/-- The fields of the register at an address; none where no register is defined. -/
def fieldsAt (a : Nat) : List Field :=
  match descOf a with
  | some r => r.fields
  | none => []

/-- The shadow of a register's RWS fields over its active value (R9, R10): unstaged, it is the active value. -/
def State.shReg (s : State) (a : Nat) : Word := tblGet s.reg s.staged a

/-- A field of the shadow. -/
def State.shFld (s : State) (a : Nat) (f : Field) : Nat := fieldGet f (s.shReg a)

/-- Placing RWS bits into a register's shadow. -/
def State.stage (s : State) (a : Nat) (v : Word) : State := { s with staged := tblPut s.staged a v }

/-- Placing one RWS field into the shadow. -/
def State.stageF (s : State) (a : Nat) (f : Field) (x : Nat) : State := s.stage a (fieldPut f (s.shReg a) x)

/-- A fresh free value (log entry 2) and the state that has taken it. -/
def State.free (s : State) : Nat × State := (Config.freeValue s.freeIx, { s with freeIx := s.freeIx + 1 })

/-- The code of a requester in SYS_RSVD_SRC.SOURCE (R20). -/
def reqCode : Req → Nat
  | .inst i => i.val
  | .sup => 0x100
  | .host => 0x101
  | .smbus => 0x102
  | .jtag => 0x103
  | .remote => 0x104
  | .catchup => 0x105

/-- Capturing a write that set RSVD_WR or STAGE_WR (R20). -/
def State.capture (s : State) (q : Req) (a : Nat) (nothing : Bool) : State :=
  if s.bit SYS_RSVD_SRC SYS_RSVD_SRC_VALID then s.flag SYS_RSVD_SRC SYS_RSVD_SRC_MORE
  else (((s.put SYS_RSVD_ADDR (BitVec.ofNat 32 a)).flag SYS_RSVD_SRC SYS_RSVD_SRC_VALID).setF
    SYS_RSVD_SRC SYS_RSVD_SRC_KIND nothing.toNat).setF SYS_RSVD_SRC SYS_RSVD_SRC_SOURCE (reqCode q)

/-- RSVD_WR is bit 31 and STAGE_WR bit 30 of every status register (R19). -/
def rsvdWr : Field := ⟨31, 31, .w1c, []⟩
def stageWr : Field := ⟨30, 30, .w1c, []⟩

/-- Reporting a write with a reserved bit, encoding or address (R13, R16, R17): `own` is the register-space
address whose block reports, `a` the address written. -/
def State.rsvdAt (s : State) (q : Req) (own a : Nat) (nothing : Bool) : State :=
  (s.flag (statusOf own) rsvdWr).capture q a nothing

/-- Reporting a reserved write at its own address. -/
def State.rsvd (s : State) (q : Req) (a : Nat) (nothing : Bool) : State := s.rsvdAt q a a nothing

/-- Reporting a write rejected because its block is ARMED (R18). -/
def State.stageRej (s : State) (q : Req) (a : Nat) : State := (s.flag (statusOf a) stageWr).capture q a true

/-- Is the device ARMED for an epoch, COMMIT awaited application included (R18)? -/
def State.armed (s : State) : Bool := s.ep.part.isSome

/-- The register-space address that a model key of a windowed or per-requester register is reached at, for
reports and captures. -/
def busAddr (k : Nat) : Nat :=
  if k < 0x100000000 then k
  else match k / 0x100000000 with
    | 1 => 0xF0060000 + k % 0x1000
    | 2 => if k % 0x100 = 0x24 then 0xF0040004 else if k % 0x100 = 0x30 then 0xF0040010
           else if k % 0x100 = 0x50 then 0xF0070050 else 0xF0060000 + k % 0x100
    | 3 => if k % 0x40 = 0 then 0xF0040014 else 0xF0040000 + k % 0x40
    | 4 => 0xF0060014
    | _ => 0xF00B0000 + k % 0x1000

/-- A write to a register, field by field (R7, R9, R16-R18, R20). The key is the register's address, or the
model's key of a windowed register. The field checks of one write come before any effect. -/
def State.regWrite (s : State) (q : Req) (k : Nat) (w : Word) : State :=
  let a := busAddr k
  match descOf k with
  | none => s.rsvd q a true
  | some r =>
    let fs := r.fields
    if reservedEncoding fs w then s.rsvd q a true
    else
      let rm := rwsMask fs
      if hasRws fs && s.armed && (w &&& rm) != (s.shReg k &&& rm) then s.stageRej q a
      else
        let s1 := s.put k (writeActive fs (s.reg k) w)
        let s2 := if hasRws fs then s1.stage k ((s1.reg k &&& ~~~ rm) ||| (w &&& rm)) else s1
        if (w &&& reservedBits fs) != 0 then s2.rsvd q a false else s2

/-- What the shadow view of a register returns (R10): the staged value of RWS fields, 0 elsewhere. -/
def State.shadowView (s : State) (a : Nat) : Word := s.shReg a &&& rwsMask (fieldsAt a)

/-- The RC bits of a register clear when it is read (R7). -/
def rcMask (fs : List Field) : Word := fs.foldl (fun m f => if f.acc = .rc then m ||| fieldMask f else m) 0

/-- A plain register read (R7, R9): the value and the state after RC fields have cleared. -/
def State.regRead (s : State) (k : Nat) : Word × State :=
  let fs := fieldsAt k
  let v := s.reg k
  (readMasked fs v, if rcMask fs = 0 then s else s.put k (v &&& ~~~ rcMask fs))

/-! ### Counters -/

/-- A counter that nothing has counted. -/
def ctrZero (_ : Nat) : Ctr := ⟨0, false⟩

/-- The counter whose low register is at an address. -/
def State.ctr (s : State) (a : Nat) : Ctr := tblGet ctrZero s.ctrs a

/-- Setting a counter. -/
def State.setCtr (s : State) (a : Nat) (c : Ctr) : State := { s with ctrs := tblSet ctrZero s.ctrs a c }

/-- A load on its way to a counter takes effect (R49). -/
def State.ctrApply (s : State) (a : Nat) : State :=
  match tblGet (fun _ => none) s.ctrLoad a with
  | none => s
  | some l =>
    { s.setCtr a ⟨BitVec.ofNat 48 l.value, if l.clrOvf then false else (s.ctr a).ovf⟩ with
      ctrLoad := tblDrop s.ctrLoad a }

/-- One count: a load on its way takes effect first (R49), and the counter wraps to 0 with OVF (R50). -/
def State.inc (s : State) (a : Nat) : State :=
  let s := s.ctrApply a
  let c := s.ctr a
  s.setCtr a ⟨c.count + 1, c.ovf || c.count == BitVec.allOnes 48⟩

/-- Several counts. -/
def State.incBy (s : State) (a : Nat) : Nat → State
  | 0 => s
  | n + 1 => (s.inc a).incBy a n

/-! ### Interrupts, machine checks, messages -/

/-- An event source of the interrupt controller occurs (R456); IRQ_SOURCE_CHANGE takes it up. -/
def State.occur (s : State) (n : Nat) : State :=
  { s with irq := { s.irq with occ := tblSet (fun _ => false) s.irq.occ n true } }

/-- The code of a context: instance 0-255, supervisor 256 (R20, R407). -/
def ctxSup : Nat := 256

/-- A context. -/
def State.ctx (s : State) (c : Nat) : Ctx := tblGet (fun _ => Ctx.reset) s.ctxs c

/-- Setting a context. -/
def State.setCtx (s : State) (c : Nat) (x : Ctx) : State := { s with ctxs := tblSet (fun _ => Ctx.reset) s.ctxs c x }

/-- A MACHINE_CHECK is raised to the supervisor (R123): it is pending until it is taken, and CW_MCAUSE records the
first since VALID was cleared. -/
def State.machineCheck (s : State) (code source first second : Nat) : State :=
  let x := s.ctx ctxSup
  let v : Word := if x.mcause.getLsbD 31 then x.mcause ||| 0x40000000
    else BitVec.ofNat 32 (2 ^ 31 + second * 2 ^ 25 + first * 2 ^ 20 + code * 2 ^ 9 + source)
  { s.setCtx ctxSup { x with mcause := v } with mchk := true }

/-- A health-log record waits to be written (R669): its class and fields. -/
def State.healthLog (s : State) (cls : Nat) (args : List Nat) : State := { s with health := s.health ++ [(cls, args)] }

/-- A message leaves the block. -/
def State.send (s : State) (m : OutMsg) : State := { s with out := s.out ++ [m] }

/-- What the command returns to its requester. -/
def State.answer (s : State) (r : Reply) : State := { s with reply := r }

/-! ### Stamps (R5, R54, R55) -/

/-- Stamp a lies before stamp b (R54, the first sentence's range). -/
def Stamp.before (a b : Stamp) : Bool := let d := (b - a).toNat; decide (1 ≤ d ∧ d < 2 ^ 47)

/-- Stamp a lies before mark or angle m (R54, the third sentence with m as its first stamp: the exact opposite of m
lies before it). -/
def Stamp.behind (a m : Stamp) : Bool := decide (2 ^ 47 ≤ (a - m).toNat)

/-- Stamp a has been reached by mark m: a does not lie after m. -/
def Stamp.reachedBy (a : Stamp) (m : Option Stamp) : Bool :=
  match m with
  | none => false
  | some m => !(Stamp.before m a)

/-- Stamp a is not after the low-water mark m running downward. -/
def Stamp.reachedDown (a : Stamp) (m : Option Stamp) : Bool :=
  match m with
  | none => false
  | some m => !(Stamp.before a m)

/-- The stamp lies beyond the horizon of the angle (R55). -/
def Stamp.beyond (x now : Stamp) : Bool := let d := (x - now).toNat; decide (2 ^ 46 ≤ d ∧ d < 2 ^ 47)

/-- The active angle as a stamp (R52, R53). -/
def State.angle (s : State) : Stamp := (s.ang.act.vis.extractLsb' 16 48)

/-- The active angle some ns from now at the present velocity. -/
def State.angleIn (s : State) (n : Nat) : Stamp := s.angle + BitVec.ofInt 48 (s.ang.act.omega * n / 65536)

/-- The time counter's bits [47:0] (R64). -/
def State.timeStamp (s : State) : Stamp := s.ang.time.extractLsb' 0 48

/-! ### Tables of units -/

/-- A bit of a natural number. -/
def bitOf (n k : Nat) : Bool := n.testBit k

/-- The signed value of the low w bits. -/
def sext (w n : Nat) : Int := if n % 2 ^ w < 2 ^ (w - 1) then (n % 2 ^ w : Nat) else (n % 2 ^ w : Nat) - (2 ^ w : Nat)

/-- The low w bits of an integer. -/
def wrapTo (w : Nat) (i : Int) : Nat := (i % (2 ^ w : Nat)).toNat

/-- An integer clamped to a range. -/
def clampTo (lo hi i : Int) : Int := if i < lo then lo else if hi < i then hi else i

/-- Is the device fenced (R97)? -/
def State.fenced (s : State) : Bool := s.bit ANG_STATUS ANG_STATUS_FENCED

/-- Is a clock domain lost and not relocked, so that its blocks stand still (R40)? -/
def State.clockDead (s : State) (d : Nat) : Bool := bitOf s.pwr.dead.toNat d

/-- The domains that stop at a PFAIL (R655): 0-17 and 25. -/
def pfailDomains : Word := 0x0203FFFF

/-- Do the blocks of a domain stand still: its clock is lost (R40), or a PFAIL has stopped it (R655)? -/
def State.halted (s : State) (d : Nat) : Bool :=
  s.clockDead d || (s.bit PWR_STATUS PWR_STATUS_PFL && bitOf pfailDomains.toNat d && !bitOf (s.reg SYS_CLK_LOCK).toNat d)

/-- A domain whose loss puts the outputs in their safe states is lost and has not relocked (R40). -/
def State.clockUnsafe (s : State) : Bool :=
  s.clockDead 0 || s.clockDead 1 || s.clockDead 14 || s.clockDead 23

end Sys2Proof.Machine
end

