-- ==== Sys2Proof/Machine/Abort.lean ====
section
/-! DEFINITION. The in-service test stands aside (R663-R665). -/

namespace Sys2Proof.Machine

/-- The running step leaves what it used; the output of the comparator tested is released 200 ns later (R663). -/
def State.tstLeave (s : State) : State :=
  match s.tst.run with
  | none => s
  | some (c, i) =>
    let s := { s with tst := { s.tst with run := none } }
    let x := tblGet (fun _ => Pair.reset) s.pairs (i / 2)
    let s := if c = 1 then
        { s with pairs := tblSet (fun _ => Pair.reset) s.pairs (i / 2) (if i % 2 = 0 then { x with holdH := max x.holdH 200 } else { x with holdL := max x.holdL 200 }) }
      else s
    (s.setF TST_STATUS TST_STATUS_RUNNING 0).setF TST_STATUS TST_STATUS_CLASS 7

/-- The running step, if it is one that p names, ends to stand aside: it is counted and repeated later (R664). -/
def State.tstAside (s : State) (p : Nat → Nat → Bool) : State :=
  match s.tst.run with
  | none => s
  | some (c, i) =>
    if p c i then { s with tst := { s.tst with aborted := s.tst.aborted + 1 } }.tstLeave.inc TST_ABORT_LO else s

end Sys2Proof.Machine
end

