-- ==== Sys2Proof/Machine/Access.lean ====
section
/-! DEFINITION. Who may access which register (R440-R444, R706, Table 12.2; R605 for writes before WREN, R612 for
the debug lock). -/

namespace Sys2Proof.Machine

/-- The verdict on a register access: allowed; refused at issue (R441); refused at the block for the unit's owner
(R442); ignored before WREN (Table 17.8); ignored on the SMBus (R583); no access at all under the debug lock; the register
network, or the requester's own way to it, stands still (R40; log entry 89). -/
inductive Verdict where
  | ok | mpu | notOwner | wrej | smbus | locked | dead
  deriving DecidableEq, Repr

/-- The Sluice step WREN is done (R605). -/
def State.wren (s : State) : Bool := bitOf (s.fld BOOT_SLUICE_STAT BOOT_SLUICE_STAT_DONE) 3

/-- The debug lock holds (R612). -/
def State.debugLock (s : State) : Bool :=
  s.bit BOOT_KEYSTAT BOOT_KEYSTAT_DLOCK || s.bit BOOT_KEYSTAT BOOT_KEYSTAT_SESSION

/-- Do the scan cells of the TAP drive the balls they cover (R688)? EXTEST and HIGHZ; under the debug lock they act as
BYPASS (R612). -/
def State.tapDrives (s : State) : Bool := (s.tap.ir == .extest || s.tap.ir == .highz) && !s.debugLock

/-- Does an instance own a unit of kinds 0x0-0x4, 0x7, 0x8 (R443)? MODE 1 names an instance. -/
def State.ownsUnit (s : State) (i kind x : Nat) : Bool :=
  s.fld (INST_UOWN kind x) INST_UOWN_MODE == 1 && s.fld (INST_UOWN kind x) INST_UOWN_INST == i

/-- Does an instance own the unit whose registers lie at an address of a unit block? An engine's own registers
count as owned by the owner of any of its channels (log entry 12). -/
def State.ownsAddr (s : State) (i a : Nat) : Bool :=
  let t := tileOf a
  let o := a % 0x100000
  match blockOf a with
  | .cel => s.ownsUnit i 0 (t * 32 + o / 0x400)
  | .cvg => s.ownsUnit i 1 (t * 4 + o / 0x1000 % 16)
  | .flt =>
    let e := t * 4 + o / 0x1000 % 16
    if 0x100 ≤ o % 0x1000 ∧ o % 0x1000 < 0x300 then s.ownsUnit i 2 (e * 8 + (o % 0x1000 - 0x100) / 0x40)
    else (List.range 8).any fun c => s.ownsUnit i 2 (e * 8 + c)
  | .drv => s.ownsUnit i 3 (t * 32 + o / 0x100 % 256)
  | .weir => s.ownsUnit i 4 (t * 32 + o / 0x40 % 1024)
  | .lgcRg => s.ownsUnit i 8 (t * 16 + o / 0x1000 % 16)
  | _ => false

/-- The part of an address that Table 12.2 speaks of: shadow views are read like the registers they show. -/
def plainAddr (a : Nat) : Nat := if 0xF8000000 ≤ a then a - 0x08000000 else a

/-- An instance's access to a register (Table 12.2, R441, R442; IRQ and PIN by their chapters). -/
def State.instAccess (s : State) (i a : Nat) (write : Bool) : Verdict :=
  let a := plainAddr a
  match blockOf a with
  | .sys | .ang | .leat | .twin => if write then .mpu else .ok
  | .cxb =>
    if write then (if a = CXB_RNOW ∨ (CXB_ROUTE 0 ≤ a ∧ a < CXB_ROUTE 1600) then .ok else .mpu) else .ok
  | .irq =>
    if a = 0xF0040004 ∨ a = IRQ_DONE ∨ a = IRQ_SWSET ∨ (IRQ_PEND 0 ≤ a ∧ a < IRQ_PEND 128)
        ∨ (IRQ_UF_UNIT 0 ≤ a ∧ a < IRQ_UF_UNIT 256) then
      (if IRQ_UF_UNIT 0 ≤ a ∧ a < IRQ_UF_UNIT 256 ∧ (a - IRQ_UF_UNIT 0) / 8 ≠ i then .notOwner else .ok)
    else .mpu
  | .pin =>
    if write then (if (PIN_OUT 0 ≤ a ∧ a < PIN_OUT 16) ∨ (PIN_OE 0 ≤ a ∧ a < PIN_OE 16) then .ok else .mpu) else .ok
  | .mem =>
    if a = 0xF0070050 ∨ (MEM_DMA_Q 0 ≤ a ∧ a < MEM_DMA_Q 16 ∧ (a - MEM_DMA_Q 0) % 0x40 ≤ 4) then .ok else .mpu
  | .inst | .nvm | .boot | .cal | .obs | .host | .jnl | .pwr | .tst => .mpu
  | .cel | .cvg | .flt | .drv | .weir | .lgcRg => if s.ownsAddr i a then .ok else .notOwner
  | .celMx | .cvgCom | .drvCom | .lgcCom | .tileGap => .mpu
  | .none => .ok

/-- A UART register (R585). -/
def isUart (a : Nat) : Bool := decide (HOST_UART_CFG ≤ a ∧ a ≤ HOST_UART_STAT)

/-- An SMBus access (Table 12.2, R583-R585, R673): reads except of IRQ, OBS and the UART; writes to HOST_MGT, its
data words, PWR_TLIM and PWR_STATUS alone (the data words: log entry 7). -/
def smbusAccess (a : Nat) (write : Bool) : Verdict :=
  match blockOf (plainAddr a) with
  | .irq | .obs => .smbus
  | _ =>
    if isUart (plainAddr a) then .smbus
    else if write then
      (if a = HOST_MGT ∨ (HOST_MGT_DATA 0 ≤ a ∧ a < HOST_MGT_DATA 4) ∨ a = PWR_TLIM ∨ a = PWR_STATUS then .ok else .smbus)
    else .ok

/-- A requester with the standing of the supervisor core (R706 gives it to JTAG; a replay carries it, R519). -/
def isSuper : Req → Bool
  | .sup | .host | .jtag | .remote | .catchup => true
  | .inst _ | .smbus => false

/-- Does the domain that brings a requester's accesses stand still (R40): PCIe, TCK, or the register network itself? -/
def State.wayDead (s : State) (q : Req) : Bool :=
  s.halted 24 || (match q with | .host => s.halted 18 | .jtag => s.halted 26 | _ => false)

/-- Is the access allowed (R40, R440-R442, R605, R612)? -/
def State.access (s : State) (q : Req) (a : Nat) (write : Bool) : Verdict :=
  if s.wayDead q then .dead
  else match q with
  | .inst i => s.instAccess i.val a write
  | .sup | .remote | .catchup => .ok
  | .host => if write && !s.wren then .wrej else .ok
  | .smbus => if write && !s.wren then .wrej else smbusAccess a write
  | .jtag => if s.debugLock then .locked else .ok

/-- BUSERR subcause MPU (Table 3.6). -/
def busMpu : Nat := 0x02

/-- A unit-register access refused at the block: INST_STATE.REF and the first address (R442). -/
def State.refused (s : State) (i a : Nat) : State :=
  if s.bit (INST_STATE i) INST_STATE_REF then s
  else (s.put (INST_REFADDR i) (BitVec.ofNat 32 a)).flag (INST_STATE i) INST_STATE_REF

/-- Does a refusal at the block count as a unit-register refusal (R442)? -/
def isUnitAddr (a : Nat) : Bool :=
  match blockOf (plainAddr a) with
  | .cel | .cvg | .flt | .drv | .weir | .lgcRg => true
  | _ => false

/-- A register write by a requester: the access rules, then the effect. -/
def State.guardWrite (s : State) (q : Req) (a : Nat) (f : State → State) : State :=
  match s.access q a true with
  | .ok => (f s).answer .done
  | .mpu | .locked => s.answer (.error busMpu)
  | .notOwner =>
    (match q with
     | .inst i => if isUnitAddr a then s.refused i.val a else s
     | _ => s).answer .done
  | .wrej => (s.flag BOOT_STATUS BOOT_STATUS_WREJ).answer .done
  | .dead => s.answer .done
  | .smbus => ({ s with host := { s.host with smbBad := true } }.rsvdAt q (plainAddr a) a true).answer .done

/-- A register read by a requester: the access rules, then the value. -/
def State.guardRead (s : State) (q : Req) (a : Nat) (f : State → Word × State) : State :=
  match s.access q a false with
  | .ok => let (v, s) := f s; s.answer (.value v.toNat)
  | .mpu | .locked => s.answer (.error busMpu)
  | .notOwner =>
    (match q with
     | .inst i => if isUnitAddr a then s.refused i.val a else s
     | _ => s).answer (.value 0)
  | .wrej => s.answer (.value 0)
  | .smbus | .dead => let (v, s) := s.free; s.answer (.value (v % 2 ^ 32))

end Sys2Proof.Machine
end

