-- ==== Sys2Proof/Machine/Cxb.lean ====
section
/-! DEFINITION. Confluence (chapter 9): ports, offering and delivering words, routes, owners, border state and
remote-route slots. -/

namespace Sys2Proof.Machine

/-- A one-bit flag of a sample word (Table 9.2). -/
def wordFlag (w : Word) (k : Nat) : Bool := w.getLsbD k

/-- The sample word with a flag set. -/
def setWordFlag (w : Word) (k : Nat) : Word := w ||| BitVec.ofNat 32 (2 ^ k)

/-- The number of Confluence words of an item: 1, or 3 for a trio (R355). -/
def CWord.size (w : CWord) : Nat := if w.stamp.isSome then 3 else 1

/-- A word is an item of one, or with STAMP set it carries its stamp words (R355). -/
def CWord.mk' (w : Word) (st : Option Stamp) (tag : Nat) : CWord :=
  match st with
  | none => ⟨w &&& ~~~ 1, none⟩
  | some x => ⟨w ||| 1, some (x.extractLsb' 0 32, BitVec.ofNat 32 (tag % 32 * 0x10000) ||| (x.extractLsb' 32 16).zeroExtend 32)⟩

/-- The stamp a stamped item carries (Table 9.3). -/
def CWord.stampOf (w : CWord) : Option Stamp := w.stamp.map fun (a, b) => (b.extractLsb' 0 16) ++ a

/-- The sample is poisoned: POISON, or SPOIS in its second stamp word (R356). -/
def CWord.poisoned (w : CWord) : Bool :=
  wordFlag w.word 5 || (match w.stamp with | some (_, b) => b.getLsbD 31 | none => false)

/-- Ports with a source side (Table 9.1). -/
def hasSource (p : Nat) : Bool :=
  decide (p < 576) || (decide (576 ≤ p ∧ p < 704) && p % 2 == 1) || decide (704 ≤ p ∧ p < 1376)
    || decide (1384 ≤ p ∧ p < 1388) || decide (1392 ≤ p ∧ p < 1408)

/-- Ports with a destination side (Table 9.1). -/
def hasDest (p : Nat) : Bool :=
  decide (p < 512) || (decide (576 ≤ p ∧ p < 704) && p % 2 == 0) || decide (704 ≤ p ∧ p < 1384)
    || decide (1392 ≤ p ∧ p < 1408)

/-- No route (R357). -/
def routeNone : Nat := 0x7FF

/-- The source a destination listens to now (R359). -/
def State.routeNow (s : State) (d : Nat) : Nat := tblGet (fun _ => routeNone) s.cxb.route d

/-- The destinations whose route in force selects a source (R349). -/
def State.destsOf (s : State) (p : Nat) : List Nat := (s.cxb.route.filter fun x => x.2 == p).map (·.1)

/-- Is a source port in border state (R368)? -/
def State.inBorder (s : State) (p : Nat) : Bool := tblGet (fun _ => false) s.cxb.border p

/-- CXB_BSTAT and CXB_STATUS.BORDER follow the border table (R368). -/
def State.setBorder (s : State) (p : Nat) (b : Bool) : State :=
  let s := { s with cxb := { s.cxb with
    border := tblSet (fun _ => false) s.cxb.border p b
    released := tblSet (fun _ => false) s.cxb.released p false } }
  let a := CXB_BSTAT (p / 32)
  let m := BitVec.ofNat 32 (2 ^ (p % 32))
  let s := s.put a (if b then s.reg a ||| m else s.reg a &&& ~~~ m)
  s.setF CXB_STATUS CXB_STATUS_BORDER (!s.cxb.border.isEmpty).toNat

/-- A source's region has been released: its border state ends with the next word it offers (R371). -/
def State.releaseBorder (s : State) (p : Nat) : State :=
  if s.inBorder p then
    { s with cxb := { s.cxb with released := tblSet (fun _ => false) s.cxb.released p true } }
  else s

/-- A source side offers a word (R350, R370, R371): in border state it is discarded, unless its region has been
released, which ends the border state. -/
def State.offer (s : State) (p : Nat) (w : CWord) : State :=
  let go (s : State) : State :=
    match s.destsOf p with
    | [] => s
    | ds => { s with cxb := { s.cxb with flights := s.cxb.flights ++ [⟨p, w, ds⟩] } }
  if s.inBorder p then
    if tblGet (fun _ => false) s.cxb.released p then go (s.setBorder p false) else s
  else go s

/-- Several words offered one after the other. -/
def State.offerAll (s : State) (p : Nat) : List CWord → State
  | [] => s
  | w :: r => (s.offer p w).offerAll p r

/-- A slot discards the words of an item (R364, R367). -/
def State.rrDiscard (s : State) (r n : Nat) : State :=
  (s.flag (CXB_RR_STAT r) CXB_RR_STAT_DROP).incBy (CXB_RR_DROP_LO r) n

/-- A remote-route slot takes a word to send (R363, R364): it goes out on the chain to the peer slot, unless it
exceeds the rate of the present µs or the slot sends nothing. -/
def State.rrSend (s : State) (r : Nat) (w : CWord) : State :=
  let micro := s.ang.time.toNat / 1000
  let s := if s.cxb.rrMicro = micro then s else { s with cxb := { s.cxb with rrMicro := micro, rrSent := [] } }
  let sent := tblGet (fun _ => 0) s.cxb.rrSent r
  let cfg := CXB_RR_CFG r
  if s.bit cfg CXB_RR_CFG_EN && s.bit (CXB_RR_STAT r) CXB_RR_STAT_UP
      && decide (sent + w.size ≤ s.fld cfg CXB_RR_CFG_RATE) then
    let s := { s with cxb := { s.cxb with rrSent := tblSet (fun _ => 0) s.cxb.rrSent r (sent + w.size) } }
    s.send (.strm (s.fld cfg CXB_RR_CFG_PEER_DEV) (s.fld cfg CXB_RR_CFG_PEER_SLOT) r w)
  else s.rrDiscard r w.size

/-- A word reaches a destination (R349-R351): it is kept as the last one there and waits for the block. -/
def State.deliver (s : State) (d : Nat) (w : CWord) : State :=
  let s := { s with cxb := { s.cxb with
    last := tblSet (fun _ => none) s.cxb.last d (some w)
    delivered := s.cxb.delivered + w.size } }
  if 1280 ≤ d ∧ d < 1344 then s.rrSend (d - 1280) w
  else
    { s with cxb := { s.cxb with
      arrived := tblSet (fun _ => []) s.cxb.arrived d (tblGet (fun _ => []) s.cxb.arrived d ++ [w]) } }

/-- The oldest word that has arrived at a destination, and the state after it has been taken. -/
def State.takeArrived (s : State) (d : Nat) : Option (CWord × State) :=
  match tblGet (fun _ => []) s.cxb.arrived d with
  | [] => none
  | w :: r => some (w, { s with cxb := { s.cxb with arrived := tblSet (fun _ => []) s.cxb.arrived d r } })

/-- What a parity failure at a destination makes of an item (R356): POISON in the sample, SPOIS in the stamp. -/
def CWord.hurt (w : CWord) (inStamp : Bool) : CWord :=
  match inStamp, w.stamp with
  | true, some (a, b) => { w with stamp := some (a, b ||| 0x80000000) }
  | _, _ => { w with word := setWordFlag w.word 5 }

/-- Delivering one item to its destinations, with the parity failures found there. -/
def State.deliverAll (s : State) (w : CWord) (perr : List (Nat × Bool)) : List Nat → State
  | [] => s
  | d :: r =>
    match perr.find? (fun x => x.1 == d) with
    | some (_, st) =>
      (((s.flag CXB_STATUS CXB_STATUS_PERR).inc CXB_PERR_LO).deliver d (w.hurt st)).deliverAll w perr r
    | none => (s.deliver d w).deliverAll w perr r

/-- CXB_WORD_DELIVER (R350, R356): the oldest word in flight reaches every destination that selected its source;
`perr` lists the destinations where a parity check failed, and whether in a stamp word. -/
def execCxbWordDeliver (perr : List (Nat × Bool)) (s : State) : Host.Outcome State Fault Refusal :=
  match s.cxb.flights with
  | [] => .next s
  | f :: r => .next (({ s with cxb := { s.cxb with flights := r } }).deliverAll f.word perr f.dests)

/-- A requester that R360 holds to no source condition. -/
def cxbSuper : Req → Bool
  | .sup | .host | .jtag | .remote | .catchup => true
  | .inst _ | .smbus => false

/-- Does an instance own a port (R360)? -/
def State.ownsPort (s : State) (i p : Nat) : Bool :=
  s.fld (CXB_OWN p) CXB_OWN_MODE == 1 && s.fld (CXB_OWN p) CXB_OWN_INST == i

/-- Is a port LOCKED? -/
def State.portLocked (s : State) (p : Nat) : Bool := s.fld (CXB_OWN p) CXB_OWN_MODE == 2

/-- May the requester set the route of `d` to `src` (R360)? -/
def State.routeAllowed (s : State) (q : Req) (d src : Nat) : Bool :=
  !s.portLocked d &&
    (match q with
     | .inst i => s.ownsPort i.val d &&
         (src == routeNone || s.ownsPort i.val src || s.bit (CXB_OWN src) CXB_OWN_SHARE)
     | q => cxbSuper q)

/-- A reserved route (R357). -/
def routeReserved (d src : Nat) : Bool := src != routeNone && !(hasDest d && hasSource src)

/-- A write that concerns a port under test ends its step (R664). -/
def State.tstPort (s : State) (a b : Nat) : State := s.tstAside fun c i => c == 2 && (i / 2 == a || i / 2 == b)

/-- CXB_ROUTE_WRITE (R360): ownership, then the reserved values of R357, then the shadow. -/
def State.routeWrite (s : State) (q : Req) (d : Nat) (v : Word) : State :=
  let src := fieldGet CXB_ROUTE_SRC v
  if !s.routeAllowed q d src then s.flag CXB_STATUS CXB_STATUS_OWN_REJ
  else if routeReserved d src then s.rsvd q (CXB_ROUTE d) true
  else (s.tstPort d src).regWrite q (CXB_ROUTE d) v

/-- CXB_ROUTE_WRITE. -/
def execCxbRouteWrite (q : Req) (d : Fin 1600) (v : Word) (s : State) : Host.Outcome State Fault Refusal :=
  .next (s.guardWrite q (CXB_ROUTE d.val) fun s => s.routeWrite q d.val v)

/-- The destinations CXB_RNOW may name (R358). -/
def rnowMay (d : Nat) : Bool :=
  decide (704 ≤ d ∧ d < 960) || decide (1216 ≤ d ∧ d < 1280) || decide (1392 ≤ d ∧ d < 1408)

/-- A write to CXB_RNOW (R358): active route and shadow at once. -/
def State.rnowWrite (s : State) (q : Req) (v : Word) : State :=
  let d := fieldGet CXB_RNOW_DST v
  let src := fieldGet CXB_RNOW_SRC v
  if !rnowMay d then s.rsvd q CXB_RNOW true
  else if !s.routeAllowed q d src then s.flag CXB_STATUS CXB_STATUS_OWN_REJ
  else if routeReserved d src then s.rsvd q CXB_RNOW true
  else if s.armed then s.stageRej q CXB_RNOW
  else
    let s := (s.tstPort d src).setF (CXB_ROUTE d) CXB_ROUTE_SRC src
    let s := { s with staged := tblDrop s.staged (CXB_ROUTE d) }
    if (v &&& reservedBits (fieldsAt CXB_RNOW)) != 0 then s.rsvd q CXB_RNOW false else s

/-- CXB_RNOW_WRITE. -/
def execCxbRnowWrite (q : Req) (v : Word) (s : State) : Host.Outcome State Fault Refusal :=
  .next (s.guardWrite q CXB_RNOW fun s => s.rnowWrite q v)

/-- A write to CXB_OWN (R360, R361). -/
def State.ownWrite (s : State) (q : Req) (p : Nat) (v : Word) : State :=
  let a := CXB_OWN p
  if !cxbSuper q then s.flag CXB_STATUS CXB_STATUS_OWN_REJ
  else if s.portLocked p then
    if fieldGet CXB_OWN_MODE v = 2 ∧ fieldGet CXB_OWN_INST v = s.fld a CXB_OWN_INST
        ∧ fieldGet CXB_OWN_SHARE v = s.fld a CXB_OWN_SHARE then s
    else s.flag CXB_STATUS CXB_STATUS_OWN_REJ
  else if 1392 ≤ p ∧ p < 1408 ∧ fieldGet CXB_OWN_MODE v = 1 then s.rsvd q a true
  else (s.tstPort p p).regWrite q a v

/-- CXB_OWN_WRITE. -/
def execCxbOwnWrite (q : Req) (p : Fin 1600) (v : Word) (s : State) : Host.Outcome State Fault Refusal :=
  .next (s.guardWrite q (CXB_OWN p.val) fun s => s.ownWrite q p.val v)

/-- The route of a destination reaches its switch cycle (R359): the crossbar follows the register, the last word
of the old source is forgotten (R370). Trios are indivisible items, so none is cut. -/
def State.routeSwitch (s : State) (d : Nat) : State :=
  let r := s.fld (CXB_ROUTE d) CXB_ROUTE_SRC
  if s.routeNow d = r then s
  else { s with cxb := { s.cxb with
    route := tblSet (fun _ => routeNone) s.cxb.route d r
    last := tblDrop s.cxb.last d } }

/-- CXB_ROUTE_SWITCH. -/
def execCxbRouteSwitch (d : Fin 1600) (s : State) : Host.Outcome State Fault Refusal := .next (s.routeSwitch d.val)

/-- Every route still on its way to its switch cycle takes it (R359: within the application). -/
def State.routeSwitchAll (s : State) : State :=
  let ds := (s.regs.filter fun x => decide (CXB_ROUTE 0 ≤ x.1 ∧ x.1 < CXB_ROUTE 1600)).map
    (fun x => (x.1 - CXB_ROUTE 0) / 4) ++ s.cxb.route.map (·.1)
  ds.foldl (fun s d => s.routeSwitch d) s

/-- The repeats of one source in border state (R370): the last word it sent to each destination, with HOLD. -/
def State.repeatSource (s : State) (p : Nat) : State :=
  (s.destsOf p).foldl (fun s d =>
    match tblGet (fun _ => none) s.cxb.last d with
    | some w => s.deliver d { w with word := setWordFlag w.word 1 }
    | none => s) s

/-- A source enters border state (R368); its first repeats follow. -/
def State.enterBorder (s : State) (p : Nat) : State := (s.setBorder p true).repeatSource p

/-- BORDER_HOLD_REPEAT (R370): every 1 µs each source in border state repeats. -/
def execBorderHoldRepeat (s : State) : Host.Outcome State Fault Refusal :=
  .next ((s.cxb.border.map (·.1)).foldl (fun s p => s.repeatSource p) s)

/-- CXB_LOAD_READ (R351): PEAK and LAST are returned and PEAK clears. -/
def execCxbLoadRead (q : Req) (s : State) : Host.Outcome State Fault Refusal :=
  .next (s.guardRead q CXB_LOAD fun s => s.regRead CXB_LOAD)

/-- The end of a millisecond of the crossbar (R351): LAST in 0.1 % of 3.2 × 10^9 words, PEAK the highest. -/
def State.cxbMs (s : State) : State :=
  let last := min 1000 (s.cxb.delivered * 1000 / 3200000000)
  let s := { s with cxb := { s.cxb with delivered := 0 } }
  let s := s.setF CXB_LOAD CXB_LOAD_LAST last
  if s.fld CXB_LOAD CXB_LOAD_PEAK < last then s.setF CXB_LOAD CXB_LOAD_PEAK last else s

/-- RR_PLAYOUT (R365, R503): the oldest remote word of a receiving slot is offered on the slot's port, which
ends a border state of the slot (R367). -/
def execRrPlayout (r : Fin 64) (s : State) : Host.Outcome State Fault Refusal :=
  match tblGet (fun _ => []) s.cxb.playout r.val with
  | [] => .next s
  | w :: rest =>
    let s := { s with cxb := { s.cxb with playout := tblSet (fun _ => []) s.cxb.playout r.val rest } }
    .next (s.offer (1280 + r.val) w)

end Sys2Proof.Machine
end

