-- ==== Sys2Proof/Machine/Stamped.lean ====
section
/-! DEFINITION. Stamped operations (R78-R81, R144, R704): lateness, the queues of the consumers and what is due. -/

namespace Sys2Proof.Machine

/-- The kinds of consumers that are no unit kind of Table 1.5 (the model's own codes): the tile's pin block, a
GPIO group port, an instance stream port, the capture of the observation block. -/
def kindPins : Nat := 0x20
def kindGroup : Nat := 0x21
def kindPort : Nat := 0x22
def kindCapture : Nat := 0x23

/-- The distance from the active angle to a stamp in the direction of travel, in au. -/
def State.ahead (s : State) (x : Stamp) (down : Bool) : Nat := (if down then s.angle - x else x - s.angle).toNat

/-- The predicted crossing of a stamp lies less than `lead` ns ahead (R80): distance less than the travel of
`lead` ns at the present velocity. -/
def State.within (s : State) (x : Stamp) (down : Bool) (lead : Nat) : Bool :=
  let v : Int := if down then - s.ang.act.omega else s.ang.act.omega
  decide (0 < v) && decide (s.ahead x down < 2 ^ 47) && decide (((s.ahead x down * 65536 : Nat) : Int) < v * lead)

/-- Is an event with this stamp late on arrival at its consumer (R80)? A stamp that lies before the active angle is late
where the forward mark releases the event (R55, R141), mark or none (log entry 70). -/
def State.late (s : State) (x : Stamp) (q : Qual) (lead : Nat) : Bool :=
  let up := Stamp.behind x s.angle || (match s.ang.hwm with | some m => Stamp.behind x m | none => false) || s.within x false lead
  let dn := (match s.ang.lwm with | some m => Stamp.behind m x | none => false) || s.within x true lead
  match q with
  | .fwd => up
  | .rev => dn
  | .both => up || dn

/-- Has the mark that releases the event reached its stamp (R78)? -/
def State.due (s : State) (x : Stamp) (q : Qual) : Bool :=
  match q with
  | .fwd => Stamp.reachedBy x s.ang.hwm
  | .rev => Stamp.reachedDown x s.ang.lwm
  | .both => Stamp.reachedBy x s.ang.hwm || Stamp.reachedDown x s.ang.lwm

/-- The queue a leaf's stamped operations stand in: the filter channel's is its engine's, all angle sources share
the angle block's. -/
def queueOf (kind index : Nat) : Nat × Nat :=
  if kind = 2 then (2, index / 8) else if kind = 7 then (7, 0) else (kind, index)

/-- How many stamped operations a consumer's queue holds (R60, R205, R253, R285, R312, R328, R385, R194, R474). -/
def queueDepth (kind : Nat) : Nat := if kind = 4 || kind = 8 then 4 else 8

/-- Operations waiting in the queue of a leaf. -/
def State.queued (s : State) (kind index : Nat) : Nat :=
  (s.stq.filter fun o => queueOf o.kind o.index == queueOf kind index
    && (match o.op with | .stream _ | .group _ | .words _ _ => false | _ => true)).length

/-- An operation is accepted into its consumer's queue, in order of acceptance (R81). -/
def State.enqueue (s : State) (o : StOp) : State := { s with stq := s.stq ++ [o] }

/-- Taking the first operation that may be released out of the queue, in order of acceptance (R81). -/
def takeWhen (p : StOp → Bool) : List StOp → Option (StOp × List StOp)
  | [] => none
  | o :: r =>
    if p o then some (o, r)
    else match takeWhen p r with
      | none => none
      | some (x, r') => some (x, o :: r')

/-- Discarding the operations of a leaf that a test selects; how many went. -/
def State.discardOps (s : State) (p : StOp → Bool) : Nat × State :=
  ((s.stq.filter p).length, { s with stq := s.stq.filter fun o => !p o })

end Sys2Proof.Machine
end

