-- ==== Sys2Proof/Machine/Cells.lean ====
section
/-! DEFINITION. Analogue cells and the switch matrix (chapter 5). -/

namespace Sys2Proof.Machine

/-! ### The cell and its bound set -/

def State.cell (s : State) (u : Nat) : Cell := tblGet (fun _ => Cell.reset) s.cells u
def State.setCell (s : State) (u : Nat) (c : Cell) : State :=
  { s with cells := tblSet (fun _ => Cell.reset) s.cells u c }

/-- The BIND codes of CEL_OUT. -/
def bindDiffP : Nat := 1
def bindDiffN : Nat := 2
def bindLead : Nat := 3
def bindFollow : Nat := 4

/-- The cell that governs a cell (R225, R226, R228): the DIFF_P neighbour, the PAR_LEAD cell of its group, or
itself. -/
def State.governs (s : State) (u : Nat) : Nat :=
  let b := s.fld (CEL_OUT u) CEL_OUT_BIND
  if b = bindDiffN then u - u % 2
  else if b = bindFollow then
    let o := u - u % 8
    match (List.range 8).find? (fun i => s.fld (CEL_OUT (o + i)) CEL_OUT_BIND == bindLead
        && decide (o + i ≤ u ∧ u < o + i + 2 ^ (s.fld (CEL_OUT (o + i)) CEL_OUT_PSIZE + 1))) with
    | some i => o + i
    | none => u
  else u

/-- The members of the set that a governing cell leads. -/
def State.boundSet (s : State) (l : Nat) : List Nat :=
  let b := s.fld (CEL_OUT l) CEL_OUT_BIND
  if b = bindDiffP then [l, l + 1]
  else if b = bindLead then (List.range (2 ^ (s.fld (CEL_OUT l) CEL_OUT_PSIZE + 1))).map (l + ·)
  else [l]

/-- The code of a sample word (R203): [31:8] rounded to [31:18] with a carry from bit 17, saturated. -/
def codeOfWord (w : Word) : BitVec 14 × Bool :=
  let v : Int := (w.extractLsb' 18 14).toInt + (if w.getLsbD 17 then 1 else 0)
  if v > 8191 then (8191, true) else (BitVec.ofInt 14 v, false)

/-- A code in bits [31:18] of a register. -/
def regCode (v : Word) : BitVec 14 := v.extractLsb' 18 14

/-! ### Output state and the safe latch (R215-R219) -/

/-- The output state of a governing cell's set (Table 5.6), with the safe latch of any member (R228); the output stages are
in power-on reset while the device is held in reset (R641); the cells of a tile in STANDBY are OFF (R646). -/
def State.outState (s : State) (l : Nat) : Nat :=
  if !bitOf (s.reg PWR_RAIL).toNat (9 + l / 256) || s.pwr.inReset
      || (s.reg PWR_TILE_STATE).toNat / 4 ^ (l / 32) % 4 == 2 then 0
  else if !s.bit (CEL_STATUS l) CEL_STATUS_REL || s.clockUnsafe || s.fenced || s.bit PWR_STATUS PWR_STATUS_PFL
      || (s.boundSet l).any (fun m => s.bit (CEL_STATUS m) CEL_STATUS_LATCH) || !s.bit (CEL_OUT l) CEL_OUT_EN then 1
  else if s.fld (CEL_OUT l) CEL_OUT_MODE = 1 ∧ (s.cell l).held then 2
  else 3

/-- The code of a member's DAC for a code of its set (R225, R226). -/
def State.memberCode (s : State) (m : Nat) (code : BitVec 14) : BitVec 14 :=
  if s.fld (CEL_OUT m) CEL_OUT_BIND = bindDiffN then ~~~ code else code

/-- The DAC latch as the set's output state comes to be `o`: CEL_SAFE_CODE loaded while the safe level is CODE (R216), the
code in force where the output comes to drive (R219). -/
def State.dacFollow (s : State) (l m o : Nat) : State :=
  let c := s.cell m
  let d := if o = 1 ∧ s.fld (CEL_OUT l) CEL_OUT_SAFE = 3 then s.memberCode m (regCode (s.reg (CEL_SAFE_CODE l)))
    else if 2 ≤ o ∧ s.fld (CEL_STATUS m) CEL_STATUS_OUTST < 2 then c.code
    else c.dac
  if d = c.dac then s else s.setCell m { c with dac := d }

/-- OUTST of every member follows the set's state (R228). -/
def State.refreshCell (s : State) (u : Nat) : State :=
  let l := s.governs u
  let o := s.outState l
  (s.boundSet l).foldl (fun s m => (s.dacFollow l m o).setF (CEL_STATUS m) CEL_STATUS_OUTST o) s

/-- The level at an AX ball (Tables 5.6 and 5.7, R203, R223), in nV times 16,383; `none`: high impedance. -/
def State.axLevel (s : State) (u : Nat) : Option Int :=
  let l := s.governs u
  let volts (c : BitVec 14) : Int := 250000000 * 16383 + (c.toInt + 8192) * 4500000000
  match s.outState l with
  | 0 => none
  | 1 =>
    match s.fld (CEL_OUT l) CEL_OUT_SAFE with
    | 0 => none
    | 1 => some (250000000 * 16383)
    | 2 => some (2500000000 * 16383)
    | _ => some (volts (s.cell u).dac)
  | 2 => some (volts (s.cell u).heldCode)
  | _ => some (volts (s.cell u).dac)

/-- OUTST of every cell. -/
def State.refreshCells (s : State) : State := (List.range 512).foldl (fun s u => s.refreshCell u) s

/-- The safe latch of a set is set; the first cause stays (R217, R228). -/
def State.latchCell (s : State) (u cause : Nat) : State :=
  let s := (s.boundSet (s.governs u)).foldl (fun s m =>
    if s.bit (CEL_STATUS m) CEL_STATUS_LATCH then s
    else (s.flag (CEL_STATUS m) CEL_STATUS_LATCH).setF (CEL_STATUS m) CEL_STATUS_LCAUSE cause) s
  s.refreshCell u

/-- The safe latch of every cell. -/
def State.latchCells (s : State) (cause : Nat) : State := (List.range 512).foldl (fun s u => s.latchCell u cause) s

/-- A CLEAR operation (R217). -/
def State.clearCell (s : State) (u : Nat) : State :=
  let s := (s.boundSet (s.governs u)).foldl (fun s m =>
    (s.setF (CEL_STATUS m) CEL_STATUS_LATCH 0).setF (CEL_STATUS m) CEL_STATUS_LCAUSE 0) s
  s.refreshCell u

/-- CEL_OUT.EN of every member of the set (R219). -/
def State.enableCell (s : State) (u : Nat) (b : Bool) : State :=
  let s := (s.boundSet (s.governs u)).foldl (fun s m => s.setF (CEL_OUT m) CEL_OUT_EN b.toNat) s
  s.refreshCell u

/-- The UCMD operations of Table 5.8 on a cell; whether the cell implements the code. -/
def State.cellUcmd (s : State) (u code : Nat) : Option State :=
  match code with
  | 0 => some (s.enableCell u true)
  | 1 => some (s.enableCell u false)
  | 6 => some (s.latchCell u 1)
  | 7 => some (s.clearCell u)
  | _ => none

/-! ### Codes, echo and the update (R203-R214) -/

/-- The echo word of a member's code (R213). -/
def echoWord (code : BitVec 14) (hold sat : Bool) (first : Option Stamp) : CWord :=
  let w : Word := (code.zeroExtend 32 <<< 18) ||| (if hold then 2 else 0) ||| (if sat then 0x40 else 0)
    ||| (if first.isSome then 0x80 else 0)
  CWord.mk' w first 0

/-- A code reaches the DACs of a set (R225, R226) and the echo ports (R213): `first` is the stamp of a playback
start. -/
def State.applyCode (s : State) (l : Nat) (code : BitVec 14) (sat : Bool) (inPlay : Bool) (first : Option Stamp) :
    State :=
  let out := s.outState l
  let echo := s.fld (CEL_OUT l) CEL_OUT_ECHO
  (s.boundSet l).foldl (fun s m =>
    let c := s.memberCode m code
    let s := s.setCell m { s.cell m with code := c, sat := sat, dac := if 2 ≤ out then c else (s.cell m).dac }
    if 2 ≤ out ∧ (echo = 1 ∨ (echo = 2 ∧ inPlay)) then
      s.offer m (echoWord c (out == 2) sat (if echo = 2 then first else none))
    else s) s

/-- The code and length of the active bank (R210, R211). -/
def State.activeBank (s : State) (u : Nat) : Tbl (BitVec 14) × Nat :=
  let c := s.cell u
  if s.bit (CEL_WAVE u) CEL_WAVE_ACTIVE then (c.bankB, c.lenB) else (c.bankA, c.lenA)

/-- A code of a bank; banks are cleared at start-up (R700). -/
def bankCode (b : Tbl (BitVec 14)) (k : Nat) : BitVec 14 := tblGet (fun _ => 0) b k

/-- A sample of the FIFO is discarded (R207, R208, R209). -/
def State.dropSample (s : State) (u : Nat) : State :=
  (s.flag (CEL_STATUS u) CEL_STATUS_DROP).inc (CEL_DROP_LO u)

/-- A stamped sample that comes to the head of the FIFO waits for its stamp (R208); beyond the horizon it is
discarded, late it is applied at the next update. `n` bounds the samples looked at. -/
def State.fifoHead (s : State) (u : Nat) : Nat → State
  | 0 => s
  | n + 1 =>
    match (s.cell u).fifo with
    | [] => s
    | w :: r =>
      match w.stampOf with
      | none => s
      | some x =>
        if Stamp.beyond x s.angle then ((s.setCell u { s.cell u with fifo := r }).dropSample u).fifoHead u n
        else if s.late x .fwd 86 then (s.inc (CEL_LATE_LO u)).setCell u { s.cell u with headDue := true }
        else s.enqueue ⟨0, u, x, .fwd, .stream w, .sup, 0⟩

/-- Taking the sample at the head of the FIFO to the DAC (R207, R208). -/
def State.takeSample (s : State) (u : Nat) : State :=
  match (s.cell u).fifo with
  | [] => s
  | w :: r =>
    let s := s.setCell u { s.cell u with fifo := r, headDue := false }
    let (code, sat) := codeOfWord w.word
    (s.applyCode u code sat false none).fifoHead u 4

/-- The code in force is applied once more (R207). -/
def State.keepCode (s : State) (l : Nat) : State := s.applyCode l (s.cell l).code (s.cell l).sat false none

/-- The sample at the head of the FIFO is taken if it may be (R207, R208), else the code stays. -/
def State.nextSample (s : State) (l : Nat) : State :=
  match (s.cell l).fifo with
  | w :: _ => if w.stamp.isNone || (s.cell l).headDue then s.takeSample l else s.keepCode l
  | [] => s.keepCode l

/-- The hold engages: each member's sample-and-hold takes the level at its ball (R221). -/
def State.engage (s : State) (l : Nat) : State :=
  let s := (s.boundSet l).foldl (fun s m => s.setCell m { s.cell m with heldCode := (s.cell m).dac }) s
  s.setCell l { s.cell l with held := true, holdPend := false }

/-- An update in STREAM mode (R207, R208, R221, R222). No sample is taken by the update at which a hold engages, while it
stands, and after its timeout until the next word without HOLD; a word that ended the hold is taken first (log entry 9). -/
def State.streamUpdate (s : State) (l : Nat) : State :=
  let c := s.cell l
  let s := if c.holdEnd then (s.setCell l { c with held := false, holdEnd := false }).nextSample l
    else if c.held || c.holdPend || c.timedOut then s
    else s.nextSample l
  let s := if c.holdPend then s.engage l else s
  let s := if !c.holdEnd && (c.held || c.holdPend || c.timedOut) then s.keepCode l else s
  s.refreshCell l

/-- An update in WAVE mode (R204, R212). -/
def State.waveUpdate (s : State) (l : Nat) : State :=
  match (s.cell l).playing with
  | some k =>
    let (b, n) := s.activeBank l
    if k < n then
      (s.setCell l { s.cell l with playing := some (k + 1) }).applyCode l (bankCode b k) false true none
    else (s.setCell l { s.cell l with playing := none }).applyCode l (regCode (s.reg (CEL_WAVE l))) false false none
  | none => s.applyCode l (regCode (s.reg (CEL_WAVE l))) false false none

/-- A cause of the safe latch that still holds sets it again (R217). Where several hold, the spec names no order for LCAUSE:
DESIGN CHOICE (log entry 9): the fence, then the clock loss, then PFAIL. -/
def State.relatch (s : State) (l : Nat) : State :=
  let s := if s.fenced then s.latchCell l 2 else s
  let s := if s.clockUnsafe then s.latchCell l 3 else s
  if s.bit PWR_STATUS PWR_STATUS_PFL then s.latchCell l 4 else s

/-- One update of a governing cell on its grid (R205). -/
def State.dacUpdate (s : State) (l : Nat) : State :=
  let s := s.relatch l
  match s.fld (CEL_OUT l) CEL_OUT_MODE with
  | 0 => s.applyCode l (regCode (s.reg (CEL_CONST l))) false false none
  | 1 => s.streamUpdate l
  | _ => s.waveUpdate l

/-! ### Stream words (R207-R209, R220-R222) -/

/-- A poisoned word at a cell (R209). -/
def State.cellPoison (s : State) (u : Nat) : State :=
  let s := (s.flag (CEL_STATUS u) CEL_STATUS_POISON).inc (CEL_POIS_LO u)
  if s.bit (CEL_OUT u) CEL_OUT_POISON_SAFE then s.latchCell u 8 else s

/-- A word arrives at a cell in STREAM mode. -/
def State.cellWord (s : State) (u : Nat) (w : CWord) : State :=
  let s := if w.poisoned then s.cellPoison u else s
  let c := s.cell u
  if wordFlag w.word 1 then
    if c.held && !c.holdEnd then s else s.setCell u { c with holdPend := true }
  else
    let s := s.setCell u { c with holdPend := false, holdEnd := c.held, timedOut := false }
    let c := s.cell u
    if w.poisoned then s
    else if c.fifo.length < 4 then
      let s := s.setCell u { c with fifo := c.fifo ++ [w] }
      if c.fifo.isEmpty then s.fifoHead u 1 else s
    else s.dropSample u

/-- CELL_STREAM_WORD (R207, R209): in another mode, or at a cell that another governs, the word is discarded. -/
def execCellStreamWord (u : Fin 512) (s : State) : Host.Outcome State Fault Refusal :=
  match s.takeArrived u.val with
  | none => .next s
  | some (w, s) =>
    if s.governs u.val = u.val ∧ s.fld (CEL_OUT u.val) CEL_OUT_MODE = 1 then .next (s.cellWord u.val w) else .next s

/-- The release of the stamped sample at the head of the FIFO (R208): the DAC updates at once; a hold that stands, or that
ended by timeout, keeps the sample until it is over (R222). -/
def State.streamRelease (s : State) (u : Nat) : State :=
  match (s.cell u).fifo with
  | w :: _ =>
    let c := s.cell u
    if w.stamp.isNone then s
    else if (c.held && !c.holdEnd) || c.timedOut then s.setCell u { c with headDue := true }
    else ((s.setCell u { c with held := false, holdEnd := false }).takeSample u).refreshCell u
  | [] => s

/-- HOLD_TIMEOUT (R222): the hold timer of an engaged hold reaches HOLD_MAX; a word that ends the hold wins. -/
def execHoldTimeout (u : Fin 512) (s : State) : Host.Outcome State Fault Refusal :=
  let c := s.cell u.val
  if c.held && !c.holdEnd then
    .next (((s.setCell u.val { c with held := false, timedOut := true }).flag (CEL_STATUS u.val) CEL_STATUS_HTO).latchCell u.val 5)
  else .next s

/-- STARVE_TIMEOUT (R220): the timer runs in STREAM mode with STARVE not 0, in HOLD or DRIVING. -/
def execStarveTimeout (u : Fin 512) (s : State) : Host.Outcome State Fault Refusal :=
  if s.governs u.val = u.val ∧ s.fld (CEL_OUT u.val) CEL_OUT_MODE = 1 ∧ s.fld (CEL_HOLD u.val) CEL_HOLD_STARVE ≠ 0
      ∧ 2 ≤ s.outState u.val then
    .next ((s.flag (CEL_STATUS u.val) CEL_STATUS_STARVE).latchCell u.val 6)
  else .next s

/-- OVERCURRENT (R214, R228): the member's flag, and the set's latch under the governing cell's OC_SAFE. -/
def execOvercurrent (u : Fin 512) (s : State) : Host.Outcome State Fault Refusal :=
  let s := s.flag (CEL_STATUS u.val) CEL_STATUS_OC
  if s.bit (CEL_OUT (s.governs u.val)) CEL_OUT_OC_SAFE then .next (s.latchCell u.val 7) else .next s

/-! ### Waveform banks (R210-R212) -/

/-- Writing codes into a bank from an index on. -/
def bankWrite (b : Tbl (BitVec 14)) : Nat → List Word → Tbl (BitVec 14)
  | _, [] => b
  | k, w :: r => bankWrite (tblSet (fun _ => 0) b k (codeOfWord w).1) (k + 1) r

/-- A load of the inactive bank (R210): READY clears at its start; the length is recorded at its end. -/
def State.cellLoad (s : State) (u req : Nat) (ws : List Word) : State :=
  let c := s.cell u
  let s := s.setF (CEL_WAVE u) CEL_WAVE_READY 0
  if s.bit (CEL_WAVE u) CEL_WAVE_ACTIVE then
    s.setCell u { c with bankA := bankWrite c.bankA 0 ws, loading := some (ws.length, req) }
  else s.setCell u { c with bankB := bankWrite c.bankB 0 ws, loading := some (ws.length, req) }

/-- WAVE_LOAD_COMPLETE (R210). -/
def execWaveLoadComplete (u : Fin 512) (s : State) : Host.Outcome State Fault Refusal :=
  let c := s.cell u.val
  match c.loading with
  | none => .next s
  | some (n, _) =>
    let c := if s.bit (CEL_WAVE u.val) CEL_WAVE_ACTIVE then { c with lenA := n, loading := none }
      else { c with lenB := n, loading := none }
    .next ((s.setCell u.val c).flag (CEL_WAVE u.val) CEL_WAVE_READY)

/-- A read of CEL_WAVE_DATA (R210): a code, and INDEX advances modulo 4,096. -/
def State.waveDataRead (s : State) (u : Nat) : Word × State :=
  let a := CEL_WAVE_ADDR u
  let k := s.fld a CEL_WAVE_ADDR_INDEX
  let c := s.cell u
  let b := if s.bit (CEL_WAVE u) CEL_WAVE_ACTIVE == s.bit a CEL_WAVE_ADDR_BANK then c.bankA else c.bankB
  (BitVec.ofNat 32 ((bankCode b k).toNat * 0x40000), s.setF a CEL_WAVE_ADDR_INDEX ((k + 1) % 4096))

/-- CEL_WAVE_DATA_READ. -/
def execCelWaveDataRead (q : Req) (u : Fin 512) (s : State) : Host.Outcome State Fault Refusal :=
  .next (s.guardRead q (CEL_WAVE_DATA u.val) fun s => s.waveDataRead u.val)

/-- The gate of the cell's pulse generator rises (R211, R212): the banks swap if READY, and the first code plays. -/
def State.gateUp (s : State) (u : Nat) : State :=
  if s.governs u = u ∧ s.fld (CEL_OUT u) CEL_OUT_MODE = 2 then
    let s := if s.bit (CEL_WAVE u) CEL_WAVE_READY then
        let s := s.setF (CEL_WAVE u) CEL_WAVE_ACTIVE (1 - s.fld (CEL_WAVE u) CEL_WAVE_ACTIVE)
        (s.setF (CEL_WAVE u) CEL_WAVE_READY 0).setF (CEL_WAVE u) CEL_WAVE_LEN (s.activeBank u).2
      else s
    let (b, n) := s.activeBank u
    if n = 0 then s
    else
      let s := s.setCell u { s.cell u with playing := some 1 }
      s.applyCode u (bankCode b 0) false true (some (s.angleIn 36))
  else s

/-- The gate falls (R212): the output takes IDLE at the next update. -/
def State.gateDown (s : State) (u : Nat) : State := s.setCell u { s.cell u with playing := none }

/-! ### Matrix routes and path delays (R202, R229-R233) -/

/-- What a matrix output of a tile selects: `none` when open. The view is the active or the staged one. -/
def mxSel (get : Nat → Field → Nat) (t o : Nat) : Option Nat :=
  let i := get (CEL_MX_SEL t o) CEL_MX_SEL_IN
  if i < 48 then some i else none

/-- The mode of a trunk of a tile. -/
def trunkMode (v : Word) (k : Nat) : Nat := v.toNat / 4 ^ k % 4

/-- The tile that drives a die trunk. -/
def dieDriver (trunk : Nat → Word) (t k : Nat) : Option Nat :=
  ((List.range 8).map (fun i => t / 8 * 8 + i)).find? (fun x => trunkMode (trunk x) k == 1)

/-- Following a matrix output back to the cell whose tap feeds it: the cell (tile, number), and the delay in
100 ps of the passes and trunks on the way; no cell where the route is open; `none` where it loops. -/
def mxTrace (get : Nat → Field → Nat) (trunk : Nat → Word) : Nat → Nat → Nat → Nat → Option (Option (Nat × Nat) × Nat)
  | 0, _, _, _ => none
  | n + 1, t, o, d =>
    match mxSel get t o with
    | none => some (none, d)
    | some i =>
      let d := d + 12
      if i < 32 then some (some (t, i), d)
      else
        let k := i - 32
        if trunkMode (trunk t) k = 0 then mxTrace get trunk n t i d
        else match dieDriver trunk t k with
          | some x => mxTrace get trunk n x i (d + 18)
          | none => some (none, d)

/-- The delay of a cell's matrix route, 100 ps. Where the route is open or its die trunk has no driver, the spec gives no
delay: DESIGN CHOICE (log entry 9): that of the passes and trunks up to the open point. -/
def State.routeDelay (s : State) (u : Nat) : Nat :=
  match mxTrace s.fld (fun t => s.reg (CEL_MX_TRUNK t)) 300 (u / 32) (u % 32) 0 with
  | some (_, d) => d
  | none => 0

/-- The way of a cell's matrix route: the outputs it passes, each with its tile (R229, R231). -/
def mxPath (get : Nat → Field → Nat) (trunk : Nat → Word) : Nat → Nat → Nat → List (Nat × Nat)
  | 0, _, _ => []
  | n + 1, t, o =>
    match mxSel get t o with
    | none => [(t, o)]
    | some i =>
      (t, o) :: (if i < 32 then [(t, 64 + i)]
        else
          let k := i - 32
          if trunkMode (trunk t) k = 0 then mxPath get trunk n t i
          else match dieDriver trunk t k with
            | some x => mxPath get trunk n x i
            | none => [])

/-- Does the staged state change a cell's input settings or its matrix route (R236)? -/
def State.inputChanges (s : State) (u : Nat) : Bool :=
  let act := mxPath s.fld (fun t => s.reg (CEL_MX_TRUNK t)) 300 (u / 32) (u % 32)
  let new := mxPath s.shFld (fun t => s.shReg (CEL_MX_TRUNK t)) 300 (u / 32) (u % 32)
  s.shReg (CEL_IN u) != s.reg (CEL_IN u) || s.shReg (CEL_FILT u) != s.reg (CEL_FILT u)
    || s.shFld (CEL_OUT u) CEL_OUT_BIND != s.fld (CEL_OUT u) CEL_OUT_BIND
    || (s.shFld (CEL_IN u) CEL_IN_SRC == 3 && act != new)

/-- A cell whose input settings an application changed settles for 10 DLY and 1 µs (R236). -/
def State.cellSettle (s : State) (u : Nat) : State :=
  s.setCell u { s.cell u with unsettled := s.ang.time.toNat + s.fld (CEL_PATH_DLY u) CEL_PATH_DLY_DLY + 1000 }

/-- The filter's part of the delay in 10^-5 of 100 ps: √2 / 2π f_c or 1.3617 / 2π f_c (R202). -/
def filterDelay (shape e m : Nat) : Nat :=
  let c := if shape = 1 then 225079079039276 else 216721287096120
  if shape = 0 then 0 else c * 64 / (1000 * (64 + m) * 2 ^ e)

/-- CEL_PATH_DLY.DLY under the active settings, to the nearest 100 ps (R202). -/
def State.pathDelay (s : State) (u : Nat) : Nat :=
  let f := filterDelay (s.fld (CEL_FILT u) CEL_FILT_SHAPE) (s.fld (CEL_FILT u) CEL_FILT_FC_E)
    (s.fld (CEL_FILT u) CEL_FILT_FC_M)
  30 + (f + 50000) / 100000 + (if s.fld (CEL_IN u) CEL_IN_SRC = 3 then s.routeDelay u else 0)

/-! ### Staged settings (R235, Table 5.11) and their application -/

/-- Checks 1 and 2 of Table 5.11 for one cell. -/
def State.bindOk (s : State) (u : Nat) : Bool :=
  let b (x : Nat) := s.shFld (CEL_OUT x) CEL_OUT_BIND
  let size (x : Nat) := 2 ^ (s.shFld (CEL_OUT x) CEL_OUT_PSIZE + 1)
  match b u with
  | 1 => u % 2 == 0 && b (u + 1) == bindDiffN
  | 2 => u % 2 == 1 && b (u - 1) == bindDiffP
  | 3 => u % 8 % size u == 0 && ((List.range (size u)).drop 1).all (fun i => b (u + i) == bindFollow)
  | 4 => (List.range 8).any (fun i => let l := u - u % 8 + i
      b l == bindLead && decide (l < u ∧ u < l + size l))
  | _ => true

/-- Check 8 of Table 5.11 for one cell. -/
def State.filtOk (s : State) (u : Nat) : Bool :=
  let e := s.shFld (CEL_FILT u) CEL_FILT_FC_E
  s.shFld (CEL_FILT u) CEL_FILT_SHAPE == 0
    || decide (e ≤ 12 ∧ 1000 * (64 + s.shFld (CEL_FILT u) CEL_FILT_FC_M) * 2 ^ e ≤ 5000000 * 64)

/-- Checks 3 to 6 for one trunk of one tile. -/
def State.trunkOk (s : State) (t k : Nat) : Bool :=
  let trunk (x : Nat) := s.shReg (CEL_MX_TRUNK x)
  let sel := mxSel s.shFld t (32 + k)
  sel != some (32 + k)
    && (trunkMode (trunk t) k != 2 || sel.isNone)
    && decide (((List.range 8).filter fun i => trunkMode (trunk (t / 8 * 8 + i)) k == 1).length ≤ 1)
    && (mxTrace s.shFld trunk 300 t (32 + k) 0).isSome

/-- Check 7: following the matrix sources of cells whose TAP is FOUT comes to an end. -/
def cellTrace (s : State) : Nat → Nat → Bool
  | 0, _ => false
  | n + 1, u =>
    if s.shFld (CEL_IN u) CEL_IN_SRC = 3 then
      match mxTrace s.shFld (fun t => s.shReg (CEL_MX_TRUNK t)) 300 (u / 32) (u % 32) 0 with
      | some (some (t, c), _) =>
        if s.shFld (CEL_IN (t * 32 + c)) CEL_IN_TAP = 0 then cellTrace s n (t * 32 + c) else true
      | some (none, _) => true
      | none => false
    else true

/-- The checks of Table 5.11 on the staged state (R235). -/
def State.cellStageOk (s : State) : Bool :=
  (List.range 512).all (fun u => s.bindOk u)
    && (List.range 16).all (fun t => (List.range 16).all fun k => s.trunkOk t k)
    && (List.range 512).all (fun u => cellTrace s 600 u)
    && (List.range 512).all (fun u => s.filtOk u)

/-- What an application changes in a cell besides its registers (R202, R209, R224). -/
def State.cellApplied (s : State) (u : Nat) : State :=
  let s := s.setF (CEL_PATH_DLY u) CEL_PATH_DLY_DLY (s.pathDelay u)
  let c := s.cell u
  let s := if s.fld (CEL_OUT u) CEL_OUT_MODE ≠ 1 then
      let n := c.fifo.length
      let (_, s) := s.discardOps fun o => o.kind == 0 && o.index == u && (match o.op with | .stream _ => true | _ => false)
      let s := s.setCell u { c with
        fifo := [], headDue := false, held := false, holdPend := false, holdEnd := false, timedOut := false }
      if n = 0 then s else (s.flag (CEL_STATUS u) CEL_STATUS_DROP).incBy (CEL_DROP_LO u) n
    else s
  let s := if s.fld (CEL_OUT u) CEL_OUT_MODE ≠ 2 then s.setCell u { s.cell u with playing := none } else s
  s.refreshCell u

end Sys2Proof.Machine
end

