-- ==== Sys2Proof/Machine/Converter.lean ====
section
/-! DEFINITION. Converter groups (chapter 6): operations, the sequence, urgent entries, stamps, decimators, Eddy
rotation and the application of settings. -/

namespace Sys2Proof.Machine

def State.group (s : State) (g : Nat) : Group := tblGet (fun _ => Group.reset) s.groups g
def State.setGroup (s : State) (g : Nat) (x : Group) : State :=
  { s with groups := tblSet (fun _ => Group.reset) s.groups g x }

/-! ### States and slices -/

def cvgDisabled : Nat := 0
def cvgStopped : Nat := 1
def cvgRunning : Nat := 2
def cvgStopping : Nat := 3

/-- The state of a group (Table 6.3). -/
def State.cvgState (s : State) (g : Nat) : Nat := s.fld (CVG_STATUS g) CVG_STATUS_STATE
def State.setCvgState (s : State) (g x : Nat) : State := s.setF (CVG_STATUS g) CVG_STATUS_STATE x

/-- URG_ACT follows the urgent entries (R247). -/
def State.urgSync (s : State) (g : Nat) : State :=
  let x := s.group g
  s.setF (CVG_STATUS g) CVG_STATUS_URG_ACT (!(x.urg.isEmpty && x.urgWait.isEmpty)).toNat

/-- The conversion is still running on its slice. -/
def Conv.running (c : Conv) : Bool := c.result.isNone && !c.aborted

/-- Slices that sample or convert. -/
def Group.busy (x : Group) : List Nat := ((x.seq ++ x.urg).filter (·.running)).map (·.slice)

/-- The slices in service (R241): the enabled ones, less the Eddy slice when all five are enabled. -/
def State.activeSlices (s : State) (g : Nat) : List Nat :=
  let dis := s.fld (CVG_CFG g) CVG_CFG_SLICE_DIS
  if dis = 0 then (List.range 5).filter fun k => k != s.fld (CVG_EDDY g) CVG_EDDY_SLICE
  else (List.range 5).filter fun k => !bitOf dis k

/-- The lowest free active slice the sequencer may use (R247, R271); none while the group's clock stands still (R40). -/
def State.freeSlice (s : State) (g : Nat) (urgent : Bool) : Option Nat :=
  let x := s.group g
  let free := (s.activeSlices g).filter fun k => !x.busy.contains k && !s.halted (10 + g / 16)
  match free.find? (fun k => x.swap != some k) with
  | some k => some k
  | none => if urgent then free.head? else none

/-- RDY of a reference of a group's die (R265, R266). -/
def State.refRdyOf (s : State) (g : Nat) (refB : Bool) : Bool :=
  s.bit (CVG_REF (g / 32)) (if refB then CVG_REF_RDY_B else CVG_REF_RDY_A)

/-- RDY of the reference the group selects. -/
def State.refReady (s : State) (g : Nat) : Bool := s.refRdyOf g (s.bit (CVG_CFG g) CVG_CFG_REFSEL)

/-! ### Signals (Tables 5.2 and 6.1, R200, R242, R243, R277, R278) -/

/-- The value of a test DAC in nV (R277). -/
def State.tdacValue (s : State) (g : Nat) : Int :=
  if s.bit (CVG_TDAC g) CVG_TDAC_EN then sext 12 (s.fld (CVG_TDAC g) CVG_TDAC_CODE) * 781250 else 0

/-- What a group's test DAC feeds (R277, R278): its value within 1 mV; anything from the old to the new value while it
settles; 0 V powered down. -/
def State.tdacOrigin (s : State) (g : Nat) : Origin :=
  let v := s.tdacValue g
  let x := s.group g
  if s.ang.time.toNat < x.tdacTill then .between (min x.tdacLo v - 1000000) (max x.tdacHi v + 1000000)
  else if s.bit (CVG_TDAC g) CVG_TDAC_EN then .between (v - 1000000) (v + 1000000)
  else .exact 0 1

/-- The new value of a test DAC after a write: 2 µs may still show the old one (R278). -/
def State.tdacSettle (s : State) (g : Nat) (old : Int) : State :=
  let x := s.group g
  let now := s.ang.time.toNat
  let busy := decide (now < x.tdacTill)
  s.setGroup g { x with
    tdacLo := if busy then min x.tdacLo old else old
    tdacHi := if busy then max x.tdacHi old else old
    tdacTill := now + 2000 }

/-- A cell's DAC output as DACLB and TAP take it: 0.711 × (V_DAC − 2.5 V) with V_DAC − 2.5 V = 4.5 V × (2 code + 1) / 32,766
(R203, Table 5.2, R230). -/
def State.dacOrigin (s : State) (u : Nat) : Origin := .exact (3199500000 * (2 * (s.cell u).dac.toInt + 1)) 32766

/-- The signal at FOUT of a cell (Table 5.2, R225, R230, R236). `n` bounds the cells on the way of a matrix route. -/
def State.foutOf (s : State) : Nat → Nat → Signal
  | 0, _ => ⟨.direct, [], true⟩
  | n + 1, u =>
    let a := CEL_IN u
    let gain := s.fld a CEL_IN_GAIN
    let diff := s.fld (CEL_OUT u) CEL_OUT_BIND == bindDiffP
    if s.fld (CEL_OUT u) CEL_OUT_BIND = bindDiffN then ⟨.exact 0 1, [], true⟩
    else if s.ang.time.toNat < (s.cell u).unsettled then ⟨.direct, [], true⟩
    else match s.fld a CEL_IN_SRC with
      | 0 => ⟨.exact 0 1, [gain], true⟩
      | 1 =>
        let i := s.bit a CEL_IN_AYMODE
        ⟨if i then (if diff then .ball 2 5 0 else .ball 4 5 0)
          else if diff then .ball 8 25 0
          else .ball 16 25 (if s.fld a CEL_IN_REF = 1 then 2500000000 else 0), [gain], true⟩
      | 2 => ⟨if diff then .ball 8 25 0 else .ball 16 25 2500000000, [gain], true⟩
      | 3 =>
        match mxTrace s.fld (fun t => s.reg (CEL_MX_TRUNK t)) 300 (u / 32) (u % 32) 0 with
        | some (some (t, c), _) =>
          let v := t * 32 + c
          if s.fld (CEL_IN v) CEL_IN_TAP = 0 then
            let x := s.foutOf n v
            ⟨x.origin, x.gains ++ [gain], true⟩
          else ⟨s.dacOrigin v, [gain], true⟩
        | _ => ⟨.direct, [], true⟩
      | 4 => ⟨s.tdacOrigin (u / 8), [gain], true⟩
      | _ => ⟨s.dacOrigin u, [gain], true⟩

/-- The signal an entry converts (Table 6.1). -/
def State.signalOf (s : State) (g insel : Nat) : Signal :=
  match insel with
  | 32 => ⟨s.tdacOrigin g, [], false⟩
  | 33 => ⟨.exact 0 1, [], false⟩
  | 34 => ⟨.half, [], false⟩
  | i => s.foutOf 600 (g / 4 * 32 + i)

/-- The clip at FOUT (R200): ±1.6 V; a level in nV as a quotient, and whether it clipped. -/
def clipAt (v : Int × Nat) : (Int × Nat) × Bool :=
  if v.1 < -(1600000000 * (v.2 : Int)) then ((-1600000000, 1), true)
  else if 1600000000 * (v.2 : Int) < v.1 then ((1600000000, 1), true)
  else (v, false)

/-- The level of an origin in nV as a quotient, for the level given and the reference's value in nV. -/
def Origin.level (o : Origin) (x : Int) (ref : Nat) : Int × Nat :=
  match o with
  | .direct => (x, 1)
  | .ball num den off => ((x - off) * num, den)
  | .between lo hi => (clampTo lo hi x, 1)
  | .half => (ref, 2)
  | .exact num den => (num, den)

/-- The level of a signal and whether the last cell's clip detector is active: each cell on the way multiplies by its PGA gain
2^(code - 3) and clips (Tables 5.2 and 5.3). -/
def Signal.level (x : Signal) (lev : Int) (ref : Nat) : (Int × Nat) × Bool :=
  let o := x.origin.level lev ref
  let y := x.gains.foldl (fun v k => clipAt (v.1.1 * (2 ^ k : Nat), v.1.2 * 8)) (o, false)
  if x.cell then (let z := clipAt y.1; (z.1, y.2 || z.2)) else y

/-- code = round(V × G / V_ref × 32,768), clamped (R243), halves up; `dev` is the reference's deviation from 1.6 V in µV. -/
def Signal.code (x : Signal) (gain : Nat) (lev dev : Int) : BitVec 16 × Bool :=
  let ref := max 1 (1600000000 + 1000 * dev).toNat
  let y := x.level lev ref
  let num : Int := y.1.1 * (2 ^ gain : Nat) * 32768
  let den : Int := (y.1.2 * ref : Nat)
  (BitVec.ofInt 16 (clampTo (-32768) 32767 ((2 * num + den) / (2 * den))), y.2)

/-! ### Decimators (R273-R276) -/

/-- Every decimator of a group restarts (R275). -/
def State.cicRestart (s : State) (g : Nat) : State := s.setGroup g { s.group g with cics := [] }

/-- The decimator of an entry; a restarted one of order N. -/
def State.cicOf (s : State) (g e : Nat) : Cic :=
  match tblGet (fun _ => none) (s.group g).cics e with
  | some c => c
  | none =>
    let n := s.fld (CVG_SEQ_CIC g e) CVG_SEQ_CIC_ORDER
    ⟨List.replicate n 0, List.replicate n 0, 0, 0, [], 0⟩

/-- The integrators take one input; each adds the one before it. -/
def cicIntegrate : BitVec 80 → List (BitVec 80) → List (BitVec 80)
  | _, [] => []
  | x, i :: r => (i + x) :: cicIntegrate (i + x) r

/-- The combs take the last integrator: the output and the new delays. -/
def cicComb : BitVec 80 → List (BitVec 80) → BitVec 80 × List (BitVec 80)
  | x, [] => (x, [])
  | x, d :: r => let (y, r') := cicComb (x - d) r; (y, x :: r')

/-- The output value (R276) and whether it clamped. -/
def cicScale (acc : Int) (sh : Nat) : Int × Bool :=
  let y := if sh = 0 then acc * 256 else (acc * 256 + (2 ^ (sh - 1) : Nat)) / (2 ^ sh : Nat)
  let c := clampTo (-8388608) 8388607 y
  (c, c != y)

/-- The stamp at the centre of the filter (R264): D = N (R - 1) / 2 inputs before the newest; the half step is half the signed
difference, rounded down. `none` where the inputs since the restart do not reach back so far. -/
def cicStamp (n r : Nat) (st : List Stamp) : Option Stamp :=
  let d2 := n * (r - 1)
  if d2 % 2 = 0 then st[d2 / 2]?
  else match st[d2 / 2]?, st[d2 / 2 + 1]? with
    | some newer, some older => some (older + (newer - older).sshiftRight 1)
    | _, _ => none

/-- A decimator takes one code (R273, R275): the output word if one is due and sent. With stamps on, an output whose centre
lies before the restart has a free stamp: the spec states none (DESIGN CHOICE, log entry 15). -/
def State.cicInput (s : State) (g e : Nat) (code : BitVec 16) (flags : Word) (st : Option Stamp) :
    Option CWord × State :=
  let a := CVG_SEQ_CIC g e
  let n := s.fld a CVG_SEQ_CIC_ORDER
  let r := s.fld a CVG_SEQ_CIC_DEC
  let c := s.cicOf g e
  let integ := cicIntegrate (code.signExtend 80) c.integ
  let stamps := (match st with | some x => x :: c.stamps | none => c.stamps).take (n * r + 2)
  let fl := c.flags ||| (flags &&& 0x6C)
  let c := { c with integ := integ, stamps := stamps, flags := fl, count := c.count + 1 }
  let put (s : State) (c : Cic) : State :=
    s.setGroup g { s.group g with cics := tblPut (s.group g).cics e (some c) }
  if c.count < r then (none, put s c)
  else
    let (acc, comb) := cicComb (integ.getLastD 0) c.comb
    let (y, sat) := cicScale acc.toInt (s.fld a CVG_SEQ_CIC_SHIFT)
    let w : Word := BitVec.ofNat 32 (wrapTo 24 y * 256) ||| fl ||| (flags &&& 0x80) ||| (if sat then 0x40 else 0)
    let c' := { c with comb := comb, count := 0, outs := min (c.outs + 1) n, flags := 0 }
    let send := !(s.bit a CVG_SEQ_CIC_SUPP && decide (c'.outs < n))
    let s := put s c'
    if !send then (none, s)
    else match st, cicStamp n r stamps with
      | none, _ => (some (CWord.mk' w none e), s)
      | some _, some x => (some (CWord.mk' w (some x) e), s)
      | some _, none =>
        let (f, s) := s.free
        (some (CWord.mk' w (some (BitVec.ofNat 48 f)) e), s)

/-! ### Issue, the hold instant, abort, completion (R240, R247-R249, R256-R259) -/

/-- Sixteenths of a ns in some clocks of a group's converter clock: (CKDIV + 1) / 320 MHz each (R239). -/
def State.cvgClocks (s : State) (g n : Nat) : Nat := n * (s.fld (CVG_CLK (g / 16)) CVG_CLK_CKDIV + 1) * 50

/-- The settings word of an entry. -/
def entryReg (g e : Nat) : Nat := if 16 ≤ e then CVG_URG_ENTRY g (e - 16) else CVG_SEQ_ENTRY g e

/-- A conversion of an entry on a slice, whose sampling phase begins `lead` clocks from now (R240, R254, R255); it keeps the
settings it begins with (R279). -/
def State.newConv (s : State) (g e k lead : Nat) : Conv :=
  let a := entryReg g e
  { entry := e, slice := k
    insel := s.fld a CVG_SEQ_ENTRY_INSEL
    gain := s.fld a CVG_SEQ_ENTRY_GAIN
    send := s.bit a CVG_SEQ_ENTRY_OUT && s.bit (CVG_CFG g) CVG_CFG_OUT_EN
    dlyc := s.bit a CVG_SEQ_ENTRY_DLYC
    mode := s.fld (CVG_CFG g) CVG_CFG_STAMP
    refB := s.bit (CVG_CFG g) CVG_CFG_REFSEL
    left := s.cvgClocks g (s.fld a CVG_SEQ_ENTRY_SMP + lead)
    held := none
    refns := !s.refReady g
    aborted := false
    result := none }

/-- A conversion of an entry begins on a slice. -/
def State.beginConv (s : State) (g e k lead : Nat) : State :=
  let c := s.newConv g e k lead
  let x := s.group g
  if 16 ≤ e then s.setGroup g { x with urg := x.urg ++ [c] } else s.setGroup g { x with seq := x.seq ++ [c] }

/-- The stamp of the present instant for a conversion (R261), less the input path's delay (R263). -/
def State.sampleStamp (s : State) (g : Nat) (c : Conv) : Option Stamp :=
  let dly := if c.dlyc ∧ c.insel < 32 then s.fld (CEL_PATH_DLY (g / 4 * 32 + c.insel)) CEL_PATH_DLY_DLY else 0
  match c.mode with
  | 1 => some (s.angle - BitVec.ofInt 48 ((2 * (dly : Nat) * s.ang.act.omega + 10 * 65536) / (20 * 65536)))
  | 2 => some (s.timeStamp - BitVec.ofNat 48 ((dly + 5) / 10))
  | _ => none

/-- The hold instant of a conversion (R240): the angle or time, the velocity, the path delay and the signal are those of
this instant. -/
def State.sampleNow (s : State) (g : Nat) (c : Conv) : Conv :=
  let x : Sample :=
    { signal := s.signalOf g c.insel
      stamp := s.sampleStamp g c
      test := c.insel == 32 || (decide (c.insel < 32) && s.fld (CEL_IN (g / 4 * 32 + c.insel)) CEL_IN_SRC == 4) }
  { c with left := 0, held := some x }

/-- One ns of a conversion's sampling phase. -/
def State.convTick (s : State) (g : Nat) (c : Conv) : Conv :=
  if c.held.isSome || !c.running then c
  else if c.left ≤ 16 then s.sampleNow g c
  else { c with left := c.left - 16 }

/-- One ns of the sampling phases of every group. -/
def State.cvgTick (s : State) : State :=
  let f (g : Nat) (x : Group) : Group := if s.halted (10 + g / 16) then x else { x with seq := x.seq.map (s.convTick g), urg := x.urg.map (s.convTick g) }
  { s with groups := s.groups.map fun y => (y.1, f y.1 y.2) }

/-- The first conversion of a list that was aborted is issued again in its place (R259). -/
def reissue (f : Conv → Conv) : List Conv → List Conv
  | [] => []
  | c :: r => if c.aborted then f c :: r else c :: reissue f r

/-- SEQ_ISSUE (R247, R259, R621): the oldest aborted entry, else NEXT, to the lowest free active slice; none before
the power-up calibration is done, while an epoch is applied (R279), and while the reorder buffer has no room for another
result (R248). -/
def execSeqIssue (g : Fin 64) (s : State) : Host.Outcome State Fault Refusal :=
  let g := g.val
  let x := s.group g
  if s.cvgState g ≠ cvgRunning ∨ x.urg ≠ [] ∨ x.urgWait ≠ [] ∨ !s.bit CAL_STATUS CAL_STATUS_PUDONE
      ∨ s.fld ANG_EPOCH_STAT ANG_EPOCH_STAT_STATE = 4 then .next s
  else match s.freeSlice g false with
    | none => .next s
    | some k =>
      if x.seq.any (·.aborted) then
        .next (s.setGroup g { x with seq := reissue (fun c => s.newConv g c.entry k 0) x.seq })
      else if 4 < x.seq.length then .next s
      else
        let e := s.fld (CVG_STATUS g) CVG_STATUS_NEXT
        let nx := if e = s.fld (CVG_CFG g) CVG_CFG_SEQ_LAST then 0 else (e + 1) % 16
        .next ((s.setF (CVG_STATUS g) CVG_STATUS_NEXT nx).beginConv g e k 0)

/-- The running sequence conversion issued most recently (R256), marked aborted in its place. -/
def abortLast : List Conv → Option (Conv × List Conv)
  | [] => none
  | c :: r =>
    match abortLast r with
    | some (x, r') => some (x, c :: r')
    | none => if c.running then some (c, { c with aborted := true } :: r) else none

/-- Sequence results leave in issue order (R248); a stopping group stops when the last is sent. -/
def State.sendSeq (s : State) (g : Nat) : List Conv → State
  | [] =>
    let s := s.setGroup g { s.group g with seq := [] }
    if s.cvgState g = cvgStopping then s.setCvgState g cvgStopped else s
  | c :: r =>
    match c.result with
    | none => s.setGroup g { s.group g with seq := c :: r }
    | some none => s.sendSeq g r
    | some (some w) => (s.offer (512 + g) w).sendSeq g r

/-- Aborted entries that will not be issued again leave the sequence (R250): what waited behind them is sent. -/
def State.dropAborted (s : State) (g : Nat) : State :=
  s.sendSeq g ((s.group g).seq.filter fun c => !c.aborted)

/-- An urgent entry is put to work (R256): a free active slice, else the one of the conversion aborted for it,
else it waits. A late trigger samples at once, others at the second clock edge or as their stamp asks (R254, R255). -/
def State.urgStart (s : State) (g u : Nat) (late : Bool) : State :=
  let lead := if late then 0 else 2
  match s.freeSlice g true with
  | some k => (s.beginConv g (16 + u) k lead).urgSync g
  | none =>
    let x := s.group g
    match abortLast x.seq with
    | some (c, r) =>
      let s := (s.setGroup g { x with seq := r }).inc (CVG_ABORT_LO g)
      let s := if s.cvgState g = cvgStopping then s.dropAborted g else s
      (s.beginConv g (16 + u) c.slice lead).urgSync g
    | none => (s.setGroup g { x with urgWait := x.urgWait ++ [u] }).urgSync g

/-- A trigger of an urgent entry (R252, R258); a DISABLED group ignores it (Table 6.3). -/
def State.urgTrigger (s : State) (g u : Nat) (late : Bool) : State :=
  let x := s.group g
  if s.cvgState g = cvgDisabled || !s.bit (CVG_URG_ENTRY g u) CVG_URG_ENTRY_EN then
    s.flag (CVG_STATUS g) CVG_STATUS_BADOP
  else if x.urgWait.contains u || x.urg.any (fun c => c.entry == 16 + u) then
    (s.flag (CVG_STATUS g) CVG_STATUS_URG_OVR).inc (CVG_URG_OVR_LO g)
  else s.urgStart g u late

/-- A TRIG operation (Table 6.3, R250). -/
def State.cvgTrig (s : State) (g a : Nat) (late : Bool) : State :=
  if 3 < a then s.flag (CVG_STATUS g) CVG_STATUS_BADOP else s.urgTrigger g a late

/-- The flags of a conversion's result (Table 6.2). -/
def State.convFlags (s : State) (g : Nat) (c : Conv) (x : Sample) (code : BitVec 16) (clip : Bool) : Word :=
  let ns := c.refns || !s.refRdyOf g c.refB
  let y := s.group g
  let pois := y.poison.contains c.entry || y.poisonTable.contains c.entry
  (if ns then 0x04 else 0) ||| (if x.test then 0x08 else 0) ||| (if 16 ≤ c.entry then 0x10 else 0)
    ||| (if pois then 0x20 else 0) ||| (if (clip && x.signal.cell) || code = 0x8000 || code = 0x7FFF then 0x40 else 0)
    ||| (if c.entry = 0 then 0x80 else 0)

/-- Taking the conversion that runs on a slice out of a list, marked by `f`. -/
def finishConv (k : Nat) (f : Conv → Conv) : List Conv → List Conv
  | [] => []
  | c :: r => if c.slice = k ∧ c.running then f c :: r else c :: finishConv k f r

/-- A waiting urgent entry takes a slice that came free. -/
def State.urgNext (s : State) (g : Nat) : State :=
  let x := s.group g
  match x.urgWait with
  | [] => s.urgSync g
  | u :: r =>
    match s.freeSlice g true with
    | some k => ((s.setGroup g { x with urgWait := r }).beginConv g (16 + u) k 0).urgSync g
    | none => s.urgSync g

/-- A result that carries REFNS is counted (R266). -/
def State.refnsCount (s : State) (g : Nat) (fl : Word) : State :=
  if wordFlag fl 2 then (s.flag (CVG_STATUS g) CVG_STATUS_REFNS).inc (CVG_REFNS_LO g) else s

/-- The result of an entry has used up its mark of R245. -/
def State.poisonUsed (s : State) (g e : Nat) : State :=
  s.setGroup g { s.group g with poison := (s.group g).poison.filter (· != e) }

/-- The end of an urgent conversion (R248, R252): its result leaves at once. -/
def State.urgEnd (s : State) (g : Nat) (c : Conv) (fl w : Word) (st : Option Stamp) : State :=
  let s := (s.refnsCount g fl).poisonUsed g c.entry
  let x := s.group g
  let s := s.setGroup g { x with urg := x.urg.filter fun d => d.slice != c.slice }
  let s := if c.send then s.offer (512 + g) (CWord.mk' w st c.entry) else s
  s.urgNext g

/-- A conversion's word passes its CIC filter where the entry names one. -/
def State.seqFilter (s : State) (g : Nat) (c : Conv) (code : BitVec 16) (fl w : Word) (st : Option Stamp) :
    Option CWord × State :=
  if s.bit (CVG_SEQ_ENTRY g c.entry) CVG_SEQ_ENTRY_CIC_EN then s.cicInput g c.entry code fl st
  else (some (CWord.mk' w st c.entry), s)

/-- The result of a conversion takes its place in the sequence, and what is complete is sent. -/
def State.seqResult (s : State) (g : Nat) (c : Conv) (res : Option CWord) : State :=
  let x := s.group g
  let done (d : Conv) : Conv := { d with result := some (if c.send then res else none) }
  let s := s.setGroup g { x with seq := finishConv c.slice done x.seq }
  (s.sendSeq g (s.group g).seq).urgNext g

/-- The end of a sequence conversion: its result waits for its turn, or goes through the entry's decimator. -/
def State.seqEnd (s : State) (g : Nat) (c : Conv) (code : BitVec 16) (fl w : Word) (st : Option Stamp) : State :=
  let s := s.refnsCount g fl
  let s := (s.put (CVG_LAST g) (w ||| (if st.isSome then 1 else 0))).poisonUsed g c.entry
  let r := s.seqFilter g c code fl w st
  r.2.seqResult g c r.1

/-- A conversion ends (R243): the code of the signal held, the flags, the result. A conversion whose hold instant has not
been marked by the clock holds now. -/
def State.convEnd (s : State) (g : Nat) (c : Conv) (lev dev : Int) (clip : Bool) : State :=
  let x := c.held.getD ((s.sampleNow g c).held.getD ⟨⟨.direct, [], false⟩, none, false⟩)
  let y := x.signal.code c.gain lev dev
  let fl := s.convFlags g c x y.1 (clip || y.2)
  let w := (y.1.zeroExtend 32 <<< 16) ||| fl
  if 16 ≤ c.entry then s.urgEnd g c fl w x.stamp else s.seqEnd g c y.1 fl w x.stamp

/-- CONVERSION_END (R243, R248): the conversion on a slice ends. `input.level` is what lay at its input at the hold instant, as its
origin takes it: nV at a ball or at an open or unsettled FOUT, pA into a ball in current-sense mode, nV of a test DAC; `input.dev` the
deviation of the reference from 1.6 V in µV; `clip` the cell's clip detector during the sampling phase. -/
def execConversionEnd (g : Fin 64) (slice : Fin 5) (input : ConvInput) (clip : Bool) (s : State) :
    Host.Outcome State Fault Refusal :=
  let x := s.group g.val
  match (x.urg ++ x.seq).find? (fun c => c.slice == slice.val && c.running) with
  | none => .next s
  | some c => .next (if s.halted (10 + g.val / 16) then s else s.convEnd g.val c input.level input.dev clip)

/-! ### Operations (R250, Table 6.3) -/

/-- Every running sequence conversion is aborted and discarded, counted in CVG_ABORT; results that waited in the
reorder buffer are sent first. -/
def State.abortSeq (s : State) (g : Nat) : State :=
  let x := s.group g
  let n := (x.seq.filter (·.running)).length
  let s := x.seq.foldl (fun s c => match c.result with | some (some w) => s.offer (512 + g) w | _ => s) s
  (s.setGroup g { s.group g with seq := [] }).incBy (CVG_ABORT_LO g) n

/-- Eddy rotation has no state to show: OFF (R268). -/
def State.eddyState (s : State) (g x : Nat) : State := s.setF (CVG_EDDY g) CVG_EDDY_STATE x

/-- The Eddy slice begins a new run, if rotation is on (R241, R268, R269). -/
def State.eddyBegin (s : State) (g : Nat) : State :=
  if s.fld (CVG_CFG g) CVG_CFG_SLICE_DIS ≠ 0 ∨ !s.bit (CVG_EDDY_CFG g) CVG_EDDY_CFG_EN ∨ s.cvgState g = cvgDisabled
  then s.eddyState g 0
  else if s.refReady g then s.eddyState g 1 else s.eddyState g 3

/-- ENABLE. -/
def State.cvgEnable (s : State) (g : Nat) : State :=
  if s.cvgState g = cvgDisabled then s.setGroup g { s.group g with powering := true } else s

/-- DISABLE: every conversion is aborted and discarded, pending urgents are dropped, all counted. -/
def State.cvgDisable (s : State) (g : Nat) : State :=
  let x := s.group g
  if s.cvgState g = cvgDisabled then s
  else
    let n := x.urg.length + x.urgWait.length
    let s := s.abortSeq g
    let s := (s.setGroup g { s.group g with urg := [], urgWait := [], swap := none }).incBy (CVG_ABORT_LO g) n
    ((s.setCvgState g cvgDisabled).urgSync g).eddyState g 0

/-- START. -/
def State.cvgStart (s : State) (g : Nat) : State :=
  if s.cvgState g = cvgDisabled then s.flag (CVG_STATUS g) CVG_STATUS_BADOP
  else if s.cvgState g = cvgStopped then
    ((s.setF (CVG_STATUS g) CVG_STATUS_NEXT 0).cicRestart g).setCvgState g cvgRunning
  else s

/-- STOP: no new issue, of aborted entries neither. -/
def State.cvgStop (s : State) (g : Nat) : State :=
  if s.cvgState g = cvgRunning then (s.setCvgState g cvgStopping).dropAborted g else s

/-- CLEAR: the W1C event flags other than RSVD_WR and STAGE_WR; not DISABLED, the decimators restart. -/
def State.cvgClear (s : State) (g : Nat) : State :=
  let s := s.put (CVG_STATUS g) (s.reg (CVG_STATUS g) &&& ~~~ 0x00000F80)
  if s.cvgState g = cvgDisabled then s else s.cicRestart g

/-- The UCMD operations of Table 6.3. -/
def State.cvgUcmd (s : State) (g code arg : Nat) (late : Bool) : Option State :=
  match code with
  | 0 => some (s.cvgEnable g)
  | 1 => some (s.cvgDisable g)
  | 2 => some (s.cvgStart g)
  | 3 => some (s.cvgStop g)
  | 5 => some (s.cvgTrig g arg late)
  | 7 => some (s.cvgClear g)
  | _ => none

/-- CVG_CTL.CMD. -/
def State.cvgCmd (s : State) (g cmd : Nat) : State :=
  match cmd with
  | 1 => s.cvgEnable g
  | 2 => s.cvgDisable g
  | 3 => s.cvgStart g
  | 4 => s.cvgStop g
  | 5 => s.cvgClear g
  | _ => s

/-- CVG_CTL.TRIG: its bits in the order U0 to U3 (R257). -/
def State.cvgTrigs (s : State) (g mask : Nat) : State :=
  (List.range 4).foldl (fun s u => if bitOf mask u then s.cvgTrig g u false else s) s

/-- A write to CVG_CTL. -/
def State.cvgCtlWrite (s : State) (q : Req) (g : Nat) (v : Word) : State :=
  let a := CVG_CTL g
  if reservedEncoding (fieldsAt a) v then s.rsvd q a true
  else
    let s := if (v &&& reservedBits (fieldsAt a)) != 0 then s.rsvd q a false else s
    (s.cvgCmd g (fieldGet CVG_CTL_CMD v)).cvgTrigs g (fieldGet CVG_CTL_TRIG v)

/-- CVG_ENABLE. -/
def execCvgEnable (q : Req) (g : Fin 64) (s : State) : Host.Outcome State Fault Refusal :=
  .next (s.guardWrite q (CVG_CTL g.val) fun s => s.cvgCtlWrite q g.val 1)
/-- CVG_DISABLE. -/
def execCvgDisable (q : Req) (g : Fin 64) (s : State) : Host.Outcome State Fault Refusal :=
  .next (s.guardWrite q (CVG_CTL g.val) fun s => s.cvgCtlWrite q g.val 2)
/-- CVG_START. -/
def execCvgStart (q : Req) (g : Fin 64) (s : State) : Host.Outcome State Fault Refusal :=
  .next (s.guardWrite q (CVG_CTL g.val) fun s => s.cvgCtlWrite q g.val 3)
/-- CVG_STOP. -/
def execCvgStop (q : Req) (g : Fin 64) (s : State) : Host.Outcome State Fault Refusal :=
  .next (s.guardWrite q (CVG_CTL g.val) fun s => s.cvgCtlWrite q g.val 4)
/-- CVG_CLEAR. -/
def execCvgClear (q : Req) (g : Fin 64) (s : State) : Host.Outcome State Fault Refusal :=
  .next (s.guardWrite q (CVG_CTL g.val) fun s => s.cvgCtlWrite q g.val 5)
/-- CVG_TRIG: the mask of TRIG bits. -/
def execCvgTrig (q : Req) (g : Fin 64) (mask : BitVec 4) (s : State) : Host.Outcome State Fault Refusal :=
  .next (s.guardWrite q (CVG_CTL g.val) fun s => s.cvgCtlWrite q g.val (mask.zeroExtend 32 <<< 4))

/-- CVG_POWER_UP_DONE (R250): 2 µs after ENABLE; the Eddy slice begins a run (R268). -/
def execCvgPowerUpDone (g : Fin 64) (s : State) : Host.Outcome State Fault Refusal :=
  let x := s.group g.val
  if x.powering then
    .next (((s.setGroup g.val { x with powering := false }).setCvgState g.val cvgStopped).eddyBegin g.val)
  else .next s

/-- A late or released stamped operation is counted (R250). -/
def State.cvgLate (s : State) (g : Nat) : State := (s.flag (CVG_STATUS g) CVG_STATUS_LATE).inc (CVG_LATE_LO g)

/-! ### Urgent triggers (R253-R255, R260) -/

/-- The occurrence of a fraction next above or equal to, and next below, an angle (R254). -/
def nextAbove (now : Stamp) (frac : Word) : Stamp :=
  if now.extractLsb' 0 32 ≤ frac then (now.extractLsb' 32 16) ++ frac else (now.extractLsb' 32 16 + 1#16) ++ frac
def nextBelow (now : Stamp) (frac : Word) : Stamp :=
  if frac < now.extractLsb' 0 32 then (now.extractLsb' 32 16) ++ frac else (now.extractLsb' 32 16 - 1#16) ++ frac

/-- The stamps of the first arming of an angle trigger (R254). -/
def armAt (now : Stamp) (frac : Word) (q : Nat) : List (Stamp × Qual) :=
  match q with
  | 0 => [(nextAbove now frac, .fwd)]
  | 1 => [(nextBelow now frac, .rev)]
  | _ => [(nextAbove now frac, .fwd), (nextBelow now frac, .rev)]

/-- One cycle of angle as a stamp. -/
def oneCycle : Stamp := 0x100000000

/-- The stamps of the re-arming after the release at a stamp (R254). -/
def rearm (x : Stamp) (q : Nat) : List (Stamp × Qual) :=
  match q with
  | 0 => [(x + oneCycle, .fwd)]
  | 1 => [(x - oneCycle, .rev)]
  | _ => [(x + oneCycle, .fwd), (x - oneCycle, .rev)]

/-- The ns that an urgent sample is released ahead of its stamp: (SMP + 2) converter clocks, rounded up. -/
def State.urgLead (s : State) (g u : Nat) : Nat :=
  (s.cvgClocks g (s.fld (CVG_URG_ENTRY g u) CVG_URG_ENTRY_SMP + 2) + 15) / 16

/-- Arming at some stamps: each is late where less than 50 ns are left to its release (R80, R254). -/
def State.armed' (s : State) (g u : Nat) (l : List (Stamp × Qual)) : List (Stamp × Qual × Bool) :=
  l.map fun (x, q) => (x, q, s.late x q (50 + s.urgLead g u))

/-- An enabled angle trigger after an application (R254): armed with the same fraction and qualifier it stays as it is, else it
is armed at the occurrences about the active angle. -/
def State.armOf (s : State) (g u : Nat) : UrgArm :=
  let frac := s.reg (CVG_URG_ANG g u)
  let q := s.fld (CVG_URG_TRIG g u) CVG_URG_TRIG_Q
  match (s.group g).arms.find? (fun a => a.entry == u && a.frac == frac && a.q == q && !a.at'.isEmpty) with
  | some a => a
  | none => ⟨u, frac, q, s.armed' g u (armAt s.angle frac q)⟩

/-- The angle triggers of a group after an application. -/
def State.armAll (s : State) (g : Nat) : State :=
  let on := (List.range 4).filter fun u => s.bit (CVG_URG_ENTRY g u) CVG_URG_ENTRY_EN
    && s.fld (CVG_URG_TRIG g u) CVG_URG_TRIG_SRC == 1
  s.setGroup g { s.group g with arms := on.map (s.armOf g) }

/-- The armed stamp of an entry whose release instant has come (R254). -/
def State.armDue (s : State) (g u : Nat) : Option (UrgArm × Stamp × Bool) :=
  match (s.group g).arms.find? (fun a => a.entry == u) with
  | none => none
  | some arm =>
    (arm.at'.find? fun (p : Stamp × Qual × Bool) =>
      p.2.2 || s.due p.1 p.2.1 || s.within p.1 (p.2.1 == .rev) (s.urgLead g u)).map fun p => (arm, p.1, p.2.2)

/-- The angle trigger of an entry, if its release instant has come (R254, R260): it triggers the entry and is armed anew; a
late one samples at once and is counted; a fenced device discards and counts it. -/
def State.armFire (s : State) (g u : Nat) : State :=
  match s.armDue g u with
  | none => s
  | some (arm, x, late) =>
    let y := s.group g
    if s.fenced then
      (s.setGroup g { y with arms := y.arms.filter fun a => a.entry != u }).inc (CVG_DISC_LO g)
    else
      let new : UrgArm := { arm with at' := s.armed' g u (rearm x arm.q) }
      let s := s.setGroup g { y with arms := y.arms.map fun a => if a.entry == u then new else a }
      (if late then s.cvgLate g else s).urgTrigger g u late

/-- URGENT_ANGLE_TRIGGER (R254, R257): the armed stamps of the entries up to this one whose release instants have come
trigger, the lowest entry first; none while an epoch is applied (R93). -/
def execUrgentAngleTrigger (g : Fin 64) (u : Fin 4) (s : State) : Host.Outcome State Fault Refusal :=
  .next (if s.fld ANG_EPOCH_STAT ANG_EPOCH_STAT_STATE = 4 then s
    else (List.range (u.val + 1)).foldl (fun s u => s.armFire g.val u) s)

/-- The angle triggers whose release instants have come (R93). -/
def State.armsDue (s : State) : Nat :=
  (s.groups.map fun x => ((List.range 4).filter fun u => (s.armDue x.1 u).isSome).length).sum

/-- WEIR_URGENT_TRIGGER (R253): a rising blanked output of a pair triggers the urgent entries of the tile's groups
that name it. -/
def execWeirUrgentTrigger (p : Fin 512) (low : Bool) (s : State) : Host.Outcome State Fault Refusal :=
  let live := if low then s.bit (WEIR_STATUS p.val) WEIR_STATUS_LIVE_BL else s.bit (WEIR_STATUS p.val) WEIR_STATUS_LIVE_BH
  if !live then .next s
  else
    let t := p.val / 32
    .next ((List.range 16).foldl (fun s k =>
      let g := t * 4 + k / 4
      let u := k % 4
      let a := CVG_URG_TRIG g u
      let cmp := s.fld a CVG_URG_TRIG_CMP
      if s.fld a CVG_URG_TRIG_SRC = 2 ∧ s.fld a CVG_URG_TRIG_CELL = p.val % 32
          ∧ (cmp = 2 ∨ cmp = low.toNat) then s.urgTrigger g u false else s) s)

/-- A fence discards the angle triggers and stamped TRIGs of a group (R260). -/
def State.cvgFence (s : State) (g : Nat) : State :=
  let n := ((s.group g).arms.map fun a => if a.at'.isEmpty then 0 else 1).sum
  let (m, s) := s.discardOps fun o => o.kind == 1 && o.index == g && (match o.op with | .ucmd 5 _ => true | _ => false)
  (s.setGroup g { s.group g with arms := [] }).incBy (CVG_DISC_LO g) (n + m)

/-! ### Parity, clock loss, references -/

/-- CVG_PARITY_ERROR (R245): a parity error in an entry's settings (until the next epoch) or decimator state. -/
def execCvgParityError (g : Fin 64) (e : Fin 20) (inTable : Bool) (s : State) : Host.Outcome State Fault Refusal :=
  let x := s.group g.val
  let x := { x with cics := tblDrop x.cics e.val }
  let x := if inTable then { x with poisonTable := e.val :: x.poisonTable.filter (· != e.val) }
    else { x with poison := e.val :: x.poison.filter (· != e.val) }
  .next (((s.setGroup g.val x).flag (CVG_STATUS g.val) CVG_STATUS_POISON).inc (CVG_POIS_LO g.val))

/-- The converter clock of a quadrant stops (R251): conversions in progress are discarded, what waited in the reorder
buffer is sent, each group stops. -/
def State.cvgClockLost (s : State) (q : Nat) : State :=
  (List.range 16).foldl (fun s k =>
    let g := q * 16 + k
    let x := s.group g
    let s := s.sendSeq g (x.seq.filter fun c => c.result.isSome)
    (((s.setGroup g { s.group g with powering := false, urg := [], urgWait := [] }).urgSync g).setCvgState g cvgStopped)) s

/-- RDY of reference A or B of a die changes (R265, R266, R269): conversions under way against it carry REFNS, and the
Eddy slices pause or begin anew. -/
def State.refRdy (s : State) (d : Nat) (refB ready : Bool) : State :=
  let s := s.setF (CVG_REF d) (if refB then CVG_REF_RDY_B else CVG_REF_RDY_A) ready.toNat
  (List.range 32).foldl (fun s k =>
    let g := d * 32 + k
    if s.bit (CVG_CFG g) CVG_CFG_REFSEL != refB then s
    else
      let x := s.group g
      let mark (c : Conv) : Conv := if ready then c else { c with refns := true }
      let s := s.setGroup g { x with seq := x.seq.map mark, urg := x.urg.map mark }
      let st := s.fld (CVG_EDDY g) CVG_EDDY_STATE
      if st = 0 then s else if ready then (if st = 3 then s.eddyState g 1 else s) else s.eddyState g 3) s

/-- REF_RDY_CHANGE. -/
def execRefRdyChange (d : Fin 2) (refB : Bool) (ready : Bool) (s : State) : Host.Outcome State Fault Refusal :=
  let en := if refB then s.bit (CVG_REF d.val) CVG_REF_EN_B else s.bit (CVG_REF d.val) CVG_REF_EN_A
  .next (if ready && !en then s else s.refRdy d.val refB ready)

/-! ### Eddy rotation (R268-R272) -/

/-- A run of the Eddy slice ends with trims that pass or fail the drift limits (R268, R270). -/
def State.eddyRunEnd (s : State) (g : Nat) (pass : Bool) (trims : List Int) : State :=
  let k := s.fld (CVG_EDDY g) CVG_EDDY_SLICE
  let sus := s.fld (CVG_EDDY g) CVG_EDDY_SUSPECT
  let x := s.group g
  if pass then
    let s := s.setGroup g { x with latest := tblPut x.latest k trims }
    let s := s.setF (CVG_EDDY g) CVG_EDDY_SUSPECT (if bitOf sus k then sus - 2 ^ k else sus)
    s.eddyState g 2
  else
    let s := s.setF (CVG_EDDY g) CVG_EDDY_SUSPECT (if bitOf sus k then sus else sus + 2 ^ k)
    let s := s.setGroup g { x with swap := none }
    (s.healthLog 0x30 [g * 5 + k, 1]).eddyState g 1

/-- The enabled slice after the Eddy slice in the order S0 to S4 (R271). -/
def State.outgoing (s : State) (g : Nat) : Nat := (s.fld (CVG_EDDY g) CVG_EDDY_SLICE + 1) % 5

/-- A boundary at a group (R271): a READY Eddy slice that is not suspect is to be swapped in. -/
def State.eddyBoundary (s : State) (g : Nat) : State :=
  let x := s.group g
  if s.bit (CVG_EDDY_CFG g) CVG_EDDY_CFG_EN ∧ s.fld (CVG_EDDY g) CVG_EDDY_STATE = 2 ∧ !bitOf (s.fld (CVG_EDDY g) CVG_EDDY_SUSPECT) (s.fld (CVG_EDDY g) CVG_EDDY_SLICE)
      ∧ x.swap = none then
    (s.setGroup g { x with swap := some (s.outgoing g) }).tstAside fun c i => c == 0 && i / 5 == g
  else s

/-- The swap (R271). -/
def State.eddySwap (s : State) (g : Nat) : State :=
  let x := s.group g
  match x.swap with
  | none => s
  | some k =>
    if x.busy.contains k || !s.bit (CVG_EDDY_CFG g) CVG_EDDY_CFG_EN then s
    else
      let e := s.fld (CVG_EDDY g) CVG_EDDY_SLICE
      let s := s.setGroup g { x with swap := none, trims := tblPut x.trims e (tblGet (fun _ => []) x.latest e) }
      let s := (s.setF (CVG_EDDY g) CVG_EDDY_SLICE k).setF (CVG_EDDY g) CVG_EDDY_AGE 0
      let s := (s.setF (CVG_STATUS g) CVG_STATUS_EDDY_STALE 0).inc (CVG_SWAP_LO g)
      s.eddyBegin g

/-- EDDY_SWAP. -/
def execEddySwap (g : Fin 64) (s : State) : Host.Outcome State Fault Refusal := .next (s.eddySwap g.val)

/-- EDDY_STALE (R272): AGE has reached STALE_MS. -/
def execEddyStale (g : Fin 64) (s : State) : Host.Outcome State Fault Refusal :=
  let lim := s.fld (CVG_EDDY_CFG g.val) CVG_EDDY_CFG_STALE_MS
  if lim ≠ 0 ∧ lim ≤ s.fld (CVG_EDDY g.val) CVG_EDDY_AGE then .next (s.flag (CVG_STATUS g.val) CVG_STATUS_EDDY_STALE)
  else .next s

/-- AGE counts ms and saturates (R272). -/
def State.eddyMs (s : State) : State :=
  (List.range 64).foldl (fun s g =>
    let a := s.fld (CVG_EDDY g) CVG_EDDY_AGE
    if a = 65535 then s else s.setF (CVG_EDDY g) CVG_EDDY_AGE (a + 1)) s

/-! ### Staged settings (R279, R280) -/

/-- The fraction lies in [START, END), through 0 when END lies below START (R82). -/
def inWindow (st en : Nat) (frac : Nat) : Bool :=
  if st ≤ en then decide (st ≤ frac ∧ frac < en) else decide (st ≤ frac ∨ frac < en)

/-- The checks of Table 6.5 on a group's staged state. -/
def State.cvgStageOk (s : State) (g : Nat) : Bool :=
  let en (u : Nat) := s.shFld (CVG_URG_ENTRY g u) CVG_URG_ENTRY_EN == 1
  let one := s.shFld (CVG_CFG g) CVG_CFG_STAMP != 0 || decide (((List.range 4).filter en).length ≤ 1)
  let idle := (List.range 4).all fun u =>
    !(en u && s.shFld (CVG_URG_TRIG g u) CVG_URG_TRIG_SRC == 1) ||
      (List.range 16).all fun w =>
        !(s.shFld (ANG_IDLE_CTL w) ANG_IDLE_CTL_EN == 1 && bitOf (s.shFld (ANG_IDLE_CTL w) ANG_IDLE_CTL_TILES) (g / 4)
          && inWindow (s.shFld (ANG_IDLE_START w) ANG_IDLE_START_START) (s.shFld (ANG_IDLE_END w) ANG_IDLE_END_END)
              (s.shFld (CVG_URG_ANG g u) CVG_URG_ANG_FRAC))
  one && idle

/-- The Eddy slice after a change of SLICE_DIS (R241). -/
def State.eddyRedo (s : State) (g : Nat) : State :=
  let x := s.group g
  let dis := s.fld (CVG_CFG g) CVG_CFG_SLICE_DIS
  let s := s.setGroup g { x with lastDis := dis }
  if dis = x.lastDis then s
  else if dis = 0 then
    match ([4, 3, 2, 1, 0].find? fun k => bitOf x.lastDis k) with
    | some k => (s.setF (CVG_EDDY g) CVG_EDDY_SLICE k).eddyBegin g
    | none => s.eddyBegin g
  else
    let e := s.fld (CVG_EDDY g) CVG_EDDY_SLICE
    let x := s.group g
    let tr := match x.latest.find? (fun p => p.1 == e) with
      | some (_, w) => tblPut x.trims e w
      | none => x.trims
    let s := s.setGroup g { x with swap := none, trims := tr }
    s.eddyState g 0

/-- Eddy rotation after an application (R268, R269): off with EN = 0, begun where it was off; paused where the reference
selected is not ready, begun anew where it is again. -/
def State.eddyApplied (s : State) (g : Nat) : State :=
  if !s.bit (CVG_EDDY_CFG g) CVG_EDDY_CFG_EN then (s.setGroup g { s.group g with swap := none }).eddyState g 0
  else match s.fld (CVG_EDDY g) CVG_EDDY_STATE with
    | 0 => s.eddyBegin g
    | 3 => if s.refReady g then s.eddyState g 1 else s
    | _ => if s.refReady g then s else s.eddyState g 3

/-- The decimators of some entries restart (R275). -/
def State.cicDrop (s : State) (g : Nat) (es : List Nat) : State :=
  s.setGroup g { s.group g with cics := (s.group g).cics.filter fun x => !es.contains x.1 }

/-- The application of changed settings of a group or its quadrant's clock (R279), after its registers; `es` are the entries
that changed, all where the clock did (R275). -/
def State.cvgApplied (s : State) (g : Nat) (es : List Nat) : State :=
  let s := (s.eddyBoundary g).eddySwap g
  let s := ((s.abortSeq g).cicDrop g es).eddyRedo g
  let s := s.eddyApplied g
  if s.cvgState g = cvgRunning then s.setF (CVG_STATUS g) CVG_STATUS_NEXT 0
  else if s.cvgState g = cvgStopping then s.setCvgState g cvgStopped else s

/-- What every application does at a group (R245, R254): table errors are repaired from the shadow copy, angle triggers
that it enables are armed. -/
def State.cvgEvery (s : State) (g : Nat) : State :=
  let s := if (s.group g).poisonTable.isEmpty then s else s.setGroup g { s.group g with poisonTable := [] }
  if (s.group g).arms.isEmpty && (List.range 4).all (fun u => !s.bit (CVG_URG_ENTRY g u) CVG_URG_ENTRY_EN) then s
  else s.armAll g

end Sys2Proof.Machine
end

