-- ==== Sys2Proof/Machine/Crc.lean ====
section
/-! DEFINITION. The CRC-32 that the spec uses throughout (R540: the CRC-32 of IEEE 802.3). -/

namespace Sys2Proof.Machine

/-- One bit of the CRC, least bit first, polynomial 0x04C1_1DB7 reflected. -/
def crcBit (c : Word) : Word := if c.getLsbD 0 then (c >>> 1) ^^^ 0xEDB88320 else c >>> 1

/-- One byte of the CRC. -/
def crcByte (c : Word) (b : Byte) : Word :=
  crcBit (crcBit (crcBit (crcBit (crcBit (crcBit (crcBit (crcBit (c ^^^ b.zeroExtend 32))))))))

/-- The CRC-32 of some bytes (R540). -/
def crc32 (l : List Byte) : Word := ~~~ l.foldl crcByte 0xFFFFFFFF

end Sys2Proof.Machine
end

