-- ==== Sys2Proof/Machine/Ecc.lean ====
section
/-! DEFINITION. Bytes and codewords of the memories (R396-R401, R410), the error log (R402), the address spaces
(R41-R44, R125, R406, R407, R437) and the protection regions (R436-R439). -/

namespace Sys2Proof.Machine

/-! ### Bytes -/

/-- Is a byte cleared at reset (R700), so that unwritten it reads 0? DDR5 is not. -/
def cleared (a : Nat) : Bool := decide (2 ^ 37 ≤ a)

/-- The byte listed at an address, if any. -/
def cellFind : List Host.Cell → Nat → Option Byte
  | [], _ => none
  | (b, v) :: r, a => if a = b then some v else cellFind r a

/-- Listing a byte at its place in the rising order. -/
def cellPut : List Host.Cell → Nat → Byte → List Host.Cell
  | [], a, v => [(a, v)]
  | (b, w) :: r, a, v => if a < b then (a, v) :: (b, w) :: r else if a = b then (a, v) :: r else (b, w) :: cellPut r a v

/-- Taking a byte out of the list. -/
def cellDrop (m : List Host.Cell) (a : Nat) : List Host.Cell := m.filter fun x => x.1 != a

/-- Writing a byte: where an unlisted byte reads 0, a 0 is not listed. -/
def cellSet (m : List Host.Cell) (a : Nat) (v : Byte) : List Host.Cell :=
  if cleared a && v == 0 then cellDrop m a else cellPut m a v

/-- The canonical form of the memory's bytes from a lower bound on: addresses rise strictly, and no listed byte
equals what its address reads as unlisted. -/
def cellsWf : Nat → List Host.Cell → Bool
  | _, [] => true
  | lo, (a, v) :: r => decide (lo ≤ a) && !(cleared a && v == 0) && cellsWf (a + 1) r

/-- The canonical form of the memory. -/
def Memory.wf (m : List Host.Cell) : Bool := cellsWf 0 m

/-- Reading a byte of memory: none where nothing has written a byte of DDR5 (R700). -/
def State.byteAt (s : State) (a : Nat) : Option Byte :=
  match cellFind s.mem.bytes a with
  | some v => some v
  | none => if cleared a then some 0 else none

/-- Writing a run of bytes. -/
def State.putBytes (s : State) (a : Nat) (bs : List Byte) : State :=
  { s with mem := { s.mem with bytes := (bs.foldl (fun (m, k) v => (cellSet m k v, k + 1)) (s.mem.bytes, a)).1 } }

/-- The low 8n bits of a number as bytes, least first. -/
def bytesOf : Nat → Nat → List Byte
  | 0, _ => []
  | n + 1, v => BitVec.ofNat 8 v :: bytesOf n (v / 256)

/-- The number that bytes spell, least first. -/
def natOf : List Byte → Nat
  | [] => 0
  | b :: r => b.toNat + 256 * natOf r

/-- Bytes as words, least byte first; a rest of fewer than four bytes is dropped. -/
def wordsOf : List Byte → List Word
  | a :: b :: c :: d :: r => (d ++ c ++ b ++ a : Word) :: wordsOf r
  | _ => []

/-- Words as bytes. -/
def bytesOfWords (l : List Word) : List Byte := l.flatMap fun w => bytesOf 4 w.toNat

/-- `n` free bytes (log entry 20). -/
def State.freeBytes (s : State) (n : Nat) : List Byte × State := let (v, s) := s.free; (bytesOf n v, s)

/-! ### Where an address lies -/

/-- The memory an access reaches: a byte of DDR5, tile SRAM or instruction memory by its per-device offset, the
supervisor's instruction memory, the NVM read view, a register, another device, or nothing (a BUSERR subcause). -/
inductive Loc where
  | mem (off : Nat)
  | sup (off : Nat)
  | nvm (off : Nat)
  | regs (a : Nat)
  | far (dev off : Nat)
  | bad (sub : Nat)
  deriving DecidableEq, Repr

/-- BUSERR subcauses (Table 3.6). -/
def busRange : Nat := 0x01
def busEcc : Nat := 0x03
def busNotMember : Nat := 0x04
def busLinkLost : Nat := 0x05
def busNvmWrite : Nat := 0x06
def busRegister : Nat := 0x07

/-- The first DDR offset that cannot be addressed (R406). -/
def State.ddrTop (s : State) : Nat :=
  s.fld MEM_DDR_MAP MEM_DDR_MAP_INSTALLED * 2 ^ 30 - (if s.bit MEM_DDR_MAP MEM_DDR_MAP_SPARE_EN then 0x400000 else 0)

/-- The content at an offset of this device's space (Table 1.8, R406). -/
def State.locOff (s : State) (o : Nat) : Loc :=
  if o < 0x2000000000 then (if o < s.ddrTop then .mem o else .bad busRange)
  else if 0x6000000000 ≤ o ∧ o < 0x6004000000 then .mem o
  else if 0x6100000000 ≤ o ∧ o < 0x6100400000 then .mem o
  else if 0x6200000000 ≤ o ∧ o < 0x6202000000 then .nvm (o - 0x6200000000)
  else if 0x7FF0000000 ≤ o ∧ o < 0x8000000000 then .regs (o - 0x7F00000000)
  else .bad busRange

/-- This device's index. -/
def State.dev (s : State) : Nat := s.fld LEAT_ID LEAT_ID_DEV

/-- Is an index a current member (R43)? -/
def State.isMember (s : State) (d : Nat) : Bool := s.bit (LEAT_PATH d) LEAT_PATH_MEMBER

/-- Does a device hold the index (R43)? A member, or one JOINED, STALE, CATCHUP, READY or LEAVING: by the headwater's
record there, elsewhere by what MEMB said last. -/
def State.holdsIndex (s : State) (d : Nat) : Bool :=
  let x := if s.bit ANG_STATUS ANG_STATUS_HEADWATER then s.fld (LEAT_MREC d) LEAT_MREC_STATE
    else tblGet (fun _ => 0) s.leat.states d
  s.isMember d || decide (1 ≤ x ∧ x ≤ 6)

/-- What a global address reaches for a requester code (R41-R43). -/
def State.locGlobal (s : State) (req g : Nat) : Loc :=
  let d := g / 2 ^ 39
  let o := g % 2 ^ 39
  if d = s.dev then s.locOff o
  else if (if req < 256 then s.isMember d else s.holdsIndex d) then .far d o else .bad busNotMember

/-- The global address of a local address of a context, register space and the supervisor's instruction memory
apart (R125, R407, R437). -/
def State.localGlobal (s : State) (ctx a : Nat) : Option Nat :=
  let own := s.dev * 2 ^ 39
  if a < 0x40000 then (if ctx = ctxSup then none else some (own + 0x6100000000 + ctx / 16 * 0x40000 + a))
  else if 0x40000000 ≤ a ∧ a < 0x44000000 then some (own + 0x6000000000 + (a - 0x40000000))
  else if 0x80000000 ≤ a ∧ a < 0xF0000000 then
    let w := MEM_WIN ctx ((a - 0x80000000) / 0x10000000)
    if s.bit w MEM_WIN_EN then some (own + s.fld w MEM_WIN_BASE * 0x10000000 + a % 0x10000000) else none
  else none

/-- What a local address of a context reaches. -/
def State.locLocal (s : State) (ctx a : Nat) : Loc :=
  if 0xF0000000 ≤ a then .regs a
  else if a < 0x40000 ∧ ctx = ctxSup then .sup a
  else match s.localGlobal ctx a with
    | some g => s.locOff (g % 2 ^ 39)
    | none => .bad busRange

/-! ### Protection regions (R436-R438) -/

/-- The three permissions. -/
inductive Perm where
  | r | w | rw | x
  deriving DecidableEq, Repr

/-- Does region k of an instance grant a permission over n bytes at a global address? -/
def State.regionGrants (s : State) (i k g n : Nat) (p : Perm) : Bool :=
  let b := INST_MPU_BASE_LO i k
  let lo := s.fld (INST_MPU_BASE_HI i k) INST_MPU_BASE_HI_BASE_HI * 2 ^ 32 + s.fld b INST_MPU_BASE_LO_BASE * 0x1000
  let hi := s.fld (INST_MPU_LIM_HI i k) INST_MPU_LIM_HI_LIMIT_HI * 2 ^ 32
    + s.fld (INST_MPU_LIM_LO i k) INST_MPU_LIM_LO_LIMIT * 0x1000 + 0xFFF
  let r := s.bit b INST_MPU_BASE_LO_R
  let w := s.bit b INST_MPU_BASE_LO_W
  s.bit b INST_MPU_BASE_LO_EN && decide (lo ≤ g ∧ g + n ≤ hi + 1) &&
    (match p with
     | .r => r
     | .w => w
     | .rw => r && w
     | .x => s.bit b INST_MPU_BASE_LO_X)

/-- A permission granted by the sum of the regions (R436). -/
def State.granted (s : State) (i g n : Nat) (p : Perm) : Bool :=
  (List.range 16).any fun k => s.regionGrants i k g n p

/-- Where the handle tables lie on this device (R445): the supervisor's and each instance's. -/
def State.tables (s : State) : List Nat :=
  (0x6000000000 + s.fld INST_SV_HT INST_SV_HT_TILE * 0x400000 + s.fld INST_SV_HT INST_SV_HT_SLOT * 0x8000) ::
    (List.range 256).map fun i => 0x6000000000 + i / 16 * 0x400000 + s.fld (INST_HT i) INST_HT_SLOT * 0x8000

/-- Do n bytes at a global address touch a handle table of this device (R438)? -/
def State.inTable (s : State) (g n : Nat) : Bool :=
  decide (g / 2 ^ 39 = s.dev) && s.tables.any fun t => decide (g % 2 ^ 39 < t + 0x8000 ∧ t < g % 2 ^ 39 + n)

/-- May an instance make the access (R436, R438)? Far register space is refused. Atomic operations need one region
for R and one for W. -/
def State.mpuAllows (s : State) (i g n : Nat) (p : Perm) : Bool :=
  (match p with
   | .rw => s.granted i g n .r && s.granted i g n .w
   | p => s.granted i g n p)
  && (p == .x || !s.inTable g n)
  && decide (g % 2 ^ 39 < 0x7FF0000000)

/-! ### The error log (R402) -/

/-- ECC_LOG_CTL.COUNT and W0-W3 follow the log. -/
def State.eccSync (s : State) : State :=
  let s := s.setF ECC_LOG_CTL ECC_LOG_CTL_COUNT s.mem.log.length
  match s.mem.log with
  | [] => (((s.put (ECC_LOG_W 0) 0).put (ECC_LOG_W 1) 0).put (ECC_LOG_W 2) 0).put (ECC_LOG_W 3) 0
  | e :: _ =>
    (((s.put (ECC_LOG_W 0) (BitVec.ofNat 32 (2 ^ 31 + e.ue.toNat * 2 ^ 30 + e.mid * 2 ^ 16 + e.req))).put (ECC_LOG_W 1)
      (BitVec.ofNat 32 e.addr)).put (ECC_LOG_W 2)
      (BitVec.ofNat 32 ((e.time.extractLsb' 32 16).toNat * 2 ^ 16 + e.synd.toNat * 2 ^ 8 + e.addr / 2 ^ 32 % 128))).put
      (ECC_LOG_W 3) (e.time.extractLsb' 0 32)

/-- A log whose most recent correctable record is replaced, if there is one. -/
def replaceLast (e : EccRec) (l : List EccRec) : Option (List EccRec) :=
  match l.reverse.dropWhile (·.ue) with
  | [] => none
  | _ :: r => some (r.reverse ++ (l.reverse.takeWhile (·.ue)).reverse ++ [e])

/-- Counting and logging an error (R398, R400, R402). The syndrome is free: the codes are not given (log entry 21). -/
def State.eccError (s : State) (ue : Bool) (mid req addr : Nat) : State :=
  let s := s.inc (if ue then ECC_UE_LO mid else ECC_CE_LO mid)
  let dup := match s.mem.last with
    | some x => x.ue == ue && x.mid == mid && x.addr == addr
    | none => false
  if dup then s
  else
    let (f, s) := s.free
    let e : EccRec := ⟨ue, mid, req, addr, BitVec.ofNat 8 f, s.ang.time⟩
    if s.mem.log.length < 32 then
      ({ s with mem := { s.mem with log := s.mem.log ++ [e], last := some e } }).eccSync
    else
      let s := (s.inc ECC_LOG_LOST_LO).flag ECC_LOG_CTL ECC_LOG_CTL_OVF
      match (if ue then replaceLast e s.mem.log else none) with
      | some l => ({ s with mem := { s.mem with log := l, last := some e } }).eccSync
      | none => s

/-! ### Codewords -/

/-- The memory identifier of a per-device offset (Table 11.1, R406). -/
def State.midOf (s : State) (o : Nat) : Nat :=
  if o < 2 ^ 37 then
    let cap := match s.fld (MEM_DDR_CFG 0) MEM_DDR_CFG_SIZE with | 0 => 0 | n + 1 => 2 ^ n * 2 ^ 33
    if s.bit MEM_DDR_MAP MEM_DDR_MAP_ILV then 0x30 + o / 4096 % 2 else if o < cap then 0x30 else 0x31
  else if o < 0x6100000000 then (o - 0x6000000000) / 0x400000
  else 0x10 + (o - 0x6100000000) / 0x40000

/-- Does an offset of this device lie in a DDR5 channel whose clock stands still (R40)? -/
def State.ddrHalted (s : State) (o : Nat) : Bool :=
  let m := s.midOf o
  (m == 0x30 && s.halted 16) || (m == 0x31 && s.halted 17)

/-- The same of what an access reaches. -/
def State.locHalted (s : State) (l : Loc) : Bool :=
  match l with
  | .mem o => s.ddrHalted o
  | _ => false

/-- The bytes of a codeword's data. -/
def codeSize (mid : Nat) : Nat := if mid = 0x30 ∨ mid = 0x31 then 8 else 4

/-- The key of an address within a memory. -/
def memKey (mid a : Nat) : Nat :=
  if mid = 0x41 then 2 ^ 40 + a
  else if 0x20 ≤ mid ∧ mid < 0x30 then 2 ^ 41 + (mid - 0x20) * 2 ^ 20 + a
  else a

/-- No error. -/
def CodeErr.none' : CodeErr := ⟨0, 0, 0, false⟩

/-- The error of the codeword at a key. -/
def State.codeErr (s : State) (k : Nat) : CodeErr := tblGet (fun _ => CodeErr.none') s.mem.errs k

/-- Setting the error of a codeword. -/
def State.setCodeErr (s : State) (k : Nat) (e : CodeErr) : State :=
  { s with mem := { s.mem with errs := tblSet (fun _ => CodeErr.none') s.mem.errs k e } }

/-- The number of ones in a word. -/
def ones (w : Word) : Nat := ((List.range 32).filter fun k => w.getLsbD k).length

/-- How many bits of a codeword are stored inverted. -/
def CodeErr.flips (e : CodeErr) : Nat := ones e.d0 + ones e.d1 + ones e.c

/-- What reading a codeword finds: its data, an uncorrectable error, or data the code does not vouch for. -/
inductive Found where
  | data | bad | garbled
  deriving DecidableEq, Repr

/-- Checking the codeword at an address of a memory, with logging and counting (R398, R400). One inverted bit is
corrected, two are detected; of more, and of a DDR5 word not written since training, the spec states no outcome:
a free value chooses (log entries 20, 21). -/
def State.codeCheck (s : State) (req mid base : Nat) (written : Bool) : Found × State :=
  let e := s.codeErr (memKey mid base)
  let n := e.flips
  if e.poison then (.bad, s.eccError true mid req base)
  else if written && n == 0 then (.data, s)
  else if written && n == 1 then (.data, s.eccError false mid req base)
  else if written && n == 2 then (.bad, s.eccError true mid req base)
  else
    let (f, s) := s.free
    match f % 3 with
    | 0 => (.bad, s.eccError true mid req base)
    | 1 => (.garbled, s.eccError false mid req base)
    | _ => (.garbled, s)

/-- Reading the codeword at an address of a memory: its bytes, or none where uncorrectable. -/
def State.codeRead (s : State) (req mid base : Nat) : Option (List Byte) × State :=
  let k := memKey mid base
  let n := codeSize mid
  let old := (List.range n).map fun j => s.byteAt (k + j)
  let (x, s) := s.codeCheck req mid base (old.all (·.isSome))
  match x with
  | .bad => (none, s)
  | .data => (some (old.map fun b => b.getD 0), s)
  | .garbled => let (l, s) := s.freeBytes n; (some l, s)

/-- The one-shot flip of a memory meets a write (R410): what the stored codeword gets. `addr` is the address of the
write, `base` that of its codeword. -/
def State.flipWrite (s : State) (mid addr base : Nat) : CodeErr × State :=
  let c := ECC_FLIP_CTL mid
  let at' := s.fld (ECC_FLIP_ADDR_HI mid) ECC_FLIP_ADDR_HI_ADDR_HI * 2 ^ 32 + (s.reg (ECC_FLIP_ADDR_LO mid)).toNat
  let m := s.bit c ECC_FLIP_CTL_MATCH
  if s.bit c ECC_FLIP_CTL_ARM && (!m || at' == addr || at' == base) then
    let e : CodeErr := ⟨s.reg (ECC_FLIP_D0 mid), s.reg (ECC_FLIP_D1 mid), s.reg (ECC_FLIP_C mid), false⟩
    let s := (s.setF c ECC_FLIP_CTL_ARM 0).flag c ECC_FLIP_CTL_DONE
    let s := if m then s
      else (s.put (ECC_FLIP_ADDR_LO mid) (BitVec.ofNat 32 addr)).put (ECC_FLIP_ADDR_HI mid) (BitVec.ofNat 32 (addr / 2 ^ 32 % 128))
    (e, s)
  else (CodeErr.none', s)

/-- Writing bytes into one codeword (R399): the whole of it, or a merge with what it holds; false where the merge
read is uncorrectable, which leaves the codeword as it was. -/
def State.codeWrite (s : State) (req mid base off : Nat) (bs : List Byte) : Bool × State :=
  let n := codeSize mid
  let k := memKey mid base
  if bs.length = n then
    let (e, s) := s.flipWrite mid base base
    (true, (s.putBytes k bs).setCodeErr k e)
  else
    match s.codeRead req mid base with
    | (none, s) => (false, s)
    | (some old, s) =>
      let (e, s) := s.flipWrite mid (base + off) base
      (true, (s.putBytes k (old.take off ++ bs ++ old.drop (off + bs.length))).setCodeErr k e)

/-- A run of bytes cut at the bounds of codewords of n bytes: base, offset within, bytes. `fuel` bounds the cuts. -/
def cutCodes (n : Nat) : Nat → Nat → List Byte → List (Nat × Nat × List Byte)
  | 0, _, _ => []
  | fuel + 1, a, bs =>
    match bs with
    | [] => []
    | bs => let k := n - a % n
      (a / n * n, a % n, bs.take k) :: cutCodes n fuel (a + k) (bs.drop k)

/-- Writing bytes at an address; `mid` names the memory of each codeword. False where a merge failed. -/
def State.memWriteIn (s : State) (req : Nat) (mid : Nat → Nat) (a : Nat) (bs : List Byte) : Bool × State :=
  (cutCodes (codeSize (mid a)) bs.length a bs).foldl
    (fun (ok, s) (b, o, l) => let (x, s) := s.codeWrite req (mid b) b o l; (ok && x, s)) (true, s)

/-- Reading n bytes at an address; none where a codeword is uncorrectable. -/
def State.memReadIn (s : State) (req : Nat) (mid : Nat → Nat) (a n : Nat) : Option (List Byte) × State :=
  (cutCodes (codeSize (mid a)) n a (List.replicate n 0)).foldl
    (fun (acc, s) (b, o, l) =>
      match acc, s.codeRead req (mid b) b with
      | some r, (some w, s) => (some (r ++ (w.drop o).take l.length), s)
      | _, (_, s) => (none, s)) (some [], s)

/-- The offsets of a bank (R404). -/
def bankBase (t b : Nat) : Nat := 0x6000000000 + t * 0x400000 + b * 0x20000

/-- A bank that has been tested holds free contents (R665). -/
def State.bankTested (s : State) (t b : Nat) : State :=
  let (l, s) := s.freeBytes 0x20000
  s.putBytes (bankBase t b) l

/-- An access to a bank under test ends the test and sees what it left (R665). A bank under test that has an address is
no spare's. -/
def State.bankAccess (s : State) (o n : Nat) : State :=
  match s.tst.run with
  | some (3, i) =>
    let a := bankBase (i / 34) (i % 34)
    if i % 34 < 32 ∧ o < a + 0x20000 ∧ a < o + n then (s.bankTested (i / 34) (i % 34)).tstAside fun _ _ => true else s
  | _ => s

/-- Writing at a per-device offset of DDR5, tile SRAM or instruction memory. -/
def State.memWrite (s : State) (req o : Nat) (bs : List Byte) : Bool × State :=
  (s.bankAccess o bs.length).memWriteIn req s.midOf o bs

/-- Reading there. -/
def State.memRead (s : State) (req o n : Nat) : Option (List Byte) × State :=
  (s.bankAccess o n).memReadIn req s.midOf o n

/-- Reading words there. -/
def State.memWords (s : State) (req o n : Nat) : Option (List Word) × State :=
  match s.memRead req o (4 * n) with
  | (some l, s) => (some (wordsOf l), s)
  | (none, s) => (none, s)

end Sys2Proof.Machine
end

