-- ==== Sys2Proof/Machine/Digest.lean ====
section
/-! DEFINITION. The records of the output digest of a twinned position (R540, Table 15.1). -/

namespace Sys2Proof.Machine

/-- The start of the digest window that holds a stamp. -/
def State.digStart (s : State) (x : Stamp) : Stamp :=
  let w := s.fld TWIN_CFG TWIN_CFG_WIN_L
  BitVec.ofNat 48 (x.toNat / 2 ^ w * 2 ^ w)

/-- A record's CRC added to its window. -/
def digAdd (x : Stamp) (c : Word) : List Digest → List Digest
  | [] => [⟨x, c, 1⟩]
  | d :: r => if d.start = x then { d with sum := d.sum + c, count := d.count + 1 } :: r else d :: digAdd x c r

/-- A record enters the window of its stamp, unstamped that of the active angle; only a pair in MIRROR takes part. -/
def State.digest (s : State) (st : Option Stamp) (l : List Byte) : State :=
  if s.fld TWIN_STATUS TWIN_STATUS_STATE ≠ 5 then s
  else { s with twin := { s.twin with own := digAdd (s.digStart (st.getD s.angle)) (crc32 l) s.twin.own } }

/-- A stamp in a record; 0 where there is none. -/
def digStamp (st : Option Stamp) : List Byte := bytesOf 6 (match st with | some x => x.toNat | none => 0)

/-- KIND 1: a drive start was released. -/
def State.digStart' (s : State) (n prof : Nat) (st : Option Stamp) : State :=
  s.digest st (bytesOf 1 1 ++ bytesOf 2 n ++ bytesOf 1 prof ++ digStamp st ++ bytesOf 2 0)
/-- KIND 2: a unit register write was applied at a local leaf. -/
def State.digWrite (s : State) (st : Option Stamp) (uid off : Nat) (v : Word) : State :=
  s.digest st (bytesOf 1 2 ++ bytesOf 4 uid ++ bytesOf 2 off ++ bytesOf 4 v.toNat ++ bytesOf 5 0)
/-- KIND 3: a unit command was applied at a local leaf. -/
def State.digCmd (s : State) (st : Option Stamp) (uid op arg : Nat) : State :=
  s.digest st (bytesOf 1 3 ++ bytesOf 4 uid ++ bytesOf 1 op ++ bytesOf 1 arg ++ digStamp st ++ bytesOf 3 0)
/-- KIND 4: a GP output write was applied. -/
def State.digPins (s : State) (st : Option Stamp) (g mask data : Nat) : State :=
  s.digest st (bytesOf 1 4 ++ bytesOf 1 g ++ bytesOf 2 mask ++ bytesOf 2 data ++ bytesOf 2 0)
/-- KIND 5: an epoch was applied. -/
def State.digEpoch (s : State) (gen : Nat) : State := s.digest none (bytesOf 1 5 ++ bytesOf 4 gen ++ bytesOf 3 0)

end Sys2Proof.Machine
end

