-- ==== Sys2Proof/Machine/Drive.lean ====
section
/-! DEFINITION. Pulse generators, the fire budget, comparator pairs, the Weir trip and the windows of shot
learning (chapter 8). -/

namespace Sys2Proof.Machine

def State.pulse (s : State) (n : Nat) : Pulse := tblGet (fun _ => Pulse.reset) s.pulses n
def State.setPulse (s : State) (n : Nat) (p : Pulse) : State :=
  { s with pulses := tblSet (fun _ => Pulse.reset) s.pulses n p }
def State.pair (s : State) (p : Nat) : Pair := tblGet (fun _ => Pair.reset) s.pairs p
def State.setPair (s : State) (p : Nat) (x : Pair) : State :=
  { s with pairs := tblSet (fun _ => Pair.reset) s.pairs p x }

/-- The time counter as a number of ns. -/
def State.ns (s : State) : Nat := s.ang.time.toNat

/-! ### Pin state (R308, R310) -/

/-- The device is the standby of a twin pair (R534), or was one until it was detached (R549). -/
def State.standby (s : State) : Bool := s.fld TWIN_STATUS TWIN_STATUS_ROLE == 2 || s.twin.hiz

/-- The Sluice step OUTREL is done (R605). -/
def State.outputsReleased (s : State) : Bool := bitOf (s.fld BOOT_SLUICE_STAT BOOT_SLUICE_STAT_DONE) 1

/-- The ball must be SAFE (Table 8.1). -/
def State.drvUnsafe (s : State) (n : Nat) : Bool :=
  s.fenced || s.clockUnsafe || s.bit PWR_STATUS PWR_STATUS_PFL || s.bit (DRV_STATUS n) DRV_STATUS_LATCH
    || !s.bit (DRV_CFG n) DRV_CFG_EN

/-- PINST of a pulse generator (Table 8.1). -/
def State.pinState (s : State) (n : Nat) : Nat :=
  if !s.outputsReleased || s.standby then 0
  else if s.drvUnsafe n then 1
  else match (s.pulse n).shot with
    | some x => if x.active then 3 else 2
    | none => 2

/-- BUSY, PEND and PINST follow the generator; the gate seen by the filter engines (R290) follows its on-time. -/
def State.drvSync (s : State) (n : Nat) : State :=
  let p := s.pulse n
  let g := match p.shot with | some x => x.active | none => false
  let s := if p.gate = g then s
    else s.setPulse n { p with gate := g, gateFell := if g then p.gateFell else some s.ns }
  let s := s.setF (DRV_STATUS n) DRV_STATUS_BUSY p.shot.isSome.toNat
  let s := s.setF (DRV_STATUS n) DRV_STATUS_PEND p.pend.isSome.toNat
  s.setF (DRV_STATUS n) DRV_STATUS_PINST (s.pinState n)

/-- LRN_BUSY: learning of the generator queued or running. -/
def State.learnUnit (s : State) (e : Nat) : Learn := tblGet (fun _ => Learn.reset) s.learns e
def State.setLearn (s : State) (e : Nat) (x : Learn) : State :=
  { s with learns := tblSet (fun _ => Learn.reset) s.learns e x }

/-! ### Comparator pairs (R327-R331) -/

/-- A threshold in nV (R328): of the 12-bit code the low 12 - b bits are taken as 0, b being 6, 8, 10 or 12 as RES says. A new
threshold is in force at the write (DESIGN CHOICE, log entry 77: R328 leaves its course up to 1 µs later open). -/
def weirThreshold (code res : Nat) : Int :=
  let k := 2 ^ (6 - 2 * res)
  ((code / k * k : Nat) - 2048 : Int) * 781250

/-- The hysteresis in nV (R327). -/
def weirHyst (h : Nat) : Int := match h with | 0 => 0 | 1 => 5000000 | 2 => 10000000 | _ => 20000000

/-- The level that a pair compares, in nV (R327, WEIR_CFG.CIN). -/
def State.weirLevel (s : State) (p : Nat) : Int :=
  if s.bit (WEIR_CFG p) WEIR_CFG_CIN then (s.pair p).pre else (s.pair p).fout

/-- The comparators of a pair follow their input (R327): HIGH is 1 above TH_H and 0 below TH_H - HYST, LOW is 1 below TH_L and
0 above TH_L + HYST; between, each keeps its output. -/
def State.pairEval (s : State) (p : Nat) : State :=
  let x := s.pair p
  let v := s.weirLevel p
  let res := s.fld (WEIR_CFG p) WEIR_CFG_RES
  let hy := weirHyst (s.fld (WEIR_CFG p) WEIR_CFG_HYST)
  let h := weirThreshold (s.fld (WEIR_TH p) WEIR_TH_TH_H) res
  let l := weirThreshold (s.fld (WEIR_TH p) WEIR_TH_TH_L) res
  s.setPair p { x with
    high := if h < v then true else if v < h - hy then false else x.high
    low := if v < l then true else if l + hy < v then false else x.low }

/-- The outputs of a pair before blanking: 0 while disabled, held after a change of the settings, or under test (R327, R329,
R663). -/
def State.pairRaw (s : State) (p : Nat) (low : Bool) : Bool :=
  let x := s.pair p
  !(s.tst.run == some (1, 2 * p) || s.tst.run == some (1, 2 * p + 1)) &&
    (if low then x.low && x.holdL == 0 && s.bit (WEIR_CFG p) WEIR_CFG_ENL
     else x.high && x.holdH == 0 && s.bit (WEIR_CFG p) WEIR_CFG_ENH)

/-- The outputs after blanking (R331). -/
def State.pairLive (s : State) (p : Nat) (low : Bool) : Bool := !(s.pair p).blanked && s.pairRaw p low

/-- WEIR_STATUS shows the levels (R330). -/
def State.pairSync (s : State) (p : Nat) : State :=
  let a := WEIR_STATUS p
  (((s.setF a WEIR_STATUS_LIVE_H (s.pairRaw p false).toNat).setF a WEIR_STATUS_LIVE_L (s.pairRaw p true).toNat).setF
    a WEIR_STATUS_LIVE_BH (s.pairLive p false).toNat).setF a WEIR_STATUS_LIVE_BL (s.pairLive p true).toNat

/-- An edge of a pulse generator opens or restarts the blanking windows of the pairs that name it (R331). -/
def State.blankEdge (s : State) (n : Nat) (rise : Bool) : State :=
  let t := n / 32
  (List.range 32).foldl (fun s k =>
    let p := t * 32 + k
    let b := s.fld (WEIR_BLANK p) WEIR_BLANK_BEDGE
    if (b = 3 ∨ (b = 1 ∧ rise) ∨ (b = 2 ∧ ¬ rise)) ∧ s.fld (WEIR_BLANK p) WEIR_BLANK_BSRC = n % 32
        ∧ s.fld (WEIR_BLANK p) WEIR_BLANK_BLEN ≠ 0 then
      (s.setPair p { s.pair p with blanked := true }).pairSync p
    else s) s

/-- The first selected comparator whose blanked output is 1 (R332, R335): pair and LOW. -/
def State.tripInput (s : State) (n : Nat) : Option (Nat × Bool) :=
  let t := n / 32
  let h := (s.reg (DRV_TRIP_H n)).toNat
  let l := (s.reg (DRV_TRIP_L n)).toNat
  (List.range 32).findSome? fun k =>
    if bitOf h k && s.pairLive (t * 32 + k) false then some (k, false)
    else if bitOf l k && s.pairLive (t * 32 + k) true then some (k, true)
    else none

/-! ### The safe latch and discarding starts (R310, R311, R319) -/

/-- A shot ends: the ball goes inactive, the gate falls (R312, R314). -/
def State.endShot (s : State) (n : Nat) : State :=
  match (s.pulse n).shot with
  | none => s
  | some x =>
    let s := s.setPulse n { s.pulse n with shot := none }
    let s := if x.active then s.blankEdge n false else s
    let s := if x.mode = 2 then s.gateDown n else s
    s.drvSync n

/-- Queued, released and pending starts are discarded and counted (R310). -/
def State.discardStarts (s : State) (n : Nat) : State :=
  let p := s.pulse n
  let k := p.released.length + p.pend.toList.length
  let (m, s) := s.discardOps fun o => o.kind == 3 && o.index == n && (match o.op with | .ucmd 4 _ => true | _ => false)
  ((s.setPulse n { s.pulse n with released := [], pend := none }).incBy (DRV_DISC_LO n) (k + m)).drvSync n

/-- The ball enters SAFE or HIZ (R310). -/
def State.drvSafe (s : State) (n : Nat) : State := (s.endShot n).discardStarts n

/-- The safe latch is set; the first cause stays (R310). -/
def State.latchDrv (s : State) (n cause : Nat) : State :=
  let s := if s.bit (DRV_STATUS n) DRV_STATUS_LATCH then s
    else (s.flag (DRV_STATUS n) DRV_STATUS_LATCH).setF (DRV_STATUS n) DRV_STATUS_LCAUSE cause
  s.drvSafe n

/-- The safe latch of every pulse generator. -/
def State.latchDrvs (s : State) (cause : Nat) : State := (List.range 512).foldl (fun s n => s.latchDrv n cause) s

/-- CLEAR (R310); a cause that still holds sets the latch again. Where several hold, LCAUSE takes the fence, then the clock
loss, then PFAIL: R310 names no order (DESIGN CHOICE, log entry 9). -/
def State.clearDrv (s : State) (n : Nat) : State :=
  let s := (s.setF (DRV_STATUS n) DRV_STATUS_LATCH 0).setF (DRV_STATUS n) DRV_STATUS_LCAUSE 0
  let s := if s.fenced then s.latchDrv n 2 else s
  let s := if s.clockUnsafe then s.latchDrv n 3 else s
  let s := if s.bit PWR_STATUS PWR_STATUS_PFL then s.latchDrv n 4 else s
  s.drvSync n

/-- The ball enters HIZ (R310): a running shot ends with it. -/
def State.drvHiz (s : State) (n : Nat) : State :=
  if s.pinState n = 0 && (s.pulse n).shot.isSome then s.endShot n else s.drvSync n

/-- ENABLE. -/
def State.enableDrv (s : State) (n : Nat) : State := (s.setF (DRV_CFG n) DRV_CFG_EN 1).drvSync n

/-- DISABLE. -/
def State.disableDrv (s : State) (n : Nat) : State := (s.setF (DRV_CFG n) DRV_CFG_EN 0).drvSafe n

/-- An unstamped FIRE, or a stamped one at its release: a start waits to be granted (R315). -/
def State.fireDrv (s : State) (n arg : Nat) (st : Option Stamp) : State :=
  if 3 < arg then s.flag (DRV_STATUS n) DRV_STATUS_BADOP
  else if s.budget.border.contains (n / 32) then s.inc (DRV_DISC_LO n)
  else
    let s := s.digStart' n arg st
    s.setPulse n { s.pulse n with released := (s.pulse n).released ++ [⟨arg, st, s.ns⟩] }

/-- The UCMD operations of Table 8.2. -/
def State.drvUcmd (s : State) (n code arg : Nat) : Option State :=
  match code with
  | 0 => some (s.enableDrv n)
  | 1 => some (s.disableDrv n)
  | 4 => some (s.fireDrv n arg none)
  | 6 => some (s.latchDrv n 1)
  | 7 => some (s.clearDrv n)
  | _ => none

/-- DRV_CTL.CMD. -/
def State.drvCmd (s : State) (n cmd prof : Nat) : State :=
  match cmd with
  | 1 => s.enableDrv n
  | 2 => s.disableDrv n
  | 3 => s.fireDrv n prof none
  | 4 => s.latchDrv n 1
  | 5 => s.clearDrv n
  | _ => s

/-- A write to DRV_CTL. -/
def State.drvCtlWrite (s : State) (q : Req) (n : Nat) (v : Word) : State :=
  let a := DRV_CTL n
  if reservedEncoding (fieldsAt a) v then s.rsvd q a true
  else
    let s := if (v &&& reservedBits (fieldsAt a)) != 0 then s.rsvd q a false else s
    s.drvCmd n (fieldGet DRV_CTL_CMD v) (fieldGet DRV_CTL_PROF v)

/-- A write to DRV_CFG: EN acts at once as ENABLE or DISABLE (R311). -/
def State.drvCfgWrite (s : State) (q : Req) (n : Nat) (v : Word) : State :=
  let old := s.bit (DRV_CFG n) DRV_CFG_EN
  let s := s.regWrite q (DRV_CFG n) v
  match old, s.bit (DRV_CFG n) DRV_CFG_EN with
  | true, false => s.disableDrv n
  | false, true => s.enableDrv n
  | _, _ => s

/-- DRV_ENABLE. -/
def execDrvEnable (q : Req) (n : Fin 512) (s : State) : Host.Outcome State Fault Refusal :=
  .next (s.guardWrite q (DRV_CTL n.val) fun s => s.drvCtlWrite q n.val 1)
/-- DRV_DISABLE. -/
def execDrvDisable (q : Req) (n : Fin 512) (s : State) : Host.Outcome State Fault Refusal :=
  .next (s.guardWrite q (DRV_CTL n.val) fun s => s.drvCtlWrite q n.val 2)
/-- DRV_FIRE: with profile PROF. -/
def execDrvFire (q : Req) (n : Fin 512) (prof : BitVec 2) (s : State) : Host.Outcome State Fault Refusal :=
  .next (s.guardWrite q (DRV_CTL n.val) fun s => s.drvCtlWrite q n.val (3 ||| (prof.zeroExtend 32 <<< 4)))
/-- DRV_SAFE. -/
def execDrvSafe (q : Req) (n : Fin 512) (s : State) : Host.Outcome State Fault Refusal :=
  .next (s.guardWrite q (DRV_CTL n.val) fun s => s.drvCtlWrite q n.val 4)
/-- DRV_CLEAR. -/
def execDrvClear (q : Req) (n : Fin 512) (s : State) : Host.Outcome State Fault Refusal :=
  .next (s.guardWrite q (DRV_CTL n.val) fun s => s.drvCtlWrite q n.val 5)
/-- DRV_CFG_WRITE. -/
def execDrvCfgWrite (q : Req) (n : Fin 512) (v : Word) (s : State) : Host.Outcome State Fault Refusal :=
  .next (s.guardWrite q (DRV_CFG n.val) fun s => s.drvCfgWrite q n.val v)

/-! ### Lateness and idle windows (R317, R318) -/

/-- ns from the crossing of the start's stamp, or from its release without one, to its first edge at the ball if
it began `dt` ns from now; at a velocity of 0 the largest number (R317). -/
def State.lateness (s : State) (st : Start) (dt : Nat) : Nat :=
  match st.stamp with
  | none => min 0xFFFFFFFF (s.ns + dt + 3 - st.rel)
  | some x =>
    let w := s.ang.act.omega
    if w = 0 then 0xFFFFFFFF
    else
      let d : Int := (s.angle - x).toInt * 65536 + w * (dt + 3 : Nat)
      min 0xFFFFFFFF (d / w).toNat

/-- The fraction lies in an enabled idle window that covers the tile (R82, R83). -/
def State.idleAt (s : State) (t frac : Nat) : Bool :=
  (List.range 16).any fun w =>
    s.bit (ANG_IDLE_CTL w) ANG_IDLE_CTL_EN && bitOf (s.fld (ANG_IDLE_CTL w) ANG_IDLE_CTL_TILES) t
      && inWindow (s.fld (ANG_IDLE_START w) ANG_IDLE_START_START) (s.fld (ANG_IDLE_END w) ANG_IDLE_END_END) frac

/-- The active angle 3 ns from now: at the first edge of a start released now (R315). -/
def State.edgeAngle (s : State) : Stamp := s.angleIn 3

/-- The stamp of a start lies in an idle window (R318). -/
def State.stampIdle (s : State) (n : Nat) (st : Start) : Bool :=
  match st.stamp with | some x => s.idleAt (n / 32) (x.toNat % 2 ^ 32) | none => false

/-- A start that would begin now meets an idle window (R318): by its stamp, or by its first edge. -/
def State.inIdle (s : State) (n : Nat) (st : Start) : Bool :=
  s.stampIdle n st || s.idleAt (n / 32) (s.edgeAngle.toNat % 2 ^ 32)

/-! ### Skips, the fire budget (R320-R324) -/

/-- A skip with its cause (R324). -/
def State.skip (s : State) (n cause : Nat) : State :=
  ((s.flag (DRV_STATUS n) DRV_STATUS_SKIP).setF (DRV_STATUS n) DRV_STATUS_SKCAUSE cause).inc (DRV_SKIP_LO n)

/-- The step and window counts of the present instant (R320, R321). -/
def State.budgetNow (s : State) : Budget :=
  let b := s.budget
  let st := s.ns / 50
  let w := s.angle.toNat / 2 ^ (s.fld DRV_DEV_BUDGET DRV_DEV_BUDGET_WIN_L)
  let b := if b.step = st then b else { b with step := st, stepTile := [], stepDev := 0 }
  if b.win = w then b else { b with win := w, winTile := [], winDev := 0 }

/-- Does a limit of R320 or R321 stop a start of a tile? A limit of 0 means none. -/
def State.budgetFull (s : State) (t : Nat) : Bool :=
  let b := s.budgetNow
  let hit (lim used : Nat) : Bool := lim != 0 && decide (lim ≤ used)
  hit (s.fld (DRV_BUDGET t) DRV_BUDGET_STEP_TILE) (tblGet (fun _ => 0) b.stepTile t)
    || hit (s.fld DRV_DEV_BUDGET DRV_DEV_BUDGET_STEP_DEV) b.stepDev
    || hit (s.fld (DRV_BUDGET t) DRV_BUDGET_WIN_TILE) (tblGet (fun _ => 0) b.winTile t)
    || hit (s.fld DRV_DEV_BUDGET DRV_DEV_BUDGET_WIN_DEV) b.winDev

/-- A start that begins is counted against the limits. -/
def State.budgetTake (s : State) (t : Nat) : State :=
  let b := s.budgetNow
  { s with budget := { b with
    stepTile := tblSet (fun _ => 0) b.stepTile t (tblGet (fun _ => 0) b.stepTile t + 1)
    stepDev := b.stepDev + 1
    winTile := tblSet (fun _ => 0) b.winTile t (tblGet (fun _ => 0) b.winTile t + 1)
    winDev := b.winDev + 1 } }

/-! ### Trips (R332-R335) -/

/-- The trip record is filled unless one stands (R335); of several comparators that trip in one ns it names the lowest-numbered. -/
def State.tripRecord (s : State) (n k : Nat) (low atStart : Bool) : State :=
  let rec' := s.reg (DRV_TRIP_REC n)
  let here := s.reg (DRV_TRIP_TIME_LO n) == BitVec.ofNat 32 s.timeStamp.toNat
    && s.reg (DRV_TRIP_TIME_HI n) == BitVec.ofNat 32 (s.timeStamp.toNat / 2 ^ 32)
  let lower := decide (2 * k + low.toNat < 2 * (rec'.toNat % 32) + rec'.toNat / 0x40 % 2)
  if s.bit (DRV_TRIP_REC n) DRV_TRIP_REC_VALID && !(here && lower && !atStart) then s
  else
    let v : Word := BitVec.ofNat 32 (0x80000000 + atStart.toNat * 0x40000000 + low.toNat * 0x40 + k)
    let a := s.angle.toNat
    let t := s.timeStamp.toNat
    ((((s.put (DRV_TRIP_REC n) v).put (DRV_TRIP_ANG_LO n) (BitVec.ofNat 32 a)).put (DRV_TRIP_ANG_HI n)
      (BitVec.ofNat 32 (a / 2 ^ 32))).put (DRV_TRIP_TIME_LO n) (BitVec.ofNat 32 t)).put (DRV_TRIP_TIME_HI n)
      (BitVec.ofNat 32 (t / 2 ^ 32))

/-- The learning window of a shot is marked as tripped, whether it still takes outputs or waits for its learning (R340). -/
def markTripped (st : Stamp) (w : LearnWin) : LearnWin := if w.start = st then { w with tripped := true } else w

/-- The windows of the latest shot of a generator are marked (R340). -/
def State.tripWindows (s : State) (n : Nat) : State :=
  let p := s.pulse n
  match p.lrnStart with
  | none => s
  | some st =>
    let e := n / 32 * 4 + s.fld (DRV_LRN_CFG n) DRV_LRN_CFG_ENG
    let l := s.learnUnit e
    (s.setPulse n { p with wins := p.wins.map (markTripped st) }).setLearn e
      { l with queue := l.queue.map fun x => if x.1 = n then (n, markTripped st x.2) else x }

/-- Each trip is counted and flagged (R335); the learning window of the shot is marked (R340). -/
def State.tripCount (s : State) (n k : Nat) (low atStart : Bool) : State :=
  (((s.tripWindows n).inc (DRV_TRIPS_LO n)).flag (DRV_STATUS n) DRV_STATUS_TRIPPED).tripRecord n k low atStart

/-- An on-time has ended now, by its program or by a trip (R335). -/
def State.onTimeFell (s : State) (n tripm : Nat) (byTrip : Bool) : State :=
  s.setPulse n { s.pulse n with fell := some (s.ns, tripm, byTrip) }

/-- A trip reaches a pulse generator in an on-time (R333), or in the ns in which its on-time ended (R335): after an end by the
program the trip is recorded and ends what it would have ended; after another trip only the record may change. -/
def State.trip (s : State) (n k : Nat) (low : Bool) : State :=
  let p := s.pulse n
  let late := match p.fell with | some (t, m, b) => if t = s.ns then some (m, b) else none | none => none
  match p.shot.filter (·.active), late with
  | some x, _ =>
    let s := (s.tripCount n k low false).onTimeFell n x.tripm true
    (match x.tripm with
     | 1 =>
       let s := (s.setPulse n { s.pulse n with shot := some { x with active := false } }).blankEdge n false
       s.drvSync n
     | 2 => (s.endShot n).latchDrv n 5
     | _ => s.endShot n)
  | none, some (_, true) => s.tripRecord n k low false
  | none, some (m, false) =>
    let s := (s.tripCount n k low false).onTimeFell n m true
    (match m with
     | 1 => s
     | 2 => (s.endShot n).latchDrv n 5
     | _ => s.endShot n)
  | none, none => s

/-- What changes the outputs of a pair (R327, R330, R332): the levels follow, and a rising blanked output trips every pulse
generator of the tile that selects it. -/
def State.pairChange (s : State) (p : Nat) (f : State → State) : State :=
  let was (low : Bool) : Bool := s.pairLive p low
  let s := ((f s).pairEval p).pairSync p
  [false, true].foldl (fun s low =>
    if s.pairLive p low && !was low then
      (List.range 32).foldl (fun s k =>
        let n := p / 32 * 32 + k
        let m := if low then s.reg (DRV_TRIP_L n) else s.reg (DRV_TRIP_H n)
        if bitOf m.toNat (p % 32) then s.trip n (p % 32) low else s) s
    else s) s

/-- WEIR_TRIP: the input of a comparator pair moves to other levels, at the conversion node and ahead of the filter, in nV
(R327). -/
def execWeirTrip (p : Fin 512) (fout pre : Int) (s : State) : Host.Outcome State Fault Refusal :=
  .next (s.pairChange p.val fun s => s.setPair p.val { s.pair p.val with fout := fout, pre := pre })

/-- BLANKING_EXPIRE (R331): the outputs are no longer masked; one at 1 is a rise of the blanked output. -/
def execBlankingExpire (p : Fin 512) (s : State) : Host.Outcome State Fault Refusal :=
  .next (if (s.pair p.val).blanked then s.pairChange p.val fun s => s.setPair p.val { s.pair p.val with blanked := false } else s)

/-- A ns of the holds of R329: an output whose hold ends is released. -/
def State.weirTick (s : State) : State :=
  (s.pairs.filter fun x => x.2.holdH != 0 || x.2.holdL != 0).foldl (fun s x =>
    s.pairChange x.1 fun s =>
      let y := s.pair x.1
      s.setPair x.1 { y with holdH := y.holdH - 1, holdL := y.holdL - 1 }) s

/-- The UCMD operations of a comparator pair (section 8.9). -/
def State.weirUcmd (s : State) (p code : Nat) : Option State :=
  match code with
  | 0 => some (s.pairChange p fun s => (s.setF (WEIR_CFG p) WEIR_CFG_ENH 1).setF (WEIR_CFG p) WEIR_CFG_ENL 1)
  | 1 => some (s.pairChange p fun s => (s.setF (WEIR_CFG p) WEIR_CFG_ENH 0).setF (WEIR_CFG p) WEIR_CFG_ENL 0)
  | 7 => some s
  | _ => none

/-! ### Shots (R312-R314) -/

/-- An on-time begins, unless a trip input at 1 suppresses it under CYCLE (R333); blanking windows open. -/
def State.beginOn (s : State) (n : Nat) (x : Shot) (t : Nat) : State :=
  let x := { x with t := t, begun := x.begun + 1 }
  if x.tripm = 1 ∧ (s.tripInput n).isSome then
    ((s.setPulse n { s.pulse n with shot := some { x with active := false } }).blankEdge n true).drvSync n
  else
    ((s.setPulse n { s.pulse n with shot := some { x with active := true } }).blankEdge n true).drvSync n

/-- The start of the PWM on-time at or after `t` ns into the shot, before its end (Table 8.3). -/
def pwmNext (x : Shot) (t : Nat) : Option Nat :=
  if x.onT = 0 ∨ x.period = 0 then none
  else
    let j := if t ≤ x.t1 then 0 else (t - x.t1 + x.period - 1) / x.period
    let u := x.t1 + j * x.period
    if u < x.t2 then some u else none

/-- The instant at which the on-time in progress ends, in ns of the shot. -/
def onEnd (x : Shot) : Nat :=
  match x.mode with
  | 0 => (x.begun - 1) * x.t2 + x.t1
  | 1 => if x.t < x.t1 then min x.t1 x.t2 else min (x.t + x.onT) x.t2
  | _ => x.t1

/-- SHOT_EDGE (R313): the next timed edge of the running shot. -/
def State.shotEdge (s : State) (n : Nat) : State :=
  match (s.pulse n).shot with
  | none => s
  | some x =>
    let s := if x.active && !(x.mode == 2 && x.t1 == 0 && (s.cell n).playing.isSome) then s.onTimeFell n x.tripm false else s
    match x.mode with
    | 0 =>
      if x.active || decide (x.t < onEnd x ∧ x.begun ≠ 0) then
        let s := if x.active then s.blankEdge n false else s
        if x.nrep + 1 ≤ x.begun then
          (s.setPulse n { s.pulse n with shot := some { x with active := false } }).endShot n
        else (s.setPulse n { s.pulse n with shot := some { x with active := false, t := onEnd x } }).drvSync n
      else if x.nrep + 1 ≤ x.begun then s.endShot n
      else s.beginOn n x (x.begun * x.t2)
    | 1 =>
      if x.active then
        let e := onEnd x
        let s := s.blankEdge n false
        let x := { x with active := false, t := e }
        if x.t2 ≤ e then (s.setPulse n { s.pulse n with shot := some x }).endShot n
        else if pwmNext x e = some e then s.beginOn n x e
        else (s.setPulse n { s.pulse n with shot := some x }).drvSync n
      else
        match pwmNext x (x.t + 1) with
        | some u => s.beginOn n x u
        | none => (s.setPulse n { s.pulse n with shot := some { x with t := x.t2 } }).endShot n
    | _ =>
      if x.t1 ≠ 0 then s.endShot n
      else if (s.cell n).playing.isNone then s.endShot n
      else s

/-- SHOT_EDGE. -/
def execShotEdge (n : Fin 512) (s : State) : Host.Outcome State Fault Refusal := .next (s.shotEdge n.val)

/-- A learning window opens at a shot of a generator that learns (R338, R341). -/
def State.openWindow (s : State) (n : Nat) : State :=
  let a := DRV_LRN_CFG n
  if !s.bit a DRV_LRN_CFG_EN then s
  else
    let st := if s.bit a DRV_LRN_CFG_SKIND then s.timeStamp + 3 else s.edgeAngle
    let s := if s.bit (DRV_STATUS n) DRV_STATUS_LRN_BUSY then s.inc (DRV_LRN_MISS_LO n) else s
    let p := s.pulse n
    let old := p.wins.map fun w => if w.next.isNone then { w with next := some st } else w
    s.setPulse n { p with wins := old ++ [⟨st, s.ang.act.omega, none, false, [], false⟩], lrnStart := some st }

/-- The counts of a start that begins late (R323): within TOL it is counted in STAG; one that was pending and begins beyond
TOL, in DEFER. An unstamped start that begins at its release is not late (log entry 77). -/
def State.startLate (s : State) (n late : Nat) (wasPending stamped : Bool) : State :=
  if s.fld (DRV_CFG n) DRV_CFG_TOL < late then
    (if wasPending then (s.flag (DRV_STATUS n) DRV_STATUS_DEFER).inc (DRV_DEFER_LO n) else s)
  else if 0 < late ∧ (wasPending || stamped) then s.inc (DRV_STAG_LO n)
  else s

/-- The shot a start asks for, from the output's configuration and the named profile. -/
def State.shotOf (s : State) (n prof : Nat) : Shot :=
  let pa := DRV_PROF_A n prof
  let pb := DRV_PROF_B n prof
  { mode := s.fld (DRV_CFG n) DRV_CFG_MODE, pol := s.fld (DRV_CFG n) DRV_CFG_POL
    tripm := s.fld (DRV_CFG n) DRV_CFG_TRIPM, t1 := s.fld pa DRV_PROF_A_T1, t2 := s.fld pb DRV_PROF_B_T2
    nrep := s.fld pb DRV_PROF_B_NREP, period := s.fld (DRV_PWM n) DRV_PWM_PERIOD
    onT := s.fld (DRV_PWM n) DRV_PWM_ON, t := 0, active := false, begun := 0 }

/-- Where and how late the shot began (R318). -/
def State.shotRecord (s : State) (n late : Nat) : State :=
  let a := s.edgeAngle.toNat
  ((s.put (DRV_SHOT_ANG_LO n) (BitVec.ofNat 32 a)).put (DRV_SHOT_ANG_HI n) (BitVec.ofNat 32 (a / 2 ^ 32))).put
    (DRV_SHOT_LATE n) (BitVec.ofNat 32 late)

/-- The first step of a shot `x` whose window has opened, against the trip inputs. -/
def State.runShot (s : State) (n : Nat) (x : Shot) : State :=
  let first := x.mode != 1 || x.t1 != 0 || x.onT != 0
  if !first then (s.setPulse n { s.pulse n with shot := some x }).drvSync n
  else match s.tripInput n with
    | some (k, low) =>
      let s := s.tripCount n k low true
      let s := s.blankEdge n true
      match x.tripm with
      | 1 => (s.setPulse n { s.pulse n with shot := some { x with begun := 1 } }).drvSync n
      | 2 => s.latchDrv n 5
      | _ => s.drvSync n
    | none =>
      let s := s.beginOn n x 0
      if x.mode = 2 then s.gateUp n else s

/-- A granted start begins a shot (R312, R317, R318, R334). -/
def State.beginShot (s : State) (n : Nat) (st : Start) (wasPending : Bool) : State :=
  if s.inIdle n st then (s.flag (DRV_STATUS n) DRV_STATUS_IWIN).inc (DRV_IWIN_LO n)
  else if (s.pulse n).shot.isSome then s.skip n 1
  else
    let late := s.lateness st 0
    let s := s.startLate n late wasPending st.stamp.isSome
    let s := (s.budgetTake (n / 32)).inc (DRV_SHOTS_LO n)
    let s := (s.shotRecord n late).openWindow n
    s.runShot n (s.shotOf n st.prof)

/-- The TOL test of a pending start (R323): under SKIP, a start that would be beyond TOL at the next step boundary
is skipped. -/
def State.tolTest (s : State) (n : Nat) (st : Start) : State :=
  let dt := 50 - s.ns % 50
  if s.bit (DRV_CFG n) DRV_CFG_POLICY && decide (s.fld (DRV_CFG n) DRV_CFG_TOL < s.lateness st dt) then
    ((s.setPulse n { s.pulse n with pend := none }).skip n 0).drvSync n
  else s

/-- A released start (R318, R322-R324). -/
def State.grant (s : State) (n : Nat) (st : Start) : State :=
  if !s.bit (DRV_CFG n) DRV_CFG_EN || s.bit (DRV_STATUS n) DRV_STATUS_LATCH then s.inc (DRV_DISC_LO n)
  else if s.stampIdle n st then (s.flag (DRV_STATUS n) DRV_STATUS_IWIN).inc (DRV_IWIN_LO n)
  else
    let s := if (s.pulse n).pend.isSome then
        ((s.setPulse n { s.pulse n with pend := none }).skip n 2).drvSync n else s
    if s.budgetFull (n / 32) then
      ((s.setPulse n { s.pulse n with pend := some st }).drvSync n).tolTest n st
    else s.beginShot n st false

/-- DRV_START_RELEASE: the oldest released start of the generator is treated. -/
def execDrvStartRelease (n : Fin 512) (s : State) : Host.Outcome State Fault Refusal :=
  let p := s.pulse n.val
  match p.released with
  | [] => .next s
  | st :: r => .next ((s.setPulse n.val { p with released := r }).grant n.val st)

/-- Pending starts in the order of their release instants, then of their PG numbers (R322). -/
def insertPend (x : Nat × Start) : List (Nat × Start) → List (Nat × Start)
  | [] => [x]
  | y :: r => if x.2.rel < y.2.rel then x :: y :: r else y :: insertPend x r

/-- The pending starts of the device in the order they are offered. -/
def State.pendings (s : State) : List (Nat × Start) :=
  (s.pulses.reverse.filterMap fun (n, p) => p.pend.map fun st => (n, st)).foldr insertPend []

/-- BUDGET_STEP_BOUNDARY (R322, R323): the pending starts are offered in order. -/
def execBudgetStepBoundary (s : State) : Host.Outcome State Fault Refusal :=
  .next (s.pendings.foldl (fun s (n, st) =>
    if s.budgetFull (n / 32) then s.tolTest n st
    else ((s.setPulse n { s.pulse n with pend := none }).drvSync n).beginShot n st true) s)

/-! ### Learning windows (R336, R338) -/

/-- An output of a sense channel goes to the pulse generator that names the channel (R336, R338): it is taken by
the windows it lies in; a complete or overtaken window joins the engine's learning queue. -/
def State.learnSample (s : State) (ch : Nat) (w : CWord) : State :=
  let t := ch / 32
  match (List.range 32).find? (fun k =>
      let a := DRV_LRN_CFG (t * 32 + k)
      s.bit a DRV_LRN_CFG_EN && s.fld a DRV_LRN_CFG_ENG == ch / 8 % 4 && s.fld a DRV_LRN_CFG_CH == ch % 8), w.stampOf with
  | some k, some st =>
    let n := t * 32 + k
    let m := s.fld (DRV_LRN_LEN n) DRV_LRN_LEN_M
    let take (x : LearnWin) : LearnWin :=
      if x.closed then x
      else if (match x.next with | some nx => !Stamp.before st nx | none => false) then { x with closed := true }
      else if Stamp.before st x.start then x
      else
        let l := x.taken ++ [w]
        { x with taken := l, closed := decide (m ≤ l.length) }
    let p := s.pulse n
    let wins := p.wins.map take
    let done := wins.filter (·.closed)
    let s := s.setPulse n { p with wins := wins.filter fun x => !x.closed }
    if done.isEmpty then s
    else
      let e := ch / 8
      let l := s.learnUnit e
      (s.setLearn e { l with queue := l.queue ++ done.map fun x => (n, x) }).flag (DRV_STATUS n) DRV_STATUS_LRN_BUSY
  | _, _ => s

/-! ### Staged settings (R345-R347) -/

/-- Checks 1 to 5 and part of 6 of Table 8.9 for a pulse generator on its staged state. -/
def State.drvStageOk (s : State) (n : Nat) : Bool :=
  let c := DRV_CFG n
  let mode := s.shFld c DRV_CFG_MODE
  let c1 := mode != 0 || (List.range 4).all fun p =>
    s.shFld (DRV_PROF_B n p) DRV_PROF_B_NREP == 0
      || decide (s.shFld (DRV_PROF_A n p) DRV_PROF_A_T1 < s.shFld (DRV_PROF_B n p) DRV_PROF_B_T2)
  let per := s.shFld (DRV_PWM n) DRV_PWM_PERIOD
  let c2 := mode != 1 || decide (20 ≤ per ∧ s.shFld (DRV_PWM n) DRV_PWM_ON ≤ per)
  let c3 := !(s.shFld c DRV_CFG_TRIPM == 1 && mode == 2)
  let l := DRV_LRN_CFG n
  let learn := s.shFld l DRV_LRN_CFG_EN == 1
  let bnd := s.shFld (CEL_OUT n) CEL_OUT_BIND
  let c4 := !learn || (mode == 2 && (bnd == 0 || bnd == 1 || bnd == 3))
  let eng := s.shFld l DRV_LRN_CFG_ENG
  let ch := s.shFld l DRV_LRN_CFG_CH
  let u := n / 32 * 32 + eng * 8 + ch
  let role := s.shFld (FLT_CH_CFG u) FLT_CH_CFG_ROLE
  let c5 := !learn || ((role == 2 || role == 3) && s.shFld (FLT_CH_CFG u) FLT_CH_CFG_STIN == 1
    && (List.range 32).all fun k =>
      let m := n / 32 * 32 + k
      m == n || s.shFld (DRV_LRN_CFG m) DRV_LRN_CFG_EN == 0 || s.shFld (DRV_LRN_CFG m) DRV_LRN_CFG_ENG != eng
        || s.shFld (DRV_LRN_CFG m) DRV_LRN_CFG_CH != ch)
  let wn := s.shFld (DRV_LRN_LEN n) DRV_LRN_LEN_N * 4
  let wm := s.shFld (DRV_LRN_LEN n) DRV_LRN_LEN_M * 4
  let tp := s.shFld (DRV_LRN_TPL n) DRV_LRN_TPL_OFF * 4
  let ba := s.shFld (DRV_LRN_BASE n) DRV_LRN_BASE_OFF * 4
  let co := s.shFld (DRV_LRN_COR n) DRV_LRN_COR_OFF * 4
  let apart (a la b lb : Nat) : Bool := decide (a + la ≤ b ∨ b + lb ≤ a)
  let c6 := !learn || (decide (tp + wm ≤ 0x400000 ∧ ba + wn ≤ 0x400000 ∧ co + wn ≤ 0x400000)
    && apart tp wm ba wn && apart tp wm co wn && apart ba wn co wn)
  c1 && c2 && c3 && c4 && c5 && c6

/-- Check 7 of Table 8.9. -/
def State.budgetStageOk (s : State) : Bool :=
  let ok (w st : Nat) : Bool := w == 0 || decide (st ≤ w)
  (List.range 16).all (fun t => ok (s.shFld (DRV_BUDGET t) DRV_BUDGET_WIN_TILE) (s.shFld (DRV_BUDGET t) DRV_BUDGET_STEP_TILE))
    && ok (s.shFld DRV_DEV_BUDGET DRV_DEV_BUDGET_WIN_DEV) (s.shFld DRV_DEV_BUDGET DRV_DEV_BUDGET_STEP_DEV)

/-- An application ends a running shot whose MODE or POL changed (R345). -/
def State.drvApplied (s : State) (n : Nat) : State :=
  match (s.pulse n).shot with
  | some x => if x.mode = s.fld (DRV_CFG n) DRV_CFG_MODE ∧ x.pol = s.fld (DRV_CFG n) DRV_CFG_POL then s.drvSync n
    else s.endShot n
  | none => s.drvSync n

/-- The response time of a comparator mode, ns (Table 8.5). -/
def weirResponse (m : Nat) : Nat := if m = 0 then 4 else if m = 1 then 40 else if m = 2 then 1000 else 20000

/-- An application that changes a comparator's mode, or the pair's RES or CIN, holds that output at 0 for 200 ns and twice the
response time (R329). -/
def State.weirApplied (s : State) (p : Nat) : State :=
  let m := (s.reg (WEIR_CFG p) &&& 0x3F10).toNat
  let x := s.pair p
  let both := m &&& 0x3010 != x.modes &&& 0x3010
  let held (mode : Nat) : Nat := 200 + 2 * weirResponse mode
  s.pairChange p fun s => s.setPair p { x with
    modes := m
    holdH := if both || m &&& 0x300 != x.modes &&& 0x300 then held (s.fld (WEIR_CFG p) WEIR_CFG_MODE_H) else x.holdH
    holdL := if both || m &&& 0xC00 != x.modes &&& 0xC00 then held (s.fld (WEIR_CFG p) WEIR_CFG_MODE_L) else x.holdL }

/-- The pulse generators of a tile under forced retirement enter or leave the border state (R346, R368). -/
def State.drvBorder (s : State) (t : Nat) (b : Bool) : State :=
  let s := if b then (List.range 32).foldl (fun s k => s.drvSafe (t * 32 + k)) s else s
  let l := s.budget.border.filter (· != t)
  { s with budget := { s.budget with border := if b then t :: l else l } }

end Sys2Proof.Machine
end

