-- ==== Sys2Proof/Machine/Ctx.lean ====
section
/-! DEFINITION. The contexts (sections 3.1-3.3, 3.10): register windows, control words, states, holds. -/

namespace Sys2Proof.Machine

/-! ### States (Table 3.1) -/

/-- The context states as INST_STATE.STATE codes them. -/
def ctxStopped : Nat := 0
def ctxRun : Nat := 1
def ctxWait : Nat := 2
def ctxHeld : Nat := 3

/-- The state of a context. -/
def State.ctxState (s : State) (c : Nat) : Nat :=
  if c < 256 then s.fld (INST_STATE c) INST_STATE_STATE else s.supState

/-- Setting the state of a context. -/
def State.setCtxState (s : State) (c x : Nat) : State :=
  if c < 256 then s.setF (INST_STATE c) INST_STATE_STATE x else { s with supState := x }

/-- The requester a context is. -/
def ctxReq (c : Nat) : Req := if h : c < 256 then .inst ⟨c, h⟩ else .sup

/-- The instance generation of a context (R448); 0 on the supervisor. -/
def State.genOf (s : State) (c : Nat) : Nat := if c < 256 then s.fld (INST_STATE c) INST_STATE_GEN else 0

/-! ### Registers (R104-R107, Tables 3.2 and 4.2) -/

/-- The physical register that a register code shows in the current window: G0-G7 at 0-7, private register j of
window w at 8 + 16w + j, its handoff register j at 16 + 16w + j. -/
def physReg (wix code : Nat) : Nat :=
  if code < 8 then code
  else
    let n := code - 8
    if n < 8 then 16 + 16 * ((wix + 15) % 16) + n else if n < 16 then 8 + 16 * wix + (n - 8) else 16 + 16 * wix + (n - 16)

/-- A physical register's value. -/
def Ctx.phys (x : Ctx) (k : Nat) : Word := tblGet (fun _ => 0) x.regs k

/-- Setting a physical register. -/
def Ctx.setPhys (x : Ctx) (k : Nat) (v : Word) : Ctx := { x with regs := tblSet (fun _ => 0) x.regs k v }

/-- Reading a register of the current window; G0 reads 0. -/
def Ctx.rget (x : Ctx) (code : Nat) : Word := if code = 0 then 0 else x.phys (physReg x.wix code)

/-- Writing a register of the current window; a write to G0 is ignored. -/
def Ctx.rset (x : Ctx) (code : Nat) (v : Word) : Ctx := if code = 0 then x else x.setPhys (physReg x.wix code) v

/-- Reading a pair (R105): the even register holds the low bits. -/
def Ctx.pget (x : Ctx) (code : Nat) : BitVec 64 := x.rget (code + 1) ++ x.rget code

/-- Writing a pair. -/
def Ctx.pset (x : Ctx) (code : Nat) (v : BitVec 64) : Ctx :=
  (x.rset code (v.extractLsb' 0 32)).rset (code + 1) (v.extractLsb' 32 32)

/-- The stamp a pair holds (R105): bits [31:16] of the odd register are ignored. -/
def Ctx.stamp (x : Ctx) (code : Nat) : Stamp := (x.pget code).extractLsb' 0 48

/-- Writing a stamp to a pair: bits [31:16] of the odd register become 0. -/
def Ctx.setStamp (x : Ctx) (code : Nat) (v : Stamp) : Ctx := x.pset code (v.setWidth 64)

/-! ### Control words (Table 3.12) -/

/-- The word of a list of bits, bit 0 first. -/
def wordOfBits (l : List Bool) : Word := BitVec.ofNat 32 (l.foldr (fun b n => b.toNat + 2 * n) 0)

/-- CW_STATUS. -/
def Ctx.status (x : Ctx) (c : Nat) : Word :=
  wordOfBits [x.ie, x.td, x.wt, c == ctxSup, x.sovr, x.pserr, x.slate]

/-- A status word copied into CW_STATUS (R115); PRIVM is fixed per core. -/
def Ctx.setStatus (x : Ctx) (v : Word) : Ctx :=
  { x with ie := v.getLsbD 0, td := v.getLsbD 1, wt := v.getLsbD 2, sovr := v.getLsbD 4, pserr := v.getLsbD 5,
           slate := v.getLsbD 6 }

/-- Reading a control word. -/
def State.cwRead (s : State) (c n : Nat) : Word :=
  let x := s.ctx c
  match n with
  | 0 => x.status c
  | 1 => x.tpc
  | 2 => x.tstatus
  | 3 => x.tcause
  | 4 => x.tval
  | 5 => x.tvalh
  | 6 => x.tbase
  | 7 => x.wtpc
  | 8 => x.wsp
  | 9 => BitVec.ofNat 32 (x.resident * 256 + x.wix)
  | 10 => BitVec.ofNat 32 (s.genOf c * 2 ^ 16 + c)
  | _ => x.mcause

/-- The reserved bits of a control word. -/
def cwReserved (n : Nat) : Word :=
  match n with
  | 0 => 0xFFFFFF80
  | 1 => 0x00000003
  | 2 => 0xFFFFFF80
  | 3 => 0xFFFF0060
  | 4 => 0
  | 5 => 0xFFFF0000
  | 6 => 0x000003FF
  | 7 => 0x00000003
  | 8 => 0x0000003F
  | 9 => 0xFFFFF0F0
  | 10 => 0xFF00FE00
  | _ => 0x000E0000

/-- Writing a control word with no reserved bit (R156): writes to RO fields are ignored. -/
def Ctx.cwWrite (x : Ctx) (n : Nat) (v : Word) : Ctx :=
  match n with
  | 0 => { x with ie := v.getLsbD 0, td := v.getLsbD 1, sovr := x.sovr && !v.getLsbD 4,
                  pserr := x.pserr && !v.getLsbD 5, slate := x.slate && !v.getLsbD 6 }
  | 1 => { x with tpc := v }
  | 2 => { x with tstatus := v }
  | 6 => { x with tbase := v }
  | 7 => { x with wtpc := v }
  | 8 => { x with wsp := v }
  | 16 => if v.getLsbD 31 then { x with mcause := 0 } else x
  | _ => x

/-! ### Holds and waits -/

/-- The consumer codes of a context's own wait (UNTIL). -/
def kindWait : Nat := 0x24

/-- A context waits for nothing any more; its queued wait leaves the queue. -/
def State.unqueue (s : State) (c : Nat) : State :=
  let s := { s with stq := s.stq.filter fun o => !(o.kind == kindWait && o.index == c) }
  s.setCtx c { s.ctx c with stall := .none }

/-- A wait or stall ends with nothing changed (R142): the waiting instruction issues again. The requests of a URD that ends so
are closed; a reply to them is no reply to a later URD (R147). -/
def State.endWait (s : State) (c : Nat) : State :=
  { s with leat := { s.leat with reqs := s.leat.reqs.filter (·.who != Waiter.urd c) } }.unqueue c

/-- INST_HELD records the first cause of a hold (R434): source 0 HOLD, 1 machine check, 2 fence. -/
def State.heldRecord (s : State) (c src code first second : Nat) : State :=
  if s.bit (INST_HELD c) INST_HELD_VALID then s
  else s.put (INST_HELD c)
    (BitVec.ofNat 32 (2 ^ 31 + src * 2 ^ 29 + code * 2 ^ 16 + second * 2 ^ 10 + first * 2 ^ 5))

/-- Is a stall one that only its completion ends (R127, R155), so that a hold takes effect at the boundary after it? A stall on
the full queue of posted stores (R189) is not: it is a WAIT (Table 3.1). -/
def Stall.isMem : Stall → Bool
  | .mem .. | .arm => true
  | _ => false

/-- An instance context is to be held (R97, R142, R433): at its next instruction boundary. -/
def State.holdCtx (s : State) (c src : Nat) : State :=
  let st := s.ctxState c
  if st = ctxRun ∨ st = ctxWait then
    if (s.ctx c).stall.isMem then s.setCtx c { s.ctx c with holdReq := some src }
    else ((s.endWait c).setCtxState c ctxHeld).heldRecord c src 0 0 0
  else s

/-- A stalled instruction completes: the context goes on, or enters the hold that waited for the boundary. -/
def State.resumeCtx (s : State) (c : Nat) : State :=
  match (s.ctx c).holdReq with
  | some src =>
    (((s.setCtx c { s.ctx c with stall := .none, holdReq := none }).setCtxState c ctxHeld)).heldRecord c src 0 0 0
  | none => (s.setCtx c { s.ctx c with stall := .none }).setCtxState c ctxRun

end Sys2Proof.Machine
end

