-- ==== Sys2Proof/Machine/Logic.lean ====
section
/-! DEFINITION. The logic fabric and its observation (chapter 10). -/

namespace Sys2Proof.Machine

/-! ### State of the regions -/

def rgRun : Nat := 0
def rgStopped : Nat := 1
def rgLoading : Nat := 2
def rgLoaded : Nat := 3
def rgFailed : Nat := 4

def State.lcell (s : State) (g : Nat) : LCell := tblGet (fun _ => LCell.reset) s.lgc.cells g
def State.setLcell (s : State) (g : Nat) (c : LCell) : State :=
  { s with lgc := { s.lgc with cells := tblSet (fun _ => LCell.reset) s.lgc.cells g c } }
def State.region (s : State) (r : Nat) : Region := tblGet (fun _ => Region.reset) s.lgc.regions r
def State.setRegion (s : State) (r : Nat) (x : Region) : State :=
  { s with lgc := { s.lgc with regions := tblSet (fun _ => Region.reset) s.lgc.regions r x } }
def State.lport (s : State) (p : Nat) : LPort := tblGet (fun _ => LPort.reset) s.lgc.ports p
def State.setLport (s : State) (p : Nat) (x : LPort) : State :=
  { s with lgc := { s.lgc with ports := tblSet (fun _ => LPort.reset) s.lgc.ports p x } }

/-- The state of region r (kind 0x8, INDEX 16t + r). -/
def State.rgState (s : State) (r : Nat) : Nat := s.fld (LGC_RG_STATUS r) LGC_RG_STATUS_STATE
def State.setRgState (s : State) (r x : Nat) : State := s.setF (LGC_RG_STATUS r) LGC_RG_STATUS_STATE x

/-- Is the region under reconfiguration (R386)? -/
def State.rgRebuilt (s : State) (r : Nat) : Bool := decide (rgLoading ≤ s.rgState r)

/-- Is global clock k running: enabled, and its domain not lost (R382, R40)? -/
def State.gcOn (s : State) (k : Nat) : Bool :=
  s.bit (LGC_GC k) LGC_GC_EN && bitOf (s.reg SYS_CLK_LOCK).toNat (2 + k)

/-- Does a region receive global clock k? -/
def State.rgClock (s : State) (r k : Nat) : Bool :=
  s.rgState r == rgRun && s.gcOn k && bitOf (s.fld (LGC_RG_CFG r) LGC_RG_CFG_GCEN) k

/-- The Sluice step SRREL is done (R384). -/
def State.srReleased (s : State) : Bool := bitOf (s.fld BOOT_SLUICE_STAT BOOT_SLUICE_STAT_DONE) 2

/-! ### Signals (R375-R378) -/

/-- A signal of the fabric: crossbar source x of tile t; O of cell g after combining and before; CO; result i of
combining stage k of the group at base g. -/
inductive Sig where
  | src (t x : Nat)
  | out (g : Nat)
  | raw (g : Nat)
  | co (g : Nat)
  | stage (g k i : Nat)
  deriving DecidableEq, Repr

/-- The hold value of output j of a region (R386): LAST, ZERO, ONE. -/
def State.holdOf (s : State) (r j : Nat) : Bool :=
  match (s.reg (LGC_RG_HOLD r (j / 16))).toNat / 4 ^ (j % 16) % 4 with
  | 0 => (s.region r).frozen.getD j false
  | 1 => false
  | _ => true

/-- A bit of the word a logic port presents, or its VALID (R380). -/
def State.portBit (s : State) (p b : Nat) : Bool :=
  match (s.lport p).fifo with
  | [] => false
  | w :: _ => b == 32 || w.getLsbD b

/-- The inputs of a cell by their place in the record. -/
def selMxs : Nat := 6
def selCe : Nat := 7
def selSr : Nat := 8
def selCi : Nat := 9
def selFclk : Nat := 10

/-- The level of a signal. `fuel` bounds the path; a path longer than the fabric is a combinational loop. -/
def State.level (s : State) : Nat → Sig → Bool
  | 0, .src t x => Config.fabricLoop t x
  | 0, .out g | 0, .raw g | 0, .co g | 0, .stage g _ _ => Config.fabricLoop (g / 512) (3 * (g % 512))
  | fuel + 1, sig =>
    match sig with
    | .src t x =>
      if x < 1536 then
        let r := 16 * t + x / 96
        let g := 512 * t + x / 3
        if s.rgRebuilt r then s.holdOf r (x % 96)
        else if s.rgState r = rgStopped then (s.region r).frozen.getD (x % 96) false
        else match x % 3 with
          | 0 => s.level fuel (.out g)
          | 1 => (s.lcell g).q0
          | _ => (s.lcell g).q1
      else if x < 2064 then s.portBit (16 * t + (x - 1536) / 33) ((x - 1536) % 33)
      else if x < 2080 then bitOf (s.fld (PIN_IN t) PIN_IN_LVL) (x - 2064)
      else x == 2081
    | .out g =>
      match (s.lcell g).comb with
      | 0 => s.level fuel (.raw g)
      | 1 => s.level fuel (.stage g 1 0)
      | 2 => s.level fuel (.stage g 3 0)
      | _ => s.level fuel (.stage g 4 0)
    | .stage g k i =>
      if k = 0 then s.level fuel (.raw (g + i))
      else if s.level fuel (.src (g / 512) ((s.lcell (g + k - 1)).sel.getD selMxs 2080)) then
        s.level fuel (.stage g (k - 1) (2 * i + 1))
      else s.level fuel (.stage g (k - 1) (2 * i))
    | .raw g =>
      let c := s.lcell g
      let x (k : Nat) : Nat := (s.level fuel (.src (g / 512) (c.sel.getD k 2080))).toNat
      let a := x 0 + 2 * x 1 + 4 * x 2 + 8 * x 3 + 16 * x 4
      if c.mode = 0 then c.lut.getLsbD (a + 32 * x 5)
      else
        let ci := c.sel.getD selCi 2080
        c.lut.getLsbD a ^^ (if ci = 4095 then s.level fuel (.co (g - 1)) else s.level fuel (.src (g / 512) ci))
    | .co g =>
      let c := s.lcell g
      if c.mode = 0 then false
      else
        let x (k : Nat) : Nat := (s.level fuel (.src (g / 512) (c.sel.getD k 2080))).toNat
        let a := x 0 + 2 * x 1 + 4 * x 2 + 8 * x 3 + 16 * x 4
        if c.lut.getLsbD a then
          let ci := c.sel.getD selCi 2080
          if ci = 4095 then s.level fuel (.co (g - 1)) else s.level fuel (.src (g / 512) ci)
        else c.lut.getLsbD (32 + a)

/-- Steps enough for every path without a loop. -/
def fabricFuel : Nat := 8192

/-- The level of source x of tile t. -/
def State.source (s : State) (t x : Nat) : Bool := s.level fabricFuel (.src t x)

/-- The level a cell's input has. -/
def State.input (s : State) (g k : Nat) : Bool := s.source (g / 512) ((s.lcell g).sel.getD k 2080)

/-! ### Clocking (R377, R382-R384) -/

/-- A cell after a rising edge of its clock in state s (R377). -/
def State.clocked (s : State) (g : Nat) (c : LCell) : LCell :=
  if s.input g selSr then { c with q0 := c.srv0, q1 := c.srv1 }
  else if s.input g selCe then
    let o := s.level fabricFuel (.out g)
    let n0 := match c.d0 with | 0 => o | 1 => s.input g 5 | _ => s.level fabricFuel (.co g)
    let n1 := match c.d1 with | 0 => o | 1 => s.input g 4 | _ => c.q0
    { c with q0 := n0, q1 := n1 }
  else c

/-- Updating every cell at once from the levels of one instant. -/
def State.mapCells (s : State) (f : Nat → LCell → LCell) : State :=
  s.lgc.cells.foldl (fun s' (g, c) => s'.setLcell g (f g c)) s

/-- The words of a port's outbound side at an edge of its clock: the 32 bits, if VALID is 1. -/
def State.portOut (s : State) (p : Nat) : Option Word :=
  let t := p / 16
  if s.source t (Config.portSource p 32) then
    some (BitVec.ofNat 32 ((List.range 32).foldl (fun v b => v + (s.source t (Config.portSource p b)).toNat * 2 ^ b) 0))
  else none

/-- The outbound side of a port takes a word: one with bit [0] set is offered with the two that follow (R355, R380). -/
def State.portOffer (s : State) (p : Nat) (w : Word) : State :=
  let x := s.lport p
  match x.part with
  | [] => if w.getLsbD 0 then s.setLport p { x with part := [w] } else s.offer (960 + p) ⟨w, none⟩
  | [a] => s.setLport p { x with part := [a, w] }
  | a :: b :: _ => (s.setLport p { x with part := [] }).offer (960 + p) ⟨a, some (b, w)⟩

/-- Does a port run on global clock k (R381, R382)? -/
def State.portOn (s : State) (p k : Nat) : Bool :=
  let a := LGC_PORT_CFG (p / 16) (p % 16)
  s.bit a LGC_PORT_CFG_EN && s.fld a LGC_PORT_CFG_GC == k
    && s.rgClock (p / 16 * 16 + s.fld a LGC_PORT_CFG_REGION) k

/-- An edge of global clock k (R377, R380, R384): the cells on it, then its ports, all from the levels before it. -/
def State.gcEdge (s : State) (k : Nat) : State :=
  if !s.gcOn k then s
  else
    let outs := (List.range 256).filterMap fun p => if s.portOn p k then some (p, s.portOut p) else none
    let s' := if s.srReleased then
        s.mapCells fun g c => if c.clk == k && s.rgClock (g / 32) k then s.clocked g c else c
      else s
    outs.foldl (fun s (p, w) =>
      let x := s.lport p
      let s := s.setLport p { x with fifo := x.fifo.drop 1 }
      match w with
      | some w => s.portOffer p w
      | none => s) s'

/-- Free-clock cells (R383) and asynchronous set and reset (R377), which follow the levels. -/
def State.fabricFree (s : State) : State :=
  if !s.srReleased then s
  else
    s.mapCells fun g c =>
      if s.rgState (g / 32) != rgRun then c
      else
        let f := c.clk == 8 && s.input g selFclk
        let c' := if c.clk == 8 && f && !c.fclk then s.clocked g c else c
        let c' := { c' with fclk := f }
        if c.async && s.input g selSr then { c' with q0 := c.srv0, q1 := c.srv1 } else c'

/-- Has global clock k an edge in the nanosecond that begins at t (R382: 3,200 MHz / (DIV + 1))? -/
def State.gcDue (s : State) (k t : Nat) : Bool :=
  let d := 5 * (s.fld (LGC_GC k) LGC_GC_DIV + 1)
  decide (t * 16 / d < (t + 1) * 16 / d)

/-- The fabric through the nanosecond that begins at t. -/
def State.fabricTick (s : State) (t : Nat) : State :=
  if s.lgc.cells.isEmpty && s.lgc.ports.isEmpty then s
  else ((List.range 8).foldl (fun s k => if s.gcDue k t then s.gcEdge k else s) s).fabricFree

/-! ### Operations of a region (R385, Table 10.6) -/

/-- The outputs of a region as they stand. -/
def State.outputsNow (s : State) (r : Nat) : List Bool :=
  (List.range 96).map fun j => s.source (r / 16) (96 * (r % 16) + j)

/-- The clocks of a region stop; its outputs stay as they are. -/
def State.freeze (s : State) (r : Nat) : State := s.setRegion r { s.region r with frozen := s.outputsNow r }

/-- The flip-flops of a region take INIT. -/
def State.toInit (s : State) (r : Nat) : State :=
  (List.range 32).foldl (fun s m =>
    let g := 32 * r + m
    let c := s.lcell g
    s.setLcell g { c with q0 := c.init0, q1 := c.init1 }) s

/-- The ports of a region (R381). -/
def State.portsOf (s : State) (r : Nat) : List Nat :=
  ((List.range 16).map (r / 16 * 16 + ·)).filter fun p =>
    let a := LGC_PORT_CFG (p / 16) (p % 16)
    s.bit a LGC_PORT_CFG_EN && s.fld a LGC_PORT_CFG_REGION == r % 16

def State.rgBadop (s : State) (r : Nat) : State := s.flag (LGC_RG_STATUS r) LGC_RG_STATUS_BADOP

/-- A release (R388): the region runs, its holds end, its ports' border states end with their first words. -/
def State.rgRelease (s : State) (r : Nat) : State :=
  (s.portsOf r).foldl (fun s p => s.releaseBorder (960 + p)) ((s.setRgState r rgRun).setF (LGC_RG_STATUS r) LGC_RG_STATUS_CAUSE 0)

def State.rgEnable (s : State) (r : Nat) : State :=
  let st := s.rgState r
  if st = rgRun then s
  else if st = rgStopped then s.setRgState r rgRun
  else if st = rgLoaded then s.rgRelease r
  else s.rgBadop r

def State.rgDisable (s : State) (r : Nat) : State :=
  if s.rgState r = rgRun then (s.freeze r).setRgState r rgStopped else s

def State.rgClear (s : State) (r : Nat) : State :=
  let a := LGC_RG_STATUS r
  let s := (s.setF a LGC_RG_STATUS_BADOP 0).setF a LGC_RG_STATUS_LATE 0
  if s.rgRebuilt r then s else
    let s := s.toInit r
    if s.rgState r = rgStopped then s.setRegion r { s.region r with
      frozen := (s.region r).frozen.mapIdx fun j b =>
        match j % 3 with
        | 0 => b
        | 1 => (s.lcell (32 * r + j / 3)).q0
        | _ => (s.lcell (32 * r + j / 3)).q1 }
    else s

/-- RECONF (R386, R387): the clocks stop, holds take effect, the region's ports enter border state, the load runs. -/
def State.rgReconf (s : State) (q : Req) (r : Nat) (auto : Bool) : State :=
  if s.rgState r = rgLoading then s.rgBadop r
  else
    let gen := match q with | .inst i => s.fld (INST_STATE i) INST_STATE_GEN | _ => 0
    let s := if s.rgState r = rgRun then s.freeze r else s
    let s := s.setRegion r { s.region r with auto := auto, issuer := q, gen := gen, issuerReset := false }
    let s := (s.setRgState r rgLoading).setF (LGC_RG_STATUS r) LGC_RG_STATUS_CAUSE 0
    (s.portsOf r).foldl (fun s p => s.enterBorder (960 + p)) s

/-- The unit operations of a region: 0 ENABLE, 1 DISABLE, 7 CLEAR; RECONF is reached through LGC_RG_CTL. -/
def State.rgUcmd (s : State) (r code : Nat) : Option State :=
  match code with
  | 0 => some (s.rgEnable r)
  | 1 => some (s.rgDisable r)
  | 7 => some (s.rgClear r)
  | _ => none

/-- A write to LGC_RG_CTL (R385). -/
def State.rgCtlWrite (s : State) (q : Req) (r : Nat) (v : Word) : State :=
  let a := LGC_RG_CTL r
  if reservedEncoding (fieldsAt a) v then s.rsvd q a true
  else
    let s := s.regWrite q a v
    match fieldGet LGC_RG_CTL_CMD v with
    | 1 => s.rgEnable r
    | 2 => s.rgDisable r
    | 3 => s.rgClear r
    | 4 => s.rgReconf q r (fieldGet LGC_RG_CTL_AUTO v == 1)
    | _ => s

/-- LGC_ENABLE. -/
def execLgcEnable (q : Req) (r : Fin 256) (s : State) : Host.Outcome State Fault Refusal :=
  .next (s.guardWrite q (LGC_RG_CTL r.val) fun s => s.rgCtlWrite q r.val 1)
/-- LGC_DISABLE. -/
def execLgcDisable (q : Req) (r : Fin 256) (s : State) : Host.Outcome State Fault Refusal :=
  .next (s.guardWrite q (LGC_RG_CTL r.val) fun s => s.rgCtlWrite q r.val 2)
/-- LGC_CLEAR. -/
def execLgcClear (q : Req) (r : Fin 256) (s : State) : Host.Outcome State Fault Refusal :=
  .next (s.guardWrite q (LGC_RG_CTL r.val) fun s => s.rgCtlWrite q r.val 3)
/-- LGC_RECONF. -/
def execLgcReconf (q : Req) (r : Fin 256) (auto : Bool) (s : State) : Host.Outcome State Fault Refusal :=
  .next (s.guardWrite q (LGC_RG_CTL r.val) fun s => s.rgCtlWrite q r.val (if auto then 0x104 else 4))

/-- A late stamped operation of a region (R385). -/
def State.rgLate (s : State) (r : Nat) : State := s.flag (LGC_RG_STATUS r) LGC_RG_STATUS_LATE

/-! ### Region images (R387, Tables 10.2, 10.3 and 10.7) -/

/-- The number in n bytes of an image at an offset. -/
def at' (l : List Byte) (o n : Nat) : Nat := natOf ((l.drop o).take n)

/-- The cell a record describes (Table 10.3); its flip-flops at INIT. -/
def readCell (l : List Byte) : LCell :=
  let b30 := at' l 30 1
  let b31 := at' l 31 1
  { lut := BitVec.ofNat 64 (at' l 0 8)
    sel := (List.range 11).map fun k => at' l (8 + 2 * k) 2 % 4096
    mode := b30 % 2
    comb := b30 / 2 % 4
    clk := b30 / 8 % 16
    async := bitOf b30 7
    d0 := b31 % 4
    d1 := b31 / 4 % 4
    init0 := bitOf b31 4
    init1 := bitOf b31 5
    srv0 := bitOf b31 6
    srv1 := bitOf b31 7
    q0 := bitOf b31 4
    q1 := bitOf b31 5
    fclk := false }

/-- Does a record hold a reserved value (Table 10.3, Table 10.1)? -/
def recordReserved (l : List Byte) : Bool :=
  let c := readCell l
  ((List.range 11).any fun k =>
      let x := at' l (8 + 2 * k) 2
      decide (4096 ≤ x) || (decide (2082 ≤ x) && !(k == selCi && x == 4095)))
    || decide (9 ≤ c.clk ∧ c.clk < 15) || c.d0 == 3 || c.d1 == 3 || at' l 32 32 != 0

/-- The cells of a combined group (Table 10.4). -/
def combSize (k : Nat) : Nat := match k with | 0 => 1 | 1 => 2 | 2 => 8 | _ => 16

/-- The content check of the records of one region (Table 10.7, CONTENT). -/
def contentOk (cs : List LCell) : Bool :=
  ((List.range 32).all fun m =>
    let c := cs.getD m LCell.reset
    let n := combSize c.comb
    !(c.clk == 8 && m % 8 != 0) && m % n == 0
      && ((List.range (n - 1)).all fun j => (cs.getD (m + 1 + j) LCell.reset).comb == 0))
    && (cs.getD 0 LCell.reset).sel.getD selCi 0 != 4095

/-- The first failing cause of an image for region r (Table 10.7); 0 where it passes. `gcen` is the region's GCEN. -/
def imageCause (l : List Byte) (gcen : Nat) : Nat :=
  let recs := (List.range 32).map fun m => (l.drop (64 + 64 * m)).take 64
  if at' l 0 4 ≠ 0x4C470001 then 2
  else if at' l 4 4 ≠ (crc32 (l.drop 8)).toNat then 3
  else if at' l 9 55 ≠ 0 ∨ at' l 2112 1984 ≠ 0 ∨ recs.any recordReserved
      ∨ ((List.range 8).any fun k => bitOf (at' l 8 1) k && !bitOf gcen k)
      ∨ !contentOk (recs.map readCell) then 4
  else 0

/-- The load of an image fails (R387): the cells hold INIT with their clocks stopped. -/
def State.rgFail (s : State) (r cause : Nat) : State :=
  ((s.setRgState r rgFailed).setF (LGC_RG_STATUS r) LGC_RG_STATUS_CAUSE cause).toInit r

/-- The records of an image take effect (R387); every bit of their frames is essential, and what the scan had found in
them is gone (R614, R617). -/
def State.rgLoad (s : State) (r : Nat) (l : List Byte) : State :=
  let ours {α : Type} (t : Tbl α) : Tbl α := t.filter fun x => x.1 / 16 != 0x8000000 + r
  let s := { s with boot := { s.boot with ess := ours s.boot.ess, upsets := ours s.boot.upsets } }
  (List.range 32).foldl (fun s m => s.setLcell (32 * r + m) (readCell ((l.drop (64 + 64 * m)).take 64))) s

/-- The requester code an access of the logic loader is logged under: its issuer's. -/
def State.rgReq (s : State) (r : Nat) : Nat := reqCode (s.region r).issuer

/-- RECONF_LOAD_END (R387). -/
def execReconfLoadEnd (r : Fin 256) (s : State) : Host.Outcome State Fault Refusal :=
  let r := r.val
  if s.rgState r ≠ rgLoading then .next s
  else if (s.region r).issuerReset then .next (s.rgFail r 5)
  else
    let o := s.fld (LGC_RG_IMG_HI r) LGC_RG_IMG_HI_ADDR_HI * 2 ^ 32 + (s.reg (LGC_RG_IMG_LO r) &&& ~~~ 63).toNat
    match s.locOff o, s.locOff (o + 4095) with
    | .mem a, .mem b =>
      if 0x6100000000 ≤ a ∨ b ≠ a + 4095 then .next (s.rgFail r 1)
      else match s.memRead (s.rgReq r) a 4096 with
        | (none, s) => .next (s.rgFail r 1)
        | (some l, s) =>
          match imageCause l (s.fld (LGC_RG_CFG r) LGC_RG_CFG_GCEN) with
          | 0 =>
            let s := (s.rgLoad r l).setRgState r rgLoaded
            .next (if (s.region r).auto then s.rgRelease r else s)
          | c => .next (s.rgFail r c)
    | _, _ => .next (s.rgFail r 1)

/-! ### Ports (R380) -/

/-- LOGIC_PORT_RX: the word that has arrived at a port's destination side goes into its FIFO of 8 words, a trio whole. -/
def execLogicPortRx (p : Fin 256) (s : State) : Host.Outcome State Fault Refusal :=
  match s.takeArrived (960 + p.val) with
  | none => .next s
  | some (w, s) =>
    let x := s.lport p.val
    if 8 < x.fifo.length + w.size then
      let a := LGC_STATUS (p.val / 16)
      .next (s.put a (s.reg a ||| BitVec.ofNat 32 (2 ^ (p.val % 16))))
    else
      let l := match w.stamp with | some (a, b) => [w.word, a, b] | none => [w.word]
      .next (s.setLport p.val { x with fifo := x.fifo ++ l })

/-! ### Staged settings (R395) -/

/-- The checks of Table 10.9 on a tile's staged state. -/
def State.lgcStageOk (s : State) (t : Nat) : Bool :=
  let gcOn (k : Nat) : Bool := s.shFld (LGC_GC k) LGC_GC_EN == 1
  let ps := (List.range 16).filter fun p => s.shFld (LGC_PORT_CFG t p) LGC_PORT_CFG_EN == 1
  (ps.all fun p => gcOn (s.shFld (LGC_PORT_CFG t p) LGC_PORT_CFG_GC))
    && (ps.all fun p =>
      bitOf (s.shFld (LGC_RG_CFG (16 * t + s.shFld (LGC_PORT_CFG t p) LGC_PORT_CFG_REGION)) LGC_RG_CFG_GCEN)
        (s.shFld (LGC_PORT_CFG t p) LGC_PORT_CFG_GC))
    && (List.range 16).all fun r => (List.range 8).all fun k =>
      !bitOf (s.shFld (LGC_RG_CFG (16 * t + r)) LGC_RG_CFG_GCEN) k || gcOn k

/-- After an application, LGC_RG_STATUS shows the active CAP and PRB. -/
def State.lgcApplied (s : State) (r : Nat) : State :=
  (s.setF (LGC_RG_STATUS r) LGC_RG_STATUS_CAP (s.fld (LGC_RG_CFG r) LGC_RG_CFG_CAP)).setF
    (LGC_RG_STATUS r) LGC_RG_STATUS_PRB (s.fld (LGC_RG_CFG r) LGC_RG_CFG_PRB)

/-! ### Capture and probes (R390-R394) -/

/-- The clock of the capture. -/
def State.capGc (s : State) : Nat := s.fld OBS_CAP_CTL OBS_CAP_CTL_GC

/-- The trigger of an armed capture (R391, R392); while DONE is 1 it is ignored. -/
def State.capTrigger (s : State) : State :=
  if !s.bit OBS_STATUS OBS_STATUS_ARMED || s.debugLock then s
  else if s.bit OBS_STATUS OBS_STATUS_DONE then s.flag OBS_STATUS OBS_STATUS_MISSED
  else { s with lgc := { s.lgc with obs := { s.lgc.obs with triggered := true } } }

/-- The stamp of an ANGLE trigger. -/
def State.capStamp (s : State) : Stamp :=
  (s.reg OBS_CAP_ANG_HI).extractLsb' 0 16 ++ s.reg OBS_CAP_ANG_LO

/-- A write to OBS_CAP_CTL (R390, R391). A stamp beyond the horizon is refused (R55): nothing is armed; chapter 10 has no
report of it (log entry 94). -/
def State.capCtlWrite (s : State) (q : Req) (v : Word) : State :=
  if s.debugLock then s.flag OBS_STATUS OBS_STATUS_DENIED
  else if reservedEncoding (fieldsAt OBS_CAP_CTL) v then s.rsvd q OBS_CAP_CTL true
  else
    let s := s.regWrite q OBS_CAP_CTL v
    if fieldGet OBS_CAP_CTL_ARM v = 0 then s
    else if fieldGet OBS_CAP_CTL_TRIG v = 1 ∧ Stamp.beyond s.capStamp s.angle = true then s
    else
      let s := s.flag OBS_STATUS OBS_STATUS_ARMED
      let s := { s with lgc := { s.lgc with obs := { s.lgc.obs with triggered := false } } }
      let s := (s.discardOps fun o => o.kind == kindCapture).2
      match s.fld OBS_CAP_CTL OBS_CAP_CTL_TRIG with
      | 0 => s.capTrigger
      | 1 =>
        if s.late s.capStamp .fwd 50 then (s.flag OBS_STATUS OBS_STATUS_LATE).capTrigger
        else s.enqueue ⟨kindCapture, 0, s.capStamp, .fwd, .capture, q, 0⟩
      | _ => s

/-- A write to OBS_PRB (R390). -/
def State.prbWrite (s : State) (q : Req) (a : Nat) (v : Word) : State :=
  if s.debugLock then s.flag OBS_STATUS OBS_STATUS_DENIED else s.regWrite q a v

/-- OBS_CAP_ARM: a write of 1 to OBS_CAP_CTL.ARM with the other fields given. -/
def execObsCapArm (q : Req) (v : BitVec 31) (s : State) : Host.Outcome State Fault Refusal :=
  .next (s.guardWrite q OBS_CAP_CTL fun s => s.capCtlWrite q ((1 : BitVec 1) ++ v))

/-- OBS_TRIGGER: the fabric source of a FABRIC trigger rises (R391). -/
def execObsTrigger (s : State) : Host.Outcome State Fault Refusal :=
  .next (if s.fld OBS_CAP_CTL OBS_CAP_CTL_TRIG = 2 then s.capTrigger else s)

/-- Is a region captured (R390, R392)? -/
def State.captured (s : State) (r : Nat) : Bool :=
  s.bit (LGC_RG_CFG r) LGC_RG_CFG_CAP && (s.rgState r == rgRun || s.rgState r == rgStopped)

/-- The four bits of a captured cell (R393): Q0 and Q1 after the edge, O and CO before it. -/
def capNibble (before after : State) (g : Nat) : Nat :=
  if !before.captured (g / 32) then 0
  else (after.lcell g).q0.toNat + 2 * (after.lcell g).q1.toNat + 4 * (before.level fabricFuel (.out g)).toNat
    + 8 * (before.level fabricFuel (.co g)).toNat

/-- The buffer of a capture (R393); cells without a record read 0. -/
def capBuffer (before after : State) : Tbl Word :=
  before.lgc.cells.foldl (fun b (g, _) =>
    let a := g / 512 * 64 + g % 512 / 8
    tblSet (fun _ => 0) b a (tblGet (fun _ => 0) b a ||| BitVec.ofNat 32 (capNibble before after g * 2 ^ (4 * (g % 8))))) []

/-- OBS_CAPTURE (R392): the N-th edge of the capture clock after the trigger. -/
def execObsCapture (s : State) : Host.Outcome State Fault Refusal :=
  if !(s.bit OBS_STATUS OBS_STATUS_ARMED && s.lgc.obs.triggered && s.gcOn s.capGc) || s.debugLock then .next s
  else
    let s' := s.gcEdge s.capGc
    let buf := capBuffer s s'
    let s' := { s' with lgc := { s'.lgc with obs := ⟨false, buf⟩ } }
    let s' := (List.range 8).foldl (fun s' n =>
      s'.put (OBS_CAP_RV n) (BitVec.ofNat 32 ((List.range 32).foldl (fun v i => v + (s.captured (32 * n + i)).toNat * 2 ^ i) 0))) s'
    let s' := (s'.put OBS_CAP_TIME_LO (s.ang.time.extractLsb' 0 32)).put OBS_CAP_TIME_HI ((s.ang.time.extractLsb' 32 16).zeroExtend 32)
    let s' := (s'.put OBS_CAP_STAMP_LO (s.angle.extractLsb' 0 32)).put OBS_CAP_STAMP_HI ((s.angle.extractLsb' 32 16).zeroExtend 32)
    .next ((s'.flag OBS_STATUS OBS_STATUS_DONE).setF OBS_STATUS OBS_STATUS_ARMED 0)

/-- The capture clock stops while armed (R392). -/
def State.capClockLost (s : State) (k : Nat) : State :=
  if s.bit OBS_STATUS OBS_STATUS_ARMED && s.capGc == k then
    (s.flag OBS_STATUS OBS_STATUS_LOST).setF OBS_STATUS OBS_STATUS_ARMED 0
  else s

/-- A read of OBS_CAP_DATA (R393): 0 under the debug lock. -/
def State.capDataRead (s : State) : Word × State :=
  let a := s.fld OBS_CAP_ADDR OBS_CAP_ADDR_ADDR
  (if s.debugLock then 0 else tblGet (fun _ => 0) s.lgc.obs.buf a, s.setF OBS_CAP_ADDR OBS_CAP_ADDR_ADDR (a + 1))

/-- OBS_CAP_DATA_READ. -/
def execObsCapDataRead (q : Req) (s : State) : Host.Outcome State Fault Refusal :=
  .next (s.guardRead q OBS_CAP_DATA fun s => s.capDataRead)

/-- The level of probe channel k (R390, R394). -/
def State.probe (s : State) (k : Nat) : Bool :=
  let a := OBS_PRB k
  let t := s.fld a OBS_PRB_TILE
  let x := s.fld a OBS_PRB_SRC
  s.bit a OBS_PRB_EN && !s.debugLock
    && (decide (1536 ≤ x) || s.bit (LGC_RG_CFG (16 * t + x / 96)) LGC_RG_CFG_PRB) && s.source t x

end Sys2Proof.Machine
end

