-- ==== Sys2Proof/Machine/Irq.lean ====
section
/-! DEFINITION. The interrupt controller (sections 13.1-13.3). -/

namespace Sys2Proof.Machine

/-- Does any slot of the mailbox ring of 1 KiB at an SRAM offset hold POSTED (R569, Table 16.8)? -/
def State.mailPosted (s : State) (en : Bool) (tile off : Nat) : Bool :=
  en && (List.range 8).any fun k =>
    let a := 0x6000000000 + tile * 0x400000 + off * 0x400 + k * 128 + 64
    (List.range 4).map (fun j => s.byteAt (a + j)) == [some 1, some 0, some 0, some 0]

/-- Does a matcher match (R476)? -/
def State.pmMatch (s : State) (m : Nat) : Bool :=
  let w := s.fld (PM_CTL m) PM_CTL_WIN
  let lv : Word := BitVec.ofNat 32 (s.fld (PIN_IN (2 * w + 1)) PIN_IN_LVL * 65536 + s.fld (PIN_IN (2 * w)) PIN_IN_LVL)
  s.bit (PM_CTL m) PM_CTL_EN && s.reg (PM_MASK m) != 0 && ((lv ^^^ s.reg (PM_VAL m)) &&& s.reg (PM_MASK m)) == 0

/-- Is a source an event source (Table 13.1 and the tables it names)? -/
def State.isEvent (s : State) (n : Nat) : Bool :=
  decide (0x780 ≤ n ∧ n ≤ 0x78F) || (decide (0x790 ≤ n ∧ n ≤ 0x7AF) && s.fld (PM_CTL (n - 0x790)) PM_CTL_MODE != 0)
    || [0x7B1, 0x7B2, 0x7C0, 0x7C1, 0x7C2, 0x7C3, 0x7C4, 0x7C7, 0x7C8, 0x7C9, 0x7D0, 0x7D2, 0x7E1, 0x7E4, 0x7E6, 0x7E7,
        0x7F1, 0x7F2, 0x7F3, 0x812, 0x813, 0x814, 0x820, 0x821].contains n || decide (0x900 ≤ n ∧ n ≤ 0x9FF)

/-- Is a level source asserted (Table 13.1 and the tables it names)? -/
def State.asserted (s : State) (n : Nat) : Bool :=
  if n < 0x200 then
    s.bit (DRV_STATUS n) DRV_STATUS_SKIP || s.bit (DRV_STATUS n) DRV_STATUS_IWIN
      || (s.bit (DRV_STATUS n) DRV_STATUS_TRIPPED && s.bit (DRV_CFG n) DRV_CFG_TRIP_IE)
  else if n < 0x400 then
    let a := CEL_STATUS (n - 0x200)
    s.bit a CEL_STATUS_DROP || s.bit a CEL_STATUS_POISON || s.bit a CEL_STATUS_OC || s.bit a CEL_STATUS_STARVE
      || s.bit a CEL_STATUS_HTO
  else if n < 0x440 then
    let a := CVG_STATUS (n - 0x400)
    s.bit a CVG_STATUS_BADOP || s.bit a CVG_STATUS_POISON || s.bit a CVG_STATUS_LATE || s.bit a CVG_STATUS_URG_OVR
  else if n < 0x480 then s.bit (FLT_STATUS (n - 0x440)) FLT_STATUS_DROP || s.bit (FLT_STATUS (n - 0x440)) FLT_STATUS_POISON
  else if n < 0x580 then (s.ctx (n - 0x480)).sovr
  else if n < 0x680 then s.bit (IRQ_UF_STAT (n - 0x580)) IRQ_UF_STAT_VALID
  else if n < 0x780 then
    let a := HOST_QP_MBX (n - 0x680)
    s.mailPosted (s.bit a HOST_QP_MBX_EN) ((n - 0x680) / 16) (s.fld a HOST_QP_MBX_OFF)
  else if 0x790 ≤ n ∧ n ≤ 0x7AF then s.fld (PM_CTL (n - 0x790)) PM_CTL_MODE == 0 && s.pmMatch (n - 0x790)
  else if 0xA00 ≤ n ∧ n ≤ 0xAFF then s.source ((n - 0xA00) / 16) (96 * ((n - 0xA00) % 16) + 95)
  else match n with
    | 0x7B0 => s.fld ECC_LOG_CTL ECC_LOG_CTL_COUNT != 0
    | 0x7B3 => s.bit PIN_STATUS PIN_STATUS_PIN_REJ
    | 0x7C5 => s.bit LEAT_STATUS LEAT_STATUS_DIST_LOST
    | 0x7C6 => s.bit LEAT_STATUS LEAT_STATUS_WRAP
    | 0x7D1 => s.bit TWIN_STATUS TWIN_STATUS_MISMATCH
    | 0x7D3 => s.bit TWIN_STATUS TWIN_STATUS_HBLOST
    | 0x7D4 => s.bit TWIN_STATUS TWIN_STATUS_POSCONF
    | 0x7E0 => s.mailPosted (s.bit HOST_SV_MBX HOST_SV_MBX_EN) (s.fld HOST_SV_MBX HOST_SV_MBX_TILE)
        (s.fld HOST_SV_MBX HOST_SV_MBX_OFF)
    | 0x7E2 => s.bit JNL_STATUS JNL_STATUS_RWAIT
    | 0x7E3 => s.bit JNL_STATUS JNL_STATUS_DEGRADED
    | 0x7E5 => s.bit HOST_UART_STAT HOST_UART_STAT_RXAV
    | 0x7F0 => s.bit BOOT_CI_STATUS BOOT_CI_STATUS_ALARM
    | 0x810 => s.bit PWR_STATUS PWR_STATUS_TWARN
    | 0x811 => s.bit PWR_STATUS PWR_STATUS_VAHI_E_UV || s.bit PWR_STATUS PWR_STATUS_VAHI_W_UV
        || s.fld PWR_VIO_UV PWR_VIO_UV_UV != 0
    | 0x822 => s.bit TST_STATUS TST_STATUS_OVERDUE
    | _ => false

/-- A source as it is before anything has happened to it. -/
def srcIdle (_ : Nat) : IrqSrc := ⟨.idle, 0, false⟩

/-- A source's state. -/
def State.irqSrc (s : State) (n : Nat) : IrqSrc := tblGet srcIdle s.irq.src n

/-- Setting a source's state. -/
def State.setIrqSrc (s : State) (n : Nat) (x : IrqSrc) : State :=
  { s with irq := { s.irq with src := tblSet srcIdle s.irq.src n x } }

/-- An occurrence waits to be taken up. -/
def State.occurred (s : State) (n : Nat) : Bool := tblGet (fun _ => false) s.irq.occ n

/-- The occurrences of a source have been taken up. -/
def State.occTaken (s : State) (n : Nat) : State :=
  { s with irq := { s.irq with occ := tblSet (fun _ => false) s.irq.occ n false } }

/-- MSI-X messages of the PF as a source changes (R553): vector 1 on an event of a host source, vectors 2-33 where a
source named goes from IDLE to PENDING. -/
def State.irqTell (s : State) (n : Nat) (event raised : Bool) : State :=
  let s := if 0x7E0 ≤ n ∧ n ≤ 0x7E7 ∧ (event || raised) then s.send (.msix 0 1) else s
  if !raised then s
  else (List.range 32).foldl (fun s k =>
    if s.bit (HOST_PF_VEC k) HOST_PF_VEC_EN && s.fld (HOST_PF_VEC k) HOST_PF_VEC_SRC == n then s.send (.msix 0 (k + 2))
    else s) s

/-- A source changes state under Table 13.2, claims and ends of claims apart. -/
def State.irqChange (s : State) (n : Nat) : State :=
  let x := s.irqSrc n
  let ev := s.occurred n
  let s := s.occTaken n
  if s.isEvent n then
    if !ev then s
    else match x.phase with
      | .idle => (s.setIrqSrc n { x with phase := .pending }).irqTell n true true
      | .pending => s.irqTell n true false
      | .claimed => (s.setIrqSrc n { x with re := true }).irqTell n true false
  else match x.phase with
    | .idle => if s.asserted n then (s.setIrqSrc n { x with phase := .pending }).irqTell n false true else s
    | .pending => if s.asserted n then s else s.setIrqSrc n (srcIdle n)
    | .claimed => s

/-- IRQ_SOURCE_CHANGE (R456), while domain 24 runs (R40). -/
def execIrqSourceChange (n : Fin 4096) (s : State) : Host.Outcome State Fault Refusal :=
  .next (if s.halted 24 then s else s.irqChange n.val)

/-- A source as a requester's view shows it (R458). -/
def State.irqShown (s : State) (q : Req) (n : Nat) : Bool :=
  (s.irqSrc n).phase == .pending &&
    (match q with
     | .inst i => bitOf (s.reg (IRQ_TMASK n (i.val / 32))).toNat (i.val % 32)
     | .sup => s.bit (IRQ_TCTL n) IRQ_TCTL_SV
     | .host | .jtag => true
     | .smbus | .remote | .catchup => false)

/-- IRQ_PEND[w] as a requester sees it. -/
def State.irqView (s : State) (q : Req) (w : Nat) : Word :=
  wordOfBits ((List.range 32).map fun b => s.irqShown q (32 * w + b))

/-- Does a requester's view hold any 1 (R459)? Sources that are not idle are listed. -/
def State.irqPending (s : State) (q : Req) : Bool := s.irq.src.any fun x => s.irqShown q x.1

/-- A claim (R461, R462): the register holds the requester's result. -/
def State.irqClaim (s : State) (q : Req) (n : Nat) : State :=
  let k := IRQ_CLAIM (reqCode q)
  if n < 4096 ∧ s.irqShown q n = true then
    (s.setIrqSrc n { s.irqSrc n with phase := .claimed, claimer := reqCode q }).setF k IRQ_CLAIM_SRC n
  else s.setF k IRQ_CLAIM_SRC 0xFFF

/-- A write to IRQ_CLAIM. -/
def State.irqClaimWrite (s : State) (q : Req) (v : Word) : State :=
  (s.regWrite q (IRQ_CLAIM (reqCode q)) v).irqClaim q (fieldGet IRQ_CLAIM_SRC v)

/-- The address of IRQ_CLAIM as a requester writes it, and its TSEL. -/
def irqClaimAddr : Nat := 0xF0040004
def irqTselAddr : Nat := 0xF0040010

/-- IRQ_CLAIM_WRITE (R461). -/
def execIrqClaimWrite (q : Req) (v : Word) (s : State) : Host.Outcome State Fault Refusal :=
  .next (s.guardWrite q irqClaimAddr fun s => s.irqClaimWrite q v)

/-- IRQ_CLAIM_READ (R461). -/
def execIrqClaimRead (q : Req) (s : State) : Host.Outcome State Fault Refusal :=
  .next (s.guardRead q irqClaimAddr fun s => (s.reg (IRQ_CLAIM (reqCode q)), s))

/-- The end of a claim (Table 13.2). -/
def State.irqEnd (s : State) (n : Nat) : State :=
  let x := s.irqSrc n
  if (!s.isEvent n && s.asserted n) || x.re then s.setIrqSrc n ⟨.pending, 0, false⟩ else s.setIrqSrc n (srcIdle n)

/-- A write to IRQ_DONE (R463; JTAG: R706). -/
def State.irqDone (s : State) (q : Req) (v : Word) : State :=
  let n := fieldGet IRQ_DONE_SRC v
  let s := s.regWrite q IRQ_DONE v
  let x := s.irqSrc n
  let may := x.claimer == reqCode q || (match q with | .sup | .host | .jtag => true | _ => false)
  if x.phase == .claimed && may then s.irqEnd n else s.flag IRQ_STATUS IRQ_STATUS_DONE_REJ

/-- IRQ_DONE. -/
def execIrqDone (q : Req) (v : Word) (s : State) : Host.Outcome State Fault Refusal :=
  .next (s.guardWrite q IRQ_DONE fun s => s.irqDone q v)

/-- A write to IRQ_SWSET (R465). -/
def State.irqSwset (s : State) (q : Req) (v : Word) : State :=
  let s' := s.regWrite q IRQ_SWSET v
  if reservedEncoding (fieldsAt IRQ_SWSET) v then s' else s'.occur (fieldGet IRQ_SWSET_SRC v)

/-- IRQ_SWSET. -/
def execIrqSwset (q : Req) (v : Word) (s : State) : Host.Outcome State Fault Refusal :=
  .next (s.guardWrite q IRQ_SWSET fun s => s.irqSwset q v)

/-- IRQ_TCTL of a source as it reads: the target bit and the source's state. -/
def State.irqTctl (s : State) (n : Nat) : Word :=
  let x := s.irqSrc n
  let ph := match x.phase with | .idle => 0 | .pending => 1 | .claimed => 2
  (s.reg (IRQ_TCTL n) &&& 0x80000000)
    ||| BitVec.ofNat 32 (ph * 2 ^ 16 + (s.isEvent n).toNat * 2 ^ 15 + x.re.toNat * 2 ^ 14
      + (if ph = 2 then x.claimer else 0))

/-- The interrupt side of an instance reset (R464). -/
def State.irqReset (s : State) (i : Nat) : State :=
  let s := (s.irq.src.filter fun x => x.2.phase == .claimed && x.2.claimer == i).foldl (fun s x => s.irqEnd x.1) s
  let s := ((s.put (IRQ_UF_STAT i) 0).put (IRQ_UF_UNIT i) 0).occTaken (0x900 + i)
  let drop (s : State) (n : Nat) : State :=
    if (s.irqSrc n).phase == .claimed then s.setIrqSrc n { s.irqSrc n with re := false } else s.setIrqSrc n (srcIdle n)
  drop (drop s (0x580 + i)) (0x900 + i)

/-- A fault of a remote leaf reaches an instance (R36, R466). -/
def State.unitFault (s : State) (i unit sub gen : Nat) : State :=
  if gen % 256 ≠ s.fld (INST_STATE i) INST_STATE_GEN then s
  else if s.bit (IRQ_UF_STAT i) IRQ_UF_STAT_VALID then s.flag (IRQ_UF_STAT i) IRQ_UF_STAT_MORE
  else (s.put (IRQ_UF_UNIT i) (BitVec.ofNat 32 unit)).put (IRQ_UF_STAT i)
    (BitVec.ofNat 32 (2 ^ 31 + sub % 256 * 2 ^ 8 + gen % 256))

end Sys2Proof.Machine
end

