-- ==== Sys2Proof/Machine/Fence.lean ====
section
/-! DEFINITION. The fence (R97, R98), the halt of the supervisor core (R122), loss of a clock (R40). -/

namespace Sys2Proof.Machine

/-- A machine check that concerns no context: CW_MCAUSE.SOURCE is a free value (log entry 30). -/
def State.deviceCheck (s : State) (code : Nat) : State :=
  let (f, s) := s.free
  s.machineCheck code (f % 512) 0 0

/-- Every instance context is to be held. -/
def State.holdAll (s : State) (src : Nat) : State := (List.range 256).foldl (fun s c => s.holdCtx c src) s

/-- A fence ends a wait of the supervisor core with nothing changed (R142): the waiting instruction issues again. -/
def State.wakeSup (s : State) : State :=
  if s.ctxState ctxSup = ctxWait then (s.endWait ctxSup).setCtxState ctxSup ctxRun else s

/-- A message to the twin partner (chapter 15), on the twin port; the partner holds this device's index. Its first
field says what it is: 1 heartbeat, 2 FAULT, 3 digest, 4 ATTACH, 5 SWAP, 6 DETACH, 7 durable report, 8 mirrored
traffic, 9 result of the epoch check, 10 READY, 11 catch-up, 12 the mirror has ended. -/
def State.partnerSend (s : State) (l : List Nat) : State := s.send (.leat .twin s.dev l)

/-- A primary drops TWIN_SEL and sends FAULT with the cause as its first act (R533, R543). -/
def State.twinDrop (s : State) (cause : Nat) : State :=
  if s.fld TWIN_STATUS TWIN_STATUS_ROLE = 1 ∧ !s.twin.dropped then
    ({ s with twin := { s.twin with dropped := true } }.setF TWIN_STATUS TWIN_STATUS_SEL 0).partnerSend [2, cause]
  else s

/-- The device fences with a cause; while fenced a further cause only sets MORE (R97, R98). -/
def State.fence (s : State) (cause : Nat) : State :=
  if s.fenced then s.flag ANG_FENCE ANG_FENCE_MORE
  else
    let s := (s.flag ANG_STATUS ANG_STATUS_FENCED).setF ANG_FENCE ANG_FENCE_CAUSE cause
    let s := ((s.twinDrop cause).latchDrvs 2).latchCells 2
    let s := (List.range 64).foldl (fun s g => s.cvgFence g) s
    ((s.holdAll 2).wakeSup).deviceCheck 0x04

/-- The causes of a fence that hold now (R98): a lost clock, PFAIL, the supervisor core held, EXTEST or
HIGHZ (R688). -/
def State.fenceCauses (s : State) : List Nat :=
  (if s.clockUnsafe then [0x03] else []) ++ (if s.bit PWR_STATUS PWR_STATUS_PFL then [0x13] else [])
    ++ (if s.ctxState ctxSup == ctxHeld then [0x10] else []) ++ (if s.tapDrives then [0x14] else [])

/-- The fence is lifted (R98); a cause that still holds fences the device anew. -/
def State.liftFence (s : State) : State :=
  let s := { s with twin := { s.twin with dropped := false } }
  let s := ((s.setF ANG_STATUS ANG_STATUS_FENCED 0).setF ANG_FENCE ANG_FENCE_CAUSE 0).setF ANG_FENCE ANG_FENCE_MORE 0
  s.fenceCauses.foldl (fun s c => s.fence c) s.refreshCells

/-- The supervisor core halts (R122): it is held and the device fences; HOST_STATUS.SVHALT and source 0x7E1. -/
def State.supHalt (s : State) : State :=
  (((s.endWait ctxSup).setCtxState ctxSup ctxHeld).flag HOST_STATUS HOST_STATUS_SVHALT).occur 0x7E1 |>.fence 0x10

end Sys2Proof.Machine
end

