-- ==== Sys2Proof/Machine/Angle.lean ====
section
/-! DEFINITION. The angle sources, the tracking loops, loss, backup and coasting, the marks (sections 2.1-2.5).
Angles of a loop are in 2^-16 au modulo 2^64 (R53); instants of measurements are given as ages in steps of 125 ps. -/

namespace Sys2Proof.Machine

/-! ### Arithmetic -/

/-- The quotient held to the internal precision; how an inexact one is rounded is open (log entry 3). -/
def quot (n : Int) (d : Nat) : Int :=
  if n % (d : Int) = 0 then n / (d : Int) else n / (d : Int) + (Config.loopRoundUp n d).toNat

/-- The angle of a position: `sub` steps per unit, `epc` units per cycle, each unit held to 48 fraction bits (R59). -/
def angleOf (epc sub : Nat) (pos : Int) : BitVec 64 :=
  let n : Int := (epc * sub : Nat)
  BitVec.ofInt 64 (pos / n * 2 ^ 48 + (pos % n * ((2 ^ 80 / epc : Nat) : Int)) / ((2 ^ 32 * sub : Nat) : Int))

/-- The distance from one angle to another, signed. -/
def gap (a b : BitVec 64) : Int := (b - a).toInt

/-- An angle moved. -/
def moved (a : BitVec 64) (d : Int) : BitVec 64 := a + BitVec.ofInt 64 d

/-! ### The tracking loop (section 2.3) -/

/-- What of a source's registers its loop uses: natural frequency 250 Hz × 2^bw, feed-forward, measurements that
declare a reversal, units per cycle, kind. -/
structure LoopCfg where
  bw : Nat
  aff : Bool
  hyst : Nat
  epc : Nat
  kind : Nat
  deriving DecidableEq, Repr

/-- (2π)² and 2π as quotients (section 2.3). -/
def twoPiSq : Nat × Nat := (394784176043574344753, 10 ^ 19)
def twoPi : Nat × Nat := (62831853071795864769, 10 ^ 19)

/-- The acceleration of the last five measurements (R705), newest first, in 2^-16 au/ns². -/
def alphaOf : List (Nat × BitVec 64) → Int
  | [(t4, a4), (t3, a3), (t2, a2), (t1, a1), (_, a0)] =>
    let d := t1 * t4 * (t1 + 2 * t2 + 2 * t3 + t4)
    if d = 0 then 0 else
      let _ := a2
      quot ((gap a3 a4 * (t1 : Int) - gap a0 a1 * (t4 : Int)) * 128) d
  | _ => 0

/-- Is the loop's rate lowered to a tenth of the measurement rate (R67)? -/
def bwLimited (bw dt : Nat) : Bool := decide (8 * 10 ^ 9 < dt * (10 * 250 * 2 ^ bw))

/-- The corrections of velocity and angle for an error (section 2.3, R67). -/
def corrections (bw : Nat) (e : Int) (dt : Nat) : Int × Int :=
  let (fn, fd) := if bwLimited bw dt then (8 * 10 ^ 8, dt) else (250 * 2 ^ bw, 1)
  (quot (twoPiSq.1 * fn * fn * dt * e) (twoPiSq.2 * fd * fd * 8 * 10 ^ 18),
   quot (1414 * twoPi.1 * fn * dt * e) (1000 * twoPi.2 * fd * 8 * 10 ^ 9))

/-- The regime of travel in the loop's direction. -/
def Loop.track (l : Loop) : Regime := if l.backward then .reverse else .forward

/-- ω and α are 0, and the loop re-acquires from its next measurement (R71). -/
def Loop.anew (l : Loop) : Loop := { l with omega := 0, alpha := 0, hist := [], acquired := false }

/-- The direction regimes (R70, R71): the loop after a measurement whose step is `d`, before it is corrected; whether
the measurement declares a reversal or ends a standstill, so that the loop re-acquires from the next one. A loop that
has not locked yet goes on acquiring. -/
def Loop.direction (c : LoopCfg) (l : Loop) (d : Int) : Loop × Bool :=
  let left := l.regime == .still
  let l := if left then { l.anew with regime := if l.locked then l.track else .acquire } else l
  let against := if l.backward then decide (0 < d) else decide (d < 0)
  if l.regime = .acquire then (l, left)
  else if against then
    if c.hyst ≤ l.opp + 1 then
      let l := { l.anew with backward := !l.backward, opp := 0 }
      ({ l with regime := l.track }, true)
    else ({ l with opp := l.opp + 1, regime := .dither }, left)
  else if d = 0 then (l, left)
  else if l.regime = .dither then ({ l with opp := 0, regime := l.track }, left) else ({ l with opp := 0 }, left)

/-- The angle the interpolation may not pass before the next measurement (R69): the last measured unit and one more
unit, less 1 au for quadrature; for frames and sample pairs, where the loop expects the next one. -/
def Loop.capOf (c : LoopCfg) (l : Loop) (unitAt : BitVec 64) (dt : Nat) : Option (BitVec 64) :=
  let step : Int := if c.kind = 1 then (2 ^ 48 / c.epc : Nat) - 65536 else if c.kind = 4 then (2 ^ 48 / c.epc : Nat)
    else (l.omega.natAbs * dt / 8 : Nat)
  match l.regime with
  | .forward => some (moved unitAt step)
  | .reverse => some (moved unitAt (- step))
  | _ => none

/-- A measurement: the measured angle, its age, the time since the one before, the last measured unit's angle, whether
it tells a direction (an index pulse tells none). Answers the loop and the error. -/
def Loop.measure (c : LoopCfg) (l : Loop) (m : BitVec 64) (age : Nat) (since : Option Nat) (unitAt : BitVec 64)
    (tells : Bool) : Loop × Int :=
  let dt := (since.getD 0) - age
  let prev := match l.hist with | (_, a) :: _ => a | [] => m
  let (l, declared) := l.direction c (if tells then gap prev m else 0)
  let hist := ((dt, m) :: l.hist).take 5
  if l.regime = .dither then
    ({ l with theta := m, vis := m, omega := 0, alpha := 0, cap := none, clamp := false, hist := hist }, 0)
  else if declared then ({ l with cap := l.capOf c unitAt dt, hist := [(0, m)] }, 0)
  else if !l.acquired then
    let l := { l with theta := m, omega := 0, alpha := 0, acquired := true, hist := [(0, m)] }
    ({ l with vis := if l.regime = .acquire then m else l.vis, cap := l.capOf c unitAt dt }, 0)
  else
    let e := gap (moved l.theta (- (l.omega * age / 8))) m
    let (dw, da) := corrections c.bw e dt
    let l := { l with theta := moved l.theta da, omega := l.omega + dw, hist := hist, bwLim := bwLimited c.bw dt }
    let l := { l with alpha := if c.aff then alphaOf hist else 0 }
    ({ l with vis := if l.regime = .acquire then l.theta else l.vis, cap := l.capOf c unitAt dt }, e)

/-- The interpolated angle follows the internal one for one ns, in the direction of travel `sg` (R69): it goes to the
internal angle or to the cap, whichever comes first; where that lies behind it, it slows (log entry 3). -/
def Loop.follow (l : Loop) (sg : Int) : Loop :=
  let goal := match l.cap with
    | some p => if sg * gap p l.theta > 0 then p else l.theta
    | none => l.theta
  let back := sg * gap l.vis goal
  let clamp := match l.cap with | some p => decide (sg * gap p l.theta > 0) | none => false
  if 0 ≤ back then { l with vis := goal, clamp := clamp }
  else
    let adv := (sg * l.omega).toNat
    let step := adv - min adv (Config.slowShare back.natAbs adv)
    let room := match l.cap with | some p => (sg * gap l.vis p).toNat | none => step
    { l with vis := moved l.vis (sg * (min step room : Nat)), clamp := clamp }

/-- One ns of interpolation (section 2.3, Table 2.3): the acceleration is added to the velocity, unless both are held
at their values (R74, R508). -/
def Loop.step (l : Loop) (hold : Bool) : Loop :=
  match l.regime with
  | .still | .dither => l
  | r =>
    let l := { l with theta := moved l.theta l.omega, omega := if hold then l.omega else l.omega + l.alpha }
    match r with
    | .forward => l.follow 1
    | .reverse => l.follow (-1)
    | _ => { l with vis := l.theta }

/-- Every angle of a loop moves, its velocity stays (R57, R62). -/
def Loop.shift (l : Loop) (d : Int) : Loop :=
  { l with
           theta := moved l.theta d, vis := moved l.vis d, cap := l.cap.map (moved · d),
           hist := l.hist.map fun (t, a) => (t, moved a d) }

/-- Standstill (Table 2.3). -/
def Loop.halt (l : Loop) : Loop :=
  { l with regime := .still, theta := l.vis, omega := 0, alpha := 0, cap := none, clamp := false }

/-- A loop's stamp (R53). -/
def Loop.stamp (l : Loop) : Stamp := l.vis.extractLsb' 16 48

/-- The marks follow the active angle `a` in the regime of the loop that keeps them (R77). -/
def markUp (r : Regime) (a : Stamp) (m : Option Stamp) : Option Stamp :=
  if r = .forward then
    (match m with
     | some x => if Stamp.before x a then some a else some x
     | none => some a)
  else m
def markDown (r : Regime) (a : Stamp) (m : Option Stamp) : Option Stamp :=
  if r = .reverse then
    (match m with
     | some x => if Stamp.before a x then some a else some x
     | none => some a)
  else m

/-! ### Sources -/

/-- A source. -/
def State.src (s : State) (n : Nat) : AngSrc := tblGet (fun _ => AngSrc.reset) s.ang.srcs n
/-- Setting a source. -/
def State.setSrc (s : State) (n : Nat) (x : AngSrc) : State :=
  { s with ang := { s.ang with srcs := tblSet (fun _ => AngSrc.reset) s.ang.srcs n x } }

/-- The cycle of an angle has changed. -/
def turned (a b : BitVec 64) : Bool := a.extractLsb' 48 16 != b.extractLsb' 48 16

/-- The cycle count has wrapped on the way from one angle to another, the shorter way round (R57). -/
def wraps (a b : BitVec 64) : Bool := if 0 ≤ gap a b then decide (b.toNat < a.toNat) else decide (a.toNat < b.toNat)

/-- A source's loop moves on: OVF where its cycle count wraps (R57), and illegal transitions are counted anew in another
cycle (Table 2.5). -/
def State.setLoop (s : State) (n : Nat) (l : Loop) : State :=
  let x := s.src n
  let s := s.setSrc n { x with loop := l, ill := if turned x.loop.vis l.vis then 0 else x.ill }
  if wraps x.loop.vis l.vis then s.setCtr (ANG_SRC_POS_LO n) { s.ctr (ANG_SRC_POS_LO n) with ovf := true } else s

/-- The active source (ANG_STATUS.ACTIVE). -/
def State.activeSrc (s : State) : Nat := s.fld ANG_STATUS ANG_STATUS_ACTIVE

/-- Is the device coasting (R74)? -/
def State.coasting (s : State) : Bool := s.bit ANG_STATUS ANG_STATUS_COAST

/-- Does the device run on its own source (R52, R76)? It does unless it is in a chain and not its headwater. -/
def State.ownAngle (s : State) : Bool :=
  s.bit ANG_STATUS ANG_STATUS_HEADWATER || s.fld LEAT_STATUS LEAT_STATUS_MSTATE == 0

/-- Does a source drive the active angle? -/
def State.drives (s : State) (n : Nat) : Bool := s.ownAngle && s.activeSrc == n && !s.coasting

/-- The kind of a source. -/
def State.srcKind (s : State) (n : Nat) : Nat := s.fld (ANG_SRC_CFG n) ANG_SRC_CFG_KIND

/-- The loop settings of a source. -/
def State.loopCfg (s : State) (n : Nat) : LoopCfg where
  bw := s.fld (ANG_SRC_LOOP n) ANG_SRC_LOOP_BW
  aff := s.bit (ANG_SRC_LOOP n) ANG_SRC_LOOP_AFF
  hyst := s.fld (ANG_SRC_LOOP n) ANG_SRC_LOOP_REV_HYST
  epc := s.fld (ANG_SRC_EPC n) ANG_SRC_EPC_EPC
  kind := s.srcKind n

/-- The registers that show a loop. -/
def State.srcShow (s : State) (n : Nat) : State :=
  let l := (s.src n).loop
  let a := ANG_SRC_STAT n
  (((((s.setF a ANG_SRC_STAT_REV (decide (l.regime = .reverse)).toNat).setF a ANG_SRC_STAT_STILL
    (decide (l.regime = .still)).toNat).setF a ANG_SRC_STAT_CLAMP l.clamp.toNat).setF a ANG_SRC_STAT_BW_LIM
    l.bwLim.toNat).put (ANG_SRC_VEL n) (BitVec.ofInt 32 l.omega))

/-- ANG_VEL and ANG_STATUS.LOCKED follow the active angle. -/
def State.actShow (s : State) : State :=
  let s := s.put ANG_VEL (BitVec.ofInt 32 s.ang.act.omega)
  s.setF ANG_STATUS ANG_STATUS_LOCKED (s.bit (ANG_SRC_STAT s.activeSrc) ANG_SRC_STAT_LOCKED).toNat

/-- Coasting begins (R74, R75): the loop runs on with nothing to hold it; with COAST_CYC = 0 the device fences. -/
def State.coast (s : State) (n : Nat) : State :=
  let cyc := s.fld (ANG_SRC_FAIL n) ANG_SRC_FAIL_COAST_CYC
  let s := { s with ang := { s.ang with act := { s.ang.act with cap := none, clamp := false }, coastCycles := cyc } }
  let s := s.flag ANG_STATUS ANG_STATUS_COAST
  if cyc = 0 then s.fence 0x02 else s

/-- The offset that maps a backup's angle onto the active one: its ALIGN, in the cycle nearest the present offset (R73,
R74). -/
def State.alignOff (s : State) (n : Nat) : Int :=
  let a : Int := (s.reg (ANG_SRC_ALIGN n)).toInt * 65536
  let now := gap (s.src n).loop.vis s.ang.act.vis
  a + (now - a + 2 ^ 47) / 2 ^ 48 * 2 ^ 48

/-- The active source is lost (R74). -/
def State.activeLost (s : State) : State :=
  let n := s.activeSrc
  let b := s.fld (ANG_SRC_FAIL n) ANG_SRC_FAIL_BACKUP
  if s.bit (ANG_SRC_FAIL n) ANG_SRC_FAIL_BACKUP_EN && s.bit (ANG_SRC_STAT b) ANG_SRC_STAT_LOCKED
      && s.bit (ANG_SRC_STAT b) ANG_SRC_STAT_ALIGNED then
    let off := s.alignOff b
    ({ s with ang := { s.ang with actOff := off } }).setF ANG_STATUS ANG_STATUS_ACTIVE b |>.actShow
  else s.coast n

/-- A source is declared lost (R72, R68). -/
def State.lose (s : State) (n cause : Nat) : State :=
  if s.bit (ANG_SRC_STAT n) ANG_SRC_STAT_LOST then s
  else
    let a := ANG_SRC_STAT n
    let was := s.drives n
    let s := (((s.flag a ANG_SRC_STAT_LOST).setF a ANG_SRC_STAT_CAUSE cause).setF a ANG_SRC_STAT_LOCKED 0).occur 0x7B1
    let x := s.src n
    let s := s.setSrc n { x with
      good := 0, errs := 0, ill := 0, indexed := false, indexAt := none,
      loop := { x.loop with regime := .acquire, locked := false, cap := none, clamp := false } }
    let s := s.srcShow n
    if was then s.activeLost.actShow else s

/-- A measurement error of a source (R702, Table 2.5). -/
def State.srcError (s : State) (n : Nat) : State :=
  let x := s.src n
  let s := s.setSrc n { x with good := 0, errs := x.errs + 1 }
  if s.fld (ANG_SRC_LOOP n) ANG_SRC_LOOP_ERR_MAX ≤ x.errs + 1 then s.lose n 0x02 else s

/-- At lock a loop that acquires enters Forward (Table 2.3). -/
def Loop.lock (l : Loop) : Loop :=
  if l.regime = .acquire then { l with regime := .forward, backward := false, opp := 0, locked := true }
  else { l with locked := true }

/-- LOCKED sets and LOST clears after 16 good measurements, and an index pulse where one is used (R68); the active angle
follows the source that drives it into Forward (R52). -/
def State.tryLock (s : State) (n : Nat) : State :=
  let x := s.src n
  if 16 ≤ x.good && (s.fld (ANG_SRC_IDX n) ANG_SRC_IDX_ZDIV == 0 || x.indexed)
      && !s.bit (ANG_SRC_STAT n) ANG_SRC_STAT_LOCKED then
    let s := (s.flag (ANG_SRC_STAT n) ANG_SRC_STAT_LOCKED).setF (ANG_SRC_STAT n) ANG_SRC_STAT_LOST 0
    let s := s.setSrc n { x with loop := x.loop.lock }
    if s.drives n then { s with ang := { s.ang with act := s.ang.act.lock } } else s
  else s

/-- A measurement of a source (section 2.3, R66, R68, R74): its loop, and the active angle's where it drives it. -/
def State.measure (s : State) (n : Nat) (m : BitVec 64) (age : Nat) (unitAt : BitVec 64)
    (endsErrs tells : Bool) : State :=
  let c := s.loopCfg n
  let x := s.src n
  let (l, e) := x.loop.measure c m age x.tLast unitAt tells
  let good := if e.natAbs * c.epc < 2 ^ 48 then x.good + 1 else 0
  let act := if s.drives n then
      (s.ang.act.measure c (moved m s.ang.actOff) age x.tLast (moved unitAt s.ang.actOff) tells).1 else s.ang.act
  let s := (s.setSrc n { x with
    good := good, errs := if endsErrs then 0 else x.errs, indexAt := x.indexAt.orElse fun _ => some m,
    interval := match x.tLast with | some t => t - age | none => x.interval, tLast := some age }).setLoop n l
  let s := { s with ang := { s.ang with act := act } }
  let s := ((s.tryLock n).srcShow n).actShow
  if 32767 * 65536 < l.omega.natAbs then s.lose n 0x05 else s

/-- Does the device take events of a source? -/
def State.srcTakes (s : State) (n kind : Nat) : Bool := (s.src n).on && s.srcKind n == kind

/-- The direction a position counts in (ANG_SRCn_CFG.INV). -/
def State.srcSign (s : State) (n : Nat) : Int := if s.bit (ANG_SRC_CFG n) ANG_SRC_CFG_INV then -1 else 1

/-- QUAD_EDGE (R59, R61): an edge, or both inputs in one step; a change that has not lasted FILT ns is discarded. -/
def execQuadEdge (src : Fin 4) (edge : QuadEdge) (age : Nat) (s : State) : Host.Outcome State Fault Refusal :=
  let n := src.val
  .next (if !s.srcTakes n 1 || decide (age < 8 * s.fld (ANG_SRC_CFG n) ANG_SRC_CFG_FILT) then s else
    match edge with
    | .illegal =>
      let s := (s.inc (ANG_SRC_ILL_LO n)).flag (ANG_SRC_STAT n) ANG_SRC_STAT_ILL
      let x := s.src n
      let s := s.setSrc n { x with ill := x.ill + 1 }
      if s.fld (ANG_SRC_LOOP n) ANG_SRC_LOOP_ERR_MAX < x.ill + 1 then s.lose n 0x03 else s
    | _ =>
      let x := s.src n
      let pos := x.pos + s.srcSign n * (if edge = .up then 1 else -1)
      let m := moved (angleOf (s.loopCfg n).epc 1 pos) x.base
      (s.setSrc n { x with pos := pos }).measure n m age m false true)

/-- The marked angle of an index pulse nearest an angle (R62). -/
def State.marked (s : State) (n : Nat) (at' : BitVec 64) : BitVec 64 :=
  let z := s.fld (ANG_SRC_IDX n) ANG_SRC_IDX_ZDIV
  let off := BitVec.ofNat 64 (s.fld (ANG_SRC_ZOFF n) ANG_SRC_ZOFF_ZOFF * 65536)
  let d := gap off at'
  let cyc := d / 2 ^ 48
  let k := ((d % 2 ^ 48).toNat * z * 2 + 2 ^ 48) / 2 ^ 49
  moved off (cyc * 2 ^ 48 + (k * 2 ^ 48 / z : Nat))

/-- INDEX_PULSE (R62, R702). DEDUCED (log entry 79): a pulse that aligns re-bases the source, so that later edges go on
from the mark: R62 makes the mark the measurement at that instant, and an edge count that did not follow would undo it
with the next edge. -/
def execIndexPulse (src : Fin 4) (age : Nat) (s : State) : Host.Outcome State Fault Refusal :=
  let n := src.val
  let z := s.fld (ANG_SRC_IDX n) ANG_SRC_IDX_ZDIV
  .next (if !s.srcTakes n 1 || z == 0 then s else
    let x := s.src n
    let th := s.fld (ANG_SRC_IDX n) ANG_SRC_IDX_ZERR_TH
    let now := moved x.loop.vis (- (x.loop.omega * age / 8))
    let m := s.marked n now
    let d := gap now m
    let far := decide (th * 2 ^ 48 < d.natAbs * s.fld (ANG_SRC_EPC n) ANG_SRC_EPC_EPC)
    if x.indexed && far && th != 0 then
      ((s.setSrc n { x with indexAt := some now }).flag (ANG_SRC_STAT n) ANG_SRC_STAT_ZERR).srcError n
    else
      let s := if x.indexed && far then s.flag (ANG_SRC_STAT n) ANG_SRC_STAT_ZERR else s
      let x' := { x with base := x.base + d, indexed := true, indexAt := some m, errs := 0 }
      let unitAt := moved (angleOf (s.loopCfg n).epc 1 x.pos) x'.base
      if far then
        let s' := (s.setSrc n x').setLoop n { x.loop with
          theta := moved x.loop.theta d,
          vis := if x.loop.regime = .acquire then moved x.loop.vis d else x.loop.vis, cap := x.loop.cap.map (moved · d),
          hist := x.loop.hist.map fun (t, a) => (t, moved a d) }
        let act := s.ang.act
        let s' := if s.drives n then { s' with ang := { s'.ang with act := { act with
            theta := moved act.theta d,
            vis := if act.regime = .acquire then moved act.vis d else act.vis, cap := act.cap.map (moved · d),
            hist := act.hist.map fun (t, a) => (t, moved a d) } } } else s'
        (s'.tryLock n).actShow
      else (s.setSrc n x').measure n m age unitAt true false)

/-- Gray code to binary (R63). -/
def fromGray (w : Nat) : Nat → Nat
  | 0 => 0
  | k + 1 => fromGray w k ^^^ (w >>> k)

/-- The step between two positions modulo a cycle in the direction of the smaller distance (R63). -/
def shortStep (m a b : Nat) : Int :=
  let d : Int := ((b + m - a) % m : Nat)
  if 2 * d ≤ m then d else d - m

/-- SSI_FRAME (R63, R72): the level at the start, the level after the last bit, the bits received. -/
def execSsiFrame (src : Fin 4) (startHigh stopHigh : Bool) (raw : Word) (age : Nat) (s : State) :
    Host.Outcome State Fault Refusal :=
  let n := src.val
  .next (if !s.srcTakes n 2 then s else
    let epc := s.fld (ANG_SRC_EPC n) ANG_SRC_EPC_EPC
    let bits := s.fld (ANG_SRC_SSI n) ANG_SRC_SSI_BITS
    let v := raw.toNat % 2 ^ bits
    let p := (if s.bit (ANG_SRC_SSI n) ANG_SRC_SSI_GRAY then fromGray v bits else v) % epc
    if !startHigh || !stopHigh then s.srcError n
    else
      let x := s.src n
      match x.lastFrame with
      | none =>
        let pos := s.srcSign n * p
        let m := moved (angleOf epc 1 pos) x.base
        (s.setSrc n { x with lastFrame := some p, pos := pos }).measure n m age m true true
      | some o =>
        let st := shortStep epc o p
        let x' := { x with lastFrame := some p, pos := x.pos + s.srcSign n * st }
        let m := moved (angleOf epc 1 x'.pos) x.base
        if epc < st.natAbs * 16 then (s.setSrc n x').srcError n
        else (s.setSrc n x').measure n m age m true true)

/-- The angle of a vector in 2^-n turns, rounded down, and the vector turned by what that leaves out, its angle 2^n times
as great: squaring a complex number doubles its angle, and a bit of the angle is the half plane it lies in. -/
def turnBits : Nat → Int × Int → Nat × (Int × Int)
  | 0, z => (0, z)
  | n + 1, (c, s) =>
    let up := decide (s < 0) || (s == 0 && decide (c < 0))
    let r := turnBits n (c * c - s * s, 2 * c * s)
    (up.toNat * 2 ^ n + r.1, r.2)

/-- The phase of a sine and cosine sample, atan2 in 2^-16 periods (Table 2.2): an inexact one is rounded either way, and
that of two zeros is open (log entry 3). -/
def phaseOf (sn cs : Int) : Nat :=
  if sn = 0 ∧ cs = 0 then (Config.phaseOfZero).toNat
  else
    let (p, c, s) := turnBits 16 (cs, sn)
    if s = 0 ∧ 0 < c then p else (p + (Config.loopRoundUp sn cs.natAbs).toNat) % 65536

/-- A sample's signed value (R65: of 2^23 full scale). -/
def sampleOf (w : Word) : Int := (w.extractLsb' 8 24).toInt

/-- The amplitude in force for a source (R65, R627), in 2^-32 of full scale squared; 0: none. -/
def State.amplitude (s : State) (n : Nat) : Nat :=
  match tblGet (fun _ => []) s.cal.force (7 * 8192 + n) with
  | v :: _ => v.toNat
  | [] => 0

/-- A pair is added to a running amplitude measurement (R627): the full cycle begins with the next change of the
cycle count and ends with the one after. -/
def AmpRun.pair (a : AmpRun) (n : Nat) (cycle : BitVec 16) (q : Nat) : AmpRun :=
  if a.src != n || a.ended then a
  else if !a.on then (if cycle = a.cycle then a else { a with on := true, cycle := cycle, sum := q, n := 1 })
  else if cycle = a.cycle then { a with sum := a.sum + q, n := a.n + 1 }
  else { a with ended := true }

/-- SINCOS_SAMPLE (R64, R65, R702): the oldest pair that has arrived on the source's two ports. -/
def execSincosSample (src : Fin 4) (s : State) : Host.Outcome State Fault Refusal :=
  let n := src.val
  .next (if !s.srcTakes n 3 then s else
    match s.takeArrived (1376 + 2 * n), s.takeArrived (1377 + 2 * n) with
    | some (a, s1), some (b, _) =>
      let s := match s1.takeArrived (1377 + 2 * n) with | some (_, s2) => s2 | none => s1
      let sn := sampleOf a.word
      let cs := sampleOf b.word
      let q := (sn * sn + cs * cs).toNat
      let amp := s.amplitude n
      let cyc : BitVec 16 := (s.src n).loop.vis.extractLsb' 48 16
      let s := { s with cal := { s.cal with amp := s.cal.amp.map fun (r : AmpRun) => r.pair n cyc q } }
      match a.stampOf, b.stampOf with
      | some ta, some _ =>
        if amp != 0 && (decide (2 * q < amp * 2 ^ 14) || decide (3 * amp * 2 ^ 14 < 2 * q)) then s.srcError n
        else
          let epc := s.fld (ANG_SRC_EPC n) ANG_SRC_EPC_EPC
          let x := s.src n
          let p := phaseOf sn cs
          let st := match x.lastFrame with | none => (p : Int) | some o => shortStep 65536 o p
          let x' := { x with lastFrame := some p, pos := x.pos + s.srcSign n * st }
          let m := moved (angleOf epc 65536 x'.pos) x.base
          (s.setSrc n x').measure n m (8 * (s.timeStamp - ta).toNat) m true true
      | _, _ => s.srcError n
    | _, _ => s)

/-- How many of the samples of a mains source it takes to a positive-going zero crossing with 1 % hysteresis: one at or
below -1 % of the amplitude `amp` has armed it, and the last of them lies at 1 % or more. -/
def crossing (amp : Nat) : Bool → List Int → Option Nat
  | _, [] => none
  | armed, v :: r =>
    if armed && decide ((amp : Int) ≤ v * 100) then some 1
    else (crossing amp (armed || decide (v * 100 ≤ -(amp : Int))) r).map (· + 1)

/-- MAINS_ZERO_CROSSING (R59, R64, R65, R702): a period ends where the samples that have arrived in it show a crossing
of the running amplitude, their greatest magnitude (log entry 79); it is timed by the stamp of the sample that shows it,
and the samples up to there are used up. `age` is the crossing's age where that sample has no stamp. -/
def execMainsZeroCrossing (src : Fin 4) (age : Nat) (s : State) : Host.Outcome State Fault Refusal :=
  let n := src.val
  .next (if !s.srcTakes n 4 then s else
    let port := 1376 + 2 * n
    let ws := tblGet (fun _ => []) s.cxb.arrived port
    let vs := ws.map fun w => sampleOf w.word
    let amp := vs.foldl (fun m v => max m v.natAbs) 0
    match (if amp = 0 then none else crossing amp false vs) with
    | none => s
    | some k =>
    let bad := (ws.take k).any fun w => w.stamp.isNone
    let age := match (ws.getD (k - 1) ⟨0, none⟩).stampOf with
      | some t => 8 * (s.timeStamp - t).toNat
      | none => age
    let s := { s with cxb := { s.cxb with arrived := tblSet (fun _ => []) s.cxb.arrived port (ws.drop k) } }
    let x := s.src n
    let pos := x.pos + s.srcSign n
    let m := moved (angleOf (s.loopCfg n).epc 1 pos) x.base
    let s' := s.setSrc n { x with pos := pos }
    match x.tLast with
    | none => s'.measure n m age m true true
    | some t =>
      let dt := t - age
      if bad || decide (8 * 10 ^ 9 < 40 * dt) || decide (70 * dt < 8 * 10 ^ 9) then
        (s'.setSrc n { s'.src n with tLast := some age }).srcError n
      else s'.measure n m age m true true)

/-- MEASUREMENT_TIMEOUT (R70, R72): no measurement within MISS times the last interval. A source that has no interval yet,
or is lost, does not time out. -/
def execMeasurementTimeout (src : Fin 4) (s : State) : Host.Outcome State Fault Refusal :=
  let n := src.val
  let x := s.src n
  let wait := s.fld (ANG_SRC_LOOP n) ANG_SRC_LOOP_MISS * x.interval
  .next (if !x.on || x.interval == 0 || decide ((x.tLast.getD 0) < wait) || x.loop.regime == .still
      || s.bit (ANG_SRC_STAT n) ANG_SRC_STAT_LOST then s
    else if x.loop.omega.natAbs ≤ s.fld (ANG_SRC_STILL n) ANG_SRC_STILL_V_STILL then
      let s' := (s.setSrc n { x with loop := x.loop.halt }).srcShow n
      if s.drives n then ({ s' with ang := { s'.ang with act := s'.ang.act.halt } }).actShow else s'
    else s.lose n 0x01)

/-- INDEX_TIMEOUT (R72): no index pulse within 1.5 / ZDIV cycle of travel, since the last one or since the source began
to measure. -/
def execIndexTimeout (src : Fin 4) (s : State) : Host.Outcome State Fault Refusal :=
  let n := src.val
  let x := s.src n
  let z := s.fld (ANG_SRC_IDX n) ANG_SRC_IDX_ZDIV
  let far := match x.indexAt with
    | some a => decide (3 * 2 ^ 48 ≤ (gap a x.loop.vis).natAbs * 2 * z)
    | none => false
  .next (if s.srcTakes n 1 && z != 0 && far then s.lose n 0x04 else s)

/-- COAST_EXPIRED (R75, R76). -/
def execCoastExpired (s : State) : Host.Outcome State Fault Refusal :=
  .next (if s.coasting && s.ang.coastCycles == 0 then s.fence 0x02 else s)

/-- ANGLE_OUTPUT_EMIT (R58, Table 2.1). -/
def execAngleOutputEmit (src : Fin 4) (s : State) : Host.Outcome State Fault Refusal :=
  let n := src.val
  let x := s.src n
  .next (if !x.on || s.fld ANG_CTL ANG_CTL_OUT_PERIOD == 0 then s
    else s.offer (1384 + n) (CWord.mk' (BitVec.ofInt 24 (x.loop.omega / 256) ++ (0 : BitVec 8)) (some x.loop.stamp) 0))

/-- A load of a source's angle takes effect (R57): the source is re-based, and the active angle moves with it where
the source drives it; the marks of the active angle then begin again (log entry 79). -/
def State.posLoad (s : State) (n : Nat) (v : Nat) : State :=
  let x := s.src n
  let d := gap x.loop.vis (BitVec.ofNat 64 (v * 65536))
  let s' := s.setSrc n { x with
    loop := x.loop.shift d, base := x.base + d, indexAt := x.indexAt.map (moved · d)
    ill := if turned x.loop.vis (x.loop.shift d).vis then 0 else x.ill }
  if s.drives n then
    let s' := (List.range 4).foldl (fun s k => s.setSrc k { s.src k with hwm := none, lwm := none }) s'
    { s' with ang := { s'.ang with act := s'.ang.act.shift d, hwm := none, lwm := none } }
  else s'

/-- A source that is on and not the active one is held against the active angle, both at the end of the ns (R73): its
offset over one of its cycles; a cycle that is not whole gives no average. -/
def State.alignStep (s : State) (n : Nat) : State :=
  let x := s.src n
  let off := gap x.loop.vis s.ang.act.vis
  let unit : Nat := 2 ^ 48 / (s.loopCfg n).epc
  let cyc : BitVec 16 := x.loop.vis.extractLsb' 48 16
  let a := x.acc
  if !x.on || (s.ownAngle && s.activeSrc == n) then s
  else if a.n = 0 then s.setSrc n { x with acc := ⟨off, 1, off, off, false, cyc⟩ }
  else if a.cyc = cyc then
    s.setSrc n { x with acc := { a with sum := a.sum + off, n := a.n + 1, lo := min a.lo off, hi := max a.hi off } }
  else
    let s := if a.whole then
        (s.put (ANG_SRC_ALIGN n) (BitVec.ofInt 32 (quot a.sum (a.n * 65536)))).setF (ANG_SRC_STAT n) ANG_SRC_STAT_ALIGNED
          (decide (a.hi - a.lo < unit)).toNat
      else s
    s.setSrc n { s.src n with acc := ⟨off, 1, off, off, true, cyc⟩ }

/-- One ns of a source: a load takes effect first (R49, R57), then the loop runs on; a velocity beyond the limit loses the
source (R66). -/
def State.srcStep (s : State) (n : Nat) : State :=
  let s := match tblGet (fun _ => none) s.ctrLoad (ANG_SRC_POS_LO n) with
    | some l =>
      let c := s.ctr (ANG_SRC_POS_LO n)
      let s := if l.clrOvf then s.setCtr (ANG_SRC_POS_LO n) { c with ovf := false } else s
      { s.posLoad n l.value with ctrLoad := tblDrop s.ctrLoad (ANG_SRC_POS_LO n) }
    | none => s
  let x := s.src n
  if !x.on then s
  else
    let l := x.loop.step (x.loop.regime == .acquire && s.bit (ANG_SRC_STAT n) ANG_SRC_STAT_LOST)
    let s := ((s.setSrc n { x with tLast := x.tLast.map (· + 8) }).setLoop n l).srcShow n
    if 32767 * 65536 < l.omega.natAbs then s.lose n 0x05 else s

/-- The marks of a source follow the active angle in its own regime (R77). -/
def State.srcMarks (s : State) (n : Nat) : State :=
  let x := s.src n
  if !x.on then s
  else s.setSrc n { x with hwm := markUp x.loop.regime s.angle x.hwm, lwm := markDown x.loop.regime s.angle x.lwm }

/-- One ns of the active angle (R52, R74-R77); while it coasts, velocity and acceleration are held (R74, R508). -/
def State.actStep (s : State) : State :=
  let l := s.ang.act.step (s.coasting || s.bit LEAT_STATUS LEAT_STATUS_DIST_LOST)
  let left := if s.coasting && turned s.ang.act.vis l.vis then s.ang.coastCycles - 1 else s.ang.coastCycles
  ({ s with ang := { s.ang with
      act := l, coastCycles := left, hwm := markUp l.regime l.stamp s.ang.hwm,
      lwm := markDown l.regime l.stamp s.ang.lwm } }).actShow

/-- One ns of the time counter (R56): a load takes effect before the count (R49). -/
def State.timeStep (s : State) : State :=
  let past := (s.ang.past ++ [(s.angle, s.ang.time)]).drop (s.ang.past.length - 1)
  let l := tblGet (fun _ => none) s.ctrLoad ANG_TIME_LO
  let t := match l with | some l => BitVec.ofNat 64 l.value | none => s.ang.time
  let ovf := match l with | some l => !l.clrOvf && s.ang.timeOvf | none => s.ang.timeOvf
  { s with
    ctrLoad := if l.isSome then tblDrop s.ctrLoad ANG_TIME_LO else s.ctrLoad
    ang := { s.ang with time := t + 1, timeOvf := ovf || t == BitVec.allOnes 64, past := past } }

/-- One ns of the angle block. -/
def State.angStep (s : State) : State :=
  let up := s.angle
  let s := ((List.range 4).foldl (fun s n => s.srcStep n) s.timeStep).actStep
  let s := (List.range 4).foldl (fun s n => (s.srcMarks n).alignStep n) s
  let lo (x : Stamp) : Nat := (x.extractLsb' 0 32).toNat
  if decide (lo s.angle < lo up) && decide (0 < s.ang.act.omega) then
    { s with pins := { s.pins with amark := some s.ns } } else s

/-! ### Unit operations, staged settings, application -/

/-- A unit operation of a source (R60); the requester is reported by a rejected write. CLEAR of a lost source discards
its loop state, and with it, which R60 does not say, its position count and the re-base offset of R57: DESIGN CHOICE (log
entry 79), as the count has no meaning once acquisition begins afresh. -/
def State.angUcmd (s : State) (q : Req) (n code : Nat) : Option State :=
  let en (b : Bool) : State :=
    let v := s.shFld ANG_CTL ANG_CTL_SRC_EN
    let v' := v - v % 2 ^ (n + 1) + v % 2 ^ n + b.toNat * 2 ^ n
    if s.armed then s.stageRej q ANG_CTL else s.stageF ANG_CTL ANG_CTL_SRC_EN v'
  match code with
  | 0 => some (en true)
  | 1 => some (en false)
  | 7 =>
    let s := (s.setF (ANG_SRC_STAT n) ANG_SRC_STAT_ILL 0).setF (ANG_SRC_STAT n) ANG_SRC_STAT_ZERR 0
    some (if s.activeSrc != n && s.bit (ANG_SRC_STAT n) ANG_SRC_STAT_LOST then
        let x := s.src n
        (s.setSrc n { AngSrc.reset with on := x.on, hwm := x.hwm, lwm := x.lwm }).srcShow n
      else s)
  | _ => none

/-- A late stamped operation of a source (R60). -/
def State.angLate (s : State) (n : Nat) : State := (s.flag (ANG_SRC_STAT n) ANG_SRC_STAT_LATE).inc (ANG_SRC_LATE_LO n)

/-- The limits of EPC (Table 2.2). Table 2.2 gives none for KIND 2; an EPC of 0 divides no cycle and is refused there:
DESIGN CHOICE (log entry 79). -/
def epcOk (kind epc : Nat) : Bool :=
  match kind with
  | 1 => decide (4 ≤ epc ∧ epc ≤ 2 ^ 28)
  | 3 => decide (1 ≤ epc ∧ epc ≤ 2 ^ 16)
  | 4 => decide (1 ≤ epc ∧ epc ≤ 256)
  | _ => kind == 0 || decide (1 ≤ epc)

/-- The checks of Table 2.10. -/
def State.angStageOk (s : State) : Bool :=
  let en := s.shFld ANG_CTL ANG_CTL_SRC_EN
  (en == 0 || bitOf en (s.shFld ANG_CTL ANG_CTL_PRIMARY))
  && ((List.range 4).all fun n => !bitOf en n ||
      (let kind := s.shFld (ANG_SRC_CFG n) ANG_SRC_CFG_KIND
       let bits := s.shFld (ANG_SRC_SSI n) ANG_SRC_SSI_BITS
       epcOk kind (s.shFld (ANG_SRC_EPC n) ANG_SRC_EPC_EPC) && decide (2 ≤ s.shFld (ANG_SRC_LOOP n) ANG_SRC_LOOP_MISS)
       && (kind != 2 || (s.shFld (ANG_SRC_SSI n) ANG_SRC_SSI_PERIOD != 0
            && decide (49 ≤ s.shFld (ANG_SRC_SSI n) ANG_SRC_SSI_CLKDIV) && decide (8 ≤ bits ∧ bits ≤ 32)))
       && (s.shFld (ANG_SRC_FAIL n) ANG_SRC_FAIL_BACKUP_EN == 0 || s.shFld (ANG_SRC_FAIL n) ANG_SRC_FAIL_BACKUP != n)))
  && ((List.range 16).all fun w => s.shFld (ANG_IDLE_CTL w) ANG_IDLE_CTL_EN == 0 ||
      (s.shReg (ANG_IDLE_START w) != s.shReg (ANG_IDLE_END w) && s.shFld (ANG_IDLE_CTL w) ANG_IDLE_CTL_TILES != 0))

/-- What the application of an epoch does to the sources (R60, R68, R75): sources whose enable bit has changed begin or
end, a staged PRIMARY becomes active and ends coasting; on a member, whose angle its own sources never drive (R76), it
becomes the one ANG_STATUS.ACTIVE names. -/
def State.angApplied (s : State) : State :=
  let en := s.fld ANG_CTL ANG_CTL_SRC_EN
  let s := (List.range 4).foldl (fun s n =>
    if bitOf en n && !(s.src n).on then
      let x := s.src n
      let s := (s.setSrc n { AngSrc.reset with on := true, hwm := x.hwm, lwm := x.lwm }).srcShow n
      if s.drives n then { s with ang := { s.ang with act := Loop.reset, actOff := 0 } } else s
    else s) s
  let staged := s.ep.stagedPrimary
  let p := s.fld ANG_CTL ANG_CTL_PRIMARY
  let s := { s with ep := { s.ep with stagedPrimary := false } }.setF ANG_STATUS ANG_STATUS_PSTG 0
  let s := if staged && en != 0 && !s.ownAngle then
      let s := { s with ang := { s.ang with coastCycles := 0 } }
      ((s.setF ANG_STATUS ANG_STATUS_ACTIVE p).setF ANG_STATUS ANG_STATUS_COAST 0).actShow
    else if staged && en != 0 then
      let x := s.src p
      let s := { s with ang := { s.ang with act := x.loop, actOff := 0, coastCycles := 0, hwm := x.hwm, lwm := x.lwm } }
      let s := ((s.setF ANG_STATUS ANG_STATUS_ACTIVE p).setF ANG_STATUS ANG_STATUS_COAST 0).actShow
      if s.bit (ANG_SRC_STAT p) ANG_SRC_STAT_LOCKED then s else s.activeLost
    else s
  (List.range 4).foldl (fun s n =>
    if !bitOf en n && (s.src n).on then
      let s := if s.drives n then s.lose n 0x06 else s
      let x := s.src n
      ((s.setSrc n { AngSrc.reset with hwm := x.hwm, lwm := x.lwm }).setF (ANG_SRC_STAT n) ANG_SRC_STAT_LOCKED 0
        |>.setF (ANG_SRC_STAT n) ANG_SRC_STAT_ALIGNED 0).srcShow n
    else s) s

/-! ### Idle windows (section 2.6) -/

/-- Does the active form of a window hold an angle's fraction, with the window enabled (R82)? -/
def State.windowHolds (s : State) (w : Nat) (x : Stamp) : Bool :=
  s.bit (ANG_IDLE_CTL w) ANG_IDLE_CTL_EN &&
    inWindow (s.reg (ANG_IDLE_START w)).toNat (s.reg (ANG_IDLE_END w)).toNat (x.extractLsb' 0 32).toNat

/-- Does a stamp lie in an enabled full-scope window (R82, R88)? -/
def State.inFullIdle (s : State) (x : Stamp) : Bool :=
  (List.range 16).any fun w => s.fld (ANG_IDLE_CTL w) ANG_IDLE_CTL_TILES == 0xFFFF && s.windowHolds w x

/-- Does an open window cover a tile? -/
def State.openOver (s : State) (t : Nat) : Bool := s.ang.windows.any fun w => bitOf (s.fld (ANG_IDLE_CTL w) ANG_IDLE_CTL_TILES) t

/-- A window opens: OVERRUN where a pulse of a covered tile still runs (R83). -/
def State.windowOpens (s : State) (w : Nat) : State :=
  let tiles := s.fld (ANG_IDLE_CTL w) ANG_IDLE_CTL_TILES
  let s := { s with ang := { s.ang with windows := if s.ang.windows.contains w then s.ang.windows else w :: s.ang.windows } }
  if (s.pulses.any fun x => x.2.shot.isSome && bitOf tiles (x.1 / 32)) then s.flag (ANG_IDLE_CTL w) ANG_IDLE_CTL_OVERRUN else s

/-- A window closes; what its users had not begun waits for another boundary (R83). -/
def State.windowCloses (s : State) (w : Nat) : State :=
  { s with ang := { s.ang with
    windows := s.ang.windows.filter (· != w)
    opened := s.ang.opened.filter fun x => x.1 != w } }

end Sys2Proof.Machine
end

