-- ==== Sys2Proof/Machine/Words.lean ====
section
/-! DEFINITION. Instruction words: the formats (Table 4.1), and which words are instructions (R159-R163, Tables 4.3
to 4.15). -/

namespace Sys2Proof.Machine

/-- A word of fields given from the top down as (value, width). -/
def packWord (l : List (Nat × Nat)) : Word := BitVec.ofNat 32 (l.foldl (fun n (v, w) => n * 2 ^ w + v % 2 ^ w) 0)

def fmtS (major rd ra rb minor aux : Nat) : Word := packWord [(major, 6), (rd, 5), (ra, 5), (rb, 5), (minor, 6), (aux, 5)]
def fmtR (major rd ra rb minor : Nat) : Word := fmtS major rd ra rb minor 0
def fmtI (major rd ra imm : Nat) : Word := packWord [(major, 6), (rd, 5), (ra, 5), (imm, 16)]
def fmtB (major ra rb disp : Nat) : Word := packWord [(major, 6), (ra, 5), (rb, 5), (disp, 16)]
def fmtJ (major disp : Nat) : Word := packWord [(major, 6), (disp, 26)]
def fmtUI (major rd h v kind woff : Nat) : Word := packWord [(major, 6), (rd, 5), (h, 5), (v, 5), (kind, 4), (woff, 7)]
def fmtUX (major rd h v kind ro : Nat) : Word := packWord [(major, 6), (rd, 5), (h, 5), (v, 5), (kind, 4), (0, 2), (ro, 5)]
def fmtUC (h op a : Nat) : Word := packWord [(0x36, 6), (0, 5), (h, 5), (op, 4), (a, 8), (0, 4)]

/-- Bits [hi:lo] of a word. -/
def wbits (w : Word) (hi lo : Nat) : Nat := w.toNat / 2 ^ lo % 2 ^ (hi + 1 - lo)

/-- The fields of the formats. -/
def wMajor (w : Word) : Nat := wbits w 31 26
def wRd (w : Word) : Nat := wbits w 25 21
def wRa (w : Word) : Nat := wbits w 20 16
def wRb (w : Word) : Nat := wbits w 15 11
def wMinor (w : Word) : Nat := wbits w 10 5
def wAux (w : Word) : Nat := wbits w 4 0
def wKind (w : Word) : Nat := wbits w 10 7
def wOff (w : Word) : Nat := wbits w 6 0

/-- A code that names a pair (R159). -/
def isPair (c : Nat) : Bool := c % 2 == 0 && c != 0

/-- The kinds a unit instruction may name (R162). -/
def unitKind (k : Nat) : Bool := decide (k ≤ 4) || k == 7 || k == 8

/-- The size of a kind's register set (Table 4.14). -/
def unitLimit (k : Nat) : Nat :=
  match k with
  | 0 => 0x400
  | 1 | 2 | 8 => 0x1000
  | 3 => 0x100
  | 4 => 0x40
  | _ => 0x80

/-- Whether a word is an instruction, for an instance or the supervisor core (R161-R163). -/
def legalWord (sup : Bool) (w : Word) : Bool :=
  let rd := wRd w
  let ra := wRa w
  let rb := wRb w
  let mn := wMinor w
  let aux := wAux w
  match wMajor w with
  | 0x01 => aux == 0 && (decide (mn ≤ 0x10) || (mn == 0x11 && rb == 0))
  | 0x02 =>
    (match mn with
     | 0 | 1 | 4 | 6 | 8 => aux == 0
     | 2 | 3 => aux == 0 && rb == 0
     | 5 => aux == 0 && isPair rd
     | 7 => rb == 0
     | _ => false)
  | 0x03 | 0x04 | 0x05 | 0x06 | 0x07 | 0x08 => true
  | 0x09 | 0x0A | 0x0B => wbits w 15 5 == 0
  | 0x0C => ra == 0
  | 0x10 | 0x11 | 0x12 | 0x13 | 0x14 | 0x16 | 0x17 | 0x18 => true
  | 0x15 | 0x19 => isPair rd
  | 0x1A =>
    isPair ra && rb == 0 && aux == 0 &&
      (match mn with
       | 0 | 1 | 2 | 3 | 4 | 8 | 9 | 10 => true
       | 5 | 11 => isPair rd
       | _ => false)
  | 0x1B => decide (mn ≤ 2) && decide (aux ≤ 1) && (aux == 0 || isPair ra)
  | 0x20 | 0x21 | 0x22 | 0x23 | 0x24 | 0x25 | 0x26 | 0x27 => true
  | 0x28 =>
    (match mn with
     | 0 | 1 | 6 | 7 => rd == 0 && rb == 0 && aux == 0
     | 2 | 3 | 4 | 5 => rd == 0 && ra == 0 && rb == 0 && aux == 0
     | 8 => ra == 0 && rb == 0 && (decide (aux ≤ 0x0A) || aux == 0x10)
     | 9 => rd == 0 && rb == 0 && (decide (aux ≤ 0x0A) || aux == 0x10)
     | 10 => rd == 0 && ra == 0 && rb == 0 && aux != 0
     | _ => false)
  | 0x2C =>
    !sup && aux == 0 &&
      (match mn with
       | 0 => rd == 0 && rb == 0
       | 1 => rd == 0 && isPair rb
       | 2 => ra == 0 && rb == 0
       | 3 => rb == 0 && rd != ra
       | 4 => rb == 0 && isPair ra && rd != ra && rd != ra + 1
       | _ => false)
  | 0x2D =>
    (match mn with
     | 0 | 1 => isPair rd && ra == 0 && rb == 0 && aux == 0
     | 2 => isPair rd && isPair ra && aux == 0
     | 3 => isPair ra && isPair rb && aux == 0
     | 4 => isPair ra && decide (aux ≤ 2)
     | 5 => isPair ra && rd == 0 && rb == 0 && decide (aux ≤ 2)
     | _ => false)
  | 0x2E => isPair rd && isPair ra
  | 0x30 | 0x31 => unitKind (wKind w) && decide (4 * wOff w < unitLimit (wKind w))
  | 0x32 => decide (wbits w 15 14 = 0 ∧ wbits w 13 11 ≤ 5) && unitKind (wKind w) && decide (4 * wOff w < unitLimit (wKind w))
  | 0x33 | 0x34 => unitKind (wKind w) && wbits w 6 5 == 0
  | 0x35 => decide (wbits w 15 14 = 0 ∧ wbits w 13 11 ≤ 5) && unitKind (wKind w) && wbits w 6 5 == 0
  | 0x36 => wbits w 25 21 == 0 && decide (wbits w 15 12 ≤ 7) && wbits w 3 0 == 0
  | 0x37 => mn == 0 && aux == 0
  | 0x38 =>
    rb == 0 && aux == 0 &&
      (match mn with
       | 0 => rd == 0 && isPair ra
       | 1 => rd == 0 && ra == 0
       | 2 => ra == 0
       | _ => false)
  | 0x39 =>
    !sup && rb == 0 && aux == 0 &&
      (match mn with
       | 0 => rd == 0
       | 1 => ra == 0
       | _ => false)
  | _ => false

/-- May the word follow AT (R179)? -/
def mayFollowAt (w : Word) : Bool :=
  match wMajor w with
  | 0x30 | 0x33 | 0x36 => true
  | 0x2C => decide (wMinor w ≤ 1)
  | 0x39 => wMinor w == 0
  | _ => false

end Sys2Proof.Machine
end

