-- ==== Sys2Proof/Machine/Trap.lean ====
section
/-! DEFINITION. Taking a trap (section 3.3.1, R114-R123), and issuing an instruction: fetch, legality, the one trap
it may raise, completion (R112, R113, R157, R163). -/

namespace Sys2Proof.Machine

/-- Trap causes (Table 3.3). -/
def trIllegal : Nat := 0x01
def trPriv : Nat := 0x02
def trAlign : Nat := 0x03
def trBuserr : Nat := 0x04
def trOvf : Nat := 0x05
def trUnf : Nat := 0x06
def trLate : Nat := 0x07
def trUnit : Nat := 0x08
def trMcheck : Nat := 0x09
def trInt : Nat := 0x0A

/-- The condition of R120 or R121: an instance is held and a machine check is raised (code 1 WINDOW_NEST, 2
DOUBLE_TRAP); the supervisor core halts (R122). -/
def State.trapHold (s : State) (c code first second : Nat) : State :=
  if c = ctxSup then s.supHalt
  else
    ((((s.endWait c).setCtx c { (s.endWait c).ctx c with holdReq := none }).setCtxState c ctxHeld).heldRecord c 1 code
      first second).machineCheck code c first second

/-- A window trap (R116). -/
def State.windowTrap (s : State) (c cause : Nat) (pt : Word) : State :=
  let x := s.ctx c
  if x.wt then s.trapHold c 1 x.wcause cause
  else s.setCtx c { x with wtpc := pt, wt := true, wcause := cause, wfrom := x.wix,
                           wix := (x.wix + 1) % 16,
                           pc := x.tbase + BitVec.ofNat 32 (0x40 * cause) }

/-- What a trap writes: its cause, subcause, POSTED, and CW_TVAL with CW_TVALH where it writes them. -/
structure Trap where
  cause : Nat
  sub : Nat
  posted : Bool
  val : Option (BitVec 64)
  deriving DecidableEq, Repr

/-- Entering a trap other than a window trap at a trapping point (R114, R120, R121). `true` where it was entered. -/
def State.trapEnter (s : State) (c : Nat) (t : Trap) (pt : Word) : Bool × State :=
  let x := s.ctx c
  if x.wt then (true, s.trapHold c 1 x.wcause t.cause)
  else if x.td then (true, s.trapHold c 2 (x.tcause.toNat % 32) t.cause)
  else if x.resident = 15 then (false, s.windowTrap c trOvf pt)
  else
    let x' : Ctx := { x with
      tstatus := x.status c
      tpc := pt
      tcause := BitVec.ofNat 32 (t.sub * 256 + t.posted.toNat * 128 + t.cause)
      td := true
      ie := false
      wix := (x.wix + 1) % 16
      resident := x.resident + 1
      pc := x.tbase + BitVec.ofNat 32 (0x40 * t.cause) }
    let x' := match t.val with
      | some v => { x' with tval := v.extractLsb' 0 32, tvalh := v.extractLsb' 32 32 }
      | none => x'
    (true, s.setCtx c x')

/-- What becomes of an issued instruction. -/
inductive Done where
  /-- It completes; the next instruction follows. -/
  | next (s : State)
  /-- It completes; the next instruction is at the address. -/
  | jump (s : State) (pc : Word)
  /-- It raises a trap, in the state in which it has changed nothing of the context. -/
  | trap (s : State) (t : Trap)
  /-- It raises a window trap. -/
  | window (s : State) (cause : Nat)
  /-- It waits. -/
  | wait (s : State) (st : Stall)
  deriving DecidableEq, Repr

/-- A trap with a value. -/
def Done.raise (s : State) (cause sub : Nat) (v : BitVec 64) : Done := .trap s ⟨cause, sub, false, some v⟩

/-- ILLEGAL with the offending word (R163). -/
def Done.illegal (s : State) (w : Word) : Done := .raise s trIllegal 0 (w.setWidth 64)

/-- The waiting instruction of a context completes with its result: the next instruction follows. -/
def State.finish (s : State) (c : Nat) : State :=
  let x := s.ctx c
  (s.setCtx c { x with pc := x.pc + 4 }).resumeCtx c

/-- Applying what became of the instruction at the context's PC. -/
def State.settle (s0 : State) (c : Nat) (d : Done) : State :=
  let pt := (s0.ctx c).pc
  match d with
  | .next s => s.setCtx c { s.ctx c with pc := pt + 4 }
  | .jump s pc => s.setCtx c { s.ctx c with pc := pc }
  | .trap s t => (s.trapEnter c t pt).2
  | .window s k => s.windowTrap c k pt
  | .wait s st => (s.setCtx c { s.ctx c with stall := st }).setCtxState c (if st.isMem then ctxRun else ctxWait)

/-- The waiting instruction of a context raises a trap: the wait ends, and the trap is entered at it. -/
def State.waitTrap (s : State) (c : Nat) (t : Trap) : State :=
  let s := s.resumeCtx c
  (s.trapEnter c t (s.ctx c).pc).2

/-- A posted-store failure is reported (R129): BUSERR with POSTED at the next instruction. It stays pending where the
entry gives way to WINDOW_OVF (R114), and where the context is held instead: resumed, it repeats the event (R103). -/
def State.takePosted (s : State) (c : Nat) : State :=
  match (s.ctx c).postFail with
  | none => s
  | some (a, sub) =>
    let held := (s.ctx c).wt || (s.ctx c).td
    let (ok, s) := s.trapEnter c ⟨trBuserr, sub, true, some (BitVec.ofNat 64 a)⟩ (s.ctx c).pc
    if ok && !held then s.setCtx c { s.ctx c with postFail := none } else s

/-- Is an interrupt due at the next instruction boundary: pending in the context's view, IE 1, no window trap (R113, R116,
R459)? -/
def State.irqDue (s : State) (c : Nat) : Bool := (s.ctx c).ie && !(s.ctx c).wt && s.irqPending (ctxReq c)

/-- INTERRUPT is taken before the instruction at the PC (R112, R114). -/
def State.takeIrq (s : State) (c : Nat) : State := (s.trapEnter c ⟨trInt, 0, false, none⟩ (s.ctx c).pc).2

/-- The supervisor core takes MACHINE_CHECK (R123). -/
def State.takeCheck (s : State) : State :=
  let (ok, s) := s.trapEnter ctxSup ⟨trMcheck, 0, false, none⟩ (s.ctx ctxSup).pc
  if ok then { s with mchk := false } else s

/-- May the supervisor core take a pending MACHINE_CHECK now? -/
def State.checkDue (s : State) (c : Nat) : Bool :=
  c == ctxSup && s.mchk && !(s.ctx c).td && !(s.ctx c).wt

/-- The fetch of the word at an address (R125, R157, R436): the BUSERR subcause it raises, if any. -/
def State.fetch (s : State) (c : Nat) (pc : Word) : Option Nat × State :=
  let a := pc.toNat
  if 0x40000 ≤ a then (some busRange, s)
  else if c = ctxSup then
    match s.memReadIn c (fun _ => 0x41) a 4 with
    | (some _, s) => (none, s)
    | (none, s) => (some busEcc, s)
  else
    match s.localGlobal c a with
    | none => (some busRange, s)
    | some g =>
      if !s.mpuAllows c g 4 .x then (some busMpu, s)
      else match s.memRead c (g % 2 ^ 39) 4 with
        | (some _, s) => (none, s)
        | (none, s) => (some busEcc, s)

/-- Does a context issue: in RUN with nothing it waits for, while its cluster's clock runs (R40)? -/
def State.issues (s : State) (c : Nat) : Bool :=
  s.ctxState c == ctxRun && (s.ctx c).stall == .none && !s.halted 1

/-- A context issues the instruction word `w`, whose meaning is `f`, at its PC (R112, R113). A pending MACHINE_CHECK
comes first, then a trap of the instruction, then a pending posted-store BUSERR, then an INTERRUPT pending with IE 1 (R187);
TAKE_INTERRUPT takes one where no instruction is issued. A context that does not issue leaves the state as it is. -/
def State.issue (s : State) (c : Nat) (w : Word) (f : State → Done) : State :=
  if !s.issues c then s
  else if s.checkDue c then s.takeCheck
  else
    let pc := (s.ctx c).pc
    let irq := s.irqDue c
    match s.fetch c pc with
    | (some sub, s) => s.settle c (.raise s trBuserr sub (pc.setWidth 64))
    | (none, s) =>
      if !legalWord (c == ctxSup) w then s.settle c (.illegal s w)
      else
        match f s with
        | .trap s' t => s.settle c (.trap s' t)
        | .window s' k => s.settle c (.window s' k)
        | d => if (s.ctx c).postFail.isSome then s.takePosted c else if irq then s.takeIrq c else s.settle c d

/-- An issue as an outcome. -/
def issued (c : Fin 257) (w : Word) (f : State → Done) (s : State) : Host.Outcome State Fault Refusal :=
  .next (s.issue c.val w f)

/-- ILLEGAL_WORD: a context issues a word that is no instruction (R161); a word that is one has a row of its own. -/
def execIllegalWord (c : Fin 257) (w : Word) (s : State) : Host.Outcome State Fault Refusal :=
  if legalWord (c.val == ctxSup) w then .next s else issued c w (fun s => .illegal s w) s

/-- TAKE_INTERRUPT (R459, R142): a context with a pending view and IE set takes INTERRUPT; a wait ends with nothing
changed; in a window trap none is taken. A supervisor MACHINE_CHECK and a posted-store BUSERR come first (R113). -/
def execTakeInterrupt (c : Fin 257) (s : State) : Host.Outcome State Fault Refusal :=
  let x := s.ctx c.val
  let st := s.ctxState c.val
  if (st == ctxRun || st == ctxWait) && !x.stall.isMem && !s.halted 1 && s.irqDue c.val then
    let s := (s.endWait c.val).setCtxState c.val ctxRun
    if s.checkDue c.val then .next s.takeCheck
    else if x.postFail.isSome then .next (s.takePosted c.val)
    else .next (s.takeIrq c.val)
  else .next s

/-- TAKE_MACHINE_CHECK (R123): at an instruction boundary; a wait is not ended by it (R142, Table 3.1). -/
def execTakeMachineCheck (s : State) : Host.Outcome State Fault Refusal :=
  if s.issues ctxSup && s.checkDue ctxSup then .next s.takeCheck else .next s

end Sys2Proof.Machine
end

