-- ==== Sys2Proof/Machine/AngleIns.lean ====
section
/-! DEFINITION. The angle instructions, and EPWAIT (R138-R142, R155, R178, R193). -/

namespace Sys2Proof.Machine

/-- The angle and the time as ANOW and TNOW see them: of the last step that ended at least 2 ns ago (R193). -/
def State.seen (s : State) : Stamp × BitVec 64 :=
  match s.ang.past with
  | [a, _] => a
  | [a] => a
  | _ => (s.angle, s.ang.time)

/-- ANOW. -/
def execAnow (c : Fin 257) (rd : Fin 32) (s : State) : Host.Outcome State Fault Refusal :=
  issued c (fmtS 0x2D rd 0 0 0 0) (fun s => .next (s.setCtx c ((s.ctx c).setStamp rd s.seen.1))) s
/-- TNOW. -/
def execTnow (c : Fin 257) (rd : Fin 32) (s : State) : Host.Outcome State Fault Refusal :=
  issued c (fmtS 0x2D rd 0 0 1 0) (fun s => .next (s.setCtx c ((s.ctx c).pset rd s.seen.2))) s
/-- AADD. -/
def execAadd (c : Fin 257) (rd ra rb : Fin 32) (s : State) : Host.Outcome State Fault Refusal :=
  issued c (fmtS 0x2D rd ra rb 2 0) (fun s =>
    let x := s.ctx c
    .next (s.setCtx c (x.setStamp rd (x.stamp ra + (x.rget rb).signExtend 48)))) s
/-- ACMP. -/
def execAcmp (c : Fin 257) (rd ra rb : Fin 32) (s : State) : Host.Outcome State Fault Refusal :=
  issued c (fmtS 0x2D rd ra rb 3 0) (fun s =>
    let x := s.ctx c
    let a := x.stamp ra
    let b := x.stamp rb
    .next (s.setCtx c (x.rset rd (if a = b then 0 else if Stamp.before a b then 0xFFFFFFFF else 1)))) s
/-- ACYC. -/
def execAcyc (c : Fin 257) (rd ra : Fin 32) (imm : BitVec 16) (s : State) : Host.Outcome State Fault Refusal :=
  issued c (fmtI 0x2E rd ra imm.toNat) (fun s =>
    let x := s.ctx c
    .next (s.setCtx c (x.setStamp rd (x.stamp ra + (imm ++ (0 : BitVec 32)))))) s

/-- The direction qualifier of UNTIL and AT (R178). -/
def qualOf (q : Nat) : Qual := match q with | 0 => .fwd | 1 => .rev | _ => .both

/-- ANGLE_LATE: CW_TVAL holds the fraction, CW_TVALH the cycle (Table 3.3). -/
def angleLate (s : State) (sub : Nat) (p : Stamp) : Done := .raise s trLate sub (p.setWidth 64)

/-- UNTIL (R139-R141). -/
def execUntil (c : Fin 257) (rd ra : Fin 32) (q : BitVec 2) (rb : Fin 32) (s : State) : Host.Outcome State Fault Refusal :=
  issued c (fmtS 0x2D rd ra rb 4 q.toNat) (fun s =>
    let x := s.ctx c
    let p := x.stamp ra
    if Stamp.beyond p s.angle then angleLate s 1 p
    else if s.late p (qualOf q.toNat) 50 then angleLate s 2 p
    else
      let s' := s.enqueue ⟨kindWait, c, p, qualOf q.toNat, .until, ctxReq c, s.genOf c⟩
      .wait s' (.until rd (x.rget rb).toNat s.ang.time.toNat)) s

/-- A waiting UNTIL ends with a result. -/
def State.untilEnd (s : State) (c : Nat) (v : Word) : State :=
  match (s.ctx c).stall with
  | .until rd _ _ =>
    let s := s.unqueue c
    (s.setCtx c ((s.ctx c).rset rd v)).finish c
  | _ => s

/-- UNTIL_TIMEOUT: the time counter has advanced by the limit since the issue with the event unreleased (R139); an event whose
release the application of an epoch puts off (R93) is unreleased. Where the event is released in the same step the release
wins (R180). -/
def execUntilTimeout (c : Fin 257) (s : State) : Host.Outcome State Fault Refusal :=
  match (s.ctx c).stall with
  | .until _ limit since =>
    if limit = 0 || decide ((s.ang.time - BitVec.ofNat 64 since).toNat < limit)
        || s.fld ANG_EPOCH_STAT ANG_EPOCH_STAT_STATE != 4
          && s.stq.any (fun o => o.kind == kindWait && o.index == c.val && s.due o.stamp o.qual) then .next s
    else .next (s.untilEnd c 1)
  | _ => .next s

/-- The value EPWAIT returns (R155): RESULT and STATE. -/
def State.epResult (s : State) : Word :=
  BitVec.ofNat 32 (s.fld ANG_EPOCH_STAT ANG_EPOCH_STAT_STATE * 256 + s.fld ANG_EPOCH_STAT ANG_EPOCH_STAT_RESULT)

/-- Is STATE IDLE or FENCED? -/
def State.epEnded (s : State) : Bool :=
  let v := s.fld ANG_EPOCH_STAT ANG_EPOCH_STAT_STATE
  v == 0 || v == 5

/-- EPWAIT (R155). -/
def execEpwait (c : Fin 257) (rd : Fin 32) (s : State) : Host.Outcome State Fault Refusal :=
  issued c (fmtS 0x38 rd 0 0 2 0) (fun s =>
    if s.epEnded then .next (s.setCtx c ((s.ctx c).rset rd s.epResult)) else .wait s (.epwait rd)) s

/-- An ARM that waits for the headwater's answer completes (R155, R197). -/
def State.armWake (s : State) : State := if (s.ctx ctxSup).stall == .arm then s.finish ctxSup else s

/-- ANG_EPOCH_STAT.STATE has become IDLE or FENCED: source 0x7B2, and every waiting EPWAIT completes. -/
def State.epWake (s : State) : State :=
  (s.ctxs.filter fun x => match x.2.stall with | .epwait _ => true | _ => false).foldl (fun s x =>
    match x.2.stall with
    | .epwait rd => (s.setCtx x.1 ((s.ctx x.1).rset rd s.epResult)).finish x.1
    | _ => s) (s.occur 0x7B2)

end Sys2Proof.Machine
end

