-- ==== Sys2Proof/Machine/Memory.lean ====
section
/-! DEFINITION. The error log's register, the patrol, retirement of DDR5 pages and SRAM banks, and the
non-volatile store (chapter 11). -/

namespace Sys2Proof.Machine

/-! ### Error log and patrol (R402, R403) -/

/-- Removing the oldest record of the error log. -/
def State.eccPop (s : State) : State :=
  ({ s with mem := { s.mem with log := s.mem.log.drop 1 } }).eccSync

/-- A write to ECC_LOG_CTL. -/
def State.eccCtlWrite (s : State) (q : Req) (v : Word) : State :=
  let s := s.regWrite q ECC_LOG_CTL v
  if fieldGet ECC_LOG_CTL_POP v = 1 then s.eccPop else s

/-- ECC_LOG_POP. -/
def execEccLogPop (q : Req) (s : State) : Host.Outcome State Fault Refusal :=
  .next (s.guardWrite q ECC_LOG_CTL fun s => s.eccCtlWrite q 0x80000000)

/-- An upset has inverted bits of a stored codeword (log entry 23). -/
def State.upset (s : State) (k : Nat) (d0 d1 c : Word) : State :=
  let e := s.codeErr k
  s.setCodeErr k ⟨e.d0 ^^^ d0, e.d1 ^^^ d1, e.c ^^^ c, e.poison⟩

/-- PATROL_READ (R403): the codeword at a per-device offset; `d0`, `d1` and `c` are the bits an upset has inverted
in it since it was read last (0: none). -/
def execPatrolRead (addr : Nat) (d0 d1 c : Word) (s : State) : Host.Outcome State Fault Refusal :=
  if !s.bit MEM_PATROL MEM_PATROL_EN then .next s
  else match s.locOff addr with
    | .mem o =>
      if s.ddrHalted o then .next s
      else
      let mid := s.midOf o
      let base := o / codeSize mid * codeSize mid
      .next ((s.upset (memKey mid base) d0 d1 c).codeRead 0x120 mid base).2
    | _ => .next s

/-! ### Non-volatile store (R425-R430) -/

/-- The regions of Table 11.7 by line: journal, calibration A and B, retirement records, health log, identity. -/
def nvmRetLine : Nat := 0x1200000 / 64
def nvmLogFirst : Nat := 0x1210000 / 64
def nvmLogEnd : Nat := 0x1400000 / 64
def nvmKeyLine : Nat := 0x1400000 / 64

/-- The halves that hold a line: 0 west, 1 east (Table 11.7). -/
def nvmHomes (line : Nat) : List Nat :=
  let o := line * 64
  if o < 0x1000000 then [o / 128 % 2]
  else if o < 0x1100000 then [0]
  else if o < 0x1200000 then [1]
  else if o < 0x1210000 then [0, 1]
  else if o < 0x1300000 then [0]
  else if o < 0x1400000 then [1]
  else if o < 0x1410000 then [0, 1]
  else []

/-- Has a half been declared failed (R429)? -/
def State.halfFailed (s : State) (h : Nat) : Bool :=
  s.bit NVM_STATUS (if h = 0 then NVM_STATUS_HALF_W_FAIL else NVM_STATUS_HALF_E_FAIL)

/-- The halves of a line that still serve. -/
def State.nvmServing (s : State) (line : Nat) : List Nat := (nvmHomes line).filter fun h => !s.halfFailed h

/-- A line of the store. -/
def State.nvmLine (s : State) (l : Nat) : NvmLine := tblGet (fun _ => NvmLine.blank) s.mem.nvm l
def State.setNvmLine (s : State) (l : Nat) (x : NvmLine) : State :=
  { s with mem := { s.mem with nvm := tblSet (fun _ => NvmLine.blank) s.mem.nvm l x } }

/-- What a slot gives: its words (two inverted bits are corrected), or nothing (three are detected; of more the
spec states no outcome: a free value chooses, log entry 21). -/
def State.slotRead (s : State) (x : NvmSlot) : Option (List Word) × State :=
  if x.flips ≤ 2 then (some x.data, s)
  else if x.flips = 3 then (none, s)
  else
    let (f, s) := s.free
    if f % 2 = 0 then (none, s) else (some ((List.range 16).map fun k => BitVec.ofNat 32 (f / 2 ^ (32 * k + 1))), s)

/-- Reading a line (R426, R429): its words, or none where uncorrectable. -/
def State.nvmRead (s : State) (req line : Nat) : Option (List Word) × State :=
  let addr := 0x6200000000 + line * 64
  if (nvmHomes line).isEmpty then (some (List.replicate 16 0), s)
  else if (s.nvmServing line).isEmpty then (none, s.eccError true 0x40 req addr)
  else
    let x := s.nvmLine line
    match s.slotRead x.cur with
    | (some l, s) =>
      let s := if x.cur.flips = 0 then s else s.eccError false 0x40 req addr
      (some l, if x.torn then s.inc NVM_TORN_LO else s)
    | (none, s) =>
      if x.torn then (none, s.eccError true 0x40 req addr)
      else match s.slotRead x.prev with
        | (some l, s) => (some l, s.inc NVM_TORN_LO)
        | (none, s) => (none, s.eccError true 0x40 req addr)

/-- Reading bytes of the NVM view that lie within one line. -/
def State.nvmBytes (s : State) (req o n : Nat) : Option (List Byte) × State :=
  match s.nvmRead req (o / 64) with
  | (some l, s) => (some (((bytesOfWords l).drop (o % 64)).take n), s)
  | (none, s) => (none, s)

/-- A line's new version stands in its older slot (R410, R426, R430). -/
def State.nvmStore (s : State) (line : Nat) (data : List Word) : State :=
  let addr := 0x6200000000 + line * 64
  let (e, s) := s.flipWrite 0x40 addr addr
  let x := s.nvmLine line
  let n := x.writes + 1
  let s := s.setNvmLine line ⟨⟨data, e.flips⟩, x.cur, false, n⟩
  let wear := (s.reg NVM_WEAR_HI).toNat * 2 ^ 32 + (s.reg NVM_WEAR_LO).toNat
  if wear < n then (s.put NVM_WEAR_LO (BitVec.ofNat 32 n)).put NVM_WEAR_HI (BitVec.ofNat 32 (n / 2 ^ 32 % 65536)) else s

/-- A line write waits for its half (R427). -/
def State.nvmQueue (s : State) (line : Nat) (data : List Word) (u : NvmUse) : State :=
  { s with mem := { s.mem with nvmQ := s.mem.nvmQ ++ [⟨line, data, u⟩] } }

/-- Is it a journal write? -/
def NvmUse.isJnl : NvmUse → Bool
  | .jnl _ _ => true
  | _ => false

/-- Does a half write this line (a mirrored line goes with the west half while it serves)? -/
def State.nvmOn (s : State) (h : Nat) (w : NvmWrite) : Bool := (s.nvmServing w.line).head? == some h

/-- The write a half has under way: the journal's ahead of all others, then in order of arrival (R427). -/
def State.nvmFront (s : State) (h : Nat) : Option NvmWrite :=
  match s.mem.nvmQ.find? fun w => s.nvmOn h w && w.use.isJnl with
  | some w => some w
  | none => s.mem.nvmQ.find? fun w => s.nvmOn h w

/-- A write to NVM_CMD (R428). -/
def State.nvmCmdWrite (s : State) (q : Req) (v : Word) : State :=
  let go := fieldGet NVM_CMD_GO v = 1
  if go ∧ s.bit NVM_STATUS NVM_STATUS_BUSY then s.flag NVM_STATUS NVM_STATUS_REFUSED
  else
    let s := s.regWrite q NVM_CMD v
    let line := fieldGet NVM_CMD_LINE v
    if !decide go then s
    else if !(isSuper q && decide (nvmLogFirst ≤ line ∧ line < nvmLogEnd)) then
      (s.flag NVM_STATUS NVM_STATUS_REFUSED).setF NVM_STATUS NVM_STATUS_RESULT 1
    else if (s.nvmServing line).isEmpty then s.setF NVM_STATUS NVM_STATUS_RESULT 3
    else (s.nvmQueue line ((List.range 16).map fun n => s.reg (NVM_BUF n)) .cmd).flag NVM_STATUS NVM_STATUS_BUSY

/-- A write to NVM_BUF (R428). -/
def State.nvmBufWrite (s : State) (q : Req) (a : Nat) (v : Word) : State :=
  if s.bit NVM_STATUS NVM_STATUS_BUSY then s.flag NVM_STATUS NVM_STATUS_REFUSED else s.regWrite q a v

/-- NVM_CMD_GO. -/
def execNvmCmdGo (q : Req) (line : BitVec 19) (s : State) : Host.Outcome State Fault Refusal :=
  .next (s.guardWrite q NVM_CMD fun s => s.nvmCmdWrite q (0x80000000 ||| line.zeroExtend 32 <<< 6))

/-- The end of an NVM_CMD write: RESULT 0 DONE, 2 FAILED, 3 HALF. -/
def State.nvmCmdEnd (s : State) (result : Nat) : State :=
  (s.setF NVM_STATUS NVM_STATUS_BUSY 0).setF NVM_STATUS NVM_STATUS_RESULT result

/-! ### Retirement of DDR5 pages (R413, R414) -/

/-- Is a page listed as retired? -/
def State.pageRetired (s : State) (p : Nat) : Bool :=
  (List.range 1024).any fun k =>
    s.bit (MEM_RET_ENTRY k) MEM_RET_ENTRY_VALID && s.fld (MEM_RET_ENTRY k) MEM_RET_ENTRY_PAGE == p

/-- The first cause of Table 11.4 that refuses a DDR command; 0 where none does. -/
def State.retRefusal (s : State) (add : Bool) (k p : Nat) : Nat :=
  let used := s.bit (MEM_RET_ENTRY k) MEM_RET_ENTRY_VALID
  if s.mem.ret.isSome then 1
  else if !s.bit MEM_DDR_MAP MEM_DDR_MAP_SPARE_EN || (add && !decide (p * 4096 + 4096 ≤ s.ddrTop)) then 2
  else if add && s.pageRetired p then 3
  else if add && used then 4
  else if !add && !used then 5
  else 0

/-- A write to MEM_RET_CMD: 1 ADD, 2 REMOVE. -/
def State.retCmd (s : State) (q : Req) (v : Word) : State :=
  let s := s.regWrite q MEM_RET_CMD v
  let op := fieldGet MEM_RET_CMD_OP v
  let k := fieldGet MEM_RET_CMD_IDX v
  if !isSuper q ∨ op = 0 ∨ op = 3 then s
  else
    let p := if op = 1 then s.fld MEM_RET_PAGE MEM_RET_PAGE_PAGE else s.fld (MEM_RET_ENTRY k) MEM_RET_ENTRY_PAGE
    match s.retRefusal (op == 1) k p with
    | 0 => ({ s with mem := { s.mem with ret := some ⟨op == 1, k, p, false⟩ } }).flag MEM_RET_STAT MEM_RET_STAT_BUSY
    | c => s.setF MEM_RET_STAT MEM_RET_STAT_RESULT c

/-- MEM_RET_ADD. -/
def execMemRetAdd (q : Req) (k : BitVec 10) (s : State) : Host.Outcome State Fault Refusal :=
  .next (s.guardWrite q MEM_RET_CMD fun s => s.retCmd q (0x40000000 ||| k.zeroExtend 32))

/-- MEM_RET_REMOVE. -/
def execMemRetRemove (q : Req) (k : BitVec 10) (s : State) : Host.Outcome State Fault Refusal :=
  .next (s.guardWrite q MEM_RET_CMD fun s => s.retCmd q (0x80000000 ||| k.zeroExtend 32))

/-- The errors among the codewords from `lo` to `hi`, logged as the copy reads them (R414). -/
def State.copyErrors (s : State) (lo hi : Nat) : State :=
  (s.mem.errs.filter fun x => decide (lo ≤ x.1 ∧ x.1 < hi)).foldl
    (fun s (k, _) => (s.codeRead 0x123 (s.midOf k) k).2) s

/-- What the copy leaves of an error (R401, R414): a correctable word is corrected, an uncorrectable one poisoned. -/
def CodeErr.copied (e : CodeErr) : CodeErr :=
  if e.poison || decide (2 ≤ e.flips) then ⟨0, 0, 0, true⟩ else CodeErr.none'

/-- The copy comes into use. -/
def State.copySwitch (s : State) (lo hi : Nat) : State :=
  (s.mem.errs.filter fun x => decide (lo ≤ x.1 ∧ x.1 < hi)).foldl (fun s (k, e) => s.setCodeErr k e.copied) s

/-- RET_COPY_END (R414): the copy has ended, and the table entry is written to its NVM record. The record's format
is not given: its words are free (log entry 22). -/
def execRetCopyEnd (s : State) : Host.Outcome State Fault Refusal :=
  match s.mem.ret with
  | some r =>
    if r.copied then .next s
    else
      let s := s.copyErrors (r.page * 4096) (r.page * 4096 + 4096)
      let (f, s) := s.free
      let s := { s with mem := { s.mem with ret := some { r with copied := true } } }
      .next (s.nvmQueue (nvmRetLine + r.idx) ((List.range 16).map fun k => BitVec.ofNat 32 (f / 2 ^ (32 * k))) .ret)
  | none => .next s

/-- The record of a retirement is durable, or is not (R414, Table 11.4). -/
def State.retEnd (s : State) (ok : Bool) : State :=
  match s.mem.ret with
  | none => s
  | some r =>
    let s := { s with mem := { s.mem with ret := none } }
    let s := (s.setF MEM_RET_STAT MEM_RET_STAT_BUSY 0).setF MEM_RET_STAT MEM_RET_STAT_RESULT (if ok then 0 else 6)
    if !ok then s
    else
      let s := s.copySwitch (r.page * 4096) (r.page * 4096 + 4096)
      if r.add then s.put (MEM_RET_ENTRY r.idx) (BitVec.ofNat 32 (2 ^ 31 + r.page)) else s.put (MEM_RET_ENTRY r.idx) 0

/-! ### SRAM banks (R404, R415) -/

/-- The spare that replaces a bank, if one does. -/
def State.spareOf (s : State) (t b : Nat) : Option Nat :=
  let m := MEM_SRAM_MAP t
  if s.bit m MEM_SRAM_MAP_SP0_USED && s.fld m MEM_SRAM_MAP_SP0_BANK == b then some 0
  else if s.bit m MEM_SRAM_MAP_SP1_USED && s.fld m MEM_SRAM_MAP_SP1_BANK == b then some 1
  else none

/-- The first free spare of a tile. -/
def State.freeSpare (s : State) (t : Nat) : Option Nat :=
  let m := MEM_SRAM_MAP t
  if !s.bit m MEM_SRAM_MAP_SP0_USED then some 0 else if !s.bit m MEM_SRAM_MAP_SP1_USED then some 1 else none

/-- A write to MEM_SRAM_CMD: 1 DISABLE, 2 ENABLE. -/
def State.sramCmd (s : State) (q : Req) (v : Word) : State :=
  let s := s.regWrite q MEM_SRAM_CMD v
  let op := fieldGet MEM_SRAM_CMD_OP v
  let t := fieldGet MEM_SRAM_CMD_TILE v
  let b := fieldGet MEM_SRAM_CMD_BANK v
  let refuse (c : Nat) : State := s.setF MEM_SRAM_STAT MEM_SRAM_STAT_RESULT c
  let go (dis : Bool) (sp : Nat) : State :=
    ({ s with mem := { s.mem with bank := some ⟨dis, t, b, sp, false⟩ } }).flag MEM_SRAM_STAT MEM_SRAM_STAT_BUSY
  if !isSuper q ∨ op = 0 ∨ op = 3 then s
  else if s.mem.bank.isSome then refuse 1
  else match op == 1, s.spareOf t b, s.freeSpare t with
    | true, some _, _ => refuse 2
    | true, none, none => refuse 4
    | true, none, some sp => go true sp
    | false, none, _ => refuse 2
    | false, some sp, _ => go false sp

/-- SRAM_BANK_DISABLE. -/
def execSramBankDisable (q : Req) (t : Fin 16) (b : Fin 32) (s : State) : Host.Outcome State Fault Refusal :=
  .next (s.guardWrite q MEM_SRAM_CMD fun s => s.sramCmd q (BitVec.ofNat 32 (0x40000000 + t.val * 256 + b.val)))

/-- SRAM_BANK_ENABLE. -/
def execSramBankEnable (q : Req) (t : Fin 16) (b : Fin 32) (s : State) : Host.Outcome State Fault Refusal :=
  .next (s.guardWrite q MEM_SRAM_CMD fun s => s.sramCmd q (BitVec.ofNat 32 (0x80000000 + t.val * 256 + b.val)))

/-- SRAM_COPY_END (R415). The record's line is not given: it lies behind the entries' lines (log entry 22). -/
def execSramCopyEnd (s : State) : Host.Outcome State Fault Refusal :=
  match s.mem.bank with
  | some r =>
    if r.copied then .next s
    else
      let s := s.copyErrors (bankBase r.tile r.bank) (bankBase r.tile r.bank + 0x20000)
      let (f, s) := s.free
      let s := { s with mem := { s.mem with bank := some { r with copied := true } } }
      .next (s.nvmQueue (nvmRetLine + 1008 + r.tile) ((List.range 16).map fun k => BitVec.ofNat 32 (f / 2 ^ (32 * k))) .sram)
  | none => .next s

/-- The record of a bank command is durable, or is not. -/
def State.bankEnd (s : State) (ok : Bool) : State :=
  match s.mem.bank with
  | none => s
  | some r =>
    let s := { s with mem := { s.mem with bank := none } }
    let s := (s.setF MEM_SRAM_STAT MEM_SRAM_STAT_BUSY 0).setF MEM_SRAM_STAT MEM_SRAM_STAT_RESULT (if ok then 0 else 6)
    if !ok then s
    else
      let s := s.copySwitch (bankBase r.tile r.bank) (bankBase r.tile r.bank + 0x20000)
      let m := MEM_SRAM_MAP r.tile
      match r.spare with
      | 0 => (s.setF m MEM_SRAM_MAP_SP0_USED r.disable.toNat).setF m MEM_SRAM_MAP_SP0_BANK (if r.disable then r.bank else 0)
      | _ => (s.setF m MEM_SRAM_MAP_SP1_USED r.disable.toNat).setF m MEM_SRAM_MAP_SP1_BANK (if r.disable then r.bank else 0)

/-! ### DMA engines -/

/-- A DMA engine. -/
def State.dma (s : State) (e : Nat) : DmaEng := tblGet (fun _ => DmaEng.reset) s.mem.dma e

/-- Setting an engine; MEM_DMA_STAT.RUN and DEPTH follow it. -/
def State.setDma (s : State) (e : Nat) (x : DmaEng) : State :=
  let s := { s with mem := { s.mem with dma := tblSet (fun _ => DmaEng.reset) s.mem.dma e x } }
  (s.setF (MEM_DMA_STAT e) MEM_DMA_STAT_RUN x.run.isSome.toNat).setF (MEM_DMA_STAT e) MEM_DMA_STAT_DEPTH x.queue.length

/-! ### Reserved encodings that rest on the state (R17, R405, R410) -/

/-- Is a write to a register of the MEM block reserved beyond what its fields say (R17, R698): the configuration of a channel
that is up, the mapping while one is up, interleaving of unequal channels whichever write makes it, the masks of a flip set beyond the codeword? -/
def State.memReserved (s : State) (a : Nat) (v : Word) : Bool :=
  let up (c : Nat) : Bool := bitOf (s.reg MEM_STATUS).toNat c
  let uneven (c : Nat) : Bool := s.bit MEM_DDR_MAP MEM_DDR_MAP_ILV
    && fieldGet MEM_DDR_CFG_SIZE v != s.fld (MEM_DDR_CFG c) MEM_DDR_CFG_SIZE
  if a = MEM_DDR_CFG 0 then (up 0 && v != s.reg a) || uneven 1
  else if a = MEM_DDR_CFG 1 then (up 1 && v != s.reg a) || uneven 0
  else if a = MEM_DDR_MAP then
    ((up 0 || up 1) && (v &&& 3) != (s.reg a &&& 3))
      || (fieldGet MEM_DDR_MAP_ILV v == 1
        && s.fld (MEM_DDR_CFG 0) MEM_DDR_CFG_SIZE != s.fld (MEM_DDR_CFG 1) MEM_DDR_CFG_SIZE)
  else if ECC_FLIP_CTL 0 ≤ a ∧ a < ECC_FLIP_CTL 0x42 ∧ (a - ECC_FLIP_CTL 0) % 0x20 = 0 then
    (a - ECC_FLIP_CTL 0) / 0x20 != 0x40 && fieldGet ECC_FLIP_CTL_WORD v != 0
  else false

/-- The bits of a flip mask that the codeword of its memory has (R410). -/
def flipBits (a : Nat) : Word :=
  let m := (a - ECC_FLIP_CTL 0) / 0x20
  let wide := m == 0x30 || m == 0x31 || m == 0x40
  let coef := decide (0x20 ≤ m ∧ m < 0x30)
  if a < ECC_FLIP_CTL 0 ∨ ECC_FLIP_CTL 0x42 ≤ a then 0xFFFFFFFF
  else match (a - ECC_FLIP_CTL 0) % 0x20 with
    | 0x0C => if coef then 0x3FFFF else 0xFFFFFFFF
    | 0x10 => if wide then 0xFFFFFFFF else 0
    | 0x14 => if m == 0x40 then 0xFFFFFFFF else if wide then 0xFF else if coef then 0x3F else 0x7F
    | _ => 0xFFFFFFFF

/-- A write to a register of the MEM block without a meaning of its own. -/
def State.memRegWrite (s : State) (q : Req) (a : Nat) (v : Word) : State :=
  if s.memReserved a v then s.rsvd q a true
  else
    let s := s.regWrite q a (v &&& flipBits a)
    if (v &&& ~~~ flipBits a) != 0 then s.rsvd q a false else s

end Sys2Proof.Machine
end

