-- ==== Sys2Proof/Machine/Health.lean ====
section
/-! DEFINITION. The health log (R669-R671). A record waits as its class and its fields: index, kind, then the data
words; data words the block does not supply are free values (log entry 2). -/

namespace Sys2Proof.Machine

/-- The SRC field for a class (Table 19.7). -/
def healthSrc (cls : Nat) : Nat := if cls < 0x10 then 2 else if cls < 0x20 then 1 else if cls < 0x30 then 3 else 4

/-- The number of data words a record carries: three, the pass summary four (Table 19.7). -/
def healthData (cls : Nat) : Nat := if cls = 0x1F then 4 else 3

/-- Data words that were not supplied are free. -/
def State.fillData (s : State) (l : List Nat) : Nat → List Nat × State
  | 0 => (l, s)
  | n + 1 => let (f, s) := s.free; s.fillData (l ++ [f]) n

/-- A record's 16 words (Table 19.7). -/
def State.healthWords (s : State) (seq cls : Nat) (args : List Nat) : List Word × State :=
  let (d, s) := s.fillData (args.drop 2) (healthData cls - (args.length - 2))
  let st := s.angle.toNat
  let w := [0x484C4F47, seq, seq / 2 ^ 32, s.ang.time.toNat, s.ang.time.toNat / 2 ^ 32, st,
    st / 2 ^ 32 % 65536 + healthSrc cls * 2 ^ 16 + cls * 2 ^ 24, args.getD 0 0 % 65536 + args.getD 1 3 * 2 ^ 16]
    ++ (d ++ [0, 0, 0, 0]).take 4 ++ [0, 0, 0]
  let ws := w.map fun n => BitVec.ofNat 32 n
  (ws ++ [crc32 (bytesOfWords ws)], s)

/-- The ring line of a record (R670). -/
def healthLine (seq : Nat) : Nat := nvmLogFirst + (seq - 1) % 30720

/-- The head of the ring. -/
def State.logHead (s : State) : Nat := (s.reg TST_LOG_HEAD_HI).toNat * 2 ^ 32 + (s.reg TST_LOG_HEAD_LO).toNat

/-- The head is set. -/
def State.setLogHead (s : State) (n : Nat) : State :=
  (s.put TST_LOG_HEAD_LO (BitVec.ofNat 32 n)).put TST_LOG_HEAD_HI (BitVec.ofNat 32 (n / 2 ^ 32))

/-- How far beyond the newest record the next line of the ring is that a half can serve. -/
def State.logNext (s : State) : Option Nat :=
  (List.range 30720).find? fun k => !(s.nvmServing (healthLine (s.logHead + 1 + k))).isEmpty

/-- A record takes the place `k` lines beyond the newest, or is lost to the rate. -/
def State.healthAt (s : State) (cls : Nat) (args : List Nat) (k : Option Nat) : State :=
  match k with
  | some k =>
    if s.tst.written < s.fld TST_LOG_RATE TST_LOG_RATE_RATE then
      let seq := s.logHead + 1 + k
      let r := s.healthWords seq cls args
      let s := { r.2 with tst := { r.2.tst with written := r.2.tst.written + 1 } }
      (s.nvmQueue (healthLine seq) r.1 .log).setLogHead seq
    else (s.inc TST_LOG_LOST_LO).flag TST_STATUS TST_STATUS_LOGLOST
  | none => (s.inc TST_LOG_LOST_LO).flag TST_STATUS TST_STATUS_LOGLOST

/-- One record is written, or is lost to the rate (R671). Lines of a failed half are skipped (R670). -/
def State.healthPut (s : State) (cls : Nat) (args : List Nat) : State :=
  let sec := s.ang.time.toNat / 10 ^ 9
  let s := if s.tst.second = sec then s else { s with tst := { s.tst with second := sec, written := 0 } }
  s.healthAt cls args s.logNext

/-- The records that wait are written. -/
def State.logFlush (s : State) : State :=
  s.health.foldl (fun s (c, a) => s.healthPut c a) { s with health := [] }

/-- Is a ring line a record whose MAGIC and CRC are correct? -/
def healthSeq (l : List Word) : Option Nat :=
  if l.getD 0 0 = 0x484C4F47 ∧ crc32 (bytesOfWords (l.take 15)) = l.getD 15 0 then
    some ((l.getD 2 0).toNat * 2 ^ 32 + (l.getD 1 0).toNat)
  else none

/-- The head at start-up (R670); lines never written hold no record. -/
def State.logFind (s : State) : State :=
  s.setLogHead ((s.mem.nvm.filter fun x => decide (nvmLogFirst ≤ x.1 ∧ x.1 < nvmLogFirst + 30720)).foldl
    (fun m x => max m ((healthSeq x.2.cur.data).getD 0)) 0)

end Sys2Proof.Machine
end

