-- ==== Sys2Proof/Machine/Cal.lean ====
section
/-! DEFINITION. Calibration (chapter 18). -/

namespace Sys2Proof.Machine

/-- The key of a value: its class (AMP: 7) and index. -/
def calKey (cls i : Nat) : Nat := cls * 8192 + i

/-- No value: the nominal correction (R622). -/
def calNone (_ : Nat) : List Int := []

/-- The sizes in bytes of a value's components (Table 18.2). -/
def calSizes (cls : Nat) : List Nat :=
  match cls with
  | 1 => [4, 4] | 2 => [4, 4] ++ List.replicate 16 2 | 3 => [2] | 4 => [2] | 5 => [4, 4] | _ => [4]

/-- Where a value lies in a set (Table 18.2). -/
def calOffset (cls i : Nat) : Nat :=
  match cls with
  | 0 => 64 + 16 * i | 1 => 128 + 16 * i | 2 => 1152 + 64 * i
  | 3 => 21632 + 64 * (i / 10) + 2 * (i % 10) | 4 => 21632 + 64 * i + 20 | 5 => 21632 + 64 * i + 22
  | 6 => 54400 + 16 * i | _ => 70784 + 16 * i

/-- How many values a class holds (Table 18.1). -/
def calCount (cls : Nat) : Nat :=
  match cls with | 0 => 4 | 1 => 64 | 2 => 320 | 3 => 5120 | 4 => 512 | 5 => 512 | 6 => 1024 | _ => 4

/-- The absolute limits of a class's components in the units of Table 18.2 (Table 18.1). -/
def calLimit (cls : Nat) : List Int :=
  match cls with
  | 0 => [20000] | 1 => [10000, 20000] | 2 => [16384, 10000] | 3 => [2000] | 4 => [2000] | 5 => [30000, 30000]
  | _ => [8000]

/-- The default drift limits (Table 18.1). -/
def calDrift (cls : Nat) : List Int :=
  match cls with
  | 0 => [2000] | 1 => [500, 500] | 2 => [2048, 1000] | 3 => [200] | 4 => [300] | 5 => [3000, 2000] | _ => [2000]

/-- The DL field of a class (R624). -/
def State.calDl (s : State) (cls : Nat) : Nat :=
  match cls with
  | 0 => s.fld CAL_DRIFT0 CAL_DRIFT0_DL_REF | 1 => s.fld CAL_DRIFT0 CAL_DRIFT0_DL_TDAC
  | 2 => s.fld CAL_DRIFT0 CAL_DRIFT0_DL_SLICE | 3 => s.fld CAL_DRIFT0 CAL_DRIFT0_DL_CELL_IN
  | 4 => s.fld CAL_DRIFT1 CAL_DRIFT1_DL_CELL_FC | 5 => s.fld CAL_DRIFT1 CAL_DRIFT1_DL_CELL_DAC
  | _ => s.fld CAL_DRIFT1 CAL_DRIFT1_DL_CMP

/-- The stored value of an item, if the stored set has one. -/
def State.calStored (s : State) (k : Nat) : List Int := tblGet calNone s.cal.stored k
/-- The value in force. -/
def State.calForce (s : State) (k : Nat) : List Int := tblGet calNone s.cal.force k

/-- The unit (tile) an item belongs to; REF (0) by die. -/
def calTile (cls i : Nat) : Nat :=
  match cls with
  | 0 => i / 2 | 1 => i / 4 | 2 => i / 20 | 3 => i / 320 | 4 => i / 32 | 5 => i / 32 | _ => i / 64

/-- The cell a cell correction belongs to (R636). -/
def calCell (cls i : Nat) : Option Nat := match cls with | 3 => some (i / 10) | 4 => some i | 5 => some i | _ => none

/-- PEND shows whether a value waits. -/
def State.calPend (s : State) : State := s.setF CAL_STATUS CAL_STATUS_PEND (!s.cal.wait.isEmpty).toNat

/-- A value comes into force now; a SLICE value gives way to the slice's Eddy trims (R637). -/
def State.calApply (s : State) (k : Nat) (v : List Int) : State :=
  let cls := k / 8192
  let i := k % 8192
  let eddy := cls == 2 && (s.group (i / 5)).trims.any (fun x => x.1 == i % 5)
  let c := { s.cal with wait := tblDrop s.cal.wait k }
  if eddy then { s with cal := c } else { s with cal := { c with force := tblSet calNone c.force k v } }

/-- A value enters force (R634): at once before OUTREL, else at a boundary; AMP at an epoch. -/
def State.calEnter (s : State) (k : Nat) (v : List Int) : State :=
  (if s.outputsReleased || k / 8192 == 7 then { s with cal := { s.cal with wait := tblPut s.cal.wait k v } }
   else s.calApply k v).calPend

/-- The boundary at which a waiting value is applied: an epoch, or the opening of a window over some tiles (R634). -/
def calCovered (k : Nat) (epoch : Bool) (tiles : Nat) : Bool :=
  let cls := k / 8192
  let i := k % 8192
  epoch || (match cls with
    | 7 => false
    | 0 => (List.range 8).all fun t => bitOf tiles (i / 2 * 8 + t)
    | _ => bitOf tiles (calTile cls i))

/-- Is a correction put off at a boundary (R636): its cell plays, or the pulse generator is busy? -/
def State.calBusy (s : State) (k : Nat) : Bool :=
  match calCell (k / 8192) (k % 8192) with
  | some u => (s.cell u).playing.isSome || (s.pulse u).shot.isSome
  | none => false

/-- A boundary (R634-R636): the keys of the waiting values of its units that take effect; those put off are counted. -/
def State.calDue (s : State) (epoch : Bool) (tiles : Nat) : List Nat × State :=
  let l := (s.cal.wait.map (·.1)).filter fun k => calCovered k epoch tiles
  (l.filter fun k => !s.calBusy k, s.incBy CAL_DEFER_LO (l.filter s.calBusy).length)

/-- Waiting values of some keys take effect. -/
def State.calTake (s : State) (ks : List Nat) : State :=
  (ks.foldl (fun s k => match s.cal.wait.find? (fun x => x.1 == k) with
    | some (_, v) => s.calApply k v
    | none => s) s).calPend

/-- A boundary at which nothing is waited for (R634-R636). -/
def State.calBoundary (s : State) (epoch : Bool) (tiles : Nat) : State :=
  let r := s.calDue epoch tiles
  r.2.calTake r.1

/-- Every component lies within its limit, scaled by a sixteenth of `dl`. -/
def withinLimits : List Int → List Int → Nat → Bool
  | v :: r, l :: t, dl => decide (v.natAbs * 16 ≤ l.natAbs * dl) && withinLimits r t dl
  | _, _, _ => true

/-- A measurement fails (R622, R625): KIND 0 absolute, 1 drift. -/
def State.calFail (s : State) (cls i kind : Nat) (v : List Int) : State :=
  let st := (s.calStored (calKey cls i)).getD 0 0
  let lim := (if kind = 0 then calLimit cls else (calDrift cls).map fun d => d * s.calDl cls / 16).getD 0 0
  let s := (s.inc CAL_FAILS_LO).flag CAL_STATUS CAL_STATUS_FAIL
  let s := s.healthLog cls [i, kind, wrapTo 32 st, wrapTo 32 (v.getD 0 0), wrapTo 32 lim]
  if s.bit CAL_FREC CAL_FREC_VALID then s
  else s.put CAL_FREC (BitVec.ofNat 32 (2 ^ 31 + kind * 2 ^ 30 + cls * 2 ^ 24 + i))

/-- A measurement is checked (R622, R624); answers whether it failed. -/
def State.calMeasure (s : State) (cls i : Nat) (v : List Int) : Bool × State :=
  let k := calKey cls i
  let st := s.calStored k
  if !withinLimits v (calLimit cls) 16 then (true, s.calFail cls i 0 v)
  else if st ≠ [] ∧ withinLimits (List.zipWith (· - ·) v st) (calDrift cls) (s.calDl cls) = false then
    (true, s.calFail cls i 1 v)
  else (false, s.calEnter k v)

/-- Several measurements; how many failed. -/
def State.calMeasures (s : State) (l : List CalMeas) : Nat × State :=
  l.foldl (fun (n, s) m => let (f, s) := s.calMeasure m.cls.val m.index m.vals; (n + f.toNat, s)) (0, s)

/-- CAL_POWERUP_START (R620): the references of both dies are enabled for good; every tile must be powered. -/
def execCalPowerupStart (d : Fin 2) (s : State) : Host.Outcome State Fault Refusal :=
  .next (if s.bit CAL_STATUS CAL_STATUS_PUDONE || !s.pwr.tilesUp then s
    else { (s.flag (CVG_REF d.val) CVG_REF_EN_A).flag (CVG_REF d.val) CVG_REF_EN_B with
      cal := { s.cal with running := true } })

/-- CAL_POWERUP_END (R620, R622): what the run measured on both dies. -/
def execCalPowerupEnd (res : List CalMeas) (s : State) : Host.Outcome State Fault Refusal :=
  .next (if !s.cal.running then s
    else
      let s := (s.calMeasures res).2
      let s := { s with cal := { s.cal with powerup := s.cal.force.filter fun x => x.1 / 8192 == 2 } }
      ({ s with cal := { s.cal with running := false } }.flag CAL_STATUS CAL_STATUS_PUDONE).occur 0x800)

/-- Do the trims of an Eddy run lie within the drift limits about the slice's power-up values (R270, R624)? A slice without
such values has the nominal ones, zeros. -/
def State.eddyPasses (s : State) (g : Nat) (trims : List Int) : Bool :=
  let st := tblGet calNone s.cal.powerup (calKey 2 (g * 5 + s.fld (CVG_EDDY g) CVG_EDDY_SLICE))
  withinLimits (trims.zipIdx.map fun x => x.1 - st.getD x.2 0) (calDrift 2) (s.calDl 2)

/-- EDDY_RUN_END (R268, R270): a run of the Eddy slice ends with its trims in the units of Table 18.2: offset and gain
error, which have a drift limit, then the bit weights. -/
def execEddyRunEnd (g : Fin 64) (limited : Int × Int) (weights : List Int) (s : State) :
    Host.Outcome State Fault Refusal :=
  let trims := limited.1 :: limited.2 :: weights
  let st := s.fld (CVG_EDDY g.val) CVG_EDDY_STATE
  .next (if st ≠ 1 ∧ st ≠ 2 then s else s.eddyRunEnd g.val (s.eddyPasses g.val trims) trims)

/-- A command ends (R630, R638). -/
def State.calEnd (s : State) (result : Nat) : State :=
  ({ s with cal := { s.cal with op := none, amp := none } }.setF CAL_STATUS CAL_STATUS_BUSY 0).setF
    CAL_RESULT CAL_RESULT_RESULT result |>.occur 0x802

/-- A command begins. -/
def State.calBegin (s : State) (o : CalOp) : State :=
  { s with cal := { s.cal with op := some o } }.flag CAL_STATUS CAL_STATUS_BUSY

/-- The first line of a calibration bank (Table 11.7). -/
def calBankLine (b : Nat) : Nat := (0x1000000 + b * 0x100000) / 64

/-- A signed component as bytes. -/
def calBytes (n : Nat) (v : Int) : List Byte := bytesOf n (wrapTo (8 * n) v)

/-- The bytes of one value. -/
def State.calItem (s : State) (cls i : Nat) : List Byte :=
  let v := s.calForce (calKey cls i)
  ((calSizes cls).zipIdx.map fun (n, j) => calBytes n (v.getD j 0)).flatten

/-- The body of the set of the values in force (Table 18.2). -/
def State.calBody (s : State) : List Byte :=
  let pad (n : Nat) : List Byte := List.replicate n 0
  ((List.range 4).flatMap fun i => s.calItem 0 i ++ pad 12)
    ++ ((List.range 64).flatMap fun i => s.calItem 1 i ++ pad 8)
    ++ ((List.range 320).flatMap fun i => s.calItem 2 i ++ pad 24)
    ++ ((List.range 512).flatMap fun u => ((List.range 10).flatMap fun g => s.calItem 3 (u * 10 + g))
      ++ s.calItem 4 u ++ s.calItem 5 u ++ pad 34)
    ++ ((List.range 1024).flatMap fun i => s.calItem 6 i ++ pad 12)
    ++ ((List.range 4).flatMap fun i => s.calItem 7 i ++ pad 12)

/-- The device's identity. -/
def State.uid (s : State) : Nat := (s.reg SYS_UID_HI).toNat * 2 ^ 32 + (s.reg SYS_UID_LO).toNat

/-- The header of a set (Table 18.2). -/
def State.calHeader (s : State) (seq : Nat) (body : List Byte) : List Byte :=
  let h := bytesOf 4 0x4C414343 ++ bytesOf 2 1 ++ bytesOf 2 0 ++ bytesOf 4 seq ++ bytesOf 4 0 ++ bytesOf 8 s.uid
    ++ bytesOf 4 (crc32 body).toNat ++ List.replicate 32 0
  h ++ bytesOf 4 (crc32 h).toNat

/-- What is wrong with the bytes of a set (R629, R632): nothing, its format, its UID alone. -/
def State.calCheck (s : State) (l : List Byte) : Option Nat :=
  let f (o n : Nat) : Nat := natOf ((l.drop o).take n)
  if f 0 4 ≠ 0x4C414343 ∨ f 4 2 ≠ 1 ∨ f 24 4 ≠ (crc32 (l.drop 64)).toNat ∨ f 60 4 ≠ (crc32 (l.take 60)).toNat then some 6
  else if f 16 8 ≠ s.uid then some 7
  else none

/-- The values of a set. -/
def calDecode (l : List Byte) : Tbl (List Int) :=
  (List.range 8).flatMap fun cls => (List.range (calCount cls)).filterMap fun i =>
    let o := calOffset cls i
    let v : List Int := ((calSizes cls).foldl (fun (x : List Int × Nat) n =>
      let w := natOf ((l.drop x.2).take n)
      (x.1 ++ [if cls = 7 then (w : Int) else sext (8 * n) w], x.2 + n)) ([], o)).1
    if v.all (· == 0) then none else some (calKey cls i, v)

/-- The bytes of a bank; none where a line is uncorrectable. -/
def State.calBank (s : State) (b : Nat) : Option (List Byte) × State :=
  (List.range 1107).foldl (fun (l, s) k =>
    match l, s.nvmRead 0x100 (calBankLine b + k) with
    | some l, (some w, s) => (some (l ++ bytesOfWords w), s)
    | _, (_, s) => (none, s)) (some [], s)

/-- The sequence of a set. -/
def calSeq (l : List Byte) : Nat := natOf ((l.drop 8).take 4)

/-- Is sequence b later than a (R629)? -/
def seqLater (a b : Nat) : Bool := let d := (b + 2 ^ 32 - a) % 2 ^ 32; decide (1 ≤ d ∧ d < 2 ^ 31)

/-- The stored set is found at start-up (R629): its values are the stored ones and come into force. -/
def State.calFind (s : State) : State :=
  let (a, s) := s.calBank 0
  let (b, s) := s.calBank 1
  let ok (x : Option (List Byte)) : Option (List Byte) := x.bind fun l => if (s.calCheck l).isNone then some l else none
  let pick : Option (Nat × List Byte) := match ok a, ok b with
    | some x, some y => if seqLater (calSeq x) (calSeq y) then some (1, y) else some (0, x)
    | some x, none => some (0, x)
    | none, some y => some (1, y)
    | none, none => none
  match pick with
  | some (n, l) =>
    let t := calDecode l
    ({ s with cal := { s.cal with stored := t, force := t } }.setF CAL_STATUS CAL_STATUS_BANK n).put CAL_SEQ
      (BitVec.ofNat 32 (calSeq l))
  | none => ((s.setF CAL_STATUS CAL_STATUS_BANK 2).flag CAL_STATUS CAL_STATUS_NOSTORE).healthLog 0x0F [0, 3, 0, 0, 0]

/-- SAVE and the writing of an imported set (R630): body lines first; the header follows when all are durable. -/
def State.calWrite (s : State) (body : List Byte) : State :=
  let bank := if s.fld CAL_STATUS CAL_STATUS_BANK = 0 then 1 else 0
  let s := s.calBegin (.save 1106 bank)
  let s := (List.range 1106).foldl (fun s k =>
    s.nvmQueue (calBankLine bank + 1 + k) (wordsOf ((body.drop (64 * k)).take 64)) (.cal false)) s
  { s with cal := { s.cal with saving := body } }

/-- A line of a set is durable, or has failed (R630, R631). -/
def State.calLine (s : State) (ok last : Bool) : State :=
  match s.cal.op with
  | some (.save left bank) =>
    if !ok then
      { s with mem := { s.mem with nvmQ := s.mem.nvmQ.filter fun w => match w.use with | .cal _ => false | _ => true } }.calEnd 8
    else if last then
      let seq := (s.reg CAL_SEQ).toNat + 1
      let s := { s with cal := { s.cal with stored := calDecode (List.replicate 64 0 ++ s.cal.saving), saving := [] } }
      (((s.setF CAL_STATUS CAL_STATUS_BANK bank).setF CAL_STATUS CAL_STATUS_NOSTORE 0).put CAL_SEQ
        (BitVec.ofNat 32 seq)).calEnd 0
    else if left = 1 then
      let h := s.calHeader ((s.reg CAL_SEQ).toNat + 1) s.cal.saving
      { s.nvmQueue (calBankLine bank) (wordsOf h) (.cal true) with
        cal := { s.cal with op := some (.save 0 bank) } }
    else { s with cal := { s.cal with op := some (.save (left - 1) bank) } }
  | _ => s

/-- Does an EXPORT or IMPORT range lie wholly in tile SRAM or DDR (R632)? -/
def State.calRange (s : State) : Option Nat :=
  let o := s.fld CAL_XADDR_HI CAL_XADDR_HI_ADDR_HI * 2 ^ 32 + s.fld CAL_XADDR_LO CAL_XADDR_LO_ADDR * 64
  if o + 70848 ≤ s.ddrTop ∨ (0x6000000000 ≤ o ∧ o + 70848 ≤ 0x6004000000) then some o else none

/-- A calibration command (R626-R633). -/
def State.calCmd (s : State) (op src cls : Nat) : State :=
  let res (s : State) (r : Nat) : State := (s.setF CAL_RESULT CAL_RESULT_RESULT r).occur 0x802
  if s.bit CAL_STATUS CAL_STATUS_BUSY then s.setF CAL_RESULT CAL_RESULT_RESULT 1
  else match op with
    | 1 => if s.outputsReleased && !s.fenced then res s 2 else if cls = 0 then s else s.calBegin .recal
    | 2 => if s.halfFailed 0 || s.halfFailed 1 then res s 5 else s.calWrite s.calBody
    | 3 => if s.calRange.isNone then res s 4 else s.calBegin .exporting
    | 4 => if s.calRange.isNone then res s 4 else s.calBegin .importing
    | 5 =>
      if s.srcKind src != 3 || !s.bit (ANG_SRC_STAT src) ANG_SRC_STAT_LOCKED then res s 3
      else
        { s.calBegin .amp with
          cal := { s.cal with op := some .amp, amp := some ⟨src, (s.src src).loop.vis.extractLsb' 48 16, false, 0, 0, false⟩ } }
    | _ => s

/-- A write of CAL_CMD; RECAL with no class is a reserved combination (R17). -/
def State.calCmdWrite (s : State) (q : Req) (v : Word) : State :=
  let op := fieldGet CAL_CMD_OP v
  let cls := fieldGet CAL_CMD_CLASS v
  if op == 1 && cls == 0 then s.rsvd q CAL_CMD true
  else
    let s := s.regWrite q CAL_CMD v
    if reservedEncoding (fieldsAt CAL_CMD) v then s else s.calCmd op (fieldGet CAL_CMD_SRC v) cls

/-- A command word. -/
def calWord (op src cls : Nat) : Word := BitVec.ofNat 32 (op * 2 ^ 28 + src * 2 ^ 8 + cls)

/-- RECAL (R626). -/
def execRecal (q : Req) (cls : BitVec 7) (s : State) : Host.Outcome State Fault Refusal :=
  .next (s.guardWrite q CAL_CMD fun s => s.calCmdWrite q (calWord 1 0 cls.toNat))
/-- SAVE (R630). -/
def execSave (q : Req) (s : State) : Host.Outcome State Fault Refusal :=
  .next (s.guardWrite q CAL_CMD fun s => s.calCmdWrite q (calWord 2 0 0))
/-- EXPORT (R632). -/
def execExport (q : Req) (s : State) : Host.Outcome State Fault Refusal :=
  .next (s.guardWrite q CAL_CMD fun s => s.calCmdWrite q (calWord 3 0 0))
/-- IMPORT (R632). -/
def execImport (q : Req) (s : State) : Host.Outcome State Fault Refusal :=
  .next (s.guardWrite q CAL_CMD fun s => s.calCmdWrite q (calWord 4 0 0))
/-- AMP (R627). -/
def execAmp (q : Req) (src : Fin 4) (s : State) : Host.Outcome State Fault Refusal :=
  .next (s.guardWrite q CAL_CMD fun s => s.calCmdWrite q (calWord 5 src.val 0))

/-- RECAL_END (R626). -/
def execRecalEnd (res : List CalMeas) (s : State) : Host.Outcome State Fault Refusal :=
  .next (match s.cal.op with
    | some .recal => let (n, s) := s.calMeasures res; (s.setF CAL_RESULT CAL_RESULT_NFAIL n).calEnd 0
    | _ => s)

/-- The end of an EXPORT (R632): the set read from its bank `r`, written to memory at `o`. -/
def State.exportTo (o : Nat) (r : Option (List Byte) × State) : State :=
  match r.1 with
  | some l => ((r.2.memWrite 0x100 o l).2).calEnd 0
  | none => r.2.calEnd 0

/-- EXPORT_END (R632): the copy of the stored set is in memory. -/
def execExportEnd (s : State) : Host.Outcome State Fault Refusal :=
  .next (match s.cal.op with
    | some .exporting =>
      (match s.calRange with
       | some o => State.exportTo o (s.calBank (s.fld CAL_STATUS CAL_STATUS_BANK))
       | none => s.calEnd 4)
    | _ => s)

/-- The set an import has read (R632), checked and written. -/
def State.importFrom (r : Option (List Byte) × State) : State :=
  match r.1 with
  | some l =>
    (match r.2.calCheck l with
     | some e => r.2.calEnd e
     | none => if r.2.halfFailed 0 || r.2.halfFailed 1 then r.2.calEnd 5 else r.2.calWrite (l.drop 64))
  | none => r.2.calEnd 6

/-- IMPORT_READ_END (R632): the set has been read; it is checked and written. -/
def execImportReadEnd (s : State) : Host.Outcome State Fault Refusal :=
  .next (match s.cal.op with
    | some .importing =>
      (match s.calRange with
       | some o => State.importFrom (s.memRead 0x100 o 70848)
       | none => s.calEnd 4)
    | _ => s)

/-- AMP_END (R627): the mean, rounded as log entry 3 says, against 10 % and 100 % of full scale squared. -/
def execAmpEnd (s : State) : Host.Outcome State Fault Refusal :=
  .next (match s.cal.op, s.cal.amp with
    | some .amp, some a =>
      if !a.ended || a.n = 0 then s
      else
        let m := quot a.sum (a.n * 2 ^ 14)
        if m * 10 < 2 ^ 32 ∨ 2 ^ 32 ≤ m then s.calEnd 4 else (s.calEnter (calKey 7 a.src) [m]).calEnd 0
    | _, _ => s)

end Sys2Proof.Machine
end

