-- ==== Sys2Proof/Machine/Filter.lean ====
section
/-! DEFINITION. Filter engines (chapter 7): channels and their operations, input selection, the four stages,
stamps, output flags, coefficient banks and the application of settings. -/

namespace Sys2Proof.Machine

def State.chan (s : State) (u : Nat) : Chan := tblGet (fun _ => Chan.reset) s.chans u
def State.setChan (s : State) (u : Nat) (c : Chan) : State :=
  { s with chans := tblSet (fun _ => Chan.reset) s.chans u c }
def State.engine (s : State) (e : Nat) : Engine := tblGet (fun _ => Engine.reset) s.engines e
def State.setEngine (s : State) (e : Nat) (x : Engine) : State :=
  { s with engines := tblSet (fun _ => Engine.reset) s.engines e x }

/-! ### Channel states and operations (R284, R285) -/

def chDisabled : Nat := 0
def chStopped : Nat := 1
def chRunning : Nat := 2

def State.chState (s : State) (u : Nat) : Nat := s.fld (FLT_CH_STATUS u) FLT_CH_STATUS_STATE
def State.setChState (s : State) (u x : Nat) : State := s.setF (FLT_CH_STATUS u) FLT_CH_STATUS_STATE x

/-- A restart (R284): the lines, accumulators and stamp history are cleared; FILL is 1 (R293). -/
def State.chRestart (s : State) (u : Nat) : State :=
  let c := s.chan u
  (s.setChan u { Chan.reset with k := s.fld (FLT_CH_DC u) FLT_CH_DC_K, lastOut := c.lastOut }).setF
    (FLT_CH_STATUS u) FLT_CH_STATUS_FILL 1

/-- The restart after a gap (R284), at the channel's next input; the position count began anew when that input
reached the engine. -/
def State.chRegap (s : State) (u : Nat) : State :=
  let c := s.chan u
  let s := s.chRestart u
  s.setChan u { s.chan u with pos := c.pos, repeated := c.repeated, restart := c.restart }

/-- ENABLE. -/
def State.fltEnable (s : State) (u : Nat) : State :=
  if s.chState u = chDisabled then s.setChState u chStopped else s

/-- A queued word without a channel among its takers. -/
def FltItem.without (x : FltItem) (c : Nat) : FltItem :=
  { x with takers := x.takers.filter (· != c), gaps := x.gaps.filter (· != c) }

/-- DISABLE: a running channel's words in the FIFO are discarded without count. -/
def State.fltDisable (s : State) (u : Nat) : State :=
  if s.chState u = chRunning then
    let e := s.engine (u / 8)
    let s := s.setEngine (u / 8) { e with
      fifo := (e.fifo.map (·.without (u % 8))).filter fun x => !x.takers.isEmpty }
    s.setChState u chDisabled
  else if s.chState u = chStopped then s.setChState u chDisabled
  else s

/-- START; without effect while domain 15 is lost or stopped (R306). -/
def State.fltStart (s : State) (u : Nat) : State :=
  if s.chState u = chStopped ∧ s.clockDead 15 = false then
    let s := s.chRestart u
    (s.setChan u { s.chan u with lastOut := none }).setChState u chRunning
  else s

/-- STOP: words already in the FIFO are processed. -/
def State.fltStop (s : State) (u : Nat) : State :=
  if s.chState u = chRunning then s.setChState u chStopped else s

/-- CLEAR: the channel's W1C flags; a running channel restarts. -/
def State.fltClear (s : State) (u : Nat) : State :=
  let s := s.put (FLT_CH_STATUS u) (s.reg (FLT_CH_STATUS u) &&& ~~~ 0x00000380)
  if s.chState u = chRunning then s.chRestart u else s

/-- The UCMD operations of Table 7.2. -/
def State.fltUcmd (s : State) (u code : Nat) : Option State :=
  match code with
  | 0 => some (s.fltEnable u)
  | 1 => some (s.fltDisable u)
  | 2 => some (s.fltStart u)
  | 3 => some (s.fltStop u)
  | 7 => some (s.fltClear u)
  | _ => none

/-- FLT_CH_CTL.CMD. -/
def State.fltCmd (s : State) (u cmd : Nat) : State :=
  match cmd with
  | 1 => s.fltEnable u
  | 2 => s.fltDisable u
  | 3 => s.fltStart u
  | 4 => s.fltStop u
  | 5 => s.fltClear u
  | _ => s

/-- A write to FLT_CH_CTL. -/
def State.fltCtlWrite (s : State) (q : Req) (u : Nat) (v : Word) : State :=
  let a := FLT_CH_CTL u
  if reservedEncoding (fieldsAt a) v then s.rsvd q a true
  else
    let s := if (v &&& reservedBits (fieldsAt a)) != 0 then s.rsvd q a false else s
    s.fltCmd u (fieldGet FLT_CH_CTL_CMD v)

/-- FLT_ENABLE. -/
def execFltEnable (q : Req) (u : Fin 512) (s : State) : Host.Outcome State Fault Refusal :=
  .next (s.guardWrite q (FLT_CH_CTL u.val) fun s => s.fltCtlWrite q u.val 1)
/-- FLT_DISABLE. -/
def execFltDisable (q : Req) (u : Fin 512) (s : State) : Host.Outcome State Fault Refusal :=
  .next (s.guardWrite q (FLT_CH_CTL u.val) fun s => s.fltCtlWrite q u.val 2)
/-- FLT_START. -/
def execFltStart (q : Req) (u : Fin 512) (s : State) : Host.Outcome State Fault Refusal :=
  .next (s.guardWrite q (FLT_CH_CTL u.val) fun s => s.fltCtlWrite q u.val 3)
/-- FLT_STOP. -/
def execFltStop (q : Req) (u : Fin 512) (s : State) : Host.Outcome State Fault Refusal :=
  .next (s.guardWrite q (FLT_CH_CTL u.val) fun s => s.fltCtlWrite q u.val 4)
/-- FLT_CLEAR. -/
def execFltClear (q : Req) (u : Fin 512) (s : State) : Host.Outcome State Fault Refusal :=
  .next (s.guardWrite q (FLT_CH_CTL u.val) fun s => s.fltCtlWrite q u.val 5)

/-! ### Input (R282-R284, R300) -/

/-- The word's tag: bits [20:16] of its second stamp word. -/
def CWord.tag (w : CWord) : Option Nat := w.stamp.map fun (_, b) => (b.extractLsb' 16 5).toNat

/-- The position count after a word arrives (Table 7.1): FRAME is position 0, URGENT words are not counted. -/
def posAfter (old : Option Nat) (w : CWord) : Option Nat :=
  if wordFlag w.word 4 then old
  else if wordFlag w.word 7 then some 0
  else old.map (· + 1)

/-- Does a channel take the word, given its position count after the word (Table 7.1)? -/
def State.chTakes (s : State) (u : Nat) (w : CWord) (pos : Option Nat) : Bool :=
  let a := FLT_CH_CFG u
  let v := s.fld a FLT_CH_CFG_SELV
  match s.fld a FLT_CH_CFG_SEL with
  | 0 => w.tag == some v
  | 1 => !wordFlag w.word 4 && pos == some v
  | 2 => true
  | _ => false

/-- Does channel u + 1 take its input from channel u (Table 7.1, CHAIN)? -/
def State.chChained (s : State) (u : Nat) : Bool :=
  decide (u % 8 < 7 ∧ s.chState (u + 1) = chRunning ∧ s.fld (FLT_CH_CFG (u + 1)) FLT_CH_CFG_SEL = 3)

/-- An output is sent (R282, R300): to the port, to learning, as ROLE says; a chained channel takes it too. It is
the channel's last output. -/
def State.chDeliver (s : State) (u : Nat) (o : CWord) : State :=
  let role := s.fld (FLT_CH_CFG u) FLT_CH_CFG_ROLE
  let s := if role = 1 ∨ role = 3 then s.offer (577 + 2 * (u / 8)) o else s
  if role = 2 ∨ role = 3 then s.learnSample u o else s

/-- Is a channel's output sent anywhere (R300)? -/
def State.chSends (s : State) (u : Nat) : Bool := s.fld (FLT_CH_CFG u) FLT_CH_CFG_ROLE != 0 || s.chChained u

/-- A HOLD word repeats a channel's last output (R300): at the first such word, then at most once per µs. The
repeat carries HOLD itself, so a chained channel repeats its own. `fuel` bounds the chain. -/
def State.chHold (s : State) (u : Nat) : Nat → State
  | 0 => s
  | fuel + 1 =>
    let c := s.chan u
    match c.lastOut with
    | none => s
    | some w =>
      let go := match c.repeated with | none => true | some t => decide (t + 1000 ≤ s.ns)
      let s := s.flag (FLT_CH_STATUS u) FLT_CH_STATUS_HOLDING
      if go then
        let s := (s.setChan u { c with repeated := some s.ns }).inc (FLT_CH_HOLD_LO u)
        let s := s.chDeliver u { w with word := setWordFlag w.word 1 }
        if s.chChained u then s.chHold (u + 1) fuel else s
      else s

/-- A word without HOLD is taken (R300): the holding ends. -/
def State.chTaken (s : State) (u : Nat) : State :=
  (s.setF (FLT_CH_STATUS u) FLT_CH_STATUS_HOLDING 0).setChan u { s.chan u with repeated := none }

/-- Is the DC blocker frozen (R290)? -/
def State.frozen (s : State) (u : Nat) : Bool :=
  let e := u / 8
  let c := u % 8
  let dc := FLT_CH_DC u
  let p := s.pulse (u / 32 * 32 + s.fld dc FLT_CH_DC_GSEL)
  bitOf (s.fld (FLT_DCB e) FLT_DCB_FREEZE) c || bitOf (s.fld (FLT_DCB e) FLT_DCB_FRZ_NOW) c
    || (s.bit dc FLT_CH_DC_GEN && (p.gate ||
      (match p.gateFell with | some t => decide (s.ns ≤ t + s.fld dc FLT_CH_DC_TAIL * 1000) | none => false)))

/-- The words a channel has taken start its position count anew after a gap (R284): at its next input. -/
def State.chGapTaken (s : State) (u : Nat) (w : CWord) : State :=
  let c := s.chan u
  if c.restart then s.setChan u { c with restart := false, pos := posAfter none w } else s

/-- A sample word arrives at the engine (R282, R284): taken into the FIFO with the channels that take it, those that
restart at it, and those frozen as it reaches the engine (R290). While domain 15 is lost it is lost without count
(R306). -/
def State.fltWord (s : State) (e : Nat) (w : CWord) : State :=
  let run := (List.range 8).filter fun c => s.chState (e * 8 + c) == chRunning
  if s.clockDead 15 then s
  else if wordFlag w.word 1 then
    run.foldl (fun s c =>
      let u := e * 8 + c
      if s.chTakes u w (posAfter (s.chan u).pos w) then s.chHold u 8 else s) s
  else
    let s := run.foldl (fun s c =>
      let u := e * 8 + c
      s.setChan u { s.chan u with pos := posAfter (s.chan u).pos w }) s
    let takers := run.filter fun c => s.chTakes (e * 8 + c) w (s.chan (e * 8 + c)).pos
    if takers.isEmpty then s
    else
      let s := takers.foldl (fun s c => s.chTaken (e * 8 + c)) s
      let x := s.engine e
      if x.fifo.length < 64 then
        let gaps := takers.filter fun c => (s.chan (e * 8 + c)).restart
        let frz := (List.range 8).filter fun c => s.frozen (e * 8 + c)
        (takers.foldl (fun s c => s.chGapTaken (e * 8 + c) w) s).setEngine e
          { x with fifo := x.fifo ++ [⟨w, takers, gaps, frz⟩] }
      else
        let s := (s.flag (FLT_STATUS e) FLT_STATUS_DROP).inc (FLT_DROP_LO e)
        takers.foldl (fun s c =>
          let u := e * 8 + c
          (s.flag (FLT_CH_STATUS u) FLT_CH_STATUS_GAP).setChan u { s.chan u with restart := true }) s

/-- FLT_INPUT_WORD. -/
def execFltInputWord (e : Fin 64) (s : State) : Host.Outcome State Fault Refusal :=
  match s.takeArrived (576 + 2 * e.val) with
  | none => .next s
  | some (w, s) => .next (s.fltWord e.val w)

/-! ### The stages (R287-R293) -/

/-- Rounding shift and 24-bit saturation (R287). -/
def stageOut (acc : Int) (sh : Nat) : Int × Bool :=
  let y := if sh = 0 then acc else (acc + (2 ^ (sh - 1) : Nat)) / (2 ^ sh : Nat)
  let c := clampTo (-8388608) 8388607 y
  (c, c != y)

/-- A stage's output as a value: a clamp sets SAT, in the value and in the channel's status (R287). -/
def State.stage' (s : State) (u : Nat) (acc : Int) (sh : Nat) (v : FVal) : FVal × State :=
  let (y, sat) := stageOut acc sh
  ({ v with v := y, flags := if sat then v.flags ||| 0x40 else v.flags },
   if sat then (s.flag (FLT_CH_STATUS u) FLT_CH_STATUS_SAT).inc (FLT_CH_SAT_LO u) else s)

/-- Fraction bits of a DC estimate (R289: at least 24). -/
def dcBits : Nat := 24 + Config.dcExtraBits

/-- The DC blocker (R289, R290): the difference to the estimate, and the estimate updated unless `fz`: the freeze
held when the word reached the engine. -/
def State.dcStage (s : State) (u : Nat) (fz : Bool) (x : FVal) : FVal × State :=
  let c := s.chan u
  let k := if fz then c.k else s.fld (FLT_CH_DC u) FLT_CH_DC_K
  let sh := s.fld (FLT_CH_SHIFT u) FLT_CH_SHIFT_SH_DC
  if s.bit (FLT_CH_DC u) FLT_CH_DC_EN then
    let m := match c.est with | some m => m | none => x.v * (2 ^ dcBits : Nat)
    let d := x.v * (2 ^ dcBits : Nat) - m
    let m' := if fz then m else m + d / (2 ^ k : Nat)
    let s := s.setChan u { c with est := some m', k := k }
    let acc := if sh = 0 then d / (2 ^ dcBits : Nat) else (d + ((2 ^ (sh - 1) * 2 ^ dcBits : Nat))) / (2 ^ (dcBits + sh) : Nat)
    let y := clampTo (-8388608) 8388607 acc
    ({ x with v := y, flags := if y != acc then x.flags ||| 0x40 else x.flags },
     if y != acc then (s.flag (FLT_CH_STATUS u) FLT_CH_STATUS_SAT).inc (FLT_CH_SAT_LO u) else s)
  else (s.setChan u { c with k := k }).stage' u x.v sh x

/-- The address of a coefficient in its memory (Table 11.3, W1): bank 0 is A, 1 is B. -/
def coefAddr (e bank k : Nat) : Nat := (e % 4 * 2 + bank) * 8192 + k

/-- A coefficient of one of the two banks (R301), 0 being A. -/
def State.coefIn (s : State) (e bank k : Nat) : BitVec 18 :=
  let x := s.engine e
  tblGet (fun _ => (0 : BitVec 18)) (if bank = 0 then x.bankA else x.bankB) (k % 8192)

/-- Reading a coefficient through its SEC-DED (R301, R398, R400): the word, and whether it was uncorrectable. The
word an uncorrectable or a miscorrected codeword gives is not stated: a free value (log entry 20). -/
def State.coefFetch (s : State) (e bank k : Nat) : (BitVec 18 × Bool) × State :=
  let a := coefAddr e bank (k % 8192)
  if s.codeErr (memKey (0x20 + e / 4) a) = CodeErr.none' then ((s.coefIn e bank k, false), s)
  else
    let (x, s) := s.codeCheck 0x121 (0x20 + e / 4) a true
    match x with
    | .data => ((s.coefIn e bank k, false), s)
    | _ => let (f, s) := s.free; ((BitVec.ofNat 18 f, x == .bad), s)

/-- Coefficients of the active bank read for one computation (R301): the values, and how many were uncorrectable. -/
def State.coefTake (s : State) (e : Nat) : List Nat → (List Int × Nat) × State
  | [] => (([], 0), s)
  | k :: r =>
    let (x, s) := s.coefFetch e (s.fld (FLT_STATUS e) FLT_STATUS_BANK) k
    let (l, s) := s.coefTake e r
    ((x.1.toInt :: l.1, l.2 + x.2.toNat), s)

/-- Uncorrectable coefficient errors of a computation (R301): counted, and POISON in the status. -/
def State.coefPoison (s : State) (e n : Nat) : State :=
  if n = 0 then s else (s.flag (FLT_STATUS e) FLT_STATUS_POISON).incBy (FLT_POIS_LO e) n

/-- The sum of products of coefficients with values, newest first. -/
def dot (h : List Int) (l : List FVal) : Int := (List.zipWith (fun c v => c * v.v) h l).foldl (· + ·) 0

/-- The OR of the flags of values carried over a span (R299): REFNS, TEST, POISON, SAT. -/
def orFlags (l : List FVal) : Word := l.foldl (fun f v => f ||| (v.flags &&& 0x6C)) 0

/-- The number of taps in force (R291): 1 in BYPASS. -/
def State.firLen (s : State) (u : Nat) : Nat :=
  if s.fld (FLT_CH_FIR u) FLT_CH_FIR_MODE = 0 then 1 else s.fld (FLT_CH_FIR u) FLT_CH_FIR_LEN

/-- The coefficient words the FIR reads for one output (R291): one half of them in SYM. -/
def State.firWords (s : State) (u : Nat) : List Nat :=
  let a := FLT_CH_FIR u
  let n := s.fld a FLT_CH_FIR_LEN
  (List.range (match s.fld a FLT_CH_FIR_MODE with | 0 => 0 | 1 => (n + 1) / 2 | _ => n)).map (s.fld a FLT_CH_FIR_BASE + ·)

/-- The FIR (R291) over the inputs since the restart, newest first, with the words of firWords: SYM mirrors them. -/
def State.firAcc (s : State) (u : Nat) (c : List Int) (h : List FVal) : Int :=
  let n := s.fld (FLT_CH_FIR u) FLT_CH_FIR_LEN
  match s.fld (FLT_CH_FIR u) FLT_CH_FIR_MODE with
  | 0 => match h with | v :: _ => v.v | [] => 0
  | 1 => dot (c ++ (c.take (n / 2)).reverse) (h.take n)
  | _ => dot c (h.take n)

/-- The prototype words of one resampler phase (R292); phase 64 is phase 0. -/
def State.phaseWords (s : State) (u φ : Nat) : List Nat :=
  (List.range 16).map (1024 * s.fld (FLT_CH_RS u) FLT_CH_RS_PBASE + 64 * · + φ % 64)

/-- One resampler phase (R292): φ of 64 is phase 0 of the next output. `fs` holds the FIR outputs newest first,
the newest with index `top`; `i` is the index the taps start from. -/
def phaseAcc (c : List Int) (fs : List FVal) (top i φ : Nat) : Int :=
  dot c ((fs.drop (top - (if φ = 64 then i + 1 else i))).take 16)

/-- The stamp of the value at position r, in 2^-24 positions (R296, R297): `left` newest first, the newest with
index `top`; none where the history does not reach. -/
def stampAt (left : List FVal) (top : Nat) (r : Int) : Option Stamp :=
  let j := r / (2 ^ 24 : Nat)
  let g := (r % (2 ^ 24 : Nat)).toNat
  if j < 0 ∨ (top : Int) < j then none
  else
    let at' (k : Nat) : Option Stamp := match (left.take 512)[top - k]? with | some v => v.stamp | none => none
    match at' j.toNat with
    | none => none
    | some s0 =>
      if g = 0 then some s0
      else if (top : Int) < j + 1 then none
      else match at' (j.toNat + 1) with
        | none => none
        | some s1 => some (s0 + BitVec.ofInt 48 ((s1 - s0).toInt * (g : Int) / (2 ^ 24 : Nat)))

/-- D_FIR in 2^-24 positions (R296). -/
def State.dFir (s : State) (u : Nat) : Nat :=
  match s.fld (FLT_CH_FIR u) FLT_CH_FIR_MODE with
  | 0 => 0
  | 1 => (s.fld (FLT_CH_FIR u) FLT_CH_FIR_LEN - 1) * 2 ^ 23
  | _ => s.fld (FLT_CH_FDLY u) FLT_CH_FDLY_FIR_DLY * 2 ^ 16

/-- FRAME of an output: of the value nearest position r (Table 7.4). -/
def frameAt (left : List FVal) (top : Nat) (r : Int) : Word :=
  let j := (r + (2 ^ 23 : Nat)) / (2 ^ 24 : Nat)
  if j < 0 ∨ (top : Int) < j then 0
  else match left[top - j.toNat]? with
    | some v => v.flags &&& 0x80
    | none => 0

/-- An output leaves the last stage (R297, R299): its word, with its stamp under STIN; where no kept stamp lies at
its position the stamp is a free value (log entry 15). -/
def State.chOut (s : State) (u : Nat) (y : FVal) (r : Int) : CWord × State :=
  let c := s.chan u
  let top := c.n - 1
  let w : Word := BitVec.ofNat 32 (wrapTo 24 y.v * 256) ||| (y.flags &&& 0x6C) ||| frameAt c.left top r
  if s.bit (FLT_CH_CFG u) FLT_CH_CFG_STIN then
    match stampAt c.left top r with
    | some st => (CWord.mk' w (some st) (24 + u % 8), s)
    | none =>
      let (x, s) := s.free
      (CWord.mk' w (some (BitVec.ofNat 48 x)) (24 + u % 8), s)
  else (CWord.mk' w none 0, s)

/-- An output of the channel's last stage (R292, R293, R296): its value, the position it represents in 2^-24, and
whether all its taps hold values entered since the restart. -/
structure FOut where
  val : FVal
  pos : Int
  full : Bool
  deriving DecidableEq, Repr

/-- The resampler's outputs that the FIR outputs allow now (R292), oldest first. `bad`: the first one reads an
uncorrectable coefficient. -/
def State.resample (s : State) (u : Nat) (bad : Bool) : Nat → List FOut × State
  | 0 => ([], s)
  | fuel + 1 =>
    let c := s.chan u
    let e := u / 8
    let top := c.n - 1
    let f := s.fld (FLT_CH_DLY u) FLT_CH_DLY_FRAC * 256
    let p := c.acc - f
    let i := p / 2 ^ 24
    let g64 := (p % 2 ^ 24) * 64
    let interp := s.bit (FLT_CH_RS u) FLT_CH_RS_INTERP
    let φ0 := if interp then g64 / 2 ^ 24 else (g64 + 2 ^ 23) / 2 ^ 24
    let need := if (interp && φ0 + 1 == 64) || φ0 == 64 then i + 1 else i
    let low := (if interp then i else need) - 15
    if c.firs.isEmpty ∨ top < need then ([], s)
    else
      let sh := s.fld (FLT_CH_SHIFT u) FLT_CH_SHIFT_SH_RS
      let ((c0, n0), s) := s.coefTake e (s.phaseWords u φ0)
      let ((c1, n1), s) := if interp then s.coefTake e (s.phaseWords u (φ0 + 1)) else (([], 0), s)
      let n := n0 + n1 + bad.toNat
      let s := s.coefPoison e n
      let span := (c.firs.drop (top - need)).take (need - low + 1)
      let base : FVal := ⟨0, orFlags span ||| (if n = 0 then 0 else 0x20), none⟩
      let (y, s) :=
        if interp then
          let uu := (g64 % 2 ^ 24) / 2 ^ 16
          let num := (256 - uu : Nat) * phaseAcc c0 c.firs top i φ0 + (uu : Nat) * phaseAcc c1 c.firs top i (φ0 + 1)
          let acc := if sh = 0 then num / 256 else (num + ((2 ^ (sh - 1) * 256 : Nat))) / ((256 * 2 ^ sh : Nat))
          s.stage' u acc 0 base
        else s.stage' u (phaseAcc c0 c.firs top i φ0) sh base
      let s := s.setChan u { c with acc := c.acc + (s.reg (FLT_CH_RATIO u)).toNat }
      let r : Int := (p : Int) - (1023 * 2 ^ 17 : Nat) - (s.dFir u : Nat)
      let (l, s) := s.resample u false fuel
      (⟨y, r, decide (s.firLen u ≤ low + 1)⟩ :: l, s)

/-- The stamp a channel gives its input (R283): its own, or the previous one plus the last difference; none where
fewer than two are held. -/
def inputStamp (c : Chan) (w : CWord) : Option Stamp :=
  match w.stampOf with
  | some x => some x
  | none => match c.s1, c.s2 with
    | some a, some b => some (a + (a - b))
    | _, _ => none

/-- A sample enters a channel's delay line (R283, R288): the value that leaves the line, if any, with its stamp
resolved; none where a stamp is needed and not there, or the line is not yet full. -/
def State.chLine (s : State) (u : Nat) (w : CWord) : Option FVal × State :=
  let c := s.chan u
  let stin := s.bit (FLT_CH_CFG u) FLT_CH_CFG_STIN
  let st := if stin then inputStamp c w else none
  let s := if stin && w.stamp.isNone then (s.flag (FLT_CH_STATUS u) FLT_CH_STATUS_NOSTAMP).inc (FLT_CH_NOST_LO u) else s
  if stin && st.isNone then (none, s)
  else
    let fl := (w.word &&& 0xEC) ||| (if w.poisoned then 0x20 else 0)
    let x : FVal := ⟨(w.word.extractLsb' 8 24).toInt, fl, st⟩
    let d := s.fld (FLT_CH_DLY u) FLT_CH_DLY_D_INT
    let line := x :: c.delay
    let c := { s.chan u with s1 := st, s2 := if stin then c.s1 else none, delay := line.take d }
    ((line.drop d).head?, s.setChan u c)

/-- A value of the delay line is scaled and passes the DC blocker (R287, R289). -/
def State.chHead (s : State) (u : Nat) (fz : Bool) (x : FVal) : FVal × State :=
  let r := s.stage' u x.v (s.fld (FLT_CH_SHIFT u) FLT_CH_SHIFT_SH_IN) x
  let c := r.2.chan u
  (r.2.setChan u { c with left := (r.1 :: c.left).take 1024, n := c.n + 1 }).dcStage u fz r.1

/-- The FIR and the resampler (R291, R292): the results of the channel. `bad`: the first computation that reads
coefficients reads an uncorrectable one (R301). -/
def State.chFir (s : State) (u : Nat) (x : FVal) (bad : Bool) : List FOut × State :=
  let c := s.chan u
  let h := (x :: c.hist).take 384
  let ks := s.firWords u
  let ((cs, n), s) := (s.setChan u { c with hist := h }).coefTake (u / 8) ks
  let n := n + (if ks.isEmpty then 0 else bad.toNat)
  let s := s.coefPoison (u / 8) n
  let fl := orFlags (h.take (s.firLen u)) ||| (if n = 0 then 0 else 0x20)
  let r := s.stage' u (s.firAcc u cs h) (s.fld (FLT_CH_SHIFT u) FLT_CH_SHIFT_SH_FIR) ⟨0, fl, none⟩
  let c := r.2.chan u
  let s := r.2.setChan u { c with firs := (r.1 :: c.firs).take 32 }
  if s.bit (FLT_CH_RS u) FLT_CH_RS_EN then s.resample u (bad && ks.isEmpty) 20
  else
    let y := s.stage' u r.1.v (s.fld (FLT_CH_SHIFT u) FLT_CH_SHIFT_SH_RS) r.1
    ([⟨y.1, ((c.n - 1 : Nat) : Int) * (2 ^ 24 : Nat) - (s.dFir u : Nat), decide (s.firLen u ≤ c.n)⟩], y.2)

/-- The outputs that one input completes (R288-R293); nothing for the first D_INT inputs. -/
def State.chInput (s : State) (u : Nat) (w : CWord) (fz bad : Bool) : List FOut × State :=
  match s.chLine u w with
  | (none, s) => ([], s)
  | (some x, s) => let r := s.chHead u fz x; r.2.chFir u r.1 bad

/-- Busy cycles of one input of a channel and of its outputs (R294). -/
def State.chCycles (s : State) (u outs : Nat) : Nat :=
  let n := s.fld (FLT_CH_FIR u) FLT_CH_FIR_LEN
  let f := match s.fld (FLT_CH_FIR u) FLT_CH_FIR_MODE with | 0 => 0 | 1 => (n + 1) / 2 | _ => n
  1 + (s.fld (FLT_CH_DC u) FLT_CH_DC_EN) + (f + 15) / 16
    + (if s.bit (FLT_CH_RS u) FLT_CH_RS_EN then outs * (1 + s.fld (FLT_CH_RS u) FLT_CH_RS_INTERP) else 0)

/-- An output is computed (R293, R297, R299): FILL ends with the first whose taps are full, SUPP keeps the others
back; what is sent, if anything. -/
def State.chEmit (s : State) (u : Nat) (y : FOut) : Option CWord × State :=
  let s := if y.full then s.setF (FLT_CH_STATUS u) FLT_CH_STATUS_FILL 0 else s
  if !y.full && s.bit (FLT_CH_CFG u) FLT_CH_CFG_SUPP then (none, s)
  else
    let (o, s) := s.chOut u y.val y.pos
    (some o, if s.chSends u then s.setChan u { s.chan u with lastOut := some o } else s)

/-- An input of a channel is processed; its outputs go to the port, to learning and to a chained channel
(R282, R293, R295). `frz` are the engine's channels frozen as the word reached it; `fuel` bounds the chain. -/
def State.chProcess (s : State) (u : Nat) (w : CWord) (frz : List Nat) (bad : Bool) : Nat → State
  | 0 => s
  | fuel + 1 =>
    let (outs, s) := s.chInput u w (frz.contains (u % 8)) bad
    let e := u / 8
    let s := s.setEngine e { s.engine e with busy := (s.engine e).busy + s.chCycles u outs.length }
    outs.foldl (fun s y =>
      match s.chEmit u y with
      | (none, s) => s
      | (some o, s) =>
        let s := s.chDeliver u o
        if s.chChained u then (s.chTaken (u + 1)).chProcess (u + 1) o frz false fuel else s) s

/-- Does a channel read coefficients (R291, R292)? -/
def State.readsCoef (s : State) (u : Nat) : Bool :=
  s.fld (FLT_CH_FIR u) FLT_CH_FIR_MODE != 0 || s.bit (FLT_CH_RS u) FLT_CH_RS_EN

/-- The word at the head of the FIFO passes the channels that took it, lowest first; `bad` meets the first of them
that reads coefficients. -/
def State.fltItem (s : State) (e : Nat) (x : FltItem) (bad : Bool) : State :=
  let hit := x.takers.find? fun c => s.readsCoef (e * 8 + c)
  x.takers.foldl (fun s c =>
    let s := if x.gaps.contains c then s.chRegap (e * 8 + c) else s
    s.chProcess (e * 8 + c) x.word x.frozen (bad && hit == some c) 8) s

/-- FLT_PROCESS (R294, R295, R301): the word at the head of the FIFO is processed, unless the engine has spent the
1,000 cycles of this µs; `bad` says that a coefficient read for it was uncorrectable. -/
def execFltProcess (e : Fin 64) (bad : Bool) (s : State) : Host.Outcome State Fault Refusal :=
  let x := s.engine e.val
  match x.fifo with
  | [] => .next s
  | w :: r => if 1000 ≤ x.busy then .next s else .next ((s.setEngine e.val { x with fifo := r }).fltItem e.val w bad)

/-! ### Coefficients and load (R294, R302, R303) -/

/-- A swap of the banks is staged and armed (R303). -/
def State.swapArmed (s : State) (e : Nat) : Bool := s.armed && s.shFld (FLT_CFG e) FLT_CFG_SWAP == 1

/-- Writing one coefficient word to the inactive bank at ADDR (R302), where a flip set may meet it (R410). -/
def State.coefPut (s : State) (e : Nat) (v : Word) : State :=
  let x := s.engine e
  let k := s.fld (FLT_COEF_ADDR e) FLT_COEF_ADDR_ADDR
  let c : BitVec 18 := v.extractLsb' 14 18
  let bank := if s.bit (FLT_STATUS e) FLT_STATUS_BANK then 0 else 1
  let x := if bank = 0 then { x with bankA := tblSet (fun _ => 0) x.bankA k c }
    else { x with bankB := tblSet (fun _ => 0) x.bankB k c }
  let (err, s) := s.flipWrite (0x20 + e / 4) (coefAddr e bank k) (coefAddr e bank k)
  let s := s.setCodeErr (memKey (0x20 + e / 4) (coefAddr e bank k)) err
  (s.setEngine e x).setF (FLT_COEF_ADDR e) FLT_COEF_ADDR_ADDR ((k + 1) % 8192)

/-- A write to FLT_COEF_DATA (R302, R303). -/
def State.coefWrite (s : State) (q : Req) (e : Nat) (v : Word) : State :=
  let a := FLT_COEF_DATA e
  if s.bit (FLT_COEF_ADDR e) FLT_COEF_ADDR_BANK then s.rsvd q a true
  else if s.swapArmed e then s.stageRej q a
  else
    let s := s.coefPut e v
    if (v &&& reservedBits (fieldsAt a)) != 0 then s.rsvd q a false else s

/-- FLT_COEF_WRITE. -/
def execFltCoefWrite (q : Req) (e : Fin 64) (v : Word) (s : State) : Host.Outcome State Fault Refusal :=
  .next (s.guardWrite q (FLT_COEF_DATA e.val) fun s => s.coefWrite q e.val v)

/-- A read of FLT_COEF_DATA (R302), through the word's SEC-DED; an uncorrectable word is logged and counted in
FLT_POIS too (log entry 20). -/
def State.coefRead (s : State) (e : Nat) : Word × State :=
  let k := s.fld (FLT_COEF_ADDR e) FLT_COEF_ADDR_ADDR
  let bank := if s.bit (FLT_STATUS e) FLT_STATUS_BANK == s.bit (FLT_COEF_ADDR e) FLT_COEF_ADDR_BANK then 1 else 0
  let (x, s) := s.coefFetch e bank k
  (x.1.zeroExtend 32 <<< 14,
   (s.coefPoison e x.2.toNat).setF (FLT_COEF_ADDR e) FLT_COEF_ADDR_ADDR ((k + 1) % 8192))

/-- FLT_COEF_READ. -/
def execFltCoefRead (q : Req) (e : Fin 64) (s : State) : Host.Outcome State Fault Refusal :=
  .next (s.guardRead q (FLT_COEF_DATA e.val) fun s => s.coefRead e.val)

/-- WLOAD to an engine (R302, R303); whether the words were rejected. -/
def State.coefLoad (s : State) (q : Req) (e : Nat) (ws : List Word) : State :=
  if s.swapArmed e then s.stageRej q (FLT_COEF_DATA e) else ws.foldl (fun s w => s.coefPut e w) s

/-- FLT_LOAD_READ (R294): PEAK and LAST, and PEAK clears. -/
def execFltLoadRead (q : Req) (e : Fin 64) (s : State) : Host.Outcome State Fault Refusal :=
  .next (s.guardRead q (FLT_LOAD e.val) fun s => s.regRead (FLT_LOAD e.val))

/-- The end of a µs of every engine (R294): LAST, PEAK; at most 1,000 cycles were spent, the rest of the work begun
goes on in the next. -/
def State.fltMicro (s : State) : State :=
  (List.range 64).foldl (fun s e =>
    let x := s.engine e
    let last := min 1000 x.busy
    let s := if x.busy = 0 then s else s.setEngine e { x with busy := x.busy - last }
    let s := if s.fld (FLT_LOAD e) FLT_LOAD_LAST = last then s else s.setF (FLT_LOAD e) FLT_LOAD_LAST last
    if s.fld (FLT_LOAD e) FLT_LOAD_PEAK < last then s.setF (FLT_LOAD e) FLT_LOAD_PEAK last else s) s

/-- A late stamped operation (R285). -/
def State.fltLate (s : State) (e : Nat) : State := (s.flag (FLT_STATUS e) FLT_STATUS_LATE).inc (FLT_LATE_LO e)

/-- Domain 15 stops (R306): every channel enters STOPPED, the FIFOs are discarded without count. -/
def State.fltClockLost (s : State) : State :=
  let s := { s with engines := s.engines.map fun (e, x) => (e, { x with fifo := [] }) }
  (List.range 512).foldl (fun s u => s.setChState u chStopped) s

/-! ### Staged settings (R304, R305) -/

/-- The checks of Table 7.5 on an engine's staged state. -/
def State.fltStageOk (s : State) (e : Nat) : Bool :=
  let ch (c : Nat) := e * 8 + c
  let role (c : Nat) := s.shFld (FLT_CH_CFG (ch c)) FLT_CH_CFG_ROLE
  let port (c : Nat) : Bool := role c == 1 || role c == 3
  let stin (c : Nat) : Bool := s.shFld (FLT_CH_CFG (ch c)) FLT_CH_CFG_STIN == 1
  let many := decide (2 ≤ ((List.range 8).filter port).length)
  s.shFld (FLT_CH_CFG (ch 0)) FLT_CH_CFG_SEL != 3 && (List.range 8).all fun c =>
    let a := FLT_CH_CFG (ch c)
    let f := FLT_CH_FIR (ch c)
    let mode := s.shFld f FLT_CH_FIR_MODE
    let len := s.shFld f FLT_CH_FIR_LEN
    let b := s.shFld f FLT_CH_FIR_BASE
    (s.shFld a FLT_CH_CFG_SEL != 0 || stin c)
      && (s.shFld a FLT_CH_CFG_SEL != 1 || decide (s.shFld a FLT_CH_CFG_SELV < 16))
      && (!(many && port c) || stin c)
      && (mode == 0 || decide (1 ≤ len ∧ len ≤ 384))
      && (mode != 1 || decide (b + (len + 1) / 2 ≤ 8192))
      && (mode != 2 || decide (b + len ≤ 8192 ∧ s.shFld (FLT_CH_FDLY (ch c)) FLT_CH_FDLY_FIR_DLY ≤ (len - 1) * 256))
      && (s.shFld (FLT_CH_DLY (ch c)) FLT_CH_DLY_FRAC == 0 || s.shFld (FLT_CH_RS (ch c)) FLT_CH_RS_EN == 1)

/-- Does an application restart the channel (R304)? Asked of the shadows before they are applied. -/
def State.chChanges (s : State) (u : Nat) : Bool :=
  let d (a : Nat) (f : Field) : Bool := s.fld a f != s.shFld a f
  d (FLT_CH_CFG u) FLT_CH_CFG_SEL || d (FLT_CH_CFG u) FLT_CH_CFG_SELV || d (FLT_CH_CFG u) FLT_CH_CFG_STIN
    || d (FLT_CH_DLY u) FLT_CH_DLY_D_INT || d (FLT_CH_DLY u) FLT_CH_DLY_FRAC || d (FLT_CH_DC u) FLT_CH_DC_EN
    || d (FLT_CH_FIR u) FLT_CH_FIR_MODE || d (FLT_CH_FIR u) FLT_CH_FIR_LEN || d (FLT_CH_RS u) FLT_CH_RS_EN
    || d (FLT_CH_RS u) FLT_CH_RS_INTERP || d (FLT_CH_RATIO u) FLT_CH_RATIO_RATIO

/-- An application with SWAP exchanges the banks, and SWAP reads 0 (R303). -/
def State.fltSwap (s : State) (e : Nat) : State :=
  if s.bit (FLT_CFG e) FLT_CFG_SWAP then
    (s.setF (FLT_STATUS e) FLT_STATUS_BANK (1 - s.fld (FLT_STATUS e) FLT_STATUS_BANK)).setF (FLT_CFG e) FLT_CFG_SWAP 0
  else s

end Sys2Proof.Machine
end

