-- ==== Sys2Proof/Machine/Learn.lean ====
section
/-! DEFINITION. Shot learning (R336-R343): the update of one shot. -/

namespace Sys2Proof.Machine

/-- A quotient rounded to the nearest integer, halves up (log entry 16). -/
def roundDiv (num den : Int) : Int :=
  if den < 0 then (-2 * num - den) / (-2 * den) else (2 * num + den) / (2 * den)

/-- The descriptor of a pulse generator's learning (Table 8.7 and the DRV_LRN registers). -/
structure LrnDesc where
  m : Nat
  n : Nat
  k : Nat
  r : Nat
  lag : Nat
  dead : Nat
  dmax : Int
  cmax : Int
  sign : Bool
  angle : Bool
  tpl : Nat
  base : Nat
  cor : Nat
  deriving DecidableEq, Repr

/-- The active descriptor. -/
def State.lrnDesc (s : State) (n : Nat) : LrnDesc :=
  let c := DRV_LRN_CFG n
  let t := 0x6000000000 + n / 32 * 0x400000
  { m := s.fld (DRV_LRN_LEN n) DRV_LRN_LEN_M
    n := s.fld (DRV_LRN_LEN n) DRV_LRN_LEN_N
    k := s.fld c DRV_LRN_CFG_K
    r := s.fld c DRV_LRN_CFG_R
    lag := s.fld (DRV_LRN_AUX n) DRV_LRN_AUX_LAG
    dead := s.fld (DRV_LRN_AUX n) DRV_LRN_AUX_DEAD
    dmax := s.fld (DRV_LRN_BOUND n) DRV_LRN_BOUND_DMAX
    cmax := s.fld (DRV_LRN_BOUND n) DRV_LRN_BOUND_CMAX
    sign := s.bit c DRV_LRN_CFG_SIGN
    angle := !s.bit c DRV_LRN_CFG_SKIND
    tpl := t + s.fld (DRV_LRN_TPL n) DRV_LRN_TPL_OFF * 4
    base := t + s.fld (DRV_LRN_BASE n) DRV_LRN_BASE_OFF * 4
    cor := t + s.fld (DRV_LRN_COR n) DRV_LRN_COR_OFF * 4 }

/-- An output that spoils its window (R339): poisoned, saturated, unsettled reference, or held. -/
def CWord.spoils (w : CWord) : Bool := w.poisoned || (w.word &&& 0x46) != 0

/-- The corrections after one sense sample (R339): `e` is the template less the sample, `i0` the first drive sample. -/
def lrnSample (d : LrnDesc) (cor : List Int) (e i0 : Int) : List Int :=
  if e.natAbs ≤ d.dead * 256 then cor
  else
    let step := clampTo (-d.dmax) d.dmax (roundDiv e (2 ^ d.k : Nat))
    cor.mapIdx fun i c =>
      if i0 ≤ (i : Int) ∧ (i : Int) ≤ i0 + d.r - 1 then clampTo (-d.cmax * 256) (d.cmax * 256) (c + step) else c

/-- The time of a sample within its shot in steps of 20 ns, less the lag (R339). -/
def lrnIndex (d : LrnDesc) (omega : Int) (start : Stamp) (w : CWord) : Int :=
  let el : Int := match w.stampOf with
    | some x => (x - start).toInt
    | none => 0
  (if d.angle then roundDiv (el * 65536) (20 * omega) else roundDiv el 20) - d.lag

/-- All corrections and the largest error of a window (R339). -/
def lrnWindow (d : LrnDesc) (x : LearnWin) : List Word → List CWord → List Int → Nat → List Int × Nat
  | t :: ts, w :: ws, cor, emax =>
    let e0 : Int := (t.extractLsb' 8 24).toInt - (w.word.extractLsb' 8 24).toInt
    let e := if d.sign then -e0 else e0
    lrnWindow d x ts ws (lrnSample d cor e (lrnIndex d x.omega x.start w)) (max emax e.natAbs)
  | _, _, cor, emax => (cor, emax)

/-- A waveform code from base and correction, in bits [31:18] (R339). -/
def lrnCode (b : Word) (c : Int) : Word :=
  BitVec.ofInt 32 (clampTo (-8192) 8191 ((regCode b).toInt + roundDiv c 256) * 2 ^ 18)

/-- Abandoning a learning (R339, R340). -/
def State.lrnAbandon (s : State) (n lo : Nat) : State := (s.flag (DRV_STATUS n) DRV_STATUS_LRNERR).inc lo

/-- The learning of one shot (R339). -/
def State.learnShot (s : State) (n : Nat) (x : LearnWin) : State :=
  let d := s.lrnDesc n
  if x.tripped then s.lrnAbandon n (DRV_LRN_TRIP_LO n)
  else if x.taken.length < d.m ∨ x.taken.any (·.spoils) ∨ (d.angle ∧ x.omega = 0) then s.lrnAbandon n (DRV_LRN_BAD_LO n)
  else
    let (tpl, s) := s.memWords 0x122 d.tpl d.m
    let (base, s) := s.memWords 0x122 d.base d.n
    let (cor, s) := s.memWords 0x122 d.cor d.n
    match tpl, base, cor with
    | some tpl, some base, some cor =>
      let (cor, emax) := lrnWindow d x tpl (x.taken.take d.m) (cor.map (·.toInt)) 0
      let s := (s.memWrite 0x122 d.cor (bytesOfWords (cor.map fun c => BitVec.ofInt 32 c))).2
      let s := s.cellLoad n 0x100 (List.zipWith lrnCode base cor)
      (s.setF (DRV_LRN_EMAX n) DRV_LRN_EMAX_EMAX emax).inc (DRV_LRN_OK_LO n)
    | _, _, _ => s.lrnAbandon n (DRV_LRN_BAD_LO n)

/-- LEARNING_START (R342): the first learning of an engine begins when no other of it runs. -/
def execLearningStart (e : Fin 64) (s : State) : Host.Outcome State Fault Refusal :=
  let l := s.learnUnit e.val
  .next (if l.queue.isEmpty then s else s.setLearn e.val { l with running := true })

/-- LEARNING_COMPLETE (R339-R342): the running learning takes effect or is abandoned; LRN_BUSY clears when the
generator has no other. -/
def execLearningComplete (e : Fin 64) (s : State) : Host.Outcome State Fault Refusal :=
  let l := s.learnUnit e.val
  match l.running, l.queue with
  | true, (n, x) :: r =>
    let s := s.learnShot n x
    let s := s.setLearn e.val ⟨r, false⟩
    .next (if r.any (·.1 == n) then s else s.setF (DRV_STATUS n) DRV_STATUS_LRN_BUSY 0)
  | _, _ => .next s

end Sys2Proof.Machine
end

