-- ==== Sys2Proof/Machine/Sha.lean ====
section
/-! DEFINITION. SHA-384, which the spec names for digests (R575, R601) and does not spell out (log entry 40). -/

namespace Sys2Proof.Machine

/-- The first primes, from a number on. -/
def primesFrom : Nat → Nat → List Nat
  | 0, _ => []
  | n + 1, k => if (List.range k).all (fun d => decide (d < 2) || k % d != 0) then k :: primesFrom n (k + 1)
      else primesFrom n (k + 1)

/-- The greatest r below 2^b with r^e at most x. -/
def rootBelow (e x : Nat) : Nat → Nat → Nat
  | 0, r => r
  | b + 1, r => if (r + 2 ^ b) ^ e ≤ x then rootBelow e x b (r + 2 ^ b) else rootBelow e x b r

/-- The first 64 bits of the fraction of the e-th root of p. -/
def rootFraction (e p : Nat) : BitVec 64 := BitVec.ofNat 64 (rootBelow e (p * 2 ^ (64 * e)) 72 0)

/-- The 80 round constants. -/
def shaK : List (BitVec 64) := (primesFrom 408 2).map (rootFraction 3)
/-- The initial hash value of SHA-384. -/
def shaH : List (BitVec 64) := ((primesFrom 52 2).drop 8).map (rootFraction 2)

/-- Rotation right. -/
def ror (x : BitVec 64) (n : Nat) : BitVec 64 := x.rotateRight n

/-- One more word of the message schedule, newest first. -/
def shaNext (w : List (BitVec 64)) : BitVec 64 :=
  let a := w.getD 1 0
  let b := w.getD 14 0
  (ror a 19 ^^^ ror a 61 ^^^ (a >>> 6)) + w.getD 6 0 + (ror b 1 ^^^ ror b 8 ^^^ (b >>> 7)) + w.getD 15 0

/-- The message schedule, newest first. -/
def shaSchedule : Nat → List (BitVec 64) → List (BitVec 64)
  | 0, w => w
  | n + 1, w => shaSchedule n (shaNext w :: w)

/-- One round. -/
def shaRound (v : List (BitVec 64)) (kw : BitVec 64 × BitVec 64) : List (BitVec 64) :=
  match v with
  | [a, b, c, d, e, f, g, h] =>
    let t1 := h + (ror e 14 ^^^ ror e 18 ^^^ ror e 41) + ((e &&& f) ^^^ (~~~e &&& g)) + kw.1 + kw.2
    let t2 := (ror a 28 ^^^ ror a 34 ^^^ ror a 39) + ((a &&& b) ^^^ (a &&& c) ^^^ (b &&& c))
    [t1 + t2, a, b, c, d + t1, e, f, g]
  | _ => v

/-- One block of 16 words. -/
def shaBlock (h m : List (BitVec 64)) : List (BitVec 64) :=
  List.zipWith (· + ·) h ((shaK.zip (shaSchedule 64 m.reverse).reverse).foldl shaRound h)

/-- Big-endian words of 8 bytes. -/
def shaWord (l : List Byte) : BitVec 64 := BitVec.ofNat 64 (l.foldl (fun n b => n * 256 + b.toNat) 0)

/-- All blocks of a padded message. -/
def shaBlocks : Nat → List (BitVec 64) → List Byte → List (BitVec 64)
  | 0, h, _ => h
  | n + 1, h, l => shaBlocks n (shaBlock h ((List.range 16).map fun k => shaWord ((l.drop (8 * k)).take 8))) (l.drop 128)

/-- The SHA-384 digest of bytes: 48 bytes. -/
def sha384 (l : List Byte) : List Byte :=
  let z := (239 - l.length % 128) % 128
  let big (n w : Nat) : List Byte := (List.range n).map fun k => BitVec.ofNat 8 (w / 2 ^ (8 * (n - 1 - k)))
  let p := l ++ [0x80] ++ List.replicate z 0 ++ big 16 (8 * l.length)
  ((shaBlocks (p.length / 128) shaH p).take 6).flatMap fun w => big 8 w.toNat

end Sys2Proof.Machine
end

