-- ==== Sys2Proof/Machine/HostCore.lean ====
section
/-! DEFINITION. Benmos commands as the engine keeps them (chapter 16): their fields, their journal entries, their
completions. -/

namespace Sys2Proof.Machine

/-- Bytes o to o + n of a command (Table 16.2). -/
def HCmd.at (c : HCmd) (o n : Nat) : Nat := c.body.toNat / 2 ^ (8 * o) % 2 ^ (8 * n)
/-- The class. -/
def HCmd.cls (c : HCmd) : Nat := c.at 1 1 / 16
/-- The operation within the class. -/
def HCmd.opc (c : HCmd) : Nat := c.at 0 1
/-- ARG0. -/
def HCmd.arg0 (c : HCmd) : Nat := c.at 8 8
/-- The code of a requester: the host PF is 256. -/
def pfCode : Nat := 256
/-- The requester a command writes as: an instance, or the host PF. -/
def reqOf (n : Nat) : Req := if h : n < 256 then .inst ⟨n, h⟩ else .host

/-- A queue pair. -/
def State.qp (s : State) (q : Nat) : Qp := tblGet (fun _ => Qp.reset) s.host.qps q
/-- Setting it. -/
def State.setQp (s : State) (q : Nat) (x : Qp) : State :=
  { s with host := { s.host with qps := tblSet (fun _ => Qp.reset) s.host.qps q x } }

/-- Has the command been accepted and not completed (JNL_INFL)? -/
def HCmd.inJournal (c : HCmd) : Bool :=
  match c.phase with
  | .first | .forwarded | .ready => false
  | _ => true

/-- The commands in hand, with the counts that QP_STATUS.INFL and JNL_INFL show. -/
def State.setCmds (s : State) (l : List HCmd) : State :=
  let s := { s with host := { s.host with cmds := l } }
  let s := s.put JNL_INFL (BitVec.ofNat 32 (l.filter HCmd.inJournal).length)
  (List.range 257).foldl (fun s q =>
    s.setF (QP_STATUS q) QP_STATUS_INFL (l.filter fun c => c.origin.isNone && c.qp == q).length) s

/-- One command of the list changes, or leaves it. -/
def State.mapCmd (s : State) (p : HCmd → Bool) (f : HCmd → Option HCmd) : State :=
  s.setCmds (s.host.cmds.filterMap fun c => if p c then f c else some c)

/-- The first line of an entry (Table 16.2, R565): the command with its sequence. -/
def HCmd.first (c : HCmd) : List Byte := bytesOf 56 c.body.toNat ++ bytesOf 8 c.seq

/-- The second line (Table 16.9). -/
def State.second (s : State) (c : HCmd) (status detail : Nat) : List Byte :=
  let dev := match c.origin with | some (d, _) => d | none => s.dev
  bytesOf 8 c.seq ++ bytesOf 8 c.time.toNat ++ bytesOf 6 c.stamp.toNat ++ bytesOf 1 status ++ bytesOf 1 detail
    ++ bytesOf 4 (c.req + 512 * dev + 2 ^ 18 * c.gen) ++ bytesOf 4 (s.reg ANG_CFG_GEN).toNat
    ++ (if c.at 32 4 = 0 then List.replicate 32 0 else (sha384 c.payload).take 32)

/-- The NVM line that holds the first line of the entry at a position (R575). -/
def jnlLine (pos : Nat) : Nat := 2 * pos

/-- The number of entries of a completion queue, or of a submission queue. -/
def State.cqSize (s : State) (q : Nat) : Nat := 2 ^ s.fld (QP_CFG q) QP_CFG_CQS
def State.sqSize (s : State) (q : Nat) : Nat := 2 ^ s.fld (QP_CFG q) QP_CFG_SQS

/-- An MSI-X message of a function. -/
def State.msix (s : State) (fn vec : Nat) : State := s.send (.msix fn vec)
/-- The function of a queue pair: the PF is 0, instance i has VF i + 1. -/
def fnOf (q : Nat) : Nat := if q = 256 then 0 else q + 1

/-- A reply to a request of another device, kept for a duplicate (R492): those half the range of the sequence behind
are forgotten. A standby sends nothing (R536). -/
def State.answered (s : State) (d seq : Nat) (k : LeatKind) (l : List Nat) : State :=
  let keep := s.leat.served.filter fun x => x.src != d || decide ((seq + 65536 - x.seq) % 65536 < 32768)
  let s := { s with leat := { s.leat with served := keep ++ [(⟨d, seq, k, l⟩ : Served)] } }
  if s.pwr.standby || s.fld TWIN_STATUS TWIN_STATUS_ROLE == 2 then s else s.send (.leat k d (seq :: l))

/-- A completion (Table 16.3, R562) is written to its queue, or returned to the device that forwarded the command;
one of a dropped command is not written (R571). -/
def State.complete (s : State) (c : HCmd) (status detail : Nat) (jnl : Bool) : State :=
  let seq := if jnl then c.seq else 0
  if c.dropped then s
  else match c.origin with
  | some (d, tag) => s.answered d tag .benmos [1, seq, status, detail, jnl.toNat]
  | none =>
    let x := s.qp c.qp
    let bytes := bytesOf 8 seq ++ bytesOf 2 (c.at 2 2) ++ bytesOf 2 x.sqHead ++ bytesOf 1 status ++ bytesOf 1 detail
      ++ bytesOf 1 (x.phase.toNat + 2 * jnl.toNat) ++ bytesOf 1 0
    let t := (x.cqTail + 1) % s.cqSize c.qp
    let s := s.send (.completion c.qp x.cqTail bytes)
    let s := s.setQp c.qp { x with cqTail := t, phase := if t = 0 then !x.phase else x.phase, sent := true }
    if x.sent then s else s.msix (fnOf c.qp) 0

/-- An entry could not be made durable (R426, R429). -/
def State.jnlFailed (s : State) (c : HCmd) : State :=
  (((s.mapCmd (fun x => x.seq == c.seq && x.inJournal || x == c) fun _ => none).complete c 0x0E 0 false).inc
    JNL_FAIL_LO).occur 0x7E7

/-- An execution ends: the second line is queued (R567); where no half serves it, the entry fails (R429). -/
def State.endCmd (s : State) (c : HCmd) (status detail : Nat) : State :=
  if (s.nvmServing (jnlLine c.pos)).isEmpty then s.jnlFailed c
  else
  let s := s.nvmQueue (jnlLine c.pos + 1) (wordsOf (s.second c status detail)) (.jnl c.seq true)
  s.mapCmd (fun x => x.seq == c.seq && x.inJournal) fun x => some { x with phase := .ended status detail }

/-- The commands that wait for an outside end and are of a class and operation end (R568). -/
def State.hostEnd (s : State) (cls opc status detail : Nat) : State :=
  (s.host.cmds.filter fun c => c.phase == .running && c.cls == cls && c.opc == opc).foldl
    (fun s c => s.endCmd c status detail) s

/-- The journal head and what shows it (R576). -/
def State.setHead (s : State) (n : Nat) : State :=
  ({ s with jnl := { s.jnl with head := n } }.put JNL_SEQ_LO (BitVec.ofNat 32 n)).put JNL_SEQ_HI
    (BitVec.ofNat 32 (n / 2 ^ 32))

/-- The head moves over the sequences that are durable above it. -/
def State.headUp (s : State) : Nat → State
  | 0 => s
  | n + 1 =>
    if s.jnl.above.contains (s.jnl.head + 1) then
      ({ s.setHead (s.jnl.head + 1) with
        jnl := { (s.setHead (s.jnl.head + 1)).jnl with above := s.jnl.above.filter (· != s.jnl.head + 1) } }).headUp n
    else s

/-- Is the first line of a sequence durable? -/
def State.durable (s : State) (seq : Nat) : Bool := decide (seq ≤ s.jnl.head) || s.jnl.above.contains seq

/-- A command is accepted (R565): time and stamp of acceptance. -/
def State.accept (s : State) (seq : Nat) : State :=
  s.mapCmd (fun c => c.seq == seq && c.phase == .first) fun c =>
    some { c with phase := .accepted, time := s.ang.time, stamp := s.angle }

/-- A line of the journal is durable, or has failed (R565, R567, R537). -/
def State.jnlLineEnd (s : State) (seq : Nat) (last ok : Bool) : State :=
  match s.host.cmds.find? fun c => c.seq == seq && (c.phase == .first) == !last with
  | none => if ok && !last then ({ s with jnl := { s.jnl with above := seq :: s.jnl.above } }).headUp 64 else s
  | some c =>
    if !ok then s.jnlFailed c
    else if last then
      (match c.phase with
       | .ended st d => (s.mapCmd (fun x => x == c) fun _ => none).complete c st d true
       | _ => s)
    else
      let s := { s with jnl := { s.jnl with above := seq :: s.jnl.above } }.headUp 64
      if s.twin.unreported.contains seq then s else s.accept seq

end Sys2Proof.Machine
end

