-- ==== Sys2Proof/Machine/Pins.lean ====
section
/-! DEFINITION. The pin block (sections 13.4-13.9): ownership, outputs, GPIO group ports, inputs, matchers. -/

namespace Sys2Proof.Machine

/-! ### Ownership and refused bits (R470-R472) -/

/-- The causes of PIN_REJ. -/
def rejOwner : Nat := 0
def rejFunction : Nat := 1
def rejLocked : Nat := 2
def rejStream : Nat := 3

/-- A write bit for pin n is dropped, or a write to a locked pin's settings refused; `src` as SYS_RSVD_SRC. -/
def State.pinRej (s : State) (n cause src : Nat) : State :=
  let s := s.flag PIN_STATUS PIN_STATUS_PIN_REJ
  if s.bit PIN_REJ PIN_REJ_VALID then s
  else s.put PIN_REJ (BitVec.ofNat 32 (2 ^ 31 + cause * 2 ^ 28 + src * 2 ^ 8 + n))

/-- The settings of a pin that OWN names: 0 SUPERVISOR, 1 INSTANCE, 2 LOCKED. -/
def State.pinOwn (s : State) (n : Nat) : Nat := s.fld (PIN_CFG n) PIN_CFG_OWN

/-- Is the requester the pin's owner (R470)? -/
def State.pinOwner (s : State) (q : Req) (n : Nat) : Bool :=
  match s.pinOwn n with
  | 0 => isSuper q
  | 1 => (match q with | .inst i => s.fld (PIN_CFG n) PIN_CFG_INST == i.val | _ => false)
  | _ => false

def State.pinMux (s : State) (n : Nat) : Nat := s.fld (PIN_CFG n) PIN_CFG_MUX
def State.pinOe (s : State) (n : Nat) : Bool := bitOf (s.fld (PIN_OE (n / 16)) PIN_OE_OE) (n % 16)
def State.pinOut (s : State) (n : Nat) : Bool := bitOf (s.fld (PIN_OUT (n / 16)) PIN_OUT_DATA) (n % 16)
def State.pinIn (s : State) (n : Nat) : Bool := bitOf (s.fld (PIN_IN (n / 16)) PIN_IN_LVL) (n % 16)

/-- One bit of a number set or cleared. -/
def setBit (v k : Nat) (b : Bool) : Nat := v - v % 2 ^ (k + 1) + v % 2 ^ k + b.toNat * 2 ^ k

/-- The stored level of a pin. -/
def State.setPinOut (s : State) (n : Nat) (b : Bool) : State :=
  s.setF (PIN_OUT (n / 16)) PIN_OUT_DATA (setBit (s.fld (PIN_OUT (n / 16)) PIN_OUT_DATA) (n % 16) b)

/-- The stored output enable of a pin. -/
def State.setPinOe (s : State) (n : Nat) (b : Bool) : State :=
  s.setF (PIN_OE (n / 16)) PIN_OE_OE (setBit (s.fld (PIN_OE (n / 16)) PIN_OE_OE) (n % 16) b)

/-- One bit of a write: taken where the pin's owner and function allow it, else dropped with its cause. -/
def State.pinBit (s : State) (q : Req) (n : Nat) (takes : Bool) (f : State → State) : State :=
  if s.pinOwn n = 2 then s.pinRej n rejLocked (reqCode q)
  else if !s.pinOwner q n then s.pinRej n rejOwner (reqCode q)
  else if !takes then s.pinRej n rejFunction (reqCode q)
  else f s

/-- The masked bits of a write to group g, lowest first. -/
def maskBits (v : Word) : List (Nat × Bool) :=
  ((List.range 16).filter fun i => v.getLsbD (16 + i)).map fun i => (i, v.getLsbD i)

/-- A write to PIN_OUT (R470, R472). -/
def State.pinOutWrite (s : State) (q : Req) (g : Nat) (v : Word) : State :=
  (maskBits v).foldl (fun s (i, b) => s.pinBit q (16 * g + i) (s.pinMux (16 * g + i) == 0)
    fun s => s.setPinOut (16 * g + i) b) (s.digPins none g (v.toNat / 2 ^ 16) (v.toNat % 2 ^ 16))

/-- A write to PIN_OE (R470, R472). -/
def State.pinOeWrite (s : State) (q : Req) (g : Nat) (v : Word) : State :=
  (maskBits v).foldl (fun s (i, b) =>
    s.pinBit q (16 * g + i) (s.pinMux (16 * g + i) == 0 || s.pinMux (16 * g + i) == 2)
    fun s => s.setPinOe (16 * g + i) b) s

/-- PINW (R184, R472). -/
def State.pinw (s : State) (q : Req) (t : Nat) (v : Word) : State :=
  (maskBits v).foldl (fun s (i, b) =>
    s.pinBit q (16 * t + i) (s.pinMux (16 * t + i) == 0 && s.pinOe (16 * t + i))
    fun s => s.setPinOut (16 * t + i) b) (s.digPins none t (v.toNat / 2 ^ 16) (v.toNat % 2 ^ 16))

/-- PIN_OUT_WRITE. -/
def execPinOutWrite (q : Req) (g : Fin 16) (v : Word) (s : State) : Host.Outcome State Fault Refusal :=
  .next (s.guardWrite q (PIN_OUT g.val) fun s => s.pinOutWrite q g.val v)
/-- PIN_OE_WRITE. -/
def execPinOeWrite (q : Req) (g : Fin 16) (v : Word) (s : State) : Host.Outcome State Fault Refusal :=
  .next (s.guardWrite q (PIN_OE g.val) fun s => s.pinOeWrite q g.val v)

/-- A write to PIN_CFG (R471): refused as a whole on a locked pin; a write of LOCKED stages nothing and discards
what is staged for the pin. While the device is ARMED R18 says that no shadow changes and R471 that the pin's shadows take
their active values: the model follows R471, DESIGN CHOICE (log entry 93). -/
def State.pinCfgWrite (s : State) (q : Req) (n : Nat) (v : Word) : State :=
  let k := PIN_CFG n
  if s.pinOwn n = 2 then s.pinRej n rejLocked (reqCode q)
  else if fieldGet PIN_CFG_OWN v = 2 then
    let rm := rwsMask (fieldsAt k)
    let same := (v &&& ~~~ rm) ||| (s.shReg k &&& rm)
    if reservedEncoding (fieldsAt k) v then s.rsvd q k true
    else if s.armed && (v &&& rm) != (s.shReg k &&& rm) then s.stageRej q k
    else
      let s := s.regWrite q k same
      { s with staged := tblDrop (tblDrop s.staged k) (PIN_FAB n) }
  else s.regWrite q k v

/-- A write to PIN_FAB (R471). -/
def State.pinFabWrite (s : State) (q : Req) (n : Nat) (v : Word) : State :=
  if s.pinOwn n = 2 then s.pinRej n rejLocked (reqCode q) else s.regWrite q (PIN_FAB n) v

/-- PIN_CFG_WRITE. -/
def execPinCfgWrite (q : Req) (n : Fin 256) (v : Word) (s : State) : Host.Outcome State Fault Refusal :=
  .next (s.guardWrite q (PIN_CFG n.val) fun s => s.pinCfgWrite q n.val v)
/-- PIN_FAB_WRITE. -/
def execPinFabWrite (q : Req) (n : Fin 256) (v : Word) (s : State) : Host.Outcome State Fault Refusal :=
  .next (s.guardWrite q (PIN_FAB n.val) fun s => s.pinFabWrite q n.val v)

/-! ### GPIO group ports (R474, R475) -/

def State.pgroup (s : State) (k : Nat) : PGroup := tblGet (fun _ => PGroup.reset) s.pins.groups k
def State.setPgroup (s : State) (k : Nat) (x : PGroup) : State :=
  { s with pins := { s.pins with groups := tblSet (fun _ => PGroup.reset) s.pins.groups k x } }

/-- A discarded STREAM word. -/
def State.pinSdrop (s : State) : State := (s.inc PIN_SDROP_LO).flag PIN_STATUS PIN_STATUS_SDROP

/-- A late stamped PINW or STREAM word (R194, R474). -/
def State.pinLate (s : State) : State := (s.inc PIN_LATE_LO).flag PIN_STATUS PIN_STATUS_LATE

/-- The owner of a Confluence port as SYS_RSVD_SRC codes it; that of a LOCKED port is a free value (log entry 31). -/
def State.portOwnerCode (s : State) (p : Nat) : Nat × State :=
  match s.fld (CXB_OWN p) CXB_OWN_MODE with
  | 0 => (0x100, s)
  | 1 => (s.fld (CXB_OWN p) CXB_OWN_INST, s)
  | _ => let (f, s) := s.free; (f % 512, s)

/-- Is the pin's owner that of the port of its group? -/
def State.sameOwner (s : State) (n p : Nat) : Bool :=
  match s.pinOwn n, s.fld (CXB_OWN p) CXB_OWN_MODE with
  | 0, 0 => true
  | 1, 1 => s.fld (PIN_CFG n) PIN_CFG_INST == s.fld (CXB_OWN p) CXB_OWN_INST
  | _, _ => false

/-- A word of a group port is applied (R474); a HOLD word leaves the pins. -/
def State.groupApply (s : State) (k : Nat) (w : Word) : State :=
  if wordFlag w 1 then s
  else
    ((List.range 8).filter fun i => w.getLsbD (16 + i)).foldl (fun s i =>
      let n := 8 * k + i
      if s.pinOwn n = 2 then let (c, s) := s.portOwnerCode (1344 + k); s.pinRej n rejLocked c
      else if s.pinMux n ≠ 2 || !s.pinOe n then let (c, s) := s.portOwnerCode (1344 + k); s.pinRej n rejFunction c
      else if !s.sameOwner n (1344 + k) then let (c, s) := s.portOwnerCode (1344 + k); s.pinRej n rejStream c
      else s.setPinOut n (w.getLsbD (24 + i)))
      (s.digPins none (k / 2) (w.toNat / 2 ^ 16 % 2 ^ 8 * 2 ^ (8 * (k % 2))) (w.toNat / 2 ^ 24 * 2 ^ (8 * (k % 2))))

/-- The words at the head of a group port's FIFO that need no stamp, or whose stamp has been released, are
applied; a stamped word that comes to the head is queued, judged late or refused. `n` bounds the words. -/
def State.groupHead (s : State) (k : Nat) : Nat → State
  | 0 => s
  | n + 1 =>
    let g := s.pgroup k
    match g.fifo with
    | [] => s
    | w :: r =>
      let rest := s.setPgroup k { g with fifo := r, headDue := false }
      match w.stampOf with
      | none => (rest.groupApply k w.word).groupHead k n
      | some x =>
        if g.headDue then (rest.groupApply k w.word).groupHead k n
        else if Stamp.beyond x s.angle then rest.pinSdrop.groupHead k n
        else if s.late x .fwd 50 then (rest.pinLate.groupApply k w.word).groupHead k n
        else if s.stq.any (fun o => o.kind == kindGroup && o.index == k) then s
        else s.enqueue ⟨kindGroup, k, x, .fwd, .group w, .sup, 0⟩

/-- A word arrives at a group port (R474). -/
def State.groupWord (s : State) (k : Nat) (w : CWord) : State :=
  let g := s.pgroup k
  if w.poisoned || decide (8 < (g.fifo.map CWord.size).sum + w.size) then s.pinSdrop
  else (s.setPgroup k { g with fifo := g.fifo ++ [w] }).groupHead k 9

/-- GPIO_GROUP_WORD. -/
def execGpioGroupWord (k : Fin 32) (s : State) : Host.Outcome State Fault Refusal :=
  match s.takeArrived (1344 + k.val) with
  | some (w, s) => .next (s.groupWord k.val w)
  | none => .next s

/-- The stamp of the word at the head of a group port is released. -/
def State.groupRelease (s : State) (k : Nat) : State :=
  (s.setPgroup k { s.pgroup k with headDue := true }).groupHead k 9

/-- A group port offers the word it owes, once 2 ns have passed since the last (R475). -/
def State.groupOffer (s : State) (k : Nat) : State :=
  let g := s.pgroup k
  let now := s.ang.time.toNat
  let free := match g.offered with | none => true | some t => decide (t + 2 ≤ now)
  if g.due && free then
    let lv := s.fld (PIN_IN (k / 2)) PIN_IN_LVL / 2 ^ (k % 2 * 8) % 256
    let w : Word := BitVec.ofNat 32 (lv * 2 ^ 24 + g.changed.toNat * 2 ^ 16)
    let st := match s.fld (PIN_GRP k) PIN_GRP_STAMP with
      | 1 => some s.angle
      | 2 => some s.timeStamp
      | _ => none
    (s.setPgroup k { g with changed := 0, due := false, offered := some now }).offer (1344 + k) (CWord.mk' w st 0)
  else s

/-! ### Inputs and matchers (R468, R475-R477) -/

/-- A matcher's event or rise: what it records (R476). -/
def State.pmRecord (s : State) (m : Nat) : State :=
  let w := s.fld (PM_CTL m) PM_CTL_WIN
  let t := s.ang.time
  let a := s.angle
  ((((s.put (PM_LVL m) (BitVec.ofNat 32
    (s.fld (PIN_IN (2 * w + 1)) PIN_IN_LVL * 65536 + s.fld (PIN_IN (2 * w)) PIN_IN_LVL))).put (PM_TIME_LO m)
    (t.extractLsb' 0 32)).put (PM_TIME_HI m) ((t.extractLsb' 32 16).setWidth 32)).put (PM_ANG_LO m)
    (a.extractLsb' 0 32)).put (PM_ANG_HI m) ((a.extractLsb' 32 16).setWidth 32)

/-- Did a matcher match in the last step? -/
def State.pmWas (s : State) (m : Nat) : Bool := tblGet (fun _ => false) s.pins.matched m

/-- The previous match state of a matcher. -/
def State.setPmWas (s : State) (m : Nat) (b : Bool) : State :=
  { s with pins := { s.pins with matched := tblSet (fun _ => false) s.pins.matched m b } }

/-- A matcher at a step in which the pins listed changed (R476). -/
def State.pmStep (s : State) (m : Nat) (changed : List Nat) : State :=
  let was := s.pmWas m
  let is := s.pmMatch m
  let a := PM_CTL m
  let s := s.setPmWas m is
  if !s.bit a PM_CTL_EN then s
  else match s.fld a PM_CTL_MODE with
    | 0 => if is && !was then s.pmRecord m else s
    | 1 => if is && !was then (s.pmRecord m).occur (0x790 + m) else s
    | _ =>
      if changed.any fun n => n / 32 == s.fld a PM_CTL_WIN && (s.reg (PM_MASK m)).getLsbD (n % 32) then
        (s.pmRecord m).occur (0x790 + m)
      else s

/-- Filtered levels take new values in one step (R468, R475, R476). -/
def State.pinInputs (s : State) (l : List (Nat × Bool)) : State :=
  let ch := (l.filter fun x => s.pinIn x.1 != x.2).map (·.1)
  let s := l.foldl (fun s (n, b) => s.setF (PIN_IN (n / 16)) PIN_IN_LVL (setBit (s.fld (PIN_IN (n / 16)) PIN_IN_LVL) (n % 16) b)) s
  let s := (List.range 32).foldl (fun s k =>
    let c := ch.filter fun n => n / 8 == k
    if c.isEmpty || !s.bit (PIN_GRP k) PIN_GRP_IN_EN then s
    else
      let g := s.pgroup k
      let m := c.foldl (fun (v : Byte) n => v ||| BitVec.ofNat 8 (2 ^ (n % 8))) g.changed
      let due := g.due || c.any fun n => s.pinMux n == 2 && !s.pinOe n
      (s.setPgroup k { g with changed := m, due := due }).groupOffer k) s
  (List.range 32).foldl (fun s m => s.pmStep m ch) s

/-- PIN_INPUT_CHANGE; the inputs of a bank below its threshold read 0 (R642). -/
def execPinInputChange (l : List (Fin 256 × Bool)) (s : State) : Host.Outcome State Fault Refusal :=
  .next (s.pinInputs (l.map fun x => (x.1.val, x.2 && !bitOf (s.fld PWR_VIO_UV PWR_VIO_UV_UV) (x.1.val / 16))))

/-- A write to register r of matcher m (0 CTL, 1 VAL, 2 MASK); no event follows from it (R477). -/
def State.pmWrite (s : State) (q : Req) (m r : Nat) (v : Word) : State :=
  let k := match r with | 0 => PM_CTL m | 1 => PM_VAL m | _ => PM_MASK m
  let s := s.regWrite q k v
  s.setPmWas m (s.pmMatch m)

/-- PM_WRITE. -/
def execPmWrite (q : Req) (m : Fin 32) (r : Fin 3) (v : Word) (s : State) : Host.Outcome State Fault Refusal :=
  .next (s.guardWrite q (PM_CTL m.val) fun s => s.pmWrite q m.val r.val v)

/-! ### What the balls show (R467, R478-R480) -/

/-- What a GP ball shows: high impedance, a level, an SSI clock of a source, the 25 MHz reference, nothing defined. -/
inductive Ball where
  | hiz
  | level (b : Bool)
  | ssiClk (src : Nat)
  | clk25
  | undefined
  deriving DecidableEq, Repr

/-- Does a cause of R479 hold: a fence, a lost clock of domain 0, 1, 14 or 23, a PFAIL? -/
def State.pinSafe (s : State) : Bool :=
  s.fenced || s.clockUnsafe || s.bit PWR_STATUS PWR_STATUS_PFL

/-- A driven level under OD. -/
def State.pinLevel (s : State) (n : Nat) (b : Bool) : Ball :=
  if s.bit (PIN_CFG n) PIN_CFG_OD && b then .hiz else .level b

/-- What the scan cell of a ball drives (R687, R688): its bit of the boundary-scan register, or nothing in HIGHZ. -/
def State.scanCell (s : State) (b : Nat) : Ball :=
  if s.tap.ir = .highz then .hiz else .level (tblGet (fun _ => false) s.tap.scan b)

/-- The ball of pin n outside STANDBY; the outputs of a bank below its threshold are undefined (R642). -/
def State.ball (s : State) (n : Nat) : Ball :=
  if bitOf (s.fld PWR_VIO_UV PWR_VIO_UV_UV) (n / 16) then .undefined
  else if s.tapDrives then s.scanCell n
  else if !bitOf (s.fld BOOT_SLUICE_STAT BOOT_SLUICE_STAT_DONE) 1 || s.fld TWIN_STATUS TWIN_STATUS_ROLE == 2 || s.twin.hiz then .hiz
  else if s.pinSafe && s.fld (PIN_CFG n) PIN_CFG_SAFE != 0 then
    (match s.fld (PIN_CFG n) PIN_CFG_SAFE with | 2 => .level false | 3 => .level true | _ => .hiz)
  else match s.pinMux n with
    | 0 | 2 => if s.pinOe n then s.pinLevel n (s.pinOut n) else .hiz
    | 1 => if s.source (n / 16) (s.fld (PIN_FAB n) PIN_FAB_OE_SRC) then
        s.pinLevel n (s.source (n / 16) (s.fld (PIN_FAB n) PIN_FAB_OUT_SRC)) else .hiz
    | 6 => .ssiClk (s.fld (PIN_CFG n) PIN_CFG_ASRC)
    | 8 => .level (s.probe (n % 16))
    | 9 => .level (match s.pins.amark with | some t => decide (s.ang.time.toNat < t + 100) | none => false)
    | 10 => .clk25
    | _ => .hiz

/-! ### Checks on staged settings (Table 13.5) -/

/-- The pin-block checks when ARM arrives (R481). -/
def State.pinStageOk (s : State) : Bool :=
  let mux (n : Nat) := s.shFld (PIN_CFG n) PIN_CFG_MUX
  let src (n : Nat) := s.shFld (PIN_CFG n) PIN_CFG_ASRC
  let count (m a : Nat) : Nat := ((List.range 256).filter fun n => mux n == m && src n == a).length
  decide (((List.range 256).filter fun n => s.shFld (PIN_CFG n) PIN_CFG_WAKE == 1).length ≤ 32)
  && (List.range 4).all (fun a => [3, 4, 5, 6, 7].all fun m => decide (count m a ≤ 1))
  && (List.range 4).all (fun a =>
    !bitOf (s.shFld ANG_CTL ANG_CTL_SRC_EN) a ||
      (match s.shFld (ANG_SRC_CFG a) ANG_SRC_CFG_KIND with
       | 1 => count 3 a == 1 && count 4 a == 1 && (s.shFld (ANG_SRC_IDX a) ANG_SRC_IDX_ZDIV == 0 || count 5 a == 1)
       | 2 => count 6 a == 1 && count 7 a == 1
       | _ => true))
  && (List.range 256).all (fun n => s.shFld (PIN_CFG n) PIN_CFG_OD == 0 || decide (mux n ≤ 2))

end Sys2Proof.Machine
end

