-- ==== Sys2Proof/Machine/LeatCore.lean ====
section
/-! DEFINITION. What the chain block is made of (chapter 14): membership, ports, paths, remote routes that lose
their path, control messages that fail. -/

namespace Sys2Proof.Machine

/-- The device index that stands for every device in a message sent to all. -/
def toAll : Nat := 512

/-- Membership states (Table 14.8). -/
def mAlone : Nat := 0
def mJoined : Nat := 1
def mStale : Nat := 2
def mCatchup : Nat := 3
def mReady : Nat := 4
def mMember : Nat := 5
def mLeaving : Nat := 6
def mGone : Nat := 7

/-- This device's membership state. -/
def State.mstate (s : State) : Nat := s.fld LEAT_STATUS LEAT_STATUS_MSTATE
/-- Setting it. -/
def State.setMstate (s : State) (x : Nat) : State := s.setF LEAT_STATUS LEAT_STATUS_MSTATE x
/-- Is this device the headwater? Alone, it is its own. -/
def State.isHead (s : State) : Bool := s.ownAngle
/-- The headwater's index. -/
def State.headIdx (s : State) : Nat := s.fld LEAT_ID LEAT_ID_HWIDX
/-- Is this device the standby of a pair? -/
def State.twinStandby (s : State) : Bool := s.fld TWIN_STATUS TWIN_STATUS_ROLE == 2

/-- A message onto the chain; a standby sends only HB (R536), a device in STANDBY nothing. -/
def State.chainSend (s : State) (k : LeatKind) (dst : Nat) (l : List Nat) : State :=
  if s.pwr.standby || (s.twinStandby && k != .hb && k != .twin) then s else s.send (.leat k dst l)

/-- The generation. -/
def State.gen (s : State) : Word := s.reg ANG_CFG_GEN
/-- The own journal sequence: the journal head. -/
def State.jseq (s : State) : Nat := s.jnl.head

/-! ### Remote routes (R365-R367) -/

/-- A remote slot's path is lost: the receiving side enters border state, the sending side discards; CAUSE. -/
def State.rrLost (s : State) (r cause : Nat) : State :=
  if !s.bit (CXB_RR_CFG r) CXB_RR_CFG_EN then s
  else
    let s := (((s.setF (CXB_RR_STAT r) CXB_RR_STAT_CAUSE cause).setF (CXB_RR_STAT r) CXB_RR_STAT_UP 0).setF
      (CXB_RR_STAT r) CXB_RR_STAT_BORDER 1).put (CXB_RR_DLY r) 0
    s.enterBorder (1280 + r)

/-- The delay of a remote route (R365): 2.0 ns of crossbar at each end and the one-way time. -/
def State.rrDelay (s : State) (d : Nat) : Nat := s.fld (LEAT_PATH d) LEAT_PATH_ONEWAY + 4

/-- A remote slot's path stands (R365): UP, and its delay. -/
def State.rrUp (s : State) (r : Nat) : State :=
  ((s.setF (CXB_RR_STAT r) CXB_RR_STAT_UP 1).setF (CXB_RR_STAT r) CXB_RR_STAT_CAUSE 0).put (CXB_RR_DLY r)
    (BitVec.ofNat 32 (s.rrDelay (s.fld (CXB_RR_CFG r) CXB_RR_CFG_PEER_DEV)))

/-- The cause for which a path from port p to a device does not carry a remote route (Table 9.4, checks 1 to 3). -/
def State.rrCause (s : State) (p d : Nat) : Nat :=
  if !s.isMember d || d == s.dev then 3
  else if s.fld (LEAT_PATH d) LEAT_PATH_PORT ≠ p ∨ s.fld (LEAT_PATH d) LEAT_PATH_HOPS = 0 then 2
  else if s.bit (LEAT_PATH d) LEAT_PATH_L1 then 1
  else 0

/-- Remote routes to a device, or to all of them, after paths or members changed (R367, R504): a slot whose path is
lost is in border state; one whose path changed sets DCHG, and its receiving side stays in border state until a word
arrives. `was` is the state before. -/
def State.rrCheck (s was : State) : State :=
  (List.range 64).foldl (fun s r =>
    if !s.bit (CXB_RR_CFG r) CXB_RR_CFG_EN then s
    else
      let d := s.fld (CXB_RR_CFG r) CXB_RR_CFG_PEER_DEV
      let c := s.rrCause (s.fld (LEAT_PATH d) LEAT_PATH_PORT) d
      if c ≠ 0 then (if s.bit (CXB_RR_STAT r) CXB_RR_STAT_UP then s.rrLost r c else s)
      else
        let moved := s.reg (LEAT_PATH d) != was.reg (LEAT_PATH d) || !s.bit (CXB_RR_STAT r) CXB_RR_STAT_UP
        if !moved then s
        else
          let s := (s.rrUp r).flag (CXB_RR_STAT r) CXB_RR_STAT_DCHG
          (s.enterBorder (1280 + r)).flag (CXB_RR_STAT r) CXB_RR_STAT_BORDER |>.releaseBorder (1280 + r)) s

/-! ### Members and paths -/

/-- An index enters or leaves the map here. -/
def State.setMember (s : State) (d : Nat) (b : Bool) : State :=
  let had := s.isMember d
  let s := s.setF (LEAT_PATH d) LEAT_PATH_MEMBER b.toNat
  let n := s.fld LEAT_MAP LEAT_MAP_MEMBERS
  s.setF LEAT_MAP LEAT_MAP_MEMBERS (n + b.toNat - had.toNat)

/-- A path is recomputed (R500, R502). -/
def State.setPath (s : State) (p : PathRec) : State :=
  let a := LEAT_PATH p.dev.val
  (((s.setF a LEAT_PATH_L1 p.l1.toNat).setF a LEAT_PATH_PORT p.port.val).setF a LEAT_PATH_HOPS p.hops.toNat).setF
    a LEAT_PATH_ONEWAY p.oneway.toNat

/-- Paths are recomputed; the angle path follows the path to the headwater (R507). -/
def State.setPaths (s : State) (l : List PathRec) : State :=
  let was := s
  let s := l.foldl (fun s p => s.setPath p) s
  let s := if l = [] then s
    else { s with leat := { s.leat with angPort := s.fld (LEAT_PATH s.headIdx) LEAT_PATH_PORT, angSeen := [] } }
  s.rrCheck was

/-- The headwater's record of an index (LEAT_MREC). -/
def State.setRecState (s : State) (d x : Nat) : State := s.setF (LEAT_MREC d) LEAT_MREC_STATE x

/-- The headwater announces a change of membership (R513): map generation, MEMB to all, source 0x7C4. -/
def State.announce (s : State) (d x : Nat) : State :=
  let was := s
  let s := s.setRecState d x
  let s := s.setMember d (x == mMember)
  let s := if x = mMember ∧ !s.leat.known.contains d then
    { s with leat := { s.leat with known := d :: s.leat.known } } else s
  let s := s.setF LEAT_MAP LEAT_MAP_MAPGEN (s.fld LEAT_MAP LEAT_MAP_MAPGEN + 1)
  let s := s.chainSend .memb toAll [d, x, s.fld LEAT_MAP LEAT_MAP_MAPGEN]
  (s.occur 0x7C4).rrCheck was

/-- The entries queued to join or leave, as LEAT_ADMIT_STAT.PEND shows. -/
def State.setQueue (s : State) (l : List (Bool × Nat)) : State :=
  { s with leat := { s.leat with queue := l } }.setF LEAT_ADMIT_STAT LEAT_ADMIT_STAT_PEND l.length

/-- This device becomes STALE with a cause of LEAT_STALE.CAUSE (R518). -/
def State.goStale (s : State) (cause : Nat) : State :=
  (s.setMstate mStale).setF LEAT_STALE LEAT_STALE_CAUSE cause

/-- The pair's state changes (R550). -/
def State.setTwin (s : State) (x : Nat) : State :=
  if s.fld TWIN_STATUS TWIN_STATUS_STATE = x then s else (s.setF TWIN_STATUS TWIN_STATUS_STATE x).occur 0x7D0

/-- The standby becomes STALE with a cause of TWIN_STATUS.SCAUSE. -/
def State.twinStale (s : State) (cause : Nat) : State :=
  let s := { s with twin := { s.twin with
    fault := none, faultWait := false, mirroring := false, pend := none } }
  ((s.setTwin 2).setF TWIN_STATUS TWIN_STATUS_SCAUSE cause).setMstate mStale

/-! ### Ports -/

/-- What the chain block keeps of a port besides its registers. -/
def State.lp (s : State) (p : Nat) : LPortSt := tblGet (fun _ => LPortSt.reset) s.leat.ports p
/-- Setting it. -/
def State.setLp (s : State) (p : Nat) (x : LPortSt) : State :=
  { s with leat := { s.leat with ports := tblSet (fun _ => LPortSt.reset) s.leat.ports p x } }
/-- Is a port UP? -/
def State.lpUp (s : State) (p : Nat) : Bool := s.bit (LP_STATUS p) LP_STATUS_UP
/-- Is any port UP? -/
def State.anyUp (s : State) : Bool := (List.range 4).any s.lpUp

/-- A port goes DOWN (R495, R504): the devices beside the break of a ring wrap; a device none of whose ports is UP is
ALONE, but a member that still coasts (R508) stays in its state until it fences. -/
def State.portDown (s : State) (p : Nat) : State :=
  let was := s
  let up := s.lpUp p
  let s := (((s.setF (LP_STATUS p) LP_STATUS_UP 0).setF (LP_STATUS p) LP_STATUS_STATE 0).setF
    (LP_STATUS p) LP_STATUS_LEVEL 0).setF (LP_CABLE p) LP_CABLE_DLY 0
  let s := s.setLp p { s.lp p with bad := 0 }
  if !up then s
  else
    let s := s.occur (0x7C0 + p)
    let s := if s.fld LEAT_STATUS LEAT_STATUS_TOPO = 2 ∧ s.leat.wrapPort.isNone ∧ s.anyUp then
        ({ s with leat := { s.leat with wrapPort := some p } }.flag LEAT_STATUS LEAT_STATUS_WRAP).chainSend .wrap toAll
          [s.dev, p, 1]
      else s
    let s := if !s.anyUp && (s.mstate != mMember || s.isHead) then s.setMstate mAlone else s
    if s.anyUp then s
    else ((List.range 512).foldl (fun s d => if d ≠ s.dev ∧ s.isHead && s.isMember d then s.setMember d false else s) s).rrCheck was

/-- A control message came in (R487, R495): one that fails its CRC is discarded and counted, the fourth in a row takes
the port DOWN; a good one goes on to its effect. -/
def State.ctrl (s : State) (rx : Rx) (f : State → State) : State :=
  let p := rx.port.val
  if rx.ok then f (s.setLp p { s.lp p with bad := 0 })
  else
    let n := (s.lp p).bad + 1
    let s := (s.inc (LP_CRC_LO p)).setLp p { s.lp p with bad := n }
    if 4 ≤ n then s.portDown p else s

/-- A packet or a STRM flit came in (R486, R492): one that fails its check is discarded and counted. -/
def State.packet (s : State) (rx : Rx) (f : State → State) : State :=
  if rx.ok then f s else s.inc (LP_CRC_LO rx.port.val)

end Sys2Proof.Machine
end

