-- ==== Sys2Proof/Machine/Lines.lean ====
section
/-! DEFINITION. The outputs of the Leat ports (R484, R485, R488, R490): what waits for a port, and the flit that each
flit time of 2.56 ns carries. -/

namespace Sys2Proof.Machine

/-- The payload flits of a message: 32 of its fields a flit. The spec gives the bytes of no message; log entry 95. -/
def LMsg.body (m : LMsg) : Nat := (m.args.length + 31) / 32

/-- The flits of a packet message (R490): a header before every eight of payload. -/
def LMsg.flits (m : LMsg) : Nat := m.body + max 1 ((m.body + 7) / 8)

/-- Is a message mirrored traffic of a pair (R535)? -/
def LMsg.mirrored (m : LMsg) : Bool := m.kind == .twin && m.args.head? == some 8

/-- The mirrored message an output of the block is. -/
def OutMsg.mirrored (m : OutMsg) : Option LMsg :=
  match m with
  | .leat k d l => if LMsg.mirrored ⟨k, d, l⟩ then some ⟨k, d, l⟩ else none
  | _ => none

/-- Messages that travel as CTRL flits (Table 14.2); the others are packets. -/
def LeatKind.isCtrl (k : LeatKind) : Bool :=
  match k with
  | .ang | .hb | .memb | .wrap | .gnot | .epoReq | .epoArm | .epoReply | .epoDec | .epoRes => true
  | _ => false

/-- EPO messages. -/
def LeatKind.isEpo (k : LeatKind) : Bool :=
  match k with
  | .epoReq | .epoArm | .epoReply | .epoDec | .epoRes => true
  | _ => false

/-- A port that is DOWN on a wrapped ring gives its flits to the other ring port (R504). -/
def State.wrapTo (s : State) (p : Nat) : Nat :=
  if s.leat.wrapPort = some p ∧ !s.lpUp p then
    (((List.range 4).find? fun k => k != p && s.lpUp k && k != s.fld TWIN_CFG TWIN_CFG_PORT).getD p)
  else p

/-- The ports that a message to a device leaves by: every one for all devices, the twin port for this device's own
index, else that of the path (R491, R500, R504). -/
def State.linePorts (s : State) (k : LeatKind) (dst : Nat) (args : List Nat) : List Nat :=
  (if k = .pass then [args.headD 0]
   else if dst = toAll then List.range 4
   else if dst = s.dev then [s.fld TWIN_CFG TWIN_CFG_PORT]
   else [s.wrapTo (s.fld (LEAT_PATH dst) LEAT_PATH_PORT)]).filter s.lpUp

/-- What the block sent joins a port's queue of its class (R485); a flit passing through goes before what originates
here. -/
def LLine.add (l : LLine) (m : OutMsg) : LLine :=
  match m with
  | .leat .pass d (o :: 0 :: b) => { l with ctrl := ⟨.pass, d, o :: 0 :: b⟩ :: l.ctrl }
  | .leat .pass d (o :: 1 :: b) => { l with thru := l.thru ++ [⟨.pass, d, o :: 1 :: b⟩] }
  | .leat k d a => if k.isCtrl then { l with ctrl := l.ctrl ++ [⟨k, d, a⟩] } else { l with pkts := l.pkts ++ [⟨k, d, a⟩] }
  | .strm d r _ w => { l with strm := l.strm ++ [(d, r, w)] }
  | _ => l

/-- What has left the blocks since the last ns joins the queues of its ports. -/
def State.lineTake (s : State) : State :=
  let new := s.out.drop s.leat.taken
  let s := new.foldl (fun s m =>
    let ps := match m with
      | .leat k d a => s.linePorts k d a
      | .strm d .. => [s.wrapTo (s.fld (LEAT_PATH d) LEAT_PATH_PORT)].filter s.lpUp
      | _ => []
    ps.foldl (fun s p => s.setLp p { s.lp p with line := (s.lp p).line.add m }) s) s
  { s with leat := { s.leat with taken := s.out.length } }

/-- The control message for a position 0 (R488): one passing through; an ANG displaced before; EPO; ANG; the rest in
the order of origin. -/
def LLine.pick (l : LLine) : Option LMsg :=
  let first (p : LMsg → Bool) := l.ctrl.find? p
  let ang := first fun m => m.kind == .ang
  (first fun m => m.kind == .pass).or <| (if l.displaced then ang else none).or <|
    (first fun m => m.kind.isEpo).or <| ang.or l.ctrl.head?

/-- Position 0 of a frame (R484, R488): CTRL or IDLE. An ANG that waits and does not go is displaced. -/
def LLine.ctrlFlit (l : LLine) : LLine :=
  match l.pick with
  | none => { l with now := .idle }
  | some m =>
    let rest := l.ctrl.erase m
    { l with ctrl := rest, displaced := m.kind != .ang && rest.any (·.kind == .ang), now := .ctrl m }

/-- Words for one STRM flit (R486): of one route, at most seven. -/
def strmWords (d r : Nat) : Nat → List (Nat × Nat × CWord) → List CWord
  | _, [] => []
  | n, (d', r', w) :: l => if d' = d ∧ r' = r ∧ w.size ≤ n then w :: strmWords d r (n - w.size) l else []

/-- Positions 1 to 15 (R484, R485): class S before class B; a packet's flits in order, packets never interleaved. -/
def LLine.dataFlit (l : LLine) : LLine :=
  match l.thru, l.strm, l.pkts with
  | m :: r, _, _ => { l with thru := r, now := .thru m }
  | [], (d, r, w) :: rest, _ =>
    let ws := strmWords d r 7 ((d, r, w) :: rest)
    { l with strm := ((d, r, w) :: rest).drop ws.length, now := .strm d r ws }
  | [], [], m :: rest =>
    let fl : Flit := if l.carried % 9 = 0 then .pkth m else .pktd
    if l.carried + 1 < m.flits then { l with carried := l.carried + 1, now := fl }
    else { l with pkts := rest, carried := 0, now := fl }
  | [], [], [] => { l with now := .idle }

/-- The next flit time of a port that is UP (R484, R495). -/
def LLine.advance (l : LLine) : LLine :=
  let pos := (l.pos + 1) % 16
  let l := { l with pos := pos, frame := if pos = 0 then (l.frame + 1) % 16384 else l.frame }
  if pos = 0 then l.ctrlFlit
  else if pos = 1 ∧ l.frame = 0 then { l with now := .align }
  else if pos = 1 ∧ l.ts then { l with ts := false, now := .ts }
  else l.dataFlit

/-- A ns of one output: a flit time is 2.56 ns. A port that trains sends TS; one that is neither UP nor training sends
nothing, and what waited for it goes the other way round a wrapped ring, or is lost. -/
def State.lineStep (s : State) (p : Nat) : State :=
  let x := s.lp p
  let l := x.line
  let l := if s.lpUp p && s.ns % 1000000 == 0 then { l with ts := true } else l
  let due := decide (256 ≤ l.sub + 100)
  let l := { l with sub := (l.sub + 100) % 256 }
  let st := s.fld (LP_STATUS p) LP_STATUS_STATE
  if s.lpUp p then s.setLp p { x with line := if due then l.advance else l }
  else if 1 ≤ st ∧ st ≤ 4 then
    s.setLp p { x with line := { LLine.reset with sub := l.sub, pos := if due then (l.pos + 1) % 16 else l.pos, now := .ts } }
  else
    let q := s.wrapTo p
    let s := if q = p then s
      else
        let y := s.lp q
        s.setLp q { y with line := { y.line with
          ctrl := y.line.ctrl ++ l.ctrl, thru := y.line.thru ++ l.thru, strm := y.line.strm ++ l.strm, pkts := y.line.pkts ++ l.pkts } }
    s.setLp p { x with line := LLine.reset }

/-- A ns of the four outputs. -/
def State.linesGo (s : State) : State := (List.range 4).foldl (fun s p => s.lineStep p) s.lineTake

end Sys2Proof.Machine
end

