-- ==== Sys2Proof/Machine/Twin.lean ====
section
/-! DEFINITION. Twinned positions (chapter 15): the interlock, mirroring, digests, takeover, the pair's commands. -/

namespace Sys2Proof.Machine

/-- TWIN_STATUS.STATE in MIRROR and SOLO. -/
def twMirror : Nat := 5
def twSolo : Nat := 6

/-- The pair's state. -/
def State.twinState (s : State) : Nat := s.fld TWIN_STATUS TWIN_STATUS_STATE
/-- Is this device the primary? -/
def State.twinPrimary (s : State) : Bool := s.fld TWIN_STATUS TWIN_STATUS_ROLE == 1

/-- The balls of a device whose role changed follow it (R534, R545). -/
def State.twinBalls (s : State) : State := (List.range 512).foldl (fun s n => s.drvHiz n) s

/-- The role. -/
def State.setRole (s : State) (r : Nat) : State := (s.setF TWIN_STATUS TWIN_STATUS_ROLE r).twinBalls

/-- Is TWIN_SEL to be high (R531, R532, R533)? -/
def State.wantSel (s : State) : Bool :=
  (s.twinPrimary && !s.twin.dropped || (s.fld TWIN_STATUS TWIN_STATUS_ROLE == 0 && !s.bit TWIN_CFG TWIN_CFG_EN))
    && decide (2 ≤ s.twin.lowSteps) && !s.twin.hiz
    && (!s.bit TWIN_STATUS TWIN_STATUS_POSCONF || s.bit TWIN_STATUS TWIN_STATUS_SEL)

/-- A 1 ns step of domain 23: TWIN_PEER's low steps, and TWIN_SEL (R531). -/
def State.twinStep (s : State) : State :=
  let n := if s.bit TWIN_STATUS TWIN_STATUS_PEER_SEL then 0 else min 2 (s.twin.lowSteps + 1)
  let s := { s with twin := { s.twin with lowSteps := n } }
  s.setF TWIN_STATUS TWIN_STATUS_SEL s.wantSel.toNat

/-- TWIN_RESULT at the end of a command, and the Benmos command that wrote it (R568). -/
def State.twinResult (s : State) (r : Nat) : State :=
  let s := { s with twin := { s.twin with pend := none } }
  let s := (s.setF TWIN_RESULT TWIN_RESULT_PEND 0).setF TWIN_RESULT TWIN_RESULT_RESULT r
  s.hostEnd 3 2 (if r = 0 then 0 else 0x10) r

/-- The standby takes over (R545, R547) with a cause of TWIN_TAKE. -/
def State.takeOver (s : State) (cause : Nat) : State :=
  let lost := (List.range 512).filter fun n => (s.pulse n).shot.isSome
  let s := lost.foldl (fun s n => (s.endShot n).inc (DRV_DISC_LO n)) s
  let pc := if cause = 1 then s.twin.fault.getD 0 else 0
  let s := { s with twin := { s.twin with
    fault := none, faultWait := false, took := some s.ns, dropped := s.fenced } }
  let s := s.setRole 1
  let s := if cause = 4 then s else s.setTwin twSolo
  let s := s.setF TWIN_STATUS TWIN_STATUS_SEL s.wantSel.toNat
  let s := s.put TWIN_TAKE (BitVec.ofNat 32 (2 ^ 31 + pc * 256 + cause))
  let t := s.ang.time.toNat
  let s := (s.put TWIN_TAKE_T_LO (BitVec.ofNat 32 t)).put TWIN_TAKE_T_HI (BitVec.ofNat 32 (t / 2 ^ 32 % 65536))
  let s := (s.inc TWIN_TAKES_LO).occur 0x7D2
  s.chainSend .memb s.headIdx [s.dev, s.mstate, s.fld LEAT_MAP LEAT_MAP_MAPGEN]

/-- The pair leaves MIRROR because of the mirror itself (R536, R537, R539), at this device. -/
def State.mirrorLeaves (s : State) : State :=
  let s := { s with twin := { s.twin with unreported := [], mirroring := false } }
  if s.twinPrimary then
    let seqs := (s.host.cmds.filter fun c => c.phase == .first && s.durable c.seq).map (·.seq)
    seqs.foldl (fun s n => s.accept n) (s.setTwin twSolo)
  else s.twinStale 3

/-- It leaves it, and the partner is told (log entry 82). -/
def State.mirrorEnds (s : State) : State := s.mirrorLeaves.partnerSend [12]

/-- The mirror traffic that the twin port has not yet carried, in bytes (R539). -/
def State.mirrorHeld (s : State) : Nat :=
  let l := (s.lp (s.fld TWIN_CFG TWIN_CFG_PORT)).line
  let new := (s.out.drop s.leat.taken).filterMap OutMsg.mirrored
  32 * (((l.pkts.filter LMsg.mirrored ++ new).map LMsg.flits).sum - (if (l.pkts.head?.map LMsg.mirrored).getD false then l.carried else 0))

/-- At 64 KiB of it the pair leaves MIRROR (R539). -/
def State.mirrorLimit (s : State) : State := if 65536 ≤ s.mirrorHeld then s.mirrorEnds else s

/-- TWIN_PEER_CHANGE (R531, R544 rows 2 and 3). -/
def execTwinPeerChange (level : Bool) (s : State) : Host.Outcome State Fault Refusal :=
  .next (
    let was := s.bit TWIN_STATUS TWIN_STATUS_PEER_SEL
    let s := { s with twin := { s.twin with lowSteps := 0 } }.setF TWIN_STATUS TWIN_STATUS_PEER_SEL level.toNat
    if level then
      if s.twinPrimary then
        let s := s.setF TWIN_STATUS TWIN_STATUS_SEL 0
        if s.bit TWIN_CFG TWIN_CFG_POS then (s.setRole 2).twinStale 6 else s
      else s.setF TWIN_STATUS TWIN_STATUS_SEL s.wantSel.toNat
    else if was && s.twinStandby && s.twinState == twMirror then
      (if s.twin.faultWait then s.takeOver 1 else if s.twin.pend == some 3 then s else s.takeOver 3)
    else s)

/-- TWIN_HB_SEND (R543): a primary with a partner. -/
def execTwinHbSend (s : State) : Host.Outcome State Fault Refusal :=
  .next (if s.twinPrimary && s.twinState != 0 then s.partnerSend [1] else s)

/-- TWIN_HEARTBEAT_ARRIVAL (R543). -/
def execTwinHeartbeatArrival (s : State) : Host.Outcome State Fault Refusal :=
  .next (if s.twinStandby then s.setF TWIN_STATUS TWIN_STATUS_HBLOST 0 else s)

/-- TWIN_HB_LOST (R544 rows 4 and 5); a FAULT decides before it. -/
def execTwinHbLost (s : State) : Host.Outcome State Fault Refusal :=
  .next (if !s.twinStandby then s
    else
      let s := s.flag TWIN_STATUS TWIN_STATUS_HBLOST
      if s.twinState ≠ twMirror ∨ s.twin.faultWait then s
      else if s.bit TWIN_STATUS TWIN_STATUS_PEER_SEL then s.twinStale 4 else s.takeOver 2)

/-- TWIN_FAULT (R544 rows 1 and 2); one that comes within 10 µs after a takeover by SEL or HB is recorded. -/
def execTwinFault (cause : Byte) (s : State) : Host.Outcome State Fault Refusal :=
  .next (if s.twinStandby && s.twinState == twMirror then
      let s := { s with twin := { s.twin with fault := some cause.toNat } }
      if s.bit TWIN_STATUS TWIN_STATUS_PEER_SEL then { s with twin := { s.twin with faultWait := true } } else s.takeOver 1
    else match s.twin.took with
      | some t =>
        let c := s.fld TWIN_TAKE TWIN_TAKE_CAUSE
        if s.twinPrimary && (c == 2 || c == 3) && decide (s.ns ≤ t + 10000) then
          s.setF TWIN_TAKE TWIN_TAKE_PCAUSE cause.toNat
        else s
      | none => s)

/-- TWIN_FAULT_WAIT_EXPIRE (R544 row 2). -/
def execTwinFaultWaitExpire (s : State) : Host.Outcome State Fault Refusal :=
  .next (if s.twin.faultWait && s.bit TWIN_STATUS TWIN_STATUS_PEER_SEL then s.twinStale 4 else s)

/-- TWIN_SENDER_SILENT (R533): TWIN_SEL drops; no FAULT is sent for a silent sender (R543). -/
def execTwinSenderSilent (s : State) : Host.Outcome State Fault Refusal :=
  .next (if s.twinPrimary then
      { s with twin := { s.twin with dropped := true } }.setF TWIN_STATUS TWIN_STATUS_SEL 0
    else s)

/-! ### Digests (R540, R541) -/

/-- The digest of a window in a list; none there counts nothing. -/
def digOf (l : List Digest) (x : Stamp) : Option Digest := l.find? fun d => d.start == x

/-- A mismatching window (R541). -/
def State.digMismatch (s : State) (k : Digest) : State :=
  let s := if s.bit TWIN_STATUS TWIN_STATUS_MISMATCH then s
    else (s.put TWIN_MWIN_LO (k.start.extractLsb' 0 32)).put TWIN_MWIN_HI ((k.start.extractLsb' 32 16).setWidth 32)
  (s.flag TWIN_STATUS TWIN_STATUS_MISMATCH).inc TWIN_MISM_LO

/-- The partner's part of TWIN_PDIG and TWIN_DCNT for the last ended window. -/
def State.digShow (s : State) (d : Digest) : State :=
  (s.put TWIN_PDIG d.sum).setF TWIN_DCNT TWIN_DCNT_PCOUNT (min d.count 0xFFFF)

/-- Ended windows whose comparison the state decides: k and the one after it (R541). Both digests of k are there and
they disagree; k + 1 agrees: k is a mismatch; k + 1 disagrees: together they may agree. -/
def State.digSettle (s : State) : State :=
  match s.twin.closed with
  | k :: m :: rest =>
    (match digOf s.twin.theirs k.start, digOf s.twin.theirs m.start with
     | some a, some b =>
       if a.sum == k.sum && a.count == k.count then s
       else if (b.sum != m.sum || b.count != m.count) && a.sum + b.sum == k.sum + m.sum
           && a.count + b.count == k.count + m.count then
         { s with twin := { s.twin with
             closed := rest, theirs := s.twin.theirs.filter fun d => d != a && d != b } }.incBy TWIN_SPLIT_LO 2
       else
         { s with twin := { s.twin with
             closed := m :: rest, theirs := s.twin.theirs.filter (· != a) } }.digMismatch k
     | _, _ => s)
  | _ => s

/-- The window before the last ended one at the end of that one: it agrees, or its digest did not arrive, or it waits
for the partner's next digest; an older one still waiting is a mismatch. -/
def State.digCompare (s : State) : State :=
  match s.twin.closed with
  | [k, _] =>
    (match digOf s.twin.theirs k.start with
     | none => { s with twin := { s.twin with closed := s.twin.closed.drop 1 } }.inc TWIN_DMISS_LO
     | some a =>
       if a.sum == k.sum && a.count == k.count then
         { s with twin := { s.twin with
             closed := s.twin.closed.drop 1, theirs := s.twin.theirs.filter (· != a) } }
       else s)
  | [k, m, _] =>
    let s := s.digMismatch k
    let s := { s with twin := { s.twin with
      closed := s.twin.closed.drop 1, theirs := s.twin.theirs.filter fun d => d.start != k.start } }
    (match digOf s.twin.theirs m.start with
     | none => { s with twin := { s.twin with closed := s.twin.closed.drop 1 } }.inc TWIN_DMISS_LO
     | some a =>
       if a.sum == m.sum && a.count == m.count then
         { s with twin := { s.twin with
             closed := s.twin.closed.drop 1, theirs := s.twin.theirs.filter (· != a) } }
       else s)
  | _ => s

/-- DIGEST_WINDOW_END (R541): the window of a start stamp ends, as the active angle has left it. -/
def execDigestWindowEnd (start : Stamp) (s : State) : Host.Outcome State Fault Refusal :=
  .next (if s.twinState ≠ twMirror ∨ s.digStart start ≠ start ∨ s.digStart s.angle = start
      ∨ (digOf s.twin.closed start).isSome then s
    else
      let d := (digOf s.twin.own start).getD ⟨start, 0, 0⟩
      let s := { s with twin := { s.twin with
        own := s.twin.own.filter fun x => x.start != start, closed := s.twin.closed ++ [d] } }
      let s := s.partnerSend [3, start.toNat, d.sum.toNat, d.count]
      let s := (s.put TWIN_DIG d.sum).setF TWIN_DCNT TWIN_DCNT_COUNT (min d.count 0xFFFF)
      let s := match digOf s.twin.theirs start with | some a => s.digShow a | none => s
      s.digCompare.digSettle)

/-- TWIN_DIGEST (R541): the partner's digest of a window. -/
def execTwinDigest (start : Stamp) (sum : Word) (count : Nat) (s : State) : Host.Outcome State Fault Refusal :=
  .next (if s.twinState ≠ twMirror then s
    else
      let d : Digest := ⟨start, sum, count⟩
      let s := { s with twin := { s.twin with theirs := s.twin.theirs ++ [d] } }
      let s := match s.twin.closed.getLast? with
        | some m => if m.start = start then s.digShow d else s
        | none => s
      s.digSettle)

/-! ### Mirroring -/

/-- MIRROR_REPLY_TIMEOUT (R536). -/
def execMirrorReplyTimeout (s : State) : Host.Outcome State Fault Refusal :=
  .next (if s.twinState = twMirror then s.mirrorEnds else s)

/-- MIRROR_JOURNAL_TIMEOUT (R537): the primary goes on alone and accepts the command on its own entry. -/
def execMirrorJournalTimeout (s : State) : Host.Outcome State Fault Refusal :=
  .next (if s.twinState = twMirror then s.mirrorEnds else s)

/-- MIRROR_DURABLE_REPORT (R537). -/
def execMirrorDurableReport (seq : Nat) (s : State) : Host.Outcome State Fault Refusal :=
  .next (if s.twinPrimary && s.twin.unreported.contains seq then
      let s := { s with twin := { s.twin with unreported := s.twin.unreported.filter (· != seq) } }
      if s.durable seq then s.accept seq else s
    else s)

/-! ### ATTACH, DETACH, SWAP (R547-R549) -/

/-- The twin port. -/
def State.twinPort (s : State) : Nat := s.fld TWIN_CFG TWIN_CFG_PORT

/-- Why ATTACH is refused (R529, R532); 0 if it is not. -/
def State.attachRefusal (s : State) : Nat :=
  let p := s.twinPort
  if !s.bit TWIN_CFG TWIN_CFG_EN ∨ s.twinStandby ∨ (s.twinState ≠ 0 ∧ s.twinState ≠ twSolo) then 3
  else if !s.lpUp p ∨ !(List.range 4).any (fun k => k != p && s.lpUp k) then 5
  else if !s.twin.partner5120 then 4
  else if s.fld (LP_STATUS p) LP_STATUS_LEVEL ≠ 2 then 2
  else if s.twin.partnerPos = some (s.bit TWIN_CFG TWIN_CFG_POS) then 6
  else 0

/-- A write of TWIN_CMD. -/
def State.twinCmd (s : State) (op : Nat) : State :=
  let queue (s : State) : State :=
    { s with twin := { s.twin with pend := some op } }.setF TWIN_RESULT TWIN_RESULT_PEND 1 |>.setF
      TWIN_RESULT TWIN_RESULT_RESULT 1
  let refuse (r : Nat) : State :=
    if s.twin.pend.isSome then s.setF TWIN_RESULT TWIN_RESULT_RESULT r else s.twinResult r
  match op with
  | 1 =>
    let r := s.attachRefusal
    if r ≠ 0 then refuse r
    else
      let s := { s with twin := { s.twin with hiz := false } }
      let s := (s.put TWIN_PEER_UID_LO (s.twin.partnerUid.extractLsb' 0 32)).put TWIN_PEER_UID_HI
        (s.twin.partnerUid.extractLsb' 32 32)
      let s := (s.setRole 1).setTwin twSolo
      (s.partnerSend [4, s.gen.toNat, s.jseq]).twinResult 0
  | 2 => if s.twinPrimary && s.twinState != 0 then queue s else refuse 3
  | 3 =>
    if s.twinState ≠ twMirror then refuse 3
    else if s.twinPrimary then queue s else (queue s).partnerSend [5, 0]
  | _ => s

/-- A write of the whole register. -/
def State.twinCmdWrite (s : State) (q : Req) (v : Word) : State :=
  let s := s.regWrite q TWIN_CMD v
  if reservedEncoding (fieldsAt TWIN_CMD) v then s else s.twinCmd (fieldGet TWIN_CMD_OP v)

/-- ATTACH (R548). -/
def execAttach (q : Req) (s : State) : Host.Outcome State Fault Refusal :=
  .next (s.guardWrite q TWIN_CMD fun s => s.twinCmdWrite q 1)
/-- DETACH (R549). -/
def execDetach (q : Req) (s : State) : Host.Outcome State Fault Refusal :=
  .next (s.guardWrite q TWIN_CMD fun s => s.twinCmdWrite q 2)
/-- SWAP (R547). -/
def execSwap (q : Req) (s : State) : Host.Outcome State Fault Refusal :=
  .next (s.guardWrite q TWIN_CMD fun s => s.twinCmdWrite q 3)

/-- A full-scope window of the primary opens while SWAP waits (R547). -/
def State.twinSwap (s : State) : State :=
  if s.twinPrimary && s.twin.pend == some 3 && s.twinState == twMirror then
    let s := (s.setF TWIN_STATUS TWIN_STATUS_SEL 0).setRole 2
    ((s.partnerSend [5, 1]).occur 0x7D2 |>.inc TWIN_TAKES_LO).twinResult 0
  else s

/-- The partner says that it has attached (R548): generation and journal are compared. -/
def State.twinAttached (s : State) (gen jseq : Nat) : State :=
  let s := { s with twin := { s.twin with hiz := false } }
  let s := (s.put TWIN_PEER_UID_LO (s.twin.partnerUid.extractLsb' 0 32)).put TWIN_PEER_UID_HI
    (s.twin.partnerUid.extractLsb' 32 32)
  let s := (s.setRole 2).setTwin 1
  let s := (s.put LEAT_REF_GEN (BitVec.ofNat 32 gen)).put LEAT_REF_JSEQ_LO (BitVec.ofNat 32 jseq)
  let s := s.put LEAT_REF_JSEQ_HI (BitVec.ofNat 32 (jseq / 2 ^ 32))
  if s.gen.toNat ≠ gen then (s.twinStale 1).setF LEAT_STALE LEAT_STALE_CAUSE 1
  else if s.jseq < jseq then (s.twinStale 2).setF LEAT_STALE LEAT_STALE_CAUSE 2
  else { (s.setTwin 4).setMstate mReady with twin := { ((s.setTwin 4).setMstate mReady).twin with mirroring := true } }

/-- What an epoch does to a pair: DETACH (R549), or MIRROR begins (R548). `first` says whether the device applies it
as the pair's participant. -/
def State.twinEpoch (s : State) : State :=
  if s.twin.pend = some 2 then
    let s := (((s.setTwin 0).setRole 0).partnerSend [6]).twinResult 0
    { s with twin := { s.twin with mirroring := false, own := [], closed := [], theirs := [] } }
  else if (s.twinStandby && s.twinState == 4) || (s.twinPrimary && s.twinState == twSolo && s.twin.mirroring) then
    let s := if s.twinStandby then s.setMstate mMember else s
    { (s.setTwin twMirror) with
      twin := { (s.setTwin twMirror).twin with own := [], closed := [], theirs := [] } }
  else s

/-- The standby is told that it was detached (R549): unpaired, its balls stay HIZ. -/
def State.twinDetached (s : State) : State :=
  let s := { s with twin := { s.twin with hiz := true, mirroring := false, own := [], closed := [], theirs := [] } }
  (s.setTwin 0).setRole 0

end Sys2Proof.Machine
end

