-- ==== Sys2Proof/Machine/Epoch.lean ====
section
/-! DEFINITION. Epochs (section 2.7, section 14.10.1): checks of the staged state, arming, decision, application. Idle
windows as boundaries (R703). The release of the outputs (R609). -/

namespace Sys2Proof.Machine

/-! ### Release of the outputs (R605, R609) -/

/-- The step of Sluice whose turn it is: LOCK at position 0, then as POS1 to POS3 name them (R606). -/
def State.sluiceStep (s : State) : Option Nat :=
  if !s.boot.sluice || s.bit BOOT_SLUICE_STAT BOOT_SLUICE_STAT_FAIL then none
  else match s.fld BOOT_SLUICE_STAT BOOT_SLUICE_STAT_POS with
    | 0 => some 0
    | 1 => some (s.fld BOOT_SLUICE_CTL BOOT_SLUICE_CTL_POS1)
    | 2 => some (s.fld BOOT_SLUICE_CTL BOOT_SLUICE_CTL_POS2)
    | 3 => some (s.fld BOOT_SLUICE_CTL BOOT_SLUICE_CTL_POS3)
    | _ => none

/-- A step has been performed (R607, R618). -/
def State.sluiceDone (s : State) (k : Nat) : State :=
  let d := s.fld BOOT_SLUICE_STAT BOOT_SLUICE_STAT_DONE
  let p := s.fld BOOT_SLUICE_STAT BOOT_SLUICE_STAT_POS
  ((s.setF BOOT_SLUICE_STAT BOOT_SLUICE_STAT_DONE (if bitOf d k then d else d + 2 ^ k)).setF
    BOOT_SLUICE_STAT BOOT_SLUICE_STAT_POS (p + 1)).occur 0x7F3

/-- The outputs are released once PROGRDY is set, the device is alone or a member and the boot is in RUN. -/
def State.outrel (s : State) : State :=
  let d := s.fld BOOT_SLUICE_STAT BOOT_SLUICE_STAT_DONE
  let ok := s.bit BOOT_SLUICE_CTL BOOT_SLUICE_CTL_PROGRDY && s.fld BOOT_STATUS BOOT_STATUS_STATE == 4
    && (s.mstate == mAlone || s.mstate == mMember) && s.sluiceStep == some 1 && !bitOf d 1
  if !ok then s
  else
    let s := s.sluiceDone 1
    let s := (List.range 512).foldl (fun s u => s.flag (CEL_STATUS u) CEL_STATUS_REL) s
    s.refreshCells.twinBalls

/-! ### Checks of the staged state (R90, R366, R698, R701) -/

/-- The staged remote routes (Table 9.4): the first slot and cause that fail, the checks in their order. -/
def State.rrStage (s : State) : Option (Nat × Nat) :=
  let en := (List.range 64).filter fun r => s.shFld (CXB_RR_CFG r) CXB_RR_CFG_EN == 1
  let cause (r : Nat) : Nat := s.rrCause (r / 16) (s.shFld (CXB_RR_CFG r) CXB_RR_CFG_PEER_DEV)
  let first (k : Nat) : Option (Nat × Nat) := (en.find? fun r => cause r == k).map fun r => (r, k)
  let rate (p : Nat) : Nat := ((List.range 16).map fun k => s.shFld (CXB_RR_CFG (16 * p + k)) CXB_RR_CFG_RATE).sum
  ((first 3).or (first 2)).or ((first 1).or
    ((((List.range 4).find? fun p => decide (2500 < rate p))).map fun p => (16 * p, 4)))

/-- Every block that holds a shadow checks it; a failing remote route shows its cause. -/
def State.stageOk (s : State) : Bool × State :=
  match s.rrStage with
  | some (r, c) => (false, s.setF (CXB_RR_STAT r) CXB_RR_STAT_CAUSE c)
  | none =>
    (s.angStageOk && s.cellStageOk && (List.range 64).all s.cvgStageOk && (List.range 64).all s.fltStageOk
      && (List.range 512).all s.drvStageOk && s.budgetStageOk && (List.range 16).all s.lgcStageOk && s.pinStageOk, s)

/-- The check of R90, in its order: the status of the first that fails, 0 where all pass. -/
def State.epCheck (s : State) (n : Word) (e : Stamp) : Nat × State :=
  if s.gen + 1 ≠ n then (0x15, s)
  else if !s.inFullIdle e then (0x13, s)
  else match s.stageOk with
    | (true, s) => (0, s)
    | (false, s) => (0x14, s)

/-! ### The shadows take effect (R93, R96) -/

/-- The active word with its RWS bits from the shadow. -/
def mergeRws (a : Nat) (old v : Word) : Word :=
  let m := rwsMask (fieldsAt a)
  (old &&& ~~~ m) ||| (v &&& m)

/-- The sequence entries of a group that the shadows change, all where its quadrant's clock changes (R275). -/
def State.entriesChanged (s : State) (g : Nat) : List Nat :=
  let ch (a : Nat) : Bool := s.shReg a != s.reg a
  (List.range 16).filter fun e => ch (CVG_CLK (g / 16)) || ch (CVG_SEQ_ENTRY g e) || ch (CVG_SEQ_CIC g e)

/-- The groups whose settings, or whose quadrant's clock, the shadows change (R279). -/
def State.groupsChanged (s : State) : List Nat :=
  let ch := (s.staged.filter fun x => mergeRws x.1 (s.reg x.1) x.2 != s.reg x.1).map (·.1)
  (List.range 64).filter fun g =>
    ch.contains (CVG_CLK (g / 16)) || ch.any fun a => blockOf a == .cvg && tileOf a * 4 + a / 0x1000 % 16 == g

/-- Every shadow takes effect, the units change, a staged compound membership lands (R34), the frames
written agree with their references (R614). -/
def State.applyShadows (s : State) : State :=
  let gs := s.groupsChanged.map fun g => (g, s.entriesChanged g)
  let us := (List.range 512).filter s.inputChanges
  let cs := (List.range 512).filter s.chChanges
  let fs := s.staged.map fun x => x.1 / 128
  let s := s.staged.foldl (fun s x => s.put x.1 (mergeRws x.1 (s.reg x.1) x.2)) s
  let s := { s with
    staged := []
    boot := { s.boot with upsets := s.boot.upsets.filter fun x => !fs.contains x.1 }
    cmpd := s.cmpdStaged.foldl (fun (t : Tbl (List Word)) (x : Nat × List Word) => tblSet (fun _ => []) t x.1 x.2) s.cmpd
    cmpdStaged := []
    caches := [] }
  let s := s.routeSwitchAll
  let s := (List.range 64).foldl (fun s r =>
    if s.bit (CXB_RR_CFG r) CXB_RR_CFG_EN then
      (if s.rrCause (r / 16) (s.fld (CXB_RR_CFG r) CXB_RR_CFG_PEER_DEV) = 0 then s.rrUp r else s)
    else (s.setF (CXB_RR_STAT r) CXB_RR_STAT_UP 0).put (CXB_RR_DLY r) 0) s
  let s := (List.range 512).foldl (fun s u => s.cellApplied u) s
  let s := us.foldl (fun s u => s.cellSettle u) s
  let s := gs.foldl (fun s g => s.cvgApplied g.1 g.2) s
  let s := (List.range 64).foldl (fun s g => ((s.cvgEvery g).eddyBoundary g).eddySwap g) s
  let s := cs.foldl (fun s u => s.chRestart u) s
  let s := (List.range 64).foldl (fun s e => s.fltSwap e) s
  let s := (List.range 512).foldl (fun s n => s.drvApplied n) s
  let s := (List.range 512).foldl (fun s p => s.weirApplied p) s
  let s := (List.range 256).foldl (fun s r => s.lgcApplied r) s
  s.angApplied.setF ANG_FENCE ANG_FENCE_LIFT 0

/-- The application of an epoch; one that applies LIFT lifts the fence (R98). -/
def State.applyEpoch (s : State) : State :=
  if s.shFld ANG_FENCE ANG_FENCE_LIFT = 1 then s.applyShadows.liftFence else s.applyShadows

/-! ### Idle windows (R82, R83, R703) -/

/-- Is every drive output of some tiles inactive (R83)? -/
def State.outputsIdle (s : State) (tiles : Nat) : Bool :=
  s.pulses.all fun x => !bitOf tiles (x.1 / 32) || (match x.2.shot with | some y => !y.active | none => true)

/-- What the users of a window do at its opening (R271, R547, R634): Eddy swaps, the corrections that fell due, SWAP. -/
def State.windowUsers (s : State) (w : Nat) (ks : List Nat) : State :=
  let tiles := s.fld (ANG_IDLE_CTL w) ANG_IDLE_CTL_TILES
  let s := (List.range 64).foldl (fun s g => if bitOf tiles (g / 4) then (s.eddyBoundary g).eddySwap g else s) s
  let s := if ks.isEmpty then s else s.calTake ks
  if tiles = 0xFFFF then s.twinSwap else s

/-- The users of the windows that have opened begin once the drive outputs of the window's tiles are inactive (R83). -/
def State.windowsWork (s : State) : State :=
  s.ang.opened.foldl (fun s x =>
    if s.outputsIdle (s.fld (ANG_IDLE_CTL x.1) ANG_IDLE_CTL_TILES) then
      { s with ang := { s.ang with opened := s.ang.opened.filter fun y => y.1 != x.1 } }.windowUsers x.1 x.2
    else s) s

/-- A window opens (R703): the corrections it lets take effect are those that wait at this instant (R636); none where the opening
is the same boundary as an application. -/
def State.windowOpening (s : State) (w : Nat) (atEpoch : Bool) : State :=
  let s := s.windowOpens w
  let r := if atEpoch then ([], s) else s.calDue false (s.fld (ANG_IDLE_CTL w) ANG_IDLE_CTL_TILES)
  { r.2 with ang := { r.2.ang with opened := r.2.ang.opened ++ [(w, r.1)] } }.windowsWork

/-- A test step that needs an open window over its tile ends with it (R663). -/
def State.tstClose (s : State) : State := s.tstAside fun c i => c == 1 && !s.openOver (i / 64)

/-- Windows open or close as the fraction lies at the end of an application (R703). -/
def State.windowsNow (s : State) : State :=
  (List.range 16).foldl (fun s w =>
    let inn := s.windowHolds w s.angle
    let was := s.ang.windows.contains w
    if inn && !was then s.windowOpening w true else if !inn && was then (s.windowCloses w).tstClose else s) s

/-- A tile goes out of service (R525): its outputs go safe, as by a SAFE operation, so LCAUSE reads 1; no list of causes names
retirement: DESIGN CHOICE (log entry 97). -/
def State.tileRetire (s : State) (t : Nat) : State :=
  let s := s.setF LEAT_TRET_STAT LEAT_TRET_STAT_RETIRED (s.fld LEAT_TRET_STAT LEAT_TRET_STAT_RETIRED ||| 2 ^ t)
  let s := (List.range 32).foldl (fun s k => (s.latchDrv (32 * t + k) 1).latchCell (32 * t + k) 1) s
  s

/-- The source ports of a tile (Table 9.1). -/
def tilePorts (t : Nat) : List Nat :=
  (List.range 32).map (32 * t + ·) ++ (List.range 4).map (512 + 4 * t + ·) ++ (List.range 8).map (576 + 8 * t + ·)
    ++ (List.range 16).map (704 + 16 * t + ·) ++ (List.range 16).map (960 + 16 * t + ·)

/-- A tile returns to service (R346, R372). -/
def State.tileReturn (s : State) (t : Nat) : State :=
  let r := s.fld LEAT_TRET_STAT LEAT_TRET_STAT_RETIRED
  let s := s.setF LEAT_TRET_STAT LEAT_TRET_STAT_RETIRED (if bitOf r t then r - 2 ^ t else r)
  (tilePorts t).foldl (fun s p => s.releaseBorder p) (s.drvBorder t false)

/-- LEAT_TRET_STAT at the end of a tile command, source 0x7C9, and the Benmos command that asked for it. -/
def State.tretEnd (s : State) (r : Nat) : State :=
  let s := { s with leat := { s.leat with tret := none } }
  let s := (s.setF LEAT_TRET_STAT LEAT_TRET_STAT_PEND 0).setF LEAT_TRET_STAT LEAT_TRET_STAT_RESULT r
  (s.occur 0x7C9).hostEnd 3 4 (if r = 0 then 0 else 0x10) r

/-- The tile command that waited for an epoch is applied (R525). -/
def State.tretEpoch (s : State) : State :=
  match s.leat.tret with
  | none => s
  | some x => (if x.back then s.tileReturn x.tile else s.tileRetire x.tile).tretEnd 0

/-- ANG_EPOCH_STAT.STATE. -/
def State.epState (s : State) : Nat := s.fld ANG_EPOCH_STAT ANG_EPOCH_STAT_STATE
/-- Setting it; the answer to an ARM that waits has come (R155, R197); becoming IDLE or FENCED ends waits (R155) and the
Benmos EPOCH_REQ (R568). -/
def State.setEpState (s : State) (x : Nat) : State :=
  let s := (s.setF ANG_EPOCH_STAT ANG_EPOCH_STAT_STATE x).armWake
  if x = 0 ∨ x = 5 then
    let r := s.fld ANG_EPOCH_STAT ANG_EPOCH_STAT_RESULT
    s.epWake.hostEnd 1 4 (if r = 0 then 0 else 0x10) r
  else s
/-- ANG_EPOCH_STAT.RESULT. -/
def State.setEpResult (s : State) (r : Nat) : State := s.setF ANG_EPOCH_STAT ANG_EPOCH_STAT_RESULT r
/-- Where STATE goes when a request is refused or abandoned: IDLE, or FENCED while the fence is that of R94. -/
def State.epIdle (s : State) : State :=
  s.setEpState (if s.fenced && s.fld ANG_FENCE ANG_FENCE_CAUSE == 1 then 5 else 0)

/-! ### The headwater (R87-R91, R95) -/

/-- The copies of a decision still to be sent go out. -/
def State.sendDecision (s : State) (h : EpHead) (n : Nat) : State :=
  match h.decided with
  | none => s
  | some (c, st) =>
    (List.range n).foldl (fun s _ =>
      s.chainSend .epoDec toAll ([h.n.toNat, c.toNat, st] ++ (h.join.filter fun d => h.armed.contains d))) s

/-- The participant's own shadows are discarded and it returns to IDLE with the status (R92), whether it was ARMED or had
refused. -/
def State.epAbandon (s : State) (st : Nat) : State :=
  let s := { s with
    staged := [], cmpdStaged := [], ep := { s.ep with part := none, stagedPrimary := false, refused := none } }
  ((s.setF ANG_STATUS ANG_STATUS_PSTG 0).setEpResult st).epIdle

/-- The headwater decides (R91): the first copy goes out, and its own part follows the decision. -/
def State.epDecide (s : State) (h : EpHead) (commit : Bool) (st : Nat) : State :=
  let rep := s.fld ANG_EPOCH_CTL ANG_EPOCH_CTL_REPEAT
  let h := { h with decided := some (commit, st), copies := rep - 1 }
  let s := ({ s with ep := { s.ep with head := some h } }.sendDecision h 1)
  let s := if h.requester ≠ s.dev then s.chainSend .epoRes h.requester [h.n.toNat, st] else s
  if commit then
    match s.ep.part with
    | some p => { s with ep := { s.ep with part := some { p with commit := true } } }.setEpState 3
    | none => s
  else s.epAbandon st

/-- Is an epoch in progress in the chain (R87)? -/
def State.epBusy (s : State) : Bool :=
  (match s.ep.head with | some h => h.decided.isNone | none => false) || s.ep.part.isSome || s.epState == 4

/-- A refusal is answered to the requester (R88, R95). -/
def State.epRefuse (s : State) (dev st : Nat) : State :=
  if dev = s.dev then
    let s := s.setEpResult st
    if s.epState = 1 then s.epIdle else s
  else s.chainSend .epoRes dev [(s.gen + 1).toNat, st]

/-- A CANCEL that is ignored (R95). -/
def State.epIgnored (s : State) (dev : Nat) : State :=
  if dev = s.dev then s.flag ANG_EPOCH_STAT ANG_EPOCH_STAT_CMDREJ else s.chainSend .epoRes dev [0, 0, 1]

/-- A participant makes its check and is ARMED, or refuses (R90, R515, R516): the answer, if it gives one. -/
def State.epArm (s : State) (n : Word) (e : Stamp) (role : Nat) : Option (Bool × Nat) × State :=
  let (st, s) := s.epCheck n e
  if st = 0 then
    let same := match s.ep.part with | some p => p.n == n && p.e == e | none => false
    (if role = 2 then none else some (true, 0),
      if same then s
      else { s with ep := { s.ep with part := some ⟨n, e, false, role⟩, refused := none } }.setEpState 2)
  else if role = 2 then (none, s.goStale 1)
  else (some (false, st), { s with ep := { s.ep with refused := some n } })

/-- A request has reached the headwater (R87, R88, R95). -/
def State.headRequest (s : State) (dev : Nat) (e : Stamp) (cancel : Bool) : State :=
  if cancel then
    match s.ep.head with
    | some h => if h.requester = dev ∧ h.decided.isNone then s.epDecide h false 0x02 else s.epIgnored dev
    | none => s.epIgnored dev
  else
    let ahead := (e - s.angle).toNat
    if s.epBusy then s.epRefuse dev 0x10
    else if Stamp.beyond e s.angle then s.epRefuse dev 0x12
    else if ahead < s.fld ANG_EPOCH_LEAD ANG_EPOCH_LEAD_LEAD ∨ 2 ^ 47 ≤ ahead then s.epRefuse dev 0x11
    else if !s.inFullIdle e then s.epRefuse dev 0x13
    else
      let s := match s.ep.head with | some h => s.sendDecision h h.copies | none => s
      let n := s.gen + 1
      let parts := if s.mstate = mAlone then [s.dev] else (List.range 512).filter s.isMember
      let q := s.leat.queue.take 8
      let join := (q.filter (·.1)).map (·.2)
      let leave := (q.filter (!·.1)).map (·.2)
      let h : EpHead := ⟨dev, n, e, parts, join, leave, [], [], none, 0⟩
      let s := { s with ep := { s.ep with head := some h } }
      let s := s.chainSend .epoArm toAll ([n.toNat, e.toNat] ++ join.map (· + 512) ++ leave)
      match s.epArm n e (if leave.contains s.dev then 3 else 0) with
      | (some (true, _), s) => { s with ep := { s.ep with head := some { h with armed := [s.dev] } } }
      | (some (false, st), s) =>
        (s.put ANG_EPOCH_MISS (BitVec.ofNat 32 (2 ^ 31 + s.dev))).epDecide h false st
      | (none, s) => s

/-- A request is made on this device (R87): by CMD of ANG_EPOCH_CTL, by ARM or EPCAN, or by Benmos. -/
def State.epRequest (s : State) (e : Stamp) (cancel : Bool) : State :=
  let st := s.epState
  let s := if !cancel && (st == 0 || st == 5) then s.setF ANG_EPOCH_STAT ANG_EPOCH_STAT_STATE 1 else s
  if s.isHead then s.headRequest s.dev e cancel
  else s.chainSend .epoReq s.headIdx [e.toNat, s.dev, cancel.toNat]

/-- The stamp E in ANG_EPOCH_E. -/
def State.epStamp (s : State) : Stamp :=
  BitVec.ofNat 48 (s.fld ANG_EPOCH_E_HI ANG_EPOCH_E_HI_CYCLE * 2 ^ 32 + (s.reg ANG_EPOCH_E_LO).toNat)

/-- APPLY_NOW (R96): the first status that refuses it, or the shadows take effect. -/
def State.applyNow (s : State) : State :=
  if s.outputsReleased then s.setEpResult 0x16
  else if 1 ≤ s.epState ∧ s.epState ≤ 4 then s.setEpResult 0x10
  else match s.stageOk with
    | (false, s) => s.setEpResult 0x14
    | (true, s) =>
      let s := s.applyShadows
      ((s.put ANG_CFG_GEN (s.gen + 1)).setEpResult 0).windowsNow

/-- A write of ANG_EPOCH_CTL. -/
def State.epCtlWrite (s : State) (q : Req) (v : Word) : State :=
  let s := s.regWrite q ANG_EPOCH_CTL v
  if reservedEncoding (fieldsAt ANG_EPOCH_CTL) v then s
  else match fieldGet ANG_EPOCH_CTL_CMD v with
    | 1 => s.epRequest s.epStamp false
    | 2 => s.epRequest s.epStamp true
    | 3 => s.applyNow
    | _ => s

/-- The word that gives a command and keeps REPEAT. -/
def State.epCtlWord (s : State) (cmd : Nat) : Word := fieldPut ANG_EPOCH_CTL_CMD (s.reg ANG_EPOCH_CTL) cmd

/-- EPOCH_ARM_REQUEST (R87). -/
def execEpochArmRequest (q : Req) (s : State) : Host.Outcome State Fault Refusal :=
  .next (s.guardWrite q ANG_EPOCH_CTL fun s => s.epCtlWrite q (s.epCtlWord 1))
/-- EPOCH_CANCEL_REQUEST (R95). -/
def execEpochCancelRequest (q : Req) (s : State) : Host.Outcome State Fault Refusal :=
  .next (s.guardWrite q ANG_EPOCH_CTL fun s => s.epCtlWrite q (s.epCtlWord 2))
/-- EPOCH_APPLY_NOW (R96). -/
def execEpochApplyNow (q : Req) (s : State) : Host.Outcome State Fault Refusal :=
  .next (s.guardWrite q ANG_EPOCH_CTL fun s => s.epCtlWrite q (s.epCtlWord 3))

/-- EPO_REQ (R88). -/
def execEpoReq (rx : Rx) (dev : Fin 512) (e : Stamp) (cancel : Bool) (s : State) : Host.Outcome State Fault Refusal :=
  .next (s.ctrl rx fun s => if s.isHead then s.headRequest dev.val e cancel else s)

/-- This device's part in an epoch that lists devices (R89, R515, R516, R523, R538); none where it takes no part. -/
def State.epRole (s : State) (l : EpochLists) : Option Nat :=
  let me (x : List (Fin 512)) : Bool := x.any fun d => d.val == s.dev
  if s.mstate = mMember then some (if me l.leave then 3 else 0)
  else if s.mstate = mReady then some (if me l.join then 1 else 2)
  else none

/-- EPO_ARM (R90): each ARM is checked and answered; the answer goes, to the headwater or, from a standby, to its primary (R538). -/
def execEpoArm (rx : Rx) (n : Word) (e : Stamp) (lists : EpochLists) (s : State) : Host.Outcome State Fault Refusal :=
  .next (s.ctrl rx fun s =>
    if s.isHead then s
    else match s.epRole lists with
      | none => s
      | some role =>
        let (r, s) := s.epArm n e role
        match r with
        | none => s
        | some (ok, st) =>
          if s.twinStandby then
            let s := s.partnerSend [9, n.toNat, ok.toNat]
            if ok then s else s.twinStale 5
          else s.chainSend .epoReply s.headIdx [n.toNat, s.dev, ok.toNat, st])

/-- EPO_REPLY (R91, R515). -/
def execEpoReply (rx : Rx) (dev : Fin 512) (n : Word) (armed : Bool) (status : Byte) (s : State) :
    Host.Outcome State Fault Refusal :=
  .next (s.ctrl rx fun s =>
    match s.ep.head with
    | none => s
    | some h =>
      let d := dev.val
      if h.n ≠ n ∨ h.decided.isSome ∨ !(h.parts.contains d || h.join.contains d) then s
      else if armed then
        { s with ep := { s.ep with
            head := some { h with armed := if h.armed.contains d then h.armed else h.armed ++ [d] } } }
      else if h.parts.contains d then
        (s.put ANG_EPOCH_MISS (BitVec.ofNat 32 (2 ^ 31 + d))).epDecide h false status.toNat
      else s)

/-- Has the active angle reached E less LEAD? -/
def State.leadReached (s : State) (e : Stamp) : Bool :=
  let x := e - BitVec.ofNat 48 (s.fld ANG_EPOCH_LEAD ANG_EPOCH_LEAD_LEAD)
  !Stamp.before s.angle x

/-- EPOCH_DECIDE (R91). -/
def execEpochDecide (s : State) : Host.Outcome State Fault Refusal :=
  .next (match s.ep.head with
    | none => s
    | some h =>
      if h.decided.isSome || !s.leadReached h.e then s
      else match h.parts.find? fun d => !h.armed.contains d with
        | some d => (s.put ANG_EPOCH_MISS (BitVec.ofNat 32 (2 ^ 31 + d))).epDecide h false 0x01
        | none => if s.coasting then s.epDecide h false 0x03 else s.epDecide h true 0)

/-- EPO_DEC_RESEND (R91). -/
def execEpoDecResend (s : State) : Host.Outcome State Fault Refusal :=
  .next (match s.ep.head with
    | none => s
    | some h =>
      if h.decided.isNone ∨ h.copies = 0 then s
      else (s.sendDecision h 1 |> fun s =>
        { s with ep := { s.ep with head := some { h with copies := h.copies - 1 } } }))

/-- EPO_DEC (R91, R92, R515): the first copy decides; a JOIN device without its bit follows a COMMIT as READY. -/
def execEpoDec (rx : Rx) (n : Word) (commit : Bool) (status : Byte) (joined : List (Fin 512)) (s : State) :
    Host.Outcome State Fault Refusal :=
  .next (s.ctrl rx fun s =>
    match s.ep.part with
    | none => if !s.isHead && !commit && s.ep.refused == some n then s.epAbandon status.toNat else s
    | some p =>
      if s.isHead || p.n != n || p.commit then s
      else if commit then
        let role := if p.role = 1 ∧ !(joined.any fun d => d.val == s.dev) then 2 else p.role
        { s with ep := { s.ep with part := some { p with commit := true, role := role } } }.setEpState 3
      else s.epAbandon status.toNat)

/-- EPO_RES (R88, R95). -/
def execEpoRes (rx : Rx) (status : Byte) (ignored : Bool) (s : State) : Host.Outcome State Fault Refusal :=
  .next (s.ctrl rx fun s =>
    if ignored then s.flag ANG_EPOCH_STAT ANG_EPOCH_STAT_CMDREJ
    else
      let s := (s.setEpResult status.toNat).armWake
      if s.epState = 1 then s.epIdle else s)

/-- EPOCH_APPLY (R93): after COMMIT the forward high-water mark has reached E. -/
def execEpochApply (s : State) : Host.Outcome State Fault Refusal :=
  .next (match s.ep.part with
    | none => s
    | some p =>
      if !p.commit || s.epState == 4 || !Stamp.reachedBy p.e s.ang.hwm then s
      else s.applyEpoch.setEpState 4)

/-- What an epoch makes of the device itself (R515, R523). -/
def State.epRoleEnd (s : State) (role : Nat) : State :=
  match role with
  | 1 =>
    let s := if s.fenced then s.liftFence else s
    ((s.setMstate mMember).setMember s.dev true).outrel
  | 3 =>
    let s := ((s.latchDrvs 1).latchCells 1).holdAll 0
    (s.setMstate mLeaving).setMember s.dev false
  | _ => s

/-- What an epoch makes of the headwater's records and queue (R515, R523). -/
def State.epHeadEnd (s : State) : State :=
  match s.ep.head with
  | none => s
  | some h =>
    let ins := h.join.filter fun d => h.armed.contains d
    let s := ins.foldl (fun s d => s.announce d mMember) s
    let s := h.leave.foldl (fun s d => s.announce d mLeaving) s
    let q := s.leat.queue.filter fun x => !(if x.1 then ins.contains x.2 else h.leave.contains x.2)
    let s := if q.length = s.leat.queue.length then s else s.occur 0x7C8
    (s.setQueue q).sendDecision h h.copies |> fun s => { s with ep := { s.ep with head := none } }

/-- The events that fell due during an application are counted, angle triggers of urgent entries among them, and the
generation becomes the epoch's (R93). -/
def State.epCounted (s : State) (n : Word) : State :=
  (s.incBy ANG_EPOCH_DEFER_LO ((s.stq.filter fun o => s.due o.stamp o.qual).length + s.armsDue)).put ANG_CFG_GEN n

/-- A record of tiles that the epoch has brought up is cleared in a member or a device alone. -/
def State.tilesCaught (s : State) : State :=
  if s.fld LEAT_STALE LEAT_STALE_TILES ≠ 0 ∧ (s.mstate = mMember ∨ s.mstate = mAlone)
      ∧ s.fld LEAT_STALE LEAT_STALE_RESULT = 2 then
    s.setF LEAT_STALE LEAT_STALE_TILES 0 else s

/-- The application ends (R93): the generation becomes N, what waited goes on; the events that fell due during it are
counted, and EVENT_RELEASE and URGENT_ANGLE_TRIGGER release them from now on. -/
def State.epComplete (s : State) (p : EpPart) : State :=
  let s := s.epCounted p.n
  let s := { s with ep := { s.ep with part := none } }
  let s := (s.epRoleEnd p.role).epHeadEnd.tretEpoch.tilesCaught
  let s := (s.digEpoch p.n.toNat).twinEpoch
  let s := (s.calBoundary true 0xFFFF).windowsNow
  let s := (s.setEpResult 0).setEpState 0
  (s.ctxs.filter fun x => x.2.stall == .apply).foldl (fun s x => s.resumeCtx x.1) s

/-- EPOCH_NO_DECISION (R94, R516, R538): ARMED at E without a decision. -/
def execEpochNoDecision (s : State) : Host.Outcome State Fault Refusal :=
  .next (match s.ep.part with
    | none => s
    | some p =>
      if p.commit || !Stamp.reachedBy p.e s.ang.hwm then s
      else
        let s := { s with ep := { s.ep with part := none } }
        if 1 ≤ p.role ∧ p.role ≤ 2 then (s.setEpResult 0x20).epIdle.goStale 1
        else
          let s := (s.fence 1).setEpResult 0x20
          let s := s.setEpState 5
          if s.twinStandby then s.twinStale 5 else s)

/-- IDLE_WINDOW_OPEN (R703): the fraction lies in an enabled window that is closed; during an application the opening
is taken at its end. -/
def execIdleWindowOpen (w : Fin 16) (s : State) : Host.Outcome State Fault Refusal :=
  .next (if s.ang.windows.contains w.val || !s.windowHolds w.val s.angle || s.epState == 4 then s
    else s.windowOpening w.val false)

/-- IDLE_WINDOW_CLOSE (R703). -/
def execIdleWindowClose (w : Fin 16) (s : State) : Host.Outcome State Fault Refusal :=
  .next (if s.ang.windows.contains w.val && !s.windowHolds w.val s.angle then (s.windowCloses w.val).tstClose else s)

end Sys2Proof.Machine
end

