-- ==== Sys2Proof/Machine/Inst.lean ====
section
/-! DEFINITION. Control of instance contexts (section 12.2) and the reset of an instance (section 12.7, R571). -/

namespace Sys2Proof.Machine

/-! ### The Benmos side of a reset (R557, R571) -/

/-- Where slot k of a target's mailbox lies in the per-device space (R569); target 256 is the supervisor. -/
def State.slotAddr (s : State) (t k : Nat) : Nat :=
  if t < 256 then 0x6000000000 + t / 16 * 0x400000 + s.fld (HOST_QP_MBX t) HOST_QP_MBX_OFF * 1024 + k * 128
  else 0x6000000000 + s.fld HOST_SV_MBX HOST_SV_MBX_TILE * 0x400000 + s.fld HOST_SV_MBX HOST_SV_MBX_OFF * 1024 + k * 128

/-- The target of a command (TGT). -/
def HCmd.tgt (c : HCmd) : Nat := c.at 6 2 % 512

/-- The commands a test selects end with INST_RESET; no completion is written for them (R571). One whose first line is
not durable yet is never executed: its second line follows the first. A command already executing goes on; a posted one
is withdrawn and its slot is FREE. -/
def State.dropCmds (s : State) (p : HCmd → Bool) : State :=
  (s.host.cmds.filter p).foldl (fun s c =>
    match c.phase with
    | .first | .accepted =>
      (s.mapCmd (· == c) fun x => some { x with dropped := true, phase := .accepted }).endCmd { c with dropped := true } 0x0C 0
    | .posted k =>
      let s := (s.memWrite 0x101 (s.slotAddr c.tgt k + 64) (bytesOf 4 0)).2
      (s.mapCmd (· == c) fun x => some { x with dropped := true }).endCmd { c with dropped := true } 0x0C 0
    | .forwarded | .ready => s.mapCmd (· == c) fun _ => none
    | .running | .ended _ _ => s.mapCmd (· == c) fun x => some { x with dropped := true }) s

/-- The Benmos commands of an instance's reset: those of its queue pair, and those posted to its mailbox. -/
def State.hostReset (s : State) (i : Nat) : State :=
  s.dropCmds fun c => (c.origin.isNone && c.qp == i) ||
    (c.tgt == i && c.cls == 2 && (match c.phase with | .posted _ => true | _ => false))

/-- A queue pair is disabled (R557). -/
def State.qpDisable (s : State) (q : Nat) : State :=
  let s := s.setF (QP_CFG q) QP_CFG_EN 0
  let s := if q < 256 then s.hostReset q else s.dropCmds fun c => c.origin.isNone && c.qp == q
  s.setQp q Qp.reset

/-! ### Reset of an instance (R449-R452, Table 12.6) -/

/-- Was the operation issued by an instance of this device? -/
def isInst (q : Req) (i : Nat) : Bool := match q with | .inst k => k.val == i | _ => false

/-- Stamped operations of the instance are discarded and counted; starts also at their pulse generators. -/
def State.resetOps (s : State) (i : Nat) : State :=
  let mine := s.stq.filter fun o => isInst o.issuer i
  let held := s.pwr.held.filter fun o => o.stamped && isInst o.op.issuer i
  let all := mine ++ held.map (·.op)
  let s := { s with
    stq := s.stq.filter fun o => !isInst o.issuer i
    pwr := { s.pwr with held := s.pwr.held.filter fun o => !isInst o.op.issuer i } }
  let s := s.incBy (INST_RDISC_LO i) all.length
  all.foldl (fun s o =>
    match o.kind, o.op with
    | 3, .ucmd 4 _ => s.inc (DRV_DISC_LO o.index)
    | _, _ => s) s

/-- The routes and ports of the instance (R362). -/
def State.resetPorts (s : State) (i : Nat) : State :=
  ((List.range 1408).filter fun p => s.ownsPort i p).foldl (fun s p =>
    let s := s.put (CXB_OWN p) (resetWord (CXB_OWN p))
    if hasDest p then
      { s.setF (CXB_ROUTE p) CXB_ROUTE_SRC 0x7FF with staged := tblDrop s.staged (CXB_ROUTE p) }
    else s) s

/-- Does an open request of the chain belong to a context? -/
def Waiter.isCtx (w : Waiter) (c : Nat) : Bool :=
  match w with
  | .load k | .store k _ | .unit k _ _ | .urd k => k == c
  | .burst _ | .benmos _ _ => false

/-- RESET (R449-R452); while RESET_BUSY is 1 it has no further effect. -/
def State.instReset (s : State) (i : Nat) : State :=
  if s.bit (INST_STATE i) INST_STATE_RESET_BUSY then s
  else
    let g := (s.genOf i + 1) % 256
    let sent := (s.ctx i).sentTo
    let s := ((s.setF (INST_STATE i) INST_STATE_GEN g).flag (INST_STATE i) INST_STATE_RESET_BUSY).setCtxState i ctxStopped
    let s := s.endWait i
    let x := s.ctx i
    let s := s.setCtx i { x with
      stores := [], farOut := [], postFail := none, unitOut := 0, tx := [], rx := [], sentTo := [], holdReq := none }
    let s := sent.foldl (fun s d => s.chainSend .gnot d [i, g]) s
    let s := { s with leat := { s.leat with reqs := s.leat.reqs.filter fun r => !r.who.isCtx i } }
    let s := s.resetOps i
    let s := (List.range 16).foldl (fun s e =>
      s.setDma e { s.dma e with queue := (s.dma e).queue.filter fun d => d.sub != i }) s
    let s := (List.range 256).foldl (fun s r =>
      if s.rgState r = rgLoading ∧ isInst (s.region r).issuer i then s.setRegion r { s.region r with issuerReset := true }
      else s) s
    let s := (s.cells.filter fun x => match x.2.loading with | some (_, q) => q == i | none => false).foldl
      (fun s x => s.setCell x.1 { s.cell x.1 with loading := none }) s
    let s := (s.resetPorts i).put (INST_HELD i) 0
    (s.irqReset i).hostReset i

/-- Instances start only on a device whose work is accepted (Table 14.8, R519). -/
def State.worksHere (s : State) : Bool := s.mstate == mAlone || s.mstate == mMember

/-- A command on an instance context (Table 12.1). START begins with a context that holds nothing: its stream FIFOs too are
empty, though the list of R102 does not name them: DESIGN CHOICE (log entry 92), words that came while it was STOPPED are
dropped. -/
def State.instCmd (s : State) (i cmd : Nat) : State :=
  let st := s.ctxState i
  let bad := s.flag (INST_STATE i) INST_STATE_BADOP
  match cmd with
  | 1 =>
    if st ≠ ctxStopped ∨ !s.bit (INST_CFG i) INST_CFG_EN ∨ s.bit (INST_STATE i) INST_STATE_RESET_BUSY ∨ !s.worksHere then
      bad
    else (s.setCtx i { Ctx.reset with pc := s.reg (INST_PC i) }).setCtxState i ctxRun
  | 2 => if st = ctxStopped then bad else if st = ctxHeld then s else s.holdCtx i 0
  | 3 => if st ≠ ctxHeld ∨ s.fenced then bad else s.setCtxState i ctxRun
  | 4 => s.instReset i
  | _ => s

/-- A write of INST_CTL of an instance. -/
def State.instCtlWrite (s : State) (q : Req) (i : Nat) (v : Word) : State :=
  let s := s.regWrite q (INST_CTL i) v
  if reservedEncoding (fieldsAt (INST_CTL i)) v then s else s.instCmd i (fieldGet INST_CTL_CMD v)

/-- The bus address of INST_CTL in the requester's window. -/
def instCtlBus : Nat := 0xF0060100

/-- INST_START (R433). -/
def execInstStart (q : Req) (i : Fin 256) (s : State) : Host.Outcome State Fault Refusal :=
  .next (s.guardWrite q instCtlBus fun s => s.instCtlWrite q i.val 1)
/-- INST_HOLD (R433). -/
def execInstHold (q : Req) (i : Fin 256) (s : State) : Host.Outcome State Fault Refusal :=
  .next (s.guardWrite q instCtlBus fun s => s.instCtlWrite q i.val 2)
/-- INST_RESUME (R433, R103). -/
def execInstResume (q : Req) (i : Fin 256) (s : State) : Host.Outcome State Fault Refusal :=
  .next (s.guardWrite q instCtlBus fun s => s.instCtlWrite q i.val 3)
/-- INST_RESET (R449). -/
def execInstReset (q : Req) (i : Fin 256) (s : State) : Host.Outcome State Fault Refusal :=
  .next (s.guardWrite q instCtlBus fun s => s.instCtlWrite q i.val 4)

/-- FUNCTION_LEVEL_RESET (R449, R557): function 0 is the PF, function i + 1 the one of instance i. -/
def execFunctionLevelReset (fn : Fin 257) (s : State) : Host.Outcome State Fault Refusal :=
  .next (if fn.val = 0 then s.qpDisable 256 else (s.instReset (fn.val - 1)).qpDisable (fn.val - 1))

/-- Does an engine still hold a request of the instance's old generations (R450)? -/
def State.undrained (s : State) (i : Nat) : Bool :=
  (List.range 16).any (fun e =>
    match (s.dma e).run with
    | some r => r.sub == i && r.gen != s.genOf i
    | none => false)
    || (List.range 256).any fun r => s.rgState r == rgLoading && (s.region r).issuerReset && isInst (s.region r).issuer i

/-- RESET_DRAINED (R450). -/
def execResetDrained (i : Fin 256) (s : State) : Host.Outcome State Fault Refusal :=
  .next (if s.bit (INST_STATE i.val) INST_STATE_RESET_BUSY && !s.undrained i.val then
      s.setF (INST_STATE i.val) INST_STATE_RESET_BUSY 0
    else s)

end Sys2Proof.Machine
end

