-- ==== Sys2Proof/Machine/Wake.lean ====
section
/-! DEFINITION. The wake scheduler's queue (R649-R652). -/

namespace Sys2Proof.Machine

/-- The slew of a wake item, 0.01 A/µs (Table 19.3). -/
def wakeSlew (rank : Nat) : Nat :=
  match rank with | 1 => 2 | 2 => 50 | 3 => 40 | 4 => 10 | 5 => 5 | _ => 10

/-- The budget. -/
def State.slewBudget (s : State) : Nat := s.fld PWR_WAKE_CFG PWR_WAKE_CFG_SLEW

/-- Does an item start within the budget beside those ramping (R650)? One whose slew alone exceeds it ramps at the
budget. -/
def State.wakeFits (s : State) (rank : Nat) : Bool :=
  let used := (s.pwr.ramping.map fun x => min (wakeSlew x.1) s.slewBudget).sum
  decide (used + min (wakeSlew rank) s.slewBudget ≤ s.slewBudget)

/-- PWR_WAKE_STAT and PWR_STATUS.WQ follow the queue. -/
def State.wakeShow (s : State) : State :=
  ((s.setF PWR_WAKE_STAT PWR_WAKE_STAT_QLEN s.pwr.waiting.length).setF
    PWR_WAKE_STAT PWR_WAKE_STAT_BUSY (!s.pwr.ramping.isEmpty).toNat).setF
    PWR_STATUS PWR_STATUS_WQ (!(s.pwr.waiting.isEmpty && s.pwr.ramping.isEmpty)).toNat

/-- An item takes its place: rank order, then the order of the table. -/
def wakeInsert (x : Nat × Nat) : List (Nat × Nat) → List (Nat × Nat)
  | [] => [x]
  | y :: r => if x.1 < y.1 ∨ (x.1 = y.1 ∧ x.2 < y.2) then x :: y :: r else y :: wakeInsert x r

/-- An item is queued (R649, R650): it merges with one waiting or ramping; one that does not start at once counts. -/
def State.wakeAdd (s : State) (rank k : Nat) : State :=
  if s.pwr.waiting.contains (rank, k) || s.pwr.ramping.contains (rank, k) then s
  else
    let l := wakeInsert (rank, k) s.pwr.waiting
    let now := l.head? == some (rank, k) && s.wakeFits rank && !s.bit PWR_STATUS PWR_STATUS_PFL
    let s := { s with pwr := { s.pwr with waiting := l } }
    (if now then s else s.inc PWR_WAKE_WAIT_LO).wakeShow

end Sys2Proof.Machine
end

