-- ==== Sys2Proof/Machine/Leat.lean ====
section
/-! DEFINITION. The chain (chapter 14): angle distribution, heartbeats and membership, ports and training, wraps,
remote-route words, admission, catch-up, tile retirement. -/

namespace Sys2Proof.Machine

/-! ### Angle distribution (R506-R509) -/

/-- The headwater's angle now, from a message of age `age` ns (R506). -/
def angAhead (m : AngMsg) (age : Nat) : BitVec 64 :=
  m.angle + BitVec.ofInt 64 (m.vel * age + quot (m.acc * age * age) 2)

/-- The active angle follows a message (R506, R69): the prediction is the loop's angle, and what is shown moves
towards it; the first one sets both. The regime follows the direction of travel; without velocity the angle is followed
both ways, so that a member goes with the headwater in dither and at standstill (R52; log entry 33). -/
def Loop.distribute (l : Loop) (m : AngMsg) (age : Nat) : Loop :=
  let p := angAhead m age
  { l with
    theta := p
    vis := if l.acquired && m.vel != 0 then l.vis else p
    omega := m.vel + m.acc * age
    alpha := m.acc
    acquired := true
    cap := none
    clamp := false
    regime := if m.vel > 0 then .forward else if m.vel < 0 then .reverse else .dither }

/-- The age of a message on the angle path: its one-way time without t_recv (R502, R506). -/
def State.angAge (s : State) : Nat := s.fld (LEAT_PATH s.headIdx) LEAT_PATH_ONEWAY - 120

/-- A message on the angle path is taken up. -/
def State.angTake (s : State) (m : AngMsg) : State :=
  let age := s.angAge
  let l := s.ang.act.distribute m age
  let s := { s with
    ang := { s.ang with act := l, coastCycles := m.left.toNat }
    leat := { s.leat with angSeen := [] } }
  let s := s.setF ANG_STATUS ANG_STATUS_COAST m.coast.toNat
  let d := m.time + BitVec.ofNat 64 age - s.ang.time
  let s := (s.put LEAT_TOFS_LO (d.extractLsb' 0 32)).put LEAT_TOFS_HI (d.extractLsb' 32 32)
  (s.setF LEAT_STATUS LEAT_STATUS_DIST_LOST 0).actShow

/-- ANG (R506-R508): a device in a chain follows the copy on its angle path; another copy is noted. -/
def execAng (rx : Rx) (m : AngMsg) (s : State) : Host.Outcome State Fault Refusal :=
  .next (s.ctrl rx fun s =>
    if s.isHead then s
    else if rx.port.val = s.leat.angPort then s.angTake m
    else { s with leat := { s.leat with
      angSeen := if s.leat.angSeen.contains rx.port.val then s.leat.angSeen else rx.port.val :: s.leat.angSeen } })

/-- ANG_SEND (R487): every fourth frame of a headwater. -/
def execAngSend (s : State) : Host.Outcome State Fault Refusal :=
  .next (if s.bit ANG_STATUS ANG_STATUS_HEADWATER && s.anyUp then
      let a := s.ang.act
      let n := s.leat.angCount + 1
      ({ s with leat := { s.leat with angCount := n } }).chainSend .ang toAll
        [a.vis.toNat, wrapTo 64 a.omega, wrapTo 64 a.alpha, s.coasting.toNat, s.ang.coastCycles,
          s.fld (ANG_SRC_STAT s.activeSrc) ANG_SRC_STAT_CAUSE, s.gen.toNat, s.ang.time.toNat, n % 2 ^ 32]
    else s)

/-- DIST_TIMEOUT (R508): no ANG on the angle path for 1 µs. -/
def execDistTimeout (s : State) : Host.Outcome State Fault Refusal :=
  .next (if s.isHead || s.bit LEAT_STATUS LEAT_STATUS_DIST_LOST then s
    else match if s.fld LEAT_STATUS LEAT_STATUS_TOPO = 2 then s.leat.angSeen else [] with
      | p :: _ => { s with leat := { s.leat with angPort := p, angSeen := [] } }
      | [] =>
        let s := s.flag LEAT_STATUS LEAT_STATUS_DIST_LOST
        if s.fld LEAT_CFG LEAT_CFG_DIST_HOLD = 0 then s.fence 0x04 else s)

/-- DIST_HOLD_EXPIRE (R508); a device that has lost every port is then alone. -/
def execDistHoldExpire (s : State) : Host.Outcome State Fault Refusal :=
  .next (if s.bit LEAT_STATUS LEAT_STATUS_DIST_LOST then
      let s := s.fence 0x04
      if s.anyUp then s else s.setMstate mAlone
    else s)

/-! ### Heartbeats and membership (R513, R518) -/

/-- HB (R513): the headwater records it; a device that is behind learns the reference from the headwater's. -/
def execHb (rx : Rx) (dev : Fin 512) (st : Fin 8) (gen : Word) (jseq : BitVec 64) (role : Fin 3) (s : State) :
    Host.Outcome State Fault Refusal :=
  .next (s.ctrl rx fun s =>
    let d := dev.val
    if s.bit ANG_STATUS ANG_STATUS_HEADWATER then
      if role.val = 2 then s
      else
        let gone := s.fld (LEAT_MREC d) LEAT_MREC_STATE == mGone && st.val == mMember
        let s := if gone then s else s.setRecState d st.val
        let s := ((s.put (LEAT_MREC_GEN d) gen).put (LEAT_MREC_JSEQ_LO d) (jseq.extractLsb' 0 32)).put
          (LEAT_MREC_JSEQ_HI d) (jseq.extractLsb' 32 32)
        if st.val = mReady ∧ s.leat.known.contains d ∧ !s.leat.queue.contains (true, d) ∧ s.leat.queue.length < 8 then
          s.setQueue (s.leat.queue ++ [(true, d)])
        else s
    else if d = s.headIdx then
      if s.mstate = mMember then (if s.fenced && gen != s.gen then s.goStale 1 |>.put LEAT_REF_GEN gen else s)
      else s.put LEAT_REF_GEN gen
    else s)

/-- HB_SEND (R513): to the headwater, or from it to all. -/
def execHbSend (s : State) : Host.Outcome State Fault Refusal :=
  .next (if s.mstate = mAlone then s
    else s.chainSend .hb (if s.bit ANG_STATUS ANG_STATUS_HEADWATER then toAll else s.headIdx)
      [s.dev, s.mstate, s.gen.toNat, s.jseq, s.fld TWIN_STATUS TWIN_STATUS_ROLE])

/-- MEMB (R513). -/
def execMemb (rx : Rx) (dev : Fin 512) (st : Fin 8) (mapgen : BitVec 16) (paths : List PathRec) (s : State) :
    Host.Outcome State Fault Refusal :=
  .next (s.ctrl rx fun s =>
    if s.bit ANG_STATUS ANG_STATUS_HEADWATER then
      -- a new primary of a twinned index (R545): the map changes and all are told
      (s.announce dev.val st.val).setPaths paths
    else
      let was := s
      let s := { s with leat := { s.leat with states := tblSet (fun _ => 0) s.leat.states dev.val st.val } }
      let s := (s.setMember dev.val (st.val == mMember)).setF LEAT_MAP LEAT_MAP_MAPGEN mapgen.toNat
      ((s.occur 0x7C4).rrCheck was).setPaths paths)

/-- MEMBER_HB_TIMEOUT (R513, R524): the headwater declares a member GONE. -/
def execMemberHbTimeout (dev : Fin 512) (s : State) : Host.Outcome State Fault Refusal :=
  .next (if s.bit ANG_STATUS ANG_STATUS_HEADWATER && s.isMember dev.val && dev.val != s.dev then s.announce dev.val mGone
    else s)

/-- WRAP (R504): paths go round the break, or back. -/
def execWrap (rx : Rx) (_dev : Fin 512) (_port : Fin 4) (_on : Bool) (paths : List PathRec) (s : State) :
    Host.Outcome State Fault Refusal :=
  .next (s.ctrl rx fun s => s.setPaths paths)

/-- GNOT (R451): queued operations of old generations of another device's instance are discarded. A remote issuer's
generation is kept with its instance and device. -/
def execGnot (rx : Rx) (dev : Fin 512) (inst : Fin 256) (gen : Byte) (s : State) : Host.Outcome State Fault Refusal :=
  .next (s.ctrl rx fun s =>
    let old (o : StOp) : Bool :=
      o.issuer == .remote && o.gen / 256 == inst.val + 257 * dev.val && o.gen % 256 != gen.toNat
    { (s.discardOps old).2 with
      pwr := { s.pwr with held := s.pwr.held.filter fun h => !old h.op }
      leat := { s.leat with
        uops := s.leat.uops.filter fun h => !(h.hd.src == dev && h.hd.inst == some inst && h.hd.gen != gen) } })

/-! ### Remote-route words and pass-through (R486, R501) -/

/-- Words as items: a word with STAMP takes the two after it (R352-R355). `n` bounds the items. -/
def itemsIn : Nat → List Word → List CWord
  | 0, _ => []
  | n + 1, l =>
    match l with
    | [] => []
    | w :: r =>
      if wordFlag w 0 then
        match r with
        | a :: b :: r' => ⟨w, some (a, b)⟩ :: itemsIn n r'
        | _ => []
      else ⟨w, none⟩ :: itemsIn n r

/-- Words of a flit as items. -/
def itemsOf (l : List Word) : List CWord := itemsIn l.length l

/-- A primary in MIRROR forwards what it consumes (R535). -/
def State.mirror (s : State) (l : List Nat) : State :=
  if s.twinPrimary && (s.twinState == twMirror || s.twin.mirroring) then (s.partnerSend (8 :: l)).mirrorLimit else s

/-- STRM_FLIT (R363, R486): words for a receiving slot from the slot that sent them. -/
def execStrmFlit (rx : Rx) (r : Fin 64) (dev : Fin 512) (slot : Fin 64) (ws : List Word) (s : State) :
    Host.Outcome State Fault Refusal :=
  .next (s.packet rx fun s =>
    let a := CXB_RR_CFG r.val
    if !s.bit a CXB_RR_CFG_EN ∨ s.fld a CXB_RR_CFG_PEER_DEV ≠ dev.val ∨ s.fld a CXB_RR_CFG_PEER_SLOT ≠ slot.val then
      ((s.inc (CXB_RR_DROP_LO r.val)).incBy (CXB_RR_DROP_LO r.val) (ws.length - 1)).flag
        (CXB_RR_STAT r.val) CXB_RR_STAT_MISMATCH
    else
      let q := tblGet (fun _ => []) s.cxb.playout r.val ++ itemsOf ws
      let s := { s with cxb := { s.cxb with playout := tblSet (fun _ => []) s.cxb.playout r.val q } }
      (s.setF (CXB_RR_STAT r.val) CXB_RR_STAT_BORDER 0).mirror ([4, r.val] ++ ws.map (·.toNat)))

/-- PASS_THROUGH (R486, R491, R501): class 0 C, 1 S, 2 B; a STRM flit that fails its check is lost and counted at its
port, a class C or S flit that cannot leave in time at the output. -/
def execPassThrough (inp out : Fin 4) (cls : Fin 3) (dst : Fin 512) (ok fits : Bool) (body : List Nat) (s : State) :
    Host.Outcome State Fault Refusal :=
  .next (if cls.val = 1 ∧ !ok then s.inc (LP_CRC_LO inp.val)
    else if cls.val < 2 ∧ !fits then s.inc (LP_PTDROP_LO out.val)
    else s.send (.leat .pass dst.val (out.val :: cls.val :: body)))

/-! ### Ports and training (R493-R497) -/

/-- LEAT_TRAIN_ATTEMPT (R493). -/
def execLeatTrainAttempt (p : Fin 4) (s : State) : Host.Outcome State Fault Refusal :=
  .next (if bitOf (s.fld LEAT_CFG LEAT_CFG_PEN) p.val && s.fld (LP_STATUS p.val) LP_STATUS_STATE == 0
      && !s.pwr.waiting.contains (6, p.val) && !s.pwr.ramping.contains (6, p.val) then
      s.setF (LP_STATUS p.val) LP_STATUS_STATE 1
    else s)

/-- TRAIN_STEP_TIMEOUT (R493). -/
def execTrainStepTimeout (p : Fin 4) (s : State) : Host.Outcome State Fault Refusal :=
  .next (let st := s.fld (LP_STATUS p.val) LP_STATUS_STATE
    if 1 ≤ st ∧ st ≤ 4 then (s.setF (LP_STATUS p.val) LP_STATUS_STATE 0).inc (LP_TRAIN_LO p.val) else s)

/-- What enumeration gives (R500, R510, R512, R518); the headwater is MEMBER once its supervisor core runs (R609). -/
def State.enumerated (s : State) (e : EnumRec) : State :=
  let s := (s.setF LEAT_ID LEAT_ID_DEV e.dev.val).setF LEAT_ID LEAT_ID_HWIDX e.head.val
  let s := s.setF LEAT_STATUS LEAT_STATUS_TOPO e.topo.val
  let s := if e.granted then s else s.flag LEAT_STATUS LEAT_STATUS_IDXCONF
  let head := s.bit LEAT_CFG LEAT_CFG_HWSEL
  let s := (s.setF LEAT_STATUS LEAT_STATUS_HEADWATER head.toNat).setF ANG_STATUS ANG_STATUS_HEADWATER head.toNat
  let s := e.members.foldl (fun s d => s.setMember d.val true) s
  let s := s.setPaths e.paths
  if head then
    if s.mstate = mMember ∨ s.fld BOOT_STATUS BOOT_STATUS_STATE ≠ 4 then s
    else (s.setMstate mMember).announce s.dev mMember
  else if s.mstate ≠ mAlone ∧ !(s.mstate = mMember ∧ !s.isMember s.dev) then s
  else
    let s := { s with leat := { s.leat with recorded := e.jseq.isSome } }
    let j : Nat := match e.jseq with | some x => x.toNat | none => 0
    let s := (s.put LEAT_REF_GEN e.gen).put LEAT_REF_JSEQ_LO (BitVec.ofNat 32 j)
    let s := (s.put LEAT_REF_JSEQ_HI (BitVec.ofNat 32 (j / 2 ^ 32))).setMstate mJoined
    if s.gen ≠ e.gen then s.goStale 1
    else if s.jseq < j then s.goStale 2
    else s.setMstate mReady

/-- LEAT_PORT_UP (R493, R496, R497, R532). -/
def execLeatPortUp (p : Fin 4) (i : PortUp) (s : State) : Host.Outcome State Fault Refusal :=
  .next (
    let a := LP_STATUS p.val
    if s.fld a LP_STATUS_STATE = 0 ∨ 5 ≤ s.fld a LP_STATUS_STATE then s
    else
      let s := ((s.setF a LP_STATUS_P5120 i.p5120.toNat).setF a LP_STATUS_LREV i.lrev.toNat).setF
        a LP_STATUS_LPOL i.lpol.toNat
      let s := (s.setF a LP_STATUS_PEER_DEV i.peer.val).setF a LP_STATUS_PEER_PT i.pt.toNat
      let s := s.setLp p.val { s.lp p.val with bad := 0, uid := i.uid }
      if i.conflict then (s.setF a LP_STATUS_STATE 6).flag a LP_STATUS_HWCONF
      else if i.unused then s.setF a LP_STATUS_STATE 6
      else
        let lvl := min i.lvl.val (s.fld (LP_CFG p.val) LP_CFG_LVLMAX)
        let s := ((s.setF a LP_STATUS_STATE 5).flag a LP_STATUS_UP).setF a LP_STATUS_LEVEL lvl
        let s := (s.setF (LP_CABLE p.val) LP_CABLE_DLY i.cable.toNat).occur (0x7C0 + p.val)
        let s := if p.val = s.twinPort then
            let s := { s with twin := { s.twin with
              partnerPos := some i.posB, partnerUid := i.uid, partner5120 := i.p5120 } }
            if s.bit TWIN_CFG TWIN_CFG_EN && s.bit TWIN_CFG TWIN_CFG_POS == i.posB then
              s.flag TWIN_STATUS TWIN_STATUS_POSCONF
            else s
          else s
        let s := if s.leat.wrapPort = some p.val then
            ({ s with leat := { s.leat with wrapPort := none } }.setF LEAT_STATUS LEAT_STATUS_WRAP 0).chainSend
              .wrap toAll [s.dev, p.val, 0]
          else s
        match i.enum with
        | some e => s.enumerated e
        | none => s)

/-- LEAT_PORT_DOWN (R495). -/
def execLeatPortDown (p : Fin 4) (s : State) : Host.Outcome State Fault Refusal := .next (s.portDown p.val)
/-- LANE_LOCK_LOSS (R495). -/
def execLaneLockLoss (p : Fin 4) (s : State) : Host.Outcome State Fault Refusal :=
  .next (if s.lpUp p.val then s.portDown p.val else s)

/-- A write of LP_CFG; RETRAIN takes the port DOWN (R495). -/
def State.lpCfgWrite (s : State) (q : Req) (p : Nat) (v : Word) : State :=
  let s := s.regWrite q (LP_CFG p) v
  if reservedEncoding (fieldsAt (LP_CFG p)) v || fieldGet LP_CFG_RETRAIN v == 0 then s else s.portDown p

/-- LP_RETRAIN. -/
def execLpRetrain (q : Req) (p : Fin 4) (v : Word) (s : State) : Host.Outcome State Fault Refusal :=
  .next (s.guardWrite q (LP_CFG p.val) fun s => s.lpCfgWrite q p.val (v ||| 0x80000000))

/-- A write of LEAT_CFG (R495, R649). -/
def State.leatCfgWrite (s : State) (q : Req) (v : Word) : State :=
  let old := s.fld LEAT_CFG LEAT_CFG_PEN
  let s := s.regWrite q LEAT_CFG v
  let now := s.fld LEAT_CFG LEAT_CFG_PEN
  (List.range 4).foldl (fun s p =>
    if bitOf old p && !bitOf now p then s.portDown p
    else if !bitOf old p && bitOf now p then s.wakeAdd 6 p else s) s

/-- LEAT_CFG_WRITE. -/
def execLeatCfgWrite (q : Req) (v : Word) (s : State) : Host.Outcome State Fault Refusal :=
  .next (s.guardWrite q LEAT_CFG fun s => s.leatCfgWrite q v)

/-- TS_EXCHANGE (R495). -/
def execTsExchange (p : Fin 4) (uid : BitVec 64) (s : State) : Host.Outcome State Fault Refusal :=
  .next (if s.lpUp p.val && (s.lp p.val).uid != uid then s.portDown p.val else s)

/-! ### Admission and leaving (R520, R523) -/

/-- A write of LEAT_ADMIT. -/
def State.leatRequest (s : State) (leave : Bool) (d : Nat) : State :=
  let res (s : State) (r : Nat) : State :=
    let s := s.setF LEAT_ADMIT_STAT LEAT_ADMIT_STAT_RESULT r
    if r = 0 then s else s.occur 0x7C8
  let st := s.fld (LEAT_MREC d) LEAT_MREC_STATE
  if !s.bit LEAT_STATUS LEAT_STATUS_HEADWATER then res s 1
  else if (!leave && st != mReady) || (leave && st != mMember) then res s 2
  else if 8 ≤ s.leat.queue.length then res s 3
  else res (s.setQueue (if s.leat.queue.contains (!leave, d) then s.leat.queue else s.leat.queue ++ [(!leave, d)])) 0

/-- A write of the whole register. -/
def State.admitWrite (s : State) (q : Req) (v : Word) : State :=
  let s := s.regWrite q LEAT_ADMIT v
  if reservedEncoding (fieldsAt LEAT_ADMIT) v then s
  else match fieldGet LEAT_ADMIT_OP v with
    | 1 => s.leatRequest false (fieldGet LEAT_ADMIT_DEV v)
    | 2 => s.leatRequest true (fieldGet LEAT_ADMIT_DEV v)
    | _ => s

/-- ADMIT (R520). -/
def execAdmit (q : Req) (dev : Fin 512) (s : State) : Host.Outcome State Fault Refusal :=
  .next (s.guardWrite q LEAT_ADMIT fun s => s.admitWrite q (BitVec.ofNat 32 (2 ^ 30 + dev.val)))
/-- GRACEFUL_LEAVE (R523). -/
def execGracefulLeave (q : Req) (dev : Fin 512) (s : State) : Host.Outcome State Fault Refusal :=
  .next (s.guardWrite q LEAT_ADMIT fun s => s.admitWrite q (BitVec.ofNat 32 (2 ^ 31 + dev.val)))
/-- LEAVE_DRAIN_END (R523). -/
def execLeaveDrainEnd (s : State) : Host.Outcome State Fault Refusal :=
  .next (if s.mstate = mLeaving then s.setMstate mJoined else s)

/-! ### Catch-up (R519-R521) -/

/-- The journal sequence to reach. -/
def State.refJseq (s : State) : Nat := (s.reg LEAT_REF_JSEQ_HI).toNat * 2 ^ 32 + (s.reg LEAT_REF_JSEQ_LO).toNat

/-- LEAT_STALE.RESULT at the end of a catch-up, and the Benmos command that started it. -/
def State.catchResult (s : State) (r : Nat) : State :=
  let s := { s with leat := { s.leat with catching := false } }.setF LEAT_STALE LEAT_STALE_RESULT r
  let s := if r = 2 ∨ r = 5 then s.occur 0x7C7 else s
  s.hostEnd 3 3 (if r = 2 then 0 else 0x10) r

/-- GO of LEAT_STALE (R519, Table 14.9). -/
def State.catchup (s : State) : State :=
  let m := s.fld LEAT_STALE LEAT_STALE_METHOD
  let host := s.bit LEAT_STALE LEAT_STALE_SRC
  let tiles := s.fld LEAT_STALE LEAT_STALE_TILES != 0
  let reach := if host then s.bit HOST_STATUS HOST_STATUS_LINKUP || s.anyUp else s.lpUp s.twinPort
  let ok := (s.mstate == mStale || (tiles && (m == 1 || m == 2))) && (match m with
    | 0 => s.reg LEAT_REF_GEN == s.gen + 1
    | 1 => decide (0 < s.jseq)
    | 2 => host || (s.twinStandby && s.twinState != 0)
    | _ => !s.leat.recorded)
  if s.leat.catching then s
  else if !ok then s.catchResult 3
  else if (m = 1 ∨ m = 2) ∧ !reach then s.catchResult 4
  else
    let s := { s with leat := { s.leat with catching := true } }.setF LEAT_STALE LEAT_STALE_RESULT 1
    let s := if s.mstate = mStale then s.setMstate mCatchup else s
    let s := if s.twinStandby then s.setTwin 3 else s
    match m with
    | 0 => (s.applyShadows.put ANG_CFG_GEN (s.gen + 1)).windowsNow
    | 3 => s.put ANG_CFG_GEN (s.reg LEAT_REF_GEN)
    | _ => if host then s else s.partnerSend [11, m, s.jseq]

/-- A write of LEAT_STALE. -/
def State.staleWrite (s : State) (q : Req) (v : Word) : State :=
  let s := s.regWrite q LEAT_STALE v
  if fieldGet LEAT_STALE_GO v = 1 then s.catchup else s

/-- The word of a GO. -/
def staleWord (m : Nat) (host : Bool) : Word := BitVec.ofNat 32 (2 ^ 31 + m * 2 ^ 24 + host.toNat * 2 ^ 23)

/-- CATCHUP_LOCAL (R519). -/
def execCatchupLocal (q : Req) (host : Bool) (s : State) : Host.Outcome State Fault Refusal :=
  .next (s.guardWrite q LEAT_STALE fun s => s.staleWrite q (staleWord 0 host))
/-- CATCHUP_REPLAY (R519). -/
def execCatchupReplay (q : Req) (host : Bool) (s : State) : Host.Outcome State Fault Refusal :=
  .next (s.guardWrite q LEAT_STALE fun s => s.staleWrite q (staleWord 1 host))
/-- CATCHUP_TRANSFER (R519). -/
def execCatchupTransfer (q : Req) (host : Bool) (s : State) : Host.Outcome State Fault Refusal :=
  .next (s.guardWrite q LEAT_STALE fun s => s.staleWrite q (staleWord 2 host))
/-- CATCHUP_BLANK (R519). -/
def execCatchupBlank (q : Req) (host : Bool) (s : State) : Host.Outcome State Fault Refusal :=
  .next (s.guardWrite q LEAT_STALE fun s => s.staleWrite q (staleWord 3 host))

/-- The catch-up has failed (R519). -/
def State.catchFail (s : State) : State :=
  let s := if s.mstate = mCatchup then s.setMstate mStale else s
  let s := if s.twinStandby then s.setTwin 2 else s
  s.catchResult 5

/-- CATCHUP_END (R519, R520): the reference is reached, or the catch-up fails; LOCAL fails where the headwater's
generation has changed. -/
def execCatchupEnd (failed : Bool) (s : State) : Host.Outcome State Fault Refusal :=
  .next (if !s.leat.catching then s
    else if failed || (s.fld LEAT_STALE LEAT_STALE_METHOD == 0 && s.gen != s.reg LEAT_REF_GEN) then s.catchFail
    else if s.gen ≠ s.reg LEAT_REF_GEN ∨ s.jseq < s.refJseq then s
    else
      let s := if s.mstate = mCatchup then (s.setMstate mReady).setF LEAT_STALE LEAT_STALE_CAUSE 0 else s
      let s := if s.twinStandby then
          ({ s with twin := { s.twin with mirroring := true } }.setTwin 4).setF TWIN_STATUS TWIN_STATUS_SCAUSE 0
            |>.partnerSend [10]
        else s
      s.catchResult 2)

/-! ### Tile retirement (R525) -/

/-- Does a route use a tile's ports? -/
def State.tileRouted (s : State) (t : Nat) : Bool :=
  let ps := tilePorts t
  s.cxb.route.any fun x => x.2 != routeNone && (ps.contains x.1 || ps.contains x.2)

/-- A command of LEAT_TRET (R453, R525, Table 14.10). -/
def State.tretCmd (s : State) (op t : Nat) : State :=
  let ret := bitOf (s.fld LEAT_TRET_STAT LEAT_TRET_STAT_RETIRED) t
  let wait (s : State) (b : Bool) : State :=
    ({ s with leat := { s.leat with tret := some ⟨b, t⟩ } }.setF LEAT_TRET_STAT LEAT_TRET_STAT_PEND 1).setF
      LEAT_TRET_STAT LEAT_TRET_STAT_RESULT 1
  let refuse (s : State) (r : Nat) : State :=
    ((s.setF LEAT_TRET_STAT LEAT_TRET_STAT_RESULT r).occur 0x7C9).hostEnd 3 4 0x10 r
  if op = 0 then s
  else if s.leat.tret.isSome then (s.setF LEAT_TRET_STAT LEAT_TRET_STAT_RESULT 5).occur 0x7C9
  else match op with
    | 1 =>
      if ret then refuse s 3
      else if (List.range 16).any (fun k => s.ctxState (16 * t + k) != ctxStopped) || s.tileRouted t then refuse s 2
      else wait s false
    | 2 =>
      if ret then refuse s 3
      else
        let s := (tilePorts t).foldl (fun s p => s.enterBorder p) s
        let s := (List.range 16).foldl (fun s k =>
          (s.instReset (16 * t + k)).setF (INST_CFG (16 * t + k)) INST_CFG_EN 0) s
        ((s.tileRetire t).drvBorder t true).tretEnd 0
    | _ =>
      if !ret then refuse s 3
      else if bitOf (s.fld LEAT_STALE LEAT_STALE_TILES) t then refuse s 4
      else wait s true

/-- A write of LEAT_TRET. -/
def State.tretWrite (s : State) (q : Req) (v : Word) : State :=
  (s.regWrite q LEAT_TRET v).tretCmd (fieldGet LEAT_TRET_OP v) (fieldGet LEAT_TRET_TILE v)

/-- RETIRE (R525). -/
def execRetire (q : Req) (t : Fin 16) (s : State) : Host.Outcome State Fault Refusal :=
  .next (s.guardWrite q LEAT_TRET fun s => s.tretWrite q (BitVec.ofNat 32 (2 ^ 30 + t.val)))
/-- FORCE (R525). -/
def execForce (q : Req) (t : Fin 16) (s : State) : Host.Outcome State Fault Refusal :=
  .next (s.guardWrite q LEAT_TRET fun s => s.tretWrite q (BitVec.ofNat 32 (2 ^ 31 + t.val)))
/-- RETURN (R525). -/
def execReturn (q : Req) (t : Fin 16) (s : State) : Host.Outcome State Fault Refusal :=
  .next (s.guardWrite q LEAT_TRET fun s => s.tretWrite q (BitVec.ofNat 32 (3 * 2 ^ 30 + t.val)))

end Sys2Proof.Machine
end

