-- ==== Sys2Proof/Machine/Reset.lean ====
section
/-! DEFINITION. The device reset (R587), the start of start-up (R588), the PFAIL (R653-R657). -/

namespace Sys2Proof.Machine

/-! ### Device reset -/

/-- Registers that show what a reset does not change: the cause of the last loss, the rails and banks, the input
levels, the wear and the retirement records of the NVM (R416). -/
def keptRegs : List Nat :=
  [PWR_LASTLOSS, PWR_RAIL, PWR_VIO_UV, PIN_BANKV, NVM_WEAR_LO, NVM_WEAR_HI] ++ (List.range 16).map PIN_IN
    ++ (List.range 16).map MEM_SRAM_MAP ++ (List.range 1024).map MEM_RET_ENTRY

/-- The registers of domain 27, which a wake from STANDBY and a TSHUT keep (R648, R661); the lock bits follow the
clocks. -/
def alwaysOnRegs : List Nat := [PWR_SBY, PWR_SBY_STAT, PIN_WAKE, SYS_CLK_LOST]

/-- A line write that had begun is cut off: its slot does not check (R426). -/
def State.tearLines (s : State) : State :=
  [0, 1].foldl (fun s h => match s.nvmFront h with
    | some w => s.setNvmLine w.line { s.nvmLine w.line with torn := true }
    | none => s) s

/-- What was sampled at reset shows in BOOT_STATUS.MODE, LEAT_CFG.HWSEL, TWIN_CFG.POS and PIN_BANKV. -/
def State.setStraps (s : State) (st : Straps) : State :=
  let s := { s with pwr := { s.pwr with ahi := st.ahi } }
  (((s.setF BOOT_STATUS BOOT_STATUS_MODE st.mode.toNat).setF LEAT_CFG LEAT_CFG_HWSEL st.hwsel.toNat).setF
    TWIN_CFG TWIN_CFG_POS st.posB.toNat).setF PIN_BANKV PIN_BANKV_V33 st.v33.toNat

/-- The straps as they were sampled last. -/
def State.straps (s : State) : Straps where
  mode := BitVec.ofNat 2 (s.fld BOOT_STATUS BOOT_STATUS_MODE)
  hwsel := s.bit LEAT_CFG LEAT_CFG_HWSEL
  posB := s.bit TWIN_CFG TWIN_CFG_POS
  ahi := s.pwr.ahi
  v33 := BitVec.ofNat 16 (s.fld PIN_BANKV PIN_BANKV_V33)

/-- Every block returns to its reset values (R587); what lies outside the device, and what the NVM holds, stay.
`aon` keeps domain 27, `sensors` the temperature readings; `held`: the reset is held (R641). -/
def State.deviceReset (s : State) (st : Straps) (aon sensors held : Bool) : State :=
  let s := s.tearLines
  let keep := keptRegs ++ (if aon then alwaysOnRegs else []) ++ (if sensors then (List.range 12).map PWR_TEMP else [])
  let r : State := { State.reset with
    regs := keep.foldl (fun t a => tblSet resetWord t a (s.reg a)) []
    reply := s.reply
    freeIx := s.freeIx
    out := s.out
    leat := { Leat.reset with taken := s.out.length }
    pending := s.pending
    mem := { Mem.reset with nvm := s.mem.nvm }
    pwr := { Pwr.reset with pfailN := s.pwr.pfailN, inReset := held } }
  ((r.setStraps st).setF TWIN_STATUS TWIN_STATUS_PEER_SEL (s.fld TWIN_STATUS TWIN_STATUS_PEER_SEL)).wakeShow.refreshCells

/-- PWR_LASTLOSS records a cause (R653). -/
def State.lastLoss (s : State) (cause rail : Nat) : State :=
  s.put PWR_LASTLOSS (BitVec.ofNat 32 (2 ^ 31 + rail * 256 + cause))

/-! ### The start of start-up -/

/-- The sequences of the journal whose first lines are durable, with their entries (R576). -/
def State.jnlSeqs (s : State) : List (Nat × Nat) :=
  s.mem.nvm.filterMap fun (l, x) =>
    let n := (x.cur.data.getD 15 0).toNat * 2 ^ 32 + (x.cur.data.getD 14 0).toNat
    if l < 262144 ∧ l % 2 = 0 ∧ n ≠ 0 then some (n, l / 2) else none

/-- The engine finds the journal head (R576, R577): the highest sequence with every lower one back to 131,071 below. -/
def State.jnlFind (s : State) : State :=
  let l := s.jnlSeqs
  let whole (n : Nat) : Bool := (l.filter fun x => decide (x.1 ≤ n ∧ n < x.1 + 131072)).length == min n 131072
  let h := l.foldl (fun m x => if m < x.1 && whole x.1 then x.1 else m) 0
  let pos := match l.find? fun x => x.1 == h with | some x => (x.2 + 1) % 131072 | none => 0
  ({ s with jnl := { s.jnl with last := h, above := [], pos := pos } }.setHead h).setF JNL_POS JNL_POS_POS pos

/-- The number of configuration frames (R613): 128-byte windows of registers with an RWS field, and 4,096 cell frames. -/
def framesHeld : Nat := 6248

/-- A health-log record of a power event; the spec names no item index for it: a free value (log entry 2). -/
def State.powerLog (s : State) (cls : Nat) : State :=
  let (f, s) := s.free
  s.healthLog cls [f % 65536, 3]

/-- Start-up begins (R588): the heads of the health log and of the journal are found, and a power loss or a TSHUT is
logged (R657, R669). -/
def State.startUp (s : State) : State :=
  let s := (s.logFind.jnlFind).setF BOOT_CI_STATUS BOOT_CI_STATUS_FRAMES framesHeld
  let c := s.fld PWR_LASTLOSS PWR_LASTLOSS_CAUSE
  if c = 0 ∨ 5 ≤ c then s else s.powerLog (if c = 4 then 0x22 else 0x23)

/-! ### PFAIL -/

/-- What the Benmos engine does at a PFAIL (R581): nothing more is read or executed; first lines not begun are
dropped with their commands; accepted commands end with PFAIL. -/
def State.hostPfail (s : State) : State :=
  let begun := [s.nvmFront 0, s.nvmFront 1]
  let keep (w : NvmWrite) : Bool :=
    match w.use with
    | .jnl _ false | .cal _ => begun.contains (some w)
    | _ => true
  let s := { s with mem := { s.mem with nvmQ := s.mem.nvmQ.filter keep } }
  let s := s.mapCmd (fun c => c.phase == .first) fun _ => none
  let s := (s.host.cmds.filter fun c => c.phase == .accepted).foldl (fun s c => s.endCmd c 0x0D 0) s
  s.flag JNL_STATUS JNL_STATUS_PFAIL

/-- A PFAIL begins (R653, R654): cause 1 PFAIL_N, 2 RAIL, 3 AON, 4 TSHUT. A later cause overwrites the record. -/
def State.pfail (s : State) (cause rail : Nat) : State :=
  let s := s.lastLoss cause rail
  if s.bit PWR_STATUS PWR_STATUS_PFL then s
  else
    let s := ((s.flag PWR_STATUS PWR_STATUS_PFL).setF PWR_STATUS PWR_STATUS_STATE 1).occur 0x812
    let s := { s with pwr := { s.pwr with released := s.fld BOOT_STATUS BOOT_STATUS_STATE == 4 } }
    (((s.latchDrvs 4).latchCells 4).fence 0x13).hostPfail

end Sys2Proof.Machine
end

