-- ==== Sys2Proof/Machine/Power.lean ====
section
/-! DEFINITION. Clocks (R37, R40), rails and banks (R639-R642), tile states and the wake scheduler (R643-R652), PFAIL
(R653-R657), STANDBY (R647, R648), temperature (R658-R661). -/

namespace Sys2Proof.Machine

/-! ### Clocks -/

/-- Is a domain monitored now (R40)? Not the always-on domain itself, a Leat domain only while its port is trained,
domain 26 only while TCK toggles. -/
def State.monitored (s : State) (d : Nat) : Bool :=
  d != 27 && bitOf (s.reg SYS_CLK_LOCK).toNat d && (!decide (19 ≤ d ∧ d ≤ 22) || s.lpUp (d - 19)) && (d != 26 || s.tap.tck)

/-- What stops with a domain (R40, R251, R306, R392, R495); the blocks of the others do nothing while `halted`. -/
def State.clockStops (s : State) (d : Nat) : State :=
  if d = 0 ∨ d = 1 ∨ d = 14 ∨ d = 23 then ((s.latchDrvs 3).latchCells 3).fence 0x03
  else if 2 ≤ d ∧ d ≤ 9 then s.capClockLost (d - 2)
  else if 10 ≤ d ∧ d ≤ 13 then s.cvgClockLost (d - 10)
  else if d = 15 then s.fltClockLost
  else if 19 ≤ d ∧ d ≤ 22 then s.portDown (d - 19)
  else s

/-- CLOCK_LOST (R40). -/
def execClockLost (d : Fin 29) (s : State) : Host.Outcome State Fault Refusal :=
  .next (if !s.monitored d.val then s
    else
      let s := s.put SYS_CLK_LOST (s.reg SYS_CLK_LOST ||| BitVec.ofNat 32 (2 ^ d.val))
      let s := s.put SYS_CLK_LOCK (s.reg SYS_CLK_LOCK &&& ~~~ BitVec.ofNat 32 (2 ^ d.val))
      let s := { s with pwr := { s.pwr with dead := s.pwr.dead ||| BitVec.ofNat 32 (2 ^ d.val) } }
      let s := if d.val = 26 then { s with tap := { s.tap with tck := false } } else s
      (s.deviceCheck 0x03).clockStops d.val)

/-- CLOCK_DOMAIN_LOCKED (R37): the domain's blocks go on, and with a DDR5 channel what waited for it (R40). -/
def execClockDomainLocked (d : Fin 29) (s : State) : Host.Outcome State Fault Refusal :=
  let s := { s with pwr := { s.pwr with dead := s.pwr.dead &&& ~~~ BitVec.ofNat 32 (2 ^ d.val) } }
  let s := s.put SYS_CLK_LOCK (s.reg SYS_CLK_LOCK ||| BitVec.ofNat 32 (2 ^ d.val))
  .next (if (d.val = 16 ∨ d.val = 17) ∧ s.epState ≠ 4 then
      (s.ctxs.filter fun x => x.2.stall == .apply).foldl (fun s x => s.resumeCtx x.1) s
    else s)

/-! ### Rails and banks -/

/-- Is a rail good? -/
def State.railGood (s : State) (k : Nat) : Bool := bitOf (s.fld PWR_RAIL PWR_RAIL_GOOD) k

/-- The undervoltage bit of a VAHI rail, west or east (R642). -/
def vahiUv (k : Nat) : Field := if k = 9 then PWR_STATUS_VAHI_W_UV else PWR_STATUS_VAHI_E_UV

/-- RAIL_FALL (R639-R642, R653): outside a held reset and STANDBY. -/
def execRailFall (k : Fin 11) (s : State) : Host.Outcome State Fault Refusal :=
  .next (if !s.railGood k.val then s
    else
      let s := s.setF PWR_RAIL PWR_RAIL_GOOD (setBit (s.fld PWR_RAIL PWR_RAIL_GOOD) k.val false)
      if k.val = 8 then (s.put PWR_LASTLOSS 0).deviceReset s.straps false false true
      else if s.pwr.inReset || s.pwr.standby then s.refreshCells
      else if k.val ≤ 7 then s.pfail 2 k.val
      else ((s.flag PWR_STATUS (vahiUv k.val)).refreshCells).powerLog 0x24)

/-- RAIL_GOOD (R639, R642). -/
def execRailGood (k : Fin 11) (s : State) : Host.Outcome State Fault Refusal :=
  .next (
    let s := s.setF PWR_RAIL PWR_RAIL_GOOD (setBit (s.fld PWR_RAIL PWR_RAIL_GOOD) k.val true)
    if k.val < 9 then s else (s.setF PWR_STATUS (vahiUv k.val) 0).refreshCells)

/-- VIO_UNDERVOLTAGE (R642): the inputs of the bank read 0. -/
def execVioUndervoltage (t : Fin 16) (s : State) : Host.Outcome State Fault Refusal :=
  .next ((s.setF PWR_VIO_UV PWR_VIO_UV_UV (setBit (s.fld PWR_VIO_UV PWR_VIO_UV_UV) t.val true)).pinInputs
    ((List.range 16).map fun i => (16 * t.val + i, false)))

/-- VIO_BANK_GOOD (R642). -/
def execVioBankGood (t : Fin 16) (s : State) : Host.Outcome State Fault Refusal :=
  .next (s.setF PWR_VIO_UV PWR_VIO_UV_UV (setBit (s.fld PWR_VIO_UV PWR_VIO_UV_UV) t.val false))

/-! ### Power-on and resets -/

/-- Every sensor that has read is at or below 110 °C (R661). -/
def State.coolEnough (s : State) : Bool :=
  (List.range 12).all fun k => !s.bit (PWR_TEMP k) PWR_TEMP_VALID || decide (sext 16 (s.fld (PWR_TEMP k) PWR_TEMP_TEMP) ≤ 880)

/-- POWER_ON_RELEASE (R641): a held reset is released; a device that lost its power during a PFAIL starts anew. -/
def execPowerOnRelease (st : Straps) (s : State) : Host.Outcome State Fault Refusal :=
  .next (
    let rails := (List.range 9).all s.railGood && (!st.ahi || (s.railGood 9 && s.railGood 10))
    if !(s.pwr.inReset || s.bit PWR_STATUS PWR_STATUS_PFL) || !rails || !s.pwr.pfailN || !s.coolEnough then s
    else (s.deviceReset st s.pwr.inReset false false).startUp)

/-- RESET_N_ASSERT (R587). -/
def execResetNAssert (st : Straps) (s : State) : Host.Outcome State Fault Refusal :=
  .next (((s.lastLoss 6 0).deviceReset st false false false).startUp)

/-- BOOT_CTL.RST = 0xD5 (R587). -/
def State.bootRst (s : State) : State := ((s.lastLoss 7 0).deviceReset s.straps false false false).startUp

/-- Who may reset the device, start it or give key commands (R587, R611): the supervisor core, the host PF, JTAG. -/
def bootMay : Req → Bool
  | .sup | .host | .jtag => true
  | _ => false

/-- BOOT_RST. -/
def execBootRst (q : Req) (s : State) : Host.Outcome State Fault Refusal :=
  .next (s.guardWrite q BOOT_CTL fun s => if bootMay q then s.bootRst else s)

/-! ### Tile states -/

/-- ST_t. -/
def State.tileState (s : State) (t : Nat) : Nat := (s.reg PWR_TILE_STATE).toNat / 4 ^ t % 4

/-- A tile changes state (R672); its cells' output states follow (R215, R646). -/
def State.setTileState (s : State) (t x : Nat) : State :=
  if s.tileState t = x then s
  else
    let s := s.put PWR_TILE_STATE (fieldPut ⟨2 * t + 1, 2 * t, .ro, []⟩ (s.reg PWR_TILE_STATE) x)
    ((List.range 32).foldl (fun s k => s.refreshCell (32 * t + k)) s).occur 0x814

/-- A demand or a command queues a tile's item (R643-R646, Table 19.2): TILE_ON from STANDBY, else TILE_CLK. -/
def State.tileWake (s : State) (t : Nat) : State :=
  match s.tileState t with
  | 1 => (s.wakeAdd 3 t).setTileState t 3
  | 2 => (s.wakeAdd 2 t).setTileState t 3
  | _ => s

/-- Does a running descriptor or a queued one name the SRAM of a tile (R644)? -/
def State.dmaNames (s : State) (t : Nat) : Bool :=
  let hit (a : Nat) : Bool := decide (0x6000000000 + t * 0x400000 ≤ a ∧ a < 0x6000000000 + (t + 1) * 0x400000)
  s.mem.dma.any fun (_, e) => (e.queue.any fun d => hit (0x6000000000 + d.addr))
    || (match e.run with | some r => hit r.src || hit r.dst | none => false)

/-- Is a tile quiet (R644)? -/
def State.tileQuiet (s : State) (t : Nat) : Bool :=
  ((List.range 16).all fun i => s.ctxState (16 * t + i) == ctxStopped || s.ctxState (16 * t + i) == ctxHeld)
  && ((List.range 4).all fun k =>
    let g := 4 * t + k
    s.cvgState g != cvgRunning && s.cvgState g != cvgStopping && (s.group g).urg.isEmpty && (s.group g).urgWait.isEmpty)
  && ((List.range 32).all fun k => s.chState (32 * t + k) != chRunning)
  && ((List.range 32).all fun k =>
    let p := s.pulse (32 * t + k)
    p.shot.isNone && p.pend.isNone && p.released.isEmpty && !(s.stq.any fun o => o.kind == 3 && o.index == 32 * t + k))
  && ((List.range 16).all fun k =>
    s.rgState (16 * t + k) != rgRun || s.fld (LGC_RG_CFG (16 * t + k)) LGC_RG_CFG_GCEN == 0)
  && !s.dmaNames t

/-- Does a per-device or supervisor key of the memories lie in what tile t loses (R646)? -/
def tileKey (t a : Nat) : Bool :=
  decide (0x6000000000 + t * 0x400000 ≤ a ∧ a < 0x6000000000 + (t + 1) * 0x400000)
    || decide (0x6100000000 + t * 0x40000 ≤ a ∧ a < 0x6100000000 + (t + 1) * 0x40000)
    || decide (2 ^ 41 + t * 2 ^ 20 ≤ a ∧ a < 2 ^ 41 + (t + 1) * 2 ^ 20)

/-- A tile is powered off (Table 19.2): its registers, units, contexts and memories lose what they held. -/
def State.tileLost (s : State) (t : Nat) : State :=
  let gone (a : Nat) : Bool := decide (0xF1000000 + t * 0x100000 ≤ a ∧ a < 0xF1000000 + (t + 1) * 0x100000)
  let keep (n : Nat) {α : Type} (l : Tbl α) : Tbl α := l.filter fun x => x.1 / n != t
  let m := { s.mem with
    bytes := s.mem.bytes.filter fun c => !tileKey t c.1
    errs := s.mem.errs.filter fun x => !tileKey t x.1 }
  let lg := { s.lgc with
    cells := keep 512 s.lgc.cells
    regions := keep 16 s.lgc.regions
    ports := keep 16 s.lgc.ports }
  { s with
    regs := s.regs.filter fun x => !gone x.1
    staged := s.staged.filter fun x => !gone x.1
    ctrs := s.ctrs.filter fun x => !gone x.1
    ctrLoad := s.ctrLoad.filter fun x => !gone x.1
    ctxs := keep 16 s.ctxs
    cells := keep 32 s.cells
    groups := keep 4 s.groups
    chans := keep 32 s.chans
    engines := keep 4 s.engines
    pulses := keep 32 s.pulses
    pairs := keep 32 s.pairs
    learns := keep 4 s.learns
    mem := m
    lgc := lg }

/-- The contexts of a tile that has lost its state are STOPPED. -/
def State.tileStops (s : State) (t : Nat) : State :=
  (List.range 16).foldl (fun s i => s.setCtxState (16 * t + i) ctxStopped) s

/-- The released outputs of a tile that has lost its registers. -/
def State.tileRel (s : State) (t : Nat) : State :=
  (List.range 32).foldl (fun s k =>
    let u := 32 * t + k
    ((if s.outputsReleased then s.flag (CEL_STATUS u) CEL_STATUS_REL else s).refreshCell u).drvSync u) s

/-- A tile command answers (R672). -/
def State.tileResult (s : State) (r : Nat) : State := (s.setF PWR_TILE_STAT PWR_TILE_STAT_RESULT r).occur 0x814

/-- A tile command: 1 IDLE, 2 RUN, 3 STANDBY (R643-R646, R652). -/
def State.tileCmd (s : State) (op t : Nat) : State :=
  if op = 0 then s
  else if s.bit PWR_STATUS PWR_STATUS_PFL then s.tileResult 4
  else match op with
    | 1 =>
      if s.tileState t = 1 then s.tileResult 0
      else if s.tileState t ≠ 0 then s.tileResult 3
      else if !s.tileQuiet t then s.tileResult 2
      else (s.setTileState t 1).tileResult 0
    | 2 =>
      if s.tileState t = 0 then s.tileResult 0
      else
        let s := s.tileWake t
        let s := { s with pwr := { s.pwr with cmds := t :: s.pwr.cmds.filter (· != t) } }
        (s.flag PWR_TILE_STAT PWR_TILE_STAT_PEND).setF PWR_TILE_STAT PWR_TILE_STAT_RESULT 1
    | _ =>
      if !bitOf (s.fld LEAT_TRET_STAT LEAT_TRET_STAT_RETIRED) t then s.tileResult 3
      else if s.tileState t = 2 then s.tileResult 0
      else if s.tileState t = 3 then s.tileResult 3
      else if !s.tileQuiet t then s.tileResult 2
      else ((((s.tileLost t).tileStops t).setTileState t 2).tileRel t).tileResult 0

/-- A write of PWR_TILE_CMD. -/
def State.tileCmdWrite (s : State) (q : Req) (v : Word) : State :=
  (s.regWrite q PWR_TILE_CMD v).tileCmd (fieldGet PWR_TILE_CMD_OP v) (fieldGet PWR_TILE_CMD_TILE v)

/-- The word of a tile command. -/
def tileWord (op t : Nat) : Word := BitVec.ofNat 32 (op * 2 ^ 30 + t)

/-- PWR_TILE_IDLE. -/
def execPwrTileIdle (q : Req) (t : Fin 16) (s : State) : Host.Outcome State Fault Refusal :=
  .next (s.guardWrite q PWR_TILE_CMD fun s => s.tileCmdWrite q (tileWord 1 t.val))
/-- PWR_TILE_RUN. -/
def execPwrTileRun (q : Req) (t : Fin 16) (s : State) : Host.Outcome State Fault Refusal :=
  .next (s.guardWrite q PWR_TILE_CMD fun s => s.tileCmdWrite q (tileWord 2 t.val))
/-- PWR_TILE_STANDBY. -/
def execPwrTileStandby (q : Req) (t : Fin 16) (s : State) : Host.Outcome State Fault Refusal :=
  .next (s.guardWrite q PWR_TILE_CMD fun s => s.tileCmdWrite q (tileWord 3 t.val))

/-! ### Wake items -/

/-- WAKE_ITEM_START (R650, R652). -/
def execWakeItemStart (s : State) : Host.Outcome State Fault Refusal :=
  .next (match s.pwr.waiting with
    | [] => s
    | x :: r =>
      if s.bit PWR_STATUS PWR_STATUS_PFL || !s.wakeFits x.1 then s
      else { s with pwr := { s.pwr with waiting := r, ramping := s.pwr.ramping ++ [x] } }.wakeShow)

/-- A tile's last item has ended (Table 19.2, R521, R657): it is RUN; a tile woken from STANDBY is stale and its outputs
stay safe. TILE_CLK does not bring a tile out of STANDBY. -/
def State.tileUp (s : State) (rank t : Nat) : State :=
  let more := (s.pwr.waiting ++ s.pwr.ramping).any fun x => (x.1 == 2 || x.1 == 3) && x.2 == t
  if more || s.tileState t ≠ 3 then s
  else
    let s := if rank = 2 ∧ s.pwr.tilesUp then
        s.setF LEAT_STALE LEAT_STALE_TILES (s.fld LEAT_STALE LEAT_STALE_TILES ||| 2 ^ t)
      else s
    let s := s.setTileState t 0
    if !s.pwr.cmds.contains t then s
    else
      let l := s.pwr.cmds.filter (· != t)
      (({ s with pwr := { s.pwr with cmds := l } }).setF PWR_TILE_STAT PWR_TILE_STAT_PEND (!l.isEmpty).toNat).tileResult 0

/-- A wake item's ramp ends (R650, R651): its block is powered. -/
def State.wakeEnd (s : State) (rank k : Nat) : State :=
  if !s.pwr.ramping.contains (rank, k) then s
  else
    let s := { s with pwr := { s.pwr with ramping := s.pwr.ramping.filter (· != (rank, k)) } }.wakeShow
    let s := if rank = 2 ∨ rank = 3 then s.tileUp rank k else s
    let on := (s.pwr.waiting ++ s.pwr.ramping).any fun x => x.1 == 2
    let s := if on then s else { s with pwr := { s.pwr with tilesUp := true } }
    if s.pwr.waiting.isEmpty && s.pwr.ramping.isEmpty then s.occur 0x813 else s

/-- A write of CVG_REF (R265, R267, R649). -/
def State.refWrite (s : State) (q : Req) (d : Nat) (v : Word) : State :=
  let was := s
  let s := s.regWrite q (CVG_REF d) v
  [(false, CVG_REF_EN_A), (true, CVG_REF_EN_B)].foldl (fun s (b, f) =>
    let old := was.bit (CVG_REF d) f
    let now := s.bit (CVG_REF d) f
    if now && !old then s.wakeAdd 1 (2 * d + b.toNat) else if old && !now then s.refRdy d b false else s) s

/-- CVG_REF_WRITE. -/
def execCvgRefWrite (q : Req) (d : Fin 2) (v : Word) (s : State) : Host.Outcome State Fault Refusal :=
  .next (s.guardWrite q (CVG_REF d.val) fun s => s.refWrite q d.val v)

/-! ### PFAIL -/

/-- PFAIL_N_LOW (R653). -/
def execPfailNLow (s : State) : Host.Outcome State Fault Refusal :=
  .next (
    let s := { s with pwr := { s.pwr with pfailN := false } }
    if s.pwr.inReset || s.pwr.standby then s else s.pfail 1 0)

/-- ALWAYS_ON_OSCILLATOR_FAIL (R40, R653). -/
def execAlwaysOnOscillatorFail (s : State) : Host.Outcome State Fault Refusal :=
  .next (if s.pwr.inReset || s.pwr.standby then s else s.pfail 3 0)

/-- PFAIL_CLOCK_STOP (R655): the domains stop; none of them counts as lost. -/
def execPfailClockStop (s : State) : Host.Outcome State Fault Refusal :=
  .next (if s.bit PWR_STATUS PWR_STATUS_PFL then s.put SYS_CLK_LOCK (s.reg SYS_CLK_LOCK &&& ~~~ pfailDomains) else s)

/-- What follows a PFAIL before GO (R604): the load is given up and the device begins again at step 2. -/
def State.loadAnew (s : State) : State :=
  { (s.put BOOT_STATUS (s.reg BOOT_STATUS &&& 0xC00000C0#32)) with boot := Boot.reset }

/-- PFAIL_END (R657). -/
def execPfailEnd (s : State) : Host.Outcome State Fault Refusal :=
  .next (if !s.bit PWR_STATUS PWR_STATUS_PFL || s.pwr.tshut || !s.pwr.pfailN || !(List.range 9).all s.railGood then s
    else
      let s := (s.setF PWR_STATUS PWR_STATUS_PFL 0).setF PWR_STATUS PWR_STATUS_STATE 0
      let s := (((s.flag PWR_STATUS PWR_STATUS_PFSEEN).inc PWR_PFAILS_LO).powerLog 0x23).setF JNL_STATUS JNL_STATUS_PFAIL 0
      let s := s.refreshCells.twinBalls
      if !s.pwr.released then s.loadAnew
      else (List.range 16).foldl (fun s t => (s.wakeAdd 3 t).setTileState t (if s.tileState t = 2 then 2 else 3)) s)

/-! ### STANDBY -/

/-- In STANDBY no cell's output is released (R647). -/
def State.cellsUnreleased (s : State) : State :=
  (List.range 512).foldl (fun s u => s.setF (CEL_STATUS u) CEL_STATUS_REL 0) s

/-- The references of both dies are switched off (R267). -/
def State.refsOff (s : State) : State :=
  [0, 1].foldl (fun s d =>
    ((s.refRdy d false false).refRdy d true false).put (CVG_REF d) (s.reg (CVG_REF d) &&& ~~~ 0xF#32)) s

/-- Line writes begun end; none begins. -/
def State.nvmBegun (s : State) : State :=
  let begun := [s.nvmFront 0, s.nvmFront 1]
  { s with mem := { s.mem with nvmQ := s.mem.nvmQ.filter fun w => begun.contains (some w) } }

/-- PWR_STATUS shows STANDBY. -/
def State.standbyShown (s : State) : State :=
  { s with pwr := { s.pwr with standby := true } }.setF PWR_STATUS PWR_STATUS_STATE 2

/-- The device goes to STANDBY (R647): outputs in their reset state, the references off (R267), line writes begun end and none begins. -/
def State.standbyEnter (s : State) : State :=
  let d := s.fld BOOT_SLUICE_STAT BOOT_SLUICE_STAT_DONE
  let s := (s.setF BOOT_SLUICE_STAT BOOT_SLUICE_STAT_DONE (if bitOf d 1 then d - 2 else d)).cellsUnreleased.refsOff
  (s.nvmBegun.standbyShown.refreshCells.twinBalls.lastLoss 5 0).occur 0x814

/-- A write of PWR_SBY (R647). -/
def State.sbyWrite (s : State) (q : Req) (v : Word) : State :=
  let s := s.regWrite q PWR_SBY v
  if fieldGet PWR_SBY_KEY v ≠ 0x5B ∨ !(q == .sup || q == .host) then s
  else
    let res (r : Nat) : State := (s.setF PWR_SBY_STAT PWR_SBY_STAT_RESULT r).occur 0x814
    if (s.mstate = mMember ∨ s.mstate = mLeaving) ∧ !s.fenced then res 1
    else if s.bit PWR_STATUS PWR_STATUS_PFL then res 2
    else s.standbyEnter

/-- ENTER_STANDBY. -/
def execEnterStandby (q : Req) (v : Word) (s : State) : Host.Outcome State Fault Refusal :=
  .next (s.guardWrite q PWR_SBY fun s => s.sbyWrite q v)

/-- A wake (R648): PWR_EN is driven high and the device begins again at R641, unless PFAIL_N holds it off. -/
def State.standbyWake (s : State) : State :=
  if !s.pwr.pfailN then { s with pwr := { s.pwr with wakeHeld := true } }
  else s.deviceReset s.straps true false true

/-- STANDBY_TIMER_WAKE (R648). -/
def execStandbyTimerWake (s : State) : Host.Outcome State Fault Refusal :=
  .next (if s.pwr.standby && s.fld PWR_SBY PWR_SBY_TIMER != 0 then s.standbyWake else s)

/-- WAKE_PIN (R480, R648): the first pin is recorded. -/
def execWakePin (n : Fin 256) (s : State) : Host.Outcome State Fault Refusal :=
  .next (if !s.pwr.standby || !s.bit (PIN_CFG n.val) PIN_CFG_WAKE then s
    else
      let s := if s.bit PIN_WAKE PIN_WAKE_VALID then s
        else (s.flag PIN_WAKE PIN_WAKE_VALID).setF PIN_WAKE PIN_WAKE_PIN n.val
      s.standbyWake)

/-- PFAIL_N_RISE (R648). -/
def execPfailNRise (s : State) : Host.Outcome State Fault Refusal :=
  .next (
    let s := { s with pwr := { s.pwr with pfailN := true } }
    if s.pwr.standby && s.pwr.wakeHeld then s.standbyWake else s)

/-! ### Temperature -/

/-- The highest of a list of readings. -/
def highest : List Int → Option Int
  | [] => none
  | x :: r => match highest r with | some y => some (max x y) | none => some x

/-- TWARN and THOT (R659, R660), with the highest reading in 1/8 °C. -/
def State.tempAct (s : State) (h : Int) : State :=
  let warn : Int := 8 * s.fld PWR_TLIM PWR_TLIM_TWARN
  let hot : Int := 8 * s.fld PWR_TLIM PWR_TLIM_THOT
  let was := s.bit PWR_STATUS PWR_STATUS_TWARN
  let s := if warn ≤ h then (if was then s else (s.flag PWR_STATUS PWR_STATUS_TWARN).powerLog 0x20)
    else if h ≤ warn - 16 then s.setF PWR_STATUS PWR_STATUS_TWARN 0 else s
  let s := s.setF PWR_STATUS PWR_STATUS_THOT (decide (hot ≤ h)).toNat
  let s := if hot ≤ h ∧ !s.pwr.hot then ({ s with pwr := { s.pwr with hot := true } }.fence 0x12).powerLog 0x21
    else if s.pwr.hot ∧ hot - 16 ≤ h ∧ !s.fenced then s.fence 0x12
    else s
  if h < hot - 16 then { s with pwr := { s.pwr with hot := false } } else s

/-- The readings in the registers (R658). -/
def State.tempShow (s : State) (l : List (BitVec 16)) : State :=
  (l.zipIdx.take 12).foldl (fun s (x, k) => s.put (PWR_TEMP k) (BitVec.ofNat 32 (2 ^ 31 + x.toNat))) s

/-- TEMP_READING (R658-R661). -/
def execTempReading (l : List (BitVec 16)) (s : State) : Host.Outcome State Fault Refusal :=
  .next (
    let s := s.tempShow l
    match highest ((l.take 12).map fun x => x.toInt) with
    | none => s
    | some h =>
      let old := sext 16 (s.fld PWR_TMAX PWR_TMAX_MAX)
      let s := s.setF PWR_TMAX PWR_TMAX_MAX (wrapTo 16 (if s.pwr.tmaxNew then h else max old h))
      let s := { s with pwr := { s.pwr with tmaxNew := false } }
      if s.pwr.inReset || s.pwr.standby then s
      else
        let s := s.tempAct h
        if 1000 ≤ h ∧ !s.pwr.tshut then { s.pfail 4 0 with pwr := { (s.pfail 4 0).pwr with tshut := true } } else s)

/-- TSHUT_RESET (R661): domain 27 and the sensors keep running, and the reset is held. -/
def execTshutReset (s : State) : Host.Outcome State Fault Refusal :=
  .next (if s.pwr.tshut then s.deviceReset s.straps true true true else s)

/-- A read of PWR_TMAX (R658). -/
def State.tmaxRead (s : State) : Word × State :=
  let (v, s) := s.regRead PWR_TMAX
  (v, { s with pwr := { s.pwr with tmaxNew := true } })

/-- PWR_TMAX_READ. -/
def execPwrTmaxRead (q : Req) (s : State) : Host.Outcome State Fault Refusal :=
  .next (s.guardRead q PWR_TMAX State.tmaxRead)

/-! ### Test access port (R687, R688) -/

/-- The ball of pulse generator n (Table 8.1): the scan cells drive it in EXTEST and HIGHZ (R688); pulled where it is
not driven. -/
def State.drvBall (s : State) (n : Nat) : Ball :=
  let pol := s.bit (DRV_CFG n) DRV_CFG_POL
  if s.tapDrives then s.scanCell (256 + n)
  else match s.pinState n with
    | 0 => .hiz
    | 1 => if s.bit (DRV_CFG n) DRV_CFG_SAFE then .hiz else .level pol
    | 2 => .level pol
    | _ => .level (match (s.pulse n).shot with | some x => x.pol == 0 | none => !pol)

/-- IDCODE. -/
def tapIdcode : Nat := 0x1512074D

/-- The boundary-scan register: 791 cells. -/
def tapCells : Nat := 791

/-- The level of a ball as its cell captures it; where nothing drives it, and of the xSPI balls and the control balls of
bank 0, whose levels no register shows, a free value. -/
def State.tapSample (s : State) (b : Nat) : Bool × State :=
  if b < 256 then (s.pinIn b, s)
  else
    let known : Option Bool := if b < 768 then (match s.drvBall (b - 256) with | .level x => some x | _ => none) else none
    match known with
    | some x => (x, s)
    | none => let (f, s) := s.free; (f % 2 == 1, s)

/-- The capture of every cell, cell 0 lowest. -/
def State.tapCapture (s : State) : Nat × State :=
  (List.range tapCells).foldl (fun (r, s) b => let (x, s) := s.tapSample b; (r + x.toNat * 2 ^ b, s)) (0, s)

/-- What a scan of the data register answers under an instruction: the identity, the captured cells, the bypass bit; of a
Velhus debug instruction the spec says nothing: a free value. -/
def State.tapShift (s : State) (ir : TapIr) : Nat × State :=
  match ir with
  | .idcode => (tapIdcode, s)
  | .bypass | .highz => (0, s)
  | .sample | .extest => s.tapCapture
  | .debug => s.free

/-- The instruction that acts (R612): under the debug lock all but BYPASS, IDCODE and SAMPLE/PRELOAD act as BYPASS. -/
def State.tapActs (s : State) (ir : TapIr) : TapIr :=
  match ir with
  | .extest | .highz | .debug => if s.debugLock then .bypass else ir
  | _ => ir

/-- JTAG_EXTEST (R687, R688): an instruction becomes active and its data register is scanned once; SAMPLE/PRELOAD and
EXTEST load the boundary-scan register; EXTEST and HIGHZ fence the device with cause 0x14 (log entry 90). -/
def execJtagExtest (s : State) (ir : TapIr := .extest) (scan : List (Fin 791 × Bool) := []) :
    Host.Outcome State Fault Refusal :=
  let ir := s.tapActs ir
  let (v, s) := s.tapShift ir
  let loads := ir == .sample || ir == .extest
  let cells := if loads then scan.foldl (fun t x => tblSet (fun _ => false) t x.1.val x.2) s.tap.scan else s.tap.scan
  let s := { s with tap := ⟨ir, cells, true⟩ }.answer (.value v)
  .next (if ir = .extest ∨ ir = .highz then s.fence 0x14 else s)

end Sys2Proof.Machine
end

