-- ==== Sys2Proof/Machine/Test.lean ====
section
/-! DEFINITION. The in-service test (R662-R671). -/

namespace Sys2Proof.Machine

/-- The items of a class, and the steps each takes in a pass (Table 19.6). -/
def tstItems (c : Nat) : Nat := match c with | 0 => 320 | 1 => 1024 | 2 => 3200 | _ => 544
def tstSteps (c : Nat) : Nat := if c = 1 then 4 else 1

/-- Is a class enabled? -/
def State.tstClass (s : State) (c : Nat) : Bool := bitOf (s.fld TST_CFG TST_CFG_CLS) c

/-- The ns left in an open window at the present velocity; none at standstill. -/
def State.windowLeft (s : State) (w : Nat) : Option Nat :=
  let f := (s.angle.extractLsb' 0 32).toNat
  let au := if 0 ≤ s.ang.act.omega then ((s.reg (ANG_IDLE_END w)).toNat + 2 ^ 32 - f) % 2 ^ 32
    else (f + 2 ^ 32 - (s.reg (ANG_IDLE_START w)).toNat) % 2 ^ 32
  if s.ang.act.omega = 0 then none else some (au * 65536 / s.ang.act.omega.natAbs)

/-- Does an open window over a tile have 2.7 µs left (R663), every drive output in its scope inactive (R83)? -/
def State.windowAmple (s : State) (t : Nat) : Bool :=
  s.ang.windows.any fun w => bitOf (s.fld (ANG_IDLE_CTL w) ANG_IDLE_CTL_TILES) t
    && s.outputsIdle (s.fld (ANG_IDLE_CTL w) ANG_IDLE_CTL_TILES)
    && (match s.windowLeft w with | some n => decide (2700 ≤ n) | none => true)

/-- Does an urgent entry of a cell's group take its trigger from the cell's comparators (R663)? -/
def State.weirNames (s : State) (u : Nat) : Bool :=
  (List.range 4).any fun k => s.fld (CVG_URG_TRIG (u / 8) k) CVG_URG_TRIG_SRC == 2
    && s.fld (CVG_URG_TRIG (u / 8) k) CVG_URG_TRIG_CELL == u % 32

/-- Is an item free to be tested now (Table 19.6, R373, R663-R665)? -/
def State.tstFree (s : State) (c i : Nat) : Bool :=
  decide (i < tstItems c) && match c with
  | 0 =>
    s.fld (CVG_EDDY (i / 5)) CVG_EDDY_STATE == 2 && s.fld (CVG_EDDY (i / 5)) CVG_EDDY_SLICE == i % 5
      && (s.group (i / 5)).swap.isNone && !s.bit (CVG_TDAC (i / 5)) CVG_TDAC_EN
  | 1 => s.windowAmple (i / 64) && !s.weirNames (i / 2) && !s.bit (CVG_TDAC (i / 16)) CVG_TDAC_EN
  | 2 => (hasSource (i / 2) || hasDest (i / 2)) && s.fld (CXB_OWN (i / 2)) CXB_OWN_MODE == 0
      && s.routeNow (i / 2) == routeNone && (s.destsOf (i / 2)).isEmpty
  | _ =>
    let m := MEM_SRAM_MAP (i / 34)
    match i % 34 with
    | 32 => !s.bit m MEM_SRAM_MAP_SP0_USED
    | 33 => !s.bit m MEM_SRAM_MAP_SP1_USED
    | b => bitOf (s.fld (TST_SRAM_FREE (i / 34)) TST_SRAM_FREE_FREE) b

/-- How often an item's step has been done in this pass. -/
def State.tstDone (s : State) (c i : Nat) : Nat := s.tst.done.count (c, i)

/-- The steps of a pass. -/
def State.tstTotal (s : State) : Nat :=
  ((List.range 4).map fun c => if s.tstClass c then tstItems c * tstSteps c else 0).sum

/-- The items of enabled classes that are not done. -/
def State.tstLeft (s : State) : List (Nat × Nat) :=
  ((List.range 4).filter s.tstClass).flatMap fun c =>
    ((List.range (tstItems c)).filter fun i => s.tstDone c i < tstSteps c).map fun i => (c, i)

/-- PERIOD in ns. -/
def State.tstPeriod (s : State) : Nat := s.fld TST_CFG TST_CFG_PERIOD * 3600000000000

/-- May the test run (R662)? -/
def State.tstOn (s : State) : Bool :=
  s.bit TST_CFG TST_CFG_EN && s.bit CAL_STATUS CAL_STATUS_PUDONE && s.outputsReleased && !s.fenced
    && !s.bit PWR_STATUS PWR_STATUS_PFL

/-- The next pass may begin: none has begun, or PERIOD hours after the start of the last (R666). -/
def State.passDue (s : State) : Bool :=
  match s.tst.began with
  | some b => decide (b + s.tstPeriod ≤ s.ns)
  | none => true

/-- A pass begins if none runs. -/
def State.passBegin (s : State) : State :=
  if s.tst.passing then s
  else { s with tst := { s.tst with
    passing := true, done := [], failed := 0, aborted := 0, began := some s.ns } }.put TST_PROG 0

/-- TST_STEP_START (R662-R666). -/
def execTstStepStart (cls : Fin 4) (i : BitVec 16) (s : State) : Host.Outcome State Fault Refusal :=
  .next (if !s.tstOn || s.tst.run.isSome || !s.tstClass cls.val || !(s.tst.passing || s.passDue) then s
    else
      let was := s
      let s := s.passBegin
      if !s.tstFree cls.val i.toNat || !decide (s.tstDone cls.val i.toNat < tstSteps cls.val) then was
      else
        let s := { s with tst := { s.tst with run := some (cls.val, i.toNat) } }
        let s := (s.flag TST_STATUS TST_STATUS_RUNNING).setF TST_STATUS TST_STATUS_CLASS cls.val
        if cls.val = 1 then s.pairSync (i.toNat / 2) else s)

/-- A pass is complete (R666, R668): items that were never free are counted, a summary is logged. -/
def State.passEnd (s : State) (notFree : Nat) : State :=
  let steps := s.tst.done.length
  let s := s.healthLog 0x1F [0, 3, steps, s.tst.failed, notFree, s.tst.aborted]
  let s := { s with tst := { s.tst with passing := false } }
  (((s.setF TST_NOTFREE TST_NOTFREE_NF (min notFree 65535)).setF TST_STATUS TST_STATUS_OVERDUE 0).inc TST_PASSES_LO).occur
    0x821

/-- A pass ends when no item is left, or when its time is over and none of those left is free (log entry 50). -/
def State.passCheck (s : State) : State :=
  let l := s.tstLeft
  let timeUp := match s.tst.began with | some b => decide (b + s.tstPeriod ≤ s.ns) | none => false
  if !s.tst.passing then s
  else if l.isEmpty then s.passEnd 0
  else if timeUp && l.all (fun x => !s.tstFree x.1 x.2) then s.passEnd l.length
  else s

/-- A failing step (R668). -/
def State.tstFail (s : State) (c i : Nat) (expected measured limit : Word) : State :=
  let s := s.healthLog (0x10 + c) [i, 2, expected.toNat, measured.toNat, limit.toNat]
  let s := { s with tst := { s.tst with failed := s.tst.failed + 1 } }
  let s := if s.bit TST_FREC TST_FREC_VALID then s
    else s.put TST_FREC (BitVec.ofNat 32 (2 ^ 31 + c * 2 ^ 16 + i))
  ((s.inc TST_FAILS_LO).flag TST_STATUS TST_STATUS_FAIL).occur 0x820

/-- A unit back from its test: a dual unit synchronises its pair, a bank's contents are free (R665). -/
def State.tstRestored (s : State) (c i : Nat) : State :=
  let s := if c = 1 then s.pairSync (i / 2) else s
  if c = 3 ∧ i % 34 < 32 then s.bankTested (i / 34) (i % 34) else s

/-- A finished step counts towards the pass (R666). -/
def State.tstCounted (s : State) (c i : Nat) : State :=
  let s := { s with tst := { s.tst with done := (c, i) :: s.tst.done } }
  if s.tstTotal = 0 then s
  else s.setF TST_PROG TST_PROG_DONE (min 1000 (s.tst.done.length * 1000 / s.tstTotal))

/-- The end of the test of item `i` of class `c` (R665): the unit goes back to work, the step is counted, a failing one recorded. -/
def State.tstStepDone (s : State) (c i : Nat) (pass : Bool) (expected measured limit : Word) : State :=
  let s := (s.tstLeave.tstRestored c i).tstCounted c i
  (if pass then s else s.tstFail c i expected measured limit).passCheck

/-- TST_STEP_END (R668): a free bank's contents are undefined after its test (R665). -/
def execTstStepEnd (pass : Bool) (expected measured limit : Word) (s : State) : Host.Outcome State Fault Refusal :=
  .next (match s.tst.run with
    | none => s
    | some (c, i) => s.tstStepDone c i pass expected measured limit)

/-- TST_OVERDUE (R666): the pass is complete if no item left is free; else it is overdue and goes on. -/
def execTstOverdue (s : State) : Host.Outcome State Fault Refusal :=
  .next (match s.tst.began with
    | none => s
    | some b =>
      if !s.tst.passing || s.ns < b + s.tstPeriod then s
      else
        let s := s.passCheck
        if s.tst.passing then s.flag TST_STATUS TST_STATUS_OVERDUE else s)

/-- TST_PROG.ELAPSED (R666). -/
def State.tstElapsed (s : State) : State :=
  match s.tst.began with
  | some b => if s.tst.passing then s.setF TST_PROG TST_PROG_ELAPSED (min 65535 ((s.ns - b) / 3600000000000)) else s
  | none => s

/-- A write of CVG_TDAC ends a step that uses the group's test DAC (R664); the output settles (R277, R278). -/
def State.tdacWrite (s : State) (q : Req) (g : Nat) (v : Word) : State :=
  let old := s.tdacValue g
  let s := (s.tstAside fun c i => (c == 0 && i / 5 == g) || (c == 1 && i / 16 == g)).regWrite q (CVG_TDAC g) v
  if s.tdacValue g = old then s else s.tdacSettle g old

end Sys2Proof.Machine
end

