-- ==== Sys2Proof/Machine/BootCore.lean ====
section
/-! DEFINITION. Sluice (R605-R609), key commands (R610-R612), the integrity scan (R613-R617). -/

namespace Sys2Proof.Machine

/-! ### Sluice -/

/-- The domains the LOCK step waits for (R608). -/
def State.lockMask (s : State) : Nat :=
  ([0, 1, 10, 11, 12, 13, 14, 15, 23, 24, 25, 27, 28]
    ++ ((List.range 8).filter fun k => s.bit (LGC_GC k) LGC_GC_EN).map (2 + ·)
    ++ ((List.range 2).filter fun c => s.fld (MEM_DDR_CFG c) MEM_DDR_CFG_SIZE != 0).map (16 + ·)
    ++ (if s.bit HOST_STATUS HOST_STATUS_LINKUP then [18] else [])).foldl (fun m d => m + 2 ^ d) 0

/-- Sluice begins (R607). -/
def State.sluiceGo (s : State) : State :=
  if s.boot.sluice then s.flag BOOT_SLUICE_STAT BOOT_SLUICE_STAT_BADOP
  else
    ({ s with boot := { s.boot with sluice := true } }.setF BOOT_SLUICE_STAT BOOT_SLUICE_STAT_POS 0).put BOOT_LOCKMASK
      (BitVec.ofNat 32 s.lockMask)

/-- Do POS1 to POS3 name each of the steps 1, 2 and 3 once (R606)? -/
def posOk (v : Word) : Bool :=
  let l := [fieldGet BOOT_SLUICE_CTL_POS1 v, fieldGet BOOT_SLUICE_CTL_POS2 v, fieldGet BOOT_SLUICE_CTL_POS3 v]
  [1, 2, 3].all l.contains

/-- A write of BOOT_SLUICE_CTL (R606, R607, R609): once Sluice has begun, other positions are ignored and set BADOP. -/
def State.sluiceCtlWrite (s : State) (q : Req) (v : Word) : State :=
  if !posOk v then s.rsvd q BOOT_SLUICE_CTL true
  else
    let go := fieldGet BOOT_SLUICE_CTL_GO v = 1 ∧ (q = .sup ∨ q = .jtag)
    if s.boot.sluice then
      let m : Word := 0x003F0000
      let bad := v &&& m != s.reg BOOT_SLUICE_CTL &&& m
      let s := s.regWrite q BOOT_SLUICE_CTL ((v &&& ~~~ m) ||| (s.reg BOOT_SLUICE_CTL &&& m))
      if bad ∨ go then s.flag BOOT_SLUICE_STAT BOOT_SLUICE_STAT_BADOP else s
    else
      let s := s.regWrite q BOOT_SLUICE_CTL v
      if go then s.sluiceGo else s

/-- A write of BOOT_SLUICE_DLYn (R607). -/
def State.sluiceDlyWrite (s : State) (q : Req) (a : Nat) (v : Word) : State :=
  if s.boot.sluice then s.flag BOOT_SLUICE_STAT BOOT_SLUICE_STAT_BADOP else s.regWrite q a v

/-- SLUICE_GO: a write of 1 to BOOT_SLUICE_CTL.GO with the other fields as they stand. -/
def execSluiceGo (q : Req) (s : State) : Host.Outcome State Fault Refusal :=
  .next (s.guardWrite q BOOT_SLUICE_CTL fun s =>
    s.sluiceCtlWrite q ((s.reg BOOT_SLUICE_CTL &&& 0x3FFFFFFF) ||| 0x80000000))

/-- PROGRDY: a write of 1 to BOOT_SLUICE_CTL.PROGRDY. -/
def execProgrdy (q : Req) (s : State) : Host.Outcome State Fault Refusal :=
  .next (s.guardWrite q BOOT_SLUICE_CTL fun s =>
    s.sluiceCtlWrite q ((s.reg BOOT_SLUICE_CTL &&& 0x3FFFFFFF) ||| 0x40000000))

/-- Are all domains of BOOT_LOCKMASK locked? -/
def State.allLocked (s : State) : Bool := (List.range 29).all fun d => !bitOf s.lockMask d || bitOf (s.reg SYS_CLK_LOCK).toNat d

/-- SLUICE_STEP (R605-R609): the step whose turn it is, its delay over. -/
def execSluiceStep (s : State) : Host.Outcome State Fault Refusal :=
  .next (match s.sluiceStep with
    | some 0 => if s.allLocked then s.sluiceDone 0 else s
    | some 1 => s.outrel
    | some k => s.sluiceDone k
    | none => s)

/-- OUTREL (R609). -/
def execOutrel (s : State) : Host.Outcome State Fault Refusal := .next s.outrel

/-- SLUICE_LOCK_TIMEOUT (R608). -/
def execSluiceLockTimeout (s : State) : Host.Outcome State Fault Refusal :=
  .next (if s.sluiceStep == some 0 && !s.allLocked then (s.flag BOOT_SLUICE_STAT BOOT_SLUICE_STAT_FAIL).occur 0x7F3 else s)

/-! ### Keys (R610-R612) -/

/-- The words of a line of the identity region; free where it cannot be read (log entry 2). -/
def State.keyLine (s : State) (n : Nat) : List Word × State :=
  match s.nvmRead 0x100 (nvmKeyLine + n) with
  | (some l, s) => (l, s)
  | (none, s) =>
    let (f, s) := s.free
    ((List.range 16).map fun k => BitVec.ofNat 32 (f / 2 ^ (32 * k)), s)

/-- The line an operation writes, and its new words (Table 17.9, Table 17.10). -/
def State.keyWords (s : State) (op arg : Nat) : (Nat × List Word) × State :=
  if op = 1 then
    let (l, s) := s.keyLine 1
    ((1, (List.range 12).map (fun k => s.reg (BOOT_KEYBUF k)) ++ l.drop 12), s)
  else
    let (l, s) := s.keyLine 0
    let flag (k : Nat) : Word := l.getD 4 0 ||| BitVec.ofNat 32 (2 ^ k)
    let w := match op with
      | 2 => l.set 2 ((l.getD 2 0 &&& 0xFFFF0000) ||| BitVec.ofNat 32 (arg / 512 % 2 * 2 ^ 15 + arg % 512))
      | 3 => l.set 3 (s.reg (BOOT_KEYBUF 0))
      | 4 => l.set 4 (flag 0)
      | _ => l.set 4 (flag 1)
    ((0, w), s)

/-- Is an operation refused (Table 17.10)? -/
def State.keyRefused (s : State) (op : Nat) : Bool :=
  let lock := s.bit BOOT_KEYSTAT BOOT_KEYSTAT_KLOCK
  match op with
  | 1 => lock
  | 3 => lock || s.fld (BOOT_KEYBUF 0) BOOT_KEYBUF_DATA % 256 != 0
  | 4 => !s.bit BOOT_KEYSTAT BOOT_KEYSTAT_HASHSET
  | _ => false

/-- A key command ends: 0 DONE, 1 REFUSED, 2 NVM_FAIL. -/
def State.keyResult (s : State) (r : Nat) : State := s.setF BOOT_KEYSTAT BOOT_KEYSTAT_RESULT r

/-- A write of BOOT_KEYCMD (R611). -/
def State.keyCmdWrite (s : State) (q : Req) (v : Word) : State :=
  let s := s.regWrite q BOOT_KEYCMD v
  let op := fieldGet BOOT_KEYCMD_OP v
  if op = 0 ∨ op = 7 then s
  else if !bootMay q || s.bit BOOT_KEYSTAT BOOT_KEYSTAT_BUSY || s.keyRefused op then s.keyResult 1
  else if op = 6 then (s.flag BOOT_KEYSTAT BOOT_KEYSTAT_SESSION).keyResult 0
  else if (s.nvmServing nvmKeyLine).isEmpty then s.keyResult 2
  else
    let arg := fieldGet BOOT_KEYCMD_ARG v
    let ((n, w), s) := s.keyWords op arg
    let s := { s with boot := { s.boot with key := some (op, arg) } }
    (s.nvmQueue (nvmKeyLine + n) w .key).flag BOOT_KEYSTAT BOOT_KEYSTAT_BUSY

/-- The line of a key command is durable, or failed (R611, R612); HASHSET shows the stored hash. -/
def State.keyEnd (s : State) (ok : Bool) : State :=
  match s.boot.key with
  | none => s
  | some (op, _) =>
    let s := { s with boot := { s.boot with key := none } }.setF BOOT_KEYSTAT BOOT_KEYSTAT_BUSY 0
    if !ok then s.keyResult 2
    else
      let s := match op with
        | 1 => s.setF BOOT_KEYSTAT BOOT_KEYSTAT_HASHSET
            ((s.nvmLine (nvmKeyLine + 1)).cur.data.take 12 |>.any fun w => w != 0).toNat
        | 4 => s.flag BOOT_KEYSTAT BOOT_KEYSTAT_KLOCK
        | 5 => s.flag BOOT_KEYSTAT BOOT_KEYSTAT_DLOCK
        | _ => s
      s.keyResult 0

/-- The word of a key command. -/
def keyWord (op arg : Nat) : Word := BitVec.ofNat 32 (op * 2 ^ 29 + arg)

/-- SET_HASH. -/
def execSetHash (q : Req) (s : State) : Host.Outcome State Fault Refusal :=
  .next (s.guardWrite q BOOT_KEYCMD fun s => s.keyCmdWrite q (keyWord 1 0))
/-- SET_INDEX. -/
def execSetIndex (q : Req) (arg : BitVec 10) (s : State) : Host.Outcome State Fault Refusal :=
  .next (s.guardWrite q BOOT_KEYCMD fun s => s.keyCmdWrite q (keyWord 2 arg.toNat))
/-- SET_OXBOW. -/
def execSetOxbow (q : Req) (s : State) : Host.Outcome State Fault Refusal :=
  .next (s.guardWrite q BOOT_KEYCMD fun s => s.keyCmdWrite q (keyWord 3 0))
/-- LOCK_KEY. -/
def execLockKey (q : Req) (s : State) : Host.Outcome State Fault Refusal :=
  .next (s.guardWrite q BOOT_KEYCMD fun s => s.keyCmdWrite q (keyWord 4 0))
/-- LOCK_DEBUG. -/
def execLockDebug (q : Req) (s : State) : Host.Outcome State Fault Refusal :=
  .next (s.guardWrite q BOOT_KEYCMD fun s => s.keyCmdWrite q (keyWord 5 0))
/-- SESSION. -/
def execSession (q : Req) (s : State) : Host.Outcome State Fault Refusal :=
  .next (s.guardWrite q BOOT_KEYCMD fun s => s.keyCmdWrite q (keyWord 6 0))

/-! ### Configuration integrity (R613-R617) -/

/-- Does the device hold the frame (R613)? -/
def frameHeld (id : Nat) : Bool :=
  if id < 0x2000000 then (List.range 32).any fun j => hasRws (fieldsAt (id * 128 + 4 * j))
  else decide (0x80000000 ≤ id ∧ id < 0x80001000)

/-- The record of a cell (Table 10.3). -/
def cellRecord (c : LCell) : List Byte :=
  bytesOf 8 c.lut.toNat ++ (c.sel ++ List.replicate (11 - c.sel.length) 0).flatMap (bytesOf 2)
    ++ bytesOf 1 (c.mode + 2 * c.comb + 8 * c.clk + 128 * c.async.toNat)
    ++ bytesOf 1 (c.d0 + 4 * c.d1 + 16 * c.init0.toNat + 32 * c.init1.toNat + 64 * c.srv0.toNat + 128 * c.srv1.toNat)
    ++ List.replicate 32 0

/-- Bits of a frame of the configuration change. -/
def State.frameXor (s : State) (id : Nat) (d : BitVec 1024) : State :=
  if d = 0 then s
  else if id < 0x2000000 then
    (List.range 32).foldl (fun s j =>
      let a := id * 128 + 4 * j
      let m := d.extractLsb' (32 * j) 32 &&& rwsMask (fieldsAt a)
      if m = 0 then s else s.put a (s.reg a ^^^ m)) s
  else
    [0, 1].foldl (fun s k =>
      let g := 2 * (id - 0x80000000) + k
      let c := s.lcell g
      let l := (cellRecord c).zipIdx.map fun (b, n) => b ^^^ d.extractLsb' (512 * k + 8 * n) 8
      s.setLcell g { readCell l with
        q0 := c.q0
        q1 := c.q1
        fclk := c.fclk }) s

/-- The essential bits of a frame (R617). -/
def State.essential (s : State) (id : Nat) : BitVec 1024 :=
  match tblGet (fun _ => none) s.boot.ess id with
  | some m => m
  | none => BitVec.allOnes 1024

/-- The lowest set bit. -/
def lowestBit (d : BitVec 1024) : Nat := ((List.range 1024).find? fun k => d.getLsbD k).getD 0

/-- A frame differs from its reference copy (R616). -/
def State.upsetFound (s : State) (id : Nat) (d : BitVec 1024) : State :=
  let ess := d &&& s.essential id != 0
  let rep := s.bit BOOT_CI_CFG BOOT_CI_CFG_REPAIR
  let s := if ess then (s.flag BOOT_CI_STATUS BOOT_CI_STATUS_ALARM).inc BOOT_CI_ESS_LO
    else (s.inc BOOT_CI_NESS_LO).occur 0x7F1
  let s := if s.bit BOOT_CI_REC BOOT_CI_REC_VALID then s
    else (s.put BOOT_CI_REC_ID (BitVec.ofNat 32 id)).put BOOT_CI_REC
      (BitVec.ofNat 32 (2 ^ 31 + ess.toNat * 2 ^ 30 + rep.toNat * 2 ^ 29 + lowestBit d))
  if rep then
    { (s.frameXor id d).inc BOOT_CI_REP_LO with
      boot := { ((s.frameXor id d).inc BOOT_CI_REP_LO).boot with upsets := tblDrop s.boot.upsets id } }
  else if ess && s.bit BOOT_CI_CFG BOOT_CI_CFG_FENCE then s.fence 0x11
  else s

/-- CI_SCAN_FRAME (R615, R616): `diff` are the bits by which the frame is found to differ from its reference copy,
`overlap` that a legitimate write met the read, `refBad` that the reference copy is uncorrectable. -/
def execCiScanFrame (id : Word) (diff : BitVec 1024) (overlap refBad : Bool) (s : State) :
    Host.Outcome State Fault Refusal :=
  let n := id.toNat
  let skip := decide (0x80000000 ≤ n) && s.rgRebuilt ((n - 0x80000000) / 16)
  .next (if !s.bit BOOT_CI_CFG BOOT_CI_CFG_EN || s.epState == 4 || !frameHeld n || skip || overlap then s
    else
      let s := s.frameXor n (diff ^^^ tblGet (fun _ => 0) s.boot.upsets n)
      let s := { s with boot := { s.boot with upsets := tblSet (fun _ => 0) s.boot.upsets n diff } }
      if diff = 0 then s
      else if refBad then s.flag BOOT_CI_STATUS BOOT_CI_STATUS_REFERR
      else s.upsetFound n diff)

end Sys2Proof.Machine
end

