-- ==== Sys2Proof/Machine/HostRegs.lean ====
section
/-! DEFINITION. The host's own registers (chapter 16): queue pairs and their doorbells (R554-R559), the management
mailbox (R584), the UART (R585), the PCI Express link and PERST# (R551, R587). -/

namespace Sys2Proof.Machine

/-! ### Queue pairs (R554-R559, Table 16.12) -/

/-- The register of a queue pair at an offset of BAR0. -/
def qpKey (p off : Nat) : Nat := 0x500000000 + p * 0x1000 + off

/-- A reserved bit or encoding of a queue pair's registers (Table 16.12). -/
def State.qpErr (s : State) (p : Nat) : State := s.flag (QP_STATUS p) QP_STATUS_ERR

/-- A refused doorbell (R559). -/
def State.qpBell (s : State) (p : Nat) : State := (s.qpErr p).occur 0x7E6

/-- May a queue pair be enabled (R554)? -/
def State.qpAllowed (s : State) (p : Nat) : Bool :=
  p == pfCode || bitOf (s.reg (HOST_QP_ALLOW (p / 32))).toNat (p % 32)

/-- Is a queue pair enabled? -/
def State.qpOn (s : State) (p : Nat) : Bool := s.bit (QP_CFG p) QP_CFG_EN

/-- The distance from one index of a ring to another. -/
def ringDist (size a b : Nat) : Nat := (b + size - a % size) % size

/-- QP_CFG (R554-R557): setting EN starts both queues, clearing it disables the pair; while EN is 1 no other write is
taken. -/
def State.qpCfg (s : State) (p : Nat) (v : Word) : State :=
  let on := fieldGet QP_CFG_EN v = 1
  if s.qpOn p then
    (if on then s.qpErr p else ({ s with regs := tblSet resetWord s.regs (QP_CFG p) (v &&& 0x0003FF00) }).qpDisable p)
  else if !decide on then s.put (QP_CFG p) (v &&& 0x0003FF00)
  else if !s.qpAllowed p then s.qpErr p
  else (s.put (QP_CFG p) (v &&& 0x8003FF00)).setQp p Qp.reset

/-- QP_SQ_TAIL (R559): the tail may move up to the entry before the head. -/
def State.sqTail (s : State) (p v : Nat) : State :=
  let x := s.qp p
  let n := s.sqSize p
  if !s.qpOn p || !decide (v < n) || decide (ringDist n x.sqHead v < ringDist n x.sqHead x.sqTail) then s.qpBell p
  else s.setQp p { x with sqTail := v }

/-- QP_CQ_HEAD (R553, R559): the head may move up to the tail. -/
def State.cqHead (s : State) (p v : Nat) : State :=
  let x := s.qp p
  let n := s.cqSize p
  if !s.qpOn p || !decide (v < n) || decide (ringDist n x.cqHead x.cqTail < ringDist n x.cqHead v) then s.qpBell p
  else s.setQp p { x with cqHead := v, sent := false }

/-- A write to a queue pair's registers (Table 16.12). -/
def State.qpWrite (s : State) (p off : Nat) (v : Word) : State :=
  match descOf (qpKey p off) with
  | none => s.qpErr p
  | some r =>
    if s.halted 18 then s
    else if reservedEncoding r.fields v then s.qpErr p
    else
      let s := if (v &&& reservedBits r.fields) != 0 then s.qpErr p else s
      match off with
      | 0x10 => s.qpCfg p v
      | 0x18 => s.sqTail p (fieldGet QP_SQ_TAIL_TAIL v)
      | 0x1C => s.cqHead p (fieldGet QP_CQ_HEAD_HEAD v)
      | _ => s.put (qpKey p off) (writeActive r.fields (s.reg (qpKey p off)) v)

/-- QP_ENABLE (R557): a write of the word with EN set. -/
def execQpEnable (p : Fin 257) (v : Word) (s : State) : Host.Outcome State Fault Refusal :=
  .next (s.qpWrite p.val 0x10 (v ||| 0x80000000))
/-- QP_DISABLE (R557): a write that clears EN of an enabled pair. -/
def execQpDisable (p : Fin 257) (s : State) : Host.Outcome State Fault Refusal :=
  .next (if s.qpOn p.val then s.qpWrite p.val 0x10 (s.reg (QP_CFG p.val) &&& 0x7FFFFFFF) else s)
/-- SQ_DOORBELL (R559). -/
def execSqDoorbell (p : Fin 257) (v : Word) (s : State) : Host.Outcome State Fault Refusal :=
  .next (s.qpWrite p.val 0x18 v)
/-- CQ_DOORBELL (R553, R559). -/
def execCqDoorbell (p : Fin 257) (v : Word) (s : State) : Host.Outcome State Fault Refusal :=
  .next (s.qpWrite p.val 0x1C v)

/-- A write to HOST_QP_ALLOW; QP_STATUS.ALLOWED shows it. -/
def State.qpAllowWrite (s : State) (q : Req) (n : Nat) (v : Word) : State :=
  let s := s.regWrite q (HOST_QP_ALLOW n) v
  (List.range 32).foldl (fun s b => s.setF (QP_STATUS (32 * n + b)) QP_STATUS_ALLOWED (v.getLsbD b).toNat) s

/-! ### Management mailbox (R584) -/

/-- A write to HOST_MGT: DONE is the supervisor's. -/
def State.mgtWrite (s : State) (q : Req) (v : Word) : State :=
  let done := fieldGet HOST_MGT_DONE v = 1 ∧ (q = .sup ∨ q = .jtag)
  let s := s.regWrite q HOST_MGT (v &&& 0xDFFFFFFF)
  let s := if done then s.setF HOST_MGT HOST_MGT_BUSY 0 else s
  if fieldGet HOST_MGT_GO v = 1 then (s.flag HOST_MGT HOST_MGT_BUSY).occur 0x7E4 else s

/-- MGT_GO (R584). -/
def execMgtGo (q : Req) (s : State) : Host.Outcome State Fault Refusal :=
  .next (s.guardWrite q HOST_MGT fun s => s.mgtWrite q 0x80000000)
/-- MGT_DONE (R584). -/
def execMgtDone (q : Req) (s : State) : Host.Outcome State Fault Refusal :=
  .next (s.guardWrite q HOST_MGT fun s => s.mgtWrite q 0x20000000)

/-! ### UART (R585) -/

/-- The UART runs while domain 28 is locked. -/
def State.uartRuns (s : State) : Bool := bitOf (s.reg SYS_CLK_LOCK).toNat 28

/-- HOST_UART_STAT.TXFULL and RXAV follow the FIFOs. -/
def State.setUart (s : State) (tx rx : List Byte) : State :=
  let s := { s with host := { s.host with uartTx := tx, uartRx := rx } }
  (s.setF HOST_UART_STAT HOST_UART_STAT_TXFULL (decide (64 ≤ tx.length)).toNat).setF
    HOST_UART_STAT HOST_UART_STAT_RXAV (!rx.isEmpty).toNat

/-- A write to HOST_UART_DATA: ignored at a full FIFO. -/
def State.uartWrite (s : State) (q : Req) (v : Word) : State :=
  let s := if (v &&& 0xFFFFFF00) != 0 then s.rsvd q HOST_UART_DATA false else s
  if 64 ≤ s.host.uartTx.length then s else s.setUart (s.host.uartTx ++ [v.extractLsb' 0 8]) s.host.uartRx

/-- A read of HOST_UART_DATA. -/
def State.uartRead (s : State) : Word × State :=
  match s.host.uartRx with
  | [] => (0, s)
  | c :: r => (c.zeroExtend 32, s.setUart s.host.uartTx r)

/-- UART_TX_WRITE. -/
def execUartTxWrite (q : Req) (ch : Byte) (s : State) : Host.Outcome State Fault Refusal :=
  .next (s.guardWrite q HOST_UART_DATA fun s => s.uartWrite q (ch.zeroExtend 32))
/-- UART_RX_READ. -/
def execUartRxRead (q : Req) (s : State) : Host.Outcome State Fault Refusal :=
  .next (s.guardRead q HOST_UART_DATA State.uartRead)
/-- UART_RX_CHAR. -/
def execUartRxChar (ch : Byte) (s : State) : Host.Outcome State Fault Refusal :=
  .next (if !s.uartRuns then s
    else if s.host.uartRx.length < 64 then s.setUart s.host.uartTx (s.host.uartRx ++ [ch])
    else s.flag HOST_UART_STAT HOST_UART_STAT_OVR)
/-- UART_CHAR_SENT. -/
def execUartCharSent (s : State) : Host.Outcome State Fault Refusal :=
  .next (match s.uartRuns, s.host.uartTx with
    | true, c :: r => (s.setUart r s.host.uartRx).send (.uart c)
    | _, _ => s)

/-! ### PCI Express -/

/-- PCIE_LINK_CHANGE (R551). -/
def execPcieLinkChange (up : Bool) (speed : Fin 4) (width : Fin 3) (s : State) : Host.Outcome State Fault Refusal :=
  .next (((s.setF HOST_STATUS HOST_STATUS_LINKUP up.toNat).setF HOST_STATUS HOST_STATUS_SPEED speed.val).setF
    HOST_STATUS HOST_STATUS_WIDTH width.val)

/-- PERST (R587, R557): every queue pair is disabled. -/
def execPerst (s : State) : Host.Outcome State Fault Refusal :=
  .next ((List.range 257).foldl (fun s p => if s.qpOn p then s.qpDisable p else s) s)

end Sys2Proof.Machine
end

