-- ==== Sys2Proof/Machine/Bus.lean ====
section
/-! DEFINITION. The register bus: a write or a read of any register by any requester (sections 0.6, 0.7, R440-R442),
counters read and loaded (section 1.7), submissions to the DMA engines (R417). -/

namespace Sys2Proof.Machine

/-! ### Where an address leads -/

/-- The model's key of the register a requester reaches at an address: the windows of INST (section 12.9) and IRQ follow
the requester's own selections. -/
def State.busKey (s : State) (q : Req) (a : Nat) : Nat :=
  let r := reqCode q
  let n := s.fld (IRQ_TSEL r) IRQ_TSEL_SRC
  if a = 0xF0060004 then INST_SEL r
  else if a = 0xF0060010 then INST_UOWN_SEL r
  else if a = 0xF0060014 then
    INST_UOWN (s.fld (INST_UOWN_SEL r) INST_UOWN_SEL_KIND) (s.fld (INST_UOWN_SEL r) INST_UOWN_SEL_INDEX)
  else if 0xF0060100 ≤ a ∧ a < 0xF0060300 then INST_CTL (s.fld (INST_SEL r) INST_SEL_INST) + (a - 0xF0060100)
  else if a = irqClaimAddr then IRQ_CLAIM r
  else if a = irqTselAddr then IRQ_TSEL r
  else if a = 0xF0040014 then IRQ_TCTL n
  else if 0xF0040020 ≤ a ∧ a < 0xF0040040 then IRQ_TMASK n ((a - 0xF0040020) / 4)
  else if a = 0xF0070050 then MEM_DMA_RES r
  else a

/-- What the register at a key is besides its fields. -/
def kindAt (k : Nat) : RegKind :=
  match descOf k with
  | some r => r.kind
  | none => .plain

/-! ### Counters (R45-R49, R56, R57) -/

/-- The address of the first register of the counter or pair at a key. -/
def ctrBase (k : Nat) : Nat :=
  match kindAt k with
  | .counterHi | .pairHi | .posHi | .timeHi => k - 4
  | .timeHi2 => k - 8
  | _ => k

/-- Is the counter an angle of a source (R57)? -/
def isSrcPos (k : Nat) : Bool := (List.range 4).any fun n => k == ANG_SRC_POS_LO n

/-- The live value of a counter or pair: its count, and OVF. -/
def State.ctrLive (s : State) (k : Nat) : Nat × Bool :=
  if k = ANG_TIME_LO then (s.ang.time.toNat, s.ang.timeOvf)
  else if k = ANG_POS_LO then (s.angle.toNat, false)
  else if isSrcPos k then
    ((s.src ((k - ANG_SRC_POS_LO 0) / 0x80)).loop.vis.toNat / 2 ^ 16, (s.ctr k).ovf)
  else match kindAt k with
    | .pairLo => ((s.reg (k + 4)).toNat * 2 ^ 32 + (s.reg k).toNat, false)
    | _ => ((s.ctr k).count.toNat, (s.ctr k).ovf)

/-- Where a requester's shadow of the register at a key stands (R46). -/
def shadowKey (q : Req) (k : Nat) : Nat := k * 512 + reqCode q

/-- The bits above [31] of a count that a high register holds, with OVF in the topmost one. -/
def hiWord (k n : Nat) (ovf : Bool) : Word :=
  match kindAt k with
  | .timeHi => BitVec.ofNat 32 (n / 2 ^ 32 % 2 ^ 16)
  | .timeHi2 => BitVec.ofNat 32 (ovf.toNat * 2 ^ 31 + n / 2 ^ 48 % 2 ^ 16)
  | .counterHi => BitVec.ofNat 32 (ovf.toNat * 2 ^ 31 + n / 2 ^ 32 % 2 ^ 16)
  | _ => BitVec.ofNat 32 (n / 2 ^ 32)

/-- The high registers of the counter or pair whose first register is at a key. -/
def hiKeys (k : Nat) : List Nat := if k = ANG_TIME_LO then [k + 4, k + 8] else [k + 4]

/-- A read of a low register (R46): the live low bits, and the requester's shadows. -/
def State.ctrLoRead (s : State) (q : Req) (k : Nat) : Word × State :=
  let (n, ovf) := s.ctrLive k
  (BitVec.ofNat 32 n, (hiKeys k).foldl (fun s h =>
    { s with ctrShadow := tblSet (fun _ => none) s.ctrShadow (shadowKey q h) (some ⟨n, ovf⟩) }) s)

/-- A read of a high register (R47): the shadow once, else the live value. -/
def State.ctrHiRead (s : State) (q : Req) (k : Nat) : Word × State :=
  match tblGet (fun _ => none) s.ctrShadow (shadowKey q k) with
  | some x =>
    (hiWord k x.hi x.ovf, { s with ctrShadow := tblSet (fun _ => none) s.ctrShadow (shadowKey q k) none })
  | none => let (n, ovf) := s.ctrLive (ctrBase k); (hiWord k n ovf, s)

/-- A requester's holding register of a counter (R48). -/
def State.ctrHeld (s : State) (q : Req) (k : Nat) : Nat := tblGet (fun _ => 0) s.ctrHold (shadowKey q k)

/-- Setting it. -/
def State.setHeld (s : State) (q : Req) (k v : Nat) : State :=
  { s with ctrHold := tblSet (fun _ => 0) s.ctrHold (shadowKey q k) v }

/-- The reserved bits of a high register. -/
def State.hiReserved (s : State) (q : Req) (a : Nat) (v : Word) : State :=
  if (v &&& 0x7FFF0000) != 0 then s.rsvd q a false else s

/-- A load of a counter is requested from the holding register and the topmost word (R48). A write of 1 to OVF in it
takes effect with the load at the count edge, which R48 leaves open: DESIGN CHOICE, log entry 91; that of a load still
waiting is not lost to a later one. -/
def State.ctrLoadAt (s : State) (q : Req) (k shift : Nat) (v : Word) : State :=
  let n := s.ctrHeld q k % 2 ^ shift + v.toNat % 2 ^ 16 * 2 ^ shift
  let waits := match tblGet (fun _ => none) s.ctrLoad k with | some l => l.clrOvf | none => false
  (({ s with ctrLoad := tblSet (fun _ => none) s.ctrLoad k (some ⟨n, v.getLsbD 31 || waits⟩) }).setHeld q k 0)

/-- A write to a register of a counter (R48, R56): only the supervisor core or JTAG loads the time. -/
def State.ctrWrite (s : State) (q : Req) (k : Nat) (v : Word) : State :=
  let b := ctrBase k
  let a := busAddr k
  let held := s.ctrHeld q b
  match kindAt k with
  | .counterLo => s.setHeld q b v.toNat
  | .counterHi => (s.ctrLoadAt q b 32 v).hiReserved q a v
  | .timeLo => if q = .sup ∨ q = .jtag then s.setHeld q b (held / 2 ^ 32 * 2 ^ 32 + v.toNat) else s
  | .timeHi =>
    let s := if q = .sup ∨ q = .jtag then s.setHeld q b (v.toNat % 2 ^ 16 * 2 ^ 32 + held % 2 ^ 32) else s
    if (v &&& 0xFFFF0000) != 0 then s.rsvd q a false else s
  | .timeHi2 => (if q = .sup ∨ q = .jtag then s.ctrLoadAt q b 48 v else s).hiReserved q a v
  | _ => s

/-! ### DMA submissions (R417) -/

/-- A write to MEM_DMA_Q: the descriptor is queued with its submitter, or refused with QFULL. -/
def State.dmaSubmit (s : State) (q : Req) (e : Nat) (v : Word) : State :=
  let s := if (v &&& 0xFC00001F) != 0 then s.rsvd q (MEM_DMA_Q e) false else s
  let x := s.dma e
  let r := MEM_DMA_RES (reqCode q)
  let gen := match q with | .inst i => s.genOf i.val | _ => 0
  if 32 ≤ x.queue.length then s.setF r MEM_DMA_RES_RESULT 2
  else
    (s.setDma e { x with queue := x.queue ++ [⟨0x6000000000 + fieldGet MEM_DMA_Q_ADDR v * 32, reqCode q, gen⟩] }).setF
      r MEM_DMA_RES_RESULT 1

/-- DMA_SUBMIT. -/
def execDmaSubmit (q : Req) (e : Fin 16) (v : Word) (s : State) : Host.Outcome State Fault Refusal :=
  .next (s.guardWrite q (MEM_DMA_Q e.val) fun s => s.dmaSubmit q e.val v)

/-- A write to MEM_DMA_CTL: ABORT is the supervisor core's (R423). -/
def State.dmaCtlWrite (s : State) (q : Req) (e : Nat) (v : Word) : State :=
  let s := s.regWrite q (MEM_DMA_CTL e) v
  if fieldGet MEM_DMA_CTL_ABORT v = 1 ∧ (q = .sup ∨ q = .jtag) then
    match (s.dma e).run with
    | some r => s.setDma e { s.dma e with run := some { r with abort := true } }
    | none => s
  else s

/-- DMA_ABORT. -/
def execDmaAbort (q : Req) (e : Fin 16) (s : State) : Host.Outcome State Fault Refusal :=
  .next (s.guardWrite q (MEM_DMA_CTL e.val) fun s => s.dmaCtlWrite q e.val 1)

/-! ### The supervisor core starts (R100, R590, R601) -/

/-- The supervisor core starts at an address with every register as R102 gives it; STATE is RUN. -/
def State.supStart (s : State) (entry : Word) : State :=
  let s := (s.setCtx ctxSup { Ctx.reset with pc := entry }).setCtxState ctxSup ctxRun
  { s with boot := { s.boot with gone := true } }.setF BOOT_STATUS BOOT_STATUS_STATE 4

/-- BOOT_CTL.JGO (R590): in WAIT under BOOT_MODE 2 or 3. The spec states no entry point for a JTAG-loaded program: it
is free (log entry 8). -/
def State.jgo (s : State) : State :=
  if s.fld BOOT_STATUS BOOT_STATUS_STATE = 1 ∧ 2 ≤ s.fld BOOT_STATUS BOOT_STATUS_MODE then
    let (f, s) := s.free
    s.supStart (BitVec.ofNat 32 (f * 4))
  else s

/-- A write to BOOT_CTL. -/
def State.bootCtlWrite (s : State) (q : Req) (v : Word) : State :=
  let s := s.regWrite q BOOT_CTL v
  if reservedEncoding (fieldsAt BOOT_CTL) v || !bootMay q then s
  else if fieldGet BOOT_CTL_RST v = 0xD5 then s.bootRst
  else if fieldGet BOOT_CTL_JGO v = 1 then s.jgo
  else s

/-- JGO. -/
def execJgo (q : Req) (s : State) : Host.Outcome State Fault Refusal :=
  .next (s.guardWrite q BOOT_CTL fun s => s.bootCtlWrite q 0x80000000)

/-! ### Writes -/

/-- The registers a write of 1 to VALID clears beside the register that holds it, and whether it clears itself. -/
def recordOf (k : Nat) : Option (List Nat) :=
  let u := k / 8 * 8
  if k = SYS_RSVD_SRC ∨ k = PIN_REJ ∨ k = PIN_WAKE ∨ k = CAL_FREC ∨ k = TST_FREC then some []
  else if k = TWIN_TAKE then some [TWIN_TAKE_T_LO, TWIN_TAKE_T_HI]
  else if k = BOOT_CI_REC then some [BOOT_CI_REC_ID]
  else if IRQ_UF_STAT 0 ≤ k ∧ k < IRQ_UF_STAT 256 ∧ k % 8 = 4 then some [u]
  else if 0x100000000 ≤ k ∧ k < 0x200000000 ∧ k % 0x1000 = 0x114 then some []
  else if blockOf k = .drv ∧ k % 0x100 = 0x4C then some [k + 4, k + 8, k + 12, k + 16]
  else none

/-- A write of 1 to VALID of a record clears all of it. -/
def State.recordWrite (s : State) (q : Req) (k : Nat) (v : Word) (l : List Nat) : State :=
  let s := s.regWrite q k v
  if v.getLsbD 31 then l.foldl (fun s a => s.put a 0) (s.put k 0) else s

/-- A write to SYS_RSVD_SRC (R20, R22): the clear is applied before a capture by the same write. -/
def State.rsvdSrcWrite (s : State) (q : Req) (v : Word) : State :=
  let s := if v.getLsbD 31 then s.put SYS_RSVD_SRC 0 else s
  s.regWrite q SYS_RSVD_SRC (v &&& 0x7FFFFFFF)

/-- RSVD_CAPTURE_CLEAR (R22). -/
def execRsvdCaptureClear (q : Req) (s : State) : Host.Outcome State Fault Refusal :=
  .next (s.guardWrite q SYS_RSVD_SRC fun s => s.rsvdSrcWrite q 0x80000000)

/-- How many leaves a kind has on a device (Table 1.5). -/
def kindCount (k : Nat) : Nat :=
  match k with
  | 0 | 3 | 4 | 2 => 512
  | 1 => 64
  | 7 => 4
  | 8 => 256
  | _ => 0

/-- A write of ANG_CTL: one that is taken stages PRIMARY (R75). -/
def State.angCtlWrite (s : State) (q : Req) (v : Word) : State :=
  let s' := s.regWrite q ANG_CTL v
  if s.armed || reservedEncoding (fieldsAt ANG_CTL) v then s'
  else { s' with ep := { s'.ep with stagedPrimary := true } }.flag ANG_STATUS ANG_STATUS_PSTG

/-- A write to a register of a tile's unit blocks (Table 0.6) with a meaning of its own. -/
def State.unitWrite (s : State) (q : Req) (k : Nat) (v : Word) : State :=
  let t := tileOf k
  let o := k % 0x100000
  match blockOf k with
  | .cel =>
    let u := t * 32 + o / 0x400
    (match o % 0x400 with
     | 0x0C => (s.regWrite q k v).refreshCell u
     | 0x2C => s.rsvd q k true
     | _ => s.regWrite q k v)
  | .cvg =>
    let g := t * 4 + o / 0x1000 % 16
    (match o % 0x1000 with
     | 0x04 => s.cvgCtlWrite q g v
     | 0x0C => s.tdacWrite q g v
     | _ => s.regWrite q k v)
  | .cvgCom => if k = CVG_REF 0 then s.refWrite q 0 v else if k = CVG_REF 1 then s.refWrite q 1 v else s.regWrite q k v
  | .flt =>
    let e := t * 4 + o / 0x1000 % 16
    let r := o % 0x1000
    if r = 0x18 then s.coefWrite q e v
    else if 0x100 ≤ r ∧ r < 0x300 ∧ r % 0x40 = 4 then s.fltCtlWrite q (e * 8 + (r - 0x100) / 0x40) v
    else s.regWrite q k v
  | .drv =>
    let n := t * 32 + o / 0x100 % 256
    (match o % 0x100 with
     | 0x04 => s.drvCtlWrite q n v
     | 0x08 => s.drvCfgWrite q n v
     | _ => s.regWrite q k v)
  | .weir =>
    if o % 0x40 = 4 ∨ o % 0x40 = 8 then s.pairChange (t * 32 + o / 0x40 % 1024) fun s => s.regWrite q k v
    else s.regWrite q k v
  | .lgcRg => if o % 0x1000 = 4 then s.rgCtlWrite q (t * 16 + o / 0x1000 % 16) v else s.regWrite q k v
  | _ => s.regWrite q k v

/-- A write to a register of the MEM block. -/
def State.memBlockWrite (s : State) (q : Req) (k : Nat) (v : Word) : State :=
  if k = ECC_LOG_CTL then s.eccCtlWrite q v
  else if k = MEM_RET_CMD then s.retCmd q v
  else if k = MEM_SRAM_CMD then s.sramCmd q v
  else if MEM_DMA_Q 0 ≤ k ∧ k < MEM_DMA_Q 16 then
    let e := (k - MEM_DMA_Q 0) / 0x40
    (match k % 0x40 with
     | 0 => s.dmaSubmit q e v
     | 8 => s.dmaCtlWrite q e v
     | _ => s.memRegWrite q k v)
  else s.memRegWrite q k v

/-- A write to a register of the PIN block. -/
def State.pinBlockWrite (s : State) (q : Req) (k : Nat) (v : Word) : State :=
  if PIN_OUT 0 ≤ k ∧ k < PIN_OUT 16 then s.pinOutWrite q ((k - PIN_OUT 0) / 4) v
  else if PIN_OE 0 ≤ k ∧ k < PIN_OE 16 then s.pinOeWrite q ((k - PIN_OE 0) / 4) v
  else if PIN_CFG 0 ≤ k ∧ k < PIN_CFG 256 then s.pinCfgWrite q ((k - PIN_CFG 0) / 4) v
  else if PIN_FAB 0 ≤ k ∧ k < PIN_FAB 256 then s.pinFabWrite q ((k - PIN_FAB 0) / 4) v
  else if PM_CTL 0 ≤ k ∧ k < PM_CTL 32 ∧ k % 0x20 ≤ 8 then s.pmWrite q ((k - PM_CTL 0) / 0x20) (k % 0x20 / 4) v
  else s.regWrite q k v

/-- A write to a register of the CXB block (R360). -/
def State.cxbWrite (s : State) (q : Req) (k : Nat) (v : Word) : State :=
  if k = CXB_RNOW then s.rnowWrite q v
  else if CXB_ROUTE 0 ≤ k ∧ k < CXB_ROUTE 1600 then s.routeWrite q ((k - CXB_ROUTE 0) / 4) v
  else if CXB_OWN 0 ≤ k ∧ k < CXB_OWN 1600 then s.ownWrite q ((k - CXB_OWN 0) / 4) v
  else s.regWrite q k v

/-- A write to a register of the INST block or of one of its windows. -/
def State.instWrite (s : State) (q : Req) (k : Nat) (v : Word) : State :=
  if 0x100000000 ≤ k ∧ k < 0x200000000 ∧ k % 0x1000 = 0x100 then s.instCtlWrite q ((k - 0x100000000) / 0x1000) v
  else if 0x200000000 ≤ k ∧ k < 0x300000000 ∧ k % 0x100 = 0x10
      ∧ kindCount (fieldGet INST_UOWN_SEL_KIND v) ≤ fieldGet INST_UOWN_SEL_INDEX v then s.rsvd q (busAddr k) true
  else s.regWrite q k v

/-- A write to a register of the chain and twin blocks. -/
def State.chainWrite (s : State) (q : Req) (k : Nat) (v : Word) : State :=
  if k = LEAT_CFG then s.leatCfgWrite q v
  else if k = LEAT_ADMIT then s.admitWrite q v
  else if k = LEAT_STALE then s.staleWrite q v
  else if k = LEAT_TRET then s.tretWrite q v
  else if LP_CFG 0 ≤ k ∧ k < LP_CFG 4 ∧ (k - LP_CFG 0) % 0x40 = 0 then s.lpCfgWrite q ((k - LP_CFG 0) / 0x40) v
  else if k = TWIN_CMD then s.twinCmdWrite q v
  else if k = TWIN_CFG ∧ s.twinState ≠ 0 ∧ fieldGet TWIN_CFG_PORT v ≠ s.fld TWIN_CFG TWIN_CFG_PORT then s.rsvd q k true
  else s.regWrite q k v

/-- A write of PWR_TLIM: TWARN above THOT is a reserved combination, judged at the write (R698). -/
def State.tlimWrite (s : State) (q : Req) (v : Word) : State :=
  if fieldGet PWR_TLIM_THOT v < fieldGet PWR_TLIM_TWARN v then s.rsvd q PWR_TLIM true else s.regWrite q PWR_TLIM v

/-- A write to a register of the HOST, BOOT, CAL, PWR, NVM and OBS blocks. -/
def State.systemWrite (s : State) (q : Req) (k : Nat) (v : Word) : State :=
  if k = HOST_MGT then s.mgtWrite q v
  else if HOST_QP_ALLOW 0 ≤ k ∧ k < HOST_QP_ALLOW 8 then s.qpAllowWrite q ((k - HOST_QP_ALLOW 0) / 4) v
  else if k = HOST_UART_DATA then s.uartWrite q v
  else if k = BOOT_CTL then s.bootCtlWrite q v
  else if k = BOOT_SLUICE_CTL then s.sluiceCtlWrite q v
  else if BOOT_SLUICE_DLY 0 ≤ k ∧ k < BOOT_SLUICE_DLY 4 then s.sluiceDlyWrite q k v
  else if k = BOOT_KEYCMD then s.keyCmdWrite q v
  else if k = CAL_CMD then s.calCmdWrite q v
  else if k = PWR_TILE_CMD then s.tileCmdWrite q v
  else if k = PWR_SBY then s.sbyWrite q v
  else if k = PWR_TLIM ∧ q = .smbus then
    s.tlimWrite q (fieldPut PWR_TLIM_TWARN (s.reg PWR_TLIM) (fieldGet PWR_TLIM_TWARN v) ||| (v &&& reservedBits (fieldsAt k)))
  else if k = PWR_TLIM then s.tlimWrite q v
  else if k = NVM_CMD then s.nvmCmdWrite q v
  else if NVM_BUF 0 ≤ k ∧ k < NVM_BUF 16 then s.nvmBufWrite q k v
  else if k = OBS_CAP_CTL then s.capCtlWrite q v
  else if k = OBS_CAP_DATA then s.rsvd q k true
  else if OBS_PRB 0 ≤ k ∧ k < OBS_PRB 16 then s.prbWrite q k v
  else s.regWrite q k v

/-- The effect of an allowed write on the register at a key, its address `a`. -/
def State.busEffect (s : State) (q : Req) (a k : Nat) (v : Word) : State :=
  if (descOf k).isNone then s.rsvd q a true
  else match kindAt k, recordOf k with
    | .counterLo, _ | .counterHi, _ | .timeLo, _ | .timeHi, _ | .timeHi2, _ => s.ctrWrite q k v
    | _, some l => if k = SYS_RSVD_SRC then s.rsvdSrcWrite q v else s.recordWrite q k v l
    | _, none =>
      match blockOf a with
      | .sys => if k = SYS_CLK_LOST then (s.regWrite q k v).refreshCells else s.regWrite q k v
      | .ang => if k = ANG_CTL then s.angCtlWrite q v else if k = ANG_EPOCH_CTL then s.epCtlWrite q v else s.regWrite q k v
      | .cxb => s.cxbWrite q k v
      | .irq =>
        if a = irqClaimAddr then s.irqClaimWrite q v
        else if k = IRQ_DONE then s.irqDone q v
        else if k = IRQ_SWSET then s.irqSwset q v
        else s.regWrite q k v
      | .pin => s.pinBlockWrite q k v
      | .inst => s.instWrite q k v
      | .mem => s.memBlockWrite q k v
      | .leat | .twin => s.chainWrite q k v
      | .host | .boot | .cal | .pwr | .nvm | .obs => s.systemWrite q k v
      | .jnl | .tst | .none => s.regWrite q k v
      | _ => s.unitWrite q k v

/-- A write of register space by a requester (R10, R13, R440-R442). -/
def State.busWrite (s : State) (q : Req) (a : Nat) (v : Word) : State :=
  if a < 0xF0000000 ∨ blockOf (plainAddr a) = .none ∨ a % 4 ≠ 0 then s.answer (.error busRegister)
  else s.guardWrite q a fun s =>
    if 0xF8000000 ≤ a then s.rsvdAt q (plainAddr a) a true else s.busEffect q a (s.busKey q a) v

/-! ### Reads -/

/-- The value of the register at a key for a requester, its address `a`. -/
def State.keyRead (s : State) (q : Req) (a k : Nat) : Word × State :=
  match kindAt k with
  | .counterLo | .pairLo | .timeLo | .posLo => s.ctrLoRead q k
  | .counterHi | .pairHi | .timeHi | .timeHi2 | .posHi => s.ctrHiRead q k
  | .data =>
    (match blockOf a with
     | .cel => s.waveDataRead (tileOf a * 32 + a % 0x100000 / 0x400)
     | .flt => if a % 0x1000 = 0x18 then s.coefRead (tileOf a * 4 + a % 0x100000 / 0x1000 % 16) else s.regRead k
     | .obs => s.capDataRead
     | .host => s.uartRead
     | _ => s.regRead k)
  | .plain =>
    if blockOf a = .flt ∧ 0x100 ≤ a % 0x1000 ∧ a % 0x40 = 0 then
      let u := tileOf a * 32 + a % 0x100000 / 0x1000 % 16 * 8 + (a % 0x1000 - 0x100) / 0x40
      (s.setF k FLT_CH_STATUS_FROZEN (s.frozen u).toNat).regRead k
    else if IRQ_PEND 0 ≤ k ∧ k < IRQ_PEND 128 then (s.irqView q ((k - IRQ_PEND 0) / 4), s)
    else if a = 0xF0040014 then (s.irqTctl (s.fld (IRQ_TSEL (reqCode q)) IRQ_TSEL_SRC), s)
    else if k = PWR_TMAX then s.tmaxRead
    else s.regRead k

/-- A read of register space by a requester (R10, R13, R440-R442). -/
def State.busRead (s : State) (q : Req) (a : Nat) : State :=
  if a < 0xF0000000 ∨ blockOf (plainAddr a) = .none ∨ a % 4 ≠ 0 then s.answer (.error busRegister)
  else s.guardRead q a fun s =>
    if 0xF8000000 ≤ a then (s.shadowView (s.busKey q (plainAddr a)), s) else s.keyRead q a (s.busKey q a)

/-- A block of register space at an address (R13)? -/
def regAddr (a : Nat) : Bool := decide (0xF0000000 ≤ a) && blockOf (plainAddr a) != .none

/-! ### The rows -/

/-- REGISTER_WRITE (R7, R11): an access of other than four aligned bytes is refused. -/
def execRegisterWrite (q : Req) (place : RegPlace) (bytes : Nat) (val : Word) (s : State) :
    Host.Outcome State Fault Refusal :=
  .next (match place with
    | .space a => if bytes = 4 then s.busWrite q a.toNat val else s.answer (.error busRegister)
    | .queuePair p off =>
      if bytes = 4 ∧ off.toNat % 4 = 0 then (s.qpWrite p.val off.toNat val).answer .done
      else s.answer (.error busRegister))

/-- Is the register a requester reaches at an address of one of these kinds? -/
def State.reaches (s : State) (q : Req) (a : Word) (l : List RegKind) : Bool := l.contains (kindAt (s.busKey q a.toNat))

/-- COUNTER_LO_READ (R46). -/
def execCounterLoRead (q : Req) (addr : Word) (s : State) : Host.Outcome State Fault Refusal :=
  .next (if s.reaches q addr [.counterLo, .pairLo, .timeLo, .posLo] then s.busRead q addr.toNat else s)
/-- COUNTER_HI_READ (R47). -/
def execCounterHiRead (q : Req) (addr : Word) (s : State) : Host.Outcome State Fault Refusal :=
  .next (if s.reaches q addr [.counterHi, .pairHi, .timeHi, .timeHi2, .posHi] then s.busRead q addr.toNat else s)
/-- COUNTER_HOLD_WRITE (R48). -/
def execCounterHoldWrite (q : Req) (addr val : Word) (s : State) : Host.Outcome State Fault Refusal :=
  .next (if s.reaches q addr [.counterLo, .timeLo, .timeHi] then s.busWrite q addr.toNat val else s)
/-- COUNTER_LOAD_WRITE (R48). -/
def execCounterLoadWrite (q : Req) (addr val : Word) (s : State) : Host.Outcome State Fault Refusal :=
  .next (if s.reaches q addr [.counterHi, .timeHi2] then s.busWrite q addr.toNat val else s)
/-- COUNTER_LOAD_APPLY (R49): the load on its way to the counter whose low register is at the address takes effect; an
instance's INST_RDISC, which has no address of its own, takes its load with the next nanosecond (log entry 5). -/
def execCounterLoadApply (addr : Word) (s : State) : Host.Outcome State Fault Refusal :=
  let k := addr.toNat
  .next (match tblGet (fun _ => none) s.ctrLoad k with
    | none => s
    | some l =>
      let s' := { s with ctrLoad := tblDrop s.ctrLoad k }
      if k = ANG_TIME_LO then
        { s' with ang := { s'.ang with
          time := BitVec.ofNat 64 l.value, timeOvf := if l.clrOvf then false else s'.ang.timeOvf } }
      else if isSrcPos k then
        (if l.clrOvf then s'.setCtr k { s'.ctr k with ovf := false } else s').posLoad ((k - ANG_SRC_POS_LO 0) / 0x80) l.value
      else s.ctrApply k)

/-- SMBUS_REG_WRITE (R583). -/
def execSmbusRegWrite (addr val : Word) (s : State) : Host.Outcome State Fault Refusal :=
  .next (s.busWrite .smbus addr.toNat val)

/-- SMBUS_REG_READ (R583): after a refused write, 0xFFFFFFFF. -/
def execSmbusRegRead (addr : Word) (s : State) : Host.Outcome State Fault Refusal :=
  .next (if s.host.smbBad then { s with host := { s.host with smbBad := false } }.answer (.value 0xFFFFFFFF)
    else s.busRead .smbus addr.toNat)

end Sys2Proof.Machine
end

