-- ==== Sys2Proof/Machine/Control.lean ====
section
/-! DEFINITION. Branches, jumps, windows, returns from traps, control words and SYNC (R173-R176, R108-R110, R115,
R118, R133, R156). -/

namespace Sys2Proof.Machine

/-- The register code of W23. -/
def codeW23 : Nat := 31

/-- A displacement in words from the instruction itself (R160). -/
def branchTo (pc : Word) (n : Nat) (disp : BitVec n) : Word := pc + 4 * disp.signExtend 32

/-- A conditional branch. -/
def branchIf (c ra rb : Nat) (disp : BitVec 16) (p : Word → Word → Bool) (s : State) : Done :=
  let x := s.ctx c
  if p (x.rget ra) (x.rget rb) then .jump s (branchTo x.pc 16 disp) else .next s

/-- A register target whose bits [1:0] are not 0 raises ALIGN at the jump (R173). -/
def jumpTo (s : State) (f : State → State) (t : Word) : Done :=
  if t.toNat % 4 ≠ 0 then .raise s trAlign 0 (t.setWidth 64) else .jump (f s) t

/-- W23 takes the address of the next instruction (R110). -/
def State.link (s : State) (c : Nat) : State :=
  let x := s.ctx c
  s.setCtx c (x.rset codeW23 (x.pc + 4))

/-- B. -/
def execB (c : Fin 257) (disp : BitVec 26) (s : State) : Host.Outcome State Fault Refusal :=
  issued c (fmtJ 0x20 disp.toNat) (fun s => .jump s (branchTo (s.ctx c).pc 26 disp)) s
/-- CALL. -/
def execCall (c : Fin 257) (disp : BitVec 26) (s : State) : Host.Outcome State Fault Refusal :=
  issued c (fmtJ 0x21 disp.toNat) (fun s => .jump (s.link c) (branchTo (s.ctx c).pc 26 disp)) s
/-- BEQ. -/
def execBeq (c : Fin 257) (ra rb : Fin 32) (disp : BitVec 16) (s : State) : Host.Outcome State Fault Refusal :=
  issued c (fmtB 0x22 ra rb disp.toNat) (branchIf c ra rb disp fun a b => a == b) s
/-- BNE. -/
def execBne (c : Fin 257) (ra rb : Fin 32) (disp : BitVec 16) (s : State) : Host.Outcome State Fault Refusal :=
  issued c (fmtB 0x23 ra rb disp.toNat) (branchIf c ra rb disp fun a b => a != b) s
/-- BLT. -/
def execBlt (c : Fin 257) (ra rb : Fin 32) (disp : BitVec 16) (s : State) : Host.Outcome State Fault Refusal :=
  issued c (fmtB 0x24 ra rb disp.toNat) (branchIf c ra rb disp fun a b => a.slt b) s
/-- BGE. -/
def execBge (c : Fin 257) (ra rb : Fin 32) (disp : BitVec 16) (s : State) : Host.Outcome State Fault Refusal :=
  issued c (fmtB 0x25 ra rb disp.toNat) (branchIf c ra rb disp fun a b => !a.slt b) s
/-- BLTU. -/
def execBltu (c : Fin 257) (ra rb : Fin 32) (disp : BitVec 16) (s : State) : Host.Outcome State Fault Refusal :=
  issued c (fmtB 0x26 ra rb disp.toNat) (branchIf c ra rb disp fun a b => a.ult b) s
/-- BGEU. -/
def execBgeu (c : Fin 257) (ra rb : Fin 32) (disp : BitVec 16) (s : State) : Host.Outcome State Fault Refusal :=
  issued c (fmtB 0x27 ra rb disp.toNat) (branchIf c ra rb disp fun a b => !a.ult b) s
/-- JR. -/
def execJr (c : Fin 257) (ra : Fin 32) (s : State) : Host.Outcome State Fault Refusal :=
  issued c (fmtS 0x28 0 ra 0 0 0) (fun s => jumpTo s id ((s.ctx c).rget ra)) s
/-- CALLR: the target is read before W23 is written (R174). -/
def execCallr (c : Fin 257) (ra : Fin 32) (s : State) : Host.Outcome State Fault Refusal :=
  issued c (fmtS 0x28 0 ra 0 1 0) (fun s => jumpTo s (fun s => s.link c) ((s.ctx c).rget ra)) s

/-- Stepping the window forward (R108). -/
def Ctx.windowUp (x : Ctx) : Ctx := { x with wix := (x.wix + 1) % 16, resident := x.resident + 1 }
/-- Stepping the window back (R109). -/
def Ctx.windowDown (x : Ctx) : Ctx := { x with wix := (x.wix + 15) % 16, resident := x.resident - 1 }

/-- ENTER (R108). -/
def execEnter (c : Fin 257) (s : State) : Host.Outcome State Fault Refusal :=
  issued c (fmtS 0x28 0 0 0 2 0) (fun s =>
    let x := s.ctx c
    if x.resident = 15 then .window s trOvf else .next (s.setCtx c x.windowUp)) s
/-- LEAVE (R109). -/
def execLeave (c : Fin 257) (s : State) : Host.Outcome State Fault Refusal :=
  issued c (fmtS 0x28 0 0 0 3 0) (fun s =>
    let x := s.ctx c
    if x.resident = 1 then .window s trUnf else .next (s.setCtx c x.windowDown)) s
/-- RETT (R115, R165). -/
def execRett (c : Fin 257) (s : State) : Host.Outcome State Fault Refusal :=
  let w := fmtS 0x28 0 0 0 4 0
  issued c w (fun s =>
    let x := s.ctx c
    if x.wt then .illegal s w
    else if x.resident = 1 then .window s trUnf
    else .jump (s.setCtx c (x.windowDown.setStatus x.tstatus)) x.tpc) s
/-- RETW (R118, R165). -/
def execRetw (c : Fin 257) (s : State) : Host.Outcome State Fault Refusal :=
  let w := fmtS 0x28 0 0 0 5 0
  issued c w (fun s =>
    let x := s.ctx c
    if !x.wt then .illegal s w else .jump (s.setCtx c { x with wt := false, wix := x.wfrom }) x.wtpc) s

/-- PRIV for an instance at control word 0x10 (R124, R164). -/
def privWord (c n : Nat) : Bool := n == 0x10 && c != ctxSup

/-- GETC (R156). -/
def execGetc (c : Fin 257) (rd : Fin 32) (n : BitVec 5) (s : State) : Host.Outcome State Fault Refusal :=
  let w := fmtS 0x28 rd 0 0 8 n.toNat
  issued c w (fun s =>
    if privWord c n.toNat then .raise s trPriv 0 (w.setWidth 64)
    else .next (s.setCtx c ((s.ctx c).rset rd (s.cwRead c n.toNat)))) s
/-- SETC (R156): a value with a reserved bit set raises ILLEGAL before PRIV. -/
def execSetc (c : Fin 257) (n : BitVec 5) (ra : Fin 32) (s : State) : Host.Outcome State Fault Refusal :=
  let w := fmtS 0x28 0 ra 0 9 n.toNat
  issued c w (fun s =>
    let x := s.ctx c
    let v := x.rget ra
    if (v &&& cwReserved n.toNat) != 0 then .illegal s w
    else if privWord c n.toNat then .raise s trPriv 0 (w.setWidth 64)
    else .next (s.setCtx c (x.cwWrite n.toNat v))) s

/-- Does an address of a store lie in register space (R13, R41)? -/
def PStore.toRegs (st : PStore) : Bool :=
  if st.far then decide (0x7FF0000000 ≤ st.addr % 2 ^ 39) else decide (0xF0000000 ≤ st.addr)

/-- Are the earlier operations of the classes in a mask complete (Table 3.5)? An operation held at an idle tile (R645) is not
yet accepted at its leaf. P is always complete: an unstamped pin write is applied as it issues, and a stamped one counts as
complete once it is queued at its block, as U says of stamped operations. Table 3.5 does not say this of P (DESIGN CHOICE,
log entry 74). -/
def State.syncDone (s : State) (c m : Nat) : Bool :=
  let x := s.ctx c
  (!bitOf m 0 || (x.stores.isEmpty && x.farOut.isEmpty)) && (!bitOf m 1 || x.tx.isEmpty)
    && (!bitOf m 2 || (x.unitOut == 0 && !s.pwr.held.any fun h => h.op.issuer == ctxReq c && h.op.gen == s.genOf c))
    && (!bitOf m 3 || (!x.stores.any (·.toRegs) && !x.farOut.any fun a => decide (0x7FF0000000 ≤ a % 2 ^ 39)))

/-- SYNC (R133). -/
def execSync (c : Fin 257) (m : BitVec 5) (s : State) : Host.Outcome State Fault Refusal :=
  issued c (fmtS 0x28 0 0 0 10 m.toNat)
    (fun s => if s.syncDone c m.toNat then .next s else .wait s (.sync m.toNat)) s

/-- SYNC_COMPLETE: a waiting SYNC resumes; with M set and a failed posted store it raises that BUSERR instead (R133). -/
def execSyncComplete (c : Fin 257) (s : State) : Host.Outcome State Fault Refusal :=
  let x := s.ctx c
  match x.stall with
  | .sync m =>
    if bitOf m 0 && x.postFail.isSome then .next ((s.resumeCtx c).takePosted c)
    else if s.syncDone c m then .next (s.finish c)
    else .next s
  | _ => .next s

end Sys2Proof.Machine
end

