-- ==== Sys2Proof/Machine/MemOps.lean ====
section
/-! DEFINITION. Loads, stores and atomic operations of the contexts (R125-R130, R170-R172, R189, R408), WSPILL and
WFILL (R117, R175), and requests sent on the chain (R492). -/

namespace Sys2Proof.Machine

/-! ### Requests on the chain -/

/-- A request is sent and waits for its answer (R492): its sequence number, then the issuer and its instance generation
(instance, or 256 for a supervisor core), then its fields. -/
def State.request (s : State) (k : LeatKind) (dst req gen : Nat) (l : List Nat) (who : Waiter) : State :=
  let seq := tblGet (fun _ => 0) s.leat.seqs dst
  let args := seq :: req :: gen :: l
  let s := { s with leat := { s.leat with
    seqs := tblSet (fun _ => 0) s.leat.seqs dst ((seq + 1) % 65536)
    reqs := s.leat.reqs ++ [(⟨seq, dst, k, args, 1, who⟩ : LReq)] } }
  s.chainSend k dst args

/-- A request of a context. -/
def State.ctxRequest (s : State) (c : Nat) (k : LeatKind) (dst : Nat) (l : List Nat) (who : Waiter) : State :=
  s.request k dst c (s.genOf c) l who

/-! ### What an access reaches, and the checks at issue -/

/-- What an address of a context reaches: a local one, or a global one. -/
def State.reach (s : State) (c : Nat) (far : Bool) (a : Nat) : Loc := if far then s.locGlobal c a else s.locLocal c a

/-- The kind of content at an offset of another device's space (Table 1.8): its DDR capacity is the target's concern. -/
def farLoc (o : Nat) : Loc :=
  if o < 0x2000000000 then .mem o
  else if 0x6000000000 ≤ o ∧ o < 0x6004000000 then .mem o
  else if 0x6100000000 ≤ o ∧ o < 0x6100400000 then .mem o
  else if 0x6200000000 ≤ o ∧ o < 0x6202000000 then .nvm (o - 0x6200000000)
  else if 0x7FF0000000 ≤ o ∧ o < 0x8000000000 then .regs (o - 0x7F00000000)
  else .bad busRange

/-- Can an atomic operation act there (R130)? Tile SRAM and DDR. -/
def atomicAt : Loc → Bool
  | .mem o => decide (o < 0x6100000000)
  | .far _ o => match farLoc o with | .mem o => decide (o < 0x6100000000) | _ => false
  | _ => false

/-- Does an address lie in register space, where only aligned 32-bit accesses are made (R11)? -/
def regSpace (far : Bool) (a : Nat) : Bool :=
  if far then decide (0x7FF0000000 ≤ a % 2 ^ 39) else decide (0xF0000000 ≤ a)

/-- Do the protection rules allow an access of an instance (R436-R438, R441)? -/
def State.checkAllows (s : State) (i : Nat) (far : Bool) (a n : Nat) (p : Perm) : Bool :=
  if far then s.mpuAllows i a n p
  else if 0xF0000000 ≤ a then s.instAccess i a (p != .r) != .mpu
  else match s.localGlobal i a with
    | some g => s.mpuAllows i g n p
    | none => false

/-- The BUSERR subcause that an access meets at issue, if any (R41-R44, R125, R128-R130, R436-R438, R441, R13). -/
def State.accessSub (s : State) (c : Nat) (far : Bool) (a n : Nat) (p : Perm) : Option Nat :=
  if far && decide (2 ^ 48 ≤ a) then some busRange
  else
    let loc := s.reach c far a
    match loc with
    | .bad sub => some sub
    | _ =>
      match (match loc with | .far _ o => farLoc o | l => l) with
      | .bad sub => some sub
      | _ =>
        if p == .rw && !atomicAt loc then some busRange
        else if decide (c < 256) && !s.checkAllows c far a n p then some busMpu
        else match loc with
          | .nvm _ => if p == .r then none else some busNvmWrite
          | .regs r => if regAddr r then none else some busRegister
          | _ => none

/-- An access is issued: ALIGN, then BUSERR, each with the address; then what it does. -/
def State.accessed (s : State) (c : Nat) (far : Bool) (a n : Nat) (p : Perm) (k : State → Done) : Done :=
  let v := BitVec.ofNat 64 (a % 2 ^ 48)
  if a % 2 ^ 48 % n ≠ 0 ∨ (regSpace far a ∧ n ≠ 4) then .raise s trAlign 0 v
  else match s.accessSub c far a n p with
    | some sub => .raise s trBuserr sub v
    | none => k s

/-! ### Posted stores -/

/-- A posted store has failed (R129): the first is reported, of the others PSERR. -/
def State.storeFail (s : State) (c a sub : Nat) : State :=
  let x := s.ctx c
  s.setCtx c (if x.postFail.isNone then { x with postFail := some (a, sub) } else { x with pserr := true })

/-- A posted store is accepted at its target; a far store to another device is sent (R189). -/
def State.storeDone (s : State) (c : Nat) (st : PStore) : State :=
  let ended (r : Bool × State) : State := if r.1 then r.2 else r.2.storeFail c st.addr busEcc
  match s.reach c st.far st.addr with
  | .mem o => ended (s.memWrite c o st.bytes)
  | .sup o => ended (s.memWriteIn c (fun _ => 0x41) o st.bytes)
  | .nvm _ => s.storeFail c st.addr busNvmWrite
  | .bad sub => s.storeFail c st.addr sub
  | .regs a =>
    let t := s.busWrite (ctxReq c) a (BitVec.ofNat 32 (natOf st.bytes))
    let r := t.reply
    let t := { t with reply := s.reply }
    (match r with
     | .error sub => t.storeFail c st.addr sub
     | _ => t)
  | .far d _ =>
    let s := s.ctxRequest c .mwr d (st.addr :: st.bytes.map (·.toNat)) (.store c st.addr)
    let x := s.ctx c
    s.setCtx c { x with farOut := x.farOut ++ [st.addr] }

/-- Do two accesses go to one target over one network (R28)? -/
def State.sameTarget (s : State) : Loc → Loc → Bool
  | .mem a, .mem b => s.midOf a == s.midOf b
  | .sup _, .sup _ => true
  | .nvm _, .nvm _ => true
  | .regs a, .regs b => blockOf (plainAddr a) == blockOf (plainAddr b) && a / 0x100000 == b / 0x100000
  | .far d _, .far e _ => d == e
  | _, _ => false

/-- The context's own earlier stores to the target of a read come before it (R28, R131). -/
def State.ownFirst (s : State) (c : Nat) (loc : Loc) : State :=
  let x := s.ctx c
  let mine := x.stores.filter fun st => s.sameTarget loc (s.reach c st.far st.addr)
  let s := s.setCtx c { x with
    stores := x.stores.filter fun st => !s.sameTarget loc (s.reach c st.far st.addr) }
  mine.foldl (fun s st => s.storeDone c st) s

/-! ### Atomic operations at their target (R130) -/

/-- An atomic operation on the aligned word at an offset of this device: 0 swap, 1 add, 2 compare with `a` and store
`b`. The old word, or none where its codeword is uncorrectable. The codeword is read once. -/
def State.amo (s : State) (req op o : Nat) (a b : Word) : Option Word × State :=
  let s := s.bankAccess o 4
  let mid := s.midOf o
  let n := codeSize mid
  let base := o / n * n
  match s.codeRead req mid base with
  | (none, s) => (none, s)
  | (some bs, s) =>
    let old : Word := BitVec.ofNat 32 (natOf ((bs.drop (o % n)).take 4))
    let new : Option Word := match op with
      | 0 => some a
      | 1 => some (old + a)
      | _ => if old = a then some b else none
    match new with
    | none => (some old, s)
    | some v =>
      let (e, s) := s.flipWrite mid o base
      (some old, (s.putBytes (memKey mid base) (bs.take (o % n) ++ bytesOf 4 v.toNat ++ bs.drop (o % n + 4))).setCodeErr
        (memKey mid base) e)

/-- The operation of an atomic access with its operands: the code and the two words of `amo`. -/
def MemOp.amo : MemOp → Option (Nat × Word × Word)
  | .swap _ v => some (0, v, 0)
  | .add _ v => some (1, v, 0)
  | .cas _ old v => some (2, old, v)
  | _ => none

/-- How many bytes an access reads or writes. -/
def MemOp.size : MemOp → Nat
  | .load _ n _ => n
  | .swap .. | .add .. | .cas .. => 4
  | .spill | .fill => 64

/-! ### Loads -/

/-- A load's register takes the bytes read (R170). -/
def Ctx.loadReg (x : Ctx) (rd n : Nat) (signed : Bool) (bs : List Byte) : Ctx :=
  let v := natOf bs
  if n = 8 then x.pset rd (BitVec.ofNat 64 v)
  else x.rset rd (if signed then BitVec.ofInt 32 (sext (8 * n) v) else BitVec.ofNat 32 v)

/-- The physical registers that show W0-W15 of a window (R106). -/
def windowRegs (w : Nat) : List Nat := (List.range 16).map fun n => physReg w (8 + n)

/-- The oldest window of the call chain while WT is 1 (R107, R116). -/
def Ctx.oldest (x : Ctx) : Nat := (x.wfrom + 17 - x.resident) % 16

/-- The data of an access has arrived. -/
def State.memData (s : State) (c : Nat) (op : MemOp) (bs : List Byte) : State :=
  let x := s.ctx c
  match op with
  | .load rd n signed => (s.setCtx c (x.loadReg rd n signed bs)).finish c
  | .swap rd _ | .add rd _ | .cas rd _ _ => (s.setCtx c (x.rset rd (BitVec.ofNat 32 (natOf bs)))).finish c
  | .spill => (s.setCtx c { x with resident := x.resident - 1 }).finish c
  | .fill =>
    let w := (x.oldest + 15) % 16
    let x := ((windowRegs w).zip (wordsOf bs)).foldl (fun x (k, v) => x.setPhys k v) x
    (s.setCtx c { x with resident := x.resident + 1 }).finish c

/-- An access ends with a BUSERR (R111, R129). -/
def State.memTrap (s : State) (c a sub : Nat) : State := s.waitTrap c ⟨trBuserr, sub, false, some (BitVec.ofNat 64 a)⟩

/-- An access to this device is performed. -/
def State.memLocal (s : State) (c : Nat) (op : MemOp) (far : Bool) (a : Nat) : State :=
  let loc := s.reach c far a
  let s := s.ownFirst c loc
  let got (r : Option (List Byte) × State) : State :=
    match r with
    | (some bs, s) => s.memData c op bs
    | (none, s) => s.memTrap c a busEcc
  match op with
  | .spill =>
    let bs := bytesOfWords ((windowRegs (s.ctx c).oldest).map (s.ctx c).phys)
    let put (r : Bool × State) : State := if r.1 then r.2.memData c op [] else r.2.memTrap c a busEcc
    (match loc with
     | .mem o => put (s.memWrite c o bs)
     | .sup o => put (s.memWriteIn c (fun _ => 0x41) o bs)
     | _ => s.memTrap c a busRange)
  | _ =>
    match loc, op.amo with
    | .mem o, some (k, v, w) =>
      (match s.amo c k o v w with
       | (some old, s) => s.memData c op (bytesOf 4 old.toNat)
       | (none, s) => s.memTrap c a busEcc)
    | .mem o, none => got (s.memRead c o op.size)
    | .sup o, none => got (s.memReadIn c (fun _ => 0x41) o op.size)
    | .nvm o, none => got (s.nvmBytes c o op.size)
    | .regs r, none =>
      let t := s.busRead (ctxReq c) r
      let u := { t with reply := s.reply }
      (match t.reply with
       | .value v => u.memData c op (bytesOf 4 v)
       | .error sub => u.memTrap c a sub
       | _ => u.memData c op (bytesOf 4 0))
    | .bad sub, _ => s.memTrap c a sub
    | _, _ => s.memTrap c a busRange

/-- MEMORY_RESPONSE (R127): an access to another device has its answer by then (MRSP). -/
def execMemoryResponse (c : Fin 257) (s : State) : Host.Outcome State Fault Refusal :=
  .next (match (s.ctx c).stall with
    | .mem op far a reply =>
      (match s.reach c far a, reply with
       | .far _ _, none => s
       | .mem o, none => if s.ddrHalted o then s else s.memLocal c op far a
       | _, some r => if r.sub = 0 then s.memData c op r.bytes else s.memTrap c a r.sub
       | _, none => s.memLocal c op far a)
    | _ => s)

/-- STORE_ACCEPTED (R189): a store that waited for room takes its place. -/
def execStoreAccepted (c : Fin 257) (s : State) : Host.Outcome State Fault Refusal :=
  .next (match (s.ctx c).stores with
    | [] => s
    | st :: r =>
      if s.locHalted (s.reach c st.far st.addr) then s
      else
      let s := (s.setCtx c { s.ctx c with stores := r }).storeDone c st
      match (s.ctx c).stall with
      | .store st => (s.setCtx c { s.ctx c with stores := (s.ctx c).stores ++ [st] }).finish c
      | _ => s)

/-- POSTED_STORE_FAILURE (R129, R113): at an instruction boundary. -/
def execPostedStoreFailure (c : Fin 257) (s : State) : Host.Outcome State Fault Refusal :=
  .next (if s.issues c && (s.ctx c).postFail.isSome then
      (if s.checkDue c then s.takeCheck else s.takePosted c)
    else s)

/-! ### The instructions -/

/-- A read or an atomic operation waits; one on another device is sent after the context's own stores to it. -/
def memWait (c : Nat) (op : MemOp) (far : Bool) (a : Nat) (s : State) : Done :=
  let loc := s.reach c far a
  match loc with
  | .far d _ =>
    let s := s.ownFirst c loc
    let s := match op.amo with
      | some (k, v, w) => s.ctxRequest c .mamo d [k, a, v.toNat, w.toNat] (.load c)
      | none => s.ctxRequest c .mrd d [a, op.size] (.load c)
    .wait s (.mem op far a none)
  | _ => .wait s (.mem op far a none)

/-- The address of LD and ST: ra + sext(imm16) modulo 2^32. -/
def State.baseImm (s : State) (c ra : Nat) (imm : BitVec 16) : Nat := ((s.ctx c).rget ra + imm.signExtend 32).toNat

/-- A load from a local address (R170). -/
def loadFrom (c rd ra : Nat) (imm : BitVec 16) (n : Nat) (signed : Bool) (s : State) : Done :=
  let a := s.baseImm c ra imm
  s.accessed c false a n .r (memWait c (.load rd n signed) false a)

/-- A load from the global address in a pair (R171). -/
def loadFar (c rd ra n : Nat) (signed : Bool) (s : State) : Done :=
  let a := ((s.ctx c).pget ra).toNat
  s.accessed c true a n .r (memWait c (.load rd n signed) true a)

/-- The bytes a store takes from its source. -/
def Ctx.storeBytes (x : Ctx) (rs n : Nat) : List Byte :=
  bytesOf n (if n = 8 then (x.pget rs).toNat else (x.rget rs).toNat)

/-- A store is posted, or waits for room (R129, R189). -/
def postStore (c : Nat) (st : PStore) (s : State) : Done :=
  let x := s.ctx c
  if 8 ≤ x.stores.length then .wait s (.store st) else .next (s.setCtx c { x with stores := x.stores ++ [st] })

/-- A store to a local address. -/
def storeTo (c rs ra : Nat) (imm : BitVec 16) (n : Nat) (s : State) : Done :=
  let a := s.baseImm c ra imm
  s.accessed c false a n .w (postStore c ⟨false, a, (s.ctx c).storeBytes rs n⟩)

/-- A store to the global address in a pair. -/
def storeFar (c rs ra n : Nat) (s : State) : Done :=
  let a := ((s.ctx c).pget ra).toNat
  s.accessed c true a n .w (postStore c ⟨true, a, (s.ctx c).storeBytes rs n⟩)

/-- An atomic operation (R172). -/
def atomicOp (c ra : Nat) (f : Bool) (op : Ctx → MemOp) (s : State) : Done :=
  let x := s.ctx c
  let a := if f then (x.pget ra).toNat else (x.rget ra).toNat
  s.accessed c f a 4 .rw (memWait c (op x) f a)

/-- LD.B. -/
def execLdB (c : Fin 257) (rd ra : Fin 32) (imm : BitVec 16) (s : State) : Host.Outcome State Fault Refusal :=
  issued c (fmtI 0x10 rd ra imm.toNat) (loadFrom c rd ra imm 1 true) s
/-- LD.BU. -/
def execLdBu (c : Fin 257) (rd ra : Fin 32) (imm : BitVec 16) (s : State) : Host.Outcome State Fault Refusal :=
  issued c (fmtI 0x11 rd ra imm.toNat) (loadFrom c rd ra imm 1 false) s
/-- LD.H. -/
def execLdH (c : Fin 257) (rd ra : Fin 32) (imm : BitVec 16) (s : State) : Host.Outcome State Fault Refusal :=
  issued c (fmtI 0x12 rd ra imm.toNat) (loadFrom c rd ra imm 2 true) s
/-- LD.HU. -/
def execLdHu (c : Fin 257) (rd ra : Fin 32) (imm : BitVec 16) (s : State) : Host.Outcome State Fault Refusal :=
  issued c (fmtI 0x13 rd ra imm.toNat) (loadFrom c rd ra imm 2 false) s
/-- LD.W. -/
def execLdW (c : Fin 257) (rd ra : Fin 32) (imm : BitVec 16) (s : State) : Host.Outcome State Fault Refusal :=
  issued c (fmtI 0x14 rd ra imm.toNat) (loadFrom c rd ra imm 4 false) s
/-- LD.D. -/
def execLdD (c : Fin 257) (rd ra : Fin 32) (imm : BitVec 16) (s : State) : Host.Outcome State Fault Refusal :=
  issued c (fmtI 0x15 rd ra imm.toNat) (loadFrom c rd ra imm 8 false) s
/-- ST.B. -/
def execStB (c : Fin 257) (rs ra : Fin 32) (imm : BitVec 16) (s : State) : Host.Outcome State Fault Refusal :=
  issued c (fmtI 0x16 rs ra imm.toNat) (storeTo c rs ra imm 1) s
/-- ST.H. -/
def execStH (c : Fin 257) (rs ra : Fin 32) (imm : BitVec 16) (s : State) : Host.Outcome State Fault Refusal :=
  issued c (fmtI 0x17 rs ra imm.toNat) (storeTo c rs ra imm 2) s
/-- ST.W. -/
def execStW (c : Fin 257) (rs ra : Fin 32) (imm : BitVec 16) (s : State) : Host.Outcome State Fault Refusal :=
  issued c (fmtI 0x18 rs ra imm.toNat) (storeTo c rs ra imm 4) s
/-- ST.D. -/
def execStD (c : Fin 257) (rs ra : Fin 32) (imm : BitVec 16) (s : State) : Host.Outcome State Fault Refusal :=
  issued c (fmtI 0x19 rs ra imm.toNat) (storeTo c rs ra imm 8) s
/-- LDF.B. -/
def execLdfB (c : Fin 257) (rd ra : Fin 32) (s : State) : Host.Outcome State Fault Refusal :=
  issued c (fmtS 0x1A rd ra 0 0 0) (loadFar c rd ra 1 true) s
/-- LDF.BU. -/
def execLdfBu (c : Fin 257) (rd ra : Fin 32) (s : State) : Host.Outcome State Fault Refusal :=
  issued c (fmtS 0x1A rd ra 0 1 0) (loadFar c rd ra 1 false) s
/-- LDF.H. -/
def execLdfH (c : Fin 257) (rd ra : Fin 32) (s : State) : Host.Outcome State Fault Refusal :=
  issued c (fmtS 0x1A rd ra 0 2 0) (loadFar c rd ra 2 true) s
/-- LDF.HU. -/
def execLdfHu (c : Fin 257) (rd ra : Fin 32) (s : State) : Host.Outcome State Fault Refusal :=
  issued c (fmtS 0x1A rd ra 0 3 0) (loadFar c rd ra 2 false) s
/-- LDF.W. -/
def execLdfW (c : Fin 257) (rd ra : Fin 32) (s : State) : Host.Outcome State Fault Refusal :=
  issued c (fmtS 0x1A rd ra 0 4 0) (loadFar c rd ra 4 false) s
/-- LDF.D. -/
def execLdfD (c : Fin 257) (rd ra : Fin 32) (s : State) : Host.Outcome State Fault Refusal :=
  issued c (fmtS 0x1A rd ra 0 5 0) (loadFar c rd ra 8 false) s
/-- STF.B. -/
def execStfB (c : Fin 257) (rs ra : Fin 32) (s : State) : Host.Outcome State Fault Refusal :=
  issued c (fmtS 0x1A rs ra 0 8 0) (storeFar c rs ra 1) s
/-- STF.H. -/
def execStfH (c : Fin 257) (rs ra : Fin 32) (s : State) : Host.Outcome State Fault Refusal :=
  issued c (fmtS 0x1A rs ra 0 9 0) (storeFar c rs ra 2) s
/-- STF.W. -/
def execStfW (c : Fin 257) (rs ra : Fin 32) (s : State) : Host.Outcome State Fault Refusal :=
  issued c (fmtS 0x1A rs ra 0 10 0) (storeFar c rs ra 4) s
/-- STF.D. -/
def execStfD (c : Fin 257) (rs ra : Fin 32) (s : State) : Host.Outcome State Fault Refusal :=
  issued c (fmtS 0x1A rs ra 0 11 0) (storeFar c rs ra 8) s
/-- AMOSWAP. -/
def execAmoswap (c : Fin 257) (rd ra rb : Fin 32) (f : Bool) (s : State) : Host.Outcome State Fault Refusal :=
  issued c (fmtS 0x1B rd ra rb 0 f.toNat) (atomicOp c ra f fun x => .swap rd (x.rget rb)) s
/-- AMOADD. -/
def execAmoadd (c : Fin 257) (rd ra rb : Fin 32) (f : Bool) (s : State) : Host.Outcome State Fault Refusal :=
  issued c (fmtS 0x1B rd ra rb 1 f.toNat) (atomicOp c ra f fun x => .add rd (x.rget rb)) s
/-- AMOCAS. -/
def execAmocas (c : Fin 257) (rd ra rb : Fin 32) (f : Bool) (s : State) : Host.Outcome State Fault Refusal :=
  issued c (fmtS 0x1B rd ra rb 2 f.toNat) (atomicOp c ra f fun x => .cas rd (x.rget rd) (x.rget rb)) s

/-- WSPILL and WFILL: ILLEGAL from the state of the context (R117, R165), then ALIGN and BUSERR. -/
def windowMove (c ra : Nat) (w : Word) (op : MemOp) (s : State) : Done :=
  let x := s.ctx c
  let bad := match op with | .spill => decide (x.resident < 2) | _ => decide (14 < x.resident)
  if !x.wt || bad then .illegal s w
  else
    let a := (x.rget ra).toNat
    s.accessed c false a 64 (if op == .spill then .w else .r) (memWait c op false a)

/-- WSPILL. -/
def execWspill (c : Fin 257) (ra : Fin 32) (s : State) : Host.Outcome State Fault Refusal :=
  let w := fmtS 0x28 0 ra 0 6 0
  issued c w (windowMove c ra w .spill) s
/-- WFILL. -/
def execWfill (c : Fin 257) (ra : Fin 32) (s : State) : Host.Outcome State Fault Refusal :=
  let w := fmtS 0x28 0 ra 0 7 0
  issued c w (windowMove c ra w .fill) s

end Sys2Proof.Machine
end

