-- ==== Sys2Proof/Machine/Stream.lean ====
section
/-! DEFINITION. Instance stream ports (R134-R137, R177, R191, R192). -/

namespace Sys2Proof.Machine

/-- The stream port of an instance (R134). -/
def streamPort (c : Nat) : Nat := 704 + c

/-- Words of the transmit queue enter Confluence from its front: a word that still waits for its stamp holds those
behind it; a word with bit [0] set waits for the two words of its trio (R143, R355). `n` bounds the words. -/
def State.txDrain (s : State) (c : Nat) : Nat → State
  | 0 => s
  | n + 1 =>
    let x := s.ctx c
    match x.tx with
    | [] => s
    | w :: r =>
      if w.stamp.isSome then s
      else if w.word.getLsbD 0 then
        match r with
        | a :: b :: r' =>
          ((s.setCtx c { x with tx := r' }).offer (streamPort c) ⟨w.word, some (a.word, b.word)⟩).txDrain c n
        | _ => s
      else ((s.setCtx c { x with tx := r }).offer (streamPort c) ⟨w.word, none⟩).txDrain c n

/-- Has the transmit queue room for n words (R191)? -/
def State.txRoom (s : State) (c n : Nat) : Bool := decide ((s.ctx c).tx.length + n ≤ 16)

/-- Words enter the transmit queue; stamped ones wait there for their stamp, which the port's queue of stamped
operations releases; late ones do not wait, and CW_STATUS.SLATE is set (R143, R704). -/
def State.txPut (s : State) (c : Nat) (ws : List Word) (st : Option (Stamp × Qual)) : State :=
  let x := s.ctx c
  match st with
  | none => (s.setCtx c { x with tx := x.tx ++ ws.map fun w => ⟨w, none⟩ }).txDrain c 17
  | some (p, q) =>
    if s.late p q 50 then (s.setCtx c { x with slate := true, tx := x.tx ++ ws.map fun w => ⟨w, none⟩ }).txDrain c 17
    else
      (s.setCtx c { x with tx := x.tx ++ ws.map fun w => ⟨w, some (p, q)⟩ }).enqueue
        ⟨kindPort, c, p, q, .words c [], ctxReq c, s.genOf c⟩

/-- The first run of words that waits for a stamp waits no longer. -/
def releaseTx (p : Stamp) (q : Qual) (l : List TxWord) : List TxWord :=
  let a := l.takeWhile fun w => w.stamp != some (p, q)
  let r := l.dropWhile fun w => w.stamp != some (p, q)
  a ++ (r.takeWhile fun w => w.stamp == some (p, q)).map (fun w => ⟨w.word, none⟩)
    ++ r.dropWhile fun w => w.stamp == some (p, q)

/-- The release of stamped words of a port (R143). -/
def State.txRelease (s : State) (c : Nat) (p : Stamp) (q : Qual) : State :=
  let x := s.ctx c
  (s.setCtx c { x with tx := releaseTx p q x.tx }).txDrain c 17

/-- Pushing words: they enter the queue, or the context waits for room. `len` is the length of the instruction, or of
the pair with AT. -/
def pushWords (c : Nat) (ws : List Word) (st : Option (Stamp × Qual)) (len : Nat) (s : State) : Done :=
  if s.txRoom c ws.length then
    let s := s.txPut c ws st
    .jump s ((s.ctx c).pc + BitVec.ofNat 32 len)
  else .wait s (.push ws st len)

/-- The three words of PUSHS (R135, R177). -/
def pushsWords (x : Ctx) (ra rb : Nat) : List Word :=
  [x.rget ra ||| 1, (x.stamp rb).extractLsb' 0 32, ((x.stamp rb).extractLsb' 32 16).setWidth 32]

/-- PUSH. -/
def execPush (c : Fin 257) (ra : Fin 32) (s : State) : Host.Outcome State Fault Refusal :=
  issued c (fmtS 0x2C 0 ra 0 0 0) (fun s => pushWords c [(s.ctx c).rget ra] none 4 s) s
/-- PUSHS. -/
def execPushs (c : Fin 257) (ra rb : Fin 32) (s : State) : Host.Outcome State Fault Refusal :=
  issued c (fmtS 0x2C 0 ra rb 1 0) (fun s => pushWords c (pushsWords (s.ctx c) ra rb) none 4 s) s

/-- STREAM_TX_ROOM: a PUSH or PUSHS that waits for room completes once there is room (R191). -/
def execStreamTxRoom (c : Fin 257) (s : State) : Host.Outcome State Fault Refusal :=
  match (s.ctx c).stall with
  | .push ws st len =>
    if s.txRoom c ws.length then
      let s := (s.txPut c ws st)
      let x := s.ctx c
      .next ((s.setCtx c { x with pc := x.pc + BitVec.ofNat 32 len }).resumeCtx c)
    else .next s
  | _ => .next s

/-- Taking one word into rd: the context after it, if there is a word. -/
def Ctx.pull (x : Ctx) (rd : Nat) : Option Ctx :=
  match x.rx with
  | [] => none
  | w :: r => some ({ x with rx := r }.rset rd w)

/-- Taking one word and its stamp words (R136); the pair reads 0 where the word carries no stamp. -/
def Ctx.pulls (x : Ctx) (rd rp : Nat) : Option Ctx :=
  match x.rx with
  | [] => none
  | w :: r =>
    if w.getLsbD 0 then
      match r with
      | a :: b :: r' => some (({ x with rx := r' }.rset rd w).pset rp (b ++ a))
      | _ => none
    else some (({ x with rx := r }.rset rd w).pset rp 0)

/-- PULL (R136). -/
def execPull (c : Fin 257) (rd : Fin 32) (s : State) : Host.Outcome State Fault Refusal :=
  issued c (fmtS 0x2C rd 0 0 2 0) (fun s =>
    match (s.ctx c).pull rd with
    | some x => .next (s.setCtx c x)
    | none => .wait s (.pull rd)) s
/-- PULLNB (R136). -/
def execPullnb (c : Fin 257) (rd rf : Fin 32) (s : State) : Host.Outcome State Fault Refusal :=
  issued c (fmtS 0x2C rd rf 0 3 0) (fun s =>
    match (s.ctx c).pull rd with
    | some x => .next (s.setCtx c (x.rset rf 1))
    | none => .next (s.setCtx c ((s.ctx c).rset rf 0))) s
/-- PULLS (R136). -/
def execPulls (c : Fin 257) (rd rp : Fin 32) (s : State) : Host.Outcome State Fault Refusal :=
  issued c (fmtS 0x2C rd rp 0 4 0) (fun s =>
    match (s.ctx c).pulls rd rp with
    | some x => .next (s.setCtx c x)
    | none => .wait s (.pulls rd rp)) s

/-- One word arrives at a receive FIFO of 64 words; at a full one it is discarded with SOVR (R137). -/
def State.rxPut (s : State) (c : Nat) (w : Word) : State :=
  let x := s.ctx c
  if x.rx.length < 64 then s.setCtx c { x with rx := x.rx ++ [w] } else s.setCtx c { x with sovr := true }

/-- The words of an item. -/
def CWord.words (w : CWord) : List Word := match w.stamp with | some (a, b) => [w.word, a, b] | none => [w.word]

/-- STREAM_RX_WORD: the item that has arrived at the instance's port goes into its FIFO, and a waiting PULL or PULLS
completes. -/
def execStreamRxWord (i : Fin 256) (s : State) : Host.Outcome State Fault Refusal :=
  match s.takeArrived (streamPort i.val) with
  | none => .next s
  | some (w, s) =>
    let s := w.words.foldl (fun s v => s.rxPut i.val v) s
    let x := s.ctx i.val
    match x.stall with
    | .pull rd => (match x.pull rd with | some x => .next ((s.setCtx i.val x).finish i.val) | none => .next s)
    | .pulls rd rp => (match x.pulls rd rp with | some x => .next ((s.setCtx i.val x).finish i.val) | none => .next s)
    | _ => .next s

end Sys2Proof.Machine
end

