-- ==== Sys2Proof/Machine/Units.lean ====
section
/-! DEFINITION. Units and handles: unit identifiers (R29-R32), handle entries (R145, R445-R447), resolution (R35, R150),
what an operation does at a leaf (R146-R149, Tables 2.11, 3.9, 3.10 and 4.14), operations held at an idle tile (R645). -/

namespace Sys2Proof.Machine

/-! ### Unit identifiers (Tables 1.4 and 1.5) -/

/-- DEV, KIND and INDEX. -/
def uDev (u : Word) : Nat := u.toNat / 2 ^ 23
def uKind (u : Word) : Nat := u.toNat / 2 ^ 19 % 16
def uIndex (u : Word) : Nat := u.toNat % 2 ^ 14

/-- The unit ID of a unit of a device. -/
def unitId (dev kind index : Nat) : Word := BitVec.ofNat 32 (dev * 2 ^ 23 + kind * 2 ^ 19 + index)

/-- How many units of a kind there are, tiles, devices and compound units included. -/
def idCount (k : Nat) : Nat := match k with | 5 => 16 | 6 => 1 | 15 => 16384 | k => kindCount k

/-- Does a unit ID name a unit (R29)? -/
def namesUnit (u : Word) : Bool := u.toNat / 2 ^ 14 % 32 == 0 && decide (uIndex u < idCount (uKind u))

/-- The tile a unit belongs to. -/
def unitTile (k x : Nat) : Option Nat :=
  match k with
  | 0 | 2 | 3 | 4 => some (x / 32)
  | 1 => some (x / 4)
  | 5 => some x
  | 8 => some (x / 16)
  | _ => none

/-- The units of a kind in a tile. -/
def tileUnits (k t : Nat) : List Nat :=
  match k with
  | 0 | 2 | 3 | 4 => (List.range 32).map fun j => 32 * t + j
  | 1 => (List.range 4).map fun j => 4 * t + j
  | 8 => (List.range 16).map fun j => 16 * t + j
  | _ => []

/-- The units of some kinds that a leaf stands for (R30). -/
def leafUnits (kinds : List Nat) (u : Word) : List (Nat × Nat) :=
  match uKind u with
  | 5 => kinds.flatMap fun k => (tileUnits k (uIndex u)).map fun x => (k, x)
  | 6 => kinds.flatMap fun k => (List.range (kindCount k)).map fun x => (k, x)
  | k => if kinds.contains k then [(k, uIndex u)] else []

/-- The address of the first register of a unit's register set (R15, Tables 0.6 and 4.14). -/
def unitBase (k x : Nat) : Nat :=
  match k with
  | 0 => 0xF1000000 + x / 32 * 0x100000 + x % 32 * 0x400
  | 1 => 0xF1010000 + x / 4 * 0x100000 + x % 4 * 0x1000
  | 2 => 0xF1020000 + x / 32 * 0x100000 + x % 32 / 8 * 0x1000
  | 3 => 0xF1030000 + x / 32 * 0x100000 + x % 32 * 0x100
  | 4 => 0xF1040000 + x / 32 * 0x100000 + x % 32 * 0x40
  | 7 => 0xF0010100 + x * 0x80
  | _ => 0xF1050000 + x / 16 * 0x100000 + x % 16 * 0x1000

/-! ### Operations -/

/-- The kinds that implement a UCMD code (Table 3.10). -/
def ucmdKinds (code : Nat) : List Nat :=
  match code with
  | 0 | 1 | 7 => [0, 1, 2, 3, 4, 7, 8]
  | 2 | 3 => [1, 2]
  | 4 => [3]
  | 5 => [1]
  | 6 => [0, 3]
  | _ => []

/-- The kinds that an operation addresses (R146, R149; WLOAD: R210, R302). -/
def reqKinds : UnitReq → List Nat
  | .uwr k _ _ | .stg k _ _ | .urd k _ _ => [k.toNat]
  | .ucmd c _ => ucmdKinds c.toNat
  | .wload _ => [0, 2]

/-- The right that an operation needs (Table 12.4). -/
def reqRight : UnitReq → Nat
  | .urd .. => 0
  | .uwr .. => 1
  | .stg .. => 2
  | .wload _ => 8
  | .ucmd c _ => match c.toNat with | 0 | 1 => 3 | 2 | 3 | 5 => 4 | 4 => 5 | 6 => 6 | _ => 7

/-- What an operation is at one unit. -/
def reqOp (r : UnitReq) (k x : Nat) : Op :=
  match r with
  | .uwr _ off v => .uwr (unitBase k x + off.toNat) v
  | .stg _ off v => .stg (unitBase k x + off.toNat) v
  | .urd _ off _ => .uwr (unitBase k x + off.toNat) 0
  | .ucmd c a => .ucmd c.toNat a.toNat
  | .wload ws => .wload ws

/-- An operation as the fields of a UOP packet. -/
def reqArgs : UnitReq → List Nat
  | .uwr k o v => [1, k.toNat, o.toNat, v.toNat]
  | .stg k o v => [2, k.toNat, o.toNat, v.toNat]
  | .urd k o c => [3, k.toNat, o.toNat, c.toNat]
  | .ucmd c a => [4, c.toNat, a.toNat]
  | .wload ws => 5 :: ws.length :: ws.map (·.toNat)

/-! ### Performing an operation at a unit -/

/-- What happens, and whether it sets STAGE_WR and RSVD_WR of the block of an address: what it leaves in those bits where they
were 0 before it. -/
def State.watched (s : State) (own : Nat) (f : State → State) : (Bool × Bool) × State :=
  let a := statusOf own
  let w := (f (s.put a (s.reg a &&& 0x3FFFFFFF))).reg a
  ((w.getLsbD 30, w.getLsbD 31), f s)

/-- STG at a register (R9, R16-R18): its RWS bits go into the shadow. -/
def State.stgWrite (s : State) (q : Req) (a : Nat) (v : Word) : State :=
  match descOf a with
  | none => s.rsvd q a true
  | some r =>
    let fs := r.fields
    let rm := rwsMask fs
    if reservedEncoding (fs.filter fun f => decide (f.acc = .rws)) v then s.rsvd q a true
    else if s.armed && (v &&& rm) != (s.shReg a &&& rm) then s.stageRej q a
    else
      let s := s.stage a ((s.shReg a &&& ~~~ rm) ||| (v &&& rm))
      if (v &&& reservedBits fs) != 0 then s.rsvd q a false else s

/-- A unit command at a unit (Tables 2.4, 5.8, 6.3, 7.2, 8.2 and 10.6, section 8.9). -/
def State.unitCmd (s : State) (q : Req) (k x code arg : Nat) (st : Option Stamp) (late : Bool) : State :=
  (match k with
   | 0 => s.cellUcmd x code
   | 1 => s.cvgUcmd x code arg late
   | 2 => s.fltUcmd x code
   | 3 => if code = 4 then some (s.fireDrv x arg st) else s.drvUcmd x code arg
   | 4 => s.weirUcmd x code
   | 7 => s.angUcmd q x code
   | 8 => s.rgUcmd x code
   | _ => none).getD s

/-- A stamped operation was late at its consumer (Table 2.11). -/
def State.countLate (s : State) (k x : Nat) : State :=
  match k with
  | 0 => s.inc (CEL_LATE_LO x)
  | 1 => s.cvgLate x
  | 2 => s.fltLate (x / 8)
  | 3 => (s.flag (DRV_STATUS x) DRV_STATUS_LATE).inc (DRV_LATE_LO x)
  | 4 => (s.flag (WEIR_STATUS x) WEIR_STATUS_LATE).inc (WEIR_LATE_LO x)
  | 7 => s.angLate x
  | 8 => s.rgLate x
  | 0x20 => s.pinLate
  | _ => s

/-- An operation is performed at its consumer, with its stamp if it has one; a CEL_CONST write released on time updates
the DAC at once (R205). -/
def State.perform (s : State) (o : StOp) (st : Option Stamp) (late : Bool) : State :=
  let uid := (unitId s.dev o.kind o.index).toNat
  match o.op with
  | .ucmd code arg => (s.digCmd st uid code arg).unitCmd o.issuer o.kind o.index code arg st late
  | .uwr a v =>
    let s := (s.digWrite st uid (a - unitBase o.kind o.index) v).busEffect o.issuer a a v
    if o.kind = 0 && st.isSome && !late && a == CEL_CONST o.index && s.governs o.index == o.index
        && s.fld (CEL_OUT o.index) CEL_OUT_MODE == 0 then s.dacUpdate o.index else s
  | .stg a v => s.stgWrite o.issuer a v
  | .wload ws => if o.kind = 0 then s.cellLoad o.index (reqCode o.issuer) ws else s.coefLoad o.issuer (o.index / 8) ws
  | .pinw mask level => s.pinw o.issuer o.index (mask <<< 16 ||| (level &&& 0xFFFF))
  | .words _ _ => s.txRelease o.index o.stamp o.qual
  | .until => s.untilEnd o.index 0
  | .stream _ => s.streamRelease o.index
  | .group _ => s.groupRelease o.index
  | .capture => s.capTrigger

/-- How far ahead of the crossing of its stamp an operation is released, ns (R206, R212, R254, R315). -/
def State.releaseLead (s : State) (o : StOp) : Nat :=
  match o.kind, o.op with
  | 0, _ => 36
  | 3, .ucmd 4 _ => if s.fld (DRV_CFG o.index) DRV_CFG_MODE = 2 then 36 else 3
  | 1, .ucmd 5 u => s.urgLead o.index u
  | _, _ => 0

/-- May an operation be released now (R78)? -/
def State.releasable (s : State) (o : StOp) : Bool :=
  let lead := s.releaseLead o
  s.due o.stamp o.qual || (lead != 0 && (match o.qual with
    | .fwd => s.within o.stamp false lead
    | .rev => s.within o.stamp true lead
    | .both => s.within o.stamp false lead || s.within o.stamp true lead))

/-- Is an operation that arrives now late (R80, R206, R254, R316)? -/
def State.opLate (s : State) (o : StOp) : Bool := s.late o.stamp o.qual (50 + s.releaseLead o)

/-- Does a tile hold what reaches it (R645)? -/
def State.tileHolds (s : State) (k x : Nat) : Bool :=
  match unitTile k x with
  | some t => s.tileState t == 1 || s.tileState t == 3
  | none => false

/-- A late stamped operation of a cell waits for the next update (R206). -/
def State.lateAtCell (s : State) (o : StOp) : State :=
  let c := s.cell o.index
  s.setCell o.index { c with lateQ := c.lateQ ++ [o] }

/-- The next update of a cell performs its late operations (R206). -/
def State.lateNow (s : State) (u : Nat) : State :=
  let l := (s.cell u).lateQ
  if l.isEmpty then s
  else l.foldl (fun s o => s.perform o (some o.stamp) true) (s.setCell u { s.cell u with lateQ := [] })

/-- DAC_UPDATE (R205, R206): late operations first; a cell that another governs takes its code from that one's update. -/
def execDacUpdate (u : Fin 512) (s : State) : Host.Outcome State Fault Refusal :=
  .next (if s.halted 14 then s
    else
      let s := s.lateNow u.val
      if s.governs u.val = u.val then s.dacUpdate u.val else s)

/-- An operation arrives at its consumer: an idle tile holds it and is woken (R645); a stamped TRIG at a fenced device is
discarded (R260); late, it is performed at once (R704), at a cell with the next update (R206); else it is performed, or queued
until its stamp. -/
def State.hand (s : State) (o : StOp) (stamped : Bool) : State :=
  if s.tileHolds o.kind o.index then
    let s := { s with pwr := { s.pwr with held := s.pwr.held ++ [⟨o, stamped⟩] } }
    match unitTile o.kind o.index with
    | some t => s.tileWake t
    | none => s
  else if !stamped then s.perform o none false
  else if o.kind = 1 && s.fenced && (match o.op with | .ucmd 5 _ => true | _ => false) then s.inc (CVG_DISC_LO o.index)
  else if s.opLate o then
    (if o.kind = 0 then (s.countLate 0 o.index).lateAtCell o else (s.countLate o.kind o.index).perform o (some o.stamp) true)
  else s.enqueue o

/-- A tile is RUN: what it held is delivered (R645). -/
def State.deliverHeld (s : State) (t : Nat) : State :=
  let mine := s.pwr.held.filter fun h => unitTile h.op.kind h.op.index == some t
  let s := { s with pwr := { s.pwr with held := s.pwr.held.filter fun h => unitTile h.op.kind h.op.index != some t } }
  mine.foldl (fun s h => s.hand h.op h.stamped) s

/-- Is there room at the consumers for operations, all of them together (R144)? -/
def State.roomFor (s : State) (l : List StOp) : Bool :=
  l.all fun o => s.tileHolds o.kind o.index || s.opLate o
    || decide (s.queued o.kind o.index + (l.filter fun p => queueOf p.kind p.index == queueOf o.kind o.index).length
      ≤ queueDepth o.kind)

/-! ### Handles (R145, R445-R447) -/

/-- A handle entry. -/
structure Handle where
  unit : Word
  grant : Bool
  rights : Nat
  deriving DecidableEq, Repr

/-- The entry of a context's handle table, where it is valid (R446). -/
def State.handle (s : State) (c h : Nat) : Option Handle × State :=
  let (en, base) := if c < 256
    then (s.bit (INST_HT c) INST_HT_EN, 0x6000000000 + c / 16 * 0x400000 + s.fld (INST_HT c) INST_HT_SLOT * 0x8000)
    else (s.bit INST_SV_HT INST_SV_HT_EN,
      0x6000000000 + s.fld INST_SV_HT INST_SV_HT_TILE * 0x400000 + s.fld INST_SV_HT INST_SV_HT_SLOT * 0x8000)
  if !en then (none, s)
  else match s.memWords c (base + 8 * h) 2 with
    | (some [u, w], s) =>
      (if w.getLsbD 31 && (w &&& 0x3FFFFE00) == 0 && namesUnit u then some ⟨u, w.getLsbD 30, w.toNat % 512⟩ else none, s)
    | (_, s) => (none, s)

/-! ### Resolution (R35, R150) -/

/-- UNIT_FAULT subcauses (Table 3.8). -/
def ufNoHandle : Nat := 1
def ufRights : Nat := 2
def ufFenced : Nat := 3
def ufRetired : Nat := 4
def ufNotOwned : Nat := 5
def ufNotMember : Nat := 6
def ufNoImpl : Nat := 7
def ufLinkLost : Nat := 8
def ufLevel : Nat := 9

/-- The active descriptor of a compound unit, or the subcause for which it cannot be read. `far` is what the reads of
descriptors of other devices returned (none: LINK_LOST). -/
def State.members (s : State) (far : List (Word × Option (List Word))) (u : Word) : Except Nat (List Word) :=
  if uDev u = s.dev then .ok (tblGet (fun _ => []) s.cmpd (uIndex u))
  else if !s.isMember (uDev u) then .error ufNotMember
  else match far.find? (fun x => x.1 == u) with
    | some (_, some l) => .ok l
    | _ => .error ufLinkLost

/-- The walk of the leaf set in depth-first member order (R32, R35): the units still to visit, the compound units
visited, the leaves found, latest first. A compound unit adds nothing when it is met again. -/
def State.walk (s : State) (far : List (Word × Option (List Word))) :
    Nat → List Word → List Word → List Word → Except (Nat × Word) (List Word)
  | 0, _, _, acc => .ok acc.reverse
  | _ + 1, [], _, acc => .ok acc.reverse
  | n + 1, u :: r, seen, acc =>
    if uKind u = 15 then
      if seen.contains u then s.walk far n r seen acc
      else match s.members far u with
        | .error e => .error (e, u)
        | .ok l => s.walk far n (l.take 64 ++ r) (u :: seen) acc
    else s.walk far n r seen (if acc.contains u then acc else u :: acc)

/-- The leaf set of a unit. -/
def State.leaves (s : State) (far : List (Word × Option (List Word))) (u : Word) : Except (Nat × Word) (List Word) :=
  s.walk far (64 * (16384 + far.length) + 2) [u] [] []

/-- The leaf list of a unit as an operation of a context finds it: a compound unit's from the resolution cache of the context's
tile where it holds it (R151); else by the walk. A list is not taken where a descriptor of another device that it was
built from reads otherwise now: that compound table has changed (log entry 74). -/
def State.cached (s : State) (c : Nat) (far : List (Word × Option (List Word))) (u : Word) : Option CacheLine :=
  if uKind u = 15 ∧ c < 256 then
    let l := tblGet (fun _ => []) s.caches (c / 16)
    if l.any fun x => x.reads.any fun r => far.any fun y => y.1 == r.1 && y.2.isSome && y.2 != some r.2 then none
    else l.find? fun x => x.unit == u
  else none

/-- The leaf list of a unit for an operation of a context. -/
def State.leafList (s : State) (c : Nat) (far : List (Word × Option (List Word))) (u : Word) :
    Except (Nat × Word) (List Word) :=
  match s.cached c far u with
  | some x => .ok x.leaves
  | none => s.leaves far u

/-- The list used goes to the front of the cache of its tile, which keeps the 64 most recently used (R151); the supervisor
core belongs to no tile and has none. -/
def State.cacheUse (s : State) (c : Nat) (far : List (Word × Option (List Word))) (u : Word) : State :=
  if uKind u = 15 ∧ c < 256 then
    match s.cached c far u, s.leafList c far u with
    | some x, _ =>
      let l := tblGet (fun _ => []) s.caches (c / 16)
      { s with caches := tblSet (fun _ => []) s.caches (c / 16) (x :: l.filter fun y => y.unit != u) }
    | none, .ok l =>
      let x : CacheLine := ⟨u, l, far.filterMap fun y => y.2.map fun m => (y.1, m)⟩
      let old := (tblGet (fun _ => []) s.caches (c / 16)).filter fun y =>
        y.unit != u && !y.reads.any fun r => far.any fun z => z.1 == r.1 && z.2.isSome && z.2 != some r.2
      { s with caches := tblSet (fun _ => []) s.caches (c / 16) ((x :: old).take 64) }
    | none, .error _ => s
  else s

/-- Is a local unit fenced: the device is, or its tile is stale (R97, R521)? -/
def State.leafFenced (s : State) (u : Word) : Bool :=
  s.fenced || (match unitTile (uKind u) (uIndex u) with
    | some t => bitOf (s.fld LEAT_STALE LEAT_STALE_TILES) t
    | none => false)

/-- Is a local unit retired (R525, R646)? -/
def State.leafRetired (s : State) (u : Word) : Bool :=
  match unitTile (uKind u) (uIndex u) with
  | some t => bitOf (s.fld LEAT_TRET_STAT LEAT_TRET_STAT_RETIRED) t || s.tileState t == 2
  | none => false

/-- Does a local leaf count as owned by a context (R443, R444)? Tile and device leaves are the supervisor's. -/
def State.leafOwned (s : State) (c : Nat) (grant : Bool) (u : Word) : Bool :=
  grant || decide (256 ≤ c) || (decide (uKind u ≠ 5 ∧ uKind u ≠ 6) && s.ownsUnit c (uKind u) (uIndex u))

/-- The fault of a leaf in the walk, if any. -/
def State.leafFault (s : State) (c : Nat) (grant : Bool) (u : Word) : Option Nat :=
  if uDev u = s.dev then
    (if s.leafFenced u then some ufFenced
     else if s.leafRetired u then some ufRetired
     else if !s.leafOwned c grant u then some ufNotOwned
     else none)
  else if !s.isMember (uDev u) then some ufNotMember
  else if s.bit (LEAT_PATH (uDev u)) LEAT_PATH_L1 then some ufLevel
  else none

/-- The implementing leaves of an operation on the unit of a handle, or the fault with its unit ID (R35). -/
def State.resolve (s : State) (c : Nat) (far : List (Word × Option (List Word))) (e : Handle) (kinds : List Nat) :
    Except (Nat × Word) (List Word) :=
  match s.leafList c far e.unit with
  | .error x => .error x
  | .ok l =>
    match l.findSome? (fun u => (s.leafFault c e.grant u).map fun sub => (sub, u)) with
    | some x => .error x
    | none =>
      let impl := l.filter fun u => !(leafUnits kinds u).isEmpty
      if impl.isEmpty then .error (ufNoImpl, e.unit) else .ok impl

/-- The units of local leaves that an operation acts on: a write or a load that reaches one filter engine through
several channels acts on it once (R286, R302). -/
def onceEach (r : UnitReq) (l : List (Nat × Nat)) : List (Nat × Nat) :=
  match r with
  | .ucmd .. | .urd .. => l
  | _ => l.foldl (fun acc (x : Nat × Nat) =>
      if x.1 == 2 && acc.any (fun y => y.1 == 2 && y.2 / 8 == x.2 / 8) then acc else acc ++ [x]) []

/-- The operations of the local leaves among some. -/
def State.localOps (s : State) (q : Req) (gen : Nat) (r : UnitReq) (st : Option (Stamp × Qual)) (impl : List Word) :
    List StOp :=
  let (p, ql) := st.getD (0, .fwd)
  (onceEach r ((impl.filter fun u => uDev u == s.dev).flatMap (leafUnits (reqKinds r)))).map fun (k, x) =>
    ⟨k, x, p, ql, reqOp r k x, q, gen⟩

/-- The other devices among some leaves, in walk order. -/
def State.farDevs (s : State) (impl : List Word) : List Nat :=
  ((impl.map uDev).filter (· != s.dev)).eraseDups

/-- The fields of the request to another device: the operation, its stamp, its leaves there. -/
def uopArgs (r : UnitReq) (st : Option (Stamp × Qual)) (impl : List Word) (d : Nat) : List Nat :=
  reqArgs r ++ (match st with
    | none => [0]
    | some (p, q) => [1, p.toNat, match q with | .fwd => 0 | .rev => 1 | .both => 2])
    ++ (impl.filter fun u => uDev u == d).map (·.toNat)

/-- A unit operation is sent to another device; the context keeps which devices it sent to (R451), and that an
acknowledgement is due (R133). -/
def State.unitSend (s : State) (c : Nat) (leaf : Word) (read : Bool) (d : Nat) (args : List Nat) : State :=
  let s := s.ctxRequest c .uop d args (if read then .urd c else .unit c (s.genOf c) leaf.toNat)
  let x := s.ctx c
  s.setCtx c { x with
    unitOut := if read then x.unitOut else x.unitOut + 1
    sentTo := if x.sentTo.contains d then x.sentTo else d :: x.sentTo }

/-! ### Reads of units (R147) -/

/-- The combination of values in walk order by the code of R147. -/
def combine (c : Nat) (l : List Word) : Word :=
  match l with
  | [] => 0
  | v :: r =>
    match c with
    | 0 => v
    | 1 => r.foldl (· ||| ·) v
    | 2 => r.foldl (· &&& ·) v
    | 3 => r.foldl (fun a b => if b.ult a then b else a) v
    | 4 => r.foldl (fun a b => if a.ult b then b else a) v
    | _ => BitVec.ofNat 32 (min 0xFFFFFFFF ((v :: r).map (·.toNat)).sum)

/-- Reading a register at units of this device, in order. -/
def State.readUnits (s : State) (q : Req) (off : Nat) (l : List (Nat × Nat)) : List Word × State :=
  l.foldl (fun (acc, s) (k, x) =>
    let a := unitBase k x + off
    let (v, s) := s.keyRead q a a
    (acc ++ [v], s)) ([], s)

/-- The place of a value in the walk put in order. -/
def insertPlace (x : Nat × Word) : List (Nat × Word) → List (Nat × Word)
  | [] => [x]
  | y :: r => if x.1 < y.1 then x :: y :: r else y :: insertPlace x r

/-- The value that a read of units returns; where no leaf gave one, a free value (log entry 60). -/
def State.urdValue (s : State) (comb : Nat) (vals : List (Nat × Word)) : Word × State :=
  match vals with
  | [] => let (f, s) := s.free; (BitVec.ofNat 32 f, s)
  | l => (combine comb ((l.foldl (fun acc x => insertPlace x acc) []).map (·.2)), s)

end Sys2Proof.Machine
end

