-- ==== Sys2Proof/Machine/UnitIns.lean ====
section
/-! DEFINITION. The unit instructions (R145-R154, R181-R183), AT (R143, R144, R179), ARM and EPCAN (R155), the pin
instructions (R184, R194), and the release of stamped operations (R78). -/

namespace Sys2Proof.Machine

/-- What reads of descriptors of other devices returned. -/
abbrev FarReads := List (Word × Option (List Word))

/-- UNIT_FAULT: CW_TVAL the unit ID, CW_TVALH the handle (Table 3.3). -/
def unitFault (s : State) (h sub : Nat) (u : Word) : Done := .raise s trUnit sub (BitVec.ofNat 64 (h * 2 ^ 32 + u.toNat))

/-- A unit instruction on the handle in a register value: it waits while an epoch is applied (R153); the handle is read,
its rights are checked, its unit is resolved; then what it does with the leaves. -/
def onUnit (c : Nat) (hv : Word) (far : FarReads) (right : Nat) (kinds : List Nat)
    (k : State → Handle → List Word → Done) (s : State) : Done :=
  let h := hv.toNat % 4096
  if s.fld ANG_EPOCH_STAT ANG_EPOCH_STAT_STATE = 4 then .wait s .apply
  else if 4096 ≤ hv.toNat then unitFault s h ufNoHandle 0
  else match s.handle c h with
    | (none, s) => unitFault s h ufNoHandle 0
    | (some e, s) =>
      if !bitOf e.rights right then unitFault s h ufRights e.unit
      else match s.resolve c far e kinds with
        | .error (sub, u) => unitFault (s.cacheUse c far e.unit) h sub u
        | .ok impl => k (s.cacheUse c far e.unit) e impl

/-- Operations are handed to their consumers; what UWR and STG return: bit 0 STAGE_WR, bit 1 RSVD_WR at any of them. An
operation that an idle tile holds (R645) is judged when it is delivered, after rd has been written: it contributes 0
(DESIGN CHOICE, log entry 74). -/
def State.handAll (s : State) (l : List StOp) (stamped : Bool) : Word × State :=
  l.foldl (fun (acc, s) o =>
    match o.op with
    | .uwr a _ | .stg a _ =>
      let ((st, rs), s) := s.watched a fun s => s.hand o stamped
      (acc ||| (if st then 1 else 0) ||| (if rs then 2 else 0), s)
    | _ => (acc, s.hand o stamped)) (0, s)

/-- Remote requests are sent and local leaves take the operation; UWR and STG return rd (R146, R148, R152). -/
def State.unitGo (s : State) (c : Nat) (ops : List StOp) (sends : List (Nat × List Nat)) (leaf : Word) (rd : Nat)
    (stamped : Bool) : State :=
  let s := sends.foldl (fun s x => s.unitSend c leaf false x.1 x.2) s
  let (v, s) := s.handAll ops stamped
  s.setCtx c ((s.ctx c).rset rd v)

/-- An operation on the implementing leaves: a stamped one waits until every local consumer has room (R144). -/
def unitAct (c rd : Nat) (r : UnitReq) (st : Option (Stamp × Qual)) (s : State) (e : Handle) (impl : List Word) : Done :=
  let ops := s.localOps (ctxReq c) (s.genOf c) r st impl
  let sends := (s.farDevs impl).map fun d => (d, uopArgs r st impl d)
  match st with
  | none => .next (s.unitGo c ops sends e.unit rd false)
  | some _ =>
    if s.roomFor ops then .jump (s.unitGo c ops sends e.unit rd true) ((s.ctx c).pc + 8)
    else .wait s (.ops ops sends e.unit.toNat rd)

/-- The register offset of a unit instruction. -/
def Ctx.unitOff (x : Ctx) : UOff → Nat
  | .imm w => 4 * w.toNat
  | .reg r => (x.rget r.val).toNat

/-- An instruction on a unit register (R182): ALIGN first, RANGE after the faults of the unit. -/
def onUnitReg (c h : Nat) (kind : BitVec 4) (off : UOff) (far : FarReads) (right : Nat)
    (k : Nat → State → Handle → List Word → Done) (s : State) : Done :=
  let x := s.ctx c
  let o := x.unitOff off
  if o % 4 ≠ 0 then .raise s trAlign 0 (BitVec.ofNat 64 o)
  else onUnit c (x.rget h) far right [kind.toNat] (fun s e impl =>
    if unitLimit kind.toNat ≤ o then .raise s trBuserr busRange (BitVec.ofNat 64 o) else k o s e impl) s

/-- UWR, stamped or not. -/
def uwrF (c rd h v : Nat) (kind : BitVec 4) (off : UOff) (far : FarReads) (st : Option (Stamp × Qual)) (s : State) : Done :=
  let val := (s.ctx c).rget v
  onUnitReg c h kind off far 1 (fun o => unitAct c rd (.uwr kind (BitVec.ofNat 12 o) val) st) s

/-- UCMD, stamped or not. -/
def ucmdF (c h : Nat) (code : BitVec 4) (a : Byte) (far : FarReads) (st : Option (Stamp × Qual)) (s : State) : Done :=
  let r := UnitReq.ucmd code a
  onUnit c ((s.ctx c).rget h) far (reqRight r) (reqKinds r) (unitAct c 0 r st) s

/-- The word of UWR, STG or URD: UI with an immediate offset, UX with a register. -/
def unitWord (ui ux rd h v : Nat) (kind : BitVec 4) : UOff → Word
  | .imm w => fmtUI ui rd h v kind.toNat w.toNat
  | .reg r => fmtUX ux rd h v kind.toNat r.val

/-- UWR. -/
def execUwr (c : Fin 257) (rd h v : Fin 32) (kind : BitVec 4) (off : UOff) (far : FarReads) (s : State) :
    Host.Outcome State Fault Refusal :=
  issued c (unitWord 0x30 0x33 rd h v kind off) (uwrF c rd h v kind off far none) s

/-- STG. -/
def execStg (c : Fin 257) (rd h v : Fin 32) (kind : BitVec 4) (off : UOff) (far : FarReads) (s : State) :
    Host.Outcome State Fault Refusal :=
  issued c (unitWord 0x31 0x34 rd h v kind off) (fun s =>
    let val := (s.ctx c).rget v
    onUnitReg c h kind off far 2 (fun o => unitAct c rd (.stg kind (BitVec.ofNat 12 o) val) none) s) s

/-- The values of local leaves, by place in the walk. -/
def State.urdLocal (s : State) (q : Req) (kinds : List Nat) (off : Nat) (impl : List Word) : List (Nat × Word) × State :=
  impl.zipIdx.foldl (fun (acc, s) (u, p) =>
    if uDev u = s.dev then
      let (l, s) := s.readUnits q off (leafUnits kinds u)
      (acc ++ l.map fun v => (p, v), s)
    else (acc, s)) ([], s)

/-- URD at the implementing leaves: it waits while a tile that it reads wakes (R645), and for remote replies (R147). -/
def urdAct (c rd hreg comb : Nat) (kind : BitVec 4) (off : Nat) (s : State) (_e : Handle) (impl : List Word) : Done :=
  let kinds := [kind.toNat]
  let units := (impl.filter fun u => uDev u == s.dev).flatMap (leafUnits kinds)
  let asleep := units.filterMap fun x => if s.tileHolds x.1 x.2 then unitTile x.1 x.2 else none
  if !asleep.isEmpty then .wait (asleep.foldl (fun s t => s.tileWake t) s) .apply
  else
    let (vals, s) := s.urdLocal (ctxReq c) kinds off impl
    let r := UnitReq.urd kind (BitVec.ofNat 12 off) (BitVec.ofNat 3 comb)
    match s.farDevs impl with
    | [] =>
      let (v, s) := s.urdValue comb vals
      .next (s.setCtx c ((s.ctx c).rset rd v))
    | ds =>
      let left := ds.map fun d =>
        match impl.zipIdx.find? (fun x => uDev x.1 == d) with
        | some (u, p) => (d, p, u)
        | none => (d, 0, 0)
      let s := ds.foldl (fun s d => s.unitSend c 0 true d (uopArgs r none impl d)) s
      .wait s (.urd rd comb hreg vals left)

/-- URD. -/
def execUrd (c : Fin 257) (rd h : Fin 32) (comb : BitVec 3) (kind : BitVec 4) (off : UOff) (far : FarReads) (s : State) :
    Host.Outcome State Fault Refusal :=
  issued c (unitWord 0x32 0x35 rd h comb.toNat kind off) (fun s =>
    onUnitReg c h kind off far 0 (urdAct c rd (((s.ctx c).rget h).toNat % 4096) comb.toNat kind) s) s

/-- The per-device offset of a word that WLOAD reads: tile SRAM or DDR of this device only (R149, R183). -/
def State.wloadAt (s : State) (c a : Nat) : Option Nat :=
  match s.locLocal c a with
  | .mem o => if o < 0x6100000000 then some o else none
  | _ => none

/-- The words of a WLOAD, or the BUSERR subcause (R149, R183, R436). -/
def State.wloadWords (s : State) (c a n : Nat) : Except Nat (List Word) × State :=
  let at' := (List.range n).map fun k => s.wloadAt c (a + 4 * k)
  if 4096 < n || at'.any (·.isNone) then (.error busRange, s)
  else
    let offs := at'.filterMap id
    let first := offs.headD 0
    let whole := (offs.zipIdx.all fun x => x.1 == first + 4 * x.2)
    let ok := decide (256 ≤ c) || (if whole then s.mpuAllows c (s.dev * 2 ^ 39 + first) (4 * n) .r
      else offs.all fun o => s.mpuAllows c (s.dev * 2 ^ 39 + o) 4 .r)
    if !ok then (.error busMpu, s)
    else
      let s := s.ownFirst c (s.locLocal c a)
      if whole then
        match s.memWords c first n with
        | (some l, s) => (.ok l, s)
        | (none, s) => (.error busEcc, s)
      else
        offs.foldl (fun (r, s) o =>
          match r, s.memWords c o 1 with
          | .ok l, (some w, s) => (.ok (l ++ w), s)
          | _, (_, s) => (.error busEcc, s)) (.ok [], s)

/-- WLOAD (R149, R183). -/
def execWload (c : Fin 257) (n h addr : Fin 32) (far : FarReads) (s : State) : Host.Outcome State Fault Refusal :=
  issued c (fmtS 0x37 n h addr 0 0) (fun s =>
    let x := s.ctx c
    let a := (x.rget addr).toNat
    let k := (x.rget n).toNat
    if a % 4 ≠ 0 then .raise s trAlign 0 (BitVec.ofNat 64 a)
    else onUnit c (x.rget h) far 8 [0, 2] (fun s e impl =>
      if k = 0 then .next s
      else if (List.range k).any fun j => s.locHalted (s.locLocal c (a + 4 * j)) then .wait s .apply
      else match s.wloadWords c a k with
        | (.error sub, s) => .raise s trBuserr sub (BitVec.ofNat 64 a)
        | (.ok ws, s) => unitAct c 0 (.wload ws) none s e impl) s) s

/-- The meaning of a UCMD row. -/
def ucmdRow (code : BitVec 4) (c : Fin 257) (h : Fin 32) (a : Byte) (far : FarReads) (s : State) :
    Host.Outcome State Fault Refusal :=
  issued c (fmtUC h code.toNat a.toNat) (ucmdF c h code a far none) s

/-- UCMD ENABLE. -/
def execUcmdEnable (c : Fin 257) (h : Fin 32) (a : Byte) (far : FarReads) (s : State) : Host.Outcome State Fault Refusal :=
  ucmdRow 0 c h a far s
/-- UCMD DISABLE. -/
def execUcmdDisable (c : Fin 257) (h : Fin 32) (a : Byte) (far : FarReads) (s : State) : Host.Outcome State Fault Refusal :=
  ucmdRow 1 c h a far s
/-- UCMD START. -/
def execUcmdStart (c : Fin 257) (h : Fin 32) (a : Byte) (far : FarReads) (s : State) : Host.Outcome State Fault Refusal :=
  ucmdRow 2 c h a far s
/-- UCMD STOP. -/
def execUcmdStop (c : Fin 257) (h : Fin 32) (a : Byte) (far : FarReads) (s : State) : Host.Outcome State Fault Refusal :=
  ucmdRow 3 c h a far s
/-- UCMD FIRE. -/
def execUcmdFire (c : Fin 257) (h : Fin 32) (a : Byte) (far : FarReads) (s : State) : Host.Outcome State Fault Refusal :=
  ucmdRow 4 c h a far s
/-- UCMD TRIG. -/
def execUcmdTrig (c : Fin 257) (h : Fin 32) (a : Byte) (far : FarReads) (s : State) : Host.Outcome State Fault Refusal :=
  ucmdRow 5 c h a far s
/-- UCMD SAFE. -/
def execUcmdSafe (c : Fin 257) (h : Fin 32) (a : Byte) (far : FarReads) (s : State) : Host.Outcome State Fault Refusal :=
  ucmdRow 6 c h a far s
/-- UCMD CLEAR. -/
def execUcmdClear (c : Fin 257) (h : Fin 32) (a : Byte) (far : FarReads) (s : State) : Host.Outcome State Fault Refusal :=
  ucmdRow 7 c h a far s

/-! ### Pins -/

/-- PINW, stamped or not (R184, R194). -/
def pinwF (c ra : Nat) (st : Option (Stamp × Qual)) (s : State) : Done :=
  let v := (s.ctx c).rget ra
  match st with
  | none => .next (s.pinw (ctxReq c) (c / 16) v)
  | some (p, q) =>
    let o : StOp := ⟨kindPins, c / 16, p, q, .pinw (v >>> 16) (v &&& 0xFFFF), ctxReq c, s.genOf c⟩
    if s.roomFor [o] then .jump (s.hand o true) ((s.ctx c).pc + 8) else .wait s (.ops [o] [] 0 0)

/-- PINW. -/
def execPinw (c : Fin 257) (ra : Fin 32) (s : State) : Host.Outcome State Fault Refusal :=
  issued c (fmtS 0x39 0 ra 0 0 0) (pinwF c ra none) s

/-- PINR. -/
def execPinr (c : Fin 257) (rd : Fin 32) (s : State) : Host.Outcome State Fault Refusal :=
  issued c (fmtS 0x39 rd 0 0 1 0)
    (fun s => .next (s.setCtx c ((s.ctx c).rset rd (BitVec.ofNat 32 (s.fld (PIN_IN (c.val / 16)) PIN_IN_LVL))))) s

/-! ### AT -/

/-- The instruction after AT, with its stamp. -/
def stampedWord (c : Nat) (w : Word) (far : FarReads) (st : Stamp × Qual) (s : State) : Done :=
  let kind := BitVec.ofNat 4 (wKind w)
  match wMajor w with
  | 0x30 => uwrF c (wRd w) (wRa w) (wRb w) kind (.imm (BitVec.ofNat 7 (wOff w))) far (some st) s
  | 0x33 => uwrF c (wRd w) (wRa w) (wRb w) kind (.reg (Fin.ofNat 32 (wbits w 4 0))) far (some st) s
  | 0x36 => ucmdF c (wRa w) (BitVec.ofNat 4 (wbits w 15 12)) (BitVec.ofNat 8 (wbits w 11 4)) far (some st) s
  | 0x2C =>
    let x := s.ctx c
    pushWords c (if wMinor w = 0 then [x.rget (wRa w)] else pushsWords x (wRa w) (wRb w)) (some st) 8 s
  | _ => pinwF c (wRa w) (some st) s

/-- AT with the word that follows it (R143, R179): a trap of either is raised at AT, its own first. -/
def execAtStamp (c : Fin 257) (ra : Fin 32) (q : BitVec 2) (w : Word) (far : FarReads) (s : State) :
    Host.Outcome State Fault Refusal :=
  issued c (fmtS 0x2D 0 ra 0 5 q.toNat) (fun s =>
    let x := s.ctx c
    let p := x.stamp ra
    match s.fetch c (x.pc + 4) with
    | (some sub, s) => .raise s trBuserr sub ((x.pc + 4).setWidth 64)
    | (none, s) =>
      if !legalWord (c.val == ctxSup) w || !mayFollowAt w then .illegal s w
      else if Stamp.beyond p s.angle then angleLate s 1 p
      else stampedWord c w far (p, qualOf q.toNat) s) s

/-- STAMP_QUEUE_ROOM (R144): every consumer has room, and the pair completes. -/
def execStampQueueRoom (c : Fin 257) (s : State) : Host.Outcome State Fault Refusal :=
  .next (match (s.ctx c).stall with
    | .ops l sends leaf rd =>
      if s.roomFor l then
        let s := s.unitGo c l sends (BitVec.ofNat 32 leaf) rd true
        let x := s.ctx c
        (s.setCtx c { x with pc := x.pc + 8 }).resumeCtx c
      else s
    | _ => s)

/-! ### Epochs -/

/-- ARM (R155, R197): on the headwater STATE has left IDLE, or RESULT holds a refusal, when the write has been taken; on
another member ARM waits for the headwater's answer. -/
def execArm (c : Fin 257) (ra : Fin 32) (s : State) : Host.Outcome State Fault Refusal :=
  let w := fmtS 0x38 0 ra 0 0 0
  issued c w (fun s =>
    if c.val ≠ ctxSup then .raise s trPriv 0 (w.setWidth 64)
    else
      let e := (s.ctx c).stamp ra
      let s := (s.put ANG_EPOCH_E_LO (e.extractLsb' 0 32)).setF ANG_EPOCH_E_HI ANG_EPOCH_E_HI_CYCLE (e.toNat / 2 ^ 32)
      let t := s.epCtlWrite .sup (s.epCtlWord 1)
      if s.isHead then .next t else .wait t .arm) s

/-- EPCAN (R155). -/
def execEpcan (c : Fin 257) (s : State) : Host.Outcome State Fault Refusal :=
  let w := fmtS 0x38 0 0 0 1 0
  issued c w (fun s =>
    if c.val ≠ ctxSup then .raise s trPriv 0 (w.setWidth 64) else .next (s.epCtlWrite .sup (s.epCtlWord 2))) s

end Sys2Proof.Machine
end

