-- ==== Sys2Proof/Machine/Dma.lean ====
section
/-! DEFINITION. Moving bytes at this device for engines and other devices, and the DMA engines (R418-R424, Tables 11.5
and 11.6). -/

namespace Sys2Proof.Machine

/-! ### Bytes at a place of this device -/

/-- The requester of a requester code (Table 11.3). -/
def codeReq (n : Nat) : Req :=
  if h : n < 256 then .inst ⟨n, h⟩
  else match n with
    | 0x100 => .sup
    | 0x101 => .host
    | 0x102 => .smbus
    | 0x103 => .jtag
    | _ => .remote

/-- The bytes that fail or are served together: a codeword, an NVM line, a register. -/
def State.pieceSize (s : State) : Loc → Nat
  | .mem o => codeSize (s.midOf o)
  | .nvm _ => 64
  | _ => 4

/-- The address of a place, and the place at another address. -/
def Loc.addr : Loc → Nat
  | .mem o | .sup o | .nvm o | .regs o | .far _ o => o
  | .bad _ => 0
def Loc.atAddr : Loc → Nat → Loc
  | .mem _, o => .mem o
  | .nvm _, o => .nvm o
  | .regs _, o => .regs o
  | l, _ => l

/-- Reading one piece, for a code that the error log shows and a requester of register space. -/
def State.readPiece (s : State) (req : Nat) (q : Req) (loc : Loc) (n : Nat) : Except Nat (List Byte) × State :=
  match loc with
  | .mem o => (match s.memRead req o n with | (some l, s) => (.ok l, s) | (none, s) => (.error busEcc, s))
  | .nvm o => (match s.nvmBytes req o n with | (some l, s) => (.ok l, s) | (none, s) => (.error busEcc, s))
  | .regs a =>
    if a % 4 ≠ 0 ∨ n ≠ 4 then (.error busRegister, s)
    else
      let t := s.busRead q a
      let r := t.reply
      ((match r with
        | .value v => .ok (bytesOf 4 v)
        | .error sub => .error sub
        | _ => .error busRegister), { t with reply := s.reply })
  | .bad sub => (.error sub, s)
  | _ => (.error busRange, s)

/-- Reading n bytes piece by piece: each piece's length with what it gave. -/
def State.readPieces (s : State) (req : Nat) (q : Req) (loc : Loc) (n : Nat) :
    List (Nat × Except Nat (List Byte)) × State :=
  (cutCodes (s.pieceSize loc) n loc.addr (List.replicate n 0)).foldl (fun (acc, s) (b, o, l) =>
    let (x, s) := s.readPiece req q (loc.atAddr (b + o)) l.length
    (acc ++ [(l.length, x)], s)) ([], s)

/-- The bytes of all pieces, or the first error. -/
def wholeOf : List (Nat × Except Nat (List Byte)) → Except Nat (List Byte)
  | [] => .ok []
  | (_, .error e) :: _ => .error e
  | (_, .ok l) :: r => match wholeOf r with | .error e => .error e | .ok m => .ok (l ++ m)

/-- Reading n bytes. -/
def State.readAt (s : State) (req : Nat) (q : Req) (loc : Loc) (n : Nat) : Except Nat (List Byte) × State :=
  let (l, s) := s.readPieces req q loc n
  (wholeOf l, s)

/-- Writing words of register space one after the other; the first error. -/
def State.writeRegs (s : State) (q : Req) (a : Nat) : List Word → Option Nat × State
  | [] => (none, s)
  | w :: r =>
    let t := s.busWrite q a w
    let x := t.reply
    let t := { t with reply := s.reply }
    match x with
    | .error sub => (some sub, t)
    | _ => t.writeRegs q (a + 4) r

/-- Writing bytes as one write that takes effect whole or not at all (R399, R420); the error, if any. -/
def State.writeAt (s : State) (req : Nat) (q : Req) (loc : Loc) (bs : List Byte) : Option Nat × State :=
  match loc with
  | .mem o =>
    (match s.memWrite req o bs with
     | (true, t) => (none, t)
     | (false, t) => (some busEcc, { t with mem := { t.mem with bytes := s.mem.bytes, errs := s.mem.errs } }))
  | .nvm _ => (some busNvmWrite, s)
  | .regs a =>
    if a % 4 ≠ 0 ∨ bs.length % 4 ≠ 0 ∨ !((List.range (bs.length / 4)).all fun k => regAddr (a + 4 * k)) then
      (some busRegister, s)
    else s.writeRegs q a (wordsOf bs)
  | .bad sub => (some sub, s)
  | _ => (some busRange, s)

/-! ### Descriptors (Table 11.5) -/

/-- Completion statuses beyond the BUSERR subcauses (Table 11.6). -/
def dmaPort : Nat := 0x10
def dmaDesc : Nat := 0x11
def dmaAborted : Nat := 0x12

/-- A descriptor as read. -/
def runOf (d : DmaDesc) (w : List Word) : DmaRun :=
  let g (k : Nat) : Nat := (w.getD k 0).toNat
  { op := g 0 / 2 ^ 28
    port := g 0 / 2 ^ 22 % 64
    irq := bitOf (g 0) 21
    src := g 2 % 2 ^ 16 * 2 ^ 32 + g 1
    dst := g 4 % 2 ^ 16 * 2 ^ 32 + g 3
    len := g 5
    fill := w.getD 6 0
    cpl := g 7 % 2 ^ 26 / 8 * 8
    sub := d.sub
    gen := d.gen
    done := 0
    ecc := false
    trio := []
    abort := false
    phase := 0
    data := ⟨0, []⟩ }

/-- The ranges a descriptor reads and writes. -/
def DmaRun.reads (r : DmaRun) : Bool := r.op == 0 || r.op == 2
def DmaRun.writes (r : DmaRun) : Bool := r.op != 2
def DmaRun.streams (r : DmaRun) : Bool := r.op == 2 || r.op == 3

/-- Is the format that of Table 11.5? -/
def DmaRun.formatOk (r : DmaRun) (w : List Word) : Bool :=
  let g (k : Nat) : Nat := (w.getD k 0).toNat
  decide (r.op ≤ 3 ∧ g 0 % 2 ^ 21 = 0 ∧ g 2 / 2 ^ 16 = 0 ∧ g 4 / 2 ^ 16 = 0 ∧ g 7 / 2 ^ 26 = 0 ∧ g 7 % 8 = 0
    ∧ r.len % 4 = 0 ∧ r.len ≠ 0)
  && (!r.reads || r.src % 4 == 0) && (!r.writes || r.dst % 4 == 0)

/-- The content at an offset of a device, this one or another. -/
def State.anyLoc (s : State) (g : Nat) : Loc := if g / 2 ^ 39 = s.dev then s.locOff (g % 2 ^ 39) else farLoc (g % 2 ^ 39)

/-- Which range of Table 1.8 an offset lies in. -/
def Loc.area : Loc → Nat
  | .mem o => if o < 2 ^ 37 then 1 else if o < 0x6100000000 then 2 else 3
  | .nvm _ => 4
  | .regs _ => 5
  | _ => 0

/-- Does a run of bytes lie in one range of Table 1.8? -/
def State.rangeOk (s : State) (g n : Nat) : Bool :=
  let a := (s.anyLoc g).area
  decide (a ≠ 0) && a == (s.anyLoc (g + n - 1)).area && decide (g / 2 ^ 39 = (g + n - 1) / 2 ^ 39)

/-- Does a submitter reach a device (R43)? -/
def State.reachesDev (s : State) (sub d : Nat) : Bool :=
  d == s.dev || (if sub < 256 then s.isMember d else s.holdsIndex d)

/-- May a submitter use a memory stream port (R419, R706)? -/
def State.portAllowed (s : State) (sub p : Nat) : Bool :=
  let a := CXB_OWN (1216 + p)
  decide (256 ≤ sub) || s.bit a CXB_OWN_SHARE || (s.fld a CXB_OWN_MODE == 1 && s.fld a CXB_OWN_INST == sub)

/-- The checks of R419 in their order: the status of the first that fails. -/
def State.dmaCheck (s : State) (r : DmaRun) (w : List Word) : Option Nat :=
  let rd (p : Nat → Bool) : Bool := !r.reads || p r.src
  let wr (p : Nat → Bool) : Bool := !r.writes || p r.dst
  if !r.formatOk w then some dmaDesc
  else if !(rd (s.rangeOk · r.len) && wr (s.rangeOk · r.len)) then some busRange
  else if r.sub < 256 ∧ !(rd (s.mpuAllows r.sub · r.len .r) && wr (s.mpuAllows r.sub · r.len .w)) then some busMpu
  else if !(rd (fun a => s.reachesDev r.sub (a / 2 ^ 39)) && wr (fun a => s.reachesDev r.sub (a / 2 ^ 39))) then
    some busNotMember
  else if r.streams && !s.portAllowed r.sub r.port then some dmaPort
  else none

/-! ### Completion (R423) -/

/-- The descriptor ends: its completion record, its interrupt. -/
def State.dmaEnd (s : State) (e : Nat) (r : DmaRun) (status : Nat) : State :=
  let rec' := bytesOf 4 r.done ++ bytesOf 4 (r.gen * 256 + status)
  let s := (s.memWrite (0x110 + e) (0x6000000000 + r.cpl) rec').2
  let s := if r.irq then s.occur (0x780 + e) else s
  s.setDma e { s.dma e with run := none, fifo := [] }

/-- Is a running descriptor of an old generation of its instance (R424)? -/
def State.dmaOld (s : State) (r : DmaRun) : Bool := decide (r.sub < 256) && r.gen != s.genOf r.sub

/-- Is a stream port used by another engine (R422)? -/
def State.portBusy (s : State) (e p : Nat) : Bool :=
  (List.range 16).any fun k =>
    match (s.dma k).run with
    | some r => k != e && r.streams && r.port == p
    | none => false

/-- The tile whose SRAM a global address of this device lies in. -/
def State.sramTile (s : State) (g : Nat) : Option Nat :=
  let o := g % 2 ^ 39
  if g / 2 ^ 39 = s.dev ∧ 0x6000000000 ≤ o ∧ o < 0x6004000000 then some ((o - 0x6000000000) / 0x400000) else none

/-- The idle tiles a transfer reaches; it is held until they are RUN (R645). -/
def State.dmaAsleep (s : State) (gs : List Nat) : List Nat :=
  (gs.filterMap s.sramTile).filter fun t => s.tileState t == 1 || s.tileState t == 3

/-- DMA_DESC_START (R418, R419, R422): words that cannot be read end the descriptor with ECC; no record can be written
where its own word is one of them. -/
def execDmaDescStart (e : Fin 16) (s : State) : Host.Outcome State Fault Refusal :=
  let x := s.dma e.val
  .next (match x.run, x.queue with
    | none, d :: rest =>
      let asleep := s.dmaAsleep [s.dev * 2 ^ 39 + d.addr]
      if !asleep.isEmpty then asleep.foldl (fun s t => s.tileWake t) s
      else
        let (l, t) := s.readPieces (0x110 + e.val) .sup (.mem d.addr) 32
        let ws := l.map fun p => match p.2 with | .ok b => BitVec.ofNat 32 (natOf b) | .error _ => 0
        let bad (k : Nat) : Bool := match l[k]? with | some (_, .ok _) => false | _ => true
        let r := runOf d ws
        let t := t.setDma e.val { x with queue := rest }
        if bad 7 then t
        else if (List.range 7).any bad then t.dmaEnd e.val r busEcc
        else match t.dmaCheck r ws with
          | some c => t.dmaEnd e.val r c
          | none =>
            if r.streams && t.portBusy e.val r.port then s
            else t.setDma e.val { x with queue := rest, run := some r, fifo := [] }
    | _, _ => s)

/-! ### Bursts (R420, R421) -/

/-- The bytes of the next burst. -/
def DmaRun.burst (r : DmaRun) (fifo : List Word) : Nat :=
  let at' := if r.op = 2 then r.src else r.dst
  let n := min (r.len - r.done) (256 - (at' + r.done) % 256)
  if r.op = 3 then min n (4 * fifo.length) else n

/-- Words to offer: the whole items among them and the words of a trio not yet whole. `n` bounds the items. -/
def itemsRest : Nat → List Word → List CWord × List Word
  | 0, l => ([], l)
  | n + 1, l =>
    match l with
    | [] => ([], [])
    | w :: r =>
      if wordFlag w 0 then
        match r with
        | a :: b :: r' => let (is, rest) := itemsRest n r'; (⟨w, some (a, b)⟩ :: is, rest)
        | _ => ([], l)
      else let (is, rest) := itemsRest n r; (⟨w, none⟩ :: is, rest)

/-- The words a TO_STREAM burst offers: those of an uncorrectable piece are free values with POISON (R421); whether
there was one. -/
def State.streamWords (s : State) (l : List (Nat × Except Nat (List Byte))) : List Word × Bool × State :=
  l.foldl (fun (ws, bad, s) (n, x) =>
    match x with
    | .ok b => (ws ++ wordsOf b, bad, s)
    | .error _ =>
      let (f, s) := s.free
      (ws ++ (List.range (n / 4)).map (fun k => setWordFlag (BitVec.ofNat 32 (f / 2 ^ (32 * k))) 5), true, s)) ([], false, s)

/-- A burst has been committed; after the last the descriptor ends. -/
def State.burstDone (s : State) (e : Nat) (r : DmaRun) (n : Nat) : State :=
  let r := { r with done := r.done + n, phase := 0, data := ⟨0, []⟩ }
  if r.len ≤ r.done then
    s.dmaEnd e r (if !r.trio.isEmpty then dmaDesc else if r.ecc then busEcc else 0)
  else s.setDma e { s.dma e with run := some r }

/-- Words of a TO_STREAM burst go to the port. -/
def State.burstStream (s : State) (e : Nat) (r : DmaRun) (l : List (Nat × Except Nat (List Byte))) (n : Nat) : State :=
  match l.findSome? (fun x => match x.2 with | .error c => if c = busEcc then none else some c | .ok _ => none) with
  | some c => s.dmaEnd e r c
  | none =>
    let (ws, bad, s) := s.streamWords l
    let (is, rest) := itemsRest ws.length (r.trio ++ ws)
    (s.offerAll (1216 + r.port) is).burstDone e { r with trio := rest, ecc := r.ecc || bad } n

/-- Bytes of a burst go to their destination: at another device they are sent, and wait for its answer. -/
def State.burstWrite (s : State) (e : Nat) (r : DmaRun) (bs : List Byte) : State :=
  let g := r.dst + r.done
  let d := g / 2 ^ 39
  if d = s.dev then
    match s.writeAt (0x110 + e) (codeReq r.sub) (s.locOff (g % 2 ^ 39)) bs with
    | (none, s) => s.burstDone e r bs.length
    | (some c, s) => s.dmaEnd e r c
  else if !s.reachesDev r.sub d then s.dmaEnd e r busNotMember
  else
    let s := s.request .mwr d (min r.sub 256) r.gen (g :: bs.map (·.toNat)) (.burst e)
    s.setDma e { s.dma e with run := some { r with phase := 3, data := ⟨0, bs⟩ } }

/-- The data of a burst have been read, or could not be. -/
def State.burstRead (s : State) (e : Nat) (r : DmaRun) (n : Nat) (l : List (Nat × Except Nat (List Byte))) : State :=
  if r.op = 2 then s.burstStream e r l n
  else match wholeOf l with
    | .ok bs => s.burstWrite e r bs
    | .error c => s.dmaEnd e r c

/-- A burst that neither waits nor is aborted is done: a FILL and a FROM_STREAM write what they hold, the others read
first, here or at another device. -/
def State.burstRun (s : State) (e : Nat) (r : DmaRun) (n : Nat) : State :=
  let x := s.dma e
  let g := r.src + r.done
  match r.op with
  | 1 => s.burstWrite e r ((List.replicate (n / 4) (bytesOf 4 r.fill.toNat)).flatten)
  | 3 => (s.setDma e { x with fifo := x.fifo.drop (n / 4) }).burstWrite e r (bytesOfWords (x.fifo.take (n / 4)))
  | _ =>
    if r.phase = 2 then s.burstRead e r n [(n, if r.data.sub = 0 then .ok r.data.bytes else .error r.data.sub)]
    else if g / 2 ^ 39 = s.dev then
      let p := s.readPieces (0x110 + e) (codeReq r.sub) (s.locOff (g % 2 ^ 39)) n
      p.2.burstRead e r n p.1
    else if !s.reachesDev r.sub (g / 2 ^ 39) then s.dmaEnd e r busNotMember
    else
      let s := s.request .mrd (g / 2 ^ 39) (min r.sub 256) r.gen [g, n] (.burst e)
      s.setDma e { s.dma e with run := some { r with phase := 1 } }

/-- DMA_BURST_DONE (R420-R424, R645): a burst that reads or writes another device is done when that has answered; one
whose memory stands still waits (R40). -/
def execDmaBurstDone (e : Fin 16) (s : State) : Host.Outcome State Fault Refusal :=
  let x := s.dma e.val
  .next (match x.run with
    | none => s
    | some r =>
      let n := r.burst x.fifo
      let asleep := s.dmaAsleep
        ((if r.reads then [r.src + r.done] else []) ++ (if r.writes then [r.dst + r.done] else []))
      if s.dmaOld r then
        let s := { s with leat := { s.leat with reqs := s.leat.reqs.filter fun q => q.who != Waiter.burst e.val } }
        s.setDma e.val { x with run := none, fifo := [] }
      else if r.phase = 1 ∨ r.phase = 3 then s
      else if r.phase = 4 then
        (if r.data.sub = 0 then s.burstDone e.val r r.data.bytes.length else s.dmaEnd e.val r r.data.sub)
      else if r.abort then s.dmaEnd e.val r dmaAborted
      else if n = 0 then s
      else if (r.reads && s.locHalted (s.locGlobal 256 (r.src + r.done)))
          || (r.writes && s.locHalted (s.locGlobal 256 (r.dst + r.done))) then s
      else if !asleep.isEmpty then asleep.foldl (fun s t => s.tileWake t) s
      else s.burstRun e.val r n)

/-- What another device answered to a burst: the data of a read, or the end of a write. -/
def State.burstAnswer (s : State) (e sub : Nat) (bs : List Byte) : State :=
  let x := s.dma e
  match x.run with
  | some r =>
    if r.phase = 1 then s.setDma e { x with run := some { r with phase := 2, data := ⟨sub, bs⟩ } }
    else if r.phase = 3 then s.setDma e { x with run := some { r with phase := 4, data := { r.data with sub := sub } } }
    else s
  | none => s

/-- DMA_STREAM_RX (R421): the item that has arrived at a memory stream port goes word by word into the FIFO of the
engine that uses it. -/
def execDmaStreamRx (p : Fin 64) (s : State) : Host.Outcome State Fault Refusal :=
  .next (match s.takeArrived (1216 + p.val) with
    | none => s
    | some (w, s) =>
      match (List.range 16).find? fun e => match (s.dma e).run with | some r => r.op == 3 && r.port == p.val | none => false with
      | none => s
      | some e =>
        w.words.foldl (fun s v =>
          let x := s.dma e
          if x.fifo.length < 64 then s.setDma e { x with fifo := x.fifo ++ [v] }
          else (s.inc (MEM_DMA_DROP_LO e)).flag (MEM_DMA_STAT e) MEM_DMA_STAT_DROP) s)

end Sys2Proof.Machine
end

