-- ==== Sys2Proof/Machine/Durable.lean ====
section
/-! DEFINITION. Ends of NVM line writes and failures of its halves (R426-R429). -/

namespace Sys2Proof.Machine

/-- Bytes as fields of a message. -/
def natsOf (l : List Byte) : List Nat := l.map fun b => b.toNat

/-- The bytes of a journal entry. -/
def State.jnlEntry (s : State) (pos : Nat) : List Byte × State :=
  match s.nvmRead 0x101 (jnlLine pos) with
  | (some a, s) =>
    (match s.nvmRead 0x101 (jnlLine pos + 1) with
     | (some b, s) => (bytesOfWords (a ++ b), s)
     | (none, s) => ([], s))
  | (none, s) => ([], s)

/-- A block of a catch-up as fields of a message: 1 an entry, 2 registers, 3 a compound unit, 4 memory, 5 a region, 6 the
end. -/
def xferFields (m : XferMsg) : List Nat :=
  let pairs (l : List (Word × Word)) : List Nat := l.flatMap fun (x : Word × Word) => [x.1.toNat, x.2.toNat]
  match m with
  | .entry d p => [1] ++ natsOf d ++ natsOf p
  | .regs a st => [2, a.length] ++ pairs a ++ pairs st
  | .compound i l => [3, i.toNat] ++ l.map fun w => w.toNat
  | .memory o d => [4, o.toNat] ++ natsOf d
  | .region r l => [5, r.val] ++ natsOf l
  | .last g j => [6, g.toNat, j.toNat]

/-- A block for the partner whose catch-up this device feeds (R519, R548). -/
def State.xferSend (s : State) (m : XferMsg) : State := s.send (.leat .xfer s.dev (xferFields m))

/-- The entry at a position goes to the partner; its payload, of which the journal keeps a digest alone, is free (log
entry 62). -/
def State.entrySend (s : State) (pos : Nat) : State :=
  let (d, s) := s.jnlEntry pos
  let (p, s) := s.freeBytes (natOf ((d.drop 32).take 4))
  s.xferSend (.entry d p)

/-- What the end of a line write means to the block that asked for it. A standby reports a durable first line to its
partner (R537); a complete entry goes to a partner that catches up by REPLAY (R520). -/
def State.lineEnd (s : State) (u : NvmUse) (ok : Bool) : State :=
  match u with
  | .cmd => s.nvmCmdEnd (if ok then 0 else 2)
  | .ret => s.retEnd ok
  | .sram => s.bankEnd ok
  | .log => s
  | .cal last => s.calLine ok last
  | .jnl seq last =>
    let s := s.jnlLineEnd seq last ok
    if !ok then s
    else if !last && s.twinStandby then s.partnerSend [7, seq]
    else if last && s.twinPrimary && s.twin.feeding == some 1 then
      match s.jnlSeqs.find? fun x => x.1 == seq with
      | some x => s.entrySend x.2
      | none => s
    else s
  | .key => s.keyEnd ok

/-- The end of a write that its half can no longer make. -/
def State.lineLost (s : State) (u : NvmUse) : State :=
  match u with
  | .cmd => s.nvmCmdEnd 3
  | u => s.lineEnd u false

/-- A half is declared failed (R429, R578, R533): writes to lines held only there complete with HALF. The spec gives no
code of this cause in FAULT: it is free (log entry 61). -/
def State.halfFail (s : State) (h : Nat) : State :=
  if s.halfFailed h then s
  else
    let s := s.flag NVM_STATUS (if h = 0 then NVM_STATUS_HALF_W_FAIL else NVM_STATUS_HALF_E_FAIL)
    let s := (s.deviceCheck 0x20).flag JNL_STATUS JNL_STATUS_DEGRADED
    let (f, s) := s.free
    let s := s.twinDrop (f % 256)
    let dead := s.mem.nvmQ.filter fun w => (s.nvmServing w.line).isEmpty
    let s := { s with mem := { s.mem with nvmQ := s.mem.nvmQ.filter fun w => !(s.nvmServing w.line).isEmpty } }
    dead.foldl (fun s w => s.lineLost w.use) s

/-- NVM_LINE_DURABLE (R426): the write that a half has under way ends, verified or after three attempts that did not
verify; the sixteenth line of a half that fails to verify fails the half (R429). -/
def execNvmLineDurable (h : Fin 2) (ok : Bool) (s : State) : Host.Outcome State Fault Refusal :=
  .next (match s.nvmFront h.val with
    | none => s
    | some w =>
      if s.halted 28 then s
      else
      let s := { s with mem := { s.mem with nvmQ := s.mem.nvmQ.erase w } }
      if ok then (s.nvmStore w.line w.data).lineEnd w.use true
      else
        let bad := if s.mem.nvmBad.contains w.line then s.mem.nvmBad else w.line :: s.mem.nvmBad
        let s := { s with mem := { s.mem with nvmBad := bad } }.lineEnd w.use false
        if 16 ≤ (bad.filter fun l => (nvmHomes l).contains h.val).length then s.halfFail h.val else s)

/-- NVM_HALF_FAIL (R429): the half's controller reports a fault. -/
def execNvmHalfFail (h : Fin 2) (s : State) : Host.Outcome State Fault Refusal := .next (s.halfFail h.val)

end Sys2Proof.Machine
end

