-- ==== Sys2Proof/Machine/BootLoad.lean ====
section
/-! DEFINITION. The boot image and the loading of a chain (R588-R604), DDR training (R595), the end of a wake item
(R650, R651). -/

namespace Sys2Proof.Machine

/-! ### The image (R593, R594, R597) -/

/-- The image key the image is signed with, and its signature, are big-endian. -/
def natBig (l : List Byte) : Nat := l.foldl (fun n b => n * 256 + b.toNat) 0

/-- Sections of an image. -/
def imgSects (l : List Byte) : Nat := at' l 6 2
/-- Bytes of an image. -/
def imgLen (l : List Byte) : Nat := at' l 8 4
/-- Is the image signed? -/
def imgSigned (l : List Byte) : Bool := bitOf (at' l 12 4) 0
/-- The bytes of header and table. -/
def imgTop (l : List Byte) : Nat := 256 + 32 * imgSects l

/-- An entry of the section table (Table 17.4). -/
structure Sect where
  type : Nat
  flags : Nat
  dev : Nat
  off : Nat
  size : Nat
  dest : Nat
  param : Nat
  crc : Nat
  clean : Bool
  deriving DecidableEq, Repr

/-- Entry k of the table. -/
def imgSect (l : List Byte) (k : Nat) : Sect :=
  let e := (l.drop (256 + 32 * k)).take 32
  ⟨at' e 0 1, at' e 1 1, at' e 2 2, at' e 4 4, at' e 8 4, at' e 12 6, at' e 20 4, at' e 24 4,
    at' e 18 2 == 0 && at' e 28 4 == 0⟩

/-- The table. -/
def imgTable (l : List Byte) : List Sect := (List.range (imgSects l)).map (imgSect l)

/-- Does a section carry SYNC? -/
def Sect.sync (x : Sect) : Bool := bitOf x.flags 0
/-- Is a section for a device? -/
def Sect.for' (x : Sect) (d : Nat) : Bool := x.dev == 0xFFFF || x.dev == d

/-- Is a field of the header out of range (Table 17.3)? -/
def hdrBad (l : List Byte) : Bool :=
  let n := imgSects l
  decide (n = 0 ∨ 1024 < n ∨ imgLen l % 256 ≠ 0 ∨ 0x10000000 < imgLen l ∨ 4 ≤ at' l 12 4 ∨ at' l 20 1 < 25
    ∨ 200 < at' l 20 1 ∨ at' l 21 1 < 8 ∨ 30 < at' l 21 1 ∨ at' l 22 2 = 0 ∨ 512 < at' l 22 2 ∨ at' l 24 2 = 0
    ∨ at' l 26 2 = 0 ∨ at' l 224 28 ≠ 0)

/-- Does an entry hold a reserved value, or break the layout, its payload lying between two bounds (Table 17.5)? -/
def Sect.bad (x : Sect) (lo hi : Nat) : Bool :=
  decide (x.type = 0 ∨ 5 < x.type ∨ 1 < x.flags ∨ (512 ≤ x.dev ∧ x.dev ≠ 0xFFFF) ∨ x.off % 256 ≠ 0 ∨ x.off < lo
    ∨ x.size % 4 ≠ 0 ∨ x.size = 0 ∨ 2 ^ 39 ≤ x.dest ∨ hi < x.off + x.size
    ∨ ((x.type = 2 ∨ x.type = 3 ∨ x.type = 5) ∧ x.param ≠ 0) ∨ (3 ≤ x.type ∧ x.dest ≠ 0)
    ∨ (x.type = 3 ∧ x.size % 8 ≠ 0) ∨ (x.type = 4 ∧ (x.size % 4096 ≠ 0 ∨ 256 < x.param + x.size / 4096))) || !x.clean

/-- Is a table bad? -/
def tableBad : List Sect → Nat → Nat → Bool
  | [], _, _ => false
  | x :: r, lo, hi => x.bad lo hi || tableBad r (x.off + x.size) hi

/-- The image digest (R597). -/
def imgDigest (l : List Byte) : List Byte :=
  sha384 ((l.take (imgLen l)).zipIdx.map fun (b, k) => if 128 ≤ k ∧ k < 224 then 0 else b)

/-- Rows 2 to 7 of Table 17.6 on header and table; `flash`: read from this device's flash (R592). 0: they pass. -/
def State.imgCause (s : State) (l : List Byte) (flash : Bool) : Nat :=
  let top := (s.reg BOOT_OXBOW).toNat
  if at' l 0 4 ≠ 0x4B4C5653 ∨ at' l 4 2 ≠ 1 then 2
  else if at' l 252 4 ≠ (crc32 (l.take 252)).toNat then 3
  else if hdrBad l || (flash && (if s.boot.oxbow then top % 256 != 0 else decide (top < imgLen l))) then 4
  else if s.bit BOOT_KEYSTAT BOOT_KEYSTAT_KLOCK
      && (!imgSigned l || natOf (sha384 ((l.drop 32).take 96)) != s.boot.keyHash.toNat) then 5
  else if at' l 28 4 ≠ (crc32 ((l.drop 256).take (32 * imgSects l))).toNat then 6
  else if tableBad (imgTable l) (imgTop l) (imgLen l)
      || ((imgTable l).filter fun x => x.type == 1 && x.for' s.dev).length != 1 then 7
  else 0

/-! ### Sections (R595, R596, R617, Table 17.5) -/

/-- Are the DDR5 channels of a range up? -/
def State.ddrUp (s : State) (a b : Nat) : Bool :=
  [(0, MEM_STATUS_DDR_UP0), (1, MEM_STATUS_DDR_UP1)].all fun (c, f) =>
    s.bit MEM_STATUS f || !(s.midOf a == 0x30 + c || s.midOf b == 0x30 + c
      || (s.bit MEM_DDR_MAP MEM_DDR_MAP_ILV && a / 4096 != b / 4096))

/-- A MEM section: written at DEST. -/
def State.memSect (s : State) (a : Nat) (l : List Byte) : Nat × State :=
  match s.locOff a, s.locOff (a + l.length - 1) with
  | .mem x, .mem y =>
    if y ≠ x + l.length - 1 ∨ (x < 2 ^ 37 && !s.ddrUp x y) then (9, s)
    else let (ok, s) := s.memWrite 0x100 x l; (if ok then 0 else 9, s)
  | _, _ => (9, s)

/-- A REGS section: writes of the supervisor core, in order (R595); the reply of the command is no reply of theirs. -/
def State.regsSect (s : State) : List Word → Nat × State
  | a :: v :: r =>
    let (x, t) := s.watched (plainAddr a.toNat) fun s => s.busWrite .sup a.toNat v
    if x.1 || x.2 then (7, s)
    else match t.reply with
      | .error _ => (9, s)
      | _ => State.regsSect { t with reply := s.reply } r
  | _ => (0, s)

/-- The channels to train at the end of a REGS section (R595). -/
def State.toTrain (s : State) : List Nat :=
  [(0, MEM_STATUS_DDR_UP0), (1, MEM_STATUS_DDR_UP1)].filterMap fun (c, f) =>
    if s.fld (MEM_DDR_CFG c) MEM_DDR_CFG_SIZE != 0 && !s.bit MEM_STATUS f && !s.boot.training.contains c then some c
    else none

/-- Training begins (R595, R649). -/
def State.trainDdr (s : State) : State :=
  s.toTrain.foldl (fun s c =>
    { s with boot := { s.boot with training := s.boot.training ++ [c] } }.wakeAdd 4 c) s

/-- An LGC section: `n` region images from region r on (R596). -/
def State.lgcSect (s : State) : Nat → Nat → List Byte → Nat × State
  | 0, _, _ => (0, s)
  | n + 1, r, l =>
    if imageCause (l.take 4096) (s.fld (LGC_RG_CFG r) LGC_RG_CFG_GCEN) ≠ 0 then (7, s)
    else State.lgcSect ((s.rgLoad r (l.take 4096)).setRgState r rgRun) n (r + 1) (l.drop 4096)

/-- An EBM section: records of essential bits (R617). `n` bounds the records. -/
def State.ebmSect (s : State) : Nat → List Byte → Nat × State
  | 0, _ => (0, s)
  | n + 1, l =>
    if l = [] then (0, s)
    else
      let id := at' l 0 4
      let fl := at' l 4 4
      let k := if fl = 2 then 136 else 8
      if l.length < k ∨ (fl ≠ 1 ∧ fl ≠ 2) ∨ !frameHeld id then (7, s)
      else
        let m : BitVec 1024 := if fl = 2 then BitVec.ofNat 1024 (natOf ((l.drop 8).take 128)) else 0
        State.ebmSect { s with boot := { s.boot with ess := tblSet (fun _ => none) s.boot.ess id (some m) } } n (l.drop k)

/-- A section is loaded (rows 8 and 9 of Table 17.6): the cause it stops the load with, 0 where it does not. -/
def State.loadSect (s : State) (x : Sect) (l : List Byte) : Nat × State :=
  if x.crc ≠ (crc32 l).toNat then (8, s)
  else if !x.for' s.dev then (0, s)
  else match x.type with
    | 1 =>
      if 0x40000 < x.dest + l.length then (9, s)
      else let (ok, s) := s.memWriteIn 0x100 (fun _ => 0x41) x.dest l; (if ok then 0 else 9, s)
    | 2 => s.memSect x.dest l
    | 3 => let (c, s) := s.regsSect (wordsOf l); (c, if c = 0 then s.trainDdr else s)
    | 4 => s.lgcSect (l.length / 4096) x.param l
    | _ => s.ebmSect l.length l

/-! ### One device's attempt (R598, R600-R602) -/

/-- BOOT_STATUS.STATE. -/
def State.bootState (s : State) : Nat := s.fld BOOT_STATUS BOOT_STATUS_STATE
/-- Setting it. -/
def State.setBoot (s : State) (x : Nat) : State := s.setF BOOT_STATUS BOOT_STATUS_STATE x
/-- Does this device read the flash (R599)? -/
def State.hwsel (s : State) : Bool := s.bit LEAT_CFG LEAT_CFG_HWSEL
/-- Is a late load running (R603)? -/
def State.lateBusy (s : State) : Bool := s.bit BOOT_LATE BOOT_LATE_BUSY

/-- The cause of an attempt shows in CAUSE or CAUSE2. -/
def State.showCause (s : State) (c : Nat) : State :=
  s.setF BOOT_STATUS (if s.boot.oxbow then BOOT_STATUS_CAUSE2 else BOOT_STATUS_CAUSE) c

/-- The first failure of the attempt here (R598). -/
def State.bootStop (s : State) (c : Nat) : State :=
  if s.boot.cause ≠ 0 then s else { s with boot := { s.boot with cause := c } }.showCause c

/-- FAILED (R604), which runs no image. -/
def State.bootFailed (s : State) : State := (s.setBoot 5).setF BOOT_STATUS BOOT_STATUS_IMAGE 2

/-- A message of the load: 1 START, 2 the answer to it, 3 bytes, 4 a report after a section, 5 the final report, 6 GO,
7 ABORT. -/
def State.bootSend (s : State) (dst : Nat) (l : List Nat) : State := s.chainSend .boot dst l

/-- A report: to the headwater, which notes its own. -/
def State.bootReport (s : State) (last : Bool) (c : Nat) : State :=
  if s.hwsel then
    { s with boot := if last then { s.boot with reports := s.boot.reports ++ [(s.dev, c)] }
      else { s.boot with synced := s.dev :: s.boot.synced } }
  else s.bootSend s.headIdx [if last then 5 else 4, s.dev, c]

/-- Has the last section a SYNC that is not reported because channels train? -/
def State.syncOwed (s : State) : Bool :=
  decide (2 ≤ s.boot.next) && (imgSect s.boot.img (s.boot.next - 2)).sync

/-- Header and table are here: rows 2 to 7 (R598). An image whose layout cannot be told is reported at once. -/
def State.headSeen (s : State) : State :=
  let c := s.imgCause s.boot.img false
  if c = 0 then { s with boot := { s.boot with next := 1 } }
  else if c = 5 ∨ c = 7 then (({ s with boot := { s.boot with next := 1 } } : State).bootStop c)
  else (s.bootStop c).bootReport true c

/-- The section whose last byte is here is loaded, unless the attempt has stopped; after SYNC, the device reports. -/
def State.sectSeen (s : State) (k : Nat) : State :=
  let x := imgSect s.boot.img k
  let s := { s with boot := { s.boot with next := k + 2 } }
  let s := if s.boot.cause ≠ 0 then s
    else match s.loadSect x ((s.boot.img.drop x.off).take x.size) with
      | (0, s) => s
      | (c, s) => s.bootStop c
  if x.sync && s.boot.training.isEmpty then s.bootReport false s.boot.cause else s

/-- The stream is followed as far as it has come; `n` bounds the sections. -/
def State.bootFollow : Nat → State → State
  | 0, s => s
  | n + 1, s =>
    let l := s.boot.img
    if s.boot.next = 0 then
      if l.length < 256 ∨ l.length < imgTop l ∨ s.boot.cause ≠ 0 then s else State.bootFollow n s.headSeen
    else
      let k := s.boot.next - 1
      let x := imgSect l k
      if k < imgSects l ∧ x.off + x.size ≤ l.length then State.bootFollow n (s.sectSeen k) else s

/-- Bytes of the stream arrive (R600). With the last byte, a device without a fault verifies (R601). -/
def State.bootBytes (s : State) (d : List Byte) : State :=
  let s := { s with boot := { s.boot with img := s.boot.img ++ d } }.bootFollow 1026
  if s.boot.next = 0 ∨ s.boot.img.length < imgLen s.boot.img ∨ s.bootState ≠ 2 then s
  else
    let s := s.setBoot 3
    if s.boot.cause ≠ 0 then s.bootReport true s.boot.cause
    else { s with boot := { s.boot with verifying := true } }

/-- The keys of the registers named by pairs of words. -/
def State.pairKeys (s : State) : List Word → List Nat
  | a :: _ :: r => s.busKey .sup a.toNat :: s.pairKeys r
  | _ => []

/-- The keys of registers a REGS section of the present image names for this device. -/
def State.imgRegs (s : State) : List Nat :=
  ((imgTable s.boot.img).filter fun x => x.type == 3 && x.for' s.dev).flatMap fun x =>
    s.pairKeys (wordsOf ((s.boot.img.drop x.off).take x.size))

/-- What was loaded is discarded (R602): the memories are as R700 leaves them, cells and shadows as at reset, and the
fields that sections wrote at their reset values. -/
def State.discard (s : State) : State :=
  let keep (a : Nat) : Word :=
    (fieldsAt a).foldl (fun v f =>
      if f.acc = .rw ∨ f.acc = .w1s then fieldPut f v (fieldGet f (resetWord a)) else v) (s.reg a)
  let s := s.imgRegs.foldl (fun s a => if (descOf a).isSome then s.put a (keep a) else s) s
  let s := { s with
    staged := []
    mem := { s.mem with bytes := s.mem.bytes.filter fun x => !cleared x.1 }
    lgc := { s.lgc with cells := [] } }
  { s with boot := { s.boot with img := [], next := 0, ess := [], training := [], verifying := false } }

/-- The attempt ends with LINK, and the device waits for a late load (R601, R602). -/
def State.bootLink (s : State) : State :=
  let s := ({ s with boot := { s.boot with cause := 0xB } }.showCause 0xB).bootReport true 0xB
  s.discard.setBoot 1

/-- A device begins an attempt with START (R599). -/
def State.bootAttempt (s : State) (oxbow late : Bool) : State :=
  { s with boot := { s.boot with
    oxbow := oxbow
    lateHere := late
    img := []
    next := 0
    cause := 0
    verifying := false
    startDue := none } }.setBoot 2

/-- The answer to a START, once every tile is powered (R589). -/
def State.bootAnswer (s : State) (oxbow late : Bool) : State :=
  if s.pwr.tilesUp then (s.bootAttempt oxbow late).bootSend s.headIdx [2, s.dev]
  else { s with boot := { s.boot with startDue := some (oxbow, late) } }

/-- The entry point of the loaded program. -/
def State.bootEntry (s : State) : Nat :=
  match (imgTable s.boot.img).find? fun x => x.type == 1 && x.for' s.dev with
  | some x => x.param
  | none => 0

/-- The device starts (R588 step 8, R601, R607): AUTO begins Sluice; a headwater in a chain is MEMBER (R609). -/
def State.bootRun (s : State) : State :=
  let l := s.boot.img
  let s := (s.setF BOOT_STATUS BOOT_STATUS_IMAGE s.boot.oxbow.toNat).setF BOOT_STATUS BOOT_STATUS_LATE s.boot.lateHere.toNat
  let s := (s.put BOOT_IMG (BitVec.ofNat 32 (at' l 16 4))).put BOOT_HDR
    (BitVec.ofNat 32 (at' l 22 2 * 2 ^ 16 + at' l 21 1 * 256 + at' l 20 1))
  let auto := bitOf (at' l 12 4) 1
  let s := s.supStart (BitVec.ofNat 32 s.bootEntry)
  let s := { s with boot := { s.boot with img := [], next := 0, verifying := false } }
  let s := if s.hwsel && s.anyUp && s.mstate != mMember then (s.setMstate mMember).announce s.dev mMember else s
  if auto then s.sluiceGo else s

/-- GO (R601, R602): a device of the mask that has verified starts; one that found a fault in Oxbow, or in a late load,
is FAILED; any other waits for a late load. -/
def State.bootGo (s : State) (mask : List Nat) : State :=
  if s.bootState ≠ 2 ∧ s.bootState ≠ 3 then s
  else if mask.contains s.dev && s.bootState == 3 && s.boot.cause == 0 && !s.boot.verifying then s.bootRun
  else if s.boot.cause ≠ 0 ∧ s.boot.oxbow then s.bootFailed
  else s.setBoot 1

/-- ABORT (R601, R603): of the primary, the device waits for Oxbow; of Oxbow or of a late load, it is FAILED. -/
def State.bootAborted (s : State) : State :=
  let st := s.bootState
  if st = 2 ∨ st = 3 then
    let s := s.bootStop 0xC
    if s.boot.oxbow || s.boot.lateHere then s.bootFailed
    else { s with boot := { s.boot with oxbow := true, img := [], next := 0, verifying := false } }.setBoot 1
  else if st = 1 ∧ (s.boot.oxbow || s.boot.lateHere) then (s.bootStop 0xC).bootFailed
  else s

/-! ### The headwater (R599-R603) -/

/-- The devices that receive the present stream. -/
def State.receivers (s : State) : List Nat :=
  if s.lateBusy then [s.fld BOOT_LATE BOOT_LATE_DEV]
  else (s.dev :: s.boot.answered).filter fun d => !s.boot.excluded.contains d

/-- A late load ends (R603): 1 DONE, 2 FAILED; one that failed is ABORTed at the target. -/
def State.lateEnd (s : State) (r : Nat) : State :=
  let s := if r = 2 then s.bootSend (s.fld BOOT_LATE BOOT_LATE_DEV) [7] else s
  let s := { s with boot := { s.boot with img := [], next := 0, synced := [], syncing := false, lateRetry := false } }
  ((s.setF BOOT_LATE BOOT_LATE_BUSY 0).setF BOOT_LATE BOOT_LATE_RESULT r).occur 0x7F2

/-- What the target of a late load reports (R603): LINK is retried once. -/
def State.lateReport (s : State) (c : Nat) : State :=
  if c = 0 then (s.bootSend (s.fld BOOT_LATE BOOT_LATE_DEV) [6, s.fld BOOT_LATE BOOT_LATE_DEV]).lateEnd 1
  else if c = 0xB ∧ !s.boot.lateRetry then
    { s with boot := { s.boot with img := [], next := 0, synced := [], syncing := false, lateRetry := true } }
  else s.lateEnd 2

/-- The primary is given up for Oxbow (R599, R601). -/
def State.toOxbow (s : State) : State :=
  { s with boot := { s.boot with
    oxbow := true
    img := []
    next := 0
    cause := 0
    reports := []
    synced := []
    syncing := false
    verifying := false } }.setBoot 1

/-- The decision (R601). -/
def State.bootDecide (s : State) : State :=
  let reps := s.boot.reports.filter fun x => s.receivers.contains x.1
  let mine := s.boot.cause
  let mask := (reps.filter fun x => x.2 == 0).map (·.1)
  if !s.boot.oxbow && reps.any (fun x => x.2 != 0 && x.2 != 0xB) then
    ((s.bootSend toAll [7]).bootStop 0xC).toOxbow
  else if mine ≠ 0 then (s.bootSend toAll [7]).bootFailed
  else (s.bootSend toAll (6 :: mask)).bootGo mask

/-- Have all receivers given their final report? -/
def State.allReported (s : State) : Bool := s.receivers.all fun d => s.boot.reports.any fun x => x.1 == d

/-- A wait after a section ends when every receiver has reported (R600). -/
def State.syncCheck (s : State) : State :=
  if s.boot.syncing && s.receivers.all s.boot.synced.contains then
    { s with boot := { s.boot with syncing := false, synced := [] } }
  else s

/-- The decision is due when every receiver has reported. -/
def State.verifyCheck (s : State) : State :=
  if !s.lateBusy && s.hwsel && s.bootState == 3 && s.allReported then s.bootDecide else s

/-- The ends of the SYNC sections of an image. -/
def syncEnds (l : List Byte) : List Nat := ((imgTable l).filter (·.sync)).map fun x => x.off + x.size

/-- Bytes go to every receiver; the headwater takes part itself, except in a late load. -/
def State.bootStream (s : State) (d : List Byte) : State :=
  let s := s.bootSend (if s.lateBusy then s.fld BOOT_LATE BOOT_LATE_DEV else toAll) (3 :: d.map (·.toNat))
  let s := if s.lateBusy then { s with boot := { s.boot with img := s.boot.img ++ d, next := 1 } } else s.bootBytes d
  let wait := (syncEnds s.boot.img).contains s.boot.img.length
  ({ s with boot := { s.boot with syncing := wait } }.syncCheck).verifyCheck

/-- Streaming begins with header and table (R600). -/
def State.streamStart (s : State) : State :=
  let l := s.boot.img
  let s := { s with boot := { s.boot with img := [] } }
  (if s.lateBusy then s
   else { s with boot := { s.boot with next := 0, cause := 0, excluded := [], reports := [], synced := [] } }.setBoot 2).bootStream l

/-- START goes out; with NDEV = 1 the headwater starts at once (R599). -/
def State.bootStarted (s : State) : State :=
  let late := s.lateBusy
  let s := s.bootSend (if late then s.fld BOOT_LATE BOOT_LATE_DEV else toAll) [1, s.boot.oxbow.toNat, late.toNat]
  if !late && at' s.boot.img 22 2 == 1 then
    { s with boot := { s.boot with answered := [] } }.streamStart
  else s

/-- Header and table have been read or have not (R599, Table 17.6). -/
def State.headRead (s : State) (d : Option (List Byte)) : State :=
  let l := d.getD []
  let c := if l.length < 256 ∨ l.length < imgTop l then 1 else s.imgCause l true
  if c = 0 then { s with boot := { s.boot with img := l.take (imgTop l) } }.bootStarted
  else if s.lateBusy then s.lateEnd 2
  else if s.boot.oxbow then
    ((if s.boot.answered.isEmpty then s else s.bootSend toAll [7]).bootStop c).bootFailed
  else (s.bootStop c).toOxbow

/-- FLASH_READ_DONE (R591, R592, R599): `d` is what was read, none where the flash did not answer. -/
def execFlashReadDone (d : Option (List Byte)) (s : State) : Host.Outcome State Fault Refusal :=
  let main := s.bootState == 1 && decide (s.fld BOOT_STATUS BOOT_STATUS_MODE < 2) && !s.boot.gone && s.pwr.tilesUp
  .next (if s.hwsel && s.boot.img.isEmpty && (main || s.lateBusy) && !s.halted 25 then s.headRead d else s)

/-- BOOT_ENUM_TIMEOUT (R599, R601): ENUM_MS has passed, or NDEV - 1 members have answered. Oxbow after the primary is
streamed to the same devices; the target of a late load that did not answer counts as LINK. -/
def execBootEnumTimeout (answered : List (Fin 512)) (s : State) : Host.Outcome State Fault Refusal :=
  let l := answered.map (·.val)
  .next (if !s.hwsel || s.boot.img.isEmpty then s
    else if s.lateBusy then
      (if s.boot.next ≠ 0 then s
       else if l.contains (s.fld BOOT_LATE BOOT_LATE_DEV) then s.streamStart else s.lateReport 0xB)
    else if s.bootState ≠ 1 then s
    else
      let l := l.filter fun d => d != s.dev && (s.boot.answered.isEmpty || s.boot.answered.contains d)
      { s with boot := { s.boot with answered := l } }.streamStart)

/-- FLASH_SECTION_DATA (R600): bytes up to the end of a section with SYNC are sent; none: the flash did not answer. -/
def execFlashSectionData (d : Option (List Byte)) (s : State) : Host.Outcome State Fault Refusal :=
  let l := s.boot.img
  let on := if s.lateBusy then s.boot.next == 1 else s.bootState == 2
  .next (if !s.hwsel || !on || s.halted 25 || s.boot.syncing || imgLen l ≤ l.length then s
    else match d with
      | none => if s.lateBusy then s.lateEnd 2 else ((s.bootStop 1).bootReport true 1).bootDecide
      | some d =>
        let top := ((syncEnds l).filter fun e => decide (l.length < e)).foldl min (imgLen l)
        s.bootStream (d.take (top - l.length)))

/-- BOOT_SECTION_REPORT (R600): a device that has lost the stream counts no more. -/
def execBootSectionReport (rx : Rx) (dev : Fin 512) (cause : BitVec 4) (s : State) : Host.Outcome State Fault Refusal :=
  .next (s.packet rx fun s =>
    if !s.hwsel || !s.boot.syncing || !s.receivers.contains dev.val then s
    else if s.lateBusy && cause != 0 then s.lateReport cause.toNat
    else
      let b := s.boot
      (if cause = 0xB then { s with boot := { b with excluded := dev.val :: b.excluded } }
       else { s with boot := { b with synced := dev.val :: b.synced } }).syncCheck)

/-- BOOT_VERIFY_REPORT (R601). -/
def execBootVerifyReport (rx : Rx) (dev : Fin 512) (cause : BitVec 4) (s : State) : Host.Outcome State Fault Refusal :=
  .next (s.packet rx fun s =>
    if !s.hwsel || !s.receivers.contains dev.val then s
    else if s.lateBusy then s.lateReport cause.toNat
    else if s.bootState ≠ 2 ∧ s.bootState ≠ 3 then s
    else
      let b := s.boot
      let s := { s with boot := { b with
        reports := (b.reports.filter fun (x : Nat × Nat) => x.1 != dev.val) ++ [(dev.val, cause.toNat)] } }
      (if cause = 0xB then
        { s with boot := { s.boot with excluded := dev.val :: s.boot.excluded } }.syncCheck else s).verifyCheck)

/-- BOOT_SYNC_TIMEOUT (R600, R601): the devices that have not reported are excluded; after the last byte the headwater
decides, once its own check has ended. -/
def execBootSyncTimeout (s : State) : Host.Outcome State Fault Refusal :=
  .next (if !s.hwsel then s
    else if s.lateBusy then (if s.boot.next = 1 then s.lateReport 0xB else s)
    else if s.boot.syncing then
      let silent := s.receivers.filter fun d => !s.boot.synced.contains d && d != s.dev
      { s with boot := { s.boot with excluded := silent ++ s.boot.excluded } }.syncCheck
    else if s.bootState = 3 ∧ s.boot.reports.any (fun x => x.1 == s.dev) = true then s.bootDecide
    else s)

/-- LATE_LOAD (R603): the lowest of the devices that wait. -/
def execLateLoad (waiting : List (Fin 512)) (s : State) : Host.Outcome State Fault Refusal :=
  .next (match (waiting.map (·.val)).min? with
    | none => s
    | some d =>
      if !s.hwsel || s.bootState ≠ 4 || s.lateBusy then s
      else
        let rest := (waiting.map (·.val)).filter (· != d)
        let s := { s with boot := { s.boot with
          img := [], next := 0, synced := [], syncing := false, lateRetry := false, late := rest } }
        s.put BOOT_LATE (BitVec.ofNat 32 (2 ^ 31 + d * 2 ^ 16 + min rest.length 511 * 2 ^ 7)))

/-! ### A member -/

/-- BOOT_START (R599). -/
def execBootStart (rx : Rx) (oxbow late : Bool) (s : State) : Host.Outcome State Fault Refusal :=
  .next (s.packet rx fun s => if s.hwsel || s.bootState ≠ 1 then s else s.bootAnswer oxbow late)

/-- BOOT_PACKET (R600, R602): one that fails its check ends the attempt. -/
def execBootPacket (rx : Rx) (d : List Byte) (s : State) : Host.Outcome State Fault Refusal :=
  let mine := !s.hwsel && s.bootState == 2
  .next (if rx.ok then (if mine then s.bootBytes d else s).mirror (7 :: natsOf d)
    else let s := s.inc (LP_CRC_LO rx.port.val); if mine then s.bootLink else s)

/-- BOOT_LINK_TIMEOUT (R601). -/
def execBootLinkTimeout (s : State) : Host.Outcome State Fault Refusal :=
  .next (if !s.hwsel && (s.bootState == 2 || s.bootState == 3) then s.bootLink else s)

/-- BOOT_GO (R601). -/
def execBootGo (rx : Rx) (mask : List (Fin 512)) (s : State) : Host.Outcome State Fault Refusal :=
  .next (s.packet rx fun s => if s.hwsel then s else s.bootGo (mask.map (·.val)))

/-- BOOT_ABORT (R601). -/
def execBootAbort (rx : Rx) (s : State) : Host.Outcome State Fault Refusal :=
  .next (s.packet rx fun s => if s.hwsel then s else s.bootAborted)

/-! ### What ends on each device -/

/-- SIGNATURE_CHECK_DONE (R597, R601), once no channel trains. -/
def execSignatureCheckDone (s : State) : Host.Outcome State Fault Refusal :=
  .next (if s.bootState ≠ 3 ∨ !s.boot.verifying ∨ !s.boot.training.isEmpty then s
    else
      let l := s.boot.img
      let n (o : Nat) : Nat := natBig ((l.drop o).take 48)
      let ok := !imgSigned l || ecdsaOk (n 32, n 80) (n 128) (n 176) (natBig (imgDigest l))
      let s := { s with boot := { s.boot with verifying := false } }
      let s := if ok then s else s.bootStop 0xA
      (s.bootReport true s.boot.cause).verifyCheck)

/-- The installed capacity (R406), GiB. -/
def State.installed (s : State) : Nat :=
  ([(0, MEM_STATUS_DDR_UP0), (1, MEM_STATUS_DDR_UP1)].map fun (c, f) =>
    if s.bit MEM_STATUS f then 2 ^ (s.fld (MEM_DDR_CFG c) MEM_DDR_CFG_SIZE + 2) else 0).sum

/-- DDR_TRAIN_DONE (R595, R686): a channel is up, or the load stops; a report that waited is given. -/
def execDdrTrainDone (c : Fin 2) (ok : Bool) (s : State) : Host.Outcome State Fault Refusal :=
  .next (if !s.boot.training.contains c.val || (s.pwr.waiting ++ s.pwr.ramping).contains (4, c.val) then s
    else
      let s := { s with boot := { s.boot with training := s.boot.training.filter (· != c.val) } }
      let s := if ok then
          let s := s.flag MEM_STATUS (if c.val = 0 then MEM_STATUS_DDR_UP0 else MEM_STATUS_DDR_UP1)
          s.setF MEM_DDR_MAP MEM_DDR_MAP_INSTALLED s.installed
        else s.bootStop 9
      if !s.boot.training.isEmpty then s
      else if s.bootState = 2 ∧ s.syncOwed then (s.bootReport false s.boot.cause).syncCheck
      else if s.bootState = 3 ∧ s.boot.cause ≠ 0 ∧ s.boot.verifying then
        ({ s with boot := { s.boot with verifying := false } }.bootReport true s.boot.cause).verifyCheck
      else s)

/-- What the identity lines give the device (R583): the low line's words `l`, the high line's words `h`. -/
def State.identity (s : State) (l h : List Word) : State :=
  let x := (l.getD 2 0).toNat
  let flags := (l.getD 4 0).toNat
  let hash := natOf (bytesOfWords (h.take 12))
  let ox := l.getD 3 0
  let s := (s.put SYS_UID_LO (l.getD 0 0)).put SYS_UID_HI (l.getD 1 0)
  let s := (s.setF LEAT_CFG LEAT_CFG_FIX (x / 2 ^ 15 % 2)).setF LEAT_CFG LEAT_CFG_FIXIDX (x % 512)
  let s := s.put BOOT_OXBOW (if ox = 0 then 0x08000000 else ox)
  let s := ((s.setF BOOT_KEYSTAT BOOT_KEYSTAT_KLOCK (flags % 2)).setF BOOT_KEYSTAT BOOT_KEYSTAT_DLOCK (flags / 2 % 2)).setF
    BOOT_KEYSTAT BOOT_KEYSTAT_HASHSET (hash != 0).toNat
  let s := { s with boot := { s.boot with keyHash := BitVec.ofNat 384 hash } }.calFind.setBoot 1
  if s.fld BOOT_STATUS BOOT_STATUS_MODE = 3 then s.setF BOOT_STATUS BOOT_STATUS_CAUSE 2 else s

/-- IDENTITY_READ_DONE (R21, R588, R590, R610): the identity region is read, calibration is found. -/
def execIdentityReadDone (s : State) : Host.Outcome State Fault Refusal :=
  .next (if s.pwr.inReset || s.bootState ≠ 0 then s
    else
      let p := s.keyLine 0
      let q := p.2.keyLine 1
      q.2.identity p.1 q.1)

end Sys2Proof.Machine
end

