-- ==== Sys2Proof/Machine/HostQueue.lean ====
section
/-! DEFINITION. The Benmos command engine (sections 16.3 to 16.5): reading, checks, acceptance, execution. -/

namespace Sys2Proof.Machine

/-! ### Operations (Table 16.4) -/

/-- What Table 16.4 says of an operation: PF queue only, journalled, level 3 only. -/
structure HOp where
  pf : Bool
  journalled : Bool
  level3 : Bool
  deriving DecidableEq, Repr

/-- The operations. -/
def hostOp (cls opc : Nat) : Option HOp :=
  match cls, opc with
  | 1, 1 | 1, 2 | 2, 1 => some ⟨false, true, false⟩
  | 1, 3 | 1, 4 | 1, 5 | 3, 1 | 3, 2 | 3, 3 | 3, 4 | 3, 5 => some ⟨true, true, false⟩
  | 4, 1 | 4, 2 => some ⟨false, false, false⟩
  | 4, 3 | 5, 1 | 5, 2 => some ⟨true, false, true⟩
  | _, _ => none

/-- Does an operation read a payload? -/
def hostPayload (cls opc : Nat) : Bool :=
  match cls, opc with
  | 1, 2 | 1, 3 | 2, 1 | 5, 1 | 5, 2 => true
  | _, _ => false

/-- FWD. -/
def HCmd.fwd (c : HCmd) : Bool := bitOf (c.at 1 1) 0
/-- GCHK. -/
def HCmd.gchk (c : HCmd) : Bool := bitOf (c.at 1 1) 1
/-- DEV. -/
def HCmd.dev (c : HCmd) : Nat := c.at 4 2 % 512
/-- ARG1. -/
def HCmd.arg1 (c : HCmd) : Nat := c.at 16 8
/-- PADDR. -/
def HCmd.paddr (c : HCmd) : Nat := c.at 24 8
/-- PLEN. -/
def HCmd.plen (c : HCmd) : Nat := c.at 32 4
/-- The operation of the command. -/
def HCmd.op (c : HCmd) : Option HOp := hostOp c.cls c.opc

/-- The number of registers or entries that a READ command asks for. -/
def HCmd.count (c : HCmd) : Nat := if c.opc = 1 then c.arg0 / 2 ^ 32 else c.arg1

/-- Do the arguments and the payload length lie within an operation's limits (Table 16.2, Table 16.4)? Arguments that
an operation does not use are reserved. -/
def HCmd.argsOk (c : HCmd) : Bool :=
  let a0 (n : Nat) : Bool := decide (c.arg0 < 2 ^ n)
  let rest := c.arg1 == 0 && c.at 40 8 == 0
  let none' := c.plen == 0
  match c.cls, c.opc with
  | 1, 1 => rest && none'
  | 1, 2 => a0 0 && rest && decide (8 ≤ c.plen ∧ c.plen ≤ 2040) && c.plen % 8 == 0
  | 1, 3 => a0 14 && rest && decide (4 ≤ c.plen ∧ c.plen ≤ 256)
  | 1, 4 => a0 48 && rest && none'
  | 1, 5 | 3, 5 => a0 0 && rest && none'
  | 2, _ => true
  | 3, 1 => a0 3 && rest && none' && decide (c.tgt < 256)
  | 3, 2 => a0 3 && rest && none'
  | 3, _ => a0 32 && rest && none'
  | 4, 1 => a0 48 && rest && decide (1 ≤ c.count ∧ c.count ≤ 64) && decide (4 * c.count ≤ c.plen)
  | 4, 2 => a0 0 && rest && decide (64 ≤ c.plen)
  | 4, 3 => c.at 40 8 == 0 && decide (1 ≤ c.count ∧ c.count ≤ 512) && decide (128 * c.count ≤ c.plen)
  | 5, 1 => a0 0 && rest && c.plen == 128
  | _, _ => a0 0 && rest && decide (0 < c.plen)

/-- Check 3: reserved fields, JSEQ, the use of TGT and DEV, PLEN. -/
def HCmd.fieldsOk (c : HCmd) : Bool :=
  c.at 1 1 / 4 % 4 == 0 && decide (c.at 4 2 < 512 ∧ c.at 6 2 ≤ 256) && (c.fwd || c.at 4 2 == 0)
    && (c.cls == 2 || c.cls == 3 || c.at 6 2 == 0) && c.at 36 4 == 0 && c.at 52 4 == 0 && c.at 56 8 == 0
    && (c.gchk || c.at 48 4 == 0) && c.plen % 4 == 0 && decide (c.plen ≤ 2 ^ 20) && c.argsOk

/-- Is the command executed on this device? -/
def State.hostLocal (s : State) (c : HCmd) : Bool := !c.fwd || c.dev == s.dev

/-- Checks 3 to 7 of Table 16.6; `payload`: what the payload's read gave. 0: they pass. -/
def State.hostCheck (s : State) (c : HCmd) (payload : Option (List Byte)) : Nat :=
  let rd := c.cls == 4
  if !c.fieldsOk then 2
  else if c.req != pfCode && ((match c.op with | some o => o.pf | none => false) || (c.cls == 2 && c.tgt != c.req)) then 4
  else if !s.hostLocal c && !s.isMember c.dev then 7
  else if !s.hostLocal c && c.cls == 3 && c.opc == 2 && s.bit (LEAT_PATH c.dev) LEAT_PATH_L1 then 8
  else if s.hostLocal c && s.fenced && !rd then 5
  else if s.hostLocal c && s.mstate != mMember && s.mstate != mAlone && !rd && c.cls != 5 then 6
  else if c.plen ≠ 0 ∧ c.paddr % 8 ≠ 0 then 0x0A
  else if c.plen != 0 && hostPayload c.cls c.opc && !(match payload with | some l => l.length == c.plen | none => false)
    then 0x0A
  else 0

/-- Checks 1 to 7, of a command of a queue pair. -/
def State.hostCheckAll (s : State) (c : HCmd) (payload : Option (List Byte)) : Nat :=
  let two := s.fld (QP_CFG c.qp) QP_CFG_LEVEL == 2
  match c.op with
  | none => 1
  | some o => if two && (o.level3 || c.gchk || c.at 48 4 != 0) then 3 else s.hostCheck c payload

/-! ### Acceptance (R565, R576, R578, R579) -/

/-- The next position whose entry lies in a half that serves. -/
def State.jnlPlace (s : State) (p : Nat) : Nat :=
  if (s.nvmServing (jnlLine p)).isEmpty then (p + 1) % 131072 else p

/-- A command that passed its checks gets its sequence, and its first line is queued; the standby of a pair in MIRROR
is sent it (R535, R537). -/
def State.journal (s : State) (c : HCmd) : State :=
  let n := s.jnl.last + 1
  let p := s.jnlPlace s.jnl.pos
  let c := { c with seq := n, pos := p, phase := .first }
  let next := s.jnlPlace ((p + 1) % 131072)
  let s := { s with jnl := { s.jnl with last := n, pos := next, tokens := s.jnl.tokens - 1 } }
  let s := (s.setF JNL_POS JNL_POS_POS next).setCmds (s.host.cmds ++ [c])
  if (s.nvmServing (jnlLine p)).isEmpty then s.jnlFailed c
  else
    let s := s.nvmQueue (jnlLine p) (wordsOf c.first) (.jnl n false)
    if s.twinPrimary && s.twinState == twMirror then
      ({ s with twin := { s.twin with unreported := n :: s.twin.unreported } }).mirror
        ([6, c.req, (match c.origin with | some (d, _) => d | none => s.dev), c.gen, n, p] ++ natsOf (bytesOf 64 c.body.toNat) ++ natsOf c.payload)
    else s

/-! ### Reading (R558-R560) -/

/-- Does the engine read queue pairs (R579, R581, R605, R572)? -/
def State.hostReads (s : State) : Bool :=
  !s.halted 18 && s.wren && !s.bit JNL_STATUS JNL_STATUS_PFAIL && !s.twinStandby && !s.pwr.standby
    && decide ((s.host.cmds.filter fun c => c.origin.isNone && !c.dropped).length < 32)

/-- Can a queue pair be read (R555, R558)? -/
def State.qpReady (s : State) (q : Nat) : Bool :=
  let x := s.qp q
  let held := (s.host.cmds.filter fun c => c.origin.isNone && c.qp == q && !c.dropped).length
  s.qpOn q && !x.stopped && x.sqHead != x.sqTail
    && decide (ringDist (s.cqSize q) x.cqHead x.cqTail + held + 1 < s.cqSize q)

/-- The queue pair to be read next, in round robin (R560). -/
def State.hostTurn (s : State) : Option Nat :=
  ((List.range 257).map fun k => (s.host.last + 1 + k) % 257).find? s.qpReady

/-- A read of the host that failed (R559). -/
def State.qpReadError (s : State) (q : Nat) : State :=
  (s.qpBell q).setQp q { s.qp q with stopped := true }

/-- The command of queue pair q. -/
def State.readCmd (s : State) (q : Nat) (body : BitVec 512) (payload : List Byte) : HCmd :=
  ⟨q, none, q, if q < 256 then s.genOf q else 0, body, payload, 0, 0, .ready, 0, 0, false⟩

/-- A command that passed its checks goes on: forwarded (R573), kept for its own row, or journalled. -/
def State.hostTake (s : State) (c : HCmd) : State :=
  if !s.hostLocal c then
    let seq := tblGet (fun _ => 0) s.leat.seqs c.dev
    let s := s.setCmds (s.host.cmds ++ [{ c with phase := .forwarded, seq := seq }])
    s.request .benmos c.dev c.req c.gen
      ([0] ++ natsOf (bytesOf 64 c.body.toNat) ++ natsOf c.payload) (.benmos c.qp (c.at 2 2))
  else match c.op with
    | some o => if o.journalled then s.journal c else s.setCmds (s.host.cmds ++ [c])
    | none => s

/-- COMMAND_FETCH (R560, R563): `body` is what the read of the command gave, `payload` what the read of its payload
gave (none: an error completion). -/
def execCommandFetch (body : Option (BitVec 512)) (payload : Option (List Byte)) (s : State) :
    Host.Outcome State Fault Refusal :=
  .next (if !s.hostReads then s
    else match s.hostTurn with
      | none => s
      | some q =>
        let s := { s with host := { s.host with last := q } }
        match body with
        | none => s.qpReadError q
        | some b =>
          let c := s.readCmd q b (payload.getD [])
          let limited : Bool := match c.op with | some o => o.journalled | none => false
          if s.jnl.tokens == 0 && limited && s.hostLocal c then s.flag JNL_STATUS JNL_STATUS_RWAIT
          else
            let x := s.qp q
            let s := s.setQp q { x with sqHead := (x.sqHead + 1) % s.sqSize q }
            match s.hostCheckAll c payload with
            | 0 => s.hostTake c
            | n =>
              let s := if n = 0x0A ∧ payload.isNone ∧ c.paddr % 8 = 0 then s.qpReadError q else s
              s.complete c n 0 false)

/-- JNL_BUCKET_REFILL (R579). -/
def execJnlBucketRefill (s : State) : Host.Outcome State Fault Refusal :=
  .next ({ s with jnl := { s.jnl with
    tokens := min (s.jnl.tokens + 1) (s.fld JNL_RATE JNL_RATE_BURST) } }.setF JNL_STATUS JNL_STATUS_RWAIT 0)

/-! ### Binding (R33, R34, Table 1.6) -/

/-- The compound units reached from some units, and whether a descriptor on the way could not be read. `tab` gives the
members. -/
def reached (tab : Word → Option (List Word)) : Nat → List Word → List Word → Bool → List Word × Bool
  | 0, _, seen, lost => (seen, lost)
  | _ + 1, [], seen, lost => (seen, lost)
  | n + 1, u :: r, seen, lost =>
    if uKind u ≠ 15 ∨ seen.contains u then reached tab n r seen lost
    else match tab u with
      | none => reached tab n r (u :: seen) true
      | some l => reached tab n (l.take 64 ++ r) (u :: seen) lost

/-- The descriptors of a view of this device's compound table, and the active ones of other devices. -/
def State.cmpdTab (s : State) (far : FarReads) (view : Tbl (List Word)) (u : Word) : Option (List Word) :=
  if uDev u = s.dev then some (tblGet (fun _ => []) view (uIndex u))
  else match s.members far u with
    | .ok l => some l
    | .error _ => none

/-- The compound table once the staged changes have landed. -/
def State.cmpdNext (s : State) : Tbl (List Word) :=
  s.cmpdStaged.foldl (fun (t : Tbl (List Word)) (x : Nat × List Word) => tblSet (fun _ => []) t x.1 x.2) s.cmpd

/-- The distinct leaves under some compound units. -/
def leafCount (tab : Word → Option (List Word)) (cs : List Word) : Nat :=
  ((cs.flatMap fun u => (tab u).getD []).filter fun u => uKind u != 15).eraseDups.length

/-- Checks 3 and 4 of Table 1.6 in a view of the compound table that holds the new descriptor: of the bound unit, and of every
compound unit, of this device or read from another, that contains it. A descriptor that cannot be read is a failure of
check 4, which reads it, with the status of check 1; a cycle that the readable descriptors show comes first, as check 3
does (DESIGN CHOICE, log entry 96). -/
def State.bindView (s : State) (far : FarReads) (view : Tbl (List Word)) (self : Word) (m : List Word) : Nat :=
  let fuel := 64 * (16384 + far.length) + 66
  let tab := s.cmpdTab far view
  let own := reached tab fuel m [] false
  let units := (view.map fun x => unitId s.dev 15 x.1) ++ (far.map (·.1)).filter fun u => uDev u != s.dev && uKind u == 15
  let holders := (units.filter (· != self)).filterMap fun u =>
    let r := reached tab fuel [u] [] false
    if r.1.contains self then some r else none
  if own.1.contains self then 3
  else if own.2 || holders.any (·.2) then 1
  else if decide (4096 < leafCount tab (self :: own.1)) || holders.any (fun r => decide (4096 < leafCount tab r.1)) then 4
  else 0

/-- The order of the first failing check of Table 1.6 for the host PF, who may bind every unit as the supervisor may; 0
where none fails. Checks 3 and 4 hold in the table as it is and as it will be once the staged changes have landed
(log entry 96). -/
def State.bindCheck (s : State) (far : FarReads) (i : Nat) (m : List Word) : Nat :=
  let view := fun (t : Tbl (List Word)) => s.bindView far (tblSet (fun _ => []) t i m) (unitId s.dev 15 i) m
  let now := view s.cmpd
  let next := view s.cmpdNext
  if m.any fun u => !namesUnit u || !(uDev u == s.dev || s.isMember (uDev u)) then 1
  else if 64 < m.length then 2
  else if now = 3 ∨ next = 3 then 3
  else if now = 1 ∨ next = 1 then 1
  else if now = 4 ∨ next = 4 then 4
  else if m.any fun u => uDev u != s.dev && s.bit (LEAT_PATH (uDev u)) LEAT_PATH_L1 then 5
  else 0

/-- The units that live handles of this device name (R445, R446): entries of an enabled table with VALID. -/
def State.liveUnits (s : State) : List Word :=
  let on := (if s.bit INST_SV_HT INST_SV_HT_EN then s.tables.take 1 else [])
    ++ ((List.range 256).zip (s.tables.drop 1)).filterMap fun (i, b) => if s.bit (INST_HT i) INST_HT_EN then some b else none
  let top (a : Nat) : Bool := on.any fun b => decide (b ≤ a ∧ a < b + 0x8000) && a % 8 == 7
  (s.mem.bytes.filter fun (a, v) => top a && decide (128 ≤ v.toNat)).map fun (a, _) =>
    BitVec.ofNat 32 (natOf ((List.range 4).map fun k => (s.byteAt (a - 7 + k)).getD 0))

/-- Is compound unit i reachable from a live handle (R34): one of this device, through the compound units of this device and
of others, or one of another device (`elsewhere`)? -/
def State.bindLive (s : State) (far : FarReads) (elsewhere : Bool) (i : Nat) : Bool :=
  elsewhere || (reached (s.cmpdTab far s.cmpd) (64 * (16384 + far.length) + 16384) s.liveUnits [] false).1.contains
    (unitId s.dev 15 i)

/-- A descriptor takes its place in the compound table (R34): a change to one that a live handle reaches is staged; else it
takes effect, and the resolution caches are dropped (R151). -/
def State.descPut (s : State) (live : Bool) (i : Nat) (m : List Word) : State :=
  if (tblGet (fun _ => []) s.cmpd i) ≠ [] ∧ live then { s with cmpdStaged := tblPut s.cmpdStaged i m }
  else { s with cmpd := tblSet (fun _ => []) s.cmpd i m, cmpdStaged := tblDrop s.cmpdStaged i, caches := [] }

/-- A descriptor is bound (R33, R34). -/
def State.bindUnit (s : State) (far : FarReads) (elsewhere : Bool) (i : Nat) (m : List Word) : Nat × State :=
  match s.bindCheck far i m with
  | 0 => (0, s.descPut (s.bindLive far elsewhere i) i m)
  | n => (n, s)

/-! ### Execution (R566-R573) -/

/-- The requester that a command writes and reads as (R573): an instance of another device is no instance here. -/
def HCmd.who (c : HCmd) : Req := if c.origin.isSome ∧ c.req ≠ pfCode then .remote else reqOf c.req

/-- The status of a register access that was refused: DENIED for an instance of another device (R573), else EXEC. -/
def HCmd.refused (c : HCmd) : Nat := if c.who = .remote then 4 else 0x10

/-- A register write of a command: STAGE_WR and RSVD_WR as it set them, none where it was refused. -/
def State.hostWrite (s : State) (q : Req) (a : Nat) (v : Word) : Option (Bool × Bool) × State :=
  let (x, t) := s.watched (plainAddr a) fun s => s.busWrite q a v
  let r := t.reply
  let t := { t with reply := s.reply }
  match r with
  | .error _ => (none, t)
  | _ => (some x, t)

/-- The pairs of REG_WRITE_N in order from the k-th on, with the index of the first that set a flag (1 on; 0: none);
it ends at a pair that is refused. -/
def State.hostPairs (s : State) (c : HCmd) : List Word → Nat → Nat → (Nat × Nat) × State
  | a :: v :: r, k, first =>
    match s.hostWrite c.who a.toNat v with
    | (none, s) => ((c.refused, 0), s)
    | (some x, s) => s.hostPairs c r (k + 1) (if first = 0 ∧ (x.1 || x.2) then k + 1 else first)
  | _, _, first => ((0, first), s)

/-- The word of a mailbox slot's STATE (Table 16.8). -/
def State.slotWord (s : State) (t k : Nat) : Option Word × State :=
  match s.memWords 0x101 (s.slotAddr t k + 64) 1 with
  | (some [w], s) => (some w, s)
  | (_, s) => (none, s)

/-- Is a target's ring valid? -/
def State.mbxOn (s : State) (t : Nat) : Bool :=
  if t < 256 then s.bit (HOST_QP_MBX t) HOST_QP_MBX_EN else s.bit HOST_SV_MBX HOST_SV_MBX_EN

/-- POST (R569): the command goes into the next slot of its target's ring, or waits. -/
def State.hostPost (s : State) (c : HCmd) : HPhase × State :=
  let t := c.tgt
  let k := tblGet (fun _ => 0) s.host.slot t
  if !s.mbxOn t then (.accepted, s)
  else match s.slotWord t k with
    | (some 0, s) =>
      let s := (s.memWrite 0x101 (s.slotAddr t k) (c.first ++ bytesOf 4 1)).2
      (.posted k, { s with host := { s.host with slot := tblSet (fun _ => 0) s.host.slot t ((k + 1) % 8) } })
    | (_, s) => (.accepted, s)

/-- A result that a control command ends with at once, or a wait for its end. -/
def hostResult (wait : Bool) (ok r : Nat) : HPhase := if wait then .running else .ended (if r = ok then 0 else 0x10) r

/-- What a command does when it executes: the phase it comes to, accepted where it waits. -/
def State.hostDo (s : State) (c : HCmd) (far : FarReads) (elsewhere : Bool) : HPhase × State :=
  let v := BitVec.ofNat 32 c.arg0
  match c.cls, c.opc with
  | 1, 1 =>
    (match s.hostWrite c.who (c.arg0 % 2 ^ 32) (BitVec.ofNat 32 (c.arg0 / 2 ^ 32)) with
     | (none, s) => (.ended c.refused 0, s)
     | (some x, s) => (.ended 0 (x.1.toNat + 2 * x.2.toNat), s))
  | 1, 2 => let (r, s) := s.hostPairs c (wordsOf c.payload) 0 0; (.ended r.1 r.2, s)
  | 1, 3 => let (n, s) := s.bindUnit far elsewhere c.arg0 (wordsOf c.payload); (.ended (if n = 0 then 0 else 0x10) n, s)
  | 1, 4 =>
    let busy := decide (1 ≤ s.epState ∧ s.epState ≤ 4)
    let s := s.epRequest (BitVec.ofNat 48 c.arg0) false
    (hostResult (!busy && decide (1 ≤ s.epState ∧ s.epState ≤ 4)) 0
      (if busy then 0x10 else s.fld ANG_EPOCH_STAT ANG_EPOCH_STAT_RESULT), s)
  | 1, _ => let s := s.applyNow; (hostResult false 0 (s.fld ANG_EPOCH_STAT ANG_EPOCH_STAT_RESULT), s)
  | 2, _ => s.hostPost c
  | 3, 1 =>
    let a := INST_STATE c.tgt
    let was := s.fld a INST_STATE_BADOP
    let s := (s.setF a INST_STATE_BADOP 0).instCmd c.tgt (c.arg0 % 8)
    let bad := s.fld a INST_STATE_BADOP
    (.ended (if bad = 1 ∨ 5 ≤ c.arg0 % 8 then 0x10 else 0) 0, if was = 1 then s.flag a INST_STATE_BADOP else s)
  | 3, 2 =>
    let s := s.twinCmdWrite .host v
    (hostResult (s.twin.pend.isSome && s.fld TWIN_RESULT TWIN_RESULT_RESULT == 1) 0 (s.fld TWIN_RESULT TWIN_RESULT_RESULT), s)
  | 3, 3 =>
    let s := s.staleWrite .host (v ||| 0x80000000)
    (hostResult s.leat.catching 2 (s.fld LEAT_STALE LEAT_STALE_RESULT), s)
  | 3, 4 =>
    let s := s.tretWrite .host v
    (hostResult (s.leat.tret.isSome && s.fld LEAT_TRET_STAT LEAT_TRET_STAT_RESULT == 1) 0
      (s.fld LEAT_TRET_STAT LEAT_TRET_STAT_RESULT), s)
  | _, _ => (.ended 0 0, s.fence 0x05)

/-- The command whose turn it is (R566): the lowest sequence not executed, where it is accepted. A POST counts as
executed once it is in its slot. -/
def State.hostNext (s : State) : Option HCmd :=
  let l := s.host.cmds.filter fun c => c.phase == .first || c.phase == .accepted || c.phase == .running
  match l.foldl (fun (m : Option HCmd) c => match m with
    | some x => if c.seq < x.seq then some c else m
    | none => some c) none with
  | some c => if c.phase == .accepted && !s.bit JNL_STATUS JNL_STATUS_PFAIL then some c else none
  | none => none

/-- A command executes, unless GCHK finds another generation (Table 16.5). -/
def State.hostRun (s : State) (c : HCmd) (far : FarReads) (elsewhere : Bool) : State :=
  if c.gchk && (s.gen.toNat != c.at 48 4) then s.endCmd c 0x0B 0
  else match s.hostDo c far elsewhere with
    | (.ended st d, s) => s.endCmd c st d
    | (p, s) => s.mapCmd (fun x => x.seq == c.seq && x.phase == .accepted) fun x => some { x with phase := p }

/-- The command whose turn it is executes, if it is one of a class and operation. -/
def State.hostRow (s : State) (cls opc : Nat) (far : FarReads) (elsewhere : Bool) : State :=
  match s.hostNext with
  | some c => if c.cls = cls ∧ c.opc = opc then s.hostRun c far elsewhere else s
  | none => s

/-- COMMAND_EXECUTE (R566): `far` is what a BIND reads outside this device. -/
def execCommandExecute (far : FarUnits) (s : State) : Host.Outcome State Fault Refusal :=
  .next (match s.hostNext with
    | some c => s.hostRun c far.reads far.live
    | none => s)

/-- REG_WRITE (R568). -/
def execRegWrite (s : State) : Host.Outcome State Fault Refusal := .next (s.hostRow 1 1 [] false)
/-- REG_WRITE_N (R568). -/
def execRegWriteN (s : State) : Host.Outcome State Fault Refusal := .next (s.hostRow 1 2 [] false)
/-- BIND (R33). -/
def execBind (far : FarUnits) (s : State) : Host.Outcome State Fault Refusal :=
  .next (s.hostRow 1 3 far.reads far.live)
/-- EPOCH_REQ (R568). -/
def execEpochReq (s : State) : Host.Outcome State Fault Refusal := .next (s.hostRow 1 4 [] false)
/-- APPLY_NOW (R96). -/
def execApplyNow (s : State) : Host.Outcome State Fault Refusal := .next (s.hostRow 1 5 [] false)
/-- POST (R569). -/
def execPost (s : State) : Host.Outcome State Fault Refusal := .next (s.hostRow 2 1 [] false)
/-- INST (R433). -/
def execInst (s : State) : Host.Outcome State Fault Refusal := .next (s.hostRow 3 1 [] false)
/-- TWIN (R547). -/
def execTwin (s : State) : Host.Outcome State Fault Refusal := .next (s.hostRow 3 2 [] false)
/-- CATCHUP (R519). -/
def execCatchup (s : State) : Host.Outcome State Fault Refusal := .next (s.hostRow 3 3 [] false)
/-- TILE (R525). -/
def execTile (s : State) : Host.Outcome State Fault Refusal := .next (s.hostRow 3 4 [] false)
/-- FENCE (R97). -/
def execFence (s : State) : Host.Outcome State Fault Refusal := .next (s.hostRow 3 5 [] false)

/-- MAILBOX_DONE (R570): a store has changed the STATE word of a slot; the command in it completes and the slot is
FREE. -/
def execMailboxDone (t : Fin 257) (k : Fin 8) (s : State) : Host.Outcome State Fault Refusal :=
  .next (match s.slotWord t.val k.val with
    | (some w, s) =>
      if w = 1 ∨ w = 0 then s
      else
        let a := s.slotAddr t.val k.val
        let (b, s) := s.memRead 0x101 (a + 68) 2
        let st := ((b.getD []).getD 0 0).toNat
        let ok := w == 2 && (st == 0 || st == 0x10)
        let s := match s.host.cmds.find? fun c => c.phase == .posted k.val && c.tgt == t.val with
          | some c => if ok then s.endCmd c st ((b.getD []).getD 1 0).toNat else s.endCmd c 0x10 0xFF
          | none => s
        (s.memWrite 0x101 (a + 64) (bytesOf 4 0)).2
    | (none, s) => s)

/-! ### READ (Table 16.4, Table 16.7) -/

/-- A command that is not journalled ends; what it read goes to its payload, or to the device that forwarded it. -/
def State.readEnd (s : State) (c : HCmd) (status : Nat) (data : List Byte) : State :=
  let s := s.mapCmd (· == c) fun _ => none
  match c.origin with
  | some (d, tag) => s.answered d tag .benmos ([1, 0, status, 0, 0] ++ natsOf data)
  | none => (if data = [] ∨ c.dropped then s else s.send (.hostWrite c.paddr data)).complete c status 0 false

/-- The first command that is ready, of a class and operation. -/
def State.readyCmd (s : State) (cls opc : Nat) : Option HCmd :=
  s.host.cmds.find? fun c => c.phase == .ready && c.cls == cls && c.opc == opc

/-- Reading n registers from an address on; none where one is refused. -/
def State.regRun (s : State) (q : Req) : Nat → Nat → Option (List Word) × State
  | 0, _ => (some [], s)
  | n + 1, a =>
    let t := s.busRead q a
    match t.reply with
    | .value v =>
      (match State.regRun { t with reply := s.reply } q n (a + 4) with
       | (some l, s) => (some (BitVec.ofNat 32 v :: l), s)
       | (none, s) => (none, s))
    | _ => (none, { t with reply := s.reply })

/-- REG_READ. -/
def execRegRead (s : State) : Host.Outcome State Fault Refusal :=
  .next (match s.readyCmd 4 1 with
    | none => s
    | some c => match s.regRun c.who c.count (c.arg0 % 2 ^ 32) with
      | (some l, s) => s.readEnd c 0 (bytesOfWords l)
      | (none, s) => s.readEnd c c.refused [])

/-- The STATUS block (Table 16.7). -/
def State.statusBlock (s : State) : List Byte :=
  bytesOf 8 s.jnl.head ++ bytesOf 4 s.gen.toNat ++ bytesOf 1 s.mstate
    ++ bytesOf 1 (if s.fenced then s.fld ANG_FENCE ANG_FENCE_CAUSE else 0) ++ bytesOf 1 s.twinState
    ++ bytesOf 1 ((s.reg JNL_STATUS).toNat % 256) ++ bytesOf 8 s.ang.time.toNat ++ bytesOf 6 s.angle.toNat
    ++ bytesOf 2 s.dev ++ bytesOf 4 (s.reg SYS_UID_LO).toNat ++ bytesOf 4 (s.reg SYS_UID_HI).toNat
    ++ List.replicate 24 0

/-- STATUS. -/
def execStatus (s : State) : Host.Outcome State Fault Refusal :=
  .next (match s.readyCmd 4 2 with
    | none => s
    | some c => s.readEnd c 0 s.statusBlock)

/-- JNL_READ (R577, R580): the entries still held up to the head, in order. -/
def execJnlRead (s : State) : Host.Outcome State Fault Refusal :=
  .next (match s.readyCmd 4 3 with
    | none => s
    | some c =>
      let all := s.jnlSeqs
      let places := (List.range c.count).filterMap fun k =>
        if s.jnl.head < c.arg0 + k then none else (all.find? fun x => x.1 == c.arg0 + k).map (·.2)
      let (l, s) := places.foldl (fun (acc, s) p => let (b, s) := State.jnlEntry s p; (acc ++ b, s)) ([], s)
      s.readEnd c 0 l)

end Sys2Proof.Machine
end

