-- ==== Sys2Proof/Machine/Integer.lean ====
section
/-! DEFINITION. Integer, immediate and fixed-point instructions (R167-R169). -/

namespace Sys2Proof.Machine

/-- An instruction that writes rd from ra and rb. -/
def alu (c rd ra rb : Nat) (f : Word → Word → Word) (s : State) : Done :=
  let x := s.ctx c
  .next (s.setCtx c (x.rset rd (f (x.rget ra) (x.rget rb))))

/-- An instruction that writes rd from ra and an immediate. -/
def aluI (c rd ra : Nat) (f : Word → Word) (s : State) : Done :=
  let x := s.ctx c
  .next (s.setCtx c (x.rset rd (f (x.rget ra))))

/-- 1 or 0 as a register value. -/
def flagWord (b : Bool) : Word := if b then 1 else 0

/-- The shift amount of a register shift (R167). -/
def shAmt (b : Word) : Nat := b.toNat % 32

/-- Leading zeros of a word, 0-32. -/
def clz (w : Word) : Word := BitVec.ofNat 32 (if w = 0 then 32 else 31 - w.toNat.log2)

/-- The exact result clamped to signed 32 bits. -/
def sat32 (i : Int) : Word := BitVec.ofInt 32 (clampTo (-(2 ^ 31)) (2 ^ 31 - 1) i)

/-- The 16-bit immediate sign-extended, and zero-extended (R160). -/
def sextI (i : BitVec 16) : Word := i.signExtend 32
def zextI (i : BitVec 16) : Word := i.setWidth 32

/-- The rounded Q1.31 product, saturated. -/
def mulq (a b : Word) : Word := sat32 ((a.toInt * b.toInt + 2 ^ 30) / 2 ^ 31)

/-- The rounded arithmetic right shift. -/
def shrr (a b : Word) : Word :=
  match shAmt b with
  | 0 => a
  | n + 1 => BitVec.ofInt 32 ((a.toInt + 2 ^ n) / 2 ^ (n + 1))

/-- A value clamped to signed n + 1 bits. -/
def satn (n : Nat) (a : Word) : Word := BitVec.ofInt 32 (clampTo (-(2 ^ n : Int)) ((2 ^ n : Int) - 1) a.toInt)

/-- The sample word PKS packs: SAT is also set where the clamp acted. -/
def pks (a b : Word) : Word :=
  let v := clampTo (-(2 ^ 23)) (2 ^ 23 - 1) a.toInt
  let w : Word := (BitVec.ofInt 32 v <<< 8) ||| (b &&& 0xFE)
  if v = a.toInt then w else w ||| 0x40

/-- ADD (Table 4.4). -/
def execAdd (c : Fin 257) (rd ra rb : Fin 32) (s : State) : Host.Outcome State Fault Refusal :=
  issued c (fmtR 0x01 rd ra rb 0) (alu c rd ra rb fun a b => a + b) s
/-- SUB (Table 4.4). -/
def execSub (c : Fin 257) (rd ra rb : Fin 32) (s : State) : Host.Outcome State Fault Refusal :=
  issued c (fmtR 0x01 rd ra rb 1) (alu c rd ra rb fun a b => a - b) s
/-- AND (Table 4.4). -/
def execAnd (c : Fin 257) (rd ra rb : Fin 32) (s : State) : Host.Outcome State Fault Refusal :=
  issued c (fmtR 0x01 rd ra rb 2) (alu c rd ra rb fun a b => a &&& b) s
/-- OR (Table 4.4). -/
def execOr (c : Fin 257) (rd ra rb : Fin 32) (s : State) : Host.Outcome State Fault Refusal :=
  issued c (fmtR 0x01 rd ra rb 3) (alu c rd ra rb fun a b => a ||| b) s
/-- XOR (Table 4.4). -/
def execXor (c : Fin 257) (rd ra rb : Fin 32) (s : State) : Host.Outcome State Fault Refusal :=
  issued c (fmtR 0x01 rd ra rb 4) (alu c rd ra rb fun a b => a ^^^ b) s
/-- SLL (Table 4.4). -/
def execSll (c : Fin 257) (rd ra rb : Fin 32) (s : State) : Host.Outcome State Fault Refusal :=
  issued c (fmtR 0x01 rd ra rb 5) (alu c rd ra rb fun a b => a <<< shAmt b) s
/-- SRL (Table 4.4). -/
def execSrl (c : Fin 257) (rd ra rb : Fin 32) (s : State) : Host.Outcome State Fault Refusal :=
  issued c (fmtR 0x01 rd ra rb 6) (alu c rd ra rb fun a b => a >>> shAmt b) s
/-- SRA (Table 4.4). -/
def execSra (c : Fin 257) (rd ra rb : Fin 32) (s : State) : Host.Outcome State Fault Refusal :=
  issued c (fmtR 0x01 rd ra rb 7) (alu c rd ra rb fun a b => a.sshiftRight (shAmt b)) s
/-- SLT (Table 4.4). -/
def execSlt (c : Fin 257) (rd ra rb : Fin 32) (s : State) : Host.Outcome State Fault Refusal :=
  issued c (fmtR 0x01 rd ra rb 8) (alu c rd ra rb fun a b => flagWord (a.slt b)) s
/-- SLTU (Table 4.4). -/
def execSltu (c : Fin 257) (rd ra rb : Fin 32) (s : State) : Host.Outcome State Fault Refusal :=
  issued c (fmtR 0x01 rd ra rb 9) (alu c rd ra rb fun a b => flagWord (a.ult b)) s
/-- MIN (Table 4.4). -/
def execMin (c : Fin 257) (rd ra rb : Fin 32) (s : State) : Host.Outcome State Fault Refusal :=
  issued c (fmtR 0x01 rd ra rb 10) (alu c rd ra rb fun a b => if a.slt b then a else b) s
/-- MAX (Table 4.4). -/
def execMax (c : Fin 257) (rd ra rb : Fin 32) (s : State) : Host.Outcome State Fault Refusal :=
  issued c (fmtR 0x01 rd ra rb 11) (alu c rd ra rb fun a b => if a.slt b then b else a) s
/-- MINU (Table 4.4). -/
def execMinu (c : Fin 257) (rd ra rb : Fin 32) (s : State) : Host.Outcome State Fault Refusal :=
  issued c (fmtR 0x01 rd ra rb 12) (alu c rd ra rb fun a b => if a.ult b then a else b) s
/-- MAXU (Table 4.4). -/
def execMaxu (c : Fin 257) (rd ra rb : Fin 32) (s : State) : Host.Outcome State Fault Refusal :=
  issued c (fmtR 0x01 rd ra rb 13) (alu c rd ra rb fun a b => if a.ult b then b else a) s
/-- MUL (Table 4.4). -/
def execMul (c : Fin 257) (rd ra rb : Fin 32) (s : State) : Host.Outcome State Fault Refusal :=
  issued c (fmtR 0x01 rd ra rb 14) (alu c rd ra rb fun a b => a * b) s
/-- MULH (Table 4.4). -/
def execMulh (c : Fin 257) (rd ra rb : Fin 32) (s : State) : Host.Outcome State Fault Refusal :=
  issued c (fmtR 0x01 rd ra rb 15) (alu c rd ra rb fun a b => BitVec.ofInt 32 (a.toInt * b.toInt / 2 ^ 32)) s
/-- MULHU (Table 4.4). -/
def execMulhu (c : Fin 257) (rd ra rb : Fin 32) (s : State) : Host.Outcome State Fault Refusal :=
  issued c (fmtR 0x01 rd ra rb 16) (alu c rd ra rb fun a b => BitVec.ofNat 32 (a.toNat * b.toNat / 2 ^ 32)) s
/-- CLZ (Table 4.4). -/
def execClz (c : Fin 257) (rd ra : Fin 32) (s : State) : Host.Outcome State Fault Refusal :=
  issued c (fmtR 0x01 rd ra 0 0x11) (aluI c rd ra clz) s
/-- ADDI (Table 4.5). -/
def execAddi (c : Fin 257) (rd ra : Fin 32) (imm : BitVec 16) (s : State) : Host.Outcome State Fault Refusal :=
  issued c (fmtI 3 rd ra imm.toNat) (aluI c rd ra fun a => a + sextI imm) s
/-- ANDI (Table 4.5). -/
def execAndi (c : Fin 257) (rd ra : Fin 32) (imm : BitVec 16) (s : State) : Host.Outcome State Fault Refusal :=
  issued c (fmtI 4 rd ra imm.toNat) (aluI c rd ra fun a => a &&& zextI imm) s
/-- ORI (Table 4.5). -/
def execOri (c : Fin 257) (rd ra : Fin 32) (imm : BitVec 16) (s : State) : Host.Outcome State Fault Refusal :=
  issued c (fmtI 5 rd ra imm.toNat) (aluI c rd ra fun a => a ||| zextI imm) s
/-- XORI (Table 4.5). -/
def execXori (c : Fin 257) (rd ra : Fin 32) (imm : BitVec 16) (s : State) : Host.Outcome State Fault Refusal :=
  issued c (fmtI 6 rd ra imm.toNat) (aluI c rd ra fun a => a ^^^ zextI imm) s
/-- SLTI (Table 4.5). -/
def execSlti (c : Fin 257) (rd ra : Fin 32) (imm : BitVec 16) (s : State) : Host.Outcome State Fault Refusal :=
  issued c (fmtI 7 rd ra imm.toNat) (aluI c rd ra fun a => flagWord (a.slt (sextI imm))) s
/-- SLTIU (Table 4.5). -/
def execSltiu (c : Fin 257) (rd ra : Fin 32) (imm : BitVec 16) (s : State) : Host.Outcome State Fault Refusal :=
  issued c (fmtI 8 rd ra imm.toNat) (aluI c rd ra fun a => flagWord (a.ult (zextI imm))) s
/-- SLLI (Table 4.5). -/
def execSlli (c : Fin 257) (rd ra : Fin 32) (imm : BitVec 16) (s : State) : Host.Outcome State Fault Refusal :=
  issued c (fmtI 9 rd ra imm.toNat) (aluI c rd ra fun a => a <<< (imm.toNat % 32)) s
/-- SRLI (Table 4.5). -/
def execSrli (c : Fin 257) (rd ra : Fin 32) (imm : BitVec 16) (s : State) : Host.Outcome State Fault Refusal :=
  issued c (fmtI 10 rd ra imm.toNat) (aluI c rd ra fun a => a >>> (imm.toNat % 32)) s
/-- SRAI (Table 4.5). -/
def execSrai (c : Fin 257) (rd ra : Fin 32) (imm : BitVec 16) (s : State) : Host.Outcome State Fault Refusal :=
  issued c (fmtI 11 rd ra imm.toNat) (aluI c rd ra fun a => a.sshiftRight (imm.toNat % 32)) s
/-- LUI (Table 4.5). -/
def execLui (c : Fin 257) (rd : Fin 32) (imm : BitVec 16) (s : State) : Host.Outcome State Fault Refusal :=
  issued c (fmtI 12 rd 0 imm.toNat) (aluI c rd 0 fun _ => BitVec.ofNat 32 (imm.toNat * 2 ^ 16)) s
/-- ADDS (Table 4.6). -/
def execAdds (c : Fin 257) (rd ra rb : Fin 32) (s : State) : Host.Outcome State Fault Refusal :=
  issued c (fmtS 0x02 rd ra rb 0 0) (alu c rd ra rb fun a b => sat32 (a.toInt + b.toInt)) s
/-- SUBS (Table 4.6). -/
def execSubs (c : Fin 257) (rd ra rb : Fin 32) (s : State) : Host.Outcome State Fault Refusal :=
  issued c (fmtS 0x02 rd ra rb 1 0) (alu c rd ra rb fun a b => sat32 (a.toInt - b.toInt)) s
/-- MULQ (Table 4.6). -/
def execMulq (c : Fin 257) (rd ra rb : Fin 32) (s : State) : Host.Outcome State Fault Refusal :=
  issued c (fmtS 0x02 rd ra rb 4 0) (alu c rd ra rb fun a b => mulq a b) s
/-- SHRR (Table 4.6). -/
def execShrr (c : Fin 257) (rd ra rb : Fin 32) (s : State) : Host.Outcome State Fault Refusal :=
  issued c (fmtS 0x02 rd ra rb 6 0) (alu c rd ra rb fun a b => shrr a b) s
/-- PKS (Table 4.6). -/
def execPks (c : Fin 257) (rd ra rb : Fin 32) (s : State) : Host.Outcome State Fault Refusal :=
  issued c (fmtS 0x02 rd ra rb 8 0) (alu c rd ra rb fun a b => pks a b) s
/-- NEGS (Table 4.6). -/
def execNegs (c : Fin 257) (rd ra : Fin 32) (s : State) : Host.Outcome State Fault Refusal :=
  issued c (fmtS 0x02 rd ra 0 2 0) (aluI c rd ra fun a => sat32 (-a.toInt)) s
/-- ABSS (Table 4.6). -/
def execAbss (c : Fin 257) (rd ra : Fin 32) (s : State) : Host.Outcome State Fault Refusal :=
  issued c (fmtS 0x02 rd ra 0 3 0) (aluI c rd ra fun a => sat32 (a.toInt.natAbs)) s
/-- MACQ (Table 4.6): rd names a pair. -/
def execMacq (c : Fin 257) (rd ra rb : Fin 32) (s : State) : Host.Outcome State Fault Refusal :=
  issued c (fmtS 0x02 rd ra rb 5 0) (fun s =>
    let x := s.ctx c
    let v := (x.pget rd).toInt + (x.rget ra).toInt * (x.rget rb).toInt
    .next (s.setCtx c (x.pset rd (BitVec.ofInt 64 (clampTo (-(2 ^ 63)) (2 ^ 63 - 1) v))))) s
/-- SATN (Table 4.6). -/
def execSatn (c : Fin 257) (rd ra : Fin 32) (n : BitVec 5) (s : State) : Host.Outcome State Fault Refusal :=
  issued c (fmtS 0x02 rd ra 0 7 n.toNat) (aluI c rd ra (satn n.toNat)) s

end Sys2Proof.Machine
end

