-- ==== Sys2Proof/Machine/LeatMem.lean ====
section
/-! DEFINITION. Packets of the chain (sections 14.3 and 14.10, R444, R466, R492, R573): requests of other devices served
here, replies to this device's requests, lost requests; catch-up by REPLAY and TRANSFER (R519, R520). -/

namespace Sys2Proof.Machine

/-! ### Requests of other devices -/

/-- The issuer of a request: instance, or 256 for a supervisor core or a host physical function. -/
def hdCode (h : PktHead) : Nat := match h.inst with | some i => i.val | none => 256

/-- The code under which the error log shows a request of another device (Table 11.3). -/
def hdReq (h : PktHead) : Nat := 0x200 + h.src.val

/-- A request is applied once; a duplicate is answered with its first reply (R492). `f` gives the reply's fields. -/
def State.serve (s : State) (hd : PktHead) (k : LeatKind) (f : State → List Nat × State) : State :=
  match s.leat.served.find? fun x => x.src == hd.src.val && x.seq == hd.seq.toNat with
  | some x => s.chainSend x.kind x.src (x.seq :: x.args)
  | none => let (l, s) := f s; s.answered hd.src.val hd.seq.toNat k l

/-- A memory request is applied once; one to a DDR5 channel whose clock stands still gets no answer (R40). -/
def State.served (s : State) (addr : BitVec 48) (hd : PktHead) (k : LeatKind) (f : State → List Nat × State) : State :=
  if s.locHalted (s.locOff (addr.toNat % 2 ^ 39)) then s else s.serve hd k f

/-- Does a request of an instance reach this device (R43, R519, R522, R523)? -/
def State.reached' (s : State) (hd : PktHead) : Bool := hd.inst.isNone || s.mstate == mMember || s.mstate == mLeaving

/-- The header of a request as fields of a mirrored packet. -/
def hdFields (h : PktHead) : List Nat := [h.src.val, h.seq.toNat, hdCode h, h.gen.toNat]

/-- A write of another device is performed; the standby is sent it (R535). -/
def State.farWrite (s : State) (hd : PktHead) (a : Nat) (d : List Byte) : Option Nat × State :=
  let (e, s) := s.writeAt (hdReq hd) .remote (s.locOff (a % 2 ^ 39)) d
  (e, s.mirror ([1] ++ hdFields hd ++ [a] ++ natsOf d))

/-- MRD (R408, R492): served by the memory or register it addresses. -/
def execMrd (rx : Rx) (hd : PktHead) (addr : BitVec 48) (len : Nat) (s : State) : Host.Outcome State Fault Refusal :=
  .next (s.packet rx fun s => s.served addr hd .mrsp fun s =>
    if !s.reached' hd then ([busNotMember], s)
    else match s.readAt (hdReq hd) .remote (s.locOff (addr.toNat % 2 ^ 39)) len with
      | (.ok l, s) => (0 :: natsOf l, s)
      | (.error e, s) => ([e], s))

/-- MWR (R408, R492). -/
def execMwr (rx : Rx) (hd : PktHead) (addr : BitVec 48) (d : List Byte) (s : State) : Host.Outcome State Fault Refusal :=
  .next (s.packet rx fun s => s.served addr hd .mrsp fun s =>
    if !s.reached' hd then ([busNotMember], s)
    else let (e, s) := s.farWrite hd addr.toNat d; ([e.getD 0], s))

/-- MAMO (R130, R408): 0 swap, 1 add, 2 compare with `a` and store `b`; the standby is sent the write it performed. -/
def execMamo (rx : Rx) (hd : PktHead) (op : Fin 3) (addr : BitVec 48) (a b : Word) (s : State) :
    Host.Outcome State Fault Refusal :=
  .next (s.packet rx fun s => s.served addr hd .mrsp fun s =>
    if !s.reached' hd then ([busNotMember], s)
    else
      let loc := s.locOff (addr.toNat % 2 ^ 39)
      match loc with
      | .mem o =>
        if !atomicAt loc then ([busRange], s)
        else match s.amo (hdReq hd) op.val o a b with
          | (none, s) => ([busEcc], s)
          | (some old, s) =>
            let new : Option Word := match op.val with
              | 0 => some a
              | 1 => some (old + a)
              | _ => if old = a then some b else none
            let s := match new with
              | some v => s.mirror ([1] ++ hdFields hd ++ [addr.toNat] ++ natsOf (bytesOf 4 v.toNat))
              | none => s
            (0 :: natsOf (bytesOf 4 old.toNat), s)
      | .bad e => ([e], s)
      | _ => ([busRange], s))

/-! ### Unit operations of other devices (R36, R153, R444, R492) -/

/-- The fault of a leaf of another device's operation, if any (R519: a device that is not a member performs none; a
standby performs what its primary does). -/
def State.farLeafFault (s : State) (hd : PktHead) (u : Word) : Option Nat :=
  if s.mstate ≠ mMember ∧ s.mstate ≠ mLeaving ∧ !s.twinStandby then some ufNotMember
  else if s.leafFenced u then some ufFenced
  else if s.leafRetired u then some ufRetired
  else if hd.inst.isNone then none
  else if uKind u ≠ 5 ∧ uKind u ≠ 6 ∧ s.fld (INST_UOWN (uKind u) (uIndex u)) INST_UOWN_MODE = 2 then none
  else some ufNotOwned

/-- The operations of the leaves that take a request; the issuer's instance and device are kept with its generation. -/
def HeldUop.ops (s : State) (h : HeldUop) : List StOp :=
  s.localOps .remote (h.hd.gen.toNat + 256 * ((hdCode h.hd) + 257 * h.hd.src.val)) h.r h.st
    (h.leaves.filter fun u => (s.farLeafFault h.hd u).isNone)

/-- The tiles that a request must wake first: a read waits for them (R645). -/
def HeldUop.asleep (s : State) (h : HeldUop) : List Nat :=
  match h.r with
  | .urd .. => (h.ops s).filterMap fun o => if s.tileHolds o.kind o.index then unitTile o.kind o.index else none
  | _ => []

/-- Must a request wait: while an epoch is applied (R153), until its consumers have room (R144), until a tile is RUN? -/
def HeldUop.waits (s : State) (h : HeldUop) : Bool :=
  s.epState == 4 || (h.st.isSome && !s.roomFor (h.ops s)) || !(h.asleep s).isEmpty

/-- A request is performed and answered: the leaves that do not take it are reported one by one (R36). -/
def State.uopPerform (s : State) (h : HeldUop) : State :=
  let ops := h.ops s
  let s := h.leaves.foldl (fun s u => match s.farLeafFault h.hd u with
    | some sub => s.chainSend .ursp h.hd.src.val [h.hd.seq.toNat, 2, (hdCode h.hd), h.hd.gen.toNat, u.toNat, sub]
    | none => s) s
  match h.r with
  | .urd _ off comb =>
    let (l, s) := s.readUnits .remote off.toNat (ops.map fun o => (o.kind, o.index))
    s.answered h.hd.src.val h.hd.seq.toNat .ursp (if l = [] then [0, 0] else [0, 1, (combine comb.toNat l).toNat])
  | _ => ((s.handAll ops h.st.isSome).2).answered h.hd.src.val h.hd.seq.toNat .ursp [1]

/-- Requests that waited go on, in the order in which they came. -/
def State.uopsGo (s : State) : State :=
  s.leat.uops.foldl (fun s h =>
    if h.waits s then s
    else { s with leat := { s.leat with uops := s.leat.uops.filter (· != h) } }.uopPerform h) s

/-- A request arrives. -/
def State.uopArrive (s : State) (hd : PktHead) (r : UnitReq) (leaves : List Word) (st : Option (Stamp × BitVec 2)) : State :=
  let h : HeldUop := ⟨hd, r, leaves, st.map fun (x : Stamp × BitVec 2) => (x.1, qualOf x.2.toNat)⟩
  let s := s.mirror ([2] ++ hdFields hd ++ uopArgs r h.st leaves s.dev)
  if h.waits s then
    (h.asleep s).foldl (fun s t => s.tileWake t) { s with leat := { s.leat with uops := s.leat.uops ++ [h] } }
  else s.uopPerform h

/-- UOP (R444, R153, R492). -/
def execUop (rx : Rx) (hd : PktHead) (r : UnitReq) (leaves : List Word) (st : Option (Stamp × BitVec 2)) (s : State) :
    Host.Outcome State Fault Refusal :=
  .next (s.packet rx fun s =>
    match s.leat.served.find? fun x => x.src == hd.src.val && x.seq == hd.seq.toNat with
    | some x => s.chainSend x.kind x.src (x.seq :: x.args)
    | none =>
      if s.leat.uops.any fun h => h.hd.src == hd.src && h.hd.seq == hd.seq then s else s.uopArrive hd r leaves st)

/-! ### Replies to this device's requests -/

/-- The issuer of an open request and its generation, as it was sent. -/
def LReq.issuer (r : LReq) : Nat := r.args.getD 1 0
def LReq.gen (r : LReq) : Nat := r.args.getD 2 0

/-- An open request leaves the list. -/
def State.reqEnd (s : State) (r : LReq) : State :=
  { s with leat := { s.leat with reqs := s.leat.reqs.filter (· != r) } }

/-- The open request to a device with a sequence number. -/
def State.openReq (s : State) (dst seq : Nat) : Option LReq := s.leat.reqs.find? fun r => r.dst == dst && r.seq == seq

/-- A memory request has its answer, 0 or a BUSERR subcause and the data (R127, R129, R420); MEMORY_RESPONSE completes
a load. -/
def State.memAnswer (s : State) (r : LReq) (sub : Nat) (d : List Byte) : State :=
  let s := s.reqEnd r
  match r.who with
  | .load c =>
    (match (s.ctx c).stall with
     | .mem op far a none => s.setCtx c { s.ctx c with stall := .mem op far a (some ⟨sub, d⟩) }
     | _ => s)
  | .store c a =>
    let x := s.ctx c
    let s := s.setCtx c { x with farOut := x.farOut.erase a }
    if sub = 0 then s else s.storeFail c a sub
  | .burst e => s.burstAnswer e sub d
  | _ => s

/-- An asynchronous unit fault of an instance (R466). -/
def State.unitReport (s : State) (i gen leaf sub : Nat) : State :=
  if 256 ≤ i ∨ s.genOf i ≠ gen then s
  else if s.bit (IRQ_UF_STAT i) IRQ_UF_STAT_VALID then s.flag (IRQ_UF_STAT i) IRQ_UF_STAT_MORE
  else
    let s := (s.put (IRQ_UF_UNIT i) (BitVec.ofNat 32 leaf)).flag (IRQ_UF_STAT i) IRQ_UF_STAT_VALID
    (s.setF (IRQ_UF_STAT i) IRQ_UF_STAT_SUB sub).setF (IRQ_UF_STAT i) IRQ_UF_STAT_GEN gen

/-- A unit operation at another device is acknowledged (R133). -/
def State.unitAcked (s : State) (c : Nat) : State :=
  let x := s.ctx c
  s.setCtx c { x with unitOut := x.unitOut - 1 }

/-- A URD has the value of another device, if a leaf there gave one; after the last the instruction completes (R147). -/
def State.urdAnswer (s : State) (c d : Nat) (v : Option Word) : State :=
  match (s.ctx c).stall with
  | .urd rd comb h vals left =>
    let vals := match left.find? (fun (x : Nat × Nat × Word) => x.1 == d), v with
      | some x, some w => vals ++ [(x.2.1, w)]
      | _, _ => vals
    let left := left.filter fun (x : Nat × Nat × Word) => x.1 != d
    if left = [] then
      let (w, s) := s.urdValue comb vals
      (s.setCtx c ((s.ctx c).rset rd w)).finish c
    else s.setCtx c { s.ctx c with stall := .urd rd comb h vals left }
  | _ => s

/-- A unit request has its answer. -/
def State.unitAnswer (s : State) (r : LReq) (v : Option Word) : State :=
  let s := s.reqEnd r
  match r.who with
  | .unit c _ _ => s.unitAcked c
  | .urd c => s.urdAnswer c r.dst v
  | _ => s

/-- MRSP (R492). -/
def execMrsp (rx : Rx) (hd : PktHead) (sub : Byte) (d : List Byte) (s : State) : Host.Outcome State Fault Refusal :=
  .next (s.packet rx fun s =>
    match s.openReq hd.src.val hd.seq.toNat with
    | some r => (s.memAnswer r sub.toNat d).mirror ([3, r.issuer, r.gen, sub.toNat] ++ natsOf d)
    | none => s)

/-- A URSP message as fields of a mirrored packet. -/
def ursFields : UrspMsg → List Nat
  | .value none => [0, 0]
  | .value (some v) => [0, 1, v.toNat]
  | .ack => [1]
  | .fault u sub => [2, u.toNat, sub.toNat]

/-- URSP (R36, R147, R466): the header of a fault names the instance and generation it reports to. -/
def execUrsp (rx : Rx) (hd : PktHead) (m : UrspMsg) (s : State) : Host.Outcome State Fault Refusal :=
  .next (s.packet rx fun s =>
    match m with
    | .fault u sub =>
      (s.unitReport (hdCode hd) hd.gen.toNat u.toNat sub.toNat).mirror ([5, (hdCode hd), hd.gen.toNat] ++ ursFields m)
    | _ =>
      match s.openReq hd.src.val hd.seq.toNat with
      | some r =>
        (s.unitAnswer r (match m with | .value v => v | _ => none)).mirror ([5, r.issuer, r.gen] ++ ursFields m)
      | none => s)

/-! ### Requests without an answer (R492, R524) -/

/-- PACKET_RETRY (R492): 20 µs after the last send, up to 4 times; a standby has sent nothing (R536). -/
def execPacketRetry (dst : Fin 512) (seq : BitVec 16) (s : State) : Host.Outcome State Fault Refusal :=
  .next (match s.openReq dst.val seq.toNat with
    | some r =>
      if s.twinStandby || decide (5 ≤ r.sends) then s
      else
        let s := { s with leat := { s.leat with
          reqs := s.leat.reqs.map fun x => if x == r then { x with sends := x.sends + 1 } else x } }
        s.chainSend r.kind r.dst r.args
    | none => s)

/-- A forwarded command that ends here: with what the target answered, or without. -/
def State.forwardEnd (s : State) (dst seq status detail jseq : Nat) (jnl : Bool) (data : List Byte) : State :=
  match s.host.cmds.find? fun c => c.phase == .forwarded && c.dev == dst && c.seq == seq with
  | some c =>
    let s := s.mapCmd (· == c) fun _ => none
    let s := if data = [] ∨ c.dropped then s else s.send (.hostWrite c.paddr data)
    s.complete { c with seq := jseq } status detail jnl
  | none => s

/-- A request is lost (R492, R524, R574): a memory request ends with LINK_LOST, a unit operation is reported, a URD
raises UNIT_FAULT, a forwarded command completes with LINK_LOST. -/
def State.requestLost (s : State) (r : LReq) : State :=
  match r.who with
  | .unit c gen leaf => ((s.reqEnd r).unitAcked c).unitReport c gen leaf ufLinkLost
  | .urd c =>
    let s := { s with leat := { s.leat with reqs := s.leat.reqs.filter fun x => x.who != Waiter.urd c } }
    (match (s.ctx c).stall with
     | .urd _ _ h _ left =>
       let u : Word := match left.find? (fun (x : Nat × Nat × Word) => x.1 == r.dst) with | some x => x.2.2 | none => 0
       s.waitTrap c ⟨trUnit, ufLinkLost, false, some (BitVec.ofNat 64 (h * 2 ^ 32 + u.toNat))⟩
     | _ => s)
  | .benmos _ _ => (s.reqEnd r).forwardEnd r.dst r.seq 9 0 0 false []
  | _ => s.memAnswer r busLinkLost []

/-- PACKET_TIMEOUT (R492); a standby's requests find their replies in the mirror (R536). -/
def execPacketTimeout (dst : Fin 512) (seq : BitVec 16) (s : State) : Host.Outcome State Fault Refusal :=
  .next (match s.openReq dst.val seq.toNat with
    | some r => if s.twinStandby then s else s.requestLost r
    | none => s)

/-! ### Forwarded Benmos commands (R573) -/

/-- Does the engine take forwarded commands (R579, R581, R605)? -/
def State.takesForwarded (s : State) : Bool :=
  s.wren && !s.bit JNL_STATUS JNL_STATUS_PFAIL && !s.twinStandby && !s.pwr.standby

/-- A command of another device: checked from order 3 of Table 16.6 on. One for which the bucket is empty is not taken,
and its origin sends it again (R492, R579). -/
def State.forwardedCmd (s : State) (hd : PktHead) (body : BitVec 512) (payload : List Byte) : State :=
  let o := (hd.src.val, hd.seq.toNat)
  let c : HCmd := ⟨(hdCode hd), some o, (hdCode hd), hd.gen.toNat, body, payload, 0, 0, .ready, 0, 0, false⟩
  let limited : Bool := match c.op with | some o => o.journalled | none => false
  match s.leat.served.find? fun x => x.src == hd.src.val && x.seq == hd.seq.toNat with
  | some x => s.chainSend x.kind x.src (x.seq :: x.args)
  | none =>
    if !s.takesForwarded || s.host.cmds.any (fun x => x.origin == some o) then s
    else if limited && s.jnl.tokens == 0 then s.flag JNL_STATUS JNL_STATUS_RWAIT
    else match s.hostCheck c (some payload) with
      | 0 => s.hostTake c
      | n => s.complete c n 0 false

/-- BENMOS_PACKET (R573, R574). -/
def execBenmosPacket (rx : Rx) (hd : PktHead) (m : BenmosMsg) (s : State) : Host.Outcome State Fault Refusal :=
  .next (s.packet rx fun s =>
    match m with
    | .command body payload => s.forwardedCmd hd body payload
    | .completion jseq status detail jnl data =>
      match s.openReq hd.src.val hd.seq.toNat with
      | some r =>
        (s.reqEnd r).forwardEnd hd.src.val hd.seq.toNat status.toNat detail.toNat jseq.toNat jnl data
      | none => s)

/-! ### Catch-up by REPLAY (R519, R520) -/

/-- A journal entry as its 128 bytes (R565, Table 16.9): the command and its acceptance. -/
def entryCmd (s : State) (d payload : List Byte) : HCmd :=
  let q := at' d (64 + 24) 4
  let dev := q / 512 % 512
  let who := q % 512
  ⟨who, if dev = s.dev then none else some (dev, 0), who, q / 2 ^ 18 % 256, BitVec.ofNat 512 (at' d 0 56), payload,
    at' d 56 8, 0, .accepted, BitVec.ofNat 64 (at' d 72 8), BitVec.ofNat 48 (at' d 80 6), false⟩
/-- Its status and its generation. -/
def entryStatus (d : List Byte) : Nat := at' d (64 + 22) 1
def entryGen (d : List Byte) : Nat := at' d (64 + 28) 4

/-- The epochs up to a generation are gone through again: the shadows take effect at the first. -/
def State.replayEpochs (s : State) (g : Nat) : State :=
  if g ≤ s.gen.toNat then s
  else (s.applyShadows.tretEpoch.put ANG_CFG_GEN (BitVec.ofNat 32 g)).windowsNow

/-- A BIND that took effect at its source takes effect here. -/
def State.replayBind (s : State) (i : Nat) (m : List Word) : State :=
  s.descPut (s.bindLive [] false i) i m

/-- An entry that took effect at its source is executed: whether it fails, and the state. The epochs, the pair's and the
catch-up's own commands act through the generation of the entries; a POST goes into a slot that is FREE. -/
def State.replayDo (s : State) (c : HCmd) : Bool × State :=
  match c.cls, c.opc with
  | 1, 4 | 1, 5 | 3, 2 | 3, 3 => (false, s)
  | 1, 3 => (false, s.replayBind (c.arg0 % 16384) (wordsOf c.payload))
  | 3, 4 => (false, s.tretWrite .host (BitVec.ofNat 32 c.arg0))
  | _, _ =>
    match s.hostDo c [] false with
    | (.ended st _, s) => (st != 0, s)
    | (_, s) => (false, s)

/-- A journal entry of the source is executed and kept under its own sequence (R519): the position, and the state; none
where the catch-up fails. An entry already held changes nothing. -/
def State.replayEntry (s : State) (d payload : List Byte) : Option Nat × State :=
  let c := entryCmd s d payload
  let g := entryGen d
  let p := s.jnlPlace s.jnl.pos
  if c.seq ≤ s.jnl.last then (some p, s)
  else if c.seq ≠ s.jnl.last + 1 ∨ d.length ≠ 128 ∨ (s.nvmServing (jnlLine p)).isEmpty then (none, s)
  else
    let s := s.replayEpochs (if c.cls = 3 ∧ c.opc = 4 then g - 1 else g)
    let (bad, s) := if entryStatus d = 0 then s.replayDo c else (false, s)
    if bad then (none, s)
    else
      let s := s.replayEpochs g
      let next := s.jnlPlace ((p + 1) % 131072)
      let s := { s with jnl := { s.jnl with last := c.seq, pos := next } }.setF JNL_POS JNL_POS_POS next
      let s := s.nvmQueue (jnlLine p) (wordsOf (d.take 64)) (.jnl c.seq false)
      let s := s.nvmQueue (jnlLine p + 1) (wordsOf (d.drop 64)) (.jnl c.seq true)
      (some p, if s.refJseq ≤ c.seq then s.replayEpochs (s.reg LEAT_REF_GEN).toNat else s)

/-! ### Catch-up by TRANSFER (R519) -/

/-- Registers that a transfer carries: not calibration (R633), and not the fence of the device itself. -/
def transferReg (a : Nat) : Bool := blockOf a != .cal && a != ANG_FENCE && decide (a < 2 ^ 32)

/-- Active and staged words: the words take effect as at an epoch, the shadows follow. -/
def State.transferRegs (s : State) (active staged : List (Word × Word)) : State :=
  let act := (active.map fun (x : Word × Word) => (x.1.toNat, x.2)).filter fun (x : Nat × Word) => transferReg x.1
  let later := s.cmpdStaged
  let s := { s with staged := [], cmpdStaged := [] }
  let s := act.foldl (fun s (a, v) => s.stage a v) s
  let s := { s.applyShadows with cmpdStaged := later }
  let s := act.foldl (fun s (a, v) =>
    (fieldsAt a).foldl (fun s f => if f.acc = .rw then s.setF a f (fieldGet f v) else s) s) s
  staged.foldl (fun s (x : Word × Word) => s.stage x.1.toNat x.2) s

/-- A block of a catch-up takes effect; false where the catch-up fails. -/
def State.xferApply (s : State) (m : XferMsg) : Bool × State :=
  let replay := s.fld LEAT_STALE LEAT_STALE_METHOD == 1
  match m with
  | .entry d payload =>
    if replay then let (p, s) := s.replayEntry d payload; (p.isSome, s) else (true, s)
  | .last gen jseq =>
    let s := (s.put LEAT_REF_GEN gen).put LEAT_REF_JSEQ_LO (jseq.extractLsb' 0 32)
    let s := s.put LEAT_REF_JSEQ_HI (jseq.extractLsb' 32 32)
    if replay then (true, if jseq.toNat ≤ s.jnl.last then s.replayEpochs gen.toNat else s)
    else
      let pos := jseq.toNat % 131072
      let s := { s with jnl := { s.jnl with last := jseq.toNat, above := [], pos := pos } }.setF JNL_POS JNL_POS_POS pos
      (true, ((s.setHead jseq.toNat).put ANG_CFG_GEN gen).windowsNow)
  | m =>
    if replay then (true, s)
    else match m with
      | .regs active staged => (true, s.transferRegs active staged)
      | .compound i l => (true, { s with cmpd := tblSet (fun _ => []) s.cmpd i.toNat l, caches := [] })
      | .memory off d =>
        (match s.locOff off.toNat with
         | .mem o => s.memWrite 0x101 o d
         | _ => (false, s))
      | .region r image =>
        let (n, s) := s.lgcSect 1 r.val image
        (n == 0, s)
      | _ => (true, s)

/-- XFER_PACKET (R519): while a catch-up takes blocks; the standby of a pair is sent it (R535). -/
def execXferPacket (rx : Rx) (m : XferMsg) (s : State) : Host.Outcome State Fault Refusal :=
  .next (s.packet rx fun s =>
    if !s.leat.catching then s
    else match s.xferApply m with
      | (true, s) => s.mirror ([8] ++ xferFields m)
      | (false, s) => s.catchFail)

/-- Does a catch-up from the host run with a method? -/
def State.hostCatchup (s : State) (method : Nat) : Bool :=
  s.leat.catching && s.bit LEAT_STALE LEAT_STALE_SRC && s.fld LEAT_STALE LEAT_STALE_METHOD == method

/-- REPLAY (R519, Table 16.4): `payload`, what the read of the replayed command's own payload gave. It completes at the
entry's sequence, when the entry is durable. -/
def execReplay (payload : Option (List Byte)) (s : State) : Host.Outcome State Fault Refusal :=
  .next (match s.readyCmd 5 1 with
    | none => s
    | some c =>
      if !s.hostCatchup 1 then s.readEnd c 0x10 []
      else
        let e := entryCmd s c.payload (payload.getD [])
        if hostPayload e.cls e.opc && payload.isNone then (s.catchFail).readEnd c 0x10 []
        else if e.seq ≤ s.jnl.last then s.readEnd c 0 []
        else match s.replayEntry c.payload (payload.getD []) with
          | (none, s) => (s.catchFail).readEnd c 0x10 []
          | (some p, s) =>
            s.mapCmd (· == c) fun x => some { x with seq := e.seq, pos := p, phase := .ended 0 0 })

/-- STATE (R519, Table 16.4; log entry 51). -/
def execState (s : State) : Host.Outcome State Fault Refusal :=
  .next (match s.readyCmd 5 2 with
    | none => s
    | some c =>
      if !s.hostCatchup 2 then s.readEnd c 0x10 []
      else match s.xferApply (Config.transferBlock c.payload) with
        | (true, s) => s.readEnd c 0 []
        | (false, s) => (s.catchFail).readEnd c 0x10 [])

/-! ### The source of a catch-up over the twin port (R519, R548) -/

/-- The end: generation and journal sequence to reach. -/
def State.xferLast (s : State) : State := s.xferSend (.last s.gen (BitVec.ofNat 64 s.jseq))

/-- The entries after a sequence. -/
def State.feedEntries (s : State) (after : Nat) : State :=
  let l := (s.jnlSeqs.filter fun x => decide (after < x.1 ∧ x.1 ≤ s.jseq))
  let l := (List.range (s.jseq - after)).filterMap fun k => l.find? fun x => x.1 == after + 1 + k
  (l.foldl (fun s x => s.entrySend x.2) s).xferLast

/-- The image of a region (Tables 10.2 and 10.3). -/
def LCell.bytes (c : LCell) : List Byte :=
  bytesOf 8 c.lut.toNat ++ c.sel.flatMap (fun x => bytesOf 2 x)
    ++ bytesOf 1 (c.mode + 2 * c.comb + 8 * c.clk + 128 * c.async.toNat)
    ++ bytesOf 1 (c.d0 + 4 * c.d1 + 16 * c.init0.toNat + 32 * c.init1.toNat + 64 * c.srv0.toNat + 128 * c.srv1.toNat)
    ++ List.replicate 32 0
def State.regionImage (s : State) (r : Nat) : List Byte :=
  let body := List.replicate 56 (0 : Byte) ++ (List.range 32).flatMap (fun m => (s.lcell (32 * r + m)).bytes)
    ++ List.replicate 1984 0
  bytesOf 4 0x4C470001 ++ bytesOf 4 (crc32 body).toNat ++ body

/-- The complete state (R519): registers and shadows, compound table, handle tables, region images. -/
def State.feedState (s : State) : State :=
  let words (l : List (Nat × Word)) : List (Word × Word) := l.map fun (x : Nat × Word) => (BitVec.ofNat 32 x.1, x.2)
  let s := s.xferSend (.regs (words (s.regs.filter fun (x : Nat × Word) => transferReg x.1)) (words s.staged))
  let s := s.cmpd.foldl (fun s (x : Nat × List Word) => s.xferSend (.compound (BitVec.ofNat 14 x.1) x.2)) s
  let tab := s.mem.bytes.filter fun (x : Nat × Byte) => s.tables.any fun b => decide (b ≤ x.1 ∧ x.1 < b + 0x8000)
  let s := tab.foldl (fun s (x : Nat × Byte) => s.xferSend (.memory (BitVec.ofNat 39 x.1) [x.2])) s
  let s := (List.finRange 256).foldl (fun s r => s.xferSend (.region r (s.regionImage r.val))) s
  s.xferLast

/-- The partner asks for a catch-up: what it lacks is sent, and more as it arises (R520). -/
def State.feed (s : State) (method after : Nat) : State :=
  let s := { s with twin := { s.twin with feeding := some method } }
  if method = 1 then s.feedEntries after else if method = 2 then s.feedState else s

/-! ### The twin port (R535-R538, R547-R549) -/

/-- The open request of a standby's context that a mirrored reply answers, in issue order (R536). -/
def State.mirrorReq (s : State) (c gen : Nat) (p : LReq → Bool) : Option LReq :=
  s.leat.reqs.find? fun r => r.issuer == c && r.gen == gen && p r

/-- Is a request one whose answer carries data? -/
def LReq.reads (r : LReq) : Bool := r.kind == .mrd || r.kind == .mamo

/-- A mirrored reply to a memory request: one with data answers a read, one without a write, an error the first. -/
def State.mirrorMrsp (s : State) (c gen sub : Nat) (d : List Byte) : State :=
  match s.mirrorReq c gen fun r => (r.reads || r.kind == .mwr) && (sub != 0 || r.reads == !d.isEmpty) with
  | some r => s.memAnswer r sub d
  | none => s.mirrorEnds

/-- A mirrored reply to a unit request. -/
def State.mirrorUrsp (s : State) (c gen : Nat) (m : UrspMsg) : State :=
  match m with
  | .fault u sub => s.unitReport c gen u.toNat sub.toNat
  | .ack =>
    (match s.mirrorReq c gen fun r => match r.who with | .unit .. => true | _ => false with
     | some r => s.unitAnswer r none
     | none => s.mirrorEnds)
  | .value v =>
    (match s.mirrorReq c gen fun r => match r.who with | .urd _ => true | _ => false with
     | some r => s.unitAnswer r v
     | none => s.mirrorEnds)

/-- A journalled command of the primary (R537): kept at the same position and sequence; the standby completes none. -/
def State.mirrorCmd (s : State) (p dev : Nat) (body : BitVec 512) (payload : List Byte) (seq pos gen : Nat) : State :=
  let c : HCmd := ⟨p, if dev = s.dev then none else some (dev, 0), p, gen, body, payload, seq, pos, .first, 0, 0, true⟩
  let next := s.jnlPlace ((pos + 1) % 131072)
  let s := { s with jnl := { s.jnl with last := seq, pos := next } }.setF JNL_POS JNL_POS_POS next
  let s := s.setCmds (s.host.cmds ++ [c])
  if (s.nvmServing (jnlLine pos)).isEmpty then s.jnlFailed c
  else s.nvmQueue (jnlLine pos) (wordsOf c.first) (.jnl seq false)

/-- What the primary consumed is executed as it executed it (R536). -/
def State.mirrored (s : State) (m : TwinMsg) : State :=
  match m with
  | .strm r ws =>
    let q := tblGet (fun _ => []) s.cxb.playout r.val ++ itemsOf ws
    { s with cxb := { s.cxb with playout := tblSet (fun _ => []) s.cxb.playout r.val q } }.setF
      (CXB_RR_STAT r.val) CXB_RR_STAT_BORDER 0
  | .mwr hd a d => (s.farWrite hd a.toNat d).2
  | .uop hd r leaves st => s.uopArrive hd r leaves st
  | .mrsp c gen sub d => s.mirrorMrsp c.val gen.toNat sub.toNat d
  | .ursp c gen m => s.mirrorUrsp c.val gen.toNat m
  | .benmos p dev body payload seq pos gen => s.mirrorCmd p.val dev.val body payload seq.toNat pos.toNat gen.toNat
  | .boot d => s.bootBytes d
  | .xfer m => (s.xferApply m).2
  | _ => s

/-- What the standby or the primary does with a message of its partner (R545, R547, R551). -/
def State.twinMsg (s : State) (m : TwinMsg) : State :=
  match m with
  | .attach gen jseq =>
    if !s.bit TWIN_CFG TWIN_CFG_EN || s.twinPrimary then s
    else
      let s := s.twinAttached gen.toNat jseq.toNat
      if s.twinState = 4 then s.partnerSend [10] else s
  | .swap false =>
    if s.twinPrimary && s.twinState == twMirror && s.twin.pend.isNone then { s with twin := { s.twin with pend := some 3 } }
    else s
  | .swap true =>
    if s.twinStandby && s.twinState == twMirror then
      let s := s.takeOver 4
      if s.twin.pend = some 3 then s.twinResult 0 else s
    else s
  | .detach =>
    if !s.twinStandby then s
    else (if s.leat.catching then s.catchFail else s).twinDetached
  | .ready =>
    if s.twinPrimary && s.twinState == twSolo then
      { s with twin := { s.twin with mirroring := true, feeding := none } }
    else s
  | .epoch _ => s
  | .lost => if s.twinState == twMirror || s.twin.mirroring then s.mirrorLeaves else s
  | .catchup method jseq => if s.twinPrimary then s.feed method.val jseq.toNat else s
  | m => if s.twinStandby && (s.twinState == twMirror || s.twin.mirroring) then s.mirrored m else s

/-- TWIN_PACKET (R535-R538, R547-R549). Mirrored traffic is taken by a standby that mirrors; the primary ignores the
standby's epoch result (R538). -/
def execTwinPacket (rx : Rx) (m : TwinMsg) (s : State) : Host.Outcome State Fault Refusal :=
  .next (s.packet rx fun s => s.twinMsg m)

end Sys2Proof.Machine
end

