-- ==== Sys2Proof/Machine/Release.lean ====
section
/-! DEFINITION. The commands after which requests of other devices that waited go on (R78, R93, R153, R144, R645). -/

namespace Sys2Proof.Machine

/-- EVENT_RELEASE (R78, R81): none while an epoch is applied (R93); at an idle tile the operation is held (R645). -/
def execEventRelease (s : State) : Host.Outcome State Fault Refusal :=
  .next (State.uopsGo (if s.fld ANG_EPOCH_STAT ANG_EPOCH_STAT_STATE = 4 then s
    else match takeWhen s.releasable s.stq with
      | none => s
      | some (o, r) =>
        let s := { s with stq := r }
        match o.op with
        | .ucmd .. | .uwr .. => if s.tileHolds o.kind o.index then s.hand o true else s.perform o (some o.stamp) false
        | _ => s.perform o (some o.stamp) false))

/-- EPOCH_APPLY_COMPLETE (R93, R153); a partner that catches up by TRANSFER is sent the new state (R520). -/
def execEpochApplyComplete (s : State) : Host.Outcome State Fault Refusal :=
  .next (match s.ep.part with
    | some p =>
      if s.epState = 4 then
        let s := (s.epComplete p).uopsGo
        if s.twinPrimary && s.twin.feeding == some 2 then s.feedState else s
      else s
    | none => s)

/-- WAKE_ITEM_END (R589, R645, R650, R651): what was held for a tile now RUN is delivered, a read of units that waited
for it goes on, and a START that waited is answered. -/
def execWakeItemEnd (rank : Fin 7) (k : Fin 16) (s : State) : Host.Outcome State Fault Refusal :=
  .next (if !s.pwr.ramping.contains (rank.val, k.val) then s
    else
      let s := s.wakeEnd rank.val k.val
      let s := if (rank.val = 2 ∨ rank.val = 3) ∧ s.tileState k.val = 0 then
          let s := (s.deliverHeld k.val).uopsGo
          if s.epState = 4 then s
          else (s.ctxs.filter fun x => x.2.stall == .apply).foldl (fun s x => s.resumeCtx x.1) s
        else s
      match s.boot.startDue with
      | some (o, l) => if s.pwr.tilesUp && s.bootState == 1 then s.bootAnswer o l else s
      | none => s)

end Sys2Proof.Machine
end

