-- ==== Sys2Proof/Machine/Dispatch.lean ====
section
/-! DEFINITION. One arm per command: a direct call of its meaning. -/

namespace Sys2Proof.Machine

/-- The effect of a command on everything but the queue. -/
def exec (i : Instr) (s : State) : Host.Outcome State Fault Refusal :=
  match i with
  | .registerWrite q place bytes val => Sys2Proof.Machine.execRegisterWrite q place bytes val s
  | .rsvdCaptureClear q => Sys2Proof.Machine.execRsvdCaptureClear q s
  | .counterLoRead q addr => Sys2Proof.Machine.execCounterLoRead q addr s
  | .counterHiRead q addr => Sys2Proof.Machine.execCounterHiRead q addr s
  | .counterHoldWrite q addr val => Sys2Proof.Machine.execCounterHoldWrite q addr val s
  | .counterLoadWrite q addr val => Sys2Proof.Machine.execCounterLoadWrite q addr val s
  | .counterLoadApply addr => Sys2Proof.Machine.execCounterLoadApply addr s
  | .clockLost d => Sys2Proof.Machine.execClockLost d s
  | .quadEdge src edge age => Sys2Proof.Machine.execQuadEdge src edge age s
  | .indexPulse src age => Sys2Proof.Machine.execIndexPulse src age s
  | .ssiFrame src startHigh stopHigh raw age => Sys2Proof.Machine.execSsiFrame src startHigh stopHigh raw age s
  | .sincosSample src => Sys2Proof.Machine.execSincosSample src s
  | .mainsZeroCrossing src age => Sys2Proof.Machine.execMainsZeroCrossing src age s
  | .measurementTimeout src => Sys2Proof.Machine.execMeasurementTimeout src s
  | .indexTimeout src => Sys2Proof.Machine.execIndexTimeout src s
  | .coastExpired => Sys2Proof.Machine.execCoastExpired s
  | .angleOutputEmit src => Sys2Proof.Machine.execAngleOutputEmit src s
  | .eventRelease => Sys2Proof.Machine.execEventRelease s
  | .idleWindowOpen w => Sys2Proof.Machine.execIdleWindowOpen w s
  | .idleWindowClose w => Sys2Proof.Machine.execIdleWindowClose w s
  | .epochArmRequest q => Sys2Proof.Machine.execEpochArmRequest q s
  | .epochCancelRequest q => Sys2Proof.Machine.execEpochCancelRequest q s
  | .epochApplyNow q => Sys2Proof.Machine.execEpochApplyNow q s
  | .epoReq rx dev e cancel => Sys2Proof.Machine.execEpoReq rx dev e cancel s
  | .epoArm rx n e lists => Sys2Proof.Machine.execEpoArm rx n e lists s
  | .epoReply rx dev n armed status => Sys2Proof.Machine.execEpoReply rx dev n armed status s
  | .epochDecide => Sys2Proof.Machine.execEpochDecide s
  | .epoDecResend => Sys2Proof.Machine.execEpoDecResend s
  | .epoDec rx n commit status joined => Sys2Proof.Machine.execEpoDec rx n commit status joined s
  | .epochApply => Sys2Proof.Machine.execEpochApply s
  | .epochApplyComplete => Sys2Proof.Machine.execEpochApplyComplete s
  | .epochNoDecision => Sys2Proof.Machine.execEpochNoDecision s
  | .epoRes rx status ignored => Sys2Proof.Machine.execEpoRes rx status ignored s
  | .illegalWord c w => Sys2Proof.Machine.execIllegalWord c w s
  | .takeInterrupt c => Sys2Proof.Machine.execTakeInterrupt c s
  | .takeMachineCheck => Sys2Proof.Machine.execTakeMachineCheck s
  | .memoryResponse c => Sys2Proof.Machine.execMemoryResponse c s
  | .storeAccepted c => Sys2Proof.Machine.execStoreAccepted c s
  | .postedStoreFailure c => Sys2Proof.Machine.execPostedStoreFailure c s
  | .stampQueueRoom c => Sys2Proof.Machine.execStampQueueRoom c s
  | .untilTimeout c => Sys2Proof.Machine.execUntilTimeout c s
  | .streamRxWord n => Sys2Proof.Machine.execStreamRxWord n s
  | .streamTxRoom c => Sys2Proof.Machine.execStreamTxRoom c s
  | .syncComplete c => Sys2Proof.Machine.execSyncComplete c s
  | .add c rd ra rb => Sys2Proof.Machine.execAdd c rd ra rb s
  | .sub c rd ra rb => Sys2Proof.Machine.execSub c rd ra rb s
  | .and c rd ra rb => Sys2Proof.Machine.execAnd c rd ra rb s
  | .or c rd ra rb => Sys2Proof.Machine.execOr c rd ra rb s
  | .xor c rd ra rb => Sys2Proof.Machine.execXor c rd ra rb s
  | .sll c rd ra rb => Sys2Proof.Machine.execSll c rd ra rb s
  | .srl c rd ra rb => Sys2Proof.Machine.execSrl c rd ra rb s
  | .sra c rd ra rb => Sys2Proof.Machine.execSra c rd ra rb s
  | .slt c rd ra rb => Sys2Proof.Machine.execSlt c rd ra rb s
  | .sltu c rd ra rb => Sys2Proof.Machine.execSltu c rd ra rb s
  | .min c rd ra rb => Sys2Proof.Machine.execMin c rd ra rb s
  | .max c rd ra rb => Sys2Proof.Machine.execMax c rd ra rb s
  | .minu c rd ra rb => Sys2Proof.Machine.execMinu c rd ra rb s
  | .maxu c rd ra rb => Sys2Proof.Machine.execMaxu c rd ra rb s
  | .mul c rd ra rb => Sys2Proof.Machine.execMul c rd ra rb s
  | .mulh c rd ra rb => Sys2Proof.Machine.execMulh c rd ra rb s
  | .mulhu c rd ra rb => Sys2Proof.Machine.execMulhu c rd ra rb s
  | .clz c rd ra => Sys2Proof.Machine.execClz c rd ra s
  | .addi c rd ra imm => Sys2Proof.Machine.execAddi c rd ra imm s
  | .andi c rd ra imm => Sys2Proof.Machine.execAndi c rd ra imm s
  | .ori c rd ra imm => Sys2Proof.Machine.execOri c rd ra imm s
  | .xori c rd ra imm => Sys2Proof.Machine.execXori c rd ra imm s
  | .slti c rd ra imm => Sys2Proof.Machine.execSlti c rd ra imm s
  | .sltiu c rd ra imm => Sys2Proof.Machine.execSltiu c rd ra imm s
  | .slli c rd ra imm => Sys2Proof.Machine.execSlli c rd ra imm s
  | .srli c rd ra imm => Sys2Proof.Machine.execSrli c rd ra imm s
  | .srai c rd ra imm => Sys2Proof.Machine.execSrai c rd ra imm s
  | .lui c rd imm => Sys2Proof.Machine.execLui c rd imm s
  | .adds c rd ra rb => Sys2Proof.Machine.execAdds c rd ra rb s
  | .subs c rd ra rb => Sys2Proof.Machine.execSubs c rd ra rb s
  | .negs c rd ra => Sys2Proof.Machine.execNegs c rd ra s
  | .abss c rd ra => Sys2Proof.Machine.execAbss c rd ra s
  | .mulq c rd ra rb => Sys2Proof.Machine.execMulq c rd ra rb s
  | .macq c rd ra rb => Sys2Proof.Machine.execMacq c rd ra rb s
  | .shrr c rd ra rb => Sys2Proof.Machine.execShrr c rd ra rb s
  | .satn c rd ra n => Sys2Proof.Machine.execSatn c rd ra n s
  | .pks c rd ra rb => Sys2Proof.Machine.execPks c rd ra rb s
  | .ldB c rd ra imm => Sys2Proof.Machine.execLdB c rd ra imm s
  | .ldBu c rd ra imm => Sys2Proof.Machine.execLdBu c rd ra imm s
  | .ldH c rd ra imm => Sys2Proof.Machine.execLdH c rd ra imm s
  | .ldHu c rd ra imm => Sys2Proof.Machine.execLdHu c rd ra imm s
  | .ldW c rd ra imm => Sys2Proof.Machine.execLdW c rd ra imm s
  | .ldD c rd ra imm => Sys2Proof.Machine.execLdD c rd ra imm s
  | .stB c rs ra imm => Sys2Proof.Machine.execStB c rs ra imm s
  | .stH c rs ra imm => Sys2Proof.Machine.execStH c rs ra imm s
  | .stW c rs ra imm => Sys2Proof.Machine.execStW c rs ra imm s
  | .stD c rs ra imm => Sys2Proof.Machine.execStD c rs ra imm s
  | .ldfB c rd ra => Sys2Proof.Machine.execLdfB c rd ra s
  | .ldfBu c rd ra => Sys2Proof.Machine.execLdfBu c rd ra s
  | .ldfH c rd ra => Sys2Proof.Machine.execLdfH c rd ra s
  | .ldfHu c rd ra => Sys2Proof.Machine.execLdfHu c rd ra s
  | .ldfW c rd ra => Sys2Proof.Machine.execLdfW c rd ra s
  | .ldfD c rd ra => Sys2Proof.Machine.execLdfD c rd ra s
  | .stfB c rs ra => Sys2Proof.Machine.execStfB c rs ra s
  | .stfH c rs ra => Sys2Proof.Machine.execStfH c rs ra s
  | .stfW c rs ra => Sys2Proof.Machine.execStfW c rs ra s
  | .stfD c rs ra => Sys2Proof.Machine.execStfD c rs ra s
  | .amoswap c rd ra rb f => Sys2Proof.Machine.execAmoswap c rd ra rb f s
  | .amoadd c rd ra rb f => Sys2Proof.Machine.execAmoadd c rd ra rb f s
  | .amocas c rd ra rb f => Sys2Proof.Machine.execAmocas c rd ra rb f s
  | .b c disp => Sys2Proof.Machine.execB c disp s
  | .call c disp => Sys2Proof.Machine.execCall c disp s
  | .beq c ra rb disp => Sys2Proof.Machine.execBeq c ra rb disp s
  | .bne c ra rb disp => Sys2Proof.Machine.execBne c ra rb disp s
  | .blt c ra rb disp => Sys2Proof.Machine.execBlt c ra rb disp s
  | .bge c ra rb disp => Sys2Proof.Machine.execBge c ra rb disp s
  | .bltu c ra rb disp => Sys2Proof.Machine.execBltu c ra rb disp s
  | .bgeu c ra rb disp => Sys2Proof.Machine.execBgeu c ra rb disp s
  | .jr c ra => Sys2Proof.Machine.execJr c ra s
  | .callr c ra => Sys2Proof.Machine.execCallr c ra s
  | .enter c => Sys2Proof.Machine.execEnter c s
  | .leave c => Sys2Proof.Machine.execLeave c s
  | .rett c => Sys2Proof.Machine.execRett c s
  | .retw c => Sys2Proof.Machine.execRetw c s
  | .wspill c ra => Sys2Proof.Machine.execWspill c ra s
  | .wfill c ra => Sys2Proof.Machine.execWfill c ra s
  | .getc c rd n => Sys2Proof.Machine.execGetc c rd n s
  | .setc c n ra => Sys2Proof.Machine.execSetc c n ra s
  | .sync c m => Sys2Proof.Machine.execSync c m s
  | .push c ra => Sys2Proof.Machine.execPush c ra s
  | .pushs c ra rb => Sys2Proof.Machine.execPushs c ra rb s
  | .pull c rd => Sys2Proof.Machine.execPull c rd s
  | .pullnb c rd rf => Sys2Proof.Machine.execPullnb c rd rf s
  | .pulls c rd rp => Sys2Proof.Machine.execPulls c rd rp s
  | .anow c rd => Sys2Proof.Machine.execAnow c rd s
  | .tnow c rd => Sys2Proof.Machine.execTnow c rd s
  | .aadd c rd ra rb => Sys2Proof.Machine.execAadd c rd ra rb s
  | .acmp c rd ra rb => Sys2Proof.Machine.execAcmp c rd ra rb s
  | .acyc c rd ra imm => Sys2Proof.Machine.execAcyc c rd ra imm s
  | .until c rd ra q rb => Sys2Proof.Machine.execUntil c rd ra q rb s
  | .atStamp c ra q w far => Sys2Proof.Machine.execAtStamp c ra q w far s
  | .uwr c rd h v kind off far => Sys2Proof.Machine.execUwr c rd h v kind off far s
  | .stg c rd h v kind off far => Sys2Proof.Machine.execStg c rd h v kind off far s
  | .urd c rd h comb kind off far => Sys2Proof.Machine.execUrd c rd h comb kind off far s
  | .wload c n h addr far => Sys2Proof.Machine.execWload c n h addr far s
  | .ucmdEnable c h a far => Sys2Proof.Machine.execUcmdEnable c h a far s
  | .ucmdDisable c h a far => Sys2Proof.Machine.execUcmdDisable c h a far s
  | .ucmdStart c h a far => Sys2Proof.Machine.execUcmdStart c h a far s
  | .ucmdStop c h a far => Sys2Proof.Machine.execUcmdStop c h a far s
  | .ucmdFire c h a far => Sys2Proof.Machine.execUcmdFire c h a far s
  | .ucmdTrig c h a far => Sys2Proof.Machine.execUcmdTrig c h a far s
  | .ucmdSafe c h a far => Sys2Proof.Machine.execUcmdSafe c h a far s
  | .ucmdClear c h a far => Sys2Proof.Machine.execUcmdClear c h a far s
  | .arm c ra => Sys2Proof.Machine.execArm c ra s
  | .epcan c => Sys2Proof.Machine.execEpcan c s
  | .epwait c rd => Sys2Proof.Machine.execEpwait c rd s
  | .pinw c ra => Sys2Proof.Machine.execPinw c ra s
  | .pinr c rd => Sys2Proof.Machine.execPinr c rd s
  | .dacUpdate u => Sys2Proof.Machine.execDacUpdate u s
  | .cellStreamWord u => Sys2Proof.Machine.execCellStreamWord u s
  | .holdTimeout u => Sys2Proof.Machine.execHoldTimeout u s
  | .starveTimeout u => Sys2Proof.Machine.execStarveTimeout u s
  | .overcurrent u => Sys2Proof.Machine.execOvercurrent u s
  | .waveLoadComplete u => Sys2Proof.Machine.execWaveLoadComplete u s
  | .celWaveDataRead q u => Sys2Proof.Machine.execCelWaveDataRead q u s
  | .cvgEnable q g => Sys2Proof.Machine.execCvgEnable q g s
  | .cvgDisable q g => Sys2Proof.Machine.execCvgDisable q g s
  | .cvgStart q g => Sys2Proof.Machine.execCvgStart q g s
  | .cvgStop q g => Sys2Proof.Machine.execCvgStop q g s
  | .cvgClear q g => Sys2Proof.Machine.execCvgClear q g s
  | .cvgTrig q g mask => Sys2Proof.Machine.execCvgTrig q g mask s
  | .cvgPowerUpDone g => Sys2Proof.Machine.execCvgPowerUpDone g s
  | .seqIssue g => Sys2Proof.Machine.execSeqIssue g s
  | .conversionEnd g slice input clip => Sys2Proof.Machine.execConversionEnd g slice input clip s
  | .urgentAngleTrigger g u => Sys2Proof.Machine.execUrgentAngleTrigger g u s
  | .weirUrgentTrigger p low => Sys2Proof.Machine.execWeirUrgentTrigger p low s
  | .cvgParityError g e inTable => Sys2Proof.Machine.execCvgParityError g e inTable s
  | .cvgRefWrite q d v => Sys2Proof.Machine.execCvgRefWrite q d v s
  | .refRdyChange d refB ready => Sys2Proof.Machine.execRefRdyChange d refB ready s
  | .eddyRunEnd g limited weights => Sys2Proof.Machine.execEddyRunEnd g limited weights s
  | .eddySwap g => Sys2Proof.Machine.execEddySwap g s
  | .eddyStale g => Sys2Proof.Machine.execEddyStale g s
  | .fltEnable q u => Sys2Proof.Machine.execFltEnable q u s
  | .fltDisable q u => Sys2Proof.Machine.execFltDisable q u s
  | .fltStart q u => Sys2Proof.Machine.execFltStart q u s
  | .fltStop q u => Sys2Proof.Machine.execFltStop q u s
  | .fltClear q u => Sys2Proof.Machine.execFltClear q u s
  | .fltInputWord e => Sys2Proof.Machine.execFltInputWord e s
  | .fltProcess e bad => Sys2Proof.Machine.execFltProcess e bad s
  | .fltCoefWrite q e v => Sys2Proof.Machine.execFltCoefWrite q e v s
  | .fltCoefRead q e => Sys2Proof.Machine.execFltCoefRead q e s
  | .fltLoadRead q e => Sys2Proof.Machine.execFltLoadRead q e s
  | .learningStart e => Sys2Proof.Machine.execLearningStart e s
  | .learningComplete e => Sys2Proof.Machine.execLearningComplete e s
  | .drvEnable q n => Sys2Proof.Machine.execDrvEnable q n s
  | .drvDisable q n => Sys2Proof.Machine.execDrvDisable q n s
  | .drvFire q n prof => Sys2Proof.Machine.execDrvFire q n prof s
  | .drvSafe q n => Sys2Proof.Machine.execDrvSafe q n s
  | .drvClear q n => Sys2Proof.Machine.execDrvClear q n s
  | .drvCfgWrite q n v => Sys2Proof.Machine.execDrvCfgWrite q n v s
  | .drvStartRelease n => Sys2Proof.Machine.execDrvStartRelease n s
  | .budgetStepBoundary => Sys2Proof.Machine.execBudgetStepBoundary s
  | .shotEdge n => Sys2Proof.Machine.execShotEdge n s
  | .weirTrip p fout pre => Sys2Proof.Machine.execWeirTrip p fout pre s
  | .blankingExpire p => Sys2Proof.Machine.execBlankingExpire p s
  | .cxbWordDeliver perr => Sys2Proof.Machine.execCxbWordDeliver perr s
  | .cxbRouteWrite q d v => Sys2Proof.Machine.execCxbRouteWrite q d v s
  | .cxbRnowWrite q v => Sys2Proof.Machine.execCxbRnowWrite q v s
  | .cxbOwnWrite q p v => Sys2Proof.Machine.execCxbOwnWrite q p v s
  | .cxbRouteSwitch d => Sys2Proof.Machine.execCxbRouteSwitch d s
  | .borderHoldRepeat => Sys2Proof.Machine.execBorderHoldRepeat s
  | .cxbLoadRead q => Sys2Proof.Machine.execCxbLoadRead q s
  | .rrPlayout r => Sys2Proof.Machine.execRrPlayout r s
  | .lgcEnable q r => Sys2Proof.Machine.execLgcEnable q r s
  | .lgcDisable q r => Sys2Proof.Machine.execLgcDisable q r s
  | .lgcClear q r => Sys2Proof.Machine.execLgcClear q r s
  | .lgcReconf q r auto => Sys2Proof.Machine.execLgcReconf q r auto s
  | .reconfLoadEnd r => Sys2Proof.Machine.execReconfLoadEnd r s
  | .logicPortRx p => Sys2Proof.Machine.execLogicPortRx p s
  | .obsCapArm q v => Sys2Proof.Machine.execObsCapArm q v s
  | .obsTrigger => Sys2Proof.Machine.execObsTrigger s
  | .obsCapture => Sys2Proof.Machine.execObsCapture s
  | .obsCapDataRead q => Sys2Proof.Machine.execObsCapDataRead q s
  | .eccLogPop q => Sys2Proof.Machine.execEccLogPop q s
  | .patrolRead addr d0 d1 c => Sys2Proof.Machine.execPatrolRead addr d0 d1 c s
  | .memRetAdd q k => Sys2Proof.Machine.execMemRetAdd q k s
  | .memRetRemove q k => Sys2Proof.Machine.execMemRetRemove q k s
  | .retCopyEnd => Sys2Proof.Machine.execRetCopyEnd s
  | .sramBankDisable q t b => Sys2Proof.Machine.execSramBankDisable q t b s
  | .sramBankEnable q t b => Sys2Proof.Machine.execSramBankEnable q t b s
  | .sramCopyEnd => Sys2Proof.Machine.execSramCopyEnd s
  | .dmaSubmit q e v => Sys2Proof.Machine.execDmaSubmit q e v s
  | .dmaDescStart e => Sys2Proof.Machine.execDmaDescStart e s
  | .dmaBurstDone e => Sys2Proof.Machine.execDmaBurstDone e s
  | .dmaAbort q e => Sys2Proof.Machine.execDmaAbort q e s
  | .dmaStreamRx p => Sys2Proof.Machine.execDmaStreamRx p s
  | .nvmCmdGo q line => Sys2Proof.Machine.execNvmCmdGo q line s
  | .nvmLineDurable h ok => Sys2Proof.Machine.execNvmLineDurable h ok s
  | .nvmHalfFail h => Sys2Proof.Machine.execNvmHalfFail h s
  | .instStart q n => Sys2Proof.Machine.execInstStart q n s
  | .instHold q n => Sys2Proof.Machine.execInstHold q n s
  | .instResume q n => Sys2Proof.Machine.execInstResume q n s
  | .instReset q n => Sys2Proof.Machine.execInstReset q n s
  | .functionLevelReset fn => Sys2Proof.Machine.execFunctionLevelReset fn s
  | .resetDrained n => Sys2Proof.Machine.execResetDrained n s
  | .irqSourceChange n => Sys2Proof.Machine.execIrqSourceChange n s
  | .irqClaimWrite q v => Sys2Proof.Machine.execIrqClaimWrite q v s
  | .irqClaimRead q => Sys2Proof.Machine.execIrqClaimRead q s
  | .irqDone q v => Sys2Proof.Machine.execIrqDone q v s
  | .irqSwset q v => Sys2Proof.Machine.execIrqSwset q v s
  | .pinOutWrite q g v => Sys2Proof.Machine.execPinOutWrite q g v s
  | .pinOeWrite q g v => Sys2Proof.Machine.execPinOeWrite q g v s
  | .pinCfgWrite q n v => Sys2Proof.Machine.execPinCfgWrite q n v s
  | .pinFabWrite q n v => Sys2Proof.Machine.execPinFabWrite q n v s
  | .gpioGroupWord k => Sys2Proof.Machine.execGpioGroupWord k s
  | .pinInputChange l => Sys2Proof.Machine.execPinInputChange l s
  | .pmWrite q m r v => Sys2Proof.Machine.execPmWrite q m r v s
  | .wakePin n => Sys2Proof.Machine.execWakePin n s
  | .ang rx m => Sys2Proof.Machine.execAng rx m s
  | .angSend => Sys2Proof.Machine.execAngSend s
  | .hb rx dev st gen jseq role => Sys2Proof.Machine.execHb rx dev st gen jseq role s
  | .hbSend => Sys2Proof.Machine.execHbSend s
  | .memb rx dev st mapgen paths => Sys2Proof.Machine.execMemb rx dev st mapgen paths s
  | .wrap rx dev port on paths => Sys2Proof.Machine.execWrap rx dev port on paths s
  | .gnot rx dev inst gen => Sys2Proof.Machine.execGnot rx dev inst gen s
  | .strmFlit rx r dev slot ws => Sys2Proof.Machine.execStrmFlit rx r dev slot ws s
  | .passThrough inp out cls dst ok fits body => Sys2Proof.Machine.execPassThrough inp out cls dst ok fits body s
  | .mrd rx hd addr len => Sys2Proof.Machine.execMrd rx hd addr len s
  | .mwr rx hd addr d => Sys2Proof.Machine.execMwr rx hd addr d s
  | .mamo rx hd op addr a b => Sys2Proof.Machine.execMamo rx hd op addr a b s
  | .mrsp rx hd sub d => Sys2Proof.Machine.execMrsp rx hd sub d s
  | .uop rx hd r leaves st => Sys2Proof.Machine.execUop rx hd r leaves st s
  | .ursp rx hd m => Sys2Proof.Machine.execUrsp rx hd m s
  | .benmosPacket rx hd m => Sys2Proof.Machine.execBenmosPacket rx hd m s
  | .bootPacket rx d => Sys2Proof.Machine.execBootPacket rx d s
  | .twinPacket rx m => Sys2Proof.Machine.execTwinPacket rx m s
  | .xferPacket rx m => Sys2Proof.Machine.execXferPacket rx m s
  | .packetRetry dst seq => Sys2Proof.Machine.execPacketRetry dst seq s
  | .packetTimeout dst seq => Sys2Proof.Machine.execPacketTimeout dst seq s
  | .leatTrainAttempt p => Sys2Proof.Machine.execLeatTrainAttempt p s
  | .trainStepTimeout p => Sys2Proof.Machine.execTrainStepTimeout p s
  | .leatPortUp p n => Sys2Proof.Machine.execLeatPortUp p n s
  | .leatPortDown p => Sys2Proof.Machine.execLeatPortDown p s
  | .laneLockLoss p => Sys2Proof.Machine.execLaneLockLoss p s
  | .lpRetrain q p v => Sys2Proof.Machine.execLpRetrain q p v s
  | .leatCfgWrite q v => Sys2Proof.Machine.execLeatCfgWrite q v s
  | .tsExchange p uid => Sys2Proof.Machine.execTsExchange p uid s
  | .distTimeout => Sys2Proof.Machine.execDistTimeout s
  | .distHoldExpire => Sys2Proof.Machine.execDistHoldExpire s
  | .memberHbTimeout dev => Sys2Proof.Machine.execMemberHbTimeout dev s
  | .leatAdmit q dev => Sys2Proof.Machine.execAdmit q dev s
  | .gracefulLeave q dev => Sys2Proof.Machine.execGracefulLeave q dev s
  | .leaveDrainEnd => Sys2Proof.Machine.execLeaveDrainEnd s
  | .catchupLocal q host => Sys2Proof.Machine.execCatchupLocal q host s
  | .catchupReplay q host => Sys2Proof.Machine.execCatchupReplay q host s
  | .catchupTransfer q host => Sys2Proof.Machine.execCatchupTransfer q host s
  | .catchupBlank q host => Sys2Proof.Machine.execCatchupBlank q host s
  | .catchupEnd failed => Sys2Proof.Machine.execCatchupEnd failed s
  | .retire q t => Sys2Proof.Machine.execRetire q t s
  | .force q t => Sys2Proof.Machine.execForce q t s
  | .return q t => Sys2Proof.Machine.execReturn q t s
  | .attach q => Sys2Proof.Machine.execAttach q s
  | .detach q => Sys2Proof.Machine.execDetach q s
  | .swap q => Sys2Proof.Machine.execSwap q s
  | .twinPeerChange level => Sys2Proof.Machine.execTwinPeerChange level s
  | .twinHbSend => Sys2Proof.Machine.execTwinHbSend s
  | .twinHbLost => Sys2Proof.Machine.execTwinHbLost s
  | .twinFault cause => Sys2Proof.Machine.execTwinFault cause s
  | .twinFaultWaitExpire => Sys2Proof.Machine.execTwinFaultWaitExpire s
  | .twinSenderSilent => Sys2Proof.Machine.execTwinSenderSilent s
  | .digestWindowEnd start => Sys2Proof.Machine.execDigestWindowEnd start s
  | .twinDigest start sum count => Sys2Proof.Machine.execTwinDigest start sum count s
  | .mirrorReplyTimeout => Sys2Proof.Machine.execMirrorReplyTimeout s
  | .mirrorJournalTimeout => Sys2Proof.Machine.execMirrorJournalTimeout s
  | .qpEnable p v => Sys2Proof.Machine.execQpEnable p v s
  | .qpDisable p => Sys2Proof.Machine.execQpDisable p s
  | .sqDoorbell p v => Sys2Proof.Machine.execSqDoorbell p v s
  | .cqDoorbell p v => Sys2Proof.Machine.execCqDoorbell p v s
  | .commandFetch body payload => Sys2Proof.Machine.execCommandFetch body payload s
  | .commandExecute far => Sys2Proof.Machine.execCommandExecute far s
  | .regWrite => Sys2Proof.Machine.execRegWrite s
  | .regWriteN => Sys2Proof.Machine.execRegWriteN s
  | .bind far => Sys2Proof.Machine.execBind far s
  | .epochReq => Sys2Proof.Machine.execEpochReq s
  | .applyNow => Sys2Proof.Machine.execApplyNow s
  | .post => Sys2Proof.Machine.execPost s
  | .mailboxDone t k => Sys2Proof.Machine.execMailboxDone t k s
  | .inst => Sys2Proof.Machine.execInst s
  | .twin => Sys2Proof.Machine.execTwin s
  | .catchup => Sys2Proof.Machine.execCatchup s
  | .tile => Sys2Proof.Machine.execTile s
  | .fence => Sys2Proof.Machine.execFence s
  | .regRead => Sys2Proof.Machine.execRegRead s
  | .status => Sys2Proof.Machine.execStatus s
  | .jnlRead => Sys2Proof.Machine.execJnlRead s
  | .replay payload => Sys2Proof.Machine.execReplay payload s
  | .state => Sys2Proof.Machine.execState s
  | .jnlBucketRefill => Sys2Proof.Machine.execJnlBucketRefill s
  | .smbusRegRead addr => Sys2Proof.Machine.execSmbusRegRead addr s
  | .smbusRegWrite addr val => Sys2Proof.Machine.execSmbusRegWrite addr val s
  | .mgtGo q => Sys2Proof.Machine.execMgtGo q s
  | .mgtDone q => Sys2Proof.Machine.execMgtDone q s
  | .uartTxWrite q ch => Sys2Proof.Machine.execUartTxWrite q ch s
  | .uartRxRead q => Sys2Proof.Machine.execUartRxRead q s
  | .uartRxChar ch => Sys2Proof.Machine.execUartRxChar ch s
  | .powerOnRelease st => Sys2Proof.Machine.execPowerOnRelease st s
  | .resetNAssert st => Sys2Proof.Machine.execResetNAssert st s
  | .bootRst q => Sys2Proof.Machine.execBootRst q s
  | .perst => Sys2Proof.Machine.execPerst s
  | .jgo q => Sys2Proof.Machine.execJgo q s
  | .flashReadDone d => Sys2Proof.Machine.execFlashReadDone d s
  | .bootStart rx oxbow late => Sys2Proof.Machine.execBootStart rx oxbow late s
  | .bootEnumTimeout answered => Sys2Proof.Machine.execBootEnumTimeout answered s
  | .bootSectionReport rx dev cause => Sys2Proof.Machine.execBootSectionReport rx dev cause s
  | .bootSyncTimeout => Sys2Proof.Machine.execBootSyncTimeout s
  | .bootVerifyReport rx dev cause => Sys2Proof.Machine.execBootVerifyReport rx dev cause s
  | .bootGo rx mask => Sys2Proof.Machine.execBootGo rx mask s
  | .bootAbort rx => Sys2Proof.Machine.execBootAbort rx s
  | .bootLinkTimeout => Sys2Proof.Machine.execBootLinkTimeout s
  | .lateLoad waiting => Sys2Proof.Machine.execLateLoad waiting s
  | .ddrTrainDone c ok => Sys2Proof.Machine.execDdrTrainDone c ok s
  | .sluiceGo q => Sys2Proof.Machine.execSluiceGo q s
  | .sluiceStep => Sys2Proof.Machine.execSluiceStep s
  | .outrel => Sys2Proof.Machine.execOutrel s
  | .progrdy q => Sys2Proof.Machine.execProgrdy q s
  | .sluiceLockTimeout => Sys2Proof.Machine.execSluiceLockTimeout s
  | .setHash q => Sys2Proof.Machine.execSetHash q s
  | .setIndex q arg => Sys2Proof.Machine.execSetIndex q arg s
  | .setOxbow q => Sys2Proof.Machine.execSetOxbow q s
  | .lockKey q => Sys2Proof.Machine.execLockKey q s
  | .lockDebug q => Sys2Proof.Machine.execLockDebug q s
  | .session q => Sys2Proof.Machine.execSession q s
  | .ciScanFrame id diff overlap refBad => Sys2Proof.Machine.execCiScanFrame id diff overlap refBad s
  | .jtagExtest ir scan => Sys2Proof.Machine.execJtagExtest s ir scan
  | .calPowerupStart d => Sys2Proof.Machine.execCalPowerupStart d s
  | .calPowerupEnd res => Sys2Proof.Machine.execCalPowerupEnd res s
  | .recal q cls => Sys2Proof.Machine.execRecal q cls s
  | .recalEnd res => Sys2Proof.Machine.execRecalEnd res s
  | .save q => Sys2Proof.Machine.execSave q s
  | .calExport q => Sys2Proof.Machine.execExport q s
  | .exportEnd => Sys2Proof.Machine.execExportEnd s
  | .calImport q => Sys2Proof.Machine.execImport q s
  | .importReadEnd => Sys2Proof.Machine.execImportReadEnd s
  | .amp q src => Sys2Proof.Machine.execAmp q src s
  | .ampEnd => Sys2Proof.Machine.execAmpEnd s
  | .pwrTileIdle q t => Sys2Proof.Machine.execPwrTileIdle q t s
  | .pwrTileRun q t => Sys2Proof.Machine.execPwrTileRun q t s
  | .pwrTileStandby q t => Sys2Proof.Machine.execPwrTileStandby q t s
  | .wakeItemStart => Sys2Proof.Machine.execWakeItemStart s
  | .wakeItemEnd rank k => Sys2Proof.Machine.execWakeItemEnd rank k s
  | .enterStandby q v => Sys2Proof.Machine.execEnterStandby q v s
  | .standbyTimerWake => Sys2Proof.Machine.execStandbyTimerWake s
  | .railFall k => Sys2Proof.Machine.execRailFall k s
  | .railGood k => Sys2Proof.Machine.execRailGood k s
  | .vioUndervoltage t => Sys2Proof.Machine.execVioUndervoltage t s
  | .pfailNLow => Sys2Proof.Machine.execPfailNLow s
  | .pfailClockStop => Sys2Proof.Machine.execPfailClockStop s
  | .pfailEnd => Sys2Proof.Machine.execPfailEnd s
  | .tempReading l => Sys2Proof.Machine.execTempReading l s
  | .tshutReset => Sys2Proof.Machine.execTshutReset s
  | .tstStepStart cls n => Sys2Proof.Machine.execTstStepStart cls n s
  | .tstStepEnd pass expected measured limit => Sys2Proof.Machine.execTstStepEnd pass expected measured limit s
  | .tstOverdue => Sys2Proof.Machine.execTstOverdue s
  | .pwrTmaxRead q => Sys2Proof.Machine.execPwrTmaxRead q s
  | .clockDomainLocked d => Sys2Proof.Machine.execClockDomainLocked d s
  | .alwaysOnOscillatorFail => Sys2Proof.Machine.execAlwaysOnOscillatorFail s
  | .pcieLinkChange up speed width => Sys2Proof.Machine.execPcieLinkChange up speed width s
  | .vioBankGood t => Sys2Proof.Machine.execVioBankGood t s
  | .pfailNRise => Sys2Proof.Machine.execPfailNRise s
  | .uartCharSent => Sys2Proof.Machine.execUartCharSent s
  | .twinHeartbeatArrival => Sys2Proof.Machine.execTwinHeartbeatArrival s
  | .mirrorDurableReport seq => Sys2Proof.Machine.execMirrorDurableReport seq s
  | .identityReadDone => Sys2Proof.Machine.execIdentityReadDone s
  | .flashSectionData d => Sys2Proof.Machine.execFlashSectionData d s
  | .signatureCheckDone => Sys2Proof.Machine.execSignatureCheckDone s

end Sys2Proof.Machine
end

