-- ==== Sys2Proof/Machine/Tick.lean ====
section
/-! DEFINITION. What a nanosecond of time does by itself, where no command waits (log entry 5). -/

namespace Sys2Proof.Machine

/-- Loads on their way to event counters take effect (R49); those of the time counter and of the source positions go
with the angle block. -/
def State.loadsApply (s : State) : State :=
  ((s.ctrLoad.map (·.1)).filter fun k => k != ANG_TIME_LO && !isSrcPos k).foldl (fun s k => s.ctrApply k) s

/-- Vector 1 of VF i + 1 is sent when the view of instance i changes from holding no 1 to holding one (R553). -/
def State.viewsTell (s : State) : State :=
  (List.finRange 256).foldl (fun s i =>
    let now := s.irqPending (.inst i)
    let was := tblGet (fun _ => false) s.host.viewed i.val
    if now = was then s
    else
      let s := { s with host := { s.host with viewed := tblSet (fun _ => false) s.host.viewed i.val now } }
      if now then s.msix (i.val + 1) 1 else s) s

/-- What ends with a µs and with a ms of the time counter (R294, R272, R351). -/
def State.spansEnd (s : State) : State :=
  let s := if s.ns % 1000 = 0 then s.fltMicro else s
  if s.ns % 1000000 = 0 then s.cxbMs.eddyMs else s

/-- Does domain 23, which times the angle block and the time counter, run (R37)? -/
def State.timeRuns (s : State) : Bool := bitOf (s.reg SYS_CLK_LOCK).toNat 23

/-- A nanosecond passes. Nothing moves in reset and in STANDBY; health records that wait are written; what the blocks have
sent goes to the outputs of the Leat ports (R484, R488). -/
def State.tick (s : State) : State :=
  if s.pwr.inReset || s.pwr.standby then s
  else
    let t := s.ns
    let s := s.loadsApply
    let s := if s.timeRuns then s.angStep.cvgTick.windowsWork.twinStep.weirTick.spansEnd.tstElapsed else s
    (((s.fabricTick t).logFlush).uopsGo).viewsTell.linesGo

end Sys2Proof.Machine
end

