-- ==== Sys2Proof/WellFormed.lean ====
section
/-! DEFINITION. Well-formed commands: operands that the outside can supply under the spec (sizes of packets, flits and
messages, limits of lists). The types of the other operands allow only such values. -/

namespace Sys2Proof

/-- The bytes of a packet: at most 8 flits of 32 bytes (R490). -/
def packetFits (l : List Byte) : Bool := decide (l.length ≤ 256)

/-- Descriptors read of other devices belong to compound units (R31, R150) and have at most 64 members (Table 1.6). -/
def farFits (l : List (Word × Option (List Word))) : Bool :=
  l.all fun x => x.1.toNat / 2 ^ 19 % 16 == 15 && decide ((x.2.getD []).length ≤ 64)

/-- Devices are named once each. -/
def distinct (l : List (Fin 512)) : Bool := decide l.Nodup

/-- A block of a catch-up (R519): an entry of 128 bytes (Table 16.9), a descriptor (R31), an image (R387). -/
def xferFits : XferMsg → Bool
  | .entry d payload => d.length == 128 && decide (payload.length ≤ 2 ^ 20)
  | .regs active staged => (active ++ staged).all fun x => x.1.toNat % 4 == 0
  | .compound _ m => decide (m.length ≤ 64)
  | .memory _ d => packetFits d
  | .region _ image => image.length == 4096
  | .last _ _ => true

/-- A unit operation (R146, R149): a register offset, at most 4,096 words. -/
def unitReqFits : UnitReq → Bool
  | .uwr _ off _ | .stg _ off _ | .urd _ off _ => off.toNat % 4 == 0
  | .ucmd _ _ => true
  | .wload ws => decide (1 ≤ ws.length ∧ ws.length ≤ 4096)

/-- What a TWIN packet carries. -/
def twinFits : TwinMsg → Bool
  | .strm _ ws => decide (1 ≤ ws.length ∧ ws.length ≤ 7)
  | .mwr _ _ d | .mrsp _ _ _ d | .boot d => packetFits d
  | .uop _ r leaves _ => unitReqFits r && !leaves.isEmpty
  | .xfer m => xferFits m
  | .benmos _ _ _ payload _ _ _ => decide (payload.length ≤ 2 ^ 20)
  | .attach .. | .swap _ | .detach | .ready | .epoch _ | .lost | .catchup .. | .ursp .. => true

/-- Is a command one that the outside can send? -/
def Instr.wf : Instr → Bool
  | .registerWrite _ _ bytes _ => bytes == 1 || bytes == 2 || bytes == 4 || bytes == 8
  | .epoArm _ _ _ l => decide ((l.join ++ l.leave).length ≤ 8) && distinct (l.join ++ l.leave)
  | .epoDec _ _ _ _ joined => decide (joined.length ≤ 8) && distinct joined
  | .atStamp _ _ _ _ far | .uwr _ _ _ _ _ _ far | .stg _ _ _ _ _ _ far | .urd _ _ _ _ _ _ far | .wload _ _ _ _ far
  | .ucmdEnable _ _ _ far | .ucmdDisable _ _ _ far | .ucmdStart _ _ _ far | .ucmdStop _ _ _ far | .ucmdFire _ _ _ far
  | .ucmdTrig _ _ _ far | .ucmdSafe _ _ _ far | .ucmdClear _ _ _ far => farFits far
  | .commandExecute far | .bind far => farFits far.reads
  | .pinInputChange l => decide ((l.map (·.1)).Nodup)
  | .memb _ _ _ _ paths | .wrap _ _ _ _ paths => distinct (paths.map (·.dev))
  | .strmFlit _ _ _ _ ws => decide (1 ≤ ws.length ∧ ws.length ≤ 7)
  | .passThrough inp out _ _ _ _ _ => inp != out
  | .mrd _ _ _ len => decide (1 ≤ len ∧ len ≤ 256)
  | .mwr _ _ _ d => !d.isEmpty && packetFits d
  | .mamo _ _ _ addr _ _ => addr.toNat % 4 == 0
  | .mrsp _ _ _ d | .bootPacket _ d => packetFits d
  | .uop _ _ r leaves _ => unitReqFits r && !leaves.isEmpty
  | .benmosPacket _ _ (.command _ payload) => decide (payload.length ≤ 2 ^ 20)
  | .twinPacket _ m => twinFits m
  | .xferPacket _ m => xferFits m
  | .commandFetch _ payload => decide ((payload.getD []).length ≤ 2 ^ 20)
  | .bootGo _ mask => distinct mask
  | .bootEnumTimeout answered => distinct answered
  | .lateLoad waiting => distinct waiting
  | .tempReading l => l.length == 12
  | _ => true

end Sys2Proof
end

