-- ==== Sys2Proof/Safety.lean ====
section
/-! DEFINITION. What counts as a safe run of the block: commands arrive at the back of the queue and are taken from its
front; no step stops, and the memory keeps its canonical form. -/

namespace Sys2Proof.Machine

/-- A command arrives. -/
def State.arrive (s : State) (c : Instr) : State := { s with pending := s.pending ++ [c] }

/-- What a run can come to: by steps, and by well-formed commands that arrive. -/
inductive Reaches : State → State → Prop
  | refl (s : State) : Reaches s s
  | step {s t u : State} : Reaches s t → step t = .next u → Reaches s u
  | arrive {s t : State} (c : Instr) : Reaches s t → c.wf = true → Reaches s (t.arrive c)

/-- The memory is in its canonical form: equal memories are equal data. -/
def State.MemCanon (s : State) : Prop := Memory.wf s.mem.bytes = true

/-- A state is safe: the step from it answers a next state, and its memory is canonical. -/
def State.Safe (s : State) : Prop := (∃ t, step s = .next t) ∧ s.MemCanon

/-- A command answers a next state that has a property. -/
def State.Does (s : State) (i : Instr) (p : State → Prop) : Prop := ∃ t, exec i s = .next t ∧ p t

/-- The registers of `t` other than those listed are those of `s`. -/
def State.RegsBut (s t : State) (l : List Nat) : Prop := ∀ a, a ∉ l → t.reg a = s.reg a

/-- A field of a register becomes `x`; the other fields of that register are as they were. -/
def State.FieldTo (s t : State) (a : Nat) (f : Field) (x : Nat) : Prop :=
  t.fld a f = x ∧ ∀ g, Field.apart f g = true → t.fld a g = s.fld a g

/-- The device is fenced, with the cause that fenced it (R97): every drive and every cell that governs its output is
latched safe, no instance context runs on, and the supervisor has its machine check. -/
structure State.FencedBy (t : State) (cause : Nat) : Prop where
  fenced : t.fenced = true
  cause : t.fld ANG_FENCE ANG_FENCE_CAUSE = cause
  drives : ∀ n : Fin 512, t.bit (DRV_STATUS n) DRV_STATUS_LATCH = true
  cells : ∀ u : Fin 512, t.governs u = u → t.bit (CEL_STATUS u) CEL_STATUS_LATCH = true
  contexts : ∀ i : Fin 256, (t.ctxState i ≠ ctxRun ∧ t.ctxState i ≠ ctxWait) ∨ (t.ctx i).holdReq = some 2
  check : t.mchk = true ∧ (t.ctx ctxSup).mcause.getLsbD 31 = true

/-! ### The terms in which statements speak of a context that issues an instruction -/

/-- The state after a context has fetched the word at its PC. -/
def State.fetched (s : State) (c : Nat) : State := (s.fetch c (s.ctx c).pc).2

/-- A context issues the word at its PC and nothing comes before it: it is in RUN and waits for nothing, no machine
check, no posted failure and no interrupt is due (R113, R187), and the word can be fetched (R157). -/
structure State.Ready (s : State) (c : Nat) : Prop where
  issues : s.issues c = true
  noCheck : s.checkDue c = false
  fetch : (s.fetch c (s.ctx c).pc).1 = none
  noPosted : (s.ctx c).postFail = none
  noIrq : s.irqDue c = false

/-- Only one context changes, to `x`: the other contexts and every other field of the state are as they were. -/
structure State.Becomes (u t : State) (c : Nat) (x : Ctx) : Prop where
  here : t.ctx c = x
  others : ∀ d, d ≠ c → t.ctx d = u.ctx d
  rest : t = { u with ctxs := t.ctxs }

/-- The context after an instruction that leaves it as `x` and goes on to the next word. -/
def Ctx.onward (x : Ctx) (pc : Word) : Ctx := { x with pc := pc + 4 }

/-- A command completes as an instruction of context `c`: after the fetch only that context changes, to `y`. -/
def State.Ends (s : State) (c : Nat) (i : Instr) (y : Ctx) : Prop :=
  ∃ t, exec i s = .next t ∧ (s.fetched c).Becomes t c y

/-- It leaves the context as `y` and goes on to the next word. -/
def State.GoesOn (s : State) (c : Nat) (i : Instr) (y : Ctx) : Prop := s.Ends c i (y.onward (s.ctx c).pc)

/-- It stalls (in RUN) or waits (in WAIT) as Table 3.1 says, and its context is otherwise as it was. -/
def State.Waits (s : State) (c : Nat) (i : Instr) (st : Stall) : Prop :=
  exec i s = .next (((s.fetched c).setCtx c { s.ctx c with stall := st }).setCtxState c (if st.isMem then ctxRun else ctxWait))

/-- It raises a trap at its own address (R112, R114). -/
def State.Traps (s : State) (c : Nat) (i : Instr) (x : Trap) : Prop :=
  exec i s = .next ((s.fetched c).trapEnter c x (s.ctx c).pc).2

/-- It raises a window trap (R116). -/
def State.WindowTraps (s : State) (c : Nat) (i : Instr) (cause : Nat) : Prop :=
  exec i s = .next ((s.fetched c).windowTrap c cause (s.ctx c).pc)

/-- The outcome of an operation at its implementing leaves (R146, R152): requests to other devices, operations handed to
the local leaves, then the next word, `len` bytes on. -/
def unitDone (u : State) (c : Nat) (r : UnitReq) (st : Option (Stamp × Qual)) (e : Handle) (impl : List Word) (rd len : Nat)
    (pc : Word) : State :=
  let t := u.unitGo c (u.localOps (ctxReq c) (u.genOf c) r st impl) ((u.farDevs impl).map fun d => (d, uopArgs r st impl d))
    e.unit rd st.isSome
  t.setCtx c { t.ctx c with pc := pc + BitVec.ofNat 32 len }

end Sys2Proof.Machine
end

