-- ==== Sys2Proof/Certificates/Slice0/Obligations.lean ====
section
/-! DEFINITION. The statements about the model, each from the rules of the spec that OBLIGATIONS.json cites for it. -/

open Sys2Proof Sys2Proof.Machine

/-- A step takes the command at the front of the queue; the queue is the model's (log entry 5). -/
def Obligations.StepRunsFront : Prop :=
  ∀ (s : State) (c : Instr) (rest : List Instr), s.pending = c :: rest → step s = exec c { s with pending := rest }

/-- An empty queue is a nanosecond of time (log entry 5); nothing moves in reset and in STANDBY. -/
def Obligations.EmptyQueueStep : Prop :=
  ∀ s : State, s.pending = [] →
    step s = .next s.tick ∧ ((s.pwr.inReset = true ∨ s.pwr.standby = true) → step s = .next s)

/-- No command stops the block, and none changes the queue. -/
def Obligations.EveryCommandAnswers : Prop :=
  (∀ (i : Instr) (s : State), s.Does i fun t => t.pending = s.pending) ∧ ∀ s : State, ∃ t, step s = .next t

/-- The memory after reset is canonical. -/
def Obligations.ResetMemCanon : Prop := State.reset.MemCanon

/-- Every step keeps the memory canonical. -/
def Obligations.StepKeepsMemCanon : Prop := ∀ s t : State, s.MemCanon → step s = .next t → t.MemCanon

/-- What reset leaves. -/
def Obligations.ResetState : Prop :=
  let s := State.reset
  s.pending = [] ∧ s.mem.bytes = [] ∧ s.stq = [] ∧ s.out = [] ∧ s.ep.part = none ∧ s.fenced = false ∧
  s.mchk = false ∧
  (∀ c : Fin 257, s.ctxState c = ctxStopped ∧ (s.ctx c).wix = 0 ∧ (s.ctx c).resident = 1 ∧ (s.ctx c).stall = .none ∧
    (s.ctx c).stores = [] ∧ ∀ r : Fin 32, (s.ctx c).rget r = 0) ∧
  (∀ i : Fin 256, s.fld (INST_STATE i) INST_STATE_GEN = 0) ∧
  (∀ n : Fin 4096, s.fld (IRQ_TCTL n) IRQ_TCTL_SV = 0 ∧ ∀ j : Fin 8, s.reg (IRQ_TMASK n j) = 0) ∧
  s.fld TWIN_CFG TWIN_CFG_PORT = 3 ∧ s.fld HOST_UART_CFG HOST_UART_CFG_DIV = 53 ∧ s.ang.time = 0

/-- Fetching (R157): no context changes; an intact word changes nothing at all. -/
def Obligations.FetchFrame : Prop :=
  ∀ (s : State) (c : Fin 257),
    (∀ d, (s.fetched c).ctx d = s.ctx d) ∧
    (0x40000 ≤ (s.ctx c).pc.toNat → s.fetched c = s ∧ ¬ s.Ready c) ∧
    ((s.ctx 256).pc.toNat < 0x40000 → (s.ctx 256).pc.toNat % 4 = 0 →
      (∀ j : Fin 4, (s.byteAt (2 ^ 40 + (s.ctx 256).pc.toNat + j)).isSome = true) →
      s.codeErr (2 ^ 40 + (s.ctx 256).pc.toNat) = CodeErr.none' →
      s.fetched 256 = s ∧ (s.fetch 256 (s.ctx 256).pc).1 = none)

/-- R104-R106: G0, the windows and their shared banks, pairs and stamps. -/
def Obligations.RegisterWindows : Prop :=
  ∀ (x : Ctx) (v : Word), x.wix < 16 →
    x.rget 0 = 0 ∧ x.rset 0 v = x ∧
    (∀ r : Fin 32, r ≠ 0 → (x.rset r v).rget r = v ∧ ∀ q : Fin 32, q ≠ r → (x.rset r v).rget q = x.rget q) ∧
    (∀ j : Fin 8, Ctx.rget { x with wix := (x.wix + 1) % 16 } (8 + j) = x.rget (24 + j)) ∧
    (∀ r : Fin 8, ∀ w : Fin 16, Ctx.rget { x with wix := w } r = x.rget r) ∧
    (∀ r : Fin 32, 16 ≤ r.val → r.val < 24 → ∀ w : Fin 16, w.val ≠ x.wix →
      ∀ q : Fin 32, Ctx.rget { x.rset r v with wix := w } q = Ctx.rget { x with wix := w } q) ∧
    (∀ p : Fin 32, p.val % 2 = 0 → p ≠ 0 → ∀ d : BitVec 64,
      (x.pset p d).rget p = d.extractLsb' 0 32 ∧ (x.pset p d).rget (p + 1) = d.extractLsb' 32 32 ∧
      (x.pset p d).pget p = d) ∧
    (∀ p : Fin 32, p.val % 2 = 0 → p ≠ 0 → ∀ a : Stamp,
      (x.setStamp p a).stamp p = a ∧ ((x.setStamp p a).rget (p + 1)).extractLsb' 16 16 = 0)

/-- R7-R22, R440-R442, R605: register writes. -/
def Obligations.RegisterWrites : Prop :=
  ∀ (s : State) (q : Req) (a v : Word),
    let k := a.toNat
    let i := Instr.registerWrite q (.space a) 4 v
    let report := fun (t : State) (l : List Nat) => (∀ b, b ∉ l → t.reg b = s.reg b) ∧ t = { s with regs := t.regs, reply := .done }
    let seen := [SYS_RSVD_SRC, SYS_RSVD_ADDR]
    (∀ n, n ≠ 4 → exec (.registerWrite q (.space a) n v) s = .next (s.answer (.error busRegister))) ∧
    ((k % 4 ≠ 0 ∨ regAddr k = false) → exec i s = .next (s.answer (.error busRegister))) ∧
    (k % 4 = 0 → regAddr k = true → s.wayDead q = true → exec i s = .next (s.answer .done)) ∧
    (k % 4 = 0 → regAddr k = true →
      ((s.access q k true = .mpu ∨ s.access q k true = .locked) → exec i s = .next (s.answer (.error busMpu))) ∧
      (s.access q k true = .wrej → s.Does i fun t => t.bit BOOT_STATUS BOOT_STATUS_WREJ = true ∧
        (∀ f, Field.apart BOOT_STATUS_WREJ f = true → t.fld BOOT_STATUS f = s.fld BOOT_STATUS f) ∧ report t [BOOT_STATUS]) ∧
      (s.access q k true = .ok → (0xF8000000 ≤ k ∨ descOf (s.busKey q k) = none) → s.Does i fun t =>
        t.bit (statusOf (plainAddr k)) rsvdWr = true ∧ report t (statusOf (plainAddr k) :: seen)) ∧
      (s.access q k true = .ok → k < 0xF8000000 → [Block.sys, .ang, .jnl, .tst].contains (blockOf k) = true →
        k ∉ [SYS_CLK_LOST, ANG_CTL, ANG_EPOCH_CTL] → s.busKey q k = k → recordOf k = none → ∀ r, descOf k = some r → r.kind = .plain →
        let fs := r.fields
        let rm := rwsMask fs
        let rejected := hasRws fs && s.armed && (v &&& rm) != (s.shReg k &&& rm)
        (reservedEncoding fs v = true → s.Does i fun t => t.bit (statusOf k) rsvdWr = true ∧ report t (statusOf k :: seen)) ∧
        (reservedEncoding fs v = false → rejected = true → s.Does i fun t =>
          t.bit (statusOf k) stageWr = true ∧ report t (statusOf k :: seen)) ∧
        (reservedEncoding fs v = false → rejected = false → v &&& reservedBits fs = 0 → s.Does i fun t =>
          (∀ f ∈ fs, t.fld k f = match f.acc with
            | .rw => fieldGet f v
            | .w1c => fieldGet f (s.reg k &&& ~~~ v)
            | .w1s => fieldGet f (s.reg k ||| v)
            | _ => s.fld k f) ∧
          (∀ f ∈ fs, f.acc = .rws → t.shFld k f = fieldGet f v) ∧
          (∀ b, b ≠ k → t.reg b = s.reg b ∧ t.shReg b = s.shReg b) ∧
          t = { s with regs := t.regs, staged := t.staged, reply := .done }) ∧
        (reservedEncoding fs v = false → rejected = false → v &&& reservedBits fs ≠ 0 → s.Does i fun t =>
          ∃ u, exec (.registerWrite q (.space a) 4 (v &&& ~~~ reservedBits fs)) s = .next u ∧ t = u.rsvd q k false))) ∧
    (s.access q SYS_RSVD_SRC true = .ok → s.Does (.rsvdCaptureClear q) fun t =>
      t.reg SYS_RSVD_SRC = 0 ∧ report t [SYS_RSVD_SRC])

/-- R45-R50: counters. -/
def Obligations.CounterAccess : Prop :=
  ∀ (s : State) (q : Req) (a v : Word),
    let k := a.toNat
    let h := k + 4
    let c := s.ctr k
    let waits := match tblGet (fun _ => none) s.ctrLoad k with | some l => l.clrOvf | none => false
    let hi := fun (n : Nat) (o : Bool) => Reply.value (o.toNat * 2 ^ 31 + n / 2 ^ 32 % 2 ^ 16)
    (h < 0xF8000000 → k % 4 = 0 → regAddr k = true → regAddr h = true → s.busKey q k = k → s.busKey q h = h →
      kindAt k = .counterLo → kindAt h = .counterHi → isSrcPos k = false → k ≠ ANG_POS_LO →
      (s.access q k false = .ok → s.Does (.counterLoRead q a) fun t =>
        t.reply = .value (c.count.toNat % 2 ^ 32) ∧
        tblGet (fun _ => none) t.ctrShadow (shadowKey q h) = some ⟨c.count.toNat, c.ovf⟩ ∧
        (∀ y, y ≠ shadowKey q h → tblGet (fun _ => none) t.ctrShadow y = tblGet (fun _ => none) s.ctrShadow y) ∧
        t = { s with ctrShadow := t.ctrShadow, reply := t.reply }) ∧
      (s.access q h false = .ok → s.Does (.counterHiRead q (a + 4)) fun t =>
        (t.reply = match tblGet (fun _ => none) s.ctrShadow (shadowKey q h) with
          | some x => hi x.hi x.ovf
          | none => hi c.count.toNat c.ovf) ∧
        tblGet (fun _ => none) t.ctrShadow (shadowKey q h) = none ∧
        (∀ y, y ≠ shadowKey q h → tblGet (fun _ => none) t.ctrShadow y = tblGet (fun _ => none) s.ctrShadow y) ∧
        t = { s with ctrShadow := t.ctrShadow, reply := t.reply }) ∧
      (s.access q k true = .ok → descOf k ≠ none → s.Does (.counterHoldWrite q a v) fun t =>
        t.ctrHeld q k = v.toNat ∧ (∀ y, y ≠ shadowKey q k → tblGet (fun _ => 0) t.ctrHold y = tblGet (fun _ => 0) s.ctrHold y) ∧
        t = { s with ctrHold := t.ctrHold, reply := .done }) ∧
      (s.access q h true = .ok → v &&& 0x7FFF0000 = 0 → s.Does (.counterLoadWrite q (a + 4) v) fun t =>
        tblGet (fun _ => none) t.ctrLoad k = some ⟨s.ctrHeld q k % 2 ^ 32 + v.toNat % 2 ^ 16 * 2 ^ 32, v.getLsbD 31 || waits⟩ ∧
        t.ctrHeld q k = 0 ∧
        (∀ y, y ≠ k → tblGet (fun _ => none) t.ctrLoad y = tblGet (fun _ => none) s.ctrLoad y) ∧
        (∀ y, y ≠ shadowKey q k → tblGet (fun _ => 0) t.ctrHold y = tblGet (fun _ => 0) s.ctrHold y) ∧
        t = { s with ctrHold := t.ctrHold, ctrLoad := t.ctrLoad, reply := .done })) ∧
    (∀ l, tblGet (fun _ => none) s.ctrLoad k = some l → isSrcPos k = false → s.Does (.counterLoadApply a) fun t =>
      tblGet (fun _ => none) t.ctrLoad k = none ∧
      (k ≠ ANG_TIME_LO →
        t.ctr k = ⟨BitVec.ofNat 48 l.value, !l.clrOvf && c.ovf⟩ ∧ (∀ y, y ≠ k → t.ctr y = s.ctr y) ∧
        t = { s with ctrs := t.ctrs, ctrLoad := t.ctrLoad }) ∧
      (k = ANG_TIME_LO →
        t = { s with ctrLoad := t.ctrLoad, ang := { s.ang with time := BitVec.ofNat 64 l.value, timeOvf := !l.clrOvf && s.ang.timeOvf } })) ∧
    (tblGet (fun _ => none) s.ctrLoad k = none →
      (s.inc k).ctr k = ⟨c.count + 1, c.ovf || c.count == BitVec.allOnes 48⟩ ∧
      (∀ y, y ≠ k → (s.inc k).ctr y = s.ctr y) ∧ s.inc k = { s with ctrs := (s.inc k).ctrs })

/-- R417, R423, R583, R590: submissions and management. -/
def Obligations.SubmissionsAndManagement : Prop :=
  ∀ (s : State) (q : Req) (e : Fin 16) (a v : Word),
    let x := s.dma e
    let res := MEM_DMA_RES (reqCode q)
    (s.access q (MEM_DMA_Q e) true = .ok → v &&& 0xFC00001F = 0 → s.Does (.dmaSubmit q e v) fun t =>
      (x.queue.length < 32 →
        (t.dma e).queue = x.queue ++ [⟨0x6000000000 + v.toNat % 2 ^ 26, reqCode q, match q with | .inst i => s.genOf i | _ => 0⟩] ∧
        t.fld res MEM_DMA_RES_RESULT = 1 ∧ (∀ b, b ∉ [res, MEM_DMA_STAT e] → t.reg b = s.reg b)) ∧
      (32 ≤ x.queue.length → t.mem = s.mem ∧ t.fld res MEM_DMA_RES_RESULT = 2 ∧ ∀ b, b ≠ res → t.reg b = s.reg b) ∧
      (∀ f : Fin 16, f ≠ e → t.dma f = s.dma f) ∧ (t.dma e).run = x.run ∧ (t.dma e).fifo = x.fifo ∧
      t = { s with regs := t.regs, reply := .done, mem := { s.mem with dma := t.mem.dma } }) ∧
    (q = .sup → s.Does (.dmaAbort q e) fun t =>
      (t.dma e).run = x.run.map (fun r => { r with abort := true }) ∧ (t.dma e).queue = x.queue ∧
      (∀ f : Fin 16, f ≠ e → t.dma f = s.dma f) ∧ (∀ b, b ≠ MEM_DMA_STAT e → t.reg b = s.reg b) ∧
      t = { s with regs := t.regs, reply := .done, mem := { s.mem with dma := t.mem.dma } }) ∧
    (bootMay q = true → s.access q BOOT_CTL true = .ok → s.Does (.jgo q) fun t =>
      if s.fld BOOT_STATUS BOOT_STATUS_STATE = 1 ∧ 2 ≤ s.fld BOOT_STATUS BOOT_STATUS_MODE then
        t.ctxState ctxSup = ctxRun ∧ (∃ pc, pc.toNat % 4 = 0 ∧ t.ctx ctxSup = { Ctx.reset with pc := pc }) ∧
        t.fld BOOT_STATUS BOOT_STATUS_STATE = 4 ∧ (∀ c : Fin 256, t.ctx c = s.ctx c ∧ t.ctxState c = s.ctxState c) ∧
        (∀ b, b ≠ BOOT_STATUS → t.reg b = s.reg b) ∧ t.mem = s.mem
      else (∀ b, t.reg b = s.reg b) ∧ t = { s with regs := t.regs, reply := .done }) ∧
    (exec (.smbusRegWrite a v) s = exec (.registerWrite .smbus (.space a) 4 v) s) ∧
    (a.toNat % 4 = 0 → regAddr a.toNat = true → s.access .smbus a.toNat true = .smbus → s.Does (.smbusRegWrite a v) fun t =>
      t.bit (statusOf (plainAddr a.toNat)) rsvdWr = true ∧
      (∀ b, b ∉ [statusOf (plainAddr a.toNat), SYS_RSVD_SRC, SYS_RSVD_ADDR] → t.reg b = s.reg b) ∧
      t = { s with regs := t.regs, reply := .done, host := { s.host with smbBad := true } } ∧
      exec (.smbusRegRead a) t = .next ({ t with host := { t.host with smbBad := false } }.answer (.value 0xFFFFFFFF)))

/-- R37, R40, R639-R642, R653-R657: clocks, rails and PFAIL. -/
def Obligations.ClocksRailsAndPfail : Prop :=
  ∀ (s : State) (d : Fin 29) (k : Fin 11) (b : Fin 16),
    let off := s.pwr.inReset || s.pwr.standby
    let good := fun (t : State) (n : Nat) => t.fld PWR_RAIL PWR_RAIL_GOOD / 2 ^ n % 2
    let pfail := fun (t : State) (cause rail : Nat) =>
      t.reg PWR_LASTLOSS = BitVec.ofNat 32 (2 ^ 31 + rail * 256 + cause) ∧ t.bit PWR_STATUS PWR_STATUS_PFL = true ∧
      (s.bit PWR_STATUS PWR_STATUS_PFL = false →
        t.fld PWR_STATUS PWR_STATUS_STATE = 1 ∧ t.fenced = true ∧ (s.fenced = false → t.FencedBy 0x13) ∧
        (∀ n : Fin 512, t.bit (DRV_STATUS n) DRV_STATUS_LATCH = true) ∧ t.bit JNL_STATUS JNL_STATUS_PFAIL = true)
    (s.monitored d = false → exec (.clockLost d) s = .next s) ∧
    (s.monitored d = true → s.Does (.clockLost d) fun t =>
      t.reg SYS_CLK_LOST = s.reg SYS_CLK_LOST ||| BitVec.ofNat 32 (2 ^ d.val) ∧
      t.reg SYS_CLK_LOCK = s.reg SYS_CLK_LOCK &&& ~~~ BitVec.ofNat 32 (2 ^ d.val) ∧
      t.mchk = true ∧ (t.ctx ctxSup).mcause.getLsbD 31 = true ∧ t.mem = s.mem ∧
      (d.val ∈ [0, 1, 14, 23] → t.fenced = true ∧ (s.fenced = false → t.FencedBy 3) ∧
        ∀ n : Fin 512, t.bit (DRV_STATUS n) DRV_STATUS_LATCH = true) ∧
      (d.val ∉ [0, 1, 14, 23] → t.fenced = s.fenced) ∧
      (d.val ∈ [16, 17, 18, 24, 25, 26, 28] → s.RegsBut t [SYS_CLK_LOST, SYS_CLK_LOCK] ∧
        (∀ c, c ≠ ctxSup → t.ctx c = s.ctx c) ∧
        t.tap = (if d = 26 then { s.tap with tck := false } else s.tap) ∧
        t = { s with regs := t.regs, ctxs := t.ctxs, mchk := true, freeIx := s.freeIx + 1, pwr := t.pwr, tap := t.tap }) ∧
      (d.val ≠ 27 → t.halted d = true)) ∧
    s.Does (.clockDomainLocked d) (fun t =>
      t.reg SYS_CLK_LOCK = s.reg SYS_CLK_LOCK ||| BitVec.ofNat 32 (2 ^ d.val) ∧
      t.halted d = false ∧
      (∀ c, (s.ctx c).stall ≠ .apply → t.ctx c = s.ctx c) ∧
      (d.val ∉ [16, 17] ∨ s.epState = 4 → s.RegsBut t [SYS_CLK_LOCK] ∧ t = { s with regs := t.regs, pwr := t.pwr }) ∧
      (d.val ∈ [16, 17] → s.epState ≠ 4 → ∀ c : Fin 257, (s.ctx c).stall = .apply → (t.ctx c).stall = .none)) ∧
    (good s k = 0 → exec (.railFall k) s = .next s) ∧
    (good s k = 1 → s.Does (.railFall k) fun t =>
      (k = 8 → t.pwr.inReset = true ∧ t.mem.bytes = [] ∧ t.ctxs = [] ∧ t.stq = [] ∧ t.reg PWR_LASTLOSS = 0 ∧ t.fenced = false) ∧
      (k ≠ 8 → good t k = 0 ∧ (∀ j : Fin 11, j ≠ k → good t j = good s j)) ∧
      (k.val ≤ 7 → off = false → pfail t 2 k) ∧
      (k ≠ 8 → off = true → t.bit PWR_STATUS PWR_STATUS_PFL = s.bit PWR_STATUS PWR_STATUS_PFL ∧ t.fenced = s.fenced) ∧
      (9 ≤ k.val → off = false → t.bit PWR_STATUS (vahiUv k) = true ∧ t.fenced = s.fenced ∧
        t.bit PWR_STATUS PWR_STATUS_PFL = s.bit PWR_STATUS PWR_STATUS_PFL ∧ t.health.length = s.health.length + 1)) ∧
    s.Does (.railGood k) (fun t => good t k = 1 ∧ (∀ j : Fin 11, j ≠ k → good t j = good s j) ∧
      (9 ≤ k.val → t.bit PWR_STATUS (vahiUv k) = false) ∧
      (k.val < 9 → s.RegsBut t [PWR_RAIL] ∧ t.cells = s.cells) ∧ t = { s with regs := t.regs, cells := t.cells }) ∧
    s.Does (.vioUndervoltage b) (fun t => t.fld PWR_VIO_UV PWR_VIO_UV_UV / 2 ^ b.val % 2 = 1 ∧
      ∀ j : Fin 16, t.fld (PIN_IN b) PIN_IN_LVL / 2 ^ j.val % 2 = 0) ∧
    s.Does (.vioBankGood b) (fun t => t.fld PWR_VIO_UV PWR_VIO_UV_UV / 2 ^ b.val % 2 = 0 ∧
      (∀ j : Fin 16, j ≠ b → t.fld PWR_VIO_UV PWR_VIO_UV_UV / 2 ^ j.val % 2 = s.fld PWR_VIO_UV PWR_VIO_UV_UV / 2 ^ j.val % 2) ∧
      s.RegsBut t [PWR_VIO_UV] ∧ t = { s with regs := t.regs }) ∧
    s.Does .pfailNLow (fun t => t.pwr.pfailN = false ∧ (off = false → pfail t 1 0) ∧
      (off = true → t = { s with pwr := { s.pwr with pfailN := false } })) ∧
    s.Does .alwaysOnOscillatorFail (fun t => (off = false → pfail t 3 0) ∧ (off = true → t = s)) ∧
    s.Does .pfailNRise (fun t => t.pwr.pfailN = true ∧
      ((s.pwr.standby && s.pwr.wakeHeld) = false → t = { s with pwr := { s.pwr with pfailN := true } }) ∧
      ((s.pwr.standby && s.pwr.wakeHeld) = true → t.pwr.standby = false ∧ t.pwr.inReset = true)) ∧
    (s.bit PWR_STATUS PWR_STATUS_PFL = true → s.Does .pfailClockStop fun t =>
      t.reg SYS_CLK_LOCK = s.reg SYS_CLK_LOCK &&& 0xFDFC0000 ∧ s.RegsBut t [SYS_CLK_LOCK] ∧ t = { s with regs := t.regs }) ∧
    (s.bit PWR_STATUS PWR_STATUS_PFL = true → s.pwr.tshut = false → s.pwr.pfailN = true → (∀ j : Fin 9, good s j = 1) →
      s.Does .pfailEnd fun t =>
        t.bit PWR_STATUS PWR_STATUS_PFL = false ∧ t.fld PWR_STATUS PWR_STATUS_STATE = 0 ∧
        t.bit PWR_STATUS PWR_STATUS_PFSEEN = true ∧ t.bit JNL_STATUS JNL_STATUS_PFAIL = false ∧ t.fenced = s.fenced ∧
        t.health.length = s.health.length + 1 ∧ t.mem = s.mem ∧
        (s.pwr.released = true → ∀ j : Fin 16, t.tileState j = (if s.tileState j = 2 then 2 else 3) ∧
          ((3, j.val) ∈ t.pwr.waiting ∨ (3, j.val) ∈ t.pwr.ramping)) ∧
        (s.pwr.released = false → t.boot = Boot.reset))

/-- R587, R641, R647, R648, R661, R688: resets and STANDBY. -/
def Obligations.ResetsAndStandby : Prop :=
  ∀ (s : State) (q : Req) (st : Straps) (n : Fin 256) (v : Word),
    let blocks := [Block.ang, .cxb, .irq, .cel, .celMx, .cvg, .cvgCom, .flt, .drv, .drvCom, .weir, .lgcRg, .lgcCom]
    let anew := fun (t : State) => t.ctxs = [] ∧ t.supState = ctxStopped ∧ t.stq = [] ∧ t.mem.bytes = [] ∧ t.ctrs = [] ∧
      t.cells = [] ∧ t.pulses = [] ∧ t.cxb = Cxb.reset ∧ t.lgc = Lgc.reset ∧ t.leat = { Leat.reset with taken := s.out.length } ∧
      t.boot = Boot.reset ∧ t.tap = State.reset.tap ∧
      t.ep.part = none ∧ t.out = s.out ∧ t.pending = s.pending ∧ (∀ l, (t.nvmLine l).cur = (s.nvmLine l).cur) ∧
      (∀ a, blocks.contains (blockOf a) = true → (∀ u : Fin 512, a ≠ CEL_STATUS u) → t.reg a = resetWord a) ∧
      ∀ u : Fin 512, t.fld (CEL_STATUS u) CEL_STATUS_OUTST = (if t.railGood (9 + u / 256) ∧ t.pwr.inReset = false then 1 else 0)
        ∧ t.bit (CEL_STATUS u) CEL_STATUS_LATCH = false ∧ t.bit (CEL_STATUS u) CEL_STATUS_REL = false
    let awake := fun (t : State) => anew t ∧ t.pwr.standby = false ∧ t.pwr.inReset = true ∧
      t.fld PWR_SBY PWR_SBY_TIMER = s.fld PWR_SBY PWR_SBY_TIMER ∧ t.health = []
    s.Does (.resetNAssert st) (fun t => anew t ∧ t.reg PWR_LASTLOSS = 0x80000006 ∧ t.pwr.inReset = false ∧
      t.fld BOOT_STATUS BOOT_STATUS_MODE = st.mode.toNat ∧ t.bit LEAT_CFG LEAT_CFG_HWSEL = st.hwsel ∧
      t.bit TWIN_CFG TWIN_CFG_POS = st.posB) ∧
    (bootMay q = true → s.access q BOOT_CTL true = .ok → s.Does (.bootRst q) fun t =>
      anew t ∧ t.reg PWR_LASTLOSS = 0x80000007 ∧ t.pwr.inReset = false ∧
      t.fld BOOT_STATUS BOOT_STATUS_MODE = s.fld BOOT_STATUS BOOT_STATUS_MODE) ∧
    s.Does (.powerOnRelease st) (fun t =>
      if (s.pwr.inReset || s.bit PWR_STATUS PWR_STATUS_PFL) ∧ (∀ k : Fin 9, s.railGood k = true) ∧
        (st.ahi = true → s.railGood 9 = true ∧ s.railGood 10 = true) ∧ s.pwr.pfailN = true ∧ s.coolEnough = true
      then anew t ∧ t.pwr.inReset = false ∧ t.fld BOOT_STATUS BOOT_STATUS_MODE = st.mode.toNat else t = s) ∧
    (q = .sup ∨ q = .host → s.access q PWR_SBY true = .ok → fieldGet PWR_SBY_KEY v = 0x5B → v &&& 0x00F00000 = 0 → s.Does (.enterStandby q v) fun t =>
      let refused := fun r => t.fld PWR_SBY_STAT PWR_SBY_STAT_RESULT = r ∧ s.RegsBut t [PWR_SBY, PWR_SBY_STAT] ∧
        t = { s with regs := t.regs, irq := (s.occur 0x814).irq, reply := .done }
      if (s.mstate = mMember ∨ s.mstate = mLeaving) ∧ s.fenced = false then refused 1
      else if s.bit PWR_STATUS PWR_STATUS_PFL then refused 2
      else t.pwr.standby = true ∧ t.fld PWR_STATUS PWR_STATUS_STATE = 2 ∧ t.reg PWR_LASTLOSS = 0x80000005 ∧
        (∀ u : Fin 512, t.bit (CEL_STATUS u) CEL_STATUS_REL = false) ∧
        (∀ e : Fin 2, t.bit (CVG_REF e) CVG_REF_EN_A = false ∧ t.bit (CVG_REF e) CVG_REF_RDY_A = false ∧
          t.bit (CVG_REF e) CVG_REF_EN_B = false ∧ t.bit (CVG_REF e) CVG_REF_RDY_B = false) ∧
        (∀ w ∈ t.mem.nvmQ, s.nvmFront 0 = some w ∨ s.nvmFront 1 = some w) ∧ t.mem.bytes = s.mem.bytes) ∧
    (s.pwr.standby = true → s.fld PWR_SBY PWR_SBY_TIMER ≠ 0 → s.Does .standbyTimerWake fun t =>
      (s.pwr.pfailN = true → awake t) ∧
      (s.pwr.pfailN = false → t = { s with pwr := { s.pwr with wakeHeld := true } })) ∧
    (s.pwr.standby = true → s.bit (PIN_CFG n) PIN_CFG_WAKE = true → s.Does (.wakePin n) fun t =>
      (s.pwr.pfailN = true → awake t) ∧ (s.pwr.pfailN = false → t.pwr.wakeHeld = true ∧ t.pwr.standby = true) ∧
      t.bit PIN_WAKE PIN_WAKE_VALID = true ∧
      t.fld PIN_WAKE PIN_WAKE_PIN = if s.bit PIN_WAKE PIN_WAKE_VALID then s.fld PIN_WAKE PIN_WAKE_PIN else n.val) ∧
    (s.pwr.tshut = true → s.Does .tshutReset fun t => anew t ∧ t.pwr.inReset = true ∧
      ∀ k : Fin 12, t.reg (PWR_TEMP k) = s.reg (PWR_TEMP k)) ∧
    (∀ (ir : TapIr) (scan : List (Fin 791 × Bool)),
      let act := if s.debugLock ∧ (ir = .extest ∨ ir = .highz ∨ ir = .debug) then TapIr.bypass else ir
      let loads := act = .sample ∨ act = .extest
      s.Does (.jtagExtest ir scan) fun t =>
        t.tap.ir = act ∧ t.tap.tck = true ∧
        (act = .idcode → t.reply = .value 0x1512074D) ∧ (act = .bypass ∨ act = .highz → t.reply = .value 0) ∧
        (loads → ∃ v, t.reply = .value v ∧ ∀ b : Fin 256, v / 2 ^ b.val % 2 = (s.pinIn b).toNat) ∧
        (loads → (scan.map (·.1)).Nodup → ∀ b : Fin 791, tblGet (fun _ => false) t.tap.scan b =
          match scan.find? (fun x => x.1 == b) with | some x => x.2 | none => tblGet (fun _ => false) s.tap.scan b) ∧
        (¬loads → t.tap.scan = s.tap.scan) ∧
        (act ≠ .extest → act ≠ .highz → t = { s with tap := t.tap, reply := t.reply, freeIx := t.freeIx }) ∧
        (act = .extest ∨ act = .highz → s.fenced = false → t.FencedBy 0x14) ∧
        (act = .extest ∨ act = .highz → s.fenced = true → t.bit ANG_FENCE ANG_FENCE_MORE = true ∧
          t.fld ANG_FENCE ANG_FENCE_CAUSE = s.fld ANG_FENCE ANG_FENCE_CAUSE ∧ s.RegsBut t [ANG_FENCE] ∧
          t = { s with regs := t.regs, tap := t.tap, reply := t.reply, freeIx := t.freeIx }))

/-- R643-R652, R658-R661: tiles, wakes, temperatures. -/
def Obligations.TilesWakeAndTemperature : Prop :=
  ∀ (s : State) (q : Req) (b : Fin 16) (v : Word) (l : List (BitVec 16)),
    let pfl := s.bit PWR_STATUS PWR_STATUS_PFL
    let result := fun (t : State) (r : Nat) => t.fld PWR_TILE_STAT PWR_TILE_STAT_RESULT = r ∧ t.irq = (s.occur 0x814).irq ∧
      s.RegsBut t [PWR_TILE_STAT] ∧ t = { s with regs := t.regs, irq := t.irq, reply := .done }
    (s.access q PWR_TILE_CMD true = .ok →
      (pfl = true → s.Does (.pwrTileIdle q b) (result · 4) ∧ s.Does (.pwrTileRun q b) (result · 4) ∧
        s.Does (.pwrTileStandby q b) (result · 4)) ∧
      (pfl = false →
        s.Does (.pwrTileIdle q b) (fun t =>
          if s.tileState b = 1 then result t 0 else if s.tileState b ≠ 0 then result t 3
          else if s.tileQuiet b = false then result t 2
          else t.tileState b = 1 ∧ (∀ c : Fin 16, c ≠ b → t.tileState c = s.tileState c) ∧
            t.fld PWR_TILE_STAT PWR_TILE_STAT_RESULT = 0 ∧
            (∀ a, a ∉ [PWR_TILE_STAT, PWR_TILE_STATE] → (∀ u : Fin 512, a ≠ CEL_STATUS u) → t.reg a = s.reg a) ∧
            t = { s with regs := t.regs, cells := t.cells, irq := t.irq, reply := .done }) ∧
        s.Does (.pwrTileRun q b) (fun t =>
          if s.tileState b = 0 then result t 0
          else t.tileState b = 3 ∧ t.fld PWR_TILE_STAT PWR_TILE_STAT_RESULT = 1 ∧ t.bit PWR_TILE_STAT PWR_TILE_STAT_PEND = true ∧
            (∀ c : Fin 16, c ≠ b → t.tileState c = s.tileState c) ∧ b.val ∈ t.pwr.cmds ∧ t.mem = s.mem ∧ t.ctxs = s.ctxs ∧
            (s.tileState b = 1 → (3, b.val) ∈ t.pwr.waiting ∨ (3, b.val) ∈ t.pwr.ramping) ∧
            (s.tileState b = 2 → (2, b.val) ∈ t.pwr.waiting ∨ (2, b.val) ∈ t.pwr.ramping)) ∧
        s.Does (.pwrTileStandby q b) (fun t =>
          if s.fld LEAT_TRET_STAT LEAT_TRET_STAT_RETIRED / 2 ^ b.val % 2 = 0 then result t 3
          else if s.tileState b = 2 then result t 0 else if s.tileState b = 3 then result t 3
          else if s.tileQuiet b = false then result t 2
          else t.tileState b = 2 ∧ t.fld PWR_TILE_STAT PWR_TILE_STAT_RESULT = 0 ∧
            (∀ i : Fin 16, t.ctxState (16 * b + i) = ctxStopped ∧ t.ctx (16 * b + i) = Ctx.reset) ∧
            (∀ c ∈ t.mem.bytes, c ∈ s.mem.bytes ∧ ¬ (0x6000000000 + b * 0x400000 ≤ c.1 ∧ c.1 < 0x6000000000 + (b + 1) * 0x400000)) ∧
            (∀ c ∈ s.mem.bytes, c.1 < 0x6000000000 → c ∈ t.mem.bytes)))) ∧
    s.Does .wakeItemStart (fun t => match s.pwr.waiting with
      | [] => t = s
      | x :: r => if pfl = true ∨ s.wakeFits x.1 = false then t = s
        else t.pwr = { s.pwr with waiting := r, ramping := s.pwr.ramping ++ [x] } ∧
          t.fld PWR_WAKE_STAT PWR_WAKE_STAT_BUSY = 1 ∧ t.bit PWR_STATUS PWR_STATUS_WQ = true ∧
          s.RegsBut t [PWR_WAKE_STAT, PWR_STATUS] ∧ t = { s with regs := t.regs, pwr := t.pwr }) ∧
    (∀ rank : Fin 7, s.pwr.ramping.contains (rank.val, b.val) = true → s.pwr.held = [] → s.leat.uops = [] →
      s.boot.startDue = none → s.Does (.wakeItemEnd rank b) fun t =>
        t.pwr.ramping = s.pwr.ramping.filter (· != (rank.val, b.val)) ∧ t.pwr.waiting = s.pwr.waiting ∧ t.mem = s.mem ∧
        (rank ≠ 2 → rank ≠ 3 → t = { s with regs := t.regs, irq := t.irq, pwr := t.pwr }) ∧
        (rank = 2 ∨ rank = 3 → s.tileState b = 3 →
          (∀ x ∈ t.pwr.waiting ++ t.pwr.ramping, x ≠ (2, b.val) ∧ x ≠ (3, b.val)) → t.tileState b = 0)) ∧
    (∀ d : Fin 2, s.access q (CVG_REF d) true = .ok → v &&& reservedBits (fieldsAt (CVG_REF d)) = 0 →
      reservedEncoding (fieldsAt (CVG_REF d)) v = false → s.Does (.cvgRefWrite q d v) fun t =>
        t.bit (CVG_REF d) CVG_REF_EN_A = (fieldGet CVG_REF_EN_A v != 0) ∧
        t.bit (CVG_REF d) CVG_REF_EN_B = (fieldGet CVG_REF_EN_B v != 0) ∧
        (s.bit (CVG_REF d) CVG_REF_EN_A = false → fieldGet CVG_REF_EN_A v = 1 →
          (1, 2 * d.val) ∈ t.pwr.waiting ∨ (1, 2 * d.val) ∈ t.pwr.ramping) ∧
        (s.bit (CVG_REF d) CVG_REF_EN_B = false → fieldGet CVG_REF_EN_B v = 1 →
          (1, 2 * d.val + 1) ∈ t.pwr.waiting ∨ (1, 2 * d.val + 1) ∈ t.pwr.ramping) ∧
        (s.bit (CVG_REF d) CVG_REF_EN_A = true → fieldGet CVG_REF_EN_A v = 0 → t.bit (CVG_REF d) CVG_REF_RDY_A = false) ∧
        t.mem = s.mem ∧ t.ctxs = s.ctxs) ∧
    (l.length = 12 → (s.pwr.inReset || s.pwr.standby) = false → s.Does (.tempReading l) fun t =>
      (∀ k : Fin 12, t.reg (PWR_TEMP k) = BitVec.ofNat 32 (2 ^ 31 + (l.getD k 0).toNat)) ∧
      ∃ h : Int, (∃ k : Fin 12, (l.getD k 0).toInt = h) ∧ (∀ k : Fin 12, (l.getD k 0).toInt ≤ h) ∧
        let warn : Int := 8 * s.fld PWR_TLIM PWR_TLIM_TWARN
        let hot : Int := 8 * s.fld PWR_TLIM PWR_TLIM_THOT
        sext 16 (t.fld PWR_TMAX PWR_TMAX_MAX) =
          (if s.pwr.tmaxNew then h else max (sext 16 (s.fld PWR_TMAX PWR_TMAX_MAX)) h) ∧
        t.bit PWR_STATUS PWR_STATUS_TWARN =
          (decide (warn ≤ h) || (decide (warn - 16 < h) && s.bit PWR_STATUS PWR_STATUS_TWARN)) ∧
        t.bit PWR_STATUS PWR_STATUS_THOT = decide (hot ≤ h) ∧
        (hot ≤ h → s.pwr.hot = false → s.fenced = false → h < 1000 → t.FencedBy 0x12) ∧
        (1000 ≤ h → s.pwr.tshut = false → t.bit PWR_STATUS PWR_STATUS_PFL = true ∧ t.pwr.tshut = true ∧
          t.reg PWR_LASTLOSS = 0x80000004) ∧
        (h < warn → h < hot - 16 → h < 1000 → t.fenced = s.fenced ∧ t.ctxs = s.ctxs ∧ t.mem = s.mem)) ∧
    (s.access q PWR_TMAX false = .ok → s.Does (.pwrTmaxRead q) fun t =>
      t.reply = .value (s.reg PWR_TMAX &&& ~~~ reservedBits (fieldsAt PWR_TMAX)).toNat ∧ t.pwr.tmaxNew = true ∧
      t = { s with regs := t.regs, reply := t.reply, pwr := { s.pwr with tmaxNew := true } })

/-- R58-R76, R702, Table 2.5: measurements of the angle sources. -/
def Obligations.AngleSources : Prop :=
  ∀ (s : State) (src : Fin 4) (age : Nat) (raw : Word) (hi lo : Bool),
    let n := src.val
    let x := s.src n
    let stat := ANG_SRC_STAT n
    let errMax := s.fld (ANG_SRC_LOOP n) ANG_SRC_LOOP_ERR_MAX
    let epc := s.fld (ANG_SRC_EPC n) ANG_SRC_EPC_EPC
    let sign := s.srcSign n
    let own := fun (t : State) => (∀ m, m ≠ n → t.src m = s.src m) ∧ t.mem = s.mem
    let lost := fun (t : State) (cause : Nat) => own t ∧ (s.bit stat ANG_SRC_STAT_LOST = false →
      t.bit stat ANG_SRC_STAT_LOST = true ∧ t.bit stat ANG_SRC_STAT_LOCKED = false ∧ t.fld stat ANG_SRC_STAT_CAUSE = cause ∧
      tblGet (fun _ => false) t.irq.occ 0x7B1 = true)
    let failed := fun (t : State) (y : AngSrc) =>
      if errMax ≤ y.errs + 1 then lost t 2 else own t ∧ t.src n = { y with good := 0, errs := y.errs + 1 }
    let taken := fun (t : State) (pos : Int) => own t ∧ (t.src n).pos = pos ∧ (t.src n).tLast = some age ∧ (t.src n).base = x.base
    let filt := 8 * s.fld (ANG_SRC_CFG n) ANG_SRC_CFG_FILT
    (s.srcTakes n 1 = false ∨ age < filt → ∀ e, exec (.quadEdge src e age) s = .next s) ∧
    (s.srcTakes n 1 = false → (∀ e, exec (.quadEdge src e age) s = .next s) ∧ exec (.indexPulse src age) s = .next s ∧
      exec (.indexTimeout src) s = .next s) ∧
    (s.srcTakes n 2 = false → exec (.ssiFrame src hi lo raw age) s = .next s) ∧
    (s.srcTakes n 3 = false → exec (.sincosSample src) s = .next s) ∧
    (s.srcTakes n 4 = false → exec (.mainsZeroCrossing src age) s = .next s) ∧
    (s.srcTakes n 1 = true →
      (filt ≤ age → s.Does (.quadEdge src .up age) (taken · (x.pos + sign)) ∧
        s.Does (.quadEdge src .down age) (taken · (x.pos - sign))) ∧
      (filt ≤ age → s.Does (.quadEdge src .illegal age) fun t =>
        t.ctr (ANG_SRC_ILL_LO n) = (s.inc (ANG_SRC_ILL_LO n)).ctr (ANG_SRC_ILL_LO n) ∧ t.bit stat ANG_SRC_STAT_ILL = true ∧
        (t.src n).pos = x.pos ∧
        if errMax < x.ill + 1 then lost t 3 else own t ∧ t.src n = { x with ill := x.ill + 1 }) ∧
      (s.fld (ANG_SRC_IDX n) ANG_SRC_IDX_ZDIV ≠ 0 →
        let now := moved x.loop.vis (- (x.loop.omega * age / 8))
        let m := s.marked n now
        let th := s.fld (ANG_SRC_IDX n) ANG_SRC_IDX_ZERR_TH
        let far := th * 2 ^ 48 < (gap now m).natAbs * epc
        let bad := x.indexed = true ∧ far ∧ th ≠ 0
        s.Does (.indexPulse src age) (fun t => own t ∧
          (x.indexed = true → far → t.bit stat ANG_SRC_STAT_ZERR = true) ∧
          (bad → failed t { x with indexAt := some now } ∧ (t.src n).base = x.base) ∧
          (¬ bad → (t.src n).base = x.base + gap now m ∧ (t.src n).pos = x.pos) ∧
          (¬ bad → far → (t.src n).indexed = true ∧ (t.src n).indexAt = some m)) ∧
        (∀ a, x.indexAt = some a →
          let late := 3 * 2 ^ 48 ≤ (gap a x.loop.vis).natAbs * 2 * s.fld (ANG_SRC_IDX n) ANG_SRC_IDX_ZDIV
          (late → s.Does (.indexTimeout src) (lost · 4)) ∧ (¬ late → exec (.indexTimeout src) s = .next s)) ∧
        (x.indexAt = none → exec (.indexTimeout src) s = .next s))) ∧
    (s.srcTakes n 2 = true →
      let bits := s.fld (ANG_SRC_SSI n) ANG_SRC_SSI_BITS
      let v := raw.toNat % 2 ^ bits
      let p := (if s.bit (ANG_SRC_SSI n) ANG_SRC_SSI_GRAY then fromGray v bits else v) % epc
      ((hi && lo) = false → s.Does (.ssiFrame src hi lo raw age) (failed · x)) ∧
      (∀ o, x.lastFrame = some o →
        let d : Int := ((p + epc - o) % epc : Nat)
        let st := if 2 * d ≤ epc then d else d - epc
        s.Does (.ssiFrame src true true raw age) fun t => (t.src n).lastFrame = some p ∧ (t.src n).pos = x.pos + sign * st ∧
          (epc < st.natAbs * 16 → failed t { x with lastFrame := some p, pos := x.pos + sign * st }) ∧
          (st.natAbs * 16 ≤ epc → taken t (x.pos + sign * st)))) ∧
    (s.srcTakes n 3 = true → ∀ u v, s.takeArrived (1376 + 2 * n) = some u → s.takeArrived (1377 + 2 * n) = some v →
      s.Does (.sincosSample src) fun t => own t ∧
        (∀ w w', u.1.stampOf = some w → v.1.stampOf = some w' → s.amplitude n = 0 → (t.src n).lastFrame =
          some (phaseOf (sampleOf u.1.word) (sampleOf v.1.word))) ∧
        (u.1.stampOf = none → failed t x)) ∧
    (s.srcTakes n 4 = true →
      let ws := tblGet (fun _ => []) s.cxb.arrived (1376 + 2 * n)
      let vs := ws.map fun w => sampleOf w.word
      let amp := vs.foldl (fun m v => max m v.natAbs) 0
      (amp = 0 ∨ crossing amp false vs = none → exec (.mainsZeroCrossing src age) s = .next s) ∧
      ∀ k w, amp ≠ 0 → crossing amp false vs = some k → ws[k - 1]? = some w → s.Does (.mainsZeroCrossing src age) fun t =>
        (t.src n).pos = x.pos + sign ∧ own t ∧ tblGet (fun _ => []) t.cxb.arrived (1376 + 2 * n) = ws.drop k ∧
        (t.src n).tLast = some (match w.stampOf with | some a => 8 * (s.timeStamp - a).toNat | none => age)) ∧
    let waits := s.fld (ANG_SRC_LOOP n) ANG_SRC_LOOP_MISS * x.interval ≤ x.tLast.getD 0 ∧ x.interval ≠ 0
    (x.on = false ∨ ¬waits ∨ x.loop.regime = .still ∨ s.bit stat ANG_SRC_STAT_LOST = true →
      exec (.measurementTimeout src) s = .next s) ∧
    (x.on = true → waits → x.loop.regime ≠ .still → s.bit stat ANG_SRC_STAT_LOST = false → s.Does (.measurementTimeout src) fun t =>
      if x.loop.omega.natAbs ≤ s.fld (ANG_SRC_STILL n) ANG_SRC_STILL_V_STILL then
        own t ∧ t.bit stat ANG_SRC_STAT_STILL = true ∧ (t.src n).loop.omega = 0 ∧ (t.src n).loop.vis = x.loop.vis ∧
        t.bit stat ANG_SRC_STAT_LOST = s.bit stat ANG_SRC_STAT_LOST
      else lost t 1) ∧
    s.Does .coastExpired (fun t => if s.coasting ∧ s.ang.coastCycles = 0 then
        t.fenced = true ∧ (s.fenced = false → t.FencedBy 2) else t = s) ∧
    (x.on = true → s.fld ANG_CTL ANG_CTL_OUT_PERIOD ≠ 0 → exec (.angleOutputEmit src) s = .next (s.offer (1384 + n)
      (CWord.mk' (BitVec.ofInt 24 (x.loop.omega / 256) ++ (0 : BitVec 8)) (some (x.loop.vis.extractLsb' 16 48)) 0)))

/-- R87, R88, R95, R96: requests for epochs. -/
def Obligations.EpochRequests : Prop :=
  ∀ (s : State) (q : Req) (rx : Rx) (dev : Fin 512) (e : Stamp) (cancel ignored : Bool) (st : Byte),
    let stat := ANG_EPOCH_STAT
    let ahead := (e - s.angle).toNat
    let quiet := fun (t : State) => t.ep = s.ep ∧ t.staged = s.staged ∧ t.mem = s.mem ∧ t.ctxs = s.ctxs
    let before := s.epState = 0 ∨ s.epState = 5
    let refusal :=
      if s.epBusy then some 0x10 else if Stamp.beyond e s.angle then some 0x12
      else if ahead < s.fld ANG_EPOCH_LEAD ANG_EPOCH_LEAD_LEAD ∨ 2 ^ 47 ≤ ahead then some 0x11
      else if s.inFullIdle e = false then some 0x13 else none
    (s.access q ANG_EPOCH_CTL true = .ok → s.isHead = false → s.pwr.standby = false → s.twinStandby = false →
      s.Does (.epochArmRequest q) (fun t =>
        t.out = s.out ++ [.leat .epoReq s.headIdx [s.epStamp.toNat, s.dev, 0]] ∧
        t.fld stat ANG_EPOCH_STAT_STATE = (if before then 1 else s.epState) ∧ quiet t) ∧
      s.Does (.epochCancelRequest q) (fun t =>
        t.out = s.out ++ [.leat .epoReq s.headIdx [s.epStamp.toNat, s.dev, 1]] ∧
        t.fld stat ANG_EPOCH_STAT_STATE = s.epState ∧ quiet t)) ∧
    (rx.ok = true → s.isHead = true → dev.val ≠ s.dev → s.pwr.standby = false → s.twinStandby = false →
      (∀ c, refusal = some c → s.Does (.epoReq rx dev e false) fun t =>
        t.out = s.out ++ [.leat .epoRes dev [(s.gen + 1).toNat, c]] ∧ s.RegsBut t [] ∧ quiet t) ∧
      (refusal = none → s.Does (.epoReq rx dev e false) fun t => ∃ h, t.ep.head = some h ∧
        h.n = s.gen + 1 ∧ h.e = e ∧ h.requester = dev.val ∧ t.reg ANG_CFG_GEN = s.reg ANG_CFG_GEN ∧
        (h.decided = none → t.ep.part.isSome = true ∧ h.armed = [s.dev])) ∧
      (∀ h, s.ep.head = some h → h.requester = dev.val → h.decided = none → s.Does (.epoReq rx dev e true) fun t =>
        t.ep.part = none ∧ (∃ h', t.ep.head = some h' ∧ h'.decided = some (false, 0x02))) ∧
      ((∀ h, s.ep.head = some h → h.requester ≠ dev.val ∨ h.decided.isSome = true) → s.Does (.epoReq rx dev e true) fun t =>
        t.out = s.out ++ [.leat .epoRes dev [0, 0, 1]] ∧ s.RegsBut t [] ∧ quiet t)) ∧
    (rx.ok = true → s.isHead = false → s.Does (.epoReq rx dev e cancel) fun t => s.RegsBut t [] ∧ quiet t ∧ t.out = s.out) ∧
    (rx.ok = true → s.Does (.epoRes rx st ignored) fun t => t.ep = s.ep ∧ t.staged = s.staged) ∧
    (rx.ok = true → s.Does (.epoRes rx st true) fun t => t.bit stat ANG_EPOCH_STAT_CMDREJ = true ∧ s.RegsBut t [stat] ∧ quiet t) ∧
    (rx.ok = true → s.Does (.epoRes rx st false) fun t => t.fld stat ANG_EPOCH_STAT_RESULT = st.toNat ∧
      t.epState = (if s.epState = 1 then (if s.fenced ∧ s.fld ANG_FENCE ANG_FENCE_CAUSE = 1 then 5 else 0) else s.epState) ∧
      (t.ctx ctxSup).stall ≠ .arm) ∧
    (s.access q ANG_EPOCH_CTL true = .ok →
      (s.outputsReleased = true → s.Does (.epochApplyNow q) fun t =>
        t.fld stat ANG_EPOCH_STAT_RESULT = 0x16 ∧ s.RegsBut t [stat] ∧ quiet t) ∧
      (s.outputsReleased = false → 1 ≤ s.epState → s.epState ≤ 4 → s.Does (.epochApplyNow q) fun t =>
        t.fld stat ANG_EPOCH_STAT_RESULT = 0x10 ∧ s.RegsBut t [stat] ∧ quiet t) ∧
      (s.outputsReleased = false → s.epState = 0 → s.stageOk.1 = true → s.Does (.epochApplyNow q) fun t =>
        t.fld stat ANG_EPOCH_STAT_RESULT = 0 ∧ t.staged = [] ∧ t.cmpdStaged = [] ∧ t.reg ANG_CFG_GEN = s.reg ANG_CFG_GEN + 1))

/-- R89-R92: arming and decision. -/
def Obligations.EpochArmingAndDecision : Prop :=
  ∀ (s : State) (rx : Rx) (n : Word) (e : Stamp) (l : EpochLists) (dev : Fin 512) (st : Byte) (joined : List (Fin 512)),
    let stat := ANG_EPOCH_STAT
    (rx.ok = true → s.isHead = false → s.ep.part = none → s.twinStandby = false → s.pwr.standby = false →
      s.mstate = mMember → (l.leave.any fun d => d.val == s.dev) = false →
      let refused := fun (t : State) (c : Nat) => t.ep.part = none ∧ t.staged = s.staged ∧
        t.out = s.out ++ [.leat .epoReply s.headIdx [n.toNat, s.dev, 0, c]] ∧ t.mem = s.mem
      (s.reg ANG_CFG_GEN + 1 ≠ n → s.Does (.epoArm rx n e l) (refused · 0x15)) ∧
      (s.reg ANG_CFG_GEN + 1 = n → s.inFullIdle e = false → s.Does (.epoArm rx n e l) (refused · 0x13)) ∧
      (s.reg ANG_CFG_GEN + 1 = n → s.inFullIdle e = true → s.stageOk.1 = false → s.Does (.epoArm rx n e l) (refused · 0x14)) ∧
      (s.reg ANG_CFG_GEN + 1 = n → s.inFullIdle e = true → s.stageOk.1 = true → s.Does (.epoArm rx n e l) fun t =>
        t.ep.part = some ⟨n, e, false, 0⟩ ∧ t.epState = 2 ∧ t.armed = true ∧ t.staged = s.staged ∧
        t.out = s.out ++ [.leat .epoReply s.headIdx [n.toNat, s.dev, 1, 0]] ∧
        ((s.ctx ctxSup).holdReq = none → s.RegsBut t [stat]))) ∧
    (rx.ok = true → ∀ h, s.ep.head = some h → h.n = n → h.decided = none → h.parts.contains dev.val = true →
      s.Does (.epoReply rx dev n true st) (fun t =>
        t.ep.head = some { h with armed := if h.armed.contains dev.val then h.armed else h.armed ++ [dev.val] } ∧
        t.ep.part = s.ep.part ∧ s.RegsBut t [] ∧ t.staged = s.staged) ∧
      s.Does (.epoReply rx dev n false st) (fun t => t.ep.part = none ∧
        t.reg ANG_EPOCH_MISS = BitVec.ofNat 32 (2 ^ 31 + dev.val) ∧
        (∃ h', t.ep.head = some h' ∧ h'.decided = some (false, st.toNat)))) ∧
    (∀ h, s.ep.head = some h → h.decided = none →
      (s.leadReached h.e = false → exec .epochDecide s = .next s) ∧
      (s.leadReached h.e = true → s.Does .epochDecide fun t => ∃ h', t.ep.head = some h' ∧
        (h'.decided = if (∀ d ∈ h.parts, d ∈ h.armed) then (if s.coasting then some (false, 0x03) else some (true, 0))
          else some (false, 0x01)) ∧
        ((∀ d ∈ h.parts, d ∈ h.armed) → s.coasting = false → t.ep.part = s.ep.part.map (fun p => { p with commit := true }) ∧
          t.staged = s.staged) ∧
        (¬ ((∀ d ∈ h.parts, d ∈ h.armed) ∧ s.coasting = false) → t.ep.part = none))) ∧
    (∀ h, s.ep.head = some h → h.decided.isSome = true → h.copies ≠ 0 → s.pwr.standby = false → s.twinStandby = false →
      s.Does .epoDecResend fun t => t.ep.head = some { h with copies := h.copies - 1 } ∧
        t.out.length = s.out.length + 1 ∧ t = { s with ep := t.ep, out := t.out }) ∧
    (rx.ok = true → s.isHead = false → ∀ p, s.ep.part = some p → p.n = n → p.commit = false →
      s.Does (.epoDec rx n true st joined) (fun t => t.epState = 3 ∧ t.staged = s.staged ∧
        ((s.ctx ctxSup).holdReq = none → s.RegsBut t [stat]) ∧
        ∃ p', t.ep.part = some p' ∧ p'.commit = true ∧ p'.n = n ∧ p'.e = p.e) ∧
      s.Does (.epoDec rx n false st joined) (fun t => t.ep.part = none ∧ t.staged = [] ∧ t.cmpdStaged = [] ∧
        t.fld stat ANG_EPOCH_STAT_RESULT = st.toNat ∧ t.armed = false)) ∧
    (rx.ok = true → s.isHead = false → s.ep.part = none → s.ep.refused = some n → s.Does (.epoDec rx n false st joined) fun t =>
      t.ep.part = none ∧ t.ep.refused = none ∧ t.staged = [] ∧ t.cmpdStaged = [] ∧ t.fld stat ANG_EPOCH_STAT_RESULT = st.toNat) ∧
    (rx.ok = true → (∀ p, s.ep.part = some p → p.n ≠ n ∨ p.commit = true) →
      ∀ c : Bool, (s.ep.part.isSome ∨ s.isHead ∨ c ∨ s.ep.refused ≠ some n) → s.Does (.epoDec rx n c st joined) fun t =>
      t.ep = s.ep ∧ t.staged = s.staged ∧ s.RegsBut t [] ∧ t.out = s.out)

/-- R78-R83, R93, R94, R703: application, release, windows. -/
def Obligations.EpochApplicationAndWindows : Prop :=
  ∀ (s : State) (w : Fin 16),
    let stat := ANG_EPOCH_STAT
    (∀ p, s.ep.part = some p →
      ((p.commit = false ∨ s.epState = 4 ∨ Stamp.reachedBy p.e s.ang.hwm = false) → exec .epochApply s = .next s) ∧
      (p.commit = true → s.epState ≠ 4 → Stamp.reachedBy p.e s.ang.hwm = true → s.Does .epochApply fun t =>
        t.staged = [] ∧ t.cmpdStaged = [] ∧ t.epState = 4 ∧ t.ep.part = some p ∧ t.mem.bytes = s.mem.bytes ∧
        ((s.staged.map (·.1)).Nodup → ∀ a v, (a, v) ∈ s.staged → a ≠ ANG_FENCE →
          t.reg a &&& rwsMask (fieldsAt a) = v &&& rwsMask (fieldsAt a))) ∧
      (s.epState = 4 → s.leat.uops = [] → s.leat.tret = none → (s.twinPrimary && s.twin.feeding == some 2) = false →
        s.Does .epochApplyComplete fun t =>
          t.reg ANG_CFG_GEN = p.n ∧ t.ep.part = none ∧ t.epState = 0 ∧ t.fld stat ANG_EPOCH_STAT_RESULT = 0 ∧
          t.mem.bytes = s.mem.bytes ∧ (p.role = 0 → t.stq = s.stq)) ∧
      (p.commit = false → p.role = 0 → Stamp.reachedBy p.e s.ang.hwm = true → s.twinStandby = false →
        s.Does .epochNoDecision fun t => t.ep.part = none ∧ t.fenced = true ∧ (s.fenced = false → t.FencedBy 1) ∧
          t.fld stat ANG_EPOCH_STAT_RESULT = 0x20 ∧ t.epState = 5 ∧ t.staged = s.staged)) ∧
    (s.ep.part = none → exec .epochApply s = .next s ∧ exec .epochApplyComplete s = .next s ∧ exec .epochNoDecision s = .next s) ∧
    (s.leat.uops = [] → (s.epState = 4 ∨ ∀ o ∈ s.stq, s.releasable o = false) → exec .eventRelease s = .next s) ∧
    (s.leat.uops = [] → s.epState ≠ 4 → ∀ l o r, s.stq = l ++ o :: r → (∀ x ∈ l, s.releasable x = false) →
      s.releasable o = true → o.kind = kindWait → o.op = .until → s.Does .eventRelease fun t => t.stq = l ++ r ∧
        t = { s with stq := t.stq, ctxs := t.ctxs, regs := t.regs, supState := t.supState }) ∧
    (s.leat.uops = [] → s.epState ≠ 4 → ∀ l o r, s.stq = l ++ o :: r → (∀ x ∈ l, s.releasable x = false) →
      s.releasable o = true → s.tileHolds o.kind o.index = true → (∃ c v, o.op = .ucmd c v) → s.Does .eventRelease fun t =>
        t.stq = l ++ r ∧ t.pwr.held = s.pwr.held ++ [⟨o, true⟩]) ∧
    ((s.ang.windows.contains w.val = false ∧ s.windowHolds w s.angle = true ∧ s.epState ≠ 4) ∧ s.Does (.idleWindowOpen w) (fun t =>
        t.ang.windows.contains w.val = true ∧ ∀ v, v ≠ w.val → t.ang.windows.contains v = s.ang.windows.contains v) ∨
      ¬ (s.ang.windows.contains w.val = false ∧ s.windowHolds w s.angle = true ∧ s.epState ≠ 4) ∧
        exec (.idleWindowOpen w) s = .next s) ∧
    ((s.ang.windows.contains w.val = true ∧ s.windowHolds w s.angle = false) ∧ s.Does (.idleWindowClose w) (fun t =>
        t.ang.windows = s.ang.windows.filter (· != w.val)) ∨
      ¬ (s.ang.windows.contains w.val = true ∧ s.windowHolds w s.angle = false) ∧ exec (.idleWindowClose w) s = .next s)

/-- R203-R228: the analogue cells. -/
def Obligations.CellOutputs : Prop :=
  ∀ (s : State) (q : Req) (u : Fin 512),
    let l := u.val
    let c := s.cell l
    let set := s.boundSet (s.governs l)
    let stat := CEL_STATUS l
    let mode := s.fld (CEL_OUT l) CEL_OUT_MODE
    let cause := s.fenced || s.clockUnsafe || s.bit PWR_STATUS PWR_STATUS_PFL
    let sent := fun (m : Nat) (x : BitVec 14) => if s.fld (CEL_OUT m) CEL_OUT_BIND = bindDiffN then ~~~ x else x
    let drives := fun (t : State) (x : BitVec 14) (sat : Bool) =>
      (∀ m ∈ set, (t.cell m).code = sent m x ∧ (t.cell m).sat = sat) ∧ (∀ m, m ∉ set → m ≠ l → t.cell m = s.cell m) ∧
      t.mem = s.mem ∧ t.out = s.out
    let latched := fun (t : State) (n : Nat) =>
      (∀ m ∈ set, t.bit (CEL_STATUS m) CEL_STATUS_LATCH = true ∧
        t.fld (CEL_STATUS m) CEL_STATUS_LCAUSE =
          if s.bit (CEL_STATUS m) CEL_STATUS_LATCH then s.fld (CEL_STATUS m) CEL_STATUS_LCAUSE else n) ∧
      s.RegsBut t (stat :: set.map CEL_STATUS)
    let onlyCell := fun (s t : State) (x : Cell) => t.cell l = x ∧ (∀ m, m ≠ l → t.cell m = s.cell m) ∧ t = { s with cells := t.cells }
    let dropped := fun (s t : State) => t.bit stat CEL_STATUS_DROP = true ∧ t.ctrs = (s.inc (CEL_DROP_LO l)).ctrs ∧ s.RegsBut t [stat]
    let onlyDac := fun (t : State) (m : Nat) (x : Cell) => { t.cell m with dac := (s.cell m).dac } = x
    let starts := c.holdEnd || !(c.held || c.holdPend || c.timedOut)
    (s.halted 14 = true ∨ (c.lateQ = [] ∧ s.governs l ≠ l) → exec (.dacUpdate u) s = .next s) ∧
    (s.governs l = l → s.halted 14 = false → c.lateQ = [] →
      (cause = true → mode = 0 → s.Does (.dacUpdate u) fun t => ∀ m ∈ set, t.bit (CEL_STATUS m) CEL_STATUS_LATCH = true) ∧
      (cause = false →
        (mode = 0 → s.Does (.dacUpdate u) fun t => drives t (regCode (s.reg (CEL_CONST l))) false ∧
          (∀ m ∈ set, (t.cell m).dac = if 2 ≤ s.outState l then sent m (regCode (s.reg (CEL_CONST l))) else (s.cell m).dac) ∧
          (s.fld (CEL_OUT l) CEL_OUT_ECHO = 0 ∨ s.outState l < 2 → s.RegsBut t [] ∧ t = { s with cells := t.cells }) ∧
          (s.fld (CEL_OUT l) CEL_OUT_ECHO = 1 → 2 ≤ s.outState l → set = [l] → t.cxb =
            (s.offer l (echoWord (sent l (regCode (s.reg (CEL_CONST l)))) (s.outState l == 2) false none)).cxb)) ∧
        (mode = 1 → starts = true → ∀ w r, c.fifo = w :: r → w.stamp.isNone = true ∨ c.headDue = true → s.Does (.dacUpdate u) fun t =>
          drives t (codeOfWord w.word).1 (codeOfWord w.word).2 ∧ ((∀ x ∈ r, x.stamp = none) → (t.cell l).fifo = r) ∧
          (t.cell l).held = (c.holdPend || (c.held && !c.holdEnd)) ∧ (t.cell l).holdPend = false ∧ (t.cell l).holdEnd = false) ∧
        (mode = 1 → starts = false ∨ c.fifo = [] → s.Does (.dacUpdate u) fun t =>
          drives t c.code c.sat ∧ (t.cell l).fifo = c.fifo ∧ (t.cell l).held = (c.holdPend || (c.held && !c.holdEnd))) ∧
        (2 ≤ mode → c.playing = none → s.Does (.dacUpdate u) fun t => drives t (regCode (s.reg (CEL_WAVE l))) false) ∧
        (2 ≤ mode → ∀ k, c.playing = some k → s.Does (.dacUpdate u) fun t =>
          if k < (s.activeBank l).2 then drives t (bankCode (s.activeBank l).1 k) false ∧ (t.cell l).playing = some (k + 1)
          else drives t (regCode (s.reg (CEL_WAVE l))) false ∧ (t.cell l).playing = none))) ∧
    (s.takeArrived l = none → exec (.cellStreamWord u) s = .next s) ∧
    (∀ w s', s.takeArrived l = some (w, s') →
      (s.governs l ≠ l ∨ mode ≠ 1 → exec (.cellStreamWord u) s = .next s') ∧
      (s.governs l = l → mode = 1 →
        (w.poisoned = false → wordFlag w.word 1 = true → s.Does (.cellStreamWord u) fun t =>
          onlyCell s' t (if c.held && !c.holdEnd then c else { c with holdPend := true })) ∧
        (w.poisoned = false → wordFlag w.word 1 = false →
          (c.fifo.length < 4 → c.fifo ≠ [] ∨ w.stamp = none → s.Does (.cellStreamWord u) fun t =>
            onlyCell s' t { c with holdPend := false, holdEnd := c.held, timedOut := false, fifo := c.fifo ++ [w] }) ∧
          (∀ x, c.fifo = [] → w.stampOf = some x →
            (Stamp.beyond x s.angle = true → s.Does (.cellStreamWord u) fun t => dropped s' t ∧ (t.cell l).fifo = []) ∧
            (Stamp.beyond x s.angle = false → s.late x .fwd 86 = true → s.Does (.cellStreamWord u) fun t =>
              (t.cell l).fifo = [w] ∧ (t.cell l).headDue = true ∧ t.ctrs = (s'.inc (CEL_LATE_LO l)).ctrs ∧ s'.RegsBut t []) ∧
            (Stamp.beyond x s.angle = false → s.late x .fwd 86 = false → s.Does (.cellStreamWord u) fun t =>
              (t.cell l).fifo = [w] ∧ t.stq = s.stq ++ [⟨0, l, x, .fwd, .stream w, .sup, 0⟩] ∧ s'.RegsBut t [])) ∧
          (4 ≤ c.fifo.length → s.Does (.cellStreamWord u) fun t => dropped s' t ∧ (t.cell l).fifo = c.fifo)) ∧
        (w.poisoned = true → s.Does (.cellStreamWord u) fun t =>
          t.bit stat CEL_STATUS_POISON = true ∧ t.ctrs = (s'.inc (CEL_POIS_LO l)).ctrs ∧ (t.cell l).fifo = c.fifo ∧
          (s.bit (CEL_OUT l) CEL_OUT_POISON_SAFE = true → latched t 8) ∧
          (s.bit (CEL_OUT l) CEL_OUT_POISON_SAFE = false → s.RegsBut t [stat])))) ∧
    s.Does (.holdTimeout u) (fun t => if c.held && !c.holdEnd then latched t 5 ∧ t.bit stat CEL_STATUS_HTO = true ∧
      onlyDac t l { c with held := false, timedOut := true } ∧ (∀ m, m ≠ l → onlyDac t m (s.cell m)) ∧
      t = { s with regs := t.regs, cells := t.cells }
      else t = s) ∧
    s.Does (.starveTimeout u) (fun t =>
      if s.governs l = l ∧ mode = 1 ∧ s.fld (CEL_HOLD l) CEL_HOLD_STARVE ≠ 0 ∧ 2 ≤ s.outState l then
        latched t 6 ∧ t.bit stat CEL_STATUS_STARVE = true ∧ (∀ m, onlyDac t m (s.cell m)) ∧
        t = { s with regs := t.regs, cells := t.cells } else t = s) ∧
    s.Does (.overcurrent u) (fun t => t.bit stat CEL_STATUS_OC = true ∧ (∀ m, onlyDac t m (s.cell m)) ∧
      t = { s with regs := t.regs, cells := t.cells } ∧
      if s.bit (CEL_OUT (s.governs l)) CEL_OUT_OC_SAFE then latched t 7 else s.RegsBut t [stat] ∧ t.cells = s.cells) ∧
    s.Does (.waveLoadComplete u) (fun t => match c.loading with
      | none => t = s
      | some (n, _) => s.FieldTo t (CEL_WAVE l) CEL_WAVE_READY 1 ∧ s.RegsBut t [CEL_WAVE l] ∧
          t.cell l = (if s.bit (CEL_WAVE l) CEL_WAVE_ACTIVE then { c with lenA := n, loading := none }
            else { c with lenB := n, loading := none }) ∧
          (∀ m, m ≠ l → t.cell m = s.cell m) ∧ t = { s with regs := t.regs, cells := t.cells }) ∧
    (s.access q (CEL_WAVE_DATA l) false = .ok → s.Does (.celWaveDataRead q u) fun t =>
      let k := s.fld (CEL_WAVE_ADDR l) CEL_WAVE_ADDR_INDEX
      t.reply = .value ((bankCode (if s.bit (CEL_WAVE l) CEL_WAVE_ACTIVE == s.bit (CEL_WAVE_ADDR l) CEL_WAVE_ADDR_BANK
        then c.bankA else c.bankB) k).toNat * 0x40000) ∧
      s.FieldTo t (CEL_WAVE_ADDR l) CEL_WAVE_ADDR_INDEX ((k + 1) % 4096) ∧ s.RegsBut t [CEL_WAVE_ADDR l] ∧
      t = { s with regs := t.regs, reply := t.reply })

/-- R250, R252, R256-R258, Table 6.3: the operations of converter groups. -/
def Obligations.ConverterOperations : Prop :=
  ∀ (s : State) (q : Req) (g : Fin 64) (u : Fin 4),
    let n := g.val
    let x := s.group n
    let st := s.cvgState n
    let stat := CVG_STATUS n
    let groupTo := fun (t : State) (y : Group) => t.group n = y ∧ ∀ h, h ≠ n → t.group h = s.group h
    let same := fun (t : State) => groupTo t x ∧ t = { s with reply := .done }
    let plain := fun (t : State) => t = { s with regs := t.regs, groups := t.groups, reply := .done }
    let counted := fun (t : State) => t = { s with regs := t.regs, groups := t.groups, ctrs := t.ctrs, ctrLoad := t.ctrLoad, reply := .done }
    let eddy := if s.fld (CVG_CFG n) CVG_CFG_SLICE_DIS ≠ 0 ∨ s.bit (CVG_EDDY_CFG n) CVG_EDDY_CFG_EN = false then 0
      else if s.refReady n then 1 else 3
    let active := x.urgWait.contains u.val || x.urg.any (fun c => c.entry == 16 + u.val)
    let conv := fun (k : Nat) => s.newConv n (16 + u.val) k 2
    (x.powering = true → s.Does (.cvgPowerUpDone g) fun t => groupTo t { x with powering := false } ∧ t.cvgState n = 1 ∧
      t.fld (CVG_EDDY n) CVG_EDDY_STATE = eddy ∧ t.fld (CVG_EDDY n) CVG_EDDY_SLICE = s.fld (CVG_EDDY n) CVG_EDDY_SLICE ∧
      s.RegsBut t [stat, CVG_EDDY n] ∧ t = { s with regs := t.regs, groups := t.groups }) ∧
    (x.powering = false → exec (.cvgPowerUpDone g) s = .next s) ∧
    (s.access q (CVG_CTL n) true = .ok →
      s.Does (.cvgEnable q g) (fun t => plain t ∧ s.RegsBut t [] ∧
        groupTo t (if st = cvgDisabled then { x with powering := true } else x)) ∧
      (st = cvgDisabled →
        s.Does (.cvgDisable q g) same ∧
        s.Does (.cvgStart q g) (fun t => plain t ∧ s.FieldTo t stat CVG_STATUS_BADOP 1 ∧ s.RegsBut t [stat] ∧ groupTo t x) ∧
        s.Does (.cvgTrig q g (BitVec.ofNat 4 (2 ^ u.val))) (fun t =>
          plain t ∧ s.FieldTo t stat CVG_STATUS_BADOP 1 ∧ s.RegsBut t [stat] ∧ groupTo t x)) ∧
      (st ≠ cvgDisabled → s.Does (.cvgDisable q g) fun t =>
        groupTo t { x with seq := [], urg := [], urgWait := [], swap := none } ∧ t.cvgState n = 0 ∧
        t.fld (CVG_EDDY n) CVG_EDDY_STATE = 0 ∧ t.bit stat CVG_STATUS_URG_ACT = false ∧
        t.ctrs = ((s.incBy (CVG_ABORT_LO n) (x.seq.filter (·.running)).length).incBy (CVG_ABORT_LO n)
          (x.urg.length + x.urgWait.length)).ctrs ∧ t.mem = s.mem ∧
        ((∀ c ∈ x.seq, c.result = none) → s.RegsBut t [stat, CVG_EDDY n] ∧ counted t)) ∧
      (st = cvgStopped → s.Does (.cvgStart q g) fun t => plain t ∧ groupTo t { x with cics := [] } ∧ t.cvgState n = 2 ∧
        t.fld stat CVG_STATUS_NEXT = 0 ∧ s.RegsBut t [stat]) ∧
      (st = cvgRunning ∨ st = cvgStopping → s.Does (.cvgStart q g) same) ∧
      (st = cvgRunning → let l := x.seq.filter (fun c => !c.aborted)
        s.Does (.cvgStop q g) fun t => groupTo t { x with seq := l.dropWhile (·.result.isSome) } ∧
          t.cvgState n = (if l.all (·.result.isSome) then 1 else 3) ∧ t.ctrs = s.ctrs ∧
          ((∀ c ∈ l, c.result = none) → plain t ∧ s.RegsBut t [stat])) ∧
      (st ≠ cvgRunning → s.Does (.cvgStop q g) same) ∧
      s.Does (.cvgClear q g) (fun t => plain t ∧ t.reg stat = s.reg stat &&& 0xFFFFF07F ∧ s.RegsBut t [stat] ∧
        groupTo t (if st = cvgDisabled then x else { x with cics := [] })) ∧
      s.Does (.cvgTrig q g 0) same ∧
      (st ≠ cvgDisabled →
        (s.bit (CVG_URG_ENTRY n u) CVG_URG_ENTRY_EN = false → s.Does (.cvgTrig q g (BitVec.ofNat 4 (2 ^ u.val))) fun t =>
          plain t ∧ s.FieldTo t stat CVG_STATUS_BADOP 1 ∧ s.RegsBut t [stat] ∧ groupTo t x) ∧
        (s.bit (CVG_URG_ENTRY n u) CVG_URG_ENTRY_EN = true → active = true → s.Does (.cvgTrig q g (BitVec.ofNat 4 (2 ^ u.val)))
          fun t => counted t ∧ s.FieldTo t stat CVG_STATUS_URG_OVR 1 ∧ s.RegsBut t [stat] ∧ groupTo t x ∧
            t.ctrs = (s.inc (CVG_URG_OVR_LO n)).ctrs) ∧
        (s.bit (CVG_URG_ENTRY n u) CVG_URG_ENTRY_EN = true → active = false →
          let acts := fun (t : State) => counted t ∧ s.FieldTo t stat CVG_STATUS_URG_ACT 1 ∧ s.RegsBut t [stat]
          let i := Instr.cvgTrig q g (BitVec.ofNat 4 (2 ^ u.val))
          (∀ k, s.freeSlice n true = some k → s.Does i fun t => acts t ∧ t.ctrs = s.ctrs ∧
            groupTo t { x with urg := x.urg ++ [conv k] }) ∧
          (∀ c r, s.freeSlice n true = none → abortLast x.seq = some (c, r) → s.Does i fun t =>
            (t.group n).urg = x.urg ++ [conv c.slice] ∧ t.ctrs = (s.inc (CVG_ABORT_LO n)).ctrs ∧
            (st ≠ cvgStopping → acts t ∧ groupTo t { x with seq := r, urg := x.urg ++ [conv c.slice] })) ∧
          (s.freeSlice n true = none → abortLast x.seq = none → s.Does i fun t => acts t ∧ t.ctrs = s.ctrs ∧
            groupTo t { x with urgWait := x.urgWait ++ [u.val] }))))

/-- R243-R272: conversions, urgent triggers, references, Eddy rotation. -/
def Obligations.ConversionsAndEddy : Prop :=
  ∀ (s : State) (g : Fin 64) (u : Fin 4) (k : Fin 5) (level dev : Int) (b low : Bool) (p : Fin 512) (e : Fin 20) (d : Fin 2)
    (limited : Int × Int) (weights : List Int),
    let n := g.val
    let x := s.group n
    let stat := CVG_STATUS n
    let ed := CVG_EDDY n
    let others := fun (t : State) => ∀ h, h ≠ n → t.group h = s.group h
    let plain := fun (t : State) => t = { s with regs := t.regs, groups := t.groups }
    let ready := s.cvgState n = cvgRunning ∧ x.urg = [] ∧ x.urgWait = [] ∧ s.bit CAL_STATUS CAL_STATUS_PUDONE = true ∧
      s.epState ≠ 4
    let next := s.fld stat CVG_STATUS_NEXT
    (¬ ready ∨ s.freeSlice n false = none → exec (.seqIssue g) s = .next s) ∧
    (∀ k, ready → s.freeSlice n false = some k →
      (∀ l c r, x.seq = l ++ c :: r → (∀ y ∈ l, y.aborted = false) → c.aborted = true → s.Does (.seqIssue g) fun t =>
        plain t ∧ others t ∧ s.RegsBut t [] ∧ t.group n = { x with seq := l ++ s.newConv n c.entry k 0 :: r }) ∧
      ((∀ y ∈ x.seq, y.aborted = false) → 4 < x.seq.length → exec (.seqIssue g) s = .next s) ∧
      ((∀ y ∈ x.seq, y.aborted = false) → x.seq.length ≤ 4 → s.Does (.seqIssue g) fun t => plain t ∧ others t ∧
        s.RegsBut t [stat] ∧ t.group n = { x with seq := x.seq ++ [s.newConv n next k 0] } ∧
        s.FieldTo t stat CVG_STATUS_NEXT (if next = s.fld (CVG_CFG n) CVG_CFG_SEQ_LAST then 0 else (next + 1) % 16))) ∧
    let ends := Instr.conversionEnd g k ⟨level, dev⟩ b
    let runs := (x.urg ++ x.seq).find? (fun c => c.slice == k.val && c.running)
    (runs = none ∨ s.halted (10 + n / 16) = true → exec ends s = .next s) ∧
    (∀ c smp, runs = some c → s.halted (10 + n / 16) = false → x.urgWait = [] →
      c.held = some smp ∨ (c.held = none ∧ (s.sampleNow n c).held = some smp) →
      let y := smp.signal.code c.gain level dev
      let v := (y.1.zeroExtend 32 <<< 16) ||| s.convFlags n c smp y.1 (b || y.2)
      let w := CWord.mk' v smp.stamp c.entry
      (16 ≤ c.entry →
        s.Does ends fun t => others t ∧
          t.group n = { x with urg := x.urg.filter (fun d => d.slice != c.slice), poison := x.poison.filter (· != c.entry) } ∧
          t.bit stat CVG_STATUS_URG_ACT = !(x.urg.filter (fun d => d.slice != c.slice)).isEmpty ∧
          t.cxb = (if c.send then s.offer (512 + n) w else s).cxb) ∧
      (c.entry < 16 → x.urg = [] → s.bit (CVG_SEQ_ENTRY n c.entry) CVG_SEQ_ENTRY_CIC_EN = false →
        s.Does ends fun t => others t ∧
          t.reg (CVG_LAST n) = (v ||| if smp.stamp.isSome then 1 else 0) ∧ t.bit stat CVG_STATUS_URG_ACT = false ∧
          (x.seq = [c] → t.group n = { x with seq := [], poison := x.poison.filter (· != c.entry) } ∧
            t.cvgState n = (if s.cvgState n = cvgStopping then cvgStopped else s.cvgState n) ∧
            t.cxb = (if c.send then s.offer (512 + n) w else s).cxb) ∧
          (∀ h r, x.seq = h :: r → h ≠ c → h.result = none → t.cxb = s.cxb ∧ t.cvgState n = s.cvgState n ∧
            t.group n = { x with
              seq := finishConv c.slice (fun d => { d with result := some (if c.send then some w else none) }) x.seq
              poison := x.poison.filter (· != c.entry) }))) ∧
    (s.epState = 4 ∨ (∀ j : Fin 4, j ≤ u → s.armDue n j = none) → exec (.urgentAngleTrigger g u) s = .next s) ∧
    (∀ arm st late, s.epState ≠ 4 → (∀ j : Fin 4, j < u → s.armDue n j = none) → s.armDue n u = some (arm, st, late) →
      s.Does (.urgentAngleTrigger g u) fun t => others t ∧
        (s.fenced = true → t.group n = { x with arms := x.arms.filter (fun a => a.entry != u.val) } ∧
          t.ctrs = (s.inc (CVG_DISC_LO n)).ctrs ∧ s.RegsBut t []) ∧
        (s.fenced = false →
          (t.group n).arms = x.arms.map (fun a => if a.entry == u.val then
            { arm with at' := s.armed' n u (rearm st arm.q) } else a) ∧
          (s.cvgState n = cvgDisabled → (t.group n).urg = x.urg ∧ (t.group n).seq = x.seq) ∧
          (late = true → t.bit stat CVG_STATUS_LATE = true) ∧
          (∀ k, s.cvgState n ≠ cvgDisabled → s.bit (CVG_URG_ENTRY n u) CVG_URG_ENTRY_EN = true →
            (x.urgWait.contains u.val || x.urg.any (fun c => c.entry == 16 + u.val)) = false → s.freeSlice n true = some k →
            (t.group n).urg = x.urg ++ [s.newConv n (16 + u.val) k (if late then 0 else 2)] ∧
              t.bit stat CVG_STATUS_URG_ACT = true))) ∧
    (s.bit (WEIR_STATUS p) (if low then WEIR_STATUS_LIVE_BL else WEIR_STATUS_LIVE_BH) = false →
      exec (.weirUrgentTrigger p low) s = .next s) ∧
    (s.bit (WEIR_STATUS p) (if low then WEIR_STATUS_LIVE_BL else WEIR_STATUS_LIVE_BH) = true →
      let names := fun (j : Fin 16) =>
        let h := p.val / 32 * 4 + j.val / 4
        let a := CVG_URG_TRIG h (j.val % 4)
        s.fld a CVG_URG_TRIG_SRC = 2 ∧ s.fld a CVG_URG_TRIG_CELL = p.val % 32 ∧
          (s.fld a CVG_URG_TRIG_CMP = 2 ∨ s.fld a CVG_URG_TRIG_CMP = low.toNat)
      ((∀ j, ¬ names j) → exec (.weirUrgentTrigger p low) s = .next s) ∧
      (∀ j, (∀ i, names i ↔ i = j) →
        exec (.weirUrgentTrigger p low) s = .next (s.urgTrigger (p.val / 32 * 4 + j.val / 4) (j.val % 4) false))) ∧
    s.Does (.cvgParityError g e b) (fun t => others t ∧ s.FieldTo t stat CVG_STATUS_POISON 1 ∧ s.RegsBut t [stat] ∧
      t.ctrs = (s.inc (CVG_POIS_LO n)).ctrs ∧ tblGet (fun _ => none) (t.group n).cics e.val = none ∧
      (if b then e.val ∈ (t.group n).poisonTable ∧ (t.group n).poison = x.poison
        else e.val ∈ (t.group n).poison ∧ (t.group n).poisonTable = x.poisonTable) ∧
      t = { s with regs := t.regs, groups := t.groups, ctrs := t.ctrs, ctrLoad := t.ctrLoad }) ∧
    (s.bit (CVG_REF d) (if low then CVG_REF_EN_B else CVG_REF_EN_A) = false → exec (.refRdyChange d low true) s = .next s) ∧
    ((b = true → s.bit (CVG_REF d) (if low then CVG_REF_EN_B else CVG_REF_EN_A) = true) →
    s.Does (.refRdyChange d low b) (fun t => plain t ∧
      s.FieldTo t (CVG_REF d) (if low then CVG_REF_RDY_B else CVG_REF_RDY_A) b.toNat ∧
      s.RegsBut t (CVG_REF d :: (List.range 64).map CVG_EDDY) ∧
      (∀ h : Fin 64, h.val / 32 ≠ d.val ∨ s.bit (CVG_CFG h) CVG_CFG_REFSEL ≠ low →
        t.group h = s.group h ∧ t.reg (CVG_EDDY h) = s.reg (CVG_EDDY h)) ∧
      (∀ h : Fin 64, h.val / 32 = d.val → s.bit (CVG_CFG h) CVG_CFG_REFSEL = low →
        let y := s.group h
        let st := s.fld (CVG_EDDY h) CVG_EDDY_STATE
        (b = true → t.group h = y ∧ t.fld (CVG_EDDY h) CVG_EDDY_STATE = if st = 3 then 1 else st) ∧
        (b = false → t.fld (CVG_EDDY h) CVG_EDDY_STATE = (if st = 0 then 0 else 3) ∧
          t.group h = { y with seq := y.seq.map (fun c => { c with refns := true }), urg := y.urg.map (fun c => { c with refns := true }) })))) ∧
    (let st := s.fld ed CVG_EDDY_STATE
     let sl := s.fld ed CVG_EDDY_SLICE
     let sus := s.fld ed CVG_EDDY_SUSPECT
     let trims := limited.1 :: limited.2 :: weights
     (st ≠ 1 → st ≠ 2 → exec (.eddyRunEnd g limited weights) s = .next s) ∧
     (st = 1 ∨ st = 2 → sl < 5 →
       (s.eddyPasses n trims = true → s.Does (.eddyRunEnd g limited weights) fun t => others t ∧
         tblGet (fun _ => []) (t.group n).latest sl = trims ∧
         t.fld ed CVG_EDDY_STATE = 2 ∧ t.fld ed CVG_EDDY_SLICE = sl ∧ s.RegsBut t [ed] ∧ plain t ∧
         t.fld ed CVG_EDDY_SUSPECT = if bitOf sus sl then sus - 2 ^ sl else sus) ∧
       (s.eddyPasses n trims = false → s.Does (.eddyRunEnd g limited weights) fun t => others t ∧ t.group n = { x with swap := none } ∧
         t.fld ed CVG_EDDY_STATE = 1 ∧ t.fld ed CVG_EDDY_SLICE = sl ∧ s.RegsBut t [ed] ∧
         t.fld ed CVG_EDDY_SUSPECT = (if bitOf sus sl then sus else sus + 2 ^ sl) ∧
         t = { s with regs := t.regs, groups := t.groups, health := s.health ++ [(0x30, [n * 5 + sl, 1])] })) ∧
     (x.swap = none → exec (.eddySwap g) s = .next s) ∧
     (∀ o, x.swap = some o →
       (x.busy.contains o = true ∨ s.bit (CVG_EDDY_CFG n) CVG_EDDY_CFG_EN = false → exec (.eddySwap g) s = .next s) ∧
       (x.busy.contains o = false → s.bit (CVG_EDDY_CFG n) CVG_EDDY_CFG_EN = true → o < 5 → s.Does (.eddySwap g) fun t => others t ∧ (t.group n).swap = none ∧
         tblGet (fun _ => []) (t.group n).trims sl = tblGet (fun _ => []) x.latest sl ∧
         t.fld ed CVG_EDDY_SLICE = o ∧ t.fld ed CVG_EDDY_AGE = 0 ∧ t.fld ed CVG_EDDY_SUSPECT = sus ∧
         t.bit stat CVG_STATUS_EDDY_STALE = false ∧ t.ctrs = (s.inc (CVG_SWAP_LO n)).ctrs ∧ s.RegsBut t [ed, stat] ∧
         t.fld ed CVG_EDDY_STATE = if s.fld (CVG_CFG n) CVG_CFG_SLICE_DIS ≠ 0 ∨ s.bit (CVG_EDDY_CFG n) CVG_EDDY_CFG_EN = false ∨
           s.cvgState n = cvgDisabled then 0 else if s.refReady n then 1 else 3))) ∧
    s.Does (.eddyStale g) (fun t =>
      let lim := s.fld (CVG_EDDY_CFG n) CVG_EDDY_CFG_STALE_MS
      if lim ≠ 0 ∧ lim ≤ s.fld ed CVG_EDDY_AGE then s.FieldTo t stat CVG_STATUS_EDDY_STALE 1 ∧ s.RegsBut t [stat] ∧
        t = { s with regs := t.regs } else t = s)

/-- R282-R300, Tables 7.1 and 7.2: filter channels. -/
def Obligations.FilterChannels : Prop :=
  ∀ (s : State) (q : Req) (u : Fin 512) (e : Fin 64) (bad : Bool),
    let n := u.val
    let c := s.chan n
    let stat := FLT_CH_STATUS n
    let st := s.chState n
    let restarted : Chan := { Chan.reset with k := s.fld (FLT_CH_DC n) FLT_CH_DC_K, lastOut := c.lastOut }
    let rest := fun (x : FltItem) => FltItem.mk x.word (x.takers.filter (· != n % 8)) (x.gaps.filter (· != n % 8)) x.frozen
    let left := ((s.engine (n / 8)).fifo.map rest).filter fun x => !x.takers.isEmpty
    let plain := fun (t : State) => t = { s with regs := t.regs, chans := t.chans, reply := .done } ∧ s.RegsBut t [stat]
    let chanTo := fun (s t : State) (n : Nat) (x : Chan) => t.chan n = x ∧ ∀ m, m ≠ n → t.chan m = s.chan m
    let engineTo := fun (s t : State) (e : Nat) (x : Engine) => t.engine e = x ∧ ∀ m, m ≠ e → t.engine m = s.engine m
    (s.access q (FLT_CH_CTL n) true = .ok →
      s.Does (.fltEnable q u) (fun t => plain t ∧ chanTo s t n c ∧ s.FieldTo t stat FLT_CH_STATUS_STATE (if st = 0 then 1 else st)) ∧
      s.Does (.fltDisable q u) (fun t => s.FieldTo t stat FLT_CH_STATUS_STATE (if st = 2 ∨ st = 1 then 0 else st) ∧ s.RegsBut t [stat] ∧
        (if st = 2 then engineTo s t (n / 8) { s.engine (n / 8) with fifo := left }
        else t.engines = s.engines) ∧
        t = { s with regs := t.regs, engines := t.engines, reply := .done }) ∧
      s.Does (.fltStart q u) (fun t => plain t ∧
        if st = 1 ∧ s.clockDead 15 = false then t.chState n = 2 ∧ t.bit stat FLT_CH_STATUS_FILL = true ∧ chanTo s t n { restarted with lastOut := none }
        else chanTo s t n c ∧ s.RegsBut t []) ∧
      s.Does (.fltStop q u) (fun t => plain t ∧ chanTo s t n c ∧ s.FieldTo t stat FLT_CH_STATUS_STATE (if st = 2 then 1 else st)) ∧
      s.Does (.fltClear q u) (fun t => plain t ∧
        if st = 2 then chanTo s t n restarted ∧ t.reg stat = (s.reg stat &&& 0xFFFFFC7F) ||| 0x20
        else chanTo s t n c ∧ t.reg stat = s.reg stat &&& 0xFFFFFC7F)) ∧
    (s.takeArrived (576 + 2 * e.val) = none → exec (.fltInputWord e) s = .next s) ∧
    (∀ w s', s.takeArrived (576 + 2 * e.val) = some (w, s') →
      let x := s.engine e
      let ch := fun (c : Nat) => e.val * 8 + c
      let takes := fun (c : Nat) => s.chState (ch c) == chRunning && s.chTakes (ch c) w (posAfter (s.chan (ch c)).pos w)
      let l := (List.range 8).filter takes
      (s.clockDead 15 = true → exec (.fltInputWord e) s = .next s') ∧
      (s.clockDead 15 = false → wordFlag w.word 1 = false → s.Does (.fltInputWord e) fun t =>
        (∀ c < 8, (t.chan (ch c)).pos = if s.chState (ch c) = chRunning then
            posAfter (if x.fifo.length < 64 ∧ c ∈ l ∧ (s.chan (ch c)).restart = true then none else (s.chan (ch c)).pos) w
          else (s.chan (ch c)).pos) ∧
        (l = [] → s'.RegsBut t [] ∧ t = { s' with chans := t.chans }) ∧
        (l ≠ [] → (∀ c ∈ l, t.bit (FLT_CH_STATUS (ch c)) FLT_CH_STATUS_HOLDING = false) ∧
          (x.fifo.length < 64 → engineTo s' t e { x with fifo := x.fifo ++
              [⟨w, l, l.filter fun c => (s.chan (ch c)).restart, (List.range 8).filter fun c => s.frozen (ch c)⟩] } ∧
            (∀ c ∈ l, (t.chan (ch c)).restart = false) ∧ s'.RegsBut t (l.map fun c => FLT_CH_STATUS (ch c)) ∧
            t = { s' with regs := t.regs, chans := t.chans, engines := t.engines }) ∧
          (64 ≤ x.fifo.length → t.bit (FLT_STATUS e) FLT_STATUS_DROP = true ∧ t.ctrs = (s'.inc (FLT_DROP_LO e)).ctrs ∧
            (∀ c ∈ l, t.bit (FLT_CH_STATUS (ch c)) FLT_CH_STATUS_GAP = true ∧ (t.chan (ch c)).restart = true) ∧
            t = { s' with regs := t.regs, chans := t.chans, ctrs := t.ctrs, ctrLoad := t.ctrLoad }))) ∧
      (s.clockDead 15 = false → wordFlag w.word 1 = true → l = [] → exec (.fltInputWord e) s = .next s') ∧
      (∀ c o, s.clockDead 15 = false → wordFlag w.word 1 = true → l = [c] → (s.chan (ch c)).lastOut = some o →
        s.fld (FLT_CH_CFG (ch c)) FLT_CH_CFG_ROLE = 1 → s.chChained (ch c) = false → s.Does (.fltInputWord e) fun t =>
        t.bit (FLT_CH_STATUS (ch c)) FLT_CH_STATUS_HOLDING = true ∧ t.engines = s.engines ∧
        ((s.chan (ch c)).repeated = none → chanTo s' t (ch c) { s.chan (ch c) with repeated := some s.ns } ∧
          t.ctrs = (s'.inc (FLT_CH_HOLD_LO (ch c))).ctrs ∧
          t.cxb = (s'.offer (577 + 2 * e.val) { o with word := setWordFlag o.word 1 }).cxb) ∧
        (∀ m, (s.chan (ch c)).repeated = some m → s.ns < m + 1000 → t.chans = s.chans ∧ t.ctrs = s.ctrs ∧ t.cxb = s'.cxb))) ∧
    ((s.engine e).fifo = [] → exec (.fltProcess e bad) s = .next s) ∧
    (1000 ≤ (s.engine e).busy → exec (.fltProcess e bad) s = .next s) ∧
    (∀ x r, (s.engine e).fifo = x :: r → (s.engine e).busy < 1000 →
      ((∀ c ∈ x.takers, c < 8) → s.Does (.fltProcess e bad) fun t => (t.engine e).fifo = r ∧ ∀ m, m ≠ e.val → t.engine m = s.engine m) ∧
      (∀ (c : Fin 8), x.takers = [c.val] → x.gaps = [] → s.bit (FLT_CH_CFG (e.val * 8 + c.val)) FLT_CH_CFG_STIN = false →
        s.fld (FLT_CH_DLY (e.val * 8 + c.val)) FLT_CH_DLY_D_INT = 0 → s.firWords (e.val * 8 + c.val) ≠ [] →
        s.Does (.fltProcess e true) fun t => t.bit (FLT_STATUS e) FLT_STATUS_POISON = true) ∧
      (∀ (c : Fin 8), x.takers = [c.val] → x.gaps = [] →
        let m := e.val * 8 + c.val
        let w := x.word
        s.chChained m = false →
        s.fld (FLT_CH_FIR m) FLT_CH_FIR_MODE = 0 → s.bit (FLT_CH_RS m) FLT_CH_RS_EN = false → s.bit (FLT_CH_CFG m) FLT_CH_CFG_STIN = false →
        s.fld (FLT_CH_CFG m) FLT_CH_CFG_ROLE = 1 → s.bit (FLT_CH_DC m) FLT_CH_DC_EN = false → s.reg (FLT_CH_SHIFT m) = 0 →
        s.fld (FLT_CH_DLY m) FLT_CH_DLY_D_INT = 0 → w.poisoned = false →
        s.Does (.fltProcess e bad) fun t =>
          t.cxb = (s.offer (577 + 2 * e.val) ⟨w.word &&& 0xFFFFFFEC, none⟩).cxb ∧
          (t.chan m).lastOut = some ⟨w.word &&& 0xFFFFFFEC, none⟩ ∧ (t.chan m).n = (s.chan m).n + 1 ∧
          t.bit (FLT_CH_STATUS m) FLT_CH_STATUS_FILL = false ∧ t.ctrs = s.ctrs ∧
          (∀ k, k ≠ m → t.chan k = s.chan k) ∧
          engineTo s t e { s.engine e with fifo := r, busy := (s.engine e).busy + 1 }))

/-- R294, R301-R303, R351: coefficients and loads. R336-R343: shot learning. -/
def Obligations.CoefficientsAndLearning : Prop :=
  (
    ∀ (s : State) (q : Req) (e : Fin 64) (v : Word),
      let a := FLT_COEF_ADDR e
      let k := s.fld a FLT_COEF_ADDR_ADDR
      let x := s.engine e
      let active := s.bit (FLT_STATUS e) FLT_STATUS_BANK
      let get := fun (b : Tbl (BitVec 18)) (k : Nat) => tblGet (fun _ => (0 : BitVec 18)) b k
      let advanced := fun (t : State) => t.fld a FLT_COEF_ADDR_ADDR = (k + 1) % 8192 ∧
        t.bit a FLT_COEF_ADDR_BANK = s.bit a FLT_COEF_ADDR_BANK
      (s.access q (FLT_COEF_DATA e) true = .ok →
        (s.bit a FLT_COEF_ADDR_BANK = true → s.Does (.fltCoefWrite q e v) fun t =>
          t.engines = s.engines ∧ t.bit (FLT_STATUS e) FLT_STATUS_RSVD_WR = true ∧ t.reg a = s.reg a ∧ t.mem = s.mem) ∧
        (s.bit a FLT_COEF_ADDR_BANK = false → s.armed = true → s.shFld (FLT_CFG e) FLT_CFG_SWAP = 1 →
          s.Does (.fltCoefWrite q e v) fun t =>
            t.engines = s.engines ∧ t.bit (FLT_STATUS e) FLT_STATUS_STAGE_WR = true ∧ t.reg a = s.reg a ∧ t.mem = s.mem) ∧
        (s.bit a FLT_COEF_ADDR_BANK = false → (s.armed = false ∨ s.shFld (FLT_CFG e) FLT_CFG_SWAP = 0) →
          s.Does (.fltCoefWrite q e v) fun t => advanced t ∧ (∀ m, m ≠ e.val → t.engine m = s.engine m) ∧
            (t.engine e).fifo = x.fifo ∧ (t.engine e).busy = x.busy ∧ t.reply = .done ∧
            (∀ j, get (t.engine e).bankA j = if active = true ∧ j = k then v.extractLsb' 14 18 else get x.bankA j) ∧
            (∀ j, get (t.engine e).bankB j = if active = false ∧ j = k then v.extractLsb' 14 18 else get x.bankB j) ∧
            (v &&& 0x3FFF = 0 → s.bit (ECC_FLIP_CTL (0x20 + e.val / 4)) ECC_FLIP_CTL_ARM = false → s.RegsBut t [a]))) ∧
      (s.access q (FLT_COEF_DATA e) false = .ok → s.Does (.fltCoefRead q e) advanced) ∧
      (s.access q (FLT_COEF_DATA e) false = .ok →
        s.codeErr (memKey (0x20 + e.val / 4) (coefAddr e (if active == s.bit a FLT_COEF_ADDR_BANK then 1 else 0) k)) = CodeErr.none' →
        s.Does (.fltCoefRead q e) fun t => advanced t ∧ s.RegsBut t [a] ∧
        t.reply = .value ((get (if active == s.bit a FLT_COEF_ADDR_BANK then x.bankB else x.bankA) k).toNat * 2 ^ 14) ∧
        t = { s with regs := t.regs, reply := t.reply }) ∧
      (s.access q (FLT_LOAD e) false = .ok → s.Does (.fltLoadRead q e) fun t =>
        t.reply = .value (s.reg (FLT_LOAD e)).toNat ∧ t.reg (FLT_LOAD e) = s.reg (FLT_LOAD e) &&& 0xFFFF ∧
        s.RegsBut t [FLT_LOAD e] ∧ t = { s with regs := t.regs, reply := t.reply }) ∧
      (s.access q CXB_LOAD false = .ok → s.Does (.cxbLoadRead q) fun t =>
        t.reply = .value (s.reg CXB_LOAD).toNat ∧ t.reg CXB_LOAD = s.reg CXB_LOAD &&& 0xFFFF ∧
        s.RegsBut t [CXB_LOAD] ∧ t = { s with regs := t.regs, reply := t.reply })) ∧
  (
    ∀ (s : State) (e : Fin 64),
      let l := s.learnUnit e
      let others := fun (t : State) => ∀ d, d ≠ e.val → t.learnUnit d = s.learnUnit d
      s.Does (.learningStart e) (fun t => others t ∧ t = { s with learns := t.learns } ∧
        t.learnUnit e = if l.queue = [] then l else { l with running := true }) ∧
      (l.running = false ∨ l.queue = [] → exec (.learningComplete e) s = .next s) ∧
      (∀ n x r, l.running = true → l.queue = (n, x) :: r →
        let d := s.lrnDesc n
        let bad := x.taken.length < d.m ∨ x.taken.any (·.spoils) = true ∨ (d.angle = true ∧ x.omega = 0)
        let stat := DRV_STATUS n
        let ends := fun (t : State) => others t ∧ t.learnUnit e = ⟨r, false⟩ ∧
          t.bit stat DRV_STATUS_LRN_BUSY = (r.any (·.1 == n) && s.bit stat DRV_STATUS_LRN_BUSY)
        let abandoned := fun (t : State) (lo : Nat) => ends t ∧ t.bit stat DRV_STATUS_LRNERR = true ∧ s.RegsBut t [stat] ∧
          t.ctrs = (s.inc lo).ctrs ∧ t = { s with regs := t.regs, ctrs := t.ctrs, ctrLoad := t.ctrLoad, learns := t.learns }
        (x.tripped = true → s.Does (.learningComplete e) (abandoned · (DRV_LRN_TRIP_LO n))) ∧
        (x.tripped = false → bad → s.Does (.learningComplete e) (abandoned · (DRV_LRN_BAD_LO n))) ∧
        (x.tripped = false → ¬ bad → n < 512 → ∀ tpl base cor s1 s2 s3,
          s.memWords 0x122 d.tpl d.m = (some tpl, s1) → s1.memWords 0x122 d.base d.n = (some base, s2) →
          s2.memWords 0x122 d.cor d.n = (some cor, s3) →
          let w := lrnWindow d x tpl (x.taken.take d.m) (cor.map (·.toInt)) 0
          s.Does (.learningComplete e) fun t => others t ∧ t.learnUnit e = ⟨r, false⟩ ∧
            t.fld (DRV_LRN_EMAX n) DRV_LRN_EMAX_EMAX = w.2 % 2 ^ 24 ∧
            (t.cell n).loading = some ((List.zipWith lrnCode base w.1).length, 0x100) ∧
            (∀ m, m ≠ n → t.cell m = s.cell m))))

/-- R308-R311, R315, Tables 8.1 and 8.2: the operations of pulse generators. -/
def Obligations.DriveOperations : Prop :=
  ∀ (s : State) (q : Req) (u : Fin 512) (prof : BitVec 2) (v : Word),
    let n := u.val
    let p := s.pulse n
    let stat := DRV_STATUS n
    let cfg := DRV_CFG n
    let active := match p.shot with | some x => x.active | none => false
    let pinst := fun (en latch on : Bool) => if !s.outputsReleased || s.standby then 0
      else if s.fenced || s.clockUnsafe || s.bit PWR_STATUS PWR_STATUS_PFL || latch || !en then 1 else if on then 3 else 2
    let others := fun (t : State) => ∀ m, m ≠ n → t.pulse m = s.pulse m
    let kept := fun (t : State) => others t ∧ (t.pulse n).shot = p.shot ∧ (t.pulse n).pend = p.pend ∧ (t.pulse n).released = p.released
    let weir := (List.range 32).map fun k => WEIR_STATUS (n / 32 * 32 + k)
    let mine := fun (o : StOp) => o.kind == 3 && o.index == n && (match o.op with | .ucmd 4 _ => true | _ => false)
    let off := fun (t : State) => others t ∧ (t.pulse n).shot = none ∧ (t.pulse n).pend = none ∧ (t.pulse n).released = [] ∧
      t.stq = s.stq.filter (fun o => !mine o) ∧
      t.ctrs = (s.incBy (DRV_DISC_LO n) (p.released.length + p.pend.toList.length + (s.stq.filter mine).length)).ctrs ∧
      t.bit stat DRV_STATUS_BUSY = false ∧ t.bit stat DRV_STATUS_PEND = false ∧
      ((∃ x, p.shot = some x ∧ x.mode = 2) → (t.cell n).playing = none) ∧
      s.RegsBut t (cfg :: stat :: if p.shot.isSome then weir else [])
    (s.access q (DRV_CTL n) true = .ok →
      s.Does (.drvEnable q u) (fun t => kept t ∧ s.FieldTo t cfg DRV_CFG_EN 1 ∧ s.RegsBut t [cfg, stat] ∧
        t.bit stat DRV_STATUS_BUSY = p.shot.isSome ∧ t.bit stat DRV_STATUS_PEND = p.pend.isSome ∧
        t.fld stat DRV_STATUS_PINST = pinst true (s.bit stat DRV_STATUS_LATCH) active ∧
        t = { s with regs := t.regs, pulses := t.pulses, reply := .done }) ∧
      s.Does (.drvDisable q u) (fun t => off t ∧ s.FieldTo t cfg DRV_CFG_EN 0 ∧
        t.fld stat DRV_STATUS_PINST = pinst false (s.bit stat DRV_STATUS_LATCH) false ∧
        t.bit stat DRV_STATUS_LATCH = s.bit stat DRV_STATUS_LATCH) ∧
      s.Does (.drvSafe q u) (fun t => off t ∧ t.reg cfg = s.reg cfg ∧ t.bit stat DRV_STATUS_LATCH = true ∧
        t.fld stat DRV_STATUS_LCAUSE = (if s.bit stat DRV_STATUS_LATCH then s.fld stat DRV_STATUS_LCAUSE else 1) ∧
        t.fld stat DRV_STATUS_PINST = pinst false true false) ∧
      s.Does (.drvFire q u prof) (fun t => if s.budget.border.contains (n / 32) then
          t.ctrs = (s.inc (DRV_DISC_LO n)).ctrs ∧ t = { s with ctrs := t.ctrs, ctrLoad := t.ctrLoad, reply := .done }
        else t.pulse n = { p with released := p.released ++ [⟨prof.toNat, none, s.ns⟩] } ∧ others t ∧ s.RegsBut t [] ∧
          t = { s with pulses := t.pulses, twin := t.twin, reply := .done } ∧
          (s.fld TWIN_STATUS TWIN_STATUS_STATE ≠ 5 → t.twin = s.twin)) ∧
      (s.fenced = false → s.clockUnsafe = false → s.bit PWR_STATUS PWR_STATUS_PFL = false → s.Does (.drvClear q u) fun t => kept t ∧
        t.bit stat DRV_STATUS_LATCH = false ∧ t.fld stat DRV_STATUS_LCAUSE = 0 ∧ s.RegsBut t [stat] ∧
        t.fld stat DRV_STATUS_PINST = pinst (s.bit cfg DRV_CFG_EN) false active ∧
        t = { s with regs := t.regs, pulses := t.pulses, reply := .done }) ∧
      (s.fenced = true ∨ s.clockUnsafe = true ∨ s.bit PWR_STATUS PWR_STATUS_PFL = true → s.Does (.drvClear q u) fun t =>
        t.bit stat DRV_STATUS_LATCH = true ∧ t.fld stat DRV_STATUS_LCAUSE = (if s.fenced then 2 else if s.clockUnsafe then 3 else 4) ∧
        (t.pulse n).shot = none ∧ others t)) ∧
    (s.access q cfg true = .ok →
      let rm := rwsMask (fieldsAt cfg)
      let old := s.bit cfg DRV_CFG_EN
      (reservedEncoding (fieldsAt cfg) v = true → s.Does (.drvCfgWrite q u v) fun t =>
        t.bit stat DRV_STATUS_RSVD_WR = true ∧ t.pulses = s.pulses ∧ t.reg cfg = s.reg cfg ∧ t.staged = s.staged) ∧
      (reservedEncoding (fieldsAt cfg) v = false → s.armed = true → v &&& rm ≠ s.shReg cfg &&& rm →
        s.Does (.drvCfgWrite q u v) fun t =>
          t.bit stat DRV_STATUS_STAGE_WR = true ∧ t.pulses = s.pulses ∧ t.reg cfg = s.reg cfg ∧ t.staged = s.staged) ∧
      (reservedEncoding (fieldsAt cfg) v = false → v &&& reservedBits (fieldsAt cfg) = 0 →
        s.armed = false ∨ v &&& rm = s.shReg cfg &&& rm → s.Does (.drvCfgWrite q u v) fun t =>
          t.bit cfg DRV_CFG_EN = v.getLsbD 7 ∧ t.reg cfg &&& rm = s.reg cfg &&& rm ∧ t.shReg cfg &&& rm = v &&& rm ∧
          (v.getLsbD 7 = old → t.pulses = s.pulses ∧ s.RegsBut t [cfg]) ∧
          (v.getLsbD 7 = true → old = false → kept t ∧
            t.fld stat DRV_STATUS_PINST = pinst true (s.bit stat DRV_STATUS_LATCH) active) ∧
          (v.getLsbD 7 = false → old = true → off t)))

/-- R312-R335: shots, the fire budget, comparators and trips. -/
def Obligations.ShotsAndTrips : Prop :=
  ∀ (s : State) (u : Fin 512) (fout pre : Int),
    let n := u.val
    let p := s.pulse n
    let stat := DRV_STATUS n
    let cfg := DRV_CFG n
    let others := fun (t : State) => ∀ m, m ≠ n → t.pulse m = s.pulse m
    let quiet := s.bit cfg DRV_CFG_EN = true ∧ s.bit stat DRV_STATUS_LATCH = false
    let begins := fun (t : State) (st : Start) =>
      let x := s.shotOf n st.prof
      others t ∧ (t.pulse n).shot = some { x with t := 0, begun := 1, active := true } ∧ t.bit stat DRV_STATUS_BUSY = true ∧
        t.reg (DRV_SHOT_LATE n) = BitVec.ofNat 32 (s.lateness st 0) ∧ t.budget = (s.budgetTake (n / 32)).budget
    let on := fun (st : Start) => s.inIdle n st = false ∧ p.shot = none ∧ s.tripInput n = none ∧
      (s.fld cfg DRV_CFG_MODE ≠ 1 ∨ s.fld (DRV_PROF_A n st.prof) DRV_PROF_A_T1 ≠ 0 ∨ s.fld (DRV_PWM n) DRV_PWM_ON ≠ 0)
    let tripped := fun (t : State) (n : Nat) (x : Shot) =>
      t.bit (DRV_STATUS n) DRV_STATUS_TRIPPED = true ∧ t.bit (DRV_TRIP_REC n) DRV_TRIP_REC_VALID = true ∧
      (s.bit (DRV_TRIP_REC n) DRV_TRIP_REC_VALID = true → s.reg (DRV_TRIP_TIME_LO n) ≠ BitVec.ofNat 32 s.timeStamp.toNat →
        t.reg (DRV_TRIP_REC n) = s.reg (DRV_TRIP_REC n)) ∧
      (x.tripm = 1 → (t.pulse n).shot = some { x with active := false }) ∧ (x.tripm ≠ 1 → (t.pulse n).shot = none) ∧
      (x.tripm = 2 → t.bit (DRV_STATUS n) DRV_STATUS_LATCH = true)
    let selects := fun (low : Bool) (k : Fin 32) => bitOf (s.reg (if low then DRV_TRIP_L (n / 32 * 32 + k) else DRV_TRIP_H (n / 32 * 32 + k))).toNat (n % 32)
    let levels := fun (t : State) => s.RegsBut t [WEIR_STATUS n] ∧ (∀ m, m ≠ n → t.pair m = s.pair m) ∧ t.pulses = s.pulses ∧
      t = { s with regs := t.regs, pairs := t.pairs }
    let follows := fun (x : Pair) =>
      let v := if s.bit (WEIR_CFG n) WEIR_CFG_CIN then x.pre else x.fout
      let res := s.fld (WEIR_CFG n) WEIR_CFG_RES
      let hy := weirHyst (s.fld (WEIR_CFG n) WEIR_CFG_HYST)
      let h := weirThreshold (s.fld (WEIR_TH n) WEIR_TH_TH_H) res
      let l := weirThreshold (s.fld (WEIR_TH n) WEIR_TH_TH_L) res
      { x with high := if h < v then true else if v < h - hy then false else x.high
               low := if v < l then true else if l + hy < v then false else x.low }
    let moved := fun (x : Pair) (t : State) =>
      let y := follows x
      let rises := fun (low : Bool) => (s.setPair n y).pairLive n low && !s.pairLive n low
      (t.pair n).high = y.high ∧ (t.pair n).low = y.low ∧ (t.pair n).fout = y.fout ∧ (t.pair n).pre = y.pre ∧
      ((∀ low, rises low = false ∨ ∀ k, selects low k = false) → levels t ∧ t.pair n = y) ∧
      (∀ low, rises low = true → (low = true → rises false = false) → ∀ k : Fin 32, selects low k = true →
        ∀ x, (s.pulse (n / 32 * 32 + k)).shot = some x → x.active = true → tripped t (n / 32 * 32 + k) x)
    (p.released = [] → exec (.drvStartRelease u) s = .next s) ∧
    (∀ st r, p.released = st :: r →
      (¬ quiet → s.Does (.drvStartRelease u) fun t => t.pulse n = { p with released := r } ∧ others t ∧ s.RegsBut t [] ∧
        t.ctrs = (s.inc (DRV_DISC_LO n)).ctrs) ∧
      (quiet → s.stampIdle n st = true ∨ p.pend = none ∧ s.budgetFull (n / 32) = false ∧ s.inIdle n st = true →
        s.Does (.drvStartRelease u) fun t => t.pulse n = { p with released := r } ∧ others t ∧
        s.FieldTo t stat DRV_STATUS_IWIN 1 ∧ s.RegsBut t [stat] ∧ t.ctrs = (s.inc (DRV_IWIN_LO n)).ctrs) ∧
      (quiet → s.stampIdle n st = false → p.pend = none → s.budgetFull (n / 32) = true →
        s.bit cfg DRV_CFG_POLICY = false ∨ s.lateness st (50 - s.ns % 50) ≤ s.fld cfg DRV_CFG_TOL →
        s.Does (.drvStartRelease u) fun t => (t.pulse n).pend = some st ∧ (t.pulse n).released = r ∧ (t.pulse n).shot = p.shot ∧
          others t ∧ t.bit stat DRV_STATUS_PEND = true ∧ s.RegsBut t [stat] ∧ t.ctrs = s.ctrs) ∧
      (quiet → s.inIdle n st = false → p.pend = none → s.budgetFull (n / 32) = false → p.shot.isSome = true →
        s.Does (.drvStartRelease u) fun t => t.pulse n = { p with released := r } ∧ others t ∧
          t.bit stat DRV_STATUS_SKIP = true ∧ t.fld stat DRV_STATUS_SKCAUSE = 1 ∧ s.RegsBut t [stat] ∧
          t.ctrs = (s.inc (DRV_SKIP_LO n)).ctrs) ∧
      (quiet → p.pend = none → s.budgetFull (n / 32) = false → on st → s.Does (.drvStartRelease u) fun t => begins t st ∧
        (t.pulse n).released = r ∧ (s.bit (DRV_LRN_CFG n) DRV_LRN_CFG_EN = false → t.ctrs =
          ((if st.stamp.isSome ∧ 0 < s.lateness st 0 ∧ s.lateness st 0 ≤ s.fld cfg DRV_CFG_TOL then s.inc (DRV_STAG_LO n) else s).inc
            (DRV_SHOTS_LO n)).ctrs))) ∧
    (s.pendings = [] → exec .budgetStepBoundary s = .next s) ∧
    (∀ st, s.pendings = [(n, st)] →
      (s.budgetFull (n / 32) = true → s.bit cfg DRV_CFG_POLICY = false ∨ s.lateness st (50 - s.ns % 50) ≤ s.fld cfg DRV_CFG_TOL →
        exec .budgetStepBoundary s = .next s) ∧
      (s.budgetFull (n / 32) = true → s.bit cfg DRV_CFG_POLICY = true → s.fld cfg DRV_CFG_TOL < s.lateness st (50 - s.ns % 50) →
        s.Does .budgetStepBoundary fun t => (t.pulse n).pend = none ∧ (t.pulse n).shot = p.shot ∧ others t ∧
          t.bit stat DRV_STATUS_SKIP = true ∧ t.fld stat DRV_STATUS_SKCAUSE = 0 ∧ t.bit stat DRV_STATUS_PEND = false ∧
          s.RegsBut t [stat] ∧ t.ctrs = (s.inc (DRV_SKIP_LO n)).ctrs) ∧
      (s.budgetFull (n / 32) = false → on st → s.Does .budgetStepBoundary fun t => begins t st ∧ (t.pulse n).pend = none ∧
        t.bit stat DRV_STATUS_PEND = false ∧
        (s.fld cfg DRV_CFG_TOL < s.lateness st 0 → t.bit stat DRV_STATUS_DEFER = true))) ∧
    (p.shot = none → exec (.shotEdge u) s = .next s) ∧
    (∀ x, p.shot = some x → x.mode = 0 →
      (x.active = true → x.nrep + 1 ≤ x.begun → s.Does (.shotEdge u) fun t => (t.pulse n).shot = none ∧ others t ∧
        t.bit stat DRV_STATUS_BUSY = false) ∧
      (x.active = true → x.begun < x.nrep + 1 → s.Does (.shotEdge u) fun t =>
        (t.pulse n).shot = some { x with active := false, t := onEnd x } ∧ others t ∧ t.bit stat DRV_STATUS_BUSY = true) ∧
      (x.active = false → onEnd x ≤ x.t → x.begun < x.nrep + 1 → s.Does (.shotEdge u) fun t => others t ∧
        (t.pulse n).shot =
          some { x with t := x.begun * x.t2, begun := x.begun + 1, active := !(x.tripm == 1 && (s.tripInput n).isSome) })) ∧
    (∀ x, p.shot = some x → 2 ≤ x.mode → x.t1 ≠ 0 ∨ (s.cell n).playing = none → s.Does (.shotEdge u) fun t =>
      (t.pulse n).shot = none ∧ others t ∧ t.bit stat DRV_STATUS_BUSY = false ∧ (x.mode = 2 → (t.cell n).playing = none)) ∧
    (s.Does (.weirTrip u fout pre) (moved { s.pair n with fout := fout, pre := pre })) ∧
    ((s.pair n).blanked = false → exec (.blankingExpire u) s = .next s) ∧
    ((s.pair n).blanked = true → s.Does (.blankingExpire u) (moved { s.pair n with blanked := false }))

/-- R349-R371: Confluence. -/
def Obligations.Confluence : Prop :=
  ∀ (s : State) (q : Req) (d : Fin 1600) (v : Word) (r : Fin 64) (b : Bool),
    let arrived := fun (s : State) (d : Nat) => tblGet (fun _ => []) s.cxb.arrived d
    let plain := fun (t : State) => t = { s with regs := t.regs, staged := t.staged, reply := .done }
    let slot := fun (d : Nat) => 1280 ≤ d ∧ d < 1344
    let src := fieldGet CXB_ROUTE_SRC v
    let rd := fieldGet CXB_RNOW_DST v
    let rs := fieldGet CXB_RNOW_SRC v
    let rejected := fun (t : State) => plain t ∧ s.FieldTo t CXB_STATUS CXB_STATUS_OWN_REJ 1 ∧ s.RegsBut t [CXB_STATUS] ∧ t.staged = s.staged
    let reported := fun (t : State) => plain t ∧ t.bit CXB_STATUS CXB_STATUS_RSVD_WR = true ∧ t.staged = s.staged ∧
      s.RegsBut t [CXB_STATUS, SYS_RSVD_SRC, SYS_RSVD_ADDR]
    (s.cxb.flights = [] → ∀ l, exec (.cxbWordDeliver l) s = .next s) ∧
    (∀ f fs, s.cxb.flights = f :: fs →
      (f.dests.Nodup → (∀ x ∈ f.dests, ¬ slot x) → s.Does (.cxbWordDeliver []) fun t =>
        (∀ x, arrived t x = if x ∈ f.dests then arrived s x ++ [f.word] else arrived s x) ∧
        (∀ x, tblGet (fun _ => none) t.cxb.last x = if x ∈ f.dests then some f.word else tblGet (fun _ => none) s.cxb.last x) ∧
        t.cxb.delivered = s.cxb.delivered + f.dests.length * f.word.size ∧ t.cxb.flights = fs ∧ t = { s with cxb := t.cxb }) ∧
      (∀ x, f.dests = [x] → ¬ slot x → s.Does (.cxbWordDeliver [(x, b)]) fun t =>
        arrived t x = arrived s x ++ [f.word.hurt b] ∧ t.cxb.flights = fs ∧ t.ctrs = (s.inc CXB_PERR_LO).ctrs ∧
        s.FieldTo t CXB_STATUS CXB_STATUS_PERR 1 ∧ s.RegsBut t [CXB_STATUS]) ∧
      (f.dests = [1280 + r.val] →
        let cfg := CXB_RR_CFG r
        let sent := if s.cxb.rrMicro = s.ang.time.toNat / 1000 then tblGet (fun _ => 0) s.cxb.rrSent r.val else 0
        let up := s.bit cfg CXB_RR_CFG_EN && s.bit (CXB_RR_STAT r) CXB_RR_STAT_UP &&
          decide (sent + f.word.size ≤ s.fld cfg CXB_RR_CFG_RATE)
        s.Does (.cxbWordDeliver []) fun t => t.cxb.flights = fs ∧ t.cxb.arrived = s.cxb.arrived ∧
          (up = true → s.RegsBut t [] ∧ t = { s with cxb := t.cxb, out := t.out } ∧ t.out = s.out ++
              [.strm (s.fld cfg CXB_RR_CFG_PEER_DEV) (s.fld cfg CXB_RR_CFG_PEER_SLOT) r f.word] ∧
            tblGet (fun _ => 0) t.cxb.rrSent r.val = sent + f.word.size) ∧
          (up = false → t.out = s.out ∧ s.FieldTo t (CXB_RR_STAT r) CXB_RR_STAT_DROP 1 ∧ s.RegsBut t [CXB_RR_STAT r] ∧
            t.ctrs = (s.incBy (CXB_RR_DROP_LO r) f.word.size).ctrs))) ∧
    (s.access q (CXB_ROUTE d) true = .ok →
      (s.routeAllowed q d src = false → s.Does (.cxbRouteWrite q d v) rejected) ∧
      (s.routeAllowed q d src = true → routeReserved d src = true → s.Does (.cxbRouteWrite q d v) reported) ∧
      (s.routeAllowed q d src = true → routeReserved d src = false → s.tst.run = none →
        (s.armed = true → src ≠ s.shFld (CXB_ROUTE d) CXB_ROUTE_SRC → s.Does (.cxbRouteWrite q d v) fun t =>
          plain t ∧ t.bit CXB_STATUS CXB_STATUS_STAGE_WR = true ∧ t.staged = s.staged ∧ t.reg (CXB_ROUTE d) = s.reg (CXB_ROUTE d)) ∧
        (s.armed = false ∨ src = s.shFld (CXB_ROUTE d) CXB_ROUTE_SRC → v &&& 0xFFFFF800 = 0 →
          s.Does (.cxbRouteWrite q d v) fun t => plain t ∧ s.RegsBut t [] ∧ t.shFld (CXB_ROUTE d) CXB_ROUTE_SRC = src ∧
            ∀ x : Fin 1600, x ≠ d → t.shFld (CXB_ROUTE x) CXB_ROUTE_SRC = s.shFld (CXB_ROUTE x) CXB_ROUTE_SRC))) ∧
    (s.access q CXB_RNOW true = .ok →
      (rnowMay rd = false → s.Does (.cxbRnowWrite q v) reported) ∧
      (rnowMay rd = true → s.routeAllowed q rd rs = false → s.Does (.cxbRnowWrite q v) rejected) ∧
      (rnowMay rd = true → s.routeAllowed q rd rs = true →
        (routeReserved rd rs = true → s.Does (.cxbRnowWrite q v) reported) ∧
        (routeReserved rd rs = false → s.armed = true → s.Does (.cxbRnowWrite q v) fun t =>
          plain t ∧ t.bit CXB_STATUS CXB_STATUS_STAGE_WR = true ∧ t.staged = s.staged ∧ t.reg (CXB_ROUTE rd) = s.reg (CXB_ROUTE rd)) ∧
        (routeReserved rd rs = false → s.armed = false → s.tst.run = none → s.Does (.cxbRnowWrite q v) fun t =>
          plain t ∧ s.FieldTo t (CXB_ROUTE rd) CXB_ROUTE_SRC rs ∧ t.shReg (CXB_ROUTE rd) = t.reg (CXB_ROUTE rd) ∧
          (v &&& 0xF800F800 = 0 → s.RegsBut t [CXB_ROUTE rd])))) ∧
    (s.access q (CXB_OWN d) true = .ok →
      let a := CXB_OWN d
      let mode := fieldGet CXB_OWN_MODE v
      (cxbSuper q = false → s.Does (.cxbOwnWrite q d v) rejected) ∧
      (cxbSuper q = true → s.portLocked d = true → s.Does (.cxbOwnWrite q d v) fun t =>
        if mode = 2 ∧ fieldGet CXB_OWN_INST v = s.fld a CXB_OWN_INST ∧ fieldGet CXB_OWN_SHARE v = s.fld a CXB_OWN_SHARE
        then t = { s with reply := .done } else rejected t) ∧
      (cxbSuper q = true → s.portLocked d = false →
        (mode = 3 ∨ (1392 ≤ d.val ∧ d.val < 1408 ∧ mode = 1) → s.tst.run = none → s.Does (.cxbOwnWrite q d v) reported) ∧
        (mode ≠ 3 → ¬ (1392 ≤ d.val ∧ d.val < 1408 ∧ mode = 1) → s.tst.run = none → v &&& 0x3FFFFD00 = 0 →
          s.Does (.cxbOwnWrite q d v) fun t => plain t ∧ t.fld a CXB_OWN_MODE = mode ∧ s.RegsBut t [a] ∧
            t.fld a CXB_OWN_INST = fieldGet CXB_OWN_INST v ∧ t.fld a CXB_OWN_SHARE = fieldGet CXB_OWN_SHARE v))) ∧
    s.Does (.cxbRouteSwitch d) (fun t => t.routeNow d = s.fld (CXB_ROUTE d) CXB_ROUTE_SRC ∧ t = { s with cxb := t.cxb } ∧
      (∀ x, x ≠ d.val → t.routeNow x = s.routeNow x) ∧ t.cxb.arrived = s.cxb.arrived ∧ t.cxb.flights = s.cxb.flights ∧
      (s.routeNow d ≠ s.fld (CXB_ROUTE d) CXB_ROUTE_SRC → tblGet (fun _ => none) t.cxb.last d.val = none)) ∧
    (s.cxb.border = [] → exec .borderHoldRepeat s = .next s) ∧
    (∀ p x w, s.cxb.border = [(p, true)] → s.destsOf p = [x] → ¬ slot x → tblGet (fun _ => none) s.cxb.last x = some w →
      s.Does .borderHoldRepeat fun t => arrived t x = arrived s x ++ [{ w with word := w.word ||| 2 }] ∧
        (∀ y, y ≠ x → arrived t y = arrived s y) ∧ t = { s with cxb := t.cxb }) ∧
    (tblGet (fun _ => []) s.cxb.playout r.val = [] → exec (.rrPlayout r) s = .next s) ∧
    (∀ w l, tblGet (fun _ => []) s.cxb.playout r.val = w :: l →
      let p := 1280 + r.val
      let flies := fun (t : State) => t.cxb.flights = if s.destsOf p = [] then s.cxb.flights else s.cxb.flights ++ [⟨p, w, s.destsOf p⟩]
      s.Does (.rrPlayout r) fun t => tblGet (fun _ => []) t.cxb.playout r.val = l ∧
        (s.inBorder p = false → flies t ∧ t = { s with cxb := t.cxb }) ∧
        (s.inBorder p = true → tblGet (fun _ => false) s.cxb.released p = false →
          t.cxb.flights = s.cxb.flights ∧ t.inBorder p = true ∧ t = { s with cxb := t.cxb }) ∧
        (s.inBorder p = true → tblGet (fun _ => false) s.cxb.released p = true → flies t ∧ t.inBorder p = false ∧
          s.RegsBut t [CXB_BSTAT (p / 32), CXB_STATUS]))

/-- R398-R415, R427, R428, Table 11.4: commands of the memory block. -/
def Obligations.MemoryCommands : Prop :=
  ∀ (s : State) (q : Req) (line : BitVec 19) (k : BitVec 10) (tile : Fin 16) (bank : Fin 32) (o : Nat) (d0 d1 c : Word),
    let busy := s.bit NVM_STATUS NVM_STATUS_BUSY
    let ownLine := isSuper q && decide (nvmLogFirst ≤ line.toNat ∧ line.toNat < nvmLogEnd)
    let retIs := fun (add : Bool) (page : Nat) (t : State) =>
      match s.retRefusal add k.toNat page with
      | 0 => t.mem = { s.mem with ret := some ⟨add, k.toNat, page, false⟩ } ∧ t.bit MEM_RET_STAT MEM_RET_STAT_BUSY = true ∧
          t.fld MEM_RET_STAT MEM_RET_STAT_RESULT = s.fld MEM_RET_STAT MEM_RET_STAT_RESULT
      | r => t.mem = s.mem ∧ s.FieldTo t MEM_RET_STAT MEM_RET_STAT_RESULT r
    let bankIs := fun (t : State) (r : Nat) => t.mem = s.mem ∧ s.FieldTo t MEM_SRAM_STAT MEM_SRAM_STAT_RESULT r
    let bankGo := fun (t : State) (dis : Bool) (sp : Nat) =>
      t.mem = { s.mem with bank := some ⟨dis, tile, bank, sp, false⟩ } ∧ s.FieldTo t MEM_SRAM_STAT MEM_SRAM_STAT_BUSY 1
    (s.access q ECC_LOG_CTL true = .ok → s.mem.log.length ≤ 32 → s.Does (.eccLogPop q) fun t =>
      t.mem = { s.mem with log := s.mem.log.drop 1 } ∧ t.fld ECC_LOG_CTL ECC_LOG_CTL_COUNT = s.mem.log.length - 1 ∧
      s.RegsBut t [ECC_LOG_CTL, ECC_LOG_W 0, ECC_LOG_W 1, ECC_LOG_W 2, ECC_LOG_W 3] ∧
      (s.mem.log.drop 1 = [] → t.reg (ECC_LOG_W 0) = 0) ∧ t = { s with regs := t.regs, mem := t.mem, reply := .done }) ∧
    (s.bit MEM_PATROL MEM_PATROL_EN = false → exec (.patrolRead o d0 d1 c) s = .next s) ∧
    (s.bit MEM_PATROL MEM_PATROL_EN = true → s.locOff o = .mem o → 2 ^ 37 ≤ o →
      let mid := s.midOf o
      let base := o / 4 * 4
      let n := ones d0 + ones d1 + ones c
      s.codeErr base = CodeErr.none' → s.mem.log.length < 32 → s.mem.last = none →
      (n = 0 → s.Does (.patrolRead o d0 d1 c) fun t => t.mem.bytes = s.mem.bytes ∧ t.mem.log = s.mem.log ∧ t.ctrs = s.ctrs) ∧
      (n = 1 ∨ n = 2 → s.Does (.patrolRead o d0 d1 c) fun t => t.mem.bytes = s.mem.bytes ∧ t.codeErr base = ⟨d0, d1, c, false⟩ ∧
        t.ctrs = (s.inc (if n = 2 then ECC_UE_LO mid else ECC_CE_LO mid)).ctrs ∧
        ∃ e, t.mem.log = s.mem.log ++ [e] ∧ e.ue = (n == 2) ∧ e.mid = mid ∧ e.req = 0x120 ∧ e.addr = base)) ∧
    (s.access q NVM_CMD true = .ok →
      (busy = true → s.Does (.nvmCmdGo q line) fun t => s.FieldTo t NVM_STATUS NVM_STATUS_REFUSED 1 ∧ s.RegsBut t [NVM_STATUS] ∧
        t = { s with regs := t.regs, reply := .done }) ∧
      (busy = false → s.Does (.nvmCmdGo q line) fun t => s.RegsBut t [NVM_STATUS, NVM_CMD] ∧
        t.fld NVM_CMD NVM_CMD_LINE = line.toNat ∧
        (ownLine = false → t.bit NVM_STATUS NVM_STATUS_REFUSED = true ∧ t.fld NVM_STATUS NVM_STATUS_RESULT = 1 ∧ t.mem = s.mem) ∧
        (ownLine = true → s.nvmServing line.toNat = [] → t.fld NVM_STATUS NVM_STATUS_RESULT = 3 ∧ t.mem = s.mem) ∧
        (ownLine = true → s.nvmServing line.toNat ≠ [] → t.bit NVM_STATUS NVM_STATUS_BUSY = true ∧ t.mem = { s.mem with
          nvmQ := s.mem.nvmQ ++ [⟨line.toNat, (List.range 16).map fun j => s.reg (NVM_BUF j), .cmd⟩] }))) ∧
    (s.access q MEM_RET_CMD true = .ok →
      (isSuper q = false → s.Does (.memRetAdd q k) (fun t => t.mem = s.mem ∧ t.reg MEM_RET_STAT = s.reg MEM_RET_STAT) ∧
        s.Does (.memRetRemove q k) (fun t => t.mem = s.mem ∧ t.reg MEM_RET_STAT = s.reg MEM_RET_STAT)) ∧
      (isSuper q = true →
        s.Does (.memRetAdd q k) (retIs true (s.fld MEM_RET_PAGE MEM_RET_PAGE_PAGE)) ∧
        s.Does (.memRetRemove q k) (retIs false (s.fld (MEM_RET_ENTRY k.toNat) MEM_RET_ENTRY_PAGE)))) ∧
    (s.mem.ret = none → exec .retCopyEnd s = .next s) ∧
    (∀ r, s.mem.ret = some r → (r.copied = true → exec .retCopyEnd s = .next s) ∧
      (r.copied = false → s.Does .retCopyEnd fun t => t.mem.ret = some { r with copied := true } ∧ t.mem.bytes = s.mem.bytes ∧
        ∃ l, l.length = 16 ∧ t.mem.nvmQ = s.mem.nvmQ ++ [⟨nvmRetLine + r.idx, l, .ret⟩])) ∧
    (s.access q MEM_SRAM_CMD true = .ok →
      (isSuper q = false → s.Does (.sramBankDisable q tile bank) (fun t => t.mem = s.mem ∧ t.reg MEM_SRAM_STAT = s.reg MEM_SRAM_STAT) ∧
        s.Does (.sramBankEnable q tile bank) (fun t => t.mem = s.mem ∧ t.reg MEM_SRAM_STAT = s.reg MEM_SRAM_STAT)) ∧
      (isSuper q = true →
        s.Does (.sramBankDisable q tile bank) (fun t =>
          if s.mem.bank.isSome then bankIs t 1 else if (s.spareOf tile bank).isSome then bankIs t 2
          else match s.freeSpare tile with | none => bankIs t 4 | some sp => bankGo t true sp) ∧
        s.Does (.sramBankEnable q tile bank) (fun t =>
          if s.mem.bank.isSome then bankIs t 1
          else match s.spareOf tile bank with | none => bankIs t 2 | some sp => bankGo t false sp))) ∧
    (s.mem.bank = none → exec .sramCopyEnd s = .next s) ∧
    (∀ r, s.mem.bank = some r → (r.copied = true → exec .sramCopyEnd s = .next s) ∧
      (r.copied = false → s.Does .sramCopyEnd fun t => t.mem.bank = some { r with copied := true } ∧ t.mem.bytes = s.mem.bytes ∧
        ∃ l, l.length = 16 ∧ t.mem.nvmQ = s.mem.nvmQ ++ [⟨nvmRetLine + 1008 + r.tile, l, .sram⟩]))

/-- R418-R429: DMA engines and the ends of NVM line writes. -/
def Obligations.DmaAndNvmLines : Prop :=
  ∀ (s : State) (e : Fin 16) (p : Fin 64) (h : Fin 2) (ok : Bool),
    let x := s.dma e
    let ended := fun (u t : State) (r : DmaRun) (status : Nat) =>
      (t.dma e).run = none ∧ (t.dma e).fifo = [] ∧ (t.dma e).queue = (u.dma e).queue ∧
      t.mem.bytes = (u.memWrite (0x110 + e) (0x6000000000 + r.cpl) (bytesOf 4 r.done ++ bytesOf 4 (r.gen * 256 + status))).2.mem.bytes ∧
      (r.irq = true → tblGet (fun _ => false) t.irq.occ (0x780 + e.val) = true) ∧
      t.bit (MEM_DMA_STAT e) MEM_DMA_STAT_RUN = false
    let others := fun (t : State) => ∀ d, d ≠ e.val → t.dma d = s.dma d
    (x.run.isSome = true ∨ x.queue = [] → exec (.dmaDescStart e) s = .next s) ∧
    (∀ d rest, x.run = none → x.queue = d :: rest →
      let asleep := s.dmaAsleep [s.dev * 2 ^ 39 + d.addr]
      (asleep ≠ [] → s.Does (.dmaDescStart e) fun t => (t.dma e).queue = x.queue ∧ (t.dma e).run = none ∧ others t ∧
        ∀ b ∈ asleep, s.tileState b = 1 → t.tileState b = 3) ∧
      (∀ l u, asleep = [] → s.readPieces (0x110 + e) .sup (.mem d.addr) 32 = (l, u) → l.length = 8 → (∀ y ∈ l, ∃ b, y.2 = .ok b) →
        let ws := l.map fun y => match y.2 with | .ok b => BitVec.ofNat 32 (natOf b) | .error _ => 0
        let r := runOf d ws
        let v := u.setDma e { x with queue := rest }
        (∀ st, v.dmaCheck r ws = some st → s.Does (.dmaDescStart e) fun t => ended v t r st) ∧
        (v.dmaCheck r ws = none → r.streams = true → v.portBusy e r.port = true → exec (.dmaDescStart e) s = .next s) ∧
        (v.dmaCheck r ws = none → (r.streams && v.portBusy e r.port) = false → s.Does (.dmaDescStart e) fun t =>
          t.dma e = { queue := rest, run := some r, fifo := [] } ∧ t.bit (MEM_DMA_STAT e) MEM_DMA_STAT_RUN = true ∧
          t.mem.bytes = u.mem.bytes ∧ others t))) ∧
    (x.run = none → exec (.dmaBurstDone e) s = .next s) ∧
    (∀ r, x.run = some r →
      (s.dmaOld r = true → s.Does (.dmaBurstDone e) fun t => t.dma e = { x with run := none, fifo := [] } ∧
        t.mem.bytes = s.mem.bytes ∧ t.irq = s.irq ∧ others t) ∧
      (s.dmaOld r = false → r.phase = 1 ∨ r.phase = 3 → exec (.dmaBurstDone e) s = .next s) ∧
      (s.dmaOld r = false → r.phase = 4 → r.data.sub ≠ 0 → s.Does (.dmaBurstDone e) fun t => ended s t r r.data.sub) ∧
      (s.dmaOld r = false → r.phase = 0 ∨ r.phase = 2 → r.abort = true → s.Does (.dmaBurstDone e) fun t => ended s t r 0x12) ∧
      (s.dmaOld r = false → r.phase = 0 → r.abort = false → r.op = 1 → r.dst % 256 = 0 → 0 < r.len → r.len % 4 = 0 → r.done % 256 = 0 →
        r.done < r.len → (r.dst + r.done) / 2 ^ 39 = s.dev → s.locHalted (s.locGlobal 256 (r.dst + r.done)) = false → s.dmaAsleep [r.dst + r.done] = [] →
        let n := min (r.len - r.done) 256
        let bs := (List.replicate (n / 4) (bytesOf 4 r.fill.toNat)).flatten
        ∀ u, s.writeAt (0x110 + e) (codeReq r.sub) (s.locOff ((r.dst + r.done) % 2 ^ 39)) bs = (none, u) →
          (r.done + n < r.len → exec (.dmaBurstDone e) s =
            .next (u.setDma e { u.dma e with run := some { r with done := r.done + n, phase := 0, data := ⟨0, []⟩ } })) ∧
          (r.len ≤ r.done + n → r.trio = [] → r.ecc = false → s.Does (.dmaBurstDone e) fun t =>
            ended u t { r with done := r.done + n } 0))) ∧
    (s.takeArrived (1216 + p.val) = none → exec (.dmaStreamRx p) s = .next s) ∧
    (∀ w s', s.takeArrived (1216 + p.val) = some (w, s') →
      let uses := fun (e : Nat) => match (s.dma e).run with | some r => r.op == 3 && r.port == p.val | none => false
      ((∀ d < 16, uses d = false) → exec (.dmaStreamRx p) s = .next s') ∧
      (∀ d, (List.range 16).find? uses = some d →
        ((s.dma d).fifo.length + w.words.length ≤ 64 → s.Does (.dmaStreamRx p) fun t =>
          t.dma d = { s.dma d with fifo := (s.dma d).fifo ++ w.words } ∧ (∀ b, b ≠ d → t.dma b = s.dma b) ∧
          s'.RegsBut t [MEM_DMA_STAT d] ∧ t.ctrs = s.ctrs) ∧
        (64 ≤ (s.dma d).fifo.length → s.Does (.dmaStreamRx p) fun t => t.dma d = s.dma d ∧
          t.bit (MEM_DMA_STAT d) MEM_DMA_STAT_DROP = true ∧ t.ctrs = (s'.incBy (MEM_DMA_DROP_LO d) w.words.length).ctrs))) ∧
    (s.nvmFront h = none → exec (.nvmLineDurable h ok) s = .next s) ∧
    (∀ w, s.nvmFront h = some w → (s.halted 28 = true → exec (.nvmLineDurable h ok) s = .next s) ∧
     (s.halted 28 = false →
      (w.use = .cmd ∨ w.use = .log → s.Does (.nvmLineDurable h true) fun t =>
        (t.nvmLine w.line).cur.data = w.data ∧ (t.nvmLine w.line).prev = (s.nvmLine w.line).cur ∧ (t.nvmLine w.line).torn = false ∧
        (t.nvmLine w.line).writes = (s.nvmLine w.line).writes + 1 ∧ t.mem.nvmQ = s.mem.nvmQ.erase w ∧
        (∀ l, l ≠ w.line → t.nvmLine l = s.nvmLine l) ∧
        (w.use = .cmd → t.bit NVM_STATUS NVM_STATUS_BUSY = false ∧ t.fld NVM_STATUS NVM_STATUS_RESULT = 0)) ∧
      (w.use = .cmd → (s.mem.nvmBad.filter fun l => (nvmHomes l).contains h.val).length < 15 →
        s.Does (.nvmLineDurable h false) fun t => t.mem.nvm = s.mem.nvm ∧ t.mem.nvmQ = s.mem.nvmQ.erase w ∧ w.line ∈ t.mem.nvmBad ∧
          t.bit NVM_STATUS NVM_STATUS_BUSY = false ∧ t.fld NVM_STATUS NVM_STATUS_RESULT = 2 ∧ s.RegsBut t [NVM_STATUS]) ∧
      (∀ r, w.use = .ret → s.mem.ret = some r → s.Does (.nvmLineDurable h true) fun t =>
        t.mem.ret = none ∧ (t.nvmLine w.line).cur.data = w.data ∧
        t.bit MEM_RET_STAT MEM_RET_STAT_BUSY = false ∧ t.fld MEM_RET_STAT MEM_RET_STAT_RESULT = 0 ∧
        t.reg (MEM_RET_ENTRY r.idx) = if r.add then BitVec.ofNat 32 (2 ^ 31 + r.page) else 0))) ∧
    (s.halfFailed h = true → exec (.nvmHalfFail h) s = .next s) ∧
    (s.halfFailed h = false → s.mem.nvmQ = [] → s.Does (.nvmHalfFail h) fun t => t.halfFailed h = true ∧
      t.bit JNL_STATUS JNL_STATUS_DEGRADED = true ∧ t.mchk = true ∧ t.mem = s.mem)

/-- R456-R465, R553, Table 13.2: the interrupt controller. -/
def Obligations.InterruptController : Prop :=
  ∀ (s : State) (q : Req) (f : Fin 4096) (v : Word),
    let n := f.val
    let x := s.irqSrc n
    let ev := s.occurred n
    let src := fun (t : State) (n : Nat) (y : IrqSrc) => t.irqSrc n = y ∧ ∀ m, m ≠ n → t.irqSrc m = s.irqSrc m
    let k := IRQ_CLAIM (reqCode q)
    let m := fieldGet IRQ_DONE_SRC v
    let y := s.irqSrc m
    let may := y.phase = .claimed ∧ (y.claimer = reqCode q ∨ q = .sup ∨ q = .host ∨ q = .jtag)
    (s.halted 24 = true → exec (.irqSourceChange f) s = .next s) ∧
    (s.halted 24 = false → s.Does (.irqSourceChange f) fun t =>
      s.RegsBut t [] ∧ t = { s with irq := t.irq, out := t.out } ∧ t.occurred n = false ∧
      (∀ m, m ≠ n → t.occurred m = s.occurred m) ∧
      (s.isEvent n = true →
        (ev = false → src t n x ∧ t.out = s.out) ∧
        (ev = true → x.phase = .idle → src t n { x with phase := .pending }) ∧
        (ev = true → x.phase = .pending → src t n x) ∧
        (ev = true → x.phase = .claimed → src t n { x with re := true })) ∧
      (s.isEvent n = false →
        (x.phase = .idle → src t n (if s.asserted n then { x with phase := .pending } else x)) ∧
        (x.phase = .pending → src t n (if s.asserted n then x else ⟨.idle, 0, false⟩)) ∧
        (x.phase = .claimed → src t n x ∧ t.out = s.out)) ∧
      (x.phase = .idle → (t.irqSrc n).phase = .pending → 0x7E0 ≤ n → n ≤ 0x7E7 → OutMsg.msix 0 1 ∈ t.out)) ∧
    (s.access q irqClaimAddr true = .ok → v &&& 0xFFFFF000 = 0 → s.Does (.irqClaimWrite q v) fun t =>
      let c := fieldGet IRQ_CLAIM_SRC v
      t.fld k IRQ_CLAIM_SRC = (if s.irqShown q c then c else 0xFFF) ∧ s.RegsBut t [k] ∧
      (if s.irqShown q c then src t c { s.irqSrc c with phase := .claimed, claimer := reqCode q } else t.irq = s.irq) ∧
      t = { s with regs := t.regs, irq := t.irq, reply := .done }) ∧
    (s.access q irqClaimAddr false = .ok → exec (.irqClaimRead q) s = .next (s.answer (.value (s.reg k).toNat))) ∧
    (s.access q IRQ_DONE true = .ok → v &&& 0xFFFFF000 = 0 →
      (may → s.Does (.irqDone q v) fun t => s.RegsBut t [] ∧ t = { s with regs := t.regs, irq := t.irq, reply := .done } ∧
        src t m (if (!s.isEvent m && s.asserted m) || y.re then ⟨.pending, 0, false⟩ else ⟨.idle, 0, false⟩)) ∧
      (¬ may → s.Does (.irqDone q v) fun t => s.FieldTo t IRQ_STATUS IRQ_STATUS_DONE_REJ 1 ∧ s.RegsBut t [IRQ_STATUS] ∧
        t = { s with regs := t.regs, reply := .done })) ∧
    (s.access q IRQ_SWSET true = .ok → v &&& 0xFFFFF000 = 0 →
      (0x900 ≤ v.toNat → v.toNat ≤ 0x9FF → s.Does (.irqSwset q v) fun t => t.occurred v.toNat = true ∧
        (∀ c, c ≠ v.toNat → t.occurred c = s.occurred c) ∧ t.irq.src = s.irq.src ∧ s.RegsBut t []) ∧
      (v.toNat < 0x900 ∨ 0x9FF < v.toNat → s.Does (.irqSwset q v) fun t => t.irq = s.irq ∧
        t.bit IRQ_STATUS IRQ_STATUS_RSVD_WR = true ∧ s.RegsBut t [IRQ_STATUS, SYS_RSVD_SRC, SYS_RSVD_ADDR]))

/-- R468-R477, R642: the pin block. -/
def Obligations.PinCommands : Prop :=
  ∀ (s : State) (q : Req) (g : Fin 16) (v : Word) (p : Fin 256) (k : Fin 32) (b : Bool) (r : Fin 3),
    let n := p.val
    let mine := fun (m : Nat) => s.pinOwn m ≠ 2 ∧ s.pinOwner q m = true
    let refused := [PIN_STATUS, PIN_REJ]
    let rejected := fun (t : State) => t.bit PIN_STATUS PIN_STATUS_PIN_REJ = true ∧ t.bit PIN_REJ PIN_REJ_VALID = true ∧
      (s.bit PIN_REJ PIN_REJ_VALID = true → t.reg PIN_REJ = s.reg PIN_REJ)
    let locked := fun (t : State) => rejected t ∧ s.RegsBut t refused ∧ t = { s with regs := t.regs, reply := .done } ∧
      (s.bit PIN_REJ PIN_REJ_VALID = false → t.fld PIN_REJ PIN_REJ_CAUSE = 2 ∧ t.fld PIN_REJ PIN_REJ_PIN = n ∧
        t.fld PIN_REJ PIN_REJ_SOURCE = reqCode q)
    let port := 1344 + k.val
    let gets := fun (m : Nat) => s.pinOwn m ≠ 2 ∧ s.pinMux m = 2 ∧ s.pinOe m = true ∧ s.sameOwner m port = true
    (s.access q (PIN_OUT g) true = .ok → s.Does (.pinOutWrite q g v) fun t =>
      let ok := fun (i : Fin 16) => mine (16 * g + i) ∧ s.pinMux (16 * g + i) = 0
      (∀ i : Fin 16, (v.getLsbD (16 + i) = true → ok i → t.pinOut (16 * g + i) = v.getLsbD i) ∧
        (v.getLsbD (16 + i) = false ∨ ¬ ok i → t.pinOut (16 * g + i) = s.pinOut (16 * g + i)) ∧
        (v.getLsbD (16 + i) = true → ¬ ok i → rejected t)) ∧
      ((∀ i : Fin 16, v.getLsbD (16 + i) = true → ok i) → s.RegsBut t [PIN_OUT g]) ∧
      s.RegsBut t (PIN_OUT g :: refused) ∧ t = { s with regs := t.regs, twin := t.twin, reply := .done }) ∧
    (s.access q (PIN_OE g) true = .ok → s.Does (.pinOeWrite q g v) fun t =>
      let ok := fun (i : Fin 16) => mine (16 * g + i) ∧ (s.pinMux (16 * g + i) = 0 ∨ s.pinMux (16 * g + i) = 2)
      (∀ i : Fin 16, (v.getLsbD (16 + i) = true → ok i → t.pinOe (16 * g + i) = v.getLsbD i) ∧
        (v.getLsbD (16 + i) = false ∨ ¬ ok i → t.pinOe (16 * g + i) = s.pinOe (16 * g + i)) ∧
        (v.getLsbD (16 + i) = true → ¬ ok i → rejected t)) ∧
      s.RegsBut t (PIN_OE g :: refused) ∧ t = { s with regs := t.regs, reply := .done }) ∧
    (s.access q (PIN_CFG n) true = .ok →
      (s.pinOwn n = 2 → s.Does (.pinCfgWrite q p v) locked) ∧
      (s.pinOwn n ≠ 2 → fieldGet PIN_CFG_OWN v ≠ 2 → exec (.pinCfgWrite q p v) s = .next ((s.regWrite q (PIN_CFG n) v).answer .done)) ∧
      (s.pinOwn n ≠ 2 → fieldGet PIN_CFG_OWN v = 2 → reservedEncoding (fieldsAt (PIN_CFG n)) v = false →
        reservedEncoding (fieldsAt (PIN_CFG n)) (s.shReg (PIN_CFG n)) = false →
        v &&& reservedBits (fieldsAt (PIN_CFG n)) = 0 → s.armed = false → s.Does (.pinCfgWrite q p v) fun t =>
          t.pinOwn n = 2 ∧ t.fld (PIN_CFG n) PIN_CFG_INST = fieldGet PIN_CFG_INST v ∧ t.pinMux n = s.pinMux n ∧
          t.shReg (PIN_CFG n) = t.reg (PIN_CFG n) ∧ t.shReg (PIN_FAB n) = s.reg (PIN_FAB n) ∧ s.RegsBut t [PIN_CFG n])) ∧
    (s.access q (PIN_FAB n) true = .ok →
      (s.pinOwn n = 2 → s.Does (.pinFabWrite q p v) locked) ∧
      (s.pinOwn n ≠ 2 → exec (.pinFabWrite q p v) s = .next ((s.regWrite q (PIN_FAB n) v).answer .done))) ∧
    (s.takeArrived port = none → exec (.gpioGroupWord k) s = .next s) ∧
    (∀ w s', s.takeArrived port = some (w, s') →
      let fifo := (s.pgroup k).fifo
      (w.poisoned = true ∨ 8 < (fifo.map CWord.size).sum + w.size → s.Does (.gpioGroupWord k) fun t =>
        t.ctrs = (s'.inc PIN_SDROP_LO).ctrs ∧ s.FieldTo t PIN_STATUS PIN_STATUS_SDROP 1 ∧ s.RegsBut t [PIN_STATUS] ∧ t.pins = s.pins) ∧
      (w.poisoned = false → w.stamp = none → fifo = [] → s.Does (.gpioGroupWord k) fun t => (t.pgroup k).fifo = [] ∧
        s.RegsBut t (PIN_OUT (k / 2) :: refused) ∧
        (wordFlag w.word 1 = true → s.RegsBut t []) ∧
        (wordFlag w.word 1 = false → ∀ i : Fin 8,
          (w.word.getLsbD (16 + i) = true → gets (8 * k + i) → t.pinOut (8 * k + i) = w.word.getLsbD (24 + i)) ∧
          (w.word.getLsbD (16 + i) = false ∨ ¬ gets (8 * k + i) → t.pinOut (8 * k + i) = s.pinOut (8 * k + i)) ∧
          (w.word.getLsbD (16 + i) = true → ¬ gets (8 * k + i) → rejected t)))) ∧
    s.Does (.pinInputChange [(p, b)]) (fun t =>
      t.pinIn n = (b && !bitOf (s.fld PWR_VIO_UV PWR_VIO_UV_UV) (n / 16)) ∧ (∀ m : Fin 256, m ≠ p → t.pinIn m = s.pinIn m) ∧
      t.pmWas k = t.pmMatch k ∧
      (s.bit (PM_CTL k) PM_CTL_EN = true → s.fld (PM_CTL k) PM_CTL_MODE = 1 → s.pmWas k = false → t.pmMatch k = true →
        t.occurred (0x790 + k) = true ∧ t.reg (PM_TIME_LO k) = s.ang.time.extractLsb' 0 32 ∧
        t.reg (PM_ANG_LO k) = s.angle.extractLsb' 0 32)) ∧
    (s.access q (PM_CTL k) true = .ok → s.Does (.pmWrite q k r v) fun t => t.pmWas k = t.pmMatch k ∧ t.irq = s.irq ∧
      (r = 1 → t.reg (PM_VAL k) = v ∧ s.RegsBut t [PM_VAL k]) ∧ (2 ≤ r.val → t.reg (PM_MASK k) = v ∧ s.RegsBut t [PM_MASK k]) ∧
      (r = 0 → v &&& 0x18FFFFFF = 0 → v &&& 0x60000000 ≠ 0x60000000 → t.reg (PM_CTL k) &&& 0xE7000000 = v &&& 0xE7000000 ∧ s.RegsBut t [PM_CTL k]))

/-- R433-R450, R557, R127: instances. R662-R668: the in-service test. -/
def Obligations.InstancesAndInServiceTest : Prop :=
  (
    ∀ (s : State) (q : Req) (j : Fin 256) (fn : Fin 257),
      let i := j.val
      let st := s.ctxState i
      let reg := INST_STATE i
      let busy := s.bit reg INST_STATE_RESET_BUSY
      let others := fun (t : State) => ∀ c, c ≠ i → t.ctx c = s.ctx c
      let plain := fun (t : State) => t = { s with regs := t.regs, ctxs := t.ctxs, stq := t.stq, reply := .done }
      let bad := fun (t : State) => plain t ∧ s.FieldTo t reg INST_STATE_BADOP 1 ∧ s.RegsBut t [reg] ∧ t.ctx i = s.ctx i ∧ others t
      let starts := st = ctxStopped ∧ s.bit (INST_CFG i) INST_CFG_EN = true ∧ busy = false ∧ s.worksHere = true
      let reset := fun (i : Nat) (t : State) =>
        t.genOf i = (s.genOf i + 1) % 256 ∧ t.bit (INST_STATE i) INST_STATE_RESET_BUSY = true ∧ t.ctxState i = ctxStopped ∧
        (t.ctx i).stores = [] ∧ (t.ctx i).tx = [] ∧ (t.ctx i).rx = [] ∧ (t.ctx i).unitOut = 0 ∧ (t.ctx i).stall = .none ∧
        t.reg (INST_HELD i) = 0 ∧ (∀ o ∈ t.stq, isInst o.issuer i = false) ∧ (∀ c, c ≠ i → t.ctx c = s.ctx c) ∧
        (∀ d ∈ (s.ctx i).sentTo, s.pwr.standby = false → s.twinStandby = false →
          OutMsg.leat .gnot d [i, (s.genOf i + 1) % 256] ∈ t.out) ∧
        (s.host.cmds = [] → t.mem.bytes = s.mem.bytes)
      (s.access q instCtlBus true = .ok →
        (¬ starts → s.Does (.instStart q j) bad) ∧
        (starts → s.Does (.instStart q j) fun t => plain t ∧ others t ∧ s.FieldTo t reg INST_STATE_STATE ctxRun ∧ s.RegsBut t [reg] ∧
          t.ctx i = { Ctx.reset with pc := s.reg (INST_PC i) }) ∧
        (st = ctxStopped → s.Does (.instHold q j) bad) ∧
        (st = ctxHeld → s.Does (.instHold q j) fun t => t = { s with regs := t.regs, reply := .done } ∧ s.RegsBut t []) ∧
        (st = ctxRun ∨ st = ctxWait → s.Does (.instHold q j) fun t => others t ∧
          t = { s with regs := t.regs, ctxs := t.ctxs, stq := t.stq, leat := t.leat, reply := .done } ∧
          if (s.ctx i).stall.isMem then plain t ∧ t.ctx i = { s.ctx i with holdReq := some 0 } ∧ t.ctxState i = st ∧ s.RegsBut t []
          else t.leat = { s.leat with reqs := s.leat.reqs.filter (·.who != Waiter.urd i) } ∧ t.ctxState i = ctxHeld ∧ t.ctx i = { s.ctx i with stall := .none } ∧ s.RegsBut t [reg, INST_HELD i] ∧
            t.bit (INST_HELD i) INST_HELD_VALID = true) ∧
        (st ≠ ctxHeld ∨ s.fenced = true → s.Does (.instResume q j) bad) ∧
        (st = ctxHeld → s.fenced = false → s.Does (.instResume q j) fun t => plain t ∧ others t ∧ t.ctx i = s.ctx i ∧
          s.FieldTo t reg INST_STATE_STATE ctxRun ∧ s.RegsBut t [reg]) ∧
        (busy = true → s.Does (.instReset q j) fun t => t = { s with regs := t.regs, reply := .done } ∧ s.RegsBut t []) ∧
        (busy = false → s.Does (.instReset q j) (reset i))) ∧
      s.Does (.functionLevelReset fn) (fun t =>
        let p := if fn.val = 0 then 256 else fn.val - 1
        t.bit (QP_CFG p) QP_CFG_EN = false ∧ t.qp p = Qp.reset ∧
        (fn.val ≠ 0 → s.bit (INST_STATE p) INST_STATE_RESET_BUSY = false → reset p t)) ∧
      s.Does (.resetDrained j) (fun t => if busy && !s.undrained i then
          s.FieldTo t reg INST_STATE_RESET_BUSY 0 ∧ s.RegsBut t [reg] ∧ t = { s with regs := t.regs } else t = s)) ∧
  (
    ∀ (s : State) (cls : Fin 4) (i : BitVec 16) (pass : Bool) (ex me li : Word),
      let may := s.tstOn = true ∧ s.tst.run = none ∧ s.tstClass cls = true ∧ (s.tst.passing = true ∨ s.passDue = true)
      let free := s.tstFree cls i.toNat = true ∧ (s.tst.passing = true → s.tstDone cls i.toNat < tstSteps cls)
      let stat := TST_STATUS
      (¬ may ∨ ¬ free → exec (.tstStepStart cls i) s = .next s) ∧
      (may → free → s.Does (.tstStepStart cls i) fun t =>
        t.tst.run = some (cls.val, i.toNat) ∧ t.tst.passing = true ∧ t.bit stat TST_STATUS_RUNNING = true ∧
        t.fld stat TST_STATUS_CLASS = cls.val ∧ t.mem = s.mem ∧ t.pairs = s.pairs ∧
        (s.tst.passing = true → t.tst.done = s.tst.done ∧ s.RegsBut t [stat, WEIR_STATUS (i.toNat / 2)]) ∧
        (s.tst.passing = false → t.tst.done = [] ∧ t.tst.failed = 0 ∧ t.tst.began = some s.ns ∧ t.reg TST_PROG = 0 ∧
          s.RegsBut t [stat, TST_PROG, WEIR_STATUS (i.toNat / 2)])) ∧
      (s.tst.run = none → exec (.tstStepEnd pass ex me li) s = .next s) ∧
      (∀ c n, s.tst.run = some (c, n) → s.Does (.tstStepEnd pass ex me li) fun t =>
        t.tst.run = none ∧ t.bit stat TST_STATUS_RUNNING = false ∧ t.tst.done = (c, n) :: s.tst.done ∧
        (c ≠ 3 → t.mem = s.mem) ∧ (c = 1 → 200 ≤ if n % 2 = 0 then (t.pair (n / 2)).holdH else (t.pair (n / 2)).holdL) ∧
        (pass = true → t.tst.failed = s.tst.failed ∧ t.bit stat TST_STATUS_FAIL = s.bit stat TST_STATUS_FAIL ∧
          t.reg TST_FREC = s.reg TST_FREC) ∧
        (pass = false → t.tst.failed = s.tst.failed + 1 ∧ t.bit stat TST_STATUS_FAIL = true ∧ t.occurred 0x820 = true ∧
          (0x10 + c, [n, 2, ex.toNat, me.toNat, li.toNat]) ∈ t.health ∧
          t.reg TST_FREC = if s.bit TST_FREC TST_FREC_VALID then s.reg TST_FREC else BitVec.ofNat 32 (2 ^ 31 + c * 2 ^ 16 + n))) ∧
      (s.tst.began = none ∨ s.tst.passing = false → exec .tstOverdue s = .next s) ∧
      (∀ b, s.tst.began = some b → s.tst.passing = true →
        (s.ns < b + s.tstPeriod → exec .tstOverdue s = .next s) ∧
        (b + s.tstPeriod ≤ s.ns → (∀ x ∈ s.tstLeft, s.tstFree x.1 x.2 = false) → s.Does .tstOverdue fun t =>
          t.tst.passing = false ∧ t.bit stat TST_STATUS_OVERDUE = false ∧ t.ctrs = (s.inc TST_PASSES_LO).ctrs ∧
          t.occurred 0x821 = true ∧ t.fld TST_NOTFREE TST_NOTFREE_NF = min s.tstLeft.length 65535) ∧
        (b + s.tstPeriod ≤ s.ns → (∃ x ∈ s.tstLeft, s.tstFree x.1 x.2 = true) → s.Does .tstOverdue fun t =>
          t.tst = s.tst ∧ s.FieldTo t stat TST_STATUS_OVERDUE 1 ∧ s.RegsBut t [stat] ∧ t = { s with regs := t.regs })))

/-- R380-R393, Tables 10.6 and 10.7: the logic fabric. -/
def Obligations.LogicFabric : Prop :=
  ∀ (s : State) (q : Req) (f p : Fin 256) (auto : Bool) (v : BitVec 31),
    let r := f.val
    let st := s.rgState r
    let stat := LGC_RG_STATUS r
    let x := s.region r
    let plain := fun (t : State) => t = { s with regs := t.regs, lgc := t.lgc, reply := .done }
    let cells := fun (t : State) (h : Nat → LCell) => (∀ m < 32, t.lcell (32 * r + m) = h m) ∧
      ∀ g, g / 32 ≠ r → t.lcell g = s.lcell g
    let init := fun (t : State) => cells t fun m =>
      { s.lcell (32 * r + m) with q0 := (s.lcell (32 * r + m)).init0, q1 := (s.lcell (32 * r + m)).init1 }
    let badop := fun (t : State) => plain t ∧ t.lgc = s.lgc ∧ s.FieldTo t stat LGC_RG_STATUS_BADOP 1 ∧ s.RegsBut t [stat]
    let same := fun (t : State) => plain t ∧ t.lgc = s.lgc ∧ s.RegsBut t []
    let failed := fun (t : State) (c : Nat) => t.rgState r = rgFailed ∧ t.fld stat LGC_RG_STATUS_CAUSE = c ∧ init t
    (s.access q (LGC_RG_CTL r) true = .ok →
      (st = rgRun → s.Does (.lgcEnable q f) same) ∧
      (st = rgStopped → s.Does (.lgcEnable q f) fun t => plain t ∧ t.lgc = s.lgc ∧ s.FieldTo t stat LGC_RG_STATUS_STATE 0 ∧ s.RegsBut t [stat]) ∧
      (st = rgLoaded → s.Does (.lgcEnable q f) fun t => t.rgState r = rgRun ∧ t.fld stat LGC_RG_STATUS_CAUSE = 0 ∧ t.lgc = s.lgc ∧
        s.RegsBut t [stat] ∧ t = { s with regs := t.regs, cxb := t.cxb, reply := .done } ∧
        ∀ n ∈ s.portsOf r, s.inBorder (960 + n) = true → tblGet (fun _ => false) t.cxb.released (960 + n) = true) ∧
      (st ≠ rgRun → st ≠ rgStopped → st ≠ rgLoaded → s.Does (.lgcEnable q f) badop) ∧
      (st = rgRun → s.Does (.lgcDisable q f) fun t => plain t ∧ s.FieldTo t stat LGC_RG_STATUS_STATE 1 ∧ s.RegsBut t [stat] ∧
        t.region r = { x with frozen := (s.regWrite q (LGC_RG_CTL r) 2).outputsNow r } ∧ t.lgc.cells = s.lgc.cells ∧
        ∀ n, n ≠ r → t.region n = s.region n) ∧
      (st ≠ rgRun → s.Does (.lgcDisable q f) same) ∧
      s.Does (.lgcClear q f) (fun t => plain t ∧ t.bit stat LGC_RG_STATUS_BADOP = false ∧ t.bit stat LGC_RG_STATUS_LATE = false ∧
        t.rgState r = st ∧ s.RegsBut t [stat] ∧ (if 2 ≤ st then t.lgc = s.lgc else init t)) ∧
      (st = rgLoading → s.Does (.lgcReconf q f auto) badop) ∧
      (st ≠ rgLoading → s.Does (.lgcReconf q f auto) fun t => t.rgState r = rgLoading ∧ t.fld stat LGC_RG_STATUS_CAUSE = 0 ∧
        (t.region r).auto = auto ∧ (t.region r).issuer = q ∧ (t.region r).issuerReset = false ∧
        (st ≠ rgRun → (t.region r).frozen = x.frozen) ∧
        (st = rgRun → (t.region r).frozen = (s.regWrite q (LGC_RG_CTL r) (if auto then 0x104 else 4)).outputsNow r) ∧
        t.lgc.cells = s.lgc.cells ∧ (∀ n ∈ s.portsOf r, t.inBorder (960 + n) = true) ∧
        (s.portsOf r = [] → s.RegsBut t [stat] ∧ plain t))) ∧
    (st ≠ rgLoading → exec (.reconfLoadEnd f) s = .next s) ∧
    (st = rgLoading →
      let o := s.fld (LGC_RG_IMG_HI r) LGC_RG_IMG_HI_ADDR_HI * 2 ^ 32 + (s.reg (LGC_RG_IMG_LO r) &&& ~~~ 63).toNat
      (x.issuerReset = true → s.Does (.reconfLoadEnd f) (failed · 5)) ∧
      (x.issuerReset = false → s.locOff o ≠ .mem o ∨ s.locOff (o + 4095) ≠ .mem (o + 4095) ∨ 0x6100000000 ≤ o →
        s.Does (.reconfLoadEnd f) (failed · 1)) ∧
      (x.issuerReset = false → s.locOff o = .mem o → s.locOff (o + 4095) = .mem (o + 4095) → o < 0x6100000000 →
        (∀ u, s.memRead (s.rgReq r) o 4096 = (none, u) → s.Does (.reconfLoadEnd f) (failed · 1)) ∧
        (∀ l u, s.memRead (s.rgReq r) o 4096 = (some l, u) →
          (imageCause l (s.fld (LGC_RG_CFG r) LGC_RG_CFG_GCEN) ≠ 0 → s.Does (.reconfLoadEnd f)
            (failed · (imageCause l (s.fld (LGC_RG_CFG r) LGC_RG_CFG_GCEN)))) ∧
          (imageCause l (s.fld (LGC_RG_CFG r) LGC_RG_CFG_GCEN) = 0 → s.Does (.reconfLoadEnd f) fun t =>
            t.rgState r = (if x.auto then rgRun else rgLoaded) ∧
            cells t fun m => readCell ((l.drop (64 + 64 * m)).take 64))))) ∧
    (s.takeArrived (960 + p.val) = none → exec (.logicPortRx p) s = .next s) ∧
    (∀ w s', s.takeArrived (960 + p.val) = some (w, s') →
      let y := s.lport p
      (y.fifo.length + w.size ≤ 8 → s.Does (.logicPortRx p) fun t => (∀ n, n ≠ p.val → t.lport n = s.lport n) ∧
        t.lport p = { y with fifo := y.fifo ++ match w.stamp with | some (a, b) => [w.word, a, b] | none => [w.word] } ∧
        t = { s' with lgc := t.lgc }) ∧
      (8 < y.fifo.length + w.size → s.Does (.logicPortRx p) fun t => t.lgc = s.lgc ∧ s'.RegsBut t [LGC_STATUS (p / 16)] ∧
        t.reg (LGC_STATUS (p / 16)) = s.reg (LGC_STATUS (p / 16)) ||| BitVec.ofNat 32 (2 ^ (p.val % 16)))) ∧
    (let w : Word := (1 : BitVec 1) ++ v
     let done := s.bit OBS_STATUS OBS_STATUS_DONE
     let ahead := Stamp.beyond s.capStamp s.angle
     s.access q OBS_CAP_CTL true = .ok →
      (s.debugLock = true → s.Does (.obsCapArm q v) fun t => plain t ∧ t.lgc = s.lgc ∧ s.RegsBut t [OBS_STATUS] ∧
        s.FieldTo t OBS_STATUS OBS_STATUS_DENIED 1) ∧
      (s.debugLock = false → reservedEncoding (fieldsAt OBS_CAP_CTL) w = true → s.Does (.obsCapArm q v) fun t => t.lgc = s.lgc ∧
        t.bit OBS_STATUS OBS_STATUS_RSVD_WR = true ∧ t.reg OBS_CAP_CTL = s.reg OBS_CAP_CTL) ∧
      (s.debugLock = false → reservedEncoding (fieldsAt OBS_CAP_CTL) w = false → w &&& 0x003FF000 = 0 →
        s.Does (.obsCapArm q v) fun t => s.RegsBut t [OBS_STATUS, OBS_CAP_CTL] ∧
          (fieldGet OBS_CAP_CTL_TRIG w = 1 → ahead = true → t.reg OBS_STATUS = s.reg OBS_STATUS ∧ t.lgc = s.lgc ∧ t.stq = s.stq) ∧
          (fieldGet OBS_CAP_CTL_TRIG w ≠ 1 ∨ ahead = false → t.bit OBS_STATUS OBS_STATUS_ARMED = true) ∧
          t.reg OBS_CAP_CTL &&& 0x7FC00FFF = w &&& 0x7FC00FFF ∧ t.lgc.obs.buf = s.lgc.obs.buf ∧
          (fieldGet OBS_CAP_CTL_TRIG w = 0 → t.lgc.obs.triggered = !done ∧ (done = true → t.bit OBS_STATUS OBS_STATUS_MISSED = true)) ∧
          (fieldGet OBS_CAP_CTL_TRIG w = 1 → ahead = false → s.late s.capStamp .fwd 50 = false → t.lgc.obs.triggered = false ∧
            (⟨kindCapture, 0, s.capStamp, .fwd, .capture, q, 0⟩ : StOp) ∈ t.stq) ∧
          (fieldGet OBS_CAP_CTL_TRIG w = 1 → ahead = false → s.late s.capStamp .fwd 50 = true → t.lgc.obs.triggered = !done ∧
            t.bit OBS_STATUS OBS_STATUS_LATE = true) ∧
          (fieldGet OBS_CAP_CTL_TRIG w = 2 → t.lgc.obs.triggered = false ∧
            ∀ o ∈ t.stq, o.kind ≠ kindCapture))) ∧
    (let armed := s.bit OBS_STATUS OBS_STATUS_ARMED && !s.debugLock
     (s.fld OBS_CAP_CTL OBS_CAP_CTL_TRIG ≠ 2 ∨ armed = false → exec .obsTrigger s = .next s) ∧
     (s.fld OBS_CAP_CTL OBS_CAP_CTL_TRIG = 2 → armed = true → s.Does .obsTrigger fun t =>
        if s.bit OBS_STATUS OBS_STATUS_DONE then s.FieldTo t OBS_STATUS OBS_STATUS_MISSED 1 ∧ s.RegsBut t [OBS_STATUS] ∧
          t = { s with regs := t.regs }
        else t = { s with lgc := { s.lgc with obs := { s.lgc.obs with triggered := true } } }) ∧
     ((armed && s.lgc.obs.triggered && s.gcOn s.capGc) = false → exec .obsCapture s = .next s) ∧
     ((armed && s.lgc.obs.triggered && s.gcOn s.capGc) = true → s.Does .obsCapture fun t =>
        t.bit OBS_STATUS OBS_STATUS_DONE = true ∧ t.bit OBS_STATUS OBS_STATUS_ARMED = false ∧ t.lgc.obs.triggered = false ∧
        t.lgc.obs.buf = capBuffer s (s.gcEdge s.capGc) ∧ t.reg OBS_CAP_TIME_LO = s.ang.time.extractLsb' 0 32 ∧
        t.reg OBS_CAP_STAMP_LO = s.angle.extractLsb' 0 32)) ∧
    (s.access q OBS_CAP_DATA false = .ok → s.Does (.obsCapDataRead q) fun t =>
      let a := s.fld OBS_CAP_ADDR OBS_CAP_ADDR_ADDR
      t.reply = .value (if s.debugLock then 0 else tblGet (fun _ => (0 : Word)) s.lgc.obs.buf a).toNat ∧
      t.fld OBS_CAP_ADDR OBS_CAP_ADDR_ADDR = (a + 1) % 1024 ∧ s.RegsBut t [OBS_CAP_ADDR] ∧
      t = { s with regs := t.regs, reply := t.reply })

/-- R451, R487, R495, R504, R506-R508, R513, R518: the messages of a chain. -/
def Obligations.ChainAngleAndMembers : Prop :=
  ∀ (s : State) (rx : Rx) (m : AngMsg) (dev : Fin 512) (st : Fin 8) (gen : Word) (jseq : BitVec 64) (role : Fin 3)
    (mg : BitVec 16) (paths : List PathRec) (port : Fin 4) (on : Bool) (inst : Fin 256) (g : Byte),
    let p := rx.port.val
    let d := dev.val
    let ports := fun (t : State) => t.leat.ports
    let portGood := fun (t : State) => t.lp p = { s.lp p with bad := 0 } ∧ ∀ n, n ≠ p → t.lp n = s.lp n
    let still := fun (t : State) => t = { s with leat := { s.leat with ports := ports t } } ∧ portGood t
    let head := s.bit ANG_STATUS ANG_STATUS_HEADWATER
    let silent := s.pwr.standby || s.twinStandby
    let lost := s.bit LEAT_STATUS LEAT_STATUS_DIST_LOST
    let age := s.fld (LEAT_PATH s.headIdx) LEAT_PATH_ONEWAY - 120
    let pathsSet := fun (t : State) =>
      ((paths.map (·.dev)).Nodup → ∀ x ∈ paths, t.bit (LEAT_PATH x.dev.val) LEAT_PATH_L1 = x.l1 ∧
        t.fld (LEAT_PATH x.dev.val) LEAT_PATH_PORT = x.port.val ∧ t.fld (LEAT_PATH x.dev.val) LEAT_PATH_HOPS = x.hops.toNat ∧
        t.fld (LEAT_PATH x.dev.val) LEAT_PATH_ONEWAY = x.oneway.toNat) ∧
      (∀ n < 512, (∀ x ∈ paths, x.dev.val ≠ n) → ∀ f, Field.apart LEAT_PATH_MEMBER f = true →
        t.fld (LEAT_PATH n) f = s.fld (LEAT_PATH n) f) ∧
      (paths ≠ [] → t.leat.angPort = t.fld (LEAT_PATH s.headIdx) LEAT_PATH_PORT ∧ t.leat.angSeen = []) ∧
      (paths = [] → t.leat.angPort = s.leat.angPort ∧ t.leat.angSeen = s.leat.angSeen)
    let inMap := fun (t : State) (b : Bool) => t.isMember d = b ∧ t.occurred 0x7C4 = true ∧
      ∀ n < 512, n ≠ d → t.isMember n = s.isMember n
    (rx.ok = false → ∀ c, c = .ang rx m ∨ c = .hb rx dev st gen jseq role ∨ c = .memb rx dev st mg paths ∨
        c = .wrap rx dev port on paths ∨ c = .gnot rx dev inst g →
      ((s.lp p).bad < 3 → s.Does c fun t =>
        t = { s.inc (LP_CRC_LO p) with leat := { s.leat with ports := ports t } } ∧
        t.lp p = { s.lp p with bad := (s.lp p).bad + 1 } ∧ ∀ n, n ≠ p → t.lp n = s.lp n) ∧
      (3 ≤ (s.lp p).bad → s.Does c fun t => t.lpUp p = false ∧ t.fld (LP_STATUS p) LP_STATUS_STATE = 0 ∧ (t.lp p).bad = 0 ∧
        t.ctr (LP_CRC_LO p) = (s.inc (LP_CRC_LO p)).ctr (LP_CRC_LO p) ∧ (s.lpUp p = true → t.occurred (0x7C0 + p) = true))) ∧
    (rx.ok = true →
      (s.isHead = true → s.Does (.ang rx m) still) ∧
      (s.isHead = false → p ≠ s.leat.angPort → s.Does (.ang rx m) fun t => p ∈ t.leat.angSeen ∧ portGood t ∧
        (∀ n, n ≠ p → (n ∈ t.leat.angSeen ↔ n ∈ s.leat.angSeen)) ∧
        t = { s with leat := { s.leat with ports := ports t, angSeen := t.leat.angSeen } }) ∧
      (s.isHead = false → p = s.leat.angPort → s.Does (.ang rx m) fun t =>
        t.ang.act.theta = angAhead m age ∧ t.ang.act.omega = m.vel + m.acc * age ∧ t.ang.act.alpha = m.acc ∧
        t.ang.act.acquired = true ∧ t.ang.act.vis = (if s.ang.act.acquired = true ∧ m.vel ≠ 0 then s.ang.act.vis else angAhead m age) ∧
        t.ang.coastCycles = m.left.toNat ∧ t.bit ANG_STATUS ANG_STATUS_COAST = m.coast ∧ t.leat.angSeen = [] ∧
        t.bit LEAT_STATUS LEAT_STATUS_DIST_LOST = false ∧
        t.reg LEAT_TOFS_HI ++ t.reg LEAT_TOFS_LO = m.time + BitVec.ofNat 64 age - s.ang.time ∧
        t.reg ANG_VEL = BitVec.ofInt 32 t.ang.act.omega ∧ portGood t ∧
        s.RegsBut t [ANG_STATUS, ANG_VEL, LEAT_TOFS_LO, LEAT_TOFS_HI, LEAT_STATUS]) ∧
      (head = true → role.val = 2 → s.Does (.hb rx dev st gen jseq role) still) ∧
      (head = true → role.val ≠ 2 → s.Does (.hb rx dev st gen jseq role) fun t =>
        t.fld (LEAT_MREC d) LEAT_MREC_STATE =
          (if s.fld (LEAT_MREC d) LEAT_MREC_STATE = mGone ∧ st.val = mMember then mGone else st.val) ∧
        t.reg (LEAT_MREC_GEN d) = gen ∧ t.reg (LEAT_MREC_JSEQ_HI d) ++ t.reg (LEAT_MREC_JSEQ_LO d) = jseq ∧ portGood t ∧
        s.RegsBut t [LEAT_MREC d, LEAT_MREC_GEN d, LEAT_MREC_JSEQ_LO d, LEAT_MREC_JSEQ_HI d, LEAT_ADMIT_STAT] ∧
        (st.val = mReady → d ∈ s.leat.known → (true, d) ∉ s.leat.queue → s.leat.queue.length < 8 →
          t.leat.queue = s.leat.queue ++ [(true, d)] ∧
          t.fld LEAT_ADMIT_STAT LEAT_ADMIT_STAT_PEND = s.leat.queue.length + 1) ∧
        (st.val ≠ mReady ∨ d ∉ s.leat.known ∨ (true, d) ∈ s.leat.queue ∨ 8 ≤ s.leat.queue.length → t.leat.queue = s.leat.queue)) ∧
      (head = false → d ≠ s.headIdx → s.Does (.hb rx dev st gen jseq role) still) ∧
      (head = false → d = s.headIdx → s.mstate ≠ mMember → s.Does (.hb rx dev st gen jseq role) fun t =>
        t.reg LEAT_REF_GEN = gen ∧ s.RegsBut t [LEAT_REF_GEN] ∧ portGood t) ∧
      (head = false → d = s.headIdx → s.mstate = mMember → s.Does (.hb rx dev st gen jseq role) fun t => portGood t ∧
        if s.fenced = true ∧ gen ≠ s.gen then t.mstate = mStale ∧ t.fld LEAT_STALE LEAT_STALE_CAUSE = 1 ∧
          t.reg LEAT_REF_GEN = gen ∧ s.RegsBut t [LEAT_STATUS, LEAT_STALE, LEAT_REF_GEN] else s.RegsBut t []) ∧
      (head = true → s.Does (.memb rx dev st mg paths) fun t => inMap t (st.val == mMember) ∧ portGood t ∧ pathsSet t ∧
        t.fld (LEAT_MREC d) LEAT_MREC_STATE = st.val ∧
        t.fld LEAT_MAP LEAT_MAP_MAPGEN = (s.fld LEAT_MAP LEAT_MAP_MAPGEN + 1) % 65536 ∧
        (st.val = mMember → d ∈ t.leat.known)) ∧
      (head = false → s.Does (.memb rx dev st mg paths) fun t => inMap t (st.val == mMember) ∧ portGood t ∧ pathsSet t ∧
        t.fld LEAT_MAP LEAT_MAP_MAPGEN = mg.toNat ∧ t.mstate = s.mstate ∧ tblGet (fun _ => 0) t.leat.states d = st.val) ∧
      s.Does (.wrap rx dev port on paths) (fun t => pathsSet t ∧ portGood t ∧ (∀ n < 512, t.isMember n = s.isMember n) ∧
        t.stq = s.stq ∧ t.mem = s.mem) ∧
      s.Does (.gnot rx dev inst g) (fun t => portGood t ∧
        t.stq = s.stq.filter (fun o => !(o.issuer == .remote && o.gen / 256 == inst.val + 257 * d && o.gen % 256 != g.toNat)) ∧
        t.leat.uops = s.leat.uops.filter (fun h => !(h.hd.src == dev && h.hd.inst == some inst && h.hd.gen != g)) ∧
        t.regs = s.regs ∧ t.mem = s.mem ∧ t.out = s.out)) ∧
    (head = true → s.anyUp = true → silent = false → s.Does .angSend fun t => t.leat.angCount = s.leat.angCount + 1 ∧
      t.out = s.out ++ [.leat .ang 512 [s.ang.act.vis.toNat, wrapTo 64 s.ang.act.omega, wrapTo 64 s.ang.act.alpha,
        s.coasting.toNat, s.ang.coastCycles, s.fld (ANG_SRC_STAT s.activeSrc) ANG_SRC_STAT_CAUSE, s.gen.toNat,
        s.ang.time.toNat, (s.leat.angCount + 1) % 2 ^ 32]] ∧
      t = { s with leat := { s.leat with angCount := t.leat.angCount }, out := t.out }) ∧
    (head = false ∨ s.anyUp = false → exec .angSend s = .next s) ∧
    (s.mstate = mAlone ∨ s.pwr.standby = true → exec .hbSend s = .next s) ∧
    (s.mstate ≠ mAlone → s.pwr.standby = false → s.Does .hbSend fun t =>
      t.out = s.out ++ [.leat .hb (if head then 512 else s.headIdx)
        [s.dev, s.mstate, s.gen.toNat, s.jnl.head, s.fld TWIN_STATUS TWIN_STATUS_ROLE]] ∧ t = { s with out := t.out }) ∧
    (s.isHead = true ∨ lost = true → exec .distTimeout s = .next s) ∧
    (s.isHead = false → lost = false →
      (∀ n l, s.fld LEAT_STATUS LEAT_STATUS_TOPO = 2 → s.leat.angSeen = n :: l → s.Does .distTimeout fun t =>
        t = { s with leat := { s.leat with angPort := n, angSeen := [] } }) ∧
      (s.fld LEAT_STATUS LEAT_STATUS_TOPO ≠ 2 ∨ s.leat.angSeen = [] →
        (s.fld LEAT_CFG LEAT_CFG_DIST_HOLD ≠ 0 → s.Does .distTimeout fun t =>
          s.FieldTo t LEAT_STATUS LEAT_STATUS_DIST_LOST 1 ∧ s.RegsBut t [LEAT_STATUS] ∧ t = { s with regs := t.regs }) ∧
        (s.fld LEAT_CFG LEAT_CFG_DIST_HOLD = 0 → s.fenced = false → s.Does .distTimeout fun t =>
          t.bit LEAT_STATUS LEAT_STATUS_DIST_LOST = true ∧ t.FencedBy 4))) ∧
    (lost = false → exec .distHoldExpire s = .next s) ∧
    (lost = true → s.fenced = false → s.Does .distHoldExpire fun t => t.FencedBy 4 ∧
      (s.anyUp = false → t.mstate = mAlone)) ∧
    (head = true → s.isMember d = true → d ≠ s.dev → s.Does (.memberHbTimeout dev) fun t => inMap t false ∧
      t.fld (LEAT_MREC d) LEAT_MREC_STATE = mGone ∧
      t.fld LEAT_MAP LEAT_MAP_MAPGEN = (s.fld LEAT_MAP LEAT_MAP_MAPGEN + 1) % 65536 ∧
      (silent = false → (.leat .memb 512 [d, mGone, t.fld LEAT_MAP LEAT_MAP_MAPGEN] : OutMsg) ∈ t.out)) ∧
    (head = false ∨ s.isMember d = false ∨ d = s.dev → exec (.memberHbTimeout dev) s = .next s)

/-- R363, R367, R486, R491, R493, R495-R497, R500, R501, R504: the ports of a chain. -/
def Obligations.ChainPorts : Prop :=
  ∀ (s : State) (q : Req) (rx : Rx) (port inp out : Fin 4) (i : PortUp) (uid : BitVec 64) (v : Word) (r slot : Fin 64)
    (dev : Fin 512) (ws : List Word) (cls : Fin 3) (ok fits : Bool) (body : List Nat),
    let p := port.val
    let a := LP_STATUS p
    let st := s.fld a LP_STATUS_STATE
    let others := (List.range 4).any fun n => decide (n ≠ p) && s.lpUp n
    let wraps := decide (s.fld LEAT_STATUS LEAT_STATUS_TOPO = 2) && s.leat.wrapPort.isNone && others
    let down := fun (t : State) => t.lpUp p = false ∧ t.fld a LP_STATUS_STATE = 0 ∧ t.fld a LP_STATUS_LEVEL = 0 ∧
      t.fld (LP_CABLE p) LP_CABLE_DLY = 0 ∧ (t.lp p).bad = 0 ∧ (∀ n < 4, n ≠ p → t.lpUp n = s.lpUp n ∧ t.lp n = s.lp n) ∧
      (s.lpUp p = true → t.occurred (0x7C0 + p) = true ∧
        (wraps = true → t.leat.wrapPort = some p ∧ t.bit LEAT_STATUS LEAT_STATUS_WRAP = true) ∧
        (wraps = false → t.leat.wrapPort = s.leat.wrapPort) ∧
        (others = true → t.mstate = s.mstate) ∧
        (others = false → (s.mstate ≠ mMember ∨ s.isHead = true → t.mstate = mAlone ∧
            ∀ n < 512, n ≠ s.dev → t.isMember n = false) ∧
          (s.mstate = mMember → s.isHead = false → t.mstate = mMember))) ∧
      (s.lpUp p = false → s.RegsBut t [a, LP_CABLE p] ∧ t.out = s.out)
    let plain := fun (t : State) => t = { s with regs := t.regs }
    (bitOf (s.fld LEAT_CFG LEAT_CFG_PEN) p = true → st = 0 → (6, p) ∉ s.pwr.waiting → (6, p) ∉ s.pwr.ramping →
      s.Does (.leatTrainAttempt port) fun t => s.FieldTo t a LP_STATUS_STATE 1 ∧ s.RegsBut t [a] ∧ plain t) ∧
    (bitOf (s.fld LEAT_CFG LEAT_CFG_PEN) p = false ∨ st ≠ 0 ∨ (6, p) ∈ s.pwr.waiting ∨ (6, p) ∈ s.pwr.ramping →
      exec (.leatTrainAttempt port) s = .next s) ∧
    (1 ≤ st → st ≤ 4 → s.Does (.trainStepTimeout port) fun t => s.FieldTo t a LP_STATUS_STATE 0 ∧ s.RegsBut t [a] ∧
      t.ctrs = (s.inc (LP_TRAIN_LO p)).ctrs) ∧
    (st = 0 ∨ 5 ≤ st → exec (.trainStepTimeout port) s = .next s ∧ exec (.leatPortUp port i) s = .next s) ∧
    (1 ≤ st → st ≤ 4 →
      let shown := fun (t : State) => t.bit a LP_STATUS_P5120 = i.p5120 ∧ t.bit a LP_STATUS_LREV = i.lrev ∧
        t.fld a LP_STATUS_LPOL = i.lpol.toNat ∧ t.fld a LP_STATUS_PEER_DEV = i.peer.val ∧
        t.fld a LP_STATUS_PEER_PT = i.pt.toNat ∧ t.lp p = { s.lp p with bad := 0, uid := i.uid }
      (i.conflict = true → s.Does (.leatPortUp port i) fun t => shown t ∧ t.fld a LP_STATUS_STATE = 6 ∧
        t.bit a LP_STATUS_HWCONF = true ∧ t.lpUp p = s.lpUp p ∧ s.RegsBut t [a] ∧ t.out = s.out) ∧
      (i.conflict = false → i.unused = true → s.Does (.leatPortUp port i) fun t => shown t ∧ t.fld a LP_STATUS_STATE = 6 ∧
        t.lpUp p = s.lpUp p ∧ s.RegsBut t [a] ∧ t.out = s.out) ∧
      (i.conflict = false → i.unused = false → s.Does (.leatPortUp port i) fun t => shown t ∧
        t.fld a LP_STATUS_STATE = 5 ∧ t.lpUp p = true ∧
        t.fld a LP_STATUS_LEVEL = min i.lvl.val (s.fld (LP_CFG p) LP_CFG_LVLMAX) ∧
        t.fld (LP_CABLE p) LP_CABLE_DLY = i.cable.toNat ∧ t.occurred (0x7C0 + p) = true ∧
        (s.leat.wrapPort = some p → t.leat.wrapPort = none ∧ t.bit LEAT_STATUS LEAT_STATUS_WRAP = false) ∧
        (p = s.fld TWIN_CFG TWIN_CFG_PORT → t.twin.partnerPos = some i.posB ∧ t.twin.partnerUid = i.uid ∧
          t.twin.partner5120 = i.p5120 ∧ (s.bit TWIN_CFG TWIN_CFG_EN = true → s.bit TWIN_CFG TWIN_CFG_POS = i.posB →
            t.bit TWIN_STATUS TWIN_STATUS_POSCONF = true)) ∧
        (i.enum = none → t.mstate = s.mstate ∧ t.reg LEAT_ID = s.reg LEAT_ID ∧ t.reg LEAT_MAP = s.reg LEAT_MAP) ∧
        ∀ e, i.enum = some e → t.fld LEAT_ID LEAT_ID_DEV = e.dev.val ∧ t.fld LEAT_ID LEAT_ID_HWIDX = e.head.val ∧
          t.fld LEAT_STATUS LEAT_STATUS_TOPO = e.topo.val ∧ (e.granted = false → t.bit LEAT_STATUS LEAT_STATUS_IDXCONF = true) ∧
          t.bit LEAT_STATUS LEAT_STATUS_HEADWATER = s.bit LEAT_CFG LEAT_CFG_HWSEL ∧
          t.bit ANG_STATUS ANG_STATUS_HEADWATER = s.bit LEAT_CFG LEAT_CFG_HWSEL ∧
          (∀ d ∈ e.members, t.isMember d.val = true) ∧
          (s.bit LEAT_CFG LEAT_CFG_HWSEL = true → s.mstate ≠ mMember → s.fld BOOT_STATUS BOOT_STATUS_STATE = 4 →
            t.mstate = mMember ∧ t.isMember e.dev.val = true) ∧
          (s.bit LEAT_CFG LEAT_CFG_HWSEL = false → s.mstate = mAlone →
            let j := match e.jseq with | some x => x.toNat | none => 0
            t.reg LEAT_REF_GEN = e.gen ∧ t.leat.recorded = e.jseq.isSome ∧
            t.mstate = (if s.gen ≠ e.gen ∨ s.jnl.head < j then mStale else mReady) ∧
            (s.gen ≠ e.gen → t.fld LEAT_STALE LEAT_STALE_CAUSE = 1) ∧
            (s.gen = e.gen → s.jnl.head < j → t.fld LEAT_STALE LEAT_STALE_CAUSE = 2)))) ∧
    s.Does (.leatPortDown port) down ∧
    (s.lpUp p = true → s.Does (.laneLockLoss port) down) ∧
    (s.lpUp p = false → exec (.laneLockLoss port) s = .next s) ∧
    (s.lpUp p = true → (s.lp p).uid ≠ uid → s.Does (.tsExchange port uid) down) ∧
    (s.lpUp p = false ∨ (s.lp p).uid = uid → exec (.tsExchange port uid) s = .next s) ∧
    (s.access q (LP_CFG p) true = .ok →
      (fieldGet LP_CFG_LVLMAX v = 1 ∨ fieldGet LP_CFG_LVLMAX v = 2 → s.Does (.lpRetrain q port v) fun t =>
        t.lpUp p = false ∧ t.fld a LP_STATUS_STATE = 0 ∧ t.fld (LP_CFG p) LP_CFG_LVLMAX = fieldGet LP_CFG_LVLMAX v ∧
        (s.lpUp p = true → t.occurred (0x7C0 + p) = true)) ∧
      (fieldGet LP_CFG_LVLMAX v = 0 ∨ fieldGet LP_CFG_LVLMAX v = 3 → s.Does (.lpRetrain q port v) fun t =>
        t.reg (LP_CFG p) = s.reg (LP_CFG p) ∧ t.lpUp p = s.lpUp p ∧ t.bit LEAT_STATUS LEAT_STATUS_RSVD_WR = true)) ∧
    (s.access q LEAT_CFG true = .ok → s.Does (.leatCfgWrite q v) fun t =>
      t.fld LEAT_CFG LEAT_CFG_PEN = fieldGet LEAT_CFG_PEN v ∧ t.fld LEAT_CFG LEAT_CFG_DIST_HOLD = fieldGet LEAT_CFG_DIST_HOLD v ∧
      t.fld LEAT_CFG LEAT_CFG_FIXIDX = fieldGet LEAT_CFG_FIXIDX v ∧
      t.bit LEAT_CFG LEAT_CFG_HWSEL = s.bit LEAT_CFG LEAT_CFG_HWSEL ∧
      ∀ n < 4, (bitOf (s.fld LEAT_CFG LEAT_CFG_PEN) n = true → bitOf (fieldGet LEAT_CFG_PEN v) n = false → t.lpUp n = false) ∧
        (bitOf (s.fld LEAT_CFG LEAT_CFG_PEN) n = bitOf (fieldGet LEAT_CFG_PEN v) n → t.lpUp n = s.lpUp n) ∧
        (bitOf (s.fld LEAT_CFG LEAT_CFG_PEN) n = false → bitOf (fieldGet LEAT_CFG_PEN v) n = true →
          (6, n) ∈ t.pwr.waiting ∨ (6, n) ∈ t.pwr.ramping)) ∧
    (let g := CXB_RR_CFG r.val
     let mine := s.bit g CXB_RR_CFG_EN && decide (s.fld g CXB_RR_CFG_PEER_DEV = dev.val) &&
       decide (s.fld g CXB_RR_CFG_PEER_SLOT = slot.val)
     let stat := CXB_RR_STAT r.val
     let play := fun (t : State) (n : Nat) => tblGet (fun _ => ([] : List CWord)) t.cxb.playout n
     (rx.ok = false → s.Does (.strmFlit rx r dev slot ws) fun t => t = s.inc (LP_CRC_LO rx.port.val)) ∧
     (rx.ok = true → mine = false → s.Does (.strmFlit rx r dev slot ws) fun t =>
       s.FieldTo t stat CXB_RR_STAT_MISMATCH 1 ∧ s.RegsBut t [stat] ∧ t.cxb = s.cxb ∧
       (ws ≠ [] → t.ctrs = (s.incBy (CXB_RR_DROP_LO r.val) ws.length).ctrs)) ∧
     (rx.ok = true → mine = true → s.Does (.strmFlit rx r dev slot ws) fun t =>
       play t r.val = play s r.val ++ itemsOf ws ∧ (∀ n, n ≠ r.val → play t n = play s n) ∧
       t.bit stat CXB_RR_STAT_BORDER = false ∧ (s.twinPrimary = false → s.RegsBut t [stat] ∧ t.ctrs = s.ctrs))) ∧
    (cls.val = 1 → ok = false → s.Does (.passThrough inp out cls dev ok fits body) fun t => t = s.inc (LP_CRC_LO inp.val)) ∧
    (cls.val ≠ 1 ∨ ok = true → cls.val < 2 → fits = false →
      s.Does (.passThrough inp out cls dev ok fits body) fun t => t = s.inc (LP_PTDROP_LO out.val)) ∧
    (cls.val ≠ 1 ∨ ok = true → cls.val = 2 ∨ fits = true → s.Does (.passThrough inp out cls dev ok fits body) fun t =>
      t = { s with out := s.out ++ [.leat .pass dev.val (out.val :: cls.val :: body)] })

/-- R453, R519, R520, R523, R525: the commands of chain membership and of tile retirement. -/
def Obligations.ChainAdmission : Prop :=
  ∀ (s : State) (q : Req) (dev : Fin 512) (host failed : Bool) (tile : Fin 16),
    let d := dev.val
    let k := tile.val
    let rec' := s.fld (LEAT_MREC d) LEAT_MREC_STATE
    let stat := LEAT_ADMIT_STAT
    let told := fun (t : State) (r : Nat) => t.fld stat LEAT_ADMIT_STAT_RESULT = r ∧ t.leat = s.leat ∧
      t.occurred 0x7C8 = true ∧ s.RegsBut t [LEAT_ADMIT, stat]
    let queued := fun (t : State) (join : Bool) => t.fld stat LEAT_ADMIT_STAT_RESULT = 0 ∧ s.RegsBut t [LEAT_ADMIT, stat] ∧
      t.leat.queue = (if s.leat.queue.contains (join, d) then s.leat.queue else s.leat.queue ++ [(join, d)]) ∧
      t.fld stat LEAT_ADMIT_STAT_PEND = t.leat.queue.length ∧ t.irq = s.irq
    let ask := fun (c : Instr) (join : Bool) (st : Nat) =>
      (s.bit LEAT_STATUS LEAT_STATUS_HEADWATER = false → s.Does c (told · 1)) ∧
      (s.bit LEAT_STATUS LEAT_STATUS_HEADWATER = true → rec' ≠ st → s.Does c (told · 2)) ∧
      (s.bit LEAT_STATUS LEAT_STATUS_HEADWATER = true → rec' = st → 8 ≤ s.leat.queue.length → s.Does c (told · 3)) ∧
      (s.bit LEAT_STATUS LEAT_STATUS_HEADWATER = true → rec' = st → s.leat.queue.length < 8 → s.Does c (queued · join))
    let stale := LEAT_STALE
    let reached := if host then s.bit HOST_STATUS HOST_STATUS_LINKUP || s.anyUp else s.lpUp s.twinPort
    let standby := s.twinStandby
    let tiles := decide (s.fld stale LEAT_STALE_TILES ≠ 0)
    let written := fun (t : State) (m : Nat) => t.fld stale LEAT_STALE_METHOD = m ∧ t.bit stale LEAT_STALE_SRC = host
    let go := fun (c : Instr) (m : Nat) (ok : Bool) =>
      (s.leat.catching = true → s.Does c fun t => written t m ∧ s.RegsBut t [stale] ∧ t = { s with regs := t.regs, reply := .done }) ∧
      (s.leat.catching = false → ok = false → s.Does c fun t => written t m ∧ t.leat.catching = false ∧
        t.fld stale LEAT_STALE_RESULT = 3 ∧ t.mstate = s.mstate) ∧
      (s.leat.catching = false → ok = true → m = 1 ∨ m = 2 → reached = false → s.Does c fun t => written t m ∧
        t.leat.catching = false ∧ t.fld stale LEAT_STALE_RESULT = 4 ∧ t.mstate = s.mstate) ∧
      (s.leat.catching = false → ok = true → (m = 0 ∧ s.twin.pend ≠ some 3) ∨ m = 3 ∨ (m ≠ 0 ∧ reached = true) → s.Does c fun t => written t m ∧
        t.leat.catching = true ∧ t.fld stale LEAT_STALE_RESULT = 1 ∧
        t.mstate = (if s.mstate = mStale then mCatchup else s.mstate) ∧
        (standby = true → t.twinState = 3) ∧ (standby = false → t.twinState = s.twinState) ∧
        (m = 0 → t.gen = s.gen + 1 ∧ t.staged = []) ∧ (m = 3 → t.gen = s.reg LEAT_REF_GEN) ∧
        (m = 1 ∨ m = 2 → t.gen = s.gen ∧ t.staged = s.staged ∧
          t.out = if host then s.out else s.out ++ [.leat .twin s.dev [11, m, s.jnl.head]]))
    let mine := decide (s.mstate = mStale)
    let ended := fun (t : State) (r : Nat) => t.leat.catching = false ∧ t.fld stale LEAT_STALE_RESULT = r ∧ t.occurred 0x7C7 = true
    let ref := (s.reg LEAT_REF_JSEQ_HI).toNat * 2 ^ 32 + (s.reg LEAT_REF_JSEQ_LO).toNat
    let noLocal := failed || (decide (s.fld stale LEAT_STALE_METHOD = 0) && decide (s.gen ≠ s.reg LEAT_REF_GEN))
    let retired := bitOf (s.fld LEAT_TRET_STAT LEAT_TRET_STAT_RETIRED) k
    let refused := fun (t : State) (r : Nat) => t.fld LEAT_TRET_STAT LEAT_TRET_STAT_RESULT = r ∧ t.occurred 0x7C9 = true ∧
      t.leat.tret = s.leat.tret ∧ t.fld LEAT_TRET_STAT LEAT_TRET_STAT_RETIRED = s.fld LEAT_TRET_STAT LEAT_TRET_STAT_RETIRED
    let waits := fun (t : State) (back : Bool) => t.leat.tret = some ⟨back, k⟩ ∧ t.bit LEAT_TRET_STAT LEAT_TRET_STAT_PEND = true ∧
      t.fld LEAT_TRET_STAT LEAT_TRET_STAT_RESULT = 1 ∧ s.RegsBut t [LEAT_TRET, LEAT_TRET_STAT] ∧
      t = { s with regs := t.regs, leat := { s.leat with tret := t.leat.tret }, reply := .done }
    let busy := (List.range 16).any fun n => decide (s.ctxState (16 * k + n) ≠ ctxStopped)
    (s.access q LEAT_ADMIT true = .ok → ask (.leatAdmit q dev) true mReady ∧ ask (.gracefulLeave q dev) false mMember) ∧
    (s.mstate = mLeaving → s.Does .leaveDrainEnd fun t => s.FieldTo t LEAT_STATUS LEAT_STATUS_MSTATE mJoined ∧
      s.RegsBut t [LEAT_STATUS] ∧ t = { s with regs := t.regs }) ∧
    (s.mstate ≠ mLeaving → exec .leaveDrainEnd s = .next s) ∧
    (s.access q LEAT_STALE true = .ok →
      go (.catchupLocal q host) 0 (mine && decide (s.reg LEAT_REF_GEN = s.gen + 1)) ∧
      go (.catchupReplay q host) 1 ((mine || tiles) && decide (0 < s.jnl.head)) ∧
      go (.catchupTransfer q host) 2 ((mine || tiles) && (host || (standby && decide (s.twinState ≠ 0)))) ∧
      go (.catchupBlank q host) 3 (mine && !s.leat.recorded)) ∧
    (s.leat.catching = false → exec (.catchupEnd failed) s = .next s) ∧
    (s.leat.catching = true →
      (noLocal = true → s.Does (.catchupEnd failed) fun t => ended t 5 ∧
        t.mstate = (if s.mstate = mCatchup then mStale else s.mstate) ∧ (standby = true → t.twinState = 2)) ∧
      (noLocal = false → s.gen ≠ s.reg LEAT_REF_GEN ∨ s.jnl.head < ref → exec (.catchupEnd failed) s = .next s) ∧
      (noLocal = false → s.gen = s.reg LEAT_REF_GEN → ref ≤ s.jnl.head → s.Does (.catchupEnd failed) fun t => ended t 2 ∧
        t.mstate = (if s.mstate = mCatchup then mReady else s.mstate) ∧
        (s.mstate = mCatchup → t.fld stale LEAT_STALE_CAUSE = 0) ∧
        (standby = true → t.twinState = 4 ∧ t.twin.mirroring = true ∧ t.fld TWIN_STATUS TWIN_STATUS_SCAUSE = 0 ∧
          (.leat .twin s.dev [10] : OutMsg) ∈ t.out))) ∧
    (s.access q LEAT_TRET true = .ok →
      (s.leat.tret.isSome = true → ∀ c, c = .retire q tile ∨ c = .force q tile ∨ c = .return q tile → s.Does c (refused · 5)) ∧
      (s.leat.tret = none →
        (retired = true → s.Does (.retire q tile) (refused · 3) ∧ s.Does (.force q tile) (refused · 3)) ∧
        (retired = false → busy = true ∨ s.tileRouted k = true → s.Does (.retire q tile) (refused · 2)) ∧
        (retired = false → busy = false → s.tileRouted k = false → s.Does (.retire q tile) (waits · false)) ∧
        (retired = false → s.Does (.force q tile) fun t => t.fld LEAT_TRET_STAT LEAT_TRET_STAT_RESULT = 0 ∧
          t.bit LEAT_TRET_STAT LEAT_TRET_STAT_PEND = false ∧ t.occurred 0x7C9 = true ∧ t.leat.tret = none ∧
          (∀ n < 16, bitOf (t.fld LEAT_TRET_STAT LEAT_TRET_STAT_RETIRED) n =
            (decide (n = k) || bitOf (s.fld LEAT_TRET_STAT LEAT_TRET_STAT_RETIRED) n)) ∧
          (∀ n < 16, t.bit (INST_CFG (16 * k + n)) INST_CFG_EN = false ∧
            (s.bit (INST_STATE (16 * k + n)) INST_STATE_RESET_BUSY = false → t.ctxState (16 * k + n) = ctxStopped)) ∧
          (∀ n < 32, t.bit (DRV_STATUS (32 * k + n)) DRV_STATUS_LATCH = true) ∧ ∀ p ∈ tilePorts k, t.inBorder p = true) ∧
        (retired = false → s.Does (.return q tile) (refused · 3)) ∧
        (retired = true → bitOf (s.fld stale LEAT_STALE_TILES) k = true → s.Does (.return q tile) (refused · 4)) ∧
        (retired = true → bitOf (s.fld stale LEAT_STALE_TILES) k = false → s.Does (.return q tile) (waits · true))))

/-- R36, R43, R129, R130, R147, R408, R444, R466, R492: packets of the chain. -/
def Obligations.ChainPackets : Prop :=
  ∀ (s : State) (rx : Rx) (hd : PktHead) (addr : BitVec 48) (len : Nat) (bs : List Byte) (op : Fin 3) (a b : Word)
    (r : UnitReq) (leaves : List Word) (st : Option (Stamp × BitVec 2)) (sub : Byte) (m : UrspMsg) (bm : BenmosMsg)
    (xm : XferMsg) (tm : TwinMsg) (dst : Fin 512) (seq : BitVec 16),
    let src := hd.src.val
    let q := hd.seq.toNat
    let who := match hd.inst with | some i => i.val | none => 256
    let loc := s.locOff (addr.toNat % 2 ^ 39)
    let code := 0x200 + src
    let here := hd.inst.isNone || decide (s.mstate = mMember) || decide (s.mstate = mLeaving)
    let dup := s.leat.served.find? fun x => x.src == src && x.seq == q
    let silent := fun (u : State) => u.pwr.standby || u.twinStandby
    let replied := fun (u t : State) (k : LeatKind) (l : List Nat) =>
      t.out = (if silent u = true then u.out else u.out ++ [.leat k src (q :: l)]) ∧
      (⟨src, q, k, l⟩ : Served) ∈ t.leat.served ∧ (∀ x ∈ t.leat.served, x ∈ u.leat.served ∨ x = ⟨src, q, k, l⟩) ∧
      t = { u with out := t.out, leat := { u.leat with served := t.leat.served } }
    let nats := fun (l : List Byte) => l.map (·.toNat)
    let head := [src, q, who, hd.gen.toNat]
    let h : HeldUop := ⟨hd, r, leaves, st.map fun x => (x.1, qualOf x.2.toNat)⟩
    let arrived := s.mirror ([2] ++ head ++ uopArgs r h.st leaves s.dev)
    let told := leaves.foldl (fun u x => match arrived.farLeafFault hd x with
      | some f => if silent arrived = true then u else { u with out := u.out ++ [.leat .ursp src [q, 2, who, hd.gen.toNat, x.toNat, f]] }
      | none => u) arrived
    let ends := fun (u : State) (x : LReq) => { u with leat := { u.leat with reqs := u.leat.reqs.filter (· != x) } }
    let report := fun (u : State) (i gen leaf f : Nat) (t : State) =>
      (256 ≤ i ∨ u.genOf i ≠ gen → t = u) ∧
      (i < 256 → u.genOf i = gen → u.bit (IRQ_UF_STAT i) IRQ_UF_STAT_VALID = true →
        t.bit (IRQ_UF_STAT i) IRQ_UF_STAT_MORE = true ∧ u.RegsBut t [IRQ_UF_STAT i] ∧ t = { u with regs := t.regs }) ∧
      (i < 256 → u.genOf i = gen → u.bit (IRQ_UF_STAT i) IRQ_UF_STAT_VALID = false →
        t.bit (IRQ_UF_STAT i) IRQ_UF_STAT_VALID = true ∧ t.fld (IRQ_UF_STAT i) IRQ_UF_STAT_SUB = f % 256 ∧
        t.fld (IRQ_UF_STAT i) IRQ_UF_STAT_GEN = gen % 256 ∧ t.reg (IRQ_UF_UNIT i) = BitVec.ofNat 32 leaf ∧
        u.RegsBut t [IRQ_UF_STAT i, IRQ_UF_UNIT i] ∧ t = { u with regs := t.regs })
    (rx.ok = false → ∀ c, c = .mrd rx hd addr len ∨ c = .mwr rx hd addr bs ∨ c = .mamo rx hd op addr a b ∨
        c = .uop rx hd r leaves st ∨ c = .mrsp rx hd sub bs ∨ c = .ursp rx hd m ∨ c = .benmosPacket rx hd bm ∨
        c = .xferPacket rx xm ∨ c = .twinPacket rx tm →
      s.Does c fun t => t = s.inc (LP_CRC_LO rx.port.val)) ∧
    (rx.ok = true → s.locHalted loc = true → ∀ c, c = .mrd rx hd addr len ∨ c = .mwr rx hd addr bs ∨ c = .mamo rx hd op addr a b →
      exec c s = .next s) ∧
    (rx.ok = true → s.locHalted loc = false → ∀ x, dup = some x → x.kind ≠ .hb → x.kind ≠ .twin → ∀ c, c = .mrd rx hd addr len ∨
        c = .mwr rx hd addr bs ∨ c = .mamo rx hd op addr a b ∨ c = .uop rx hd r leaves st →
      s.Does c fun t => t = { s with out := if silent s = true then s.out else s.out ++ [.leat x.kind x.src (x.seq :: x.args)] }) ∧
    (rx.ok = true → s.locHalted loc = false → dup = none → here = false → ∀ c, c = .mrd rx hd addr len ∨ c = .mwr rx hd addr bs ∨
        c = .mamo rx hd op addr a b → s.Does c fun t => replied s t .mrsp [busNotMember]) ∧
    (rx.ok = true → s.locHalted loc = false → dup = none → here = true →
      (∀ l u, s.readAt code .remote loc len = (.ok l, u) → s.Does (.mrd rx hd addr len) fun t => replied u t .mrsp (0 :: nats l)) ∧
      (∀ e u, s.readAt code .remote loc len = (.error e, u) → s.Does (.mrd rx hd addr len) fun t => replied u t .mrsp [e]) ∧
      (∀ e u, s.writeAt code .remote loc bs = (e, u) → s.Does (.mwr rx hd addr bs) fun t =>
        replied (u.mirror ([1] ++ head ++ [addr.toNat] ++ nats bs)) t .mrsp [e.getD 0]) ∧
      (atomicAt loc = false → (∀ e, loc ≠ .bad e) → s.Does (.mamo rx hd op addr a b) fun t => replied s t .mrsp [busRange]) ∧
      (∀ e, loc = .bad e → s.Does (.mamo rx hd op addr a b) fun t => replied s t .mrsp [e]) ∧
      (∀ o, loc = .mem o → atomicAt loc = true →
        (∀ u, s.amo code op.val o a b = (none, u) → s.Does (.mamo rx hd op addr a b) fun t => replied u t .mrsp [busEcc]) ∧
        (∀ old u, s.amo code op.val o a b = (some old, u) →
          let stores := fun (v : Word) => u.mirror ([1] ++ head ++ [addr.toNat] ++ nats (bytesOf 4 v.toNat))
          s.Does (.mamo rx hd op addr a b) fun t =>
            replied (if op.val = 0 then stores a else if op.val = 1 then stores (old + a) else if old = a then stores b else u)
              t .mrsp (0 :: nats (bytesOf 4 old.toNat))))) ∧
    (rx.ok = true → dup = none →
      ((s.leat.uops.any fun y => y.hd.src == hd.src && y.hd.seq == hd.seq) = true → exec (.uop rx hd r leaves st) s = .next s) ∧
      ((s.leat.uops.any fun y => y.hd.src == hd.src && y.hd.seq == hd.seq) = false →
        (h.waits arrived = true → s.Does (.uop rx hd r leaves st) fun t => t.leat.uops = arrived.leat.uops ++ [h] ∧
          t.stq = arrived.stq ∧ t.mem = arrived.mem ∧ t.out = arrived.out) ∧
        (h.waits arrived = false →
          (∀ k off comb, r = .urd k off comb → ∀ l u,
            told.readUnits .remote off.toNat ((h.ops arrived).map fun o => (o.kind, o.index)) = (l, u) →
            s.Does (.uop rx hd r leaves st) fun t =>
              replied u t .ursp (if l = [] then [0, 0] else [0, 1, (combine comb.toNat l).toNat])) ∧
          ((∀ k off comb, r ≠ .urd k off comb) → s.Does (.uop rx hd r leaves st) fun t =>
            replied (told.handAll (h.ops arrived) st.isSome).2 t .ursp [1])))) ∧
    (rx.ok = true → s.openReq src q = none → exec (.mrsp rx hd sub bs) s = .next s ∧
      ((∀ u f, m ≠ .fault u f) → exec (.ursp rx hd m) s = .next s)) ∧
    (rx.ok = true → ∀ x, s.openReq src q = some x →
      let m3 := fun (u : State) => u.mirror ([3, x.args.getD 1 0, x.args.getD 2 0, sub.toNat] ++ nats bs)
      let m5 := fun (u : State) (l : List Nat) => u.mirror ([5, x.args.getD 1 0, x.args.getD 2 0] ++ l)
      (∀ c f far ad, x.who = .load c → (s.ctx c).stall = .mem f far ad none → s.Does (.mrsp rx hd sub bs) fun t =>
        t = m3 ((ends s x).setCtx c { s.ctx c with stall := .mem f far ad (some ⟨sub.toNat, bs⟩) })) ∧
      (∀ c ad, x.who = .store c ad → sub = 0 → s.Does (.mrsp rx hd sub bs) fun t =>
        t = m3 ((ends s x).setCtx c { s.ctx c with farOut := (s.ctx c).farOut.erase ad })) ∧
      (∀ c ad, x.who = .store c ad → sub ≠ 0 → s.Does (.mrsp rx hd sub bs) fun t =>
        ∃ u, t = m3 u ∧ (ends s x).Becomes u c (if (s.ctx c).postFail = none
          then { s.ctx c with farOut := (s.ctx c).farOut.erase ad, postFail := some (ad, sub.toNat) }
          else { s.ctx c with farOut := (s.ctx c).farOut.erase ad, pserr := true })) ∧
      (∀ e, x.who = .burst e → s.Does (.mrsp rx hd sub bs) fun t => t = m3 ((ends s x).burstAnswer e sub.toNat bs)) ∧
      (∀ c g lf, x.who = .unit c g lf → m = .ack → s.Does (.ursp rx hd m) fun t =>
        t = m5 ((ends s x).setCtx c { s.ctx c with unitOut := (s.ctx c).unitOut - 1 }) [1]) ∧
      (∀ c v rd comb hn vals left, x.who = .urd c → m = .value (some v) →
        (s.ctx c).stall = .urd rd comb hn vals left → left.map (·.1) = [x.dst] →
        s.Does (.ursp rx hd m) fun t => ∀ w u,
          (ends s x).urdValue comb (vals ++ (left.map fun y => (y.2.1, v))) = (w, u) →
            t = m5 ((u.setCtx c ((u.ctx c).rset rd w)).finish c) [0, 1, v.toNat])) ∧
    (rx.ok = true → ∀ u f, m = .fault u f → ∃ t, exec (.ursp rx hd m) s = .next (t.mirror
      ([5, who, hd.gen.toNat] ++ [2, u.toNat, f.toNat])) ∧ report s who hd.gen.toNat u.toNat f.toNat t) ∧
    (s.openReq dst.val seq.toNat = none → exec (.packetRetry dst seq) s = .next s ∧ exec (.packetTimeout dst seq) s = .next s) ∧
    (∀ x, s.openReq dst.val seq.toNat = some x →
      (s.twinStandby = true → exec (.packetRetry dst seq) s = .next s ∧ exec (.packetTimeout dst seq) s = .next s) ∧
      (5 ≤ x.sends → exec (.packetRetry dst seq) s = .next s) ∧
      (s.twinStandby = false → x.sends < 5 → s.Does (.packetRetry dst seq) fun t =>
        t.out = (if s.pwr.standby then s.out else s.out ++ [.leat x.kind x.dst x.args]) ∧
        t.leat.reqs = s.leat.reqs.map (fun y => if y = x then { y with sends := y.sends + 1 } else y) ∧
        t = { s with out := t.out, leat := { s.leat with reqs := t.leat.reqs } }) ∧
      (s.twinStandby = false →
        (∀ c f far ad, x.who = .load c → (s.ctx c).stall = .mem f far ad none → s.Does (.packetTimeout dst seq) fun t =>
          t = (ends s x).setCtx c { s.ctx c with stall := .mem f far ad (some ⟨busLinkLost, []⟩) }) ∧
        (∀ c ad, x.who = .store c ad → s.Does (.packetTimeout dst seq) fun t =>
          (t.ctx c).farOut = (s.ctx c).farOut.erase ad ∧ t.leat = (ends s x).leat ∧
          ((s.ctx c).postFail = none → (t.ctx c).postFail = some (ad, busLinkLost)) ∧
          ((s.ctx c).postFail ≠ none → (t.ctx c).pserr = true)) ∧
        (∀ e, x.who = .burst e → s.Does (.packetTimeout dst seq) fun t => t = (ends s x).burstAnswer e busLinkLost []) ∧
        (∀ c g lf, x.who = .unit c g lf → s.Does (.packetTimeout dst seq)
          (report ((ends s x).setCtx c { s.ctx c with unitOut := (s.ctx c).unitOut - 1 }) c g lf ufLinkLost)) ∧
        (∀ c rd comb hn vals left y, x.who = .urd c → (s.ctx c).stall = .urd rd comb hn vals left →
          left.find? (fun z => z.1 == x.dst) = some y → s.Does (.packetTimeout dst seq) fun t =>
            t = { s with leat := { s.leat with reqs := s.leat.reqs.filter fun z => z.who != Waiter.urd c } }.waitTrap c
              ⟨trUnit, ufLinkLost, false, some (BitVec.ofNat 64 (hn * 2 ^ 32 + y.2.2.toNat))⟩)))

/-- R531-R549, Tables 15.1 and 15.2: the pair. -/
def Obligations.TwinPair : Prop :=
  ∀ (s : State) (q : Req) (level : Bool) (cause : Byte) (start : Stamp) (sum : Word) (n seq : Nat),
    let primary := s.twinPrimary
    let standby := s.twinStandby
    let mir := decide (s.twinState = twMirror)
    let peer := s.bit TWIN_STATUS TWIN_STATUS_PEER_SEL
    let S := TWIN_STATUS
    let taken := fun (t : State) (why from' low : Nat) =>
      t.twinPrimary = true ∧ (why ≠ 4 → t.twinState = twSolo) ∧ (∀ k < 512, (t.pulse k).shot = none) ∧
      t.reg TWIN_TAKE = BitVec.ofNat 32 (2 ^ 31 + from' * 256 + why) ∧ t.reg TWIN_TAKE_T_LO = s.ang.time.extractLsb' 0 32 ∧
      t.reg TWIN_TAKE_T_HI = (s.ang.time.extractLsb' 32 16).setWidth 32 ∧ t.twin.took = some s.ns ∧ t.twin.fault = none ∧
      t.twin.faultWait = false ∧ t.twin.dropped = s.fenced ∧ t.occurred 0x7D2 = true ∧
      t.ctr TWIN_TAKES_LO = (s.inc TWIN_TAKES_LO).ctr TWIN_TAKES_LO ∧
      t.bit S TWIN_STATUS_SEL = (!s.fenced && decide (2 ≤ low) && !s.twin.hiz &&
        (!s.bit S TWIN_STATUS_POSCONF || s.bit S TWIN_STATUS_SEL)) ∧
      (s.pwr.standby = false → (.leat .memb s.headIdx [s.dev, s.mstate, s.fld LEAT_MAP LEAT_MAP_MAPGEN] : OutMsg) ∈ t.out)
    let stale := fun (t : State) (why : Nat) => t.twinState = 2 ∧ t.fld S TWIN_STATUS_SCAUSE = why ∧ t.mstate = mStale ∧
      t.twin.fault = none ∧ t.twin.faultWait = false ∧ t.twin.mirroring = false ∧ t.twin.pend = none
    (level = true → primary = true → s.Does (.twinPeerChange level) fun t => t.bit S TWIN_STATUS_PEER_SEL = true ∧
      t.bit S TWIN_STATUS_SEL = false ∧ t.twin.lowSteps = 0 ∧
      (s.bit TWIN_CFG TWIN_CFG_POS = true → t.twinStandby = true ∧ stale t 6) ∧
      (s.bit TWIN_CFG TWIN_CFG_POS = false → s.RegsBut t [S] ∧ t.twinPrimary = true ∧ t.twinState = s.twinState)) ∧
    (level = true → primary = false → s.Does (.twinPeerChange level) fun t => t.bit S TWIN_STATUS_PEER_SEL = true ∧
      t.bit S TWIN_STATUS_SEL = false ∧ t.twin.lowSteps = 0 ∧ s.RegsBut t [S]) ∧
    (level = false → peer = true → standby = true → mir = true →
      (s.twin.faultWait = true → s.Does (.twinPeerChange level) (taken · 1 (s.twin.fault.getD 0) 0)) ∧
      (s.twin.faultWait = false → s.twin.pend ≠ some 3 → s.Does (.twinPeerChange level) (taken · 3 0 0)) ∧
      (s.twin.faultWait = false → s.twin.pend = some 3 → s.Does (.twinPeerChange level) fun t =>
        s.FieldTo t S TWIN_STATUS_PEER_SEL 0 ∧ s.RegsBut t [S] ∧ t = { s with regs := t.regs, twin := { s.twin with lowSteps := 0 } })) ∧
    (level = false → peer = false ∨ standby = false ∨ mir = false → s.Does (.twinPeerChange level) fun t =>
      s.FieldTo t S TWIN_STATUS_PEER_SEL 0 ∧ s.RegsBut t [S] ∧ t = { s with regs := t.regs, twin := { s.twin with lowSteps := 0 } }) ∧
    (primary = true → s.twinState ≠ 0 → s.Does .twinHbSend fun t => t = { s with out := s.out ++ [.leat .twin s.dev [1]] }) ∧
    (primary = false ∨ s.twinState = 0 → exec .twinHbSend s = .next s) ∧
    (standby = true → s.Does .twinHeartbeatArrival fun t => s.FieldTo t S TWIN_STATUS_HBLOST 0 ∧ s.RegsBut t [S] ∧
      t = { s with regs := t.regs }) ∧
    (standby = false → exec .twinHeartbeatArrival s = .next s ∧ exec .twinHbLost s = .next s) ∧
    (standby = true →
      (mir = false ∨ s.twin.faultWait = true → s.Does .twinHbLost fun t => s.FieldTo t S TWIN_STATUS_HBLOST 1 ∧
        s.RegsBut t [S] ∧ t = { s with regs := t.regs }) ∧
      (mir = true → s.twin.faultWait = false → s.Does .twinHbLost fun t => t.bit S TWIN_STATUS_HBLOST = true ∧
        (peer = true → stale t 4) ∧ (peer = false → taken t 2 0 s.twin.lowSteps)) ∧
      (mir = true → peer = true → s.Does (.twinFault cause) fun t =>
        t = { s with twin := { s.twin with fault := some cause.toNat, faultWait := true } }) ∧
      (mir = true → peer = false → s.Does (.twinFault cause) (taken · 1 cause.toNat s.twin.lowSteps))) ∧
    (∀ k, s.twin.took = some k → primary = true →
      (s.fld TWIN_TAKE TWIN_TAKE_CAUSE = 2 ∨ s.fld TWIN_TAKE TWIN_TAKE_CAUSE = 3 → s.ns ≤ k + 10000 →
        s.Does (.twinFault cause) fun t => s.FieldTo t TWIN_TAKE TWIN_TAKE_PCAUSE cause.toNat ∧ s.RegsBut t [TWIN_TAKE] ∧
          t = { s with regs := t.regs }) ∧
      (k + 10000 < s.ns → exec (.twinFault cause) s = .next s)) ∧
    (s.twin.took = none → standby = false ∨ mir = false → exec (.twinFault cause) s = .next s) ∧
    (s.twin.faultWait = true → peer = true → s.Does .twinFaultWaitExpire (stale · 4)) ∧
    (s.twin.faultWait = false ∨ peer = false → exec .twinFaultWaitExpire s = .next s) ∧
    (primary = true → s.Does .twinSenderSilent fun t => t.twin.dropped = true ∧ s.FieldTo t S TWIN_STATUS_SEL 0 ∧
      s.RegsBut t [S] ∧ t.out = s.out) ∧
    (primary = false → exec .twinSenderSilent s = .next s) ∧
    (mir = false → exec (.digestWindowEnd start) s = .next s ∧ exec (.twinDigest start sum n) s = .next s ∧
      exec .mirrorReplyTimeout s = .next s ∧ exec .mirrorJournalTimeout s = .next s) ∧
    (let own := (digOf s.twin.own start).getD ⟨start, 0, 0⟩
     let theirs := s.twin.theirs
     let shownAs := fun (t : State) (d : Digest) => t.reg TWIN_PDIG = d.sum ∧ t.fld TWIN_DCNT TWIN_DCNT_PCOUNT = min d.count 0xFFFF
     let agree := fun (x y : Digest) => x.sum == y.sum && x.count == y.count
     let mism := fun (t : State) (k : Digest) => t.bit S TWIN_STATUS_MISMATCH = true ∧
       t.ctr TWIN_MISM_LO = (s.inc TWIN_MISM_LO).ctr TWIN_MISM_LO ∧
       (s.bit S TWIN_STATUS_MISMATCH = false → t.reg TWIN_MWIN_LO = k.start.extractLsb' 0 32 ∧
         t.reg TWIN_MWIN_HI = (k.start.extractLsb' 32 16).setWidth 32)
     let together := fun (k m a b : Digest) => agree b m = false ∧ a.sum + b.sum = k.sum + m.sum ∧ a.count + b.count = k.count + m.count
     (mir = true → s.digStart start = start → s.digStart s.angle ≠ start → digOf s.twin.closed start = none →
       (s.Does (.digestWindowEnd start) fun t => t.out = s.out ++ [.leat .twin s.dev [3, start.toNat, own.sum.toNat, own.count]] ∧
         t.reg TWIN_DIG = own.sum ∧ t.fld TWIN_DCNT TWIN_DCNT_COUNT = min own.count 0xFFFF ∧
         t.twin.own = s.twin.own.filter (fun x => x.start != start) ∧ (∀ a, digOf theirs start = some a → shownAs t a)) ∧
       (s.twin.closed = [] → s.Does (.digestWindowEnd start) fun t => t.twin.closed = [own] ∧ t.twin.theirs = theirs) ∧
       ∀ k, s.twin.closed = [k] →
         (digOf theirs k.start = none → s.Does (.digestWindowEnd start) fun t => t.twin.closed = [own] ∧
           t.ctr TWIN_DMISS_LO = (s.inc TWIN_DMISS_LO).ctr TWIN_DMISS_LO) ∧
         ∀ a, digOf theirs k.start = some a →
           (agree a k = true → s.Does (.digestWindowEnd start) fun t => t.twin.closed = [own] ∧
             t.twin.theirs = theirs.filter (· != a) ∧ t.ctrs = s.ctrs) ∧
           (agree a k = false → digOf theirs start = none → s.Does (.digestWindowEnd start) fun t =>
             t.twin.closed = [k, own] ∧ t.twin.theirs = theirs ∧ t.ctrs = s.ctrs) ∧
           (∀ b, agree a k = false → digOf theirs start = some b →
             (together k own a b → s.Does (.digestWindowEnd start) fun t => t.twin.closed = [] ∧
               t.ctr TWIN_SPLIT_LO = (s.incBy TWIN_SPLIT_LO 2).ctr TWIN_SPLIT_LO) ∧
             (¬ together k own a b → s.Does (.digestWindowEnd start) fun t => t.twin.closed = [own] ∧ mism t k))) ∧
     (mir = true →
       (s.twin.closed = [] → s.Does (.twinDigest start sum n) fun t =>
         t = { s with twin := { s.twin with theirs := theirs ++ [⟨start, sum, n⟩] } }) ∧
       (∀ k, s.twin.closed = [k] → s.Does (.twinDigest start sum n) fun t => t.twin.theirs = theirs ++ [⟨start, sum, n⟩] ∧
         t.twin.closed = [k] ∧ t.ctrs = s.ctrs ∧ (k.start = start → shownAs t ⟨start, sum, n⟩) ∧
         (k.start ≠ start → s.RegsBut t [])) ∧
       ∀ k m a, s.twin.closed = [k, m] → k.start ≠ start → m.start = start → digOf theirs k.start = some a →
         digOf theirs start = none → agree a k = false → s.Does (.twinDigest start sum n) fun t => shownAs t ⟨start, sum, n⟩ ∧
           (together k m a ⟨start, sum, n⟩ → t.twin.closed = [] ∧
             t.ctr TWIN_SPLIT_LO = (s.incBy TWIN_SPLIT_LO 2).ctr TWIN_SPLIT_LO) ∧
           (¬ together k m a ⟨start, sum, n⟩ → t.twin.closed = [m] ∧ mism t k))) ∧
    (mir = true → ∀ c, c = .mirrorReplyTimeout ∨ c = .mirrorJournalTimeout →
      (primary = true → s.Does c fun t => t.twinState = twSolo ∧ t.twinPrimary = true ∧ t.twin.unreported = [] ∧ t.occurred 0x7D0 = true ∧
        (.leat .twin s.dev [12] : OutMsg) ∈ t.out) ∧
      (primary = false → s.Does c fun t => stale t 3 ∧ (.leat .twin s.dev [12] : OutMsg) ∈ t.out)) ∧
    (primary = false ∨ seq ∉ s.twin.unreported → exec (.mirrorDurableReport seq) s = .next s) ∧
    (primary = true → seq ∈ s.twin.unreported → s.Does (.mirrorDurableReport seq) fun t =>
      t.twin = { s.twin with unreported := s.twin.unreported.filter (· != seq) } ∧
      t.host.cmds = if s.durable seq then s.host.cmds.map (fun c => if c.seq = seq ∧ c.phase = .first then
        { c with phase := .accepted, time := s.ang.time, stamp := s.angle } else c) else s.host.cmds) ∧
    (s.access q TWIN_CMD true = .ok →
      let result := fun (t : State) (r : Nat) => t.fld TWIN_RESULT TWIN_RESULT_RESULT = r
      let refused := fun (t : State) (r : Nat) => result t r ∧ t.twinState = s.twinState ∧ t.twinPrimary = primary ∧
        (s.twin.pend.isSome = true → t.twin = s.twin) ∧
        (s.twin.pend = none → t.twin.pend = none ∧ t.bit TWIN_RESULT TWIN_RESULT_PEND = false)
      let waits := fun (t : State) (op : Nat) => result t 1 ∧ t.bit TWIN_RESULT TWIN_RESULT_PEND = true ∧
        t.twin = { s.twin with pend := some op } ∧ t.twinState = s.twinState
      (s.attachRefusal ≠ 0 → s.Does (.attach q) (refused · s.attachRefusal)) ∧
      (s.attachRefusal = 0 → s.Does (.attach q) fun t => result t 0 ∧ t.twinPrimary = true ∧ t.twinState = twSolo ∧
        t.twin.hiz = false ∧ t.twin.pend = none ∧ t.reg TWIN_PEER_UID_HI ++ t.reg TWIN_PEER_UID_LO = s.twin.partnerUid ∧
        (.leat .twin s.dev [4, s.gen.toNat, s.jnl.head] : OutMsg) ∈ t.out) ∧
      (primary = true → s.twinState ≠ 0 → s.Does (.detach q) fun t => waits t 2 ∧ t.out = s.out) ∧
      (primary = false ∨ s.twinState = 0 → s.Does (.detach q) (refused · 3)) ∧
      (mir = false → s.Does (.swap q) (refused · 3)) ∧
      (mir = true → primary = true → s.Does (.swap q) fun t => waits t 3 ∧ t.out = s.out) ∧
      (mir = true → primary = false → s.Does (.swap q) fun t => waits t 3 ∧ t.out = s.out ++ [.leat .twin s.dev [5, 0]]))

/-- R551-R560, R563, R571, R579, R584, R585: the host interface. -/
def Obligations.HostInterface : Prop :=
  ∀ (s : State) (q : Req) (pair : Fin 257) (v : Word) (ch : Byte) (up : Bool) (speed : Fin 4) (width : Fin 3)
    (body : Option (BitVec 512)) (payload : Option (List Byte)),
    let p := pair.val
    let x := s.qp p
    let on := s.bit (QP_CFG p) QP_CFG_EN
    let stat := QP_STATUS p
    let fs := fieldsAt (QP_CFG p)
    let plain := fun (t : State) => t = { s with regs := t.regs }
    let others := fun (t : State) => ∀ n, n ≠ p → t.qp n = s.qp n
    let refused := fun (t : State) => t.bit stat QP_STATUS_ERR = true ∧ s.RegsBut t [stat] ∧ t.host = s.host ∧ t.out = s.out
    let bell := fun (t : State) => refused t ∧ t.occurred 0x7E6 = true
    let off := fun (t : State) (n : Nat) => t.bit (QP_CFG n) QP_CFG_EN = false ∧ t.qp n = Qp.reset
    (s.halted 18 = true → ∀ c, c = .qpEnable pair v ∨ c = .qpDisable pair ∨ c = .sqDoorbell pair v ∨ c = .cqDoorbell pair v →
      exec c s = .next s) ∧
    (s.halted 18 = false → on = true ∨ reservedEncoding fs (v ||| 0x80000000) = true ∨ s.qpAllowed p = false →
      s.Does (.qpEnable pair v) fun t => refused t ∧ plain t) ∧
    (s.halted 18 = false → on = false → reservedEncoding fs (v ||| 0x80000000) = false → s.qpAllowed p = true → s.Does (.qpEnable pair v) fun t =>
      t.reg (QP_CFG p) = (v ||| 0x80000000) &&& 0x8003FF00 ∧ t.qp p = ⟨0, 0, 0, 0, true, false, false⟩ ∧ others t ∧
      s.RegsBut t [QP_CFG p, stat] ∧ ((v &&& 0x7FFC00FF) ≠ 0 → t.bit stat QP_STATUS_ERR = true)) ∧
    (on = false → exec (.qpDisable pair) s = .next s) ∧
    (s.halted 18 = false → on = true → reservedEncoding fs (s.reg (QP_CFG p) &&& 0x7FFFFFFF) = false → s.Does (.qpDisable pair) fun t =>
      t.reg (QP_CFG p) = s.reg (QP_CFG p) &&& 0x0003FF00 ∧ off t p ∧ others t ∧
      (∀ m ∈ t.out, m ∈ s.out ∨ ∀ n l, m ≠ .completion p n l) ∧
      ((∀ c ∈ s.host.cmds, c.qp ≠ p ∧ c.tgt ≠ p) → t.host.cmds = s.host.cmds ∧ t.mem = s.mem)) ∧
    (let tail := fieldGet QP_SQ_TAIL_TAIL v
     let size := 2 ^ s.fld (QP_CFG p) QP_CFG_SQS
     let may := on && decide (tail < size) && decide (ringDist size x.sqHead x.sqTail ≤ ringDist size x.sqHead tail)
     (s.halted 18 = false → may = true → s.Does (.sqDoorbell pair v) fun t => t.qp p = { x with sqTail := tail } ∧ others t ∧
       s.RegsBut t (if v &&& 0xFFFFF000 = 0 then [] else [stat]) ∧ t.out = s.out ∧
       (v &&& 0xFFFFF000 ≠ 0 → t.bit stat QP_STATUS_ERR = true)) ∧
     (s.halted 18 = false → may = false → s.Does (.sqDoorbell pair v) bell)) ∧
    (let head := fieldGet QP_CQ_HEAD_HEAD v
     let size := 2 ^ s.fld (QP_CFG p) QP_CFG_CQS
     let may := on && decide (head < size) && decide (ringDist size x.cqHead head ≤ ringDist size x.cqHead x.cqTail)
     (s.halted 18 = false → may = true → s.Does (.cqDoorbell pair v) fun t =>
       t.qp p = { x with cqHead := head, sent := false } ∧ others t ∧ t.out = s.out ∧
       s.RegsBut t (if v &&& 0xFFFFF000 = 0 then [] else [stat]) ∧
       (v &&& 0xFFFFF000 ≠ 0 → t.bit stat QP_STATUS_ERR = true)) ∧
     (s.halted 18 = false → may = false → s.Does (.cqDoorbell pair v) bell)) ∧
    (let reads := !s.halted 18 && s.wren && !s.bit JNL_STATUS JNL_STATUS_PFAIL && !s.twinStandby && !s.pwr.standby &&
       decide ((s.host.cmds.filter fun c => c.origin.isNone && !c.dropped).length < 32)
     (reads = false ∨ s.hostTurn = none → exec (.commandFetch body payload) s = .next s) ∧
     (reads = true → ∀ n, s.hostTurn = some n →
       let y := s.qp n
       let taken := fun (t : State) => { y with sqHead := (y.sqHead + 1) % s.sqSize n } = t.qp n ∨ t.qp n =
         { y with sqHead := (y.sqHead + 1) % s.sqSize n, cqTail := (y.cqTail + 1) % s.cqSize n,
                  phase := if (y.cqTail + 1) % s.cqSize n = 0 then !y.phase else y.phase, sent := true }
       (body = none → s.Does (.commandFetch body payload) fun t => t.qp n = { y with stopped := true } ∧ t.host.last = n ∧
         t.bit (QP_STATUS n) QP_STATUS_ERR = true ∧ t.occurred 0x7E6 = true ∧ t.host.cmds = s.host.cmds) ∧
       (∀ b, body = some b →
         let c := s.readCmd n b (payload.getD [])
         let journalled := match c.op with | some o => o.journalled | none => false
         let waits := decide (s.jnl.tokens = 0) && journalled && s.hostLocal c
         (waits = true → s.Does (.commandFetch body payload) fun t => t.bit JNL_STATUS JNL_STATUS_RWAIT = true ∧
           s.RegsBut t [JNL_STATUS] ∧ t.qp n = y ∧ t.host.cmds = s.host.cmds ∧ t.mem = s.mem) ∧
         (waits = false → s.hostCheckAll c payload ≠ 0 → payload ≠ none ∨ s.hostCheckAll c payload ≠ 0xA →
           s.Does (.commandFetch body payload) fun t => taken t ∧ t.host.cmds = s.host.cmds ∧ t.jnl = s.jnl ∧ t.mem = s.mem ∧
             (.completion n y.cqTail (bytesOf 8 0 ++ bytesOf 2 (c.at 2 2) ++ bytesOf 2 ((y.sqHead + 1) % s.sqSize n) ++
               bytesOf 1 (s.hostCheckAll c payload) ++ bytesOf 1 0 ++ bytesOf 1 y.phase.toNat ++ bytesOf 1 0) : OutMsg) ∈ t.out) ∧
         (waits = false → payload = none → s.hostCheckAll c payload = 0xA → s.Does (.commandFetch body payload) fun t =>
           (t.qp n).stopped = (y.stopped || decide (c.paddr % 8 = 0)) ∧ t.host.cmds = s.host.cmds ∧ t.jnl = s.jnl ∧ t.mem = s.mem ∧
           (c.paddr % 8 = 0 → t.bit (QP_STATUS n) QP_STATUS_ERR = true ∧ t.occurred 0x7E6 = true)) ∧
         (waits = false → s.hostCheckAll c payload = 0 →
           (s.hostLocal c = true → journalled = false → s.Does (.commandFetch body payload) fun t => taken t ∧
             t.host.cmds = s.host.cmds ++ [c] ∧ t.jnl = s.jnl ∧ t.mem = s.mem ∧ t.out = s.out) ∧
           (s.hostLocal c = true → journalled = true → s.nvmServing (jnlLine (s.jnlPlace s.jnl.pos)) ≠ [] →
             s.twinPrimary = false ∨ s.twinState ≠ twMirror →
             s.Does (.commandFetch body payload) fun t => taken t ∧ t.jnl.last = s.jnl.last + 1 ∧
               t.jnl.tokens = s.jnl.tokens - 1 ∧ t.jnl.pos = s.jnlPlace ((s.jnlPlace s.jnl.pos + 1) % 131072) ∧
               t.jnl.head = s.jnl.head ∧ t.host.cmds = s.host.cmds ++
                 [{ c with seq := s.jnl.last + 1, pos := s.jnlPlace s.jnl.pos, phase := .first }] ∧
               t.mem.nvmQ = s.mem.nvmQ ++ [⟨jnlLine (s.jnlPlace s.jnl.pos),
                 wordsOf (bytesOf 56 b.toNat ++ bytesOf 8 (s.jnl.last + 1)), .jnl (s.jnl.last + 1) false⟩]) ∧
           (s.hostLocal c = false → s.Does (.commandFetch body payload) fun t => taken t ∧ t.jnl = s.jnl ∧
             ∃ seq, t.host.cmds = s.host.cmds ++ [{ c with phase := .forwarded, seq := seq }] ∧
               ∃ r ∈ t.leat.reqs, r.dst = c.dev ∧ r.seq = seq ∧ r.kind = .benmos ∧ r.who = .benmos n (c.at 2 2) ∧
                 (.leat .benmos c.dev r.args : OutMsg) ∈ t.out))))) ∧
    s.Does .jnlBucketRefill (fun t => t.jnl = { s.jnl with tokens := min (s.jnl.tokens + 1) (s.fld JNL_RATE JNL_RATE_BURST) } ∧
      s.FieldTo t JNL_STATUS JNL_STATUS_RWAIT 0 ∧ s.RegsBut t [JNL_STATUS] ∧ t = { s with regs := t.regs, jnl := t.jnl }) ∧
    (s.access q HOST_MGT true = .ok → s.Does (.mgtGo q) (fun t => t.bit HOST_MGT HOST_MGT_BUSY = true ∧
        s.RegsBut t [HOST_MGT] ∧ t.occurred 0x7E4 = true) ∧
      s.Does (.mgtDone q) fun t => s.RegsBut t [HOST_MGT] ∧ t.irq = s.irq ∧
        (q = .sup ∨ q = .jtag → t.bit HOST_MGT HOST_MGT_BUSY = false) ∧
        (q ≠ .sup → q ≠ .jtag → t.bit HOST_MGT HOST_MGT_BUSY = s.bit HOST_MGT HOST_MGT_BUSY)) ∧
    (let tx := s.host.uartTx
     let rx := s.host.uartRx
     let U := HOST_UART_STAT
     let fifos := fun (t : State) (a b : List Byte) => t.host = { s.host with uartTx := a, uartRx := b } ∧ s.RegsBut t [U] ∧
       t.bit U HOST_UART_STAT_TXFULL = decide (64 ≤ a.length) ∧ t.bit U HOST_UART_STAT_RXAV = !b.isEmpty
     let runs := bitOf (s.reg SYS_CLK_LOCK).toNat 28
     (s.access q HOST_UART_DATA true = .ok →
       (tx.length < 64 → s.Does (.uartTxWrite q ch) fun t => fifos t (tx ++ [ch]) rx) ∧
       (64 ≤ tx.length → s.Does (.uartTxWrite q ch) fun t => t = { s with reply := .done })) ∧
     (s.access q HOST_UART_DATA false = .ok →
       (rx = [] → s.Does (.uartRxRead q) fun t => t.reply = .value 0 ∧ t.host = s.host ∧ s.RegsBut t []) ∧
       (∀ c l, rx = c :: l → s.Does (.uartRxRead q) fun t => t.reply = .value c.toNat ∧ fifos t tx l)) ∧
     (runs = false → exec (.uartRxChar ch) s = .next s ∧ exec .uartCharSent s = .next s) ∧
     (tx = [] → exec .uartCharSent s = .next s) ∧
     (runs = true → rx.length < 64 → s.Does (.uartRxChar ch) fun t => fifos t tx (rx ++ [ch])) ∧
     (runs = true → 64 ≤ rx.length → s.Does (.uartRxChar ch) fun t => s.FieldTo t U HOST_UART_STAT_OVR 1 ∧ s.RegsBut t [U] ∧ plain t) ∧
     (runs = true → ∀ c l, tx = c :: l → s.Does .uartCharSent fun t => fifos t l rx ∧ t.out = s.out ++ [.uart c])) ∧
    s.Does (.pcieLinkChange up speed width) (fun t => t.bit HOST_STATUS HOST_STATUS_LINKUP = up ∧
      t.fld HOST_STATUS HOST_STATUS_SPEED = speed.val ∧ t.fld HOST_STATUS HOST_STATUS_WIDTH = width.val ∧
      s.RegsBut t [HOST_STATUS] ∧ plain t) ∧
    s.Does .perst fun t => (∀ n < 257, t.bit (QP_CFG n) QP_CFG_EN = false) ∧
      ((∀ n < 257, s.bit (QP_CFG n) QP_CFG_EN = false) → t = s)

/-- R566-R570, Tables 16.4 to 16.8: the execution of Benmos commands. -/
def Obligations.BenmosExecution : Prop :=
  ∀ (s : State) (far : List (Word × Option (List Word))) (elsewhere : Bool) (tgt : Fin 257) (slot : Fin 8),
    let accepts := fun (x c : HCmd) => x.seq == c.seq && x.inJournal
    let ends := fun (u t : State) (c : HCmd) (st d : Nat) =>
      (u.nvmServing (jnlLine c.pos) ≠ [] →
        t.mem = { u.mem with nvmQ := u.mem.nvmQ ++ [⟨jnlLine c.pos + 1, wordsOf (u.second c st d), .jnl c.seq true⟩] } ∧
        t.host.cmds = u.host.cmds.map (fun x => if accepts x c then { x with phase := .ended st d } else x) ∧ t.out = u.out) ∧
      (u.nvmServing (jnlLine c.pos) = [] → t.host.cmds = u.host.cmds.filter (fun x => !(accepts x c || x == c)) ∧
        t.occurred 0x7E7 = true ∧ t.ctr JNL_FAIL_LO = (u.inc JNL_FAIL_LO).ctr JNL_FAIL_LO)
    let comesTo := fun (u t : State) (c : HCmd) (p : HPhase) => t.mem = u.mem ∧ t.out = u.out ∧
      t.host.cmds = u.host.cmds.map (fun x => if x.seq == c.seq && x.phase == .accepted then { x with phase := p } else x)
    let results := fun (u t : State) (c : HCmd) (wait : Bool) (ok r : Nat) =>
      (wait = true → comesTo u t c .running) ∧ (wait = false → ends u t c (if r = ok then 0 else 0x10) r)
    let rows : List (Nat × Nat × Instr) := [(1, 1, .regWrite), (1, 2, .regWriteN), (1, 3, .bind ⟨far, elsewhere⟩), (1, 4, .epochReq),
      (1, 5, .applyNow), (2, 1, .post), (3, 1, .inst), (3, 2, .twin), (3, 3, .catchup), (3, 4, .tile), (3, 5, .fence)]
    let readEnds := fun (u t : State) (c : HCmd) (st : Nat) (data : List Byte) =>
      t.host.cmds = u.host.cmds.filter (· != c) ∧
      (c.origin = none → c.dropped = false → (data ≠ [] → (.hostWrite c.paddr data : OutMsg) ∈ t.out) ∧
        (.completion c.qp (u.qp c.qp).cqTail (bytesOf 8 0 ++ bytesOf 2 (c.at 2 2) ++ bytesOf 2 (u.qp c.qp).sqHead ++
          bytesOf 1 st ++ bytesOf 1 0 ++ bytesOf 1 (u.qp c.qp).phase.toNat ++ bytesOf 1 0) : OutMsg) ∈ t.out ∧
        (t.qp c.qp).cqTail = ((u.qp c.qp).cqTail + 1) % u.cqSize c.qp) ∧
      (∀ d tag, c.origin = some (d, tag) → u.pwr.standby = false → u.twinStandby = false →
        (.leat .benmos d (tag :: ([1, 0, st, 0, 0] ++ data.map (·.toNat))) : OutMsg) ∈ t.out)
    (s.hostNext = none → ∀ r ∈ rows, exec r.2.2 s = .next s ∧ exec (.commandExecute ⟨far, elsewhere⟩) s = .next s) ∧
    (∀ c, s.hostNext = some c →
      let v := BitVec.ofNat 32 c.arg0
      let go := c.gchk = true → s.gen.toNat = c.at 48 4
      let run := fun (cls opc : Nat) (P : State → Prop) => go → c.cls = cls → c.opc = opc →
        s.Does (.commandExecute ⟨far, elsewhere⟩) P ∧ ∀ r ∈ rows, r.1 = cls → r.2.1 = opc → s.Does r.2.2 P
      (∀ r ∈ rows, c.cls ≠ r.1 ∨ c.opc ≠ r.2.1 → exec r.2.2 s = .next s) ∧
      (c.gchk = true → s.gen.toNat ≠ c.at 48 4 → s.Does (.commandExecute ⟨far, elsewhere⟩) (ends s · c 0x0B 0) ∧
        ∀ r ∈ rows, r.1 = c.cls → r.2.1 = c.opc → s.Does r.2.2 (ends s · c 0x0B 0)) ∧
      run 1 1 (fun t => ∀ x u, s.hostWrite c.who (c.arg0 % 2 ^ 32) (BitVec.ofNat 32 (c.arg0 / 2 ^ 32)) = (x, u) →
        match x with
        | none => ends u t c (if c.who = .remote then 4 else 0x10) 0
        | some f => ends u t c 0 (f.1.toNat + 2 * f.2.toNat)) ∧
      run 1 2 (fun t => ∀ st d u, s.hostPairs c (wordsOf c.payload) 0 0 = ((st, d), u) → ends u t c st d) ∧
      run 1 3 (fun t =>
        let i := c.arg0
        let m := wordsOf c.payload
        let n := s.bindCheck far i m
        (n ≠ 0 → ends s t c 0x10 n ∧ t.cmpd = s.cmpd ∧ t.cmpdStaged = s.cmpdStaged) ∧
        (n = 0 → tblGet (fun _ => ([] : List Word)) s.cmpd i ≠ [] → s.bindLive far elsewhere i = true →
          ends { s with cmpdStaged := tblPut s.cmpdStaged i m } t c 0 0 ∧ t.cmpd = s.cmpd) ∧
        (n = 0 → tblGet (fun _ => ([] : List Word)) s.cmpd i = [] ∨ s.bindLive far elsewhere i = false →
          tblGet (fun _ => ([] : List Word)) t.cmpd i = m ∧ t.caches = [] ∧ t.cmpdStaged = tblDrop s.cmpdStaged i ∧
          ends { s with cmpd := t.cmpd, cmpdStaged := t.cmpdStaged } t c 0 0)) ∧
      run 1 4 (fun t => ∀ u, s.epRequest (BitVec.ofNat 48 c.arg0) false = u →
        let busy := decide (1 ≤ s.epState ∧ s.epState ≤ 4)
        results u t c (!busy && decide (1 ≤ u.epState ∧ u.epState ≤ 4)) 0
          (if busy then 0x10 else u.fld ANG_EPOCH_STAT ANG_EPOCH_STAT_RESULT)) ∧
      run 1 5 (fun t => ∀ u, s.applyNow = u → results u t c false 0 (u.fld ANG_EPOCH_STAT ANG_EPOCH_STAT_RESULT)) ∧
      run 2 1 (fun t =>
        let k := tblGet (fun _ => 0) s.host.slot c.tgt
        (s.mbxOn c.tgt = false → comesTo s t c .accepted ∧ t.host.slot = s.host.slot) ∧
        (s.mbxOn c.tgt = true → ∀ w u, s.slotWord c.tgt k = (w, u) →
          (w ≠ some 0 → comesTo u t c .accepted ∧ t.host.slot = s.host.slot) ∧
          (w = some 0 → comesTo (u.memWrite 0x101 (u.slotAddr c.tgt k) (bytesOf 56 c.body.toNat ++ bytesOf 8 c.seq ++ bytesOf 4 1)).2
            t c (.posted k) ∧ tblGet (fun _ => 0) t.host.slot c.tgt = (k + 1) % 8))) ∧
      run 3 1 (fun t => ∀ u, (s.setF (INST_STATE c.tgt) INST_STATE_BADOP 0).instCmd c.tgt (c.arg0 % 8) = u →
        let bad := u.bit (INST_STATE c.tgt) INST_STATE_BADOP || decide (5 ≤ c.arg0 % 8)
        ∃ w, w = { u with regs := w.regs } ∧ u.RegsBut w [INST_STATE c.tgt] ∧ ends w t c (if bad then 0x10 else 0) 0) ∧
      run 3 2 (fun t => ∀ u, s.twinCmdWrite .host v = u →
        results u t c (u.twin.pend.isSome && u.fld TWIN_RESULT TWIN_RESULT_RESULT == 1) 0 (u.fld TWIN_RESULT TWIN_RESULT_RESULT)) ∧
      run 3 3 (fun t => ∀ u, s.staleWrite .host (v ||| 0x80000000) = u →
        results u t c u.leat.catching 2 (u.fld LEAT_STALE LEAT_STALE_RESULT)) ∧
      run 3 4 (fun t => ∀ u, s.tretWrite .host v = u →
        results u t c (u.leat.tret.isSome && u.fld LEAT_TRET_STAT LEAT_TRET_STAT_RESULT == 1) 0
          (u.fld LEAT_TRET_STAT LEAT_TRET_STAT_RESULT)) ∧
      run 3 5 (fun t => (s.fenced = false → t.FencedBy 5) ∧ ends (s.fence 5) t c 0 0)) ∧
    (∀ w u, s.slotWord tgt.val slot.val = (w, u) →
      (w = none ∨ w = some 0 ∨ w = some 1 → exec (.mailboxDone tgt slot) s = .next u) ∧
      (∀ x b u', w = some x → x ≠ 0 → x ≠ 1 → u.memRead 0x101 (u.slotAddr tgt.val slot.val + 68) 2 = (b, u') →
        let st := ((b.getD []).getD 0 0).toNat
        let good := decide (x = 2) && (decide (st = 0) || decide (st = 0x10))
        let mine := fun (c : HCmd) => c.phase == .posted slot.val && c.tgt == tgt.val
        (u'.host.cmds.find? mine = none → s.Does (.mailboxDone tgt slot) fun t =>
          t = (u'.memWrite 0x101 (u.slotAddr tgt.val slot.val + 64) (bytesOf 4 0)).2) ∧
        (∀ c, u'.host.cmds.find? mine = some c → s.Does (.mailboxDone tgt slot) fun t =>
          ∃ e, ends u' e c (if good then st else 0x10) (if good then ((b.getD []).getD 1 0).toNat else 0xFF) ∧
            t = (e.memWrite 0x101 (u.slotAddr tgt.val slot.val + 64) (bytesOf 4 0)).2))) ∧
    (∀ cls opc, (s.readyCmd cls opc = none → cls = 4 →
        (opc = 1 → exec .regRead s = .next s) ∧ (opc = 2 → exec .status s = .next s) ∧ (opc = 3 → exec .jnlRead s = .next s)) ∧
      ∀ c, s.readyCmd cls opc = some c → cls = 4 →
        (opc = 1 → ∀ l u, s.regRun c.who c.count (c.arg0 % 2 ^ 32) = (l, u) → s.Does .regRead fun t =>
          match l with
          | some ws => readEnds u t c 0 (bytesOfWords ws)
          | none => readEnds u t c (if c.who = .remote then 4 else 0x10) []) ∧
        (opc = 2 → s.Does .status fun t => readEnds s t c 0 (bytesOf 8 s.jnl.head ++ bytesOf 4 s.gen.toNat ++ bytesOf 1 s.mstate ++
          bytesOf 1 (if s.fenced then s.fld ANG_FENCE ANG_FENCE_CAUSE else 0) ++ bytesOf 1 s.twinState ++
          bytesOf 1 ((s.reg JNL_STATUS).toNat % 256) ++ bytesOf 8 s.ang.time.toNat ++ bytesOf 6 s.angle.toNat ++ bytesOf 2 s.dev ++
          bytesOf 4 (s.reg SYS_UID_LO).toNat ++ bytesOf 4 (s.reg SYS_UID_HI).toNat ++ List.replicate 24 0)) ∧
        (opc = 3 → s.jnl.head < c.arg0 → s.Does .jnlRead fun t => readEnds s t c 0 []) ∧
        (opc = 3 → s.Does .jnlRead fun t =>
          let places := (List.range c.count).filterMap fun k =>
            if s.jnl.head < c.arg0 + k then none else (s.jnlSeqs.find? fun x => x.1 == c.arg0 + k).map (·.2)
          ∀ l u, places.foldl (fun (x : List Byte × State) p => (x.1 ++ (x.2.jnlEntry p).1, (x.2.jnlEntry p).2)) ([], s) = (l, u) →
            readEnds u t c 0 l))

/-- R492, R519, R520, R535-R538, R547-R549, R573: commands and blocks that other devices send. -/
def Obligations.ForwardedAndTransfers : Prop :=
  ∀ (s : State) (rx : Rx) (hd : PktHead) (body : BitVec 512) (payload : List Byte) (jseq : BitVec 64) (st d : Byte)
    (jnl : Bool) (data : List Byte) (xm : XferMsg) (tm : TwinMsg) (pl : Option (List Byte)),
    let src := hd.src.val
    let q := hd.seq.toNat
    let code := match hd.inst with | some i => i.val | none => 256
    let cmd : Instr := .benmosPacket rx hd (.command body payload)
    let c : HCmd := ⟨code, some (src, q), code, hd.gen.toNat, body, payload, 0, 0, .ready, 0, 0, false⟩
    let takes := s.wren && !s.bit JNL_STATUS JNL_STATUS_PFAIL && !s.twinStandby && !s.pwr.standby
    let journalled := match c.op with | some o => o.journalled | none => false
    let failed := fun (t : State) => t.leat.catching = false ∧ t.fld LEAT_STALE LEAT_STALE_RESULT = 5 ∧ t.occurred 0x7C7 = true ∧
      (s.mstate = mCatchup → t.mstate = mStale)
    let replay := decide (s.fld LEAT_STALE LEAT_STALE_METHOD = 1)
    let xf : Instr := .xferPacket rx xm
    let sent := fun (u t : State) => t = u.mirror ([8] ++ xferFields xm)
    let tw : Instr := .twinPacket rx tm
    let mirrors := s.twinStandby && (decide (s.twinState = twMirror) || s.twin.mirroring)
    (rx.ok = true → s.leat.served.find? (fun x => x.src == src && x.seq == q) = none →
      (takes = false ∨ s.host.cmds.any (fun x => x.origin == some (src, q)) = true → exec cmd s = .next s) ∧
      (takes = true → s.host.cmds.any (fun x => x.origin == some (src, q)) = false →
        (journalled = true → s.jnl.tokens = 0 → s.Does cmd fun t => s.FieldTo t JNL_STATUS JNL_STATUS_RWAIT 1 ∧
          s.RegsBut t [JNL_STATUS] ∧ t = { s with regs := t.regs }) ∧
        (journalled = false ∨ s.jnl.tokens ≠ 0 →
          (s.hostCheck c (some payload) ≠ 0 → s.Does cmd fun t =>
            t.out = s.out ++ [.leat .benmos src [q, 1, 0, s.hostCheck c (some payload), 0, 0]] ∧ t.host = s.host ∧ t.jnl = s.jnl ∧
            t.mem = s.mem) ∧
          (s.hostCheck c (some payload) = 0 → s.hostLocal c = true → c.op.isSome = true → journalled = false → s.Does cmd fun t =>
            t.host.cmds = s.host.cmds ++ [c] ∧ t.jnl = s.jnl ∧ t.mem = s.mem ∧ t.out = s.out) ∧
          (s.hostCheck c (some payload) = 0 → s.hostLocal c = true → journalled = true →
            s.nvmServing (jnlLine (s.jnlPlace s.jnl.pos)) ≠ [] → s.twinPrimary = false ∨ s.twinState ≠ twMirror → s.Does cmd fun t => t.jnl.last = s.jnl.last + 1 ∧
              t.host.cmds = s.host.cmds ++ [{ c with seq := s.jnl.last + 1, pos := s.jnlPlace s.jnl.pos, phase := .first }] ∧
              t.mem.nvmQ = s.mem.nvmQ ++ [⟨jnlLine (s.jnlPlace s.jnl.pos),
                wordsOf (bytesOf 56 body.toNat ++ bytesOf 8 (s.jnl.last + 1)), .jnl (s.jnl.last + 1) false⟩])))) ∧
    (rx.ok = true → s.openReq src q = none → exec (.benmosPacket rx hd (.completion jseq st d jnl data)) s = .next s) ∧
    (rx.ok = true → ∀ r f, s.openReq src q = some r →
      s.host.cmds.find? (fun x => x.phase == .forwarded && x.dev == src && x.seq == q) = some f → f.origin = none →
      f.dropped = false → s.Does (.benmosPacket rx hd (.completion jseq st d jnl data)) fun t =>
        t.leat = { s.leat with reqs := s.leat.reqs.filter (· != r) } ∧ t.host.cmds = s.host.cmds.filter (· != f) ∧
        (data ≠ [] → (.hostWrite f.paddr data : OutMsg) ∈ t.out) ∧
        (.completion f.qp (s.qp f.qp).cqTail (bytesOf 8 (if jnl then jseq.toNat else 0) ++ bytesOf 2 (f.at 2 2) ++
          bytesOf 2 (s.qp f.qp).sqHead ++ bytesOf 1 st.toNat ++ bytesOf 1 d.toNat ++
          bytesOf 1 ((s.qp f.qp).phase.toNat + 2 * jnl.toNat) ++ bytesOf 1 0) : OutMsg) ∈ t.out) ∧
    (rx.ok = true → s.leat.catching = false → exec xf s = .next s) ∧
    (rx.ok = true → s.leat.catching = true →
      (∀ e p, xm = .entry e p →
        (replay = false → s.Does xf (sent s)) ∧
        (replay = true → ∀ o u, s.replayEntry e p = (o, u) →
          (o ≠ none → s.Does xf (sent u)) ∧ (o = none → s.mstate = mCatchup → u.mstate = mCatchup → s.Does xf failed))) ∧
      (∀ act stg, xm = .regs act stg → s.Does xf (sent (if replay then s else s.transferRegs act stg))) ∧
      (∀ i l, xm = .compound i l → s.Does xf
        (sent (if replay then s else { s with cmpd := tblSet (fun _ => []) s.cmpd i.toNat l, caches := [] }))) ∧
      (∀ o bs, xm = .memory o bs → replay = true → s.Does xf (sent s)) ∧
      (∀ o bs, xm = .memory o bs → replay = false →
        (∀ a u, s.locOff o.toNat = .mem a → s.memWrite 0x101 a bs = (true, u) → s.Does xf (sent u)) ∧
        ((∀ a, s.locOff o.toNat ≠ .mem a) → s.Does xf failed)) ∧
      (∀ r img, xm = .region r img → (replay = true → s.Does xf (sent s)) ∧
        (replay = false → ∀ u, s.lgcSect 1 r.val img = (0, u) → s.Does xf (sent u))) ∧
      (∀ g n, xm = .last g n → s.Does xf fun t => t.reg LEAT_REF_GEN = g ∧
        t.reg LEAT_REF_JSEQ_LO = n.extractLsb' 0 32 ∧ t.reg LEAT_REF_JSEQ_HI = n.extractLsb' 32 32 ∧
        (replay = false → t.gen = g ∧ t.jnl.head = n.toNat ∧ t.jnl.last = n.toNat ∧ t.jnl.pos = n.toNat % 131072) ∧
        (replay = true → t.jnl = s.jnl ∧ (n.toNat ≤ s.jnl.last → s.gen.toNat < g.toNat → t.gen = g) ∧
          (s.jnl.last < n.toNat ∨ g.toNat ≤ s.gen.toNat → t.gen = s.gen)))) ∧
    (s.readyCmd 5 1 = none → exec (.replay pl) s = .next s) ∧
    (s.readyCmd 5 2 = none → exec .state s = .next s) ∧
    (∀ f, s.readyCmd 5 1 = some f →
      let e := entryCmd s f.payload (pl.getD [])
      let out := fun (t : State) => t.host.cmds = s.host.cmds.filter (· != f)
      (s.hostCatchup 1 = false → s.Does (.replay pl) fun t => out t ∧ t.jnl = s.jnl ∧ t.gen = s.gen) ∧
      (s.hostCatchup 1 = true → (hostPayload e.cls e.opc && pl.isNone) = false → e.seq ≤ s.jnl.last → s.Does (.replay pl) fun t =>
        out t ∧ t.jnl = s.jnl ∧ t.gen = s.gen ∧ t.leat.catching = true) ∧
      (s.hostCatchup 1 = true → (hostPayload e.cls e.opc && pl.isNone) = false → s.jnl.last < e.seq → ∀ p u,
        s.replayEntry f.payload (pl.getD []) = (some p, u) → s.Does (.replay pl) fun t => t.jnl = u.jnl ∧ t.mem = u.mem ∧
          t.host.cmds = u.host.cmds.map fun x => if x == f then { x with seq := e.seq, pos := p, phase := .ended 0 0 } else x)) ∧
    (∀ f, s.readyCmd 5 2 = some f →
      (s.hostCatchup 2 = false → s.Does .state fun t => t.host.cmds = s.host.cmds.filter (· != f) ∧ t.cmpd = s.cmpd ∧
        t.staged = s.staged ∧ t.mem = s.mem) ∧
      (s.hostCatchup 2 = true → ∀ u, s.xferApply (Config.transferBlock f.payload) = (true, u) → s.Does .state fun t =>
        t.host.cmds = u.host.cmds.filter (· != f) ∧ t.cmpd = u.cmpd ∧ t.staged = u.staged ∧ t.mem = u.mem)) ∧
    (rx.ok = true →
      (∀ g n, tm = .attach g n →
        (s.bit TWIN_CFG TWIN_CFG_EN = false ∨ s.twinPrimary = true → exec tw s = .next s) ∧
        (s.bit TWIN_CFG TWIN_CFG_EN = true → s.twinPrimary = false → s.Does tw fun t => t.twinStandby = true ∧ t.twin.hiz = false ∧
          t.reg LEAT_REF_GEN = g ∧ t.reg LEAT_REF_JSEQ_HI ++ t.reg LEAT_REF_JSEQ_LO = n ∧
          (s.gen ≠ g → t.twinState = 2 ∧ t.fld TWIN_STATUS TWIN_STATUS_SCAUSE = 1 ∧ t.mstate = mStale) ∧
          (s.gen = g → s.jnl.head < n.toNat → t.twinState = 2 ∧ t.fld TWIN_STATUS TWIN_STATUS_SCAUSE = 2 ∧ t.mstate = mStale) ∧
          (s.gen = g → n.toNat ≤ s.jnl.head → t.twinState = 4 ∧ t.mstate = mReady ∧ t.twin.mirroring = true ∧
            (.leat .twin s.dev [10] : OutMsg) ∈ t.out))) ∧
      (tm = .swap false →
        (s.twinPrimary = true → s.twinState = twMirror → s.twin.pend = none → s.Does tw fun t =>
          t = { s with twin := { s.twin with pend := some 3 } }) ∧
        (s.twinPrimary = false ∨ s.twinState ≠ twMirror ∨ s.twin.pend ≠ none → exec tw s = .next s)) ∧
      (tm = .swap true →
        (s.twinStandby = true → s.twinState = twMirror → s.Does tw fun t => t.twinPrimary = true ∧ t.twinState = twMirror ∧
          t.fld TWIN_TAKE TWIN_TAKE_CAUSE = 4 ∧ t.bit TWIN_TAKE TWIN_TAKE_VALID = true ∧ t.occurred 0x7D2 = true ∧
          (s.twin.pend = some 3 → t.twin.pend = none ∧ t.fld TWIN_RESULT TWIN_RESULT_RESULT = 0)) ∧
        (s.twinStandby = false ∨ s.twinState ≠ twMirror → exec tw s = .next s)) ∧
      (tm = .detach → (s.twinStandby = false → exec tw s = .next s) ∧
        (s.twinStandby = true → s.Does tw fun t => t.twinState = 0 ∧ t.fld TWIN_STATUS TWIN_STATUS_ROLE = 0 ∧
          t.twin.hiz = true ∧ t.twin.mirroring = false ∧ (s.leat.catching = true → t.leat.catching = false ∧
            t.fld LEAT_STALE LEAT_STALE_RESULT = 5))) ∧
      (tm = .ready → (s.twinPrimary = true → s.twinState = twSolo → s.Does tw fun t =>
          t = { s with twin := { s.twin with mirroring := true, feeding := none } }) ∧
        (s.twinPrimary = false ∨ s.twinState ≠ twSolo → exec tw s = .next s)) ∧
      (∀ b, tm = .epoch b → exec tw s = .next s) ∧
      (tm = .lost → (s.twinState ≠ twMirror → s.twin.mirroring = false → exec tw s = .next s) ∧
        (s.twinState = twMirror ∨ s.twin.mirroring = true →
          (s.twinPrimary = true → s.Does tw fun t => t.twinState = twSolo ∧ t.twin.mirroring = false ∧ t.twin.unreported = []) ∧
          (s.twinPrimary = false → s.Does tw fun t => t.twinState = 2 ∧ t.fld TWIN_STATUS TWIN_STATUS_SCAUSE = 3 ∧ t.mstate = mStale))) ∧
      (∀ m n, tm = .catchup m n → (s.twinPrimary = false → exec tw s = .next s) ∧
        (s.twinPrimary = true → s.Does tw fun t => t.twin.feeding = some m.val ∧ (m.val = 1 ∨ m.val = 2 →
          (.leat .xfer s.dev [6, s.gen.toNat, s.jnl.head % 2 ^ 64] : OutMsg) ∈ t.out))) ∧
      (mirrors = false → ∀ i j h a bs r l sp g b u, tm = .strm i l ∨ tm = .mwr h a bs ∨ tm = .uop h r l sp ∨ tm = .mrsp j g b bs ∨
        tm = .ursp j g u ∨ tm = .boot bs ∨ tm = .xfer xm → exec tw s = .next s) ∧
      (mirrors = true →
        (∀ i l, tm = .strm i l → s.Does tw fun t =>
          tblGet (fun _ => ([] : List CWord)) t.cxb.playout i.val = tblGet (fun _ => []) s.cxb.playout i.val ++ itemsOf l ∧
          s.FieldTo t (CXB_RR_STAT i.val) CXB_RR_STAT_BORDER 0 ∧ t.out = s.out) ∧
        (∀ h a bs e u, tm = .mwr h a bs → s.writeAt (0x200 + h.src.val) .remote (s.locOff (a.toNat % 2 ^ 39)) bs = (e, u) →
          u.twinPrimary = false → s.Does tw fun t => t = u) ∧
        (∀ h r l sp, tm = .uop h r l sp → s.Does tw fun t => t = s.uopArrive h r l sp) ∧
        (∀ j g b bs, tm = .mrsp j g b bs → s.mirrorReq j.val g.toNat (fun r => (r.reads || r.kind == .mwr) &&
            (b != 0 || r.reads == !bs.isEmpty)) = none → s.Does tw fun t => t.twinState = 2 ∧
              t.fld TWIN_STATUS TWIN_STATUS_SCAUSE = 3 ∧ t.mstate = mStale) ∧
        (∀ j g b bs r, tm = .mrsp j g b bs → s.mirrorReq j.val g.toNat (fun r => (r.reads || r.kind == .mwr) &&
            (b != 0 || r.reads == !bs.isEmpty)) = some r → s.Does tw fun t => t = s.memAnswer r b.toNat bs) ∧
        (∀ j g u sub, tm = .ursp j g (.fault u sub) → s.Does tw fun t => t = s.unitReport j.val g.toNat u.toNat sub.toNat) ∧
        (∀ p dv b l n pos g, tm = .benmos p dv b l n pos g → s.nvmServing (jnlLine pos.toNat) ≠ [] → s.Does tw fun t =>
          t.jnl.last = n.toNat ∧ t.jnl.pos = s.jnlPlace ((pos.toNat + 1) % 131072) ∧ (∃ f ∈ t.host.cmds, f.seq = n.toNat ∧
            f.pos = pos.toNat ∧ f.phase = .first ∧ f.body = b ∧ f.dropped = true) ∧
          t.mem.nvmQ = s.mem.nvmQ ++ [⟨jnlLine pos.toNat, wordsOf (bytesOf 56 b.toNat ++ bytesOf 8 n.toNat), .jnl n.toNat false⟩]) ∧
        (∀ bs, tm = .boot bs → s.Does tw fun t => t = s.bootBytes bs) ∧
        (tm = .xfer xm → s.Does tw fun t => t = (s.xferApply xm).2)))

/-- R620-R638: calibration. -/
def Obligations.CalibrationCommands : Prop :=
  ∀ (s : State) (q : Req) (die : Fin 2) (cls : BitVec 7) (src : Fin 4) (res : List CalMeas),
    let busy := s.bit CAL_STATUS CAL_STATUS_BUSY
    let S := CAL_STATUS
    let R := CAL_RESULT
    let code := fun (t : State) (r : Nat) => t.fld R CAL_RESULT_RESULT = r
    let refused := fun (t : State) (r : Nat) => code t r ∧ t.occurred 0x802 = true ∧ t.cal = s.cal ∧ s.RegsBut t [CAL_CMD, R] ∧
      t.mem = s.mem
    let began := fun (t : State) (o : CalOp) => t.cal.op = some o ∧ t.bit S CAL_STATUS_BUSY = true ∧ t.cal.force = s.cal.force ∧
      t.cal.stored = s.cal.stored ∧ s.RegsBut t [CAL_CMD, S] ∧ t.irq = s.irq
    let ended := fun (t : State) (r : Nat) => code t r ∧ t.cal.op = none ∧ t.cal.amp = none ∧ t.bit S CAL_STATUS_BUSY = false ∧
      t.occurred 0x802 = true
    let eddy := fun (x : CalMeas) => decide (x.cls.val = 2) && (s.group (x.index / 5)).trims.any fun y => y.1 == x.index % 5
    let measured := fun (x : CalMeas) (t : State) =>
      let k := calKey x.cls.val x.index
      let st := s.calStored k
      let bad := !withinLimits x.vals (calLimit x.cls.val) 16 || (decide (st ≠ []) &&
        !withinLimits (List.zipWith (· - ·) x.vals st) (calDrift x.cls.val) (s.calDl x.cls.val))
      (bad = true → t.bit S CAL_STATUS_FAIL = true ∧ t.cal.force = s.cal.force ∧ t.cal.wait = s.cal.wait ∧
        t.ctr CAL_FAILS_LO = (s.inc CAL_FAILS_LO).ctr CAL_FAILS_LO ∧ (s.bit CAL_FREC CAL_FREC_VALID = false → x.index < 8192 →
          t.bit CAL_FREC CAL_FREC_VALID = true ∧ t.fld CAL_FREC CAL_FREC_CLASS = x.cls.val ∧
          t.fld CAL_FREC CAL_FREC_INDEX = x.index)) ∧
      (bad = false → s.outputsReleased = true → t.cal.force = s.cal.force ∧
        tblGet (fun _ => ([] : List Int)) t.cal.wait k = x.vals ∧ t.bit S CAL_STATUS_PEND = true ∧ t.ctrs = s.ctrs) ∧
      (bad = false → s.outputsReleased = false → x.index < 8192 → eddy x = true → t.cal.force = s.cal.force ∧ t.ctrs = s.ctrs) ∧
      (bad = false → s.outputsReleased = false → x.index < 8192 → eddy x = false →
        tblGet (fun _ => ([] : List Int)) t.cal.force k = x.vals ∧
        (∀ j, j ≠ k → tblGet (fun _ => ([] : List Int)) t.cal.force j = tblGet (fun _ => []) s.cal.force j) ∧ t.ctrs = s.ctrs)
    (s.bit S CAL_STATUS_PUDONE = true ∨ s.pwr.tilesUp = false → exec (.calPowerupStart die) s = .next s) ∧
    (s.bit S CAL_STATUS_PUDONE = false → s.pwr.tilesUp = true → s.Does (.calPowerupStart die) fun t => t.cal = { s.cal with running := true } ∧
      t.bit (CVG_REF die.val) CVG_REF_EN_A = true ∧ t.bit (CVG_REF die.val) CVG_REF_EN_B = true ∧ s.RegsBut t [CVG_REF die.val]) ∧
    (s.cal.running = false → exec (.calPowerupEnd res) s = .next s) ∧
    (s.cal.running = true → s.Does (.calPowerupEnd res) (fun t => t.cal.running = false ∧ t.bit S CAL_STATUS_PUDONE = true ∧
      t.occurred 0x800 = true ∧ t.cal.powerup = t.cal.force.filter (fun x => x.1 / 8192 == 2) ∧
        (res = [] → t.cal = { s.cal with running := false, powerup := t.cal.powerup } ∧ s.RegsBut t [S])) ∧
      ∀ x, res = [x] → s.Does (.calPowerupEnd res) (measured x)) ∧
    (s.access q CAL_CMD true = .ok →
      let mod1 := fun (t : State) => code t 1 ∧ t.cal = s.cal ∧ s.RegsBut t [CAL_CMD, R] ∧ t.irq = s.irq
      (cls = 0 → s.Does (.recal q cls) fun t => t.bit S CAL_STATUS_RSVD_WR = true ∧ t.cal = s.cal ∧ t.reg R = s.reg R ∧
        t.reg CAL_CMD = s.reg CAL_CMD) ∧
      (busy = true → (cls ≠ 0 → s.Does (.recal q cls) mod1) ∧ s.Does (.save q) mod1 ∧ s.Does (.calExport q) mod1 ∧
        s.Does (.calImport q) mod1 ∧ s.Does (.amp q src) mod1) ∧
      (busy = false →
        (cls ≠ 0 → s.outputsReleased = true → s.fenced = false → s.Does (.recal q cls) (refused · 2)) ∧
        (cls ≠ 0 → s.outputsReleased = false ∨ s.fenced = true → s.Does (.recal q cls) (began · .recal)) ∧
        (s.halfFailed 0 = true ∨ s.halfFailed 1 = true → s.Does (.save q) (refused · 5)) ∧
        (s.halfFailed 0 = false → s.halfFailed 1 = false → s.Does (.save q) fun t =>
          let bank := if s.fld S CAL_STATUS_BANK = 0 then 1 else 0
          began t (.save 1106 bank) ∧ t.cal.saving = s.calBody ∧ t.mem = { s.mem with
            nvmQ := s.mem.nvmQ ++ (List.range 1106).map fun k =>
              (⟨calBankLine bank + 1 + k, wordsOf ((s.calBody.drop (64 * k)).take 64), .cal false⟩ : NvmWrite) }) ∧
        (s.calRange = none → s.Does (.calExport q) (refused · 4) ∧ s.Does (.calImport q) (refused · 4)) ∧
        (s.calRange ≠ none → s.Does (.calExport q) (fun t => began t .exporting ∧ t.mem = s.mem) ∧
          s.Does (.calImport q) (fun t => began t .importing ∧ t.mem = s.mem)) ∧
        (s.srcKind src.val ≠ 3 ∨ s.bit (ANG_SRC_STAT src.val) ANG_SRC_STAT_LOCKED = false → s.Does (.amp q src) (refused · 3)) ∧
        (s.srcKind src.val = 3 → s.bit (ANG_SRC_STAT src.val) ANG_SRC_STAT_LOCKED = true → s.Does (.amp q src) fun t =>
          began t .amp ∧ t.cal.amp = some ⟨src.val, (s.src src.val).loop.vis.extractLsb' 48 16, false, 0, 0, false⟩))) ∧
    (s.cal.op ≠ some .recal → exec (.recalEnd res) s = .next s) ∧
    (s.cal.op = some .recal → s.Does (.recalEnd res) (fun t => ended t 0) ∧
      s.Does (.recalEnd res) (fun t => ∀ n u, s.calMeasures res = (n, u) → t.fld R CAL_RESULT_NFAIL = n % 65536 ∧
        t.cal.force = u.cal.force ∧ t.cal.wait = u.cal.wait) ∧
      ∀ x, res = [x] → s.Does (.recalEnd res) (measured x)) ∧
    (s.cal.op ≠ some .exporting → exec .exportEnd s = .next s) ∧
    (s.cal.op = some .exporting → (s.calRange = none → s.Does .exportEnd (ended · 4)) ∧
      ∀ o, s.calRange = some o → ∀ r u, s.calBank (s.fld S CAL_STATUS_BANK) = (r, u) → s.Does .exportEnd fun t => ended t 0 ∧
        t.mem.bytes = (match r with | some l => (u.memWrite 0x100 o l).2.mem.bytes | none => u.mem.bytes)) ∧
    (s.cal.op ≠ some .importing → exec .importReadEnd s = .next s) ∧
    (s.cal.op = some .importing → (s.calRange = none → s.Does .importReadEnd (ended · 4)) ∧
      ∀ o, s.calRange = some o →
        (∀ u, s.memRead 0x100 o 70848 = (none, u) → s.Does .importReadEnd (ended · 6)) ∧
        ∀ l u, s.memRead 0x100 o 70848 = (some l, u) →
          let f := fun (a n : Nat) => natOf ((l.drop a).take n)
          let form := decide (f 0 4 = 0x4C414343) && decide (f 4 2 = 1) && decide (f 24 4 = (crc32 (l.drop 64)).toNat) &&
            decide (f 60 4 = (crc32 (l.take 60)).toNat)
          (form = false → s.Does .importReadEnd (ended · 6)) ∧
          (form = true → f 16 8 ≠ s.uid → s.Does .importReadEnd (ended · 7)) ∧
          (form = true → f 16 8 = s.uid → s.halfFailed 0 = true ∨ s.halfFailed 1 = true → s.Does .importReadEnd (ended · 5)) ∧
          (form = true → f 16 8 = s.uid → s.halfFailed 0 = false → s.halfFailed 1 = false → s.Does .importReadEnd fun t =>
            t.cal.op = some (.save 1106 (if s.fld S CAL_STATUS_BANK = 0 then 1 else 0)) ∧ t.cal.saving = l.drop 64 ∧
            t.bit S CAL_STATUS_BUSY = true)) ∧
    (s.cal.op ≠ some .amp ∨ s.cal.amp = none → exec .ampEnd s = .next s) ∧
    (s.cal.op = some .amp → ∀ a, s.cal.amp = some a →
      let m := quot a.sum (a.n * 2 ^ 14)
      (a.ended = false ∨ a.n = 0 → exec .ampEnd s = .next s) ∧
      (a.ended = true → a.n ≠ 0 → m * 10 < 2 ^ 32 ∨ 2 ^ 32 ≤ m → s.Does .ampEnd fun t => ended t 4 ∧ t.cal.wait = s.cal.wait) ∧
      (a.ended = true → a.n ≠ 0 → 2 ^ 32 ≤ m * 10 → m < 2 ^ 32 → a.src < 8192 → s.Does .ampEnd fun t => ended t 0 ∧
        tblGet (fun _ => ([] : List Int)) t.cal.wait (calKey 7 a.src) = [m] ∧ t.cal.force = s.cal.force))

/-- R605-R611, R613, R615, R616: Sluice, the key commands and the integrity scan. -/
def Obligations.SluiceKeysAndScan : Prop :=
  ∀ (s : State) (q : Req) (arg : BitVec 10) (id : Word) (diff : BitVec 1024) (overlap refBad : Bool),
    let C := BOOT_SLUICE_CTL
    let S := BOOT_SLUICE_STAT
    let K := BOOT_KEYSTAT
    let idle := fun (i : Instr) => exec i s = .next s
    let pos := fun f => s.fld C f
    let steps := [pos BOOT_SLUICE_CTL_POS1, pos BOOT_SLUICE_CTL_POS2, pos BOOT_SLUICE_CTL_POS3]
    let formed := [1, 2, 3].all steps.contains && decide (s.fld C BOOT_SLUICE_CTL_LTMO ≠ 0)
    let may := decide (q = .sup) || decide (q = .jtag)
    (s.access q C true = .ok → s.reg C &&& 0x3FC0FF00 = 0 → formed = true →
      (s.boot.sluice = true → may = true → s.Does (.sluiceGo q) fun t => t.bit S BOOT_SLUICE_STAT_BADOP = true ∧ t.boot = s.boot ∧
        s.RegsBut t [S] ∧ t.fld S BOOT_SLUICE_STAT_POS = s.fld S BOOT_SLUICE_STAT_POS) ∧
      (s.boot.sluice = false → may = true → s.Does (.sluiceGo q) fun t => t.boot = { s.boot with sluice := true } ∧
        t.fld S BOOT_SLUICE_STAT_POS = 0 ∧ (∀ d < 29, (t.reg BOOT_LOCKMASK).getLsbD d = bitOf s.lockMask d) ∧
        s.RegsBut t [S, BOOT_LOCKMASK]) ∧
      (s.boot.sluice = false → may = false → s.Does (.sluiceGo q) fun t => t.boot = s.boot ∧ s.RegsBut t []) ∧
      s.Does (.progrdy q) fun t => t.bit C BOOT_SLUICE_CTL_PROGRDY = true ∧ t.boot = s.boot ∧ s.RegsBut t [C] ∧
        t.reg C &&& 0xBFFFFFFF = s.reg C &&& 0xBFFFFFFF) ∧
    (s.boot.sluice = false ∨ s.bit S BOOT_SLUICE_STAT_FAIL = true ∨ 3 < s.fld S BOOT_SLUICE_STAT_POS →
      idle .sluiceStep ∧ idle .outrel ∧ idle .sluiceLockTimeout) ∧
    (s.boot.sluice = true → s.bit S BOOT_SLUICE_STAT_FAIL = false → s.fld S BOOT_SLUICE_STAT_POS ≤ 3 →
      let p := s.fld S BOOT_SLUICE_STAT_POS
      let k := if p = 0 then 0 else steps.getD (p - 1) 0
      let done := s.fld S BOOT_SLUICE_STAT_DONE
      let performed := fun (t : State) => t.fld S BOOT_SLUICE_STAT_POS = p + 1 ∧ t.occurred 0x7F3 = true ∧
        bitOf (t.fld S BOOT_SLUICE_STAT_DONE) k = true ∧
        (∀ j, j ≠ k → bitOf (t.fld S BOOT_SLUICE_STAT_DONE) j = bitOf done j)
      let released := s.bit C BOOT_SLUICE_CTL_PROGRDY && decide (s.fld BOOT_STATUS BOOT_STATUS_STATE = 4) &&
        (decide (s.mstate = 0) || decide (s.mstate = 5)) && !bitOf done 1
      (k = 0 → p = 0 → s.allLocked = true → s.Does .sluiceStep fun t => performed t ∧ s.RegsBut t [S] ∧ idle .sluiceLockTimeout) ∧
      (k = 0 → p = 0 → s.allLocked = false → idle .sluiceStep ∧ s.Does .sluiceLockTimeout fun t =>
        t.bit S BOOT_SLUICE_STAT_FAIL = true ∧ t.occurred 0x7F3 = true ∧ s.RegsBut t [S] ∧ t.fld S BOOT_SLUICE_STAT_DONE = done) ∧
      (2 ≤ k → s.Does .sluiceStep fun t => performed t ∧ s.RegsBut t [S] ∧ idle .outrel) ∧
      (k = 1 → released = false → idle .sluiceStep ∧ idle .outrel) ∧
      (k = 1 → released = true → s.Does .sluiceStep performed ∧ s.Does .outrel fun t => performed t ∧
        ∀ u : Fin 512, t.bit (CEL_STATUS u) CEL_STATUS_REL = true)) ∧
    (s.access q BOOT_KEYCMD true = .ok →
      let mayKey := may || decide (q = .host)
      let lock := s.bit K BOOT_KEYSTAT_KLOCK
      let code := fun (t : State) (r : Nat) => t.fld K BOOT_KEYSTAT_RESULT = r ∧ t.boot = s.boot ∧ t.mem.nvmQ = s.mem.nvmQ
      let refused := fun (t : State) => code t 1 ∧ s.RegsBut t [K, BOOT_KEYCMD]
      let only := fun (i : Instr) (no : Bool) (op n : Nat) (data : List Word → List Word) =>
        (mayKey = false ∨ s.bit K BOOT_KEYSTAT_BUSY = true ∨ no = true → s.Does i refused) ∧
        (mayKey = true → s.bit K BOOT_KEYSTAT_BUSY = false → no = false →
          (s.nvmServing nvmKeyLine = [] → s.Does i fun t => code t 2 ∧ s.RegsBut t [K, BOOT_KEYCMD]) ∧
          (s.nvmServing nvmKeyLine ≠ [] → s.Does i fun t => t.bit K BOOT_KEYSTAT_BUSY = true ∧
            (∃ l, t.mem.nvmQ = s.mem.nvmQ ++ [⟨nvmKeyLine + n, data l, .key⟩]) ∧
            (∃ a, t.boot.key = some (op, a) ∧ (op = 2 → a = arg.toNat)) ∧
            t.fld K BOOT_KEYSTAT_RESULT = s.fld K BOOT_KEYSTAT_RESULT))
      only (.setHash q) lock 1 1 (fun l => (List.range 12).map (fun k => s.reg (BOOT_KEYBUF k)) ++ l.drop 12) ∧
      only (.setIndex q arg) false 2 0 (fun l => l.set 2
        ((l.getD 2 0 &&& 0xFFFF0000) ||| BitVec.ofNat 32 (arg.toNat / 512 % 2 * 2 ^ 15 + arg.toNat % 512))) ∧
      only (.setOxbow q) (lock || decide (s.fld (BOOT_KEYBUF 0) BOOT_KEYBUF_DATA % 256 ≠ 0)) 3 0
        (fun l => l.set 3 (s.reg (BOOT_KEYBUF 0))) ∧
      only (.lockKey q) (!s.bit K BOOT_KEYSTAT_HASHSET) 4 0 (fun l => l.set 4 (l.getD 4 0 ||| 1)) ∧
      only (.lockDebug q) false 5 0 (fun l => l.set 4 (l.getD 4 0 ||| 2)) ∧
      (mayKey = false ∨ s.bit K BOOT_KEYSTAT_BUSY = true → s.Does (.session q) refused) ∧
      (mayKey = true → s.bit K BOOT_KEYSTAT_BUSY = false → s.Does (.session q) fun t =>
        t.bit K BOOT_KEYSTAT_SESSION = true ∧ code t 0 ∧ s.RegsBut t [K, BOOT_KEYCMD])) ∧
    (let scan := Instr.ciScanFrame id diff overlap refBad
     let n := id.toNat
     let skip := !s.bit BOOT_CI_CFG BOOT_CI_CFG_EN || s.epState == 4 || !frameHeld n || overlap ||
       (decide (0x80000000 ≤ n) && s.rgRebuilt ((n - 0x80000000) / 16))
     let ess := decide (diff &&& s.essential n ≠ 0)
     let rep := s.bit BOOT_CI_CFG BOOT_CI_CFG_REPAIR
     (skip = true → idle scan) ∧
     (skip = false → diff = 0 → s.Does scan fun t => t.ctrs = s.ctrs ∧ t.irq = s.irq ∧
       t.reg BOOT_CI_STATUS = s.reg BOOT_CI_STATUS ∧ tblGet (fun _ => 0) t.boot.upsets n = 0) ∧
     (skip = false → diff ≠ 0 → refBad = true → s.Does scan fun t => t.bit BOOT_CI_STATUS BOOT_CI_STATUS_REFERR = true ∧
       t.ctrs = s.ctrs ∧ t.irq = s.irq) ∧
     (skip = false → diff ≠ 0 → refBad = false → s.Does scan fun t =>
       (ess = true → t.bit BOOT_CI_STATUS BOOT_CI_STATUS_ALARM = true ∧
         (t.ctr BOOT_CI_ESS_LO = (s.inc BOOT_CI_ESS_LO).ctr BOOT_CI_ESS_LO)) ∧
       (ess = false → t.occurred 0x7F1 = true ∧ (t.ctr BOOT_CI_NESS_LO = (s.inc BOOT_CI_NESS_LO).ctr BOOT_CI_NESS_LO)) ∧
       (rep = true → t.ctr BOOT_CI_REP_LO = (s.inc BOOT_CI_REP_LO).ctr BOOT_CI_REP_LO ∧
         tblGet (fun _ => 0) t.boot.upsets n = 0) ∧
       (s.bit BOOT_CI_REC BOOT_CI_REC_VALID = false → t.bit BOOT_CI_REC BOOT_CI_REC_VALID = true ∧
         t.reg BOOT_CI_REC_ID = id ∧ t.bit BOOT_CI_REC BOOT_CI_REC_ESS = ess ∧
         t.bit BOOT_CI_REC BOOT_CI_REC_REPAIRED = rep) ∧
       (ess = true → rep = false → s.bit BOOT_CI_CFG BOOT_CI_CFG_FENCE = true → s.fenced = false → t.fenced = true ∧
         t.fld ANG_FENCE ANG_FENCE_CAUSE = 0x11)))

/-- R583, R588, R595, R599-R604, R609: the loading of a chain. -/
def Obligations.BootLoading : Prop :=
  ∀ (s : State) (rx : Rx) (l d : List Byte) (data : Option (List Byte)) (devs : List (Fin 512)) (dev : Fin 512)
    (cause : BitVec 4) (oxbow late ok : Bool) (c : Fin 2),
    let st := s.fld BOOT_STATUS BOOT_STATUS_STATE
    let state := fun (t : State) => t.fld BOOT_STATUS BOOT_STATUS_STATE
    let shown := fun (t : State) (n : Nat) => t.fld BOOT_STATUS (if s.boot.oxbow then BOOT_STATUS_CAUSE2 else BOOT_STATUS_CAUSE) = n
    let head := s.bit LEAT_CFG LEAT_CFG_HWSEL
    let busy := s.bit BOOT_LATE BOOT_LATE_BUSY
    let target := s.fld BOOT_LATE BOOT_LATE_DEV
    let idle := fun (i : Instr) => exec i s = .next s
    let sent := fun (t : State) (dst : Nat) (l : List Nat) => (OutMsg.leat .boot dst l) ∈ t.out
    let loads := decide (st = 2) || decide (st = 3)
    let good := rx.ok = true
    let talks := s.pwr.standby = false ∧ s.twinStandby = false
    let nums := devs.map (·.val)
    -- a member
    (st ≠ 0 ∨ s.pwr.inReset = true → idle .identityReadDone) ∧
    (st = 0 → s.pwr.inReset = false → let x := (s.keyLine 0).1; let y := ((s.keyLine 0).2.keyLine 1).1
      s.Does .identityReadDone fun t => state t = 1 ∧
      t.reg SYS_UID_LO = x.getD 0 0 ∧ t.reg SYS_UID_HI = x.getD 1 0 ∧
      t.fld LEAT_CFG LEAT_CFG_FIXIDX = (x.getD 2 0).toNat % 512 ∧
      t.reg BOOT_OXBOW = (if x.getD 3 0 = 0 then 0x08000000 else x.getD 3 0) ∧
      t.bit BOOT_KEYSTAT BOOT_KEYSTAT_KLOCK = (x.getD 4 0).getLsbD 0 ∧
      t.bit BOOT_KEYSTAT BOOT_KEYSTAT_DLOCK = (x.getD 4 0).getLsbD 1 ∧
      t.boot.keyHash = BitVec.ofNat 384 (natOf (bytesOfWords (y.take 12)))) ∧
    (head = true → s.Does (.bootStart rx oxbow late) (fun t => t.boot = s.boot) ∧
      s.Does (.bootGo rx devs) (fun t => t.boot = s.boot) ∧ s.Does (.bootAbort rx) (fun t => t.boot = s.boot) ∧
      s.Does (.bootPacket rx d) (fun t => t.boot = s.boot) ∧ idle .bootLinkTimeout) ∧
    (head = false → good →
      (st ≠ 1 → s.Does (.bootStart rx oxbow late) fun t => t.boot = s.boot) ∧
      (st = 1 → s.pwr.tilesUp = false → s.Does (.bootStart rx oxbow late) fun t =>
        t.boot = { s.boot with startDue := some (oxbow, late) } ∧ state t = 1) ∧
      (st = 1 → s.pwr.tilesUp = true → s.Does (.bootStart rx oxbow late) fun t => state t = 2 ∧ t.boot.oxbow = oxbow ∧
        t.boot.lateHere = late ∧ t.boot.img = [] ∧ t.boot.cause = 0 ∧ (talks → sent t s.headIdx [2, s.dev])) ∧
      (loads = false → s.Does (.bootGo rx devs) fun t => t.boot = s.boot) ∧
      (loads = true →
        (nums.contains s.dev = true → st = 3 → s.boot.cause = 0 → s.boot.verifying = false → s.Does (.bootGo rx devs) fun t =>
          state t = 4 ∧ t.fld BOOT_STATUS BOOT_STATUS_IMAGE = s.boot.oxbow.toNat ∧
          t.bit BOOT_STATUS BOOT_STATUS_LATE = s.boot.lateHere) ∧
        (s.boot.cause ≠ 0 → s.boot.oxbow = true → s.Does (.bootGo rx devs) fun t => state t = 5 ∧
          t.fld BOOT_STATUS BOOT_STATUS_IMAGE = 2) ∧
        (nums.contains s.dev = false → s.boot.cause = 0 ∨ s.boot.oxbow = false → s.Does (.bootGo rx devs) fun t => state t = 1)) ∧
      (loads = true → s.boot.oxbow = false → s.boot.lateHere = false → s.Does (.bootAbort rx) fun t => state t = 1 ∧
        t.boot.oxbow = true ∧ t.boot.img = [] ∧ (s.boot.cause = 0 → shown t 0xC)) ∧
      (loads = true ∨ st = 1 → s.boot.oxbow = true ∨ s.boot.lateHere = true → s.Does (.bootAbort rx) fun t => state t = 5 ∧
        t.fld BOOT_STATUS BOOT_STATUS_IMAGE = 2 ∧ (s.boot.cause = 0 → shown t 0xC)) ∧
      (loads = false → st ≠ 1 → s.Does (.bootAbort rx) fun t => t.boot = s.boot) ∧
      (st ≠ 2 → s.Does (.bootPacket rx d) fun t => t.boot = s.boot) ∧
      (st = 2 → s.boot.next = 0 → (s.boot.img ++ d).length < 256 → s.Does (.bootPacket rx d) fun t =>
        t.boot = { s.boot with img := s.boot.img ++ d } ∧ state t = 2)) ∧
    (head = false →
      (st = 2 → rx.ok = false → s.Does (.bootPacket rx d) fun t => state t = 1 ∧ shown t 0xB ∧ t.boot.img = [] ∧ t.staged = []) ∧
      (loads = true → s.Does .bootLinkTimeout fun t => state t = 1 ∧ shown t 0xB ∧ t.boot.img = [] ∧ t.boot.next = 0 ∧
        t.staged = [] ∧ (talks → sent t s.headIdx [5, s.dev, 0xB])) ∧
      (loads = false → idle .bootLinkTimeout)) ∧
    -- the headwater
    (head = false → idle (.flashReadDone data) ∧ idle (.bootEnumTimeout devs) ∧ idle (.flashSectionData data) ∧
      idle .bootSyncTimeout ∧ idle (.lateLoad devs) ∧ s.Does (.bootSectionReport rx dev cause) (fun t => t.boot = s.boot) ∧
      s.Does (.bootVerifyReport rx dev cause) (fun t => t.boot = s.boot)) ∧
    (head = true →
      let main := decide (st = 1) && decide (s.fld BOOT_STATUS BOOT_STATUS_MODE < 2) && !s.boot.gone && s.pwr.tilesUp
      (s.boot.img ≠ [] ∨ (main = false ∧ busy = false) ∨ s.halted 25 = true → idle (.flashReadDone data)) ∧
      (s.halted 25 = false → s.boot.img = [] → main = true → busy = false → s.boot.oxbow = false → s.boot.cause = 0 →
        s.Does (.flashReadDone none) fun t => state t = 1 ∧ t.boot.oxbow = true ∧ shown t 1) ∧
      (s.halted 25 = false → s.boot.img = [] → main = true → busy = false → s.boot.oxbow = true → s.boot.cause = 0 →
        s.Does (.flashReadDone none) fun t => state t = 5 ∧ shown t 1) ∧
      (s.halted 25 = false → s.boot.img = [] → busy = true → s.Does (.flashReadDone none) fun t => t.bit BOOT_LATE BOOT_LATE_BUSY = false ∧
        t.fld BOOT_LATE BOOT_LATE_RESULT = 2 ∧ t.occurred 0x7F2 = true ∧ (talks → sent t target [7])) ∧
      (s.halted 25 = false → s.boot.img = [] → main = true ∨ busy = true → 256 ≤ l.length → imgTop l ≤ l.length → s.imgCause l true = 0 →
        (busy = true ∨ at' (l.take (imgTop l)) 22 2 ≠ 1) → s.Does (.flashReadDone (some l)) fun t =>
          t.boot = { s.boot with img := l.take (imgTop l) } ∧
          (talks → sent t (if busy then target else toAll) [1, s.boot.oxbow.toNat, busy.toNat])) ∧
      (s.boot.img = [] ∨ (busy = true ∧ s.boot.next ≠ 0) ∨ (busy = false ∧ st ≠ 1) → idle (.bootEnumTimeout devs)) ∧
      (s.boot.img ≠ [] → s.boot.img.length ≤ imgTop s.boot.img → busy = false → st = 1 → ∃ t, exec (.bootEnumTimeout devs) s = .next t ∧
        t.boot.answered = nums.filter fun n => n != s.dev && (s.boot.answered.isEmpty || s.boot.answered.contains n)) ∧
      (let on := if busy then decide (s.boot.next = 1) else decide (st = 2)
       (on = false ∨ s.halted 25 = true ∨ s.boot.syncing = true ∨ imgLen s.boot.img ≤ s.boot.img.length → idle (.flashSectionData data)) ∧
       (on = true → s.halted 25 = false → s.boot.syncing = false → s.boot.img.length < imgLen s.boot.img →
         (busy = true → s.Does (.flashSectionData none) fun t => t.bit BOOT_LATE BOOT_LATE_BUSY = false ∧
           t.fld BOOT_LATE BOOT_LATE_RESULT = 2) ∧
         (s.Does (.flashSectionData (some d)) fun t => talks →
           let top := ((syncEnds s.boot.img).filter fun e => decide (s.boot.img.length < e)).foldl min (imgLen s.boot.img)
           sent t (if busy then target else toAll) (3 :: (d.take (top - s.boot.img.length)).map (·.toNat))))) ∧
      (good → s.boot.syncing = true → s.receivers.contains dev.val = true → busy = false →
        (∃ r ∈ s.receivers, r ≠ dev.val ∧ r ∉ s.boot.synced) →
        (cause ≠ 0xB → s.Does (.bootSectionReport rx dev cause) fun t =>
          t.boot = { s.boot with synced := dev.val :: s.boot.synced }) ∧
        (cause = 0xB → s.Does (.bootSectionReport rx dev cause) fun t =>
          t.boot = { s.boot with excluded := dev.val :: s.boot.excluded })) ∧
      (good → busy = false → s.receivers.contains dev.val = true → loads = true → cause ≠ 0xB →
        (∃ r ∈ s.receivers, r ≠ dev.val ∧ ∀ x ∈ s.boot.reports, x.1 ≠ r) → s.Does (.bootVerifyReport rx dev cause) fun t =>
          t.boot = { s.boot with reports := (s.boot.reports.filter fun x => x.1 != dev.val) ++ [(dev.val, cause.toNat)] }) ∧
      (good → busy = true → s.receivers.contains dev.val = true → cause = 0 → s.Does (.bootVerifyReport rx dev cause) fun t =>
        t.bit BOOT_LATE BOOT_LATE_BUSY = false ∧ t.fld BOOT_LATE BOOT_LATE_RESULT = 1 ∧ t.occurred 0x7F2 = true) ∧
      (busy = false → s.boot.syncing = true → s.dev ∈ s.boot.synced → s.Does .bootSyncTimeout fun t =>
        t.boot.excluded = (s.receivers.filter fun n => !s.boot.synced.contains n && n != s.dev) ++ s.boot.excluded ∧
        t.boot.syncing = false) ∧
      (busy = false → s.boot.syncing = false → st ≠ 3 → idle .bootSyncTimeout) ∧
      (devs = [] ∨ st ≠ 4 ∨ busy = true → idle (.lateLoad devs)) ∧
      (st = 4 → busy = false → ∀ m, nums.min? = some m → s.Does (.lateLoad devs) fun t =>
        t.bit BOOT_LATE BOOT_LATE_BUSY = true ∧ t.fld BOOT_LATE BOOT_LATE_DEV = m ∧ s.RegsBut t [BOOT_LATE] ∧
        t.boot.img = [] ∧ t.boot.late = nums.filter (· != m))) ∧
    -- what ends on each device
    (let run := decide (st = 3) && s.boot.verifying && s.boot.training.isEmpty
     (run = false → idle .signatureCheckDone) ∧
     (run = true → head = false → talks → (imgSigned s.boot.img = false → s.Does .signatureCheckDone fun t =>
       t.boot = { s.boot with verifying := false } ∧ sent t s.headIdx [5, s.dev, s.boot.cause])) ∧
     (run = true → head = true → ∃ t, exec .signatureCheckDone s = .next t ∧ t.boot.verifying = false)) ∧
    (let trains := s.boot.training.contains c.val && !(s.pwr.waiting ++ s.pwr.ramping).contains (4, c.val)
     (trains = false → idle (.ddrTrainDone c ok)) ∧
     (trains = true → s.boot.training.filter (· != c.val) ≠ [] →
       (ok = true → s.Does (.ddrTrainDone c ok) fun t =>
         t.bit MEM_STATUS (if c.val = 0 then MEM_STATUS_DDR_UP0 else MEM_STATUS_DDR_UP1) = true ∧
         t.boot = { s.boot with training := s.boot.training.filter (· != c.val) } ∧ s.RegsBut t [MEM_STATUS, MEM_DDR_MAP]) ∧
       (ok = false → s.boot.cause = 0 → s.Does (.ddrTrainDone c ok) fun t => t.boot.cause = 9 ∧ shown t 9 ∧
         t.reg MEM_STATUS = s.reg MEM_STATUS)) ∧
     (trains = true → s.boot.training.filter (· != c.val) = [] → st ≠ 2 → st ≠ 3 → ok = true →
       s.Does (.ddrTrainDone c ok) fun t => t.boot.training = [] ∧ s.RegsBut t [MEM_STATUS, MEM_DDR_MAP]))

/-- R167, Table 4.4: the integer instructions. `rset` discards a write to G0. -/
def Obligations.IntegerInstructions : Prop :=
  ∀ (s : State) (c : Fin 257) (rd ra rb : Fin 32), s.Ready c →
    let x := s.ctx c
    let a := x.rget ra
    let b := x.rget rb
    let n := b.toNat % 32
    s.GoesOn c (.add c rd ra rb) (x.rset rd (BitVec.ofNat 32 (a.toNat + b.toNat))) ∧
    s.GoesOn c (.sub c rd ra rb) (x.rset rd (BitVec.ofInt 32 (a.toNat - b.toNat))) ∧
    s.GoesOn c (.and c rd ra rb) (x.rset rd (a &&& b)) ∧
    s.GoesOn c (.or c rd ra rb) (x.rset rd (a ||| b)) ∧
    s.GoesOn c (.xor c rd ra rb) (x.rset rd (a ^^^ b)) ∧
    s.GoesOn c (.sll c rd ra rb) (x.rset rd (BitVec.ofNat 32 (a.toNat * 2 ^ n))) ∧
    s.GoesOn c (.srl c rd ra rb) (x.rset rd (BitVec.ofNat 32 (a.toNat / 2 ^ n))) ∧
    s.GoesOn c (.sra c rd ra rb) (x.rset rd (BitVec.ofInt 32 (a.toInt / 2 ^ n))) ∧
    s.GoesOn c (.slt c rd ra rb) (x.rset rd (if a.toInt < b.toInt then 1 else 0)) ∧
    s.GoesOn c (.sltu c rd ra rb) (x.rset rd (if a.toNat < b.toNat then 1 else 0)) ∧
    s.GoesOn c (.min c rd ra rb) (x.rset rd (BitVec.ofInt 32 (min a.toInt b.toInt))) ∧
    s.GoesOn c (.max c rd ra rb) (x.rset rd (BitVec.ofInt 32 (max a.toInt b.toInt))) ∧
    s.GoesOn c (.minu c rd ra rb) (x.rset rd (BitVec.ofNat 32 (min a.toNat b.toNat))) ∧
    s.GoesOn c (.maxu c rd ra rb) (x.rset rd (BitVec.ofNat 32 (max a.toNat b.toNat))) ∧
    s.GoesOn c (.mul c rd ra rb) (x.rset rd (BitVec.ofNat 32 (a.toNat * b.toNat))) ∧
    s.GoesOn c (.mulh c rd ra rb) (x.rset rd (BitVec.ofInt 32 (a.toInt * b.toInt / 2 ^ 32))) ∧
    s.GoesOn c (.mulhu c rd ra rb) (x.rset rd (BitVec.ofNat 32 (a.toNat * b.toNat / 2 ^ 32))) ∧
    ∃ n : Nat, n ≤ 32 ∧ a.toNat < 2 ^ (32 - n) ∧ (n < 32 → 2 ^ (31 - n) ≤ a.toNat) ∧
      s.GoesOn c (.clz c rd ra) (x.rset rd (BitVec.ofNat 32 n))

/-- R168, Table 4.5: the immediate instructions, and the ILLEGAL of a shift whose reserved bits are not 0. -/
def Obligations.ImmediateInstructions : Prop :=
  ∀ (s : State) (c : Fin 257) (rd ra : Fin 32) (imm : BitVec 16), s.Ready c →
    let x := s.ctx c
    let a := x.rget ra
    let n := imm.toNat
    s.GoesOn c (.addi c rd ra imm) (x.rset rd (BitVec.ofInt 32 (a.toNat + imm.toInt))) ∧
    s.GoesOn c (.andi c rd ra imm) (x.rset rd (BitVec.ofNat 32 (a.toNat &&& n))) ∧
    s.GoesOn c (.ori c rd ra imm) (x.rset rd (BitVec.ofNat 32 (a.toNat ||| n))) ∧
    s.GoesOn c (.xori c rd ra imm) (x.rset rd (BitVec.ofNat 32 (a.toNat ^^^ n))) ∧
    s.GoesOn c (.slti c rd ra imm) (x.rset rd (if a.toInt < imm.toInt then 1 else 0)) ∧
    s.GoesOn c (.sltiu c rd ra imm) (x.rset rd (if a.toNat < n then 1 else 0)) ∧
    s.GoesOn c (.lui c rd imm) (x.rset rd (imm ++ (0 : BitVec 16))) ∧
    (n < 32 →
      s.GoesOn c (.slli c rd ra imm) (x.rset rd (BitVec.ofNat 32 (a.toNat * 2 ^ n))) ∧
      s.GoesOn c (.srli c rd ra imm) (x.rset rd (BitVec.ofNat 32 (a.toNat / 2 ^ n))) ∧
      s.GoesOn c (.srai c rd ra imm) (x.rset rd (BitVec.ofInt 32 (a.toInt / 2 ^ n)))) ∧
    (32 ≤ n → ∀ i w, (i, w) ∈ [(Instr.slli c rd ra imm, fmtI 9 rd ra n), (.srli c rd ra imm, fmtI 10 rd ra n),
        (.srai c rd ra imm, fmtI 11 rd ra n)] →
      s.Traps c i ⟨trIllegal, 0, false, some (w.setWidth 64)⟩)

/-- R169, Table 4.6: the fixed-point instructions. -/
def Obligations.FixedPointInstructions : Prop :=
  ∀ (s : State) (c : Fin 257) (rd ra rb : Fin 32) (k : BitVec 5), s.Ready c →
    let x := s.ctx c
    let a := (x.rget ra).toInt
    let b := (x.rget rb).toInt
    let n := (x.rget rb).toNat % 32
    let sat (w : Nat) (i : Int) : Int := max (-2 ^ (w - 1)) (min (2 ^ (w - 1) - 1) i)
    s.GoesOn c (.adds c rd ra rb) (x.rset rd (BitVec.ofInt 32 (sat 32 (a + b)))) ∧
    s.GoesOn c (.subs c rd ra rb) (x.rset rd (BitVec.ofInt 32 (sat 32 (a - b)))) ∧
    s.GoesOn c (.negs c rd ra) (x.rset rd (BitVec.ofInt 32 (sat 32 (-a)))) ∧
    s.GoesOn c (.abss c rd ra) (x.rset rd (BitVec.ofInt 32 (sat 32 |a|))) ∧
    s.GoesOn c (.mulq c rd ra rb) (x.rset rd (BitVec.ofInt 32 (sat 32 ((a * b + 2 ^ 30) / 2 ^ 31)))) ∧
    s.GoesOn c (.shrr c rd ra rb) (x.rset rd (BitVec.ofInt 32 (if n = 0 then a else (a + 2 ^ (n - 1)) / 2 ^ n))) ∧
    s.GoesOn c (.satn c rd ra k) (x.rset rd (BitVec.ofInt 32 (sat (k.toNat + 1) a))) ∧
    s.GoesOn c (.pks c rd ra rb) (x.rset rd
      (BitVec.ofInt 24 (sat 24 a) ++ (x.rget rb).extractLsb' 7 1 ++
        ((x.rget rb).extractLsb' 6 1 ||| (if sat 24 a = a then 0 else 1)) ++ (x.rget rb).extractLsb' 1 5 ++ (0 : BitVec 1))) ∧
    (rd.val % 2 = 0 → rd.val ≠ 0 →
      s.GoesOn c (.macq c rd ra rb) (x.pset rd (BitVec.ofInt 64 (sat 64 ((x.pget rd).toInt + a * b)))))

/-- R110, R160, R173, R174: where branches, calls and jumps go. -/
def Obligations.BranchesAndJumps : Prop :=
  ∀ (s : State) (c : Fin 257) (ra rb : Fin 32), s.Ready c →
    let x := s.ctx c
    let a := x.rget ra
    let b := x.rget rb
    (∀ d : BitVec 26,
      let dest : Word := BitVec.ofInt 32 (x.pc.toNat + 4 * d.toInt)
      s.Ends c (.b c d) { x with pc := dest } ∧
      s.Ends c (.call c d) { x.rset 31 (x.pc + 4) with pc := dest }) ∧
    (∀ d : BitVec 16,
      let dest (p : Prop) [Decidable p] : Word := if p then BitVec.ofInt 32 (x.pc.toNat + 4 * d.toInt) else x.pc + 4
      s.Ends c (.beq c ra rb d) { x with pc := dest (a = b) } ∧
      s.Ends c (.bne c ra rb d) { x with pc := dest (a ≠ b) } ∧
      s.Ends c (.blt c ra rb d) { x with pc := dest (a.toInt < b.toInt) } ∧
      s.Ends c (.bge c ra rb d) { x with pc := dest (b.toInt ≤ a.toInt) } ∧
      s.Ends c (.bltu c ra rb d) { x with pc := dest (a.toNat < b.toNat) } ∧
      s.Ends c (.bgeu c ra rb d) { x with pc := dest (b.toNat ≤ a.toNat) }) ∧
    (a.toNat % 4 = 0 →
      s.Ends c (.jr c ra) { x with pc := a } ∧
      s.Ends c (.callr c ra) { x.rset 31 (x.pc + 4) with pc := a }) ∧
    (a.toNat % 4 ≠ 0 →
      s.Traps c (.jr c ra) ⟨trAlign, 0, false, some (a.setWidth 64)⟩ ∧
      s.Traps c (.callr c ra) ⟨trAlign, 0, false, some (a.setWidth 64)⟩)

/-- R108, R109, R115, R118, R165: the window instructions and the returns. -/
def Obligations.WindowInstructions : Prop :=
  ∀ (s : State) (c : Fin 257), s.Ready c →
    let x := s.ctx c
    let back := (x.wix + 15) % 16
    (x.resident < 15 → s.GoesOn c (.enter c) { x with wix := (x.wix + 1) % 16, resident := x.resident + 1 }) ∧
    (x.resident = 15 → s.WindowTraps c (.enter c) trOvf) ∧
    (1 < x.resident → s.GoesOn c (.leave c) { x with wix := back, resident := x.resident - 1 }) ∧
    (x.resident = 1 → s.WindowTraps c (.leave c) trUnf) ∧
    (x.wt = false → 1 < x.resident →
      let b := fun n => x.tstatus.getLsbD n
      s.Ends c (.rett c) { x with
        wix := back, resident := x.resident - 1, pc := x.tpc
        ie := b 0, td := b 1, wt := b 2, sovr := b 4, pserr := b 5, slate := b 6 }) ∧
    (x.wt = false → x.resident = 1 → s.WindowTraps c (.rett c) trUnf) ∧
    (x.wt = true → s.Traps c (.rett c) ⟨trIllegal, 0, false, some ((fmtS 0x28 0 0 0 4 0).setWidth 64)⟩) ∧
    (x.wt = true → s.Ends c (.retw c) { x with wt := false, wix := x.wfrom, pc := x.wtpc }) ∧
    (x.wt = false → s.Traps c (.retw c) ⟨trIllegal, 0, false, some ((fmtS 0x28 0 0 0 5 0).setWidth 64)⟩)

/-- R111, R114, R116, R161: how a synchronous trap is entered, shown on a word that is no instruction. -/
def Obligations.TrapEntry : Prop :=
  ∀ (s : State) (c : Fin 257) (w : Word), s.Ready c → legalWord (c.val == 256) w = false →
    let x := s.ctx c
    (x.wt = false → x.td = false → x.resident < 15 →
      s.Ends c (.illegalWord c w) { x with
        tstatus := BitVec.ofNat 32 (x.ie.toNat + 8 * (c.val == 256).toNat + 16 * x.sovr.toNat + 32 * x.pserr.toNat +
          64 * x.slate.toNat)
        tpc := x.pc, tcause := 1, tval := w, tvalh := 0, td := true, ie := false
        wix := (x.wix + 1) % 16, resident := x.resident + 1, pc := x.tbase + 0x40 }) ∧
    (x.wt = false → x.td = false → x.resident = 15 →
      s.Ends c (.illegalWord c w) { x with
        wtpc := x.pc, wt := true, wcause := 5, wfrom := x.wix, wix := (x.wix + 1) % 16, pc := x.tbase + 0x140 })

/-- R113, R123, R129, R142, R459: interrupts, machine checks and posted failures at an instruction boundary. -/
def Obligations.InterruptsAndChecks : Prop :=
  (∀ (s : State) (c : Fin 257), let x := s.ctx c
    s.halted 1 = false → (s.ctxState c = 1 ∨ s.ctxState c = 2) → x.stall.isMem = false → x.ie = true → x.wt = false →
    s.irqPending (ctxReq c) = true → s.checkDue c = false → x.postFail = none → x.td = false → x.resident < 15 →
    ∃ t, exec (.takeInterrupt c) s = .next t ∧
      t.ctx c = { x with
        stall := .none, tstatus := x.status c, tpc := x.pc, tcause := 0x0A, td := true, ie := false
        wix := (x.wix + 1) % 16, resident := x.resident + 1, pc := x.tbase + 0x280 } ∧
      (∀ d, d ≠ c.val → t.ctx d = s.ctx d) ∧ t.ctxState c = 1 ∧ (∀ k, t.byteAt k = s.byteAt k) ∧
      t.stq = s.stq.filter fun o => !(o.kind == kindWait && o.index == c.val)) ∧
  (∀ (s : State) (c : Fin 257), ((s.ctx c).ie = false ∨ (s.ctx c).wt = true) → exec (.takeInterrupt c) s = .next s) ∧
  (∀ s : State, let x := s.ctx 256
    s.issues 256 = true → s.mchk = true → x.td = false → x.wt = false → x.resident < 15 →
    ∃ t, exec .takeMachineCheck s = .next t ∧ t.mchk = false ∧
      t.ctx 256 = { x with
        tstatus := x.status 256, tpc := x.pc, tcause := 9, td := true, ie := false
        wix := (x.wix + 1) % 16, resident := x.resident + 1, pc := x.tbase + 0x240 } ∧
      t = { s with ctxs := t.ctxs, mchk := false } ∧ ∀ d, d ≠ 256 → t.ctx d = s.ctx d) ∧
  (∀ (s : State) (c : Fin 257) (a sub : Nat), let x := s.ctx c
    s.issues c = true → s.checkDue c = false → x.postFail = some (a, sub) → x.td = false → x.wt = false → x.resident < 15 →
    ∃ t, exec (.postedStoreFailure c) s = .next t ∧
      t.ctx c = { x with
        postFail := none, tstatus := x.status c, tpc := x.pc, tcause := BitVec.ofNat 32 (sub * 256 + 128 + 4)
        tval := BitVec.ofNat 32 a, tvalh := BitVec.ofNat 32 (a / 2 ^ 32), td := true, ie := false
        wix := (x.wix + 1) % 16, resident := x.resident + 1, pc := x.tbase + 0x100 } ∧
      t = { s with ctxs := t.ctxs } ∧ ∀ d, d ≠ c.val → t.ctx d = s.ctx d)

/-- R124, R133, R156, R164: control words and SYNC. -/
def Obligations.ControlWordsAndSync : Prop :=
  (∀ (s : State) (c : Fin 257) (r : Fin 32), s.Ready c →
    let x := s.ctx c
    let v := x.rget r
    let b := fun n => v.getLsbD n
    let u := s.fetched c
    let get (n : Nat) (w : Word) : Prop := s.GoesOn c (.getc c r (BitVec.ofNat 5 n)) (x.rset r w)
    let set (n : Nat) (m : Word) (y : Ctx) : Prop :=
      (v &&& m = 0 → s.GoesOn c (.setc c (BitVec.ofNat 5 n) r) y) ∧
      (v &&& m ≠ 0 → s.Traps c (.setc c (BitVec.ofNat 5 n) r)
        ⟨trIllegal, 0, false, some ((fmtS 0x28 0 r 0 9 n).setWidth 64)⟩)
    get 0 (BitVec.ofNat 32 (x.ie.toNat + 2 * x.td.toNat + 4 * x.wt.toNat + 8 * (c.val == 256).toNat + 16 * x.sovr.toNat +
      32 * x.pserr.toNat + 64 * x.slate.toNat)) ∧
    get 1 x.tpc ∧ get 2 x.tstatus ∧ get 3 x.tcause ∧ get 4 x.tval ∧ get 5 x.tvalh ∧ get 6 x.tbase ∧ get 7 x.wtpc ∧
    get 8 x.wsp ∧ get 9 (BitVec.ofNat 32 (x.resident * 256 + x.wix)) ∧
    get 10 (BitVec.ofNat 32 (u.genOf c * 2 ^ 16 + c)) ∧
    (c.val = 256 → get 16 x.mcause) ∧
    (c.val ≠ 256 → s.Traps c (.getc c r 16) ⟨trPriv, 0, false, some ((fmtS 0x28 r 0 0 8 16).setWidth 64)⟩) ∧
    set 0 0xFFFFFF80 { x with
      ie := b 0, td := b 1, sovr := x.sovr && !b 4, pserr := x.pserr && !b 5, slate := x.slate && !b 6 } ∧
    set 1 3 { x with tpc := v } ∧ set 2 0xFFFFFF80 { x with tstatus := v } ∧ set 3 0xFFFF0060 x ∧ set 4 0 x ∧
    set 5 0xFFFF0000 x ∧ set 6 0x3FF { x with tbase := v } ∧ set 7 3 { x with wtpc := v } ∧
    set 8 0x3F { x with wsp := v } ∧ set 9 0xFFFFF0F0 x ∧ set 10 0xFF00FE00 x ∧
    (c.val = 256 → set 16 0x000E0000 (if b 31 then { x with mcause := 0 } else x)) ∧
    (c.val ≠ 256 → v &&& 0x000E0000 = 0 →
      s.Traps c (.setc c 16 r) ⟨trPriv, 0, false, some ((fmtS 0x28 0 r 0 9 16).setWidth 64)⟩)) ∧
  (∀ (s : State) (c : Fin 257) (m : BitVec 5), s.Ready c → m ≠ 0 →
    ((s.fetched c).syncDone c m.toNat = true → s.GoesOn c (.sync c m) (s.ctx c)) ∧
    ((s.fetched c).syncDone c m.toNat = false → s.Waits c (.sync c m) (.sync m.toNat))) ∧
  (∀ (s : State) (c : Fin 257) (m : Nat), let x := s.ctx c
    x.stall = .sync m → x.holdReq = none →
    (s.syncDone c m = true → (bitOf m 0 = true → x.postFail = none) →
      ∃ t, exec (.syncComplete c) s = .next t ∧ t.ctx c = { x with pc := x.pc + 4, stall := .none } ∧ t.ctxState c = 1 ∧
        (∀ d, d ≠ c.val → t.ctx d = s.ctx d) ∧ ∀ k, t.byteAt k = s.byteAt k) ∧
    (∀ a sub, bitOf m 0 = true → x.postFail = some (a, sub) → x.td = false → x.wt = false → x.resident < 15 →
      ∃ t, exec (.syncComplete c) s = .next t ∧ (t.ctx c).postFail = none ∧ (t.ctx c).tpc = x.pc ∧
        (t.ctx c).tcause = BitVec.ofNat 32 (sub * 256 + 128 + 4) ∧ (t.ctx c).pc = x.tbase + 0x100) ∧
    (s.syncDone c m = false → (bitOf m 0 = true → x.postFail = none) → exec (.syncComplete c) s = .next s))

/-- R125-R127, R170: loads from local addresses. -/
def Obligations.LoadInstructions : Prop :=
  (∀ (s : State) (c : Fin 257) (rd ra : Fin 32) (imm : BitVec 16), s.Ready c →
    let u := s.fetched c
    let a := (((s.ctx c).rget ra).toNat + imm.toInt) % 2 ^ 32
    ∀ i n sg, (i, n, sg) ∈ [(Instr.ldB c rd ra imm, 1, true), (.ldBu c rd ra imm, 1, false), (.ldH c rd ra imm, 2, true),
        (.ldHu c rd ra imm, 2, false), (.ldW c rd ra imm, 4, false)] ++
        (if rd.val % 2 = 0 ∧ rd.val ≠ 0 then [(Instr.ldD c rd ra imm, 8, false)] else []) →
      let bad := a.toNat % n ≠ 0 ∨ (0xF0000000 ≤ a.toNat ∧ n ≠ 4)
      let v := some (BitVec.ofNat 64 a.toNat)
      (bad → s.Traps c i ⟨trAlign, 0, false, v⟩) ∧
      (∀ sub, ¬bad → u.accessSub c false a.toNat n .r = some sub → s.Traps c i ⟨trBuserr, sub, false, v⟩) ∧
      (¬bad → u.accessSub c false a.toNat n .r = none → s.Waits c i (.mem (.load rd n sg) false a.toNat none))) ∧
  (∀ (s v : State) (c : Fin 257) (rd n : Nat) (sg far : Bool) (a o : Nat) (bs : List Byte), let x := s.ctx c
    x.stall = .mem (.load rd n sg) far a none → s.reach c far a = .mem o → s.ddrHalted o = false →
    (s.ownFirst c (.mem o)).memRead c o n = (some bs, v) → (v.ctx c).holdReq = none →
    let w := natOf bs
    let y := v.ctx c
    let y' := if n = 8 then (y.rset rd (BitVec.ofNat 32 w)).rset (rd + 1) (BitVec.ofNat 32 (w / 2 ^ 32))
      else y.rset rd (BitVec.ofInt 32 (if sg ∧ 2 ^ (8 * n - 1) ≤ w % 2 ^ (8 * n) then ((w % 2 ^ (8 * n) : Nat) : Int) - 2 ^ (8 * n)
        else if sg then ((w % 2 ^ (8 * n) : Nat) : Int) else w))
    ∃ t, exec (.memoryResponse c) s = .next t ∧ t.ctx c = { y' with pc := y.pc + 4, stall := .none } ∧
      t.ctxState c = 1 ∧ (∀ d, d ≠ c.val → t.ctx d = v.ctx d) ∧ ∀ k, t.byteAt k = v.byteAt k)

/-- R125, R129, R170, R189, R399: stores to local addresses, and the bytes a posted store changes. -/
def Obligations.StoreInstructions : Prop :=
  (∀ (s : State) (c : Fin 257) (rs ra : Fin 32) (imm : BitVec 16), s.Ready c →
    let u := s.fetched c
    let x := s.ctx c
    let a := ((x.rget ra).toNat + imm.toInt) % 2 ^ 32
    ∀ i n, (i, n) ∈ [(Instr.stB c rs ra imm, 1), (.stH c rs ra imm, 2), (.stW c rs ra imm, 4)] ++
        (if rs.val % 2 = 0 ∧ rs.val ≠ 0 then [(Instr.stD c rs ra imm, 8)] else []) →
      let bad := a.toNat % n ≠ 0 ∨ (0xF0000000 ≤ a.toNat ∧ n ≠ 4)
      let v := some (BitVec.ofNat 64 a.toNat)
      (bad → s.Traps c i ⟨trAlign, 0, false, v⟩) ∧
      (∀ sub, ¬bad → u.accessSub c false a.toNat n .w = some sub → s.Traps c i ⟨trBuserr, sub, false, v⟩) ∧
      (¬bad → u.accessSub c false a.toNat n .w = none → ∃ bs : List Byte, bs.length = n ∧
        natOf bs = (x.pget rs).toNat % 2 ^ (8 * n) ∧
        (x.stores.length < 8 → s.GoesOn c i { x with stores := x.stores ++ [⟨false, a.toNat, bs⟩] }) ∧
        (8 ≤ x.stores.length → s.Waits c i (.store ⟨false, a.toNat, bs⟩)))) ∧
  (∀ (s : State) (c : Fin 257) (st : PStore) (r : List PStore) (o : Nat), let x := s.ctx c
    x.stores = st :: r → x.stall = .none → s.reach c st.far st.addr = .mem o → s.ddrHalted o = false → s.tst.run = none → st.bytes ≠ [] →
    (∀ k, o - o % 8 ≤ k → k < o + st.bytes.length + 8 → (s.byteAt k).isSome ∧ s.codeErr k = CodeErr.none') →
    ∃ t, exec (.storeAccepted c) s = .next t ∧ t.ctx c = { x with stores := r } ∧
      (∀ k, (h : k < st.bytes.length) → t.byteAt (o + k) = some (st.bytes[k])) ∧
      (∀ b, b < o ∨ o + st.bytes.length ≤ b → t.byteAt b = s.byteAt b)) ∧
  (∀ (s : State) (c : Fin 257) (st p : PStore) (r : List PStore), let x := s.ctx c
    let v := (s.setCtx c { x with stores := r }).storeDone c p
    x.stores = p :: r → s.locHalted (s.reach c p.far p.addr) = false → (v.ctx c).stall = .store st → (v.ctx c).holdReq = none →
    ∃ t, exec (.storeAccepted c) s = .next t ∧
      t.ctx c = { v.ctx c with stores := (v.ctx c).stores ++ [st], pc := (v.ctx c).pc + 4, stall := .none })

/-- R128, R129, R171, R189: accesses to global addresses. -/
def Obligations.FarAccesses : Prop :=
  ∀ (s : State) (c : Fin 257) (rd ra : Fin 32), s.Ready c → ra.val % 2 = 0 → ra.val ≠ 0 →
    let u := s.fetched c
    let x := s.ctx c
    let a := (x.pget ra).toNat
    let wide := rd.val % 2 = 0 ∧ rd.val ≠ 0
    let bad := fun n => a % 2 ^ 48 % n ≠ 0 ∨ (0x7FF0000000 ≤ a % 2 ^ 39 ∧ n ≠ 4)
    let v := some (BitVec.ofNat 64 (a % 2 ^ 48))
    (∀ i n sg, (i, n, sg) ∈ [(Instr.ldfB c rd ra, 1, true), (.ldfBu c rd ra, 1, false), (.ldfH c rd ra, 2, true),
        (.ldfHu c rd ra, 2, false), (.ldfW c rd ra, 4, false)] ++ (if wide then [(Instr.ldfD c rd ra, 8, false)] else []) →
      (bad n → s.Traps c i ⟨trAlign, 0, false, v⟩) ∧
      (∀ sub, ¬bad n → u.accessSub c true a n .r = some sub → s.Traps c i ⟨trBuserr, sub, false, v⟩) ∧
      (∀ o, ¬bad n → u.accessSub c true a n .r = none → u.reach c true a = .mem o →
        s.Waits c i (.mem (.load rd n sg) true a none)) ∧
      (∀ d o, ¬bad n → u.accessSub c true a n .r = none → u.reach c true a = .far d o →
        ∃ t, exec i s = .next t ∧ (t.ctx c).stall = .mem (.load rd n sg) true a none ∧
          ∃ q, q ∈ t.leat.reqs ∧ q.dst = d ∧ q.kind = .mrd ∧ q.args.drop 3 = [a, n] ∧ q.who = .load c)) ∧
    (∀ i n, (i, n) ∈ [(Instr.stfB c rd ra, 1), (.stfH c rd ra, 2), (.stfW c rd ra, 4)] ++
        (if wide then [(Instr.stfD c rd ra, 8)] else []) →
      (bad n → s.Traps c i ⟨trAlign, 0, false, v⟩) ∧
      (∀ sub, ¬bad n → u.accessSub c true a n .w = some sub → s.Traps c i ⟨trBuserr, sub, false, v⟩) ∧
      (¬bad n → u.accessSub c true a n .w = none → ∃ bs : List Byte, bs.length = n ∧
        natOf bs = (x.pget rd).toNat % 2 ^ (8 * n) ∧
        (x.stores.length < 8 → s.GoesOn c i { x with stores := x.stores ++ [⟨true, a, bs⟩] }) ∧
        (8 ≤ x.stores.length → s.Waits c i (.store ⟨true, a, bs⟩))))

/-- R130, R172: the atomic operations. -/
def Obligations.AtomicInstructions : Prop :=
  (∀ (s : State) (c : Fin 257) (rd ra rb : Fin 32) (f : Bool), s.Ready c → (f = true → ra.val % 2 = 0 ∧ ra.val ≠ 0) →
    let u := s.fetched c
    let x := s.ctx c
    let a := if f then (x.pget ra).toNat else (x.rget ra).toNat
    let v := some (BitVec.ofNat 64 (a % 2 ^ 48))
    ∀ i op k w, (i, op, k, w) ∈ [(Instr.amoswap c rd ra rb f, MemOp.swap rd (x.rget rb), 0, [(x.rget rb).toNat, 0]),
        (.amoadd c rd ra rb f, .add rd (x.rget rb), 1, [(x.rget rb).toNat, 0]),
        (.amocas c rd ra rb f, .cas rd (x.rget rd) (x.rget rb), 2, [(x.rget rd).toNat, (x.rget rb).toNat])] →
      (a % 4 ≠ 0 → s.Traps c i ⟨trAlign, 0, false, v⟩) ∧
      (∀ sub, a % 4 = 0 → u.accessSub c f a 4 .rw = some sub → s.Traps c i ⟨trBuserr, sub, false, v⟩) ∧
      (f = false → a % 4 = 0 → 0xF0000000 ≤ a → s.Traps c i ⟨trBuserr, busRange, false, v⟩) ∧
      (∀ o, a % 4 = 0 → u.accessSub c f a 4 .rw = none → u.reach c f a = .mem o → s.Waits c i (.mem op f a none)) ∧
      (∀ d o, a % 4 = 0 → u.accessSub c f a 4 .rw = none → u.reach c f a = .far d o →
        ∃ t, exec i s = .next t ∧ (t.ctx c).stall = .mem op f a none ∧
          ∃ q, q ∈ t.leat.reqs ∧ q.dst = d ∧ q.kind = .mamo ∧ q.args.drop 3 = [k, a] ++ w ∧ q.who = .load c)) ∧
  (∀ (s : State) (c : Fin 257) (op : MemOp) (rd a o : Nat) (old : Word) (new : Option Word), let x := s.ctx c
    x.stall = .mem op false a none → x.stores = [] → x.holdReq = none → s.tst.run = none →
    s.reach c false a = .mem o → 0x6000000000 ≤ o → o < 0x6004000000 → o % 4 = 0 →
    (∀ k, k < 4 → s.byteAt (o + k) = some (old.extractLsb' (8 * k) 8)) → s.codeErr o = CodeErr.none' →
    (op, new) ∈ (match op with
      | .swap _ v => [(MemOp.swap rd v, some v)]
      | .add _ v => [(.add rd v, some (old + v))]
      | .cas _ w v => [(.cas rd w v, if old = w then some v else none)]
      | _ => []) →
    ∃ t, exec (.memoryResponse c) s = .next t ∧
      t.ctx c = { x.rset rd old with pc := x.pc + 4, stall := .none } ∧
      (∀ k, k < 4 → t.byteAt (o + k) = some ((new.getD old).extractLsb' (8 * k) 8)) ∧
      ∀ b, b < o ∨ o + 4 ≤ b → t.byteAt b = s.byteAt b)

/-- R107, R117, R165, R175: WSPILL and WFILL. -/
def Obligations.WindowSpillAndFill : Prop :=
  (∀ (s : State) (c : Fin 257) (ra : Fin 32), s.Ready c →
    let u := s.fetched c
    let x := s.ctx c
    let a := (x.rget ra).toNat
    ∀ i op mn p k, (i, op, mn, p, k) ∈ [(Instr.wspill c ra, MemOp.spill, 6, Perm.w, decide (2 ≤ x.resident)),
        (.wfill c ra, .fill, 7, .r, decide (x.resident ≤ 14))] →
      ((x.wt = false ∨ k = false) →
        s.Traps c i ⟨trIllegal, 0, false, some ((fmtS 0x28 0 ra 0 mn 0).setWidth 64)⟩) ∧
      (x.wt = true → k = true → a % 64 ≠ 0 → s.Traps c i ⟨trAlign, 0, false, some (BitVec.ofNat 64 a)⟩) ∧
      (x.wt = true → k = true → a % 64 = 0 → a < 0xF0000000 → u.accessSub c false a 64 p = none →
        s.Waits c i (.mem op false a none))) ∧
  (∀ (s v : State) (c : Fin 257) (a o : Nat), let x := (s.ownFirst c (.mem o)).ctx c
    (s.ctx c).stall = .mem .spill false a none → s.reach c false a = .mem o → s.ddrHalted o = false → (v.ctx c).holdReq = none →
    let w := (x.wfrom + 17 - x.resident) % 16
    let regs := (List.range 8).map (fun j => x.phys (16 + 16 * ((w + 15) % 16) + j)) ++
      (List.range 8).map (fun j => x.phys (8 + 16 * w + j))
    (s.ownFirst c (.mem o)).memWrite c o (bytesOfWords regs) = (true, v) →
    ∃ t, exec (.memoryResponse c) s = .next t ∧
      t.ctx c = { v.ctx c with resident := (v.ctx c).resident - 1, pc := (v.ctx c).pc + 4, stall := .none } ∧
      ∀ k, t.byteAt k = v.byteAt k) ∧
  (∀ (s v : State) (c : Fin 257) (a o : Nat) (ws : List Word), let x := v.ctx c
    (s.ctx c).stall = .mem .fill false a none → s.reach c false a = .mem o → s.ddrHalted o = false → x.holdReq = none →
    ws.length = 16 → x.resident ≤ 14 → (s.ownFirst c (.mem o)).memRead c o 64 = (some (bytesOfWords ws), v) →
    let w := (x.wfrom + 16 - x.resident) % 16
    ∃ t, exec (.memoryResponse c) s = .next t ∧ (t.ctx c).resident = x.resident + 1 ∧ (t.ctx c).wix = x.wix ∧
      (t.ctx c).pc = x.pc + 4 ∧
      (∀ j, j < 16 → (t.ctx c).phys (physReg w (8 + j)) = ws.getD j 0) ∧
      ∀ r, (∀ j, j < 16 → r ≠ physReg w (8 + j)) → (t.ctx c).phys r = x.phys r)

/-- R135-R137, R177, R191: the stream instructions of an instance. -/
def Obligations.StreamInstructions : Prop :=
  (∀ (s : State) (c : Fin 257) (ra rb : Fin 32), s.Ready c → c.val ≠ 256 →
    let x := s.ctx c
    let u := s.fetched c
    let push (i : Instr) (ws : List Word) : Prop :=
      (x.tx.length + ws.length ≤ 16 →
        exec i s = .next (let t := (u.setCtx c { x with tx := x.tx ++ ws.map fun w => ⟨w, none⟩ }).txDrain c 17
          t.setCtx c { t.ctx c with pc := (t.ctx c).pc + 4 })) ∧
      (16 < x.tx.length + ws.length → s.Waits c i (.push ws none 4))
    push (.push c ra) [x.rget ra] ∧
    (rb.val % 2 = 0 → rb.val ≠ 0 →
      push (.pushs c ra rb) [x.rget ra ||| 1, x.rget rb, x.rget (rb + 1) &&& 0xFFFF])) ∧
  (∀ (s : State) (c : Fin 257) (rd rf : Fin 32), s.Ready c → c.val ≠ 256 →
    let x := s.ctx c
    let pair := rf.val % 2 = 0 ∧ rf.val ≠ 0 ∧ rd ≠ rf ∧ rd.val ≠ rf.val + 1
    (∀ w r, x.rx = w :: r →
      s.GoesOn c (.pull c rd) ({ x with rx := r }.rset rd w) ∧
      (rd ≠ rf → s.GoesOn c (.pullnb c rd rf) (({ x with rx := r }.rset rd w).rset rf 1)) ∧
      (pair → w.getLsbD 0 = false → s.GoesOn c (.pulls c rd rf) (({ x with rx := r }.rset rd w).pset rf 0)) ∧
      (∀ a b r', pair → w.getLsbD 0 = true → r = a :: b :: r' →
        s.GoesOn c (.pulls c rd rf) (({ x with rx := r' }.rset rd w).pset rf (b ++ a)))) ∧
    (x.rx = [] →
      s.Waits c (.pull c rd) (.pull rd) ∧
      (rd ≠ rf → s.GoesOn c (.pullnb c rd rf) (x.rset rf 0)) ∧
      (pair → s.Waits c (.pulls c rd rf) (.pulls rd rf)))) ∧
  (∀ (s : State) (c : Fin 257) (ws : List Word), let x := s.ctx c
    x.stall = .push ws none 4 → x.tx.length + ws.length ≤ 16 →
    exec (.streamTxRoom c) s = .next (let t := (s.setCtx c { x with tx := x.tx ++ ws.map fun w => ⟨w, none⟩ }).txDrain c 17
      (t.setCtx c { t.ctx c with pc := (t.ctx c).pc + 4 }).resumeCtx c)) ∧
  (∀ (s : State) (c : Fin 257) (ws : List Word) (st : Stamp × Qual) (n : Nat), let x := s.ctx c
    x.stall = .push ws (some st) n →
    (x.tx.length + ws.length ≤ 16 → x.holdReq = none → s.late st.1 st.2 50 = false →
      s.Does (.streamTxRoom c) fun t =>
        t.ctx c = { x with tx := x.tx ++ ws.map (fun w => ⟨w, some st⟩), pc := x.pc + BitVec.ofNat 32 n, stall := .none } ∧
        t.ctxState c = 1 ∧ t.stq = s.stq ++ [⟨kindPort, c, st.1, st.2, .words c [], ctxReq c, s.genOf c⟩]) ∧
    (16 < x.tx.length + ws.length → exec (.streamTxRoom c) s = .next s)) ∧
  (∀ (s : State) (i : Fin 256) (w : Word) (r : List CWord), let x := s.ctx i
    tblGet (fun _ => []) s.cxb.arrived (streamPort i) = ⟨w, none⟩ :: r → x.stall = .none →
    ∃ t, exec (.streamRxWord i) s = .next t ∧
      t.ctx i = (if x.rx.length < 64 then { x with rx := x.rx ++ [w] } else { x with sovr := true }) ∧
      (∀ d, d ≠ i.val → t.ctx d = s.ctx d) ∧ ∀ k, t.byteAt k = s.byteAt k)

/-- R54, R138-R141, R155, R178, R193: the angle instructions and EPWAIT. -/
def Obligations.AngleInstructions : Prop :=
  (∀ (s : State) (c : Fin 257) (rd ra rb : Fin 32) (imm : BitVec 16) (q : BitVec 2), s.Ready c →
    let pair := fun r : Fin 32 => r.val % 2 = 0 ∧ r.val ≠ 0
    let x := s.ctx c
    let u := s.fetched c
    let p := x.stamp ra
    let stamped (v : Int) : Ctx := x.pset rd (BitVec.ofInt 64 (v % 2 ^ 48))
    (pair rd → s.GoesOn c (.anow c rd) (stamped u.seen.1.toNat) ∧ s.GoesOn c (.tnow c rd) (x.pset rd u.seen.2)) ∧
    (pair rd → pair ra →
      s.GoesOn c (.aadd c rd ra rb) (stamped (p.toNat + (x.rget rb).toInt)) ∧
      s.GoesOn c (.acyc c rd ra imm) (stamped (p.toNat + imm.toInt * 2 ^ 32))) ∧
    (pair ra → pair rb →
      let d := ((x.stamp rb).toNat + 2 ^ 48 - p.toNat) % 2 ^ 48
      s.GoesOn c (.acmp c rd ra rb)
        (x.rset rd (if d = 0 then 0 else if d < 2 ^ 47 then BitVec.ofInt 32 (-1) else 1))) ∧
    (pair ra → q.toNat ≤ 2 →
      let far := (p.toNat + 2 ^ 48 - u.angle.toNat) % 2 ^ 48
      let beyond := 2 ^ 46 ≤ far ∧ far < 2 ^ 47
      let qual := qualOf q.toNat
      (beyond → s.Traps c (.until c rd ra q rb) ⟨trLate, 1, false, some (p.setWidth 64)⟩) ∧
      (¬beyond → u.late p qual 50 = true → s.Traps c (.until c rd ra q rb) ⟨trLate, 2, false, some (p.setWidth 64)⟩) ∧
      (¬beyond → u.late p qual 50 = false → ∃ t, exec (.until c rd ra q rb) s = .next t ∧
        t.stq = u.stq ++ [⟨kindWait, c, p, qual, .until, ctxReq c, u.genOf c⟩] ∧
        t.ctx c = { x with stall := .until rd (x.rget rb).toNat u.ang.time.toNat } ∧ t.ctxState c = 2)) ∧
    (u.epEnded = true → s.GoesOn c (.epwait c rd) (x.rset rd (BitVec.ofNat 32
      (u.fld ANG_EPOCH_STAT ANG_EPOCH_STAT_RESULT + 2 ^ 8 * u.fld ANG_EPOCH_STAT ANG_EPOCH_STAT_STATE)))) ∧
    (u.epEnded = false → s.Waits c (.epwait c rd) (.epwait rd))) ∧
  (∀ (s : State) (c : Fin 257) (rd limit since : Nat), let x := s.ctx c
    let ended := limit ≠ 0 ∧ limit ≤ (s.ang.time - BitVec.ofNat 64 since).toNat
    let due := s.stq.any fun o => o.kind == kindWait && o.index == c.val && s.due o.stamp o.qual
    let applying := s.fld ANG_EPOCH_STAT ANG_EPOCH_STAT_STATE = 4
    x.stall = .until rd limit since →
    ((¬ended ∨ (¬applying ∧ due = true)) → exec (.untilTimeout c) s = .next s) ∧
    (ended → (due = false ∨ applying) → x.holdReq = none →
      ∃ t, exec (.untilTimeout c) s = .next t ∧ t.ctx c = { x.rset rd 1 with pc := x.pc + 4, stall := .none } ∧
        t.ctxState c = 1 ∧ t.stq = s.stq.filter fun o => !(o.kind == kindWait && o.index == c.val)))

/-- R143, R144, R146, R147, R149, R153, R179, R181-R183: the unit instructions. -/
def Obligations.UnitInstructions : Prop :=
  (∀ (s : State) (c : Fin 257) (rd h v : Fin 32) (kind : BitVec 4) (off : UOff) (a : Byte)
      (far : List (Word × Option (List Word))), s.Ready c →
    let u := s.fetched c
    let x := s.ctx c
    let hv := (x.rget h).toNat
    let o := x.unitOff off
    let fault (sub : Nat) (w : Word) : Trap := ⟨trUnit, sub, false, some (BitVec.ofNat 64 (hv % 4096 * 2 ^ 32 + w.toNat))⟩
    let ucmds := [(Instr.ucmdEnable c h a far, 0), (.ucmdDisable c h a far, 1), (.ucmdStart c h a far, 2),
      (.ucmdStop c h a far, 3), (.ucmdFire c h a far, 4), (.ucmdTrig c h a far, 5), (.ucmdSafe c h a far, 6),
      (.ucmdClear c h a far, 7)]
    let applying := u.fld ANG_EPOCH_STAT ANG_EPOCH_STAT_STATE = 4
    (∀ i k, (i, k) ∈ ucmds →
      let r := UnitReq.ucmd (BitVec.ofNat 4 k) a
      (applying → s.Waits c i .apply) ∧
      (¬applying → 4096 ≤ hv → s.Traps c i (fault ufNoHandle 0)) ∧
      (∀ t, ¬applying → hv < 4096 → u.handle c hv = (none, t) →
        exec i s = .next (t.trapEnter c (fault ufNoHandle 0) x.pc).2) ∧
      (∀ e t, ¬applying → hv < 4096 → u.handle c hv = (some e, t) → bitOf e.rights (reqRight r) = false →
        exec i s = .next (t.trapEnter c (fault ufRights e.unit) x.pc).2) ∧
      (∀ e t sub w, ¬applying → hv < 4096 → u.handle c hv = (some e, t) → bitOf e.rights (reqRight r) = true →
        t.resolve c far e (reqKinds r) = .error (sub, w) →
        exec i s = .next ((t.cacheUse c far e.unit).trapEnter c (fault sub w) x.pc).2) ∧
      (∀ e t impl, ¬applying → hv < 4096 → u.handle c hv = (some e, t) → bitOf e.rights (reqRight r) = true →
        t.resolve c far e (reqKinds r) = .ok impl →
        exec i s = .next (unitDone (t.cacheUse c far e.unit) c r none e impl 0 4 x.pc))) ∧
    (kind.toNat ≤ 4 ∨ kind = 7 ∨ kind = 8 →
      (match off with | .imm w => 4 * w.toNat < unitLimit kind.toNat | .reg _ => True) →
      ∀ i r n, (i, r, n) ∈ [(Instr.uwr c rd h v kind off far, UnitReq.uwr kind (BitVec.ofNat 12 o) (x.rget v), 1),
        (.stg c rd h v kind off far, .stg kind (BitVec.ofNat 12 o) (x.rget v), 2)] →
      (o % 4 ≠ 0 → s.Traps c i ⟨trAlign, 0, false, some (BitVec.ofNat 64 o)⟩) ∧
      (∀ e t impl, o % 4 = 0 → ¬applying → hv < 4096 → u.handle c hv = (some e, t) → bitOf e.rights n = true →
        t.resolve c far e [kind.toNat] = .ok impl →
        let t := t.cacheUse c far e.unit
        (unitLimit kind.toNat ≤ o → exec i s = .next (t.trapEnter c ⟨trBuserr, busRange, false, some (BitVec.ofNat 64 o)⟩ x.pc).2) ∧
        (o < unitLimit kind.toNat → exec i s = .next (unitDone t c r none e impl rd 4 x.pc)))) ∧
    (∀ (comb : BitVec 3) e t impl vals t2, kind.toNat ≤ 4 ∨ kind = 7 ∨ kind = 8 → comb.toNat ≤ 5 →
      (match off with | .imm w => 4 * w.toNat < unitLimit kind.toNat | .reg _ => True) →
      o % 4 = 0 → o < unitLimit kind.toNat → ¬applying → hv < 4096 → u.handle c hv = (some e, t) → bitOf e.rights 0 = true →
      t.resolve c far e [kind.toNat] = .ok impl → t.farDevs impl = [] →
      (∀ w ∈ impl, ∀ y ∈ leafUnits [kind.toNat] w, t.tileHolds y.1 y.2 = false) →
      (t.cacheUse c far e.unit).urdLocal (ctxReq c) [kind.toNat] o impl = (vals, t2) →
      let w := t2.urdValue comb.toNat vals
      exec (.urd c rd h comb kind off far) s =
        .next (let t := w.2.setCtx c ((w.2.ctx c).rset rd w.1); t.setCtx c ((t.ctx c).onward x.pc))) ∧
    (∀ (n addr : Fin 32) e t impl,
      let k := (x.rget n).toNat
      let at' := (x.rget addr).toNat
      (at' % 4 ≠ 0 → s.Traps c (.wload c n h addr far) ⟨trAlign, 0, false, some (BitVec.ofNat 64 at')⟩) ∧
      (at' % 4 = 0 → ¬applying → hv < 4096 → u.handle c hv = (some e, t) → bitOf e.rights 8 = true →
        t.resolve c far e [0, 2] = .ok impl →
        let t := t.cacheUse c far e.unit
        let stands := (List.range k).any fun j => t.locHalted (t.locLocal c (at' + 4 * j))
        (k = 0 → exec (.wload c n h addr far) s = .next (t.setCtx c ((t.ctx c).onward x.pc))) ∧
        (stands = true → exec (.wload c n h addr far) s =
          .next ((t.setCtx c { t.ctx c with stall := .apply }).setCtxState c 2)) ∧
        (∀ sub t2, k ≠ 0 → stands = false → t.wloadWords c at' k = (.error sub, t2) → exec (.wload c n h addr far) s =
          .next (t2.trapEnter c ⟨trBuserr, sub, false, some (BitVec.ofNat 64 at')⟩ x.pc).2) ∧
        (∀ ws t2, k ≠ 0 → stands = false → t.wloadWords c at' k = (.ok ws, t2) →
          exec (.wload c n h addr far) s = .next (unitDone t2 c (.wload ws) none e impl 0 4 x.pc))))) ∧
  (∀ (s u1 : State) (c : Fin 257) (ra rd h v b : Fin 32) (q : BitVec 2) (k kind : BitVec 4) (a : Byte) (w7 : BitVec 7)
      (far : List (Word × Option (List Word))), s.Ready c → ra.val % 2 = 0 → ra.val ≠ 0 → q.toNat ≤ 2 →
    let x := s.ctx c
    let p := x.stamp ra
    let st := some (p, qualOf q.toNat)
    let val := x.rget v
    let at' := fun w => Instr.atStamp c ra q w far
    let onward := fun (t : State) => t.setCtx c { t.ctx c with pc := x.pc + 8 }
    let uwr := kind.toNat ≤ 4 ∨ kind = 7 ∨ kind = 8
    let off := (x.rget b).toNat
    k.toNat ≤ 7 → (s.fetched c).fetch c (x.pc + 4) = (none, u1) → Stamp.beyond p u1.angle = false →
    (∀ w r n, (w, r, n) ∈ [(fmtUC h k.toNat a.toNat, UnitReq.ucmd k a, 0)] ++
        (if uwr ∧ 4 * w7.toNat < unitLimit kind.toNat
          then [(fmtUI 0x30 rd h v kind.toNat w7.toNat, .uwr kind (BitVec.ofNat 12 (4 * w7.toNat)) val, rd.val)] else []) ++
        (if uwr ∧ off % 4 = 0 ∧ off < unitLimit kind.toNat
          then [(fmtUX 0x33 rd h v kind.toNat b, .uwr kind (BitVec.ofNat 12 off) val, rd.val)] else []) →
      ∀ e t impl, u1.fld ANG_EPOCH_STAT ANG_EPOCH_STAT_STATE ≠ 4 → (x.rget h).toNat < 4096 →
      u1.handle c (x.rget h).toNat = (some e, t) → bitOf e.rights (reqRight r) = true →
      t.resolve c far e (reqKinds r) = .ok impl →
      let t := t.cacheUse c far e.unit
      let ops := t.localOps (ctxReq c) (t.genOf c) r st impl
      let sends := (t.farDevs impl).map fun d => (d, uopArgs r st impl d)
      (t.roomFor ops = true → exec (at' w) s = .next (onward (t.unitGo c ops sends e.unit n true))) ∧
      (t.roomFor ops = false → exec (at' w) s =
        .next ((t.setCtx c { t.ctx c with stall := .ops ops sends e.unit.toNat n }).setCtxState c 2))) ∧
    (c.val ≠ 256 →
      let o : StOp := ⟨kindPins, c.val / 16, p, qualOf q.toNat, .pinw (val >>> 16) (val &&& 0xFFFF), ctxReq c, u1.genOf c⟩
      let i := at' (fmtS 0x39 0 v 0 0 0)
      (u1.roomFor [o] = true → exec i s = .next (onward (u1.hand o true))) ∧
      (u1.roomFor [o] = false → exec i s =
        .next ((u1.setCtx c { x with stall := .ops [o] [] 0 0 }).setCtxState c 2))) ∧
    (c.val ≠ 256 → ∀ w ws, (w, ws) ∈ [(fmtS 0x2C 0 v 0 0 0, [val])] ++
        (if b.val % 2 = 0 ∧ b.val ≠ 0
          then [(fmtS 0x2C 0 v b 1 0, [val ||| 1, x.rget b, x.rget (b + 1) &&& 0xFFFF])] else []) →
      (x.tx.length + ws.length ≤ 16 → exec (at' w) s = .next (onward (u1.txPut c ws st))) ∧
      (16 < x.tx.length + ws.length → exec (at' w) s =
        .next ((u1.setCtx c { x with stall := .push ws st 8 }).setCtxState c 2)))) ∧
  (∀ (s : State) (c : Fin 257) l sends leaf rd, (s.ctx c).stall = .ops l sends leaf rd →
    let t := s.unitGo c l sends (BitVec.ofNat 32 leaf) rd true
    (s.roomFor l = true → exec (.stampQueueRoom c) s =
      .next ((t.setCtx c { t.ctx c with pc := (t.ctx c).pc + 8 }).resumeCtx c)) ∧
    (s.roomFor l = false → exec (.stampQueueRoom c) s = .next s))

/-- R124, R155, R163, R164, R184, R194: ARM, EPCAN, PINW and PINR. -/
def Obligations.EpochAndPinInstructions : Prop :=
  ∀ (s : State) (c : Fin 257) (r : Fin 32), s.Ready c →
    let u := s.fetched c
    let x := s.ctx c
    let arm := fmtS 0x38 0 r 0 0 0
    let can := fmtS 0x38 0 0 0 1 0
    let on (t : State) : State := t.setCtx c ((t.ctx c).onward x.pc)
    let pair := r.val % 2 = 0 ∧ r.val ≠ 0
    (c.val ≠ 256 → (pair → s.Traps c (.arm c r) ⟨trPriv, 0, false, some (arm.setWidth 64)⟩) ∧
      s.Traps c (.epcan c) ⟨trPriv, 0, false, some (can.setWidth 64)⟩) ∧
    (c.val = 256 →
      (pair →
        let e := x.stamp r
        let v := (u.put ANG_EPOCH_E_LO (e.extractLsb' 0 32)).setF ANG_EPOCH_E_HI ANG_EPOCH_E_HI_CYCLE (e.extractLsb' 32 16).toNat
        let t := v.epCtlWrite .sup (fieldPut ANG_EPOCH_CTL_CMD (v.reg ANG_EPOCH_CTL) 1)
        (v.isHead = true → exec (.arm c r) s = .next (on t)) ∧
        (v.isHead = false → exec (.arm c r) s = .next ((t.setCtx c { t.ctx c with stall := .arm }).setCtxState c 1))) ∧
      exec (.epcan c) s = .next (on (u.epCtlWrite .sup (fieldPut ANG_EPOCH_CTL_CMD (u.reg ANG_EPOCH_CTL) 2)))) ∧
    (c.val ≠ 256 →
      exec (.pinw c r) s = .next (on (u.pinw (.inst ⟨c.val % 256, by omega⟩) (c.val / 16) (x.rget r))) ∧
      s.GoesOn c (.pinr c r) (x.rset r (BitVec.ofNat 32 (u.fld (PIN_IN (c.val / 16)) PIN_IN_LVL)))) ∧
    (c.val = 256 →
      s.Traps c (.pinw c r) ⟨trIllegal, 0, false, some ((fmtS 0x39 0 r 0 0 0).setWidth 64)⟩ ∧
      s.Traps c (.pinr c r) ⟨trIllegal, 0, false, some ((fmtS 0x39 r 0 0 1 0).setWidth 64)⟩)
end

