-- ==== Sys2Proof/Laws/Tbl.lean ====
section
/-! SUPPORT. Laws of the sparse tables: a read after a write, and the canonical form. -/

namespace Sys2Proof.Machine

variable {α : Type}

theorem tblGet_cons (d : Nat → α) (a : Nat) (v : α) (r : Tbl α) (k : Nat) :
    tblGet d ((a, v) :: r) k = if k = a then v else tblGet d r k := rfl

@[simp] theorem tblGet_nil (d : Nat → α) (k : Nat) : tblGet d [] k = d k := rfl

/-- A key reads the entry put for it; the other keys read what they read. -/
theorem tblGet_put (d : Nat → α) (t : Tbl α) (k j : Nat) (v : α) :
    tblGet d (tblPut t k v) j = if j = k then v else tblGet d t j := by
  induction t with
  | nil => rfl
  | cons x r ih =>
    obtain ⟨a, w⟩ := x
    unfold tblPut
    split
    · rfl
    · split <;> simp only [tblGet_cons, ih] <;> grind

/-- A key that is dropped reads as unlisted; the other keys read what they read. -/
theorem tblGet_drop (d : Nat → α) (t : Tbl α) (k j : Nat) :
    tblGet d (tblDrop t k) j = if j = k then d k else tblGet d t j := by
  unfold tblDrop
  induction t with
  | nil => simp only [List.filter_nil, tblGet_nil]; split <;> simp_all
  | cons x r ih =>
    obtain ⟨a, w⟩ := x
    rw [List.filter_cons]
    by_cases h : a = k
    · subst h; simp only [bne_self_eq_false, Bool.false_eq_true, ↓reduceIte, ih, tblGet_cons]; grind
    · simp only [bne_iff_ne, ne_eq, h, not_false_eq_true, ↓reduceIte, tblGet_cons, ih]; grind

/-! ### The canonical form -/

section
variable [DecidableEq α] (d : Nat → α)

/-- A key reads what was written to it; the other keys read what they read. -/
theorem tblGet_set (t : Tbl α) (k j : Nat) (v : α) : tblGet d (tblSet d t k v) j = if j = k then v else tblGet d t j := by
  unfold tblSet
  split
  · rename_i h; rw [tblGet_drop, h]
  · exact tblGet_put d t k j v

@[simp] theorem tblGet_set_same (t : Tbl α) (k : Nat) (v : α) : tblGet d (tblSet d t k v) k = v := by
  rw [tblGet_set, if_pos rfl]

theorem tblGet_set_other (t : Tbl α) (k j : Nat) (v : α) (h : j ≠ k) : tblGet d (tblSet d t k v) j = tblGet d t j := by
  rw [tblGet_set, if_neg h]

theorem tblWfFrom_cons (lo a : Nat) (v : α) (r : Tbl α) :
    tblWfFrom d lo ((a, v) :: r) = true ↔ lo ≤ a ∧ v ≠ d a ∧ tblWfFrom d (a + 1) r = true := by
  simp [tblWfFrom, and_assoc]

theorem tblWfFrom_mono {lo hi : Nat} (t : Tbl α) (h : lo ≤ hi) (hw : tblWfFrom d hi t = true) : tblWfFrom d lo t = true := by
  cases t with
  | nil => rfl
  | cons x r =>
    obtain ⟨a, v⟩ := x
    rw [tblWfFrom_cons] at hw ⊢
    exact ⟨Nat.le_trans h hw.1, hw.2⟩

theorem tblWfFrom_put {lo k : Nat} (t : Tbl α) (v : α) (hk : lo ≤ k) (hv : v ≠ d k) (hw : tblWfFrom d lo t = true) :
    tblWfFrom d lo (tblPut t k v) = true := by
  induction t generalizing lo with
  | nil => simp [tblPut, hk, hv, tblWfFrom]
  | cons x r ih =>
    obtain ⟨a, w⟩ := x
    rw [tblWfFrom_cons] at hw
    unfold tblPut
    split
    · rename_i h
      rw [tblWfFrom_cons, tblWfFrom_cons]
      exact ⟨hk, hv, h, hw.2⟩
    · split
      · rename_i h1 h2
        subst h2
        rw [tblWfFrom_cons]
        exact ⟨hk, hv, hw.2.2⟩
      · rename_i h1 h2
        rw [tblWfFrom_cons]
        exact ⟨hw.1, hw.2.1, ih (by omega) hw.2.2⟩

theorem tblWfFrom_filter {lo : Nat} (p : Nat × α → Bool) (t : Tbl α) (hw : tblWfFrom d lo t = true) :
    tblWfFrom d lo (t.filter p) = true := by
  induction t generalizing lo with
  | nil => rfl
  | cons x r ih =>
    obtain ⟨a, w⟩ := x
    rw [tblWfFrom_cons] at hw
    rw [List.filter_cons]
    split
    · rw [tblWfFrom_cons]; exact ⟨hw.1, hw.2.1, ih hw.2.2⟩
    · exact tblWfFrom_mono d _ (by omega) (ih hw.2.2)

/-- A write keeps the canonical form. -/
theorem tblWf_set (t : Tbl α) (k : Nat) (v : α) (hw : tblWf d t = true) : tblWf d (tblSet d t k v) = true := by
  unfold tblSet
  split
  · exact tblWfFrom_filter d _ t hw
  · rename_i h
    exact tblWfFrom_put d t v (Nat.zero_le k) h hw
end

end Sys2Proof.Machine
end

