-- ==== Sys2Proof/Laws/Memory.lean ====
section
/-! SUPPORT. Laws of the memory's bytes: a read after a write, and that every way bytes change keeps the canonical
form. -/

namespace Sys2Proof.Machine

theorem cellFind_put (m : List Host.Cell) (a b : Nat) (v : Byte) :
    cellFind (cellPut m a v) b = if b = a then some v else cellFind m b := by
  induction m with
  | nil => rfl
  | cons x r ih =>
    obtain ⟨k, w⟩ := x
    unfold cellPut
    split
    · rfl
    · split <;> simp only [cellFind, ih] <;> grind

theorem cellFind_drop (m : List Host.Cell) (a b : Nat) :
    cellFind (cellDrop m a) b = if b = a then none else cellFind m b := by
  unfold cellDrop
  induction m with
  | nil => simp [cellFind]
  | cons x r ih =>
    obtain ⟨k, w⟩ := x
    rw [List.filter_cons]
    by_cases h : k = a
    · subst h; simp only [bne_self_eq_false, Bool.false_eq_true, ↓reduceIte, ih, cellFind]; grind
    · simp only [bne_iff_ne, ne_eq, h, not_false_eq_true, ↓reduceIte, cellFind, ih]; grind

/-- What a list of bytes reads at an address. -/
def cellRead (m : List Host.Cell) (a : Nat) : Option Byte :=
  match cellFind m a with
  | some v => some v
  | none => if cleared a then some 0 else none

theorem State.byteAt_eq (s : State) (a : Nat) : s.byteAt a = cellRead s.mem.bytes a := rfl

/-- A byte reads what was written to it; the other bytes read what they read. -/
theorem cellRead_set (m : List Host.Cell) (a b : Nat) (v : Byte) :
    cellRead (cellSet m a v) b = if b = a then some v else cellRead m b := by
  unfold cellSet
  by_cases h : (cleared a && v == 0) = true
  · rw [if_pos h]
    unfold cellRead
    rw [cellFind_drop]
    simp only [Bool.and_eq_true, beq_iff_eq] at h
    by_cases hb : b = a
    · subst hb; simp [h.1, h.2]
    · simp [hb]
  · rw [if_neg h]
    unfold cellRead
    rw [cellFind_put]
    by_cases hb : b = a <;> simp [hb]

/-- The bytes after a run is written. -/
def cellRun (m : List Host.Cell) (a : Nat) : List Byte → List Host.Cell
  | [] => m
  | v :: r => cellRun (cellSet m a v) (a + 1) r

theorem putBytes_run (bs : List Byte) (m : List Host.Cell) (a : Nat) :
    (bs.foldl (fun (x : List Host.Cell × Nat) v => (cellSet x.1 x.2 v, x.2 + 1)) (m, a)).1 = cellRun m a bs := by
  induction bs generalizing m a with
  | nil => rfl
  | cons v r ih => exact ih (cellSet m a v) (a + 1)

theorem State.putBytes_bytes (s : State) (a : Nat) (bs : List Byte) :
    (s.putBytes a bs).mem.bytes = cellRun s.mem.bytes a bs := putBytes_run bs s.mem.bytes a

theorem cellRead_run (bs : List Byte) (m : List Host.Cell) (a b : Nat) :
    cellRead (cellRun m a bs) b = if a ≤ b ∧ b < a + bs.length then bs[b - a]? else cellRead m b := by
  induction bs generalizing m a with
  | nil => simp [cellRun]
  | cons v r ih =>
    rw [cellRun, ih, cellRead_set]
    simp only [List.length_cons]
    by_cases h : b = a
    · subst h; simp
    · by_cases h1 : a ≤ b ∧ b < a + (r.length + 1)
      · have h2 : a + 1 ≤ b ∧ b < a + 1 + r.length := by omega
        rw [if_pos h2, if_pos h1, show b - a = (b - (a + 1)) + 1 by omega]
        rfl
      · have h2 : ¬(a + 1 ≤ b ∧ b < a + 1 + r.length) := by omega
        rw [if_neg h2, if_neg h1, if_neg h]

/-- A run of bytes reads what was written there; every other byte reads what it read. -/
theorem State.byteAt_putBytes (s : State) (a b : Nat) (bs : List Byte) :
    (s.putBytes a bs).byteAt b = if a ≤ b ∧ b < a + bs.length then bs[b - a]? else s.byteAt b := by
  rw [State.byteAt_eq, State.putBytes_bytes, cellRead_run, State.byteAt_eq]

/-! ### The canonical form -/

theorem cellsWf_cons (lo a : Nat) (v : Byte) (r : List Host.Cell) :
    cellsWf lo ((a, v) :: r) = true ↔ lo ≤ a ∧ ¬(cleared a = true ∧ v = 0) ∧ cellsWf (a + 1) r = true := by
  cases h : cleared a <;> simp [cellsWf, and_assoc, h]

theorem cellsWf_mono {lo hi : Nat} (m : List Host.Cell) (h : lo ≤ hi) (hw : cellsWf hi m = true) : cellsWf lo m = true := by
  cases m with
  | nil => rfl
  | cons x r =>
    obtain ⟨a, v⟩ := x
    rw [cellsWf_cons] at hw ⊢
    exact ⟨Nat.le_trans h hw.1, hw.2⟩

theorem cellsWf_filter {lo : Nat} (p : Host.Cell → Bool) (m : List Host.Cell) (hw : cellsWf lo m = true) :
    cellsWf lo (m.filter p) = true := by
  induction m generalizing lo with
  | nil => rfl
  | cons x r ih =>
    obtain ⟨a, w⟩ := x
    rw [cellsWf_cons] at hw
    rw [List.filter_cons]
    split
    · rw [cellsWf_cons]; exact ⟨hw.1, hw.2.1, ih hw.2.2⟩
    · exact cellsWf_mono _ (by omega) (ih hw.2.2)

theorem cellsWf_put {lo a : Nat} (m : List Host.Cell) (v : Byte) (ha : lo ≤ a) (hv : ¬(cleared a = true ∧ v = 0))
    (hw : cellsWf lo m = true) : cellsWf lo (cellPut m a v) = true := by
  induction m generalizing lo with
  | nil => rw [cellPut, cellsWf_cons]; exact ⟨ha, hv, rfl⟩
  | cons x r ih =>
    obtain ⟨b, w⟩ := x
    rw [cellsWf_cons] at hw
    unfold cellPut
    split
    · rename_i h
      rw [cellsWf_cons, cellsWf_cons]
      exact ⟨ha, hv, h, hw.2⟩
    · split
      · rename_i h1 h2
        subst h2
        rw [cellsWf_cons]
        exact ⟨ha, hv, hw.2.2⟩
      · rw [cellsWf_cons]
        exact ⟨hw.1, hw.2.1, ih (by omega) hw.2.2⟩

/-- Writing a byte keeps the canonical form. -/
theorem Memory.wf_set (m : List Host.Cell) (a : Nat) (v : Byte) (hw : Memory.wf m = true) :
    Memory.wf (cellSet m a v) = true := by
  unfold cellSet
  split
  · exact cellsWf_filter _ m hw
  · rename_i h
    exact cellsWf_put m v (Nat.zero_le a) (by simpa using h) hw

theorem Memory.wf_run (bs : List Byte) (m : List Host.Cell) (a : Nat) (hw : Memory.wf m = true) :
    Memory.wf (cellRun m a bs) = true := by
  induction bs generalizing m a with
  | nil => exact hw
  | cons v r ih => exact ih _ _ (Memory.wf_set m a v hw)

/-- Taking bytes out of the memory keeps the canonical form. -/
theorem Memory.wf_filter (p : Host.Cell → Bool) (m : List Host.Cell) (hw : Memory.wf m = true) :
    Memory.wf (m.filter p) = true := cellsWf_filter p m hw

end Sys2Proof.Machine
end

