-- ==== Sys2Proof/Laws/Frame.lean ====
section
/-! SUPPORT. What the operations leave alone: the two relations between a state and what an operation makes of it, and
the rules by which they pass through conditionals, folds and records. -/

namespace Sys2Proof.Machine

/-- The queue and every byte of memory are the same. -/
structure Still (s t : State) : Prop where
  pending : t.pending = s.pending
  bytes : t.mem.bytes = s.mem.bytes

/-- The queue is the same, and a canonical memory stays canonical. -/
structure Kept (s t : State) : Prop where
  pending : t.pending = s.pending
  canon : s.MemCanon → t.MemCanon

/-- Every state in what becomes of an instruction has a property. -/
def Done.All (P : State → Prop) : Done → Prop
  | .next s => P s
  | .jump s _ => P s
  | .trap s _ => P s
  | .window s _ => P s
  | .wait s _ => P s

/-- The state of an option, if any, has a property. -/
structure OptAll (P : State → Prop) (o : Option State) : Prop where
  all : ∀ t, o = some t → P t

/-- The outcome is a next state with a property. -/
def NextAll (P : State → Prop) (o : Host.Outcome State Fault Refusal) : Prop := ∃ t, o = .next t ∧ P t

/-- A state written out, under a name that unification does not see through. -/
def State.lit (regs' : Tbl Word) (staged' : Tbl Word) (ctrs' : Tbl Ctr) (ctrShadow' : Tbl (Option CtrShadow))
    (ctrHold' : Tbl Nat) (ctrLoad' : Tbl (Option CtrLoad)) (reply' : Reply) (freeIx' : Nat) (ang' : Ang)
    (ep' : Epoch) (stq' : List StOp) (irq' : Irq) (mchk' : Bool) (ctxs' : Tbl Ctx) (supState' : Nat)
    (pins' : Pins) (host' : HostIf) (jnl' : Jnl) (cmpd' : Tbl (List Word)) (cmpdStaged' : Tbl (List Word)) (caches' : Tbl (List CacheLine))
    (cxb' : Cxb) (cells' : Tbl Cell) (groups' : Tbl Group) (chans' : Tbl Chan) (engines' : Tbl Engine)
    (pulses' : Tbl Pulse) (pairs' : Tbl Pair) (budget' : Budget) (learns' : Tbl Learn) (mem' : Mem) (lgc' : Lgc)
    (leat' : Leat) (twin' : Twin) (boot' : Boot) (cal' : Cal) (pwr' : Pwr) (tst' : Tst) (tap' : Tap)
    (health' : List (Nat × List Nat)) (out' : List OutMsg) (pending' : List Instr) : State :=
  State.mk regs' staged' ctrs' ctrShadow' ctrHold' ctrLoad' reply' freeIx' ang' ep' stq' irq' mchk' ctxs' supState' pins'
    host' jnl' cmpd' cmpdStaged' caches' cxb' cells' groups' chans' engines' pulses' pairs' budget' learns' mem' lgc'
    leat' twin' boot' cal' pwr' tst' tap' health' out' pending'

theorem State.lit_eq (regs' : Tbl Word) (staged' : Tbl Word) (ctrs' : Tbl Ctr) (ctrShadow' : Tbl (Option CtrShadow))
    (ctrHold' : Tbl Nat) (ctrLoad' : Tbl (Option CtrLoad)) (reply' : Reply) (freeIx' : Nat) (ang' : Ang)
    (ep' : Epoch) (stq' : List StOp) (irq' : Irq) (mchk' : Bool) (ctxs' : Tbl Ctx) (supState' : Nat)
    (pins' : Pins) (host' : HostIf) (jnl' : Jnl) (cmpd' : Tbl (List Word)) (cmpdStaged' : Tbl (List Word)) (caches' : Tbl (List CacheLine))
    (cxb' : Cxb) (cells' : Tbl Cell) (groups' : Tbl Group) (chans' : Tbl Chan) (engines' : Tbl Engine)
    (pulses' : Tbl Pulse) (pairs' : Tbl Pair) (budget' : Budget) (learns' : Tbl Learn) (mem' : Mem) (lgc' : Lgc)
    (leat' : Leat) (twin' : Twin) (boot' : Boot) (cal' : Cal) (pwr' : Pwr) (tst' : Tst) (tap' : Tap)
    (health' : List (Nat × List Nat)) (out' : List OutMsg) (pending' : List Instr) :
    State.mk regs' staged' ctrs' ctrShadow' ctrHold' ctrLoad' reply' freeIx' ang' ep' stq' irq' mchk' ctxs' supState' pins'
    host' jnl' cmpd' cmpdStaged' caches' cxb' cells' groups' chans' engines' pulses' pairs' budget' learns' mem' lgc'
    leat' twin' boot' cal' pwr' tst' tap' health' out' pending' =
    State.lit regs' staged' ctrs' ctrShadow' ctrHold' ctrLoad' reply' freeIx' ang' ep' stq' irq' mchk' ctxs' supState' pins'
    host' jnl' cmpd' cmpdStaged' caches' cxb' cells' groups' chans' engines' pulses' pairs' budget' learns' mem' lgc'
    leat' twin' boot' cal' pwr' tst' tap' health' out' pending' := rfl

theorem Still.refl (s : State) : Still s s := ⟨rfl, rfl⟩

theorem Still.mk' {s t : State} {regs' staged' ctrs' ctrShadow' ctrHold' ctrLoad' reply' freeIx' ang' ep' stq' irq' mchk' ctxs' supState' pins'
    host' jnl' cmpd' cmpdStaged' caches' cxb' cells' groups' chans' engines' pulses' pairs' budget' learns' mem' lgc'
    leat' twin' boot' cal' pwr' tst' tap' health' out'} (h : Still s t)
    (e : mem'.bytes = t.mem.bytes) :
    Still s (State.lit regs' staged' ctrs' ctrShadow' ctrHold' ctrLoad' reply' freeIx' ang' ep' stq' irq' mchk' ctxs' supState' pins'
      host' jnl' cmpd' cmpdStaged' caches' cxb' cells' groups' chans' engines' pulses' pairs' budget' learns' mem' lgc'
      leat' twin' boot' cal' pwr' tst' tap' health' out' t.pending) := ⟨h.pending, e.trans h.bytes⟩

theorem Still.upd {s t u : State} (h : Still s t) (e : u.pending = t.pending) (f : u.mem.bytes = t.mem.bytes) : Still s u :=
  ⟨e.trans h.pending, f.trans h.bytes⟩

theorem Kept.refl (s : State) : Kept s s := ⟨rfl, id⟩

theorem Kept.mk' {s t : State} {regs' staged' ctrs' ctrShadow' ctrHold' ctrLoad' reply' freeIx' ang' ep' stq' irq' mchk' ctxs' supState' pins'
    host' jnl' cmpd' cmpdStaged' caches' cxb' cells' groups' chans' engines' pulses' pairs' budget' learns' mem' lgc'
    leat' twin' boot' cal' pwr' tst' tap' health' out'} (h : Kept s t)
    (e : mem'.bytes = t.mem.bytes) :
    Kept s (State.lit regs' staged' ctrs' ctrShadow' ctrHold' ctrLoad' reply' freeIx' ang' ep' stq' irq' mchk' ctxs' supState' pins'
      host' jnl' cmpd' cmpdStaged' caches' cxb' cells' groups' chans' engines' pulses' pairs' budget' learns' mem' lgc'
      leat' twin' boot' cal' pwr' tst' tap' health' out' t.pending) := ⟨h.pending, fun c => by unfold State.MemCanon State.lit; simp only [e]; exact h.canon c⟩

theorem Kept.upd {s t u : State} (h : Kept s t) (e : u.pending = t.pending) (f : u.mem.bytes = t.mem.bytes) : Kept s u :=
  ⟨e.trans h.pending, fun c => by unfold State.MemCanon; rw [f]; exact h.canon c⟩

theorem Kept.still {s t u : State} (h : Kept s t) (k : Still t u) : Kept s u := h.upd k.pending k.bytes

/-! ### Through pairs, options and folds -/

theorem Done.still_next {s0 s : State} (h : Still s0 s) : Done.All (Still s0) (.next s) := h
theorem Done.still_jump {s0 s : State} {pc : Word} (h : Still s0 s) : Done.All (Still s0) (.jump s pc) := h
theorem Done.still_trap {s0 s : State} {t : Trap} (h : Still s0 s) : Done.All (Still s0) (.trap s t) := h
theorem Done.still_window {s0 s : State} {k : Nat} (h : Still s0 s) : Done.All (Still s0) (.window s k) := h
theorem Done.still_wait {s0 s : State} {st : Stall} (h : Still s0 s) : Done.All (Still s0) (.wait s st) := h
theorem Done.still_raise {s0 s : State} {a b : Nat} {v : BitVec 64} (h : Still s0 s) :
    Done.All (Still s0) (.raise s a b v) := h
theorem Done.still_illegal {s0 s : State} {w : Word} (h : Still s0 s) : Done.All (Still s0) (.illegal s w) := h
theorem Still.none {s0 : State} : OptAll (Still s0) none := ⟨fun _ h => nomatch h⟩
theorem Still.some {s0 s : State} (h : Still s0 s) : OptAll (Still s0) (some s) := ⟨fun _ e => by cases e; exact h⟩
theorem Still.out {s0 : State} {o : Option State} {t : State} (h : OptAll (Still s0) o) (e : o = .some t) : Still s0 t := h.all t e
theorem Still.getD {s0 : State} {o : Option State} {t : State} (h : OptAll (Still s0) o) (ht : Still s0 t) :
    Still s0 (o.getD t) := by
  cases o with
  | none => exact ht
  | some u => exact h.all u rfl
theorem Still.answers {s0 s : State} (h : Still s0 s) : NextAll (Still s0) (.next s) := ⟨s, rfl, h⟩

/-- The state of a pair, from its equation. -/
theorem Still.pair {α : Type} {s0 : State} {p : α × State} {a : α} {s : State} (h : Still s0 p.2) (e : p = (a, s)) :
    Still s0 s := by
  subst e; exact h

/-- The state of a triple, from its equation. -/
theorem Still.triple {α β : Type} {s0 : State} {p : α × β × State} {a : α} {b : β} {s : State} (h : Still s0 p.2.2)
    (e : p = (a, b, s)) : Still s0 s := by
  subst e; exact h

theorem Still.ite {c : Prop} [Decidable c] {s0 s t : State} (hs : Still s0 s) (ht : Still s0 t) : Still s0 (if c then s else t) := by
  split
  · exact hs
  · exact ht

theorem Still.foldl {α : Type} {s0 : State} {f : State → α → State} {l : List α} {s : State}
    (hf : ∀ t x, Still s0 t → Still s0 (f t x)) (h : Still s0 s) : Still s0 (l.foldl f s) := by
  induction l generalizing s with
  | nil => exact h
  | cons x r ih => exact ih (hf s x h)

theorem Still.foldlPair {α β : Type} {s0 : State} {f : β × State → α → β × State} {l : List α} {p : β × State}
    (hf : ∀ p x, Still s0 p.2 → Still s0 (f p x).2) (h : Still s0 p.2) : Still s0 (l.foldl f p).2 := by
  induction l generalizing p with
  | nil => exact h
  | cons x r ih => exact ih (hf p x h)

theorem Done.kept_next {s0 s : State} (h : Kept s0 s) : Done.All (Kept s0) (.next s) := h
theorem Done.kept_jump {s0 s : State} {pc : Word} (h : Kept s0 s) : Done.All (Kept s0) (.jump s pc) := h
theorem Done.kept_trap {s0 s : State} {t : Trap} (h : Kept s0 s) : Done.All (Kept s0) (.trap s t) := h
theorem Done.kept_window {s0 s : State} {k : Nat} (h : Kept s0 s) : Done.All (Kept s0) (.window s k) := h
theorem Done.kept_wait {s0 s : State} {st : Stall} (h : Kept s0 s) : Done.All (Kept s0) (.wait s st) := h
theorem Done.kept_raise {s0 s : State} {a b : Nat} {v : BitVec 64} (h : Kept s0 s) :
    Done.All (Kept s0) (.raise s a b v) := h
theorem Done.kept_illegal {s0 s : State} {w : Word} (h : Kept s0 s) : Done.All (Kept s0) (.illegal s w) := h
theorem Kept.none {s0 : State} : OptAll (Kept s0) none := ⟨fun _ h => nomatch h⟩
theorem Kept.some {s0 s : State} (h : Kept s0 s) : OptAll (Kept s0) (some s) := ⟨fun _ e => by cases e; exact h⟩
theorem Kept.out {s0 : State} {o : Option State} {t : State} (h : OptAll (Kept s0) o) (e : o = .some t) : Kept s0 t := h.all t e
theorem Kept.getD {s0 : State} {o : Option State} {t : State} (h : OptAll (Kept s0) o) (ht : Kept s0 t) :
    Kept s0 (o.getD t) := by
  cases o with
  | none => exact ht
  | some u => exact h.all u rfl
theorem Kept.answers {s0 s : State} (h : Kept s0 s) : NextAll (Kept s0) (.next s) := ⟨s, rfl, h⟩

/-- The state of a pair, from its equation. -/
theorem Kept.pair {α : Type} {s0 : State} {p : α × State} {a : α} {s : State} (h : Kept s0 p.2) (e : p = (a, s)) :
    Kept s0 s := by
  subst e; exact h

/-- The state of a triple, from its equation. -/
theorem Kept.triple {α β : Type} {s0 : State} {p : α × β × State} {a : α} {b : β} {s : State} (h : Kept s0 p.2.2)
    (e : p = (a, b, s)) : Kept s0 s := by
  subst e; exact h

theorem Kept.ite {c : Prop} [Decidable c] {s0 s t : State} (hs : Kept s0 s) (ht : Kept s0 t) : Kept s0 (if c then s else t) := by
  split
  · exact hs
  · exact ht

theorem Kept.foldl {α : Type} {s0 : State} {f : State → α → State} {l : List α} {s : State}
    (hf : ∀ t x, Kept s0 t → Kept s0 (f t x)) (h : Kept s0 s) : Kept s0 (l.foldl f s) := by
  induction l generalizing s with
  | nil => exact h
  | cons x r ih => exact ih (hf s x h)

theorem Kept.foldlPair {α β : Type} {s0 : State} {f : β × State → α → β × State} {l : List α} {p : β × State}
    (hf : ∀ p x, Kept s0 p.2 → Kept s0 (f p x).2) (h : Kept s0 p.2) : Kept s0 (l.foldl f p).2 := by
  induction l generalizing p with
  | nil => exact h
  | cons x r ih => exact ih (hf p x h)

end Sys2Proof.Machine
end

