-- ==== Sys2Proof/Laws/FrameOps.lean ====
section
/-! SUPPORT. What each function of Machine/Ops.lean, Machine/Abort.lean, Machine/Access.lean, Machine/Cxb.lean, Machine/Stamped.lean leaves alone: `Still`, the queue of commands and
every byte of memory; `Kept`, the queue, and the canonical form of memory. -/

set_option linter.unreachableTactic false
set_option linter.unusedTactic false
set_option linter.unusedVariables false
set_option linter.tactic.unusedName false

namespace Sys2Proof.Machine

theorem State.answer_still {s0 : State} {s : State} {r : Reply} (h0 : Still s0 s) :
    Still s0 (State.answer s r) := by
  unfold State.answer
  repeat' (first
    | with_reducible assumption | (rw [State.lit_eq]; with_reducible refine Still.mk' ?_ rfl))

theorem State.answer_kept {s0 : State} {s : State} {r : Reply} (h0 : Kept s0 s) :
    Kept s0 (State.answer s r) :=
  h0.still (State.answer_still (Still.refl _))

theorem State.healthLog_still {s0 : State} {s : State} {cls : ℕ} {args : List ℕ} (h0 : Still s0 s) :
    Still s0 (State.healthLog s cls args) := by
  unfold State.healthLog
  repeat' (first
    | with_reducible assumption | (rw [State.lit_eq]; with_reducible refine Still.mk' ?_ rfl))

theorem State.occur_still {s0 : State} {s : State} {n : ℕ} (h0 : Still s0 s) :
    Still s0 (State.occur s n) := by
  unfold State.occur
  repeat' (first
    | with_reducible assumption
    | (extract_lets +onlyGivenNames x1; (fail_if_success have _f := fun a => x1 a); clear_value x1; revert x1; intro _)
    | (rw [State.lit_eq]; with_reducible refine Still.mk' ?_ rfl))

theorem State.occur_kept {s0 : State} {s : State} {n : ℕ} (h0 : Kept s0 s) :
    Kept s0 (State.occur s n) :=
  h0.still (State.occur_still (Still.refl _))

theorem State.put_still {s0 : State} {s : State} {a : ℕ} {v : Word} (h0 : Still s0 s) :
    Still s0 (State.put s a v) := by
  unfold State.put
  repeat' (first
    | with_reducible assumption | (rw [State.lit_eq]; with_reducible refine Still.mk' ?_ rfl))

theorem State.put_kept {s0 : State} {s : State} {a : ℕ} {v : Word} (h0 : Kept s0 s) :
    Kept s0 (State.put s a v) :=
  h0.still (State.put_still (Still.refl _))

theorem State.free_still {s0 : State} {s : State} (h0 : Still s0 s) :
    Still s0 (State.free s).2 := by
  unfold State.free
  repeat' (first
    | with_reducible assumption | dsimp only | (rw [State.lit_eq]; with_reducible refine Still.mk' ?_ rfl))

theorem State.free_kept {s0 : State} {s : State} (h0 : Kept s0 s) :
    Kept s0 (State.free s).2 :=
  h0.still (State.free_still (Still.refl _))

theorem State.send_still {s0 : State} {s : State} {m : OutMsg} (h0 : Still s0 s) :
    Still s0 (State.send s m) := by
  unfold State.send
  repeat' (first
    | with_reducible assumption | (rw [State.lit_eq]; with_reducible refine Still.mk' ?_ rfl))

theorem State.stage_still {s0 : State} {s : State} {a : ℕ} {v : Word} (h0 : Still s0 s) :
    Still s0 (State.stage s a v) := by
  unfold State.stage
  repeat' (first
    | with_reducible assumption | (rw [State.lit_eq]; with_reducible refine Still.mk' ?_ rfl))

theorem State.setCtx_still {s0 : State} {s : State} {c : ℕ} {x : Ctx} (h0 : Still s0 s) :
    Still s0 (State.setCtx s c x) := by
  unfold State.setCtx
  repeat' (first
    | with_reducible assumption | (rw [State.lit_eq]; with_reducible refine Still.mk' ?_ rfl))

theorem State.setCtx_kept {s0 : State} {s : State} {c : ℕ} {x : Ctx} (h0 : Kept s0 s) :
    Kept s0 (State.setCtx s c x) :=
  h0.still (State.setCtx_still (Still.refl _))

theorem State.setCtr_still {s0 : State} {s : State} {a : ℕ} {c : Ctr} (h0 : Still s0 s) :
    Still s0 (State.setCtr s a c) := by
  unfold State.setCtr
  repeat' (first
    | with_reducible assumption | (rw [State.lit_eq]; with_reducible refine Still.mk' ?_ rfl))

theorem State.setF_still {s0 : State} {s : State} {a : ℕ} {f : Field} {x : ℕ} (h0 : Still s0 s) :
    Still s0 (State.setF s a f x) := by
  unfold State.setF
  repeat' (first
    | with_reducible assumption | with_reducible apply State.put_still)

theorem State.setF_kept {s0 : State} {s : State} {a : ℕ} {f : Field} {x : ℕ} (h0 : Kept s0 s) :
    Kept s0 (State.setF s a f x) :=
  h0.still (State.setF_still (Still.refl _))

theorem State.stageF_still {s0 : State} {s : State} {a : ℕ} {f : Field} {x : ℕ} (h0 : Still s0 s) :
    Still s0 (State.stageF s a f x) := by
  unfold State.stageF
  repeat' (first
    | with_reducible assumption | with_reducible apply State.stage_still)

theorem State.stageF_kept {s0 : State} {s : State} {a : ℕ} {f : Field} {x : ℕ} (h0 : Kept s0 s) :
    Kept s0 (State.stageF s a f x) :=
  h0.still (State.stageF_still (Still.refl _))

theorem State.flag_still {s0 : State} {s : State} {a : ℕ} {f : Field} (h0 : Still s0 s) :
    Still s0 (State.flag s a f) := by
  unfold State.flag
  repeat' (first
    | with_reducible assumption | with_reducible apply State.setF_still)

theorem State.flag_kept {s0 : State} {s : State} {a : ℕ} {f : Field} (h0 : Kept s0 s) :
    Kept s0 (State.flag s a f) :=
  h0.still (State.flag_still (Still.refl _))

theorem State.regRead_still {s0 : State} {s : State} {k : ℕ} (h0 : Still s0 s) :
    Still s0 (State.regRead s k).2 := by
  unfold State.regRead
  repeat' (first
    | with_reducible assumption
    | (extract_lets +onlyGivenNames x1; (fail_if_success have _f := fun a => x1 a); clear_value x1; revert x1; intro _)
    | with_reducible apply State.put_still | split)

theorem State.machineCheck_still {s0 : State} {s : State} {code : ℕ} {source : ℕ} {first : ℕ} {second : ℕ}
    (h0 : Still s0 s) :
    Still s0 (State.machineCheck s code source first second) := by
  unfold State.machineCheck
  repeat' (first
    | with_reducible assumption
    | (extract_lets +onlyGivenNames x1; have hx1 : Still s0 x1 := ?_; clear_value x1; revert x1; intro _ _; rotate_left; unfold x1; clear x1)
    | (extract_lets +onlyGivenNames x1; (fail_if_success have _f := fun a => x1 a); clear_value x1; revert x1; intro _)
    | with_reducible apply State.setCtx_still | (rw [State.lit_eq]; with_reducible refine Still.mk' ?_ rfl))

theorem State.ctrApply_still {s0 : State} {s : State} {a : ℕ} (h0 : Still s0 s) :
    Still s0 (State.ctrApply s a) := by
  unfold State.ctrApply
  repeat' (first
    | with_reducible assumption
    | (extract_lets +onlyGivenNames x1; have hx1 : Still s0 x1 := ?_; clear_value x1; revert x1; intro _ _; rotate_left; unfold x1; clear x1)
    | with_reducible apply State.setCtr_still | split | (rw [State.lit_eq]; with_reducible refine Still.mk' ?_ rfl))

theorem State.capture_still {s0 : State} {s : State} {q : Req} {a : ℕ} {nothing : Bool} (h0 : Still s0 s) :
    Still s0 (State.capture s q a nothing) := by
  unfold State.capture
  repeat' (first
    | with_reducible assumption | with_reducible apply State.setF_still | with_reducible apply State.put_still
    | with_reducible apply State.flag_still | split)

theorem State.rsvdAt_still {s0 : State} {s : State} {q : Req} {own : ℕ} {a : ℕ} {nothing : Bool} (h0 : Still s0 s) :
    Still s0 (State.rsvdAt s q own a nothing) := by
  unfold State.rsvdAt
  repeat' (first
    | with_reducible assumption | with_reducible apply State.flag_still | with_reducible apply State.capture_still)

theorem State.rsvdAt_kept {s0 : State} {s : State} {q : Req} {own : ℕ} {a : ℕ} {nothing : Bool} (h0 : Kept s0 s) :
    Kept s0 (State.rsvdAt s q own a nothing) :=
  h0.still (State.rsvdAt_still (Still.refl _))

theorem State.rsvd_still {s0 : State} {s : State} {q : Req} {a : ℕ} {nothing : Bool} (h0 : Still s0 s) :
    Still s0 (State.rsvd s q a nothing) := by
  unfold State.rsvd
  repeat' (first
    | with_reducible assumption | with_reducible apply State.rsvdAt_still)

theorem State.rsvd_kept {s0 : State} {s : State} {q : Req} {a : ℕ} {nothing : Bool} (h0 : Kept s0 s) :
    Kept s0 (State.rsvd s q a nothing) :=
  h0.still (State.rsvd_still (Still.refl _))

theorem State.inc_still {s0 : State} {s : State} {a : ℕ} (h0 : Still s0 s) :
    Still s0 (State.inc s a) := by
  unfold State.inc
  repeat' (first
    | with_reducible assumption
    | (extract_lets +onlyGivenNames x1; have hx1 : Still s0 x1 := ?_; clear_value x1; revert x1; intro _ _; rotate_left; unfold x1; clear x1)
    | (extract_lets +onlyGivenNames x1; (fail_if_success have _f := fun a => x1 a); clear_value x1; revert x1; intro _)
    | with_reducible apply State.setCtr_still | with_reducible apply State.ctrApply_still)

theorem State.inc_kept {s0 : State} {s : State} {a : ℕ} (h0 : Kept s0 s) :
    Kept s0 (State.inc s a) :=
  h0.still (State.inc_still (Still.refl _))

theorem State.incBy_still {s0 : State} {s : State} {a : ℕ} {n : ℕ} (h0 : Still s0 s) :
    Still s0 (State.incBy s a n) := by
  induction n generalizing s with
  | zero => exact h0
  | succ n ih => exact ih (State.inc_still h0)

theorem State.stageRej_still {s0 : State} {s : State} {q : Req} {a : ℕ} (h0 : Still s0 s) :
    Still s0 (State.stageRej s q a) := by
  unfold State.stageRej
  repeat' (first
    | with_reducible assumption | with_reducible apply State.flag_still | with_reducible apply State.capture_still)

theorem State.stageRej_kept {s0 : State} {s : State} {q : Req} {a : ℕ} (h0 : Kept s0 s) :
    Kept s0 (State.stageRej s q a) :=
  h0.still (State.stageRej_still (Still.refl _))

theorem State.regWrite_still {s0 : State} {s : State} {q : Req} {k : ℕ} {w : Word} (h0 : Still s0 s) :
    Still s0 (State.regWrite s q k w) := by
  unfold State.regWrite
  repeat' (first
    | with_reducible assumption
    | (extract_lets +onlyGivenNames x1; have hx1 : Still s0 x1 := ?_; clear_value x1; revert x1; intro _ _; rotate_left; unfold x1; clear x1)
    | (extract_lets +onlyGivenNames x1; (fail_if_success have _f := fun a => x1 a); clear_value x1; revert x1; intro _)
    | with_reducible apply State.rsvd_still | with_reducible apply State.stage_still
    | with_reducible apply State.put_still | with_reducible apply State.stageRej_still | split)

theorem State.regWrite_kept {s0 : State} {s : State} {q : Req} {k : ℕ} {w : Word} (h0 : Kept s0 s) :
    Kept s0 (State.regWrite s q k w) :=
  h0.still (State.regWrite_still (Still.refl _))

theorem State.tstLeave_still {s0 : State} {s : State} (h0 : Still s0 s) :
    Still s0 (State.tstLeave s) := by
  unfold State.tstLeave
  repeat' (first
    | with_reducible assumption
    | (extract_lets +onlyGivenNames x1; have hx1 : Still s0 x1 := ?_; clear_value x1; revert x1; intro _ _; rotate_left; unfold x1; clear x1)
    | (extract_lets +onlyGivenNames x1; (fail_if_success have _f := fun a => x1 a); clear_value x1; revert x1; intro _)
    | with_reducible apply State.setF_still | split | (rw [State.lit_eq]; with_reducible refine Still.mk' ?_ rfl))

theorem State.tstLeave_kept {s0 : State} {s : State} (h0 : Kept s0 s) :
    Kept s0 (State.tstLeave s) :=
  h0.still (State.tstLeave_still (Still.refl _))

theorem State.tstAside_still {s0 : State} {s : State} {p : ℕ → ℕ → Bool} (h0 : Still s0 s) :
    Still s0 (State.tstAside s p) := by
  unfold State.tstAside
  repeat' (first
    | with_reducible assumption
    | (extract_lets +onlyGivenNames x1; (fail_if_success have _f := fun a => x1 a); clear_value x1; revert x1; intro _)
    | with_reducible apply State.inc_still | with_reducible apply State.tstLeave_still | split
    | (rw [State.lit_eq]; with_reducible refine Still.mk' ?_ rfl))

theorem State.tstAside_kept {s0 : State} {s : State} {p : ℕ → ℕ → Bool} (h0 : Kept s0 s) :
    Kept s0 (State.tstAside s p) :=
  h0.still (State.tstAside_still (Still.refl _))

theorem State.refused_still {s0 : State} {s : State} {i : ℕ} {a : ℕ} (h0 : Still s0 s) :
    Still s0 (State.refused s i a) := by
  unfold State.refused
  repeat' (first
    | with_reducible assumption | with_reducible apply State.put_still | with_reducible apply State.flag_still | split)

theorem State.refused_kept {s0 : State} {s : State} {i : ℕ} {a : ℕ} (h0 : Kept s0 s) :
    Kept s0 (State.refused s i a) :=
  h0.still (State.refused_still (Still.refl _))

theorem State.guardWrite_still {s0 : State} {s : State} {q : Req} {a : ℕ} {f : State → State} (h0 : Still s0 s)
    (h1 : ∀ a0, Still s0 a0 → Still s0 (f a0)) :
    Still s0 (State.guardWrite s q a f) := by
  unfold State.guardWrite
  repeat' (first
    | with_reducible assumption
    | (extract_lets +onlyGivenNames x1; (fail_if_success have _f := fun a => x1 a); clear_value x1; revert x1; intro _)
    | with_reducible apply State.answer_still | with_reducible apply State.rsvdAt_still
    | with_reducible apply State.refused_still | with_reducible apply State.flag_still | with_reducible apply h1
    | split | (rw [State.lit_eq]; with_reducible refine Still.mk' ?_ rfl))

theorem State.guardWrite_kept {s0 : State} {s : State} {q : Req} {a : ℕ} {f : State → State} (h0 : Kept s0 s)
    (h1 : ∀ a0, Kept s0 a0 → Kept s0 (f a0)) :
    Kept s0 (State.guardWrite s q a f) := by
  unfold State.guardWrite
  repeat' (first
    | with_reducible assumption
    | (extract_lets +onlyGivenNames x1; (fail_if_success have _f := fun a => x1 a); clear_value x1; revert x1; intro _)
    | with_reducible apply State.answer_kept | with_reducible apply State.rsvdAt_kept
    | with_reducible apply State.refused_kept | with_reducible apply State.flag_kept | with_reducible apply h1 | split
    | (rw [State.lit_eq]; with_reducible refine Kept.mk' ?_ rfl))

theorem State.guardRead_still {s0 : State} {s : State} {q : Req} {a : ℕ} {f : State → Word × State} (h0 : Still s0 s)
    (h1 : ∀ a0, Still s0 a0 → Still s0 (f a0).2) :
    Still s0 (State.guardRead s q a f) := by
  unfold State.guardRead
  repeat' (first
    | with_reducible assumption | with_reducible apply State.answer_still | with_reducible apply State.refused_still
    | with_reducible apply State.free_still | with_reducible apply h1 | split)

theorem State.guardRead_kept {s0 : State} {s : State} {q : Req} {a : ℕ} {f : State → Word × State} (h0 : Kept s0 s)
    (h1 : ∀ a0, Kept s0 a0 → Kept s0 (f a0).2) :
    Kept s0 (State.guardRead s q a f) := by
  unfold State.guardRead
  repeat' (first
    | with_reducible assumption | with_reducible apply State.answer_kept | with_reducible apply State.refused_kept
    | with_reducible apply State.free_kept | with_reducible apply h1 | split)

theorem State.releaseBorder_still {s0 : State} {s : State} {p : ℕ} (h0 : Still s0 s) :
    Still s0 (State.releaseBorder s p) := by
  unfold State.releaseBorder
  repeat' (first
    | with_reducible assumption
    | (extract_lets +onlyGivenNames x1; (fail_if_success have _f := fun a => x1 a); clear_value x1; revert x1; intro _)
    | split | (rw [State.lit_eq]; with_reducible refine Still.mk' ?_ rfl))

theorem State.routeSwitch_still {s0 : State} {s : State} {d : ℕ} (h0 : Still s0 s) :
    Still s0 (State.routeSwitch s d) := by
  unfold State.routeSwitch
  repeat' (first
    | with_reducible assumption
    | (extract_lets +onlyGivenNames x1; (fail_if_success have _f := fun a => x1 a); clear_value x1; revert x1; intro _)
    | split | (rw [State.lit_eq]; with_reducible refine Still.mk' ?_ rfl))

theorem State.takeArrived_still {s0 : State} {s t : State} {d : ℕ} {w : CWord} (h0 : Still s0 s)
    (e : State.takeArrived s d = some (w, t)) : Still s0 t := by
  unfold State.takeArrived at e
  split at e
  · cases e
  · cases e
    exact ⟨h0.pending, h0.bytes⟩

theorem execCxbRouteSwitch_still {s0 : State} {d : Fin 1600} {s : State} (h0 : Still s0 s) :
    NextAll (Still s0) (execCxbRouteSwitch d s) := by
  unfold execCxbRouteSwitch
  repeat' (first
    | with_reducible assumption | with_reducible apply Still.answers | with_reducible apply State.routeSwitch_still)

theorem State.cxbMs_still {s0 : State} {s : State} (h0 : Still s0 s) :
    Still s0 (State.cxbMs s) := by
  unfold State.cxbMs
  repeat' (first
    | with_reducible assumption
    | (extract_lets +onlyGivenNames x1; have hx1 : Still s0 x1 := ?_; clear_value x1; revert x1; intro _ _; rotate_left; unfold x1; clear x1)
    | (extract_lets +onlyGivenNames x1; (fail_if_success have _f := fun a => x1 a); clear_value x1; revert x1; intro _)
    | with_reducible apply State.setF_still | split | (rw [State.lit_eq]; with_reducible refine Still.mk' ?_ rfl))

theorem State.setBorder_still {s0 : State} {s : State} {p : ℕ} {b : Bool} (h0 : Still s0 s) :
    Still s0 (State.setBorder s p b) := by
  unfold State.setBorder
  repeat' (first
    | with_reducible assumption
    | (extract_lets +onlyGivenNames x1; have hx1 : Still s0 x1 := ?_; clear_value x1; revert x1; intro _ _; rotate_left; unfold x1; clear x1)
    | (extract_lets +onlyGivenNames x1; (fail_if_success have _f := fun a => x1 a); clear_value x1; revert x1; intro _)
    | with_reducible apply State.setF_still | with_reducible apply State.put_still
    | (rw [State.lit_eq]; with_reducible refine Still.mk' ?_ rfl))

theorem State.routeSwitchAll_still {s0 : State} {s : State} (h0 : Still s0 s) :
    Still s0 (State.routeSwitchAll s) := by
  unfold State.routeSwitchAll
  repeat' (first
    | with_reducible assumption | intro _
    | (extract_lets +onlyGivenNames x1; (fail_if_success have _f := fun a => x1 a); clear_value x1; revert x1; intro _)
    | with_reducible apply State.routeSwitch_still | with_reducible apply Still.foldl)

theorem State.offer_still {s0 : State} {s : State} {p : ℕ} {w : CWord} (h0 : Still s0 s) :
    Still s0 (State.offer s p w) := by
  unfold State.offer
  repeat' (first
    | with_reducible assumption | with_reducible apply State.setBorder_still | split | dsimp only
    | (rw [State.lit_eq]; with_reducible refine Still.mk' ?_ rfl))

theorem State.offerAll_still {s0 : State} {s : State} {p : ℕ} {y0 : List CWord} (h0 : Still s0 s) :
    Still s0 (State.offerAll s p y0) := by
  induction y0 generalizing s p with
  | nil =>
    unfold State.offerAll
    repeat' (first
      | with_reducible assumption)
  | cons _ _ ih =>
    unfold State.offerAll
    repeat' (first
      | with_reducible assumption | with_reducible apply ih | with_reducible apply State.offer_still)

theorem State.offerAll_kept {s0 : State} {s : State} {p : ℕ} {y0 : List CWord} (h0 : Kept s0 s) :
    Kept s0 (State.offerAll s p y0) :=
  h0.still (State.offerAll_still (Still.refl _))

theorem execRrPlayout_still {s0 : State} {r : Fin 64} {s : State} (h0 : Still s0 s) :
    NextAll (Still s0) (execRrPlayout r s) := by
  unfold execRrPlayout
  repeat' (first
    | with_reducible assumption
    | (extract_lets +onlyGivenNames x1; have hx1 : Still s0 x1 := ?_; clear_value x1; revert x1; intro _ _; rotate_left; unfold x1; clear x1)
    | (extract_lets +onlyGivenNames x1; (fail_if_success have _f := fun a => x1 a); clear_value x1; revert x1; intro _)
    | with_reducible apply Still.answers | with_reducible apply State.offer_still | split
    | (rw [State.lit_eq]; with_reducible refine Still.mk' ?_ rfl))

theorem State.tstPort_still {s0 : State} {s : State} {a : ℕ} {b : ℕ} (h0 : Still s0 s) :
    Still s0 (State.tstPort s a b) := by
  unfold State.tstPort
  repeat' (first
    | with_reducible assumption | with_reducible apply State.tstAside_still)

theorem State.rrDiscard_still {s0 : State} {s : State} {r : ℕ} {n : ℕ} (h0 : Still s0 s) :
    Still s0 (State.rrDiscard s r n) := by
  unfold State.rrDiscard
  repeat' (first
    | with_reducible assumption | with_reducible apply State.incBy_still | with_reducible apply State.flag_still)

theorem State.rnowWrite_still {s0 : State} {s : State} {q : Req} {v : Word} (h0 : Still s0 s) :
    Still s0 (State.rnowWrite s q v) := by
  unfold State.rnowWrite
  repeat' (first
    | with_reducible assumption
    | (extract_lets +onlyGivenNames x1; have hx1 : Still s0 x1 := ?_; clear_value x1; revert x1; intro _ _; rotate_left; unfold x1; clear x1)
    | (extract_lets +onlyGivenNames x1; (fail_if_success have _f := fun a => x1 a); clear_value x1; revert x1; intro _)
    | with_reducible apply State.rsvd_still | with_reducible apply State.setF_still
    | with_reducible apply State.flag_still | with_reducible apply State.tstPort_still
    | with_reducible apply State.stageRej_still | split | (rw [State.lit_eq]; with_reducible refine Still.mk' ?_ rfl))

theorem State.ownWrite_still {s0 : State} {s : State} {q : Req} {p : ℕ} {v : Word} (h0 : Still s0 s) :
    Still s0 (State.ownWrite s q p v) := by
  unfold State.ownWrite
  repeat' (first
    | with_reducible assumption
    | (extract_lets +onlyGivenNames x1; (fail_if_success have _f := fun a => x1 a); clear_value x1; revert x1; intro _)
    | with_reducible apply State.rsvd_still | with_reducible apply State.regWrite_still
    | with_reducible apply State.flag_still | with_reducible apply State.tstPort_still | split)

theorem execCxbLoadRead_still {s0 : State} {q : Req} {s : State} (h0 : Still s0 s) :
    NextAll (Still s0) (execCxbLoadRead q s) := by
  unfold execCxbLoadRead
  repeat' (first
    | with_reducible assumption | intro _ | with_reducible apply Still.answers | with_reducible apply State.regRead_still
    | with_reducible apply State.guardRead_still)

theorem State.rrSend_still {s0 : State} {s : State} {r : ℕ} {w : CWord} (h0 : Still s0 s) :
    Still s0 (State.rrSend s r w) := by
  unfold State.rrSend
  repeat' (first
    | with_reducible assumption
    | (extract_lets +onlyGivenNames x1; have hx1 : Still s0 x1 := ?_; clear_value x1; revert x1; intro _ _; rotate_left; unfold x1; clear x1)
    | (extract_lets +onlyGivenNames x1; (fail_if_success have _f := fun a => x1 a); clear_value x1; revert x1; intro _)
    | with_reducible apply State.rrDiscard_still | with_reducible apply State.send_still | split
    | (rw [State.lit_eq]; with_reducible refine Still.mk' ?_ rfl))

theorem execCxbRnowWrite_still {s0 : State} {q : Req} {v : Word} {s : State} (h0 : Still s0 s) :
    NextAll (Still s0) (execCxbRnowWrite q v s) := by
  unfold execCxbRnowWrite
  repeat' (first
    | with_reducible assumption | intro _ | with_reducible apply Still.answers
    | with_reducible apply State.rnowWrite_still | with_reducible apply State.guardWrite_still)

theorem State.routeWrite_still {s0 : State} {s : State} {q : Req} {d : ℕ} {v : Word} (h0 : Still s0 s) :
    Still s0 (State.routeWrite s q d v) := by
  unfold State.routeWrite
  repeat' (first
    | with_reducible assumption
    | (extract_lets +onlyGivenNames x1; (fail_if_success have _f := fun a => x1 a); clear_value x1; revert x1; intro _)
    | with_reducible apply State.rsvd_still | with_reducible apply State.regWrite_still
    | with_reducible apply State.flag_still | with_reducible apply State.tstPort_still | split)

theorem State.deliver_still {s0 : State} {s : State} {d : ℕ} {w : CWord} (h0 : Still s0 s) :
    Still s0 (State.deliver s d w) := by
  unfold State.deliver
  repeat' (first
    | with_reducible assumption
    | (extract_lets +onlyGivenNames x1; have hx1 : Still s0 x1 := ?_; clear_value x1; revert x1; intro _ _; rotate_left; unfold x1; clear x1)
    | (extract_lets +onlyGivenNames x1; (fail_if_success have _f := fun a => x1 a); clear_value x1; revert x1; intro _)
    | with_reducible apply State.rrSend_still | split | (rw [State.lit_eq]; with_reducible refine Still.mk' ?_ rfl))

theorem execCxbOwnWrite_still {s0 : State} {q : Req} {p : Fin 1600} {v : Word} {s : State} (h0 : Still s0 s) :
    NextAll (Still s0) (execCxbOwnWrite q p v s) := by
  unfold execCxbOwnWrite
  repeat' (first
    | with_reducible assumption | intro _ | with_reducible apply Still.answers
    | with_reducible apply State.guardWrite_still | with_reducible apply State.ownWrite_still)

theorem State.repeatSource_still {s0 : State} {s : State} {p : ℕ} (h0 : Still s0 s) :
    Still s0 (State.repeatSource s p) := by
  unfold State.repeatSource
  repeat' (first
    | with_reducible assumption | intro _ | with_reducible apply State.deliver_still | split
    | with_reducible apply Still.foldl)

theorem execCxbRouteWrite_still {s0 : State} {q : Req} {d : Fin 1600} {v : Word} {s : State} (h0 : Still s0 s) :
    NextAll (Still s0) (execCxbRouteWrite q d v s) := by
  unfold execCxbRouteWrite
  repeat' (first
    | with_reducible assumption | intro _ | with_reducible apply Still.answers
    | with_reducible apply State.routeWrite_still | with_reducible apply State.guardWrite_still)

theorem execBorderHoldRepeat_still {s0 : State} {s : State} (h0 : Still s0 s) :
    NextAll (Still s0) (execBorderHoldRepeat s) := by
  unfold execBorderHoldRepeat
  repeat' (first
    | with_reducible assumption | intro _ | with_reducible apply Still.answers
    | with_reducible apply State.repeatSource_still | with_reducible apply Still.foldl)

theorem State.enterBorder_still {s0 : State} {s : State} {p : ℕ} (h0 : Still s0 s) :
    Still s0 (State.enterBorder s p) := by
  unfold State.enterBorder
  repeat' (first
    | with_reducible assumption | with_reducible apply State.repeatSource_still
    | with_reducible apply State.setBorder_still)

theorem State.enterBorder_kept {s0 : State} {s : State} {p : ℕ} (h0 : Kept s0 s) :
    Kept s0 (State.enterBorder s p) :=
  h0.still (State.enterBorder_still (Still.refl _))

theorem State.deliverAll_still {s0 : State} {s : State} {w : CWord} {perr : List (ℕ × Bool)} {y0 : List ℕ}
    (h0 : Still s0 s) :
    Still s0 (State.deliverAll s w perr y0) := by
  induction y0 generalizing s w perr with
  | nil =>
    unfold State.deliverAll
    repeat' (first
      | with_reducible assumption)
  | cons _ _ ih =>
    unfold State.deliverAll
    repeat' (first
      | with_reducible assumption | with_reducible apply ih | with_reducible apply State.inc_still
      | with_reducible apply State.flag_still | with_reducible apply State.deliver_still | split)

theorem execCxbWordDeliver_still {s0 : State} {perr : List (ℕ × Bool)} {s : State} (h0 : Still s0 s) :
    NextAll (Still s0) (execCxbWordDeliver perr s) := by
  unfold execCxbWordDeliver
  repeat' (first
    | with_reducible assumption
    | (extract_lets +onlyGivenNames x1; (fail_if_success have _f := fun a => x1 a); clear_value x1; revert x1; intro _)
    | with_reducible apply Still.answers | with_reducible apply State.deliverAll_still | split
    | (rw [State.lit_eq]; with_reducible refine Still.mk' ?_ rfl))

theorem State.enqueue_still {s0 : State} {s : State} {o : StOp} (h0 : Still s0 s) :
    Still s0 (State.enqueue s o) := by
  unfold State.enqueue
  repeat' (first
    | with_reducible assumption | (rw [State.lit_eq]; with_reducible refine Still.mk' ?_ rfl))

theorem State.enqueue_kept {s0 : State} {s : State} {o : StOp} (h0 : Kept s0 s) :
    Kept s0 (State.enqueue s o) :=
  h0.still (State.enqueue_still (Still.refl _))

theorem State.discardOps_still {s0 : State} {s : State} {p : StOp → Bool} (h0 : Still s0 s) :
    Still s0 (State.discardOps s p).2 := by
  unfold State.discardOps
  repeat' (first
    | with_reducible assumption | dsimp only | (rw [State.lit_eq]; with_reducible refine Still.mk' ?_ rfl))

end Sys2Proof.Machine
end

