-- ==== Sys2Proof/Laws/FrameCells.lean ====
section
/-! SUPPORT. What each function of Machine/Cells.lean, Machine/Converter.lean leaves alone: `Still`, the queue of commands and
every byte of memory; `Kept`, the queue, and the canonical form of memory. -/

set_option linter.unreachableTactic false
set_option linter.unusedTactic false
set_option linter.unusedVariables false
set_option linter.tactic.unusedName false

namespace Sys2Proof.Machine

theorem State.setCell_still {s0 : State} {s : State} {u : ℕ} {c : Cell} (h0 : Still s0 s) :
    Still s0 (State.setCell s u c) := by
  unfold State.setCell
  repeat' (first
    | with_reducible assumption | (rw [State.lit_eq]; with_reducible refine Still.mk' ?_ rfl))

theorem State.setCell_kept {s0 : State} {s : State} {u : ℕ} {c : Cell} (h0 : Kept s0 s) :
    Kept s0 (State.setCell s u c) :=
  h0.still (State.setCell_still (Still.refl _))

theorem State.engage_still {s0 : State} {s : State} {l : ℕ} (h0 : Still s0 s) :
    Still s0 (State.engage s l) := by
  unfold State.engage
  repeat' (first
    | with_reducible assumption | intro _
    | (extract_lets +onlyGivenNames x1; have hx1 : Still s0 x1 := ?_; clear_value x1; revert x1; intro _ _; rotate_left; unfold x1; clear x1)
    | (extract_lets +onlyGivenNames x1; (fail_if_success have _f := fun a => x1 a); clear_value x1; revert x1; intro _)
    | with_reducible apply State.setCell_still | dsimp only | with_reducible apply Still.foldl)

theorem State.dacFollow_still {s0 : State} {s : State} {l : ℕ} {m : ℕ} {o : ℕ} (h0 : Still s0 s) :
    Still s0 (State.dacFollow s l m o) := by
  unfold State.dacFollow
  repeat' (first
    | with_reducible assumption
    | (extract_lets +onlyGivenNames x1; (fail_if_success have _f := fun a => x1 a); clear_value x1; revert x1; intro _)
    | with_reducible apply State.setCell_still | split)

theorem State.gateDown_still {s0 : State} {s : State} {u : ℕ} (h0 : Still s0 s) :
    Still s0 (State.gateDown s u) := by
  unfold State.gateDown
  repeat' (first
    | with_reducible assumption
    | (extract_lets +onlyGivenNames x1; (fail_if_success have _f := fun a => x1 a); clear_value x1; revert x1; intro _)
    | with_reducible apply State.setCell_still)

theorem State.cellSettle_still {s0 : State} {s : State} {u : ℕ} (h0 : Still s0 s) :
    Still s0 (State.cellSettle s u) := by
  unfold State.cellSettle
  repeat' (first
    | with_reducible assumption
    | (extract_lets +onlyGivenNames x1; (fail_if_success have _f := fun a => x1 a); clear_value x1; revert x1; intro _)
    | with_reducible apply State.setCell_still)

theorem State.refreshCell_still {s0 : State} {s : State} {u : ℕ} (h0 : Still s0 s) :
    Still s0 (State.refreshCell s u) := by
  unfold State.refreshCell
  repeat' (first
    | with_reducible assumption | intro _
    | (extract_lets +onlyGivenNames x1; (fail_if_success have _f := fun a => x1 a); clear_value x1; revert x1; intro _)
    | with_reducible apply State.setF_still | with_reducible apply State.dacFollow_still
    | with_reducible apply Still.foldl)

theorem State.waveDataRead_still {s0 : State} {s : State} {u : ℕ} (h0 : Still s0 s) :
    Still s0 (State.waveDataRead s u).2 := by
  unfold State.waveDataRead
  repeat' (first
    | with_reducible assumption
    | (extract_lets +onlyGivenNames x1; (fail_if_success have _f := fun a => x1 a); clear_value x1; revert x1; intro _)
    | with_reducible apply State.setF_still)

theorem State.latchCell_still {s0 : State} {s : State} {u : ℕ} {cause : ℕ} (h0 : Still s0 s) :
    Still s0 (State.latchCell s u cause) := by
  unfold State.latchCell
  repeat' (first
    | with_reducible assumption | intro _
    | (extract_lets +onlyGivenNames x1; have hx1 : Still s0 x1 := ?_; clear_value x1; revert x1; intro _ _; rotate_left; unfold x1; clear x1)
    | with_reducible apply State.setF_still | with_reducible apply State.refreshCell_still
    | with_reducible apply State.flag_still | split | with_reducible apply Still.foldl)

theorem State.latchCell_kept {s0 : State} {s : State} {u : ℕ} {cause : ℕ} (h0 : Kept s0 s) :
    Kept s0 (State.latchCell s u cause) :=
  h0.still (State.latchCell_still (Still.refl _))

theorem State.clearCell_still {s0 : State} {s : State} {u : ℕ} (h0 : Still s0 s) :
    Still s0 (State.clearCell s u) := by
  unfold State.clearCell
  repeat' (first
    | with_reducible assumption | intro _
    | (extract_lets +onlyGivenNames x1; have hx1 : Still s0 x1 := ?_; clear_value x1; revert x1; intro _ _; rotate_left; unfold x1; clear x1)
    | with_reducible apply State.setF_still | with_reducible apply State.refreshCell_still
    | with_reducible apply Still.foldl)

theorem State.clearCell_kept {s0 : State} {s : State} {u : ℕ} (h0 : Kept s0 s) :
    Kept s0 (State.clearCell s u) :=
  h0.still (State.clearCell_still (Still.refl _))

theorem execStarveTimeout_still {s0 : State} {u : Fin 512} {s : State} (h0 : Still s0 s) :
    NextAll (Still s0) (execStarveTimeout u s) := by
  unfold execStarveTimeout
  repeat' (first
    | with_reducible assumption | with_reducible apply Still.answers | with_reducible apply State.latchCell_still
    | with_reducible apply State.flag_still | split)

theorem State.cellLoad_still {s0 : State} {s : State} {u : ℕ} {req : ℕ} {ws : List Word} (h0 : Still s0 s) :
    Still s0 (State.cellLoad s u req ws) := by
  unfold State.cellLoad
  repeat' (first
    | with_reducible assumption
    | (extract_lets +onlyGivenNames x1; have hx1 : Still s0 x1 := ?_; clear_value x1; revert x1; intro _ _; rotate_left; unfold x1; clear x1)
    | (extract_lets +onlyGivenNames x1; (fail_if_success have _f := fun a => x1 a); clear_value x1; revert x1; intro _)
    | with_reducible apply State.setCell_still | with_reducible apply State.setF_still | split)

theorem State.cellLoad_kept {s0 : State} {s : State} {u : ℕ} {req : ℕ} {ws : List Word} (h0 : Kept s0 s) :
    Kept s0 (State.cellLoad s u req ws) :=
  h0.still (State.cellLoad_still (Still.refl _))

theorem State.relatch_still {s0 : State} {s : State} {l : ℕ} (h0 : Still s0 s) :
    Still s0 (State.relatch s l) := by
  unfold State.relatch
  repeat' (first
    | with_reducible assumption
    | (extract_lets +onlyGivenNames x1; have hx1 : Still s0 x1 := ?_; clear_value x1; revert x1; intro _ _; rotate_left; unfold x1; clear x1)
    | with_reducible apply State.latchCell_still | split)

theorem State.enableCell_still {s0 : State} {s : State} {u : ℕ} {b : Bool} (h0 : Still s0 s) :
    Still s0 (State.enableCell s u b) := by
  unfold State.enableCell
  repeat' (first
    | with_reducible assumption | intro _
    | (extract_lets +onlyGivenNames x1; have hx1 : Still s0 x1 := ?_; clear_value x1; revert x1; intro _ _; rotate_left; unfold x1; clear x1)
    | with_reducible apply State.setF_still | with_reducible apply State.refreshCell_still
    | with_reducible apply Still.foldl)

theorem State.enableCell_kept {s0 : State} {s : State} {u : ℕ} {b : Bool} (h0 : Kept s0 s) :
    Kept s0 (State.enableCell s u b) :=
  h0.still (State.enableCell_still (Still.refl _))

theorem execWaveLoadComplete_still {s0 : State} {u : Fin 512} {s : State} (h0 : Still s0 s) :
    NextAll (Still s0) (execWaveLoadComplete u s) := by
  unfold execWaveLoadComplete
  repeat' (first
    | with_reducible assumption
    | (extract_lets +onlyGivenNames x1; (fail_if_success have _f := fun a => x1 a); clear_value x1; revert x1; intro _)
    | with_reducible apply Still.answers | with_reducible apply State.setCell_still
    | with_reducible apply State.flag_still | split)

theorem State.refreshCells_still {s0 : State} {s : State} (h0 : Still s0 s) :
    Still s0 (State.refreshCells s) := by
  unfold State.refreshCells
  repeat' (first
    | with_reducible assumption | intro _ | with_reducible apply State.refreshCell_still
    | with_reducible apply Still.foldl)

theorem State.refreshCells_kept {s0 : State} {s : State} (h0 : Kept s0 s) :
    Kept s0 (State.refreshCells s) :=
  h0.still (State.refreshCells_still (Still.refl _))

theorem State.applyCode_still {s0 : State} {s : State} {l : ℕ} {code : BitVec 14} {sat : Bool} {inPlay : Bool}
    {first : Option Stamp} (h0 : Still s0 s) :
    Still s0 (State.applyCode s l code sat inPlay first) := by
  unfold State.applyCode
  repeat' (first
    | with_reducible assumption | intro _
    | (extract_lets +onlyGivenNames x1; (fail_if_success have _f := fun a => x1 a); clear_value x1; revert x1; intro _)
    | with_reducible apply State.setCell_still | with_reducible apply State.offer_still | split | dsimp only
    | with_reducible apply Still.foldl)

theorem State.cellUcmd_still {s0 : State} {s : State} {u : ℕ} {code : ℕ} (h0 : Still s0 s) :
    OptAll (Still s0) (State.cellUcmd s u code) := by
  unfold State.cellUcmd
  repeat' (first
    | with_reducible assumption | with_reducible apply Still.none | with_reducible apply Still.some
    | with_reducible apply State.latchCell_still | with_reducible apply State.enableCell_still
    | with_reducible apply State.clearCell_still | split)

theorem State.cellUcmd_kept {s0 : State} {s : State} {u : ℕ} {code : ℕ} (h0 : Kept s0 s) :
    OptAll (Kept s0) (State.cellUcmd s u code) := by
  unfold State.cellUcmd
  repeat' (first
    | with_reducible assumption | with_reducible apply Kept.none | with_reducible apply Kept.some
    | with_reducible apply State.latchCell_kept | with_reducible apply State.enableCell_kept
    | with_reducible apply State.clearCell_kept | split)

theorem execOvercurrent_still {s0 : State} {u : Fin 512} {s : State} (h0 : Still s0 s) :
    NextAll (Still s0) (execOvercurrent u s) := by
  unfold execOvercurrent
  repeat' (first
    | with_reducible assumption
    | (extract_lets +onlyGivenNames x1; have hx1 : Still s0 x1 := ?_; clear_value x1; revert x1; intro _ _; rotate_left; unfold x1; clear x1)
    | with_reducible apply Still.answers | with_reducible apply State.latchCell_still
    | with_reducible apply State.flag_still | split)

theorem State.latchCells_still {s0 : State} {s : State} {cause : ℕ} (h0 : Still s0 s) :
    Still s0 (State.latchCells s cause) := by
  unfold State.latchCells
  repeat' (first
    | with_reducible assumption | intro _ | with_reducible apply State.latchCell_still | with_reducible apply Still.foldl)

theorem execHoldTimeout_still {s0 : State} {u : Fin 512} {s : State} (h0 : Still s0 s) :
    NextAll (Still s0) (execHoldTimeout u s) := by
  unfold execHoldTimeout
  repeat' (first
    | with_reducible assumption
    | (extract_lets +onlyGivenNames x1; (fail_if_success have _f := fun a => x1 a); clear_value x1; revert x1; intro _)
    | with_reducible apply Still.answers | with_reducible apply State.setCell_still
    | with_reducible apply State.latchCell_still | with_reducible apply State.flag_still | split)

theorem State.keepCode_still {s0 : State} {s : State} {l : ℕ} (h0 : Still s0 s) :
    Still s0 (State.keepCode s l) := by
  unfold State.keepCode
  repeat' (first
    | with_reducible assumption | with_reducible apply State.applyCode_still)

theorem State.gateUp_still {s0 : State} {s : State} {u : ℕ} (h0 : Still s0 s) :
    Still s0 (State.gateUp s u) := by
  unfold State.gateUp
  repeat' (first
    | with_reducible assumption
    | (extract_lets +onlyGivenNames x1; have hx1 : Still s0 x1 := ?_; clear_value x1; revert x1; intro _ _; rotate_left; unfold x1; clear x1)
    | (extract_lets +onlyGivenNames x1; (fail_if_success have _f := fun a => x1 a); clear_value x1; revert x1; intro _)
    | with_reducible apply State.setCell_still | with_reducible apply State.setF_still
    | with_reducible apply State.applyCode_still | split)

theorem State.waveUpdate_still {s0 : State} {s : State} {l : ℕ} (h0 : Still s0 s) :
    Still s0 (State.waveUpdate s l) := by
  unfold State.waveUpdate
  repeat' (first
    | with_reducible assumption
    | (extract_lets +onlyGivenNames x1; (fail_if_success have _f := fun a => x1 a); clear_value x1; revert x1; intro _)
    | with_reducible apply State.setCell_still | with_reducible apply State.applyCode_still | split)

theorem execCelWaveDataRead_still {s0 : State} {q : Req} {u : Fin 512} {s : State} (h0 : Still s0 s) :
    NextAll (Still s0) (execCelWaveDataRead q u s) := by
  unfold execCelWaveDataRead
  repeat' (first
    | with_reducible assumption | intro _ | with_reducible apply Still.answers
    | with_reducible apply State.waveDataRead_still | with_reducible apply State.guardRead_still)

theorem State.cellApplied_still {s0 : State} {s : State} {u : ℕ} (h0 : Still s0 s) :
    Still s0 (State.cellApplied s u) := by
  unfold State.cellApplied
  repeat' (first
    | with_reducible assumption
    | (extract_lets +onlyGivenNames x1; have hx1 : Still s0 x1 := ?_; clear_value x1; revert x1; intro _ _; rotate_left; unfold x1; clear x1)
    | (extract_lets +onlyGivenNames x1; (fail_if_success have _f := fun a => x1 a); clear_value x1; revert x1; intro _)
    | with_reducible apply State.setCell_still | with_reducible apply State.setF_still
    | with_reducible apply State.incBy_still | with_reducible apply State.refreshCell_still
    | with_reducible apply State.flag_still | with_reducible apply State.discardOps_still | split
    | with_reducible refine Still.pair ?_ (by assumption))

theorem State.dropSample_still {s0 : State} {s : State} {u : ℕ} (h0 : Still s0 s) :
    Still s0 (State.dropSample s u) := by
  unfold State.dropSample
  repeat' (first
    | with_reducible assumption | with_reducible apply State.inc_still | with_reducible apply State.flag_still)

theorem State.cellPoison_still {s0 : State} {s : State} {u : ℕ} (h0 : Still s0 s) :
    Still s0 (State.cellPoison s u) := by
  unfold State.cellPoison
  repeat' (first
    | with_reducible assumption
    | (extract_lets +onlyGivenNames x1; have hx1 : Still s0 x1 := ?_; clear_value x1; revert x1; intro _ _; rotate_left; unfold x1; clear x1)
    | with_reducible apply State.latchCell_still | with_reducible apply State.inc_still
    | with_reducible apply State.flag_still | split)

theorem State.fifoHead_still {s0 : State} {s : State} {u : ℕ} {y0 : ℕ} (h0 : Still s0 s) :
    Still s0 (State.fifoHead s u y0) := by
  induction y0 generalizing s u with
  | zero =>
    unfold State.fifoHead
    repeat' (first
      | with_reducible assumption)
  | succ _ ih =>
    unfold State.fifoHead
    repeat' (first
      | with_reducible assumption | with_reducible apply ih
      | (extract_lets +onlyGivenNames x1; (fail_if_success have _f := fun a => x1 a); clear_value x1; revert x1; intro _)
      | with_reducible apply State.setCell_still | with_reducible apply State.enqueue_still
      | with_reducible apply State.dropSample_still | with_reducible apply State.inc_still | split)

theorem State.cellWord_still {s0 : State} {s : State} {u : ℕ} {w : CWord} (h0 : Still s0 s) :
    Still s0 (State.cellWord s u w) := by
  unfold State.cellWord
  repeat' (first
    | with_reducible assumption
    | (extract_lets +onlyGivenNames x1; have hx1 : Still s0 x1 := ?_; clear_value x1; revert x1; intro _ _; rotate_left; unfold x1; clear x1)
    | (extract_lets +onlyGivenNames x1; (fail_if_success have _f := fun a => x1 a); clear_value x1; revert x1; intro _)
    | with_reducible apply State.setCell_still | with_reducible apply State.cellPoison_still
    | with_reducible apply State.dropSample_still | with_reducible apply State.fifoHead_still | split)

theorem State.takeSample_still {s0 : State} {s : State} {u : ℕ} (h0 : Still s0 s) :
    Still s0 (State.takeSample s u) := by
  unfold State.takeSample
  repeat' (first
    | with_reducible assumption
    | (extract_lets +onlyGivenNames x1; have hx1 : Still s0 x1 := ?_; clear_value x1; revert x1; intro _ _; rotate_left; unfold x1; clear x1)
    | (extract_lets +onlyGivenNames x1; (fail_if_success have _f := fun a => x1 a); clear_value x1; revert x1; intro _)
    | with_reducible apply State.setCell_still | with_reducible apply State.applyCode_still
    | with_reducible apply State.fifoHead_still | split)

theorem execCellStreamWord_still {s0 : State} {u : Fin 512} {s : State} (h0 : Still s0 s) :
    NextAll (Still s0) (execCellStreamWord u s) := by
  unfold execCellStreamWord
  repeat' (first
    | with_reducible assumption | with_reducible apply Still.answers | with_reducible apply State.cellWord_still
    | with_reducible refine State.takeArrived_still ?_ (by assumption) | split)

theorem State.streamRelease_still {s0 : State} {s : State} {u : ℕ} (h0 : Still s0 s) :
    Still s0 (State.streamRelease s u) := by
  unfold State.streamRelease
  repeat' (first
    | with_reducible assumption
    | (extract_lets +onlyGivenNames x1; (fail_if_success have _f := fun a => x1 a); clear_value x1; revert x1; intro _)
    | with_reducible apply State.setCell_still | with_reducible apply State.refreshCell_still
    | with_reducible apply State.takeSample_still | split)

theorem State.streamRelease_kept {s0 : State} {s : State} {u : ℕ} (h0 : Kept s0 s) :
    Kept s0 (State.streamRelease s u) :=
  h0.still (State.streamRelease_still (Still.refl _))

theorem State.nextSample_still {s0 : State} {s : State} {l : ℕ} (h0 : Still s0 s) :
    Still s0 (State.nextSample s l) := by
  unfold State.nextSample
  repeat' (first
    | with_reducible assumption | with_reducible apply State.keepCode_still | with_reducible apply State.takeSample_still
    | split)

theorem State.streamUpdate_still {s0 : State} {s : State} {l : ℕ} (h0 : Still s0 s) :
    Still s0 (State.streamUpdate s l) := by
  unfold State.streamUpdate
  repeat' (first
    | with_reducible assumption
    | (extract_lets +onlyGivenNames x1; have hx1 : Still s0 x1 := ?_; clear_value x1; revert x1; intro _ _; rotate_left; unfold x1; clear x1)
    | (extract_lets +onlyGivenNames x1; (fail_if_success have _f := fun a => x1 a); clear_value x1; revert x1; intro _)
    | with_reducible apply State.setCell_still | with_reducible apply State.keepCode_still
    | with_reducible apply State.refreshCell_still | with_reducible apply State.engage_still
    | with_reducible apply State.nextSample_still | split)

theorem State.dacUpdate_still {s0 : State} {s : State} {l : ℕ} (h0 : Still s0 s) :
    Still s0 (State.dacUpdate s l) := by
  unfold State.dacUpdate
  repeat' (first
    | with_reducible assumption
    | (extract_lets +onlyGivenNames x1; have hx1 : Still s0 x1 := ?_; clear_value x1; revert x1; intro _ _; rotate_left; unfold x1; clear x1)
    | with_reducible apply State.relatch_still | with_reducible apply State.applyCode_still
    | with_reducible apply State.waveUpdate_still | with_reducible apply State.streamUpdate_still | split)

theorem State.dacUpdate_kept {s0 : State} {s : State} {l : ℕ} (h0 : Kept s0 s) :
    Kept s0 (State.dacUpdate s l) :=
  h0.still (State.dacUpdate_still (Still.refl _))

theorem State.cvgTick_still {s0 : State} {s : State} (h0 : Still s0 s) :
    Still s0 (State.cvgTick s) := by
  unfold State.cvgTick
  repeat' (first
    | with_reducible assumption | dsimp only | (rw [State.lit_eq]; with_reducible refine Still.mk' ?_ rfl))

theorem State.cvgTick_kept {s0 : State} {s : State} (h0 : Kept s0 s) :
    Kept s0 (State.cvgTick s) :=
  h0.still (State.cvgTick_still (Still.refl _))

theorem State.setGroup_still {s0 : State} {s : State} {g : ℕ} {x : Group} (h0 : Still s0 s) :
    Still s0 (State.setGroup s g x) := by
  unfold State.setGroup
  repeat' (first
    | with_reducible assumption | (rw [State.lit_eq]; with_reducible refine Still.mk' ?_ rfl))

theorem State.beginConv_still {s0 : State} {s : State} {g : ℕ} {e : ℕ} {k : ℕ} {lead : ℕ} (h0 : Still s0 s) :
    Still s0 (State.beginConv s g e k lead) := by
  unfold State.beginConv
  repeat' (first
    | with_reducible assumption
    | (extract_lets +onlyGivenNames x1; (fail_if_success have _f := fun a => x1 a); clear_value x1; revert x1; intro _)
    | with_reducible apply State.setGroup_still | split)

theorem State.cicRestart_still {s0 : State} {s : State} {g : ℕ} (h0 : Still s0 s) :
    Still s0 (State.cicRestart s g) := by
  unfold State.cicRestart
  repeat' (first
    | with_reducible assumption
    | (extract_lets +onlyGivenNames x1; (fail_if_success have _f := fun a => x1 a); clear_value x1; revert x1; intro _)
    | with_reducible apply State.setGroup_still)

theorem State.armAll_still {s0 : State} {s : State} {g : ℕ} (h0 : Still s0 s) :
    Still s0 (State.armAll s g) := by
  unfold State.armAll
  repeat' (first
    | with_reducible assumption
    | (extract_lets +onlyGivenNames x1; (fail_if_success have _f := fun a => x1 a); clear_value x1; revert x1; intro _)
    | with_reducible apply State.setGroup_still)

theorem State.cicInput_still {s0 : State} {s : State} {g : ℕ} {e : ℕ} {code : BitVec 16} {flags : Word}
    {st : Option Stamp} (h0 : Still s0 s) :
    Still s0 (State.cicInput s g e code flags st).2 := by
  unfold State.cicInput
  repeat' (first
    | with_reducible assumption
    | (extract_lets +onlyGivenNames x1; (fail_if_success have _f := fun a => x1 a); clear_value x1; revert x1; intro _)
    | with_reducible apply State.setGroup_still | with_reducible apply State.free_still | split | dsimp only)

theorem execSeqIssue_still {s0 : State} {g : Fin 64} {s : State} (h0 : Still s0 s) :
    NextAll (Still s0) (execSeqIssue g s) := by
  unfold execSeqIssue
  repeat' (first
    | with_reducible assumption
    | (extract_lets +onlyGivenNames x1; (fail_if_success have _f := fun a => x1 a); clear_value x1; revert x1; intro _)
    | with_reducible apply Still.answers | with_reducible apply State.setGroup_still
    | with_reducible apply State.setF_still | with_reducible apply State.beginConv_still | split)

theorem State.cvgEvery_still {s0 : State} {s : State} {g : ℕ} (h0 : Still s0 s) :
    Still s0 (State.cvgEvery s g) := by
  unfold State.cvgEvery
  repeat' (first
    | with_reducible assumption
    | (extract_lets +onlyGivenNames x1; have hx1 : Still s0 x1 := ?_; clear_value x1; revert x1; intro _ _; rotate_left; unfold x1; clear x1)
    | (extract_lets +onlyGivenNames x1; (fail_if_success have _f := fun a => x1 a); clear_value x1; revert x1; intro _)
    | with_reducible apply State.setGroup_still | with_reducible apply State.armAll_still | split)

theorem execEddyStale_still {s0 : State} {g : Fin 64} {s : State} (h0 : Still s0 s) :
    NextAll (Still s0) (execEddyStale g s) := by
  unfold execEddyStale
  repeat' (first
    | with_reducible assumption
    | (extract_lets +onlyGivenNames x1; (fail_if_success have _f := fun a => x1 a); clear_value x1; revert x1; intro _)
    | with_reducible apply Still.answers | with_reducible apply State.flag_still | split)

theorem State.urgSync_still {s0 : State} {s : State} {g : ℕ} (h0 : Still s0 s) :
    Still s0 (State.urgSync s g) := by
  unfold State.urgSync
  repeat' (first
    | with_reducible assumption
    | (extract_lets +onlyGivenNames x1; (fail_if_success have _f := fun a => x1 a); clear_value x1; revert x1; intro _)
    | with_reducible apply State.setF_still)

theorem State.cicDrop_still {s0 : State} {s : State} {g : ℕ} {es : List ℕ} (h0 : Still s0 s) :
    Still s0 (State.cicDrop s g es) := by
  unfold State.cicDrop
  repeat' (first
    | with_reducible assumption
    | (extract_lets +onlyGivenNames x1; (fail_if_success have _f := fun a => x1 a); clear_value x1; revert x1; intro _)
    | with_reducible apply State.setGroup_still)

theorem State.cvgEnable_still {s0 : State} {s : State} {g : ℕ} (h0 : Still s0 s) :
    Still s0 (State.cvgEnable s g) := by
  unfold State.cvgEnable
  repeat' (first
    | with_reducible assumption
    | (extract_lets +onlyGivenNames x1; (fail_if_success have _f := fun a => x1 a); clear_value x1; revert x1; intro _)
    | with_reducible apply State.setGroup_still | split)

theorem State.cvgEnable_kept {s0 : State} {s : State} {g : ℕ} (h0 : Kept s0 s) :
    Kept s0 (State.cvgEnable s g) :=
  h0.still (State.cvgEnable_still (Still.refl _))

theorem State.seqFilter_still {s0 : State} {s : State} {g : ℕ} {c : Conv} {code : BitVec 16} {fl : Word} {w : Word}
    {st : Option Stamp} (h0 : Still s0 s) :
    Still s0 (State.seqFilter s g c code fl w st).2 := by
  unfold State.seqFilter
  repeat' (first
    | with_reducible assumption | with_reducible apply State.cicInput_still | split)

theorem State.cvgClear_still {s0 : State} {s : State} {g : ℕ} (h0 : Still s0 s) :
    Still s0 (State.cvgClear s g) := by
  unfold State.cvgClear
  repeat' (first
    | with_reducible assumption
    | (extract_lets +onlyGivenNames x1; have hx1 : Still s0 x1 := ?_; clear_value x1; revert x1; intro _ _; rotate_left; unfold x1; clear x1)
    | with_reducible apply State.put_still | with_reducible apply State.cicRestart_still | split)

theorem State.cvgClear_kept {s0 : State} {s : State} {g : ℕ} (h0 : Kept s0 s) :
    Kept s0 (State.cvgClear s g) :=
  h0.still (State.cvgClear_still (Still.refl _))

theorem State.poisonUsed_still {s0 : State} {s : State} {g : ℕ} {e : ℕ} (h0 : Still s0 s) :
    Still s0 (State.poisonUsed s g e) := by
  unfold State.poisonUsed
  repeat' (first
    | with_reducible assumption
    | (extract_lets +onlyGivenNames x1; (fail_if_success have _f := fun a => x1 a); clear_value x1; revert x1; intro _)
    | with_reducible apply State.setGroup_still)

theorem State.eddyState_still {s0 : State} {s : State} {g : ℕ} {x : ℕ} (h0 : Still s0 s) :
    Still s0 (State.eddyState s g x) := by
  unfold State.eddyState
  repeat' (first
    | with_reducible assumption | with_reducible apply State.setF_still)

theorem State.urgNext_still {s0 : State} {s : State} {g : ℕ} (h0 : Still s0 s) :
    Still s0 (State.urgNext s g) := by
  unfold State.urgNext
  repeat' (first
    | with_reducible assumption
    | (extract_lets +onlyGivenNames x1; (fail_if_success have _f := fun a => x1 a); clear_value x1; revert x1; intro _)
    | with_reducible apply State.setGroup_still | with_reducible apply State.beginConv_still
    | with_reducible apply State.urgSync_still | split)

theorem State.tdacSettle_still {s0 : State} {s : State} {g : ℕ} {old : ℤ} (h0 : Still s0 s) :
    Still s0 (State.tdacSettle s g old) := by
  unfold State.tdacSettle
  repeat' (first
    | with_reducible assumption
    | (extract_lets +onlyGivenNames x1; (fail_if_success have _f := fun a => x1 a); clear_value x1; revert x1; intro _)
    | with_reducible apply State.setGroup_still)

theorem State.refRdy_still {s0 : State} {s : State} {d : ℕ} {refB : Bool} {ready : Bool} (h0 : Still s0 s) :
    Still s0 (State.refRdy s d refB ready) := by
  unfold State.refRdy
  repeat' (first
    | with_reducible assumption | intro _
    | (extract_lets +onlyGivenNames x1; have hx1 : Still s0 x1 := ?_; clear_value x1; revert x1; intro _ _; rotate_left; unfold x1; clear x1)
    | with_reducible apply State.setGroup_still | with_reducible apply State.setF_still
    | with_reducible apply State.eddyState_still | split | dsimp only | with_reducible apply Still.foldl)

theorem State.eddyMs_still {s0 : State} {s : State} (h0 : Still s0 s) :
    Still s0 (State.eddyMs s) := by
  unfold State.eddyMs
  repeat' (first
    | with_reducible assumption | intro _ | with_reducible apply State.setF_still | split | dsimp only
    | with_reducible apply Still.foldl)

theorem execRefRdyChange_still {s0 : State} {d : Fin 2} {refB : Bool} {ready : Bool} {s : State} (h0 : Still s0 s) :
    NextAll (Still s0) (execRefRdyChange d refB ready s) := by
  unfold execRefRdyChange
  repeat' (first
    | with_reducible assumption
    | (extract_lets +onlyGivenNames x1; (fail_if_success have _f := fun a => x1 a); clear_value x1; revert x1; intro _)
    | with_reducible apply Still.answers | with_reducible apply State.refRdy_still | split)

theorem State.eddyBegin_still {s0 : State} {s : State} {g : ℕ} (h0 : Still s0 s) :
    Still s0 (State.eddyBegin s g) := by
  unfold State.eddyBegin
  repeat' (first
    | with_reducible assumption | with_reducible apply State.eddyState_still | split)

theorem State.setCvgState_still {s0 : State} {s : State} {g : ℕ} {x : ℕ} (h0 : Still s0 s) :
    Still s0 (State.setCvgState s g x) := by
  unfold State.setCvgState
  repeat' (first
    | with_reducible assumption | with_reducible apply State.setF_still)

theorem State.eddyRedo_still {s0 : State} {s : State} {g : ℕ} (h0 : Still s0 s) :
    Still s0 (State.eddyRedo s g) := by
  unfold State.eddyRedo
  repeat' (first
    | with_reducible assumption
    | (extract_lets +onlyGivenNames x1; have hx1 : Still s0 x1 := ?_; clear_value x1; revert x1; intro _ _; rotate_left; unfold x1; clear x1)
    | (extract_lets +onlyGivenNames x1; (fail_if_success have _f := fun a => x1 a); clear_value x1; revert x1; intro _)
    | with_reducible apply State.setGroup_still | with_reducible apply State.setF_still
    | with_reducible apply State.eddyState_still | with_reducible apply State.eddyBegin_still | split)

theorem State.eddyApplied_still {s0 : State} {s : State} {g : ℕ} (h0 : Still s0 s) :
    Still s0 (State.eddyApplied s g) := by
  unfold State.eddyApplied
  repeat' (first
    | with_reducible assumption
    | (extract_lets +onlyGivenNames x1; (fail_if_success have _f := fun a => x1 a); clear_value x1; revert x1; intro _)
    | with_reducible apply State.setGroup_still | with_reducible apply State.eddyState_still
    | with_reducible apply State.eddyBegin_still | split)

theorem State.eddyRunEnd_still {s0 : State} {s : State} {g : ℕ} {pass : Bool} {trims : List ℤ} (h0 : Still s0 s) :
    Still s0 (State.eddyRunEnd s g pass trims) := by
  unfold State.eddyRunEnd
  repeat' (first
    | with_reducible assumption
    | (extract_lets +onlyGivenNames x1; have hx1 : Still s0 x1 := ?_; clear_value x1; revert x1; intro _ _; rotate_left; unfold x1; clear x1)
    | (extract_lets +onlyGivenNames x1; (fail_if_success have _f := fun a => x1 a); clear_value x1; revert x1; intro _)
    | with_reducible apply State.healthLog_still | with_reducible apply State.setGroup_still
    | with_reducible apply State.setF_still | with_reducible apply State.eddyState_still | split)

theorem State.sendSeq_still {s0 : State} {s : State} {g : ℕ} {y0 : List Conv} (h0 : Still s0 s) :
    Still s0 (State.sendSeq s g y0) := by
  induction y0 generalizing s g with
  | nil =>
    unfold State.sendSeq
    repeat' (first
      | with_reducible assumption
      | (extract_lets +onlyGivenNames x1; have hx1 : Still s0 x1 := ?_; clear_value x1; revert x1; intro _ _; rotate_left; unfold x1; clear x1)
      | (extract_lets +onlyGivenNames x1; (fail_if_success have _f := fun a => x1 a); clear_value x1; revert x1; intro _)
      | with_reducible apply State.setGroup_still | with_reducible apply State.setCvgState_still | split)
  | cons _ _ ih =>
    unfold State.sendSeq
    repeat' (first
      | with_reducible assumption | with_reducible apply ih
      | (extract_lets +onlyGivenNames x1; (fail_if_success have _f := fun a => x1 a); clear_value x1; revert x1; intro _)
      | with_reducible apply State.setGroup_still | with_reducible apply State.offer_still | split)

theorem State.cvgStart_still {s0 : State} {s : State} {g : ℕ} (h0 : Still s0 s) :
    Still s0 (State.cvgStart s g) := by
  unfold State.cvgStart
  repeat' (first
    | with_reducible assumption | with_reducible apply State.setF_still | with_reducible apply State.setCvgState_still
    | with_reducible apply State.flag_still | with_reducible apply State.cicRestart_still | split)

theorem State.cvgStart_kept {s0 : State} {s : State} {g : ℕ} (h0 : Kept s0 s) :
    Kept s0 (State.cvgStart s g) :=
  h0.still (State.cvgStart_still (Still.refl _))

theorem State.dropAborted_still {s0 : State} {s : State} {g : ℕ} (h0 : Still s0 s) :
    Still s0 (State.dropAborted s g) := by
  unfold State.dropAborted
  repeat' (first
    | with_reducible assumption | with_reducible apply State.sendSeq_still)

theorem State.cvgClockLost_still {s0 : State} {s : State} {q : ℕ} (h0 : Still s0 s) :
    Still s0 (State.cvgClockLost s q) := by
  unfold State.cvgClockLost
  repeat' (first
    | with_reducible assumption | intro _ | with_reducible apply State.setGroup_still
    | with_reducible apply State.urgSync_still | with_reducible apply State.sendSeq_still
    | with_reducible apply State.setCvgState_still | dsimp only | with_reducible apply Still.foldl)

theorem State.cvgLate_still {s0 : State} {s : State} {g : ℕ} (h0 : Still s0 s) :
    Still s0 (State.cvgLate s g) := by
  unfold State.cvgLate
  repeat' (first
    | with_reducible assumption | with_reducible apply State.inc_still | with_reducible apply State.flag_still)

theorem State.urgStart_still {s0 : State} {s : State} {g : ℕ} {u : ℕ} {late : Bool} (h0 : Still s0 s) :
    Still s0 (State.urgStart s g u late) := by
  unfold State.urgStart
  repeat' (first
    | with_reducible assumption
    | (extract_lets +onlyGivenNames x1; have hx1 : Still s0 x1 := ?_; clear_value x1; revert x1; intro _ _; rotate_left; unfold x1; clear x1)
    | (extract_lets +onlyGivenNames x1; (fail_if_success have _f := fun a => x1 a); clear_value x1; revert x1; intro _)
    | with_reducible apply State.setGroup_still | with_reducible apply State.beginConv_still
    | with_reducible apply State.urgSync_still | with_reducible apply State.dropAborted_still
    | with_reducible apply State.inc_still | split)

theorem State.cvgFence_still {s0 : State} {s : State} {g : ℕ} (h0 : Still s0 s) :
    Still s0 (State.cvgFence s g) := by
  unfold State.cvgFence
  repeat' (first
    | with_reducible assumption
    | (extract_lets +onlyGivenNames x1; (fail_if_success have _f := fun a => x1 a); clear_value x1; revert x1; intro _)
    | with_reducible apply State.setGroup_still | with_reducible apply State.incBy_still
    | with_reducible apply State.discardOps_still)

theorem State.seqResult_still {s0 : State} {s : State} {g : ℕ} {c : Conv} {res : Option CWord} (h0 : Still s0 s) :
    Still s0 (State.seqResult s g c res) := by
  unfold State.seqResult
  repeat' (first
    | with_reducible assumption
    | (extract_lets +onlyGivenNames x1; (fail_if_success have _f := fun a => x1 a); clear_value x1; revert x1; intro _)
    | with_reducible apply State.setGroup_still | with_reducible apply State.sendSeq_still
    | with_reducible apply State.urgNext_still)

theorem execCvgPowerUpDone_still {s0 : State} {g : Fin 64} {s : State} (h0 : Still s0 s) :
    NextAll (Still s0) (execCvgPowerUpDone g s) := by
  unfold execCvgPowerUpDone
  repeat' (first
    | with_reducible assumption
    | (extract_lets +onlyGivenNames x1; (fail_if_success have _f := fun a => x1 a); clear_value x1; revert x1; intro _)
    | with_reducible apply Still.answers | with_reducible apply State.setGroup_still
    | with_reducible apply State.setCvgState_still | with_reducible apply State.eddyBegin_still | split)

theorem State.eddyBoundary_still {s0 : State} {s : State} {g : ℕ} (h0 : Still s0 s) :
    Still s0 (State.eddyBoundary s g) := by
  unfold State.eddyBoundary
  repeat' (first
    | with_reducible assumption
    | (extract_lets +onlyGivenNames x1; (fail_if_success have _f := fun a => x1 a); clear_value x1; revert x1; intro _)
    | with_reducible apply State.setGroup_still | with_reducible apply State.tstAside_still | split)

theorem State.urgTrigger_still {s0 : State} {s : State} {g : ℕ} {u : ℕ} {late : Bool} (h0 : Still s0 s) :
    Still s0 (State.urgTrigger s g u late) := by
  unfold State.urgTrigger
  repeat' (first
    | with_reducible assumption
    | (extract_lets +onlyGivenNames x1; (fail_if_success have _f := fun a => x1 a); clear_value x1; revert x1; intro _)
    | with_reducible apply State.urgStart_still | with_reducible apply State.inc_still
    | with_reducible apply State.flag_still | split)

theorem State.cvgTrig_still {s0 : State} {s : State} {g : ℕ} {a : ℕ} {late : Bool} (h0 : Still s0 s) :
    Still s0 (State.cvgTrig s g a late) := by
  unfold State.cvgTrig
  repeat' (first
    | with_reducible assumption | with_reducible apply State.urgTrigger_still | with_reducible apply State.flag_still
    | split)

theorem State.cvgTrig_kept {s0 : State} {s : State} {g : ℕ} {a : ℕ} {late : Bool} (h0 : Kept s0 s) :
    Kept s0 (State.cvgTrig s g a late) :=
  h0.still (State.cvgTrig_still (Still.refl _))

theorem State.abortSeq_still {s0 : State} {s : State} {g : ℕ} (h0 : Still s0 s) :
    Still s0 (State.abortSeq s g) := by
  unfold State.abortSeq
  repeat' (first
    | with_reducible assumption | intro _
    | (extract_lets +onlyGivenNames x1; have hx1 : Still s0 x1 := ?_; clear_value x1; revert x1; intro _ _; rotate_left; unfold x1; clear x1)
    | (extract_lets +onlyGivenNames x1; (fail_if_success have _f := fun a => x1 a); clear_value x1; revert x1; intro _)
    | with_reducible apply State.setGroup_still | with_reducible apply State.offer_still
    | with_reducible apply State.incBy_still | split | with_reducible apply Still.foldl)

theorem execWeirUrgentTrigger_still {s0 : State} {p : Fin 512} {low : Bool} {s : State} (h0 : Still s0 s) :
    NextAll (Still s0) (execWeirUrgentTrigger p low s) := by
  unfold execWeirUrgentTrigger
  repeat' (first
    | with_reducible assumption | intro _
    | (extract_lets +onlyGivenNames x1; (fail_if_success have _f := fun a => x1 a); clear_value x1; revert x1; intro _)
    | with_reducible apply Still.answers | with_reducible apply State.urgTrigger_still | split | dsimp only
    | with_reducible apply Still.foldl)

theorem State.cvgStop_still {s0 : State} {s : State} {g : ℕ} (h0 : Still s0 s) :
    Still s0 (State.cvgStop s g) := by
  unfold State.cvgStop
  repeat' (first
    | with_reducible assumption | with_reducible apply State.dropAborted_still
    | with_reducible apply State.setCvgState_still | split)

theorem State.cvgStop_kept {s0 : State} {s : State} {g : ℕ} (h0 : Kept s0 s) :
    Kept s0 (State.cvgStop s g) :=
  h0.still (State.cvgStop_still (Still.refl _))

theorem State.refnsCount_still {s0 : State} {s : State} {g : ℕ} {fl : Word} (h0 : Still s0 s) :
    Still s0 (State.refnsCount s g fl) := by
  unfold State.refnsCount
  repeat' (first
    | with_reducible assumption | with_reducible apply State.inc_still | with_reducible apply State.flag_still | split)

theorem State.eddySwap_still {s0 : State} {s : State} {g : ℕ} (h0 : Still s0 s) :
    Still s0 (State.eddySwap s g) := by
  unfold State.eddySwap
  repeat' (first
    | with_reducible assumption
    | (extract_lets +onlyGivenNames x1; have hx1 : Still s0 x1 := ?_; clear_value x1; revert x1; intro _ _; rotate_left; unfold x1; clear x1)
    | (extract_lets +onlyGivenNames x1; (fail_if_success have _f := fun a => x1 a); clear_value x1; revert x1; intro _)
    | with_reducible apply State.setGroup_still | with_reducible apply State.setF_still
    | with_reducible apply State.inc_still | with_reducible apply State.eddyBegin_still | split)

theorem State.seqEnd_still {s0 : State} {s : State} {g : ℕ} {c : Conv} {code : BitVec 16} {fl : Word} {w : Word}
    {st : Option Stamp} (h0 : Still s0 s) : Still s0 (State.seqEnd s g c code fl w st) := by
  unfold State.seqEnd
  exact State.seqResult_still (State.seqFilter_still (State.poisonUsed_still (State.put_still (State.refnsCount_still h0))))

theorem execCvgParityError_still {s0 : State} {g : Fin 64} {e : Fin 20} {inTable : Bool} {s : State} (h0 : Still s0 s)
    :
    NextAll (Still s0) (execCvgParityError g e inTable s) := by
  unfold execCvgParityError
  repeat' (first
    | with_reducible assumption
    | (extract_lets +onlyGivenNames x1; (fail_if_success have _f := fun a => x1 a); clear_value x1; revert x1; intro _)
    | with_reducible apply Still.answers | with_reducible apply State.setGroup_still
    | with_reducible apply State.inc_still | with_reducible apply State.flag_still)

theorem State.cvgApplied_still {s0 : State} {s : State} {g : ℕ} {es : List ℕ} (h0 : Still s0 s) :
    Still s0 (State.cvgApplied s g es) := by
  unfold State.cvgApplied
  repeat' (first
    | with_reducible assumption
    | (extract_lets +onlyGivenNames x1; have hx1 : Still s0 x1 := ?_; clear_value x1; revert x1; intro _ _; rotate_left; unfold x1; clear x1)
    | with_reducible apply State.abortSeq_still | with_reducible apply State.setF_still
    | with_reducible apply State.eddyApplied_still | with_reducible apply State.cicDrop_still
    | with_reducible apply State.setCvgState_still | with_reducible apply State.eddySwap_still
    | with_reducible apply State.eddyBoundary_still | with_reducible apply State.eddyRedo_still | split)

theorem State.armFire_still {s0 : State} {s : State} {g : ℕ} {u : ℕ} (h0 : Still s0 s) :
    Still s0 (State.armFire s g u) := by
  unfold State.armFire
  repeat' (first
    | with_reducible assumption
    | (extract_lets +onlyGivenNames x1; have hx1 : Still s0 x1 := ?_; clear_value x1; revert x1; intro _ _; rotate_left; unfold x1; clear x1)
    | (extract_lets +onlyGivenNames x1; (fail_if_success have _f := fun a => x1 a); clear_value x1; revert x1; intro _)
    | with_reducible apply State.setGroup_still | with_reducible apply State.cvgLate_still
    | with_reducible apply State.inc_still | with_reducible apply State.urgTrigger_still | split)

theorem State.cvgDisable_still {s0 : State} {s : State} {g : ℕ} (h0 : Still s0 s) :
    Still s0 (State.cvgDisable s g) := by
  unfold State.cvgDisable
  repeat' (first
    | with_reducible assumption
    | (extract_lets +onlyGivenNames x1; have hx1 : Still s0 x1 := ?_; clear_value x1; revert x1; intro _ _; rotate_left; unfold x1; clear x1)
    | (extract_lets +onlyGivenNames x1; (fail_if_success have _f := fun a => x1 a); clear_value x1; revert x1; intro _)
    | with_reducible apply State.abortSeq_still | with_reducible apply State.setGroup_still
    | with_reducible apply State.urgSync_still | with_reducible apply State.incBy_still
    | with_reducible apply State.setCvgState_still | with_reducible apply State.eddyState_still | split)

theorem State.cvgDisable_kept {s0 : State} {s : State} {g : ℕ} (h0 : Kept s0 s) :
    Kept s0 (State.cvgDisable s g) :=
  h0.still (State.cvgDisable_still (Still.refl _))

theorem execUrgentAngleTrigger_still {s0 : State} {g : Fin 64} {u : Fin 4} {s : State} (h0 : Still s0 s) :
    NextAll (Still s0) (execUrgentAngleTrigger g u s) := by
  unfold execUrgentAngleTrigger
  repeat' (first
    | with_reducible assumption | intro _ | with_reducible apply Still.answers | with_reducible apply State.armFire_still
    | split | with_reducible apply Still.foldl)

theorem State.urgEnd_still {s0 : State} {s : State} {g : ℕ} {c : Conv} {fl : Word} {w : Word} {st : Option Stamp}
    (h0 : Still s0 s) :
    Still s0 (State.urgEnd s g c fl w st) := by
  unfold State.urgEnd
  repeat' (first
    | with_reducible assumption
    | (extract_lets +onlyGivenNames x1; have hx1 : Still s0 x1 := ?_; clear_value x1; revert x1; intro _ _; rotate_left; unfold x1; clear x1)
    | (extract_lets +onlyGivenNames x1; (fail_if_success have _f := fun a => x1 a); clear_value x1; revert x1; intro _)
    | with_reducible apply State.setGroup_still | with_reducible apply State.offer_still
    | with_reducible apply State.poisonUsed_still | with_reducible apply State.urgNext_still
    | with_reducible apply State.refnsCount_still | split)

theorem State.cvgCmd_still {s0 : State} {s : State} {g : ℕ} {cmd : ℕ} (h0 : Still s0 s) :
    Still s0 (State.cvgCmd s g cmd) := by
  unfold State.cvgCmd
  repeat' (first
    | with_reducible assumption | with_reducible apply State.cvgEnable_still | with_reducible apply State.cvgDisable_still
    | with_reducible apply State.cvgStop_still | with_reducible apply State.cvgStart_still
    | with_reducible apply State.cvgClear_still | split)

theorem State.cvgTrigs_still {s0 : State} {s : State} {g : ℕ} {mask : ℕ} (h0 : Still s0 s) :
    Still s0 (State.cvgTrigs s g mask) := by
  unfold State.cvgTrigs
  repeat' (first
    | with_reducible assumption | intro _ | with_reducible apply State.cvgTrig_still | split
    | with_reducible apply Still.foldl)

theorem State.cvgCtlWrite_still {s0 : State} {s : State} {q : Req} {g : ℕ} {v : Word} (h0 : Still s0 s) :
    Still s0 (State.cvgCtlWrite s q g v) := by
  unfold State.cvgCtlWrite
  repeat' (first
    | with_reducible assumption
    | (extract_lets +onlyGivenNames x1; have hx1 : Still s0 x1 := ?_; clear_value x1; revert x1; intro _ _; rotate_left; unfold x1; clear x1)
    | (extract_lets +onlyGivenNames x1; (fail_if_success have _f := fun a => x1 a); clear_value x1; revert x1; intro _)
    | with_reducible apply State.cvgTrigs_still | with_reducible apply State.rsvd_still
    | with_reducible apply State.cvgCmd_still | split)

theorem execEddySwap_still {s0 : State} {g : Fin 64} {s : State} (h0 : Still s0 s) :
    NextAll (Still s0) (execEddySwap g s) := by
  unfold execEddySwap
  repeat' (first
    | with_reducible assumption | with_reducible apply Still.answers | with_reducible apply State.eddySwap_still)

theorem State.convEnd_still {s0 : State} {s : State} {g : ℕ} {c : Conv} {lev : ℤ} {dev : ℤ} {clip : Bool}
    (h0 : Still s0 s) :
    Still s0 (State.convEnd s g c lev dev clip) := by
  unfold State.convEnd
  repeat' (first
    | with_reducible assumption
    | (extract_lets +onlyGivenNames x1; (fail_if_success have _f := fun a => x1 a); clear_value x1; revert x1; intro _)
    | with_reducible apply State.seqEnd_still | with_reducible apply State.urgEnd_still | split)

theorem execCvgDisable_still {s0 : State} {q : Req} {g : Fin 64} {s : State} (h0 : Still s0 s) :
    NextAll (Still s0) (execCvgDisable q g s) := by
  unfold execCvgDisable
  repeat' (first
    | with_reducible assumption | intro _ | with_reducible apply Still.answers
    | with_reducible apply State.cvgCtlWrite_still | with_reducible apply State.guardWrite_still)

theorem State.cvgUcmd_still {s0 : State} {s : State} {g : ℕ} {code : ℕ} {arg : ℕ} {late : Bool} (h0 : Still s0 s) :
    OptAll (Still s0) (State.cvgUcmd s g code arg late) := by
  unfold State.cvgUcmd
  repeat' (first
    | with_reducible assumption | with_reducible apply Still.none | with_reducible apply Still.some
    | with_reducible apply State.cvgEnable_still | with_reducible apply State.cvgDisable_still
    | with_reducible apply State.cvgStop_still | with_reducible apply State.cvgTrig_still
    | with_reducible apply State.cvgStart_still | with_reducible apply State.cvgClear_still | split)

theorem State.cvgUcmd_kept {s0 : State} {s : State} {g : ℕ} {code : ℕ} {arg : ℕ} {late : Bool} (h0 : Kept s0 s) :
    OptAll (Kept s0) (State.cvgUcmd s g code arg late) := by
  unfold State.cvgUcmd
  repeat' (first
    | with_reducible assumption | with_reducible apply Kept.none | with_reducible apply Kept.some
    | with_reducible apply State.cvgEnable_kept | with_reducible apply State.cvgDisable_kept
    | with_reducible apply State.cvgStop_kept | with_reducible apply State.cvgTrig_kept
    | with_reducible apply State.cvgStart_kept | with_reducible apply State.cvgClear_kept | split)

theorem execCvgStop_still {s0 : State} {q : Req} {g : Fin 64} {s : State} (h0 : Still s0 s) :
    NextAll (Still s0) (execCvgStop q g s) := by
  unfold execCvgStop
  repeat' (first
    | with_reducible assumption | intro _ | with_reducible apply Still.answers
    | with_reducible apply State.cvgCtlWrite_still | with_reducible apply State.guardWrite_still)

theorem execCvgClear_still {s0 : State} {q : Req} {g : Fin 64} {s : State} (h0 : Still s0 s) :
    NextAll (Still s0) (execCvgClear q g s) := by
  unfold execCvgClear
  repeat' (first
    | with_reducible assumption | intro _ | with_reducible apply Still.answers
    | with_reducible apply State.cvgCtlWrite_still | with_reducible apply State.guardWrite_still)

theorem execCvgEnable_still {s0 : State} {q : Req} {g : Fin 64} {s : State} (h0 : Still s0 s) :
    NextAll (Still s0) (execCvgEnable q g s) := by
  unfold execCvgEnable
  repeat' (first
    | with_reducible assumption | intro _ | with_reducible apply Still.answers
    | with_reducible apply State.cvgCtlWrite_still | with_reducible apply State.guardWrite_still)

theorem execCvgStart_still {s0 : State} {q : Req} {g : Fin 64} {s : State} (h0 : Still s0 s) :
    NextAll (Still s0) (execCvgStart q g s) := by
  unfold execCvgStart
  repeat' (first
    | with_reducible assumption | intro _ | with_reducible apply Still.answers
    | with_reducible apply State.cvgCtlWrite_still | with_reducible apply State.guardWrite_still)

theorem execCvgTrig_still {s0 : State} {q : Req} {g : Fin 64} {mask : BitVec 4} {s : State} (h0 : Still s0 s) :
    NextAll (Still s0) (execCvgTrig q g mask s) := by
  unfold execCvgTrig
  repeat' (first
    | with_reducible assumption | intro _ | with_reducible apply Still.answers
    | with_reducible apply State.cvgCtlWrite_still | with_reducible apply State.guardWrite_still)

theorem execConversionEnd_still {s0 : State} {g : Fin 64} {slice : Fin 5} {input : ConvInput} {clip : Bool}
    {s : State} (h0 : Still s0 s) :
    NextAll (Still s0) (execConversionEnd g slice input clip s) := by
  unfold execConversionEnd
  repeat' (first
    | with_reducible assumption
    | (extract_lets +onlyGivenNames x1; (fail_if_success have _f := fun a => x1 a); clear_value x1; revert x1; intro _)
    | with_reducible apply Still.answers | with_reducible apply State.convEnd_still | split)

end Sys2Proof.Machine
end

