-- ==== Sys2Proof/Laws/FrameEcc.lean ====
section
/-! SUPPORT. What each function of Machine/Ecc.lean, Machine/Digest.lean, Machine/Drive.lean, Machine/Filter.lean leaves alone: `Still`, the queue of commands and
every byte of memory; `Kept`, the queue, and the canonical form of memory. -/

set_option linter.unreachableTactic false
set_option linter.unusedTactic false
set_option linter.unusedVariables false
set_option linter.tactic.unusedName false

namespace Sys2Proof.Machine

theorem State.putBytes_kept {s0 : State} {s : State} {a : ℕ} {bs : List Byte} (h0 : Kept s0 s) :
    Kept s0 (State.putBytes s a bs) := by
  refine ⟨h0.pending, fun c => ?_⟩
  unfold State.MemCanon
  rw [State.putBytes_bytes]
  exact Memory.wf_run bs s.mem.bytes a (h0.canon c)

theorem State.setCodeErr_still {s0 : State} {s : State} {k : ℕ} {e : CodeErr} (h0 : Still s0 s) :
    Still s0 (State.setCodeErr s k e) := by
  unfold State.setCodeErr
  repeat' (first
    | with_reducible assumption | (extract_lets +onlyGivenNames x1; have _m : Mem := x1; clear _m; unfold x1; clear x1)
    | (rw [State.lit_eq]; with_reducible refine Still.mk' ?_ rfl))

theorem State.setCodeErr_kept {s0 : State} {s : State} {k : ℕ} {e : CodeErr} (h0 : Kept s0 s) :
    Kept s0 (State.setCodeErr s k e) :=
  h0.still (State.setCodeErr_still (Still.refl _))

theorem State.freeBytes_still {s0 : State} {s : State} {n : ℕ} (h0 : Still s0 s) :
    Still s0 (State.freeBytes s n).2 := by
  unfold State.freeBytes
  repeat' (first
    | with_reducible assumption | with_reducible apply State.free_still)

theorem State.freeBytes_kept {s0 : State} {s : State} {n : ℕ} (h0 : Kept s0 s) :
    Kept s0 (State.freeBytes s n).2 :=
  h0.still (State.freeBytes_still (Still.refl _))

theorem State.flipWrite_still {s0 : State} {s : State} {mid : ℕ} {addr : ℕ} {base : ℕ} (h0 : Still s0 s) :
    Still s0 (State.flipWrite s mid addr base).2 := by
  unfold State.flipWrite
  repeat' (first
    | with_reducible assumption
    | (extract_lets +onlyGivenNames x1; have hx1 : Still s0 x1 := ?_; clear_value x1; revert x1; intro _ _; rotate_left; unfold x1; clear x1)
    | (extract_lets +onlyGivenNames x1; (fail_if_success have _f := fun a => x1 a); clear_value x1; revert x1; intro _)
    | with_reducible apply State.setF_still | with_reducible apply State.put_still
    | with_reducible apply State.flag_still | split)

theorem State.flipWrite_kept {s0 : State} {s : State} {mid : ℕ} {addr : ℕ} {base : ℕ} (h0 : Kept s0 s) :
    Kept s0 (State.flipWrite s mid addr base).2 :=
  h0.still (State.flipWrite_still (Still.refl _))

theorem State.bankTested_kept {s0 : State} {s : State} {t : ℕ} {b : ℕ} (h0 : Kept s0 s) :
    Kept s0 (State.bankTested s t b) := by
  unfold State.bankTested
  repeat' (first
    | with_reducible assumption | with_reducible apply State.freeBytes_kept | with_reducible apply State.putBytes_kept)

theorem State.eccSync_still {s0 : State} {s : State} (h0 : Still s0 s) :
    Still s0 (State.eccSync s) := by
  unfold State.eccSync
  repeat' (first
    | with_reducible assumption
    | (extract_lets +onlyGivenNames x1; have hx1 : Still s0 x1 := ?_; clear_value x1; revert x1; intro _ _; rotate_left; unfold x1; clear x1)
    | with_reducible apply State.setF_still | with_reducible apply State.put_still | split)

theorem State.eccError_still {s0 : State} {s : State} {ue : Bool} {mid : ℕ} {req : ℕ} {addr : ℕ} (h0 : Still s0 s) :
    Still s0 (State.eccError s ue mid req addr) := by
  unfold State.eccError
  repeat' (first
    | with_reducible assumption
    | (extract_lets +onlyGivenNames x1; have hx1 : Still s0 x1 := ?_; clear_value x1; revert x1; intro _ _; rotate_left; unfold x1; clear x1)
    | (extract_lets +onlyGivenNames x1; have _m : Mem := x1; clear _m; unfold x1; clear x1)
    | (extract_lets +onlyGivenNames x1; (fail_if_success have _f := fun a => x1 a); clear_value x1; revert x1; intro _)
    | with_reducible apply State.free_still | with_reducible apply State.eccSync_still
    | with_reducible apply State.inc_still | with_reducible apply State.flag_still | split
    | with_reducible refine Still.pair ?_ (by assumption)
    | (rw [State.lit_eq]; with_reducible refine Still.mk' ?_ rfl))

theorem State.bankAccess_kept {s0 : State} {s : State} {o : ℕ} {n : ℕ} (h0 : Kept s0 s) :
    Kept s0 (State.bankAccess s o n) := by
  unfold State.bankAccess
  repeat' (first
    | with_reducible assumption
    | (extract_lets +onlyGivenNames x1; (fail_if_success have _f := fun a => x1 a); clear_value x1; revert x1; intro _)
    | with_reducible apply State.tstAside_kept | with_reducible apply State.bankTested_kept | split)

theorem State.codeCheck_still {s0 : State} {s : State} {req : ℕ} {mid : ℕ} {base : ℕ} {written : Bool}
    (h0 : Still s0 s) :
    Still s0 (State.codeCheck s req mid base written).2 := by
  unfold State.codeCheck
  repeat' (first
    | with_reducible assumption
    | (extract_lets +onlyGivenNames x1; (fail_if_success have _f := fun a => x1 a); clear_value x1; revert x1; intro _)
    | with_reducible apply State.eccError_still | with_reducible apply State.free_still | split | dsimp only
    | with_reducible refine Still.pair ?_ (by assumption))

theorem State.codeRead_still {s0 : State} {s : State} {req : ℕ} {mid : ℕ} {base : ℕ} (h0 : Still s0 s) :
    Still s0 (State.codeRead s req mid base).2 := by
  unfold State.codeRead
  repeat' (first
    | with_reducible assumption
    | (extract_lets +onlyGivenNames x1; (fail_if_success have _f := fun a => x1 a); clear_value x1; revert x1; intro _)
    | with_reducible apply State.freeBytes_still | with_reducible apply State.codeCheck_still | split | dsimp only
    | with_reducible refine Still.pair ?_ (by assumption))

theorem State.codeRead_kept {s0 : State} {s : State} {req : ℕ} {mid : ℕ} {base : ℕ} (h0 : Kept s0 s) :
    Kept s0 (State.codeRead s req mid base).2 :=
  h0.still (State.codeRead_still (Still.refl _))

theorem State.memReadIn_still {s0 : State} {s : State} {req : ℕ} {mid : ℕ → ℕ} {a : ℕ} {n : ℕ} (h0 : Still s0 s) :
    Still s0 (State.memReadIn s req mid a n).2 := by
  unfold State.memReadIn
  repeat' (first
    | with_reducible assumption | intro _ | with_reducible apply State.codeRead_still | split | dsimp only
    | with_reducible apply Still.foldlPair | with_reducible refine Still.pair ?_ (by assumption))

theorem State.memReadIn_kept {s0 : State} {s : State} {req : ℕ} {mid : ℕ → ℕ} {a : ℕ} {n : ℕ} (h0 : Kept s0 s) :
    Kept s0 (State.memReadIn s req mid a n).2 :=
  h0.still (State.memReadIn_still (Still.refl _))

theorem State.memRead_kept {s0 : State} {s : State} {req : ℕ} {o : ℕ} {n : ℕ} (h0 : Kept s0 s) :
    Kept s0 (State.memRead s req o n).2 := by
  unfold State.memRead
  repeat' (first
    | with_reducible assumption | with_reducible apply State.memReadIn_kept | with_reducible apply State.bankAccess_kept)

theorem State.codeWrite_kept {s0 : State} {s : State} {req : ℕ} {mid : ℕ} {base : ℕ} {off : ℕ} {bs : List Byte}
    (h0 : Kept s0 s) :
    Kept s0 (State.codeWrite s req mid base off bs).2 := by
  unfold State.codeWrite
  repeat' (first
    | with_reducible assumption
    | (extract_lets +onlyGivenNames x1; (fail_if_success have _f := fun a => x1 a); clear_value x1; revert x1; intro _)
    | with_reducible apply State.flipWrite_kept | with_reducible apply State.setCodeErr_kept
    | with_reducible apply State.codeRead_kept | with_reducible apply State.putBytes_kept | split | dsimp only
    | with_reducible refine Kept.pair ?_ (by assumption))

theorem State.memWriteIn_kept {s0 : State} {s : State} {req : ℕ} {mid : ℕ → ℕ} {a : ℕ} {bs : List Byte}
    (h0 : Kept s0 s) :
    Kept s0 (State.memWriteIn s req mid a bs).2 := by
  unfold State.memWriteIn
  repeat' (first
    | with_reducible assumption | intro _ | with_reducible apply State.codeWrite_kept | dsimp only
    | with_reducible apply Kept.foldlPair)

theorem State.memWrite_kept {s0 : State} {s : State} {req : ℕ} {o : ℕ} {bs : List Byte} (h0 : Kept s0 s) :
    Kept s0 (State.memWrite s req o bs).2 := by
  unfold State.memWrite
  repeat' (first
    | with_reducible assumption | with_reducible apply State.memWriteIn_kept | with_reducible apply State.bankAccess_kept)

theorem State.memWords_kept {s0 : State} {s : State} {req : ℕ} {o : ℕ} {n : ℕ} (h0 : Kept s0 s) :
    Kept s0 (State.memWords s req o n).2 := by
  unfold State.memWords
  repeat' (first
    | with_reducible assumption | with_reducible apply State.memRead_kept | split | dsimp only
    | with_reducible refine Kept.pair ?_ (by assumption))

theorem State.digest_still {s0 : State} {s : State} {st : Option Stamp} {l : List Byte} (h0 : Still s0 s) :
    Still s0 (State.digest s st l) := by
  unfold State.digest
  repeat' (first
    | with_reducible assumption
    | (extract_lets +onlyGivenNames x1; (fail_if_success have _f := fun a => x1 a); clear_value x1; revert x1; intro _)
    | split | (rw [State.lit_eq]; with_reducible refine Still.mk' ?_ rfl))

theorem State.digCmd_still {s0 : State} {s : State} {st : Option Stamp} {uid : ℕ} {op : ℕ} {arg : ℕ} (h0 : Still s0 s)
    :
    Still s0 (State.digCmd s st uid op arg) := by
  unfold State.digCmd
  repeat' (first
    | with_reducible assumption | with_reducible apply State.digest_still)

theorem State.digCmd_kept {s0 : State} {s : State} {st : Option Stamp} {uid : ℕ} {op : ℕ} {arg : ℕ} (h0 : Kept s0 s) :
    Kept s0 (State.digCmd s st uid op arg) :=
  h0.still (State.digCmd_still (Still.refl _))

theorem State.digWrite_still {s0 : State} {s : State} {st : Option Stamp} {uid : ℕ} {off : ℕ} {v : Word}
    (h0 : Still s0 s) :
    Still s0 (State.digWrite s st uid off v) := by
  unfold State.digWrite
  repeat' (first
    | with_reducible assumption | with_reducible apply State.digest_still)

theorem State.digWrite_kept {s0 : State} {s : State} {st : Option Stamp} {uid : ℕ} {off : ℕ} {v : Word}
    (h0 : Kept s0 s) :
    Kept s0 (State.digWrite s st uid off v) :=
  h0.still (State.digWrite_still (Still.refl _))

theorem State.digStart'_still {s0 : State} {s : State} {n : ℕ} {prof : ℕ} {st : Option Stamp} (h0 : Still s0 s) :
    Still s0 (State.digStart' s n prof st) := by
  unfold State.digStart'
  repeat' (first
    | with_reducible assumption | with_reducible apply State.digest_still)

theorem State.digPins_still {s0 : State} {s : State} {st : Option Stamp} {g : ℕ} {mask : ℕ} {data : ℕ}
    (h0 : Still s0 s) :
    Still s0 (State.digPins s st g mask data) := by
  unfold State.digPins
  repeat' (first
    | with_reducible assumption | with_reducible apply State.digest_still)

theorem State.digEpoch_still {s0 : State} {s : State} {gen : ℕ} (h0 : Still s0 s) :
    Still s0 (State.digEpoch s gen) := by
  unfold State.digEpoch
  repeat' (first
    | with_reducible assumption | with_reducible apply State.digest_still)

theorem State.setPulse_still {s0 : State} {s : State} {n : ℕ} {p : Pulse} (h0 : Still s0 s) :
    Still s0 (State.setPulse s n p) := by
  unfold State.setPulse
  repeat' (first
    | with_reducible assumption | (rw [State.lit_eq]; with_reducible refine Still.mk' ?_ rfl))

theorem State.budgetTake_still {s0 : State} {s : State} {t : ℕ} (h0 : Still s0 s) :
    Still s0 (State.budgetTake s t) := by
  unfold State.budgetTake
  repeat' (first
    | with_reducible assumption
    | (extract_lets +onlyGivenNames x1; (fail_if_success have _f := fun a => x1 a); clear_value x1; revert x1; intro _)
    | (rw [State.lit_eq]; with_reducible refine Still.mk' ?_ rfl))

theorem State.setLearn_still {s0 : State} {s : State} {e : ℕ} {x : Learn} (h0 : Still s0 s) :
    Still s0 (State.setLearn s e x) := by
  unfold State.setLearn
  repeat' (first
    | with_reducible assumption | (rw [State.lit_eq]; with_reducible refine Still.mk' ?_ rfl))

theorem State.setLearn_kept {s0 : State} {s : State} {e : ℕ} {x : Learn} (h0 : Kept s0 s) :
    Kept s0 (State.setLearn s e x) :=
  h0.still (State.setLearn_still (Still.refl _))

theorem State.tripWindows_still {s0 : State} {s : State} {n : ℕ} (h0 : Still s0 s) :
    Still s0 (State.tripWindows s n) := by
  unfold State.tripWindows
  repeat' (first
    | with_reducible assumption
    | (extract_lets +onlyGivenNames x1; (fail_if_success have _f := fun a => x1 a); clear_value x1; revert x1; intro _)
    | with_reducible apply State.setLearn_still | with_reducible apply State.setPulse_still | split)

theorem State.onTimeFell_still {s0 : State} {s : State} {n : ℕ} {tripm : ℕ} {byTrip : Bool} (h0 : Still s0 s) :
    Still s0 (State.onTimeFell s n tripm byTrip) := by
  unfold State.onTimeFell
  repeat' (first
    | with_reducible assumption
    | (extract_lets +onlyGivenNames x1; (fail_if_success have _f := fun a => x1 a); clear_value x1; revert x1; intro _)
    | with_reducible apply State.setPulse_still)

theorem State.setPair_still {s0 : State} {s : State} {p : ℕ} {x : Pair} (h0 : Still s0 s) :
    Still s0 (State.setPair s p x) := by
  unfold State.setPair
  repeat' (first
    | with_reducible assumption | (rw [State.lit_eq]; with_reducible refine Still.mk' ?_ rfl))

theorem State.shotRecord_still {s0 : State} {s : State} {n : ℕ} {late : ℕ} (h0 : Still s0 s) :
    Still s0 (State.shotRecord s n late) := by
  unfold State.shotRecord
  repeat' (first
    | with_reducible assumption
    | (extract_lets +onlyGivenNames x1; (fail_if_success have _f := fun a => x1 a); clear_value x1; revert x1; intro _)
    | with_reducible apply State.put_still)

theorem State.tripRecord_still {s0 : State} {s : State} {n : ℕ} {k : ℕ} {low : Bool} {atStart : Bool}
    (h0 : Still s0 s) :
    Still s0 (State.tripRecord s n k low atStart) := by
  unfold State.tripRecord
  repeat' (first
    | with_reducible assumption
    | (extract_lets +onlyGivenNames x1; (fail_if_success have _f := fun a => x1 a); clear_value x1; revert x1; intro _)
    | with_reducible apply State.put_still | split)

theorem State.pairSync_still {s0 : State} {s : State} {p : ℕ} (h0 : Still s0 s) :
    Still s0 (State.pairSync s p) := by
  unfold State.pairSync
  repeat' (first
    | with_reducible assumption
    | (extract_lets +onlyGivenNames x1; (fail_if_success have _f := fun a => x1 a); clear_value x1; revert x1; intro _)
    | with_reducible apply State.setF_still)

theorem State.pairSync_kept {s0 : State} {s : State} {p : ℕ} (h0 : Kept s0 s) :
    Kept s0 (State.pairSync s p) :=
  h0.still (State.pairSync_still (Still.refl _))

theorem State.pairEval_still {s0 : State} {s : State} {p : ℕ} (h0 : Still s0 s) :
    Still s0 (State.pairEval s p) := by
  unfold State.pairEval
  repeat' (first
    | with_reducible assumption
    | (extract_lets +onlyGivenNames x1; (fail_if_success have _f := fun a => x1 a); clear_value x1; revert x1; intro _)
    | with_reducible apply State.setPair_still)

theorem State.pairEval_kept {s0 : State} {s : State} {p : ℕ} (h0 : Kept s0 s) :
    Kept s0 (State.pairEval s p) :=
  h0.still (State.pairEval_still (Still.refl _))

theorem State.blankEdge_still {s0 : State} {s : State} {n : ℕ} {rise : Bool} (h0 : Still s0 s) :
    Still s0 (State.blankEdge s n rise) := by
  unfold State.blankEdge
  repeat' (first
    | with_reducible assumption | intro _
    | (extract_lets +onlyGivenNames x1; (fail_if_success have _f := fun a => x1 a); clear_value x1; revert x1; intro _)
    | with_reducible apply State.pairSync_still | with_reducible apply State.setPair_still | split | dsimp only
    | with_reducible apply Still.foldl)

theorem State.learnSample_still {s0 : State} {s : State} {ch : ℕ} {w : CWord} (h0 : Still s0 s) :
    Still s0 (State.learnSample s ch w) := by
  unfold State.learnSample
  repeat' (first
    | with_reducible assumption
    | (extract_lets +onlyGivenNames x1; (fail_if_success have _f := fun a => x1 a); clear_value x1; revert x1; intro _)
    | with_reducible apply State.setLearn_still | with_reducible apply State.setPulse_still
    | with_reducible apply State.flag_still | split | dsimp only)

theorem State.drvSync_still {s0 : State} {s : State} {n : ℕ} (h0 : Still s0 s) :
    Still s0 (State.drvSync s n) := by
  unfold State.drvSync
  repeat' (first
    | with_reducible assumption | with_reducible apply State.setF_still | with_reducible apply State.setPulse_still
    | split)

theorem State.endShot_still {s0 : State} {s : State} {n : ℕ} (h0 : Still s0 s) :
    Still s0 (State.endShot s n) := by
  unfold State.endShot
  repeat' (first
    | with_reducible assumption
    | (extract_lets +onlyGivenNames x1; have hx1 : Still s0 x1 := ?_; clear_value x1; revert x1; intro _ _; rotate_left; unfold x1; clear x1)
    | (extract_lets +onlyGivenNames x1; (fail_if_success have _f := fun a => x1 a); clear_value x1; revert x1; intro _)
    | with_reducible apply State.setPulse_still | with_reducible apply State.drvSync_still
    | with_reducible apply State.blankEdge_still | with_reducible apply State.gateDown_still | split)

theorem State.fireDrv_still {s0 : State} {s : State} {n : ℕ} {arg : ℕ} {st : Option Stamp} (h0 : Still s0 s) :
    Still s0 (State.fireDrv s n arg st) := by
  unfold State.fireDrv
  repeat' (first
    | with_reducible assumption
    | (extract_lets +onlyGivenNames x1; have hx1 : Still s0 x1 := ?_; clear_value x1; revert x1; intro _ _; rotate_left; unfold x1; clear x1)
    | (extract_lets +onlyGivenNames x1; (fail_if_success have _f := fun a => x1 a); clear_value x1; revert x1; intro _)
    | with_reducible apply State.setPulse_still | with_reducible apply State.inc_still
    | with_reducible apply State.flag_still | with_reducible apply State.digStart'_still | split)

theorem State.fireDrv_kept {s0 : State} {s : State} {n : ℕ} {arg : ℕ} {st : Option Stamp} (h0 : Kept s0 s) :
    Kept s0 (State.fireDrv s n arg st) :=
  h0.still (State.fireDrv_still (Still.refl _))

theorem State.beginOn_still {s0 : State} {s : State} {n : ℕ} {x : Shot} {t : ℕ} (h0 : Still s0 s) :
    Still s0 (State.beginOn s n x t) := by
  unfold State.beginOn
  repeat' (first
    | with_reducible assumption | with_reducible apply State.setPulse_still | with_reducible apply State.drvSync_still
    | with_reducible apply State.blankEdge_still | split | dsimp only)

theorem State.enableDrv_still {s0 : State} {s : State} {n : ℕ} (h0 : Still s0 s) :
    Still s0 (State.enableDrv s n) := by
  unfold State.enableDrv
  repeat' (first
    | with_reducible assumption | with_reducible apply State.setF_still | with_reducible apply State.drvSync_still)

theorem State.enableDrv_kept {s0 : State} {s : State} {n : ℕ} (h0 : Kept s0 s) :
    Kept s0 (State.enableDrv s n) :=
  h0.still (State.enableDrv_still (Still.refl _))

theorem State.startLate_still {s0 : State} {s : State} {n : ℕ} {late : ℕ} {wasPending : Bool} {stamped : Bool}
    (h0 : Still s0 s) :
    Still s0 (State.startLate s n late wasPending stamped) := by
  unfold State.startLate
  repeat' (first
    | with_reducible assumption | with_reducible apply State.inc_still | with_reducible apply State.flag_still | split)

theorem State.drvHiz_still {s0 : State} {s : State} {n : ℕ} (h0 : Still s0 s) :
    Still s0 (State.drvHiz s n) := by
  unfold State.drvHiz
  repeat' (first
    | with_reducible assumption | with_reducible apply State.endShot_still | with_reducible apply State.drvSync_still
    | split)

theorem State.drvApplied_still {s0 : State} {s : State} {n : ℕ} (h0 : Still s0 s) :
    Still s0 (State.drvApplied s n) := by
  unfold State.drvApplied
  repeat' (first
    | with_reducible assumption | with_reducible apply State.endShot_still | with_reducible apply State.drvSync_still
    | split)

theorem State.openWindow_still {s0 : State} {s : State} {n : ℕ} (h0 : Still s0 s) :
    Still s0 (State.openWindow s n) := by
  unfold State.openWindow
  repeat' (first
    | with_reducible assumption
    | (extract_lets +onlyGivenNames x1; have hx1 : Still s0 x1 := ?_; clear_value x1; revert x1; intro _ _; rotate_left; unfold x1; clear x1)
    | (extract_lets +onlyGivenNames x1; (fail_if_success have _f := fun a => x1 a); clear_value x1; revert x1; intro _)
    | with_reducible apply State.setPulse_still | with_reducible apply State.inc_still | split)

theorem State.tripCount_still {s0 : State} {s : State} {n : ℕ} {k : ℕ} {low : Bool} {atStart : Bool} (h0 : Still s0 s)
    :
    Still s0 (State.tripCount s n k low atStart) := by
  unfold State.tripCount
  repeat' (first
    | with_reducible assumption | with_reducible apply State.tripRecord_still
    | with_reducible apply State.tripWindows_still | with_reducible apply State.inc_still
    | with_reducible apply State.flag_still)

theorem State.discardStarts_still {s0 : State} {s : State} {n : ℕ} (h0 : Still s0 s) :
    Still s0 (State.discardStarts s n) := by
  unfold State.discardStarts
  repeat' (first
    | with_reducible assumption
    | (extract_lets +onlyGivenNames x1; (fail_if_success have _f := fun a => x1 a); clear_value x1; revert x1; intro _)
    | with_reducible apply State.setPulse_still | with_reducible apply State.incBy_still
    | with_reducible apply State.drvSync_still | with_reducible apply State.discardOps_still)

theorem State.drvSafe_still {s0 : State} {s : State} {n : ℕ} (h0 : Still s0 s) :
    Still s0 (State.drvSafe s n) := by
  unfold State.drvSafe
  repeat' (first
    | with_reducible assumption | with_reducible apply State.discardStarts_still
    | with_reducible apply State.endShot_still)

theorem State.skip_still {s0 : State} {s : State} {n : ℕ} {cause : ℕ} (h0 : Still s0 s) :
    Still s0 (State.skip s n cause) := by
  unfold State.skip
  repeat' (first
    | with_reducible assumption | with_reducible apply State.setF_still | with_reducible apply State.inc_still
    | with_reducible apply State.flag_still)

theorem State.shotEdge_still {s0 : State} {s : State} {n : ℕ} (h0 : Still s0 s) :
    Still s0 (State.shotEdge s n) := by
  unfold State.shotEdge
  repeat' (first
    | with_reducible assumption
    | (extract_lets +onlyGivenNames x1; have hx1 : Still s0 x1 := ?_; clear_value x1; revert x1; intro _ _; rotate_left; unfold x1; clear x1)
    | (extract_lets +onlyGivenNames x1; (fail_if_success have _f := fun a => x1 a); clear_value x1; revert x1; intro _)
    | with_reducible apply State.setPulse_still | with_reducible apply State.onTimeFell_still
    | with_reducible apply State.endShot_still | with_reducible apply State.beginOn_still
    | with_reducible apply State.drvSync_still | with_reducible apply State.blankEdge_still | split)

theorem State.disableDrv_still {s0 : State} {s : State} {n : ℕ} (h0 : Still s0 s) :
    Still s0 (State.disableDrv s n) := by
  unfold State.disableDrv
  repeat' (first
    | with_reducible assumption | with_reducible apply State.setF_still | with_reducible apply State.drvSafe_still)

theorem State.disableDrv_kept {s0 : State} {s : State} {n : ℕ} (h0 : Kept s0 s) :
    Kept s0 (State.disableDrv s n) :=
  h0.still (State.disableDrv_still (Still.refl _))

theorem State.drvBorder_still {s0 : State} {s : State} {t : ℕ} {b : Bool} (h0 : Still s0 s) :
    Still s0 (State.drvBorder s t b) := by
  unfold State.drvBorder
  repeat' (first
    | with_reducible assumption | intro _
    | (extract_lets +onlyGivenNames x1; have hx1 : Still s0 x1 := ?_; clear_value x1; revert x1; intro _ _; rotate_left; unfold x1; clear x1)
    | (extract_lets +onlyGivenNames x1; (fail_if_success have _f := fun a => x1 a); clear_value x1; revert x1; intro _)
    | with_reducible apply State.drvSafe_still | split | with_reducible apply Still.foldl
    | (rw [State.lit_eq]; with_reducible refine Still.mk' ?_ rfl))

theorem State.drvBorder_kept {s0 : State} {s : State} {t : ℕ} {b : Bool} (h0 : Kept s0 s) :
    Kept s0 (State.drvBorder s t b) :=
  h0.still (State.drvBorder_still (Still.refl _))

theorem State.latchDrv_still {s0 : State} {s : State} {n : ℕ} {cause : ℕ} (h0 : Still s0 s) :
    Still s0 (State.latchDrv s n cause) := by
  unfold State.latchDrv
  repeat' (first
    | with_reducible assumption
    | (extract_lets +onlyGivenNames x1; have hx1 : Still s0 x1 := ?_; clear_value x1; revert x1; intro _ _; rotate_left; unfold x1; clear x1)
    | with_reducible apply State.setF_still | with_reducible apply State.drvSafe_still
    | with_reducible apply State.flag_still | split)

theorem State.latchDrv_kept {s0 : State} {s : State} {n : ℕ} {cause : ℕ} (h0 : Kept s0 s) :
    Kept s0 (State.latchDrv s n cause) :=
  h0.still (State.latchDrv_still (Still.refl _))

theorem State.tolTest_still {s0 : State} {s : State} {n : ℕ} {st : Start} (h0 : Still s0 s) :
    Still s0 (State.tolTest s n st) := by
  unfold State.tolTest
  repeat' (first
    | with_reducible assumption
    | (extract_lets +onlyGivenNames x1; (fail_if_success have _f := fun a => x1 a); clear_value x1; revert x1; intro _)
    | with_reducible apply State.setPulse_still | with_reducible apply State.drvSync_still
    | with_reducible apply State.skip_still | split)

theorem execShotEdge_still {s0 : State} {n : Fin 512} {s : State} (h0 : Still s0 s) :
    NextAll (Still s0) (execShotEdge n s) := by
  unfold execShotEdge
  repeat' (first
    | with_reducible assumption | with_reducible apply Still.answers | with_reducible apply State.shotEdge_still)

theorem State.trip_still {s0 : State} {s : State} {n : ℕ} {k : ℕ} {low : Bool} (h0 : Still s0 s) :
    Still s0 (State.trip s n k low) := by
  unfold State.trip
  repeat' (first
    | with_reducible assumption
    | (extract_lets +onlyGivenNames x1; have hx1 : Still s0 x1 := ?_; clear_value x1; revert x1; intro _ _; rotate_left; unfold x1; clear x1)
    | (extract_lets +onlyGivenNames x1; (fail_if_success have _f := fun a => x1 a); clear_value x1; revert x1; intro _)
    | with_reducible apply State.tripCount_still | with_reducible apply State.latchDrv_still
    | with_reducible apply State.tripRecord_still | with_reducible apply State.setPulse_still
    | with_reducible apply State.onTimeFell_still | with_reducible apply State.endShot_still
    | with_reducible apply State.drvSync_still | with_reducible apply State.blankEdge_still | split)

theorem State.trip_kept {s0 : State} {s : State} {n : ℕ} {k : ℕ} {low : Bool} (h0 : Kept s0 s) :
    Kept s0 (State.trip s n k low) :=
  h0.still (State.trip_still (Still.refl _))

theorem State.drvCfgWrite_still {s0 : State} {s : State} {q : Req} {n : ℕ} {v : Word} (h0 : Still s0 s) :
    Still s0 (State.drvCfgWrite s q n v) := by
  unfold State.drvCfgWrite
  repeat' (first
    | with_reducible assumption
    | (extract_lets +onlyGivenNames x1; have hx1 : Still s0 x1 := ?_; clear_value x1; revert x1; intro _ _; rotate_left; unfold x1; clear x1)
    | (extract_lets +onlyGivenNames x1; (fail_if_success have _f := fun a => x1 a); clear_value x1; revert x1; intro _)
    | with_reducible apply State.regWrite_still | with_reducible apply State.enableDrv_still
    | with_reducible apply State.disableDrv_still | split)

theorem State.latchDrvs_still {s0 : State} {s : State} {cause : ℕ} (h0 : Still s0 s) :
    Still s0 (State.latchDrvs s cause) := by
  unfold State.latchDrvs
  repeat' (first
    | with_reducible assumption | intro _ | with_reducible apply State.latchDrv_still | with_reducible apply Still.foldl)

theorem State.clearDrv_still {s0 : State} {s : State} {n : ℕ} (h0 : Still s0 s) :
    Still s0 (State.clearDrv s n) := by
  unfold State.clearDrv
  repeat' (first
    | with_reducible assumption
    | (extract_lets +onlyGivenNames x1; have hx1 : Still s0 x1 := ?_; clear_value x1; revert x1; intro _ _; rotate_left; unfold x1; clear x1)
    | with_reducible apply State.latchDrv_still | with_reducible apply State.setF_still
    | with_reducible apply State.drvSync_still | split)

theorem State.clearDrv_kept {s0 : State} {s : State} {n : ℕ} (h0 : Kept s0 s) :
    Kept s0 (State.clearDrv s n) :=
  h0.still (State.clearDrv_still (Still.refl _))

theorem execDrvCfgWrite_still {s0 : State} {q : Req} {n : Fin 512} {v : Word} {s : State} (h0 : Still s0 s) :
    NextAll (Still s0) (execDrvCfgWrite q n v s) := by
  unfold execDrvCfgWrite
  repeat' (first
    | with_reducible assumption | intro _ | with_reducible apply Still.answers
    | with_reducible apply State.drvCfgWrite_still | with_reducible apply State.guardWrite_still)

theorem State.runShot_still {s0 : State} {s : State} {n : ℕ} {x : Shot} (h0 : Still s0 s) :
    Still s0 (State.runShot s n x) := by
  unfold State.runShot
  repeat' (first
    | with_reducible assumption
    | (extract_lets +onlyGivenNames x1; have hx1 : Still s0 x1 := ?_; clear_value x1; revert x1; intro _ _; rotate_left; unfold x1; clear x1)
    | (extract_lets +onlyGivenNames x1; (fail_if_success have _f := fun a => x1 a); clear_value x1; revert x1; intro _)
    | with_reducible apply State.tripCount_still | with_reducible apply State.gateUp_still
    | with_reducible apply State.latchDrv_still | with_reducible apply State.setPulse_still
    | with_reducible apply State.beginOn_still | with_reducible apply State.drvSync_still
    | with_reducible apply State.blankEdge_still | split)

theorem State.pairChange_still {s0 : State} {s : State} {p : ℕ} {f : State → State} (h0 : Still s0 s)
    (h1 : ∀ a0, Still s0 a0 → Still s0 (f a0)) :
    Still s0 (State.pairChange s p f) := by
  unfold State.pairChange
  repeat' (first
    | with_reducible assumption | intro _ | with_reducible apply State.pairEval_still
    | with_reducible apply State.pairSync_still | with_reducible apply State.trip_still | with_reducible apply h1
    | split | dsimp only | with_reducible apply Still.foldl)

theorem State.pairChange_kept {s0 : State} {s : State} {p : ℕ} {f : State → State} (h0 : Kept s0 s)
    (h1 : ∀ a0, Kept s0 a0 → Kept s0 (f a0)) :
    Kept s0 (State.pairChange s p f) := by
  unfold State.pairChange
  repeat' (first
    | with_reducible assumption | intro _ | with_reducible apply State.pairEval_kept
    | with_reducible apply State.pairSync_kept | with_reducible apply State.trip_kept | with_reducible apply h1
    | split | dsimp only | with_reducible apply Kept.foldl)

theorem State.weirApplied_still {s0 : State} {s : State} {p : ℕ} (h0 : Still s0 s) :
    Still s0 (State.weirApplied s p) := by
  unfold State.weirApplied
  repeat' (first
    | with_reducible assumption | intro _
    | (extract_lets +onlyGivenNames x1; (fail_if_success have _f := fun a => x1 a); clear_value x1; revert x1; intro _)
    | with_reducible apply State.pairChange_still | with_reducible apply State.setPair_still)

theorem State.drvCmd_still {s0 : State} {s : State} {n : ℕ} {cmd : ℕ} {prof : ℕ} (h0 : Still s0 s) :
    Still s0 (State.drvCmd s n cmd prof) := by
  unfold State.drvCmd
  repeat' (first
    | with_reducible assumption | with_reducible apply State.latchDrv_still | with_reducible apply State.fireDrv_still
    | with_reducible apply State.clearDrv_still | with_reducible apply State.enableDrv_still
    | with_reducible apply State.disableDrv_still | split)

theorem State.drvUcmd_still {s0 : State} {s : State} {n : ℕ} {code : ℕ} {arg : ℕ} (h0 : Still s0 s) :
    OptAll (Still s0) (State.drvUcmd s n code arg) := by
  unfold State.drvUcmd
  repeat' (first
    | with_reducible assumption | with_reducible apply Still.none | with_reducible apply Still.some
    | with_reducible apply State.latchDrv_still | with_reducible apply State.fireDrv_still
    | with_reducible apply State.clearDrv_still | with_reducible apply State.enableDrv_still
    | with_reducible apply State.disableDrv_still | split)

theorem State.drvUcmd_kept {s0 : State} {s : State} {n : ℕ} {code : ℕ} {arg : ℕ} (h0 : Kept s0 s) :
    OptAll (Kept s0) (State.drvUcmd s n code arg) := by
  unfold State.drvUcmd
  repeat' (first
    | with_reducible assumption | with_reducible apply Kept.none | with_reducible apply Kept.some
    | with_reducible apply State.latchDrv_kept | with_reducible apply State.fireDrv_kept
    | with_reducible apply State.clearDrv_kept | with_reducible apply State.enableDrv_kept
    | with_reducible apply State.disableDrv_kept | split)

theorem State.drvCtlWrite_still {s0 : State} {s : State} {q : Req} {n : ℕ} {v : Word} (h0 : Still s0 s) :
    Still s0 (State.drvCtlWrite s q n v) := by
  unfold State.drvCtlWrite
  repeat' (first
    | with_reducible assumption
    | (extract_lets +onlyGivenNames x1; have hx1 : Still s0 x1 := ?_; clear_value x1; revert x1; intro _ _; rotate_left; unfold x1; clear x1)
    | (extract_lets +onlyGivenNames x1; (fail_if_success have _f := fun a => x1 a); clear_value x1; revert x1; intro _)
    | with_reducible apply State.rsvd_still | with_reducible apply State.drvCmd_still | split)

theorem State.beginShot_still {s0 : State} {s : State} {n : ℕ} {st : Start} {wasPending : Bool} (h0 : Still s0 s) :
    Still s0 (State.beginShot s n st wasPending) := by
  unfold State.beginShot
  repeat' (first
    | with_reducible assumption
    | (extract_lets +onlyGivenNames x1; have hx1 : Still s0 x1 := ?_; clear_value x1; revert x1; intro _ _; rotate_left; unfold x1; clear x1)
    | (extract_lets +onlyGivenNames x1; (fail_if_success have _f := fun a => x1 a); clear_value x1; revert x1; intro _)
    | with_reducible apply State.runShot_still | with_reducible apply State.budgetTake_still
    | with_reducible apply State.openWindow_still | with_reducible apply State.shotRecord_still
    | with_reducible apply State.inc_still | with_reducible apply State.flag_still
    | with_reducible apply State.skip_still | with_reducible apply State.startLate_still | split)

theorem execDrvFire_still {s0 : State} {q : Req} {n : Fin 512} {prof : BitVec 2} {s : State} (h0 : Still s0 s) :
    NextAll (Still s0) (execDrvFire q n prof s) := by
  unfold execDrvFire
  repeat' (first
    | with_reducible assumption | intro _ | with_reducible apply Still.answers
    | with_reducible apply State.drvCtlWrite_still | with_reducible apply State.guardWrite_still)

theorem State.weirUcmd_still {s0 : State} {s : State} {p : ℕ} {code : ℕ} (h0 : Still s0 s) :
    OptAll (Still s0) (State.weirUcmd s p code) := by
  unfold State.weirUcmd
  repeat' (first
    | with_reducible assumption | intro _ | with_reducible apply Still.none | with_reducible apply Still.some
    | with_reducible apply State.setF_still | with_reducible apply State.pairChange_still | split)

theorem State.weirUcmd_kept {s0 : State} {s : State} {p : ℕ} {code : ℕ} (h0 : Kept s0 s) :
    OptAll (Kept s0) (State.weirUcmd s p code) := by
  unfold State.weirUcmd
  repeat' (first
    | with_reducible assumption | intro _ | with_reducible apply Kept.none | with_reducible apply Kept.some
    | with_reducible apply State.setF_kept | with_reducible apply State.pairChange_kept | split)

theorem execDrvClear_still {s0 : State} {q : Req} {n : Fin 512} {s : State} (h0 : Still s0 s) :
    NextAll (Still s0) (execDrvClear q n s) := by
  unfold execDrvClear
  repeat' (first
    | with_reducible assumption | intro _ | with_reducible apply Still.answers
    | with_reducible apply State.drvCtlWrite_still | with_reducible apply State.guardWrite_still)

theorem State.weirTick_still {s0 : State} {s : State} (h0 : Still s0 s) :
    Still s0 (State.weirTick s) := by
  unfold State.weirTick
  repeat' (first
    | with_reducible assumption | intro _ | with_reducible apply State.pairChange_still
    | with_reducible apply State.setPair_still | dsimp only | with_reducible apply Still.foldl)

theorem State.weirTick_kept {s0 : State} {s : State} (h0 : Kept s0 s) :
    Kept s0 (State.weirTick s) :=
  h0.still (State.weirTick_still (Still.refl _))

theorem execWeirTrip_still {s0 : State} {p : Fin 512} {fout : ℤ} {pre : ℤ} {s : State} (h0 : Still s0 s) :
    NextAll (Still s0) (execWeirTrip p fout pre s) := by
  unfold execWeirTrip
  repeat' (first
    | with_reducible assumption | intro _
    | (extract_lets +onlyGivenNames x1; (fail_if_success have _f := fun a => x1 a); clear_value x1; revert x1; intro _)
    | with_reducible apply Still.answers | with_reducible apply State.pairChange_still
    | with_reducible apply State.setPair_still)

theorem execBlankingExpire_still {s0 : State} {p : Fin 512} {s : State} (h0 : Still s0 s) :
    NextAll (Still s0) (execBlankingExpire p s) := by
  unfold execBlankingExpire
  repeat' (first
    | with_reducible assumption | intro _
    | (extract_lets +onlyGivenNames x1; (fail_if_success have _f := fun a => x1 a); clear_value x1; revert x1; intro _)
    | with_reducible apply Still.answers | with_reducible apply State.pairChange_still
    | with_reducible apply State.setPair_still | split)

theorem execDrvSafe_still {s0 : State} {q : Req} {n : Fin 512} {s : State} (h0 : Still s0 s) :
    NextAll (Still s0) (execDrvSafe q n s) := by
  unfold execDrvSafe
  repeat' (first
    | with_reducible assumption | intro _ | with_reducible apply Still.answers
    | with_reducible apply State.drvCtlWrite_still | with_reducible apply State.guardWrite_still)

theorem execDrvDisable_still {s0 : State} {q : Req} {n : Fin 512} {s : State} (h0 : Still s0 s) :
    NextAll (Still s0) (execDrvDisable q n s) := by
  unfold execDrvDisable
  repeat' (first
    | with_reducible assumption | intro _ | with_reducible apply Still.answers
    | with_reducible apply State.drvCtlWrite_still | with_reducible apply State.guardWrite_still)

theorem execDrvEnable_still {s0 : State} {q : Req} {n : Fin 512} {s : State} (h0 : Still s0 s) :
    NextAll (Still s0) (execDrvEnable q n s) := by
  unfold execDrvEnable
  repeat' (first
    | with_reducible assumption | intro _ | with_reducible apply Still.answers
    | with_reducible apply State.drvCtlWrite_still | with_reducible apply State.guardWrite_still)

theorem execBudgetStepBoundary_still {s0 : State} {s : State} (h0 : Still s0 s) :
    NextAll (Still s0) (execBudgetStepBoundary s) := by
  unfold execBudgetStepBoundary
  repeat' (first
    | with_reducible assumption | intro _ | with_reducible apply Still.answers | with_reducible apply State.setPulse_still
    | with_reducible apply State.beginShot_still | with_reducible apply State.drvSync_still
    | with_reducible apply State.tolTest_still | split | dsimp only | with_reducible apply Still.foldl)

theorem State.grant_still {s0 : State} {s : State} {n : ℕ} {st : Start} (h0 : Still s0 s) :
    Still s0 (State.grant s n st) := by
  unfold State.grant
  repeat' (first
    | with_reducible assumption
    | (extract_lets +onlyGivenNames x1; have hx1 : Still s0 x1 := ?_; clear_value x1; revert x1; intro _ _; rotate_left; unfold x1; clear x1)
    | (extract_lets +onlyGivenNames x1; (fail_if_success have _f := fun a => x1 a); clear_value x1; revert x1; intro _)
    | with_reducible apply State.setPulse_still | with_reducible apply State.beginShot_still
    | with_reducible apply State.drvSync_still | with_reducible apply State.inc_still
    | with_reducible apply State.flag_still | with_reducible apply State.skip_still
    | with_reducible apply State.tolTest_still | split)

theorem execDrvStartRelease_still {s0 : State} {n : Fin 512} {s : State} (h0 : Still s0 s) :
    NextAll (Still s0) (execDrvStartRelease n s) := by
  unfold execDrvStartRelease
  repeat' (first
    | with_reducible assumption
    | (extract_lets +onlyGivenNames x1; (fail_if_success have _f := fun a => x1 a); clear_value x1; revert x1; intro _)
    | with_reducible apply Still.answers | with_reducible apply State.setPulse_still
    | with_reducible apply State.grant_still | split)

theorem State.setChan_still {s0 : State} {s : State} {u : ℕ} {c : Chan} (h0 : Still s0 s) :
    Still s0 (State.setChan s u c) := by
  unfold State.setChan
  repeat' (first
    | with_reducible assumption | (rw [State.lit_eq]; with_reducible refine Still.mk' ?_ rfl))

theorem State.setEngine_still {s0 : State} {s : State} {e : ℕ} {x : Engine} (h0 : Still s0 s) :
    Still s0 (State.setEngine s e x) := by
  unfold State.setEngine
  repeat' (first
    | with_reducible assumption | (rw [State.lit_eq]; with_reducible refine Still.mk' ?_ rfl))

theorem State.chOut_still {s0 : State} {s : State} {u : ℕ} {y : FVal} {r : ℤ} (h0 : Still s0 s) :
    Still s0 (State.chOut s u y r).2 := by
  unfold State.chOut
  repeat' (first
    | with_reducible assumption
    | (extract_lets +onlyGivenNames x1; (fail_if_success have _f := fun a => x1 a); clear_value x1; revert x1; intro _)
    | with_reducible apply State.free_still | split)

theorem State.chGapTaken_still {s0 : State} {s : State} {u : ℕ} {w : CWord} (h0 : Still s0 s) :
    Still s0 (State.chGapTaken s u w) := by
  unfold State.chGapTaken
  repeat' (first
    | with_reducible assumption
    | (extract_lets +onlyGivenNames x1; (fail_if_success have _f := fun a => x1 a); clear_value x1; revert x1; intro _)
    | with_reducible apply State.setChan_still | split)

theorem State.chEmit_still {s0 : State} {s : State} {u : ℕ} {y : FOut} (h0 : Still s0 s) :
    Still s0 (State.chEmit s u y).2 := by
  unfold State.chEmit
  repeat' (first
    | with_reducible assumption
    | (extract_lets +onlyGivenNames x1; have hx1 : Still s0 x1 := ?_; clear_value x1; revert x1; intro _ _; rotate_left; unfold x1; clear x1)
    | (extract_lets +onlyGivenNames x1; (fail_if_success have _f := fun a => x1 a); clear_value x1; revert x1; intro _)
    | with_reducible apply State.setF_still | with_reducible apply State.setChan_still
    | with_reducible apply State.chOut_still | split | dsimp only
    | with_reducible refine Still.pair ?_ (by assumption))

theorem State.chRestart_still {s0 : State} {s : State} {u : ℕ} (h0 : Still s0 s) :
    Still s0 (State.chRestart s u) := by
  unfold State.chRestart
  repeat' (first
    | with_reducible assumption
    | (extract_lets +onlyGivenNames x1; (fail_if_success have _f := fun a => x1 a); clear_value x1; revert x1; intro _)
    | with_reducible apply State.setF_still | with_reducible apply State.setChan_still)

theorem State.fltClear_still {s0 : State} {s : State} {u : ℕ} (h0 : Still s0 s) :
    Still s0 (State.fltClear s u) := by
  unfold State.fltClear
  repeat' (first
    | with_reducible assumption
    | (extract_lets +onlyGivenNames x1; have hx1 : Still s0 x1 := ?_; clear_value x1; revert x1; intro _ _; rotate_left; unfold x1; clear x1)
    | with_reducible apply State.put_still | with_reducible apply State.chRestart_still | split)

theorem State.fltClear_kept {s0 : State} {s : State} {u : ℕ} (h0 : Kept s0 s) :
    Kept s0 (State.fltClear s u) :=
  h0.still (State.fltClear_still (Still.refl _))

theorem State.chRegap_still {s0 : State} {s : State} {u : ℕ} (h0 : Still s0 s) :
    Still s0 (State.chRegap s u) := by
  unfold State.chRegap
  repeat' (first
    | with_reducible assumption
    | (extract_lets +onlyGivenNames x1; have hx1 : Still s0 x1 := ?_; clear_value x1; revert x1; intro _ _; rotate_left; unfold x1; clear x1)
    | (extract_lets +onlyGivenNames x1; (fail_if_success have _f := fun a => x1 a); clear_value x1; revert x1; intro _)
    | with_reducible apply State.setChan_still | with_reducible apply State.chRestart_still)

theorem State.setChState_still {s0 : State} {s : State} {u : ℕ} {x : ℕ} (h0 : Still s0 s) :
    Still s0 (State.setChState s u x) := by
  unfold State.setChState
  repeat' (first
    | with_reducible assumption | with_reducible apply State.setF_still)

theorem State.fltSwap_still {s0 : State} {s : State} {e : ℕ} (h0 : Still s0 s) :
    Still s0 (State.fltSwap s e) := by
  unfold State.fltSwap
  repeat' (first
    | with_reducible assumption | with_reducible apply State.setF_still | split)

theorem State.fltStart_still {s0 : State} {s : State} {u : ℕ} (h0 : Still s0 s) :
    Still s0 (State.fltStart s u) := by
  unfold State.fltStart
  repeat' (first
    | with_reducible assumption
    | (extract_lets +onlyGivenNames x1; have hx1 : Still s0 x1 := ?_; clear_value x1; revert x1; intro _ _; rotate_left; unfold x1; clear x1)
    | (extract_lets +onlyGivenNames x1; (fail_if_success have _f := fun a => x1 a); clear_value x1; revert x1; intro _)
    | with_reducible apply State.setChan_still | with_reducible apply State.setChState_still
    | with_reducible apply State.chRestart_still | split)

theorem State.fltStart_kept {s0 : State} {s : State} {u : ℕ} (h0 : Kept s0 s) :
    Kept s0 (State.fltStart s u) :=
  h0.still (State.fltStart_still (Still.refl _))

theorem State.fltClockLost_still {s0 : State} {s : State} (h0 : Still s0 s) :
    Still s0 (State.fltClockLost s) := by
  unfold State.fltClockLost
  repeat' (first
    | with_reducible assumption | intro _
    | (extract_lets +onlyGivenNames x1; have hx1 : Still s0 x1 := ?_; clear_value x1; revert x1; intro _ _; rotate_left; unfold x1; clear x1)
    | with_reducible apply State.setChState_still | dsimp only | with_reducible apply Still.foldl
    | (rw [State.lit_eq]; with_reducible refine Still.mk' ?_ rfl))

theorem State.fltStop_still {s0 : State} {s : State} {u : ℕ} (h0 : Still s0 s) :
    Still s0 (State.fltStop s u) := by
  unfold State.fltStop
  repeat' (first
    | with_reducible assumption | with_reducible apply State.setChState_still | split)

theorem State.fltStop_kept {s0 : State} {s : State} {u : ℕ} (h0 : Kept s0 s) :
    Kept s0 (State.fltStop s u) :=
  h0.still (State.fltStop_still (Still.refl _))

theorem State.coefPut_still {s0 : State} {s : State} {e : ℕ} {v : Word} (h0 : Still s0 s) :
    Still s0 (State.coefPut s e v) := by
  unfold State.coefPut
  repeat' (first
    | with_reducible assumption
    | (extract_lets +onlyGivenNames x1; (fail_if_success have _f := fun a => x1 a); clear_value x1; revert x1; intro _)
    | with_reducible apply State.setF_still | with_reducible apply State.flipWrite_still
    | with_reducible apply State.setCodeErr_still | with_reducible apply State.setEngine_still)

theorem State.fltMicro_still {s0 : State} {s : State} (h0 : Still s0 s) :
    Still s0 (State.fltMicro s) := by
  unfold State.fltMicro
  repeat' (first
    | with_reducible assumption | intro _ | with_reducible apply State.setF_still
    | with_reducible apply State.setEngine_still | split | dsimp only | with_reducible apply Still.foldl)

theorem State.chTaken_still {s0 : State} {s : State} {u : ℕ} (h0 : Still s0 s) :
    Still s0 (State.chTaken s u) := by
  unfold State.chTaken
  repeat' (first
    | with_reducible assumption
    | (extract_lets +onlyGivenNames x1; (fail_if_success have _f := fun a => x1 a); clear_value x1; revert x1; intro _)
    | with_reducible apply State.setF_still | with_reducible apply State.setChan_still)

theorem State.fltDisable_still {s0 : State} {s : State} {u : ℕ} (h0 : Still s0 s) :
    Still s0 (State.fltDisable s u) := by
  unfold State.fltDisable
  repeat' (first
    | with_reducible assumption
    | (extract_lets +onlyGivenNames x1; have hx1 : Still s0 x1 := ?_; clear_value x1; revert x1; intro _ _; rotate_left; unfold x1; clear x1)
    | (extract_lets +onlyGivenNames x1; (fail_if_success have _f := fun a => x1 a); clear_value x1; revert x1; intro _)
    | with_reducible apply State.setChState_still | with_reducible apply State.setEngine_still | split)

theorem State.fltDisable_kept {s0 : State} {s : State} {u : ℕ} (h0 : Kept s0 s) :
    Kept s0 (State.fltDisable s u) :=
  h0.still (State.fltDisable_still (Still.refl _))

theorem State.fltEnable_still {s0 : State} {s : State} {u : ℕ} (h0 : Still s0 s) :
    Still s0 (State.fltEnable s u) := by
  unfold State.fltEnable
  repeat' (first
    | with_reducible assumption | with_reducible apply State.setChState_still | split)

theorem State.fltEnable_kept {s0 : State} {s : State} {u : ℕ} (h0 : Kept s0 s) :
    Kept s0 (State.fltEnable s u) :=
  h0.still (State.fltEnable_still (Still.refl _))

theorem State.fltLate_still {s0 : State} {s : State} {e : ℕ} (h0 : Still s0 s) :
    Still s0 (State.fltLate s e) := by
  unfold State.fltLate
  repeat' (first
    | with_reducible assumption | with_reducible apply State.inc_still | with_reducible apply State.flag_still)

theorem State.fltCmd_still {s0 : State} {s : State} {u : ℕ} {cmd : ℕ} (h0 : Still s0 s) :
    Still s0 (State.fltCmd s u cmd) := by
  unfold State.fltCmd
  repeat' (first
    | with_reducible assumption | with_reducible apply State.fltStart_still | with_reducible apply State.fltClear_still
    | with_reducible apply State.fltStop_still | with_reducible apply State.fltEnable_still
    | with_reducible apply State.fltDisable_still | split)

theorem State.chDeliver_still {s0 : State} {s : State} {u : ℕ} {o : CWord} (h0 : Still s0 s) :
    Still s0 (State.chDeliver s u o) := by
  unfold State.chDeliver
  repeat' (first
    | with_reducible assumption
    | (extract_lets +onlyGivenNames x1; have hx1 : Still s0 x1 := ?_; clear_value x1; revert x1; intro _ _; rotate_left; unfold x1; clear x1)
    | (extract_lets +onlyGivenNames x1; (fail_if_success have _f := fun a => x1 a); clear_value x1; revert x1; intro _)
    | with_reducible apply State.offer_still | with_reducible apply State.learnSample_still | split)

theorem State.fltUcmd_still {s0 : State} {s : State} {u : ℕ} {code : ℕ} (h0 : Still s0 s) :
    OptAll (Still s0) (State.fltUcmd s u code) := by
  unfold State.fltUcmd
  repeat' (first
    | with_reducible assumption | with_reducible apply Still.none | with_reducible apply Still.some
    | with_reducible apply State.fltStart_still | with_reducible apply State.fltClear_still
    | with_reducible apply State.fltStop_still | with_reducible apply State.fltEnable_still
    | with_reducible apply State.fltDisable_still | split)

theorem State.fltUcmd_kept {s0 : State} {s : State} {u : ℕ} {code : ℕ} (h0 : Kept s0 s) :
    OptAll (Kept s0) (State.fltUcmd s u code) := by
  unfold State.fltUcmd
  repeat' (first
    | with_reducible assumption | with_reducible apply Kept.none | with_reducible apply Kept.some
    | with_reducible apply State.fltStart_kept | with_reducible apply State.fltClear_kept
    | with_reducible apply State.fltStop_kept | with_reducible apply State.fltEnable_kept
    | with_reducible apply State.fltDisable_kept | split)

theorem State.stage'_still {s0 : State} {s : State} {u : ℕ} {acc : ℤ} {sh : ℕ} {v : FVal} (h0 : Still s0 s) :
    Still s0 (State.stage' s u acc sh v).2 := by
  unfold State.stage'
  repeat' (first
    | with_reducible assumption | with_reducible apply State.inc_still | with_reducible apply State.flag_still | split)

theorem State.chHold_still {s0 : State} {s : State} {u : ℕ} {y0 : ℕ} (h0 : Still s0 s) :
    Still s0 (State.chHold s u y0) := by
  induction y0 generalizing s u with
  | zero =>
    unfold State.chHold
    repeat' (first
      | with_reducible assumption)
  | succ _ ih =>
    unfold State.chHold
    repeat' (first
      | with_reducible assumption | with_reducible apply ih
      | (extract_lets +onlyGivenNames x1; have hx1 : Still s0 x1 := ?_; clear_value x1; revert x1; intro _ _; rotate_left; unfold x1; clear x1)
      | (extract_lets +onlyGivenNames x1; (fail_if_success have _f := fun a => x1 a); clear_value x1; revert x1; intro _)
      | with_reducible apply State.setChan_still | with_reducible apply State.inc_still
      | with_reducible apply State.flag_still | with_reducible apply State.chDeliver_still | split)

theorem State.fltCtlWrite_still {s0 : State} {s : State} {q : Req} {u : ℕ} {v : Word} (h0 : Still s0 s) :
    Still s0 (State.fltCtlWrite s q u v) := by
  unfold State.fltCtlWrite
  repeat' (first
    | with_reducible assumption
    | (extract_lets +onlyGivenNames x1; have hx1 : Still s0 x1 := ?_; clear_value x1; revert x1; intro _ _; rotate_left; unfold x1; clear x1)
    | (extract_lets +onlyGivenNames x1; (fail_if_success have _f := fun a => x1 a); clear_value x1; revert x1; intro _)
    | with_reducible apply State.rsvd_still | with_reducible apply State.fltCmd_still | split)

theorem State.coefLoad_still {s0 : State} {s : State} {q : Req} {e : ℕ} {ws : List Word} (h0 : Still s0 s) :
    Still s0 (State.coefLoad s q e ws) := by
  unfold State.coefLoad
  repeat' (first
    | with_reducible assumption | intro _ | with_reducible apply State.coefPut_still
    | with_reducible apply State.stageRej_still | split | with_reducible apply Still.foldl)

theorem State.coefLoad_kept {s0 : State} {s : State} {q : Req} {e : ℕ} {ws : List Word} (h0 : Kept s0 s) :
    Kept s0 (State.coefLoad s q e ws) :=
  h0.still (State.coefLoad_still (Still.refl _))

theorem State.chLine_still {s0 : State} {s : State} {u : ℕ} {w : CWord} (h0 : Still s0 s) :
    Still s0 (State.chLine s u w).2 := by
  unfold State.chLine
  repeat' (first
    | with_reducible assumption
    | (extract_lets +onlyGivenNames x1; have hx1 : Still s0 x1 := ?_; clear_value x1; revert x1; intro _ _; rotate_left; unfold x1; clear x1)
    | (extract_lets +onlyGivenNames x1; (fail_if_success have _f := fun a => x1 a); clear_value x1; revert x1; intro _)
    | with_reducible apply State.setChan_still | with_reducible apply State.inc_still
    | with_reducible apply State.flag_still | split)

theorem State.coefWrite_still {s0 : State} {s : State} {q : Req} {e : ℕ} {v : Word} (h0 : Still s0 s) :
    Still s0 (State.coefWrite s q e v) := by
  unfold State.coefWrite
  repeat' (first
    | with_reducible assumption
    | (extract_lets +onlyGivenNames x1; have hx1 : Still s0 x1 := ?_; clear_value x1; revert x1; intro _ _; rotate_left; unfold x1; clear x1)
    | (extract_lets +onlyGivenNames x1; (fail_if_success have _f := fun a => x1 a); clear_value x1; revert x1; intro _)
    | with_reducible apply State.rsvd_still | with_reducible apply State.coefPut_still
    | with_reducible apply State.stageRej_still | split)

theorem execFltStart_still {s0 : State} {q : Req} {u : Fin 512} {s : State} (h0 : Still s0 s) :
    NextAll (Still s0) (execFltStart q u s) := by
  unfold execFltStart
  repeat' (first
    | with_reducible assumption | intro _ | with_reducible apply Still.answers
    | with_reducible apply State.guardWrite_still | with_reducible apply State.fltCtlWrite_still)

theorem State.fltWord_still {s0 : State} {s : State} {e : ℕ} {w : CWord} (h0 : Still s0 s) :
    Still s0 (State.fltWord s e w) := by
  unfold State.fltWord
  repeat' (first
    | with_reducible assumption | intro _
    | (extract_lets +onlyGivenNames x1; have hx1 : Still s0 x1 := ?_; clear_value x1; revert x1; intro _ _; rotate_left; unfold x1; clear x1)
    | (extract_lets +onlyGivenNames x1; (fail_if_success have _f := fun a => x1 a); clear_value x1; revert x1; intro _)
    | with_reducible apply State.chHold_still | with_reducible apply State.setChan_still
    | with_reducible apply State.chGapTaken_still | with_reducible apply State.chTaken_still
    | with_reducible apply State.setEngine_still | with_reducible apply State.inc_still
    | with_reducible apply State.flag_still | split | dsimp only | with_reducible apply Still.foldl)

theorem State.coefPoison_still {s0 : State} {s : State} {e : ℕ} {n : ℕ} (h0 : Still s0 s) :
    Still s0 (State.coefPoison s e n) := by
  unfold State.coefPoison
  repeat' (first
    | with_reducible assumption | with_reducible apply State.incBy_still | with_reducible apply State.flag_still | split)

theorem execFltEnable_still {s0 : State} {q : Req} {u : Fin 512} {s : State} (h0 : Still s0 s) :
    NextAll (Still s0) (execFltEnable q u s) := by
  unfold execFltEnable
  repeat' (first
    | with_reducible assumption | intro _ | with_reducible apply Still.answers
    | with_reducible apply State.guardWrite_still | with_reducible apply State.fltCtlWrite_still)

theorem execFltLoadRead_still {s0 : State} {q : Req} {e : Fin 64} {s : State} (h0 : Still s0 s) :
    NextAll (Still s0) (execFltLoadRead q e s) := by
  unfold execFltLoadRead
  repeat' (first
    | with_reducible assumption | intro _ | with_reducible apply Still.answers | with_reducible apply State.regRead_still
    | with_reducible apply State.guardRead_still)

theorem execFltClear_still {s0 : State} {q : Req} {u : Fin 512} {s : State} (h0 : Still s0 s) :
    NextAll (Still s0) (execFltClear q u s) := by
  unfold execFltClear
  repeat' (first
    | with_reducible assumption | intro _ | with_reducible apply Still.answers
    | with_reducible apply State.guardWrite_still | with_reducible apply State.fltCtlWrite_still)

theorem State.dcStage_still {s0 : State} {s : State} {u : ℕ} {fz : Bool} {x : FVal} (h0 : Still s0 s) :
    Still s0 (State.dcStage s u fz x).2 := by
  unfold State.dcStage
  repeat' (first
    | with_reducible assumption
    | (extract_lets +onlyGivenNames x1; have hx1 : Still s0 x1 := ?_; clear_value x1; revert x1; intro _ _; rotate_left; unfold x1; clear x1)
    | (extract_lets +onlyGivenNames x1; (fail_if_success have _f := fun a => x1 a); clear_value x1; revert x1; intro _)
    | with_reducible apply State.setChan_still | with_reducible apply State.inc_still
    | with_reducible apply State.flag_still | with_reducible apply State.stage'_still | split)

theorem execFltDisable_still {s0 : State} {q : Req} {u : Fin 512} {s : State} (h0 : Still s0 s) :
    NextAll (Still s0) (execFltDisable q u s) := by
  unfold execFltDisable
  repeat' (first
    | with_reducible assumption | intro _ | with_reducible apply Still.answers
    | with_reducible apply State.guardWrite_still | with_reducible apply State.fltCtlWrite_still)

theorem State.coefFetch_still {s0 : State} {s : State} {e : ℕ} {bank : ℕ} {k : ℕ} (h0 : Still s0 s) :
    Still s0 (State.coefFetch s e bank k).2 := by
  unfold State.coefFetch
  repeat' (first
    | with_reducible assumption
    | (extract_lets +onlyGivenNames x1; (fail_if_success have _f := fun a => x1 a); clear_value x1; revert x1; intro _)
    | with_reducible apply State.codeCheck_still | with_reducible apply State.free_still | split | dsimp only
    | with_reducible refine Still.pair ?_ (by assumption))

theorem execFltInputWord_still {s0 : State} {e : Fin 64} {s : State} (h0 : Still s0 s) :
    NextAll (Still s0) (execFltInputWord e s) := by
  unfold execFltInputWord
  repeat' (first
    | with_reducible assumption | with_reducible apply Still.answers | with_reducible apply State.fltWord_still
    | with_reducible refine State.takeArrived_still ?_ (by assumption) | split)

theorem execFltStop_still {s0 : State} {q : Req} {u : Fin 512} {s : State} (h0 : Still s0 s) :
    NextAll (Still s0) (execFltStop q u s) := by
  unfold execFltStop
  repeat' (first
    | with_reducible assumption | intro _ | with_reducible apply Still.answers
    | with_reducible apply State.guardWrite_still | with_reducible apply State.fltCtlWrite_still)

theorem execFltCoefWrite_still {s0 : State} {q : Req} {e : Fin 64} {v : Word} {s : State} (h0 : Still s0 s) :
    NextAll (Still s0) (execFltCoefWrite q e v s) := by
  unfold execFltCoefWrite
  repeat' (first
    | with_reducible assumption | intro _ | with_reducible apply Still.answers
    | with_reducible apply State.guardWrite_still | with_reducible apply State.coefWrite_still)

theorem State.coefRead_still {s0 : State} {s : State} {e : ℕ} (h0 : Still s0 s) :
    Still s0 (State.coefRead s e).2 := by
  unfold State.coefRead
  repeat' (first
    | with_reducible assumption
    | (extract_lets +onlyGivenNames x1; (fail_if_success have _f := fun a => x1 a); clear_value x1; revert x1; intro _)
    | with_reducible apply State.setF_still | with_reducible apply State.coefFetch_still
    | with_reducible apply State.coefPoison_still)

theorem State.chHead_still {s0 : State} {s : State} {u : ℕ} {fz : Bool} {x : FVal} (h0 : Still s0 s) :
    Still s0 (State.chHead s u fz x).2 := by
  unfold State.chHead
  repeat' (first
    | with_reducible assumption
    | (extract_lets +onlyGivenNames x1; have hx1 : Still s0 x1.2 := ?_; clear_value x1; revert x1; intro _ _; rotate_left; unfold x1; clear x1)
    | (extract_lets +onlyGivenNames x1; (fail_if_success have _f := fun a => x1 a); clear_value x1; revert x1; intro _)
    | with_reducible apply State.dcStage_still | with_reducible apply State.setChan_still
    | with_reducible apply State.stage'_still)

theorem State.coefTake_still {s0 : State} {s : State} {e : ℕ} {y0 : List ℕ} (h0 : Still s0 s) :
    Still s0 (State.coefTake s e y0).2 := by
  induction y0 generalizing s e with
  | nil =>
    unfold State.coefTake
    repeat' (first
      | with_reducible assumption)
  | cons _ _ ih =>
    unfold State.coefTake
    repeat' (first
      | with_reducible assumption | with_reducible apply ih | with_reducible apply State.coefFetch_still)

theorem execFltCoefRead_still {s0 : State} {q : Req} {e : Fin 64} {s : State} (h0 : Still s0 s) :
    NextAll (Still s0) (execFltCoefRead q e s) := by
  unfold execFltCoefRead
  repeat' (first
    | with_reducible assumption | intro _ | with_reducible apply Still.answers | with_reducible apply State.coefRead_still
    | with_reducible apply State.guardRead_still)

theorem State.resample_still {s0 : State} {s : State} {u : ℕ} {bad : Bool} {y0 : ℕ} (h0 : Still s0 s) :
    Still s0 (State.resample s u bad y0).2 := by
  induction y0 generalizing s u bad with
  | zero =>
    unfold State.resample
    repeat' (first
      | with_reducible assumption)
  | succ _ ih =>
    unfold State.resample
    repeat' (first
      | with_reducible assumption | with_reducible apply ih
      | (extract_lets +onlyGivenNames x1; (fail_if_success have _f := fun a => x1 a); clear_value x1; revert x1; intro _)
      | with_reducible apply State.setChan_still | with_reducible apply State.coefTake_still
      | with_reducible apply State.coefPoison_still | with_reducible apply State.stage'_still | split)

theorem State.chFir_still {s0 : State} {s : State} {u : ℕ} {x : FVal} {bad : Bool} (h0 : Still s0 s) :
    Still s0 (State.chFir s u x bad).2 := by
  unfold State.chFir
  repeat' (first
    | with_reducible assumption
    | (extract_lets +onlyGivenNames x1; have hx1 : Still s0 x1 := ?_; clear_value x1; revert x1; intro _ _; rotate_left; unfold x1; clear x1)
    | (extract_lets +onlyGivenNames x1; have hx1 : Still s0 x1.2 := ?_; clear_value x1; revert x1; intro _ _; rotate_left; unfold x1; clear x1)
    | (extract_lets +onlyGivenNames x1; (fail_if_success have _f := fun a => x1 a); clear_value x1; revert x1; intro _)
    | with_reducible apply State.resample_still | with_reducible apply State.setChan_still
    | with_reducible apply State.coefTake_still | with_reducible apply State.coefPoison_still
    | with_reducible apply State.stage'_still | split | with_reducible refine Still.pair ?_ (by assumption))

theorem State.chInput_still {s0 s : State} {u : ℕ} {w : CWord} {fz bad : Bool} (h0 : Still s0 s) :
    Still s0 (State.chInput s u w fz bad).2 := by
  unfold State.chInput
  have h : Still s0 (s.chLine u w).2 := State.chLine_still h0
  generalize s.chLine u w = p at h
  obtain ⟨o, t⟩ := p
  cases o with
  | none => exact h
  | some x => exact State.chFir_still (State.chHead_still h)

theorem State.chProcess_still {s0 : State} {s : State} {u : ℕ} {w : CWord} {frz : List ℕ} {bad : Bool} {y0 : ℕ}
    (h0 : Still s0 s) : Still s0 (State.chProcess s u w frz bad y0) := by
  induction y0 generalizing s u w frz bad with
  | zero => exact h0
  | succ n ih =>
    unfold State.chProcess
    have h : Still s0 (s.chInput u w (frz.contains (u % 8)) bad).2 := State.chInput_still h0
    generalize s.chInput u w (frz.contains (u % 8)) bad = p at h
    obtain ⟨outs, t⟩ := p
    dsimp only
    refine Still.foldl (fun a y ha => ?_) (State.setEngine_still h)
    have he : Still s0 (a.chEmit u y).2 := State.chEmit_still ha
    generalize a.chEmit u y = r at he
    obtain ⟨o, t⟩ := r
    cases o with
    | none => exact he
    | some o =>
      dsimp only
      split
      · exact ih (State.chTaken_still (State.chDeliver_still he))
      · exact State.chDeliver_still he

theorem State.fltItem_still {s0 : State} {s : State} {e : ℕ} {x : FltItem} {bad : Bool} (h0 : Still s0 s) :
    Still s0 (State.fltItem s e x bad) := by
  unfold State.fltItem
  repeat' (first
    | with_reducible assumption | intro _
    | (extract_lets +onlyGivenNames x1; (fail_if_success have _f := fun a => x1 a); clear_value x1; revert x1; intro _)
    | with_reducible apply State.chRegap_still | with_reducible apply State.chProcess_still | split | dsimp only
    | with_reducible apply Still.foldl)

theorem execFltProcess_still {s0 : State} {e : Fin 64} {bad : Bool} {s : State} (h0 : Still s0 s) :
    NextAll (Still s0) (execFltProcess e bad s) := by
  unfold execFltProcess
  repeat' (first
    | with_reducible assumption
    | (extract_lets +onlyGivenNames x1; (fail_if_success have _f := fun a => x1 a); clear_value x1; revert x1; intro _)
    | with_reducible apply Still.answers | with_reducible apply State.setEngine_still
    | with_reducible apply State.fltItem_still | split)

end Sys2Proof.Machine
end

