-- ==== Sys2Proof/Laws/FrameLogic.lean ====
section
/-! SUPPORT. What each function of Machine/Memory.lean, Machine/Learn.lean, Machine/Logic.lean leaves alone: `Still`, the queue of commands and
every byte of memory; `Kept`, the queue, and the canonical form of memory. -/

set_option linter.unreachableTactic false
set_option linter.unusedTactic false
set_option linter.unusedVariables false
set_option linter.tactic.unusedName false

namespace Sys2Proof.Machine

theorem State.nvmQueue_still {s0 : State} {s : State} {line : ℕ} {data : List Word} {u : NvmUse} (h0 : Still s0 s) :
    Still s0 (State.nvmQueue s line data u) := by
  unfold State.nvmQueue
  repeat' (first
    | with_reducible assumption | (extract_lets +onlyGivenNames x1; have _m : Mem := x1; clear _m; unfold x1; clear x1)
    | (rw [State.lit_eq]; with_reducible refine Still.mk' ?_ rfl))

theorem State.nvmQueue_kept {s0 : State} {s : State} {line : ℕ} {data : List Word} {u : NvmUse} (h0 : Kept s0 s) :
    Kept s0 (State.nvmQueue s line data u) :=
  h0.still (State.nvmQueue_still (Still.refl _))

theorem State.upset_still {s0 : State} {s : State} {k : ℕ} {d0 : Word} {d1 : Word} {c : Word} (h0 : Still s0 s) :
    Still s0 (State.upset s k d0 d1 c) := by
  unfold State.upset
  repeat' (first
    | with_reducible assumption
    | (extract_lets +onlyGivenNames x1; (fail_if_success have _f := fun a => x1 a); clear_value x1; revert x1; intro _)
    | with_reducible apply State.setCodeErr_still)

theorem State.setNvmLine_still {s0 : State} {s : State} {l : ℕ} {x : NvmLine} (h0 : Still s0 s) :
    Still s0 (State.setNvmLine s l x) := by
  unfold State.setNvmLine
  repeat' (first
    | with_reducible assumption | (extract_lets +onlyGivenNames x1; have _m : Mem := x1; clear _m; unfold x1; clear x1)
    | (rw [State.lit_eq]; with_reducible refine Still.mk' ?_ rfl))

theorem State.slotRead_still {s0 : State} {s : State} {x : NvmSlot} (h0 : Still s0 s) :
    Still s0 (State.slotRead s x).2 := by
  unfold State.slotRead
  repeat' (first
    | with_reducible assumption | with_reducible apply State.free_still | split | dsimp only
    | with_reducible refine Still.pair ?_ (by assumption))

theorem State.copySwitch_still {s0 : State} {s : State} {lo : ℕ} {hi : ℕ} (h0 : Still s0 s) :
    Still s0 (State.copySwitch s lo hi) := by
  unfold State.copySwitch
  repeat' (first
    | with_reducible assumption | intro _ | with_reducible apply State.setCodeErr_still | dsimp only
    | with_reducible apply Still.foldl)

theorem State.bankEnd_still {s0 : State} {s : State} {ok : Bool} (h0 : Still s0 s) :
    Still s0 (State.bankEnd s ok) := by
  unfold State.bankEnd
  repeat' (first
    | with_reducible assumption
    | (extract_lets +onlyGivenNames x1; have hx1 : Still s0 x1 := ?_; clear_value x1; revert x1; intro _ _; rotate_left; unfold x1; clear x1)
    | (extract_lets +onlyGivenNames x1; have _m : Mem := x1; clear _m; unfold x1; clear x1)
    | (extract_lets +onlyGivenNames x1; (fail_if_success have _f := fun a => x1 a); clear_value x1; revert x1; intro _)
    | with_reducible apply State.setF_still | with_reducible apply State.copySwitch_still | split
    | (rw [State.lit_eq]; with_reducible refine Still.mk' ?_ rfl))

theorem State.nvmCmdEnd_still {s0 : State} {s : State} {result : ℕ} (h0 : Still s0 s) :
    Still s0 (State.nvmCmdEnd s result) := by
  unfold State.nvmCmdEnd
  repeat' (first
    | with_reducible assumption | with_reducible apply State.setF_still)

theorem State.setDma_still {s0 : State} {s : State} {e : ℕ} {x : DmaEng} (h0 : Still s0 s) :
    Still s0 (State.setDma s e x) := by
  unfold State.setDma
  repeat' (first
    | with_reducible assumption
    | (extract_lets +onlyGivenNames x1; have hx1 : Still s0 x1 := ?_; clear_value x1; revert x1; intro _ _; rotate_left; unfold x1; clear x1)
    | (extract_lets +onlyGivenNames x1; have _m : Mem := x1; clear _m; unfold x1; clear x1)
    | with_reducible apply State.setF_still | (rw [State.lit_eq]; with_reducible refine Still.mk' ?_ rfl))

theorem State.setDma_kept {s0 : State} {s : State} {e : ℕ} {x : DmaEng} (h0 : Kept s0 s) :
    Kept s0 (State.setDma s e x) :=
  h0.still (State.setDma_still (Still.refl _))

theorem State.nvmStore_still {s0 : State} {s : State} {line : ℕ} {data : List Word} (h0 : Still s0 s) :
    Still s0 (State.nvmStore s line data) := by
  unfold State.nvmStore
  repeat' (first
    | with_reducible assumption
    | (extract_lets +onlyGivenNames x1; have hx1 : Still s0 x1 := ?_; clear_value x1; revert x1; intro _ _; rotate_left; unfold x1; clear x1)
    | (extract_lets +onlyGivenNames x1; (fail_if_success have _f := fun a => x1 a); clear_value x1; revert x1; intro _)
    | with_reducible apply State.flipWrite_still | with_reducible apply State.setNvmLine_still
    | with_reducible apply State.put_still | split | with_reducible refine Still.pair ?_ (by assumption))

theorem State.retEnd_still {s0 : State} {s : State} {ok : Bool} (h0 : Still s0 s) :
    Still s0 (State.retEnd s ok) := by
  unfold State.retEnd
  repeat' (first
    | with_reducible assumption
    | (extract_lets +onlyGivenNames x1; have hx1 : Still s0 x1 := ?_; clear_value x1; revert x1; intro _ _; rotate_left; unfold x1; clear x1)
    | (extract_lets +onlyGivenNames x1; have _m : Mem := x1; clear _m; unfold x1; clear x1)
    | with_reducible apply State.setF_still | with_reducible apply State.copySwitch_still
    | with_reducible apply State.put_still | split | (rw [State.lit_eq]; with_reducible refine Still.mk' ?_ rfl))

theorem State.eccPop_still {s0 : State} {s : State} (h0 : Still s0 s) :
    Still s0 (State.eccPop s) := by
  unfold State.eccPop
  repeat' (first
    | with_reducible assumption | (extract_lets +onlyGivenNames x1; have _m : Mem := x1; clear _m; unfold x1; clear x1)
    | with_reducible apply State.eccSync_still | (rw [State.lit_eq]; with_reducible refine Still.mk' ?_ rfl))

theorem State.nvmCmdWrite_still {s0 : State} {s : State} {q : Req} {v : Word} (h0 : Still s0 s) :
    Still s0 (State.nvmCmdWrite s q v) := by
  unfold State.nvmCmdWrite
  repeat' (first
    | with_reducible assumption | with_reducible apply State.setF_still | with_reducible apply State.nvmQueue_still
    | with_reducible apply State.regWrite_still | with_reducible apply State.flag_still | split | dsimp only)

theorem State.nvmCmdWrite_kept {s0 : State} {s : State} {q : Req} {v : Word} (h0 : Kept s0 s) :
    Kept s0 (State.nvmCmdWrite s q v) :=
  h0.still (State.nvmCmdWrite_still (Still.refl _))

theorem State.retCmd_still {s0 : State} {s : State} {q : Req} {v : Word} (h0 : Still s0 s) :
    Still s0 (State.retCmd s q v) := by
  unfold State.retCmd
  repeat' (first
    | with_reducible assumption
    | (extract_lets +onlyGivenNames x1; have hx1 : Still s0 x1 := ?_; clear_value x1; revert x1; intro _ _; rotate_left; unfold x1; clear x1)
    | (extract_lets +onlyGivenNames x1; have _m : Mem := x1; clear _m; unfold x1; clear x1)
    | (extract_lets +onlyGivenNames x1; (fail_if_success have _f := fun a => x1 a); clear_value x1; revert x1; intro _)
    | with_reducible apply State.setF_still | with_reducible apply State.regWrite_still
    | with_reducible apply State.flag_still | split | (rw [State.lit_eq]; with_reducible refine Still.mk' ?_ rfl))

theorem execNvmCmdGo_still {s0 : State} {q : Req} {line : BitVec 19} {s : State} (h0 : Still s0 s) :
    NextAll (Still s0) (execNvmCmdGo q line s) := by
  unfold execNvmCmdGo
  repeat' (first
    | with_reducible assumption | intro _ | with_reducible apply Still.answers
    | with_reducible apply State.nvmCmdWrite_still | with_reducible apply State.guardWrite_still)

theorem State.nvmBufWrite_still {s0 : State} {s : State} {q : Req} {a : ℕ} {v : Word} (h0 : Still s0 s) :
    Still s0 (State.nvmBufWrite s q a v) := by
  unfold State.nvmBufWrite
  repeat' (first
    | with_reducible assumption | with_reducible apply State.regWrite_still | with_reducible apply State.flag_still
    | split)

theorem State.nvmBufWrite_kept {s0 : State} {s : State} {q : Req} {a : ℕ} {v : Word} (h0 : Kept s0 s) :
    Kept s0 (State.nvmBufWrite s q a v) :=
  h0.still (State.nvmBufWrite_still (Still.refl _))

theorem State.memRegWrite_still {s0 : State} {s : State} {q : Req} {a : ℕ} {v : Word} (h0 : Still s0 s) :
    Still s0 (State.memRegWrite s q a v) := by
  unfold State.memRegWrite
  repeat' (first
    | with_reducible assumption
    | (extract_lets +onlyGivenNames x1; have hx1 : Still s0 x1 := ?_; clear_value x1; revert x1; intro _ _; rotate_left; unfold x1; clear x1)
    | with_reducible apply State.rsvd_still | with_reducible apply State.regWrite_still | split)

theorem State.nvmRead_still {s0 : State} {s : State} {req : ℕ} {line : ℕ} (h0 : Still s0 s) :
    Still s0 (State.nvmRead s req line).2 := by
  unfold State.nvmRead
  repeat' (first
    | with_reducible assumption
    | (extract_lets +onlyGivenNames x1; have hx1 : Still s0 x1 := ?_; clear_value x1; revert x1; intro _ _; rotate_left; unfold x1; clear x1)
    | (extract_lets +onlyGivenNames x1; (fail_if_success have _f := fun a => x1 a); clear_value x1; revert x1; intro _)
    | with_reducible apply State.slotRead_still | with_reducible apply State.eccError_still
    | with_reducible apply State.inc_still | split | with_reducible refine Still.pair ?_ (by assumption))

theorem State.nvmBytes_still {s0 : State} {s : State} {req : ℕ} {o : ℕ} {n : ℕ} (h0 : Still s0 s) :
    Still s0 (State.nvmBytes s req o n).2 := by
  unfold State.nvmBytes
  repeat' (first
    | with_reducible assumption | with_reducible apply State.nvmRead_still | split | dsimp only
    | with_reducible refine Still.pair ?_ (by assumption))

theorem State.nvmBytes_kept {s0 : State} {s : State} {req : ℕ} {o : ℕ} {n : ℕ} (h0 : Kept s0 s) :
    Kept s0 (State.nvmBytes s req o n).2 :=
  h0.still (State.nvmBytes_still (Still.refl _))

theorem State.sramCmd_still {s0 : State} {s : State} {q : Req} {v : Word} (h0 : Still s0 s) :
    Still s0 (State.sramCmd s q v) := by
  unfold State.sramCmd
  repeat' (first
    | with_reducible assumption
    | (extract_lets +onlyGivenNames x1; have hx1 : Still s0 x1 := ?_; clear_value x1; revert x1; intro _ _; rotate_left; unfold x1; clear x1)
    | (extract_lets +onlyGivenNames x1; have _m : Mem := x1; clear _m; unfold x1; clear x1)
    | (extract_lets +onlyGivenNames x1; (fail_if_success have _f := fun a => x1 a); clear_value x1; revert x1; intro _)
    | with_reducible apply State.setF_still | with_reducible apply State.regWrite_still
    | with_reducible apply State.flag_still | split | (rw [State.lit_eq]; with_reducible refine Still.mk' ?_ rfl))

theorem State.eccCtlWrite_still {s0 : State} {s : State} {q : Req} {v : Word} (h0 : Still s0 s) :
    Still s0 (State.eccCtlWrite s q v) := by
  unfold State.eccCtlWrite
  repeat' (first
    | with_reducible assumption
    | (extract_lets +onlyGivenNames x1; have hx1 : Still s0 x1 := ?_; clear_value x1; revert x1; intro _ _; rotate_left; unfold x1; clear x1)
    | with_reducible apply State.regWrite_still | with_reducible apply State.eccPop_still | split)

theorem execSramBankDisable_still {s0 : State} {q : Req} {t : Fin 16} {b : Fin 32} {s : State} (h0 : Still s0 s) :
    NextAll (Still s0) (execSramBankDisable q t b s) := by
  unfold execSramBankDisable
  repeat' (first
    | with_reducible assumption | intro _ | with_reducible apply Still.answers | with_reducible apply State.sramCmd_still
    | with_reducible apply State.guardWrite_still)

theorem execEccLogPop_still {s0 : State} {q : Req} {s : State} (h0 : Still s0 s) :
    NextAll (Still s0) (execEccLogPop q s) := by
  unfold execEccLogPop
  repeat' (first
    | with_reducible assumption | intro _ | with_reducible apply Still.answers
    | with_reducible apply State.guardWrite_still | with_reducible apply State.eccCtlWrite_still)

theorem execSramBankEnable_still {s0 : State} {q : Req} {t : Fin 16} {b : Fin 32} {s : State} (h0 : Still s0 s) :
    NextAll (Still s0) (execSramBankEnable q t b s) := by
  unfold execSramBankEnable
  repeat' (first
    | with_reducible assumption | intro _ | with_reducible apply Still.answers | with_reducible apply State.sramCmd_still
    | with_reducible apply State.guardWrite_still)

theorem execMemRetRemove_still {s0 : State} {q : Req} {k : BitVec 10} {s : State} (h0 : Still s0 s) :
    NextAll (Still s0) (execMemRetRemove q k s) := by
  unfold execMemRetRemove
  repeat' (first
    | with_reducible assumption | intro _ | with_reducible apply Still.answers | with_reducible apply State.retCmd_still
    | with_reducible apply State.guardWrite_still)

theorem execMemRetAdd_still {s0 : State} {q : Req} {k : BitVec 10} {s : State} (h0 : Still s0 s) :
    NextAll (Still s0) (execMemRetAdd q k s) := by
  unfold execMemRetAdd
  repeat' (first
    | with_reducible assumption | intro _ | with_reducible apply Still.answers | with_reducible apply State.retCmd_still
    | with_reducible apply State.guardWrite_still)

theorem execPatrolRead_still {s0 : State} {addr : ℕ} {d0 : Word} {d1 : Word} {c : Word} {s : State} (h0 : Still s0 s)
    :
    NextAll (Still s0) (execPatrolRead addr d0 d1 c s) := by
  unfold execPatrolRead
  repeat' (first
    | with_reducible assumption
    | (extract_lets +onlyGivenNames x1; (fail_if_success have _f := fun a => x1 a); clear_value x1; revert x1; intro _)
    | with_reducible apply Still.answers | with_reducible apply State.codeRead_still
    | with_reducible apply State.upset_still | split)

theorem State.copyErrors_still {s0 : State} {s : State} {lo : ℕ} {hi : ℕ} (h0 : Still s0 s) :
    Still s0 (State.copyErrors s lo hi) := by
  unfold State.copyErrors
  repeat' (first
    | with_reducible assumption | intro _ | with_reducible apply State.codeRead_still | dsimp only
    | with_reducible apply Still.foldl)

theorem execRetCopyEnd_still {s0 : State} {s : State} (h0 : Still s0 s) :
    NextAll (Still s0) (execRetCopyEnd s) := by
  unfold execRetCopyEnd
  repeat' (first
    | with_reducible assumption
    | (extract_lets +onlyGivenNames x1; have hx1 : Still s0 x1 := ?_; clear_value x1; revert x1; intro _ _; rotate_left; unfold x1; clear x1)
    | (extract_lets +onlyGivenNames x1; have _m : Mem := x1; clear _m; unfold x1; clear x1)
    | with_reducible apply Still.answers | with_reducible apply State.nvmQueue_still
    | with_reducible apply State.free_still | with_reducible apply State.copyErrors_still | split
    | (rw [State.lit_eq]; with_reducible refine Still.mk' ?_ rfl))

theorem execSramCopyEnd_still {s0 : State} {s : State} (h0 : Still s0 s) :
    NextAll (Still s0) (execSramCopyEnd s) := by
  unfold execSramCopyEnd
  repeat' (first
    | with_reducible assumption
    | (extract_lets +onlyGivenNames x1; have hx1 : Still s0 x1 := ?_; clear_value x1; revert x1; intro _ _; rotate_left; unfold x1; clear x1)
    | (extract_lets +onlyGivenNames x1; have _m : Mem := x1; clear _m; unfold x1; clear x1)
    | with_reducible apply Still.answers | with_reducible apply State.nvmQueue_still
    | with_reducible apply State.free_still | with_reducible apply State.copyErrors_still | split
    | (rw [State.lit_eq]; with_reducible refine Still.mk' ?_ rfl))

theorem execLearningStart_still {s0 : State} {e : Fin 64} {s : State} (h0 : Still s0 s) :
    NextAll (Still s0) (execLearningStart e s) := by
  unfold execLearningStart
  repeat' (first
    | with_reducible assumption
    | (extract_lets +onlyGivenNames x1; (fail_if_success have _f := fun a => x1 a); clear_value x1; revert x1; intro _)
    | with_reducible apply Still.answers | with_reducible apply State.setLearn_still | split)

theorem State.lrnAbandon_still {s0 : State} {s : State} {n : ℕ} {lo : ℕ} (h0 : Still s0 s) :
    Still s0 (State.lrnAbandon s n lo) := by
  unfold State.lrnAbandon
  repeat' (first
    | with_reducible assumption | with_reducible apply State.inc_still | with_reducible apply State.flag_still)

theorem State.lrnAbandon_kept {s0 : State} {s : State} {n : ℕ} {lo : ℕ} (h0 : Kept s0 s) :
    Kept s0 (State.lrnAbandon s n lo) :=
  h0.still (State.lrnAbandon_still (Still.refl _))

theorem State.learnShot_kept {s0 : State} {s : State} {n : ℕ} {x : LearnWin} (h0 : Kept s0 s) :
    Kept s0 (State.learnShot s n x) := by
  unfold State.learnShot
  repeat' (first
    | with_reducible assumption
    | (extract_lets +onlyGivenNames x1; (fail_if_success have _f := fun a => x1 a); clear_value x1; revert x1; intro _)
    | with_reducible apply State.setF_kept | with_reducible apply State.lrnAbandon_kept
    | with_reducible apply State.memWords_kept | with_reducible apply State.inc_kept
    | with_reducible apply State.cellLoad_kept | with_reducible apply State.memWrite_kept | split
    | with_reducible refine Kept.pair ?_ (by assumption))

theorem execLearningComplete_kept {s0 : State} {e : Fin 64} {s : State} (h0 : Kept s0 s) :
    NextAll (Kept s0) (execLearningComplete e s) := by
  unfold execLearningComplete
  repeat' (first
    | with_reducible assumption
    | (extract_lets +onlyGivenNames x1; have hx1 : Kept s0 x1 := ?_; clear_value x1; revert x1; intro _ _; rotate_left; unfold x1; clear x1)
    | (extract_lets +onlyGivenNames x1; (fail_if_success have _f := fun a => x1 a); clear_value x1; revert x1; intro _)
    | with_reducible apply Kept.answers | with_reducible apply State.setLearn_kept
    | with_reducible apply State.setF_kept | with_reducible apply State.learnShot_kept | split)

theorem State.setLcell_still {s0 : State} {s : State} {g : ℕ} {c : LCell} (h0 : Still s0 s) :
    Still s0 (State.setLcell s g c) := by
  unfold State.setLcell
  repeat' (first
    | with_reducible assumption
    | (extract_lets +onlyGivenNames x1; (fail_if_success have _f := fun a => x1 a); clear_value x1; revert x1; intro _)
    | (rw [State.lit_eq]; with_reducible refine Still.mk' ?_ rfl))

theorem State.rgLoad_still {s0 : State} {s : State} {r : ℕ} {l : List Byte} (h0 : Still s0 s) :
    Still s0 (State.rgLoad s r l) := by
  unfold State.rgLoad
  repeat' (first
    | with_reducible assumption | intro _
    | (extract_lets +onlyGivenNames x1; have hx1 : Still s0 x1 := ?_; clear_value x1; revert x1; intro _ _; rotate_left; unfold x1; clear x1)
    | (extract_lets +onlyGivenNames x1; (fail_if_success have _f := fun a => x1 a); clear_value x1; revert x1; intro _)
    | with_reducible apply State.setLcell_still | with_reducible apply Still.foldl
    | (rw [State.lit_eq]; with_reducible refine Still.mk' ?_ rfl))

theorem State.rgLoad_kept {s0 : State} {s : State} {r : ℕ} {l : List Byte} (h0 : Kept s0 s) :
    Kept s0 (State.rgLoad s r l) :=
  h0.still (State.rgLoad_still (Still.refl _))

theorem State.setRegion_still {s0 : State} {s : State} {r : ℕ} {x : Region} (h0 : Still s0 s) :
    Still s0 (State.setRegion s r x) := by
  unfold State.setRegion
  repeat' (first
    | with_reducible assumption
    | (extract_lets +onlyGivenNames x1; (fail_if_success have _f := fun a => x1 a); clear_value x1; revert x1; intro _)
    | (rw [State.lit_eq]; with_reducible refine Still.mk' ?_ rfl))

theorem State.setRegion_kept {s0 : State} {s : State} {r : ℕ} {x : Region} (h0 : Kept s0 s) :
    Kept s0 (State.setRegion s r x) :=
  h0.still (State.setRegion_still (Still.refl _))

theorem State.setLport_still {s0 : State} {s : State} {p : ℕ} {x : LPort} (h0 : Still s0 s) :
    Still s0 (State.setLport s p x) := by
  unfold State.setLport
  repeat' (first
    | with_reducible assumption
    | (extract_lets +onlyGivenNames x1; (fail_if_success have _f := fun a => x1 a); clear_value x1; revert x1; intro _)
    | (rw [State.lit_eq]; with_reducible refine Still.mk' ?_ rfl))

theorem State.mapCells_still {s0 : State} {s : State} {f : ℕ → LCell → LCell} (h0 : Still s0 s) :
    Still s0 (State.mapCells s f) := by
  unfold State.mapCells
  repeat' (first
    | with_reducible assumption | intro _ | with_reducible apply State.setLcell_still | dsimp only
    | with_reducible apply Still.foldl)

theorem State.fabricFree_still {s0 : State} {s : State} (h0 : Still s0 s) :
    Still s0 (State.fabricFree s) := by
  unfold State.fabricFree
  repeat' (first
    | with_reducible assumption | with_reducible apply State.mapCells_still | split)

theorem execLogicPortRx_still {s0 : State} {p : Fin 256} {s : State} (h0 : Still s0 s) :
    NextAll (Still s0) (execLogicPortRx p s) := by
  unfold execLogicPortRx
  repeat' (first
    | with_reducible assumption
    | (extract_lets +onlyGivenNames x1; (fail_if_success have _f := fun a => x1 a); clear_value x1; revert x1; intro _)
    | with_reducible apply Still.answers | with_reducible apply State.put_still
    | with_reducible apply State.setLport_still | with_reducible refine State.takeArrived_still ?_ (by assumption)
    | split)

theorem State.toInit_still {s0 : State} {s : State} {r : ℕ} (h0 : Still s0 s) :
    Still s0 (State.toInit s r) := by
  unfold State.toInit
  repeat' (first
    | with_reducible assumption | intro _ | with_reducible apply State.setLcell_still | dsimp only
    | with_reducible apply Still.foldl)

theorem State.freeze_still {s0 : State} {s : State} {r : ℕ} (h0 : Still s0 s) :
    Still s0 (State.freeze s r) := by
  unfold State.freeze
  repeat' (first
    | with_reducible assumption
    | (extract_lets +onlyGivenNames x1; (fail_if_success have _f := fun a => x1 a); clear_value x1; revert x1; intro _)
    | with_reducible apply State.setRegion_still)

theorem State.capClockLost_still {s0 : State} {s : State} {k : ℕ} (h0 : Still s0 s) :
    Still s0 (State.capClockLost s k) := by
  unfold State.capClockLost
  repeat' (first
    | with_reducible assumption | with_reducible apply State.setF_still | with_reducible apply State.flag_still | split)

theorem State.rgBadop_still {s0 : State} {s : State} {r : ℕ} (h0 : Still s0 s) :
    Still s0 (State.rgBadop s r) := by
  unfold State.rgBadop
  repeat' (first
    | with_reducible assumption | with_reducible apply State.flag_still)

theorem State.rgLate_still {s0 : State} {s : State} {r : ℕ} (h0 : Still s0 s) :
    Still s0 (State.rgLate s r) := by
  unfold State.rgLate
  repeat' (first
    | with_reducible assumption | with_reducible apply State.flag_still)

theorem State.capDataRead_still {s0 : State} {s : State} (h0 : Still s0 s) :
    Still s0 (State.capDataRead s).2 := by
  unfold State.capDataRead
  repeat' (first
    | with_reducible assumption
    | (extract_lets +onlyGivenNames x1; (fail_if_success have _f := fun a => x1 a); clear_value x1; revert x1; intro _)
    | with_reducible apply State.setF_still)

theorem State.setRgState_still {s0 : State} {s : State} {r : ℕ} {x : ℕ} (h0 : Still s0 s) :
    Still s0 (State.setRgState s r x) := by
  unfold State.setRgState
  repeat' (first
    | with_reducible assumption | with_reducible apply State.setF_still)

theorem State.setRgState_kept {s0 : State} {s : State} {r : ℕ} {x : ℕ} (h0 : Kept s0 s) :
    Kept s0 (State.setRgState s r x) :=
  h0.still (State.setRgState_still (Still.refl _))

theorem State.capTrigger_still {s0 : State} {s : State} (h0 : Still s0 s) :
    Still s0 (State.capTrigger s) := by
  unfold State.capTrigger
  repeat' (first
    | with_reducible assumption
    | (extract_lets +onlyGivenNames x1; (fail_if_success have _f := fun a => x1 a); clear_value x1; revert x1; intro _)
    | with_reducible apply State.flag_still | split | (rw [State.lit_eq]; with_reducible refine Still.mk' ?_ rfl))

theorem State.capTrigger_kept {s0 : State} {s : State} (h0 : Kept s0 s) :
    Kept s0 (State.capTrigger s) :=
  h0.still (State.capTrigger_still (Still.refl _))

theorem execObsTrigger_still {s0 : State} {s : State} (h0 : Still s0 s) :
    NextAll (Still s0) (execObsTrigger s) := by
  unfold execObsTrigger
  repeat' (first
    | with_reducible assumption | with_reducible apply Still.answers | with_reducible apply State.capTrigger_still | split)

theorem State.lgcApplied_still {s0 : State} {s : State} {r : ℕ} (h0 : Still s0 s) :
    Still s0 (State.lgcApplied s r) := by
  unfold State.lgcApplied
  repeat' (first
    | with_reducible assumption | with_reducible apply State.setF_still)

theorem State.rgClear_still {s0 : State} {s : State} {r : ℕ} (h0 : Still s0 s) :
    Still s0 (State.rgClear s r) := by
  unfold State.rgClear
  repeat' (first
    | with_reducible assumption
    | (extract_lets +onlyGivenNames x1; have hx1 : Still s0 x1 := ?_; clear_value x1; revert x1; intro _ _; rotate_left; unfold x1; clear x1)
    | (extract_lets +onlyGivenNames x1; (fail_if_success have _f := fun a => x1 a); clear_value x1; revert x1; intro _)
    | with_reducible apply State.setF_still | with_reducible apply State.toInit_still
    | with_reducible apply State.setRegion_still | split)

theorem State.rgClear_kept {s0 : State} {s : State} {r : ℕ} (h0 : Kept s0 s) :
    Kept s0 (State.rgClear s r) :=
  h0.still (State.rgClear_still (Still.refl _))

theorem State.rgFail_still {s0 : State} {s : State} {r : ℕ} {cause : ℕ} (h0 : Still s0 s) :
    Still s0 (State.rgFail s r cause) := by
  unfold State.rgFail
  repeat' (first
    | with_reducible assumption | with_reducible apply State.setF_still | with_reducible apply State.toInit_still
    | with_reducible apply State.setRgState_still)

theorem State.rgFail_kept {s0 : State} {s : State} {r : ℕ} {cause : ℕ} (h0 : Kept s0 s) :
    Kept s0 (State.rgFail s r cause) :=
  h0.still (State.rgFail_still (Still.refl _))

theorem State.rgRelease_still {s0 : State} {s : State} {r : ℕ} (h0 : Still s0 s) :
    Still s0 (State.rgRelease s r) := by
  unfold State.rgRelease
  repeat' (first
    | with_reducible assumption | intro _ | with_reducible apply State.setF_still
    | with_reducible apply State.releaseBorder_still | with_reducible apply State.setRgState_still
    | with_reducible apply Still.foldl)

theorem State.rgRelease_kept {s0 : State} {s : State} {r : ℕ} (h0 : Kept s0 s) :
    Kept s0 (State.rgRelease s r) :=
  h0.still (State.rgRelease_still (Still.refl _))

theorem State.portOffer_still {s0 : State} {s : State} {p : ℕ} {w : Word} (h0 : Still s0 s) :
    Still s0 (State.portOffer s p w) := by
  unfold State.portOffer
  repeat' (first
    | with_reducible assumption
    | (extract_lets +onlyGivenNames x1; (fail_if_success have _f := fun a => x1 a); clear_value x1; revert x1; intro _)
    | with_reducible apply State.offer_still | with_reducible apply State.setLport_still | split)

theorem State.rgDisable_still {s0 : State} {s : State} {r : ℕ} (h0 : Still s0 s) :
    Still s0 (State.rgDisable s r) := by
  unfold State.rgDisable
  repeat' (first
    | with_reducible assumption | with_reducible apply State.freeze_still | with_reducible apply State.setRgState_still
    | split)

theorem State.rgDisable_kept {s0 : State} {s : State} {r : ℕ} (h0 : Kept s0 s) :
    Kept s0 (State.rgDisable s r) :=
  h0.still (State.rgDisable_still (Still.refl _))

theorem State.rgEnable_still {s0 : State} {s : State} {r : ℕ} (h0 : Still s0 s) :
    Still s0 (State.rgEnable s r) := by
  unfold State.rgEnable
  repeat' (first
    | with_reducible assumption
    | (extract_lets +onlyGivenNames x1; (fail_if_success have _f := fun a => x1 a); clear_value x1; revert x1; intro _)
    | with_reducible apply State.rgRelease_still | with_reducible apply State.rgBadop_still
    | with_reducible apply State.setRgState_still | split)

theorem State.rgEnable_kept {s0 : State} {s : State} {r : ℕ} (h0 : Kept s0 s) :
    Kept s0 (State.rgEnable s r) :=
  h0.still (State.rgEnable_still (Still.refl _))

theorem State.rgUcmd_still {s0 : State} {s : State} {r : ℕ} {code : ℕ} (h0 : Still s0 s) :
    OptAll (Still s0) (State.rgUcmd s r code) := by
  unfold State.rgUcmd
  repeat' (first
    | with_reducible assumption | with_reducible apply Still.none | with_reducible apply Still.some
    | with_reducible apply State.rgClear_still | with_reducible apply State.rgEnable_still
    | with_reducible apply State.rgDisable_still | split)

theorem State.rgUcmd_kept {s0 : State} {s : State} {r : ℕ} {code : ℕ} (h0 : Kept s0 s) :
    OptAll (Kept s0) (State.rgUcmd s r code) := by
  unfold State.rgUcmd
  repeat' (first
    | with_reducible assumption | with_reducible apply Kept.none | with_reducible apply Kept.some
    | with_reducible apply State.rgClear_kept | with_reducible apply State.rgEnable_kept
    | with_reducible apply State.rgDisable_kept | split)

theorem State.gcEdge_still {s0 : State} {s : State} {k : ℕ} (h0 : Still s0 s) :
    Still s0 (State.gcEdge s k) := by
  unfold State.gcEdge
  repeat' (first
    | with_reducible assumption | intro _
    | (extract_lets +onlyGivenNames x1; have hx1 : Still s0 x1 := ?_; clear_value x1; revert x1; intro _ _; rotate_left; unfold x1; clear x1)
    | (extract_lets +onlyGivenNames x1; (fail_if_success have _f := fun a => x1 a); clear_value x1; revert x1; intro _)
    | with_reducible apply State.mapCells_still | with_reducible apply State.setLport_still
    | with_reducible apply State.portOffer_still | split | dsimp only | with_reducible apply Still.foldl)

theorem State.capCtlWrite_still {s0 : State} {s : State} {q : Req} {v : Word} (h0 : Still s0 s) :
    Still s0 (State.capCtlWrite s q v) := by
  unfold State.capCtlWrite
  repeat' (first
    | with_reducible assumption
    | (extract_lets +onlyGivenNames x1; have hx1 : Still s0 x1 := ?_; clear_value x1; revert x1; intro _ _; rotate_left; unfold x1; clear x1)
    | (extract_lets +onlyGivenNames x1; (fail_if_success have _f := fun a => x1 a); clear_value x1; revert x1; intro _)
    | with_reducible apply State.rsvd_still | with_reducible apply State.enqueue_still
    | with_reducible apply State.regWrite_still | with_reducible apply State.flag_still
    | with_reducible apply State.capTrigger_still | with_reducible apply State.discardOps_still | split
    | (rw [State.lit_eq]; with_reducible refine Still.mk' ?_ rfl))

theorem State.capCtlWrite_kept {s0 : State} {s : State} {q : Req} {v : Word} (h0 : Kept s0 s) :
    Kept s0 (State.capCtlWrite s q v) :=
  h0.still (State.capCtlWrite_still (Still.refl _))

theorem State.prbWrite_still {s0 : State} {s : State} {q : Req} {a : ℕ} {v : Word} (h0 : Still s0 s) :
    Still s0 (State.prbWrite s q a v) := by
  unfold State.prbWrite
  repeat' (first
    | with_reducible assumption | with_reducible apply State.regWrite_still | with_reducible apply State.flag_still
    | split)

theorem State.prbWrite_kept {s0 : State} {s : State} {q : Req} {a : ℕ} {v : Word} (h0 : Kept s0 s) :
    Kept s0 (State.prbWrite s q a v) :=
  h0.still (State.prbWrite_still (Still.refl _))

theorem State.fabricTick_still {s0 : State} {s : State} {t : ℕ} (h0 : Still s0 s) :
    Still s0 (State.fabricTick s t) := by
  unfold State.fabricTick
  repeat' (first
    | with_reducible assumption | intro _ | with_reducible apply State.gcEdge_still
    | with_reducible apply State.fabricFree_still | split | with_reducible apply Still.foldl)

theorem State.fabricTick_kept {s0 : State} {s : State} {t : ℕ} (h0 : Kept s0 s) :
    Kept s0 (State.fabricTick s t) :=
  h0.still (State.fabricTick_still (Still.refl _))

theorem execObsCapture_still {s0 : State} {s : State} (h0 : Still s0 s) :
    NextAll (Still s0) (execObsCapture s) := by
  unfold execObsCapture
  repeat' (first
    | with_reducible assumption | intro _
    | (extract_lets +onlyGivenNames x1; have hx1 : Still s0 x1 := ?_; clear_value x1; revert x1; intro _ _; rotate_left; unfold x1; clear x1)
    | (extract_lets +onlyGivenNames x1; (fail_if_success have _f := fun a => x1 a); clear_value x1; revert x1; intro _)
    | with_reducible apply Still.answers | with_reducible apply State.gcEdge_still
    | with_reducible apply State.setF_still | with_reducible apply State.put_still
    | with_reducible apply State.flag_still | split | with_reducible apply Still.foldl
    | (rw [State.lit_eq]; with_reducible refine Still.mk' ?_ rfl))

theorem execObsCapArm_still {s0 : State} {q : Req} {v : BitVec 31} {s : State} (h0 : Still s0 s) :
    NextAll (Still s0) (execObsCapArm q v s) := by
  unfold execObsCapArm
  repeat' (first
    | with_reducible assumption | intro _ | with_reducible apply Still.answers
    | with_reducible apply State.capCtlWrite_still | with_reducible apply State.guardWrite_still)

theorem execObsCapDataRead_still {s0 : State} {q : Req} {s : State} (h0 : Still s0 s) :
    NextAll (Still s0) (execObsCapDataRead q s) := by
  unfold execObsCapDataRead
  repeat' (first
    | with_reducible assumption | intro _ | with_reducible apply Still.answers
    | with_reducible apply State.capDataRead_still | with_reducible apply State.guardRead_still)

theorem State.rgReconf_still {s0 : State} {s : State} {q : Req} {r : ℕ} {auto : Bool} (h0 : Still s0 s) :
    Still s0 (State.rgReconf s q r auto) := by
  unfold State.rgReconf
  repeat' (first
    | with_reducible assumption | intro _
    | (extract_lets +onlyGivenNames x1; have hx1 : Still s0 x1 := ?_; clear_value x1; revert x1; intro _ _; rotate_left; unfold x1; clear x1)
    | (extract_lets +onlyGivenNames x1; (fail_if_success have _f := fun a => x1 a); clear_value x1; revert x1; intro _)
    | with_reducible apply State.freeze_still | with_reducible apply State.enterBorder_still
    | with_reducible apply State.setF_still | with_reducible apply State.rgBadop_still
    | with_reducible apply State.setRgState_still | with_reducible apply State.setRegion_still | split
    | with_reducible apply Still.foldl)

theorem execReconfLoadEnd_kept {s0 : State} {r : Fin 256} {s : State} (h0 : Kept s0 s) :
    NextAll (Kept s0) (execReconfLoadEnd r s) := by
  unfold execReconfLoadEnd
  repeat' (first
    | with_reducible assumption
    | (extract_lets +onlyGivenNames x1; have hx1 : Kept s0 x1 := ?_; clear_value x1; revert x1; intro _ _; rotate_left; unfold x1; clear x1)
    | (extract_lets +onlyGivenNames x1; (fail_if_success have _f := fun a => x1 a); clear_value x1; revert x1; intro _)
    | with_reducible apply Kept.answers | with_reducible apply State.memRead_kept
    | with_reducible apply State.rgRelease_kept | with_reducible apply State.rgLoad_kept
    | with_reducible apply State.rgFail_kept | with_reducible apply State.setRgState_kept | split
    | with_reducible refine Kept.pair ?_ (by assumption))

theorem State.rgCtlWrite_still {s0 : State} {s : State} {q : Req} {r : ℕ} {v : Word} (h0 : Still s0 s) :
    Still s0 (State.rgCtlWrite s q r v) := by
  unfold State.rgCtlWrite
  repeat' (first
    | with_reducible assumption
    | (extract_lets +onlyGivenNames x1; have hx1 : Still s0 x1 := ?_; clear_value x1; revert x1; intro _ _; rotate_left; unfold x1; clear x1)
    | (extract_lets +onlyGivenNames x1; (fail_if_success have _f := fun a => x1 a); clear_value x1; revert x1; intro _)
    | with_reducible apply State.rsvd_still | with_reducible apply State.rgClear_still
    | with_reducible apply State.regWrite_still | with_reducible apply State.rgEnable_still
    | with_reducible apply State.rgDisable_still | with_reducible apply State.rgReconf_still | split)

theorem execLgcDisable_still {s0 : State} {q : Req} {r : Fin 256} {s : State} (h0 : Still s0 s) :
    NextAll (Still s0) (execLgcDisable q r s) := by
  unfold execLgcDisable
  repeat' (first
    | with_reducible assumption | intro _ | with_reducible apply Still.answers
    | with_reducible apply State.guardWrite_still | with_reducible apply State.rgCtlWrite_still)

theorem execLgcClear_still {s0 : State} {q : Req} {r : Fin 256} {s : State} (h0 : Still s0 s) :
    NextAll (Still s0) (execLgcClear q r s) := by
  unfold execLgcClear
  repeat' (first
    | with_reducible assumption | intro _ | with_reducible apply Still.answers
    | with_reducible apply State.guardWrite_still | with_reducible apply State.rgCtlWrite_still)

theorem execLgcReconf_still {s0 : State} {q : Req} {r : Fin 256} {auto : Bool} {s : State} (h0 : Still s0 s) :
    NextAll (Still s0) (execLgcReconf q r auto s) := by
  unfold execLgcReconf
  repeat' (first
    | with_reducible assumption | intro _ | with_reducible apply Still.answers
    | with_reducible apply State.guardWrite_still | with_reducible apply State.rgCtlWrite_still)

theorem execLgcEnable_still {s0 : State} {q : Req} {r : Fin 256} {s : State} (h0 : Still s0 s) :
    NextAll (Still s0) (execLgcEnable q r s) := by
  unfold execLgcEnable
  repeat' (first
    | with_reducible assumption | intro _ | with_reducible apply Still.answers
    | with_reducible apply State.guardWrite_still | with_reducible apply State.rgCtlWrite_still)

end Sys2Proof.Machine
end

