-- ==== Sys2Proof/Laws/FrameCtx.lean ====
section
/-! SUPPORT. What each function of Machine/Ctx.lean, Machine/Irq.lean, Machine/Pins.lean, Machine/Fence.lean, Machine/Trap.lean, Machine/Integer.lean, Machine/Control.lean, Machine/Stream.lean, Machine/AngleIns.lean leaves alone: `Still`, the queue of commands and
every byte of memory; `Kept`, the queue, and the canonical form of memory. -/

set_option linter.unreachableTactic false
set_option linter.unusedTactic false
set_option linter.unusedVariables false
set_option linter.tactic.unusedName false

namespace Sys2Proof.Machine

theorem State.heldRecord_still {s0 : State} {s : State} {c : ℕ} {src : ℕ} {code : ℕ} {first : ℕ} {second : ℕ}
    (h0 : Still s0 s) :
    Still s0 (State.heldRecord s c src code first second) := by
  unfold State.heldRecord
  repeat' (first
    | with_reducible assumption | with_reducible apply State.put_still | split)

theorem State.unqueue_still {s0 : State} {s : State} {c : ℕ} (h0 : Still s0 s) :
    Still s0 (State.unqueue s c) := by
  unfold State.unqueue
  repeat' (first
    | with_reducible assumption
    | (extract_lets +onlyGivenNames x1; have hx1 : Still s0 x1 := ?_; clear_value x1; revert x1; intro _ _; rotate_left; unfold x1; clear x1)
    | (extract_lets +onlyGivenNames x1; (fail_if_success have _f := fun a => x1 a); clear_value x1; revert x1; intro _)
    | with_reducible apply State.setCtx_still | (rw [State.lit_eq]; with_reducible refine Still.mk' ?_ rfl))

theorem State.endWait_still {s0 : State} {s : State} {c : ℕ} (h0 : Still s0 s) :
    Still s0 (State.endWait s c) := by
  unfold State.endWait
  repeat' (first
    | with_reducible assumption
    | (extract_lets +onlyGivenNames x1; (fail_if_success have _f := fun a => x1 a); clear_value x1; revert x1; intro _)
    | with_reducible apply State.unqueue_still | (rw [State.lit_eq]; with_reducible refine Still.mk' ?_ rfl))

theorem State.endWait_kept {s0 : State} {s : State} {c : ℕ} (h0 : Kept s0 s) :
    Kept s0 (State.endWait s c) :=
  h0.still (State.endWait_still (Still.refl _))

theorem State.setCtxState_still {s0 : State} {s : State} {c : ℕ} {x : ℕ} (h0 : Still s0 s) :
    Still s0 (State.setCtxState s c x) := by
  unfold State.setCtxState
  repeat' (first
    | with_reducible assumption | with_reducible apply State.setF_still | split
    | (rw [State.lit_eq]; with_reducible refine Still.mk' ?_ rfl))

theorem State.setCtxState_kept {s0 : State} {s : State} {c : ℕ} {x : ℕ} (h0 : Kept s0 s) :
    Kept s0 (State.setCtxState s c x) :=
  h0.still (State.setCtxState_still (Still.refl _))

theorem State.holdCtx_still {s0 : State} {s : State} {c : ℕ} {src : ℕ} (h0 : Still s0 s) :
    Still s0 (State.holdCtx s c src) := by
  unfold State.holdCtx
  repeat' (first
    | with_reducible assumption
    | (extract_lets +onlyGivenNames x1; (fail_if_success have _f := fun a => x1 a); clear_value x1; revert x1; intro _)
    | with_reducible apply State.heldRecord_still | with_reducible apply State.setCtxState_still
    | with_reducible apply State.setCtx_still | with_reducible apply State.endWait_still | split)

theorem State.holdCtx_kept {s0 : State} {s : State} {c : ℕ} {src : ℕ} (h0 : Kept s0 s) :
    Kept s0 (State.holdCtx s c src) :=
  h0.still (State.holdCtx_still (Still.refl _))

theorem State.resumeCtx_still {s0 : State} {s : State} {c : ℕ} (h0 : Still s0 s) :
    Still s0 (State.resumeCtx s c) := by
  unfold State.resumeCtx
  repeat' (first
    | with_reducible assumption
    | (extract_lets +onlyGivenNames x1; (fail_if_success have _f := fun a => x1 a); clear_value x1; revert x1; intro _)
    | with_reducible apply State.heldRecord_still | with_reducible apply State.setCtxState_still
    | with_reducible apply State.setCtx_still | split)

theorem State.resumeCtx_kept {s0 : State} {s : State} {c : ℕ} (h0 : Kept s0 s) :
    Kept s0 (State.resumeCtx s c) :=
  h0.still (State.resumeCtx_still (Still.refl _))

theorem State.setIrqSrc_still {s0 : State} {s : State} {n : ℕ} {x : IrqSrc} (h0 : Still s0 s) :
    Still s0 (State.setIrqSrc s n x) := by
  unfold State.setIrqSrc
  repeat' (first
    | with_reducible assumption
    | (extract_lets +onlyGivenNames x1; (fail_if_success have _f := fun a => x1 a); clear_value x1; revert x1; intro _)
    | (rw [State.lit_eq]; with_reducible refine Still.mk' ?_ rfl))

theorem State.irqEnd_still {s0 : State} {s : State} {n : ℕ} (h0 : Still s0 s) :
    Still s0 (State.irqEnd s n) := by
  unfold State.irqEnd
  repeat' (first
    | with_reducible assumption
    | (extract_lets +onlyGivenNames x1; (fail_if_success have _f := fun a => x1 a); clear_value x1; revert x1; intro _)
    | with_reducible apply State.setIrqSrc_still | split)

theorem State.occTaken_still {s0 : State} {s : State} {n : ℕ} (h0 : Still s0 s) :
    Still s0 (State.occTaken s n) := by
  unfold State.occTaken
  repeat' (first
    | with_reducible assumption
    | (extract_lets +onlyGivenNames x1; (fail_if_success have _f := fun a => x1 a); clear_value x1; revert x1; intro _)
    | (rw [State.lit_eq]; with_reducible refine Still.mk' ?_ rfl))

theorem State.irqReset_still {s0 : State} {s : State} {i : ℕ} (h0 : Still s0 s) :
    Still s0 (State.irqReset s i) := by
  unfold State.irqReset
  repeat' (first
    | with_reducible assumption | intro _
    | (extract_lets +onlyGivenNames x1; have hx1 : Still s0 x1 := ?_; clear_value x1; revert x1; intro _ _; rotate_left; unfold x1; clear x1)
    | with_reducible apply State.irqEnd_still | with_reducible apply State.occTaken_still
    | with_reducible apply State.put_still | with_reducible apply State.setIrqSrc_still | split | dsimp only
    | with_reducible apply Still.foldl)

theorem State.irqReset_kept {s0 : State} {s : State} {i : ℕ} (h0 : Kept s0 s) :
    Kept s0 (State.irqReset s i) :=
  h0.still (State.irqReset_still (Still.refl _))

theorem State.unitFault_still {s0 : State} {s : State} {i : ℕ} {unit : ℕ} {sub : ℕ} {gen : ℕ} (h0 : Still s0 s) :
    Still s0 (State.unitFault s i unit sub gen) := by
  unfold State.unitFault
  repeat' (first
    | with_reducible assumption | with_reducible apply State.put_still | with_reducible apply State.flag_still | split)

theorem State.irqTell_still {s0 : State} {s : State} {n : ℕ} {event : Bool} {raised : Bool} (h0 : Still s0 s) :
    Still s0 (State.irqTell s n event raised) := by
  unfold State.irqTell
  repeat' (first
    | with_reducible assumption | intro _
    | (extract_lets +onlyGivenNames x1; have hx1 : Still s0 x1 := ?_; clear_value x1; revert x1; intro _ _; rotate_left; unfold x1; clear x1)
    | with_reducible apply State.send_still | split | with_reducible apply Still.foldl)

theorem State.irqClaim_still {s0 : State} {s : State} {q : Req} {n : ℕ} (h0 : Still s0 s) :
    Still s0 (State.irqClaim s q n) := by
  unfold State.irqClaim
  repeat' (first
    | with_reducible assumption
    | (extract_lets +onlyGivenNames x1; (fail_if_success have _f := fun a => x1 a); clear_value x1; revert x1; intro _)
    | with_reducible apply State.setF_still | with_reducible apply State.setIrqSrc_still | split)

theorem State.irqChange_still {s0 : State} {s : State} {n : ℕ} (h0 : Still s0 s) :
    Still s0 (State.irqChange s n) := by
  unfold State.irqChange
  repeat' (first
    | with_reducible assumption
    | (extract_lets +onlyGivenNames x1; have hx1 : Still s0 x1 := ?_; clear_value x1; revert x1; intro _ _; rotate_left; unfold x1; clear x1)
    | (extract_lets +onlyGivenNames x1; (fail_if_success have _f := fun a => x1 a); clear_value x1; revert x1; intro _)
    | with_reducible apply State.occTaken_still | with_reducible apply State.irqTell_still
    | with_reducible apply State.setIrqSrc_still | split)

theorem execIrqSourceChange_still {s0 : State} {n : Fin 4096} {s : State} (h0 : Still s0 s) :
    NextAll (Still s0) (execIrqSourceChange n s) := by
  unfold execIrqSourceChange
  repeat' (first
    | with_reducible assumption | with_reducible apply Still.answers | with_reducible apply State.irqChange_still | split)

theorem State.irqDone_still {s0 : State} {s : State} {q : Req} {v : Word} (h0 : Still s0 s) :
    Still s0 (State.irqDone s q v) := by
  unfold State.irqDone
  repeat' (first
    | with_reducible assumption
    | (extract_lets +onlyGivenNames x1; have hx1 : Still s0 x1 := ?_; clear_value x1; revert x1; intro _ _; rotate_left; unfold x1; clear x1)
    | (extract_lets +onlyGivenNames x1; (fail_if_success have _f := fun a => x1 a); clear_value x1; revert x1; intro _)
    | with_reducible apply State.irqEnd_still | with_reducible apply State.regWrite_still
    | with_reducible apply State.flag_still | split)

theorem State.irqDone_kept {s0 : State} {s : State} {q : Req} {v : Word} (h0 : Kept s0 s) :
    Kept s0 (State.irqDone s q v) :=
  h0.still (State.irqDone_still (Still.refl _))

theorem execIrqDone_still {s0 : State} {q : Req} {v : Word} {s : State} (h0 : Still s0 s) :
    NextAll (Still s0) (execIrqDone q v s) := by
  unfold execIrqDone
  repeat' (first
    | with_reducible assumption | intro _ | with_reducible apply Still.answers
    | with_reducible apply State.guardWrite_still | with_reducible apply State.irqDone_still)

theorem execIrqClaimRead_still {s0 : State} {q : Req} {s : State} (h0 : Still s0 s) :
    NextAll (Still s0) (execIrqClaimRead q s) := by
  unfold execIrqClaimRead
  repeat' (first
    | with_reducible assumption | intro _ | with_reducible apply Still.answers
    | with_reducible apply State.guardRead_still)

theorem State.irqClaimWrite_still {s0 : State} {s : State} {q : Req} {v : Word} (h0 : Still s0 s) :
    Still s0 (State.irqClaimWrite s q v) := by
  unfold State.irqClaimWrite
  repeat' (first
    | with_reducible assumption | with_reducible apply State.regWrite_still | with_reducible apply State.irqClaim_still)

theorem State.irqClaimWrite_kept {s0 : State} {s : State} {q : Req} {v : Word} (h0 : Kept s0 s) :
    Kept s0 (State.irqClaimWrite s q v) :=
  h0.still (State.irqClaimWrite_still (Still.refl _))

theorem State.irqSwset_still {s0 : State} {s : State} {q : Req} {v : Word} (h0 : Still s0 s) :
    Still s0 (State.irqSwset s q v) := by
  unfold State.irqSwset
  repeat' (first
    | with_reducible assumption
    | (extract_lets +onlyGivenNames x1; have hx1 : Still s0 x1 := ?_; clear_value x1; revert x1; intro _ _; rotate_left; unfold x1; clear x1)
    | with_reducible apply State.occur_still | with_reducible apply State.regWrite_still | split)

theorem State.irqSwset_kept {s0 : State} {s : State} {q : Req} {v : Word} (h0 : Kept s0 s) :
    Kept s0 (State.irqSwset s q v) :=
  h0.still (State.irqSwset_still (Still.refl _))

theorem execIrqSwset_still {s0 : State} {q : Req} {v : Word} {s : State} (h0 : Still s0 s) :
    NextAll (Still s0) (execIrqSwset q v s) := by
  unfold execIrqSwset
  repeat' (first
    | with_reducible assumption | intro _ | with_reducible apply Still.answers | with_reducible apply State.irqSwset_still
    | with_reducible apply State.guardWrite_still)

theorem execIrqClaimWrite_still {s0 : State} {q : Req} {v : Word} {s : State} (h0 : Still s0 s) :
    NextAll (Still s0) (execIrqClaimWrite q v s) := by
  unfold execIrqClaimWrite
  repeat' (first
    | with_reducible assumption | intro _ | with_reducible apply Still.answers
    | with_reducible apply State.irqClaimWrite_still | with_reducible apply State.guardWrite_still)

theorem State.setPgroup_still {s0 : State} {s : State} {k : ℕ} {x : PGroup} (h0 : Still s0 s) :
    Still s0 (State.setPgroup s k x) := by
  unfold State.setPgroup
  repeat' (first
    | with_reducible assumption
    | (extract_lets +onlyGivenNames x1; (fail_if_success have _f := fun a => x1 a); clear_value x1; revert x1; intro _)
    | (rw [State.lit_eq]; with_reducible refine Still.mk' ?_ rfl))

theorem State.pmRecord_still {s0 : State} {s : State} {m : ℕ} (h0 : Still s0 s) :
    Still s0 (State.pmRecord s m) := by
  unfold State.pmRecord
  repeat' (first
    | with_reducible assumption
    | (extract_lets +onlyGivenNames x1; (fail_if_success have _f := fun a => x1 a); clear_value x1; revert x1; intro _)
    | with_reducible apply State.put_still)

theorem State.setPmWas_still {s0 : State} {s : State} {m : ℕ} {b : Bool} (h0 : Still s0 s) :
    Still s0 (State.setPmWas s m b) := by
  unfold State.setPmWas
  repeat' (first
    | with_reducible assumption
    | (extract_lets +onlyGivenNames x1; (fail_if_success have _f := fun a => x1 a); clear_value x1; revert x1; intro _)
    | (rw [State.lit_eq]; with_reducible refine Still.mk' ?_ rfl))

theorem State.setPinOe_still {s0 : State} {s : State} {n : ℕ} {b : Bool} (h0 : Still s0 s) :
    Still s0 (State.setPinOe s n b) := by
  unfold State.setPinOe
  repeat' (first
    | with_reducible assumption | with_reducible apply State.setF_still)

theorem State.portOwnerCode_still {s0 : State} {s : State} {p : ℕ} (h0 : Still s0 s) :
    Still s0 (State.portOwnerCode s p).2 := by
  unfold State.portOwnerCode
  repeat' (first
    | with_reducible assumption | with_reducible apply State.free_still | split)

theorem State.pmStep_still {s0 : State} {s : State} {m : ℕ} {changed : List ℕ} (h0 : Still s0 s) :
    Still s0 (State.pmStep s m changed) := by
  unfold State.pmStep
  repeat' (first
    | with_reducible assumption
    | (extract_lets +onlyGivenNames x1; have hx1 : Still s0 x1 := ?_; clear_value x1; revert x1; intro _ _; rotate_left; unfold x1; clear x1)
    | (extract_lets +onlyGivenNames x1; (fail_if_success have _f := fun a => x1 a); clear_value x1; revert x1; intro _)
    | with_reducible apply State.occur_still | with_reducible apply State.pmRecord_still
    | with_reducible apply State.setPmWas_still | split)

theorem State.setPinOut_still {s0 : State} {s : State} {n : ℕ} {b : Bool} (h0 : Still s0 s) :
    Still s0 (State.setPinOut s n b) := by
  unfold State.setPinOut
  repeat' (first
    | with_reducible assumption | with_reducible apply State.setF_still)

theorem State.pinRej_still {s0 : State} {s : State} {n : ℕ} {cause : ℕ} {src : ℕ} (h0 : Still s0 s) :
    Still s0 (State.pinRej s n cause src) := by
  unfold State.pinRej
  repeat' (first
    | with_reducible assumption
    | (extract_lets +onlyGivenNames x1; have hx1 : Still s0 x1 := ?_; clear_value x1; revert x1; intro _ _; rotate_left; unfold x1; clear x1)
    | with_reducible apply State.put_still | with_reducible apply State.flag_still | split)

theorem State.pinRej_kept {s0 : State} {s : State} {n : ℕ} {cause : ℕ} {src : ℕ} (h0 : Kept s0 s) :
    Kept s0 (State.pinRej s n cause src) :=
  h0.still (State.pinRej_still (Still.refl _))

theorem State.groupOffer_still {s0 : State} {s : State} {k : ℕ} (h0 : Still s0 s) :
    Still s0 (State.groupOffer s k) := by
  unfold State.groupOffer
  repeat' (first
    | with_reducible assumption
    | (extract_lets +onlyGivenNames x1; (fail_if_success have _f := fun a => x1 a); clear_value x1; revert x1; intro _)
    | with_reducible apply State.offer_still | with_reducible apply State.setPgroup_still | split)

theorem State.groupApply_still {s0 : State} {s : State} {k : ℕ} {w : Word} (h0 : Still s0 s) :
    Still s0 (State.groupApply s k w) := by
  unfold State.groupApply
  repeat' (first
    | with_reducible assumption | intro _ | with_reducible apply State.setPinOut_still
    | with_reducible apply State.pinRej_still | with_reducible apply State.digPins_still
    | with_reducible apply State.portOwnerCode_still | split | dsimp only | with_reducible apply Still.foldl)

theorem State.pinInputs_still {s0 : State} {s : State} {l : List (ℕ × Bool)} (h0 : Still s0 s) :
    Still s0 (State.pinInputs s l) := by
  unfold State.pinInputs
  repeat' (first
    | with_reducible assumption | intro _
    | (extract_lets +onlyGivenNames x1; have hx1 : Still s0 x1 := ?_; clear_value x1; revert x1; intro _ _; rotate_left; unfold x1; clear x1)
    | (extract_lets +onlyGivenNames x1; (fail_if_success have _f := fun a => x1 a); clear_value x1; revert x1; intro _)
    | with_reducible apply State.setF_still | with_reducible apply State.setPgroup_still
    | with_reducible apply State.pmStep_still | with_reducible apply State.groupOffer_still | split | dsimp only
    | with_reducible apply Still.foldl)

theorem State.pinBit_still {s0 : State} {s : State} {q : Req} {n : ℕ} {takes : Bool} {f : State → State}
    (h0 : Still s0 s) (h1 : ∀ a0, Still s0 a0 → Still s0 (f a0)) :
    Still s0 (State.pinBit s q n takes f) := by
  unfold State.pinBit
  repeat' (first
    | with_reducible assumption | with_reducible apply State.pinRej_still | with_reducible apply h1 | split)

theorem State.pinBit_kept {s0 : State} {s : State} {q : Req} {n : ℕ} {takes : Bool} {f : State → State}
    (h0 : Kept s0 s) (h1 : ∀ a0, Kept s0 a0 → Kept s0 (f a0)) :
    Kept s0 (State.pinBit s q n takes f) := by
  unfold State.pinBit
  repeat' (first
    | with_reducible assumption | with_reducible apply State.pinRej_kept | with_reducible apply h1 | split)

theorem State.pinSdrop_still {s0 : State} {s : State} (h0 : Still s0 s) :
    Still s0 (State.pinSdrop s) := by
  unfold State.pinSdrop
  repeat' (first
    | with_reducible assumption | with_reducible apply State.inc_still | with_reducible apply State.flag_still)

theorem State.pinOeWrite_still {s0 : State} {s : State} {q : Req} {g : ℕ} {v : Word} (h0 : Still s0 s) :
    Still s0 (State.pinOeWrite s q g v) := by
  unfold State.pinOeWrite
  repeat' (first
    | with_reducible assumption | intro _ | with_reducible apply State.setPinOe_still
    | with_reducible apply State.pinBit_still | dsimp only | with_reducible apply Still.foldl)

theorem execPinInputChange_still {s0 : State} {l : List (Fin 256 × Bool)} {s : State} (h0 : Still s0 s) :
    NextAll (Still s0) (execPinInputChange l s) := by
  unfold execPinInputChange
  repeat' (first
    | with_reducible assumption | with_reducible apply Still.answers | with_reducible apply State.pinInputs_still)

theorem execPinOeWrite_still {s0 : State} {q : Req} {g : Fin 16} {v : Word} {s : State} (h0 : Still s0 s) :
    NextAll (Still s0) (execPinOeWrite q g v s) := by
  unfold execPinOeWrite
  repeat' (first
    | with_reducible assumption | intro _ | with_reducible apply Still.answers
    | with_reducible apply State.guardWrite_still | with_reducible apply State.pinOeWrite_still)

theorem State.pinFabWrite_still {s0 : State} {s : State} {q : Req} {n : ℕ} {v : Word} (h0 : Still s0 s) :
    Still s0 (State.pinFabWrite s q n v) := by
  unfold State.pinFabWrite
  repeat' (first
    | with_reducible assumption | with_reducible apply State.pinRej_still | with_reducible apply State.regWrite_still
    | split)

theorem execPinFabWrite_still {s0 : State} {q : Req} {n : Fin 256} {v : Word} {s : State} (h0 : Still s0 s) :
    NextAll (Still s0) (execPinFabWrite q n v s) := by
  unfold execPinFabWrite
  repeat' (first
    | with_reducible assumption | intro _ | with_reducible apply Still.answers
    | with_reducible apply State.pinFabWrite_still | with_reducible apply State.guardWrite_still)

theorem State.pinw_still {s0 : State} {s : State} {q : Req} {t : ℕ} {v : Word} (h0 : Still s0 s) :
    Still s0 (State.pinw s q t v) := by
  unfold State.pinw
  repeat' (first
    | with_reducible assumption | intro _ | with_reducible apply State.setPinOut_still
    | with_reducible apply State.digPins_still | with_reducible apply State.pinBit_still | dsimp only
    | with_reducible apply Still.foldl)

theorem State.pinw_kept {s0 : State} {s : State} {q : Req} {t : ℕ} {v : Word} (h0 : Kept s0 s) :
    Kept s0 (State.pinw s q t v) :=
  h0.still (State.pinw_still (Still.refl _))

theorem State.pinOutWrite_still {s0 : State} {s : State} {q : Req} {g : ℕ} {v : Word} (h0 : Still s0 s) :
    Still s0 (State.pinOutWrite s q g v) := by
  unfold State.pinOutWrite
  repeat' (first
    | with_reducible assumption | intro _ | with_reducible apply State.setPinOut_still
    | with_reducible apply State.digPins_still | with_reducible apply State.pinBit_still | dsimp only
    | with_reducible apply Still.foldl)

theorem execPinOutWrite_still {s0 : State} {q : Req} {g : Fin 16} {v : Word} {s : State} (h0 : Still s0 s) :
    NextAll (Still s0) (execPinOutWrite q g v s) := by
  unfold execPinOutWrite
  repeat' (first
    | with_reducible assumption | intro _ | with_reducible apply Still.answers
    | with_reducible apply State.guardWrite_still | with_reducible apply State.pinOutWrite_still)

theorem State.pmWrite_still {s0 : State} {s : State} {q : Req} {m : ℕ} {r : ℕ} {v : Word} (h0 : Still s0 s) :
    Still s0 (State.pmWrite s q m r v) := by
  unfold State.pmWrite
  repeat' (first
    | with_reducible assumption
    | (extract_lets +onlyGivenNames x1; have hx1 : Still s0 x1 := ?_; clear_value x1; revert x1; intro _ _; rotate_left; unfold x1; clear x1)
    | (extract_lets +onlyGivenNames x1; (fail_if_success have _f := fun a => x1 a); clear_value x1; revert x1; intro _)
    | with_reducible apply State.regWrite_still | with_reducible apply State.setPmWas_still)

theorem State.pinLate_still {s0 : State} {s : State} (h0 : Still s0 s) :
    Still s0 (State.pinLate s) := by
  unfold State.pinLate
  repeat' (first
    | with_reducible assumption | with_reducible apply State.inc_still | with_reducible apply State.flag_still)

theorem State.pinCfgWrite_still {s0 : State} {s : State} {q : Req} {n : ℕ} {v : Word} (h0 : Still s0 s) :
    Still s0 (State.pinCfgWrite s q n v) := by
  unfold State.pinCfgWrite
  repeat' (first
    | with_reducible assumption
    | (extract_lets +onlyGivenNames x1; have hx1 : Still s0 x1 := ?_; clear_value x1; revert x1; intro _ _; rotate_left; unfold x1; clear x1)
    | (extract_lets +onlyGivenNames x1; (fail_if_success have _f := fun a => x1 a); clear_value x1; revert x1; intro _)
    | with_reducible apply State.rsvd_still | with_reducible apply State.pinRej_still
    | with_reducible apply State.regWrite_still | with_reducible apply State.stageRej_still | split
    | (rw [State.lit_eq]; with_reducible refine Still.mk' ?_ rfl))

theorem execPmWrite_still {s0 : State} {q : Req} {m : Fin 32} {r : Fin 3} {v : Word} {s : State} (h0 : Still s0 s) :
    NextAll (Still s0) (execPmWrite q m r v s) := by
  unfold execPmWrite
  repeat' (first
    | with_reducible assumption | intro _ | with_reducible apply Still.answers
    | with_reducible apply State.guardWrite_still | with_reducible apply State.pmWrite_still)

theorem execPinCfgWrite_still {s0 : State} {q : Req} {n : Fin 256} {v : Word} {s : State} (h0 : Still s0 s) :
    NextAll (Still s0) (execPinCfgWrite q n v s) := by
  unfold execPinCfgWrite
  repeat' (first
    | with_reducible assumption | intro _ | with_reducible apply Still.answers
    | with_reducible apply State.guardWrite_still | with_reducible apply State.pinCfgWrite_still)

theorem State.groupHead_still {s0 : State} {s : State} {k : ℕ} {y0 : ℕ} (h0 : Still s0 s) :
    Still s0 (State.groupHead s k y0) := by
  induction y0 generalizing s k with
  | zero =>
    unfold State.groupHead
    repeat' (first
      | with_reducible assumption)
  | succ _ ih =>
    unfold State.groupHead
    repeat' (first
      | with_reducible assumption | with_reducible apply ih
      | (extract_lets +onlyGivenNames x1; have hx1 : Still s0 x1 := ?_; clear_value x1; revert x1; intro _ _; rotate_left; unfold x1; clear x1)
      | (extract_lets +onlyGivenNames x1; (fail_if_success have _f := fun a => x1 a); clear_value x1; revert x1; intro _)
      | with_reducible apply State.pinSdrop_still | with_reducible apply State.enqueue_still
      | with_reducible apply State.groupApply_still | with_reducible apply State.setPgroup_still
      | with_reducible apply State.pinLate_still | split)

theorem State.groupRelease_still {s0 : State} {s : State} {k : ℕ} (h0 : Still s0 s) :
    Still s0 (State.groupRelease s k) := by
  unfold State.groupRelease
  repeat' (first
    | with_reducible assumption
    | (extract_lets +onlyGivenNames x1; (fail_if_success have _f := fun a => x1 a); clear_value x1; revert x1; intro _)
    | with_reducible apply State.setPgroup_still | with_reducible apply State.groupHead_still)

theorem State.groupRelease_kept {s0 : State} {s : State} {k : ℕ} (h0 : Kept s0 s) :
    Kept s0 (State.groupRelease s k) :=
  h0.still (State.groupRelease_still (Still.refl _))

theorem State.groupWord_still {s0 : State} {s : State} {k : ℕ} {w : CWord} (h0 : Still s0 s) :
    Still s0 (State.groupWord s k w) := by
  unfold State.groupWord
  repeat' (first
    | with_reducible assumption
    | (extract_lets +onlyGivenNames x1; (fail_if_success have _f := fun a => x1 a); clear_value x1; revert x1; intro _)
    | with_reducible apply State.pinSdrop_still | with_reducible apply State.setPgroup_still
    | with_reducible apply State.groupHead_still | split)

theorem execGpioGroupWord_still {s0 : State} {k : Fin 32} {s : State} (h0 : Still s0 s) :
    NextAll (Still s0) (execGpioGroupWord k s) := by
  unfold execGpioGroupWord
  repeat' (first
    | with_reducible assumption | with_reducible apply Still.answers | with_reducible apply State.groupWord_still
    | with_reducible refine State.takeArrived_still ?_ (by assumption) | split)

theorem State.partnerSend_still {s0 : State} {s : State} {l : List ℕ} (h0 : Still s0 s) :
    Still s0 (State.partnerSend s l) := by
  unfold State.partnerSend
  repeat' (first
    | with_reducible assumption | with_reducible apply State.send_still)

theorem State.partnerSend_kept {s0 : State} {s : State} {l : List ℕ} (h0 : Kept s0 s) :
    Kept s0 (State.partnerSend s l) :=
  h0.still (State.partnerSend_still (Still.refl _))

theorem State.twinDrop_still {s0 : State} {s : State} {cause : ℕ} (h0 : Still s0 s) :
    Still s0 (State.twinDrop s cause) := by
  unfold State.twinDrop
  repeat' (first
    | with_reducible assumption
    | (extract_lets +onlyGivenNames x1; (fail_if_success have _f := fun a => x1 a); clear_value x1; revert x1; intro _)
    | with_reducible apply State.setF_still | with_reducible apply State.partnerSend_still | split
    | (rw [State.lit_eq]; with_reducible refine Still.mk' ?_ rfl))

theorem State.deviceCheck_still {s0 : State} {s : State} {code : ℕ} (h0 : Still s0 s) :
    Still s0 (State.deviceCheck s code) := by
  unfold State.deviceCheck
  repeat' (first
    | with_reducible assumption | with_reducible apply State.free_still | with_reducible apply State.machineCheck_still)

theorem State.wakeSup_still {s0 : State} {s : State} (h0 : Still s0 s) :
    Still s0 (State.wakeSup s) := by
  unfold State.wakeSup
  repeat' (first
    | with_reducible assumption | with_reducible apply State.setCtxState_still | with_reducible apply State.endWait_still
    | split)

theorem State.holdAll_still {s0 : State} {s : State} {src : ℕ} (h0 : Still s0 s) :
    Still s0 (State.holdAll s src) := by
  unfold State.holdAll
  repeat' (first
    | with_reducible assumption | intro _ | with_reducible apply State.holdCtx_still | with_reducible apply Still.foldl)

theorem State.fence_still {s0 : State} {s : State} {cause : ℕ} (h0 : Still s0 s) :
    Still s0 (State.fence s cause) := by
  unfold State.fence
  repeat' (first
    | with_reducible assumption | intro _
    | (extract_lets +onlyGivenNames x1; have hx1 : Still s0 x1 := ?_; clear_value x1; revert x1; intro _ _; rotate_left; unfold x1; clear x1)
    | with_reducible apply State.deviceCheck_still | with_reducible apply State.setF_still
    | with_reducible apply State.latchCells_still | with_reducible apply State.cvgFence_still
    | with_reducible apply State.wakeSup_still | with_reducible apply State.holdAll_still
    | with_reducible apply State.flag_still | with_reducible apply State.latchDrvs_still
    | with_reducible apply State.twinDrop_still | split | with_reducible apply Still.foldl)

theorem State.fence_kept {s0 : State} {s : State} {cause : ℕ} (h0 : Kept s0 s) :
    Kept s0 (State.fence s cause) :=
  h0.still (State.fence_still (Still.refl _))

theorem State.liftFence_still {s0 : State} {s : State} (h0 : Still s0 s) :
    Still s0 (State.liftFence s) := by
  unfold State.liftFence
  repeat' (first
    | with_reducible assumption | intro _
    | (extract_lets +onlyGivenNames x1; have hx1 : Still s0 x1 := ?_; clear_value x1; revert x1; intro _ _; rotate_left; unfold x1; clear x1)
    | (extract_lets +onlyGivenNames x1; (fail_if_success have _f := fun a => x1 a); clear_value x1; revert x1; intro _)
    | with_reducible apply State.setF_still | with_reducible apply State.fence_still
    | with_reducible apply State.refreshCells_still | with_reducible apply Still.foldl
    | (rw [State.lit_eq]; with_reducible refine Still.mk' ?_ rfl))

theorem State.supHalt_still {s0 : State} {s : State} (h0 : Still s0 s) :
    Still s0 (State.supHalt s) := by
  unfold State.supHalt
  repeat' (first
    | with_reducible assumption | with_reducible apply State.occur_still | with_reducible apply State.setCtxState_still
    | with_reducible apply State.fence_still | with_reducible apply State.flag_still
    | with_reducible apply State.endWait_still)

theorem Done.raise_still {s0 : State} {s : State} {cause : ℕ} {sub : ℕ} {v : BitVec 64} (h0 : Still s0 s) :
    Done.All (Still s0) (Done.raise s cause sub v) := by
  unfold Done.raise
  repeat' (first
    | with_reducible assumption | with_reducible apply Done.still_trap)

theorem Done.raise_kept {s0 : State} {s : State} {cause : ℕ} {sub : ℕ} {v : BitVec 64} (h0 : Kept s0 s) :
    Done.All (Kept s0) (Done.raise s cause sub v) := by
  unfold Done.raise
  repeat' (first
    | with_reducible assumption | with_reducible apply Done.kept_trap)

theorem Done.illegal_still {s0 : State} {s : State} {w : Word} (h0 : Still s0 s) :
    Done.All (Still s0) (Done.illegal s w) := by
  unfold Done.illegal
  repeat' (first
    | with_reducible assumption | with_reducible apply Done.still_raise)

theorem Done.illegal_kept {s0 : State} {s : State} {w : Word} (h0 : Kept s0 s) :
    Done.All (Kept s0) (Done.illegal s w) := by
  unfold Done.illegal
  repeat' (first
    | with_reducible assumption | with_reducible apply Done.kept_raise)

theorem State.finish_still {s0 : State} {s : State} {c : ℕ} (h0 : Still s0 s) :
    Still s0 (State.finish s c) := by
  unfold State.finish
  repeat' (first
    | with_reducible assumption
    | (extract_lets +onlyGivenNames x1; (fail_if_success have _f := fun a => x1 a); clear_value x1; revert x1; intro _)
    | with_reducible apply State.resumeCtx_still | with_reducible apply State.setCtx_still)

theorem State.finish_kept {s0 : State} {s : State} {c : ℕ} (h0 : Kept s0 s) :
    Kept s0 (State.finish s c) :=
  h0.still (State.finish_still (Still.refl _))

theorem State.fetch_kept {s0 : State} {s : State} {c : ℕ} {pc : Word} (h0 : Kept s0 s) :
    Kept s0 (State.fetch s c pc).2 := by
  unfold State.fetch
  repeat' (first
    | with_reducible assumption
    | (extract_lets +onlyGivenNames x1; (fail_if_success have _f := fun a => x1 a); clear_value x1; revert x1; intro _)
    | with_reducible apply State.memRead_kept | with_reducible apply State.memReadIn_kept | split | dsimp only
    | with_reducible refine Kept.pair ?_ (by assumption))

theorem State.trapHold_still {s0 : State} {s : State} {c : ℕ} {code : ℕ} {first : ℕ} {second : ℕ} (h0 : Still s0 s) :
    Still s0 (State.trapHold s c code first second) := by
  unfold State.trapHold
  repeat' (first
    | with_reducible assumption
    | (extract_lets +onlyGivenNames x1; (fail_if_success have _f := fun a => x1 a); clear_value x1; revert x1; intro _)
    | with_reducible apply State.heldRecord_still | with_reducible apply State.setCtxState_still
    | with_reducible apply State.supHalt_still | with_reducible apply State.machineCheck_still
    | with_reducible apply State.setCtx_still | with_reducible apply State.endWait_still | split)

theorem State.windowTrap_still {s0 : State} {s : State} {c : ℕ} {cause : ℕ} {pt : Word} (h0 : Still s0 s) :
    Still s0 (State.windowTrap s c cause pt) := by
  unfold State.windowTrap
  repeat' (first
    | with_reducible assumption
    | (extract_lets +onlyGivenNames x1; (fail_if_success have _f := fun a => x1 a); clear_value x1; revert x1; intro _)
    | with_reducible apply State.trapHold_still | with_reducible apply State.setCtx_still | split)

theorem State.windowTrap_kept {s0 : State} {s : State} {c : ℕ} {cause : ℕ} {pt : Word} (h0 : Kept s0 s) :
    Kept s0 (State.windowTrap s c cause pt) :=
  h0.still (State.windowTrap_still (Still.refl _))

theorem State.trapEnter_still {s0 : State} {s : State} {c : ℕ} {t : Trap} {pt : Word} (h0 : Still s0 s) :
    Still s0 (State.trapEnter s c t pt).2 := by
  unfold State.trapEnter
  repeat' (first
    | with_reducible assumption
    | (extract_lets +onlyGivenNames x1; (fail_if_success have _f := fun a => x1 a); clear_value x1; revert x1; intro _)
    | with_reducible apply State.windowTrap_still | with_reducible apply State.trapHold_still
    | with_reducible apply State.setCtx_still | split)

theorem State.trapEnter_kept {s0 : State} {s : State} {c : ℕ} {t : Trap} {pt : Word} (h0 : Kept s0 s) :
    Kept s0 (State.trapEnter s c t pt).2 :=
  h0.still (State.trapEnter_still (Still.refl _))

theorem State.takeCheck_still {s0 : State} {s : State} (h0 : Still s0 s) :
    Still s0 (State.takeCheck s) := by
  unfold State.takeCheck
  repeat' (first
    | with_reducible assumption | with_reducible apply State.trapEnter_still | split
    | with_reducible refine Still.pair ?_ (by assumption)
    | (rw [State.lit_eq]; with_reducible refine Still.mk' ?_ rfl))

theorem State.takeCheck_kept {s0 : State} {s : State} (h0 : Kept s0 s) :
    Kept s0 (State.takeCheck s) :=
  h0.still (State.takeCheck_still (Still.refl _))

theorem State.takePosted_still {s0 : State} {s : State} {c : ℕ} (h0 : Still s0 s) :
    Still s0 (State.takePosted s c) := by
  unfold State.takePosted
  repeat' (first
    | with_reducible assumption
    | (extract_lets +onlyGivenNames x1; (fail_if_success have _f := fun a => x1 a); clear_value x1; revert x1; intro _)
    | with_reducible apply State.trapEnter_still | with_reducible apply State.setCtx_still | split
    | with_reducible refine Still.pair ?_ (by assumption))

theorem State.takePosted_kept {s0 : State} {s : State} {c : ℕ} (h0 : Kept s0 s) :
    Kept s0 (State.takePosted s c) :=
  h0.still (State.takePosted_still (Still.refl _))

theorem State.takeIrq_still {s0 : State} {s : State} {c : ℕ} (h0 : Still s0 s) :
    Still s0 (State.takeIrq s c) := by
  unfold State.takeIrq
  repeat' (first
    | with_reducible assumption | with_reducible apply State.trapEnter_still)

theorem State.takeIrq_kept {s0 : State} {s : State} {c : ℕ} (h0 : Kept s0 s) :
    Kept s0 (State.takeIrq s c) :=
  h0.still (State.takeIrq_still (Still.refl _))

theorem execTakeMachineCheck_still {s0 : State} {s : State} (h0 : Still s0 s) :
    NextAll (Still s0) (execTakeMachineCheck s) := by
  unfold execTakeMachineCheck
  repeat' (first
    | with_reducible assumption | with_reducible apply Still.answers | with_reducible apply State.takeCheck_still | split)

theorem State.settle_still {s0 y0 : State} {c : ℕ} {d : Done} (h0 : Still s0 y0) (h1 : Done.All (Still s0) d) :
    Still s0 (State.settle y0 c d) := by
  unfold State.settle
  cases d with
  | next s => exact State.setCtx_still h1
  | jump s pc => exact State.setCtx_still h1
  | trap s t => exact State.trapEnter_still h1
  | window s k => exact State.windowTrap_still h1
  | wait s st => exact State.setCtxState_still (State.setCtx_still h1)

theorem State.settle_kept {s0 y0 : State} {c : ℕ} {d : Done} (h0 : Kept s0 y0) (h1 : Done.All (Kept s0) d) :
    Kept s0 (State.settle y0 c d) := by
  unfold State.settle
  cases d with
  | next s => exact State.setCtx_kept h1
  | jump s pc => exact State.setCtx_kept h1
  | trap s t => exact State.trapEnter_kept h1
  | window s k => exact State.windowTrap_kept h1
  | wait s st => exact State.setCtxState_kept (State.setCtx_kept h1)

theorem State.waitTrap_still {s0 : State} {s : State} {c : ℕ} {t : Trap} (h0 : Still s0 s) :
    Still s0 (State.waitTrap s c t) := by
  unfold State.waitTrap
  repeat' (first
    | with_reducible assumption
    | (extract_lets +onlyGivenNames x1; have hx1 : Still s0 x1 := ?_; clear_value x1; revert x1; intro _ _; rotate_left; unfold x1; clear x1)
    | with_reducible apply State.resumeCtx_still | with_reducible apply State.trapEnter_still)

theorem execTakeInterrupt_still {s0 : State} {c : Fin 257} {s : State} (h0 : Still s0 s) :
    NextAll (Still s0) (execTakeInterrupt c s) := by
  unfold execTakeInterrupt
  repeat' (first
    | with_reducible assumption
    | (extract_lets +onlyGivenNames x1; have hx1 : Still s0 x1 := ?_; clear_value x1; revert x1; intro _ _; rotate_left; unfold x1; clear x1)
    | (extract_lets +onlyGivenNames x1; (fail_if_success have _f := fun a => x1 a); clear_value x1; revert x1; intro _)
    | with_reducible apply Still.answers | with_reducible apply State.takeCheck_still
    | with_reducible apply State.setCtxState_still | with_reducible apply State.takeIrq_still
    | with_reducible apply State.takePosted_still | with_reducible apply State.endWait_still | split)

theorem State.issue_kept {s0 s : State} {c : ℕ} {w : Word} {f : State → Done} (h0 : Kept s0 s)
    (h1 : ∀ a0, Kept s0 a0 → Done.All (Kept s0) (f a0)) : Kept s0 (State.issue s c w f) := by
  unfold State.issue
  split
  · exact h0
  split
  · exact State.takeCheck_kept h0
  have hf : Kept s0 (s.fetch c (s.ctx c).pc).2 := State.fetch_kept h0
  dsimp only
  generalize s.fetch c (s.ctx c).pc = p at hf
  obtain ⟨o, t⟩ := p
  cases o with
  | some sub => exact State.settle_kept hf (Done.kept_raise hf)
  | none =>
    dsimp only
    split
    · exact State.settle_kept hf (Done.kept_illegal hf)
    have hd := h1 t hf
    generalize f t = d at hd
    cases d with
    | trap s' t' => exact State.settle_kept hf hd
    | window s' k => exact State.settle_kept hf hd
    | next s' =>
      dsimp only
      split
      · exact State.takePosted_kept hf
      split
      · exact State.takeIrq_kept hf
      · exact State.settle_kept hf hd
    | jump s' pc =>
      dsimp only
      split
      · exact State.takePosted_kept hf
      split
      · exact State.takeIrq_kept hf
      · exact State.settle_kept hf hd
    | wait s' st =>
      dsimp only
      split
      · exact State.takePosted_kept hf
      split
      · exact State.takeIrq_kept hf
      · exact State.settle_kept hf hd

theorem issued_kept {s0 : State} {c : Fin 257} {w : Word} {f : State → Done} {s : State}
    (h0 : ∀ a0, Kept s0 a0 → Done.All (Kept s0) (f a0)) (h1 : Kept s0 s) :
    NextAll (Kept s0) (issued c w f s) := by
  unfold issued
  repeat' (first
    | with_reducible assumption | with_reducible apply Kept.answers | with_reducible apply State.issue_kept)

theorem execIllegalWord_kept {s0 : State} {c : Fin 257} {w : Word} {s : State} (h0 : Kept s0 s) :
    NextAll (Kept s0) (execIllegalWord c w s) := by
  unfold execIllegalWord
  repeat' (first
    | with_reducible assumption | intro _ | with_reducible apply Done.kept_illegal | with_reducible apply Kept.answers
    | with_reducible apply issued_kept | split)

theorem aluI_still {s0 : State} {c : ℕ} {rd : ℕ} {ra : ℕ} {f : Word → Word} {s : State} (h0 : Still s0 s) :
    Done.All (Still s0) (aluI c rd ra f s) := by
  unfold aluI
  repeat' (first
    | with_reducible assumption
    | (extract_lets +onlyGivenNames x1; (fail_if_success have _f := fun a => x1 a); clear_value x1; revert x1; intro _)
    | with_reducible apply Done.still_next | with_reducible apply State.setCtx_still)

theorem aluI_kept {s0 : State} {c : ℕ} {rd : ℕ} {ra : ℕ} {f : Word → Word} {s : State} (h0 : Kept s0 s) :
    Done.All (Kept s0) (aluI c rd ra f s) := by
  unfold aluI
  repeat' (first
    | with_reducible assumption
    | (extract_lets +onlyGivenNames x1; (fail_if_success have _f := fun a => x1 a); clear_value x1; revert x1; intro _)
    | with_reducible apply Done.kept_next | with_reducible apply State.setCtx_kept)

theorem alu_still {s0 : State} {c : ℕ} {rd : ℕ} {ra : ℕ} {rb : ℕ} {f : Word → Word → Word} {s : State}
    (h0 : Still s0 s) :
    Done.All (Still s0) (alu c rd ra rb f s) := by
  unfold alu
  repeat' (first
    | with_reducible assumption
    | (extract_lets +onlyGivenNames x1; (fail_if_success have _f := fun a => x1 a); clear_value x1; revert x1; intro _)
    | with_reducible apply Done.still_next | with_reducible apply State.setCtx_still)

theorem alu_kept {s0 : State} {c : ℕ} {rd : ℕ} {ra : ℕ} {rb : ℕ} {f : Word → Word → Word} {s : State} (h0 : Kept s0 s)
    :
    Done.All (Kept s0) (alu c rd ra rb f s) := by
  unfold alu
  repeat' (first
    | with_reducible assumption
    | (extract_lets +onlyGivenNames x1; (fail_if_success have _f := fun a => x1 a); clear_value x1; revert x1; intro _)
    | with_reducible apply Done.kept_next | with_reducible apply State.setCtx_kept)

theorem execAbss_kept {s0 : State} {c : Fin 257} {rd : Fin 32} {ra : Fin 32} {s : State} (h0 : Kept s0 s) :
    NextAll (Kept s0) (execAbss c rd ra s) := by
  unfold execAbss
  repeat' (first
    | with_reducible assumption | intro _ | with_reducible apply aluI_kept | with_reducible apply issued_kept)

theorem execOr_kept {s0 : State} {c : Fin 257} {rd : Fin 32} {ra : Fin 32} {rb : Fin 32} {s : State} (h0 : Kept s0 s)
    :
    NextAll (Kept s0) (execOr c rd ra rb s) := by
  unfold execOr
  repeat' (first
    | with_reducible assumption | intro _ | with_reducible apply issued_kept | with_reducible apply alu_kept)

theorem execSlti_kept {s0 : State} {c : Fin 257} {rd : Fin 32} {ra : Fin 32} {imm : BitVec 16} {s : State}
    (h0 : Kept s0 s) :
    NextAll (Kept s0) (execSlti c rd ra imm s) := by
  unfold execSlti
  repeat' (first
    | with_reducible assumption | intro _ | with_reducible apply aluI_kept | with_reducible apply issued_kept)

theorem execMaxu_kept {s0 : State} {c : Fin 257} {rd : Fin 32} {ra : Fin 32} {rb : Fin 32} {s : State}
    (h0 : Kept s0 s) :
    NextAll (Kept s0) (execMaxu c rd ra rb s) := by
  unfold execMaxu
  repeat' (first
    | with_reducible assumption | intro _ | with_reducible apply issued_kept | with_reducible apply alu_kept)

theorem execSrli_kept {s0 : State} {c : Fin 257} {rd : Fin 32} {ra : Fin 32} {imm : BitVec 16} {s : State}
    (h0 : Kept s0 s) :
    NextAll (Kept s0) (execSrli c rd ra imm s) := by
  unfold execSrli
  repeat' (first
    | with_reducible assumption | intro _ | with_reducible apply aluI_kept | with_reducible apply issued_kept)

theorem execMul_kept {s0 : State} {c : Fin 257} {rd : Fin 32} {ra : Fin 32} {rb : Fin 32} {s : State} (h0 : Kept s0 s)
    :
    NextAll (Kept s0) (execMul c rd ra rb s) := by
  unfold execMul
  repeat' (first
    | with_reducible assumption | intro _ | with_reducible apply issued_kept | with_reducible apply alu_kept)

theorem execMulq_kept {s0 : State} {c : Fin 257} {rd : Fin 32} {ra : Fin 32} {rb : Fin 32} {s : State}
    (h0 : Kept s0 s) :
    NextAll (Kept s0) (execMulq c rd ra rb s) := by
  unfold execMulq
  repeat' (first
    | with_reducible assumption | intro _ | with_reducible apply issued_kept | with_reducible apply alu_kept)

theorem execMacq_kept {s0 : State} {c : Fin 257} {rd : Fin 32} {ra : Fin 32} {rb : Fin 32} {s : State}
    (h0 : Kept s0 s) :
    NextAll (Kept s0) (execMacq c rd ra rb s) := by
  unfold execMacq
  repeat' (first
    | with_reducible assumption | intro _
    | (extract_lets +onlyGivenNames x1; (fail_if_success have _f := fun a => x1 a); clear_value x1; revert x1; intro _)
    | with_reducible apply Done.kept_next | with_reducible apply issued_kept | with_reducible apply State.setCtx_kept)

theorem execSrl_kept {s0 : State} {c : Fin 257} {rd : Fin 32} {ra : Fin 32} {rb : Fin 32} {s : State} (h0 : Kept s0 s)
    :
    NextAll (Kept s0) (execSrl c rd ra rb s) := by
  unfold execSrl
  repeat' (first
    | with_reducible assumption | intro _ | with_reducible apply issued_kept | with_reducible apply alu_kept)

theorem execAddi_kept {s0 : State} {c : Fin 257} {rd : Fin 32} {ra : Fin 32} {imm : BitVec 16} {s : State}
    (h0 : Kept s0 s) :
    NextAll (Kept s0) (execAddi c rd ra imm s) := by
  unfold execAddi
  repeat' (first
    | with_reducible assumption | intro _ | with_reducible apply aluI_kept | with_reducible apply issued_kept)

theorem execAdd_kept {s0 : State} {c : Fin 257} {rd : Fin 32} {ra : Fin 32} {rb : Fin 32} {s : State} (h0 : Kept s0 s)
    :
    NextAll (Kept s0) (execAdd c rd ra rb s) := by
  unfold execAdd
  repeat' (first
    | with_reducible assumption | intro _ | with_reducible apply issued_kept | with_reducible apply alu_kept)

theorem execSlt_kept {s0 : State} {c : Fin 257} {rd : Fin 32} {ra : Fin 32} {rb : Fin 32} {s : State} (h0 : Kept s0 s)
    :
    NextAll (Kept s0) (execSlt c rd ra rb s) := by
  unfold execSlt
  repeat' (first
    | with_reducible assumption | intro _ | with_reducible apply issued_kept | with_reducible apply alu_kept)

theorem execSltiu_kept {s0 : State} {c : Fin 257} {rd : Fin 32} {ra : Fin 32} {imm : BitVec 16} {s : State}
    (h0 : Kept s0 s) :
    NextAll (Kept s0) (execSltiu c rd ra imm s) := by
  unfold execSltiu
  repeat' (first
    | with_reducible assumption | intro _ | with_reducible apply aluI_kept | with_reducible apply issued_kept)

theorem execSub_kept {s0 : State} {c : Fin 257} {rd : Fin 32} {ra : Fin 32} {rb : Fin 32} {s : State} (h0 : Kept s0 s)
    :
    NextAll (Kept s0) (execSub c rd ra rb s) := by
  unfold execSub
  repeat' (first
    | with_reducible assumption | intro _ | with_reducible apply issued_kept | with_reducible apply alu_kept)

theorem execSubs_kept {s0 : State} {c : Fin 257} {rd : Fin 32} {ra : Fin 32} {rb : Fin 32} {s : State}
    (h0 : Kept s0 s) :
    NextAll (Kept s0) (execSubs c rd ra rb s) := by
  unfold execSubs
  repeat' (first
    | with_reducible assumption | intro _ | with_reducible apply issued_kept | with_reducible apply alu_kept)

theorem execPks_kept {s0 : State} {c : Fin 257} {rd : Fin 32} {ra : Fin 32} {rb : Fin 32} {s : State} (h0 : Kept s0 s)
    :
    NextAll (Kept s0) (execPks c rd ra rb s) := by
  unfold execPks
  repeat' (first
    | with_reducible assumption | intro _ | with_reducible apply issued_kept | with_reducible apply alu_kept)

theorem execMinu_kept {s0 : State} {c : Fin 257} {rd : Fin 32} {ra : Fin 32} {rb : Fin 32} {s : State}
    (h0 : Kept s0 s) :
    NextAll (Kept s0) (execMinu c rd ra rb s) := by
  unfold execMinu
  repeat' (first
    | with_reducible assumption | intro _ | with_reducible apply issued_kept | with_reducible apply alu_kept)

theorem execAndi_kept {s0 : State} {c : Fin 257} {rd : Fin 32} {ra : Fin 32} {imm : BitVec 16} {s : State}
    (h0 : Kept s0 s) :
    NextAll (Kept s0) (execAndi c rd ra imm s) := by
  unfold execAndi
  repeat' (first
    | with_reducible assumption | intro _ | with_reducible apply aluI_kept | with_reducible apply issued_kept)

theorem execSrai_kept {s0 : State} {c : Fin 257} {rd : Fin 32} {ra : Fin 32} {imm : BitVec 16} {s : State}
    (h0 : Kept s0 s) :
    NextAll (Kept s0) (execSrai c rd ra imm s) := by
  unfold execSrai
  repeat' (first
    | with_reducible assumption | intro _ | with_reducible apply aluI_kept | with_reducible apply issued_kept)

theorem execXori_kept {s0 : State} {c : Fin 257} {rd : Fin 32} {ra : Fin 32} {imm : BitVec 16} {s : State}
    (h0 : Kept s0 s) :
    NextAll (Kept s0) (execXori c rd ra imm s) := by
  unfold execXori
  repeat' (first
    | with_reducible assumption | intro _ | with_reducible apply aluI_kept | with_reducible apply issued_kept)

theorem execSlli_kept {s0 : State} {c : Fin 257} {rd : Fin 32} {ra : Fin 32} {imm : BitVec 16} {s : State}
    (h0 : Kept s0 s) :
    NextAll (Kept s0) (execSlli c rd ra imm s) := by
  unfold execSlli
  repeat' (first
    | with_reducible assumption | intro _ | with_reducible apply aluI_kept | with_reducible apply issued_kept)

theorem execShrr_kept {s0 : State} {c : Fin 257} {rd : Fin 32} {ra : Fin 32} {rb : Fin 32} {s : State}
    (h0 : Kept s0 s) :
    NextAll (Kept s0) (execShrr c rd ra rb s) := by
  unfold execShrr
  repeat' (first
    | with_reducible assumption | intro _ | with_reducible apply issued_kept | with_reducible apply alu_kept)

theorem execOri_kept {s0 : State} {c : Fin 257} {rd : Fin 32} {ra : Fin 32} {imm : BitVec 16} {s : State}
    (h0 : Kept s0 s) :
    NextAll (Kept s0) (execOri c rd ra imm s) := by
  unfold execOri
  repeat' (first
    | with_reducible assumption | intro _ | with_reducible apply aluI_kept | with_reducible apply issued_kept)

theorem execXor_kept {s0 : State} {c : Fin 257} {rd : Fin 32} {ra : Fin 32} {rb : Fin 32} {s : State} (h0 : Kept s0 s)
    :
    NextAll (Kept s0) (execXor c rd ra rb s) := by
  unfold execXor
  repeat' (first
    | with_reducible assumption | intro _ | with_reducible apply issued_kept | with_reducible apply alu_kept)

theorem execMulhu_kept {s0 : State} {c : Fin 257} {rd : Fin 32} {ra : Fin 32} {rb : Fin 32} {s : State}
    (h0 : Kept s0 s) :
    NextAll (Kept s0) (execMulhu c rd ra rb s) := by
  unfold execMulhu
  repeat' (first
    | with_reducible assumption | intro _ | with_reducible apply issued_kept | with_reducible apply alu_kept)

theorem execMax_kept {s0 : State} {c : Fin 257} {rd : Fin 32} {ra : Fin 32} {rb : Fin 32} {s : State} (h0 : Kept s0 s)
    :
    NextAll (Kept s0) (execMax c rd ra rb s) := by
  unfold execMax
  repeat' (first
    | with_reducible assumption | intro _ | with_reducible apply issued_kept | with_reducible apply alu_kept)

theorem execSatn_kept {s0 : State} {c : Fin 257} {rd : Fin 32} {ra : Fin 32} {n : BitVec 5} {s : State}
    (h0 : Kept s0 s) :
    NextAll (Kept s0) (execSatn c rd ra n s) := by
  unfold execSatn
  repeat' (first
    | with_reducible assumption | intro _ | with_reducible apply aluI_kept | with_reducible apply issued_kept)

theorem execMulh_kept {s0 : State} {c : Fin 257} {rd : Fin 32} {ra : Fin 32} {rb : Fin 32} {s : State}
    (h0 : Kept s0 s) :
    NextAll (Kept s0) (execMulh c rd ra rb s) := by
  unfold execMulh
  repeat' (first
    | with_reducible assumption | intro _ | with_reducible apply issued_kept | with_reducible apply alu_kept)

theorem execClz_kept {s0 : State} {c : Fin 257} {rd : Fin 32} {ra : Fin 32} {s : State} (h0 : Kept s0 s) :
    NextAll (Kept s0) (execClz c rd ra s) := by
  unfold execClz
  repeat' (first
    | with_reducible assumption | intro _ | with_reducible apply aluI_kept | with_reducible apply issued_kept)

theorem execLui_kept {s0 : State} {c : Fin 257} {rd : Fin 32} {imm : BitVec 16} {s : State} (h0 : Kept s0 s) :
    NextAll (Kept s0) (execLui c rd imm s) := by
  unfold execLui
  repeat' (first
    | with_reducible assumption | intro _ | with_reducible apply aluI_kept | with_reducible apply issued_kept)

theorem execAnd_kept {s0 : State} {c : Fin 257} {rd : Fin 32} {ra : Fin 32} {rb : Fin 32} {s : State} (h0 : Kept s0 s)
    :
    NextAll (Kept s0) (execAnd c rd ra rb s) := by
  unfold execAnd
  repeat' (first
    | with_reducible assumption | intro _ | with_reducible apply issued_kept | with_reducible apply alu_kept)

theorem execMin_kept {s0 : State} {c : Fin 257} {rd : Fin 32} {ra : Fin 32} {rb : Fin 32} {s : State} (h0 : Kept s0 s)
    :
    NextAll (Kept s0) (execMin c rd ra rb s) := by
  unfold execMin
  repeat' (first
    | with_reducible assumption | intro _ | with_reducible apply issued_kept | with_reducible apply alu_kept)

theorem execSra_kept {s0 : State} {c : Fin 257} {rd : Fin 32} {ra : Fin 32} {rb : Fin 32} {s : State} (h0 : Kept s0 s)
    :
    NextAll (Kept s0) (execSra c rd ra rb s) := by
  unfold execSra
  repeat' (first
    | with_reducible assumption | intro _ | with_reducible apply issued_kept | with_reducible apply alu_kept)

theorem execSltu_kept {s0 : State} {c : Fin 257} {rd : Fin 32} {ra : Fin 32} {rb : Fin 32} {s : State}
    (h0 : Kept s0 s) :
    NextAll (Kept s0) (execSltu c rd ra rb s) := by
  unfold execSltu
  repeat' (first
    | with_reducible assumption | intro _ | with_reducible apply issued_kept | with_reducible apply alu_kept)

theorem execNegs_kept {s0 : State} {c : Fin 257} {rd : Fin 32} {ra : Fin 32} {s : State} (h0 : Kept s0 s) :
    NextAll (Kept s0) (execNegs c rd ra s) := by
  unfold execNegs
  repeat' (first
    | with_reducible assumption | intro _ | with_reducible apply aluI_kept | with_reducible apply issued_kept)

theorem execSll_kept {s0 : State} {c : Fin 257} {rd : Fin 32} {ra : Fin 32} {rb : Fin 32} {s : State} (h0 : Kept s0 s)
    :
    NextAll (Kept s0) (execSll c rd ra rb s) := by
  unfold execSll
  repeat' (first
    | with_reducible assumption | intro _ | with_reducible apply issued_kept | with_reducible apply alu_kept)

theorem execAdds_kept {s0 : State} {c : Fin 257} {rd : Fin 32} {ra : Fin 32} {rb : Fin 32} {s : State}
    (h0 : Kept s0 s) :
    NextAll (Kept s0) (execAdds c rd ra rb s) := by
  unfold execAdds
  repeat' (first
    | with_reducible assumption | intro _ | with_reducible apply issued_kept | with_reducible apply alu_kept)

theorem branchIf_still {s0 : State} {c : ℕ} {ra : ℕ} {rb : ℕ} {disp : BitVec 16} {p : Word → Word → Bool} {s : State}
    (h0 : Still s0 s) :
    Done.All (Still s0) (branchIf c ra rb disp p s) := by
  unfold branchIf
  repeat' (first
    | with_reducible assumption
    | (extract_lets +onlyGivenNames x1; (fail_if_success have _f := fun a => x1 a); clear_value x1; revert x1; intro _)
    | with_reducible apply Done.still_next | with_reducible apply Done.still_jump | split)

theorem branchIf_kept {s0 : State} {c : ℕ} {ra : ℕ} {rb : ℕ} {disp : BitVec 16} {p : Word → Word → Bool} {s : State}
    (h0 : Kept s0 s) :
    Done.All (Kept s0) (branchIf c ra rb disp p s) := by
  unfold branchIf
  repeat' (first
    | with_reducible assumption
    | (extract_lets +onlyGivenNames x1; (fail_if_success have _f := fun a => x1 a); clear_value x1; revert x1; intro _)
    | with_reducible apply Done.kept_next | with_reducible apply Done.kept_jump | split)

theorem jumpTo_still {s0 : State} {s : State} {f : State → State} {t : Word} (h0 : Still s0 s)
    (h1 : ∀ a0, Still s0 a0 → Still s0 (f a0)) :
    Done.All (Still s0) (jumpTo s f t) := by
  unfold jumpTo
  repeat' (first
    | with_reducible assumption | with_reducible apply Done.still_jump | with_reducible apply Done.still_raise
    | with_reducible apply h1 | split)

theorem jumpTo_kept {s0 : State} {s : State} {f : State → State} {t : Word} (h0 : Kept s0 s)
    (h1 : ∀ a0, Kept s0 a0 → Kept s0 (f a0)) :
    Done.All (Kept s0) (jumpTo s f t) := by
  unfold jumpTo
  repeat' (first
    | with_reducible assumption | with_reducible apply Done.kept_jump | with_reducible apply Done.kept_raise
    | with_reducible apply h1 | split)

theorem State.link_still {s0 : State} {s : State} {c : ℕ} (h0 : Still s0 s) :
    Still s0 (State.link s c) := by
  unfold State.link
  repeat' (first
    | with_reducible assumption
    | (extract_lets +onlyGivenNames x1; (fail_if_success have _f := fun a => x1 a); clear_value x1; revert x1; intro _)
    | with_reducible apply State.setCtx_still)

theorem State.link_kept {s0 : State} {s : State} {c : ℕ} (h0 : Kept s0 s) :
    Kept s0 (State.link s c) :=
  h0.still (State.link_still (Still.refl _))

theorem execSyncComplete_still {s0 : State} {c : Fin 257} {s : State} (h0 : Still s0 s) :
    NextAll (Still s0) (execSyncComplete c s) := by
  unfold execSyncComplete
  repeat' (first
    | with_reducible assumption
    | (extract_lets +onlyGivenNames x1; (fail_if_success have _f := fun a => x1 a); clear_value x1; revert x1; intro _)
    | with_reducible apply Still.answers | with_reducible apply State.resumeCtx_still
    | with_reducible apply State.finish_still | with_reducible apply State.takePosted_still | split)

theorem execBgeu_kept {s0 : State} {c : Fin 257} {ra : Fin 32} {rb : Fin 32} {disp : BitVec 16} {s : State}
    (h0 : Kept s0 s) :
    NextAll (Kept s0) (execBgeu c ra rb disp s) := by
  unfold execBgeu
  repeat' (first
    | with_reducible assumption | intro _ | with_reducible apply issued_kept | with_reducible apply branchIf_kept)

theorem execB_kept {s0 : State} {c : Fin 257} {disp : BitVec 26} {s : State} (h0 : Kept s0 s) :
    NextAll (Kept s0) (execB c disp s) := by
  unfold execB
  repeat' (first
    | with_reducible assumption | intro _ | with_reducible apply Done.kept_jump | with_reducible apply issued_kept)

theorem execEnter_kept {s0 : State} {c : Fin 257} {s : State} (h0 : Kept s0 s) :
    NextAll (Kept s0) (execEnter c s) := by
  unfold execEnter
  repeat' (first
    | with_reducible assumption | intro _
    | (extract_lets +onlyGivenNames x1; (fail_if_success have _f := fun a => x1 a); clear_value x1; revert x1; intro _)
    | with_reducible apply Done.kept_next | with_reducible apply Done.kept_window | with_reducible apply issued_kept
    | with_reducible apply State.setCtx_kept | split)

theorem execGetc_kept {s0 : State} {c : Fin 257} {rd : Fin 32} {n : BitVec 5} {s : State} (h0 : Kept s0 s) :
    NextAll (Kept s0) (execGetc c rd n s) := by
  unfold execGetc
  repeat' (first
    | with_reducible assumption | intro _
    | (extract_lets +onlyGivenNames x1; (fail_if_success have _f := fun a => x1 a); clear_value x1; revert x1; intro _)
    | with_reducible apply Done.kept_next | with_reducible apply Done.kept_raise | with_reducible apply issued_kept
    | with_reducible apply State.setCtx_kept | split)

theorem execCallr_kept {s0 : State} {c : Fin 257} {ra : Fin 32} {s : State} (h0 : Kept s0 s) :
    NextAll (Kept s0) (execCallr c ra s) := by
  unfold execCallr
  repeat' (first
    | with_reducible assumption | intro _ | with_reducible apply issued_kept | with_reducible apply jumpTo_kept
    | with_reducible apply State.link_kept)

theorem execRett_kept {s0 : State} {c : Fin 257} {s : State} (h0 : Kept s0 s) :
    NextAll (Kept s0) (execRett c s) := by
  unfold execRett
  repeat' (first
    | with_reducible assumption | intro _
    | (extract_lets +onlyGivenNames x1; (fail_if_success have _f := fun a => x1 a); clear_value x1; revert x1; intro _)
    | with_reducible apply Done.kept_jump | with_reducible apply Done.kept_window
    | with_reducible apply Done.kept_illegal | with_reducible apply issued_kept
    | with_reducible apply State.setCtx_kept | split)

theorem execJr_kept {s0 : State} {c : Fin 257} {ra : Fin 32} {s : State} (h0 : Kept s0 s) :
    NextAll (Kept s0) (execJr c ra s) := by
  unfold execJr
  exact issued_kept (fun _ h => jumpTo_kept h (fun _ h => h)) h0

theorem execBltu_kept {s0 : State} {c : Fin 257} {ra : Fin 32} {rb : Fin 32} {disp : BitVec 16} {s : State}
    (h0 : Kept s0 s) :
    NextAll (Kept s0) (execBltu c ra rb disp s) := by
  unfold execBltu
  repeat' (first
    | with_reducible assumption | intro _ | with_reducible apply issued_kept | with_reducible apply branchIf_kept)

theorem execCall_kept {s0 : State} {c : Fin 257} {disp : BitVec 26} {s : State} (h0 : Kept s0 s) :
    NextAll (Kept s0) (execCall c disp s) := by
  unfold execCall
  repeat' (first
    | with_reducible assumption | intro _ | with_reducible apply Done.kept_jump | with_reducible apply issued_kept
    | with_reducible apply State.link_kept)

theorem execSync_kept {s0 : State} {c : Fin 257} {m : BitVec 5} {s : State} (h0 : Kept s0 s) :
    NextAll (Kept s0) (execSync c m s) := by
  unfold execSync
  repeat' (first
    | with_reducible assumption | intro _ | with_reducible apply Done.kept_next | with_reducible apply Done.kept_wait
    | with_reducible apply issued_kept | split)

theorem execLeave_kept {s0 : State} {c : Fin 257} {s : State} (h0 : Kept s0 s) :
    NextAll (Kept s0) (execLeave c s) := by
  unfold execLeave
  repeat' (first
    | with_reducible assumption | intro _
    | (extract_lets +onlyGivenNames x1; (fail_if_success have _f := fun a => x1 a); clear_value x1; revert x1; intro _)
    | with_reducible apply Done.kept_next | with_reducible apply Done.kept_window | with_reducible apply issued_kept
    | with_reducible apply State.setCtx_kept | split)

theorem execBge_kept {s0 : State} {c : Fin 257} {ra : Fin 32} {rb : Fin 32} {disp : BitVec 16} {s : State}
    (h0 : Kept s0 s) :
    NextAll (Kept s0) (execBge c ra rb disp s) := by
  unfold execBge
  repeat' (first
    | with_reducible assumption | intro _ | with_reducible apply issued_kept | with_reducible apply branchIf_kept)

theorem execBlt_kept {s0 : State} {c : Fin 257} {ra : Fin 32} {rb : Fin 32} {disp : BitVec 16} {s : State}
    (h0 : Kept s0 s) :
    NextAll (Kept s0) (execBlt c ra rb disp s) := by
  unfold execBlt
  repeat' (first
    | with_reducible assumption | intro _ | with_reducible apply issued_kept | with_reducible apply branchIf_kept)

theorem execBeq_kept {s0 : State} {c : Fin 257} {ra : Fin 32} {rb : Fin 32} {disp : BitVec 16} {s : State}
    (h0 : Kept s0 s) :
    NextAll (Kept s0) (execBeq c ra rb disp s) := by
  unfold execBeq
  repeat' (first
    | with_reducible assumption | intro _ | with_reducible apply issued_kept | with_reducible apply branchIf_kept)

theorem execSetc_kept {s0 : State} {c : Fin 257} {n : BitVec 5} {ra : Fin 32} {s : State} (h0 : Kept s0 s) :
    NextAll (Kept s0) (execSetc c n ra s) := by
  unfold execSetc
  repeat' (first
    | with_reducible assumption | intro _
    | (extract_lets +onlyGivenNames x1; (fail_if_success have _f := fun a => x1 a); clear_value x1; revert x1; intro _)
    | with_reducible apply Done.kept_next | with_reducible apply Done.kept_raise
    | with_reducible apply Done.kept_illegal | with_reducible apply issued_kept
    | with_reducible apply State.setCtx_kept | split)

theorem execRetw_kept {s0 : State} {c : Fin 257} {s : State} (h0 : Kept s0 s) :
    NextAll (Kept s0) (execRetw c s) := by
  unfold execRetw
  repeat' (first
    | with_reducible assumption | intro _
    | (extract_lets +onlyGivenNames x1; (fail_if_success have _f := fun a => x1 a); clear_value x1; revert x1; intro _)
    | with_reducible apply Done.kept_jump | with_reducible apply Done.kept_illegal | with_reducible apply issued_kept
    | with_reducible apply State.setCtx_kept | split)

theorem execBne_kept {s0 : State} {c : Fin 257} {ra : Fin 32} {rb : Fin 32} {disp : BitVec 16} {s : State}
    (h0 : Kept s0 s) :
    NextAll (Kept s0) (execBne c ra rb disp s) := by
  unfold execBne
  repeat' (first
    | with_reducible assumption | intro _ | with_reducible apply issued_kept | with_reducible apply branchIf_kept)

theorem State.rxPut_still {s0 : State} {s : State} {c : ℕ} {w : Word} (h0 : Still s0 s) :
    Still s0 (State.rxPut s c w) := by
  unfold State.rxPut
  repeat' (first
    | with_reducible assumption
    | (extract_lets +onlyGivenNames x1; (fail_if_success have _f := fun a => x1 a); clear_value x1; revert x1; intro _)
    | with_reducible apply State.setCtx_still | split)

theorem State.txDrain_still {s0 : State} {s : State} {c : ℕ} {y0 : ℕ} (h0 : Still s0 s) :
    Still s0 (State.txDrain s c y0) := by
  induction y0 generalizing s c with
  | zero =>
    unfold State.txDrain
    repeat' (first
      | with_reducible assumption)
  | succ _ ih =>
    unfold State.txDrain
    repeat' (first
      | with_reducible assumption | with_reducible apply ih
      | (extract_lets +onlyGivenNames x1; (fail_if_success have _f := fun a => x1 a); clear_value x1; revert x1; intro _)
      | with_reducible apply State.offer_still | with_reducible apply State.setCtx_still | split)

theorem State.txPut_still {s0 : State} {s : State} {c : ℕ} {ws : List Word} {st : Option (Stamp × Qual)}
    (h0 : Still s0 s) :
    Still s0 (State.txPut s c ws st) := by
  unfold State.txPut
  repeat' (first
    | with_reducible assumption
    | (extract_lets +onlyGivenNames x1; (fail_if_success have _f := fun a => x1 a); clear_value x1; revert x1; intro _)
    | with_reducible apply State.txDrain_still | with_reducible apply State.enqueue_still
    | with_reducible apply State.setCtx_still | split)

theorem State.txPut_kept {s0 : State} {s : State} {c : ℕ} {ws : List Word} {st : Option (Stamp × Qual)}
    (h0 : Kept s0 s) :
    Kept s0 (State.txPut s c ws st) :=
  h0.still (State.txPut_still (Still.refl _))

theorem State.txRelease_still {s0 : State} {s : State} {c : ℕ} {p : Stamp} {q : Qual} (h0 : Still s0 s) :
    Still s0 (State.txRelease s c p q) := by
  unfold State.txRelease
  repeat' (first
    | with_reducible assumption
    | (extract_lets +onlyGivenNames x1; (fail_if_success have _f := fun a => x1 a); clear_value x1; revert x1; intro _)
    | with_reducible apply State.txDrain_still | with_reducible apply State.setCtx_still)

theorem State.txRelease_kept {s0 : State} {s : State} {c : ℕ} {p : Stamp} {q : Qual} (h0 : Kept s0 s) :
    Kept s0 (State.txRelease s c p q) :=
  h0.still (State.txRelease_still (Still.refl _))

theorem pushWords_still {s0 : State} {c : ℕ} {ws : List Word} {st : Option (Stamp × Qual)} {len : ℕ} {s : State}
    (h0 : Still s0 s) :
    Done.All (Still s0) (pushWords c ws st len s) := by
  unfold pushWords
  repeat' (first
    | with_reducible assumption
    | (extract_lets +onlyGivenNames x1; have hx1 : Still s0 x1 := ?_; clear_value x1; revert x1; intro _ _; rotate_left; unfold x1; clear x1)
    | with_reducible apply Done.still_jump | with_reducible apply Done.still_wait
    | with_reducible apply State.txPut_still | split)

theorem pushWords_kept {s0 : State} {c : ℕ} {ws : List Word} {st : Option (Stamp × Qual)} {len : ℕ} {s : State}
    (h0 : Kept s0 s) :
    Done.All (Kept s0) (pushWords c ws st len s) := by
  unfold pushWords
  repeat' (first
    | with_reducible assumption
    | (extract_lets +onlyGivenNames x1; have hx1 : Kept s0 x1 := ?_; clear_value x1; revert x1; intro _ _; rotate_left; unfold x1; clear x1)
    | with_reducible apply Done.kept_jump | with_reducible apply Done.kept_wait
    | with_reducible apply State.txPut_kept | split)

theorem execStreamTxRoom_still {s0 : State} {c : Fin 257} {s : State} (h0 : Still s0 s) :
    NextAll (Still s0) (execStreamTxRoom c s) := by
  unfold execStreamTxRoom
  repeat' (first
    | with_reducible assumption
    | (extract_lets +onlyGivenNames x1; have hx1 : Still s0 x1 := ?_; clear_value x1; revert x1; intro _ _; rotate_left; unfold x1; clear x1)
    | (extract_lets +onlyGivenNames x1; (fail_if_success have _f := fun a => x1 a); clear_value x1; revert x1; intro _)
    | with_reducible apply Still.answers | with_reducible apply State.resumeCtx_still
    | with_reducible apply State.txPut_still | with_reducible apply State.setCtx_still | split)

theorem execStreamRxWord_still {s0 : State} {i : Fin 256} {s : State} (h0 : Still s0 s) :
    NextAll (Still s0) (execStreamRxWord i s) := by
  unfold execStreamRxWord
  repeat' (first
    | with_reducible assumption | intro _
    | (extract_lets +onlyGivenNames x1; have hx1 : Still s0 x1 := ?_; clear_value x1; revert x1; intro _ _; rotate_left; unfold x1; clear x1)
    | (extract_lets +onlyGivenNames x1; (fail_if_success have _f := fun a => x1 a); clear_value x1; revert x1; intro _)
    | with_reducible apply Still.answers | with_reducible apply State.finish_still
    | with_reducible apply State.rxPut_still | with_reducible apply State.setCtx_still
    | with_reducible refine State.takeArrived_still ?_ (by assumption) | split | with_reducible apply Still.foldl)

theorem execPullnb_kept {s0 : State} {c : Fin 257} {rd : Fin 32} {rf : Fin 32} {s : State} (h0 : Kept s0 s) :
    NextAll (Kept s0) (execPullnb c rd rf s) := by
  unfold execPullnb
  repeat' (first
    | with_reducible assumption | intro _ | with_reducible apply Done.kept_next | with_reducible apply issued_kept
    | with_reducible apply State.setCtx_kept | split)

theorem execPush_kept {s0 : State} {c : Fin 257} {ra : Fin 32} {s : State} (h0 : Kept s0 s) :
    NextAll (Kept s0) (execPush c ra s) := by
  unfold execPush
  repeat' (first
    | with_reducible assumption | intro _ | with_reducible apply issued_kept | with_reducible apply pushWords_kept)

theorem execPulls_kept {s0 : State} {c : Fin 257} {rd : Fin 32} {rp : Fin 32} {s : State} (h0 : Kept s0 s) :
    NextAll (Kept s0) (execPulls c rd rp s) := by
  unfold execPulls
  repeat' (first
    | with_reducible assumption | intro _ | with_reducible apply Done.kept_next | with_reducible apply Done.kept_wait
    | with_reducible apply issued_kept | with_reducible apply State.setCtx_kept | split)

theorem execPushs_kept {s0 : State} {c : Fin 257} {ra : Fin 32} {rb : Fin 32} {s : State} (h0 : Kept s0 s) :
    NextAll (Kept s0) (execPushs c ra rb s) := by
  unfold execPushs
  repeat' (first
    | with_reducible assumption | intro _ | with_reducible apply issued_kept | with_reducible apply pushWords_kept)

theorem execPull_kept {s0 : State} {c : Fin 257} {rd : Fin 32} {s : State} (h0 : Kept s0 s) :
    NextAll (Kept s0) (execPull c rd s) := by
  unfold execPull
  repeat' (first
    | with_reducible assumption | intro _ | with_reducible apply Done.kept_next | with_reducible apply Done.kept_wait
    | with_reducible apply issued_kept | with_reducible apply State.setCtx_kept | split)

theorem angleLate_still {s0 : State} {s : State} {sub : ℕ} {p : Stamp} (h0 : Still s0 s) :
    Done.All (Still s0) (angleLate s sub p) := by
  unfold angleLate
  repeat' (first
    | with_reducible assumption | with_reducible apply Done.still_raise)

theorem angleLate_kept {s0 : State} {s : State} {sub : ℕ} {p : Stamp} (h0 : Kept s0 s) :
    Done.All (Kept s0) (angleLate s sub p) := by
  unfold angleLate
  repeat' (first
    | with_reducible assumption | with_reducible apply Done.kept_raise)

theorem State.untilEnd_still {s0 : State} {s : State} {c : ℕ} {v : Word} (h0 : Still s0 s) :
    Still s0 (State.untilEnd s c v) := by
  unfold State.untilEnd
  repeat' (first
    | with_reducible assumption
    | (extract_lets +onlyGivenNames x1; have hx1 : Still s0 x1 := ?_; clear_value x1; revert x1; intro _ _; rotate_left; unfold x1; clear x1)
    | with_reducible apply State.finish_still | with_reducible apply State.setCtx_still
    | with_reducible apply State.unqueue_still | split)

theorem State.untilEnd_kept {s0 : State} {s : State} {c : ℕ} {v : Word} (h0 : Kept s0 s) :
    Kept s0 (State.untilEnd s c v) :=
  h0.still (State.untilEnd_still (Still.refl _))

theorem State.epWake_still {s0 : State} {s : State} (h0 : Still s0 s) :
    Still s0 (State.epWake s) := by
  unfold State.epWake
  repeat' (first
    | with_reducible assumption | intro _ | with_reducible apply State.occur_still
    | with_reducible apply State.finish_still | with_reducible apply State.setCtx_still | split
    | with_reducible apply Still.foldl)

theorem State.armWake_still {s0 : State} {s : State} (h0 : Still s0 s) :
    Still s0 (State.armWake s) := by
  unfold State.armWake
  repeat' (first
    | with_reducible assumption | with_reducible apply State.finish_still | split)

theorem execUntilTimeout_still {s0 : State} {c : Fin 257} {s : State} (h0 : Still s0 s) :
    NextAll (Still s0) (execUntilTimeout c s) := by
  unfold execUntilTimeout
  repeat' (first
    | with_reducible assumption | with_reducible apply Still.answers | with_reducible apply State.untilEnd_still | split)

theorem execTnow_kept {s0 : State} {c : Fin 257} {rd : Fin 32} {s : State} (h0 : Kept s0 s) :
    NextAll (Kept s0) (execTnow c rd s) := by
  unfold execTnow
  repeat' (first
    | with_reducible assumption | intro _ | with_reducible apply Done.kept_next | with_reducible apply issued_kept
    | with_reducible apply State.setCtx_kept)

theorem execAnow_kept {s0 : State} {c : Fin 257} {rd : Fin 32} {s : State} (h0 : Kept s0 s) :
    NextAll (Kept s0) (execAnow c rd s) := by
  unfold execAnow
  repeat' (first
    | with_reducible assumption | intro _ | with_reducible apply Done.kept_next | with_reducible apply issued_kept
    | with_reducible apply State.setCtx_kept)

theorem execAcyc_kept {s0 : State} {c : Fin 257} {rd : Fin 32} {ra : Fin 32} {imm : BitVec 16} {s : State}
    (h0 : Kept s0 s) :
    NextAll (Kept s0) (execAcyc c rd ra imm s) := by
  unfold execAcyc
  repeat' (first
    | with_reducible assumption | intro _
    | (extract_lets +onlyGivenNames x1; (fail_if_success have _f := fun a => x1 a); clear_value x1; revert x1; intro _)
    | with_reducible apply Done.kept_next | with_reducible apply issued_kept | with_reducible apply State.setCtx_kept)

theorem execUntil_kept {s0 : State} {c : Fin 257} {rd : Fin 32} {ra : Fin 32} {q : BitVec 2} {rb : Fin 32} {s : State}
    (h0 : Kept s0 s) :
    NextAll (Kept s0) (execUntil c rd ra q rb s) := by
  unfold execUntil
  repeat' (first
    | with_reducible assumption | intro _
    | (extract_lets +onlyGivenNames x1; have hx1 : Kept s0 x1 := ?_; clear_value x1; revert x1; intro _ _; rotate_left; unfold x1; clear x1)
    | (extract_lets +onlyGivenNames x1; (fail_if_success have _f := fun a => x1 a); clear_value x1; revert x1; intro _)
    | with_reducible apply Done.kept_wait | with_reducible apply issued_kept | with_reducible apply angleLate_kept
    | with_reducible apply State.enqueue_kept | split)

theorem execAadd_kept {s0 : State} {c : Fin 257} {rd : Fin 32} {ra : Fin 32} {rb : Fin 32} {s : State}
    (h0 : Kept s0 s) :
    NextAll (Kept s0) (execAadd c rd ra rb s) := by
  unfold execAadd
  repeat' (first
    | with_reducible assumption | intro _
    | (extract_lets +onlyGivenNames x1; (fail_if_success have _f := fun a => x1 a); clear_value x1; revert x1; intro _)
    | with_reducible apply Done.kept_next | with_reducible apply issued_kept | with_reducible apply State.setCtx_kept)

theorem execAcmp_kept {s0 : State} {c : Fin 257} {rd : Fin 32} {ra : Fin 32} {rb : Fin 32} {s : State}
    (h0 : Kept s0 s) :
    NextAll (Kept s0) (execAcmp c rd ra rb s) := by
  unfold execAcmp
  repeat' (first
    | with_reducible assumption | intro _
    | (extract_lets +onlyGivenNames x1; (fail_if_success have _f := fun a => x1 a); clear_value x1; revert x1; intro _)
    | with_reducible apply Done.kept_next | with_reducible apply issued_kept | with_reducible apply State.setCtx_kept)

theorem execEpwait_kept {s0 : State} {c : Fin 257} {rd : Fin 32} {s : State} (h0 : Kept s0 s) :
    NextAll (Kept s0) (execEpwait c rd s) := by
  unfold execEpwait
  repeat' (first
    | with_reducible assumption | intro _ | with_reducible apply Done.kept_next | with_reducible apply Done.kept_wait
    | with_reducible apply issued_kept | with_reducible apply State.setCtx_kept | split)

end Sys2Proof.Machine
end

