-- ==== Sys2Proof/Laws/FrameAngle.lean ====
section
/-! SUPPORT. What each function of Machine/Angle.lean, Machine/Health.lean, Machine/Cal.lean, Machine/LeatCore.lean, Machine/Lines.lean, Machine/HostCore.lean leaves alone: `Still`, the queue of commands and
every byte of memory; `Kept`, the queue, and the canonical form of memory. -/

set_option linter.unreachableTactic false
set_option linter.unusedTactic false
set_option linter.unusedVariables false
set_option linter.tactic.unusedName false

namespace Sys2Proof.Machine

theorem State.windowCloses_still {s0 : State} {s : State} {w : ℕ} (h0 : Still s0 s) :
    Still s0 (State.windowCloses s w) := by
  unfold State.windowCloses
  repeat' (first
    | with_reducible assumption
    | (extract_lets +onlyGivenNames x1; (fail_if_success have _f := fun a => x1 a); clear_value x1; revert x1; intro _)
    | (rw [State.lit_eq]; with_reducible refine Still.mk' ?_ rfl))

theorem State.timeStep_still {s0 : State} {s : State} (h0 : Still s0 s) :
    Still s0 (State.timeStep s) := by
  unfold State.timeStep
  repeat' (first
    | with_reducible assumption
    | (extract_lets +onlyGivenNames x1; (fail_if_success have _f := fun a => x1 a); clear_value x1; revert x1; intro _)
    | split | (rw [State.lit_eq]; with_reducible refine Still.mk' ?_ rfl))

theorem State.setSrc_still {s0 : State} {s : State} {n : ℕ} {x : AngSrc} (h0 : Still s0 s) :
    Still s0 (State.setSrc s n x) := by
  unfold State.setSrc
  repeat' (first
    | with_reducible assumption
    | (extract_lets +onlyGivenNames x1; (fail_if_success have _f := fun a => x1 a); clear_value x1; revert x1; intro _)
    | (rw [State.lit_eq]; with_reducible refine Still.mk' ?_ rfl))

theorem State.setSrc_kept {s0 : State} {s : State} {n : ℕ} {x : AngSrc} (h0 : Kept s0 s) :
    Kept s0 (State.setSrc s n x) :=
  h0.still (State.setSrc_still (Still.refl _))

theorem State.posLoad_still {s0 : State} {s : State} {n : ℕ} {v : ℕ} (h0 : Still s0 s) :
    Still s0 (State.posLoad s n v) := by
  unfold State.posLoad
  repeat' (first
    | with_reducible assumption | intro _
    | (extract_lets +onlyGivenNames x1; have hx1 : Still s0 x1 := ?_; clear_value x1; revert x1; intro _ _; rotate_left; unfold x1; clear x1)
    | (extract_lets +onlyGivenNames x1; (fail_if_success have _f := fun a => x1 a); clear_value x1; revert x1; intro _)
    | with_reducible apply State.setSrc_still | split | dsimp only | with_reducible apply Still.foldl
    | (rw [State.lit_eq]; with_reducible refine Still.mk' ?_ rfl))

theorem State.srcMarks_still {s0 : State} {s : State} {n : ℕ} (h0 : Still s0 s) :
    Still s0 (State.srcMarks s n) := by
  unfold State.srcMarks
  repeat' (first
    | with_reducible assumption
    | (extract_lets +onlyGivenNames x1; (fail_if_success have _f := fun a => x1 a); clear_value x1; revert x1; intro _)
    | with_reducible apply State.setSrc_still | split)

theorem State.actShow_still {s0 : State} {s : State} (h0 : Still s0 s) :
    Still s0 (State.actShow s) := by
  unfold State.actShow
  repeat' (first
    | with_reducible assumption
    | (extract_lets +onlyGivenNames x1; have hx1 : Still s0 x1 := ?_; clear_value x1; revert x1; intro _ _; rotate_left; unfold x1; clear x1)
    | with_reducible apply State.setF_still | with_reducible apply State.put_still)

theorem State.setLoop_still {s0 : State} {s : State} {n : ℕ} {l : Loop} (h0 : Still s0 s) :
    Still s0 (State.setLoop s n l) := by
  unfold State.setLoop
  repeat' (first
    | with_reducible assumption
    | (extract_lets +onlyGivenNames x1; have hx1 : Still s0 x1 := ?_; clear_value x1; revert x1; intro _ _; rotate_left; unfold x1; clear x1)
    | (extract_lets +onlyGivenNames x1; (fail_if_success have _f := fun a => x1 a); clear_value x1; revert x1; intro _)
    | with_reducible apply State.setSrc_still | with_reducible apply State.setCtr_still | split)

theorem State.windowOpens_still {s0 : State} {s : State} {w : ℕ} (h0 : Still s0 s) :
    Still s0 (State.windowOpens s w) := by
  unfold State.windowOpens
  repeat' (first
    | with_reducible assumption
    | (extract_lets +onlyGivenNames x1; have hx1 : Still s0 x1 := ?_; clear_value x1; revert x1; intro _ _; rotate_left; unfold x1; clear x1)
    | (extract_lets +onlyGivenNames x1; (fail_if_success have _f := fun a => x1 a); clear_value x1; revert x1; intro _)
    | with_reducible apply State.flag_still | split | (rw [State.lit_eq]; with_reducible refine Still.mk' ?_ rfl))

theorem State.srcShow_still {s0 : State} {s : State} {n : ℕ} (h0 : Still s0 s) :
    Still s0 (State.srcShow s n) := by
  unfold State.srcShow
  repeat' (first
    | with_reducible assumption
    | (extract_lets +onlyGivenNames x1; (fail_if_success have _f := fun a => x1 a); clear_value x1; revert x1; intro _)
    | with_reducible apply State.setF_still | with_reducible apply State.put_still)

theorem State.srcShow_kept {s0 : State} {s : State} {n : ℕ} (h0 : Kept s0 s) :
    Kept s0 (State.srcShow s n) :=
  h0.still (State.srcShow_still (Still.refl _))

theorem State.alignStep_still {s0 : State} {s : State} {n : ℕ} (h0 : Still s0 s) :
    Still s0 (State.alignStep s n) := by
  unfold State.alignStep
  repeat' (first
    | with_reducible assumption
    | (extract_lets +onlyGivenNames x1; have hx1 : Still s0 x1 := ?_; clear_value x1; revert x1; intro _ _; rotate_left; unfold x1; clear x1)
    | (extract_lets +onlyGivenNames x1; (fail_if_success have _f := fun a => x1 a); clear_value x1; revert x1; intro _)
    | with_reducible apply State.setSrc_still | with_reducible apply State.setF_still
    | with_reducible apply State.put_still | split)

theorem execAngleOutputEmit_still {s0 : State} {src : Fin 4} {s : State} (h0 : Still s0 s) :
    NextAll (Still s0) (execAngleOutputEmit src s) := by
  unfold execAngleOutputEmit
  repeat' (first
    | with_reducible assumption
    | (extract_lets +onlyGivenNames x1; (fail_if_success have _f := fun a => x1 a); clear_value x1; revert x1; intro _)
    | with_reducible apply Still.answers | with_reducible apply State.offer_still | split)

theorem State.actStep_still {s0 : State} {s : State} (h0 : Still s0 s) :
    Still s0 (State.actStep s) := by
  unfold State.actStep
  repeat' (first
    | with_reducible assumption
    | (extract_lets +onlyGivenNames x1; (fail_if_success have _f := fun a => x1 a); clear_value x1; revert x1; intro _)
    | with_reducible apply State.actShow_still | (rw [State.lit_eq]; with_reducible refine Still.mk' ?_ rfl))

theorem State.tryLock_still {s0 : State} {s : State} {n : ℕ} (h0 : Still s0 s) :
    Still s0 (State.tryLock s n) := by
  unfold State.tryLock
  repeat' (first
    | with_reducible assumption
    | (extract_lets +onlyGivenNames x1; have hx1 : Still s0 x1 := ?_; clear_value x1; revert x1; intro _ _; rotate_left; unfold x1; clear x1)
    | (extract_lets +onlyGivenNames x1; (fail_if_success have _f := fun a => x1 a); clear_value x1; revert x1; intro _)
    | with_reducible apply State.setSrc_still | with_reducible apply State.setF_still
    | with_reducible apply State.flag_still | split | (rw [State.lit_eq]; with_reducible refine Still.mk' ?_ rfl))

theorem State.angUcmd_still {s0 : State} {s : State} {q : Req} {n : ℕ} {code : ℕ} (h0 : Still s0 s) :
    OptAll (Still s0) (State.angUcmd s q n code) := by
  unfold State.angUcmd
  repeat' (first
    | with_reducible assumption
    | (extract_lets +onlyGivenNames x1; (fail_if_success have _f := fun a => x1 a); clear_value x1; revert x1; intro _)
    | with_reducible apply Still.none | with_reducible apply Still.some | with_reducible apply State.srcShow_still
    | with_reducible apply State.setSrc_still | with_reducible apply State.setF_still
    | with_reducible apply State.stageF_still | with_reducible apply State.stageRej_still | split)

theorem State.angUcmd_kept {s0 : State} {s : State} {q : Req} {n : ℕ} {code : ℕ} (h0 : Kept s0 s) :
    OptAll (Kept s0) (State.angUcmd s q n code) := by
  unfold State.angUcmd
  repeat' (first
    | with_reducible assumption
    | (extract_lets +onlyGivenNames x1; (fail_if_success have _f := fun a => x1 a); clear_value x1; revert x1; intro _)
    | with_reducible apply Kept.none | with_reducible apply Kept.some | with_reducible apply State.srcShow_kept
    | with_reducible apply State.setSrc_kept | with_reducible apply State.setF_kept
    | with_reducible apply State.stageF_kept | with_reducible apply State.stageRej_kept | split)

theorem State.angLate_still {s0 : State} {s : State} {n : ℕ} (h0 : Still s0 s) :
    Still s0 (State.angLate s n) := by
  unfold State.angLate
  repeat' (first
    | with_reducible assumption | with_reducible apply State.inc_still | with_reducible apply State.flag_still)

theorem execCoastExpired_still {s0 : State} {s : State} (h0 : Still s0 s) :
    NextAll (Still s0) (execCoastExpired s) := by
  unfold execCoastExpired
  repeat' (first
    | with_reducible assumption | with_reducible apply Still.answers | with_reducible apply State.fence_still | split)

theorem State.coast_still {s0 : State} {s : State} {n : ℕ} (h0 : Still s0 s) :
    Still s0 (State.coast s n) := by
  unfold State.coast
  repeat' (first
    | with_reducible assumption
    | (extract_lets +onlyGivenNames x1; have hx1 : Still s0 x1 := ?_; clear_value x1; revert x1; intro _ _; rotate_left; unfold x1; clear x1)
    | (extract_lets +onlyGivenNames x1; (fail_if_success have _f := fun a => x1 a); clear_value x1; revert x1; intro _)
    | with_reducible apply State.fence_still | with_reducible apply State.flag_still | split
    | (rw [State.lit_eq]; with_reducible refine Still.mk' ?_ rfl))

theorem State.activeLost_still {s0 : State} {s : State} (h0 : Still s0 s) :
    Still s0 (State.activeLost s) := by
  unfold State.activeLost
  repeat' (first
    | with_reducible assumption
    | (extract_lets +onlyGivenNames x1; (fail_if_success have _f := fun a => x1 a); clear_value x1; revert x1; intro _)
    | with_reducible apply State.setF_still | with_reducible apply State.coast_still
    | with_reducible apply State.actShow_still | split | (rw [State.lit_eq]; with_reducible refine Still.mk' ?_ rfl))

theorem State.lose_still {s0 : State} {s : State} {n : ℕ} {cause : ℕ} (h0 : Still s0 s) :
    Still s0 (State.lose s n cause) := by
  unfold State.lose
  repeat' (first
    | with_reducible assumption
    | (extract_lets +onlyGivenNames x1; have hx1 : Still s0 x1 := ?_; clear_value x1; revert x1; intro _ _; rotate_left; unfold x1; clear x1)
    | (extract_lets +onlyGivenNames x1; (fail_if_success have _f := fun a => x1 a); clear_value x1; revert x1; intro _)
    | with_reducible apply State.occur_still | with_reducible apply State.activeLost_still
    | with_reducible apply State.srcShow_still | with_reducible apply State.setSrc_still
    | with_reducible apply State.setF_still | with_reducible apply State.flag_still
    | with_reducible apply State.actShow_still | split)

theorem State.srcStep_still {s0 : State} {s : State} {n : ℕ} (h0 : Still s0 s) :
    Still s0 (State.srcStep s n) := by
  unfold State.srcStep
  repeat' (first
    | with_reducible assumption
    | (extract_lets +onlyGivenNames x1; have hx1 : Still s0 x1 := ?_; clear_value x1; revert x1; intro _ _; rotate_left; unfold x1; clear x1)
    | (extract_lets +onlyGivenNames x1; (fail_if_success have _f := fun a => x1 a); clear_value x1; revert x1; intro _)
    | with_reducible apply State.posLoad_still | with_reducible apply State.srcShow_still
    | with_reducible apply State.setSrc_still | with_reducible apply State.setCtr_still
    | with_reducible apply State.setLoop_still | with_reducible apply State.lose_still | split
    | (rw [State.lit_eq]; with_reducible refine Still.mk' ?_ rfl))

theorem execMeasurementTimeout_still {s0 : State} {src : Fin 4} {s : State} (h0 : Still s0 s) :
    NextAll (Still s0) (execMeasurementTimeout src s) := by
  unfold execMeasurementTimeout
  repeat' (first
    | with_reducible assumption
    | (extract_lets +onlyGivenNames x1; have hx1 : Still s0 x1 := ?_; clear_value x1; revert x1; intro _ _; rotate_left; unfold x1; clear x1)
    | (extract_lets +onlyGivenNames x1; (fail_if_success have _f := fun a => x1 a); clear_value x1; revert x1; intro _)
    | with_reducible apply Still.answers | with_reducible apply State.srcShow_still
    | with_reducible apply State.setSrc_still | with_reducible apply State.lose_still
    | with_reducible apply State.actShow_still | split | (rw [State.lit_eq]; with_reducible refine Still.mk' ?_ rfl))

theorem State.angStep_still {s0 : State} {s : State} (h0 : Still s0 s) :
    Still s0 (State.angStep s) := by
  unfold State.angStep
  repeat' (first
    | with_reducible assumption | intro _
    | (extract_lets +onlyGivenNames x1; have hx1 : Still s0 x1 := ?_; clear_value x1; revert x1; intro _ _; rotate_left; unfold x1; clear x1)
    | (extract_lets +onlyGivenNames x1; (fail_if_success have _f := fun a => x1 a); clear_value x1; revert x1; intro _)
    | with_reducible apply State.actStep_still | with_reducible apply State.timeStep_still
    | with_reducible apply State.srcMarks_still | with_reducible apply State.srcStep_still
    | with_reducible apply State.alignStep_still | split | dsimp only | with_reducible apply Still.foldl
    | (rw [State.lit_eq]; with_reducible refine Still.mk' ?_ rfl))

theorem State.angStep_kept {s0 : State} {s : State} (h0 : Kept s0 s) :
    Kept s0 (State.angStep s) :=
  h0.still (State.angStep_still (Still.refl _))

theorem State.srcError_still {s0 : State} {s : State} {n : ℕ} (h0 : Still s0 s) :
    Still s0 (State.srcError s n) := by
  unfold State.srcError
  repeat' (first
    | with_reducible assumption
    | (extract_lets +onlyGivenNames x1; have hx1 : Still s0 x1 := ?_; clear_value x1; revert x1; intro _ _; rotate_left; unfold x1; clear x1)
    | (extract_lets +onlyGivenNames x1; (fail_if_success have _f := fun a => x1 a); clear_value x1; revert x1; intro _)
    | with_reducible apply State.setSrc_still | with_reducible apply State.lose_still | split)

theorem State.measure_still {s0 : State} {s : State} {n : ℕ} {m : BitVec 64} {age : ℕ} {unitAt : BitVec 64}
    {endsErrs : Bool} {tells : Bool} (h0 : Still s0 s) :
    Still s0 (State.measure s n m age unitAt endsErrs tells) := by
  unfold State.measure
  repeat' (first
    | with_reducible assumption
    | (extract_lets +onlyGivenNames x1; have hx1 : Still s0 x1 := ?_; clear_value x1; revert x1; intro _ _; rotate_left; unfold x1; clear x1)
    | (extract_lets +onlyGivenNames x1; (fail_if_success have _f := fun a => x1 a); clear_value x1; revert x1; intro _)
    | with_reducible apply State.srcShow_still | with_reducible apply State.setSrc_still
    | with_reducible apply State.setLoop_still | with_reducible apply State.lose_still
    | with_reducible apply State.tryLock_still | with_reducible apply State.actShow_still | split
    | (rw [State.lit_eq]; with_reducible refine Still.mk' ?_ rfl))

theorem execMainsZeroCrossing_still {s0 : State} {src : Fin 4} {age : ℕ} {s : State} (h0 : Still s0 s) :
    NextAll (Still s0) (execMainsZeroCrossing src age s) := by
  unfold execMainsZeroCrossing
  repeat' (first
    | with_reducible assumption
    | (extract_lets +onlyGivenNames x1; have hx1 : Still s0 x1 := ?_; clear_value x1; revert x1; intro _ _; rotate_left; unfold x1; clear x1)
    | (extract_lets +onlyGivenNames x1; (fail_if_success have _f := fun a => x1 a); clear_value x1; revert x1; intro _)
    | with_reducible apply Still.answers | with_reducible apply State.setSrc_still
    | with_reducible apply State.measure_still | with_reducible apply State.srcError_still | split
    | (rw [State.lit_eq]; with_reducible refine Still.mk' ?_ rfl))

theorem execQuadEdge_still {s0 : State} {src : Fin 4} {edge : QuadEdge} {age : ℕ} {s : State} (h0 : Still s0 s) :
    NextAll (Still s0) (execQuadEdge src edge age s) := by
  unfold execQuadEdge
  repeat' (first
    | with_reducible assumption
    | (extract_lets +onlyGivenNames x1; have hx1 : Still s0 x1 := ?_; clear_value x1; revert x1; intro _ _; rotate_left; unfold x1; clear x1)
    | (extract_lets +onlyGivenNames x1; (fail_if_success have _f := fun a => x1 a); clear_value x1; revert x1; intro _)
    | with_reducible apply Still.answers | with_reducible apply State.setSrc_still
    | with_reducible apply State.lose_still | with_reducible apply State.inc_still
    | with_reducible apply State.flag_still | with_reducible apply State.measure_still | split)

theorem State.angApplied_still {s0 : State} {s : State} (h0 : Still s0 s) :
    Still s0 (State.angApplied s) := by
  unfold State.angApplied
  repeat' (first
    | with_reducible assumption | intro _
    | (extract_lets +onlyGivenNames x1; have hx1 : Still s0 x1 := ?_; clear_value x1; revert x1; intro _ _; rotate_left; unfold x1; clear x1)
    | (extract_lets +onlyGivenNames x1; (fail_if_success have _f := fun a => x1 a); clear_value x1; revert x1; intro _)
    | with_reducible apply State.activeLost_still | with_reducible apply State.srcShow_still
    | with_reducible apply State.setSrc_still | with_reducible apply State.setF_still
    | with_reducible apply State.lose_still | with_reducible apply State.actShow_still | split | dsimp only
    | with_reducible apply Still.foldl | (rw [State.lit_eq]; with_reducible refine Still.mk' ?_ rfl))

theorem execIndexPulse_still {s0 : State} {src : Fin 4} {age : ℕ} {s : State} (h0 : Still s0 s) :
    NextAll (Still s0) (execIndexPulse src age s) := by
  unfold execIndexPulse
  repeat' (first
    | with_reducible assumption
    | (extract_lets +onlyGivenNames x1; have hx1 : Still s0 x1 := ?_; clear_value x1; revert x1; intro _ _; rotate_left; unfold x1; clear x1)
    | (extract_lets +onlyGivenNames x1; (fail_if_success have _f := fun a => x1 a); clear_value x1; revert x1; intro _)
    | with_reducible apply Still.answers | with_reducible apply State.setSrc_still
    | with_reducible apply State.setLoop_still | with_reducible apply State.tryLock_still
    | with_reducible apply State.flag_still | with_reducible apply State.measure_still
    | with_reducible apply State.actShow_still | with_reducible apply State.srcError_still | split | dsimp only
    | (rw [State.lit_eq]; with_reducible refine Still.mk' ?_ rfl))

theorem execSsiFrame_still {s0 : State} {src : Fin 4} {startHigh : Bool} {stopHigh : Bool} {raw : Word} {age : ℕ}
    {s : State} (h0 : Still s0 s) :
    NextAll (Still s0) (execSsiFrame src startHigh stopHigh raw age s) := by
  unfold execSsiFrame
  repeat' (first
    | with_reducible assumption
    | (extract_lets +onlyGivenNames x1; (fail_if_success have _f := fun a => x1 a); clear_value x1; revert x1; intro _)
    | with_reducible apply Still.answers | with_reducible apply State.setSrc_still
    | with_reducible apply State.measure_still | with_reducible apply State.srcError_still | split)

theorem execIndexTimeout_still {s0 : State} {src : Fin 4} {s : State} (h0 : Still s0 s) :
    NextAll (Still s0) (execIndexTimeout src s) := by
  unfold execIndexTimeout
  repeat' (first
    | with_reducible assumption
    | (extract_lets +onlyGivenNames x1; (fail_if_success have _f := fun a => x1 a); clear_value x1; revert x1; intro _)
    | with_reducible apply Still.answers | with_reducible apply State.lose_still | split)

theorem execSincosSample_still {s0 : State} {src : Fin 4} {s : State} (h0 : Still s0 s) :
    NextAll (Still s0) (execSincosSample src s) := by
  unfold execSincosSample
  repeat' (first
    | with_reducible assumption
    | (extract_lets +onlyGivenNames x1; have hx1 : Still s0 x1 := ?_; clear_value x1; revert x1; intro _ _; rotate_left; unfold x1; clear x1)
    | (extract_lets +onlyGivenNames x1; (fail_if_success have _f := fun a => x1 a); clear_value x1; revert x1; intro _)
    | with_reducible apply Still.answers | with_reducible apply State.setSrc_still
    | with_reducible apply State.measure_still | with_reducible apply State.srcError_still
    | with_reducible refine State.takeArrived_still ?_ (by assumption) | split
    | (rw [State.lit_eq]; with_reducible refine Still.mk' ?_ rfl))

theorem State.fillData_still {s0 : State} {s : State} {l : List ℕ} {y0 : ℕ} (h0 : Still s0 s) :
    Still s0 (State.fillData s l y0).2 := by
  induction y0 generalizing s l with
  | zero =>
    unfold State.fillData
    repeat' (first
      | with_reducible assumption)
  | succ _ ih =>
    unfold State.fillData
    repeat' (first
      | with_reducible assumption | with_reducible apply ih | with_reducible apply State.free_still)

theorem State.setLogHead_still {s0 : State} {s : State} {n : ℕ} (h0 : Still s0 s) :
    Still s0 (State.setLogHead s n) := by
  unfold State.setLogHead
  repeat' (first
    | with_reducible assumption | with_reducible apply State.put_still)

theorem State.healthWords_still {s0 : State} {s : State} {seq : ℕ} {cls : ℕ} {args : List ℕ} (h0 : Still s0 s) :
    Still s0 (State.healthWords s seq cls args).2 := by
  unfold State.healthWords
  repeat' (first
    | with_reducible assumption | with_reducible apply State.fillData_still)

theorem State.logFind_still {s0 : State} {s : State} (h0 : Still s0 s) :
    Still s0 (State.logFind s) := by
  unfold State.logFind
  repeat' (first
    | with_reducible assumption | with_reducible apply State.setLogHead_still)

theorem State.healthAt_still {s0 : State} {s : State} {cls : ℕ} {args : List ℕ} {k : Option ℕ} (h0 : Still s0 s) :
    Still s0 (State.healthAt s cls args k) := by
  unfold State.healthAt
  repeat' (first
    | with_reducible assumption
    | (extract_lets +onlyGivenNames x1; have hx1 : Still s0 x1 := ?_; clear_value x1; revert x1; intro _ _; rotate_left; unfold x1; clear x1)
    | (extract_lets +onlyGivenNames x1; have hx1 : Still s0 x1.2 := ?_; clear_value x1; revert x1; intro _ _; rotate_left; unfold x1; clear x1)
    | (extract_lets +onlyGivenNames x1; (fail_if_success have _f := fun a => x1 a); clear_value x1; revert x1; intro _)
    | with_reducible apply State.setLogHead_still | with_reducible apply State.nvmQueue_still
    | with_reducible apply State.inc_still | with_reducible apply State.flag_still
    | with_reducible apply State.healthWords_still | split
    | (rw [State.lit_eq]; with_reducible refine Still.mk' ?_ rfl))

theorem State.healthPut_still {s0 : State} {s : State} {cls : ℕ} {args : List ℕ} (h0 : Still s0 s) :
    Still s0 (State.healthPut s cls args) := by
  unfold State.healthPut
  repeat' (first
    | with_reducible assumption
    | (extract_lets +onlyGivenNames x1; have hx1 : Still s0 x1 := ?_; clear_value x1; revert x1; intro _ _; rotate_left; unfold x1; clear x1)
    | (extract_lets +onlyGivenNames x1; (fail_if_success have _f := fun a => x1 a); clear_value x1; revert x1; intro _)
    | with_reducible apply State.healthAt_still | split | (rw [State.lit_eq]; with_reducible refine Still.mk' ?_ rfl))

theorem State.logFlush_still {s0 : State} {s : State} (h0 : Still s0 s) :
    Still s0 (State.logFlush s) := by
  unfold State.logFlush
  repeat' (first
    | with_reducible assumption | intro _ | with_reducible apply State.healthPut_still | dsimp only
    | with_reducible apply Still.foldl | (rw [State.lit_eq]; with_reducible refine Still.mk' ?_ rfl))

theorem State.logFlush_kept {s0 : State} {s : State} (h0 : Kept s0 s) :
    Kept s0 (State.logFlush s) :=
  h0.still (State.logFlush_still (Still.refl _))

theorem State.calApply_still {s0 : State} {s : State} {k : ℕ} {v : List ℤ} (h0 : Still s0 s) :
    Still s0 (State.calApply s k v) := by
  unfold State.calApply
  repeat' (first
    | with_reducible assumption
    | (extract_lets +onlyGivenNames x1; (fail_if_success have _f := fun a => x1 a); clear_value x1; revert x1; intro _)
    | split | (rw [State.lit_eq]; with_reducible refine Still.mk' ?_ rfl))

theorem State.calPend_still {s0 : State} {s : State} (h0 : Still s0 s) :
    Still s0 (State.calPend s) := by
  unfold State.calPend
  repeat' (first
    | with_reducible assumption | with_reducible apply State.setF_still)

theorem execCalPowerupStart_still {s0 : State} {d : Fin 2} {s : State} (h0 : Still s0 s) :
    NextAll (Still s0) (execCalPowerupStart d s) := by
  unfold execCalPowerupStart
  repeat' (first
    | with_reducible assumption
    | (extract_lets +onlyGivenNames x1; have hx1 : Still s0 x1 := ?_; clear_value x1; revert x1; intro _ _; rotate_left; unfold x1; clear x1)
    | (extract_lets +onlyGivenNames x1; (fail_if_success have _f := fun a => x1 a); clear_value x1; revert x1; intro _)
    | with_reducible apply Still.answers | with_reducible apply State.flag_still | split
    | (rw [State.lit_eq]; with_reducible refine Still.mk' ?_ rfl))

theorem State.calBegin_still {s0 : State} {s : State} {o : CalOp} (h0 : Still s0 s) :
    Still s0 (State.calBegin s o) := by
  unfold State.calBegin
  repeat' (first
    | with_reducible assumption
    | (extract_lets +onlyGivenNames x1; (fail_if_success have _f := fun a => x1 a); clear_value x1; revert x1; intro _)
    | with_reducible apply State.flag_still | (rw [State.lit_eq]; with_reducible refine Still.mk' ?_ rfl))

theorem State.calWrite_still {s0 : State} {s : State} {body : List Byte} (h0 : Still s0 s) :
    Still s0 (State.calWrite s body) := by
  unfold State.calWrite
  repeat' (first
    | with_reducible assumption | intro _
    | (extract_lets +onlyGivenNames x1; have hx1 : Still s0 x1 := ?_; clear_value x1; revert x1; intro _ _; rotate_left; unfold x1; clear x1)
    | (extract_lets +onlyGivenNames x1; (fail_if_success have _f := fun a => x1 a); clear_value x1; revert x1; intro _)
    | with_reducible apply State.calBegin_still | with_reducible apply State.nvmQueue_still
    | with_reducible apply Still.foldl | (rw [State.lit_eq]; with_reducible refine Still.mk' ?_ rfl))

theorem State.calCmd_still {s0 : State} {s : State} {op : ℕ} {src : ℕ} {cls : ℕ} (h0 : Still s0 s) :
    Still s0 (State.calCmd s op src cls) := by
  unfold State.calCmd
  repeat' (first
    | with_reducible assumption | with_reducible apply State.occur_still | with_reducible apply State.setF_still
    | with_reducible apply State.calBegin_still | with_reducible apply State.calWrite_still | split | dsimp only
    | (rw [State.lit_eq]; with_reducible refine Still.mk' ?_ rfl))

theorem State.calTake_still {s0 : State} {s : State} {ks : List ℕ} (h0 : Still s0 s) :
    Still s0 (State.calTake s ks) := by
  unfold State.calTake
  repeat' (first
    | with_reducible assumption | intro _ | with_reducible apply State.calApply_still
    | with_reducible apply State.calPend_still | split | with_reducible apply Still.foldl)

theorem State.calEnd_still {s0 : State} {s : State} {result : ℕ} (h0 : Still s0 s) :
    Still s0 (State.calEnd s result) := by
  unfold State.calEnd
  repeat' (first
    | with_reducible assumption
    | (extract_lets +onlyGivenNames x1; (fail_if_success have _f := fun a => x1 a); clear_value x1; revert x1; intro _)
    | with_reducible apply State.occur_still | with_reducible apply State.setF_still
    | (rw [State.lit_eq]; with_reducible refine Still.mk' ?_ rfl))

theorem State.calEnd_kept {s0 : State} {s : State} {result : ℕ} (h0 : Kept s0 s) :
    Kept s0 (State.calEnd s result) :=
  h0.still (State.calEnd_still (Still.refl _))

theorem State.calEnter_still {s0 : State} {s : State} {k : ℕ} {v : List ℤ} (h0 : Still s0 s) :
    Still s0 (State.calEnter s k v) := by
  unfold State.calEnter
  repeat' (first
    | with_reducible assumption
    | (extract_lets +onlyGivenNames x1; (fail_if_success have _f := fun a => x1 a); clear_value x1; revert x1; intro _)
    | with_reducible apply State.calApply_still | with_reducible apply State.calPend_still | split
    | (rw [State.lit_eq]; with_reducible refine Still.mk' ?_ rfl))

theorem State.importFrom_still {s0 : State} {r : Option (List Byte) × State} (h0 : Still s0 r.2) :
    Still s0 (State.importFrom r) := by
  unfold State.importFrom
  repeat' (first
    | with_reducible assumption | with_reducible apply State.calEnd_still | with_reducible apply State.calWrite_still
    | split)

theorem State.importFrom_kept {s0 : State} {r : Option (List Byte) × State} (h0 : Kept s0 r.2) :
    Kept s0 (State.importFrom r) :=
  h0.still (State.importFrom_still (Still.refl _))

theorem execAmpEnd_still {s0 : State} {s : State} (h0 : Still s0 s) :
    NextAll (Still s0) (execAmpEnd s) := by
  unfold execAmpEnd
  repeat' (first
    | with_reducible assumption
    | (extract_lets +onlyGivenNames x1; (fail_if_success have _f := fun a => x1 a); clear_value x1; revert x1; intro _)
    | with_reducible apply Still.answers | with_reducible apply State.calEnter_still
    | with_reducible apply State.calEnd_still | split)

theorem State.calLine_still {s0 : State} {s : State} {ok : Bool} {last : Bool} (h0 : Still s0 s) :
    Still s0 (State.calLine s ok last) := by
  unfold State.calLine
  repeat' (first
    | with_reducible assumption
    | (extract_lets +onlyGivenNames x1; have hx1 : Still s0 x1 := ?_; clear_value x1; revert x1; intro _ _; rotate_left; unfold x1; clear x1)
    | (extract_lets +onlyGivenNames x1; have _m : Mem := x1; clear _m; unfold x1; clear x1)
    | (extract_lets +onlyGivenNames x1; (fail_if_success have _f := fun a => x1 a); clear_value x1; revert x1; intro _)
    | with_reducible apply State.setF_still | with_reducible apply State.nvmQueue_still
    | with_reducible apply State.put_still | with_reducible apply State.calEnd_still | split
    | (rw [State.lit_eq]; with_reducible refine Still.mk' ?_ rfl))

theorem State.calDue_still {s0 : State} {s : State} {epoch : Bool} {tiles : ℕ} (h0 : Still s0 s) :
    Still s0 (State.calDue s epoch tiles).2 := by
  unfold State.calDue
  repeat' (first
    | with_reducible assumption
    | (extract_lets +onlyGivenNames x1; (fail_if_success have _f := fun a => x1 a); clear_value x1; revert x1; intro _)
    | with_reducible apply State.incBy_still)

theorem State.calCmdWrite_still {s0 : State} {s : State} {q : Req} {v : Word} (h0 : Still s0 s) :
    Still s0 (State.calCmdWrite s q v) := by
  unfold State.calCmdWrite
  repeat' (first
    | with_reducible assumption
    | (extract_lets +onlyGivenNames x1; have hx1 : Still s0 x1 := ?_; clear_value x1; revert x1; intro _ _; rotate_left; unfold x1; clear x1)
    | (extract_lets +onlyGivenNames x1; (fail_if_success have _f := fun a => x1 a); clear_value x1; revert x1; intro _)
    | with_reducible apply State.rsvd_still | with_reducible apply State.regWrite_still
    | with_reducible apply State.calCmd_still | split)

theorem State.calCmdWrite_kept {s0 : State} {s : State} {q : Req} {v : Word} (h0 : Kept s0 s) :
    Kept s0 (State.calCmdWrite s q v) :=
  h0.still (State.calCmdWrite_still (Still.refl _))

theorem execImport_still {s0 : State} {q : Req} {s : State} (h0 : Still s0 s) :
    NextAll (Still s0) (execImport q s) := by
  unfold execImport
  repeat' (first
    | with_reducible assumption | intro _ | with_reducible apply Still.answers
    | with_reducible apply State.guardWrite_still | with_reducible apply State.calCmdWrite_still)

theorem execEddyRunEnd_still {s0 : State} {g : Fin 64} {limited : ℤ × ℤ} {weights : List ℤ} {s : State} (h0 : Still s0 s) :
    NextAll (Still s0) (execEddyRunEnd g limited weights s) := by
  unfold execEddyRunEnd
  repeat' (first
    | with_reducible assumption
    | (extract_lets +onlyGivenNames x1; (fail_if_success have _f := fun a => x1 a); clear_value x1; revert x1; intro _)
    | with_reducible apply Still.answers | with_reducible apply State.eddyRunEnd_still | split)

theorem execExport_still {s0 : State} {q : Req} {s : State} (h0 : Still s0 s) :
    NextAll (Still s0) (execExport q s) := by
  unfold execExport
  repeat' (first
    | with_reducible assumption | intro _ | with_reducible apply Still.answers
    | with_reducible apply State.guardWrite_still | with_reducible apply State.calCmdWrite_still)

theorem State.calFail_still {s0 : State} {s : State} {cls : ℕ} {i : ℕ} {kind : ℕ} {v : List ℤ} (h0 : Still s0 s) :
    Still s0 (State.calFail s cls i kind v) := by
  unfold State.calFail
  repeat' (first
    | with_reducible assumption
    | (extract_lets +onlyGivenNames x1; have hx1 : Still s0 x1 := ?_; clear_value x1; revert x1; intro _ _; rotate_left; unfold x1; clear x1)
    | (extract_lets +onlyGivenNames x1; (fail_if_success have _f := fun a => x1 a); clear_value x1; revert x1; intro _)
    | with_reducible apply State.healthLog_still | with_reducible apply State.put_still
    | with_reducible apply State.inc_still | with_reducible apply State.flag_still | split)

theorem State.calBoundary_still {s0 : State} {s : State} {epoch : Bool} {tiles : ℕ} (h0 : Still s0 s) :
    Still s0 (State.calBoundary s epoch tiles) := by
  unfold State.calBoundary
  repeat' (first
    | with_reducible assumption
    | (extract_lets +onlyGivenNames x1; have hx1 : Still s0 x1.2 := ?_; clear_value x1; revert x1; intro _ _; rotate_left; unfold x1; clear x1)
    | with_reducible apply State.calTake_still | with_reducible apply State.calDue_still)

theorem State.calMeasure_still {s0 : State} {s : State} {cls : ℕ} {i : ℕ} {v : List ℤ} (h0 : Still s0 s) :
    Still s0 (State.calMeasure s cls i v).2 := by
  unfold State.calMeasure
  repeat' (first
    | with_reducible assumption
    | (extract_lets +onlyGivenNames x1; (fail_if_success have _f := fun a => x1 a); clear_value x1; revert x1; intro _)
    | with_reducible apply State.calEnter_still | with_reducible apply State.calFail_still | split)

theorem execSave_still {s0 : State} {q : Req} {s : State} (h0 : Still s0 s) :
    NextAll (Still s0) (execSave q s) := by
  unfold execSave
  repeat' (first
    | with_reducible assumption | intro _ | with_reducible apply Still.answers
    | with_reducible apply State.guardWrite_still | with_reducible apply State.calCmdWrite_still)

theorem State.calBank_still {s0 s : State} {b : ℕ} (h0 : Still s0 s) : Still s0 (State.calBank s b).2 := by
  rw [State.calBank]
  refine Still.foldlPair (fun p k h => ?_) h0
  obtain ⟨l, t⟩ := p
  have hr : Still s0 (t.nvmRead 0x100 (calBankLine b + k)).2 := State.nvmRead_still h
  dsimp only
  generalize t.nvmRead 0x100 (calBankLine b + k) = r at hr
  obtain ⟨w, u⟩ := r
  cases l <;> cases w <;> exact hr

theorem State.calBank_kept {s0 s : State} {b : ℕ} (h0 : Kept s0 s) : Kept s0 (State.calBank s b).2 :=
  h0.still (State.calBank_still (Still.refl _))

theorem execRecal_still {s0 : State} {q : Req} {cls : BitVec 7} {s : State} (h0 : Still s0 s) :
    NextAll (Still s0) (execRecal q cls s) := by
  unfold execRecal
  repeat' (first
    | with_reducible assumption | intro _ | with_reducible apply Still.answers
    | with_reducible apply State.guardWrite_still | with_reducible apply State.calCmdWrite_still)

theorem execAmp_still {s0 : State} {q : Req} {src : Fin 4} {s : State} (h0 : Still s0 s) :
    NextAll (Still s0) (execAmp q src s) := by
  unfold execAmp
  repeat' (first
    | with_reducible assumption | intro _ | with_reducible apply Still.answers
    | with_reducible apply State.guardWrite_still | with_reducible apply State.calCmdWrite_still)

theorem State.calFind_still {s0 : State} {s : State} (h0 : Still s0 s) :
    Still s0 (State.calFind s) := by
  unfold State.calFind
  repeat' (first
    | with_reducible assumption | with_reducible apply State.healthLog_still | with_reducible apply State.calBank_still
    | with_reducible apply State.setF_still | with_reducible apply State.put_still
    | with_reducible apply State.flag_still | split | dsimp only | with_reducible refine Still.pair ?_ (by assumption)
    | (rw [State.lit_eq]; with_reducible refine Still.mk' ?_ rfl))

theorem State.calMeasures_still {s0 : State} {s : State} {l : List CalMeas} (h0 : Still s0 s) :
    Still s0 (State.calMeasures s l).2 := by
  unfold State.calMeasures
  repeat' (first
    | with_reducible assumption | intro _ | with_reducible apply State.calMeasure_still | dsimp only
    | with_reducible apply Still.foldlPair)

theorem execImportReadEnd_kept {s0 : State} {s : State} (h0 : Kept s0 s) :
    NextAll (Kept s0) (execImportReadEnd s) := by
  unfold execImportReadEnd
  refine Kept.answers ?_
  have h1 := State.calEnd_kept (result := 4) h0
  cases s.cal.op with
  | none => exact h0
  | some x =>
    cases x <;> first
      | exact h0
      | (cases s.calRange with
         | none => exact h1
         | some o => exact State.importFrom_kept (State.memRead_kept h0))

theorem execRecalEnd_still {s0 : State} {res : List CalMeas} {s : State} (h0 : Still s0 s) :
    NextAll (Still s0) (execRecalEnd res s) := by
  unfold execRecalEnd
  repeat' (first
    | with_reducible assumption | with_reducible apply Still.answers | with_reducible apply State.setF_still
    | with_reducible apply State.calMeasures_still | with_reducible apply State.calEnd_still | split)

theorem execCalPowerupEnd_still {s0 : State} {res : List CalMeas} {s : State} (h0 : Still s0 s) :
    NextAll (Still s0) (execCalPowerupEnd res s) := by
  unfold execCalPowerupEnd
  repeat' (first
    | with_reducible assumption
    | (extract_lets +onlyGivenNames x1; have hx1 : Still s0 x1 := ?_; clear_value x1; revert x1; intro _ _; rotate_left; unfold x1; clear x1)
    | (extract_lets +onlyGivenNames x1; (fail_if_success have _f := fun a => x1 a); clear_value x1; revert x1; intro _)
    | with_reducible apply Still.answers | with_reducible apply State.occur_still
    | with_reducible apply State.calMeasures_still | with_reducible apply State.flag_still | split
    | (rw [State.lit_eq]; with_reducible refine Still.mk' ?_ rfl))

theorem State.exportTo_kept {s0 : State} {o : ℕ} {r : Option (List Byte) × State} (h0 : Kept s0 r.2) :
    Kept s0 (State.exportTo o r) := by
  unfold State.exportTo
  repeat' (first
    | with_reducible assumption | with_reducible apply State.calEnd_kept | with_reducible apply State.memWrite_kept
    | split)

theorem execExportEnd_kept {s0 : State} {s : State} (h0 : Kept s0 s) :
    NextAll (Kept s0) (execExportEnd s) := by
  unfold execExportEnd
  refine Kept.answers ?_
  have h1 := State.calEnd_kept (result := 4) h0
  cases s.cal.op with
  | none => exact h0
  | some x =>
    cases x <;> first
      | exact h0
      | (cases s.calRange with
         | none => exact h1
         | some o => exact State.exportTo_kept (State.calBank_kept h0))

theorem State.setLp_still {s0 : State} {s : State} {p : ℕ} {x : LPortSt} (h0 : Still s0 s) :
    Still s0 (State.setLp s p x) := by
  unfold State.setLp
  repeat' (first
    | with_reducible assumption
    | (extract_lets +onlyGivenNames x1; (fail_if_success have _f := fun a => x1 a); clear_value x1; revert x1; intro _)
    | (rw [State.lit_eq]; with_reducible refine Still.mk' ?_ rfl))

theorem State.setLp_kept {s0 : State} {s : State} {p : ℕ} {x : LPortSt} (h0 : Kept s0 s) :
    Kept s0 (State.setLp s p x) :=
  h0.still (State.setLp_still (Still.refl _))

theorem State.chainSend_still {s0 : State} {s : State} {k : LeatKind} {dst : ℕ} {l : List ℕ} (h0 : Still s0 s) :
    Still s0 (State.chainSend s k dst l) := by
  unfold State.chainSend
  repeat' (first
    | with_reducible assumption | with_reducible apply State.send_still | split)

theorem State.chainSend_kept {s0 : State} {s : State} {k : LeatKind} {dst : ℕ} {l : List ℕ} (h0 : Kept s0 s) :
    Kept s0 (State.chainSend s k dst l) :=
  h0.still (State.chainSend_still (Still.refl _))

theorem State.setRecState_still {s0 : State} {s : State} {d : ℕ} {x : ℕ} (h0 : Still s0 s) :
    Still s0 (State.setRecState s d x) := by
  unfold State.setRecState
  repeat' (first
    | with_reducible assumption | with_reducible apply State.setF_still)

theorem State.setQueue_still {s0 : State} {s : State} {l : List (Bool × ℕ)} (h0 : Still s0 s) :
    Still s0 (State.setQueue s l) := by
  unfold State.setQueue
  repeat' (first
    | with_reducible assumption
    | (extract_lets +onlyGivenNames x1; (fail_if_success have _f := fun a => x1 a); clear_value x1; revert x1; intro _)
    | with_reducible apply State.setF_still | (rw [State.lit_eq]; with_reducible refine Still.mk' ?_ rfl))

theorem State.setPath_still {s0 : State} {s : State} {p : PathRec} (h0 : Still s0 s) :
    Still s0 (State.setPath s p) := by
  unfold State.setPath
  repeat' (first
    | with_reducible assumption
    | (extract_lets +onlyGivenNames x1; (fail_if_success have _f := fun a => x1 a); clear_value x1; revert x1; intro _)
    | with_reducible apply State.setF_still)

theorem State.setMember_still {s0 : State} {s : State} {d : ℕ} {b : Bool} (h0 : Still s0 s) :
    Still s0 (State.setMember s d b) := by
  unfold State.setMember
  repeat' (first
    | with_reducible assumption
    | (extract_lets +onlyGivenNames x1; have hx1 : Still s0 x1 := ?_; clear_value x1; revert x1; intro _ _; rotate_left; unfold x1; clear x1)
    | (extract_lets +onlyGivenNames x1; (fail_if_success have _f := fun a => x1 a); clear_value x1; revert x1; intro _)
    | with_reducible apply State.setF_still)

theorem State.rrUp_still {s0 : State} {s : State} {r : ℕ} (h0 : Still s0 s) :
    Still s0 (State.rrUp s r) := by
  unfold State.rrUp
  repeat' (first
    | with_reducible assumption | with_reducible apply State.setF_still | with_reducible apply State.put_still)

theorem State.setMstate_still {s0 : State} {s : State} {x : ℕ} (h0 : Still s0 s) :
    Still s0 (State.setMstate s x) := by
  unfold State.setMstate
  repeat' (first
    | with_reducible assumption | with_reducible apply State.setF_still)

theorem State.setTwin_still {s0 : State} {s : State} {x : ℕ} (h0 : Still s0 s) :
    Still s0 (State.setTwin s x) := by
  unfold State.setTwin
  repeat' (first
    | with_reducible assumption | with_reducible apply State.occur_still | with_reducible apply State.setF_still | split)

theorem State.goStale_still {s0 : State} {s : State} {cause : ℕ} (h0 : Still s0 s) :
    Still s0 (State.goStale s cause) := by
  unfold State.goStale
  repeat' (first
    | with_reducible assumption | with_reducible apply State.setF_still | with_reducible apply State.setMstate_still)

theorem State.twinStale_still {s0 : State} {s : State} {cause : ℕ} (h0 : Still s0 s) :
    Still s0 (State.twinStale s cause) := by
  unfold State.twinStale
  repeat' (first
    | with_reducible assumption
    | (extract_lets +onlyGivenNames x1; have hx1 : Still s0 x1 := ?_; clear_value x1; revert x1; intro _ _; rotate_left; unfold x1; clear x1)
    | (extract_lets +onlyGivenNames x1; (fail_if_success have _f := fun a => x1 a); clear_value x1; revert x1; intro _)
    | with_reducible apply State.setF_still | with_reducible apply State.setTwin_still
    | with_reducible apply State.setMstate_still | (rw [State.lit_eq]; with_reducible refine Still.mk' ?_ rfl))

theorem State.packet_still {s0 : State} {s : State} {rx : Rx} {f : State → State} (h0 : Still s0 s)
    (h1 : ∀ a0, Still s0 a0 → Still s0 (f a0)) :
    Still s0 (State.packet s rx f) := by
  unfold State.packet
  repeat' (first
    | with_reducible assumption | with_reducible apply State.inc_still | with_reducible apply h1 | split)

theorem State.packet_kept {s0 : State} {s : State} {rx : Rx} {f : State → State} (h0 : Kept s0 s)
    (h1 : ∀ a0, Kept s0 a0 → Kept s0 (f a0)) :
    Kept s0 (State.packet s rx f) := by
  unfold State.packet
  repeat' (first
    | with_reducible assumption | with_reducible apply State.inc_kept | with_reducible apply h1 | split)

theorem State.rrLost_still {s0 : State} {s : State} {r : ℕ} {cause : ℕ} (h0 : Still s0 s) :
    Still s0 (State.rrLost s r cause) := by
  unfold State.rrLost
  repeat' (first
    | with_reducible assumption
    | (extract_lets +onlyGivenNames x1; have hx1 : Still s0 x1 := ?_; clear_value x1; revert x1; intro _ _; rotate_left; unfold x1; clear x1)
    | with_reducible apply State.enterBorder_still | with_reducible apply State.setF_still
    | with_reducible apply State.put_still | split)

theorem State.rrCheck_still {s0 : State} {s : State} {was : State} (h0 : Still s0 s) (h1 : Still s0 was) :
    Still s0 (State.rrCheck s was) := by
  unfold State.rrCheck
  repeat' (first
    | with_reducible assumption | intro _ | with_reducible apply State.rrUp_still
    | with_reducible apply State.enterBorder_still | with_reducible apply State.releaseBorder_still
    | with_reducible apply State.flag_still | with_reducible apply State.rrLost_still | split | dsimp only
    | with_reducible apply Still.foldl)

theorem State.portDown_still {s0 : State} {s : State} {p : ℕ} (h0 : Still s0 s) :
    Still s0 (State.portDown s p) := by
  unfold State.portDown
  repeat' (first
    | with_reducible assumption | intro _
    | (extract_lets +onlyGivenNames x1; have hx1 : Still s0 x1 := ?_; clear_value x1; revert x1; intro _ _; rotate_left; unfold x1; clear x1)
    | (extract_lets +onlyGivenNames x1; (fail_if_success have _f := fun a => x1 a); clear_value x1; revert x1; intro _)
    | with_reducible apply State.occur_still | with_reducible apply State.chainSend_still
    | with_reducible apply State.setF_still | with_reducible apply State.setLp_still
    | with_reducible apply State.setMstate_still | with_reducible apply State.flag_still
    | with_reducible apply State.rrCheck_still | with_reducible apply State.setMember_still | split
    | with_reducible apply Still.foldl | (rw [State.lit_eq]; with_reducible refine Still.mk' ?_ rfl))

theorem State.portDown_kept {s0 : State} {s : State} {p : ℕ} (h0 : Kept s0 s) :
    Kept s0 (State.portDown s p) :=
  h0.still (State.portDown_still (Still.refl _))

theorem State.setPaths_still {s0 : State} {s : State} {l : List PathRec} (h0 : Still s0 s) :
    Still s0 (State.setPaths s l) := by
  unfold State.setPaths
  repeat' (first
    | with_reducible assumption | intro _
    | (extract_lets +onlyGivenNames x1; have hx1 : Still s0 x1 := ?_; clear_value x1; revert x1; intro _ _; rotate_left; unfold x1; clear x1)
    | (extract_lets +onlyGivenNames x1; (fail_if_success have _f := fun a => x1 a); clear_value x1; revert x1; intro _)
    | with_reducible apply State.rrCheck_still | with_reducible apply State.setPath_still | split
    | with_reducible apply Still.foldl | (rw [State.lit_eq]; with_reducible refine Still.mk' ?_ rfl))

theorem State.announce_still {s0 : State} {s : State} {d : ℕ} {x : ℕ} (h0 : Still s0 s) :
    Still s0 (State.announce s d x) := by
  unfold State.announce
  repeat' (first
    | with_reducible assumption
    | (extract_lets +onlyGivenNames x1; have hx1 : Still s0 x1 := ?_; clear_value x1; revert x1; intro _ _; rotate_left; unfold x1; clear x1)
    | (extract_lets +onlyGivenNames x1; (fail_if_success have _f := fun a => x1 a); clear_value x1; revert x1; intro _)
    | with_reducible apply State.setRecState_still | with_reducible apply State.occur_still
    | with_reducible apply State.chainSend_still | with_reducible apply State.setF_still
    | with_reducible apply State.rrCheck_still | with_reducible apply State.setMember_still | split
    | (rw [State.lit_eq]; with_reducible refine Still.mk' ?_ rfl))

theorem State.ctrl_still {s0 : State} {s : State} {rx : Rx} {f : State → State} (h0 : Still s0 s)
    (h1 : ∀ a0, Still s0 a0 → Still s0 (f a0)) :
    Still s0 (State.ctrl s rx f) := by
  unfold State.ctrl
  repeat' (first
    | with_reducible assumption
    | (extract_lets +onlyGivenNames x1; have hx1 : Still s0 x1 := ?_; clear_value x1; revert x1; intro _ _; rotate_left; unfold x1; clear x1)
    | (extract_lets +onlyGivenNames x1; (fail_if_success have _f := fun a => x1 a); clear_value x1; revert x1; intro _)
    | with_reducible apply State.portDown_still | with_reducible apply State.setLp_still
    | with_reducible apply State.inc_still | with_reducible apply h1 | split)

theorem State.ctrl_kept {s0 : State} {s : State} {rx : Rx} {f : State → State} (h0 : Kept s0 s)
    (h1 : ∀ a0, Kept s0 a0 → Kept s0 (f a0)) :
    Kept s0 (State.ctrl s rx f) := by
  unfold State.ctrl
  repeat' (first
    | with_reducible assumption
    | (extract_lets +onlyGivenNames x1; have hx1 : Kept s0 x1 := ?_; clear_value x1; revert x1; intro _ _; rotate_left; unfold x1; clear x1)
    | (extract_lets +onlyGivenNames x1; (fail_if_success have _f := fun a => x1 a); clear_value x1; revert x1; intro _)
    | with_reducible apply State.portDown_kept | with_reducible apply State.setLp_kept
    | with_reducible apply State.inc_kept | with_reducible apply h1 | split)

theorem State.lineTake_still {s0 : State} {s : State} (h0 : Still s0 s) :
    Still s0 (State.lineTake s) := by
  unfold State.lineTake
  repeat' (first
    | with_reducible assumption | intro _
    | (extract_lets +onlyGivenNames x1; have hx1 : Still s0 x1 := ?_; clear_value x1; revert x1; intro _ _; rotate_left; unfold x1; clear x1)
    | (extract_lets +onlyGivenNames x1; (fail_if_success have _f := fun a => x1 a); clear_value x1; revert x1; intro _)
    | with_reducible apply State.setLp_still | split | dsimp only | with_reducible apply Still.foldl
    | (rw [State.lit_eq]; with_reducible refine Still.mk' ?_ rfl))

theorem State.lineStep_still {s0 : State} {s : State} {p : ℕ} (h0 : Still s0 s) :
    Still s0 (State.lineStep s p) := by
  unfold State.lineStep
  repeat' (first
    | with_reducible assumption
    | (extract_lets +onlyGivenNames x1; have hx1 : Still s0 x1 := ?_; clear_value x1; revert x1; intro _ _; rotate_left; unfold x1; clear x1)
    | (extract_lets +onlyGivenNames x1; (fail_if_success have _f := fun a => x1 a); clear_value x1; revert x1; intro _)
    | with_reducible apply State.setLp_still | split)

theorem State.linesGo_still {s0 : State} {s : State} (h0 : Still s0 s) :
    Still s0 (State.linesGo s) := by
  unfold State.linesGo
  repeat' (first
    | with_reducible assumption | intro _ | with_reducible apply State.lineStep_still
    | with_reducible apply State.lineTake_still | with_reducible apply Still.foldl)

theorem State.linesGo_kept {s0 : State} {s : State} (h0 : Kept s0 s) :
    Kept s0 (State.linesGo s) :=
  h0.still (State.linesGo_still (Still.refl _))

theorem State.setQp_still {s0 : State} {s : State} {q : ℕ} {x : Qp} (h0 : Still s0 s) :
    Still s0 (State.setQp s q x) := by
  unfold State.setQp
  repeat' (first
    | with_reducible assumption
    | (extract_lets +onlyGivenNames x1; (fail_if_success have _f := fun a => x1 a); clear_value x1; revert x1; intro _)
    | (rw [State.lit_eq]; with_reducible refine Still.mk' ?_ rfl))

theorem State.setQp_kept {s0 : State} {s : State} {q : ℕ} {x : Qp} (h0 : Kept s0 s) :
    Kept s0 (State.setQp s q x) :=
  h0.still (State.setQp_still (Still.refl _))

theorem State.msix_still {s0 : State} {s : State} {fn : ℕ} {vec : ℕ} (h0 : Still s0 s) :
    Still s0 (State.msix s fn vec) := by
  unfold State.msix
  repeat' (first
    | with_reducible assumption | with_reducible apply State.send_still)

theorem State.setHead_still {s0 : State} {s : State} {n : ℕ} (h0 : Still s0 s) :
    Still s0 (State.setHead s n) := by
  unfold State.setHead
  repeat' (first
    | with_reducible assumption
    | (extract_lets +onlyGivenNames x1; (fail_if_success have _f := fun a => x1 a); clear_value x1; revert x1; intro _)
    | with_reducible apply State.put_still | (rw [State.lit_eq]; with_reducible refine Still.mk' ?_ rfl))

theorem State.setHead_kept {s0 : State} {s : State} {n : ℕ} (h0 : Kept s0 s) :
    Kept s0 (State.setHead s n) :=
  h0.still (State.setHead_still (Still.refl _))

theorem State.headUp_still {s0 : State} {s : State} {y0 : ℕ} (h0 : Still s0 s) :
    Still s0 (State.headUp s y0) := by
  induction y0 generalizing s with
  | zero =>
    unfold State.headUp
    repeat' (first
      | with_reducible assumption)
  | succ _ ih =>
    unfold State.headUp
    repeat' (first
      | with_reducible assumption | with_reducible apply ih
      | (extract_lets +onlyGivenNames x1; have hx1 : Still s0 x1 := ?_; clear_value x1; revert x1; intro _ _; rotate_left; unfold x1; clear x1)
      | (extract_lets +onlyGivenNames x1; (fail_if_success have _f := fun a => x1 a); clear_value x1; revert x1; intro _)
      | with_reducible apply State.setHead_still | split | (rw [State.lit_eq]; with_reducible refine Still.mk' ?_ rfl))

theorem State.answered_still {s0 : State} {s : State} {d : ℕ} {seq : ℕ} {k : LeatKind} {l : List ℕ} (h0 : Still s0 s)
    :
    Still s0 (State.answered s d seq k l) := by
  unfold State.answered
  repeat' (first
    | with_reducible assumption
    | (extract_lets +onlyGivenNames x1; have hx1 : Still s0 x1 := ?_; clear_value x1; revert x1; intro _ _; rotate_left; unfold x1; clear x1)
    | (extract_lets +onlyGivenNames x1; (fail_if_success have _f := fun a => x1 a); clear_value x1; revert x1; intro _)
    | with_reducible apply State.send_still | split | (rw [State.lit_eq]; with_reducible refine Still.mk' ?_ rfl))

theorem State.answered_kept {s0 : State} {s : State} {d : ℕ} {seq : ℕ} {k : LeatKind} {l : List ℕ} (h0 : Kept s0 s) :
    Kept s0 (State.answered s d seq k l) :=
  h0.still (State.answered_still (Still.refl _))

theorem State.setCmds_still {s0 : State} {s : State} {l : List HCmd} (h0 : Still s0 s) :
    Still s0 (State.setCmds s l) := by
  unfold State.setCmds
  repeat' (first
    | with_reducible assumption | intro _
    | (extract_lets +onlyGivenNames x1; have hx1 : Still s0 x1 := ?_; clear_value x1; revert x1; intro _ _; rotate_left; unfold x1; clear x1)
    | (extract_lets +onlyGivenNames x1; (fail_if_success have _f := fun a => x1 a); clear_value x1; revert x1; intro _)
    | with_reducible apply State.setF_still | with_reducible apply State.put_still | with_reducible apply Still.foldl
    | (rw [State.lit_eq]; with_reducible refine Still.mk' ?_ rfl))

theorem State.mapCmd_still {s0 : State} {s : State} {p : HCmd → Bool} {f : HCmd → Option HCmd} (h0 : Still s0 s) :
    Still s0 (State.mapCmd s p f) := by
  unfold State.mapCmd
  repeat' (first
    | with_reducible assumption | with_reducible apply State.setCmds_still)

theorem State.mapCmd_kept {s0 : State} {s : State} {p : HCmd → Bool} {f : HCmd → Option HCmd} (h0 : Kept s0 s) :
    Kept s0 (State.mapCmd s p f) :=
  h0.still (State.mapCmd_still (Still.refl _))

theorem State.complete_still {s0 : State} {s : State} {c : HCmd} {status : ℕ} {detail : ℕ} {jnl : Bool}
    (h0 : Still s0 s) :
    Still s0 (State.complete s c status detail jnl) := by
  unfold State.complete
  repeat' (first
    | with_reducible assumption
    | (extract_lets +onlyGivenNames x1; have hx1 : Still s0 x1 := ?_; clear_value x1; revert x1; intro _ _; rotate_left; unfold x1; clear x1)
    | (extract_lets +onlyGivenNames x1; (fail_if_success have _f := fun a => x1 a); clear_value x1; revert x1; intro _)
    | with_reducible apply State.answered_still | with_reducible apply State.setQp_still
    | with_reducible apply State.msix_still | with_reducible apply State.send_still | split)

theorem State.accept_still {s0 : State} {s : State} {seq : ℕ} (h0 : Still s0 s) :
    Still s0 (State.accept s seq) := by
  unfold State.accept
  repeat' (first
    | with_reducible assumption | with_reducible apply State.mapCmd_still)

theorem State.jnlFailed_still {s0 : State} {s : State} {c : HCmd} (h0 : Still s0 s) :
    Still s0 (State.jnlFailed s c) := by
  unfold State.jnlFailed
  repeat' (first
    | with_reducible assumption | with_reducible apply State.occur_still | with_reducible apply State.mapCmd_still
    | with_reducible apply State.complete_still | with_reducible apply State.inc_still)

theorem State.jnlLineEnd_still {s0 : State} {s : State} {seq : ℕ} {last : Bool} {ok : Bool} (h0 : Still s0 s) :
    Still s0 (State.jnlLineEnd s seq last ok) := by
  unfold State.jnlLineEnd
  repeat' (first
    | with_reducible assumption
    | (extract_lets +onlyGivenNames x1; have hx1 : Still s0 x1 := ?_; clear_value x1; revert x1; intro _ _; rotate_left; unfold x1; clear x1)
    | (extract_lets +onlyGivenNames x1; (fail_if_success have _f := fun a => x1 a); clear_value x1; revert x1; intro _)
    | with_reducible apply State.mapCmd_still | with_reducible apply State.complete_still
    | with_reducible apply State.jnlFailed_still | with_reducible apply State.accept_still
    | with_reducible apply State.headUp_still | split | (rw [State.lit_eq]; with_reducible refine Still.mk' ?_ rfl))

theorem State.endCmd_still {s0 : State} {s : State} {c : HCmd} {status : ℕ} {detail : ℕ} (h0 : Still s0 s) :
    Still s0 (State.endCmd s c status detail) := by
  unfold State.endCmd
  repeat' (first
    | with_reducible assumption
    | (extract_lets +onlyGivenNames x1; have hx1 : Still s0 x1 := ?_; clear_value x1; revert x1; intro _ _; rotate_left; unfold x1; clear x1)
    | with_reducible apply State.mapCmd_still | with_reducible apply State.nvmQueue_still
    | with_reducible apply State.jnlFailed_still | split)

theorem State.endCmd_kept {s0 : State} {s : State} {c : HCmd} {status : ℕ} {detail : ℕ} (h0 : Kept s0 s) :
    Kept s0 (State.endCmd s c status detail) :=
  h0.still (State.endCmd_still (Still.refl _))

theorem State.hostEnd_still {s0 : State} {s : State} {cls : ℕ} {opc : ℕ} {status : ℕ} {detail : ℕ} (h0 : Still s0 s) :
    Still s0 (State.hostEnd s cls opc status detail) := by
  unfold State.hostEnd
  repeat' (first
    | with_reducible assumption | intro _ | with_reducible apply State.endCmd_still | with_reducible apply Still.foldl)

theorem State.hostEnd_kept {s0 : State} {s : State} {cls : ℕ} {opc : ℕ} {status : ℕ} {detail : ℕ} (h0 : Kept s0 s) :
    Kept s0 (State.hostEnd s cls opc status detail) :=
  h0.still (State.hostEnd_still (Still.refl _))

end Sys2Proof.Machine
end

