-- ==== Sys2Proof/Laws/FrameTwin.lean ====
section
/-! SUPPORT. What each function of Machine/Twin.lean, Machine/Epoch.lean, Machine/Inst.lean, Machine/Wake.lean leaves alone: `Still`, the queue of commands and
every byte of memory; `Kept`, the queue, and the canonical form of memory. -/

set_option linter.unreachableTactic false
set_option linter.unusedTactic false
set_option linter.unusedVariables false
set_option linter.tactic.unusedName false

namespace Sys2Proof.Machine

theorem State.digShow_still {s0 : State} {s : State} {d : Digest} (h0 : Still s0 s) :
    Still s0 (State.digShow s d) := by
  unfold State.digShow
  repeat' (first
    | with_reducible assumption | with_reducible apply State.setF_still | with_reducible apply State.put_still)

theorem execTwinHeartbeatArrival_still {s0 : State} {s : State} (h0 : Still s0 s) :
    NextAll (Still s0) (execTwinHeartbeatArrival s) := by
  unfold execTwinHeartbeatArrival
  repeat' (first
    | with_reducible assumption | with_reducible apply Still.answers | with_reducible apply State.setF_still | split)

theorem State.twinStep_still {s0 : State} {s : State} (h0 : Still s0 s) :
    Still s0 (State.twinStep s) := by
  unfold State.twinStep
  repeat' (first
    | with_reducible assumption
    | (extract_lets +onlyGivenNames x1; have hx1 : Still s0 x1 := ?_; clear_value x1; revert x1; intro _ _; rotate_left; unfold x1; clear x1)
    | (extract_lets +onlyGivenNames x1; (fail_if_success have _f := fun a => x1 a); clear_value x1; revert x1; intro _)
    | with_reducible apply State.setF_still | (rw [State.lit_eq]; with_reducible refine Still.mk' ?_ rfl))

theorem State.twinStep_kept {s0 : State} {s : State} (h0 : Kept s0 s) :
    Kept s0 (State.twinStep s) :=
  h0.still (State.twinStep_still (Still.refl _))

theorem execTwinHbSend_still {s0 : State} {s : State} (h0 : Still s0 s) :
    NextAll (Still s0) (execTwinHbSend s) := by
  unfold execTwinHbSend
  repeat' (first
    | with_reducible assumption | with_reducible apply Still.answers | with_reducible apply State.partnerSend_still
    | split)

theorem execTwinSenderSilent_still {s0 : State} {s : State} (h0 : Still s0 s) :
    NextAll (Still s0) (execTwinSenderSilent s) := by
  unfold execTwinSenderSilent
  repeat' (first
    | with_reducible assumption
    | (extract_lets +onlyGivenNames x1; (fail_if_success have _f := fun a => x1 a); clear_value x1; revert x1; intro _)
    | with_reducible apply Still.answers | with_reducible apply State.setF_still | split
    | (rw [State.lit_eq]; with_reducible refine Still.mk' ?_ rfl))

theorem execMirrorDurableReport_still {s0 : State} {seq : ℕ} {s : State} (h0 : Still s0 s) :
    NextAll (Still s0) (execMirrorDurableReport seq s) := by
  unfold execMirrorDurableReport
  repeat' (first
    | with_reducible assumption
    | (extract_lets +onlyGivenNames x1; have hx1 : Still s0 x1 := ?_; clear_value x1; revert x1; intro _ _; rotate_left; unfold x1; clear x1)
    | (extract_lets +onlyGivenNames x1; (fail_if_success have _f := fun a => x1 a); clear_value x1; revert x1; intro _)
    | with_reducible apply Still.answers | with_reducible apply State.accept_still | split
    | (rw [State.lit_eq]; with_reducible refine Still.mk' ?_ rfl))

theorem execTwinFaultWaitExpire_still {s0 : State} {s : State} (h0 : Still s0 s) :
    NextAll (Still s0) (execTwinFaultWaitExpire s) := by
  unfold execTwinFaultWaitExpire
  repeat' (first
    | with_reducible assumption | with_reducible apply Still.answers | with_reducible apply State.twinStale_still | split)

theorem State.twinBalls_still {s0 : State} {s : State} (h0 : Still s0 s) :
    Still s0 (State.twinBalls s) := by
  unfold State.twinBalls
  repeat' (first
    | with_reducible assumption | intro _ | with_reducible apply State.drvHiz_still | with_reducible apply Still.foldl)

theorem State.mirrorLeaves_still {s0 : State} {s : State} (h0 : Still s0 s) :
    Still s0 (State.mirrorLeaves s) := by
  unfold State.mirrorLeaves
  repeat' (first
    | with_reducible assumption | intro _
    | (extract_lets +onlyGivenNames x1; have hx1 : Still s0 x1 := ?_; clear_value x1; revert x1; intro _ _; rotate_left; unfold x1; clear x1)
    | (extract_lets +onlyGivenNames x1; (fail_if_success have _f := fun a => x1 a); clear_value x1; revert x1; intro _)
    | with_reducible apply State.twinStale_still | with_reducible apply State.setTwin_still
    | with_reducible apply State.accept_still | split | with_reducible apply Still.foldl
    | (rw [State.lit_eq]; with_reducible refine Still.mk' ?_ rfl))

theorem State.mirrorLeaves_kept {s0 : State} {s : State} (h0 : Kept s0 s) :
    Kept s0 (State.mirrorLeaves s) :=
  h0.still (State.mirrorLeaves_still (Still.refl _))

theorem State.digMismatch_still {s0 : State} {s : State} {k : Digest} (h0 : Still s0 s) :
    Still s0 (State.digMismatch s k) := by
  unfold State.digMismatch
  repeat' (first
    | with_reducible assumption
    | (extract_lets +onlyGivenNames x1; have hx1 : Still s0 x1 := ?_; clear_value x1; revert x1; intro _ _; rotate_left; unfold x1; clear x1)
    | with_reducible apply State.put_still | with_reducible apply State.inc_still
    | with_reducible apply State.flag_still | split)

theorem State.mirrorEnds_still {s0 : State} {s : State} (h0 : Still s0 s) :
    Still s0 (State.mirrorEnds s) := by
  unfold State.mirrorEnds
  repeat' (first
    | with_reducible assumption | with_reducible apply State.mirrorLeaves_still
    | with_reducible apply State.partnerSend_still)

theorem execMirrorJournalTimeout_still {s0 : State} {s : State} (h0 : Still s0 s) :
    NextAll (Still s0) (execMirrorJournalTimeout s) := by
  unfold execMirrorJournalTimeout
  repeat' (first
    | with_reducible assumption | with_reducible apply Still.answers | with_reducible apply State.mirrorEnds_still | split)

theorem State.digSettle_still {s0 : State} {s : State} (h0 : Still s0 s) :
    Still s0 (State.digSettle s) := by
  unfold State.digSettle
  repeat' (first
    | with_reducible assumption
    | (extract_lets +onlyGivenNames x1; (fail_if_success have _f := fun a => x1 a); clear_value x1; revert x1; intro _)
    | with_reducible apply State.incBy_still | with_reducible apply State.digMismatch_still | split
    | (rw [State.lit_eq]; with_reducible refine Still.mk' ?_ rfl))

theorem execTwinDigest_still {s0 : State} {start : Stamp} {sum : Word} {count : ℕ} {s : State} (h0 : Still s0 s) :
    NextAll (Still s0) (execTwinDigest start sum count s) := by
  unfold execTwinDigest
  repeat' (first
    | with_reducible assumption
    | (extract_lets +onlyGivenNames x1; have hx1 : Still s0 x1 := ?_; clear_value x1; revert x1; intro _ _; rotate_left; unfold x1; clear x1)
    | (extract_lets +onlyGivenNames x1; (fail_if_success have _f := fun a => x1 a); clear_value x1; revert x1; intro _)
    | with_reducible apply Still.answers | with_reducible apply State.digShow_still
    | with_reducible apply State.digSettle_still | split | (rw [State.lit_eq]; with_reducible refine Still.mk' ?_ rfl))

theorem State.mirrorLimit_still {s0 : State} {s : State} (h0 : Still s0 s) :
    Still s0 (State.mirrorLimit s) := by
  unfold State.mirrorLimit
  repeat' (first
    | with_reducible assumption | with_reducible apply State.mirrorEnds_still | split)

theorem State.setRole_still {s0 : State} {s : State} {r : ℕ} (h0 : Still s0 s) :
    Still s0 (State.setRole s r) := by
  unfold State.setRole
  repeat' (first
    | with_reducible assumption | with_reducible apply State.setF_still | with_reducible apply State.twinBalls_still)

theorem State.digCompare_still {s0 : State} {s : State} (h0 : Still s0 s) :
    Still s0 (State.digCompare s) := by
  unfold State.digCompare
  repeat' (first
    | with_reducible assumption
    | (extract_lets +onlyGivenNames x1; have hx1 : Still s0 x1 := ?_; clear_value x1; revert x1; intro _ _; rotate_left; unfold x1; clear x1)
    | (extract_lets +onlyGivenNames x1; (fail_if_success have _f := fun a => x1 a); clear_value x1; revert x1; intro _)
    | with_reducible apply State.inc_still | with_reducible apply State.digMismatch_still | split
    | (rw [State.lit_eq]; with_reducible refine Still.mk' ?_ rfl))

theorem State.takeOver_still {s0 : State} {s : State} {cause : ℕ} (h0 : Still s0 s) :
    Still s0 (State.takeOver s cause) := by
  unfold State.takeOver
  repeat' (first
    | with_reducible assumption | intro _
    | (extract_lets +onlyGivenNames x1; have hx1 : Still s0 x1 := ?_; clear_value x1; revert x1; intro _ _; rotate_left; unfold x1; clear x1)
    | (extract_lets +onlyGivenNames x1; (fail_if_success have _f := fun a => x1 a); clear_value x1; revert x1; intro _)
    | with_reducible apply State.occur_still | with_reducible apply State.chainSend_still
    | with_reducible apply State.setF_still | with_reducible apply State.setTwin_still
    | with_reducible apply State.setRole_still | with_reducible apply State.put_still
    | with_reducible apply State.endShot_still | with_reducible apply State.inc_still | split
    | with_reducible apply Still.foldl | (rw [State.lit_eq]; with_reducible refine Still.mk' ?_ rfl))

theorem State.takeOver_kept {s0 : State} {s : State} {cause : ℕ} (h0 : Kept s0 s) :
    Kept s0 (State.takeOver s cause) :=
  h0.still (State.takeOver_still (Still.refl _))

theorem execMirrorReplyTimeout_still {s0 : State} {s : State} (h0 : Still s0 s) :
    NextAll (Still s0) (execMirrorReplyTimeout s) := by
  unfold execMirrorReplyTimeout
  repeat' (first
    | with_reducible assumption | with_reducible apply Still.answers | with_reducible apply State.mirrorEnds_still | split)

theorem execTwinFault_still {s0 : State} {cause : Byte} {s : State} (h0 : Still s0 s) :
    NextAll (Still s0) (execTwinFault cause s) := by
  unfold execTwinFault
  repeat' (first
    | with_reducible assumption
    | (extract_lets +onlyGivenNames x1; have hx1 : Still s0 x1 := ?_; clear_value x1; revert x1; intro _ _; rotate_left; unfold x1; clear x1)
    | (extract_lets +onlyGivenNames x1; (fail_if_success have _f := fun a => x1 a); clear_value x1; revert x1; intro _)
    | with_reducible apply Still.answers | with_reducible apply State.takeOver_still
    | with_reducible apply State.setF_still | split | (rw [State.lit_eq]; with_reducible refine Still.mk' ?_ rfl))

theorem State.twinDetached_still {s0 : State} {s : State} (h0 : Still s0 s) :
    Still s0 (State.twinDetached s) := by
  unfold State.twinDetached
  repeat' (first
    | with_reducible assumption
    | (extract_lets +onlyGivenNames x1; have hx1 : Still s0 x1 := ?_; clear_value x1; revert x1; intro _ _; rotate_left; unfold x1; clear x1)
    | (extract_lets +onlyGivenNames x1; (fail_if_success have _f := fun a => x1 a); clear_value x1; revert x1; intro _)
    | with_reducible apply State.setTwin_still | with_reducible apply State.setRole_still
    | (rw [State.lit_eq]; with_reducible refine Still.mk' ?_ rfl))

theorem State.twinDetached_kept {s0 : State} {s : State} (h0 : Kept s0 s) :
    Kept s0 (State.twinDetached s) :=
  h0.still (State.twinDetached_still (Still.refl _))

theorem execDigestWindowEnd_still {s0 : State} {start : Stamp} {s : State} (h0 : Still s0 s) :
    NextAll (Still s0) (execDigestWindowEnd start s) := by
  unfold execDigestWindowEnd
  repeat' (first
    | with_reducible assumption
    | (extract_lets +onlyGivenNames x1; have hx1 : Still s0 x1 := ?_; clear_value x1; revert x1; intro _ _; rotate_left; unfold x1; clear x1)
    | (extract_lets +onlyGivenNames x1; (fail_if_success have _f := fun a => x1 a); clear_value x1; revert x1; intro _)
    | with_reducible apply Still.answers | with_reducible apply State.digShow_still
    | with_reducible apply State.setF_still | with_reducible apply State.digCompare_still
    | with_reducible apply State.put_still | with_reducible apply State.partnerSend_still
    | with_reducible apply State.digSettle_still | split | (rw [State.lit_eq]; with_reducible refine Still.mk' ?_ rfl))

theorem execTwinPeerChange_still {s0 : State} {level : Bool} {s : State} (h0 : Still s0 s) :
    NextAll (Still s0) (execTwinPeerChange level s) := by
  unfold execTwinPeerChange
  repeat' (first
    | with_reducible assumption
    | (extract_lets +onlyGivenNames x1; have hx1 : Still s0 x1 := ?_; clear_value x1; revert x1; intro _ _; rotate_left; unfold x1; clear x1)
    | (extract_lets +onlyGivenNames x1; (fail_if_success have _f := fun a => x1 a); clear_value x1; revert x1; intro _)
    | with_reducible apply Still.answers | with_reducible apply State.takeOver_still
    | with_reducible apply State.setF_still | with_reducible apply State.twinStale_still
    | with_reducible apply State.setRole_still | split | (rw [State.lit_eq]; with_reducible refine Still.mk' ?_ rfl))

theorem State.twinAttached_still {s0 : State} {s : State} {gen : ℕ} {jseq : ℕ} (h0 : Still s0 s) :
    Still s0 (State.twinAttached s gen jseq) := by
  unfold State.twinAttached
  repeat' (first
    | with_reducible assumption
    | (extract_lets +onlyGivenNames x1; have hx1 : Still s0 x1 := ?_; clear_value x1; revert x1; intro _ _; rotate_left; unfold x1; clear x1)
    | (extract_lets +onlyGivenNames x1; (fail_if_success have _f := fun a => x1 a); clear_value x1; revert x1; intro _)
    | with_reducible apply State.setF_still | with_reducible apply State.twinStale_still
    | with_reducible apply State.setTwin_still | with_reducible apply State.setRole_still
    | with_reducible apply State.put_still | with_reducible apply State.setMstate_still | split
    | (rw [State.lit_eq]; with_reducible refine Still.mk' ?_ rfl))

theorem State.twinAttached_kept {s0 : State} {s : State} {gen : ℕ} {jseq : ℕ} (h0 : Kept s0 s) :
    Kept s0 (State.twinAttached s gen jseq) :=
  h0.still (State.twinAttached_still (Still.refl _))

theorem execTwinHbLost_still {s0 : State} {s : State} (h0 : Still s0 s) :
    NextAll (Still s0) (execTwinHbLost s) := by
  unfold execTwinHbLost
  repeat' (first
    | with_reducible assumption
    | (extract_lets +onlyGivenNames x1; have hx1 : Still s0 x1 := ?_; clear_value x1; revert x1; intro _ _; rotate_left; unfold x1; clear x1)
    | with_reducible apply Still.answers | with_reducible apply State.takeOver_still
    | with_reducible apply State.twinStale_still | with_reducible apply State.flag_still | split)

theorem State.twinResult_still {s0 : State} {s : State} {r : ℕ} (h0 : Still s0 s) :
    Still s0 (State.twinResult s r) := by
  unfold State.twinResult
  repeat' (first
    | with_reducible assumption
    | (extract_lets +onlyGivenNames x1; have hx1 : Still s0 x1 := ?_; clear_value x1; revert x1; intro _ _; rotate_left; unfold x1; clear x1)
    | (extract_lets +onlyGivenNames x1; (fail_if_success have _f := fun a => x1 a); clear_value x1; revert x1; intro _)
    | with_reducible apply State.setF_still | with_reducible apply State.hostEnd_still
    | (rw [State.lit_eq]; with_reducible refine Still.mk' ?_ rfl))

theorem State.twinResult_kept {s0 : State} {s : State} {r : ℕ} (h0 : Kept s0 s) :
    Kept s0 (State.twinResult s r) :=
  h0.still (State.twinResult_still (Still.refl _))

theorem State.twinCmd_still {s0 : State} {s : State} {op : ℕ} (h0 : Still s0 s) :
    Still s0 (State.twinCmd s op) := by
  unfold State.twinCmd
  repeat' (first
    | with_reducible assumption
    | (extract_lets +onlyGivenNames x1; (fail_if_success have _f := fun a => x1 a); clear_value x1; revert x1; intro _)
    | with_reducible apply State.setF_still | with_reducible apply State.setTwin_still
    | with_reducible apply State.setRole_still | with_reducible apply State.put_still
    | with_reducible apply State.partnerSend_still | with_reducible apply State.twinResult_still | split | dsimp only
    | (rw [State.lit_eq]; with_reducible refine Still.mk' ?_ rfl))

theorem State.twinCmdWrite_still {s0 : State} {s : State} {q : Req} {v : Word} (h0 : Still s0 s) :
    Still s0 (State.twinCmdWrite s q v) := by
  unfold State.twinCmdWrite
  repeat' (first
    | with_reducible assumption
    | (extract_lets +onlyGivenNames x1; have hx1 : Still s0 x1 := ?_; clear_value x1; revert x1; intro _ _; rotate_left; unfold x1; clear x1)
    | with_reducible apply State.regWrite_still | with_reducible apply State.twinCmd_still | split)

theorem State.twinCmdWrite_kept {s0 : State} {s : State} {q : Req} {v : Word} (h0 : Kept s0 s) :
    Kept s0 (State.twinCmdWrite s q v) :=
  h0.still (State.twinCmdWrite_still (Still.refl _))

theorem State.twinEpoch_still {s0 : State} {s : State} (h0 : Still s0 s) :
    Still s0 (State.twinEpoch s) := by
  unfold State.twinEpoch
  repeat' (first
    | with_reducible assumption
    | (extract_lets +onlyGivenNames x1; have hx1 : Still s0 x1 := ?_; clear_value x1; revert x1; intro _ _; rotate_left; unfold x1; clear x1)
    | (extract_lets +onlyGivenNames x1; (fail_if_success have _f := fun a => x1 a); clear_value x1; revert x1; intro _)
    | with_reducible apply State.setTwin_still | with_reducible apply State.setRole_still
    | with_reducible apply State.partnerSend_still | with_reducible apply State.setMstate_still
    | with_reducible apply State.twinResult_still | split
    | (rw [State.lit_eq]; with_reducible refine Still.mk' ?_ rfl))

theorem State.twinSwap_still {s0 : State} {s : State} (h0 : Still s0 s) :
    Still s0 (State.twinSwap s) := by
  unfold State.twinSwap
  repeat' (first
    | with_reducible assumption
    | (extract_lets +onlyGivenNames x1; have hx1 : Still s0 x1 := ?_; clear_value x1; revert x1; intro _ _; rotate_left; unfold x1; clear x1)
    | with_reducible apply State.occur_still | with_reducible apply State.setF_still
    | with_reducible apply State.setRole_still | with_reducible apply State.inc_still
    | with_reducible apply State.partnerSend_still | with_reducible apply State.twinResult_still | split)

theorem execAttach_still {s0 : State} {q : Req} {s : State} (h0 : Still s0 s) :
    NextAll (Still s0) (execAttach q s) := by
  unfold execAttach
  repeat' (first
    | with_reducible assumption | intro _ | with_reducible apply Still.answers
    | with_reducible apply State.twinCmdWrite_still | with_reducible apply State.guardWrite_still)

theorem execDetach_still {s0 : State} {q : Req} {s : State} (h0 : Still s0 s) :
    NextAll (Still s0) (execDetach q s) := by
  unfold execDetach
  repeat' (first
    | with_reducible assumption | intro _ | with_reducible apply Still.answers
    | with_reducible apply State.twinCmdWrite_still | with_reducible apply State.guardWrite_still)

theorem execSwap_still {s0 : State} {q : Req} {s : State} (h0 : Still s0 s) :
    NextAll (Still s0) (execSwap q s) := by
  unfold execSwap
  repeat' (first
    | with_reducible assumption | intro _ | with_reducible apply Still.answers
    | with_reducible apply State.twinCmdWrite_still | with_reducible apply State.guardWrite_still)

theorem State.setEpResult_still {s0 : State} {s : State} {r : ℕ} (h0 : Still s0 s) :
    Still s0 (State.setEpResult s r) := by
  unfold State.setEpResult
  repeat' (first
    | with_reducible assumption | with_reducible apply State.setF_still)

theorem State.tilesCaught_still {s0 : State} {s : State} (h0 : Still s0 s) :
    Still s0 (State.tilesCaught s) := by
  unfold State.tilesCaught
  repeat' (first
    | with_reducible assumption | with_reducible apply State.setF_still | split)

theorem State.sendDecision_still {s0 : State} {s : State} {y0 : EpHead} {n : ℕ} (h0 : Still s0 s) :
    Still s0 (State.sendDecision s y0 n) := by
  unfold State.sendDecision
  repeat' (first
    | with_reducible assumption | intro _ | with_reducible apply State.chainSend_still | split
    | with_reducible apply Still.foldl)

theorem execEpoDecResend_still {s0 : State} {s : State} (h0 : Still s0 s) :
    NextAll (Still s0) (execEpoDecResend s) := by
  unfold execEpoDecResend
  repeat' (first
    | with_reducible assumption | with_reducible apply Still.answers | with_reducible apply State.sendDecision_still
    | split | dsimp only | (rw [State.lit_eq]; with_reducible refine Still.mk' ?_ rfl))

theorem State.sluiceDone_still {s0 : State} {s : State} {k : ℕ} (h0 : Still s0 s) :
    Still s0 (State.sluiceDone s k) := by
  unfold State.sluiceDone
  repeat' (first
    | with_reducible assumption
    | (extract_lets +onlyGivenNames x1; (fail_if_success have _f := fun a => x1 a); clear_value x1; revert x1; intro _)
    | with_reducible apply State.occur_still | with_reducible apply State.setF_still)

theorem State.epIgnored_still {s0 : State} {s : State} {dev : ℕ} (h0 : Still s0 s) :
    Still s0 (State.epIgnored s dev) := by
  unfold State.epIgnored
  repeat' (first
    | with_reducible assumption | with_reducible apply State.chainSend_still | with_reducible apply State.flag_still
    | split)

theorem State.stageOk_still {s0 : State} {s : State} (h0 : Still s0 s) :
    Still s0 (State.stageOk s).2 := by
  unfold State.stageOk
  repeat' (first
    | with_reducible assumption | with_reducible apply State.setF_still | split)

theorem State.epCheck_still {s0 : State} {s : State} {n : Word} {e : Stamp} (h0 : Still s0 s) :
    Still s0 (State.epCheck s n e).2 := by
  unfold State.epCheck
  repeat' (first
    | with_reducible assumption | with_reducible apply State.stageOk_still | split | dsimp only
    | with_reducible refine Still.pair ?_ (by assumption))

theorem State.tstClose_still {s0 : State} {s : State} (h0 : Still s0 s) :
    Still s0 (State.tstClose s) := by
  unfold State.tstClose
  repeat' (first
    | with_reducible assumption | with_reducible apply State.tstAside_still)

theorem execIdleWindowClose_still {s0 : State} {w : Fin 16} {s : State} (h0 : Still s0 s) :
    NextAll (Still s0) (execIdleWindowClose w s) := by
  unfold execIdleWindowClose
  repeat' (first
    | with_reducible assumption | with_reducible apply Still.answers | with_reducible apply State.windowCloses_still
    | with_reducible apply State.tstClose_still | split)

theorem State.epCounted_still {s0 : State} {s : State} {n : Word} (h0 : Still s0 s) :
    Still s0 (State.epCounted s n) := by
  unfold State.epCounted
  repeat' (first
    | with_reducible assumption | with_reducible apply State.incBy_still | with_reducible apply State.put_still)

theorem State.outrel_still {s0 : State} {s : State} (h0 : Still s0 s) :
    Still s0 (State.outrel s) := by
  unfold State.outrel
  repeat' (first
    | with_reducible assumption | intro _
    | (extract_lets +onlyGivenNames x1; have hx1 : Still s0 x1 := ?_; clear_value x1; revert x1; intro _ _; rotate_left; unfold x1; clear x1)
    | (extract_lets +onlyGivenNames x1; (fail_if_success have _f := fun a => x1 a); clear_value x1; revert x1; intro _)
    | with_reducible apply State.twinBalls_still | with_reducible apply State.sluiceDone_still
    | with_reducible apply State.flag_still | with_reducible apply State.refreshCells_still | split
    | with_reducible apply Still.foldl)

theorem State.tileRetire_still {s0 : State} {s : State} {t : ℕ} (h0 : Still s0 s) :
    Still s0 (State.tileRetire s t) := by
  unfold State.tileRetire
  repeat' (first
    | with_reducible assumption | intro _
    | (extract_lets +onlyGivenNames x1; have hx1 : Still s0 x1 := ?_; clear_value x1; revert x1; intro _ _; rotate_left; unfold x1; clear x1)
    | with_reducible apply State.latchDrv_still | with_reducible apply State.setF_still
    | with_reducible apply State.latchCell_still | with_reducible apply Still.foldl)

theorem State.tileRetire_kept {s0 : State} {s : State} {t : ℕ} (h0 : Kept s0 s) :
    Kept s0 (State.tileRetire s t) :=
  h0.still (State.tileRetire_still (Still.refl _))

theorem State.tileReturn_still {s0 : State} {s : State} {t : ℕ} (h0 : Still s0 s) :
    Still s0 (State.tileReturn s t) := by
  unfold State.tileReturn
  repeat' (first
    | with_reducible assumption | intro _
    | (extract_lets +onlyGivenNames x1; have hx1 : Still s0 x1 := ?_; clear_value x1; revert x1; intro _ _; rotate_left; unfold x1; clear x1)
    | (extract_lets +onlyGivenNames x1; (fail_if_success have _f := fun a => x1 a); clear_value x1; revert x1; intro _)
    | with_reducible apply State.setF_still | with_reducible apply State.releaseBorder_still
    | with_reducible apply State.drvBorder_still | with_reducible apply Still.foldl)

theorem State.setEpState_still {s0 : State} {s : State} {x : ℕ} (h0 : Still s0 s) :
    Still s0 (State.setEpState s x) := by
  unfold State.setEpState
  repeat' (first
    | with_reducible assumption
    | (extract_lets +onlyGivenNames x1; have hx1 : Still s0 x1 := ?_; clear_value x1; revert x1; intro _ _; rotate_left; unfold x1; clear x1)
    | (extract_lets +onlyGivenNames x1; (fail_if_success have _f := fun a => x1 a); clear_value x1; revert x1; intro _)
    | with_reducible apply State.setF_still | with_reducible apply State.epWake_still
    | with_reducible apply State.armWake_still | with_reducible apply State.hostEnd_still | split)

theorem State.tretEnd_still {s0 : State} {s : State} {r : ℕ} (h0 : Still s0 s) :
    Still s0 (State.tretEnd s r) := by
  unfold State.tretEnd
  repeat' (first
    | with_reducible assumption
    | (extract_lets +onlyGivenNames x1; have hx1 : Still s0 x1 := ?_; clear_value x1; revert x1; intro _ _; rotate_left; unfold x1; clear x1)
    | (extract_lets +onlyGivenNames x1; (fail_if_success have _f := fun a => x1 a); clear_value x1; revert x1; intro _)
    | with_reducible apply State.occur_still | with_reducible apply State.setF_still
    | with_reducible apply State.hostEnd_still | (rw [State.lit_eq]; with_reducible refine Still.mk' ?_ rfl))

theorem State.tretEnd_kept {s0 : State} {s : State} {r : ℕ} (h0 : Kept s0 s) :
    Kept s0 (State.tretEnd s r) :=
  h0.still (State.tretEnd_still (Still.refl _))

theorem State.epIdle_still {s0 : State} {s : State} (h0 : Still s0 s) :
    Still s0 (State.epIdle s) := by
  unfold State.epIdle
  repeat' (first
    | with_reducible assumption | with_reducible apply State.setEpState_still)

theorem State.tretEpoch_still {s0 : State} {s : State} (h0 : Still s0 s) :
    Still s0 (State.tretEpoch s) := by
  unfold State.tretEpoch
  repeat' (first
    | with_reducible assumption | with_reducible apply State.tileReturn_still
    | with_reducible apply State.tileRetire_still | with_reducible apply State.tretEnd_still | split)

theorem execEpochNoDecision_still {s0 : State} {s : State} (h0 : Still s0 s) :
    NextAll (Still s0) (execEpochNoDecision s) := by
  unfold execEpochNoDecision
  repeat' (first
    | with_reducible assumption
    | (extract_lets +onlyGivenNames x1; have hx1 : Still s0 x1 := ?_; clear_value x1; revert x1; intro _ _; rotate_left; unfold x1; clear x1)
    | (extract_lets +onlyGivenNames x1; (fail_if_success have _f := fun a => x1 a); clear_value x1; revert x1; intro _)
    | with_reducible apply Still.answers | with_reducible apply State.twinStale_still
    | with_reducible apply State.setEpResult_still | with_reducible apply State.fence_still
    | with_reducible apply State.setEpState_still | with_reducible apply State.epIdle_still
    | with_reducible apply State.goStale_still | split | (rw [State.lit_eq]; with_reducible refine Still.mk' ?_ rfl))

theorem State.windowUsers_still {s0 : State} {s : State} {w : ℕ} {ks : List ℕ} (h0 : Still s0 s) :
    Still s0 (State.windowUsers s w ks) := by
  unfold State.windowUsers
  repeat' (first
    | with_reducible assumption | intro _
    | (extract_lets +onlyGivenNames x1; have hx1 : Still s0 x1 := ?_; clear_value x1; revert x1; intro _ _; rotate_left; unfold x1; clear x1)
    | (extract_lets +onlyGivenNames x1; (fail_if_success have _f := fun a => x1 a); clear_value x1; revert x1; intro _)
    | with_reducible apply State.calTake_still | with_reducible apply State.eddySwap_still
    | with_reducible apply State.eddyBoundary_still | with_reducible apply State.twinSwap_still | split
    | with_reducible apply Still.foldl)

theorem State.epArm_still {s0 : State} {s : State} {n : Word} {e : Stamp} {role : ℕ} (h0 : Still s0 s) :
    Still s0 (State.epArm s n e role).2 := by
  unfold State.epArm
  repeat' (first
    | with_reducible assumption
    | (extract_lets +onlyGivenNames x1; (fail_if_success have _f := fun a => x1 a); clear_value x1; revert x1; intro _)
    | with_reducible apply State.epCheck_still | with_reducible apply State.setEpState_still
    | with_reducible apply State.goStale_still | split | dsimp only
    | with_reducible refine Still.pair ?_ (by assumption)
    | (rw [State.lit_eq]; with_reducible refine Still.mk' ?_ rfl))

theorem State.windowsWork_still {s0 : State} {s : State} (h0 : Still s0 s) :
    Still s0 (State.windowsWork s) := by
  unfold State.windowsWork
  repeat' (first
    | with_reducible assumption | intro _ | with_reducible apply State.windowUsers_still | split | dsimp only
    | with_reducible apply Still.foldl | (rw [State.lit_eq]; with_reducible refine Still.mk' ?_ rfl))

theorem State.windowsWork_kept {s0 : State} {s : State} (h0 : Kept s0 s) :
    Kept s0 (State.windowsWork s) :=
  h0.still (State.windowsWork_still (Still.refl _))

theorem State.epRefuse_still {s0 : State} {s : State} {dev : ℕ} {st : ℕ} (h0 : Still s0 s) :
    Still s0 (State.epRefuse s dev st) := by
  unfold State.epRefuse
  repeat' (first
    | with_reducible assumption
    | (extract_lets +onlyGivenNames x1; have hx1 : Still s0 x1 := ?_; clear_value x1; revert x1; intro _ _; rotate_left; unfold x1; clear x1)
    | with_reducible apply State.chainSend_still | with_reducible apply State.setEpResult_still
    | with_reducible apply State.epIdle_still | split)

theorem State.epRoleEnd_still {s0 : State} {s : State} {role : ℕ} (h0 : Still s0 s) :
    Still s0 (State.epRoleEnd s role) := by
  unfold State.epRoleEnd
  repeat' (first
    | with_reducible assumption
    | (extract_lets +onlyGivenNames x1; have hx1 : Still s0 x1 := ?_; clear_value x1; revert x1; intro _ _; rotate_left; unfold x1; clear x1)
    | with_reducible apply State.liftFence_still | with_reducible apply State.latchCells_still
    | with_reducible apply State.outrel_still | with_reducible apply State.setMstate_still
    | with_reducible apply State.holdAll_still | with_reducible apply State.latchDrvs_still
    | with_reducible apply State.setMember_still | split)

theorem State.epAbandon_still {s0 : State} {s : State} {st : ℕ} (h0 : Still s0 s) :
    Still s0 (State.epAbandon s st) := by
  unfold State.epAbandon
  repeat' (first
    | with_reducible assumption
    | (extract_lets +onlyGivenNames x1; have hx1 : Still s0 x1 := ?_; clear_value x1; revert x1; intro _ _; rotate_left; unfold x1; clear x1)
    | (extract_lets +onlyGivenNames x1; (fail_if_success have _f := fun a => x1 a); clear_value x1; revert x1; intro _)
    | with_reducible apply State.setF_still | with_reducible apply State.setEpResult_still
    | with_reducible apply State.epIdle_still | (rw [State.lit_eq]; with_reducible refine Still.mk' ?_ rfl))

theorem State.epHeadEnd_still {s0 : State} {s : State} (h0 : Still s0 s) :
    Still s0 (State.epHeadEnd s) := by
  unfold State.epHeadEnd
  repeat' (first
    | with_reducible assumption | intro _
    | (extract_lets +onlyGivenNames x1; have hx1 : Still s0 x1 := ?_; clear_value x1; revert x1; intro _ _; rotate_left; unfold x1; clear x1)
    | (extract_lets +onlyGivenNames x1; (fail_if_success have _f := fun a => x1 a); clear_value x1; revert x1; intro _)
    | with_reducible apply State.setQueue_still | with_reducible apply State.occur_still
    | with_reducible apply State.announce_still | with_reducible apply State.sendDecision_still | split | dsimp only
    | with_reducible apply Still.foldl | (rw [State.lit_eq]; with_reducible refine Still.mk' ?_ rfl))

theorem State.windowOpening_still {s0 : State} {s : State} {w : ℕ} {atEpoch : Bool} (h0 : Still s0 s) :
    Still s0 (State.windowOpening s w atEpoch) := by
  unfold State.windowOpening
  repeat' (first
    | with_reducible assumption
    | (extract_lets +onlyGivenNames x1; have hx1 : Still s0 x1 := ?_; clear_value x1; revert x1; intro _ _; rotate_left; unfold x1; clear x1)
    | (extract_lets +onlyGivenNames x1; have hx1 : Still s0 x1.2 := ?_; clear_value x1; revert x1; intro _ _; rotate_left; unfold x1; clear x1)
    | (extract_lets +onlyGivenNames x1; (fail_if_success have _f := fun a => x1 a); clear_value x1; revert x1; intro _)
    | with_reducible apply State.windowsWork_still | with_reducible apply State.calDue_still
    | with_reducible apply State.windowOpens_still | split
    | (rw [State.lit_eq]; with_reducible refine Still.mk' ?_ rfl))

theorem execEpoRes_still {s0 : State} {rx : Rx} {status : Byte} {ignored : Bool} {s : State} (h0 : Still s0 s) :
    NextAll (Still s0) (execEpoRes rx status ignored s) := by
  unfold execEpoRes
  repeat' (first
    | with_reducible assumption | intro _
    | (extract_lets +onlyGivenNames x1; have hx1 : Still s0 x1 := ?_; clear_value x1; revert x1; intro _ _; rotate_left; unfold x1; clear x1)
    | with_reducible apply Still.answers | with_reducible apply State.ctrl_still
    | with_reducible apply State.armWake_still | with_reducible apply State.setEpResult_still
    | with_reducible apply State.flag_still | with_reducible apply State.epIdle_still | split)

theorem State.epDecide_still {s0 : State} {s : State} {y0 : EpHead} {commit : Bool} {st : ℕ} (h0 : Still s0 s) :
    Still s0 (State.epDecide s y0 commit st) := by
  unfold State.epDecide
  repeat' (first
    | with_reducible assumption | with_reducible apply State.epAbandon_still | with_reducible apply State.chainSend_still
    | with_reducible apply State.setEpState_still | with_reducible apply State.sendDecision_still | split | dsimp only
    | (rw [State.lit_eq]; with_reducible refine Still.mk' ?_ rfl))

theorem execEpoReply_still {s0 : State} {rx : Rx} {dev : Fin 512} {n : Word} {armed : Bool} {status : Byte}
    {s : State} (h0 : Still s0 s) :
    NextAll (Still s0) (execEpoReply rx dev n armed status s) := by
  unfold execEpoReply
  repeat' (first
    | with_reducible assumption | intro _
    | (extract_lets +onlyGivenNames x1; (fail_if_success have _f := fun a => x1 a); clear_value x1; revert x1; intro _)
    | with_reducible apply Still.answers | with_reducible apply State.ctrl_still
    | with_reducible apply State.put_still | with_reducible apply State.epDecide_still | split
    | (rw [State.lit_eq]; with_reducible refine Still.mk' ?_ rfl))

theorem execIdleWindowOpen_still {s0 : State} {w : Fin 16} {s : State} (h0 : Still s0 s) :
    NextAll (Still s0) (execIdleWindowOpen w s) := by
  unfold execIdleWindowOpen
  repeat' (first
    | with_reducible assumption | with_reducible apply Still.answers | with_reducible apply State.windowOpening_still
    | split)

theorem State.headRequest_still {s0 : State} {s : State} {dev : ℕ} {e : Stamp} {cancel : Bool} (h0 : Still s0 s) :
    Still s0 (State.headRequest s dev e cancel) := by
  unfold State.headRequest
  repeat' (first
    | with_reducible assumption
    | (extract_lets +onlyGivenNames x1; have hx1 : Still s0 x1 := ?_; clear_value x1; revert x1; intro _ _; rotate_left; unfold x1; clear x1)
    | (extract_lets +onlyGivenNames x1; (fail_if_success have _f := fun a => x1 a); clear_value x1; revert x1; intro _)
    | with_reducible apply State.epRefuse_still | with_reducible apply State.epArm_still
    | with_reducible apply State.chainSend_still | with_reducible apply State.epIgnored_still
    | with_reducible apply State.put_still | with_reducible apply State.sendDecision_still
    | with_reducible apply State.epDecide_still | split | with_reducible refine Still.pair ?_ (by assumption)
    | (rw [State.lit_eq]; with_reducible refine Still.mk' ?_ rfl))

theorem State.windowsNow_still {s0 : State} {s : State} (h0 : Still s0 s) :
    Still s0 (State.windowsNow s) := by
  unfold State.windowsNow
  repeat' (first
    | with_reducible assumption | intro _ | with_reducible apply State.windowCloses_still
    | with_reducible apply State.tstClose_still | with_reducible apply State.windowOpening_still | split | dsimp only
    | with_reducible apply Still.foldl)

theorem State.windowsNow_kept {s0 : State} {s : State} (h0 : Kept s0 s) :
    Kept s0 (State.windowsNow s) :=
  h0.still (State.windowsNow_still (Still.refl _))

theorem execEpoDec_still {s0 : State} {rx : Rx} {n : Word} {commit : Bool} {status : Byte} {joined : List (Fin 512)}
    {s : State} (h0 : Still s0 s) :
    NextAll (Still s0) (execEpoDec rx n commit status joined s) := by
  unfold execEpoDec
  repeat' (first
    | with_reducible assumption | intro _
    | (extract_lets +onlyGivenNames x1; (fail_if_success have _f := fun a => x1 a); clear_value x1; revert x1; intro _)
    | with_reducible apply Still.answers | with_reducible apply State.epAbandon_still
    | with_reducible apply State.ctrl_still | with_reducible apply State.setEpState_still | split
    | (rw [State.lit_eq]; with_reducible refine Still.mk' ?_ rfl))

theorem execEpoReq_still {s0 : State} {rx : Rx} {dev : Fin 512} {e : Stamp} {cancel : Bool} {s : State}
    (h0 : Still s0 s) :
    NextAll (Still s0) (execEpoReq rx dev e cancel s) := by
  unfold execEpoReq
  repeat' (first
    | with_reducible assumption | intro _ | with_reducible apply Still.answers | with_reducible apply State.ctrl_still
    | with_reducible apply State.headRequest_still | split)

theorem execEpoArm_still {s0 : State} {rx : Rx} {n : Word} {e : Stamp} {lists : EpochLists} {s : State}
    (h0 : Still s0 s) :
    NextAll (Still s0) (execEpoArm rx n e lists s) := by
  unfold execEpoArm
  repeat' (first
    | with_reducible assumption | intro _
    | (extract_lets +onlyGivenNames x1; have hx1 : Still s0 x1 := ?_; clear_value x1; revert x1; intro _ _; rotate_left; unfold x1; clear x1)
    | with_reducible apply Still.answers | with_reducible apply State.epArm_still
    | with_reducible apply State.chainSend_still | with_reducible apply State.twinStale_still
    | with_reducible apply State.ctrl_still | with_reducible apply State.partnerSend_still | split
    | with_reducible refine Still.pair ?_ (by assumption))

theorem State.epRequest_still {s0 : State} {s : State} {e : Stamp} {cancel : Bool} (h0 : Still s0 s) :
    Still s0 (State.epRequest s e cancel) := by
  unfold State.epRequest
  repeat' (first
    | with_reducible assumption
    | (extract_lets +onlyGivenNames x1; have hx1 : Still s0 x1 := ?_; clear_value x1; revert x1; intro _ _; rotate_left; unfold x1; clear x1)
    | (extract_lets +onlyGivenNames x1; (fail_if_success have _f := fun a => x1 a); clear_value x1; revert x1; intro _)
    | with_reducible apply State.chainSend_still | with_reducible apply State.setF_still
    | with_reducible apply State.headRequest_still | split)

theorem State.epRequest_kept {s0 : State} {s : State} {e : Stamp} {cancel : Bool} (h0 : Kept s0 s) :
    Kept s0 (State.epRequest s e cancel) :=
  h0.still (State.epRequest_still (Still.refl _))

theorem execEpochDecide_still {s0 : State} {s : State} (h0 : Still s0 s) :
    NextAll (Still s0) (execEpochDecide s) := by
  unfold execEpochDecide
  repeat' (first
    | with_reducible assumption | with_reducible apply Still.answers | with_reducible apply State.put_still
    | with_reducible apply State.epDecide_still | split)

theorem State.epComplete_still {s0 : State} {s : State} {p : EpPart} (h0 : Still s0 s) :
    Still s0 (State.epComplete s p) := by
  unfold State.epComplete
  repeat' (first
    | with_reducible assumption | intro _
    | (extract_lets +onlyGivenNames x1; have hx1 : Still s0 x1 := ?_; clear_value x1; revert x1; intro _ _; rotate_left; unfold x1; clear x1)
    | (extract_lets +onlyGivenNames x1; (fail_if_success have _f := fun a => x1 a); clear_value x1; revert x1; intro _)
    | with_reducible apply State.twinEpoch_still | with_reducible apply State.epRoleEnd_still
    | with_reducible apply State.resumeCtx_still | with_reducible apply State.epCounted_still
    | with_reducible apply State.epHeadEnd_still | with_reducible apply State.digEpoch_still
    | with_reducible apply State.tilesCaught_still | with_reducible apply State.tretEpoch_still
    | with_reducible apply State.setEpResult_still | with_reducible apply State.calBoundary_still
    | with_reducible apply State.setEpState_still | with_reducible apply State.windowsNow_still
    | with_reducible apply Still.foldl | (rw [State.lit_eq]; with_reducible refine Still.mk' ?_ rfl))

theorem State.epComplete_kept {s0 : State} {s : State} {p : EpPart} (h0 : Kept s0 s) :
    Kept s0 (State.epComplete s p) :=
  h0.still (State.epComplete_still (Still.refl _))

theorem State.applyShadows_still {s0 : State} {s : State} (h0 : Still s0 s) :
    Still s0 (State.applyShadows s) := by
  unfold State.applyShadows
  repeat' (first
    | with_reducible assumption | intro _
    | (extract_lets +onlyGivenNames x1; have hx1 : Still s0 x1 := ?_; clear_value x1; revert x1; intro _ _; rotate_left; unfold x1; clear x1)
    | (extract_lets +onlyGivenNames x1; (fail_if_success have _f := fun a => x1 a); clear_value x1; revert x1; intro _)
    | with_reducible apply State.rrUp_still | with_reducible apply State.drvApplied_still
    | with_reducible apply State.setF_still | with_reducible apply State.angApplied_still
    | with_reducible apply State.cellApplied_still | with_reducible apply State.cvgApplied_still
    | with_reducible apply State.cellSettle_still | with_reducible apply State.weirApplied_still
    | with_reducible apply State.put_still | with_reducible apply State.eddySwap_still
    | with_reducible apply State.fltSwap_still | with_reducible apply State.eddyBoundary_still
    | with_reducible apply State.routeSwitchAll_still | with_reducible apply State.lgcApplied_still
    | with_reducible apply State.chRestart_still | with_reducible apply State.cvgEvery_still | split
    | with_reducible apply Still.foldl | (rw [State.lit_eq]; with_reducible refine Still.mk' ?_ rfl))

theorem State.applyNow_still {s0 : State} {s : State} (h0 : Still s0 s) :
    Still s0 (State.applyNow s) := by
  unfold State.applyNow
  repeat' (first
    | with_reducible assumption
    | (extract_lets +onlyGivenNames x1; have hx1 : Still s0 x1 := ?_; clear_value x1; revert x1; intro _ _; rotate_left; unfold x1; clear x1)
    | with_reducible apply State.stageOk_still | with_reducible apply State.applyShadows_still
    | with_reducible apply State.put_still | with_reducible apply State.setEpResult_still
    | with_reducible apply State.windowsNow_still | split | with_reducible refine Still.pair ?_ (by assumption))

theorem State.applyNow_kept {s0 : State} {s : State} (h0 : Kept s0 s) :
    Kept s0 (State.applyNow s) :=
  h0.still (State.applyNow_still (Still.refl _))

theorem State.applyEpoch_still {s0 : State} {s : State} (h0 : Still s0 s) :
    Still s0 (State.applyEpoch s) := by
  unfold State.applyEpoch
  repeat' (first
    | with_reducible assumption | with_reducible apply State.liftFence_still
    | with_reducible apply State.applyShadows_still | split)

theorem execEpochApply_still {s0 : State} {s : State} (h0 : Still s0 s) :
    NextAll (Still s0) (execEpochApply s) := by
  unfold execEpochApply
  repeat' (first
    | with_reducible assumption | with_reducible apply Still.answers | with_reducible apply State.applyEpoch_still
    | with_reducible apply State.setEpState_still | split)

theorem State.epCtlWrite_still {s0 : State} {s : State} {q : Req} {v : Word} (h0 : Still s0 s) :
    Still s0 (State.epCtlWrite s q v) := by
  unfold State.epCtlWrite
  repeat' (first
    | with_reducible assumption
    | (extract_lets +onlyGivenNames x1; have hx1 : Still s0 x1 := ?_; clear_value x1; revert x1; intro _ _; rotate_left; unfold x1; clear x1)
    | with_reducible apply State.epRequest_still | with_reducible apply State.regWrite_still
    | with_reducible apply State.applyNow_still | split)

theorem State.epCtlWrite_kept {s0 : State} {s : State} {q : Req} {v : Word} (h0 : Kept s0 s) :
    Kept s0 (State.epCtlWrite s q v) :=
  h0.still (State.epCtlWrite_still (Still.refl _))

theorem execEpochArmRequest_still {s0 : State} {q : Req} {s : State} (h0 : Still s0 s) :
    NextAll (Still s0) (execEpochArmRequest q s) := by
  unfold execEpochArmRequest
  repeat' (first
    | with_reducible assumption | intro _ | with_reducible apply Still.answers
    | with_reducible apply State.guardWrite_still | with_reducible apply State.epCtlWrite_still)

theorem execEpochApplyNow_still {s0 : State} {q : Req} {s : State} (h0 : Still s0 s) :
    NextAll (Still s0) (execEpochApplyNow q s) := by
  unfold execEpochApplyNow
  repeat' (first
    | with_reducible assumption | intro _ | with_reducible apply Still.answers
    | with_reducible apply State.guardWrite_still | with_reducible apply State.epCtlWrite_still)

theorem execEpochCancelRequest_still {s0 : State} {q : Req} {s : State} (h0 : Still s0 s) :
    NextAll (Still s0) (execEpochCancelRequest q s) := by
  unfold execEpochCancelRequest
  repeat' (first
    | with_reducible assumption | intro _ | with_reducible apply Still.answers
    | with_reducible apply State.guardWrite_still | with_reducible apply State.epCtlWrite_still)

theorem execResetDrained_still {s0 : State} {i : Fin 256} {s : State} (h0 : Still s0 s) :
    NextAll (Still s0) (execResetDrained i s) := by
  unfold execResetDrained
  repeat' (first
    | with_reducible assumption | with_reducible apply Still.answers | with_reducible apply State.setF_still | split)

theorem State.resetPorts_still {s0 : State} {s : State} {i : ℕ} (h0 : Still s0 s) :
    Still s0 (State.resetPorts s i) := by
  unfold State.resetPorts
  repeat' (first
    | with_reducible assumption | intro _ | with_reducible apply State.setF_still | with_reducible apply State.put_still
    | split | dsimp only | with_reducible apply Still.foldl
    | (rw [State.lit_eq]; with_reducible refine Still.mk' ?_ rfl))

theorem State.resetPorts_kept {s0 : State} {s : State} {i : ℕ} (h0 : Kept s0 s) :
    Kept s0 (State.resetPorts s i) :=
  h0.still (State.resetPorts_still (Still.refl _))

theorem State.resetOps_still {s0 : State} {s : State} {i : ℕ} (h0 : Still s0 s) :
    Still s0 (State.resetOps s i) := by
  unfold State.resetOps
  repeat' (first
    | with_reducible assumption | intro _
    | (extract_lets +onlyGivenNames x1; have hx1 : Still s0 x1 := ?_; clear_value x1; revert x1; intro _ _; rotate_left; unfold x1; clear x1)
    | (extract_lets +onlyGivenNames x1; (fail_if_success have _f := fun a => x1 a); clear_value x1; revert x1; intro _)
    | with_reducible apply State.incBy_still | with_reducible apply State.inc_still | split
    | with_reducible apply Still.foldl | (rw [State.lit_eq]; with_reducible refine Still.mk' ?_ rfl))

theorem State.resetOps_kept {s0 : State} {s : State} {i : ℕ} (h0 : Kept s0 s) :
    Kept s0 (State.resetOps s i) :=
  h0.still (State.resetOps_still (Still.refl _))

theorem State.dropCmds_kept {s0 : State} {s : State} {p : HCmd → Bool} (h0 : Kept s0 s) :
    Kept s0 (State.dropCmds s p) := by
  unfold State.dropCmds
  repeat' (first
    | with_reducible assumption | intro _ | with_reducible apply State.mapCmd_kept
    | with_reducible apply State.endCmd_kept | with_reducible apply State.memWrite_kept | split | dsimp only
    | with_reducible apply Kept.foldl)

theorem State.hostReset_kept {s0 : State} {s : State} {i : ℕ} (h0 : Kept s0 s) :
    Kept s0 (State.hostReset s i) := by
  unfold State.hostReset
  repeat' (first
    | with_reducible assumption | with_reducible apply State.dropCmds_kept)

theorem State.qpDisable_kept {s0 : State} {s : State} {q : ℕ} (h0 : Kept s0 s) :
    Kept s0 (State.qpDisable s q) := by
  unfold State.qpDisable
  repeat' (first
    | with_reducible assumption
    | (extract_lets +onlyGivenNames x1; have hx1 : Kept s0 x1 := ?_; clear_value x1; revert x1; intro _ _; rotate_left; unfold x1; clear x1)
    | with_reducible apply State.setF_kept | with_reducible apply State.dropCmds_kept
    | with_reducible apply State.setQp_kept | with_reducible apply State.hostReset_kept | split)

theorem State.instReset_kept {s0 : State} {s : State} {i : ℕ} (h0 : Kept s0 s) :
    Kept s0 (State.instReset s i) := by
  unfold State.instReset
  repeat' (first
    | with_reducible assumption | intro _
    | (extract_lets +onlyGivenNames x1; have hx1 : Kept s0 x1 := ?_; clear_value x1; revert x1; intro _ _; rotate_left; unfold x1; clear x1)
    | (extract_lets +onlyGivenNames x1; (fail_if_success have _f := fun a => x1 a); clear_value x1; revert x1; intro _)
    | with_reducible apply State.setCell_kept | with_reducible apply State.resetOps_kept
    | with_reducible apply State.chainSend_kept | with_reducible apply State.setF_kept
    | with_reducible apply State.setDma_kept | with_reducible apply State.setCtxState_kept
    | with_reducible apply State.resetPorts_kept | with_reducible apply State.put_kept
    | with_reducible apply State.flag_kept | with_reducible apply State.hostReset_kept
    | with_reducible apply State.setRegion_kept | with_reducible apply State.setCtx_kept
    | with_reducible apply State.endWait_kept | with_reducible apply State.irqReset_kept | split | dsimp only
    | with_reducible apply Kept.foldl | (rw [State.lit_eq]; with_reducible refine Kept.mk' ?_ rfl))

theorem State.instCmd_kept {s0 : State} {s : State} {i : ℕ} {cmd : ℕ} (h0 : Kept s0 s) :
    Kept s0 (State.instCmd s i cmd) := by
  unfold State.instCmd
  repeat' (first
    | with_reducible assumption
    | (extract_lets +onlyGivenNames x1; have hx1 : Kept s0 x1 := ?_; clear_value x1; revert x1; intro _ _; rotate_left; unfold x1; clear x1)
    | (extract_lets +onlyGivenNames x1; (fail_if_success have _f := fun a => x1 a); clear_value x1; revert x1; intro _)
    | with_reducible apply State.setCtxState_kept | with_reducible apply State.holdCtx_kept
    | with_reducible apply State.instReset_kept | with_reducible apply State.flag_kept
    | with_reducible apply State.setCtx_kept | split)

theorem execFunctionLevelReset_kept {s0 : State} {fn : Fin 257} {s : State} (h0 : Kept s0 s) :
    NextAll (Kept s0) (execFunctionLevelReset fn s) := by
  unfold execFunctionLevelReset
  repeat' (first
    | with_reducible assumption | with_reducible apply Kept.answers | with_reducible apply State.instReset_kept
    | with_reducible apply State.qpDisable_kept | split)

theorem State.instCtlWrite_kept {s0 : State} {s : State} {q : Req} {i : ℕ} {v : Word} (h0 : Kept s0 s) :
    Kept s0 (State.instCtlWrite s q i v) := by
  unfold State.instCtlWrite
  repeat' (first
    | with_reducible assumption
    | (extract_lets +onlyGivenNames x1; have hx1 : Kept s0 x1 := ?_; clear_value x1; revert x1; intro _ _; rotate_left; unfold x1; clear x1)
    | with_reducible apply State.instCmd_kept | with_reducible apply State.regWrite_kept | split)

theorem execInstReset_kept {s0 : State} {q : Req} {i : Fin 256} {s : State} (h0 : Kept s0 s) :
    NextAll (Kept s0) (execInstReset q i s) := by
  unfold execInstReset
  repeat' (first
    | with_reducible assumption | intro _ | with_reducible apply Kept.answers
    | with_reducible apply State.instCtlWrite_kept | with_reducible apply State.guardWrite_kept)

theorem execInstResume_kept {s0 : State} {q : Req} {i : Fin 256} {s : State} (h0 : Kept s0 s) :
    NextAll (Kept s0) (execInstResume q i s) := by
  unfold execInstResume
  repeat' (first
    | with_reducible assumption | intro _ | with_reducible apply Kept.answers
    | with_reducible apply State.instCtlWrite_kept | with_reducible apply State.guardWrite_kept)

theorem execInstStart_kept {s0 : State} {q : Req} {i : Fin 256} {s : State} (h0 : Kept s0 s) :
    NextAll (Kept s0) (execInstStart q i s) := by
  unfold execInstStart
  repeat' (first
    | with_reducible assumption | intro _ | with_reducible apply Kept.answers
    | with_reducible apply State.instCtlWrite_kept | with_reducible apply State.guardWrite_kept)

theorem execInstHold_kept {s0 : State} {q : Req} {i : Fin 256} {s : State} (h0 : Kept s0 s) :
    NextAll (Kept s0) (execInstHold q i s) := by
  unfold execInstHold
  repeat' (first
    | with_reducible assumption | intro _ | with_reducible apply Kept.answers
    | with_reducible apply State.instCtlWrite_kept | with_reducible apply State.guardWrite_kept)

theorem State.wakeShow_still {s0 : State} {s : State} (h0 : Still s0 s) :
    Still s0 (State.wakeShow s) := by
  unfold State.wakeShow
  repeat' (first
    | with_reducible assumption | with_reducible apply State.setF_still)

theorem State.wakeShow_kept {s0 : State} {s : State} (h0 : Kept s0 s) :
    Kept s0 (State.wakeShow s) :=
  h0.still (State.wakeShow_still (Still.refl _))

theorem State.wakeAdd_still {s0 : State} {s : State} {rank : ℕ} {k : ℕ} (h0 : Still s0 s) :
    Still s0 (State.wakeAdd s rank k) := by
  unfold State.wakeAdd
  repeat' (first
    | with_reducible assumption
    | (extract_lets +onlyGivenNames x1; have hx1 : Still s0 x1 := ?_; clear_value x1; revert x1; intro _ _; rotate_left; unfold x1; clear x1)
    | (extract_lets +onlyGivenNames x1; (fail_if_success have _f := fun a => x1 a); clear_value x1; revert x1; intro _)
    | with_reducible apply State.inc_still | with_reducible apply State.wakeShow_still | split
    | (rw [State.lit_eq]; with_reducible refine Still.mk' ?_ rfl))

end Sys2Proof.Machine
end

