-- ==== Sys2Proof/Laws/FrameLeat.lean ====
section
/-! SUPPORT. What each function of Machine/Leat.lean, Machine/Reset.lean, Machine/Power.lean, Machine/Test.lean leaves alone: `Still`, the queue of commands and
every byte of memory; `Kept`, the queue, and the canonical form of memory. -/

set_option linter.unreachableTactic false
set_option linter.unusedTactic false
set_option linter.unusedVariables false
set_option linter.tactic.unusedName false

namespace Sys2Proof.Machine

theorem execHbSend_still {s0 : State} {s : State} (h0 : Still s0 s) :
    NextAll (Still s0) (execHbSend s) := by
  unfold execHbSend
  repeat' (first
    | with_reducible assumption | with_reducible apply Still.answers | with_reducible apply State.chainSend_still | split)

theorem execLeatTrainAttempt_still {s0 : State} {p : Fin 4} {s : State} (h0 : Still s0 s) :
    NextAll (Still s0) (execLeatTrainAttempt p s) := by
  unfold execLeatTrainAttempt
  repeat' (first
    | with_reducible assumption | with_reducible apply Still.answers | with_reducible apply State.setF_still | split)

theorem execLeaveDrainEnd_still {s0 : State} {s : State} (h0 : Still s0 s) :
    NextAll (Still s0) (execLeaveDrainEnd s) := by
  unfold execLeaveDrainEnd
  repeat' (first
    | with_reducible assumption | with_reducible apply Still.answers | with_reducible apply State.setMstate_still | split)

theorem execAngSend_still {s0 : State} {s : State} (h0 : Still s0 s) :
    NextAll (Still s0) (execAngSend s) := by
  unfold execAngSend
  repeat' (first
    | with_reducible assumption
    | (extract_lets +onlyGivenNames x1; (fail_if_success have _f := fun a => x1 a); clear_value x1; revert x1; intro _)
    | with_reducible apply Still.answers | with_reducible apply State.chainSend_still | split
    | (rw [State.lit_eq]; with_reducible refine Still.mk' ?_ rfl))

theorem State.angTake_still {s0 : State} {s : State} {m : AngMsg} (h0 : Still s0 s) :
    Still s0 (State.angTake s m) := by
  unfold State.angTake
  repeat' (first
    | with_reducible assumption
    | (extract_lets +onlyGivenNames x1; have hx1 : Still s0 x1 := ?_; clear_value x1; revert x1; intro _ _; rotate_left; unfold x1; clear x1)
    | (extract_lets +onlyGivenNames x1; (fail_if_success have _f := fun a => x1 a); clear_value x1; revert x1; intro _)
    | with_reducible apply State.setF_still | with_reducible apply State.put_still
    | with_reducible apply State.actShow_still | (rw [State.lit_eq]; with_reducible refine Still.mk' ?_ rfl))

theorem State.leatRequest_still {s0 : State} {s : State} {leave : Bool} {d : ℕ} (h0 : Still s0 s) :
    Still s0 (State.leatRequest s leave d) := by
  unfold State.leatRequest
  repeat' (first
    | with_reducible assumption | with_reducible apply State.setQueue_still | with_reducible apply State.occur_still
    | with_reducible apply State.setF_still | split | dsimp only)

theorem execTrainStepTimeout_still {s0 : State} {p : Fin 4} {s : State} (h0 : Still s0 s) :
    NextAll (Still s0) (execTrainStepTimeout p s) := by
  unfold execTrainStepTimeout
  repeat' (first
    | with_reducible assumption
    | (extract_lets +onlyGivenNames x1; (fail_if_success have _f := fun a => x1 a); clear_value x1; revert x1; intro _)
    | with_reducible apply Still.answers | with_reducible apply State.setF_still
    | with_reducible apply State.inc_still | split)

theorem State.admitWrite_still {s0 : State} {s : State} {q : Req} {v : Word} (h0 : Still s0 s) :
    Still s0 (State.admitWrite s q v) := by
  unfold State.admitWrite
  repeat' (first
    | with_reducible assumption
    | (extract_lets +onlyGivenNames x1; have hx1 : Still s0 x1 := ?_; clear_value x1; revert x1; intro _ _; rotate_left; unfold x1; clear x1)
    | with_reducible apply State.regWrite_still | with_reducible apply State.leatRequest_still | split)

theorem State.admitWrite_kept {s0 : State} {s : State} {q : Req} {v : Word} (h0 : Kept s0 s) :
    Kept s0 (State.admitWrite s q v) :=
  h0.still (State.admitWrite_still (Still.refl _))

theorem execPassThrough_still {s0 : State} {inp : Fin 4} {out : Fin 4} {cls : Fin 3} {dst : Fin 512} {ok : Bool}
    {fits : Bool} {body : List ℕ} {s : State} (h0 : Still s0 s) :
    NextAll (Still s0) (execPassThrough inp out cls dst ok fits body s) := by
  unfold execPassThrough
  repeat' (first
    | with_reducible assumption | with_reducible apply Still.answers | with_reducible apply State.inc_still
    | with_reducible apply State.send_still | split)

theorem execAdmit_still {s0 : State} {q : Req} {dev : Fin 512} {s : State} (h0 : Still s0 s) :
    NextAll (Still s0) (execAdmit q dev s) := by
  unfold execAdmit
  repeat' (first
    | with_reducible assumption | intro _ | with_reducible apply Still.answers
    | with_reducible apply State.guardWrite_still | with_reducible apply State.admitWrite_still)

theorem execGracefulLeave_still {s0 : State} {q : Req} {dev : Fin 512} {s : State} (h0 : Still s0 s) :
    NextAll (Still s0) (execGracefulLeave q dev s) := by
  unfold execGracefulLeave
  repeat' (first
    | with_reducible assumption | intro _ | with_reducible apply Still.answers
    | with_reducible apply State.guardWrite_still | with_reducible apply State.admitWrite_still)

theorem State.mirror_still {s0 : State} {s : State} {l : List ℕ} (h0 : Still s0 s) :
    Still s0 (State.mirror s l) := by
  unfold State.mirror
  repeat' (first
    | with_reducible assumption | with_reducible apply State.mirrorLimit_still
    | with_reducible apply State.partnerSend_still | split)

theorem State.mirror_kept {s0 : State} {s : State} {l : List ℕ} (h0 : Kept s0 s) :
    Kept s0 (State.mirror s l) :=
  h0.still (State.mirror_still (Still.refl _))

theorem execStrmFlit_still {s0 : State} {rx : Rx} {r : Fin 64} {dev : Fin 512} {slot : Fin 64} {ws : List Word}
    {s : State} (h0 : Still s0 s) :
    NextAll (Still s0) (execStrmFlit rx r dev slot ws s) := by
  unfold execStrmFlit
  repeat' (first
    | with_reducible assumption | intro _
    | (extract_lets +onlyGivenNames x1; have hx1 : Still s0 x1 := ?_; clear_value x1; revert x1; intro _ _; rotate_left; unfold x1; clear x1)
    | (extract_lets +onlyGivenNames x1; (fail_if_success have _f := fun a => x1 a); clear_value x1; revert x1; intro _)
    | with_reducible apply Still.answers | with_reducible apply State.setF_still
    | with_reducible apply State.packet_still | with_reducible apply State.incBy_still
    | with_reducible apply State.inc_still | with_reducible apply State.flag_still
    | with_reducible apply State.mirror_still | split | (rw [State.lit_eq]; with_reducible refine Still.mk' ?_ rfl))

theorem execDistTimeout_still {s0 : State} {s : State} (h0 : Still s0 s) :
    NextAll (Still s0) (execDistTimeout s) := by
  unfold execDistTimeout
  repeat' (first
    | with_reducible assumption
    | (extract_lets +onlyGivenNames x1; have hx1 : Still s0 x1 := ?_; clear_value x1; revert x1; intro _ _; rotate_left; unfold x1; clear x1)
    | (extract_lets +onlyGivenNames x1; (fail_if_success have _f := fun a => x1 a); clear_value x1; revert x1; intro _)
    | with_reducible apply Still.answers | with_reducible apply State.fence_still
    | with_reducible apply State.flag_still | split | (rw [State.lit_eq]; with_reducible refine Still.mk' ?_ rfl))

theorem execDistHoldExpire_still {s0 : State} {s : State} (h0 : Still s0 s) :
    NextAll (Still s0) (execDistHoldExpire s) := by
  unfold execDistHoldExpire
  repeat' (first
    | with_reducible assumption
    | (extract_lets +onlyGivenNames x1; have hx1 : Still s0 x1 := ?_; clear_value x1; revert x1; intro _ _; rotate_left; unfold x1; clear x1)
    | with_reducible apply Still.answers | with_reducible apply State.fence_still
    | with_reducible apply State.setMstate_still | split)

theorem State.catchResult_still {s0 : State} {s : State} {r : ℕ} (h0 : Still s0 s) :
    Still s0 (State.catchResult s r) := by
  unfold State.catchResult
  repeat' (first
    | with_reducible assumption
    | (extract_lets +onlyGivenNames x1; have hx1 : Still s0 x1 := ?_; clear_value x1; revert x1; intro _ _; rotate_left; unfold x1; clear x1)
    | (extract_lets +onlyGivenNames x1; (fail_if_success have _f := fun a => x1 a); clear_value x1; revert x1; intro _)
    | with_reducible apply State.occur_still | with_reducible apply State.setF_still
    | with_reducible apply State.hostEnd_still | split | (rw [State.lit_eq]; with_reducible refine Still.mk' ?_ rfl))

theorem State.lpCfgWrite_still {s0 : State} {s : State} {q : Req} {p : ℕ} {v : Word} (h0 : Still s0 s) :
    Still s0 (State.lpCfgWrite s q p v) := by
  unfold State.lpCfgWrite
  repeat' (first
    | with_reducible assumption
    | (extract_lets +onlyGivenNames x1; have hx1 : Still s0 x1 := ?_; clear_value x1; revert x1; intro _ _; rotate_left; unfold x1; clear x1)
    | with_reducible apply State.portDown_still | with_reducible apply State.regWrite_still | split)

theorem State.lpCfgWrite_kept {s0 : State} {s : State} {q : Req} {p : ℕ} {v : Word} (h0 : Kept s0 s) :
    Kept s0 (State.lpCfgWrite s q p v) :=
  h0.still (State.lpCfgWrite_still (Still.refl _))

theorem State.leatCfgWrite_still {s0 : State} {s : State} {q : Req} {v : Word} (h0 : Still s0 s) :
    Still s0 (State.leatCfgWrite s q v) := by
  unfold State.leatCfgWrite
  repeat' (first
    | with_reducible assumption | intro _
    | (extract_lets +onlyGivenNames x1; have hx1 : Still s0 x1 := ?_; clear_value x1; revert x1; intro _ _; rotate_left; unfold x1; clear x1)
    | (extract_lets +onlyGivenNames x1; (fail_if_success have _f := fun a => x1 a); clear_value x1; revert x1; intro _)
    | with_reducible apply State.portDown_still | with_reducible apply State.regWrite_still
    | with_reducible apply State.wakeAdd_still | split | with_reducible apply Still.foldl)

theorem State.leatCfgWrite_kept {s0 : State} {s : State} {q : Req} {v : Word} (h0 : Kept s0 s) :
    Kept s0 (State.leatCfgWrite s q v) :=
  h0.still (State.leatCfgWrite_still (Still.refl _))

theorem State.catchFail_still {s0 : State} {s : State} (h0 : Still s0 s) :
    Still s0 (State.catchFail s) := by
  unfold State.catchFail
  repeat' (first
    | with_reducible assumption
    | (extract_lets +onlyGivenNames x1; have hx1 : Still s0 x1 := ?_; clear_value x1; revert x1; intro _ _; rotate_left; unfold x1; clear x1)
    | with_reducible apply State.setTwin_still | with_reducible apply State.setMstate_still
    | with_reducible apply State.catchResult_still | split)

theorem State.catchFail_kept {s0 : State} {s : State} (h0 : Kept s0 s) :
    Kept s0 (State.catchFail s) :=
  h0.still (State.catchFail_still (Still.refl _))

theorem execCatchupEnd_still {s0 : State} {failed : Bool} {s : State} (h0 : Still s0 s) :
    NextAll (Still s0) (execCatchupEnd failed s) := by
  unfold execCatchupEnd
  repeat' (first
    | with_reducible assumption
    | (extract_lets +onlyGivenNames x1; have hx1 : Still s0 x1 := ?_; clear_value x1; revert x1; intro _ _; rotate_left; unfold x1; clear x1)
    | (extract_lets +onlyGivenNames x1; (fail_if_success have _f := fun a => x1 a); clear_value x1; revert x1; intro _)
    | with_reducible apply Still.answers | with_reducible apply State.setF_still
    | with_reducible apply State.setTwin_still | with_reducible apply State.partnerSend_still
    | with_reducible apply State.setMstate_still | with_reducible apply State.catchResult_still
    | with_reducible apply State.catchFail_still | split | (rw [State.lit_eq]; with_reducible refine Still.mk' ?_ rfl))

theorem execLaneLockLoss_still {s0 : State} {p : Fin 4} {s : State} (h0 : Still s0 s) :
    NextAll (Still s0) (execLaneLockLoss p s) := by
  unfold execLaneLockLoss
  repeat' (first
    | with_reducible assumption | with_reducible apply Still.answers | with_reducible apply State.portDown_still | split)

theorem execTsExchange_still {s0 : State} {p : Fin 4} {uid : BitVec 64} {s : State} (h0 : Still s0 s) :
    NextAll (Still s0) (execTsExchange p uid s) := by
  unfold execTsExchange
  repeat' (first
    | with_reducible assumption | with_reducible apply Still.answers | with_reducible apply State.portDown_still | split)

theorem execLpRetrain_still {s0 : State} {q : Req} {p : Fin 4} {v : Word} {s : State} (h0 : Still s0 s) :
    NextAll (Still s0) (execLpRetrain q p v s) := by
  unfold execLpRetrain
  repeat' (first
    | with_reducible assumption | intro _ | with_reducible apply Still.answers
    | with_reducible apply State.guardWrite_still | with_reducible apply State.lpCfgWrite_still)

theorem execMemberHbTimeout_still {s0 : State} {dev : Fin 512} {s : State} (h0 : Still s0 s) :
    NextAll (Still s0) (execMemberHbTimeout dev s) := by
  unfold execMemberHbTimeout
  repeat' (first
    | with_reducible assumption | with_reducible apply Still.answers | with_reducible apply State.announce_still | split)

theorem execLeatPortDown_still {s0 : State} {p : Fin 4} {s : State} (h0 : Still s0 s) :
    NextAll (Still s0) (execLeatPortDown p s) := by
  unfold execLeatPortDown
  repeat' (first
    | with_reducible assumption | with_reducible apply Still.answers | with_reducible apply State.portDown_still)

theorem execAng_still {s0 : State} {rx : Rx} {m : AngMsg} {s : State} (h0 : Still s0 s) :
    NextAll (Still s0) (execAng rx m s) := by
  unfold execAng
  repeat' (first
    | with_reducible assumption | intro _
    | (extract_lets +onlyGivenNames x1; (fail_if_success have _f := fun a => x1 a); clear_value x1; revert x1; intro _)
    | with_reducible apply Still.answers | with_reducible apply State.ctrl_still
    | with_reducible apply State.angTake_still | split | (rw [State.lit_eq]; with_reducible refine Still.mk' ?_ rfl))

theorem State.enumerated_still {s0 : State} {s : State} {e : EnumRec} (h0 : Still s0 s) :
    Still s0 (State.enumerated s e) := by
  unfold State.enumerated
  repeat' (first
    | with_reducible assumption | intro _
    | (extract_lets +onlyGivenNames x1; have hx1 : Still s0 x1 := ?_; clear_value x1; revert x1; intro _ _; rotate_left; unfold x1; clear x1)
    | (extract_lets +onlyGivenNames x1; (fail_if_success have _f := fun a => x1 a); clear_value x1; revert x1; intro _)
    | with_reducible apply State.announce_still | with_reducible apply State.setF_still
    | with_reducible apply State.put_still | with_reducible apply State.setPaths_still
    | with_reducible apply State.setMstate_still | with_reducible apply State.flag_still
    | with_reducible apply State.goStale_still | with_reducible apply State.setMember_still | split
    | with_reducible apply Still.foldl | (rw [State.lit_eq]; with_reducible refine Still.mk' ?_ rfl))

theorem execLeatCfgWrite_still {s0 : State} {q : Req} {v : Word} {s : State} (h0 : Still s0 s) :
    NextAll (Still s0) (execLeatCfgWrite q v s) := by
  unfold execLeatCfgWrite
  repeat' (first
    | with_reducible assumption | intro _ | with_reducible apply Still.answers
    | with_reducible apply State.guardWrite_still | with_reducible apply State.leatCfgWrite_still)

theorem State.tretCmd_kept {s0 : State} {s : State} {op : ℕ} {t : ℕ} (h0 : Kept s0 s) :
    Kept s0 (State.tretCmd s op t) := by
  unfold State.tretCmd
  repeat' (first
    | with_reducible assumption | intro _
    | (extract_lets +onlyGivenNames x1; (fail_if_success have _f := fun a => x1 a); clear_value x1; revert x1; intro _)
    | with_reducible apply State.occur_kept | with_reducible apply State.enterBorder_kept
    | with_reducible apply State.setF_kept | with_reducible apply State.tileRetire_kept
    | with_reducible apply State.instReset_kept | with_reducible apply State.tretEnd_kept
    | with_reducible apply State.hostEnd_kept | with_reducible apply State.drvBorder_kept | split
    | with_reducible apply Kept.foldl | (rw [State.lit_eq]; with_reducible refine Kept.mk' ?_ rfl))

theorem execMemb_still {s0 : State} {rx : Rx} {dev : Fin 512} {st : Fin 8} {mapgen : BitVec 16} {paths : List PathRec}
    {s : State} (h0 : Still s0 s) :
    NextAll (Still s0) (execMemb rx dev st mapgen paths s) := by
  unfold execMemb
  repeat' (first
    | with_reducible assumption | intro _
    | (extract_lets +onlyGivenNames x1; have hx1 : Still s0 x1 := ?_; clear_value x1; revert x1; intro _ _; rotate_left; unfold x1; clear x1)
    | (extract_lets +onlyGivenNames x1; (fail_if_success have _f := fun a => x1 a); clear_value x1; revert x1; intro _)
    | with_reducible apply Still.answers | with_reducible apply State.occur_still
    | with_reducible apply State.announce_still | with_reducible apply State.setF_still
    | with_reducible apply State.ctrl_still | with_reducible apply State.setPaths_still
    | with_reducible apply State.rrCheck_still | with_reducible apply State.setMember_still | split
    | (rw [State.lit_eq]; with_reducible refine Still.mk' ?_ rfl))

theorem execGnot_still {s0 : State} {rx : Rx} {dev : Fin 512} {inst : Fin 256} {gen : Byte} {s : State}
    (h0 : Still s0 s) :
    NextAll (Still s0) (execGnot rx dev inst gen s) := by
  unfold execGnot
  repeat' (first
    | with_reducible assumption | intro _ | with_reducible apply Still.answers | with_reducible apply State.ctrl_still
    | with_reducible apply State.discardOps_still | dsimp only
    | (rw [State.lit_eq]; with_reducible refine Still.mk' ?_ rfl))

theorem execWrap_still {s0 : State} {rx : Rx} {_dev : Fin 512} {_port : Fin 4} {_on : Bool} {paths : List PathRec}
    {s : State} (h0 : Still s0 s) :
    NextAll (Still s0) (execWrap rx _dev _port _on paths s) := by
  unfold execWrap
  repeat' (first
    | with_reducible assumption | intro _ | with_reducible apply Still.answers | with_reducible apply State.ctrl_still
    | with_reducible apply State.setPaths_still)

theorem execHb_still {s0 : State} {rx : Rx} {dev : Fin 512} {st : Fin 8} {gen : Word} {jseq : BitVec 64}
    {role : Fin 3} {s : State} (h0 : Still s0 s) :
    NextAll (Still s0) (execHb rx dev st gen jseq role s) := by
  unfold execHb
  repeat' (first
    | with_reducible assumption | intro _
    | (extract_lets +onlyGivenNames x1; have hx1 : Still s0 x1 := ?_; clear_value x1; revert x1; intro _ _; rotate_left; unfold x1; clear x1)
    | (extract_lets +onlyGivenNames x1; (fail_if_success have _f := fun a => x1 a); clear_value x1; revert x1; intro _)
    | with_reducible apply Still.answers | with_reducible apply State.setRecState_still
    | with_reducible apply State.setQueue_still | with_reducible apply State.ctrl_still
    | with_reducible apply State.put_still | with_reducible apply State.goStale_still | split)

theorem execLeatPortUp_still {s0 : State} {p : Fin 4} {i : PortUp} {s : State} (h0 : Still s0 s) :
    NextAll (Still s0) (execLeatPortUp p i s) := by
  unfold execLeatPortUp
  repeat' (first
    | with_reducible assumption
    | (extract_lets +onlyGivenNames x1; have hx1 : Still s0 x1 := ?_; clear_value x1; revert x1; intro _ _; rotate_left; unfold x1; clear x1)
    | (extract_lets +onlyGivenNames x1; (fail_if_success have _f := fun a => x1 a); clear_value x1; revert x1; intro _)
    | with_reducible apply Still.answers | with_reducible apply State.occur_still
    | with_reducible apply State.enumerated_still | with_reducible apply State.chainSend_still
    | with_reducible apply State.setF_still | with_reducible apply State.setLp_still
    | with_reducible apply State.flag_still | split | (rw [State.lit_eq]; with_reducible refine Still.mk' ?_ rfl))

theorem State.catchup_still {s0 : State} {s : State} (h0 : Still s0 s) :
    Still s0 (State.catchup s) := by
  unfold State.catchup
  repeat' (first
    | with_reducible assumption
    | (extract_lets +onlyGivenNames x1; have hx1 : Still s0 x1 := ?_; clear_value x1; revert x1; intro _ _; rotate_left; unfold x1; clear x1)
    | (extract_lets +onlyGivenNames x1; (fail_if_success have _f := fun a => x1 a); clear_value x1; revert x1; intro _)
    | with_reducible apply State.setF_still | with_reducible apply State.setTwin_still
    | with_reducible apply State.applyShadows_still | with_reducible apply State.put_still
    | with_reducible apply State.partnerSend_still | with_reducible apply State.setMstate_still
    | with_reducible apply State.catchResult_still | with_reducible apply State.windowsNow_still | split
    | (rw [State.lit_eq]; with_reducible refine Still.mk' ?_ rfl))

theorem State.tretWrite_kept {s0 : State} {s : State} {q : Req} {v : Word} (h0 : Kept s0 s) :
    Kept s0 (State.tretWrite s q v) := by
  unfold State.tretWrite
  repeat' (first
    | with_reducible assumption | with_reducible apply State.tretCmd_kept | with_reducible apply State.regWrite_kept)

theorem State.staleWrite_still {s0 : State} {s : State} {q : Req} {v : Word} (h0 : Still s0 s) :
    Still s0 (State.staleWrite s q v) := by
  unfold State.staleWrite
  repeat' (first
    | with_reducible assumption
    | (extract_lets +onlyGivenNames x1; have hx1 : Still s0 x1 := ?_; clear_value x1; revert x1; intro _ _; rotate_left; unfold x1; clear x1)
    | with_reducible apply State.regWrite_still | with_reducible apply State.catchup_still | split)

theorem State.staleWrite_kept {s0 : State} {s : State} {q : Req} {v : Word} (h0 : Kept s0 s) :
    Kept s0 (State.staleWrite s q v) :=
  h0.still (State.staleWrite_still (Still.refl _))

theorem execRetire_kept {s0 : State} {q : Req} {t : Fin 16} {s : State} (h0 : Kept s0 s) :
    NextAll (Kept s0) (execRetire q t s) := by
  unfold execRetire
  repeat' (first
    | with_reducible assumption | intro _ | with_reducible apply Kept.answers | with_reducible apply State.guardWrite_kept
    | with_reducible apply State.tretWrite_kept)

theorem execCatchupBlank_still {s0 : State} {q : Req} {host : Bool} {s : State} (h0 : Still s0 s) :
    NextAll (Still s0) (execCatchupBlank q host s) := by
  unfold execCatchupBlank
  repeat' (first
    | with_reducible assumption | intro _ | with_reducible apply Still.answers
    | with_reducible apply State.staleWrite_still | with_reducible apply State.guardWrite_still)

theorem execForce_kept {s0 : State} {q : Req} {t : Fin 16} {s : State} (h0 : Kept s0 s) :
    NextAll (Kept s0) (execForce q t s) := by
  unfold execForce
  repeat' (first
    | with_reducible assumption | intro _ | with_reducible apply Kept.answers | with_reducible apply State.guardWrite_kept
    | with_reducible apply State.tretWrite_kept)

theorem execCatchupLocal_still {s0 : State} {q : Req} {host : Bool} {s : State} (h0 : Still s0 s) :
    NextAll (Still s0) (execCatchupLocal q host s) := by
  unfold execCatchupLocal
  repeat' (first
    | with_reducible assumption | intro _ | with_reducible apply Still.answers
    | with_reducible apply State.staleWrite_still | with_reducible apply State.guardWrite_still)

theorem execCatchupTransfer_still {s0 : State} {q : Req} {host : Bool} {s : State} (h0 : Still s0 s) :
    NextAll (Still s0) (execCatchupTransfer q host s) := by
  unfold execCatchupTransfer
  repeat' (first
    | with_reducible assumption | intro _ | with_reducible apply Still.answers
    | with_reducible apply State.staleWrite_still | with_reducible apply State.guardWrite_still)

theorem execCatchupReplay_still {s0 : State} {q : Req} {host : Bool} {s : State} (h0 : Still s0 s) :
    NextAll (Still s0) (execCatchupReplay q host s) := by
  unfold execCatchupReplay
  repeat' (first
    | with_reducible assumption | intro _ | with_reducible apply Still.answers
    | with_reducible apply State.staleWrite_still | with_reducible apply State.guardWrite_still)

theorem execReturn_kept {s0 : State} {q : Req} {t : Fin 16} {s : State} (h0 : Kept s0 s) :
    NextAll (Kept s0) (execReturn q t s) := by
  unfold execReturn
  repeat' (first
    | with_reducible assumption | intro _ | with_reducible apply Kept.answers | with_reducible apply State.guardWrite_kept
    | with_reducible apply State.tretWrite_kept)

theorem State.powerLog_still {s0 : State} {s : State} {cls : ℕ} (h0 : Still s0 s) :
    Still s0 (State.powerLog s cls) := by
  unfold State.powerLog
  repeat' (first
    | with_reducible assumption | with_reducible apply State.healthLog_still | with_reducible apply State.free_still)

theorem State.powerLog_kept {s0 : State} {s : State} {cls : ℕ} (h0 : Kept s0 s) :
    Kept s0 (State.powerLog s cls) :=
  h0.still (State.powerLog_still (Still.refl _))

theorem State.lastLoss_still {s0 : State} {s : State} {cause : ℕ} {rail : ℕ} (h0 : Still s0 s) :
    Still s0 (State.lastLoss s cause rail) := by
  unfold State.lastLoss
  repeat' (first
    | with_reducible assumption | with_reducible apply State.put_still)

theorem State.lastLoss_kept {s0 : State} {s : State} {cause : ℕ} {rail : ℕ} (h0 : Kept s0 s) :
    Kept s0 (State.lastLoss s cause rail) :=
  h0.still (State.lastLoss_still (Still.refl _))

theorem State.setStraps_still {s0 : State} {s : State} {st : Straps} (h0 : Still s0 s) :
    Still s0 (State.setStraps s st) := by
  unfold State.setStraps
  repeat' (first
    | with_reducible assumption
    | (extract_lets +onlyGivenNames x1; have hx1 : Still s0 x1 := ?_; clear_value x1; revert x1; intro _ _; rotate_left; unfold x1; clear x1)
    | (extract_lets +onlyGivenNames x1; (fail_if_success have _f := fun a => x1 a); clear_value x1; revert x1; intro _)
    | with_reducible apply State.setF_still | (rw [State.lit_eq]; with_reducible refine Still.mk' ?_ rfl))

theorem State.setStraps_kept {s0 : State} {s : State} {st : Straps} (h0 : Kept s0 s) :
    Kept s0 (State.setStraps s st) :=
  h0.still (State.setStraps_still (Still.refl _))

theorem State.tearLines_still {s0 : State} {s : State} (h0 : Still s0 s) :
    Still s0 (State.tearLines s) := by
  unfold State.tearLines
  repeat' (first
    | with_reducible assumption | intro _ | with_reducible apply State.setNvmLine_still | split | dsimp only
    | with_reducible apply Still.foldl)

theorem State.tearLines_kept {s0 : State} {s : State} (h0 : Kept s0 s) :
    Kept s0 (State.tearLines s) :=
  h0.still (State.tearLines_still (Still.refl _))

theorem State.deviceReset_kept {s0 s : State} {st : Straps} {aon sensors held : Bool} (h0 : Kept s0 s) :
    Kept s0 (State.deviceReset s st aon sensors held) := by
  have h1 := (State.tearLines_kept h0).pending
  unfold State.deviceReset
  exact State.refreshCells_kept (State.wakeShow_kept (State.setF_kept (State.setStraps_kept ⟨h1, fun _ => rfl⟩)))

theorem State.jnlFind_still {s0 : State} {s : State} (h0 : Still s0 s) :
    Still s0 (State.jnlFind s) := by
  unfold State.jnlFind
  repeat' (first
    | with_reducible assumption
    | (extract_lets +onlyGivenNames x1; (fail_if_success have _f := fun a => x1 a); clear_value x1; revert x1; intro _)
    | with_reducible apply State.setF_still | with_reducible apply State.setHead_still | split | dsimp only
    | (rw [State.lit_eq]; with_reducible refine Still.mk' ?_ rfl))

theorem State.startUp_still {s0 : State} {s : State} (h0 : Still s0 s) :
    Still s0 (State.startUp s) := by
  unfold State.startUp
  repeat' (first
    | with_reducible assumption
    | (extract_lets +onlyGivenNames x1; have hx1 : Still s0 x1 := ?_; clear_value x1; revert x1; intro _ _; rotate_left; unfold x1; clear x1)
    | (extract_lets +onlyGivenNames x1; (fail_if_success have _f := fun a => x1 a); clear_value x1; revert x1; intro _)
    | with_reducible apply State.setF_still | with_reducible apply State.jnlFind_still
    | with_reducible apply State.logFind_still | with_reducible apply State.powerLog_still | split)

theorem State.startUp_kept {s0 : State} {s : State} (h0 : Kept s0 s) :
    Kept s0 (State.startUp s) :=
  h0.still (State.startUp_still (Still.refl _))

theorem State.hostPfail_still {s0 : State} {s : State} (h0 : Still s0 s) :
    Still s0 (State.hostPfail s) := by
  unfold State.hostPfail
  repeat' (first
    | with_reducible assumption | intro _
    | (extract_lets +onlyGivenNames x1; have _m : Mem := x1; clear _m; unfold x1; clear x1)
    | (extract_lets +onlyGivenNames x1; (fail_if_success have _f := fun a => x1 a); clear_value x1; revert x1; intro _)
    | with_reducible apply State.mapCmd_still | with_reducible apply State.endCmd_still
    | with_reducible apply State.flag_still | with_reducible apply Still.foldl
    | (rw [State.lit_eq]; with_reducible refine Still.mk' ?_ rfl))

theorem State.pfail_still {s0 : State} {s : State} {cause : ℕ} {rail : ℕ} (h0 : Still s0 s) :
    Still s0 (State.pfail s cause rail) := by
  unfold State.pfail
  repeat' (first
    | with_reducible assumption
    | (extract_lets +onlyGivenNames x1; have hx1 : Still s0 x1 := ?_; clear_value x1; revert x1; intro _ _; rotate_left; unfold x1; clear x1)
    | (extract_lets +onlyGivenNames x1; (fail_if_success have _f := fun a => x1 a); clear_value x1; revert x1; intro _)
    | with_reducible apply State.occur_still | with_reducible apply State.setF_still
    | with_reducible apply State.latchCells_still | with_reducible apply State.lastLoss_still
    | with_reducible apply State.fence_still | with_reducible apply State.hostPfail_still
    | with_reducible apply State.flag_still | with_reducible apply State.latchDrvs_still | split
    | (rw [State.lit_eq]; with_reducible refine Still.mk' ?_ rfl))

theorem State.pfail_kept {s0 : State} {s : State} {cause : ℕ} {rail : ℕ} (h0 : Kept s0 s) :
    Kept s0 (State.pfail s cause rail) :=
  h0.still (State.pfail_still (Still.refl _))

theorem State.nvmBegun_still {s0 : State} {s : State} (h0 : Still s0 s) :
    Still s0 (State.nvmBegun s) := by
  unfold State.nvmBegun
  repeat' (first
    | with_reducible assumption | (extract_lets +onlyGivenNames x1; have _m : Mem := x1; clear _m; unfold x1; clear x1)
    | (extract_lets +onlyGivenNames x1; (fail_if_success have _f := fun a => x1 a); clear_value x1; revert x1; intro _)
    | (rw [State.lit_eq]; with_reducible refine Still.mk' ?_ rfl))

theorem State.tileLost_kept {s0 s : State} {t : ℕ} (h0 : Kept s0 s) : Kept s0 (State.tileLost s t) := by
  unfold State.tileLost
  exact ⟨h0.pending, fun c => Memory.wf_filter _ _ (h0.canon c)⟩

theorem State.tapSample_still {s0 : State} {s : State} {b : ℕ} (h0 : Still s0 s) :
    Still s0 (State.tapSample s b).2 := by
  unfold State.tapSample
  repeat' (first
    | with_reducible assumption
    | (extract_lets +onlyGivenNames x1; (fail_if_success have _f := fun a => x1 a); clear_value x1; revert x1; intro _)
    | with_reducible apply State.free_still | split)

theorem State.tapCapture_still {s0 : State} {s : State} (h0 : Still s0 s) :
    Still s0 (State.tapCapture s).2 := by
  unfold State.tapCapture
  repeat' (first
    | with_reducible assumption | intro _ | with_reducible apply State.tapSample_still | dsimp only
    | with_reducible apply Still.foldlPair)

theorem execPfailClockStop_still {s0 : State} {s : State} (h0 : Still s0 s) :
    NextAll (Still s0) (execPfailClockStop s) := by
  unfold execPfailClockStop
  repeat' (first
    | with_reducible assumption | with_reducible apply Still.answers | with_reducible apply State.put_still | split)

theorem State.tapShift_still {s0 : State} {s : State} {ir : TapIr} (h0 : Still s0 s) :
    Still s0 (State.tapShift s ir).2 := by
  unfold State.tapShift
  repeat' (first
    | with_reducible assumption | with_reducible apply State.tapCapture_still | with_reducible apply State.free_still
    | split)

theorem State.tempShow_still {s0 : State} {s : State} {l : List (BitVec 16)} (h0 : Still s0 s) :
    Still s0 (State.tempShow s l) := by
  unfold State.tempShow
  repeat' (first
    | with_reducible assumption | intro _ | with_reducible apply State.put_still | dsimp only
    | with_reducible apply Still.foldl)

theorem execVioBankGood_still {s0 : State} {t : Fin 16} {s : State} (h0 : Still s0 s) :
    NextAll (Still s0) (execVioBankGood t s) := by
  unfold execVioBankGood
  repeat' (first
    | with_reducible assumption | with_reducible apply Still.answers | with_reducible apply State.setF_still)

theorem State.tileResult_still {s0 : State} {s : State} {r : ℕ} (h0 : Still s0 s) :
    Still s0 (State.tileResult s r) := by
  unfold State.tileResult
  repeat' (first
    | with_reducible assumption | with_reducible apply State.occur_still | with_reducible apply State.setF_still)

theorem State.tileResult_kept {s0 : State} {s : State} {r : ℕ} (h0 : Kept s0 s) :
    Kept s0 (State.tileResult s r) :=
  h0.still (State.tileResult_still (Still.refl _))

theorem State.loadAnew_still {s0 : State} {s : State} (h0 : Still s0 s) :
    Still s0 (State.loadAnew s) := by
  unfold State.loadAnew
  repeat' (first
    | with_reducible assumption
    | (extract_lets +onlyGivenNames x1; have hx1 : Still s0 x1 := ?_; clear_value x1; revert x1; intro _ _; rotate_left; unfold x1; clear x1)
    | with_reducible apply State.put_still | (rw [State.lit_eq]; with_reducible refine Still.mk' ?_ rfl))

theorem State.setTileState_still {s0 : State} {s : State} {t : ℕ} {x : ℕ} (h0 : Still s0 s) :
    Still s0 (State.setTileState s t x) := by
  unfold State.setTileState
  repeat' (first
    | with_reducible assumption | intro _
    | (extract_lets +onlyGivenNames x1; have hx1 : Still s0 x1 := ?_; clear_value x1; revert x1; intro _ _; rotate_left; unfold x1; clear x1)
    | with_reducible apply State.occur_still | with_reducible apply State.put_still
    | with_reducible apply State.refreshCell_still | split | with_reducible apply Still.foldl)

theorem State.setTileState_kept {s0 : State} {s : State} {t : ℕ} {x : ℕ} (h0 : Kept s0 s) :
    Kept s0 (State.setTileState s t x) :=
  h0.still (State.setTileState_still (Still.refl _))

theorem State.cellsUnreleased_still {s0 : State} {s : State} (h0 : Still s0 s) :
    Still s0 (State.cellsUnreleased s) := by
  unfold State.cellsUnreleased
  repeat' (first
    | with_reducible assumption | intro _ | with_reducible apply State.setF_still | with_reducible apply Still.foldl)

theorem State.tmaxRead_still {s0 : State} {s : State} (h0 : Still s0 s) :
    Still s0 (State.tmaxRead s).2 := by
  unfold State.tmaxRead
  repeat' (first
    | with_reducible assumption
    | (extract_lets +onlyGivenNames x1; (fail_if_success have _f := fun a => x1 a); clear_value x1; revert x1; intro _)
    | with_reducible apply State.regRead_still | split | dsimp only
    | with_reducible refine Still.pair ?_ (by assumption)
    | (rw [State.lit_eq]; with_reducible refine Still.mk' ?_ rfl))

theorem State.tileUp_still {s0 : State} {s : State} {rank : ℕ} {t : ℕ} (h0 : Still s0 s) :
    Still s0 (State.tileUp s rank t) := by
  unfold State.tileUp
  repeat' (first
    | with_reducible assumption
    | (extract_lets +onlyGivenNames x1; have hx1 : Still s0 x1 := ?_; clear_value x1; revert x1; intro _ _; rotate_left; unfold x1; clear x1)
    | (extract_lets +onlyGivenNames x1; (fail_if_success have _f := fun a => x1 a); clear_value x1; revert x1; intro _)
    | with_reducible apply State.setTileState_still | with_reducible apply State.setF_still
    | with_reducible apply State.tileResult_still | split
    | (rw [State.lit_eq]; with_reducible refine Still.mk' ?_ rfl))

theorem State.standbyShown_still {s0 : State} {s : State} (h0 : Still s0 s) :
    Still s0 (State.standbyShown s) := by
  unfold State.standbyShown
  repeat' (first
    | with_reducible assumption
    | (extract_lets +onlyGivenNames x1; (fail_if_success have _f := fun a => x1 a); clear_value x1; revert x1; intro _)
    | with_reducible apply State.setF_still | (rw [State.lit_eq]; with_reducible refine Still.mk' ?_ rfl))

theorem execRailGood_still {s0 : State} {k : Fin 11} {s : State} (h0 : Still s0 s) :
    NextAll (Still s0) (execRailGood k s) := by
  unfold execRailGood
  repeat' (first
    | with_reducible assumption
    | (extract_lets +onlyGivenNames x1; have hx1 : Still s0 x1 := ?_; clear_value x1; revert x1; intro _ _; rotate_left; unfold x1; clear x1)
    | with_reducible apply Still.answers | with_reducible apply State.setF_still
    | with_reducible apply State.refreshCells_still | split)

theorem State.wakeEnd_still {s0 : State} {s : State} {rank : ℕ} {k : ℕ} (h0 : Still s0 s) :
    Still s0 (State.wakeEnd s rank k) := by
  unfold State.wakeEnd
  repeat' (first
    | with_reducible assumption
    | (extract_lets +onlyGivenNames x1; have hx1 : Still s0 x1 := ?_; clear_value x1; revert x1; intro _ _; rotate_left; unfold x1; clear x1)
    | (extract_lets +onlyGivenNames x1; (fail_if_success have _f := fun a => x1 a); clear_value x1; revert x1; intro _)
    | with_reducible apply State.occur_still | with_reducible apply State.wakeShow_still
    | with_reducible apply State.tileUp_still | split | (rw [State.lit_eq]; with_reducible refine Still.mk' ?_ rfl))

theorem State.wakeEnd_kept {s0 : State} {s : State} {rank : ℕ} {k : ℕ} (h0 : Kept s0 s) :
    Kept s0 (State.wakeEnd s rank k) :=
  h0.still (State.wakeEnd_still (Still.refl _))

theorem State.refsOff_still {s0 : State} {s : State} (h0 : Still s0 s) :
    Still s0 (State.refsOff s) := by
  unfold State.refsOff
  repeat' (first
    | with_reducible assumption | intro _ | with_reducible apply State.refRdy_still | with_reducible apply State.put_still
    | with_reducible apply Still.foldl)

theorem State.tileRel_still {s0 : State} {s : State} {t : ℕ} (h0 : Still s0 s) :
    Still s0 (State.tileRel s t) := by
  unfold State.tileRel
  repeat' (first
    | with_reducible assumption | intro _ | with_reducible apply State.refreshCell_still
    | with_reducible apply State.drvSync_still | with_reducible apply State.flag_still | split | dsimp only
    | with_reducible apply Still.foldl)

theorem State.tileRel_kept {s0 : State} {s : State} {t : ℕ} (h0 : Kept s0 s) :
    Kept s0 (State.tileRel s t) :=
  h0.still (State.tileRel_still (Still.refl _))

theorem execWakeItemStart_still {s0 : State} {s : State} (h0 : Still s0 s) :
    NextAll (Still s0) (execWakeItemStart s) := by
  unfold execWakeItemStart
  repeat' (first
    | with_reducible assumption
    | (extract_lets +onlyGivenNames x1; (fail_if_success have _f := fun a => x1 a); clear_value x1; revert x1; intro _)
    | with_reducible apply Still.answers | with_reducible apply State.wakeShow_still | split
    | (rw [State.lit_eq]; with_reducible refine Still.mk' ?_ rfl))

theorem execTshutReset_kept {s0 : State} {s : State} (h0 : Kept s0 s) :
    NextAll (Kept s0) (execTshutReset s) := by
  unfold execTshutReset
  repeat' (first
    | with_reducible assumption | with_reducible apply Kept.answers | with_reducible apply State.deviceReset_kept | split)

theorem State.tileStops_still {s0 : State} {s : State} {t : ℕ} (h0 : Still s0 s) :
    Still s0 (State.tileStops s t) := by
  unfold State.tileStops
  repeat' (first
    | with_reducible assumption | intro _ | with_reducible apply State.setCtxState_still
    | with_reducible apply Still.foldl)

theorem State.tileStops_kept {s0 : State} {s : State} {t : ℕ} (h0 : Kept s0 s) :
    Kept s0 (State.tileStops s t) :=
  h0.still (State.tileStops_still (Still.refl _))

theorem execVioUndervoltage_still {s0 : State} {t : Fin 16} {s : State} (h0 : Still s0 s) :
    NextAll (Still s0) (execVioUndervoltage t s) := by
  unfold execVioUndervoltage
  repeat' (first
    | with_reducible assumption | with_reducible apply Still.answers | with_reducible apply State.pinInputs_still
    | with_reducible apply State.setF_still)

theorem State.standbyWake_kept {s0 : State} {s : State} (h0 : Kept s0 s) :
    Kept s0 (State.standbyWake s) := by
  unfold State.standbyWake
  repeat' (first
    | with_reducible assumption
    | (extract_lets +onlyGivenNames x1; (fail_if_success have _f := fun a => x1 a); clear_value x1; revert x1; intro _)
    | with_reducible apply State.deviceReset_kept | split | (rw [State.lit_eq]; with_reducible refine Kept.mk' ?_ rfl))

theorem execStandbyTimerWake_kept {s0 : State} {s : State} (h0 : Kept s0 s) :
    NextAll (Kept s0) (execStandbyTimerWake s) := by
  unfold execStandbyTimerWake
  repeat' (first
    | with_reducible assumption | with_reducible apply Kept.answers | with_reducible apply State.standbyWake_kept | split)

theorem execPfailNRise_kept {s0 : State} {s : State} (h0 : Kept s0 s) :
    NextAll (Kept s0) (execPfailNRise s) := by
  unfold execPfailNRise
  repeat' (first
    | with_reducible assumption
    | (extract_lets +onlyGivenNames x1; have hx1 : Kept s0 x1 := ?_; clear_value x1; revert x1; intro _ _; rotate_left; unfold x1; clear x1)
    | (extract_lets +onlyGivenNames x1; (fail_if_success have _f := fun a => x1 a); clear_value x1; revert x1; intro _)
    | with_reducible apply Kept.answers | with_reducible apply State.standbyWake_kept | split
    | (rw [State.lit_eq]; with_reducible refine Kept.mk' ?_ rfl))

theorem execPowerOnRelease_kept {s0 : State} {st : Straps} {s : State} (h0 : Kept s0 s) :
    NextAll (Kept s0) (execPowerOnRelease st s) := by
  unfold execPowerOnRelease
  repeat' (first
    | with_reducible assumption
    | (extract_lets +onlyGivenNames x1; (fail_if_success have _f := fun a => x1 a); clear_value x1; revert x1; intro _)
    | with_reducible apply Kept.answers | with_reducible apply State.deviceReset_kept
    | with_reducible apply State.startUp_kept | split)

theorem execClockDomainLocked_still {s0 : State} {d : Fin 29} {s : State} (h0 : Still s0 s) :
    NextAll (Still s0) (execClockDomainLocked d s) := by
  have h1 (p : Pwr) : Still s0 { s with pwr := p } := h0.upd rfl rfl
  exact Still.answers (Still.ite (Still.foldl (fun _ _ h => State.resumeCtx_still h) (State.put_still (h1 _))) (State.put_still (h1 _)))

theorem execPwrTmaxRead_still {s0 : State} {q : Req} {s : State} (h0 : Still s0 s) :
    NextAll (Still s0) (execPwrTmaxRead q s) := by
  unfold execPwrTmaxRead
  repeat' (first
    | with_reducible assumption | intro _ | with_reducible apply Still.answers | with_reducible apply State.tmaxRead_still
    | with_reducible apply State.guardRead_still)

theorem State.refWrite_still {s0 : State} {s : State} {q : Req} {d : ℕ} {v : Word} (h0 : Still s0 s) :
    Still s0 (State.refWrite s q d v) := by
  unfold State.refWrite
  repeat' (first
    | with_reducible assumption | intro _
    | (extract_lets +onlyGivenNames x1; have hx1 : Still s0 x1 := ?_; clear_value x1; revert x1; intro _ _; rotate_left; unfold x1; clear x1)
    | with_reducible apply State.refRdy_still | with_reducible apply State.regWrite_still
    | with_reducible apply State.wakeAdd_still | split | dsimp only | with_reducible apply Still.foldl)

theorem execPfailEnd_still {s0 : State} {s : State} (h0 : Still s0 s) :
    NextAll (Still s0) (execPfailEnd s) := by
  unfold execPfailEnd
  repeat' (first
    | with_reducible assumption | intro _
    | (extract_lets +onlyGivenNames x1; have hx1 : Still s0 x1 := ?_; clear_value x1; revert x1; intro _ _; rotate_left; unfold x1; clear x1)
    | with_reducible apply Still.answers | with_reducible apply State.setTileState_still
    | with_reducible apply State.setF_still | with_reducible apply State.wakeAdd_still
    | with_reducible apply State.twinBalls_still | with_reducible apply State.inc_still
    | with_reducible apply State.flag_still | with_reducible apply State.loadAnew_still
    | with_reducible apply State.powerLog_still | with_reducible apply State.refreshCells_still | split
    | with_reducible apply Still.foldl)

theorem execCvgRefWrite_still {s0 : State} {q : Req} {d : Fin 2} {v : Word} {s : State} (h0 : Still s0 s) :
    NextAll (Still s0) (execCvgRefWrite q d v s) := by
  unfold execCvgRefWrite
  repeat' (first
    | with_reducible assumption | intro _ | with_reducible apply Still.answers
    | with_reducible apply State.guardWrite_still | with_reducible apply State.refWrite_still)

theorem execWakePin_kept {s0 : State} {n : Fin 256} {s : State} (h0 : Kept s0 s) :
    NextAll (Kept s0) (execWakePin n s) := by
  unfold execWakePin
  repeat' (first
    | with_reducible assumption
    | (extract_lets +onlyGivenNames x1; have hx1 : Kept s0 x1 := ?_; clear_value x1; revert x1; intro _ _; rotate_left; unfold x1; clear x1)
    | with_reducible apply Kept.answers | with_reducible apply State.standbyWake_kept
    | with_reducible apply State.setF_kept | with_reducible apply State.flag_kept | split)

theorem execResetNAssert_kept {s0 : State} {st : Straps} {s : State} (h0 : Kept s0 s) :
    NextAll (Kept s0) (execResetNAssert st s) := by
  unfold execResetNAssert
  repeat' (first
    | with_reducible assumption | with_reducible apply Kept.answers | with_reducible apply State.lastLoss_kept
    | with_reducible apply State.deviceReset_kept | with_reducible apply State.startUp_kept)

theorem State.bootRst_kept {s0 : State} {s : State} (h0 : Kept s0 s) :
    Kept s0 (State.bootRst s) := by
  unfold State.bootRst
  repeat' (first
    | with_reducible assumption | with_reducible apply State.lastLoss_kept | with_reducible apply State.deviceReset_kept
    | with_reducible apply State.startUp_kept)

theorem State.standbyEnter_still {s0 : State} {s : State} (h0 : Still s0 s) :
    Still s0 (State.standbyEnter s) := by
  unfold State.standbyEnter
  repeat' (first
    | with_reducible assumption
    | (extract_lets +onlyGivenNames x1; have hx1 : Still s0 x1 := ?_; clear_value x1; revert x1; intro _ _; rotate_left; unfold x1; clear x1)
    | (extract_lets +onlyGivenNames x1; (fail_if_success have _f := fun a => x1 a); clear_value x1; revert x1; intro _)
    | with_reducible apply State.occur_still | with_reducible apply State.setF_still
    | with_reducible apply State.lastLoss_still | with_reducible apply State.standbyShown_still
    | with_reducible apply State.cellsUnreleased_still | with_reducible apply State.twinBalls_still
    | with_reducible apply State.refsOff_still | with_reducible apply State.nvmBegun_still
    | with_reducible apply State.refreshCells_still)

theorem State.tileWake_still {s0 : State} {s : State} {t : ℕ} (h0 : Still s0 s) :
    Still s0 (State.tileWake s t) := by
  unfold State.tileWake
  repeat' (first
    | with_reducible assumption | with_reducible apply State.setTileState_still | with_reducible apply State.wakeAdd_still
    | split)

theorem State.tileWake_kept {s0 : State} {s : State} {t : ℕ} (h0 : Kept s0 s) :
    Kept s0 (State.tileWake s t) :=
  h0.still (State.tileWake_still (Still.refl _))

theorem execBootRst_kept {s0 : State} {q : Req} {s : State} (h0 : Kept s0 s) :
    NextAll (Kept s0) (execBootRst q s) := by
  unfold execBootRst
  repeat' (first
    | with_reducible assumption | intro _ | with_reducible apply Kept.answers | with_reducible apply State.guardWrite_kept
    | with_reducible apply State.bootRst_kept | split)

theorem State.tileCmd_kept {s0 : State} {s : State} {op : ℕ} {t : ℕ} (h0 : Kept s0 s) :
    Kept s0 (State.tileCmd s op t) := by
  unfold State.tileCmd
  repeat' (first
    | with_reducible assumption
    | (extract_lets +onlyGivenNames x1; have hx1 : Kept s0 x1 := ?_; clear_value x1; revert x1; intro _ _; rotate_left; unfold x1; clear x1)
    | (extract_lets +onlyGivenNames x1; (fail_if_success have _f := fun a => x1 a); clear_value x1; revert x1; intro _)
    | with_reducible apply State.setTileState_kept | with_reducible apply State.setF_kept
    | with_reducible apply State.tileRel_kept | with_reducible apply State.tileStops_kept
    | with_reducible apply State.flag_kept | with_reducible apply State.tileLost_kept
    | with_reducible apply State.tileWake_kept | with_reducible apply State.tileResult_kept | split
    | (rw [State.lit_eq]; with_reducible refine Kept.mk' ?_ rfl))

theorem State.tileCmdWrite_kept {s0 : State} {s : State} {q : Req} {v : Word} (h0 : Kept s0 s) :
    Kept s0 (State.tileCmdWrite s q v) := by
  unfold State.tileCmdWrite
  repeat' (first
    | with_reducible assumption | with_reducible apply State.regWrite_kept | with_reducible apply State.tileCmd_kept)

theorem State.sbyWrite_still {s0 : State} {s : State} {q : Req} {v : Word} (h0 : Still s0 s) :
    Still s0 (State.sbyWrite s q v) := by
  unfold State.sbyWrite
  repeat' (first
    | with_reducible assumption
    | (extract_lets +onlyGivenNames x1; have hx1 : Still s0 x1 := ?_; clear_value x1; revert x1; intro _ _; rotate_left; unfold x1; clear x1)
    | with_reducible apply State.occur_still | with_reducible apply State.setF_still
    | with_reducible apply State.standbyEnter_still | with_reducible apply State.regWrite_still | split)

theorem State.sbyWrite_kept {s0 : State} {s : State} {q : Req} {v : Word} (h0 : Kept s0 s) :
    Kept s0 (State.sbyWrite s q v) :=
  h0.still (State.sbyWrite_still (Still.refl _))

theorem execPwrTileStandby_kept {s0 : State} {q : Req} {t : Fin 16} {s : State} (h0 : Kept s0 s) :
    NextAll (Kept s0) (execPwrTileStandby q t s) := by
  unfold execPwrTileStandby
  repeat' (first
    | with_reducible assumption | intro _ | with_reducible apply Kept.answers
    | with_reducible apply State.tileCmdWrite_kept | with_reducible apply State.guardWrite_kept)

theorem execPwrTileIdle_kept {s0 : State} {q : Req} {t : Fin 16} {s : State} (h0 : Kept s0 s) :
    NextAll (Kept s0) (execPwrTileIdle q t s) := by
  unfold execPwrTileIdle
  repeat' (first
    | with_reducible assumption | intro _ | with_reducible apply Kept.answers
    | with_reducible apply State.tileCmdWrite_kept | with_reducible apply State.guardWrite_kept)

theorem execEnterStandby_still {s0 : State} {q : Req} {v : Word} {s : State} (h0 : Still s0 s) :
    NextAll (Still s0) (execEnterStandby q v s) := by
  unfold execEnterStandby
  repeat' (first
    | with_reducible assumption | intro _ | with_reducible apply Still.answers | with_reducible apply State.sbyWrite_still
    | with_reducible apply State.guardWrite_still)

theorem execJtagExtest_still {s0 : State} {ir : TapIr} {scan : List (Fin 791 × Bool)} {s : State} (h0 : Still s0 s) :
    NextAll (Still s0) (execJtagExtest s ir scan) := by
  unfold execJtagExtest
  repeat' (first
    | with_reducible assumption
    | (extract_lets +onlyGivenNames x1; (fail_if_success have _f := fun a => x1 a); clear_value x1; revert x1; intro _)
    | with_reducible apply Still.answers | with_reducible apply State.answer_still
    | with_reducible apply State.tapShift_still | with_reducible apply State.fence_still | split
    | (rw [State.lit_eq]; with_reducible refine Still.mk' ?_ rfl))

theorem execPwrTileRun_kept {s0 : State} {q : Req} {t : Fin 16} {s : State} (h0 : Kept s0 s) :
    NextAll (Kept s0) (execPwrTileRun q t s) := by
  unfold execPwrTileRun
  repeat' (first
    | with_reducible assumption | intro _ | with_reducible apply Kept.answers
    | with_reducible apply State.tileCmdWrite_kept | with_reducible apply State.guardWrite_kept)

theorem execRailFall_kept {s0 : State} {k : Fin 11} {s : State} (h0 : Kept s0 s) :
    NextAll (Kept s0) (execRailFall k s) := by
  unfold execRailFall
  repeat' (first
    | with_reducible assumption
    | (extract_lets +onlyGivenNames x1; have hx1 : Kept s0 x1 := ?_; clear_value x1; revert x1; intro _ _; rotate_left; unfold x1; clear x1)
    | with_reducible apply Kept.answers | with_reducible apply State.setF_kept | with_reducible apply State.pfail_kept
    | with_reducible apply State.put_kept | with_reducible apply State.flag_kept
    | with_reducible apply State.deviceReset_kept | with_reducible apply State.powerLog_kept
    | with_reducible apply State.refreshCells_kept | split)

theorem State.tempAct_still {s0 : State} {s : State} {y0 : ℤ} (h0 : Still s0 s) :
    Still s0 (State.tempAct s y0) := by
  unfold State.tempAct
  repeat' (first
    | with_reducible assumption
    | (extract_lets +onlyGivenNames x1; have hx1 : Still s0 x1 := ?_; clear_value x1; revert x1; intro _ _; rotate_left; unfold x1; clear x1)
    | (extract_lets +onlyGivenNames x1; (fail_if_success have _f := fun a => x1 a); clear_value x1; revert x1; intro _)
    | with_reducible apply State.setF_still | with_reducible apply State.fence_still
    | with_reducible apply State.flag_still | with_reducible apply State.powerLog_still | split
    | (rw [State.lit_eq]; with_reducible refine Still.mk' ?_ rfl))

theorem execAlwaysOnOscillatorFail_still {s0 : State} {s : State} (h0 : Still s0 s) :
    NextAll (Still s0) (execAlwaysOnOscillatorFail s) := by
  unfold execAlwaysOnOscillatorFail
  repeat' (first
    | with_reducible assumption | with_reducible apply Still.answers | with_reducible apply State.pfail_still | split)

theorem State.clockStops_still {s0 : State} {s : State} {d : ℕ} (h0 : Still s0 s) :
    Still s0 (State.clockStops s d) := by
  unfold State.clockStops
  repeat' (first
    | with_reducible assumption | with_reducible apply State.latchCells_still | with_reducible apply State.portDown_still
    | with_reducible apply State.fence_still | with_reducible apply State.capClockLost_still
    | with_reducible apply State.fltClockLost_still | with_reducible apply State.latchDrvs_still
    | with_reducible apply State.cvgClockLost_still | split)

theorem execTempReading_still {s0 : State} {l : List (BitVec 16)} {s : State} (h0 : Still s0 s) :
    NextAll (Still s0) (execTempReading l s) := by
  unfold execTempReading
  repeat' (first
    | with_reducible assumption
    | (extract_lets +onlyGivenNames x1; have hx1 : Still s0 x1 := ?_; clear_value x1; revert x1; intro _ _; rotate_left; unfold x1; clear x1)
    | (extract_lets +onlyGivenNames x1; (fail_if_success have _f := fun a => x1 a); clear_value x1; revert x1; intro _)
    | with_reducible apply Still.answers | with_reducible apply State.tempAct_still
    | with_reducible apply State.setF_still | with_reducible apply State.pfail_still
    | with_reducible apply State.tempShow_still | split | (rw [State.lit_eq]; with_reducible refine Still.mk' ?_ rfl))

theorem execClockLost_still {s0 : State} {d : Fin 29} {s : State} (h0 : Still s0 s) :
    NextAll (Still s0) (execClockLost d s) := by
  unfold execClockLost
  repeat' (first
    | with_reducible assumption
    | (extract_lets +onlyGivenNames x1; have hx1 : Still s0 x1 := ?_; clear_value x1; revert x1; intro _ _; rotate_left; unfold x1; clear x1)
    | (extract_lets +onlyGivenNames x1; (fail_if_success have _f := fun a => x1 a); clear_value x1; revert x1; intro _)
    | with_reducible apply Still.answers | with_reducible apply State.deviceCheck_still
    | with_reducible apply State.clockStops_still | with_reducible apply State.put_still | split
    | (rw [State.lit_eq]; with_reducible refine Still.mk' ?_ rfl))

theorem execPfailNLow_still {s0 : State} {s : State} (h0 : Still s0 s) :
    NextAll (Still s0) (execPfailNLow s) := by
  unfold execPfailNLow
  repeat' (first
    | with_reducible assumption
    | (extract_lets +onlyGivenNames x1; have hx1 : Still s0 x1 := ?_; clear_value x1; revert x1; intro _ _; rotate_left; unfold x1; clear x1)
    | (extract_lets +onlyGivenNames x1; (fail_if_success have _f := fun a => x1 a); clear_value x1; revert x1; intro _)
    | with_reducible apply Still.answers | with_reducible apply State.pfail_still | split
    | (rw [State.lit_eq]; with_reducible refine Still.mk' ?_ rfl))

theorem State.tstElapsed_still {s0 : State} {s : State} (h0 : Still s0 s) :
    Still s0 (State.tstElapsed s) := by
  unfold State.tstElapsed
  repeat' (first
    | with_reducible assumption | with_reducible apply State.setF_still | split)

theorem State.tstElapsed_kept {s0 : State} {s : State} (h0 : Kept s0 s) :
    Kept s0 (State.tstElapsed s) :=
  h0.still (State.tstElapsed_still (Still.refl _))

theorem State.passBegin_still {s0 : State} {s : State} (h0 : Still s0 s) :
    Still s0 (State.passBegin s) := by
  unfold State.passBegin
  repeat' (first
    | with_reducible assumption
    | (extract_lets +onlyGivenNames x1; (fail_if_success have _f := fun a => x1 a); clear_value x1; revert x1; intro _)
    | with_reducible apply State.put_still | split | (rw [State.lit_eq]; with_reducible refine Still.mk' ?_ rfl))

theorem State.tstCounted_still {s0 : State} {s : State} {c : ℕ} {i : ℕ} (h0 : Still s0 s) :
    Still s0 (State.tstCounted s c i) := by
  unfold State.tstCounted
  repeat' (first
    | with_reducible assumption
    | (extract_lets +onlyGivenNames x1; have hx1 : Still s0 x1 := ?_; clear_value x1; revert x1; intro _ _; rotate_left; unfold x1; clear x1)
    | (extract_lets +onlyGivenNames x1; (fail_if_success have _f := fun a => x1 a); clear_value x1; revert x1; intro _)
    | with_reducible apply State.setF_still | split | (rw [State.lit_eq]; with_reducible refine Still.mk' ?_ rfl))

theorem State.tstCounted_kept {s0 : State} {s : State} {c : ℕ} {i : ℕ} (h0 : Kept s0 s) :
    Kept s0 (State.tstCounted s c i) :=
  h0.still (State.tstCounted_still (Still.refl _))

theorem State.tstRestored_kept {s0 : State} {s : State} {c : ℕ} {i : ℕ} (h0 : Kept s0 s) :
    Kept s0 (State.tstRestored s c i) := by
  unfold State.tstRestored
  repeat' (first
    | with_reducible assumption
    | (extract_lets +onlyGivenNames x1; have hx1 : Kept s0 x1 := ?_; clear_value x1; revert x1; intro _ _; rotate_left; unfold x1; clear x1)
    | with_reducible apply State.pairSync_kept | with_reducible apply State.bankTested_kept | split)

theorem execTstStepStart_still {s0 : State} {cls : Fin 4} {i : BitVec 16} {s : State} (h0 : Still s0 s) :
    NextAll (Still s0) (execTstStepStart cls i s) := by
  unfold execTstStepStart
  repeat' (first
    | with_reducible assumption
    | (extract_lets +onlyGivenNames x1; have hx1 : Still s0 x1 := ?_; clear_value x1; revert x1; intro _ _; rotate_left; unfold x1; clear x1)
    | (extract_lets +onlyGivenNames x1; (fail_if_success have _f := fun a => x1 a); clear_value x1; revert x1; intro _)
    | with_reducible apply Still.answers | with_reducible apply State.passBegin_still
    | with_reducible apply State.setF_still | with_reducible apply State.pairSync_still
    | with_reducible apply State.flag_still | split | (rw [State.lit_eq]; with_reducible refine Still.mk' ?_ rfl))

theorem State.tstFail_still {s0 : State} {s : State} {c : ℕ} {i : ℕ} {expected : Word} {measured : Word}
    {limit : Word} (h0 : Still s0 s) :
    Still s0 (State.tstFail s c i expected measured limit) := by
  unfold State.tstFail
  repeat' (first
    | with_reducible assumption
    | (extract_lets +onlyGivenNames x1; have hx1 : Still s0 x1 := ?_; clear_value x1; revert x1; intro _ _; rotate_left; unfold x1; clear x1)
    | (extract_lets +onlyGivenNames x1; (fail_if_success have _f := fun a => x1 a); clear_value x1; revert x1; intro _)
    | with_reducible apply State.healthLog_still | with_reducible apply State.occur_still
    | with_reducible apply State.put_still | with_reducible apply State.inc_still
    | with_reducible apply State.flag_still | split | (rw [State.lit_eq]; with_reducible refine Still.mk' ?_ rfl))

theorem State.tstFail_kept {s0 : State} {s : State} {c : ℕ} {i : ℕ} {expected : Word} {measured : Word} {limit : Word}
    (h0 : Kept s0 s) :
    Kept s0 (State.tstFail s c i expected measured limit) :=
  h0.still (State.tstFail_still (Still.refl _))

theorem State.tdacWrite_still {s0 : State} {s : State} {q : Req} {g : ℕ} {v : Word} (h0 : Still s0 s) :
    Still s0 (State.tdacWrite s q g v) := by
  unfold State.tdacWrite
  repeat' (first
    | with_reducible assumption
    | (extract_lets +onlyGivenNames x1; have hx1 : Still s0 x1 := ?_; clear_value x1; revert x1; intro _ _; rotate_left; unfold x1; clear x1)
    | (extract_lets +onlyGivenNames x1; (fail_if_success have _f := fun a => x1 a); clear_value x1; revert x1; intro _)
    | with_reducible apply State.regWrite_still | with_reducible apply State.tdacSettle_still
    | with_reducible apply State.tstAside_still | split)

theorem State.passEnd_still {s0 : State} {s : State} {notFree : ℕ} (h0 : Still s0 s) :
    Still s0 (State.passEnd s notFree) := by
  unfold State.passEnd
  repeat' (first
    | with_reducible assumption
    | (extract_lets +onlyGivenNames x1; have hx1 : Still s0 x1 := ?_; clear_value x1; revert x1; intro _ _; rotate_left; unfold x1; clear x1)
    | (extract_lets +onlyGivenNames x1; (fail_if_success have _f := fun a => x1 a); clear_value x1; revert x1; intro _)
    | with_reducible apply State.healthLog_still | with_reducible apply State.occur_still
    | with_reducible apply State.setF_still | with_reducible apply State.inc_still
    | (rw [State.lit_eq]; with_reducible refine Still.mk' ?_ rfl))

theorem State.passCheck_still {s0 : State} {s : State} (h0 : Still s0 s) :
    Still s0 (State.passCheck s) := by
  unfold State.passCheck
  repeat' (first
    | with_reducible assumption
    | (extract_lets +onlyGivenNames x1; (fail_if_success have _f := fun a => x1 a); clear_value x1; revert x1; intro _)
    | with_reducible apply State.passEnd_still | split)

theorem State.passCheck_kept {s0 : State} {s : State} (h0 : Kept s0 s) :
    Kept s0 (State.passCheck s) :=
  h0.still (State.passCheck_still (Still.refl _))

theorem State.tstStepDone_kept {s0 : State} {s : State} {c : ℕ} {i : ℕ} {pass : Bool} {expected : Word}
    {measured : Word} {limit : Word} (h0 : Kept s0 s) :
    Kept s0 (State.tstStepDone s c i pass expected measured limit) := by
  unfold State.tstStepDone
  repeat' (first
    | with_reducible assumption
    | (extract_lets +onlyGivenNames x1; have hx1 : Kept s0 x1 := ?_; clear_value x1; revert x1; intro _ _; rotate_left; unfold x1; clear x1)
    | with_reducible apply State.tstCounted_kept | with_reducible apply State.tstRestored_kept
    | with_reducible apply State.tstFail_kept | with_reducible apply State.tstLeave_kept
    | with_reducible apply State.passCheck_kept | split)

theorem execTstStepEnd_kept {s0 : State} {pass : Bool} {expected : Word} {measured : Word} {limit : Word} {s : State}
    (h0 : Kept s0 s) :
    NextAll (Kept s0) (execTstStepEnd pass expected measured limit s) := by
  unfold execTstStepEnd
  repeat' (first
    | with_reducible assumption | with_reducible apply Kept.answers | with_reducible apply State.tstStepDone_kept | split)

theorem execTstOverdue_still {s0 : State} {s : State} (h0 : Still s0 s) :
    NextAll (Still s0) (execTstOverdue s) := by
  unfold execTstOverdue
  repeat' (first
    | with_reducible assumption
    | (extract_lets +onlyGivenNames x1; have hx1 : Still s0 x1 := ?_; clear_value x1; revert x1; intro _ _; rotate_left; unfold x1; clear x1)
    | with_reducible apply Still.answers | with_reducible apply State.flag_still
    | with_reducible apply State.passCheck_still | split)

end Sys2Proof.Machine
end

