-- ==== Sys2Proof/Laws/FrameBus.lean ====
section
/-! SUPPORT. What each function of Machine/BootCore.lean, Machine/HostRegs.lean, Machine/Bus.lean, Machine/MemOps.lean leaves alone: `Still`, the queue of commands and
every byte of memory; `Kept`, the queue, and the canonical form of memory. -/

set_option linter.unreachableTactic false
set_option linter.unusedTactic false
set_option linter.unusedVariables false
set_option linter.tactic.unusedName false

namespace Sys2Proof.Machine

theorem State.sluiceGo_still {s0 : State} {s : State} (h0 : Still s0 s) :
    Still s0 (State.sluiceGo s) := by
  unfold State.sluiceGo
  repeat' (first
    | with_reducible assumption
    | (extract_lets +onlyGivenNames x1; (fail_if_success have _f := fun a => x1 a); clear_value x1; revert x1; intro _)
    | with_reducible apply State.setF_still | with_reducible apply State.put_still
    | with_reducible apply State.flag_still | split | (rw [State.lit_eq]; with_reducible refine Still.mk' ?_ rfl))

theorem State.frameXor_still {s0 : State} {s : State} {id : ℕ} {d : BitVec 1024} (h0 : Still s0 s) :
    Still s0 (State.frameXor s id d) := by
  unfold State.frameXor
  repeat' (first
    | with_reducible assumption | intro _ | with_reducible apply State.setLcell_still
    | with_reducible apply State.put_still | split | dsimp only | with_reducible apply Still.foldl)

theorem State.keyResult_still {s0 : State} {s : State} {r : ℕ} (h0 : Still s0 s) :
    Still s0 (State.keyResult s r) := by
  unfold State.keyResult
  repeat' (first
    | with_reducible assumption | with_reducible apply State.setF_still)

theorem execSluiceLockTimeout_still {s0 : State} {s : State} (h0 : Still s0 s) :
    NextAll (Still s0) (execSluiceLockTimeout s) := by
  unfold execSluiceLockTimeout
  repeat' (first
    | with_reducible assumption | with_reducible apply Still.answers | with_reducible apply State.occur_still
    | with_reducible apply State.flag_still | split)

theorem State.keyEnd_still {s0 : State} {s : State} {ok : Bool} (h0 : Still s0 s) :
    Still s0 (State.keyEnd s ok) := by
  unfold State.keyEnd
  repeat' (first
    | with_reducible assumption
    | (extract_lets +onlyGivenNames x1; have hx1 : Still s0 x1 := ?_; clear_value x1; revert x1; intro _ _; rotate_left; unfold x1; clear x1)
    | (extract_lets +onlyGivenNames x1; (fail_if_success have _f := fun a => x1 a); clear_value x1; revert x1; intro _)
    | with_reducible apply State.setF_still | with_reducible apply State.flag_still
    | with_reducible apply State.keyResult_still | split | (rw [State.lit_eq]; with_reducible refine Still.mk' ?_ rfl))

theorem State.sluiceCtlWrite_still {s0 : State} {s : State} {q : Req} {v : Word} (h0 : Still s0 s) :
    Still s0 (State.sluiceCtlWrite s q v) := by
  unfold State.sluiceCtlWrite
  repeat' (first
    | with_reducible assumption | with_reducible apply State.rsvd_still | with_reducible apply State.sluiceGo_still
    | with_reducible apply State.regWrite_still | with_reducible apply State.flag_still | split | dsimp only)

theorem State.sluiceCtlWrite_kept {s0 : State} {s : State} {q : Req} {v : Word} (h0 : Kept s0 s) :
    Kept s0 (State.sluiceCtlWrite s q v) :=
  h0.still (State.sluiceCtlWrite_still (Still.refl _))

theorem execProgrdy_still {s0 : State} {q : Req} {s : State} (h0 : Still s0 s) :
    NextAll (Still s0) (execProgrdy q s) := by
  unfold execProgrdy
  repeat' (first
    | with_reducible assumption | intro _ | with_reducible apply Still.answers
    | with_reducible apply State.guardWrite_still | with_reducible apply State.sluiceCtlWrite_still)

theorem State.keyLine_still {s0 : State} {s : State} {n : ℕ} (h0 : Still s0 s) :
    Still s0 (State.keyLine s n).2 := by
  unfold State.keyLine
  repeat' (first
    | with_reducible assumption | with_reducible apply State.nvmRead_still | with_reducible apply State.free_still | split
    | dsimp only | with_reducible refine Still.pair ?_ (by assumption))

theorem execSluiceStep_still {s0 : State} {s : State} (h0 : Still s0 s) :
    NextAll (Still s0) (execSluiceStep s) := by
  unfold execSluiceStep
  repeat' (first
    | with_reducible assumption | with_reducible apply Still.answers | with_reducible apply State.outrel_still
    | with_reducible apply State.sluiceDone_still | split)

theorem State.sluiceDlyWrite_still {s0 : State} {s : State} {q : Req} {a : ℕ} {v : Word} (h0 : Still s0 s) :
    Still s0 (State.sluiceDlyWrite s q a v) := by
  unfold State.sluiceDlyWrite
  repeat' (first
    | with_reducible assumption | with_reducible apply State.regWrite_still | with_reducible apply State.flag_still
    | split)

theorem State.sluiceDlyWrite_kept {s0 : State} {s : State} {q : Req} {a : ℕ} {v : Word} (h0 : Kept s0 s) :
    Kept s0 (State.sluiceDlyWrite s q a v) :=
  h0.still (State.sluiceDlyWrite_still (Still.refl _))

theorem execOutrel_still {s0 : State} {s : State} (h0 : Still s0 s) :
    NextAll (Still s0) (execOutrel s) := by
  unfold execOutrel
  repeat' (first
    | with_reducible assumption | with_reducible apply Still.answers | with_reducible apply State.outrel_still)

theorem State.keyWords_still {s0 : State} {s : State} {op : ℕ} {arg : ℕ} (h0 : Still s0 s) :
    Still s0 (State.keyWords s op arg).2 := by
  unfold State.keyWords
  repeat' (first
    | with_reducible assumption | with_reducible apply State.keyLine_still | split)

theorem execSluiceGo_still {s0 : State} {q : Req} {s : State} (h0 : Still s0 s) :
    NextAll (Still s0) (execSluiceGo q s) := by
  unfold execSluiceGo
  repeat' (first
    | with_reducible assumption | intro _ | with_reducible apply Still.answers
    | with_reducible apply State.guardWrite_still | with_reducible apply State.sluiceCtlWrite_still)

theorem State.keyCmdWrite_still {s0 : State} {s : State} {q : Req} {v : Word} (h0 : Still s0 s) :
    Still s0 (State.keyCmdWrite s q v) := by
  unfold State.keyCmdWrite
  repeat' (first
    | with_reducible assumption
    | (extract_lets +onlyGivenNames x1; have hx1 : Still s0 x1 := ?_; clear_value x1; revert x1; intro _ _; rotate_left; unfold x1; clear x1)
    | (extract_lets +onlyGivenNames x1; (fail_if_success have _f := fun a => x1 a); clear_value x1; revert x1; intro _)
    | with_reducible apply State.nvmQueue_still | with_reducible apply State.regWrite_still
    | with_reducible apply State.flag_still | with_reducible apply State.keyResult_still
    | with_reducible apply State.keyWords_still | split | (rw [State.lit_eq]; with_reducible refine Still.mk' ?_ rfl))

theorem State.keyCmdWrite_kept {s0 : State} {s : State} {q : Req} {v : Word} (h0 : Kept s0 s) :
    Kept s0 (State.keyCmdWrite s q v) :=
  h0.still (State.keyCmdWrite_still (Still.refl _))

theorem execLockDebug_still {s0 : State} {q : Req} {s : State} (h0 : Still s0 s) :
    NextAll (Still s0) (execLockDebug q s) := by
  unfold execLockDebug
  repeat' (first
    | with_reducible assumption | intro _ | with_reducible apply Still.answers
    | with_reducible apply State.keyCmdWrite_still | with_reducible apply State.guardWrite_still)

theorem execSession_still {s0 : State} {q : Req} {s : State} (h0 : Still s0 s) :
    NextAll (Still s0) (execSession q s) := by
  unfold execSession
  repeat' (first
    | with_reducible assumption | intro _ | with_reducible apply Still.answers
    | with_reducible apply State.keyCmdWrite_still | with_reducible apply State.guardWrite_still)

theorem execLockKey_still {s0 : State} {q : Req} {s : State} (h0 : Still s0 s) :
    NextAll (Still s0) (execLockKey q s) := by
  unfold execLockKey
  repeat' (first
    | with_reducible assumption | intro _ | with_reducible apply Still.answers
    | with_reducible apply State.keyCmdWrite_still | with_reducible apply State.guardWrite_still)

theorem execSetOxbow_still {s0 : State} {q : Req} {s : State} (h0 : Still s0 s) :
    NextAll (Still s0) (execSetOxbow q s) := by
  unfold execSetOxbow
  repeat' (first
    | with_reducible assumption | intro _ | with_reducible apply Still.answers
    | with_reducible apply State.keyCmdWrite_still | with_reducible apply State.guardWrite_still)

theorem execSetIndex_still {s0 : State} {q : Req} {arg : BitVec 10} {s : State} (h0 : Still s0 s) :
    NextAll (Still s0) (execSetIndex q arg s) := by
  unfold execSetIndex
  repeat' (first
    | with_reducible assumption | intro _ | with_reducible apply Still.answers
    | with_reducible apply State.keyCmdWrite_still | with_reducible apply State.guardWrite_still)

theorem State.upsetFound_still {s0 : State} {s : State} {id : ℕ} {d : BitVec 1024} (h0 : Still s0 s) :
    Still s0 (State.upsetFound s id d) := by
  unfold State.upsetFound
  repeat' (first
    | with_reducible assumption
    | (extract_lets +onlyGivenNames x1; have hx1 : Still s0 x1 := ?_; clear_value x1; revert x1; intro _ _; rotate_left; unfold x1; clear x1)
    | (extract_lets +onlyGivenNames x1; (fail_if_success have _f := fun a => x1 a); clear_value x1; revert x1; intro _)
    | with_reducible apply State.occur_still | with_reducible apply State.put_still
    | with_reducible apply State.fence_still | with_reducible apply State.inc_still
    | with_reducible apply State.flag_still | with_reducible apply State.frameXor_still | split
    | (rw [State.lit_eq]; with_reducible refine Still.mk' ?_ rfl))

theorem execSetHash_still {s0 : State} {q : Req} {s : State} (h0 : Still s0 s) :
    NextAll (Still s0) (execSetHash q s) := by
  unfold execSetHash
  repeat' (first
    | with_reducible assumption | intro _ | with_reducible apply Still.answers
    | with_reducible apply State.keyCmdWrite_still | with_reducible apply State.guardWrite_still)

theorem execCiScanFrame_still {s0 : State} {id : Word} {diff : BitVec 1024} {overlap : Bool} {refBad : Bool}
    {s : State} (h0 : Still s0 s) :
    NextAll (Still s0) (execCiScanFrame id diff overlap refBad s) := by
  unfold execCiScanFrame
  repeat' (first
    | with_reducible assumption
    | (extract_lets +onlyGivenNames x1; have hx1 : Still s0 x1 := ?_; clear_value x1; revert x1; intro _ _; rotate_left; unfold x1; clear x1)
    | (extract_lets +onlyGivenNames x1; (fail_if_success have _f := fun a => x1 a); clear_value x1; revert x1; intro _)
    | with_reducible apply Still.answers | with_reducible apply State.flag_still
    | with_reducible apply State.upsetFound_still | with_reducible apply State.frameXor_still | split
    | (rw [State.lit_eq]; with_reducible refine Still.mk' ?_ rfl))

theorem execPcieLinkChange_still {s0 : State} {up : Bool} {speed : Fin 4} {width : Fin 3} {s : State}
    (h0 : Still s0 s) :
    NextAll (Still s0) (execPcieLinkChange up speed width s) := by
  unfold execPcieLinkChange
  repeat' (first
    | with_reducible assumption | with_reducible apply Still.answers | with_reducible apply State.setF_still)

theorem State.qpErr_still {s0 : State} {s : State} {p : ℕ} (h0 : Still s0 s) :
    Still s0 (State.qpErr s p) := by
  unfold State.qpErr
  repeat' (first
    | with_reducible assumption | with_reducible apply State.flag_still)

theorem State.qpErr_kept {s0 : State} {s : State} {p : ℕ} (h0 : Kept s0 s) :
    Kept s0 (State.qpErr s p) :=
  h0.still (State.qpErr_still (Still.refl _))

theorem State.setUart_still {s0 : State} {s : State} {tx : List Byte} {rx : List Byte} (h0 : Still s0 s) :
    Still s0 (State.setUart s tx rx) := by
  unfold State.setUart
  repeat' (first
    | with_reducible assumption
    | (extract_lets +onlyGivenNames x1; have hx1 : Still s0 x1 := ?_; clear_value x1; revert x1; intro _ _; rotate_left; unfold x1; clear x1)
    | (extract_lets +onlyGivenNames x1; (fail_if_success have _f := fun a => x1 a); clear_value x1; revert x1; intro _)
    | with_reducible apply State.setF_still | (rw [State.lit_eq]; with_reducible refine Still.mk' ?_ rfl))

theorem State.qpBell_still {s0 : State} {s : State} {p : ℕ} (h0 : Still s0 s) :
    Still s0 (State.qpBell s p) := by
  unfold State.qpBell
  repeat' (first
    | with_reducible assumption | with_reducible apply State.occur_still | with_reducible apply State.qpErr_still)

theorem State.uartRead_still {s0 : State} {s : State} (h0 : Still s0 s) :
    Still s0 (State.uartRead s).2 := by
  unfold State.uartRead
  repeat' (first
    | with_reducible assumption | with_reducible apply State.setUart_still | split)

theorem execUartCharSent_still {s0 : State} {s : State} (h0 : Still s0 s) :
    NextAll (Still s0) (execUartCharSent s) := by
  unfold execUartCharSent
  repeat' (first
    | with_reducible assumption | with_reducible apply Still.answers | with_reducible apply State.setUart_still
    | with_reducible apply State.send_still | split)

theorem execUartRxChar_still {s0 : State} {ch : Byte} {s : State} (h0 : Still s0 s) :
    NextAll (Still s0) (execUartRxChar ch s) := by
  unfold execUartRxChar
  repeat' (first
    | with_reducible assumption | with_reducible apply Still.answers | with_reducible apply State.setUart_still
    | with_reducible apply State.flag_still | split)

theorem State.sqTail_still {s0 : State} {s : State} {p : ℕ} {v : ℕ} (h0 : Still s0 s) :
    Still s0 (State.sqTail s p v) := by
  unfold State.sqTail
  repeat' (first
    | with_reducible assumption
    | (extract_lets +onlyGivenNames x1; (fail_if_success have _f := fun a => x1 a); clear_value x1; revert x1; intro _)
    | with_reducible apply State.qpBell_still | with_reducible apply State.setQp_still | split)

theorem State.sqTail_kept {s0 : State} {s : State} {p : ℕ} {v : ℕ} (h0 : Kept s0 s) :
    Kept s0 (State.sqTail s p v) :=
  h0.still (State.sqTail_still (Still.refl _))

theorem State.cqHead_still {s0 : State} {s : State} {p : ℕ} {v : ℕ} (h0 : Still s0 s) :
    Still s0 (State.cqHead s p v) := by
  unfold State.cqHead
  repeat' (first
    | with_reducible assumption
    | (extract_lets +onlyGivenNames x1; (fail_if_success have _f := fun a => x1 a); clear_value x1; revert x1; intro _)
    | with_reducible apply State.qpBell_still | with_reducible apply State.setQp_still | split)

theorem State.cqHead_kept {s0 : State} {s : State} {p : ℕ} {v : ℕ} (h0 : Kept s0 s) :
    Kept s0 (State.cqHead s p v) :=
  h0.still (State.cqHead_still (Still.refl _))

theorem State.qpAllowWrite_still {s0 : State} {s : State} {q : Req} {n : ℕ} {v : Word} (h0 : Still s0 s) :
    Still s0 (State.qpAllowWrite s q n v) := by
  unfold State.qpAllowWrite
  repeat' (first
    | with_reducible assumption | intro _
    | (extract_lets +onlyGivenNames x1; have hx1 : Still s0 x1 := ?_; clear_value x1; revert x1; intro _ _; rotate_left; unfold x1; clear x1)
    | with_reducible apply State.setF_still | with_reducible apply State.regWrite_still
    | with_reducible apply Still.foldl)

theorem State.qpAllowWrite_kept {s0 : State} {s : State} {q : Req} {n : ℕ} {v : Word} (h0 : Kept s0 s) :
    Kept s0 (State.qpAllowWrite s q n v) :=
  h0.still (State.qpAllowWrite_still (Still.refl _))

theorem State.mgtWrite_still {s0 : State} {s : State} {q : Req} {v : Word} (h0 : Still s0 s) :
    Still s0 (State.mgtWrite s q v) := by
  unfold State.mgtWrite
  repeat' (first
    | with_reducible assumption | with_reducible apply State.occur_still | with_reducible apply State.setF_still
    | with_reducible apply State.regWrite_still | with_reducible apply State.flag_still | split | dsimp only)

theorem State.mgtWrite_kept {s0 : State} {s : State} {q : Req} {v : Word} (h0 : Kept s0 s) :
    Kept s0 (State.mgtWrite s q v) :=
  h0.still (State.mgtWrite_still (Still.refl _))

theorem State.uartWrite_still {s0 : State} {s : State} {q : Req} {v : Word} (h0 : Still s0 s) :
    Still s0 (State.uartWrite s q v) := by
  unfold State.uartWrite
  repeat' (first
    | with_reducible assumption
    | (extract_lets +onlyGivenNames x1; have hx1 : Still s0 x1 := ?_; clear_value x1; revert x1; intro _ _; rotate_left; unfold x1; clear x1)
    | with_reducible apply State.rsvd_still | with_reducible apply State.setUart_still | split)

theorem State.uartWrite_kept {s0 : State} {s : State} {q : Req} {v : Word} (h0 : Kept s0 s) :
    Kept s0 (State.uartWrite s q v) :=
  h0.still (State.uartWrite_still (Still.refl _))

theorem execMgtDone_still {s0 : State} {q : Req} {s : State} (h0 : Still s0 s) :
    NextAll (Still s0) (execMgtDone q s) := by
  unfold execMgtDone
  repeat' (first
    | with_reducible assumption | intro _ | with_reducible apply Still.answers
    | with_reducible apply State.guardWrite_still | with_reducible apply State.mgtWrite_still)

theorem execUartRxRead_still {s0 : State} {q : Req} {s : State} (h0 : Still s0 s) :
    NextAll (Still s0) (execUartRxRead q s) := by
  unfold execUartRxRead
  repeat' (first
    | with_reducible assumption | intro _ | with_reducible apply Still.answers | with_reducible apply State.uartRead_still
    | with_reducible apply State.guardRead_still)

theorem execMgtGo_still {s0 : State} {q : Req} {s : State} (h0 : Still s0 s) :
    NextAll (Still s0) (execMgtGo q s) := by
  unfold execMgtGo
  repeat' (first
    | with_reducible assumption | intro _ | with_reducible apply Still.answers
    | with_reducible apply State.guardWrite_still | with_reducible apply State.mgtWrite_still)

theorem execUartTxWrite_still {s0 : State} {q : Req} {ch : Byte} {s : State} (h0 : Still s0 s) :
    NextAll (Still s0) (execUartTxWrite q ch s) := by
  unfold execUartTxWrite
  repeat' (first
    | with_reducible assumption | intro _ | with_reducible apply Still.answers
    | with_reducible apply State.uartWrite_still | with_reducible apply State.guardWrite_still)

theorem State.qpCfg_kept {s0 : State} {s : State} {p : ℕ} {v : Word} (h0 : Kept s0 s) :
    Kept s0 (State.qpCfg s p v) := by
  unfold State.qpCfg
  repeat' (first
    | with_reducible assumption | with_reducible apply State.put_kept | with_reducible apply State.setQp_kept
    | with_reducible apply State.qpDisable_kept | with_reducible apply State.qpErr_kept | split | dsimp only
    | (rw [State.lit_eq]; with_reducible refine Kept.mk' ?_ rfl))

theorem execPerst_kept {s0 : State} {s : State} (h0 : Kept s0 s) :
    NextAll (Kept s0) (execPerst s) := by
  unfold execPerst
  repeat' (first
    | with_reducible assumption | intro _ | with_reducible apply Kept.answers | with_reducible apply State.qpDisable_kept
    | split | with_reducible apply Kept.foldl)

theorem State.qpWrite_kept {s0 : State} {s : State} {p : ℕ} {off : ℕ} {v : Word} (h0 : Kept s0 s) :
    Kept s0 (State.qpWrite s p off v) := by
  unfold State.qpWrite
  repeat' (first
    | with_reducible assumption
    | (extract_lets +onlyGivenNames x1; have hx1 : Kept s0 x1 := ?_; clear_value x1; revert x1; intro _ _; rotate_left; unfold x1; clear x1)
    | with_reducible apply State.qpCfg_kept | with_reducible apply State.put_kept
    | with_reducible apply State.sqTail_kept | with_reducible apply State.qpErr_kept
    | with_reducible apply State.cqHead_kept | split)

theorem execQpDisable_kept {s0 : State} {p : Fin 257} {s : State} (h0 : Kept s0 s) :
    NextAll (Kept s0) (execQpDisable p s) := by
  unfold execQpDisable
  repeat' (first
    | with_reducible assumption | with_reducible apply Kept.answers | with_reducible apply State.qpWrite_kept | split)

theorem execSqDoorbell_kept {s0 : State} {p : Fin 257} {v : Word} {s : State} (h0 : Kept s0 s) :
    NextAll (Kept s0) (execSqDoorbell p v s) := by
  unfold execSqDoorbell
  repeat' (first
    | with_reducible assumption | with_reducible apply Kept.answers | with_reducible apply State.qpWrite_kept)

theorem execCqDoorbell_kept {s0 : State} {p : Fin 257} {v : Word} {s : State} (h0 : Kept s0 s) :
    NextAll (Kept s0) (execCqDoorbell p v s) := by
  unfold execCqDoorbell
  repeat' (first
    | with_reducible assumption | with_reducible apply Kept.answers | with_reducible apply State.qpWrite_kept)

theorem execQpEnable_kept {s0 : State} {p : Fin 257} {v : Word} {s : State} (h0 : Kept s0 s) :
    NextAll (Kept s0) (execQpEnable p v s) := by
  unfold execQpEnable
  repeat' (first
    | with_reducible assumption | with_reducible apply Kept.answers | with_reducible apply State.qpWrite_kept)

theorem State.ctrLoRead_still {s0 : State} {s : State} {q : Req} {k : ℕ} (h0 : Still s0 s) :
    Still s0 (State.ctrLoRead s q k).2 := by
  unfold State.ctrLoRead
  repeat' (first
    | with_reducible assumption | intro _ | split | dsimp only | with_reducible apply Still.foldl
    | (rw [State.lit_eq]; with_reducible refine Still.mk' ?_ rfl))

theorem State.setHeld_still {s0 : State} {s : State} {q : Req} {k : ℕ} {v : ℕ} (h0 : Still s0 s) :
    Still s0 (State.setHeld s q k v) := by
  unfold State.setHeld
  repeat' (first
    | with_reducible assumption | (rw [State.lit_eq]; with_reducible refine Still.mk' ?_ rfl))

theorem State.ctrLoadAt_still {s0 : State} {s : State} {q : Req} {k : ℕ} {shift : ℕ} {v : Word} (h0 : Still s0 s) :
    Still s0 (State.ctrLoadAt s q k shift v) := by
  unfold State.ctrLoadAt
  repeat' (first
    | with_reducible assumption
    | (extract_lets +onlyGivenNames x1; (fail_if_success have _f := fun a => x1 a); clear_value x1; revert x1; intro _)
    | with_reducible apply State.setHeld_still | (rw [State.lit_eq]; with_reducible refine Still.mk' ?_ rfl))

theorem State.ctrHiRead_still {s0 : State} {s : State} {q : Req} {k : ℕ} (h0 : Still s0 s) :
    Still s0 (State.ctrHiRead s q k).2 := by
  unfold State.ctrHiRead
  repeat' (first
    | with_reducible assumption | split | dsimp only | (rw [State.lit_eq]; with_reducible refine Still.mk' ?_ rfl))

theorem State.supStart_still {s0 : State} {s : State} {entry : Word} (h0 : Still s0 s) :
    Still s0 (State.supStart s entry) := by
  unfold State.supStart
  repeat' (first
    | with_reducible assumption
    | (extract_lets +onlyGivenNames x1; have hx1 : Still s0 x1 := ?_; clear_value x1; revert x1; intro _ _; rotate_left; unfold x1; clear x1)
    | (extract_lets +onlyGivenNames x1; (fail_if_success have _f := fun a => x1 a); clear_value x1; revert x1; intro _)
    | with_reducible apply State.setF_still | with_reducible apply State.setCtxState_still
    | with_reducible apply State.setCtx_still | (rw [State.lit_eq]; with_reducible refine Still.mk' ?_ rfl))

theorem State.jgo_still {s0 : State} {s : State} (h0 : Still s0 s) :
    Still s0 (State.jgo s) := by
  unfold State.jgo
  repeat' (first
    | with_reducible assumption | with_reducible apply State.free_still | with_reducible apply State.supStart_still
    | split)

theorem State.jgo_kept {s0 : State} {s : State} (h0 : Kept s0 s) :
    Kept s0 (State.jgo s) :=
  h0.still (State.jgo_still (Still.refl _))

theorem execCounterLoadApply_still {s0 : State} {addr : Word} {s : State} (h0 : Still s0 s) :
    NextAll (Still s0) (execCounterLoadApply addr s) := by
  unfold execCounterLoadApply
  repeat' (first
    | with_reducible assumption
    | (extract_lets +onlyGivenNames x1; have hx1 : Still s0 x1 := ?_; clear_value x1; revert x1; intro _ _; rotate_left; unfold x1; clear x1)
    | (extract_lets +onlyGivenNames x1; (fail_if_success have _f := fun a => x1 a); clear_value x1; revert x1; intro _)
    | with_reducible apply Still.answers | with_reducible apply State.posLoad_still
    | with_reducible apply State.setCtr_still | with_reducible apply State.ctrApply_still | split
    | (rw [State.lit_eq]; with_reducible refine Still.mk' ?_ rfl))

theorem State.dmaSubmit_still {s0 : State} {s : State} {q : Req} {e : ℕ} {v : Word} (h0 : Still s0 s) :
    Still s0 (State.dmaSubmit s q e v) := by
  unfold State.dmaSubmit
  repeat' (first
    | with_reducible assumption
    | (extract_lets +onlyGivenNames x1; have hx1 : Still s0 x1 := ?_; clear_value x1; revert x1; intro _ _; rotate_left; unfold x1; clear x1)
    | (extract_lets +onlyGivenNames x1; (fail_if_success have _f := fun a => x1 a); clear_value x1; revert x1; intro _)
    | with_reducible apply State.rsvd_still | with_reducible apply State.setF_still
    | with_reducible apply State.setDma_still | split)

theorem State.tlimWrite_still {s0 : State} {s : State} {q : Req} {v : Word} (h0 : Still s0 s) :
    Still s0 (State.tlimWrite s q v) := by
  unfold State.tlimWrite
  repeat' (first
    | with_reducible assumption | with_reducible apply State.rsvd_still | with_reducible apply State.regWrite_still
    | split)

theorem State.tlimWrite_kept {s0 : State} {s : State} {q : Req} {v : Word} (h0 : Kept s0 s) :
    Kept s0 (State.tlimWrite s q v) :=
  h0.still (State.tlimWrite_still (Still.refl _))

theorem State.recordWrite_still {s0 : State} {s : State} {q : Req} {k : ℕ} {v : Word} {l : List ℕ} (h0 : Still s0 s) :
    Still s0 (State.recordWrite s q k v l) := by
  unfold State.recordWrite
  repeat' (first
    | with_reducible assumption | intro _
    | (extract_lets +onlyGivenNames x1; have hx1 : Still s0 x1 := ?_; clear_value x1; revert x1; intro _ _; rotate_left; unfold x1; clear x1)
    | with_reducible apply State.regWrite_still | with_reducible apply State.put_still | split
    | with_reducible apply Still.foldl)

theorem State.recordWrite_kept {s0 : State} {s : State} {q : Req} {k : ℕ} {v : Word} {l : List ℕ} (h0 : Kept s0 s) :
    Kept s0 (State.recordWrite s q k v l) :=
  h0.still (State.recordWrite_still (Still.refl _))

theorem State.rsvdSrcWrite_still {s0 : State} {s : State} {q : Req} {v : Word} (h0 : Still s0 s) :
    Still s0 (State.rsvdSrcWrite s q v) := by
  unfold State.rsvdSrcWrite
  repeat' (first
    | with_reducible assumption
    | (extract_lets +onlyGivenNames x1; have hx1 : Still s0 x1 := ?_; clear_value x1; revert x1; intro _ _; rotate_left; unfold x1; clear x1)
    | with_reducible apply State.regWrite_still | with_reducible apply State.put_still | split)

theorem State.rsvdSrcWrite_kept {s0 : State} {s : State} {q : Req} {v : Word} (h0 : Kept s0 s) :
    Kept s0 (State.rsvdSrcWrite s q v) :=
  h0.still (State.rsvdSrcWrite_still (Still.refl _))

theorem State.hiReserved_still {s0 : State} {s : State} {q : Req} {a : ℕ} {v : Word} (h0 : Still s0 s) :
    Still s0 (State.hiReserved s q a v) := by
  unfold State.hiReserved
  repeat' (first
    | with_reducible assumption | with_reducible apply State.rsvd_still | split)

theorem State.ctrWrite_still {s0 : State} {s : State} {q : Req} {k : ℕ} {v : Word} (h0 : Still s0 s) :
    Still s0 (State.ctrWrite s q k v) := by
  unfold State.ctrWrite
  repeat' (first
    | with_reducible assumption
    | (extract_lets +onlyGivenNames x1; have hx1 : Still s0 x1 := ?_; clear_value x1; revert x1; intro _ _; rotate_left; unfold x1; clear x1)
    | (extract_lets +onlyGivenNames x1; (fail_if_success have _f := fun a => x1 a); clear_value x1; revert x1; intro _)
    | with_reducible apply State.ctrLoadAt_still | with_reducible apply State.hiReserved_still
    | with_reducible apply State.rsvd_still | with_reducible apply State.setHeld_still | split)

theorem State.ctrWrite_kept {s0 : State} {s : State} {q : Req} {k : ℕ} {v : Word} (h0 : Kept s0 s) :
    Kept s0 (State.ctrWrite s q k v) :=
  h0.still (State.ctrWrite_still (Still.refl _))

theorem execDmaSubmit_still {s0 : State} {q : Req} {e : Fin 16} {v : Word} {s : State} (h0 : Still s0 s) :
    NextAll (Still s0) (execDmaSubmit q e v s) := by
  unfold execDmaSubmit
  repeat' (first
    | with_reducible assumption | intro _ | with_reducible apply Still.answers
    | with_reducible apply State.guardWrite_still | with_reducible apply State.dmaSubmit_still)

theorem State.angCtlWrite_still {s0 : State} {s : State} {q : Req} {v : Word} (h0 : Still s0 s) :
    Still s0 (State.angCtlWrite s q v) := by
  unfold State.angCtlWrite
  repeat' (first
    | with_reducible assumption
    | (extract_lets +onlyGivenNames x1; have hx1 : Still s0 x1 := ?_; clear_value x1; revert x1; intro _ _; rotate_left; unfold x1; clear x1)
    | (extract_lets +onlyGivenNames x1; (fail_if_success have _f := fun a => x1 a); clear_value x1; revert x1; intro _)
    | with_reducible apply State.regWrite_still | with_reducible apply State.flag_still | split
    | (rw [State.lit_eq]; with_reducible refine Still.mk' ?_ rfl))

theorem State.angCtlWrite_kept {s0 : State} {s : State} {q : Req} {v : Word} (h0 : Kept s0 s) :
    Kept s0 (State.angCtlWrite s q v) :=
  h0.still (State.angCtlWrite_still (Still.refl _))

theorem State.dmaCtlWrite_still {s0 : State} {s : State} {q : Req} {e : ℕ} {v : Word} (h0 : Still s0 s) :
    Still s0 (State.dmaCtlWrite s q e v) := by
  unfold State.dmaCtlWrite
  repeat' (first
    | with_reducible assumption
    | (extract_lets +onlyGivenNames x1; have hx1 : Still s0 x1 := ?_; clear_value x1; revert x1; intro _ _; rotate_left; unfold x1; clear x1)
    | (extract_lets +onlyGivenNames x1; (fail_if_success have _f := fun a => x1 a); clear_value x1; revert x1; intro _)
    | with_reducible apply State.setDma_still | with_reducible apply State.regWrite_still | split)

theorem execRsvdCaptureClear_still {s0 : State} {q : Req} {s : State} (h0 : Still s0 s) :
    NextAll (Still s0) (execRsvdCaptureClear q s) := by
  unfold execRsvdCaptureClear
  repeat' (first
    | with_reducible assumption | intro _ | with_reducible apply Still.answers
    | with_reducible apply State.rsvdSrcWrite_still | with_reducible apply State.guardWrite_still)

theorem State.memBlockWrite_still {s0 : State} {s : State} {q : Req} {k : ℕ} {v : Word} (h0 : Still s0 s) :
    Still s0 (State.memBlockWrite s q k v) := by
  unfold State.memBlockWrite
  repeat' (first
    | with_reducible assumption
    | (extract_lets +onlyGivenNames x1; (fail_if_success have _f := fun a => x1 a); clear_value x1; revert x1; intro _)
    | with_reducible apply State.retCmd_still | with_reducible apply State.sramCmd_still
    | with_reducible apply State.dmaCtlWrite_still | with_reducible apply State.memRegWrite_still
    | with_reducible apply State.dmaSubmit_still | with_reducible apply State.eccCtlWrite_still | split)

theorem State.memBlockWrite_kept {s0 : State} {s : State} {q : Req} {k : ℕ} {v : Word} (h0 : Kept s0 s) :
    Kept s0 (State.memBlockWrite s q k v) :=
  h0.still (State.memBlockWrite_still (Still.refl _))

theorem State.bootCtlWrite_kept {s0 : State} {s : State} {q : Req} {v : Word} (h0 : Kept s0 s) :
    Kept s0 (State.bootCtlWrite s q v) := by
  unfold State.bootCtlWrite
  repeat' (first
    | with_reducible assumption
    | (extract_lets +onlyGivenNames x1; have hx1 : Kept s0 x1 := ?_; clear_value x1; revert x1; intro _ _; rotate_left; unfold x1; clear x1)
    | with_reducible apply State.regWrite_kept | with_reducible apply State.jgo_kept
    | with_reducible apply State.bootRst_kept | split)

theorem State.cxbWrite_still {s0 : State} {s : State} {q : Req} {k : ℕ} {v : Word} (h0 : Still s0 s) :
    Still s0 (State.cxbWrite s q k v) := by
  unfold State.cxbWrite
  repeat' (first
    | with_reducible assumption | with_reducible apply State.routeWrite_still | with_reducible apply State.rnowWrite_still
    | with_reducible apply State.regWrite_still | with_reducible apply State.ownWrite_still | split)

theorem State.cxbWrite_kept {s0 : State} {s : State} {q : Req} {k : ℕ} {v : Word} (h0 : Kept s0 s) :
    Kept s0 (State.cxbWrite s q k v) :=
  h0.still (State.cxbWrite_still (Still.refl _))

theorem State.pinBlockWrite_still {s0 : State} {s : State} {q : Req} {k : ℕ} {v : Word} (h0 : Still s0 s) :
    Still s0 (State.pinBlockWrite s q k v) := by
  unfold State.pinBlockWrite
  repeat' (first
    | with_reducible assumption | with_reducible apply State.pinFabWrite_still | with_reducible apply State.regWrite_still
    | with_reducible apply State.pinOutWrite_still | with_reducible apply State.pinCfgWrite_still
    | with_reducible apply State.pmWrite_still | with_reducible apply State.pinOeWrite_still | split)

theorem State.pinBlockWrite_kept {s0 : State} {s : State} {q : Req} {k : ℕ} {v : Word} (h0 : Kept s0 s) :
    Kept s0 (State.pinBlockWrite s q k v) :=
  h0.still (State.pinBlockWrite_still (Still.refl _))

theorem execDmaAbort_still {s0 : State} {q : Req} {e : Fin 16} {s : State} (h0 : Still s0 s) :
    NextAll (Still s0) (execDmaAbort q e s) := by
  unfold execDmaAbort
  repeat' (first
    | with_reducible assumption | intro _ | with_reducible apply Still.answers
    | with_reducible apply State.dmaCtlWrite_still | with_reducible apply State.guardWrite_still)

theorem execJgo_kept {s0 : State} {q : Req} {s : State} (h0 : Kept s0 s) :
    NextAll (Kept s0) (execJgo q s) := by
  unfold execJgo
  repeat' (first
    | with_reducible assumption | intro _ | with_reducible apply Kept.answers
    | with_reducible apply State.bootCtlWrite_kept | with_reducible apply State.guardWrite_kept)

theorem State.keyRead_still {s0 : State} {s : State} {q : Req} {a : ℕ} {k : ℕ} (h0 : Still s0 s) :
    Still s0 (State.keyRead s q a k).2 := by
  unfold State.keyRead
  repeat' (first
    | with_reducible assumption
    | (extract_lets +onlyGivenNames x1; (fail_if_success have _f := fun a => x1 a); clear_value x1; revert x1; intro _)
    | with_reducible apply State.ctrHiRead_still | with_reducible apply State.ctrLoRead_still
    | with_reducible apply State.waveDataRead_still | with_reducible apply State.setF_still
    | with_reducible apply State.tmaxRead_still | with_reducible apply State.capDataRead_still
    | with_reducible apply State.regRead_still | with_reducible apply State.uartRead_still
    | with_reducible apply State.coefRead_still | split)

theorem State.systemWrite_kept {s0 : State} {s : State} {q : Req} {k : ℕ} {v : Word} (h0 : Kept s0 s) :
    Kept s0 (State.systemWrite s q k v) := by
  unfold State.systemWrite
  repeat' (first
    | with_reducible assumption | with_reducible apply State.tlimWrite_kept | with_reducible apply State.rsvd_kept
    | with_reducible apply State.capCtlWrite_kept | with_reducible apply State.qpAllowWrite_kept
    | with_reducible apply State.keyCmdWrite_kept | with_reducible apply State.uartWrite_kept
    | with_reducible apply State.tileCmdWrite_kept | with_reducible apply State.nvmCmdWrite_kept
    | with_reducible apply State.bootCtlWrite_kept | with_reducible apply State.regWrite_kept
    | with_reducible apply State.sbyWrite_kept | with_reducible apply State.mgtWrite_kept
    | with_reducible apply State.sluiceDlyWrite_kept | with_reducible apply State.sluiceCtlWrite_kept
    | with_reducible apply State.calCmdWrite_kept | with_reducible apply State.prbWrite_kept
    | with_reducible apply State.nvmBufWrite_kept | with_reducible apply Kept.ite)

theorem State.busRead_still {s0 : State} {s : State} {q : Req} {a : ℕ} (h0 : Still s0 s) :
    Still s0 (State.busRead s q a) := by
  unfold State.busRead
  repeat' (first
    | with_reducible assumption | intro _ | with_reducible apply State.answer_still
    | with_reducible apply State.keyRead_still | with_reducible apply State.guardRead_still | split)

theorem State.busRead_kept {s0 : State} {s : State} {q : Req} {a : ℕ} (h0 : Kept s0 s) :
    Kept s0 (State.busRead s q a) :=
  h0.still (State.busRead_still (Still.refl _))

theorem execCounterHiRead_still {s0 : State} {q : Req} {addr : Word} {s : State} (h0 : Still s0 s) :
    NextAll (Still s0) (execCounterHiRead q addr s) := by
  unfold execCounterHiRead
  repeat' (first
    | with_reducible assumption | with_reducible apply Still.answers | with_reducible apply State.busRead_still | split)

theorem execSmbusRegRead_still {s0 : State} {addr : Word} {s : State} (h0 : Still s0 s) :
    NextAll (Still s0) (execSmbusRegRead addr s) := by
  unfold execSmbusRegRead
  repeat' (first
    | with_reducible assumption
    | (extract_lets +onlyGivenNames x1; (fail_if_success have _f := fun a => x1 a); clear_value x1; revert x1; intro _)
    | with_reducible apply Still.answers | with_reducible apply State.answer_still
    | with_reducible apply State.busRead_still | split | (rw [State.lit_eq]; with_reducible refine Still.mk' ?_ rfl))

theorem State.unitWrite_still {s0 : State} {s : State} {q : Req} {k : ℕ} {v : Word} (h0 : Still s0 s) :
    Still s0 (State.unitWrite s q k v) := by
  unfold State.unitWrite
  repeat' (first
    | with_reducible assumption | intro _
    | (extract_lets +onlyGivenNames x1; (fail_if_success have _f := fun a => x1 a); clear_value x1; revert x1; intro _)
    | with_reducible apply State.rsvd_still | with_reducible apply State.cvgCtlWrite_still
    | with_reducible apply State.drvCfgWrite_still | with_reducible apply State.drvCtlWrite_still
    | with_reducible apply State.regWrite_still | with_reducible apply State.tdacWrite_still
    | with_reducible apply State.pairChange_still | with_reducible apply State.refreshCell_still
    | with_reducible apply State.refWrite_still | with_reducible apply State.rgCtlWrite_still
    | with_reducible apply State.coefWrite_still | with_reducible apply State.fltCtlWrite_still | split)

theorem State.unitWrite_kept {s0 : State} {s : State} {q : Req} {k : ℕ} {v : Word} (h0 : Kept s0 s) :
    Kept s0 (State.unitWrite s q k v) :=
  h0.still (State.unitWrite_still (Still.refl _))

theorem execCounterLoRead_still {s0 : State} {q : Req} {addr : Word} {s : State} (h0 : Still s0 s) :
    NextAll (Still s0) (execCounterLoRead q addr s) := by
  unfold execCounterLoRead
  repeat' (first
    | with_reducible assumption | with_reducible apply Still.answers | with_reducible apply State.busRead_still | split)

theorem State.instWrite_kept {s0 : State} {s : State} {q : Req} {k : ℕ} {v : Word} (h0 : Kept s0 s) :
    Kept s0 (State.instWrite s q k v) := by
  unfold State.instWrite
  repeat' (first
    | with_reducible assumption | with_reducible apply State.rsvd_kept | with_reducible apply State.instCtlWrite_kept
    | with_reducible apply State.regWrite_kept | split)

theorem State.chainWrite_kept {s0 : State} {s : State} {q : Req} {k : ℕ} {v : Word} (h0 : Kept s0 s) :
    Kept s0 (State.chainWrite s q k v) := by
  unfold State.chainWrite
  repeat' (first
    | with_reducible assumption | with_reducible apply State.rsvd_kept | with_reducible apply State.twinCmdWrite_kept
    | with_reducible apply State.staleWrite_kept | with_reducible apply State.regWrite_kept
    | with_reducible apply State.lpCfgWrite_kept | with_reducible apply State.admitWrite_kept
    | with_reducible apply State.leatCfgWrite_kept | with_reducible apply State.tretWrite_kept | split)

theorem State.busEffect_kept {s0 : State} {s : State} {q : Req} {a : ℕ} {k : ℕ} {v : Word} (h0 : Kept s0 s) :
    Kept s0 (State.busEffect s q a k v) := by
  unfold State.busEffect
  repeat' (first
    | with_reducible assumption | with_reducible apply State.recordWrite_kept
    | with_reducible apply State.memBlockWrite_kept | with_reducible apply State.rsvdSrcWrite_kept
    | with_reducible apply State.systemWrite_kept | with_reducible apply State.angCtlWrite_kept
    | with_reducible apply State.cxbWrite_kept | with_reducible apply State.rsvd_kept
    | with_reducible apply State.irqClaimWrite_kept | with_reducible apply State.unitWrite_kept
    | with_reducible apply State.ctrWrite_kept | with_reducible apply State.instWrite_kept
    | with_reducible apply State.irqSwset_kept | with_reducible apply State.chainWrite_kept
    | with_reducible apply State.regWrite_kept | with_reducible apply State.pinBlockWrite_kept
    | with_reducible apply State.irqDone_kept | with_reducible apply State.refreshCells_kept
    | with_reducible apply State.epCtlWrite_kept | split)

theorem State.busWrite_kept {s0 : State} {s : State} {q : Req} {a : ℕ} {v : Word} (h0 : Kept s0 s) :
    Kept s0 (State.busWrite s q a v) := by
  unfold State.busWrite
  repeat' (first
    | with_reducible assumption | intro _ | with_reducible apply State.answer_kept
    | with_reducible apply State.rsvdAt_kept | with_reducible apply State.guardWrite_kept
    | with_reducible apply State.busEffect_kept | split)

theorem execCounterLoadWrite_kept {s0 : State} {q : Req} {addr : Word} {val : Word} {s : State} (h0 : Kept s0 s) :
    NextAll (Kept s0) (execCounterLoadWrite q addr val s) := by
  unfold execCounterLoadWrite
  repeat' (first
    | with_reducible assumption | with_reducible apply Kept.answers | with_reducible apply State.busWrite_kept | split)

theorem execCounterHoldWrite_kept {s0 : State} {q : Req} {addr : Word} {val : Word} {s : State} (h0 : Kept s0 s) :
    NextAll (Kept s0) (execCounterHoldWrite q addr val s) := by
  unfold execCounterHoldWrite
  repeat' (first
    | with_reducible assumption | with_reducible apply Kept.answers | with_reducible apply State.busWrite_kept | split)

theorem execRegisterWrite_kept {s0 : State} {q : Req} {place : RegPlace} {bytes : ℕ} {val : Word} {s : State}
    (h0 : Kept s0 s) :
    NextAll (Kept s0) (execRegisterWrite q place bytes val s) := by
  unfold execRegisterWrite
  repeat' (first
    | with_reducible assumption | with_reducible apply Kept.answers | with_reducible apply State.answer_kept
    | with_reducible apply State.busWrite_kept | with_reducible apply State.qpWrite_kept | split)

theorem execSmbusRegWrite_kept {s0 : State} {addr : Word} {val : Word} {s : State} (h0 : Kept s0 s) :
    NextAll (Kept s0) (execSmbusRegWrite addr val s) := by
  unfold execSmbusRegWrite
  repeat' (first
    | with_reducible assumption | with_reducible apply Kept.answers | with_reducible apply State.busWrite_kept)

theorem State.accessed_still {s0 : State} {s : State} {c : ℕ} {far : Bool} {a : ℕ} {n : ℕ} {p : Perm}
    {k : State → Done} (h0 : Still s0 s) (h1 : ∀ a0, Still s0 a0 → Done.All (Still s0) (k a0)) :
    Done.All (Still s0) (State.accessed s c far a n p k) := by
  unfold State.accessed
  repeat' (first
    | with_reducible assumption
    | (extract_lets +onlyGivenNames x1; (fail_if_success have _f := fun a => x1 a); clear_value x1; revert x1; intro _)
    | with_reducible apply Done.still_raise | with_reducible apply h1 | split)

theorem State.accessed_kept {s0 : State} {s : State} {c : ℕ} {far : Bool} {a : ℕ} {n : ℕ} {p : Perm}
    {k : State → Done} (h0 : Kept s0 s) (h1 : ∀ a0, Kept s0 a0 → Done.All (Kept s0) (k a0)) :
    Done.All (Kept s0) (State.accessed s c far a n p k) := by
  unfold State.accessed
  repeat' (first
    | with_reducible assumption
    | (extract_lets +onlyGivenNames x1; (fail_if_success have _f := fun a => x1 a); clear_value x1; revert x1; intro _)
    | with_reducible apply Done.kept_raise | with_reducible apply h1 | split)

theorem State.storeFail_still {s0 : State} {s : State} {c : ℕ} {a : ℕ} {sub : ℕ} (h0 : Still s0 s) :
    Still s0 (State.storeFail s c a sub) := by
  unfold State.storeFail
  repeat' (first
    | with_reducible assumption
    | (extract_lets +onlyGivenNames x1; (fail_if_success have _f := fun a => x1 a); clear_value x1; revert x1; intro _)
    | with_reducible apply State.setCtx_still)

theorem State.storeFail_kept {s0 : State} {s : State} {c : ℕ} {a : ℕ} {sub : ℕ} (h0 : Kept s0 s) :
    Kept s0 (State.storeFail s c a sub) :=
  h0.still (State.storeFail_still (Still.refl _))

theorem postStore_still {s0 : State} {c : ℕ} {st : PStore} {s : State} (h0 : Still s0 s) :
    Done.All (Still s0) (postStore c st s) := by
  unfold postStore
  repeat' (first
    | with_reducible assumption
    | (extract_lets +onlyGivenNames x1; (fail_if_success have _f := fun a => x1 a); clear_value x1; revert x1; intro _)
    | with_reducible apply Done.still_next | with_reducible apply Done.still_wait
    | with_reducible apply State.setCtx_still | split)

theorem postStore_kept {s0 : State} {c : ℕ} {st : PStore} {s : State} (h0 : Kept s0 s) :
    Done.All (Kept s0) (postStore c st s) := by
  unfold postStore
  repeat' (first
    | with_reducible assumption
    | (extract_lets +onlyGivenNames x1; (fail_if_success have _f := fun a => x1 a); clear_value x1; revert x1; intro _)
    | with_reducible apply Done.kept_next | with_reducible apply Done.kept_wait
    | with_reducible apply State.setCtx_kept | split)

theorem State.request_still {s0 : State} {s : State} {k : LeatKind} {dst : ℕ} {req : ℕ} {gen : ℕ} {l : List ℕ}
    {who : Waiter} (h0 : Still s0 s) :
    Still s0 (State.request s k dst req gen l who) := by
  unfold State.request
  repeat' (first
    | with_reducible assumption
    | (extract_lets +onlyGivenNames x1; have hx1 : Still s0 x1 := ?_; clear_value x1; revert x1; intro _ _; rotate_left; unfold x1; clear x1)
    | (extract_lets +onlyGivenNames x1; (fail_if_success have _f := fun a => x1 a); clear_value x1; revert x1; intro _)
    | with_reducible apply State.chainSend_still | (rw [State.lit_eq]; with_reducible refine Still.mk' ?_ rfl))

theorem State.request_kept {s0 : State} {s : State} {k : LeatKind} {dst : ℕ} {req : ℕ} {gen : ℕ} {l : List ℕ}
    {who : Waiter} (h0 : Kept s0 s) :
    Kept s0 (State.request s k dst req gen l who) :=
  h0.still (State.request_still (Still.refl _))

theorem storeFar_still {s0 : State} {c : ℕ} {rs : ℕ} {ra : ℕ} {n : ℕ} {s : State} (h0 : Still s0 s) :
    Done.All (Still s0) (storeFar c rs ra n s) := by
  unfold storeFar
  repeat' (first
    | with_reducible assumption | intro _
    | (extract_lets +onlyGivenNames x1; (fail_if_success have _f := fun a => x1 a); clear_value x1; revert x1; intro _)
    | with_reducible apply postStore_still | with_reducible apply State.accessed_still)

theorem storeFar_kept {s0 : State} {c : ℕ} {rs : ℕ} {ra : ℕ} {n : ℕ} {s : State} (h0 : Kept s0 s) :
    Done.All (Kept s0) (storeFar c rs ra n s) := by
  unfold storeFar
  repeat' (first
    | with_reducible assumption | intro _
    | (extract_lets +onlyGivenNames x1; (fail_if_success have _f := fun a => x1 a); clear_value x1; revert x1; intro _)
    | with_reducible apply postStore_kept | with_reducible apply State.accessed_kept)

theorem storeTo_still {s0 : State} {c : ℕ} {rs : ℕ} {ra : ℕ} {imm : BitVec 16} {n : ℕ} {s : State} (h0 : Still s0 s) :
    Done.All (Still s0) (storeTo c rs ra imm n s) := by
  unfold storeTo
  repeat' (first
    | with_reducible assumption | intro _
    | (extract_lets +onlyGivenNames x1; (fail_if_success have _f := fun a => x1 a); clear_value x1; revert x1; intro _)
    | with_reducible apply postStore_still | with_reducible apply State.accessed_still)

theorem storeTo_kept {s0 : State} {c : ℕ} {rs : ℕ} {ra : ℕ} {imm : BitVec 16} {n : ℕ} {s : State} (h0 : Kept s0 s) :
    Done.All (Kept s0) (storeTo c rs ra imm n s) := by
  unfold storeTo
  repeat' (first
    | with_reducible assumption | intro _
    | (extract_lets +onlyGivenNames x1; (fail_if_success have _f := fun a => x1 a); clear_value x1; revert x1; intro _)
    | with_reducible apply postStore_kept | with_reducible apply State.accessed_kept)

theorem State.ctxRequest_still {s0 : State} {s : State} {c : ℕ} {k : LeatKind} {dst : ℕ} {l : List ℕ} {who : Waiter}
    (h0 : Still s0 s) :
    Still s0 (State.ctxRequest s c k dst l who) := by
  unfold State.ctxRequest
  repeat' (first
    | with_reducible assumption | with_reducible apply State.request_still)

theorem State.ctxRequest_kept {s0 : State} {s : State} {c : ℕ} {k : LeatKind} {dst : ℕ} {l : List ℕ} {who : Waiter}
    (h0 : Kept s0 s) :
    Kept s0 (State.ctxRequest s c k dst l who) :=
  h0.still (State.ctxRequest_still (Still.refl _))

theorem State.memData_still {s0 : State} {s : State} {c : ℕ} {op : MemOp} {bs : List Byte} (h0 : Still s0 s) :
    Still s0 (State.memData s c op bs) := by
  unfold State.memData
  repeat' (first
    | with_reducible assumption
    | (extract_lets +onlyGivenNames x1; (fail_if_success have _f := fun a => x1 a); clear_value x1; revert x1; intro _)
    | with_reducible apply State.finish_still | with_reducible apply State.setCtx_still | split)

theorem State.memData_kept {s0 : State} {s : State} {c : ℕ} {op : MemOp} {bs : List Byte} (h0 : Kept s0 s) :
    Kept s0 (State.memData s c op bs) :=
  h0.still (State.memData_still (Still.refl _))

theorem State.amo_kept {s0 : State} {s : State} {req : ℕ} {op : ℕ} {o : ℕ} {a : Word} {b : Word} (h0 : Kept s0 s) :
    Kept s0 (State.amo s req op o a b).2 := by
  unfold State.amo
  repeat' (first
    | with_reducible assumption
    | (extract_lets +onlyGivenNames x1; have hx1 : Kept s0 x1 := ?_; clear_value x1; revert x1; intro _ _; rotate_left; unfold x1; clear x1)
    | (extract_lets +onlyGivenNames x1; (fail_if_success have _f := fun a => x1 a); clear_value x1; revert x1; intro _)
    | with_reducible apply State.flipWrite_kept | with_reducible apply State.setCodeErr_kept
    | with_reducible apply State.codeRead_kept | with_reducible apply State.bankAccess_kept
    | with_reducible apply State.putBytes_kept | split | dsimp only
    | with_reducible refine Kept.pair ?_ (by assumption))

theorem execPostedStoreFailure_still {s0 : State} {c : Fin 257} {s : State} (h0 : Still s0 s) :
    NextAll (Still s0) (execPostedStoreFailure c s) := by
  unfold execPostedStoreFailure
  repeat' (first
    | with_reducible assumption | with_reducible apply Still.answers | with_reducible apply State.takeCheck_still
    | with_reducible apply State.takePosted_still | split)

theorem State.memTrap_still {s0 : State} {s : State} {c : ℕ} {a : ℕ} {sub : ℕ} (h0 : Still s0 s) :
    Still s0 (State.memTrap s c a sub) := by
  unfold State.memTrap
  repeat' (first
    | with_reducible assumption | with_reducible apply State.waitTrap_still)

theorem State.memTrap_kept {s0 : State} {s : State} {c : ℕ} {a : ℕ} {sub : ℕ} (h0 : Kept s0 s) :
    Kept s0 (State.memTrap s c a sub) :=
  h0.still (State.memTrap_still (Still.refl _))

theorem execStfB_kept {s0 : State} {c : Fin 257} {rs : Fin 32} {ra : Fin 32} {s : State} (h0 : Kept s0 s) :
    NextAll (Kept s0) (execStfB c rs ra s) := by
  unfold execStfB
  repeat' (first
    | with_reducible assumption | intro _ | with_reducible apply issued_kept | with_reducible apply storeFar_kept)

theorem execStD_kept {s0 : State} {c : Fin 257} {rs : Fin 32} {ra : Fin 32} {imm : BitVec 16} {s : State}
    (h0 : Kept s0 s) :
    NextAll (Kept s0) (execStD c rs ra imm s) := by
  unfold execStD
  repeat' (first
    | with_reducible assumption | intro _ | with_reducible apply issued_kept | with_reducible apply storeTo_kept)

theorem execStW_kept {s0 : State} {c : Fin 257} {rs : Fin 32} {ra : Fin 32} {imm : BitVec 16} {s : State}
    (h0 : Kept s0 s) :
    NextAll (Kept s0) (execStW c rs ra imm s) := by
  unfold execStW
  repeat' (first
    | with_reducible assumption | intro _ | with_reducible apply issued_kept | with_reducible apply storeTo_kept)

theorem execStfD_kept {s0 : State} {c : Fin 257} {rs : Fin 32} {ra : Fin 32} {s : State} (h0 : Kept s0 s) :
    NextAll (Kept s0) (execStfD c rs ra s) := by
  unfold execStfD
  repeat' (first
    | with_reducible assumption | intro _ | with_reducible apply issued_kept | with_reducible apply storeFar_kept)

theorem execStfW_kept {s0 : State} {c : Fin 257} {rs : Fin 32} {ra : Fin 32} {s : State} (h0 : Kept s0 s) :
    NextAll (Kept s0) (execStfW c rs ra s) := by
  unfold execStfW
  repeat' (first
    | with_reducible assumption | intro _ | with_reducible apply issued_kept | with_reducible apply storeFar_kept)

theorem execStH_kept {s0 : State} {c : Fin 257} {rs : Fin 32} {ra : Fin 32} {imm : BitVec 16} {s : State}
    (h0 : Kept s0 s) :
    NextAll (Kept s0) (execStH c rs ra imm s) := by
  unfold execStH
  repeat' (first
    | with_reducible assumption | intro _ | with_reducible apply issued_kept | with_reducible apply storeTo_kept)

theorem execStfH_kept {s0 : State} {c : Fin 257} {rs : Fin 32} {ra : Fin 32} {s : State} (h0 : Kept s0 s) :
    NextAll (Kept s0) (execStfH c rs ra s) := by
  unfold execStfH
  repeat' (first
    | with_reducible assumption | intro _ | with_reducible apply issued_kept | with_reducible apply storeFar_kept)

theorem execStB_kept {s0 : State} {c : Fin 257} {rs : Fin 32} {ra : Fin 32} {imm : BitVec 16} {s : State}
    (h0 : Kept s0 s) :
    NextAll (Kept s0) (execStB c rs ra imm s) := by
  unfold execStB
  repeat' (first
    | with_reducible assumption | intro _ | with_reducible apply issued_kept | with_reducible apply storeTo_kept)

theorem State.storeDone_kept {s0 : State} {s : State} {c : ℕ} {st : PStore} (h0 : Kept s0 s) :
    Kept s0 (State.storeDone s c st) := by
  unfold State.storeDone
  repeat' (first
    | with_reducible assumption | with_reducible apply State.memWriteIn_kept | with_reducible apply State.storeFail_kept
    | with_reducible apply State.busWrite_kept | with_reducible apply State.memWrite_kept
    | with_reducible apply State.setCtx_kept | with_reducible apply State.ctxRequest_kept | split | dsimp only
    | (rw [State.lit_eq]; with_reducible refine Kept.mk' ?_ rfl))

theorem execStoreAccepted_kept {s0 : State} {c : Fin 257} {s : State} (h0 : Kept s0 s) :
    NextAll (Kept s0) (execStoreAccepted c s) := by
  unfold execStoreAccepted
  repeat' (first
    | with_reducible assumption
    | (extract_lets +onlyGivenNames x1; have hx1 : Kept s0 x1 := ?_; clear_value x1; revert x1; intro _ _; rotate_left; unfold x1; clear x1)
    | (extract_lets +onlyGivenNames x1; (fail_if_success have _f := fun a => x1 a); clear_value x1; revert x1; intro _)
    | with_reducible apply Kept.answers | with_reducible apply State.finish_kept
    | with_reducible apply State.setCtx_kept | with_reducible apply State.storeDone_kept | split)

theorem State.ownFirst_kept {s0 : State} {s : State} {c : ℕ} {loc : Loc} (h0 : Kept s0 s) :
    Kept s0 (State.ownFirst s c loc) := by
  unfold State.ownFirst
  repeat' (first
    | with_reducible assumption | intro _
    | (extract_lets +onlyGivenNames x1; have hx1 : Kept s0 x1 := ?_; clear_value x1; revert x1; intro _ _; rotate_left; unfold x1; clear x1)
    | (extract_lets +onlyGivenNames x1; (fail_if_success have _f := fun a => x1 a); clear_value x1; revert x1; intro _)
    | with_reducible apply State.setCtx_kept | with_reducible apply State.storeDone_kept
    | with_reducible apply Kept.foldl)

theorem memWait_kept {s0 : State} {c : ℕ} {op : MemOp} {far : Bool} {a : ℕ} {s : State} (h0 : Kept s0 s) :
    Done.All (Kept s0) (memWait c op far a s) := by
  unfold memWait
  repeat' (first
    | with_reducible assumption
    | (extract_lets +onlyGivenNames x1; have hx1 : Kept s0 x1 := ?_; clear_value x1; revert x1; intro _ _; rotate_left; unfold x1; clear x1)
    | (extract_lets +onlyGivenNames x1; (fail_if_success have _f := fun a => x1 a); clear_value x1; revert x1; intro _)
    | with_reducible apply Done.kept_wait | with_reducible apply State.ownFirst_kept
    | with_reducible apply State.ctxRequest_kept | split)

theorem atomicOp_kept {s0 : State} {c : ℕ} {ra : ℕ} {f : Bool} {op : Ctx → MemOp} {s : State} (h0 : Kept s0 s) :
    Done.All (Kept s0) (atomicOp c ra f op s) := by
  unfold atomicOp
  repeat' (first
    | with_reducible assumption | intro _
    | (extract_lets +onlyGivenNames x1; (fail_if_success have _f := fun a => x1 a); clear_value x1; revert x1; intro _)
    | with_reducible apply State.accessed_kept | with_reducible apply memWait_kept)

theorem windowMove_kept {s0 : State} {c : ℕ} {ra : ℕ} {w : Word} {op : MemOp} {s : State} (h0 : Kept s0 s) :
    Done.All (Kept s0) (windowMove c ra w op s) := by
  unfold windowMove
  repeat' (first
    | with_reducible assumption | intro _
    | (extract_lets +onlyGivenNames x1; (fail_if_success have _f := fun a => x1 a); clear_value x1; revert x1; intro _)
    | with_reducible apply Done.kept_illegal | with_reducible apply State.accessed_kept
    | with_reducible apply memWait_kept | split)

theorem execWfill_kept {s0 : State} {c : Fin 257} {ra : Fin 32} {s : State} (h0 : Kept s0 s) :
    NextAll (Kept s0) (execWfill c ra s) := by
  unfold execWfill
  repeat' (first
    | with_reducible assumption | intro _
    | (extract_lets +onlyGivenNames x1; (fail_if_success have _f := fun a => x1 a); clear_value x1; revert x1; intro _)
    | with_reducible apply issued_kept | with_reducible apply windowMove_kept)

theorem loadFrom_kept {s0 : State} {c : ℕ} {rd : ℕ} {ra : ℕ} {imm : BitVec 16} {n : ℕ} {signed : Bool} {s : State}
    (h0 : Kept s0 s) :
    Done.All (Kept s0) (loadFrom c rd ra imm n signed s) := by
  unfold loadFrom
  repeat' (first
    | with_reducible assumption | intro _
    | (extract_lets +onlyGivenNames x1; (fail_if_success have _f := fun a => x1 a); clear_value x1; revert x1; intro _)
    | with_reducible apply State.accessed_kept | with_reducible apply memWait_kept)

theorem State.memLocal_kept {s0 : State} {s : State} {c : ℕ} {op : MemOp} {far : Bool} {a : ℕ} (h0 : Kept s0 s) :
    Kept s0 (State.memLocal s c op far a) := by
  unfold State.memLocal
  repeat' (first
    | with_reducible assumption
    | (extract_lets +onlyGivenNames x1; have hx1 : Kept s0 x1 := ?_; clear_value x1; revert x1; intro _ _; rotate_left; unfold x1; clear x1)
    | (extract_lets +onlyGivenNames x1; (fail_if_success have _f := fun a => x1 a); clear_value x1; revert x1; intro _)
    | with_reducible apply State.memRead_kept | with_reducible apply State.ownFirst_kept
    | with_reducible apply State.memWriteIn_kept | with_reducible apply State.memReadIn_kept
    | with_reducible apply State.amo_kept | with_reducible apply State.memData_kept
    | with_reducible apply State.nvmBytes_kept | with_reducible apply State.memTrap_kept
    | with_reducible apply State.memWrite_kept | with_reducible apply State.busRead_kept | split | dsimp only
    | with_reducible refine Kept.pair ?_ (by assumption) | (rw [State.lit_eq]; with_reducible refine Kept.mk' ?_ rfl))

theorem execAmoswap_kept {s0 : State} {c : Fin 257} {rd : Fin 32} {ra : Fin 32} {rb : Fin 32} {f : Bool} {s : State}
    (h0 : Kept s0 s) :
    NextAll (Kept s0) (execAmoswap c rd ra rb f s) := by
  unfold execAmoswap
  repeat' (first
    | with_reducible assumption | intro _ | with_reducible apply issued_kept | with_reducible apply atomicOp_kept)

theorem execLdD_kept {s0 : State} {c : Fin 257} {rd : Fin 32} {ra : Fin 32} {imm : BitVec 16} {s : State}
    (h0 : Kept s0 s) :
    NextAll (Kept s0) (execLdD c rd ra imm s) := by
  unfold execLdD
  repeat' (first
    | with_reducible assumption | intro _ | with_reducible apply issued_kept | with_reducible apply loadFrom_kept)

theorem execLdW_kept {s0 : State} {c : Fin 257} {rd : Fin 32} {ra : Fin 32} {imm : BitVec 16} {s : State}
    (h0 : Kept s0 s) :
    NextAll (Kept s0) (execLdW c rd ra imm s) := by
  unfold execLdW
  repeat' (first
    | with_reducible assumption | intro _ | with_reducible apply issued_kept | with_reducible apply loadFrom_kept)

theorem execAmoadd_kept {s0 : State} {c : Fin 257} {rd : Fin 32} {ra : Fin 32} {rb : Fin 32} {f : Bool} {s : State}
    (h0 : Kept s0 s) :
    NextAll (Kept s0) (execAmoadd c rd ra rb f s) := by
  unfold execAmoadd
  repeat' (first
    | with_reducible assumption | intro _ | with_reducible apply issued_kept | with_reducible apply atomicOp_kept)

theorem execLdHu_kept {s0 : State} {c : Fin 257} {rd : Fin 32} {ra : Fin 32} {imm : BitVec 16} {s : State}
    (h0 : Kept s0 s) :
    NextAll (Kept s0) (execLdHu c rd ra imm s) := by
  unfold execLdHu
  repeat' (first
    | with_reducible assumption | intro _ | with_reducible apply issued_kept | with_reducible apply loadFrom_kept)

theorem execAmocas_kept {s0 : State} {c : Fin 257} {rd : Fin 32} {ra : Fin 32} {rb : Fin 32} {f : Bool} {s : State}
    (h0 : Kept s0 s) :
    NextAll (Kept s0) (execAmocas c rd ra rb f s) := by
  unfold execAmocas
  repeat' (first
    | with_reducible assumption | intro _ | with_reducible apply issued_kept | with_reducible apply atomicOp_kept)

theorem loadFar_kept {s0 : State} {c : ℕ} {rd : ℕ} {ra : ℕ} {n : ℕ} {signed : Bool} {s : State} (h0 : Kept s0 s) :
    Done.All (Kept s0) (loadFar c rd ra n signed s) := by
  unfold loadFar
  repeat' (first
    | with_reducible assumption | intro _
    | (extract_lets +onlyGivenNames x1; (fail_if_success have _f := fun a => x1 a); clear_value x1; revert x1; intro _)
    | with_reducible apply State.accessed_kept | with_reducible apply memWait_kept)

theorem execMemoryResponse_kept {s0 : State} {c : Fin 257} {s : State} (h0 : Kept s0 s) :
    NextAll (Kept s0) (execMemoryResponse c s) := by
  unfold execMemoryResponse
  repeat' (first
    | with_reducible assumption | with_reducible apply Kept.answers | with_reducible apply State.memLocal_kept
    | with_reducible apply State.memData_kept | with_reducible apply State.memTrap_kept | split)

theorem execLdfD_kept {s0 : State} {c : Fin 257} {rd : Fin 32} {ra : Fin 32} {s : State} (h0 : Kept s0 s) :
    NextAll (Kept s0) (execLdfD c rd ra s) := by
  unfold execLdfD
  repeat' (first
    | with_reducible assumption | intro _ | with_reducible apply issued_kept | with_reducible apply loadFar_kept)

theorem execLdH_kept {s0 : State} {c : Fin 257} {rd : Fin 32} {ra : Fin 32} {imm : BitVec 16} {s : State}
    (h0 : Kept s0 s) :
    NextAll (Kept s0) (execLdH c rd ra imm s) := by
  unfold execLdH
  repeat' (first
    | with_reducible assumption | intro _ | with_reducible apply issued_kept | with_reducible apply loadFrom_kept)

theorem execLdB_kept {s0 : State} {c : Fin 257} {rd : Fin 32} {ra : Fin 32} {imm : BitVec 16} {s : State}
    (h0 : Kept s0 s) :
    NextAll (Kept s0) (execLdB c rd ra imm s) := by
  unfold execLdB
  repeat' (first
    | with_reducible assumption | intro _ | with_reducible apply issued_kept | with_reducible apply loadFrom_kept)

theorem execLdBu_kept {s0 : State} {c : Fin 257} {rd : Fin 32} {ra : Fin 32} {imm : BitVec 16} {s : State}
    (h0 : Kept s0 s) :
    NextAll (Kept s0) (execLdBu c rd ra imm s) := by
  unfold execLdBu
  repeat' (first
    | with_reducible assumption | intro _ | with_reducible apply issued_kept | with_reducible apply loadFrom_kept)

theorem execLdfW_kept {s0 : State} {c : Fin 257} {rd : Fin 32} {ra : Fin 32} {s : State} (h0 : Kept s0 s) :
    NextAll (Kept s0) (execLdfW c rd ra s) := by
  unfold execLdfW
  repeat' (first
    | with_reducible assumption | intro _ | with_reducible apply issued_kept | with_reducible apply loadFar_kept)

theorem execWspill_kept {s0 : State} {c : Fin 257} {ra : Fin 32} {s : State} (h0 : Kept s0 s) :
    NextAll (Kept s0) (execWspill c ra s) := by
  unfold execWspill
  repeat' (first
    | with_reducible assumption | intro _
    | (extract_lets +onlyGivenNames x1; (fail_if_success have _f := fun a => x1 a); clear_value x1; revert x1; intro _)
    | with_reducible apply issued_kept | with_reducible apply windowMove_kept)

theorem execLdfHu_kept {s0 : State} {c : Fin 257} {rd : Fin 32} {ra : Fin 32} {s : State} (h0 : Kept s0 s) :
    NextAll (Kept s0) (execLdfHu c rd ra s) := by
  unfold execLdfHu
  repeat' (first
    | with_reducible assumption | intro _ | with_reducible apply issued_kept | with_reducible apply loadFar_kept)

theorem execLdfB_kept {s0 : State} {c : Fin 257} {rd : Fin 32} {ra : Fin 32} {s : State} (h0 : Kept s0 s) :
    NextAll (Kept s0) (execLdfB c rd ra s) := by
  unfold execLdfB
  repeat' (first
    | with_reducible assumption | intro _ | with_reducible apply issued_kept | with_reducible apply loadFar_kept)

theorem execLdfH_kept {s0 : State} {c : Fin 257} {rd : Fin 32} {ra : Fin 32} {s : State} (h0 : Kept s0 s) :
    NextAll (Kept s0) (execLdfH c rd ra s) := by
  unfold execLdfH
  repeat' (first
    | with_reducible assumption | intro _ | with_reducible apply issued_kept | with_reducible apply loadFar_kept)

theorem execLdfBu_kept {s0 : State} {c : Fin 257} {rd : Fin 32} {ra : Fin 32} {s : State} (h0 : Kept s0 s) :
    NextAll (Kept s0) (execLdfBu c rd ra s) := by
  unfold execLdfBu
  repeat' (first
    | with_reducible assumption | intro _ | with_reducible apply issued_kept | with_reducible apply loadFar_kept)

end Sys2Proof.Machine
end

