-- ==== Sys2Proof/Laws/FrameUnits.lean ====
section
/-! SUPPORT. What each function of Machine/Units.lean, Machine/UnitIns.lean, Machine/Dma.lean, Machine/Durable.lean leaves alone: `Still`, the queue of commands and
every byte of memory; `Kept`, the queue, and the canonical form of memory. -/

set_option linter.unreachableTactic false
set_option linter.unusedTactic false
set_option linter.unusedVariables false
set_option linter.tactic.unusedName false

namespace Sys2Proof.Machine

theorem State.cacheUse_still {s0 : State} {s : State} {c : ℕ} {far : List (Word × Option (List Word))} {u : Word}
    (h0 : Still s0 s) :
    Still s0 (State.cacheUse s c far u) := by
  unfold State.cacheUse
  repeat' (first
    | with_reducible assumption
    | (extract_lets +onlyGivenNames x1; (fail_if_success have _f := fun a => x1 a); clear_value x1; revert x1; intro _)
    | split | (rw [State.lit_eq]; with_reducible refine Still.mk' ?_ rfl))

theorem State.cacheUse_kept {s0 : State} {s : State} {c : ℕ} {far : List (Word × Option (List Word))} {u : Word}
    (h0 : Kept s0 s) :
    Kept s0 (State.cacheUse s c far u) :=
  h0.still (State.cacheUse_still (Still.refl _))

theorem State.watched_still {s0 : State} {s : State} {own : ℕ} {f : State → State} (h0 : Still s0 s)
    (h1 : ∀ a0, Still s0 a0 → Still s0 (f a0)) :
    Still s0 (State.watched s own f).2 := by
  unfold State.watched
  repeat' (first
    | with_reducible assumption
    | (extract_lets +onlyGivenNames x1; (fail_if_success have _f := fun a => x1 a); clear_value x1; revert x1; intro _)
    | with_reducible apply h1)

theorem State.watched_kept {s0 : State} {s : State} {own : ℕ} {f : State → State} (h0 : Kept s0 s)
    (h1 : ∀ a0, Kept s0 a0 → Kept s0 (f a0)) :
    Kept s0 (State.watched s own f).2 := by
  unfold State.watched
  repeat' (first
    | with_reducible assumption
    | (extract_lets +onlyGivenNames x1; (fail_if_success have _f := fun a => x1 a); clear_value x1; revert x1; intro _)
    | with_reducible apply h1)

theorem State.lateAtCell_still {s0 : State} {s : State} {o : StOp} (h0 : Still s0 s) :
    Still s0 (State.lateAtCell s o) := by
  unfold State.lateAtCell
  repeat' (first
    | with_reducible assumption
    | (extract_lets +onlyGivenNames x1; (fail_if_success have _f := fun a => x1 a); clear_value x1; revert x1; intro _)
    | with_reducible apply State.setCell_still)

theorem State.lateAtCell_kept {s0 : State} {s : State} {o : StOp} (h0 : Kept s0 s) :
    Kept s0 (State.lateAtCell s o) :=
  h0.still (State.lateAtCell_still (Still.refl _))

theorem State.urdValue_still {s0 : State} {s : State} {comb : ℕ} {vals : List (ℕ × Word)} (h0 : Still s0 s) :
    Still s0 (State.urdValue s comb vals).2 := by
  unfold State.urdValue
  repeat' (first
    | with_reducible assumption | with_reducible apply State.free_still | split)

theorem State.urdValue_kept {s0 : State} {s : State} {comb : ℕ} {vals : List (ℕ × Word)} (h0 : Kept s0 s) :
    Kept s0 (State.urdValue s comb vals).2 :=
  h0.still (State.urdValue_still (Still.refl _))

theorem State.unitSend_still {s0 : State} {s : State} {c : ℕ} {leaf : Word} {read : Bool} {d : ℕ} {args : List ℕ}
    (h0 : Still s0 s) :
    Still s0 (State.unitSend s c leaf read d args) := by
  unfold State.unitSend
  repeat' (first
    | with_reducible assumption
    | (extract_lets +onlyGivenNames x1; have hx1 : Still s0 x1 := ?_; clear_value x1; revert x1; intro _ _; rotate_left; unfold x1; clear x1)
    | (extract_lets +onlyGivenNames x1; (fail_if_success have _f := fun a => x1 a); clear_value x1; revert x1; intro _)
    | with_reducible apply State.setCtx_still | with_reducible apply State.ctxRequest_still)

theorem State.unitSend_kept {s0 : State} {s : State} {c : ℕ} {leaf : Word} {read : Bool} {d : ℕ} {args : List ℕ}
    (h0 : Kept s0 s) :
    Kept s0 (State.unitSend s c leaf read d args) :=
  h0.still (State.unitSend_still (Still.refl _))

theorem State.stgWrite_still {s0 : State} {s : State} {q : Req} {a : ℕ} {v : Word} (h0 : Still s0 s) :
    Still s0 (State.stgWrite s q a v) := by
  unfold State.stgWrite
  repeat' (first
    | with_reducible assumption
    | (extract_lets +onlyGivenNames x1; have hx1 : Still s0 x1 := ?_; clear_value x1; revert x1; intro _ _; rotate_left; unfold x1; clear x1)
    | (extract_lets +onlyGivenNames x1; (fail_if_success have _f := fun a => x1 a); clear_value x1; revert x1; intro _)
    | with_reducible apply State.rsvd_still | with_reducible apply State.stage_still
    | with_reducible apply State.stageRej_still | split)

theorem State.stgWrite_kept {s0 : State} {s : State} {q : Req} {a : ℕ} {v : Word} (h0 : Kept s0 s) :
    Kept s0 (State.stgWrite s q a v) :=
  h0.still (State.stgWrite_still (Still.refl _))

theorem State.countLate_still {s0 : State} {s : State} {k : ℕ} {x : ℕ} (h0 : Still s0 s) :
    Still s0 (State.countLate s k x) := by
  unfold State.countLate
  repeat' (first
    | with_reducible assumption | with_reducible apply State.fltLate_still | with_reducible apply State.angLate_still
    | with_reducible apply State.cvgLate_still | with_reducible apply State.inc_still
    | with_reducible apply State.flag_still | with_reducible apply State.rgLate_still
    | with_reducible apply State.pinLate_still | split)

theorem State.countLate_kept {s0 : State} {s : State} {k : ℕ} {x : ℕ} (h0 : Kept s0 s) :
    Kept s0 (State.countLate s k x) :=
  h0.still (State.countLate_still (Still.refl _))

theorem State.handle_kept {s0 : State} {s : State} {c : ℕ} {y0 : ℕ} (h0 : Kept s0 s) :
    Kept s0 (State.handle s c y0).2 := by
  unfold State.handle
  repeat' (first
    | with_reducible assumption | with_reducible apply State.memWords_kept | split | dsimp only
    | with_reducible refine Kept.pair ?_ (by assumption))

theorem State.readUnits_still {s0 : State} {s : State} {q : Req} {off : ℕ} {l : List (ℕ × ℕ)} (h0 : Still s0 s) :
    Still s0 (State.readUnits s q off l).2 := by
  unfold State.readUnits
  repeat' (first
    | with_reducible assumption | intro _ | with_reducible apply State.keyRead_still | dsimp only
    | with_reducible apply Still.foldlPair)

theorem State.readUnits_kept {s0 : State} {s : State} {q : Req} {off : ℕ} {l : List (ℕ × ℕ)} (h0 : Kept s0 s) :
    Kept s0 (State.readUnits s q off l).2 :=
  h0.still (State.readUnits_still (Still.refl _))

theorem State.unitCmd_still {s0 s : State} {q : Req} {k x code arg : ℕ} {st : Option Stamp} {late : Bool}
    (h0 : Still s0 s) :
    Still s0 (State.unitCmd s q k x code arg st late) := by
  unfold State.unitCmd
  refine Still.getD ?_ h0
  split
  · exact State.cellUcmd_still h0
  · exact State.cvgUcmd_still h0
  · exact State.fltUcmd_still h0
  · split
    · exact Still.some (State.fireDrv_still h0)
    · exact State.drvUcmd_still h0
  · exact State.weirUcmd_still h0
  · exact State.angUcmd_still h0
  · exact State.rgUcmd_still h0
  · exact Still.none

theorem State.unitCmd_kept {s0 s : State} {q : Req} {k x code arg : ℕ} {st : Option Stamp} {late : Bool}
    (h0 : Kept s0 s) :
    Kept s0 (State.unitCmd s q k x code arg st late) :=
  h0.still (State.unitCmd_still (Still.refl _))

theorem State.perform_kept {s0 : State} {s : State} {o : StOp} {st : Option Stamp} {late : Bool} (h0 : Kept s0 s) :
    Kept s0 (State.perform s o st late) := by
  unfold State.perform
  repeat' (first
    | with_reducible assumption
    | (extract_lets +onlyGivenNames x1; have hx1 : Kept s0 x1 := ?_; clear_value x1; revert x1; intro _ _; rotate_left; unfold x1; clear x1)
    | (extract_lets +onlyGivenNames x1; (fail_if_success have _f := fun a => x1 a); clear_value x1; revert x1; intro _)
    | with_reducible apply State.unitCmd_kept | with_reducible apply State.txRelease_kept
    | with_reducible apply State.coefLoad_kept | with_reducible apply State.dacUpdate_kept
    | with_reducible apply State.stgWrite_kept | with_reducible apply State.digWrite_kept
    | with_reducible apply State.streamRelease_kept | with_reducible apply State.digCmd_kept
    | with_reducible apply State.busEffect_kept | with_reducible apply State.groupRelease_kept
    | with_reducible apply State.pinw_kept | with_reducible apply State.capTrigger_kept
    | with_reducible apply State.cellLoad_kept | with_reducible apply State.untilEnd_kept | split)

theorem State.lateNow_kept {s0 : State} {s : State} {u : ℕ} (h0 : Kept s0 s) :
    Kept s0 (State.lateNow s u) := by
  unfold State.lateNow
  repeat' (first
    | with_reducible assumption | intro _
    | (extract_lets +onlyGivenNames x1; (fail_if_success have _f := fun a => x1 a); clear_value x1; revert x1; intro _)
    | with_reducible apply State.setCell_kept | with_reducible apply State.perform_kept | split
    | with_reducible apply Kept.foldl)

theorem State.hand_kept {s0 : State} {s : State} {o : StOp} {stamped : Bool} (h0 : Kept s0 s) :
    Kept s0 (State.hand s o stamped) := by
  unfold State.hand
  repeat' (first
    | with_reducible assumption
    | (extract_lets +onlyGivenNames x1; have hx1 : Kept s0 x1 := ?_; clear_value x1; revert x1; intro _ _; rotate_left; unfold x1; clear x1)
    | (extract_lets +onlyGivenNames x1; (fail_if_success have _f := fun a => x1 a); clear_value x1; revert x1; intro _)
    | with_reducible apply State.enqueue_kept | with_reducible apply State.lateAtCell_kept
    | with_reducible apply State.inc_kept | with_reducible apply State.perform_kept
    | with_reducible apply State.tileWake_kept | with_reducible apply State.countLate_kept | split
    | (rw [State.lit_eq]; with_reducible refine Kept.mk' ?_ rfl))

theorem execDacUpdate_kept {s0 : State} {u : Fin 512} {s : State} (h0 : Kept s0 s) :
    NextAll (Kept s0) (execDacUpdate u s) := by
  unfold execDacUpdate
  repeat' (first
    | with_reducible assumption
    | (extract_lets +onlyGivenNames x1; have hx1 : Kept s0 x1 := ?_; clear_value x1; revert x1; intro _ _; rotate_left; unfold x1; clear x1)
    | with_reducible apply Kept.answers | with_reducible apply State.dacUpdate_kept
    | with_reducible apply State.lateNow_kept | split)

theorem State.deliverHeld_kept {s0 : State} {s : State} {t : ℕ} (h0 : Kept s0 s) :
    Kept s0 (State.deliverHeld s t) := by
  unfold State.deliverHeld
  repeat' (first
    | with_reducible assumption | intro _
    | (extract_lets +onlyGivenNames x1; have hx1 : Kept s0 x1 := ?_; clear_value x1; revert x1; intro _ _; rotate_left; unfold x1; clear x1)
    | (extract_lets +onlyGivenNames x1; (fail_if_success have _f := fun a => x1 a); clear_value x1; revert x1; intro _)
    | with_reducible apply State.hand_kept | with_reducible apply Kept.foldl
    | (rw [State.lit_eq]; with_reducible refine Kept.mk' ?_ rfl))

theorem unitFault_still {s0 : State} {s : State} {y0 : ℕ} {sub : ℕ} {u : Word} (h0 : Still s0 s) :
    Done.All (Still s0) (unitFault s y0 sub u) := by
  unfold unitFault
  repeat' (first
    | with_reducible assumption | with_reducible apply Done.still_raise)

theorem unitFault_kept {s0 : State} {s : State} {y0 : ℕ} {sub : ℕ} {u : Word} (h0 : Kept s0 s) :
    Done.All (Kept s0) (unitFault s y0 sub u) := by
  unfold unitFault
  repeat' (first
    | with_reducible assumption | with_reducible apply Done.kept_raise)

theorem onUnit_kept {s0 : State} {c : ℕ} {hv : Word} {far : FarReads} {right : ℕ} {kinds : List ℕ}
    {k : State → Handle → List Word → Done} {s : State}
    (h0 : ∀ a0 a1 a2, Kept s0 a0 → Done.All (Kept s0) (k a0 a1 a2)) (h1 : Kept s0 s) :
    Done.All (Kept s0) (onUnit c hv far right kinds k s) := by
  unfold onUnit
  repeat' (first
    | with_reducible assumption
    | (extract_lets +onlyGivenNames x1; (fail_if_success have _f := fun a => x1 a); clear_value x1; revert x1; intro _)
    | with_reducible apply Done.kept_wait | with_reducible apply State.cacheUse_kept
    | with_reducible apply State.handle_kept | with_reducible apply unitFault_kept | with_reducible apply h0 | split
    | with_reducible refine Kept.pair ?_ (by assumption))

theorem onUnitReg_kept {s0 : State} {c : ℕ} {y0 : ℕ} {kind : BitVec 4} {off : UOff} {far : FarReads} {right : ℕ}
    {k : ℕ → State → Handle → List Word → Done} {s : State}
    (h0 : ∀ a0 a1 a2 a3, Kept s0 a1 → Done.All (Kept s0) (k a0 a1 a2 a3)) (h1 : Kept s0 s) :
    Done.All (Kept s0) (onUnitReg c y0 kind off far right k s) := by
  unfold onUnitReg
  repeat' (first
    | with_reducible assumption | intro _
    | (extract_lets +onlyGivenNames x1; (fail_if_success have _f := fun a => x1 a); clear_value x1; revert x1; intro _)
    | with_reducible apply Done.kept_raise | with_reducible apply onUnit_kept | with_reducible apply h0 | split)

theorem State.urdLocal_still {s0 : State} {s : State} {q : Req} {kinds : List ℕ} {off : ℕ} {impl : List Word}
    (h0 : Still s0 s) :
    Still s0 (State.urdLocal s q kinds off impl).2 := by
  unfold State.urdLocal
  repeat' (first
    | with_reducible assumption | intro _ | with_reducible apply State.readUnits_still | split | dsimp only
    | with_reducible apply Still.foldlPair)

theorem State.urdLocal_kept {s0 : State} {s : State} {q : Req} {kinds : List ℕ} {off : ℕ} {impl : List Word}
    (h0 : Kept s0 s) :
    Kept s0 (State.urdLocal s q kinds off impl).2 :=
  h0.still (State.urdLocal_still (Still.refl _))

theorem urdAct_still {s0 : State} {c : ℕ} {rd : ℕ} {hreg : ℕ} {comb : ℕ} {kind : BitVec 4} {off : ℕ} {s : State}
    {_e : Handle} {impl : List Word} (h0 : Still s0 s) :
    Done.All (Still s0) (urdAct c rd hreg comb kind off s _e impl) := by
  unfold urdAct
  repeat' (first
    | with_reducible assumption | intro _
    | (extract_lets +onlyGivenNames x1; have hx1 : Still s0 x1 := ?_; clear_value x1; revert x1; intro _ _; rotate_left; unfold x1; clear x1)
    | (extract_lets +onlyGivenNames x1; (fail_if_success have _f := fun a => x1 a); clear_value x1; revert x1; intro _)
    | with_reducible apply Done.still_next | with_reducible apply Done.still_wait
    | with_reducible apply State.urdValue_still | with_reducible apply State.unitSend_still
    | with_reducible apply State.urdLocal_still | with_reducible apply State.tileWake_still
    | with_reducible apply State.setCtx_still | split | with_reducible apply Still.foldl
    | with_reducible refine Still.pair ?_ (by assumption))

theorem urdAct_kept {s0 : State} {c : ℕ} {rd : ℕ} {hreg : ℕ} {comb : ℕ} {kind : BitVec 4} {off : ℕ} {s : State}
    {_e : Handle} {impl : List Word} (h0 : Kept s0 s) :
    Done.All (Kept s0) (urdAct c rd hreg comb kind off s _e impl) := by
  unfold urdAct
  repeat' (first
    | with_reducible assumption | intro _
    | (extract_lets +onlyGivenNames x1; have hx1 : Kept s0 x1 := ?_; clear_value x1; revert x1; intro _ _; rotate_left; unfold x1; clear x1)
    | (extract_lets +onlyGivenNames x1; (fail_if_success have _f := fun a => x1 a); clear_value x1; revert x1; intro _)
    | with_reducible apply Done.kept_next | with_reducible apply Done.kept_wait
    | with_reducible apply State.urdValue_kept | with_reducible apply State.unitSend_kept
    | with_reducible apply State.urdLocal_kept | with_reducible apply State.tileWake_kept
    | with_reducible apply State.setCtx_kept | split | with_reducible apply Kept.foldl
    | with_reducible refine Kept.pair ?_ (by assumption))

theorem execArm_kept {s0 : State} {c : Fin 257} {ra : Fin 32} {s : State} (h0 : Kept s0 s) :
    NextAll (Kept s0) (execArm c ra s) := by
  unfold execArm
  repeat' (first
    | with_reducible assumption | intro _
    | (extract_lets +onlyGivenNames x1; have hx1 : Kept s0 x1 := ?_; clear_value x1; revert x1; intro _ _; rotate_left; unfold x1; clear x1)
    | (extract_lets +onlyGivenNames x1; (fail_if_success have _f := fun a => x1 a); clear_value x1; revert x1; intro _)
    | with_reducible apply Done.kept_next | with_reducible apply Done.kept_wait | with_reducible apply Done.kept_raise
    | with_reducible apply issued_kept | with_reducible apply State.setF_kept | with_reducible apply State.put_kept
    | with_reducible apply State.epCtlWrite_kept | split)

theorem execUrd_kept {s0 : State} {c : Fin 257} {rd : Fin 32} {y0 : Fin 32} {comb : BitVec 3} {kind : BitVec 4}
    {off : UOff} {far : FarReads} {s : State} (h0 : Kept s0 s) :
    NextAll (Kept s0) (execUrd c rd y0 comb kind off far s) := by
  unfold execUrd
  repeat' (first
    | with_reducible assumption | intro _ | with_reducible apply issued_kept | with_reducible apply urdAct_kept
    | with_reducible apply onUnitReg_kept)

theorem execEpcan_kept {s0 : State} {c : Fin 257} {s : State} (h0 : Kept s0 s) :
    NextAll (Kept s0) (execEpcan c s) := by
  unfold execEpcan
  repeat' (first
    | with_reducible assumption | intro _
    | (extract_lets +onlyGivenNames x1; (fail_if_success have _f := fun a => x1 a); clear_value x1; revert x1; intro _)
    | with_reducible apply Done.kept_next | with_reducible apply Done.kept_raise | with_reducible apply issued_kept
    | with_reducible apply State.epCtlWrite_kept | split)

theorem execPinr_kept {s0 : State} {c : Fin 257} {rd : Fin 32} {s : State} (h0 : Kept s0 s) :
    NextAll (Kept s0) (execPinr c rd s) := by
  unfold execPinr
  repeat' (first
    | with_reducible assumption | intro _ | with_reducible apply Done.kept_next | with_reducible apply issued_kept
    | with_reducible apply State.setCtx_kept)

theorem State.wloadWords_kept {s0 : State} {s : State} {c : ℕ} {a : ℕ} {n : ℕ} (h0 : Kept s0 s) :
    Kept s0 (State.wloadWords s c a n).2 := by
  unfold State.wloadWords
  repeat' (first
    | with_reducible assumption | intro _
    | (extract_lets +onlyGivenNames x1; have hx1 : Kept s0 x1 := ?_; clear_value x1; revert x1; intro _ _; rotate_left; unfold x1; clear x1)
    | (extract_lets +onlyGivenNames x1; (fail_if_success have _f := fun a => x1 a); clear_value x1; revert x1; intro _)
    | with_reducible apply State.ownFirst_kept | with_reducible apply State.memWords_kept | split | dsimp only
    | with_reducible apply Kept.foldlPair | with_reducible refine Kept.pair ?_ (by assumption))

theorem pinwF_kept {s0 : State} {c : ℕ} {ra : ℕ} {st : Option (Stamp × Qual)} {s : State} (h0 : Kept s0 s) :
    Done.All (Kept s0) (pinwF c ra st s) := by
  unfold pinwF
  repeat' (first
    | with_reducible assumption
    | (extract_lets +onlyGivenNames x1; (fail_if_success have _f := fun a => x1 a); clear_value x1; revert x1; intro _)
    | with_reducible apply Done.kept_next | with_reducible apply Done.kept_jump | with_reducible apply Done.kept_wait
    | with_reducible apply State.hand_kept | with_reducible apply State.pinw_kept | split)

theorem State.handAll_kept {s0 : State} {s : State} {l : List StOp} {stamped : Bool} (h0 : Kept s0 s) :
    Kept s0 (State.handAll s l stamped).2 := by
  unfold State.handAll
  repeat' (first
    | with_reducible assumption | intro _ | with_reducible apply State.hand_kept | with_reducible apply State.watched_kept
    | split | dsimp only | with_reducible apply Kept.foldlPair)

theorem execPinw_kept {s0 : State} {c : Fin 257} {ra : Fin 32} {s : State} (h0 : Kept s0 s) :
    NextAll (Kept s0) (execPinw c ra s) := by
  unfold execPinw
  repeat' (first
    | with_reducible assumption | intro _ | with_reducible apply issued_kept | with_reducible apply pinwF_kept)

theorem State.unitGo_kept {s0 : State} {s : State} {c : ℕ} {ops : List StOp} {sends : List (ℕ × List ℕ)} {leaf : Word}
    {rd : ℕ} {stamped : Bool} (h0 : Kept s0 s) :
    Kept s0 (State.unitGo s c ops sends leaf rd stamped) := by
  unfold State.unitGo
  repeat' (first
    | with_reducible assumption | intro _
    | (extract_lets +onlyGivenNames x1; have hx1 : Kept s0 x1 := ?_; clear_value x1; revert x1; intro _ _; rotate_left; unfold x1; clear x1)
    | with_reducible apply State.unitSend_kept | with_reducible apply State.handAll_kept
    | with_reducible apply State.setCtx_kept | with_reducible apply Kept.foldl)

theorem unitAct_kept {s0 : State} {c : ℕ} {rd : ℕ} {r : UnitReq} {st : Option (Stamp × Qual)} {s : State} {e : Handle}
    {impl : List Word} (h0 : Kept s0 s) :
    Done.All (Kept s0) (unitAct c rd r st s e impl) := by
  unfold unitAct
  repeat' (first
    | with_reducible assumption
    | (extract_lets +onlyGivenNames x1; (fail_if_success have _f := fun a => x1 a); clear_value x1; revert x1; intro _)
    | with_reducible apply Done.kept_next | with_reducible apply Done.kept_jump | with_reducible apply Done.kept_wait
    | with_reducible apply State.unitGo_kept | split)

theorem execWload_kept {s0 : State} {c : Fin 257} {n : Fin 32} {y0 : Fin 32} {addr : Fin 32} {far : FarReads}
    {s : State} (h0 : Kept s0 s) :
    NextAll (Kept s0) (execWload c n y0 addr far s) := by
  unfold execWload
  repeat' (first
    | with_reducible assumption | intro _
    | (extract_lets +onlyGivenNames x1; (fail_if_success have _f := fun a => x1 a); clear_value x1; revert x1; intro _)
    | with_reducible apply Done.kept_next | with_reducible apply Done.kept_wait | with_reducible apply Done.kept_raise
    | with_reducible apply issued_kept | with_reducible apply State.wloadWords_kept
    | with_reducible apply unitAct_kept | with_reducible apply onUnit_kept | split
    | with_reducible refine Kept.pair ?_ (by assumption))

theorem ucmdF_kept {s0 : State} {c : ℕ} {y0 : ℕ} {code : BitVec 4} {a : Byte} {far : FarReads}
    {st : Option (Stamp × Qual)} {s : State} (h0 : Kept s0 s) :
    Done.All (Kept s0) (ucmdF c y0 code a far st s) := by
  unfold ucmdF
  repeat' (first
    | with_reducible assumption | intro _
    | (extract_lets +onlyGivenNames x1; (fail_if_success have _f := fun a => x1 a); clear_value x1; revert x1; intro _)
    | with_reducible apply unitAct_kept | with_reducible apply onUnit_kept)

theorem ucmdRow_kept {s0 : State} {code : BitVec 4} {c : Fin 257} {y0 : Fin 32} {a : Byte} {far : FarReads}
    {s : State} (h0 : Kept s0 s) :
    NextAll (Kept s0) (ucmdRow code c y0 a far s) := by
  unfold ucmdRow
  repeat' (first
    | with_reducible assumption | intro _ | with_reducible apply issued_kept | with_reducible apply ucmdF_kept)

theorem execStg_kept {s0 : State} {c : Fin 257} {rd : Fin 32} {y0 : Fin 32} {v : Fin 32} {kind : BitVec 4}
    {off : UOff} {far : FarReads} {s : State} (h0 : Kept s0 s) :
    NextAll (Kept s0) (execStg c rd y0 v kind off far s) := by
  unfold execStg
  repeat' (first
    | with_reducible assumption | intro _
    | (extract_lets +onlyGivenNames x1; (fail_if_success have _f := fun a => x1 a); clear_value x1; revert x1; intro _)
    | with_reducible apply issued_kept | with_reducible apply unitAct_kept | with_reducible apply onUnitReg_kept)

theorem uwrF_kept {s0 : State} {c : ℕ} {rd : ℕ} {y0 : ℕ} {v : ℕ} {kind : BitVec 4} {off : UOff} {far : FarReads}
    {st : Option (Stamp × Qual)} {s : State} (h0 : Kept s0 s) :
    Done.All (Kept s0) (uwrF c rd y0 v kind off far st s) := by
  unfold uwrF
  repeat' (first
    | with_reducible assumption | intro _
    | (extract_lets +onlyGivenNames x1; (fail_if_success have _f := fun a => x1 a); clear_value x1; revert x1; intro _)
    | with_reducible apply unitAct_kept | with_reducible apply onUnitReg_kept)

theorem execStampQueueRoom_kept {s0 : State} {c : Fin 257} {s : State} (h0 : Kept s0 s) :
    NextAll (Kept s0) (execStampQueueRoom c s) := by
  unfold execStampQueueRoom
  repeat' (first
    | with_reducible assumption
    | (extract_lets +onlyGivenNames x1; have hx1 : Kept s0 x1 := ?_; clear_value x1; revert x1; intro _ _; rotate_left; unfold x1; clear x1)
    | (extract_lets +onlyGivenNames x1; (fail_if_success have _f := fun a => x1 a); clear_value x1; revert x1; intro _)
    | with_reducible apply Kept.answers | with_reducible apply State.resumeCtx_kept
    | with_reducible apply State.unitGo_kept | with_reducible apply State.setCtx_kept | split)

theorem execUcmdSafe_kept {s0 : State} {c : Fin 257} {y0 : Fin 32} {a : Byte} {far : FarReads} {s : State}
    (h0 : Kept s0 s) :
    NextAll (Kept s0) (execUcmdSafe c y0 a far s) := by
  unfold execUcmdSafe
  repeat' (first
    | with_reducible assumption | with_reducible apply ucmdRow_kept)

theorem execUcmdClear_kept {s0 : State} {c : Fin 257} {y0 : Fin 32} {a : Byte} {far : FarReads} {s : State}
    (h0 : Kept s0 s) :
    NextAll (Kept s0) (execUcmdClear c y0 a far s) := by
  unfold execUcmdClear
  repeat' (first
    | with_reducible assumption | with_reducible apply ucmdRow_kept)

theorem execUcmdFire_kept {s0 : State} {c : Fin 257} {y0 : Fin 32} {a : Byte} {far : FarReads} {s : State}
    (h0 : Kept s0 s) :
    NextAll (Kept s0) (execUcmdFire c y0 a far s) := by
  unfold execUcmdFire
  repeat' (first
    | with_reducible assumption | with_reducible apply ucmdRow_kept)

theorem stampedWord_kept {s0 : State} {c : ℕ} {w : Word} {far : FarReads} {st : Stamp × Qual} {s : State}
    (h0 : Kept s0 s) :
    Done.All (Kept s0) (stampedWord c w far st s) := by
  unfold stampedWord
  repeat' (first
    | with_reducible assumption
    | (extract_lets +onlyGivenNames x1; (fail_if_success have _f := fun a => x1 a); clear_value x1; revert x1; intro _)
    | with_reducible apply ucmdF_kept | with_reducible apply pinwF_kept | with_reducible apply uwrF_kept
    | with_reducible apply pushWords_kept | split)

theorem execUcmdTrig_kept {s0 : State} {c : Fin 257} {y0 : Fin 32} {a : Byte} {far : FarReads} {s : State}
    (h0 : Kept s0 s) :
    NextAll (Kept s0) (execUcmdTrig c y0 a far s) := by
  unfold execUcmdTrig
  repeat' (first
    | with_reducible assumption | with_reducible apply ucmdRow_kept)

theorem execUwr_kept {s0 : State} {c : Fin 257} {rd : Fin 32} {y0 : Fin 32} {v : Fin 32} {kind : BitVec 4}
    {off : UOff} {far : FarReads} {s : State} (h0 : Kept s0 s) :
    NextAll (Kept s0) (execUwr c rd y0 v kind off far s) := by
  unfold execUwr
  repeat' (first
    | with_reducible assumption | intro _ | with_reducible apply issued_kept | with_reducible apply uwrF_kept)

theorem execUcmdStart_kept {s0 : State} {c : Fin 257} {y0 : Fin 32} {a : Byte} {far : FarReads} {s : State}
    (h0 : Kept s0 s) :
    NextAll (Kept s0) (execUcmdStart c y0 a far s) := by
  unfold execUcmdStart
  repeat' (first
    | with_reducible assumption | with_reducible apply ucmdRow_kept)

theorem execUcmdEnable_kept {s0 : State} {c : Fin 257} {y0 : Fin 32} {a : Byte} {far : FarReads} {s : State}
    (h0 : Kept s0 s) :
    NextAll (Kept s0) (execUcmdEnable c y0 a far s) := by
  unfold execUcmdEnable
  repeat' (first
    | with_reducible assumption | with_reducible apply ucmdRow_kept)

theorem execUcmdStop_kept {s0 : State} {c : Fin 257} {y0 : Fin 32} {a : Byte} {far : FarReads} {s : State}
    (h0 : Kept s0 s) :
    NextAll (Kept s0) (execUcmdStop c y0 a far s) := by
  unfold execUcmdStop
  repeat' (first
    | with_reducible assumption | with_reducible apply ucmdRow_kept)

theorem execUcmdDisable_kept {s0 : State} {c : Fin 257} {y0 : Fin 32} {a : Byte} {far : FarReads} {s : State}
    (h0 : Kept s0 s) :
    NextAll (Kept s0) (execUcmdDisable c y0 a far s) := by
  unfold execUcmdDisable
  repeat' (first
    | with_reducible assumption | with_reducible apply ucmdRow_kept)

theorem execAtStamp_kept {s0 : State} {c : Fin 257} {ra : Fin 32} {q : BitVec 2} {w : Word} {far : FarReads}
    {s : State} (h0 : Kept s0 s) :
    NextAll (Kept s0) (execAtStamp c ra q w far s) := by
  unfold execAtStamp
  repeat' (first
    | with_reducible assumption | intro _
    | (extract_lets +onlyGivenNames x1; (fail_if_success have _f := fun a => x1 a); clear_value x1; revert x1; intro _)
    | with_reducible apply Done.kept_raise | with_reducible apply Done.kept_illegal | with_reducible apply issued_kept
    | with_reducible apply angleLate_kept | with_reducible apply stampedWord_kept
    | with_reducible apply State.fetch_kept | split | with_reducible refine Kept.pair ?_ (by assumption))

theorem State.streamWords_still {s0 s : State} {l : List (ℕ × Except ℕ (List Byte))} (h0 : Still s0 s) :
    Still s0 (State.streamWords s l).2.2 := by
  unfold State.streamWords
  suffices key : ∀ (l : List (ℕ × Except ℕ (List Byte))) (p : List Word × Bool × State), Still s0 p.2.2 →
      Still s0 (l.foldl (fun (x : List Word × Bool × State) (y : ℕ × Except ℕ (List Byte)) =>
        match y.2 with
        | .ok b => (x.1 ++ wordsOf b, x.2.1, x.2.2)
        | .error _ => (x.1 ++ (List.range (y.1 / 4)).map
            (fun k => setWordFlag (BitVec.ofNat 32 (x.2.2.free.1 / 2 ^ (32 * k))) 5), true, x.2.2.free.2)) p).2.2 from
    key l ([], false, s) h0
  intro l
  induction l with
  | nil => intro p h; exact h
  | cons y r ih =>
    intro p h
    obtain ⟨n, x⟩ := y
    refine ih _ ?_
    cases x with
    | ok b => exact h
    | error c => exact State.free_still h

theorem State.streamWords_kept {s0 s : State} {l : List (ℕ × Except ℕ (List Byte))} (h0 : Kept s0 s) :
    Kept s0 (State.streamWords s l).2.2 :=
  h0.still (State.streamWords_still (Still.refl _))

theorem State.burstAnswer_still {s0 : State} {s : State} {e : ℕ} {sub : ℕ} {bs : List Byte} (h0 : Still s0 s) :
    Still s0 (State.burstAnswer s e sub bs) := by
  unfold State.burstAnswer
  repeat' (first
    | with_reducible assumption
    | (extract_lets +onlyGivenNames x1; (fail_if_success have _f := fun a => x1 a); clear_value x1; revert x1; intro _)
    | with_reducible apply State.setDma_still | split)

theorem execDmaStreamRx_still {s0 : State} {p : Fin 64} {s : State} (h0 : Still s0 s) :
    NextAll (Still s0) (execDmaStreamRx p s) := by
  unfold execDmaStreamRx
  repeat' (first
    | with_reducible assumption | intro _ | with_reducible apply Still.answers | with_reducible apply State.setDma_still
    | with_reducible apply State.inc_still | with_reducible apply State.flag_still
    | with_reducible refine State.takeArrived_still ?_ (by assumption) | split | dsimp only
    | with_reducible apply Still.foldl)

theorem State.dmaEnd_kept {s0 : State} {s : State} {e : ℕ} {r : DmaRun} {status : ℕ} (h0 : Kept s0 s) :
    Kept s0 (State.dmaEnd s e r status) := by
  unfold State.dmaEnd
  repeat' (first
    | with_reducible assumption
    | (extract_lets +onlyGivenNames x1; have hx1 : Kept s0 x1 := ?_; clear_value x1; revert x1; intro _ _; rotate_left; unfold x1; clear x1)
    | (extract_lets +onlyGivenNames x1; (fail_if_success have _f := fun a => x1 a); clear_value x1; revert x1; intro _)
    | with_reducible apply State.occur_kept | with_reducible apply State.setDma_kept
    | with_reducible apply State.memWrite_kept | split)

theorem State.burstDone_kept {s0 : State} {s : State} {e : ℕ} {r : DmaRun} {n : ℕ} (h0 : Kept s0 s) :
    Kept s0 (State.burstDone s e r n) := by
  unfold State.burstDone
  repeat' (first
    | with_reducible assumption | with_reducible apply State.setDma_kept | with_reducible apply State.dmaEnd_kept | split
    | dsimp only)

theorem State.readPiece_kept {s0 : State} {s : State} {req : ℕ} {q : Req} {loc : Loc} {n : ℕ} (h0 : Kept s0 s) :
    Kept s0 (State.readPiece s req q loc n).2 := by
  unfold State.readPiece
  repeat' (first
    | with_reducible assumption
    | (extract_lets +onlyGivenNames x1; have hx1 : Kept s0 x1 := ?_; clear_value x1; revert x1; intro _ _; rotate_left; unfold x1; clear x1)
    | (extract_lets +onlyGivenNames x1; (fail_if_success have _f := fun a => x1 a); clear_value x1; revert x1; intro _)
    | with_reducible apply State.memRead_kept | with_reducible apply State.nvmBytes_kept
    | with_reducible apply State.busRead_kept | split | dsimp only
    | with_reducible refine Kept.pair ?_ (by assumption) | (rw [State.lit_eq]; with_reducible refine Kept.mk' ?_ rfl))

theorem State.readPieces_kept {s0 : State} {s : State} {req : ℕ} {q : Req} {loc : Loc} {n : ℕ} (h0 : Kept s0 s) :
    Kept s0 (State.readPieces s req q loc n).2 := by
  unfold State.readPieces
  repeat' (first
    | with_reducible assumption | intro _ | with_reducible apply State.readPiece_kept | dsimp only
    | with_reducible apply Kept.foldlPair)

theorem State.burstStream_kept {s0 : State} {s : State} {e : ℕ} {r : DmaRun} {l : List (ℕ × Except ℕ (List Byte))}
    {n : ℕ} (h0 : Kept s0 s) :
    Kept s0 (State.burstStream s e r l n) := by
  unfold State.burstStream
  repeat' (first
    | with_reducible assumption | with_reducible apply State.burstDone_kept | with_reducible apply State.offerAll_kept
    | with_reducible apply State.dmaEnd_kept | with_reducible apply State.streamWords_kept | split)

theorem State.readAt_kept {s0 : State} {s : State} {req : ℕ} {q : Req} {loc : Loc} {n : ℕ} (h0 : Kept s0 s) :
    Kept s0 (State.readAt s req q loc n).2 := by
  unfold State.readAt
  repeat' (first
    | with_reducible assumption | with_reducible apply State.readPieces_kept)

theorem execDmaDescStart_kept {s0 : State} {e : Fin 16} {s : State} (h0 : Kept s0 s) :
    NextAll (Kept s0) (execDmaDescStart e s) := by
  unfold execDmaDescStart
  repeat' (first
    | with_reducible assumption | intro _
    | (extract_lets +onlyGivenNames x1; (fail_if_success have _f := fun a => x1 a); clear_value x1; revert x1; intro _)
    | with_reducible apply Kept.answers | with_reducible apply State.setDma_kept
    | with_reducible apply State.dmaEnd_kept | with_reducible apply State.readPieces_kept
    | with_reducible apply State.tileWake_kept | split | dsimp only | with_reducible apply Kept.foldl
    | with_reducible refine Kept.pair ?_ (by assumption))

theorem State.writeRegs_kept {s0 : State} {s : State} {q : Req} {a : ℕ} {y0 : List Word} (h0 : Kept s0 s) :
    Kept s0 (State.writeRegs s q a y0).2 := by
  induction y0 generalizing s q a with
  | nil =>
    unfold State.writeRegs
    repeat' (first
      | with_reducible assumption)
  | cons _ _ ih =>
    unfold State.writeRegs
    repeat' (first
      | with_reducible assumption | with_reducible apply ih
      | (extract_lets +onlyGivenNames x1; have hx1 : Kept s0 x1 := ?_; clear_value x1; revert x1; intro _ _; rotate_left; unfold x1; clear x1)
      | (extract_lets +onlyGivenNames x1; (fail_if_success have _f := fun a => x1 a); clear_value x1; revert x1; intro _)
      | with_reducible apply State.busWrite_kept | split | (rw [State.lit_eq]; with_reducible refine Kept.mk' ?_ rfl))

theorem State.writeAt_kept {s0 s : State} {req : ℕ} {q : Req} {loc : Loc} {bs : List Byte} (h0 : Kept s0 s) :
    Kept s0 (State.writeAt s req q loc bs).2 := by
  unfold State.writeAt
  split
  · rename_i o
    have hw : Kept s0 (s.memWrite req o bs).2 := State.memWrite_kept h0
    generalize s.memWrite req o bs = p at hw
    obtain ⟨b, t⟩ := p
    cases b with
    | true => exact hw
    | false => exact ⟨hw.pending, fun c => h0.canon c⟩
  · exact h0
  · split
    · exact h0
    · exact State.writeRegs_kept h0
  · exact h0
  · exact h0

theorem State.burstWrite_kept {s0 : State} {s : State} {e : ℕ} {r : DmaRun} {bs : List Byte} (h0 : Kept s0 s) :
    Kept s0 (State.burstWrite s e r bs) := by
  unfold State.burstWrite
  repeat' (first
    | with_reducible assumption
    | (extract_lets +onlyGivenNames x1; have hx1 : Kept s0 x1 := ?_; clear_value x1; revert x1; intro _ _; rotate_left; unfold x1; clear x1)
    | (extract_lets +onlyGivenNames x1; (fail_if_success have _f := fun a => x1 a); clear_value x1; revert x1; intro _)
    | with_reducible apply State.burstDone_kept | with_reducible apply State.setDma_kept
    | with_reducible apply State.dmaEnd_kept | with_reducible apply State.writeAt_kept
    | with_reducible apply State.request_kept | split | with_reducible refine Kept.pair ?_ (by assumption))

theorem State.burstRead_kept {s0 : State} {s : State} {e : ℕ} {r : DmaRun} {n : ℕ}
    {l : List (ℕ × Except ℕ (List Byte))} (h0 : Kept s0 s) :
    Kept s0 (State.burstRead s e r n l) := by
  unfold State.burstRead
  repeat' (first
    | with_reducible assumption | with_reducible apply State.dmaEnd_kept | with_reducible apply State.burstWrite_kept
    | with_reducible apply State.burstStream_kept | split)

theorem State.burstRun_kept {s0 : State} {s : State} {e : ℕ} {r : DmaRun} {n : ℕ} (h0 : Kept s0 s) :
    Kept s0 (State.burstRun s e r n) := by
  unfold State.burstRun
  repeat' (first
    | with_reducible assumption
    | (extract_lets +onlyGivenNames x1; have hx1 : Kept s0 x1 := ?_; clear_value x1; revert x1; intro _ _; rotate_left; unfold x1; clear x1)
    | (extract_lets +onlyGivenNames x1; have hx1 : Kept s0 x1.2 := ?_; clear_value x1; revert x1; intro _ _; rotate_left; unfold x1; clear x1)
    | (extract_lets +onlyGivenNames x1; (fail_if_success have _f := fun a => x1 a); clear_value x1; revert x1; intro _)
    | with_reducible apply State.burstRead_kept | with_reducible apply State.setDma_kept
    | with_reducible apply State.dmaEnd_kept | with_reducible apply State.burstWrite_kept
    | with_reducible apply State.readPieces_kept | with_reducible apply State.request_kept | split)

theorem execDmaBurstDone_kept {s0 : State} {e : Fin 16} {s : State} (h0 : Kept s0 s) :
    NextAll (Kept s0) (execDmaBurstDone e s) := by
  unfold execDmaBurstDone
  repeat' (first
    | with_reducible assumption | intro _
    | (extract_lets +onlyGivenNames x1; have hx1 : Kept s0 x1 := ?_; clear_value x1; revert x1; intro _ _; rotate_left; unfold x1; clear x1)
    | (extract_lets +onlyGivenNames x1; (fail_if_success have _f := fun a => x1 a); clear_value x1; revert x1; intro _)
    | with_reducible apply Kept.answers | with_reducible apply State.burstDone_kept
    | with_reducible apply State.setDma_kept | with_reducible apply State.dmaEnd_kept
    | with_reducible apply State.burstRun_kept | with_reducible apply State.tileWake_kept | split
    | with_reducible apply Kept.foldl | (rw [State.lit_eq]; with_reducible refine Kept.mk' ?_ rfl))

theorem State.xferSend_still {s0 : State} {s : State} {m : XferMsg} (h0 : Still s0 s) :
    Still s0 (State.xferSend s m) := by
  unfold State.xferSend
  repeat' (first
    | with_reducible assumption | with_reducible apply State.send_still)

theorem State.jnlEntry_still {s0 : State} {s : State} {pos : ℕ} (h0 : Still s0 s) :
    Still s0 (State.jnlEntry s pos).2 := by
  unfold State.jnlEntry
  repeat' (first
    | with_reducible assumption | with_reducible apply State.nvmRead_still | split | dsimp only
    | with_reducible refine Still.pair ?_ (by assumption))

theorem State.entrySend_still {s0 : State} {s : State} {pos : ℕ} (h0 : Still s0 s) :
    Still s0 (State.entrySend s pos) := by
  unfold State.entrySend
  repeat' (first
    | with_reducible assumption | with_reducible apply State.freeBytes_still | with_reducible apply State.jnlEntry_still
    | with_reducible apply State.xferSend_still)

theorem State.lineEnd_still {s0 : State} {s : State} {u : NvmUse} {ok : Bool} (h0 : Still s0 s) :
    Still s0 (State.lineEnd s u ok) := by
  unfold State.lineEnd
  repeat' (first
    | with_reducible assumption
    | (extract_lets +onlyGivenNames x1; have hx1 : Still s0 x1 := ?_; clear_value x1; revert x1; intro _ _; rotate_left; unfold x1; clear x1)
    | with_reducible apply State.keyEnd_still | with_reducible apply State.nvmCmdEnd_still
    | with_reducible apply State.entrySend_still | with_reducible apply State.calLine_still
    | with_reducible apply State.jnlLineEnd_still | with_reducible apply State.partnerSend_still
    | with_reducible apply State.bankEnd_still | with_reducible apply State.retEnd_still | split)

theorem State.lineLost_still {s0 : State} {s : State} {u : NvmUse} (h0 : Still s0 s) :
    Still s0 (State.lineLost s u) := by
  unfold State.lineLost
  repeat' (first
    | with_reducible assumption | with_reducible apply State.nvmCmdEnd_still | with_reducible apply State.lineEnd_still
    | split)

theorem State.halfFail_still {s0 : State} {s : State} {y0 : ℕ} (h0 : Still s0 s) :
    Still s0 (State.halfFail s y0) := by
  unfold State.halfFail
  repeat' (first
    | with_reducible assumption | intro _
    | (extract_lets +onlyGivenNames x1; have hx1 : Still s0 x1 := ?_; clear_value x1; revert x1; intro _ _; rotate_left; unfold x1; clear x1)
    | (extract_lets +onlyGivenNames x1; have _m : Mem := x1; clear _m; unfold x1; clear x1)
    | (extract_lets +onlyGivenNames x1; (fail_if_success have _f := fun a => x1 a); clear_value x1; revert x1; intro _)
    | with_reducible apply State.deviceCheck_still | with_reducible apply State.lineLost_still
    | with_reducible apply State.free_still | with_reducible apply State.flag_still
    | with_reducible apply State.twinDrop_still | split | with_reducible apply Still.foldl
    | with_reducible refine Still.pair ?_ (by assumption)
    | (rw [State.lit_eq]; with_reducible refine Still.mk' ?_ rfl))

theorem execNvmLineDurable_still {s0 : State} {y0 : Fin 2} {ok : Bool} {s : State} (h0 : Still s0 s) :
    NextAll (Still s0) (execNvmLineDurable y0 ok s) := by
  unfold execNvmLineDurable
  repeat' (first
    | with_reducible assumption | (extract_lets +onlyGivenNames x1; have _m : Mem := x1; clear _m; unfold x1; clear x1)
    | with_reducible apply Still.answers | with_reducible apply State.halfFail_still
    | with_reducible apply State.lineEnd_still | with_reducible apply State.nvmStore_still | split | dsimp only
    | (rw [State.lit_eq]; with_reducible refine Still.mk' ?_ rfl))

theorem execNvmHalfFail_still {s0 : State} {y0 : Fin 2} {s : State} (h0 : Still s0 s) :
    NextAll (Still s0) (execNvmHalfFail y0 s) := by
  unfold execNvmHalfFail
  repeat' (first
    | with_reducible assumption | with_reducible apply Still.answers | with_reducible apply State.halfFail_still)

end Sys2Proof.Machine
end

