-- ==== Sys2Proof/Laws/FrameBoot.lean ====
section
/-! SUPPORT. What each function of Machine/BootLoad.lean, Machine/HostQueue.lean leaves alone: `Still`, the queue of commands and
every byte of memory; `Kept`, the queue, and the canonical form of memory. -/

set_option linter.unreachableTactic false
set_option linter.unusedTactic false
set_option linter.unusedVariables false
set_option linter.tactic.unusedName false

namespace Sys2Proof.Machine

theorem State.syncCheck_still {s0 : State} {s : State} (h0 : Still s0 s) :
    Still s0 (State.syncCheck s) := by
  unfold State.syncCheck
  repeat' (first
    | with_reducible assumption
    | (extract_lets +onlyGivenNames x1; (fail_if_success have _f := fun a => x1 a); clear_value x1; revert x1; intro _)
    | split | (rw [State.lit_eq]; with_reducible refine Still.mk' ?_ rfl))

theorem State.syncCheck_kept {s0 : State} {s : State} (h0 : Kept s0 s) :
    Kept s0 (State.syncCheck s) :=
  h0.still (State.syncCheck_still (Still.refl _))

theorem State.discard_kept {s0 s : State} (h0 : Kept s0 s) : Kept s0 (State.discard s) := by
  unfold State.discard
  extract_lets keep s1 s2
  have h1 : Kept s0 s1 := by
    refine Kept.foldl (fun t x h => ?_) h0
    split
    · exact State.put_kept h
    · exact h
  clear_value s1
  exact ⟨h1.pending, fun c => Memory.wf_filter _ _ (h1.canon c)⟩

theorem State.ebmSect_still {s0 : State} {s : State} {y0 : ℕ} {y1 : List Byte} (h0 : Still s0 s) :
    Still s0 (State.ebmSect s y0 y1).2 := by
  induction y0 generalizing s y1 with
  | zero =>
    unfold State.ebmSect
    repeat' (first
      | with_reducible assumption)
  | succ _ ih =>
    unfold State.ebmSect
    repeat' (first
      | with_reducible assumption | with_reducible apply ih
      | (extract_lets +onlyGivenNames x1; (fail_if_success have _f := fun a => x1 a); clear_value x1; revert x1; intro _)
      | split | (rw [State.lit_eq]; with_reducible refine Still.mk' ?_ rfl))

theorem State.ebmSect_kept {s0 : State} {s : State} {y0 : ℕ} {y1 : List Byte} (h0 : Kept s0 s) :
    Kept s0 (State.ebmSect s y0 y1).2 :=
  h0.still (State.ebmSect_still (Still.refl _))

theorem State.setBoot_still {s0 : State} {s : State} {x : ℕ} (h0 : Still s0 s) :
    Still s0 (State.setBoot s x) := by
  unfold State.setBoot
  repeat' (first
    | with_reducible assumption | with_reducible apply State.setF_still)

theorem State.setBoot_kept {s0 : State} {s : State} {x : ℕ} (h0 : Kept s0 s) :
    Kept s0 (State.setBoot s x) :=
  h0.still (State.setBoot_still (Still.refl _))

theorem State.showCause_still {s0 : State} {s : State} {c : ℕ} (h0 : Still s0 s) :
    Still s0 (State.showCause s c) := by
  unfold State.showCause
  repeat' (first
    | with_reducible assumption | with_reducible apply State.setF_still)

theorem State.showCause_kept {s0 : State} {s : State} {c : ℕ} (h0 : Kept s0 s) :
    Kept s0 (State.showCause s c) :=
  h0.still (State.showCause_still (Still.refl _))

theorem execLateLoad_still {s0 : State} {waiting : List (Fin 512)} {s : State} (h0 : Still s0 s) :
    NextAll (Still s0) (execLateLoad waiting s) := by
  unfold execLateLoad
  repeat' (first
    | with_reducible assumption
    | (extract_lets +onlyGivenNames x1; have hx1 : Still s0 x1 := ?_; clear_value x1; revert x1; intro _ _; rotate_left; unfold x1; clear x1)
    | (extract_lets +onlyGivenNames x1; (fail_if_success have _f := fun a => x1 a); clear_value x1; revert x1; intro _)
    | with_reducible apply Still.answers | with_reducible apply State.put_still | split
    | (rw [State.lit_eq]; with_reducible refine Still.mk' ?_ rfl))

theorem State.bootAttempt_still {s0 : State} {s : State} {oxbow : Bool} {late : Bool} (h0 : Still s0 s) :
    Still s0 (State.bootAttempt s oxbow late) := by
  unfold State.bootAttempt
  repeat' (first
    | with_reducible assumption
    | (extract_lets +onlyGivenNames x1; (fail_if_success have _f := fun a => x1 a); clear_value x1; revert x1; intro _)
    | with_reducible apply State.setBoot_still | (rw [State.lit_eq]; with_reducible refine Still.mk' ?_ rfl))

theorem State.toOxbow_still {s0 : State} {s : State} (h0 : Still s0 s) :
    Still s0 (State.toOxbow s) := by
  unfold State.toOxbow
  repeat' (first
    | with_reducible assumption
    | (extract_lets +onlyGivenNames x1; (fail_if_success have _f := fun a => x1 a); clear_value x1; revert x1; intro _)
    | with_reducible apply State.setBoot_still | (rw [State.lit_eq]; with_reducible refine Still.mk' ?_ rfl))

theorem State.toOxbow_kept {s0 : State} {s : State} (h0 : Kept s0 s) :
    Kept s0 (State.toOxbow s) :=
  h0.still (State.toOxbow_still (Still.refl _))

theorem State.bootSend_still {s0 : State} {s : State} {dst : ℕ} {l : List ℕ} (h0 : Still s0 s) :
    Still s0 (State.bootSend s dst l) := by
  unfold State.bootSend
  repeat' (first
    | with_reducible assumption | with_reducible apply State.chainSend_still)

theorem State.bootSend_kept {s0 : State} {s : State} {dst : ℕ} {l : List ℕ} (h0 : Kept s0 s) :
    Kept s0 (State.bootSend s dst l) :=
  h0.still (State.bootSend_still (Still.refl _))

theorem State.bootFailed_still {s0 : State} {s : State} (h0 : Still s0 s) :
    Still s0 (State.bootFailed s) := by
  unfold State.bootFailed
  repeat' (first
    | with_reducible assumption | with_reducible apply State.setF_still | with_reducible apply State.setBoot_still)

theorem State.bootFailed_kept {s0 : State} {s : State} (h0 : Kept s0 s) :
    Kept s0 (State.bootFailed s) :=
  h0.still (State.bootFailed_still (Still.refl _))

theorem State.lgcSect_still {s0 : State} {s : State} {y0 : ℕ} {y1 : ℕ} {y2 : List Byte} (h0 : Still s0 s) :
    Still s0 (State.lgcSect s y0 y1 y2).2 := by
  induction y0 generalizing s y1 y2 with
  | zero =>
    unfold State.lgcSect
    repeat' (first
      | with_reducible assumption)
  | succ _ ih =>
    unfold State.lgcSect
    repeat' (first
      | with_reducible assumption | with_reducible apply ih | with_reducible apply State.rgLoad_still
      | with_reducible apply State.setRgState_still | split)

theorem State.lgcSect_kept {s0 : State} {s : State} {y0 : ℕ} {y1 : ℕ} {y2 : List Byte} (h0 : Kept s0 s) :
    Kept s0 (State.lgcSect s y0 y1 y2).2 :=
  h0.still (State.lgcSect_still (Still.refl _))

theorem State.bootStop_still {s0 : State} {s : State} {c : ℕ} (h0 : Still s0 s) :
    Still s0 (State.bootStop s c) := by
  unfold State.bootStop
  repeat' (first
    | with_reducible assumption
    | (extract_lets +onlyGivenNames x1; (fail_if_success have _f := fun a => x1 a); clear_value x1; revert x1; intro _)
    | with_reducible apply State.showCause_still | split | (rw [State.lit_eq]; with_reducible refine Still.mk' ?_ rfl))

theorem State.bootStop_kept {s0 : State} {s : State} {c : ℕ} (h0 : Kept s0 s) :
    Kept s0 (State.bootStop s c) :=
  h0.still (State.bootStop_still (Still.refl _))

theorem State.bootAnswer_still {s0 : State} {s : State} {oxbow : Bool} {late : Bool} (h0 : Still s0 s) :
    Still s0 (State.bootAnswer s oxbow late) := by
  unfold State.bootAnswer
  repeat' (first
    | with_reducible assumption
    | (extract_lets +onlyGivenNames x1; (fail_if_success have _f := fun a => x1 a); clear_value x1; revert x1; intro _)
    | with_reducible apply State.bootAttempt_still | with_reducible apply State.bootSend_still | split
    | (rw [State.lit_eq]; with_reducible refine Still.mk' ?_ rfl))

theorem State.bootAnswer_kept {s0 : State} {s : State} {oxbow : Bool} {late : Bool} (h0 : Kept s0 s) :
    Kept s0 (State.bootAnswer s oxbow late) :=
  h0.still (State.bootAnswer_still (Still.refl _))

theorem State.bootReport_still {s0 : State} {s : State} {last : Bool} {c : ℕ} (h0 : Still s0 s) :
    Still s0 (State.bootReport s last c) := by
  unfold State.bootReport
  repeat' (first
    | with_reducible assumption
    | (extract_lets +onlyGivenNames x1; (fail_if_success have _f := fun a => x1 a); clear_value x1; revert x1; intro _)
    | with_reducible apply State.bootSend_still | split | (rw [State.lit_eq]; with_reducible refine Still.mk' ?_ rfl))

theorem State.bootReport_kept {s0 : State} {s : State} {last : Bool} {c : ℕ} (h0 : Kept s0 s) :
    Kept s0 (State.bootReport s last c) :=
  h0.still (State.bootReport_still (Still.refl _))

theorem State.bootLink_kept {s0 : State} {s : State} (h0 : Kept s0 s) :
    Kept s0 (State.bootLink s) := by
  unfold State.bootLink
  repeat' (first
    | with_reducible assumption
    | (extract_lets +onlyGivenNames x1; have hx1 : Kept s0 x1 := ?_; clear_value x1; revert x1; intro _ _; rotate_left; unfold x1; clear x1)
    | (extract_lets +onlyGivenNames x1; (fail_if_success have _f := fun a => x1 a); clear_value x1; revert x1; intro _)
    | with_reducible apply State.bootReport_kept | with_reducible apply State.showCause_kept
    | with_reducible apply State.discard_kept | with_reducible apply State.setBoot_kept
    | (rw [State.lit_eq]; with_reducible refine Kept.mk' ?_ rfl))

theorem State.headSeen_still {s0 : State} {s : State} (h0 : Still s0 s) :
    Still s0 (State.headSeen s) := by
  unfold State.headSeen
  repeat' (first
    | with_reducible assumption
    | (extract_lets +onlyGivenNames x1; (fail_if_success have _f := fun a => x1 a); clear_value x1; revert x1; intro _)
    | with_reducible apply State.bootReport_still | with_reducible apply State.bootStop_still | split
    | (rw [State.lit_eq]; with_reducible refine Still.mk' ?_ rfl))

theorem State.headSeen_kept {s0 : State} {s : State} (h0 : Kept s0 s) :
    Kept s0 (State.headSeen s) :=
  h0.still (State.headSeen_still (Still.refl _))

theorem State.bootAborted_still {s0 : State} {s : State} (h0 : Still s0 s) :
    Still s0 (State.bootAborted s) := by
  unfold State.bootAborted
  repeat' (first
    | with_reducible assumption
    | (extract_lets +onlyGivenNames x1; have hx1 : Still s0 x1 := ?_; clear_value x1; revert x1; intro _ _; rotate_left; unfold x1; clear x1)
    | (extract_lets +onlyGivenNames x1; (fail_if_success have _f := fun a => x1 a); clear_value x1; revert x1; intro _)
    | with_reducible apply State.bootStop_still | with_reducible apply State.setBoot_still
    | with_reducible apply State.bootFailed_still | split
    | (rw [State.lit_eq]; with_reducible refine Still.mk' ?_ rfl))

theorem State.lateEnd_still {s0 : State} {s : State} {r : ℕ} (h0 : Still s0 s) :
    Still s0 (State.lateEnd s r) := by
  unfold State.lateEnd
  repeat' (first
    | with_reducible assumption
    | (extract_lets +onlyGivenNames x1; have hx1 : Still s0 x1 := ?_; clear_value x1; revert x1; intro _ _; rotate_left; unfold x1; clear x1)
    | (extract_lets +onlyGivenNames x1; (fail_if_success have _f := fun a => x1 a); clear_value x1; revert x1; intro _)
    | with_reducible apply State.occur_still | with_reducible apply State.setF_still
    | with_reducible apply State.bootSend_still | split | (rw [State.lit_eq]; with_reducible refine Still.mk' ?_ rfl))

theorem State.lateEnd_kept {s0 : State} {s : State} {r : ℕ} (h0 : Kept s0 s) :
    Kept s0 (State.lateEnd s r) :=
  h0.still (State.lateEnd_still (Still.refl _))

theorem execBootLinkTimeout_kept {s0 : State} {s : State} (h0 : Kept s0 s) :
    NextAll (Kept s0) (execBootLinkTimeout s) := by
  unfold execBootLinkTimeout
  repeat' (first
    | with_reducible assumption | with_reducible apply Kept.answers | with_reducible apply State.bootLink_kept | split)

theorem State.lateReport_still {s0 : State} {s : State} {c : ℕ} (h0 : Still s0 s) :
    Still s0 (State.lateReport s c) := by
  unfold State.lateReport
  repeat' (first
    | with_reducible assumption
    | (extract_lets +onlyGivenNames x1; (fail_if_success have _f := fun a => x1 a); clear_value x1; revert x1; intro _)
    | with_reducible apply State.lateEnd_still | with_reducible apply State.bootSend_still | split
    | (rw [State.lit_eq]; with_reducible refine Still.mk' ?_ rfl))

theorem State.lateReport_kept {s0 : State} {s : State} {c : ℕ} (h0 : Kept s0 s) :
    Kept s0 (State.lateReport s c) :=
  h0.still (State.lateReport_still (Still.refl _))

theorem execBootStart_still {s0 : State} {rx : Rx} {oxbow : Bool} {late : Bool} {s : State} (h0 : Still s0 s) :
    NextAll (Still s0) (execBootStart rx oxbow late s) := by
  unfold execBootStart
  repeat' (first
    | with_reducible assumption | intro _ | with_reducible apply Still.answers | with_reducible apply State.packet_still
    | with_reducible apply State.bootAnswer_still | split)

theorem execBootAbort_still {s0 : State} {rx : Rx} {s : State} (h0 : Still s0 s) :
    NextAll (Still s0) (execBootAbort rx s) := by
  unfold execBootAbort
  repeat' (first
    | with_reducible assumption | intro _ | with_reducible apply Still.answers | with_reducible apply State.packet_still
    | with_reducible apply State.bootAborted_still | split)

theorem State.trainDdr_still {s0 : State} {s : State} (h0 : Still s0 s) :
    Still s0 (State.trainDdr s) := by
  unfold State.trainDdr
  repeat' (first
    | with_reducible assumption | intro _ | with_reducible apply State.wakeAdd_still | dsimp only
    | with_reducible apply Still.foldl | (rw [State.lit_eq]; with_reducible refine Still.mk' ?_ rfl))

theorem State.trainDdr_kept {s0 : State} {s : State} (h0 : Kept s0 s) :
    Kept s0 (State.trainDdr s) :=
  h0.still (State.trainDdr_still (Still.refl _))

theorem execBootSectionReport_still {s0 : State} {rx : Rx} {dev : Fin 512} {cause : BitVec 4} {s : State}
    (h0 : Still s0 s) :
    NextAll (Still s0) (execBootSectionReport rx dev cause s) := by
  unfold execBootSectionReport
  repeat' (first
    | with_reducible assumption | intro _
    | (extract_lets +onlyGivenNames x1; (fail_if_success have _f := fun a => x1 a); clear_value x1; revert x1; intro _)
    | with_reducible apply Still.answers | with_reducible apply State.packet_still
    | with_reducible apply State.syncCheck_still | with_reducible apply State.lateReport_still | split
    | (rw [State.lit_eq]; with_reducible refine Still.mk' ?_ rfl))

theorem State.identity_still {s0 : State} {s : State} {l : List Word} {y0 : List Word} (h0 : Still s0 s) :
    Still s0 (State.identity s l y0) := by
  unfold State.identity
  have h4 := fun a b c d e f g k => State.setF_still (a := BOOT_KEYSTAT) (f := BOOT_KEYSTAT_HASHSET) (x := a)
    (State.setF_still (a := BOOT_KEYSTAT) (f := BOOT_KEYSTAT_DLOCK) (x := b) (State.setF_still (a := BOOT_KEYSTAT)
      (f := BOOT_KEYSTAT_KLOCK) (x := c) (State.put_still (a := BOOT_OXBOW) (v := d) (State.setF_still (a := LEAT_CFG)
        (f := LEAT_CFG_FIXIDX) (x := e) (State.setF_still (a := LEAT_CFG) (f := LEAT_CFG_FIX) (x := f)
          (State.put_still (a := SYS_UID_HI) (v := g) (State.put_still (a := SYS_UID_LO) (v := k) h0)))))))
  have h5 : ∀ t b, Still s0 t → Still s0 (State.setBoot { t with boot := b }.calFind 1) := fun t b h =>
    State.setBoot_still (State.calFind_still ⟨h.pending, h.bytes⟩)
  exact Still.ite (State.setF_still (h5 _ _ (h4 _ _ _ _ _ _ _ _))) (h5 _ _ (h4 _ _ _ _ _ _ _ _))

theorem execIdentityReadDone_still {s0 : State} {s : State} (h0 : Still s0 s) :
    NextAll (Still s0) (execIdentityReadDone s) := by
  unfold execIdentityReadDone
  repeat' (first
    | with_reducible assumption
    | (extract_lets +onlyGivenNames x1; have hx1 : Still s0 x1.2 := ?_; clear_value x1; revert x1; intro _ _; rotate_left; unfold x1; clear x1)
    | with_reducible apply Still.answers | with_reducible apply State.keyLine_still
    | with_reducible apply State.identity_still | split)

theorem State.memSect_kept {s0 : State} {s : State} {a : ℕ} {l : List Byte} (h0 : Kept s0 s) :
    Kept s0 (State.memSect s a l).2 := by
  unfold State.memSect
  repeat' (first
    | with_reducible assumption | with_reducible apply State.memWrite_kept | split)

theorem State.bootRun_still {s0 : State} {s : State} (h0 : Still s0 s) :
    Still s0 (State.bootRun s) := by
  unfold State.bootRun
  repeat' (first
    | with_reducible assumption
    | (extract_lets +onlyGivenNames x1; have hx1 : Still s0 x1 := ?_; clear_value x1; revert x1; intro _ _; rotate_left; unfold x1; clear x1)
    | (extract_lets +onlyGivenNames x1; (fail_if_success have _f := fun a => x1 a); clear_value x1; revert x1; intro _)
    | with_reducible apply State.announce_still | with_reducible apply State.setF_still
    | with_reducible apply State.sluiceGo_still | with_reducible apply State.put_still
    | with_reducible apply State.supStart_still | with_reducible apply State.setMstate_still | split
    | (rw [State.lit_eq]; with_reducible refine Still.mk' ?_ rfl))

theorem State.bootGo_still {s0 : State} {s : State} {mask : List ℕ} (h0 : Still s0 s) :
    Still s0 (State.bootGo s mask) := by
  unfold State.bootGo
  repeat' (first
    | with_reducible assumption | with_reducible apply State.bootRun_still | with_reducible apply State.setBoot_still
    | with_reducible apply State.bootFailed_still | split)

theorem execBootGo_still {s0 : State} {rx : Rx} {mask : List (Fin 512)} {s : State} (h0 : Still s0 s) :
    NextAll (Still s0) (execBootGo rx mask s) := by
  unfold execBootGo
  repeat' (first
    | with_reducible assumption | intro _ | with_reducible apply Still.answers | with_reducible apply State.bootGo_still
    | with_reducible apply State.packet_still | split)

theorem State.bootDecide_still {s0 : State} {s : State} (h0 : Still s0 s) :
    Still s0 (State.bootDecide s) := by
  unfold State.bootDecide
  repeat' (first
    | with_reducible assumption
    | (extract_lets +onlyGivenNames x1; (fail_if_success have _f := fun a => x1 a); clear_value x1; revert x1; intro _)
    | with_reducible apply State.bootGo_still | with_reducible apply State.toOxbow_still
    | with_reducible apply State.bootStop_still | with_reducible apply State.bootSend_still
    | with_reducible apply State.bootFailed_still | split)

theorem State.bootDecide_kept {s0 : State} {s : State} (h0 : Kept s0 s) :
    Kept s0 (State.bootDecide s) :=
  h0.still (State.bootDecide_still (Still.refl _))

theorem execBootSyncTimeout_still {s0 : State} {s : State} (h0 : Still s0 s) :
    NextAll (Still s0) (execBootSyncTimeout s) := by
  unfold execBootSyncTimeout
  repeat' (first
    | with_reducible assumption
    | (extract_lets +onlyGivenNames x1; (fail_if_success have _f := fun a => x1 a); clear_value x1; revert x1; intro _)
    | with_reducible apply Still.answers | with_reducible apply State.syncCheck_still
    | with_reducible apply State.bootDecide_still | with_reducible apply State.lateReport_still | split
    | (rw [State.lit_eq]; with_reducible refine Still.mk' ?_ rfl))

theorem State.verifyCheck_still {s0 : State} {s : State} (h0 : Still s0 s) :
    Still s0 (State.verifyCheck s) := by
  unfold State.verifyCheck
  repeat' (first
    | with_reducible assumption | with_reducible apply State.bootDecide_still | split)

theorem State.verifyCheck_kept {s0 : State} {s : State} (h0 : Kept s0 s) :
    Kept s0 (State.verifyCheck s) :=
  h0.still (State.verifyCheck_still (Still.refl _))

theorem execSignatureCheckDone_still {s0 : State} {s : State} (h0 : Still s0 s) :
    NextAll (Still s0) (execSignatureCheckDone s) := by
  unfold execSignatureCheckDone
  repeat' (first
    | with_reducible assumption
    | (extract_lets +onlyGivenNames x1; (fail_if_success have _f := fun a => x1 a); clear_value x1; revert x1; intro _)
    | with_reducible apply Still.answers | with_reducible apply State.verifyCheck_still
    | with_reducible apply State.bootReport_still | with_reducible apply State.bootStop_still | split
    | (rw [State.lit_eq]; with_reducible refine Still.mk' ?_ rfl))

theorem execDdrTrainDone_still {s0 : State} {c : Fin 2} {ok : Bool} {s : State} (h0 : Still s0 s) :
    NextAll (Still s0) (execDdrTrainDone c ok s) := by
  unfold execDdrTrainDone
  repeat' (first
    | with_reducible assumption
    | (extract_lets +onlyGivenNames x1; have hx1 : Still s0 x1 := ?_; clear_value x1; revert x1; intro _ _; rotate_left; unfold x1; clear x1)
    | (extract_lets +onlyGivenNames x1; (fail_if_success have _f := fun a => x1 a); clear_value x1; revert x1; intro _)
    | with_reducible apply Still.answers | with_reducible apply State.verifyCheck_still
    | with_reducible apply State.bootReport_still | with_reducible apply State.setF_still
    | with_reducible apply State.syncCheck_still | with_reducible apply State.bootStop_still
    | with_reducible apply State.flag_still | split | (rw [State.lit_eq]; with_reducible refine Still.mk' ?_ rfl))

theorem execBootVerifyReport_still {s0 : State} {rx : Rx} {dev : Fin 512} {cause : BitVec 4} {s : State}
    (h0 : Still s0 s) :
    NextAll (Still s0) (execBootVerifyReport rx dev cause s) := by
  unfold execBootVerifyReport
  repeat' (first
    | with_reducible assumption | intro _
    | (extract_lets +onlyGivenNames x1; have hx1 : Still s0 x1 := ?_; clear_value x1; revert x1; intro _ _; rotate_left; unfold x1; clear x1)
    | (extract_lets +onlyGivenNames x1; (fail_if_success have _f := fun a => x1 a); clear_value x1; revert x1; intro _)
    | with_reducible apply Still.answers | with_reducible apply State.verifyCheck_still
    | with_reducible apply State.packet_still | with_reducible apply State.syncCheck_still
    | with_reducible apply State.lateReport_still | split
    | (rw [State.lit_eq]; with_reducible refine Still.mk' ?_ rfl))

theorem State.regsSect_kept {s0 : State} : ∀ {l : List Word} {s : State}, Kept s0 s → Kept s0 (State.regsSect s l).2
  | [], s, h => h
  | [a], s, h => h
  | a :: v :: r, s, h => by
    rw [State.regsSect]
    have hw : Kept s0 (s.watched (plainAddr a.toNat) fun s => s.busWrite .sup a.toNat v).2 :=
      State.watched_kept h (fun _ h => State.busWrite_kept h)
    generalize (s.watched (plainAddr a.toNat) fun s => s.busWrite .sup a.toNat v) = p at hw
    obtain ⟨x, t⟩ := p
    dsimp only
    split
    · exact h
    split
    · exact h
    · exact State.regsSect_kept ⟨hw.pending, hw.canon⟩

theorem State.loadSect_kept {s0 : State} {s : State} {x : Sect} {l : List Byte} (h0 : Kept s0 s) :
    Kept s0 (State.loadSect s x l).2 := by
  unfold State.loadSect
  repeat' (first
    | with_reducible assumption | with_reducible apply State.lgcSect_kept | with_reducible apply State.trainDdr_kept
    | with_reducible apply State.ebmSect_kept | with_reducible apply State.memWriteIn_kept
    | with_reducible apply State.regsSect_kept | with_reducible apply State.memSect_kept | split | dsimp only
    | with_reducible refine Kept.pair ?_ (by assumption))

theorem State.sectSeen_kept {s0 : State} {s : State} {k : ℕ} (h0 : Kept s0 s) :
    Kept s0 (State.sectSeen s k) := by
  unfold State.sectSeen
  repeat' (first
    | with_reducible assumption
    | (extract_lets +onlyGivenNames x1; (fail_if_success have _f := fun a => x1 a); clear_value x1; revert x1; intro _)
    | with_reducible apply State.bootReport_kept | with_reducible apply State.bootStop_kept
    | with_reducible apply State.loadSect_kept | split | dsimp only
    | with_reducible refine Kept.pair ?_ (by assumption) | (rw [State.lit_eq]; with_reducible refine Kept.mk' ?_ rfl))

theorem State.bootFollow_kept {s0 : State} {y0 : ℕ} {y1 : State} (h0 : Kept s0 y1) :
    Kept s0 (State.bootFollow y0 y1) := by
  induction y0 generalizing y1 with
  | zero =>
    unfold State.bootFollow
    repeat' (first
      | with_reducible assumption)
  | succ _ ih =>
    unfold State.bootFollow
    repeat' (first
      | with_reducible assumption | with_reducible apply ih
      | (extract_lets +onlyGivenNames x1; (fail_if_success have _f := fun a => x1 a); clear_value x1; revert x1; intro _)
      | with_reducible apply State.sectSeen_kept | with_reducible apply State.headSeen_kept | split)

theorem State.bootBytes_kept {s0 : State} {s : State} {d : List Byte} (h0 : Kept s0 s) :
    Kept s0 (State.bootBytes s d) := by
  unfold State.bootBytes
  repeat' (first
    | with_reducible assumption | with_reducible apply State.bootReport_kept | with_reducible apply State.bootFollow_kept
    | with_reducible apply State.setBoot_kept | split | dsimp only
    | (rw [State.lit_eq]; with_reducible refine Kept.mk' ?_ rfl))

theorem execBootPacket_kept {s0 : State} {rx : Rx} {d : List Byte} {s : State} (h0 : Kept s0 s) :
    NextAll (Kept s0) (execBootPacket rx d s) := by
  unfold execBootPacket
  repeat' (first
    | with_reducible assumption
    | (extract_lets +onlyGivenNames x1; have hx1 : Kept s0 x1 := ?_; clear_value x1; revert x1; intro _ _; rotate_left; unfold x1; clear x1)
    | (extract_lets +onlyGivenNames x1; (fail_if_success have _f := fun a => x1 a); clear_value x1; revert x1; intro _)
    | with_reducible apply Kept.answers | with_reducible apply State.inc_kept
    | with_reducible apply State.bootLink_kept | with_reducible apply State.bootBytes_kept
    | with_reducible apply State.mirror_kept | split)

theorem State.bootStream_kept {s0 : State} {s : State} {d : List Byte} (h0 : Kept s0 s) :
    Kept s0 (State.bootStream s d) := by
  unfold State.bootStream
  repeat' (first
    | with_reducible assumption
    | (extract_lets +onlyGivenNames x1; have hx1 : Kept s0 x1 := ?_; clear_value x1; revert x1; intro _ _; rotate_left; unfold x1; clear x1)
    | (extract_lets +onlyGivenNames x1; (fail_if_success have _f := fun a => x1 a); clear_value x1; revert x1; intro _)
    | with_reducible apply State.verifyCheck_kept | with_reducible apply State.syncCheck_kept
    | with_reducible apply State.bootSend_kept | with_reducible apply State.bootBytes_kept | split
    | (rw [State.lit_eq]; with_reducible refine Kept.mk' ?_ rfl))

theorem execFlashSectionData_kept {s0 : State} {d : Option (List Byte)} {s : State} (h0 : Kept s0 s) :
    NextAll (Kept s0) (execFlashSectionData d s) := by
  unfold execFlashSectionData
  repeat' (first
    | with_reducible assumption
    | (extract_lets +onlyGivenNames x1; (fail_if_success have _f := fun a => x1 a); clear_value x1; revert x1; intro _)
    | with_reducible apply Kept.answers | with_reducible apply State.bootReport_kept
    | with_reducible apply State.lateEnd_kept | with_reducible apply State.bootStream_kept
    | with_reducible apply State.bootStop_kept | with_reducible apply State.bootDecide_kept | split)

theorem State.streamStart_kept {s0 : State} {s : State} (h0 : Kept s0 s) :
    Kept s0 (State.streamStart s) := by
  unfold State.streamStart
  repeat' (first
    | with_reducible assumption
    | (extract_lets +onlyGivenNames x1; have hx1 : Kept s0 x1 := ?_; clear_value x1; revert x1; intro _ _; rotate_left; unfold x1; clear x1)
    | (extract_lets +onlyGivenNames x1; (fail_if_success have _f := fun a => x1 a); clear_value x1; revert x1; intro _)
    | with_reducible apply State.bootStream_kept | with_reducible apply State.setBoot_kept | split
    | (rw [State.lit_eq]; with_reducible refine Kept.mk' ?_ rfl))

theorem execBootEnumTimeout_kept {s0 : State} {answered : List (Fin 512)} {s : State} (h0 : Kept s0 s) :
    NextAll (Kept s0) (execBootEnumTimeout answered s) := by
  unfold execBootEnumTimeout
  repeat' (first
    | with_reducible assumption
    | (extract_lets +onlyGivenNames x1; (fail_if_success have _f := fun a => x1 a); clear_value x1; revert x1; intro _)
    | with_reducible apply Kept.answers | with_reducible apply State.streamStart_kept
    | with_reducible apply State.lateReport_kept | split | (rw [State.lit_eq]; with_reducible refine Kept.mk' ?_ rfl))

theorem State.bootStarted_kept {s0 : State} {s : State} (h0 : Kept s0 s) :
    Kept s0 (State.bootStarted s) := by
  unfold State.bootStarted
  repeat' (first
    | with_reducible assumption
    | (extract_lets +onlyGivenNames x1; have hx1 : Kept s0 x1 := ?_; clear_value x1; revert x1; intro _ _; rotate_left; unfold x1; clear x1)
    | (extract_lets +onlyGivenNames x1; (fail_if_success have _f := fun a => x1 a); clear_value x1; revert x1; intro _)
    | with_reducible apply State.bootSend_kept | with_reducible apply State.streamStart_kept | split
    | (rw [State.lit_eq]; with_reducible refine Kept.mk' ?_ rfl))

theorem State.headRead_kept {s0 : State} {s : State} {d : Option (List Byte)} (h0 : Kept s0 s) :
    Kept s0 (State.headRead s d) := by
  unfold State.headRead
  repeat' (first
    | with_reducible assumption
    | (extract_lets +onlyGivenNames x1; (fail_if_success have _f := fun a => x1 a); clear_value x1; revert x1; intro _)
    | with_reducible apply State.lateEnd_kept | with_reducible apply State.bootStarted_kept
    | with_reducible apply State.toOxbow_kept | with_reducible apply State.bootStop_kept
    | with_reducible apply State.bootSend_kept | with_reducible apply State.bootFailed_kept | split
    | (rw [State.lit_eq]; with_reducible refine Kept.mk' ?_ rfl))

theorem execFlashReadDone_kept {s0 : State} {d : Option (List Byte)} {s : State} (h0 : Kept s0 s) :
    NextAll (Kept s0) (execFlashReadDone d s) := by
  unfold execFlashReadDone
  repeat' (first
    | with_reducible assumption
    | (extract_lets +onlyGivenNames x1; (fail_if_success have _f := fun a => x1 a); clear_value x1; revert x1; intro _)
    | with_reducible apply Kept.answers | with_reducible apply State.headRead_kept | split)

theorem State.descPut_still {s0 : State} {s : State} {live : Bool} {i : ℕ} {m : List Word} (h0 : Still s0 s) :
    Still s0 (State.descPut s live i m) := by
  unfold State.descPut
  repeat' (first
    | with_reducible assumption | split | (rw [State.lit_eq]; with_reducible refine Still.mk' ?_ rfl))

theorem execJnlBucketRefill_still {s0 : State} {s : State} (h0 : Still s0 s) :
    NextAll (Still s0) (execJnlBucketRefill s) := by
  unfold execJnlBucketRefill
  repeat' (first
    | with_reducible assumption
    | (extract_lets +onlyGivenNames x1; (fail_if_success have _f := fun a => x1 a); clear_value x1; revert x1; intro _)
    | with_reducible apply Still.answers | with_reducible apply State.setF_still
    | (rw [State.lit_eq]; with_reducible refine Still.mk' ?_ rfl))

theorem State.bindUnit_still {s0 : State} {s : State} {far : FarReads} {elsewhere : Bool} {i : ℕ} {m : List Word}
    (h0 : Still s0 s) :
    Still s0 (State.bindUnit s far elsewhere i m).2 := by
  unfold State.bindUnit
  repeat' (first
    | with_reducible assumption | with_reducible apply State.descPut_still | split)

theorem State.bindUnit_kept {s0 : State} {s : State} {far : FarReads} {elsewhere : Bool} {i : ℕ} {m : List Word}
    (h0 : Kept s0 s) :
    Kept s0 (State.bindUnit s far elsewhere i m).2 :=
  h0.still (State.bindUnit_still (Still.refl _))

theorem State.readEnd_still {s0 : State} {s : State} {c : HCmd} {status : ℕ} {data : List Byte} (h0 : Still s0 s) :
    Still s0 (State.readEnd s c status data) := by
  unfold State.readEnd
  repeat' (first
    | with_reducible assumption
    | (extract_lets +onlyGivenNames x1; have hx1 : Still s0 x1 := ?_; clear_value x1; revert x1; intro _ _; rotate_left; unfold x1; clear x1)
    | with_reducible apply State.mapCmd_still | with_reducible apply State.complete_still
    | with_reducible apply State.answered_still | with_reducible apply State.send_still | split)

theorem State.readEnd_kept {s0 : State} {s : State} {c : HCmd} {status : ℕ} {data : List Byte} (h0 : Kept s0 s) :
    Kept s0 (State.readEnd s c status data) :=
  h0.still (State.readEnd_still (Still.refl _))

theorem State.qpReadError_still {s0 : State} {s : State} {q : ℕ} (h0 : Still s0 s) :
    Still s0 (State.qpReadError s q) := by
  unfold State.qpReadError
  repeat' (first
    | with_reducible assumption
    | (extract_lets +onlyGivenNames x1; (fail_if_success have _f := fun a => x1 a); clear_value x1; revert x1; intro _)
    | with_reducible apply State.qpBell_still | with_reducible apply State.setQp_still)

theorem execStatus_still {s0 : State} {s : State} (h0 : Still s0 s) :
    NextAll (Still s0) (execStatus s) := by
  unfold execStatus
  repeat' (first
    | with_reducible assumption | with_reducible apply Still.answers | with_reducible apply State.readEnd_still | split)

theorem execJnlRead_still {s0 : State} {s : State} (h0 : Still s0 s) :
    NextAll (Still s0) (execJnlRead s) := by
  unfold execJnlRead
  repeat' (first
    | with_reducible assumption | intro _
    | (extract_lets +onlyGivenNames x1; (fail_if_success have _f := fun a => x1 a); clear_value x1; revert x1; intro _)
    | with_reducible apply Still.answers | with_reducible apply State.readEnd_still
    | with_reducible apply State.jnlEntry_still | split | dsimp only | with_reducible apply Still.foldlPair)

theorem State.journal_still {s0 : State} {s : State} {c : HCmd} (h0 : Still s0 s) :
    Still s0 (State.journal s c) := by
  unfold State.journal
  repeat' (first
    | with_reducible assumption
    | (extract_lets +onlyGivenNames x1; have hx1 : Still s0 x1 := ?_; clear_value x1; revert x1; intro _ _; rotate_left; unfold x1; clear x1)
    | (extract_lets +onlyGivenNames x1; (fail_if_success have _f := fun a => x1 a); clear_value x1; revert x1; intro _)
    | with_reducible apply State.setCmds_still | with_reducible apply State.setF_still
    | with_reducible apply State.nvmQueue_still | with_reducible apply State.jnlFailed_still
    | with_reducible apply State.mirror_still | split | (rw [State.lit_eq]; with_reducible refine Still.mk' ?_ rfl))

theorem State.hostTake_still {s0 : State} {s : State} {c : HCmd} (h0 : Still s0 s) :
    Still s0 (State.hostTake s c) := by
  unfold State.hostTake
  repeat' (first
    | with_reducible assumption
    | (extract_lets +onlyGivenNames x1; have hx1 : Still s0 x1 := ?_; clear_value x1; revert x1; intro _ _; rotate_left; unfold x1; clear x1)
    | (extract_lets +onlyGivenNames x1; (fail_if_success have _f := fun a => x1 a); clear_value x1; revert x1; intro _)
    | with_reducible apply State.setCmds_still | with_reducible apply State.journal_still
    | with_reducible apply State.request_still | split)

theorem execCommandFetch_still {s0 : State} {body : Option (BitVec 512)} {payload : Option (List Byte)} {s : State}
    (h0 : Still s0 s) :
    NextAll (Still s0) (execCommandFetch body payload s) := by
  unfold execCommandFetch
  repeat' (first
    | with_reducible assumption
    | (extract_lets +onlyGivenNames x1; have hx1 : Still s0 x1 := ?_; clear_value x1; revert x1; intro _ _; rotate_left; unfold x1; clear x1)
    | (extract_lets +onlyGivenNames x1; (fail_if_success have _f := fun a => x1 a); clear_value x1; revert x1; intro _)
    | with_reducible apply Still.answers | with_reducible apply State.qpReadError_still
    | with_reducible apply State.complete_still | with_reducible apply State.setQp_still
    | with_reducible apply State.flag_still | with_reducible apply State.hostTake_still | split
    | (rw [State.lit_eq]; with_reducible refine Still.mk' ?_ rfl))

theorem State.regRun_still {s0 : State} {s : State} {q : Req} {y0 : ℕ} {y1 : ℕ} (h0 : Still s0 s) :
    Still s0 (State.regRun s q y0 y1).2 := by
  induction y0 generalizing s q y1 with
  | zero =>
    unfold State.regRun
    repeat' (first
      | with_reducible assumption)
  | succ _ ih =>
    unfold State.regRun
    repeat' (first
      | with_reducible assumption | with_reducible apply ih
      | (extract_lets +onlyGivenNames x1; have hx1 : Still s0 x1 := ?_; clear_value x1; revert x1; intro _ _; rotate_left; unfold x1; clear x1)
      | with_reducible apply State.busRead_still | split | dsimp only
      | with_reducible refine Still.pair ?_ (by assumption)
      | (rw [State.lit_eq]; with_reducible refine Still.mk' ?_ rfl))

theorem execRegRead_still {s0 : State} {s : State} (h0 : Still s0 s) :
    NextAll (Still s0) (execRegRead s) := by
  unfold execRegRead
  repeat' (first
    | with_reducible assumption | with_reducible apply Still.answers | with_reducible apply State.regRun_still
    | with_reducible apply State.readEnd_still | split | with_reducible refine Still.pair ?_ (by assumption))

theorem State.slotWord_kept {s0 : State} {s : State} {t : ℕ} {k : ℕ} (h0 : Kept s0 s) :
    Kept s0 (State.slotWord s t k).2 := by
  unfold State.slotWord
  repeat' (first
    | with_reducible assumption | with_reducible apply State.memWords_kept | split | dsimp only
    | with_reducible refine Kept.pair ?_ (by assumption))

theorem execMailboxDone_kept {s0 : State} {t : Fin 257} {k : Fin 8} {s : State} (h0 : Kept s0 s) :
    NextAll (Kept s0) (execMailboxDone t k s) := by
  unfold execMailboxDone
  repeat' (first
    | with_reducible assumption
    | (extract_lets +onlyGivenNames x1; (fail_if_success have _f := fun a => x1 a); clear_value x1; revert x1; intro _)
    | with_reducible apply Kept.answers | with_reducible apply State.memRead_kept
    | with_reducible apply State.endCmd_kept | with_reducible apply State.memWrite_kept
    | with_reducible apply State.slotWord_kept | split | with_reducible refine Kept.pair ?_ (by assumption))

theorem State.hostPost_kept {s0 : State} {s : State} {c : HCmd} (h0 : Kept s0 s) :
    Kept s0 (State.hostPost s c).2 := by
  unfold State.hostPost
  repeat' (first
    | with_reducible assumption
    | (extract_lets +onlyGivenNames x1; have hx1 : Kept s0 x1 := ?_; clear_value x1; revert x1; intro _ _; rotate_left; unfold x1; clear x1)
    | (extract_lets +onlyGivenNames x1; (fail_if_success have _f := fun a => x1 a); clear_value x1; revert x1; intro _)
    | with_reducible apply State.memWrite_kept | with_reducible apply State.slotWord_kept | split | dsimp only
    | with_reducible refine Kept.pair ?_ (by assumption) | (rw [State.lit_eq]; with_reducible refine Kept.mk' ?_ rfl))

theorem State.hostWrite_kept {s0 : State} {s : State} {q : Req} {a : ℕ} {v : Word} (h0 : Kept s0 s) :
    Kept s0 (State.hostWrite s q a v).2 := by
  unfold State.hostWrite
  repeat' (first
    | with_reducible assumption | intro _
    | (extract_lets +onlyGivenNames x1; have hx1 : Kept s0 x1 := ?_; clear_value x1; revert x1; intro _ _; rotate_left; unfold x1; clear x1)
    | (extract_lets +onlyGivenNames x1; (fail_if_success have _f := fun a => x1 a); clear_value x1; revert x1; intro _)
    | with_reducible apply State.busWrite_kept | with_reducible apply State.watched_kept | split
    | with_reducible refine Kept.pair ?_ (by assumption) | (rw [State.lit_eq]; with_reducible refine Kept.mk' ?_ rfl))

theorem State.hostPairs_kept {s0 : State} {c : HCmd} :
    ∀ {l : List Word} {s : State} {k first : ℕ}, Kept s0 s → Kept s0 (State.hostPairs s c l k first).2
  | [], s, k, first, h => h
  | [a], s, k, first, h => h
  | a :: v :: r, s, k, first, h => by
    rw [State.hostPairs]
    have hw : Kept s0 (s.hostWrite c.who a.toNat v).2 := State.hostWrite_kept h
    generalize s.hostWrite c.who a.toNat v = p at hw
    obtain ⟨x, t⟩ := p
    cases x with
    | none => exact hw
    | some x => exact State.hostPairs_kept hw

theorem State.hostDo_kept {s0 : State} {s : State} {c : HCmd} {far : FarReads} {elsewhere : Bool} (h0 : Kept s0 s) :
    Kept s0 (State.hostDo s c far elsewhere).2 := by
  unfold State.hostDo
  repeat' (first
    | with_reducible assumption
    | (extract_lets +onlyGivenNames x1; have hx1 : Kept s0 x1 := ?_; clear_value x1; revert x1; intro _ _; rotate_left; unfold x1; clear x1)
    | (extract_lets +onlyGivenNames x1; (fail_if_success have _f := fun a => x1 a); clear_value x1; revert x1; intro _)
    | with_reducible apply State.setF_kept | with_reducible apply State.epRequest_kept
    | with_reducible apply State.instCmd_kept | with_reducible apply State.twinCmdWrite_kept
    | with_reducible apply State.bindUnit_kept | with_reducible apply State.staleWrite_kept
    | with_reducible apply State.hostWrite_kept | with_reducible apply State.fence_kept
    | with_reducible apply State.flag_kept | with_reducible apply State.hostPairs_kept
    | with_reducible apply State.tretWrite_kept | with_reducible apply State.applyNow_kept
    | with_reducible apply State.hostPost_kept | split | dsimp only
    | with_reducible refine Kept.pair ?_ (by assumption))

theorem State.hostRun_kept {s0 : State} {s : State} {c : HCmd} {far : FarReads} {elsewhere : Bool} (h0 : Kept s0 s) :
    Kept s0 (State.hostRun s c far elsewhere) := by
  unfold State.hostRun
  repeat' (first
    | with_reducible assumption | with_reducible apply State.hostDo_kept | with_reducible apply State.mapCmd_kept
    | with_reducible apply State.endCmd_kept | split | with_reducible refine Kept.pair ?_ (by assumption))

theorem State.hostRow_kept {s0 : State} {s : State} {cls : ℕ} {opc : ℕ} {far : FarReads} {elsewhere : Bool}
    (h0 : Kept s0 s) :
    Kept s0 (State.hostRow s cls opc far elsewhere) := by
  unfold State.hostRow
  repeat' (first
    | with_reducible assumption | with_reducible apply State.hostRun_kept | split)

theorem execRegWrite_kept {s0 : State} {s : State} (h0 : Kept s0 s) :
    NextAll (Kept s0) (execRegWrite s) := by
  unfold execRegWrite
  repeat' (first
    | with_reducible assumption | with_reducible apply Kept.answers | with_reducible apply State.hostRow_kept)

theorem execBind_kept {s0 : State} {far : FarUnits} {s : State}
    (h0 : Kept s0 s) :
    NextAll (Kept s0) (execBind far s) := by
  unfold execBind
  repeat' (first
    | with_reducible assumption | with_reducible apply Kept.answers | with_reducible apply State.hostRow_kept)

theorem execPost_kept {s0 : State} {s : State} (h0 : Kept s0 s) :
    NextAll (Kept s0) (execPost s) := by
  unfold execPost
  repeat' (first
    | with_reducible assumption | with_reducible apply Kept.answers | with_reducible apply State.hostRow_kept)

theorem execCommandExecute_kept {s0 : State} {far : FarUnits} {s : State}
    (h0 : Kept s0 s) :
    NextAll (Kept s0) (execCommandExecute far s) := by
  unfold execCommandExecute
  repeat' (first
    | with_reducible assumption | with_reducible apply Kept.answers | with_reducible apply State.hostRun_kept | split)

theorem execRegWriteN_kept {s0 : State} {s : State} (h0 : Kept s0 s) :
    NextAll (Kept s0) (execRegWriteN s) := by
  unfold execRegWriteN
  repeat' (first
    | with_reducible assumption | with_reducible apply Kept.answers | with_reducible apply State.hostRow_kept)

theorem execTwin_kept {s0 : State} {s : State} (h0 : Kept s0 s) :
    NextAll (Kept s0) (execTwin s) := by
  unfold execTwin
  repeat' (first
    | with_reducible assumption | with_reducible apply Kept.answers | with_reducible apply State.hostRow_kept)

theorem execFence_kept {s0 : State} {s : State} (h0 : Kept s0 s) :
    NextAll (Kept s0) (execFence s) := by
  unfold execFence
  repeat' (first
    | with_reducible assumption | with_reducible apply Kept.answers | with_reducible apply State.hostRow_kept)

theorem execEpochReq_kept {s0 : State} {s : State} (h0 : Kept s0 s) :
    NextAll (Kept s0) (execEpochReq s) := by
  unfold execEpochReq
  repeat' (first
    | with_reducible assumption | with_reducible apply Kept.answers | with_reducible apply State.hostRow_kept)

theorem execTile_kept {s0 : State} {s : State} (h0 : Kept s0 s) :
    NextAll (Kept s0) (execTile s) := by
  unfold execTile
  repeat' (first
    | with_reducible assumption | with_reducible apply Kept.answers | with_reducible apply State.hostRow_kept)

theorem execApplyNow_kept {s0 : State} {s : State} (h0 : Kept s0 s) :
    NextAll (Kept s0) (execApplyNow s) := by
  unfold execApplyNow
  repeat' (first
    | with_reducible assumption | with_reducible apply Kept.answers | with_reducible apply State.hostRow_kept)

theorem execCatchup_kept {s0 : State} {s : State} (h0 : Kept s0 s) :
    NextAll (Kept s0) (execCatchup s) := by
  unfold execCatchup
  repeat' (first
    | with_reducible assumption | with_reducible apply Kept.answers | with_reducible apply State.hostRow_kept)

theorem execInst_kept {s0 : State} {s : State} (h0 : Kept s0 s) :
    NextAll (Kept s0) (execInst s) := by
  unfold execInst
  repeat' (first
    | with_reducible assumption | with_reducible apply Kept.answers | with_reducible apply State.hostRow_kept)

end Sys2Proof.Machine
end

