-- ==== Sys2Proof/Laws/FrameTick.lean ====
section
/-! SUPPORT. What each function of Machine/LeatMem.lean, Machine/Release.lean, Machine/Tick.lean leaves alone: `Still`, the queue of commands and
every byte of memory; `Kept`, the queue, and the canonical form of memory. -/

set_option linter.unreachableTactic false
set_option linter.unusedTactic false
set_option linter.unusedVariables false
set_option linter.tactic.unusedName false

namespace Sys2Proof.Machine

theorem State.reqEnd_still {s0 : State} {s : State} {r : LReq} (h0 : Still s0 s) :
    Still s0 (State.reqEnd s r) := by
  unfold State.reqEnd
  repeat' (first
    | with_reducible assumption
    | (extract_lets +onlyGivenNames x1; (fail_if_success have _f := fun a => x1 a); clear_value x1; revert x1; intro _)
    | (rw [State.lit_eq]; with_reducible refine Still.mk' ?_ rfl))

theorem State.xferLast_still {s0 : State} {s : State} (h0 : Still s0 s) :
    Still s0 (State.xferLast s) := by
  unfold State.xferLast
  repeat' (first
    | with_reducible assumption | with_reducible apply State.xferSend_still)

theorem State.unitAcked_still {s0 : State} {s : State} {c : ℕ} (h0 : Still s0 s) :
    Still s0 (State.unitAcked s c) := by
  unfold State.unitAcked
  repeat' (first
    | with_reducible assumption
    | (extract_lets +onlyGivenNames x1; (fail_if_success have _f := fun a => x1 a); clear_value x1; revert x1; intro _)
    | with_reducible apply State.setCtx_still)

theorem State.replayBind_still {s0 : State} {s : State} {i : ℕ} {m : List Word} (h0 : Still s0 s) :
    Still s0 (State.replayBind s i m) := by
  unfold State.replayBind
  repeat' (first
    | with_reducible assumption | with_reducible apply State.descPut_still)

theorem State.replayBind_kept {s0 : State} {s : State} {i : ℕ} {m : List Word} (h0 : Kept s0 s) :
    Kept s0 (State.replayBind s i m) :=
  h0.still (State.replayBind_still (Still.refl _))

theorem State.serve_still {s0 : State} {s : State} {hd : PktHead} {k : LeatKind} {f : State → List ℕ × State}
    (h0 : Still s0 s) (h1 : ∀ a0, Still s0 a0 → Still s0 (f a0).2) :
    Still s0 (State.serve s hd k f) := by
  unfold State.serve
  repeat' (first
    | with_reducible assumption | with_reducible apply State.chainSend_still | with_reducible apply State.answered_still
    | with_reducible apply h1 | split)

theorem State.serve_kept {s0 : State} {s : State} {hd : PktHead} {k : LeatKind} {f : State → List ℕ × State}
    (h0 : Kept s0 s) (h1 : ∀ a0, Kept s0 a0 → Kept s0 (f a0).2) :
    Kept s0 (State.serve s hd k f) := by
  unfold State.serve
  repeat' (first
    | with_reducible assumption | with_reducible apply State.chainSend_kept | with_reducible apply State.answered_kept
    | with_reducible apply h1 | split)

theorem State.feedState_still {s0 : State} {s : State} (h0 : Still s0 s) :
    Still s0 (State.feedState s) := by
  unfold State.feedState
  repeat' (first
    | with_reducible assumption | intro _ | with_reducible apply State.xferLast_still
    | with_reducible apply State.xferSend_still | dsimp only | with_reducible apply Still.foldl)

theorem State.feedState_kept {s0 : State} {s : State} (h0 : Kept s0 s) :
    Kept s0 (State.feedState s) :=
  h0.still (State.feedState_still (Still.refl _))

theorem State.unitReport_still {s0 : State} {s : State} {i : ℕ} {gen : ℕ} {leaf : ℕ} {sub : ℕ} (h0 : Still s0 s) :
    Still s0 (State.unitReport s i gen leaf sub) := by
  unfold State.unitReport
  repeat' (first
    | with_reducible assumption
    | (extract_lets +onlyGivenNames x1; have hx1 : Still s0 x1 := ?_; clear_value x1; revert x1; intro _ _; rotate_left; unfold x1; clear x1)
    | with_reducible apply State.setF_still | with_reducible apply State.put_still
    | with_reducible apply State.flag_still | split)

theorem execPacketRetry_still {s0 : State} {dst : Fin 512} {seq : BitVec 16} {s : State} (h0 : Still s0 s) :
    NextAll (Still s0) (execPacketRetry dst seq s) := by
  unfold execPacketRetry
  repeat' (first
    | with_reducible assumption
    | (extract_lets +onlyGivenNames x1; have hx1 : Still s0 x1 := ?_; clear_value x1; revert x1; intro _ _; rotate_left; unfold x1; clear x1)
    | (extract_lets +onlyGivenNames x1; (fail_if_success have _f := fun a => x1 a); clear_value x1; revert x1; intro _)
    | with_reducible apply Still.answers | with_reducible apply State.chainSend_still | split
    | (rw [State.lit_eq]; with_reducible refine Still.mk' ?_ rfl))

theorem State.forwardEnd_still {s0 : State} {s : State} {dst : ℕ} {seq : ℕ} {status : ℕ} {detail : ℕ} {jseq : ℕ}
    {jnl : Bool} {data : List Byte} (h0 : Still s0 s) :
    Still s0 (State.forwardEnd s dst seq status detail jseq jnl data) := by
  unfold State.forwardEnd
  repeat' (first
    | with_reducible assumption
    | (extract_lets +onlyGivenNames x1; have hx1 : Still s0 x1 := ?_; clear_value x1; revert x1; intro _ _; rotate_left; unfold x1; clear x1)
    | with_reducible apply State.mapCmd_still | with_reducible apply State.complete_still
    | with_reducible apply State.send_still | split)

theorem State.served_still {s0 : State} {s : State} {addr : BitVec 48} {hd : PktHead} {k : LeatKind}
    {f : State → List ℕ × State} (h0 : Still s0 s) (h1 : ∀ a0, Still s0 a0 → Still s0 (f a0).2) :
    Still s0 (State.served s addr hd k f) := by
  unfold State.served
  repeat' (first
    | with_reducible assumption | with_reducible apply State.serve_still | split)

theorem State.served_kept {s0 : State} {s : State} {addr : BitVec 48} {hd : PktHead} {k : LeatKind}
    {f : State → List ℕ × State} (h0 : Kept s0 s) (h1 : ∀ a0, Kept s0 a0 → Kept s0 (f a0).2) :
    Kept s0 (State.served s addr hd k f) := by
  unfold State.served
  repeat' (first
    | with_reducible assumption | with_reducible apply State.serve_kept | split)

theorem State.memAnswer_still {s0 : State} {s : State} {r : LReq} {sub : ℕ} {d : List Byte} (h0 : Still s0 s) :
    Still s0 (State.memAnswer s r sub d) := by
  unfold State.memAnswer
  repeat' (first
    | with_reducible assumption
    | (extract_lets +onlyGivenNames x1; have hx1 : Still s0 x1 := ?_; clear_value x1; revert x1; intro _ _; rotate_left; unfold x1; clear x1)
    | (extract_lets +onlyGivenNames x1; (fail_if_success have _f := fun a => x1 a); clear_value x1; revert x1; intro _)
    | with_reducible apply State.reqEnd_still | with_reducible apply State.storeFail_still
    | with_reducible apply State.setCtx_still | with_reducible apply State.burstAnswer_still | split)

theorem State.mirrorCmd_still {s0 : State} {s : State} {p : ℕ} {dev : ℕ} {body : BitVec 512} {payload : List Byte}
    {seq : ℕ} {pos : ℕ} {gen : ℕ} (h0 : Still s0 s) :
    Still s0 (State.mirrorCmd s p dev body payload seq pos gen) := by
  unfold State.mirrorCmd
  repeat' (first
    | with_reducible assumption
    | (extract_lets +onlyGivenNames x1; have hx1 : Still s0 x1 := ?_; clear_value x1; revert x1; intro _ _; rotate_left; unfold x1; clear x1)
    | (extract_lets +onlyGivenNames x1; (fail_if_success have _f := fun a => x1 a); clear_value x1; revert x1; intro _)
    | with_reducible apply State.setCmds_still | with_reducible apply State.setF_still
    | with_reducible apply State.nvmQueue_still | with_reducible apply State.jnlFailed_still | split
    | (rw [State.lit_eq]; with_reducible refine Still.mk' ?_ rfl))

theorem State.mirrorCmd_kept {s0 : State} {s : State} {p : ℕ} {dev : ℕ} {body : BitVec 512} {payload : List Byte}
    {seq : ℕ} {pos : ℕ} {gen : ℕ} (h0 : Kept s0 s) :
    Kept s0 (State.mirrorCmd s p dev body payload seq pos gen) :=
  h0.still (State.mirrorCmd_still (Still.refl _))

theorem State.urdAnswer_still {s0 : State} {s : State} {c : ℕ} {d : ℕ} {v : Option Word} (h0 : Still s0 s) :
    Still s0 (State.urdAnswer s c d v) := by
  unfold State.urdAnswer
  repeat' (first
    | with_reducible assumption
    | (extract_lets +onlyGivenNames x1; (fail_if_success have _f := fun a => x1 a); clear_value x1; revert x1; intro _)
    | with_reducible apply State.urdValue_still | with_reducible apply State.finish_still
    | with_reducible apply State.setCtx_still | split)

theorem State.feedEntries_still {s0 : State} {s : State} {after : ℕ} (h0 : Still s0 s) :
    Still s0 (State.feedEntries s after) := by
  unfold State.feedEntries
  repeat' (first
    | with_reducible assumption | intro _
    | (extract_lets +onlyGivenNames x1; (fail_if_success have _f := fun a => x1 a); clear_value x1; revert x1; intro _)
    | with_reducible apply State.entrySend_still | with_reducible apply State.xferLast_still
    | with_reducible apply Still.foldl)

theorem State.mirrorMrsp_still {s0 : State} {s : State} {c : ℕ} {gen : ℕ} {sub : ℕ} {d : List Byte} (h0 : Still s0 s)
    :
    Still s0 (State.mirrorMrsp s c gen sub d) := by
  unfold State.mirrorMrsp
  repeat' (first
    | with_reducible assumption | with_reducible apply State.mirrorEnds_still | with_reducible apply State.memAnswer_still
    | split)

theorem State.mirrorMrsp_kept {s0 : State} {s : State} {c : ℕ} {gen : ℕ} {sub : ℕ} {d : List Byte} (h0 : Kept s0 s) :
    Kept s0 (State.mirrorMrsp s c gen sub d) :=
  h0.still (State.mirrorMrsp_still (Still.refl _))

theorem execMamo_kept {s0 : State} {rx : Rx} {hd : PktHead} {op : Fin 3} {addr : BitVec 48} {a : Word} {b : Word}
    {s : State} (h0 : Kept s0 s) :
    NextAll (Kept s0) (execMamo rx hd op addr a b s) := by
  unfold execMamo
  repeat' (first
    | with_reducible assumption | intro _
    | (extract_lets +onlyGivenNames x1; have hx1 : Kept s0 x1 := ?_; clear_value x1; revert x1; intro _ _; rotate_left; unfold x1; clear x1)
    | (extract_lets +onlyGivenNames x1; (fail_if_success have _f := fun a => x1 a); clear_value x1; revert x1; intro _)
    | with_reducible apply Kept.answers | with_reducible apply State.packet_kept | with_reducible apply State.amo_kept
    | with_reducible apply State.served_kept | with_reducible apply State.mirror_kept | split | dsimp only
    | with_reducible refine Kept.pair ?_ (by assumption))

theorem execMrsp_still {s0 : State} {rx : Rx} {hd : PktHead} {sub : Byte} {d : List Byte} {s : State}
    (h0 : Still s0 s) :
    NextAll (Still s0) (execMrsp rx hd sub d s) := by
  unfold execMrsp
  repeat' (first
    | with_reducible assumption | intro _ | with_reducible apply Still.answers | with_reducible apply State.packet_still
    | with_reducible apply State.memAnswer_still | with_reducible apply State.mirror_still | split)

theorem State.unitAnswer_still {s0 : State} {s : State} {r : LReq} {v : Option Word} (h0 : Still s0 s) :
    Still s0 (State.unitAnswer s r v) := by
  unfold State.unitAnswer
  repeat' (first
    | with_reducible assumption
    | (extract_lets +onlyGivenNames x1; have hx1 : Still s0 x1 := ?_; clear_value x1; revert x1; intro _ _; rotate_left; unfold x1; clear x1)
    | with_reducible apply State.reqEnd_still | with_reducible apply State.unitAcked_still
    | with_reducible apply State.urdAnswer_still | split)

theorem State.feed_still {s0 : State} {s : State} {method : ℕ} {after : ℕ} (h0 : Still s0 s) :
    Still s0 (State.feed s method after) := by
  unfold State.feed
  repeat' (first
    | with_reducible assumption
    | (extract_lets +onlyGivenNames x1; have hx1 : Still s0 x1 := ?_; clear_value x1; revert x1; intro _ _; rotate_left; unfold x1; clear x1)
    | (extract_lets +onlyGivenNames x1; (fail_if_success have _f := fun a => x1 a); clear_value x1; revert x1; intro _)
    | with_reducible apply State.feedState_still | with_reducible apply State.feedEntries_still | split
    | (rw [State.lit_eq]; with_reducible refine Still.mk' ?_ rfl))

theorem State.feed_kept {s0 : State} {s : State} {method : ℕ} {after : ℕ} (h0 : Kept s0 s) :
    Kept s0 (State.feed s method after) :=
  h0.still (State.feed_still (Still.refl _))

theorem State.mirrorUrsp_still {s0 : State} {s : State} {c : ℕ} {gen : ℕ} {m : UrspMsg} (h0 : Still s0 s) :
    Still s0 (State.mirrorUrsp s c gen m) := by
  unfold State.mirrorUrsp
  repeat' (first
    | with_reducible assumption | with_reducible apply State.mirrorEnds_still
    | with_reducible apply State.unitReport_still | with_reducible apply State.unitAnswer_still | split)

theorem State.mirrorUrsp_kept {s0 : State} {s : State} {c : ℕ} {gen : ℕ} {m : UrspMsg} (h0 : Kept s0 s) :
    Kept s0 (State.mirrorUrsp s c gen m) :=
  h0.still (State.mirrorUrsp_still (Still.refl _))

theorem execUrsp_still {s0 : State} {rx : Rx} {hd : PktHead} {m : UrspMsg} {s : State} (h0 : Still s0 s) :
    NextAll (Still s0) (execUrsp rx hd m s) := by
  unfold execUrsp
  repeat' (first
    | with_reducible assumption | intro _ | with_reducible apply Still.answers | with_reducible apply State.packet_still
    | with_reducible apply State.unitReport_still | with_reducible apply State.unitAnswer_still
    | with_reducible apply State.mirror_still | split)

theorem State.forwardedCmd_still {s0 : State} {s : State} {hd : PktHead} {body : BitVec 512} {payload : List Byte}
    (h0 : Still s0 s) :
    Still s0 (State.forwardedCmd s hd body payload) := by
  unfold State.forwardedCmd
  repeat' (first
    | with_reducible assumption
    | (extract_lets +onlyGivenNames x1; (fail_if_success have _f := fun a => x1 a); clear_value x1; revert x1; intro _)
    | with_reducible apply State.chainSend_still | with_reducible apply State.complete_still
    | with_reducible apply State.flag_still | with_reducible apply State.hostTake_still | split)

theorem execBenmosPacket_still {s0 : State} {rx : Rx} {hd : PktHead} {m : BenmosMsg} {s : State} (h0 : Still s0 s) :
    NextAll (Still s0) (execBenmosPacket rx hd m s) := by
  unfold execBenmosPacket
  repeat' (first
    | with_reducible assumption | intro _ | with_reducible apply Still.answers | with_reducible apply State.reqEnd_still
    | with_reducible apply State.packet_still | with_reducible apply State.forwardedCmd_still
    | with_reducible apply State.forwardEnd_still | split)

theorem execMrd_kept {s0 : State} {rx : Rx} {hd : PktHead} {addr : BitVec 48} {len : ℕ} {s : State} (h0 : Kept s0 s) :
    NextAll (Kept s0) (execMrd rx hd addr len s) := by
  unfold execMrd
  repeat' (first
    | with_reducible assumption | intro _ | with_reducible apply Kept.answers | with_reducible apply State.readAt_kept
    | with_reducible apply State.packet_kept | with_reducible apply State.served_kept | split | dsimp only
    | with_reducible refine Kept.pair ?_ (by assumption))

theorem State.transferRegs_still {s0 : State} {s : State} {active : List (Word × Word)} {staged : List (Word × Word)}
    (h0 : Still s0 s) :
    Still s0 (State.transferRegs s active staged) := by
  unfold State.transferRegs
  repeat' (first
    | with_reducible assumption | intro _
    | (extract_lets +onlyGivenNames x1; have hx1 : Still s0 x1 := ?_; clear_value x1; revert x1; intro _ _; rotate_left; unfold x1; clear x1)
    | (extract_lets +onlyGivenNames x1; (fail_if_success have _f := fun a => x1 a); clear_value x1; revert x1; intro _)
    | with_reducible apply State.setF_still | with_reducible apply State.stage_still
    | with_reducible apply State.applyShadows_still | split | dsimp only | with_reducible apply Still.foldl
    | (rw [State.lit_eq]; with_reducible refine Still.mk' ?_ rfl))

theorem State.transferRegs_kept {s0 : State} {s : State} {active : List (Word × Word)} {staged : List (Word × Word)}
    (h0 : Kept s0 s) :
    Kept s0 (State.transferRegs s active staged) :=
  h0.still (State.transferRegs_still (Still.refl _))

theorem State.requestLost_still {s0 : State} {s : State} {r : LReq} (h0 : Still s0 s) :
    Still s0 (State.requestLost s r) := by
  unfold State.requestLost
  repeat' (first
    | with_reducible assumption
    | (extract_lets +onlyGivenNames x1; have hx1 : Still s0 x1 := ?_; clear_value x1; revert x1; intro _ _; rotate_left; unfold x1; clear x1)
    | (extract_lets +onlyGivenNames x1; (fail_if_success have _f := fun a => x1 a); clear_value x1; revert x1; intro _)
    | with_reducible apply State.reqEnd_still | with_reducible apply State.unitReport_still
    | with_reducible apply State.waitTrap_still | with_reducible apply State.unitAcked_still
    | with_reducible apply State.memAnswer_still | with_reducible apply State.forwardEnd_still | split
    | (rw [State.lit_eq]; with_reducible refine Still.mk' ?_ rfl))

theorem execPacketTimeout_still {s0 : State} {dst : Fin 512} {seq : BitVec 16} {s : State} (h0 : Still s0 s) :
    NextAll (Still s0) (execPacketTimeout dst seq s) := by
  unfold execPacketTimeout
  repeat' (first
    | with_reducible assumption | with_reducible apply Still.answers | with_reducible apply State.requestLost_still
    | split)

theorem State.replayEpochs_still {s0 : State} {s : State} {g : ℕ} (h0 : Still s0 s) :
    Still s0 (State.replayEpochs s g) := by
  unfold State.replayEpochs
  repeat' (first
    | with_reducible assumption | with_reducible apply State.applyShadows_still | with_reducible apply State.put_still
    | with_reducible apply State.tretEpoch_still | with_reducible apply State.windowsNow_still | split)

theorem State.replayEpochs_kept {s0 : State} {s : State} {g : ℕ} (h0 : Kept s0 s) :
    Kept s0 (State.replayEpochs s g) :=
  h0.still (State.replayEpochs_still (Still.refl _))

theorem State.farWrite_kept {s0 : State} {s : State} {hd : PktHead} {a : ℕ} {d : List Byte} (h0 : Kept s0 s) :
    Kept s0 (State.farWrite s hd a d).2 := by
  unfold State.farWrite
  repeat' (first
    | with_reducible assumption | with_reducible apply State.writeAt_kept | with_reducible apply State.mirror_kept)

theorem execMwr_kept {s0 : State} {rx : Rx} {hd : PktHead} {addr : BitVec 48} {d : List Byte} {s : State}
    (h0 : Kept s0 s) :
    NextAll (Kept s0) (execMwr rx hd addr d s) := by
  unfold execMwr
  repeat' (first
    | with_reducible assumption | intro _ | with_reducible apply Kept.answers | with_reducible apply State.farWrite_kept
    | with_reducible apply State.packet_kept | with_reducible apply State.served_kept | split)

theorem State.uopPerform_kept {s0 : State} {s : State} {y0 : HeldUop} (h0 : Kept s0 s) :
    Kept s0 (State.uopPerform s y0) := by
  unfold State.uopPerform
  repeat' (first
    | with_reducible assumption | intro _
    | (extract_lets +onlyGivenNames x1; have hx1 : Kept s0 x1 := ?_; clear_value x1; revert x1; intro _ _; rotate_left; unfold x1; clear x1)
    | (extract_lets +onlyGivenNames x1; (fail_if_success have _f := fun a => x1 a); clear_value x1; revert x1; intro _)
    | with_reducible apply State.chainSend_kept | with_reducible apply State.readUnits_kept
    | with_reducible apply State.answered_kept | with_reducible apply State.handAll_kept | split
    | with_reducible apply Kept.foldl)

theorem State.uopsGo_kept {s0 : State} {s : State} (h0 : Kept s0 s) :
    Kept s0 (State.uopsGo s) := by
  unfold State.uopsGo
  repeat' (first
    | with_reducible assumption | intro _ | with_reducible apply State.uopPerform_kept | split | dsimp only
    | with_reducible apply Kept.foldl | (rw [State.lit_eq]; with_reducible refine Kept.mk' ?_ rfl))

theorem State.replayDo_kept {s0 : State} {s : State} {c : HCmd} (h0 : Kept s0 s) :
    Kept s0 (State.replayDo s c).2 := by
  unfold State.replayDo
  repeat' (first
    | with_reducible assumption | with_reducible apply State.hostDo_kept | with_reducible apply State.replayBind_kept
    | with_reducible apply State.tretWrite_kept | split | dsimp only
    | with_reducible refine Kept.pair ?_ (by assumption))

theorem State.uopArrive_kept {s0 : State} {s : State} {hd : PktHead} {r : UnitReq} {leaves : List Word}
    {st : Option (Stamp × BitVec 2)} (h0 : Kept s0 s) :
    Kept s0 (State.uopArrive s hd r leaves st) := by
  unfold State.uopArrive
  repeat' (first
    | with_reducible assumption | intro _
    | (extract_lets +onlyGivenNames x1; have hx1 : Kept s0 x1 := ?_; clear_value x1; revert x1; intro _ _; rotate_left; unfold x1; clear x1)
    | (extract_lets +onlyGivenNames x1; (fail_if_success have _f := fun a => x1 a); clear_value x1; revert x1; intro _)
    | with_reducible apply State.tileWake_kept | with_reducible apply State.uopPerform_kept
    | with_reducible apply State.mirror_kept | split | with_reducible apply Kept.foldl
    | (rw [State.lit_eq]; with_reducible refine Kept.mk' ?_ rfl))

theorem State.replayEntry_kept {s0 : State} {s : State} {d : List Byte} {payload : List Byte} (h0 : Kept s0 s) :
    Kept s0 (State.replayEntry s d payload).2 := by
  unfold State.replayEntry
  repeat' (first
    | with_reducible assumption
    | (extract_lets +onlyGivenNames x1; have hx1 : Kept s0 x1 := ?_; clear_value x1; revert x1; intro _ _; rotate_left; unfold x1; clear x1)
    | (extract_lets +onlyGivenNames x1; (fail_if_success have _f := fun a => x1 a); clear_value x1; revert x1; intro _)
    | with_reducible apply State.setF_kept | with_reducible apply State.nvmQueue_kept
    | with_reducible apply State.replayEpochs_kept | with_reducible apply State.replayDo_kept | split | dsimp only
    | with_reducible refine Kept.pair ?_ (by assumption) | (rw [State.lit_eq]; with_reducible refine Kept.mk' ?_ rfl))

theorem execUop_kept {s0 : State} {rx : Rx} {hd : PktHead} {r : UnitReq} {leaves : List Word}
    {st : Option (Stamp × BitVec 2)} {s : State} (h0 : Kept s0 s) :
    NextAll (Kept s0) (execUop rx hd r leaves st s) := by
  unfold execUop
  repeat' (first
    | with_reducible assumption | intro _ | with_reducible apply Kept.answers | with_reducible apply State.chainSend_kept
    | with_reducible apply State.packet_kept | with_reducible apply State.uopArrive_kept | split)

theorem State.xferApply_kept {s0 : State} {s : State} {m : XferMsg} (h0 : Kept s0 s) :
    Kept s0 (State.xferApply s m).2 := by
  unfold State.xferApply
  repeat' (first
    | with_reducible assumption
    | (extract_lets +onlyGivenNames x1; have hx1 : Kept s0 x1 := ?_; clear_value x1; revert x1; intro _ _; rotate_left; unfold x1; clear x1)
    | (extract_lets +onlyGivenNames x1; (fail_if_success have _f := fun a => x1 a); clear_value x1; revert x1; intro _)
    | with_reducible apply State.lgcSect_kept | with_reducible apply State.setF_kept
    | with_reducible apply State.replayEntry_kept | with_reducible apply State.transferRegs_kept
    | with_reducible apply State.put_kept | with_reducible apply State.replayEpochs_kept
    | with_reducible apply State.windowsNow_kept | with_reducible apply State.memWrite_kept
    | with_reducible apply State.setHead_kept | split | dsimp only
    | (rw [State.lit_eq]; with_reducible refine Kept.mk' ?_ rfl))

theorem execReplay_kept {s0 : State} {payload : Option (List Byte)} {s : State} (h0 : Kept s0 s) :
    NextAll (Kept s0) (execReplay payload s) := by
  unfold execReplay
  repeat' (first
    | with_reducible assumption
    | (extract_lets +onlyGivenNames x1; (fail_if_success have _f := fun a => x1 a); clear_value x1; revert x1; intro _)
    | with_reducible apply Kept.answers | with_reducible apply State.mapCmd_kept
    | with_reducible apply State.replayEntry_kept | with_reducible apply State.readEnd_kept
    | with_reducible apply State.catchFail_kept | split | with_reducible refine Kept.pair ?_ (by assumption))

theorem execState_kept {s0 : State} {s : State} (h0 : Kept s0 s) :
    NextAll (Kept s0) (execState s) := by
  unfold execState
  repeat' (first
    | with_reducible assumption | with_reducible apply Kept.answers | with_reducible apply State.xferApply_kept
    | with_reducible apply State.readEnd_kept | with_reducible apply State.catchFail_kept | split
    | with_reducible refine Kept.pair ?_ (by assumption))

theorem State.mirrored_kept {s0 : State} {s : State} {m : TwinMsg} (h0 : Kept s0 s) :
    Kept s0 (State.mirrored s m) := by
  unfold State.mirrored
  repeat' (first
    | with_reducible assumption
    | (extract_lets +onlyGivenNames x1; (fail_if_success have _f := fun a => x1 a); clear_value x1; revert x1; intro _)
    | with_reducible apply State.setF_kept | with_reducible apply State.farWrite_kept
    | with_reducible apply State.xferApply_kept | with_reducible apply State.uopArrive_kept
    | with_reducible apply State.mirrorUrsp_kept | with_reducible apply State.mirrorCmd_kept
    | with_reducible apply State.mirrorMrsp_kept | with_reducible apply State.bootBytes_kept | split
    | (rw [State.lit_eq]; with_reducible refine Kept.mk' ?_ rfl))

theorem execXferPacket_kept {s0 : State} {rx : Rx} {m : XferMsg} {s : State} (h0 : Kept s0 s) :
    NextAll (Kept s0) (execXferPacket rx m s) := by
  unfold execXferPacket
  repeat' (first
    | with_reducible assumption | intro _ | with_reducible apply Kept.answers | with_reducible apply State.packet_kept
    | with_reducible apply State.xferApply_kept | with_reducible apply State.catchFail_kept
    | with_reducible apply State.mirror_kept | split | with_reducible refine Kept.pair ?_ (by assumption))

theorem State.twinMsg_kept {s0 : State} {s : State} {m : TwinMsg} (h0 : Kept s0 s) :
    Kept s0 (State.twinMsg s m) := by
  cases m
  case attach g j =>
    have h1 := State.twinAttached_kept (gen := g.toNat) (jseq := j.toNat) h0
    exact Kept.ite h0 (Kept.ite (State.partnerSend_kept h1) h1)
  case swap b =>
    cases b
    · exact Kept.ite ⟨h0.pending, h0.canon⟩ h0
    · have h1 := State.takeOver_kept (cause := 4) h0
      exact Kept.ite (Kept.ite (State.twinResult_kept h1) h1) h0
  case detach => exact Kept.ite h0 (State.twinDetached_kept (Kept.ite (State.catchFail_kept h0) h0))
  case ready => exact Kept.ite ⟨h0.pending, h0.canon⟩ h0
  case epoch => exact h0
  case lost =>
    exact Kept.ite (State.mirrorLeaves_kept h0) h0
  case catchup => exact Kept.ite (State.feed_kept h0) h0
  all_goals exact Kept.ite (State.mirrored_kept h0) h0

theorem execTwinPacket_kept {s0 : State} {rx : Rx} {m : TwinMsg} {s : State} (h0 : Kept s0 s) :
    NextAll (Kept s0) (execTwinPacket rx m s) := by
  unfold execTwinPacket
  repeat' (first
    | with_reducible assumption | intro _ | with_reducible apply Kept.answers | with_reducible apply State.twinMsg_kept
    | with_reducible apply State.packet_kept)

theorem execEventRelease_kept {s0 : State} {s : State} (h0 : Kept s0 s) :
    NextAll (Kept s0) (execEventRelease s) := by
  unfold execEventRelease
  repeat' (first
    | with_reducible assumption
    | (extract_lets +onlyGivenNames x1; have hx1 : Kept s0 x1 := ?_; clear_value x1; revert x1; intro _ _; rotate_left; unfold x1; clear x1)
    | with_reducible apply Kept.answers | with_reducible apply State.hand_kept
    | with_reducible apply State.uopsGo_kept | with_reducible apply State.perform_kept | split
    | (rw [State.lit_eq]; with_reducible refine Kept.mk' ?_ rfl))

theorem execEpochApplyComplete_kept {s0 : State} {s : State} (h0 : Kept s0 s) :
    NextAll (Kept s0) (execEpochApplyComplete s) := by
  unfold execEpochApplyComplete
  repeat' (first
    | with_reducible assumption
    | (extract_lets +onlyGivenNames x1; have hx1 : Kept s0 x1 := ?_; clear_value x1; revert x1; intro _ _; rotate_left; unfold x1; clear x1)
    | with_reducible apply Kept.answers | with_reducible apply State.uopsGo_kept
    | with_reducible apply State.epComplete_kept | with_reducible apply State.feedState_kept | split)

theorem execWakeItemEnd_kept {s0 : State} {rank : Fin 7} {k : Fin 16} {s : State} (h0 : Kept s0 s) :
    NextAll (Kept s0) (execWakeItemEnd rank k s) := by
  unfold execWakeItemEnd
  repeat' (first
    | with_reducible assumption | intro _
    | (extract_lets +onlyGivenNames x1; have hx1 : Kept s0 x1 := ?_; clear_value x1; revert x1; intro _ _; rotate_left; unfold x1; clear x1)
    | with_reducible apply Kept.answers | with_reducible apply State.resumeCtx_kept
    | with_reducible apply State.uopsGo_kept | with_reducible apply State.bootAnswer_kept
    | with_reducible apply State.deliverHeld_kept | with_reducible apply State.wakeEnd_kept | split
    | with_reducible apply Kept.foldl)

theorem State.viewsTell_still {s0 : State} {s : State} (h0 : Still s0 s) :
    Still s0 (State.viewsTell s) := by
  unfold State.viewsTell
  repeat' (first
    | with_reducible assumption | intro _ | with_reducible apply State.msix_still | split | dsimp only
    | with_reducible apply Still.foldl | (rw [State.lit_eq]; with_reducible refine Still.mk' ?_ rfl))

theorem State.viewsTell_kept {s0 : State} {s : State} (h0 : Kept s0 s) :
    Kept s0 (State.viewsTell s) :=
  h0.still (State.viewsTell_still (Still.refl _))

theorem State.spansEnd_still {s0 : State} {s : State} (h0 : Still s0 s) :
    Still s0 (State.spansEnd s) := by
  unfold State.spansEnd
  repeat' (first
    | with_reducible assumption
    | (extract_lets +onlyGivenNames x1; have hx1 : Still s0 x1 := ?_; clear_value x1; revert x1; intro _ _; rotate_left; unfold x1; clear x1)
    | with_reducible apply State.fltMicro_still | with_reducible apply State.cxbMs_still
    | with_reducible apply State.eddyMs_still | split)

theorem State.spansEnd_kept {s0 : State} {s : State} (h0 : Kept s0 s) :
    Kept s0 (State.spansEnd s) :=
  h0.still (State.spansEnd_still (Still.refl _))

theorem State.loadsApply_still {s0 : State} {s : State} (h0 : Still s0 s) :
    Still s0 (State.loadsApply s) := by
  unfold State.loadsApply
  repeat' (first
    | with_reducible assumption | intro _ | with_reducible apply State.ctrApply_still | with_reducible apply Still.foldl)

theorem State.loadsApply_kept {s0 : State} {s : State} (h0 : Kept s0 s) :
    Kept s0 (State.loadsApply s) :=
  h0.still (State.loadsApply_still (Still.refl _))

theorem State.tick_kept {s0 : State} {s : State} (h0 : Kept s0 s) :
    Kept s0 (State.tick s) := by
  unfold State.tick
  repeat' (first
    | with_reducible assumption
    | (extract_lets +onlyGivenNames x1; have hx1 : Kept s0 x1 := ?_; clear_value x1; revert x1; intro _ _; rotate_left; unfold x1; clear x1)
    | (extract_lets +onlyGivenNames x1; (fail_if_success have _f := fun a => x1 a); clear_value x1; revert x1; intro _)
    | with_reducible apply State.tstElapsed_kept | with_reducible apply State.cvgTick_kept
    | with_reducible apply State.spansEnd_kept | with_reducible apply State.windowsWork_kept
    | with_reducible apply State.uopsGo_kept | with_reducible apply State.logFlush_kept
    | with_reducible apply State.fabricTick_kept | with_reducible apply State.angStep_kept
    | with_reducible apply State.viewsTell_kept | with_reducible apply State.weirTick_kept
    | with_reducible apply State.loadsApply_kept | with_reducible apply State.linesGo_kept
    | with_reducible apply State.twinStep_kept | split)

end Sys2Proof.Machine
end

