-- ==== Sys2Proof/Laws/State.lean ====
section
/-! SUPPORT. Every field of the state under every plain update, and what a register, a field of a register, a counter
or a context reads as after one: later proofs unfold no record update. -/

namespace Sys2Proof.Machine

/-! ### Fields of a register word -/

theorem fieldMask_bit (f : Field) (h : f.ok = true) (i : Nat) :
    (fieldMask f).getLsbD i = (decide (f.lo ≤ i) && decide (i ≤ f.hi)) := by
  simp only [Field.ok, Bool.and_eq_true, decide_eq_true_eq] at h
  have e : 2 ^ (f.hi + 1) - 2 ^ f.lo = (2 ^ (f.hi + 1 - f.lo) - 1) * 2 ^ f.lo := by
    rw [Nat.sub_mul, Nat.one_mul, ← Nat.pow_add]; congr 2; omega
  rw [fieldMask, BitVec.getLsbD_ofNat, e, Nat.testBit_mul_two_pow, Nat.testBit_two_pow_sub_one]
  by_cases h1 : f.lo ≤ i <;> by_cases h2 : i ≤ f.hi <;> simp [h1, h2] <;> omega

theorem fieldPut_bit (f : Field) (h : f.ok = true) (v : Word) (x i : Nat) :
    (fieldPut f v x).getLsbD i =
      if f.lo ≤ i ∧ i ≤ f.hi then x.testBit (i - f.lo) else v.getLsbD i := by
  have hm := fieldMask_bit f h i
  simp only [Field.ok, Bool.and_eq_true, decide_eq_true_eq] at h
  unfold fieldPut fieldWidth
  rw [BitVec.getLsbD_or, BitVec.getLsbD_and, BitVec.getLsbD_not, hm, BitVec.getLsbD_ofNat, Nat.testBit_mul_two_pow,
    Nat.testBit_mod_two_pow]
  by_cases h1 : f.lo ≤ i <;> by_cases h2 : i ≤ f.hi
  · have : i < 32 := by omega
    have h3 : i - f.lo < f.hi + 1 - f.lo := by omega
    simp [h1, h2, h3, this]
  · have h3 : ¬(i - f.lo < f.hi + 1 - f.lo) := by omega
    by_cases hi : i < 32
    · simp [h2, h3, hi]
    · simp [h2, h3, hi, BitVec.getLsbD_of_ge v i (by omega)]
  · by_cases hi : i < 32
    · simp [h1, hi]
    · simp [h1, hi, BitVec.getLsbD_of_ge v i (by omega)]
  · by_cases hi : i < 32
    · simp [h1, hi]
    · simp [h1, hi, BitVec.getLsbD_of_ge v i (by omega)]

theorem fieldGet_bit (f : Field) (v : Word) (i : Nat) :
    (fieldGet f v).testBit i = (decide (i < fieldWidth f) && v.getLsbD (i + f.lo)) := by
  rw [fieldGet, Nat.testBit_mod_two_pow, Nat.testBit_div_two_pow]; rfl

/-- A field reads what was put into it. -/
theorem fieldGet_put_same (f : Field) (v : Word) (x : Nat) (h : f.ok = true) :
    fieldGet f (fieldPut f v x) = x % 2 ^ fieldWidth f := by
  apply Nat.eq_of_testBit_eq
  intro i
  rw [fieldGet_bit, fieldPut_bit f h, Nat.testBit_mod_two_pow]
  simp only [Field.ok, Bool.and_eq_true, decide_eq_true_eq] at h
  unfold fieldWidth
  by_cases hi : i < f.hi + 1 - f.lo
  · have : i + f.lo ≤ f.hi := by omega
    simp [hi, this]
  · simp [hi]

/-- A field without a common bit reads what it read. -/
theorem fieldGet_put_other (f g : Field) (v : Word) (x : Nat) (hf : f.ok = true) (h : Field.apart f g = true) :
    fieldGet g (fieldPut f v x) = fieldGet g v := by
  apply Nat.eq_of_testBit_eq
  intro i
  rw [fieldGet_bit, fieldGet_bit, fieldPut_bit f hf]
  simp only [Field.ok, Field.apart, Bool.and_eq_true, Bool.or_eq_true, decide_eq_true_eq] at hf h
  unfold fieldWidth
  by_cases hi : i < g.hi + 1 - g.lo
  · have : ¬(f.lo ≤ i + g.lo ∧ i + g.lo ≤ f.hi) := by omega
    simp [this]
  · simp [hi]

/-! ### Registers, fields, counters, contexts after an update -/

theorem State.reg_put (s : State) (a k : Nat) (v : Word) : (s.put a v).reg k = if k = a then v else s.reg k :=
  tblGet_set _ s.regs a k v

@[simp] theorem State.reg_put_same (s : State) (a : Nat) (v : Word) : (s.put a v).reg a = v := by
  rw [State.reg_put, if_pos rfl]

theorem State.reg_put_other (s : State) (a k : Nat) (v : Word) (h : k ≠ a) : (s.put a v).reg k = s.reg k := by
  rw [State.reg_put, if_neg h]

theorem State.fld_put_other (s : State) (a k : Nat) (v : Word) (f : Field) (h : k ≠ a) :
    (s.put a v).fld k f = s.fld k f := by
  rw [State.fld, State.reg_put_other s a k v h, State.fld]

theorem State.reg_setF_other (s : State) (a k : Nat) (f : Field) (x : Nat) (h : k ≠ a) :
    (s.setF a f x).reg k = s.reg k := State.reg_put_other s a k _ h

theorem State.reg_setF_same (s : State) (a : Nat) (f : Field) (x : Nat) :
    (s.setF a f x).reg a = fieldPut f (s.reg a) x := State.reg_put_same s a _

/-- The field that was set. -/
theorem State.fld_setF_same (s : State) (a : Nat) (f : Field) (x : Nat) (h : f.ok = true) :
    (s.setF a f x).fld a f = x % 2 ^ fieldWidth f := by
  rw [State.fld, State.reg_setF_same, fieldGet_put_same f _ x h]

/-- Another field of the register that was set. -/
theorem State.fld_setF_apart (s : State) (a : Nat) (f g : Field) (x : Nat) (h : f.ok = true) (hg : Field.apart f g = true) :
    (s.setF a f x).fld a g = s.fld a g := by
  rw [State.fld, State.reg_setF_same, fieldGet_put_other f g _ x h hg, State.fld]

/-- A field of another register. -/
theorem State.fld_setF_other (s : State) (a k : Nat) (f g : Field) (x : Nat) (h : k ≠ a) :
    (s.setF a f x).fld k g = s.fld k g := State.fld_put_other s a k _ g h

@[simp] theorem State.setF_flag (s : State) (a : Nat) (f : Field) : s.flag a f = s.setF a f 1 := rfl

theorem State.bit_fld (s : State) (a : Nat) (f : Field) : s.bit a f = (s.fld a f != 0) := rfl

theorem State.ctr_setCtr (s : State) (a k : Nat) (c : Ctr) : (s.setCtr a c).ctr k = if k = a then c else s.ctr k :=
  tblGet_set _ s.ctrs a k c

@[simp] theorem State.ctr_setCtr_same (s : State) (a : Nat) (c : Ctr) : (s.setCtr a c).ctr a = c := by
  rw [State.ctr_setCtr, if_pos rfl]

theorem State.ctx_setCtx (s : State) (c d : Nat) (x : Ctx) : (s.setCtx c x).ctx d = if d = c then x else s.ctx d :=
  tblGet_set _ s.ctxs c d x

@[simp] theorem State.ctx_setCtx_same (s : State) (c : Nat) (x : Ctx) : (s.setCtx c x).ctx c = x := by
  rw [State.ctx_setCtx, if_pos rfl]

theorem State.shReg_stage (s : State) (a k : Nat) (v : Word) :
    (s.stage a v).shReg k = if k = a then v else s.shReg k := by
  unfold State.shReg State.stage
  rw [tblGet_put]; rfl

/-- The value of a counter after one count with no load on its way (R50). -/
theorem State.ctr_inc (s : State) (a k : Nat) (h : tblGet (fun _ => none) s.ctrLoad a = none) :
    (s.inc a).ctr k =
      if k = a then ⟨(s.ctr a).count + 1, (s.ctr a).ovf || (s.ctr a).count == BitVec.allOnes 48⟩ else s.ctr k := by
  unfold State.inc State.ctrApply
  rw [h]
  exact State.ctr_setCtr s a k _

/-! ### Fields of the state under the plain updates -/

@[simp] theorem State.put_staged (s : State) (a : Nat) (v : Word) : (s.put a v).staged = s.staged := rfl
@[simp] theorem State.put_ctrs (s : State) (a : Nat) (v : Word) : (s.put a v).ctrs = s.ctrs := rfl
@[simp] theorem State.put_ctrShadow (s : State) (a : Nat) (v : Word) : (s.put a v).ctrShadow = s.ctrShadow := rfl
@[simp] theorem State.put_ctrHold (s : State) (a : Nat) (v : Word) : (s.put a v).ctrHold = s.ctrHold := rfl
@[simp] theorem State.put_ctrLoad (s : State) (a : Nat) (v : Word) : (s.put a v).ctrLoad = s.ctrLoad := rfl
@[simp] theorem State.put_reply (s : State) (a : Nat) (v : Word) : (s.put a v).reply = s.reply := rfl
@[simp] theorem State.put_freeIx (s : State) (a : Nat) (v : Word) : (s.put a v).freeIx = s.freeIx := rfl
@[simp] theorem State.put_ang (s : State) (a : Nat) (v : Word) : (s.put a v).ang = s.ang := rfl
@[simp] theorem State.put_ep (s : State) (a : Nat) (v : Word) : (s.put a v).ep = s.ep := rfl
@[simp] theorem State.put_stq (s : State) (a : Nat) (v : Word) : (s.put a v).stq = s.stq := rfl
@[simp] theorem State.put_irq (s : State) (a : Nat) (v : Word) : (s.put a v).irq = s.irq := rfl
@[simp] theorem State.put_mchk (s : State) (a : Nat) (v : Word) : (s.put a v).mchk = s.mchk := rfl
@[simp] theorem State.put_ctxs (s : State) (a : Nat) (v : Word) : (s.put a v).ctxs = s.ctxs := rfl
@[simp] theorem State.put_supState (s : State) (a : Nat) (v : Word) : (s.put a v).supState = s.supState := rfl
@[simp] theorem State.put_pins (s : State) (a : Nat) (v : Word) : (s.put a v).pins = s.pins := rfl
@[simp] theorem State.put_host (s : State) (a : Nat) (v : Word) : (s.put a v).host = s.host := rfl
@[simp] theorem State.put_jnl (s : State) (a : Nat) (v : Word) : (s.put a v).jnl = s.jnl := rfl
@[simp] theorem State.put_cmpd (s : State) (a : Nat) (v : Word) : (s.put a v).cmpd = s.cmpd := rfl
@[simp] theorem State.put_cmpdStaged (s : State) (a : Nat) (v : Word) : (s.put a v).cmpdStaged = s.cmpdStaged := rfl
@[simp] theorem State.put_caches (s : State) (a : Nat) (v : Word) : (s.put a v).caches = s.caches := rfl
@[simp] theorem State.put_cxb (s : State) (a : Nat) (v : Word) : (s.put a v).cxb = s.cxb := rfl
@[simp] theorem State.put_cells (s : State) (a : Nat) (v : Word) : (s.put a v).cells = s.cells := rfl
@[simp] theorem State.put_groups (s : State) (a : Nat) (v : Word) : (s.put a v).groups = s.groups := rfl
@[simp] theorem State.put_chans (s : State) (a : Nat) (v : Word) : (s.put a v).chans = s.chans := rfl
@[simp] theorem State.put_engines (s : State) (a : Nat) (v : Word) : (s.put a v).engines = s.engines := rfl
@[simp] theorem State.put_pulses (s : State) (a : Nat) (v : Word) : (s.put a v).pulses = s.pulses := rfl
@[simp] theorem State.put_pairs (s : State) (a : Nat) (v : Word) : (s.put a v).pairs = s.pairs := rfl
@[simp] theorem State.put_budget (s : State) (a : Nat) (v : Word) : (s.put a v).budget = s.budget := rfl
@[simp] theorem State.put_learns (s : State) (a : Nat) (v : Word) : (s.put a v).learns = s.learns := rfl
@[simp] theorem State.put_mem (s : State) (a : Nat) (v : Word) : (s.put a v).mem = s.mem := rfl
@[simp] theorem State.put_lgc (s : State) (a : Nat) (v : Word) : (s.put a v).lgc = s.lgc := rfl
@[simp] theorem State.put_leat (s : State) (a : Nat) (v : Word) : (s.put a v).leat = s.leat := rfl
@[simp] theorem State.put_twin (s : State) (a : Nat) (v : Word) : (s.put a v).twin = s.twin := rfl
@[simp] theorem State.put_boot (s : State) (a : Nat) (v : Word) : (s.put a v).boot = s.boot := rfl
@[simp] theorem State.put_cal (s : State) (a : Nat) (v : Word) : (s.put a v).cal = s.cal := rfl
@[simp] theorem State.put_pwr (s : State) (a : Nat) (v : Word) : (s.put a v).pwr = s.pwr := rfl
@[simp] theorem State.put_tst (s : State) (a : Nat) (v : Word) : (s.put a v).tst = s.tst := rfl
@[simp] theorem State.put_tap (s : State) (a : Nat) (v : Word) : (s.put a v).tap = s.tap := rfl
@[simp] theorem State.put_health (s : State) (a : Nat) (v : Word) : (s.put a v).health = s.health := rfl
@[simp] theorem State.put_out (s : State) (a : Nat) (v : Word) : (s.put a v).out = s.out := rfl
@[simp] theorem State.put_pending (s : State) (a : Nat) (v : Word) : (s.put a v).pending = s.pending := rfl
@[simp] theorem State.setF_staged (s : State) (a : Nat) (f : Field) (x : Nat) : (s.setF a f x).staged = s.staged := rfl
@[simp] theorem State.setF_ctrs (s : State) (a : Nat) (f : Field) (x : Nat) : (s.setF a f x).ctrs = s.ctrs := rfl
@[simp] theorem State.setF_ctrShadow (s : State) (a : Nat) (f : Field) (x : Nat) : (s.setF a f x).ctrShadow = s.ctrShadow := rfl
@[simp] theorem State.setF_ctrHold (s : State) (a : Nat) (f : Field) (x : Nat) : (s.setF a f x).ctrHold = s.ctrHold := rfl
@[simp] theorem State.setF_ctrLoad (s : State) (a : Nat) (f : Field) (x : Nat) : (s.setF a f x).ctrLoad = s.ctrLoad := rfl
@[simp] theorem State.setF_reply (s : State) (a : Nat) (f : Field) (x : Nat) : (s.setF a f x).reply = s.reply := rfl
@[simp] theorem State.setF_freeIx (s : State) (a : Nat) (f : Field) (x : Nat) : (s.setF a f x).freeIx = s.freeIx := rfl
@[simp] theorem State.setF_ang (s : State) (a : Nat) (f : Field) (x : Nat) : (s.setF a f x).ang = s.ang := rfl
@[simp] theorem State.setF_ep (s : State) (a : Nat) (f : Field) (x : Nat) : (s.setF a f x).ep = s.ep := rfl
@[simp] theorem State.setF_stq (s : State) (a : Nat) (f : Field) (x : Nat) : (s.setF a f x).stq = s.stq := rfl
@[simp] theorem State.setF_irq (s : State) (a : Nat) (f : Field) (x : Nat) : (s.setF a f x).irq = s.irq := rfl
@[simp] theorem State.setF_mchk (s : State) (a : Nat) (f : Field) (x : Nat) : (s.setF a f x).mchk = s.mchk := rfl
@[simp] theorem State.setF_ctxs (s : State) (a : Nat) (f : Field) (x : Nat) : (s.setF a f x).ctxs = s.ctxs := rfl
@[simp] theorem State.setF_supState (s : State) (a : Nat) (f : Field) (x : Nat) : (s.setF a f x).supState = s.supState := rfl
@[simp] theorem State.setF_pins (s : State) (a : Nat) (f : Field) (x : Nat) : (s.setF a f x).pins = s.pins := rfl
@[simp] theorem State.setF_host (s : State) (a : Nat) (f : Field) (x : Nat) : (s.setF a f x).host = s.host := rfl
@[simp] theorem State.setF_jnl (s : State) (a : Nat) (f : Field) (x : Nat) : (s.setF a f x).jnl = s.jnl := rfl
@[simp] theorem State.setF_cmpd (s : State) (a : Nat) (f : Field) (x : Nat) : (s.setF a f x).cmpd = s.cmpd := rfl
@[simp] theorem State.setF_cmpdStaged (s : State) (a : Nat) (f : Field) (x : Nat) : (s.setF a f x).cmpdStaged = s.cmpdStaged := rfl
@[simp] theorem State.setF_caches (s : State) (a : Nat) (f : Field) (x : Nat) : (s.setF a f x).caches = s.caches := rfl
@[simp] theorem State.setF_cxb (s : State) (a : Nat) (f : Field) (x : Nat) : (s.setF a f x).cxb = s.cxb := rfl
@[simp] theorem State.setF_cells (s : State) (a : Nat) (f : Field) (x : Nat) : (s.setF a f x).cells = s.cells := rfl
@[simp] theorem State.setF_groups (s : State) (a : Nat) (f : Field) (x : Nat) : (s.setF a f x).groups = s.groups := rfl
@[simp] theorem State.setF_chans (s : State) (a : Nat) (f : Field) (x : Nat) : (s.setF a f x).chans = s.chans := rfl
@[simp] theorem State.setF_engines (s : State) (a : Nat) (f : Field) (x : Nat) : (s.setF a f x).engines = s.engines := rfl
@[simp] theorem State.setF_pulses (s : State) (a : Nat) (f : Field) (x : Nat) : (s.setF a f x).pulses = s.pulses := rfl
@[simp] theorem State.setF_pairs (s : State) (a : Nat) (f : Field) (x : Nat) : (s.setF a f x).pairs = s.pairs := rfl
@[simp] theorem State.setF_budget (s : State) (a : Nat) (f : Field) (x : Nat) : (s.setF a f x).budget = s.budget := rfl
@[simp] theorem State.setF_learns (s : State) (a : Nat) (f : Field) (x : Nat) : (s.setF a f x).learns = s.learns := rfl
@[simp] theorem State.setF_mem (s : State) (a : Nat) (f : Field) (x : Nat) : (s.setF a f x).mem = s.mem := rfl
@[simp] theorem State.setF_lgc (s : State) (a : Nat) (f : Field) (x : Nat) : (s.setF a f x).lgc = s.lgc := rfl
@[simp] theorem State.setF_leat (s : State) (a : Nat) (f : Field) (x : Nat) : (s.setF a f x).leat = s.leat := rfl
@[simp] theorem State.setF_twin (s : State) (a : Nat) (f : Field) (x : Nat) : (s.setF a f x).twin = s.twin := rfl
@[simp] theorem State.setF_boot (s : State) (a : Nat) (f : Field) (x : Nat) : (s.setF a f x).boot = s.boot := rfl
@[simp] theorem State.setF_cal (s : State) (a : Nat) (f : Field) (x : Nat) : (s.setF a f x).cal = s.cal := rfl
@[simp] theorem State.setF_pwr (s : State) (a : Nat) (f : Field) (x : Nat) : (s.setF a f x).pwr = s.pwr := rfl
@[simp] theorem State.setF_tst (s : State) (a : Nat) (f : Field) (x : Nat) : (s.setF a f x).tst = s.tst := rfl
@[simp] theorem State.setF_tap (s : State) (a : Nat) (f : Field) (x : Nat) : (s.setF a f x).tap = s.tap := rfl
@[simp] theorem State.setF_health (s : State) (a : Nat) (f : Field) (x : Nat) : (s.setF a f x).health = s.health := rfl
@[simp] theorem State.setF_out (s : State) (a : Nat) (f : Field) (x : Nat) : (s.setF a f x).out = s.out := rfl
@[simp] theorem State.setF_pending (s : State) (a : Nat) (f : Field) (x : Nat) : (s.setF a f x).pending = s.pending := rfl
@[simp] theorem State.stage_regs (s : State) (a : Nat) (v : Word) : (s.stage a v).regs = s.regs := rfl
@[simp] theorem State.stage_ctrs (s : State) (a : Nat) (v : Word) : (s.stage a v).ctrs = s.ctrs := rfl
@[simp] theorem State.stage_ctrShadow (s : State) (a : Nat) (v : Word) : (s.stage a v).ctrShadow = s.ctrShadow := rfl
@[simp] theorem State.stage_ctrHold (s : State) (a : Nat) (v : Word) : (s.stage a v).ctrHold = s.ctrHold := rfl
@[simp] theorem State.stage_ctrLoad (s : State) (a : Nat) (v : Word) : (s.stage a v).ctrLoad = s.ctrLoad := rfl
@[simp] theorem State.stage_reply (s : State) (a : Nat) (v : Word) : (s.stage a v).reply = s.reply := rfl
@[simp] theorem State.stage_freeIx (s : State) (a : Nat) (v : Word) : (s.stage a v).freeIx = s.freeIx := rfl
@[simp] theorem State.stage_ang (s : State) (a : Nat) (v : Word) : (s.stage a v).ang = s.ang := rfl
@[simp] theorem State.stage_ep (s : State) (a : Nat) (v : Word) : (s.stage a v).ep = s.ep := rfl
@[simp] theorem State.stage_stq (s : State) (a : Nat) (v : Word) : (s.stage a v).stq = s.stq := rfl
@[simp] theorem State.stage_irq (s : State) (a : Nat) (v : Word) : (s.stage a v).irq = s.irq := rfl
@[simp] theorem State.stage_mchk (s : State) (a : Nat) (v : Word) : (s.stage a v).mchk = s.mchk := rfl
@[simp] theorem State.stage_ctxs (s : State) (a : Nat) (v : Word) : (s.stage a v).ctxs = s.ctxs := rfl
@[simp] theorem State.stage_supState (s : State) (a : Nat) (v : Word) : (s.stage a v).supState = s.supState := rfl
@[simp] theorem State.stage_pins (s : State) (a : Nat) (v : Word) : (s.stage a v).pins = s.pins := rfl
@[simp] theorem State.stage_host (s : State) (a : Nat) (v : Word) : (s.stage a v).host = s.host := rfl
@[simp] theorem State.stage_jnl (s : State) (a : Nat) (v : Word) : (s.stage a v).jnl = s.jnl := rfl
@[simp] theorem State.stage_cmpd (s : State) (a : Nat) (v : Word) : (s.stage a v).cmpd = s.cmpd := rfl
@[simp] theorem State.stage_cmpdStaged (s : State) (a : Nat) (v : Word) : (s.stage a v).cmpdStaged = s.cmpdStaged := rfl
@[simp] theorem State.stage_caches (s : State) (a : Nat) (v : Word) : (s.stage a v).caches = s.caches := rfl
@[simp] theorem State.stage_cxb (s : State) (a : Nat) (v : Word) : (s.stage a v).cxb = s.cxb := rfl
@[simp] theorem State.stage_cells (s : State) (a : Nat) (v : Word) : (s.stage a v).cells = s.cells := rfl
@[simp] theorem State.stage_groups (s : State) (a : Nat) (v : Word) : (s.stage a v).groups = s.groups := rfl
@[simp] theorem State.stage_chans (s : State) (a : Nat) (v : Word) : (s.stage a v).chans = s.chans := rfl
@[simp] theorem State.stage_engines (s : State) (a : Nat) (v : Word) : (s.stage a v).engines = s.engines := rfl
@[simp] theorem State.stage_pulses (s : State) (a : Nat) (v : Word) : (s.stage a v).pulses = s.pulses := rfl
@[simp] theorem State.stage_pairs (s : State) (a : Nat) (v : Word) : (s.stage a v).pairs = s.pairs := rfl
@[simp] theorem State.stage_budget (s : State) (a : Nat) (v : Word) : (s.stage a v).budget = s.budget := rfl
@[simp] theorem State.stage_learns (s : State) (a : Nat) (v : Word) : (s.stage a v).learns = s.learns := rfl
@[simp] theorem State.stage_mem (s : State) (a : Nat) (v : Word) : (s.stage a v).mem = s.mem := rfl
@[simp] theorem State.stage_lgc (s : State) (a : Nat) (v : Word) : (s.stage a v).lgc = s.lgc := rfl
@[simp] theorem State.stage_leat (s : State) (a : Nat) (v : Word) : (s.stage a v).leat = s.leat := rfl
@[simp] theorem State.stage_twin (s : State) (a : Nat) (v : Word) : (s.stage a v).twin = s.twin := rfl
@[simp] theorem State.stage_boot (s : State) (a : Nat) (v : Word) : (s.stage a v).boot = s.boot := rfl
@[simp] theorem State.stage_cal (s : State) (a : Nat) (v : Word) : (s.stage a v).cal = s.cal := rfl
@[simp] theorem State.stage_pwr (s : State) (a : Nat) (v : Word) : (s.stage a v).pwr = s.pwr := rfl
@[simp] theorem State.stage_tst (s : State) (a : Nat) (v : Word) : (s.stage a v).tst = s.tst := rfl
@[simp] theorem State.stage_tap (s : State) (a : Nat) (v : Word) : (s.stage a v).tap = s.tap := rfl
@[simp] theorem State.stage_health (s : State) (a : Nat) (v : Word) : (s.stage a v).health = s.health := rfl
@[simp] theorem State.stage_out (s : State) (a : Nat) (v : Word) : (s.stage a v).out = s.out := rfl
@[simp] theorem State.stage_pending (s : State) (a : Nat) (v : Word) : (s.stage a v).pending = s.pending := rfl
@[simp] theorem State.setCtr_regs (s : State) (a : Nat) (c : Ctr) : (s.setCtr a c).regs = s.regs := rfl
@[simp] theorem State.setCtr_staged (s : State) (a : Nat) (c : Ctr) : (s.setCtr a c).staged = s.staged := rfl
@[simp] theorem State.setCtr_ctrShadow (s : State) (a : Nat) (c : Ctr) : (s.setCtr a c).ctrShadow = s.ctrShadow := rfl
@[simp] theorem State.setCtr_ctrHold (s : State) (a : Nat) (c : Ctr) : (s.setCtr a c).ctrHold = s.ctrHold := rfl
@[simp] theorem State.setCtr_ctrLoad (s : State) (a : Nat) (c : Ctr) : (s.setCtr a c).ctrLoad = s.ctrLoad := rfl
@[simp] theorem State.setCtr_reply (s : State) (a : Nat) (c : Ctr) : (s.setCtr a c).reply = s.reply := rfl
@[simp] theorem State.setCtr_freeIx (s : State) (a : Nat) (c : Ctr) : (s.setCtr a c).freeIx = s.freeIx := rfl
@[simp] theorem State.setCtr_ang (s : State) (a : Nat) (c : Ctr) : (s.setCtr a c).ang = s.ang := rfl
@[simp] theorem State.setCtr_ep (s : State) (a : Nat) (c : Ctr) : (s.setCtr a c).ep = s.ep := rfl
@[simp] theorem State.setCtr_stq (s : State) (a : Nat) (c : Ctr) : (s.setCtr a c).stq = s.stq := rfl
@[simp] theorem State.setCtr_irq (s : State) (a : Nat) (c : Ctr) : (s.setCtr a c).irq = s.irq := rfl
@[simp] theorem State.setCtr_mchk (s : State) (a : Nat) (c : Ctr) : (s.setCtr a c).mchk = s.mchk := rfl
@[simp] theorem State.setCtr_ctxs (s : State) (a : Nat) (c : Ctr) : (s.setCtr a c).ctxs = s.ctxs := rfl
@[simp] theorem State.setCtr_supState (s : State) (a : Nat) (c : Ctr) : (s.setCtr a c).supState = s.supState := rfl
@[simp] theorem State.setCtr_pins (s : State) (a : Nat) (c : Ctr) : (s.setCtr a c).pins = s.pins := rfl
@[simp] theorem State.setCtr_host (s : State) (a : Nat) (c : Ctr) : (s.setCtr a c).host = s.host := rfl
@[simp] theorem State.setCtr_jnl (s : State) (a : Nat) (c : Ctr) : (s.setCtr a c).jnl = s.jnl := rfl
@[simp] theorem State.setCtr_cmpd (s : State) (a : Nat) (c : Ctr) : (s.setCtr a c).cmpd = s.cmpd := rfl
@[simp] theorem State.setCtr_cmpdStaged (s : State) (a : Nat) (c : Ctr) : (s.setCtr a c).cmpdStaged = s.cmpdStaged := rfl
@[simp] theorem State.setCtr_caches (s : State) (a : Nat) (c : Ctr) : (s.setCtr a c).caches = s.caches := rfl
@[simp] theorem State.setCtr_cxb (s : State) (a : Nat) (c : Ctr) : (s.setCtr a c).cxb = s.cxb := rfl
@[simp] theorem State.setCtr_cells (s : State) (a : Nat) (c : Ctr) : (s.setCtr a c).cells = s.cells := rfl
@[simp] theorem State.setCtr_groups (s : State) (a : Nat) (c : Ctr) : (s.setCtr a c).groups = s.groups := rfl
@[simp] theorem State.setCtr_chans (s : State) (a : Nat) (c : Ctr) : (s.setCtr a c).chans = s.chans := rfl
@[simp] theorem State.setCtr_engines (s : State) (a : Nat) (c : Ctr) : (s.setCtr a c).engines = s.engines := rfl
@[simp] theorem State.setCtr_pulses (s : State) (a : Nat) (c : Ctr) : (s.setCtr a c).pulses = s.pulses := rfl
@[simp] theorem State.setCtr_pairs (s : State) (a : Nat) (c : Ctr) : (s.setCtr a c).pairs = s.pairs := rfl
@[simp] theorem State.setCtr_budget (s : State) (a : Nat) (c : Ctr) : (s.setCtr a c).budget = s.budget := rfl
@[simp] theorem State.setCtr_learns (s : State) (a : Nat) (c : Ctr) : (s.setCtr a c).learns = s.learns := rfl
@[simp] theorem State.setCtr_mem (s : State) (a : Nat) (c : Ctr) : (s.setCtr a c).mem = s.mem := rfl
@[simp] theorem State.setCtr_lgc (s : State) (a : Nat) (c : Ctr) : (s.setCtr a c).lgc = s.lgc := rfl
@[simp] theorem State.setCtr_leat (s : State) (a : Nat) (c : Ctr) : (s.setCtr a c).leat = s.leat := rfl
@[simp] theorem State.setCtr_twin (s : State) (a : Nat) (c : Ctr) : (s.setCtr a c).twin = s.twin := rfl
@[simp] theorem State.setCtr_boot (s : State) (a : Nat) (c : Ctr) : (s.setCtr a c).boot = s.boot := rfl
@[simp] theorem State.setCtr_cal (s : State) (a : Nat) (c : Ctr) : (s.setCtr a c).cal = s.cal := rfl
@[simp] theorem State.setCtr_pwr (s : State) (a : Nat) (c : Ctr) : (s.setCtr a c).pwr = s.pwr := rfl
@[simp] theorem State.setCtr_tst (s : State) (a : Nat) (c : Ctr) : (s.setCtr a c).tst = s.tst := rfl
@[simp] theorem State.setCtr_tap (s : State) (a : Nat) (c : Ctr) : (s.setCtr a c).tap = s.tap := rfl
@[simp] theorem State.setCtr_health (s : State) (a : Nat) (c : Ctr) : (s.setCtr a c).health = s.health := rfl
@[simp] theorem State.setCtr_out (s : State) (a : Nat) (c : Ctr) : (s.setCtr a c).out = s.out := rfl
@[simp] theorem State.setCtr_pending (s : State) (a : Nat) (c : Ctr) : (s.setCtr a c).pending = s.pending := rfl
@[simp] theorem State.occur_regs (s : State) (n : Nat) : (s.occur n).regs = s.regs := rfl
@[simp] theorem State.occur_staged (s : State) (n : Nat) : (s.occur n).staged = s.staged := rfl
@[simp] theorem State.occur_ctrs (s : State) (n : Nat) : (s.occur n).ctrs = s.ctrs := rfl
@[simp] theorem State.occur_ctrShadow (s : State) (n : Nat) : (s.occur n).ctrShadow = s.ctrShadow := rfl
@[simp] theorem State.occur_ctrHold (s : State) (n : Nat) : (s.occur n).ctrHold = s.ctrHold := rfl
@[simp] theorem State.occur_ctrLoad (s : State) (n : Nat) : (s.occur n).ctrLoad = s.ctrLoad := rfl
@[simp] theorem State.occur_reply (s : State) (n : Nat) : (s.occur n).reply = s.reply := rfl
@[simp] theorem State.occur_freeIx (s : State) (n : Nat) : (s.occur n).freeIx = s.freeIx := rfl
@[simp] theorem State.occur_ang (s : State) (n : Nat) : (s.occur n).ang = s.ang := rfl
@[simp] theorem State.occur_ep (s : State) (n : Nat) : (s.occur n).ep = s.ep := rfl
@[simp] theorem State.occur_stq (s : State) (n : Nat) : (s.occur n).stq = s.stq := rfl
@[simp] theorem State.occur_mchk (s : State) (n : Nat) : (s.occur n).mchk = s.mchk := rfl
@[simp] theorem State.occur_ctxs (s : State) (n : Nat) : (s.occur n).ctxs = s.ctxs := rfl
@[simp] theorem State.occur_supState (s : State) (n : Nat) : (s.occur n).supState = s.supState := rfl
@[simp] theorem State.occur_pins (s : State) (n : Nat) : (s.occur n).pins = s.pins := rfl
@[simp] theorem State.occur_host (s : State) (n : Nat) : (s.occur n).host = s.host := rfl
@[simp] theorem State.occur_jnl (s : State) (n : Nat) : (s.occur n).jnl = s.jnl := rfl
@[simp] theorem State.occur_cmpd (s : State) (n : Nat) : (s.occur n).cmpd = s.cmpd := rfl
@[simp] theorem State.occur_cmpdStaged (s : State) (n : Nat) : (s.occur n).cmpdStaged = s.cmpdStaged := rfl
@[simp] theorem State.occur_caches (s : State) (n : Nat) : (s.occur n).caches = s.caches := rfl
@[simp] theorem State.occur_cxb (s : State) (n : Nat) : (s.occur n).cxb = s.cxb := rfl
@[simp] theorem State.occur_cells (s : State) (n : Nat) : (s.occur n).cells = s.cells := rfl
@[simp] theorem State.occur_groups (s : State) (n : Nat) : (s.occur n).groups = s.groups := rfl
@[simp] theorem State.occur_chans (s : State) (n : Nat) : (s.occur n).chans = s.chans := rfl
@[simp] theorem State.occur_engines (s : State) (n : Nat) : (s.occur n).engines = s.engines := rfl
@[simp] theorem State.occur_pulses (s : State) (n : Nat) : (s.occur n).pulses = s.pulses := rfl
@[simp] theorem State.occur_pairs (s : State) (n : Nat) : (s.occur n).pairs = s.pairs := rfl
@[simp] theorem State.occur_budget (s : State) (n : Nat) : (s.occur n).budget = s.budget := rfl
@[simp] theorem State.occur_learns (s : State) (n : Nat) : (s.occur n).learns = s.learns := rfl
@[simp] theorem State.occur_mem (s : State) (n : Nat) : (s.occur n).mem = s.mem := rfl
@[simp] theorem State.occur_lgc (s : State) (n : Nat) : (s.occur n).lgc = s.lgc := rfl
@[simp] theorem State.occur_leat (s : State) (n : Nat) : (s.occur n).leat = s.leat := rfl
@[simp] theorem State.occur_twin (s : State) (n : Nat) : (s.occur n).twin = s.twin := rfl
@[simp] theorem State.occur_boot (s : State) (n : Nat) : (s.occur n).boot = s.boot := rfl
@[simp] theorem State.occur_cal (s : State) (n : Nat) : (s.occur n).cal = s.cal := rfl
@[simp] theorem State.occur_pwr (s : State) (n : Nat) : (s.occur n).pwr = s.pwr := rfl
@[simp] theorem State.occur_tst (s : State) (n : Nat) : (s.occur n).tst = s.tst := rfl
@[simp] theorem State.occur_tap (s : State) (n : Nat) : (s.occur n).tap = s.tap := rfl
@[simp] theorem State.occur_health (s : State) (n : Nat) : (s.occur n).health = s.health := rfl
@[simp] theorem State.occur_out (s : State) (n : Nat) : (s.occur n).out = s.out := rfl
@[simp] theorem State.occur_pending (s : State) (n : Nat) : (s.occur n).pending = s.pending := rfl
@[simp] theorem State.setCtx_regs (s : State) (c : Nat) (x : Ctx) : (s.setCtx c x).regs = s.regs := rfl
@[simp] theorem State.setCtx_staged (s : State) (c : Nat) (x : Ctx) : (s.setCtx c x).staged = s.staged := rfl
@[simp] theorem State.setCtx_ctrs (s : State) (c : Nat) (x : Ctx) : (s.setCtx c x).ctrs = s.ctrs := rfl
@[simp] theorem State.setCtx_ctrShadow (s : State) (c : Nat) (x : Ctx) : (s.setCtx c x).ctrShadow = s.ctrShadow := rfl
@[simp] theorem State.setCtx_ctrHold (s : State) (c : Nat) (x : Ctx) : (s.setCtx c x).ctrHold = s.ctrHold := rfl
@[simp] theorem State.setCtx_ctrLoad (s : State) (c : Nat) (x : Ctx) : (s.setCtx c x).ctrLoad = s.ctrLoad := rfl
@[simp] theorem State.setCtx_reply (s : State) (c : Nat) (x : Ctx) : (s.setCtx c x).reply = s.reply := rfl
@[simp] theorem State.setCtx_freeIx (s : State) (c : Nat) (x : Ctx) : (s.setCtx c x).freeIx = s.freeIx := rfl
@[simp] theorem State.setCtx_ang (s : State) (c : Nat) (x : Ctx) : (s.setCtx c x).ang = s.ang := rfl
@[simp] theorem State.setCtx_ep (s : State) (c : Nat) (x : Ctx) : (s.setCtx c x).ep = s.ep := rfl
@[simp] theorem State.setCtx_stq (s : State) (c : Nat) (x : Ctx) : (s.setCtx c x).stq = s.stq := rfl
@[simp] theorem State.setCtx_irq (s : State) (c : Nat) (x : Ctx) : (s.setCtx c x).irq = s.irq := rfl
@[simp] theorem State.setCtx_mchk (s : State) (c : Nat) (x : Ctx) : (s.setCtx c x).mchk = s.mchk := rfl
@[simp] theorem State.setCtx_supState (s : State) (c : Nat) (x : Ctx) : (s.setCtx c x).supState = s.supState := rfl
@[simp] theorem State.setCtx_pins (s : State) (c : Nat) (x : Ctx) : (s.setCtx c x).pins = s.pins := rfl
@[simp] theorem State.setCtx_host (s : State) (c : Nat) (x : Ctx) : (s.setCtx c x).host = s.host := rfl
@[simp] theorem State.setCtx_jnl (s : State) (c : Nat) (x : Ctx) : (s.setCtx c x).jnl = s.jnl := rfl
@[simp] theorem State.setCtx_cmpd (s : State) (c : Nat) (x : Ctx) : (s.setCtx c x).cmpd = s.cmpd := rfl
@[simp] theorem State.setCtx_cmpdStaged (s : State) (c : Nat) (x : Ctx) : (s.setCtx c x).cmpdStaged = s.cmpdStaged := rfl
@[simp] theorem State.setCtx_caches (s : State) (c : Nat) (x : Ctx) : (s.setCtx c x).caches = s.caches := rfl
@[simp] theorem State.setCtx_cxb (s : State) (c : Nat) (x : Ctx) : (s.setCtx c x).cxb = s.cxb := rfl
@[simp] theorem State.setCtx_cells (s : State) (c : Nat) (x : Ctx) : (s.setCtx c x).cells = s.cells := rfl
@[simp] theorem State.setCtx_groups (s : State) (c : Nat) (x : Ctx) : (s.setCtx c x).groups = s.groups := rfl
@[simp] theorem State.setCtx_chans (s : State) (c : Nat) (x : Ctx) : (s.setCtx c x).chans = s.chans := rfl
@[simp] theorem State.setCtx_engines (s : State) (c : Nat) (x : Ctx) : (s.setCtx c x).engines = s.engines := rfl
@[simp] theorem State.setCtx_pulses (s : State) (c : Nat) (x : Ctx) : (s.setCtx c x).pulses = s.pulses := rfl
@[simp] theorem State.setCtx_pairs (s : State) (c : Nat) (x : Ctx) : (s.setCtx c x).pairs = s.pairs := rfl
@[simp] theorem State.setCtx_budget (s : State) (c : Nat) (x : Ctx) : (s.setCtx c x).budget = s.budget := rfl
@[simp] theorem State.setCtx_learns (s : State) (c : Nat) (x : Ctx) : (s.setCtx c x).learns = s.learns := rfl
@[simp] theorem State.setCtx_mem (s : State) (c : Nat) (x : Ctx) : (s.setCtx c x).mem = s.mem := rfl
@[simp] theorem State.setCtx_lgc (s : State) (c : Nat) (x : Ctx) : (s.setCtx c x).lgc = s.lgc := rfl
@[simp] theorem State.setCtx_leat (s : State) (c : Nat) (x : Ctx) : (s.setCtx c x).leat = s.leat := rfl
@[simp] theorem State.setCtx_twin (s : State) (c : Nat) (x : Ctx) : (s.setCtx c x).twin = s.twin := rfl
@[simp] theorem State.setCtx_boot (s : State) (c : Nat) (x : Ctx) : (s.setCtx c x).boot = s.boot := rfl
@[simp] theorem State.setCtx_cal (s : State) (c : Nat) (x : Ctx) : (s.setCtx c x).cal = s.cal := rfl
@[simp] theorem State.setCtx_pwr (s : State) (c : Nat) (x : Ctx) : (s.setCtx c x).pwr = s.pwr := rfl
@[simp] theorem State.setCtx_tst (s : State) (c : Nat) (x : Ctx) : (s.setCtx c x).tst = s.tst := rfl
@[simp] theorem State.setCtx_tap (s : State) (c : Nat) (x : Ctx) : (s.setCtx c x).tap = s.tap := rfl
@[simp] theorem State.setCtx_health (s : State) (c : Nat) (x : Ctx) : (s.setCtx c x).health = s.health := rfl
@[simp] theorem State.setCtx_out (s : State) (c : Nat) (x : Ctx) : (s.setCtx c x).out = s.out := rfl
@[simp] theorem State.setCtx_pending (s : State) (c : Nat) (x : Ctx) : (s.setCtx c x).pending = s.pending := rfl
@[simp] theorem State.healthLog_regs (s : State) (c : Nat) (l : List Nat) : (s.healthLog c l).regs = s.regs := rfl
@[simp] theorem State.healthLog_staged (s : State) (c : Nat) (l : List Nat) : (s.healthLog c l).staged = s.staged := rfl
@[simp] theorem State.healthLog_ctrs (s : State) (c : Nat) (l : List Nat) : (s.healthLog c l).ctrs = s.ctrs := rfl
@[simp] theorem State.healthLog_ctrShadow (s : State) (c : Nat) (l : List Nat) : (s.healthLog c l).ctrShadow = s.ctrShadow := rfl
@[simp] theorem State.healthLog_ctrHold (s : State) (c : Nat) (l : List Nat) : (s.healthLog c l).ctrHold = s.ctrHold := rfl
@[simp] theorem State.healthLog_ctrLoad (s : State) (c : Nat) (l : List Nat) : (s.healthLog c l).ctrLoad = s.ctrLoad := rfl
@[simp] theorem State.healthLog_reply (s : State) (c : Nat) (l : List Nat) : (s.healthLog c l).reply = s.reply := rfl
@[simp] theorem State.healthLog_freeIx (s : State) (c : Nat) (l : List Nat) : (s.healthLog c l).freeIx = s.freeIx := rfl
@[simp] theorem State.healthLog_ang (s : State) (c : Nat) (l : List Nat) : (s.healthLog c l).ang = s.ang := rfl
@[simp] theorem State.healthLog_ep (s : State) (c : Nat) (l : List Nat) : (s.healthLog c l).ep = s.ep := rfl
@[simp] theorem State.healthLog_stq (s : State) (c : Nat) (l : List Nat) : (s.healthLog c l).stq = s.stq := rfl
@[simp] theorem State.healthLog_irq (s : State) (c : Nat) (l : List Nat) : (s.healthLog c l).irq = s.irq := rfl
@[simp] theorem State.healthLog_mchk (s : State) (c : Nat) (l : List Nat) : (s.healthLog c l).mchk = s.mchk := rfl
@[simp] theorem State.healthLog_ctxs (s : State) (c : Nat) (l : List Nat) : (s.healthLog c l).ctxs = s.ctxs := rfl
@[simp] theorem State.healthLog_supState (s : State) (c : Nat) (l : List Nat) : (s.healthLog c l).supState = s.supState := rfl
@[simp] theorem State.healthLog_pins (s : State) (c : Nat) (l : List Nat) : (s.healthLog c l).pins = s.pins := rfl
@[simp] theorem State.healthLog_host (s : State) (c : Nat) (l : List Nat) : (s.healthLog c l).host = s.host := rfl
@[simp] theorem State.healthLog_jnl (s : State) (c : Nat) (l : List Nat) : (s.healthLog c l).jnl = s.jnl := rfl
@[simp] theorem State.healthLog_cmpd (s : State) (c : Nat) (l : List Nat) : (s.healthLog c l).cmpd = s.cmpd := rfl
@[simp] theorem State.healthLog_cmpdStaged (s : State) (c : Nat) (l : List Nat) : (s.healthLog c l).cmpdStaged = s.cmpdStaged := rfl
@[simp] theorem State.healthLog_caches (s : State) (c : Nat) (l : List Nat) : (s.healthLog c l).caches = s.caches := rfl
@[simp] theorem State.healthLog_cxb (s : State) (c : Nat) (l : List Nat) : (s.healthLog c l).cxb = s.cxb := rfl
@[simp] theorem State.healthLog_cells (s : State) (c : Nat) (l : List Nat) : (s.healthLog c l).cells = s.cells := rfl
@[simp] theorem State.healthLog_groups (s : State) (c : Nat) (l : List Nat) : (s.healthLog c l).groups = s.groups := rfl
@[simp] theorem State.healthLog_chans (s : State) (c : Nat) (l : List Nat) : (s.healthLog c l).chans = s.chans := rfl
@[simp] theorem State.healthLog_engines (s : State) (c : Nat) (l : List Nat) : (s.healthLog c l).engines = s.engines := rfl
@[simp] theorem State.healthLog_pulses (s : State) (c : Nat) (l : List Nat) : (s.healthLog c l).pulses = s.pulses := rfl
@[simp] theorem State.healthLog_pairs (s : State) (c : Nat) (l : List Nat) : (s.healthLog c l).pairs = s.pairs := rfl
@[simp] theorem State.healthLog_budget (s : State) (c : Nat) (l : List Nat) : (s.healthLog c l).budget = s.budget := rfl
@[simp] theorem State.healthLog_learns (s : State) (c : Nat) (l : List Nat) : (s.healthLog c l).learns = s.learns := rfl
@[simp] theorem State.healthLog_mem (s : State) (c : Nat) (l : List Nat) : (s.healthLog c l).mem = s.mem := rfl
@[simp] theorem State.healthLog_lgc (s : State) (c : Nat) (l : List Nat) : (s.healthLog c l).lgc = s.lgc := rfl
@[simp] theorem State.healthLog_leat (s : State) (c : Nat) (l : List Nat) : (s.healthLog c l).leat = s.leat := rfl
@[simp] theorem State.healthLog_twin (s : State) (c : Nat) (l : List Nat) : (s.healthLog c l).twin = s.twin := rfl
@[simp] theorem State.healthLog_boot (s : State) (c : Nat) (l : List Nat) : (s.healthLog c l).boot = s.boot := rfl
@[simp] theorem State.healthLog_cal (s : State) (c : Nat) (l : List Nat) : (s.healthLog c l).cal = s.cal := rfl
@[simp] theorem State.healthLog_pwr (s : State) (c : Nat) (l : List Nat) : (s.healthLog c l).pwr = s.pwr := rfl
@[simp] theorem State.healthLog_tst (s : State) (c : Nat) (l : List Nat) : (s.healthLog c l).tst = s.tst := rfl
@[simp] theorem State.healthLog_tap (s : State) (c : Nat) (l : List Nat) : (s.healthLog c l).tap = s.tap := rfl
@[simp] theorem State.healthLog_out (s : State) (c : Nat) (l : List Nat) : (s.healthLog c l).out = s.out := rfl
@[simp] theorem State.healthLog_pending (s : State) (c : Nat) (l : List Nat) : (s.healthLog c l).pending = s.pending := rfl
@[simp] theorem State.send_regs (s : State) (m : OutMsg) : (s.send m).regs = s.regs := rfl
@[simp] theorem State.send_staged (s : State) (m : OutMsg) : (s.send m).staged = s.staged := rfl
@[simp] theorem State.send_ctrs (s : State) (m : OutMsg) : (s.send m).ctrs = s.ctrs := rfl
@[simp] theorem State.send_ctrShadow (s : State) (m : OutMsg) : (s.send m).ctrShadow = s.ctrShadow := rfl
@[simp] theorem State.send_ctrHold (s : State) (m : OutMsg) : (s.send m).ctrHold = s.ctrHold := rfl
@[simp] theorem State.send_ctrLoad (s : State) (m : OutMsg) : (s.send m).ctrLoad = s.ctrLoad := rfl
@[simp] theorem State.send_reply (s : State) (m : OutMsg) : (s.send m).reply = s.reply := rfl
@[simp] theorem State.send_freeIx (s : State) (m : OutMsg) : (s.send m).freeIx = s.freeIx := rfl
@[simp] theorem State.send_ang (s : State) (m : OutMsg) : (s.send m).ang = s.ang := rfl
@[simp] theorem State.send_ep (s : State) (m : OutMsg) : (s.send m).ep = s.ep := rfl
@[simp] theorem State.send_stq (s : State) (m : OutMsg) : (s.send m).stq = s.stq := rfl
@[simp] theorem State.send_irq (s : State) (m : OutMsg) : (s.send m).irq = s.irq := rfl
@[simp] theorem State.send_mchk (s : State) (m : OutMsg) : (s.send m).mchk = s.mchk := rfl
@[simp] theorem State.send_ctxs (s : State) (m : OutMsg) : (s.send m).ctxs = s.ctxs := rfl
@[simp] theorem State.send_supState (s : State) (m : OutMsg) : (s.send m).supState = s.supState := rfl
@[simp] theorem State.send_pins (s : State) (m : OutMsg) : (s.send m).pins = s.pins := rfl
@[simp] theorem State.send_host (s : State) (m : OutMsg) : (s.send m).host = s.host := rfl
@[simp] theorem State.send_jnl (s : State) (m : OutMsg) : (s.send m).jnl = s.jnl := rfl
@[simp] theorem State.send_cmpd (s : State) (m : OutMsg) : (s.send m).cmpd = s.cmpd := rfl
@[simp] theorem State.send_cmpdStaged (s : State) (m : OutMsg) : (s.send m).cmpdStaged = s.cmpdStaged := rfl
@[simp] theorem State.send_caches (s : State) (m : OutMsg) : (s.send m).caches = s.caches := rfl
@[simp] theorem State.send_cxb (s : State) (m : OutMsg) : (s.send m).cxb = s.cxb := rfl
@[simp] theorem State.send_cells (s : State) (m : OutMsg) : (s.send m).cells = s.cells := rfl
@[simp] theorem State.send_groups (s : State) (m : OutMsg) : (s.send m).groups = s.groups := rfl
@[simp] theorem State.send_chans (s : State) (m : OutMsg) : (s.send m).chans = s.chans := rfl
@[simp] theorem State.send_engines (s : State) (m : OutMsg) : (s.send m).engines = s.engines := rfl
@[simp] theorem State.send_pulses (s : State) (m : OutMsg) : (s.send m).pulses = s.pulses := rfl
@[simp] theorem State.send_pairs (s : State) (m : OutMsg) : (s.send m).pairs = s.pairs := rfl
@[simp] theorem State.send_budget (s : State) (m : OutMsg) : (s.send m).budget = s.budget := rfl
@[simp] theorem State.send_learns (s : State) (m : OutMsg) : (s.send m).learns = s.learns := rfl
@[simp] theorem State.send_mem (s : State) (m : OutMsg) : (s.send m).mem = s.mem := rfl
@[simp] theorem State.send_lgc (s : State) (m : OutMsg) : (s.send m).lgc = s.lgc := rfl
@[simp] theorem State.send_leat (s : State) (m : OutMsg) : (s.send m).leat = s.leat := rfl
@[simp] theorem State.send_twin (s : State) (m : OutMsg) : (s.send m).twin = s.twin := rfl
@[simp] theorem State.send_boot (s : State) (m : OutMsg) : (s.send m).boot = s.boot := rfl
@[simp] theorem State.send_cal (s : State) (m : OutMsg) : (s.send m).cal = s.cal := rfl
@[simp] theorem State.send_pwr (s : State) (m : OutMsg) : (s.send m).pwr = s.pwr := rfl
@[simp] theorem State.send_tst (s : State) (m : OutMsg) : (s.send m).tst = s.tst := rfl
@[simp] theorem State.send_tap (s : State) (m : OutMsg) : (s.send m).tap = s.tap := rfl
@[simp] theorem State.send_health (s : State) (m : OutMsg) : (s.send m).health = s.health := rfl
@[simp] theorem State.send_pending (s : State) (m : OutMsg) : (s.send m).pending = s.pending := rfl
@[simp] theorem State.answer_regs (s : State) (r : Reply) : (s.answer r).regs = s.regs := rfl
@[simp] theorem State.answer_staged (s : State) (r : Reply) : (s.answer r).staged = s.staged := rfl
@[simp] theorem State.answer_ctrs (s : State) (r : Reply) : (s.answer r).ctrs = s.ctrs := rfl
@[simp] theorem State.answer_ctrShadow (s : State) (r : Reply) : (s.answer r).ctrShadow = s.ctrShadow := rfl
@[simp] theorem State.answer_ctrHold (s : State) (r : Reply) : (s.answer r).ctrHold = s.ctrHold := rfl
@[simp] theorem State.answer_ctrLoad (s : State) (r : Reply) : (s.answer r).ctrLoad = s.ctrLoad := rfl
@[simp] theorem State.answer_freeIx (s : State) (r : Reply) : (s.answer r).freeIx = s.freeIx := rfl
@[simp] theorem State.answer_ang (s : State) (r : Reply) : (s.answer r).ang = s.ang := rfl
@[simp] theorem State.answer_ep (s : State) (r : Reply) : (s.answer r).ep = s.ep := rfl
@[simp] theorem State.answer_stq (s : State) (r : Reply) : (s.answer r).stq = s.stq := rfl
@[simp] theorem State.answer_irq (s : State) (r : Reply) : (s.answer r).irq = s.irq := rfl
@[simp] theorem State.answer_mchk (s : State) (r : Reply) : (s.answer r).mchk = s.mchk := rfl
@[simp] theorem State.answer_ctxs (s : State) (r : Reply) : (s.answer r).ctxs = s.ctxs := rfl
@[simp] theorem State.answer_supState (s : State) (r : Reply) : (s.answer r).supState = s.supState := rfl
@[simp] theorem State.answer_pins (s : State) (r : Reply) : (s.answer r).pins = s.pins := rfl
@[simp] theorem State.answer_host (s : State) (r : Reply) : (s.answer r).host = s.host := rfl
@[simp] theorem State.answer_jnl (s : State) (r : Reply) : (s.answer r).jnl = s.jnl := rfl
@[simp] theorem State.answer_cmpd (s : State) (r : Reply) : (s.answer r).cmpd = s.cmpd := rfl
@[simp] theorem State.answer_cmpdStaged (s : State) (r : Reply) : (s.answer r).cmpdStaged = s.cmpdStaged := rfl
@[simp] theorem State.answer_caches (s : State) (r : Reply) : (s.answer r).caches = s.caches := rfl
@[simp] theorem State.answer_cxb (s : State) (r : Reply) : (s.answer r).cxb = s.cxb := rfl
@[simp] theorem State.answer_cells (s : State) (r : Reply) : (s.answer r).cells = s.cells := rfl
@[simp] theorem State.answer_groups (s : State) (r : Reply) : (s.answer r).groups = s.groups := rfl
@[simp] theorem State.answer_chans (s : State) (r : Reply) : (s.answer r).chans = s.chans := rfl
@[simp] theorem State.answer_engines (s : State) (r : Reply) : (s.answer r).engines = s.engines := rfl
@[simp] theorem State.answer_pulses (s : State) (r : Reply) : (s.answer r).pulses = s.pulses := rfl
@[simp] theorem State.answer_pairs (s : State) (r : Reply) : (s.answer r).pairs = s.pairs := rfl
@[simp] theorem State.answer_budget (s : State) (r : Reply) : (s.answer r).budget = s.budget := rfl
@[simp] theorem State.answer_learns (s : State) (r : Reply) : (s.answer r).learns = s.learns := rfl
@[simp] theorem State.answer_mem (s : State) (r : Reply) : (s.answer r).mem = s.mem := rfl
@[simp] theorem State.answer_lgc (s : State) (r : Reply) : (s.answer r).lgc = s.lgc := rfl
@[simp] theorem State.answer_leat (s : State) (r : Reply) : (s.answer r).leat = s.leat := rfl
@[simp] theorem State.answer_twin (s : State) (r : Reply) : (s.answer r).twin = s.twin := rfl
@[simp] theorem State.answer_boot (s : State) (r : Reply) : (s.answer r).boot = s.boot := rfl
@[simp] theorem State.answer_cal (s : State) (r : Reply) : (s.answer r).cal = s.cal := rfl
@[simp] theorem State.answer_pwr (s : State) (r : Reply) : (s.answer r).pwr = s.pwr := rfl
@[simp] theorem State.answer_tst (s : State) (r : Reply) : (s.answer r).tst = s.tst := rfl
@[simp] theorem State.answer_tap (s : State) (r : Reply) : (s.answer r).tap = s.tap := rfl
@[simp] theorem State.answer_health (s : State) (r : Reply) : (s.answer r).health = s.health := rfl
@[simp] theorem State.answer_out (s : State) (r : Reply) : (s.answer r).out = s.out := rfl
@[simp] theorem State.answer_pending (s : State) (r : Reply) : (s.answer r).pending = s.pending := rfl

/-! ### Registers, counters and contexts under the updates of other fields -/

@[simp] theorem State.ctr_put (s : State) (a : Nat) (v : Word) (k : Nat) : (s.put a v).ctr k = s.ctr k := rfl
@[simp] theorem State.ctx_put (s : State) (a : Nat) (v : Word) (k : Nat) : (s.put a v).ctx k = s.ctx k := rfl
@[simp] theorem State.byteAt_put (s : State) (a : Nat) (v : Word) (k : Nat) : (s.put a v).byteAt k = s.byteAt k := rfl
@[simp] theorem State.ctr_setF (s : State) (a : Nat) (f : Field) (x : Nat) (k : Nat) : (s.setF a f x).ctr k = s.ctr k := rfl
@[simp] theorem State.ctx_setF (s : State) (a : Nat) (f : Field) (x : Nat) (k : Nat) : (s.setF a f x).ctx k = s.ctx k := rfl
@[simp] theorem State.byteAt_setF (s : State) (a : Nat) (f : Field) (x : Nat) (k : Nat) : (s.setF a f x).byteAt k = s.byteAt k := rfl
@[simp] theorem State.reg_stage (s : State) (a : Nat) (v : Word) (k : Nat) : (s.stage a v).reg k = s.reg k := rfl
@[simp] theorem State.fld_stage (s : State) (a : Nat) (v : Word) (k : Nat) (g : Field) : (s.stage a v).fld k g = s.fld k g := rfl
@[simp] theorem State.bit_stage (s : State) (a : Nat) (v : Word) (k : Nat) (g : Field) : (s.stage a v).bit k g = s.bit k g := rfl
@[simp] theorem State.ctr_stage (s : State) (a : Nat) (v : Word) (k : Nat) : (s.stage a v).ctr k = s.ctr k := rfl
@[simp] theorem State.ctx_stage (s : State) (a : Nat) (v : Word) (k : Nat) : (s.stage a v).ctx k = s.ctx k := rfl
@[simp] theorem State.byteAt_stage (s : State) (a : Nat) (v : Word) (k : Nat) : (s.stage a v).byteAt k = s.byteAt k := rfl
@[simp] theorem State.reg_setCtr (s : State) (a : Nat) (c : Ctr) (k : Nat) : (s.setCtr a c).reg k = s.reg k := rfl
@[simp] theorem State.fld_setCtr (s : State) (a : Nat) (c : Ctr) (k : Nat) (g : Field) : (s.setCtr a c).fld k g = s.fld k g := rfl
@[simp] theorem State.bit_setCtr (s : State) (a : Nat) (c : Ctr) (k : Nat) (g : Field) : (s.setCtr a c).bit k g = s.bit k g := rfl
@[simp] theorem State.ctx_setCtr (s : State) (a : Nat) (c : Ctr) (k : Nat) : (s.setCtr a c).ctx k = s.ctx k := rfl
@[simp] theorem State.byteAt_setCtr (s : State) (a : Nat) (c : Ctr) (k : Nat) : (s.setCtr a c).byteAt k = s.byteAt k := rfl
@[simp] theorem State.reg_occur (s : State) (n : Nat) (k : Nat) : (s.occur n).reg k = s.reg k := rfl
@[simp] theorem State.fld_occur (s : State) (n : Nat) (k : Nat) (g : Field) : (s.occur n).fld k g = s.fld k g := rfl
@[simp] theorem State.bit_occur (s : State) (n : Nat) (k : Nat) (g : Field) : (s.occur n).bit k g = s.bit k g := rfl
@[simp] theorem State.ctr_occur (s : State) (n : Nat) (k : Nat) : (s.occur n).ctr k = s.ctr k := rfl
@[simp] theorem State.ctx_occur (s : State) (n : Nat) (k : Nat) : (s.occur n).ctx k = s.ctx k := rfl
@[simp] theorem State.byteAt_occur (s : State) (n : Nat) (k : Nat) : (s.occur n).byteAt k = s.byteAt k := rfl
@[simp] theorem State.reg_setCtx (s : State) (c : Nat) (x : Ctx) (k : Nat) : (s.setCtx c x).reg k = s.reg k := rfl
@[simp] theorem State.fld_setCtx (s : State) (c : Nat) (x : Ctx) (k : Nat) (g : Field) : (s.setCtx c x).fld k g = s.fld k g := rfl
@[simp] theorem State.bit_setCtx (s : State) (c : Nat) (x : Ctx) (k : Nat) (g : Field) : (s.setCtx c x).bit k g = s.bit k g := rfl
@[simp] theorem State.ctr_setCtx (s : State) (c : Nat) (x : Ctx) (k : Nat) : (s.setCtx c x).ctr k = s.ctr k := rfl
@[simp] theorem State.byteAt_setCtx (s : State) (c : Nat) (x : Ctx) (k : Nat) : (s.setCtx c x).byteAt k = s.byteAt k := rfl
@[simp] theorem State.reg_healthLog (s : State) (c : Nat) (l : List Nat) (k : Nat) : (s.healthLog c l).reg k = s.reg k := rfl
@[simp] theorem State.fld_healthLog (s : State) (c : Nat) (l : List Nat) (k : Nat) (g : Field) : (s.healthLog c l).fld k g = s.fld k g := rfl
@[simp] theorem State.bit_healthLog (s : State) (c : Nat) (l : List Nat) (k : Nat) (g : Field) : (s.healthLog c l).bit k g = s.bit k g := rfl
@[simp] theorem State.ctr_healthLog (s : State) (c : Nat) (l : List Nat) (k : Nat) : (s.healthLog c l).ctr k = s.ctr k := rfl
@[simp] theorem State.ctx_healthLog (s : State) (c : Nat) (l : List Nat) (k : Nat) : (s.healthLog c l).ctx k = s.ctx k := rfl
@[simp] theorem State.byteAt_healthLog (s : State) (c : Nat) (l : List Nat) (k : Nat) : (s.healthLog c l).byteAt k = s.byteAt k := rfl
@[simp] theorem State.reg_send (s : State) (m : OutMsg) (k : Nat) : (s.send m).reg k = s.reg k := rfl
@[simp] theorem State.fld_send (s : State) (m : OutMsg) (k : Nat) (g : Field) : (s.send m).fld k g = s.fld k g := rfl
@[simp] theorem State.bit_send (s : State) (m : OutMsg) (k : Nat) (g : Field) : (s.send m).bit k g = s.bit k g := rfl
@[simp] theorem State.ctr_send (s : State) (m : OutMsg) (k : Nat) : (s.send m).ctr k = s.ctr k := rfl
@[simp] theorem State.ctx_send (s : State) (m : OutMsg) (k : Nat) : (s.send m).ctx k = s.ctx k := rfl
@[simp] theorem State.byteAt_send (s : State) (m : OutMsg) (k : Nat) : (s.send m).byteAt k = s.byteAt k := rfl
@[simp] theorem State.reg_answer (s : State) (r : Reply) (k : Nat) : (s.answer r).reg k = s.reg k := rfl
@[simp] theorem State.fld_answer (s : State) (r : Reply) (k : Nat) (g : Field) : (s.answer r).fld k g = s.fld k g := rfl
@[simp] theorem State.bit_answer (s : State) (r : Reply) (k : Nat) (g : Field) : (s.answer r).bit k g = s.bit k g := rfl
@[simp] theorem State.ctr_answer (s : State) (r : Reply) (k : Nat) : (s.answer r).ctr k = s.ctr k := rfl
@[simp] theorem State.ctx_answer (s : State) (r : Reply) (k : Nat) : (s.answer r).ctx k = s.ctx k := rfl
@[simp] theorem State.byteAt_answer (s : State) (r : Reply) (k : Nat) : (s.answer r).byteAt k = s.byteAt k := rfl

end Sys2Proof.Machine
end

