-- ==== Sys2Proof/Laws/Words.lean ====
section
/-! SUPPORT. The fields of an instruction word are those it was packed from (Table 4.1). -/

namespace Sys2Proof.Machine

theorem fmtS_toNat (m rd ra rb mn ax : Nat) : (fmtS m rd ra rb mn ax).toNat =
    ((((m % 64 * 32 + rd % 32) * 32 + ra % 32) * 32 + rb % 32) * 64 + mn % 64) * 32 + ax % 32 := by
  simp only [fmtS, packWord, List.foldl, BitVec.toNat_ofNat]
  omega

theorem fmtI_toNat (m rd ra imm : Nat) : (fmtI m rd ra imm).toNat =
    ((m % 64 * 32 + rd % 32) * 32 + ra % 32) * 65536 + imm % 65536 := by
  simp only [fmtI, packWord, List.foldl, BitVec.toNat_ofNat]
  omega

theorem fmtB_toNat (m ra rb d : Nat) : (fmtB m ra rb d).toNat =
    ((m % 64 * 32 + ra % 32) * 32 + rb % 32) * 65536 + d % 65536 := by
  simp only [fmtB, packWord, List.foldl, BitVec.toNat_ofNat]
  omega

theorem fmtJ_toNat (m d : Nat) : (fmtJ m d).toNat = m % 64 * 67108864 + d % 67108864 := by
  simp only [fmtJ, packWord, List.foldl, BitVec.toNat_ofNat]
  omega

theorem fmtUI_toNat (m rd h v k o : Nat) : (fmtUI m rd h v k o).toNat =
    ((((m % 64 * 32 + rd % 32) * 32 + h % 32) * 32 + v % 32) * 16 + k % 16) * 128 + o % 128 := by
  simp only [fmtUI, packWord, List.foldl, BitVec.toNat_ofNat]
  omega

theorem fmtUX_toNat (m rd h v k r : Nat) : (fmtUX m rd h v k r).toNat =
    ((((m % 64 * 32 + rd % 32) * 32 + h % 32) * 32 + v % 32) * 16 + k % 16) * 128 + r % 32 := by
  simp only [fmtUX, packWord, List.foldl, BitVec.toNat_ofNat]
  omega

theorem fmtUC_toNat (h op a : Nat) : (fmtUC h op a).toNat =
    (((54 * 32 * 32 + h % 32) * 16 + op % 16) * 256 + a % 256) * 16 := by
  simp only [fmtUC, packWord, List.foldl, BitVec.toNat_ofNat]
  omega

@[simp] theorem fmtS_wMajor (m rd ra rb mn ax : Nat) : wMajor (fmtS m rd ra rb mn ax) = m % 64 := by
  simp only [wMajor, wbits, fmtS_toNat]
  omega

@[simp] theorem fmtS_wRd (m rd ra rb mn ax : Nat) : wRd (fmtS m rd ra rb mn ax) = rd % 32 := by
  simp only [wRd, wbits, fmtS_toNat]
  omega

@[simp] theorem fmtS_wRa (m rd ra rb mn ax : Nat) : wRa (fmtS m rd ra rb mn ax) = ra % 32 := by
  simp only [wRa, wbits, fmtS_toNat]
  omega

@[simp] theorem fmtS_wRb (m rd ra rb mn ax : Nat) : wRb (fmtS m rd ra rb mn ax) = rb % 32 := by
  simp only [wRb, wbits, fmtS_toNat]
  omega

@[simp] theorem fmtS_wMinor (m rd ra rb mn ax : Nat) : wMinor (fmtS m rd ra rb mn ax) = mn % 64 := by
  simp only [wMinor, wbits, fmtS_toNat]
  omega

@[simp] theorem fmtS_wAux (m rd ra rb mn ax : Nat) : wAux (fmtS m rd ra rb mn ax) = ax % 32 := by
  simp only [wAux, wbits, fmtS_toNat]
  omega

@[simp] theorem fmtI_wMajor (m rd ra imm : Nat) : wMajor (fmtI m rd ra imm) = m % 64 := by
  simp only [wMajor, wbits, fmtI_toNat]
  omega

@[simp] theorem fmtI_wRd (m rd ra imm : Nat) : wRd (fmtI m rd ra imm) = rd % 32 := by
  simp only [wRd, wbits, fmtI_toNat]
  omega

@[simp] theorem fmtI_wRa (m rd ra imm : Nat) : wRa (fmtI m rd ra imm) = ra % 32 := by
  simp only [wRa, wbits, fmtI_toNat]
  omega

@[simp] theorem fmtB_wMajor (m ra rb d : Nat) : wMajor (fmtB m ra rb d) = m % 64 := by
  simp only [wMajor, wbits, fmtB_toNat]
  omega

@[simp] theorem fmtJ_wMajor (m d : Nat) : wMajor (fmtJ m d) = m % 64 := by
  simp only [wMajor, wbits, fmtJ_toNat]
  omega

@[simp] theorem fmtUI_wMajor (m rd h v k o : Nat) : wMajor (fmtUI m rd h v k o) = m % 64 := by
  simp only [wMajor, wbits, fmtUI_toNat]
  omega

@[simp] theorem fmtUI_wKind (m rd h v k o : Nat) : wKind (fmtUI m rd h v k o) = k % 16 := by
  simp only [wKind, wbits, fmtUI_toNat]
  omega

@[simp] theorem fmtUI_wOff (m rd h v k o : Nat) : wOff (fmtUI m rd h v k o) = o % 128 := by
  simp only [wOff, wbits, fmtUI_toNat]
  omega

@[simp] theorem fmtUI_wRb (m rd h v k o : Nat) : wRb (fmtUI m rd h v k o) = v % 32 := by
  simp only [wRb, wbits, fmtUI_toNat]
  omega

@[simp] theorem fmtUX_wMajor (m rd h v k r : Nat) : wMajor (fmtUX m rd h v k r) = m % 64 := by
  simp only [wMajor, wbits, fmtUX_toNat]
  omega

@[simp] theorem fmtUX_wKind (m rd h v k r : Nat) : wKind (fmtUX m rd h v k r) = k % 16 := by
  simp only [wKind, wbits, fmtUX_toNat]
  omega

@[simp] theorem fmtUX_wRb (m rd h v k r : Nat) : wRb (fmtUX m rd h v k r) = v % 32 := by
  simp only [wRb, wbits, fmtUX_toNat]
  omega

@[simp] theorem fmtUC_wMajor (h op a : Nat) : wMajor (fmtUC h op a) = 54 := by
  simp only [wMajor, wbits, fmtUC_toNat]
  omega

theorem fmtI_shift (m rd ra imm : Nat) (h : imm < 32) : wbits (fmtI m rd ra imm) 15 5 = 0 := by
  simp only [wbits, fmtI_toNat]
  omega

theorem fmtUX_gap (m rd h v k r : Nat) : wbits (fmtUX m rd h v k r) 6 5 = 0 := by
  simp only [wbits, fmtUX_toNat]
  omega

theorem fmtUI_comb (m rd h v k o : Nat) (hv : v < 6) :
    wbits (fmtUI m rd h v k o) 15 14 = 0 ∧ wbits (fmtUI m rd h v k o) 13 11 = v := by
  simp only [wbits, fmtUI_toNat]
  omega

theorem fmtUX_comb (m rd h v k r : Nat) (hv : v < 6) :
    wbits (fmtUX m rd h v k r) 15 14 = 0 ∧ wbits (fmtUX m rd h v k r) 13 11 = v := by
  simp only [wbits, fmtUX_toNat]
  omega

theorem fmtUC_fields (h op a : Nat) : wbits (fmtUC h op a) 25 21 = 0 ∧ wbits (fmtUC h op a) 15 12 = op % 16 ∧
    wbits (fmtUC h op a) 3 0 = 0 := by
  simp only [wbits, fmtUC_toNat]
  omega

/-! ### Which of the packed words are instructions (R161-R163) -/

/-- Words of the integer class with minors 0x00-0x10. -/
theorem legal_integer (sup : Bool) (rd ra rb : Fin 32) (mn : Nat) (h : mn ≤ 0x10) :
    legalWord sup (fmtR 0x01 rd ra rb mn) = true := by
  have : mn % 64 = mn := by omega
  simp [legalWord, fmtR, this, h]

end Sys2Proof.Machine
end

