-- ==== Sys2Proof/Laws/Issue.lean ====
section
/-! SUPPORT. Reading memory changes no context; what the issue of an instruction answers once its meaning is known. -/

namespace Sys2Proof.Machine

/-! ### Reading memory changes no context -/

theorem State.inc_ctxs (s : State) (a : Nat) : (s.inc a).ctxs = s.ctxs := by
  unfold State.inc State.ctrApply
  cases tblGet (fun _ => none) s.ctrLoad a <;> rfl

theorem State.eccSync_ctxs (s : State) : s.eccSync.ctxs = s.ctxs := by
  unfold State.eccSync
  have h : ∀ (u : State) (k l m n : Nat) (a b c d : Word), ((((u.put k a).put l b).put m c).put n d).ctxs = u.ctxs :=
    fun _ _ _ _ _ _ _ _ _ => rfl
  have h0 := State.setF_ctxs s ECC_LOG_CTL ECC_LOG_CTL_COUNT s.mem.log.length
  dsimp only
  generalize s.setF ECC_LOG_CTL ECC_LOG_CTL_COUNT s.mem.log.length = u at h0 ⊢
  cases u.mem.log with
  | nil => exact (h _ _ _ _ _ _ _ _ _).trans h0
  | cons e r => exact (h _ _ _ _ _ _ _ _ _).trans h0

theorem State.eccError_ctxs (s : State) (ue : Bool) (mid req addr : Nat) : (s.eccError ue mid req addr).ctxs = s.ctxs := by
  unfold State.eccError
  have h1 := State.inc_ctxs s (if ue then ECC_UE_LO mid else ECC_CE_LO mid)
  generalize s.inc (if ue then ECC_UE_LO mid else ECC_CE_LO mid) = s1 at h1
  have h2 : ((s1.free.2.inc ECC_LOG_LOST_LO).flag ECC_LOG_CTL ECC_LOG_CTL_OVF).ctxs = s.ctxs := by
    rw [State.setF_flag, State.setF_ctxs, State.inc_ctxs]; exact h1
  dsimp only [State.free] at h2 ⊢
  repeat' split
  all_goals first
    | exact h1
    | exact h2
    | (rw [State.eccSync_ctxs]; first | exact h1 | exact h2)

theorem State.codeCheck_ctxs (s : State) (req mid base : Nat) (w : Bool) : (s.codeCheck req mid base w).2.ctxs = s.ctxs := by
  unfold State.codeCheck
  extract_lets e n
  split
  · exact State.eccError_ctxs ..
  split
  · rfl
  split
  · exact State.eccError_ctxs ..
  split
  · exact State.eccError_ctxs ..
  split
  rename_i f s1 h
  have h1 : s1.ctxs = s.ctxs := by
    have := congrArg (fun p => p.2.ctxs) h
    exact this.symm
  split
  · exact (State.eccError_ctxs ..).trans h1
  · exact (State.eccError_ctxs ..).trans h1
  · exact h1

theorem State.codeRead_ctxs (s : State) (req mid base : Nat) : (s.codeRead req mid base).2.ctxs = s.ctxs := by
  unfold State.codeRead
  extract_lets k n old
  have h := State.codeCheck_ctxs s req mid base (old.all fun x => x.isSome)
  generalize s.codeCheck req mid base (old.all fun x => x.isSome) = p at h
  obtain ⟨x, t⟩ := p
  cases x
  · exact h
  · exact h
  · exact h

theorem State.memReadIn_ctxs (s : State) (req : Nat) (mid : Nat → Nat) (a n : Nat) :
    (s.memReadIn req mid a n).2.ctxs = s.ctxs := by
  unfold State.memReadIn
  generalize cutCodes (codeSize (mid a)) n a (List.replicate n 0) = l
  suffices h : ∀ (l : List (Nat × Nat × List Byte)) (p : Option (List Byte) × State), p.2.ctxs = s.ctxs →
      (l.foldl (fun (acc, s) (b, o, l) =>
        match acc, s.codeRead req (mid b) b with
        | some r, (some w, s) => (some (r ++ (w.drop o).take l.length), s)
        | _, (_, s) => (none, s)) p).2.ctxs = s.ctxs from h l (some [], s) rfl
  intro l
  induction l with
  | nil => intro p hp; exact hp
  | cons x r ih =>
    intro p hp
    obtain ⟨acc, t⟩ := p
    obtain ⟨b, o, w⟩ := x
    apply ih
    have h := State.codeRead_ctxs t req (mid b) b
    dsimp only
    generalize t.codeRead req (mid b) b = q at h
    obtain ⟨q1, q2⟩ := q
    cases acc <;> cases q1 <;> exact h.trans hp

theorem State.tstLeave_ctxs (s : State) : s.tstLeave.ctxs = s.ctxs := by
  unfold State.tstLeave
  cases s.tst.run with
  | none => rfl
  | some x => obtain ⟨c, i⟩ := x; dsimp only; split <;> rfl

theorem State.tstAside_ctxs (s : State) (p : Nat → Nat → Bool) : (s.tstAside p).ctxs = s.ctxs := by
  unfold State.tstAside
  cases s.tst.run with
  | none => rfl
  | some x =>
    obtain ⟨c, i⟩ := x
    dsimp only
    split
    · rw [State.inc_ctxs, State.tstLeave_ctxs]
    · rfl

theorem State.putBytes_ctxs (s : State) (a : Nat) (bs : List Byte) : (s.putBytes a bs).ctxs = s.ctxs := rfl

theorem State.bankTested_ctxs (s : State) (t b : Nat) : (s.bankTested t b).ctxs = s.ctxs := rfl

theorem State.bankAccess_ctxs (s : State) (o n : Nat) : (s.bankAccess o n).ctxs = s.ctxs := by
  unfold State.bankAccess
  split
  · dsimp only
    split
    · rw [State.tstAside_ctxs, State.bankTested_ctxs]
    · rfl
  · rfl

theorem State.memRead_ctxs (s : State) (req o n : Nat) : (s.memRead req o n).2.ctxs = s.ctxs := by
  unfold State.memRead
  rw [State.memReadIn_ctxs, State.bankAccess_ctxs]

theorem State.fetch_ctxs (s : State) (c : Nat) (pc : Word) : (s.fetch c pc).2.ctxs = s.ctxs := by
  unfold State.fetch
  extract_lets a
  split
  · rfl
  split
  · have h := State.memReadIn_ctxs s c (fun _ => 0x41) a 4
    generalize s.memReadIn c (fun _ => 0x41) a 4 = p at h
    obtain ⟨p1, p2⟩ := p
    cases p1 <;> exact h
  · split
    · rfl
    · rename_i g _
      split
      · rfl
      · have h := State.memRead_ctxs s c (g % 2 ^ 39) 4
        generalize s.memRead c (g % 2 ^ 39) 4 = p at h
        obtain ⟨p1, p2⟩ := p
        cases p1 <;> exact h

/-! ### Issue -/

theorem State.fetched_ctx (s : State) (c d : Nat) : (s.fetched c).ctx d = s.ctx d := by
  unfold State.ctx State.fetched
  rw [State.fetch_ctxs]

/-- A legal word of a ready context whose meaning is neither a trap nor a window trap settles. -/
theorem State.issue_settles {s : State} {c : Nat} {w : Word} {f : State → Done} (hr : s.Ready c)
    (hl : legalWord (c == ctxSup) w = true) : s.issue c w f = (s.fetched c).settle c (f (s.fetched c)) := by
  have hp : ((s.fetched c).ctx c).postFail = none := by rw [State.fetched_ctx]; exact hr.noPosted
  have hf := hr.fetch
  unfold State.issue
  rw [hr.issues, hr.noCheck, hr.noIrq]
  unfold State.fetched at hp ⊢
  dsimp only
  generalize s.fetch c (s.ctx c).pc = p at hf hp ⊢
  obtain ⟨p1, u⟩ := p
  cases p1 with
  | some _ => cases hf
  | none =>
    have hq : (u.ctx c).postFail.isSome = false := by rw [hp]; rfl
    simp only [hl, hq, Bool.not_true, Bool.false_eq_true, if_false]
    cases f u <;> rfl

/-- The meaning goes on to the next word. -/
theorem State.issue_next {s t : State} {c : Nat} {w : Word} {f : State → Done} (hr : s.Ready c)
    (hl : legalWord (c == ctxSup) w = true) (hf : f (s.fetched c) = .next t) :
    s.issue c w f = t.setCtx c ((t.ctx c).onward (s.ctx c).pc) := by
  rw [State.issue_settles hr hl, hf]
  unfold State.settle
  rw [State.fetched_ctx]
  rfl

/-- The meaning goes on elsewhere. -/
theorem State.issue_jump {s t : State} {c : Nat} {w pc : Word} {f : State → Done} (hr : s.Ready c)
    (hl : legalWord (c == ctxSup) w = true) (hf : f (s.fetched c) = .jump t pc) :
    s.issue c w f = t.setCtx c { t.ctx c with pc := pc } := by
  rw [State.issue_settles hr hl, hf]
  rfl

/-- The meaning waits. -/
theorem State.issue_wait {s t : State} {c : Nat} {w : Word} {st : Stall} {f : State → Done} (hr : s.Ready c)
    (hl : legalWord (c == ctxSup) w = true) (hf : f (s.fetched c) = .wait t st) :
    s.issue c w f = (t.setCtx c { t.ctx c with stall := st }).setCtxState c (if st.isMem then ctxRun else ctxWait) := by
  rw [State.issue_settles hr hl, hf]
  rfl

/-- The meaning raises a window trap. -/
theorem State.issue_window {s t : State} {c k : Nat} {w : Word} {f : State → Done} (hr : s.Ready c)
    (hl : legalWord (c == ctxSup) w = true) (hf : f (s.fetched c) = .window t k) :
    s.issue c w f = t.windowTrap c k (s.ctx c).pc := by
  rw [State.issue_settles hr hl, hf]
  unfold State.settle
  rw [State.fetched_ctx]

/-- The meaning raises a trap. -/
theorem State.issue_trap {s t : State} {c : Nat} {w : Word} {x : Trap} {f : State → Done} (hr : s.Ready c)
    (hl : legalWord (c == ctxSup) w = true) (hf : f (s.fetched c) = .trap t x) :
    s.issue c w f = (t.trapEnter c x (s.ctx c).pc).2 := by
  rw [State.issue_settles hr hl, hf]
  unfold State.settle
  rw [State.fetched_ctx]

/-! ### One context changes -/

theorem State.becomes_setCtx (u : State) (c : Nat) (x : Ctx) : u.Becomes (u.setCtx c x) c x :=
  ⟨State.ctx_setCtx_same u c x, fun d hd => by rw [State.ctx_setCtx, if_neg hd], rfl⟩

theorem State.Becomes.again {u t : State} {c : Nat} {x : Ctx} (h : u.Becomes t c x) (y : Ctx) : u.Becomes (t.setCtx c y) c y :=
  ⟨State.ctx_setCtx_same t c y, fun d hd => by rw [State.ctx_setCtx, if_neg hd]; exact h.others d hd, by
    have := h.rest
    generalize t.ctxs = l at this
    subst this
    rfl⟩

/-- An instruction whose meaning leaves its context as `y` goes on. -/
theorem State.goesOn {s : State} {c : Fin 257} {i : Instr} {w : Word} {f : State → Done} {y : Ctx} (hr : s.Ready c)
    (hl : legalWord (c.val == ctxSup) w = true) (he : exec i s = issued c w f s)
    (hf : f (s.fetched c) = .next ((s.fetched c).setCtx c y)) : s.GoesOn c i y :=
  ⟨((s.fetched c).setCtx c y).setCtx c ((((s.fetched c).setCtx c y).ctx c).onward (s.ctx c).pc), by
    rw [he, issued, State.issue_next hr hl hf], by
    rw [State.ctx_setCtx_same]
    exact (State.becomes_setCtx (s.fetched c) c y).again _⟩

/-- An instruction whose meaning leaves its context as `y` and goes on elsewhere. -/
theorem State.endsAt {s : State} {c : Fin 257} {i : Instr} {w pc : Word} {f : State → Done} {y : Ctx} (hr : s.Ready c)
    (hl : legalWord (c.val == ctxSup) w = true) (he : exec i s = issued c w f s)
    (hf : f (s.fetched c) = .jump ((s.fetched c).setCtx c y) pc) : s.Ends c i { y with pc := pc } :=
  ⟨((s.fetched c).setCtx c y).setCtx c { ((s.fetched c).setCtx c y).ctx c with pc := pc }, by
    rw [he, issued, State.issue_jump hr hl hf], by
    rw [State.ctx_setCtx_same]
    exact (State.becomes_setCtx (s.fetched c) c y).again _⟩

/-- An instruction whose meaning changes nothing and goes on elsewhere. -/
theorem State.endsJump {s : State} {c : Fin 257} {i : Instr} {w pc : Word} {f : State → Done} (hr : s.Ready c)
    (hl : legalWord (c.val == ctxSup) w = true) (he : exec i s = issued c w f s)
    (hf : f (s.fetched c) = .jump (s.fetched c) pc) : s.Ends c i { s.ctx c with pc := pc } :=
  ⟨(s.fetched c).setCtx c { (s.fetched c).ctx c with pc := pc }, by
    rw [he, issued, State.issue_jump hr hl hf], by
    rw [State.fetched_ctx]
    exact State.becomes_setCtx (s.fetched c) c _⟩

/-- An instruction whose meaning changes nothing goes on. -/
theorem State.goesOnSame {s : State} {c : Fin 257} {i : Instr} {w : Word} {f : State → Done} (hr : s.Ready c)
    (hl : legalWord (c.val == ctxSup) w = true) (he : exec i s = issued c w f s)
    (hf : f (s.fetched c) = .next (s.fetched c)) : s.GoesOn c i (s.ctx c) :=
  ⟨(s.fetched c).setCtx c (((s.fetched c).ctx c).onward (s.ctx c).pc), by
    rw [he, issued, State.issue_next hr hl hf], by
    rw [State.fetched_ctx]
    exact State.becomes_setCtx (s.fetched c) c _⟩

/-- An instruction that waits. -/
theorem State.waits {s : State} {c : Fin 257} {i : Instr} {w : Word} {f : State → Done} {st : Stall} (hr : s.Ready c)
    (hl : legalWord (c.val == ctxSup) w = true) (he : exec i s = issued c w f s)
    (hf : f (s.fetched c) = .wait (s.fetched c) st) : s.Waits c i st := by
  unfold State.Waits
  rw [he, issued, State.issue_wait hr hl hf, State.fetched_ctx]

/-- An instruction that raises a trap. -/
theorem State.traps {s : State} {c : Fin 257} {i : Instr} {w : Word} {f : State → Done} {x : Trap} (hr : s.Ready c)
    (hl : legalWord (c.val == ctxSup) w = true) (he : exec i s = issued c w f s)
    (hf : f (s.fetched c) = .trap (s.fetched c) x) : s.Traps c i x := by
  unfold State.Traps
  rw [he, issued, State.issue_trap hr hl hf]

/-- An instruction that raises a window trap. -/
theorem State.windowTraps {s : State} {c : Fin 257} {i : Instr} {w : Word} {f : State → Done} {k : Nat} (hr : s.Ready c)
    (hl : legalWord (c.val == ctxSup) w = true) (he : exec i s = issued c w f s)
    (hf : f (s.fetched c) = .window (s.fetched c) k) : s.WindowTraps c i k := by
  unfold State.WindowTraps
  rw [he, issued, State.issue_window hr hl hf]

/-- A word that is no instruction raises ILLEGAL, whatever its meaning would be. -/
theorem State.traps_illegal {s : State} {c : Fin 257} {i : Instr} {w : Word} {f : State → Done} (hr : s.Ready c)
    (hl : legalWord (c.val == ctxSup) w = false) (he : exec i s = issued c w f s) :
    s.Traps c i ⟨trIllegal, 0, false, some (w.setWidth 64)⟩ := by
  unfold State.Traps
  rw [he, issued, State.issue]
  have hf := hr.fetch
  rw [hr.issues, hr.noCheck]
  have hc := State.fetched_ctx s c c
  unfold State.fetched at hc ⊢
  dsimp only
  generalize s.fetch c (s.ctx c).pc = p at hf hc ⊢
  obtain ⟨p1, u⟩ := p
  cases p1 with
  | some _ => cases hf
  | none =>
    simp only [hl, Bool.not_true, Bool.not_false, Bool.false_eq_true, if_false, if_true]
    unfold State.settle Done.illegal Done.raise
    rw [hc]

/-- An instruction that writes rd from ra and rb. -/
theorem State.goesOn_alu {s : State} {c : Fin 257} {i : Instr} {w v : Word} {rd ra rb : Nat} {f : Word → Word → Word}
    (hr : s.Ready c) (hl : legalWord (c.val == ctxSup) w = true) (he : exec i s = issued c w (alu c rd ra rb f) s)
    (hv : f ((s.ctx c).rget ra) ((s.ctx c).rget rb) = v) : s.GoesOn c i ((s.ctx c).rset rd v) :=
  State.goesOn hr hl he (by unfold alu; dsimp only; rw [State.fetched_ctx, hv])

/-- An instruction that writes rd from ra. -/
theorem State.goesOn_aluI {s : State} {c : Fin 257} {i : Instr} {w v : Word} {rd ra : Nat} {f : Word → Word}
    (hr : s.Ready c) (hl : legalWord (c.val == ctxSup) w = true) (he : exec i s = issued c w (aluI c rd ra f) s)
    (hv : f ((s.ctx c).rget ra) = v) : s.GoesOn c i ((s.ctx c).rset rd v) :=
  State.goesOn hr hl he (by unfold aluI; dsimp only; rw [State.fetched_ctx, hv])

end Sys2Proof.Machine
end

