-- ==== Sys2Proof/Tests/Slice0.lean ====
section
/-! SUPPORT. Tests: well-formedness refuses an ill-formed command for each of its checks; single commands on small states,
their results taken from the tables and rules of the spec; for each statement a state and operands that meet its
hypotheses. -/

namespace Sys2Proof.Tests

-- One test after another: each is settled by the kernel, which would otherwise hold a thread for every one of them.
set_option Elab.async false

open Sys2Proof Sys2Proof.Machine

/-! ### Well-formedness -/

def rx0 : Rx := ⟨0, true⟩
def hd0 : PktHead := ⟨1, 0, none, 0⟩

theorem test_wf_register_size : Instr.wf (.registerWrite .sup (.space 0xF0000004) 3 0) = false := by decide
theorem test_wf_register_ok : Instr.wf (.registerWrite .sup (.space 0xF0000004) 4 0) = true := by decide
theorem test_wf_arm_lists : Instr.wf (.epoArm rx0 1 0 ⟨[1, 2], [2]⟩) = false := by decide
theorem test_wf_arm_length : Instr.wf (.epoArm rx0 1 0 ⟨[1, 2, 3, 4, 5], [6, 7, 8, 9]⟩) = false := by decide
theorem test_wf_decision_joined : Instr.wf (.epoDec rx0 1 true 0 [3, 3]) = false := by decide
theorem test_wf_far_descriptor : Instr.wf (.ucmdEnable 0 1 0 [(0, some [])]) = false := by decide
theorem test_wf_far_of_bind : Instr.wf (.bind ⟨[(0, none)], false⟩) = false := by decide
theorem test_wf_pins_once : Instr.wf (.pinInputChange [(3, true), (3, false)]) = false := by decide
theorem test_wf_paths_once : Instr.wf (.memb rx0 0 0 0 [⟨1, false, 0, 1, 0⟩, ⟨1, false, 1, 1, 0⟩]) = false := by decide
theorem test_wf_flit_words : Instr.wf (.strmFlit rx0 0 1 0 []) = false := by decide
theorem test_wf_flit_too_long : Instr.wf (.strmFlit rx0 0 1 0 (List.replicate 8 0)) = false := by decide
theorem test_wf_pass_same_port : Instr.wf (.passThrough 2 2 0 0 true true []) = false := by decide
theorem test_wf_read_length : Instr.wf (.mrd rx0 hd0 0 0) = false := by decide
theorem test_wf_read_too_long : Instr.wf (.mrd rx0 hd0 0 257) = false := by decide
theorem test_wf_write_empty : Instr.wf (.mwr rx0 hd0 0 []) = false := by decide
theorem test_wf_packet_too_long : Instr.wf (.bootPacket rx0 (List.replicate 257 0)) = false := by decide +kernel
theorem test_wf_atomic_aligned : Instr.wf (.mamo rx0 hd0 0 2 0 0) = false := by decide
theorem test_wf_unit_offset : Instr.wf (.uop rx0 hd0 (.uwr 0 2 0) [0] none) = false := by decide
theorem test_wf_unit_leaves : Instr.wf (.uop rx0 hd0 (.ucmd 0 0) [] none) = false := by decide
theorem test_wf_wload_words : Instr.wf (.uop rx0 hd0 (.wload []) [0] none) = false := by decide
theorem test_wf_twin_words : Instr.wf (.twinPacket rx0 (.strm 0 [])) = false := by decide
theorem test_wf_xfer_entry : Instr.wf (.xferPacket rx0 (.entry [] [])) = false := by decide
theorem test_wf_xfer_register : Instr.wf (.xferPacket rx0 (.regs [(2, 0)] [])) = false := by decide
theorem test_wf_xfer_image : Instr.wf (.xferPacket rx0 (.region 0 [])) = false := by decide
theorem test_wf_boot_mask : Instr.wf (.bootGo rx0 [1, 1]) = false := by decide
theorem test_wf_enumeration : Instr.wf (.bootEnumTimeout [4, 4]) = false := by decide
theorem test_wf_late : Instr.wf (.lateLoad [4, 4]) = false := by decide
theorem test_wf_sensors : Instr.wf (.tempReading [0]) = false := by decide

/-! ### States -/

/-- The supervisor core runs at address 0 of its local store. -/
def sup0 : State := { State.reset with supState := ctxRun }

/-- The supervisor core with values in W8, W9 and the pair of W10. -/
def sup1 : State := sup0.setCtx ctxSup ((((Ctx.reset.rset 16 7).rset 17 0xFFFFFFFE).rset 18 0x20000000).rset 19 5)

/-- Rails good, clocks locked. -/
def power0 : State := (State.reset.put PWR_RAIL 0x7FF).put SYS_CLK_LOCK 0x1FFFFFFF

/-- What a command leaves. -/
def after (i : Instr) (s : State) : State :=
  match exec i s with
  | .next t => t
  | _ => s

/-! ### Single commands -/

/-- Table 4.4: 7 + (2^32 - 2) wraps to 5. -/
theorem test_add_wraps : ((after (.add 256 20 16 17) sup1).ctx 256).rget 20 = 5 := by decide +kernel
/-- R167: the shift amount is rb[4:0]; 0xFFFFFFFE shifts by 30. -/
theorem test_sll_amount : ((after (.sll 256 20 16 17) sup1).ctx 256).rget 20 = 0xC0000000 := by decide +kernel
/-- Table 4.4: SLT is signed. -/
theorem test_slt_signed : ((after (.slt 256 20 17 16) sup1).ctx 256).rget 20 = 1 := by decide +kernel
theorem test_sltu_unsigned : ((after (.sltu 256 20 17 16) sup1).ctx 256).rget 20 = 0 := by decide +kernel
/-- R104: a result for G0 is discarded, and the PC goes on. -/
theorem test_g0_discarded : ((after (.add 256 0 16 17) sup1).ctx 256).rget 0 = 0 ∧ ((after (.add 256 0 16 17) sup1).ctx 256).pc = 4 := by
  decide +kernel
/-- R108: ENTER shows the handoff registers of the caller as W0-W7. -/
theorem test_enter_handoff :
    ((after (.enter 256) (sup0.setCtx ctxSup (Ctx.reset.rset 24 9))).ctx 256).rget 8 = 9 := by decide +kernel
/-- R133: a word that is no instruction is trapped with cause 1 at its own address. -/
theorem test_illegal_saves_pc : ((after (.illegalWord 256 0xFFFFFFFF) { sup0 with ctxs := [(256, { Ctx.reset with pc := 8 })] }).ctx 256).tpc = 8 := by
  decide +kernel
/-- R46: the low register shows the live low bits. -/
theorem test_counter_low :
    (after (.counterLoRead .sup (BitVec.ofNat 32 PWR_PFAILS_LO)) (State.reset.setCtr PWR_PFAILS_LO ⟨0x500000003, false⟩)).reply = .value 3 := by
  decide +kernel
/-- R40: a lost domain moves from LOCK to LOST. -/
theorem test_clock_lost : let t := after (.clockLost 16) power0
    t.reg SYS_CLK_LOST = 0x10000 ∧ t.reg SYS_CLK_LOCK = 0x1FFEFFFF ∧ t.fenced = false := by decide +kernel
/-- R655: domains 0-17 and 25 stop. -/
theorem test_pfail_clocks :
    (after .pfailClockStop (power0.flag PWR_STATUS PWR_STATUS_PFL)).reg SYS_CLK_LOCK = 0x1DFC0000 := by decide +kernel
/-- R98: a further cause only sets MORE. -/
theorem test_fence_more :
    let s := (power0.flag ANG_STATUS ANG_STATUS_FENCED).setF ANG_FENCE ANG_FENCE_CAUSE 3
    (after (.jtagExtest .extest []) s).fld ANG_FENCE ANG_FENCE_CAUSE = 3 ∧ (after (.jtagExtest .extest []) s).bit ANG_FENCE ANG_FENCE_MORE = true := by
  decide +kernel
/-- An empty queue is a nanosecond; in reset nothing moves. -/
theorem test_reset_holds : step State.reset = .next State.reset := by rfl


/-! ### States and operands that meet the hypotheses of the statements -/

/-- A device that runs: out of reset, rails good, clocks locked, BOOT_STATUS.STATE 4. -/
def run0 : State :=
  let s := power0.setF BOOT_STATUS BOOT_STATUS_STATE 4
  { s with pwr := { s.pwr with inReset := false, pfailN := true, tilesUp := true, released := true } }

/-- An epoch a device is ARMED for, not its headwater. -/
def part0 : EpPart := ⟨1, 0, false, 0⟩
/-- The device is ARMED. -/
def armed0 : State := { run0 with ep := { run0.ep with part := some part0 } }
/-- A member of a chain that is not its headwater. -/
def member0 : State := run0.setMstate mMember
/-- The undecided epoch of a headwater: generation 1 at angle 0, participants 0 and 1, 0 armed, asked for by device 1. -/
def head0 : EpHead := ⟨1, 1, 0, [0, 1], [], [], [0], [], none, 2⟩
/-- A state in which that epoch is in progress. -/
def heads (h : EpHead) : State := { run0 with ep := { run0.ep with head := some h } }
/-- Source 0 runs on a kind, with EPC 4096 and ZDIV 1, its last measurement 8 units of 125 ps ago. -/
def source (kind : Nat) : State :=
  let s := ((run0.setF (ANG_SRC_CFG 0) ANG_SRC_CFG_KIND kind).setF (ANG_SRC_EPC 0) ANG_SRC_EPC_EPC 4096).setF (ANG_SRC_IDX 0) ANG_SRC_IDX_ZDIV 1
  s.setSrc 0 { AngSrc.reset with on := true, tLast := some 8, interval := 1, lastFrame := some 4095 }
/-- A full-scope window that holds angle 0. -/
def fullIdle : State :=
  ((member0.setF (ANG_IDLE_CTL 15) ANG_IDLE_CTL_EN 1).setF (ANG_IDLE_CTL 15) ANG_IDLE_CTL_TILES 0xFFFF).put (ANG_IDLE_END 15) 1
/-- A wait of instance 255 for angle 0 that is due. -/
def wait0 : StOp := ⟨kindWait, 255, 0, .fwd, .until, .inst 255, 0⟩

theorem witness_StepRunsFront : { State.reset with pending := [.pfailEnd] }.pending = .pfailEnd :: [] := by decide
theorem witness_EmptyQueueStep : State.reset.pending = [] ∧ State.reset.pwr.inReset = true := by decide
theorem witness_StepKeepsMemCanon : State.reset.MemCanon ∧ step State.reset = .next State.reset :=
  ⟨by unfold State.MemCanon; decide, test_reset_holds⟩
theorem witness_FetchFrame :
    0x40000 ≤ ({ sup0 with ctxs := [(256, { Ctx.reset with pc := 0x40000 })] }.ctx 256).pc.toNat ∧
    (sup0.ctx 256).pc.toNat < 0x40000 ∧ (∀ j : Fin 4, (sup0.byteAt (2 ^ 40 + (sup0.ctx 256).pc.toNat + j)).isSome = true) ∧
    sup0.codeErr (2 ^ 40 + (sup0.ctx 256).pc.toNat) = CodeErr.none' := by decide +kernel
theorem witness_RegisterWindows : Ctx.reset.wix < 16 := by decide
theorem witness_RegisterWrites_refused :
    { run0 with pwr := { run0.pwr with dead := 0x1000000 } }.wayDead .sup = true ∧
    run0.access (.inst 255) TST_CFG true = .mpu ∧ run0.access .host TST_CFG true = .wrej ∧
    (run0.flag BOOT_KEYSTAT BOOT_KEYSTAT_DLOCK).access .jtag TST_CFG true = .locked ∧
    run0.access .sup 0xF8000000 true = .ok ∧ regAddr 0xF8000000 = true ∧ regAddr 3 = false := by decide +kernel
theorem witness_RegisterWrites_plain : let k := ANG_SRC_CFG 0
    run0.access .sup k true = .ok ∧ blockOf k = .ang ∧ run0.busKey .sup k = k ∧ recordOf k = none ∧
    (∃ r, descOf k = some r ∧ r.kind = .plain) ∧ hasRws (fieldsAt k) = true ∧ reservedEncoding (fieldsAt k) 0 = false ∧
    (0 &&& rwsMask (fieldsAt k) != armed0.shReg k &&& rwsMask (fieldsAt k)) = false ∧
    (0xC &&& rwsMask (fieldsAt k) != armed0.shReg k &&& rwsMask (fieldsAt k)) = true ∧
    reservedEncoding (fieldsAt TST_CFG) 0x10000 = true := by decide +kernel
theorem witness_CounterAccess : let k := PWR_PFAILS_LO
    run0.busKey .sup k = k ∧ run0.busKey .sup (k + 4) = k + 4 ∧ kindAt k = .counterLo ∧ kindAt (k + 4) = .counterHi ∧
    isSrcPos k = false ∧ k ≠ ANG_POS_LO ∧ run0.access .sup k true = .ok ∧ run0.access .sup (k + 4) false = .ok ∧ descOf k ≠ none ∧
    tblGet (fun _ => none) { run0 with ctrLoad := [(k, some ⟨5, true⟩)] }.ctrLoad k = some ⟨5, true⟩ ∧
    tblGet (fun _ => none) run0.ctrLoad k = none := by decide +kernel
theorem witness_SubmissionsAndManagement :
    run0.access .sup (MEM_DMA_Q 15) true = .ok ∧ (run0.dma 15).queue.length < 32 ∧ run0.access .sup BOOT_CTL true = .ok ∧
    (run0.setF BOOT_SLUICE_STAT BOOT_SLUICE_STAT_DONE 8).access .smbus TST_CFG true = .smbus := by decide +kernel
theorem witness_ClocksRailsAndPfail :
    run0.monitored 27 = false ∧ run0.monitored 0 = true ∧ run0.monitored 28 = true ∧
    State.reset.fld PWR_RAIL PWR_RAIL_GOOD / 2 ^ 8 % 2 = 0 ∧ run0.fld PWR_RAIL PWR_RAIL_GOOD / 2 ^ 10 % 2 = 1 ∧
    (run0.pwr.inReset || run0.pwr.standby) = false ∧ (run0.flag PWR_STATUS PWR_STATUS_PFL).bit PWR_STATUS PWR_STATUS_PFL = true ∧
    run0.pwr.tshut = false ∧ (∀ j : Fin 9, run0.fld PWR_RAIL PWR_RAIL_GOOD / 2 ^ j.val % 2 = 1) := by decide +kernel
theorem witness_ResetsAndStandby :
    let sby := { run0 with pwr := { run0.pwr with standby := true } }
    bootMay .host = true ∧ run0.access .sup BOOT_CTL true = .ok ∧ run0.access .sup PWR_SBY true = .ok ∧
    fieldGet PWR_SBY_KEY 0x5B000000 = 0x5B ∧ (run0.mstate ≠ mMember ∧ run0.mstate ≠ mLeaving) ∧ member0.mstate = mMember ∧
    (sby.setF PWR_SBY PWR_SBY_TIMER 1).fld PWR_SBY PWR_SBY_TIMER ≠ 0 ∧
    (sby.flag (PIN_CFG 255) PIN_CFG_WAKE).bit (PIN_CFG 255) PIN_CFG_WAKE = true ∧
    (([(0, true), (790, false)] : List (Fin 791 × Bool)).map (·.1)).Nodup := by decide +kernel
theorem witness_TilesWakeAndTemperature :
    let s := { run0 with pwr := { run0.pwr with ramping := [(3, 15)] } }
    run0.access .sup PWR_TILE_CMD true = .ok ∧ s.pwr.ramping.contains (3, 15) = true ∧ s.pwr.held = [] ∧ s.leat.uops = [] ∧
    s.boot.startDue = none ∧ run0.access .sup (CVG_REF 1) true = .ok ∧ (3 : Word) &&& reservedBits (fieldsAt (CVG_REF 1)) = 0 ∧
    reservedEncoding (fieldsAt (CVG_REF 1)) 3 = false ∧ (List.replicate 12 (0 : BitVec 16)).length = 12 ∧
    run0.access .sup PWR_TMAX false = .ok := by decide +kernel
theorem witness_AngleSources :
    run0.srcTakes 0 1 = false ∧ (source 1).srcTakes 0 1 = true ∧ (source 2).srcTakes 0 2 = true ∧ (source 3).srcTakes 0 3 = true ∧
    (source 4).srcTakes 0 4 = true ∧ 8 * (source 1).fld (ANG_SRC_CFG 0) ANG_SRC_CFG_FILT ≤ 0 ∧
    (source 1).fld (ANG_SRC_IDX 0) ANG_SRC_IDX_ZDIV ≠ 0 ∧ ((source 2).src 0).lastFrame = some 4095 ∧
    ((source 1).src 0).loop.regime ≠ .still ∧ (source 1).bit (ANG_SRC_STAT 0) ANG_SRC_STAT_LOST = false ∧
    (source 1).fld (ANG_SRC_LOOP 0) ANG_SRC_LOOP_MISS * ((source 1).src 0).interval ≤ 8 := by decide +kernel
theorem witness_EpochRequests :
    member0.isHead = false ∧ run0.isHead = true ∧ member0.access .sup ANG_EPOCH_CTL true = .ok ∧ member0.twinStandby = false ∧
    (1 : Fin 512).val ≠ run0.dev ∧ (heads head0).ep.head = some head0 ∧ run0.outputsReleased = false ∧
    (run0.setF BOOT_SLUICE_STAT BOOT_SLUICE_STAT_DONE 2).outputsReleased = true ∧ run0.epState = 0 ∧
    (run0.setF ANG_EPOCH_STAT ANG_EPOCH_STAT_STATE 4).epState ≤ 4 := by decide +kernel
theorem witness_EpochArmingAndDecision :
    fullIdle.isHead = false ∧ fullIdle.ep.part = none ∧ fullIdle.mstate = mMember ∧ fullIdle.reg ANG_CFG_GEN + 1 = 1 ∧
    fullIdle.inFullIdle 0 = true ∧ member0.inFullIdle 0 = false ∧ head0.parts.contains 1 = true ∧ head0.decided = none ∧
    (heads head0).leadReached 0 = true ∧ (heads head0).leadReached 0x10000000000 = false ∧
    ({ armed0 with ep := { armed0.ep with refused := some 1, part := none } }.setMstate mMember).ep.refused = some 1 ∧
    (armed0.setMstate mMember).ep.part = some part0 := by decide +kernel
theorem witness_EpochApplicationAndWindows :
    let s := { armed0 with ep := { armed0.ep with part := some ⟨1, 0, true, 0⟩ }, ang := { armed0.ang with hwm := some 0 } }
    s.ep.part = some ⟨1, 0, true, 0⟩ ∧ Stamp.reachedBy 0 s.ang.hwm = true ∧ s.epState ≠ 4 ∧ s.leat.uops = [] ∧ s.leat.tret = none ∧
    (s.twinPrimary && s.twin.feeding == some 2) = false ∧ s.twinStandby = false ∧
    { s with stq := [wait0] }.releasable wait0 = true ∧ run0.releasable wait0 = false ∧
    fullIdle.windowHolds 15 fullIdle.angle = true ∧ fullIdle.ang.windows.contains 15 = false := by decide +kernel

/-! ### The analogue side -/

/-- A plain word that waits at a destination of the crossbar. -/
def arrives (d : Nat) (w : CWord) : State := { run0 with cxb := { run0.cxb with arrived := [(d, [w])] } }
/-- Cell 511 streams, and its FIFO holds words. -/
def streams (l : List CWord) : State :=
  ((arrives 511 ⟨0x100, none⟩).setF (CEL_OUT 511) CEL_OUT_MODE 1).setCell 511 { Cell.reset with fifo := l }
/-- Group 63 in a state, with conversions. -/
def group0 (st : Nat) (x : Group) : State :=
  ((run0.setF (CVG_STATUS 63) CVG_STATUS_STATE st).flag CAL_STATUS CAL_STATUS_PUDONE).setGroup 63 x
/-- A conversion of entry `e` in slice 0 whose sample is held. -/
def conv0 (e : Nat) : Conv := run0.sampleNow 63 (run0.newConv 63 e 0 0)
/-- Engine 63 with one item for its channel 7, which runs and sends. -/
def engine0 : State :=
  let s := (run0.setF (FLT_CH_STATUS 511) FLT_CH_STATUS_STATE 2).setF (FLT_CH_CFG 511) FLT_CH_CFG_ROLE 1
  s.setEngine 63 { Engine.reset with fifo := [⟨⟨0x100, none⟩, [7], [], []⟩] }
/-- Generator 511 is enabled and a start waits to be granted. -/
def starts0 (x : Pulse) : State := (run0.setF (DRV_CFG 511) DRV_CFG_EN 1).setPulse 511 x
/-- A start with profile 3. -/
def start0 : Start := ⟨3, none, 0⟩
/-- A running shot of pulses: active, one of two begun. -/
def shot0 : Shot := ⟨0, 0, 0, 8, 16, 1, 0, 0, 0, true, 1⟩

theorem witness_CellOutputs :
    run0.governs 511 = 511 ∧ run0.halted 14 = false ∧ (run0.cell 511).lateQ = [] ∧
    (run0.fenced || run0.clockUnsafe || run0.bit PWR_STATUS PWR_STATUS_PFL) = false ∧
    run0.fld (CEL_OUT 511) CEL_OUT_MODE = 0 ∧ (streams []).fld (CEL_OUT 511) CEL_OUT_MODE = 1 ∧ (streams []).governs 511 = 511 ∧
    ((streams []).takeArrived 511).map (·.1) = some ⟨0x100, none⟩ ∧ (⟨0x100, none⟩ : CWord).poisoned = false ∧
    ((streams (List.replicate 4 ⟨0x100, none⟩)).cell 511).fifo.length = 4 ∧
    (run0.setF (CEL_OUT 511) CEL_OUT_BIND 2).governs 511 = 510 ∧
    run0.access .sup (CEL_WAVE_DATA 511) false = .ok := by decide +kernel
theorem witness_ConverterOperations :
    run0.access .sup (CVG_CTL 63) true = .ok ∧ run0.cvgState 63 = cvgDisabled ∧ ((group0 0 { Group.reset with powering := true }).group 63).powering = true ∧
    (group0 1 Group.reset).cvgState 63 = cvgStopped ∧ (group0 2 Group.reset).cvgState 63 = cvgRunning ∧
    ((group0 2 Group.reset).flag (CVG_URG_ENTRY 63 3) CVG_URG_ENTRY_EN).bit (CVG_URG_ENTRY 63 3) CVG_URG_ENTRY_EN = true ∧
    (group0 2 Group.reset).freeSlice 63 true = some 0 := by decide +kernel
theorem witness_ConversionsAndEddy :
    let s := group0 2 { Group.reset with seq := [conv0 15] }
    let e := (group0 2 { Group.reset with swap := some 4 }).setF (CVG_EDDY 63) CVG_EDDY_STATE 2
    (group0 2 Group.reset).freeSlice 63 false = some 0 ∧ (s.group 63).seq.length ≤ 4 ∧ s.epState ≠ 4 ∧
    (conv0 15).running = true ∧ (conv0 15).held.isSome = true ∧ s.halted 13 = false ∧ s.armDue 63 3 = none ∧
    s.bit (WEIR_STATUS 511) WEIR_STATUS_LIVE_BL = false ∧
    ((run0.flag (CVG_REF 1) CVG_REF_EN_B).bit (CVG_REF 1) CVG_REF_EN_B = true) ∧
    e.fld (CVG_EDDY 63) CVG_EDDY_STATE = 2 ∧ e.fld (CVG_EDDY 63) CVG_EDDY_SLICE < 5 ∧ (e.group 63).swap = some 4 ∧
    (e.group 63).busy.contains 4 = false ∧
    (e.flag (CVG_EDDY_CFG 63) CVG_EDDY_CFG_EN).bit (CVG_EDDY_CFG 63) CVG_EDDY_CFG_EN = true := by decide +kernel
theorem witness_FilterChannels :
    let s := { engine0 with cxb := { engine0.cxb with arrived := [(702, [⟨0x100, none⟩])] } }
    run0.access .sup (FLT_CH_CTL 511) true = .ok ∧ (s.takeArrived 702).map (·.1) = some ⟨0x100, none⟩ ∧ s.clockDead 15 = false ∧
    s.chState 511 = chRunning ∧ (s.engine 63).fifo = [⟨⟨0x100, none⟩, [7], [], []⟩] ∧ (s.engine 63).busy < 1000 ∧
    s.chChained 511 = false ∧ s.fld (FLT_CH_FIR 511) FLT_CH_FIR_MODE = 0 ∧ s.bit (FLT_CH_RS 511) FLT_CH_RS_EN = false ∧
    s.fld (FLT_CH_CFG 511) FLT_CH_CFG_ROLE = 1 ∧ s.bit (FLT_CH_DC 511) FLT_CH_DC_EN = false ∧ s.reg (FLT_CH_SHIFT 511) = 0 ∧
    ((s.setF (FLT_CH_FIR 511) FLT_CH_FIR_MODE 2).setF (FLT_CH_FIR 511) FLT_CH_FIR_LEN 1).firWords 511 ≠ [] := by decide +kernel
theorem witness_CoefficientsAndLearning :
    let w : LearnWin := ⟨0, 0, none, true, [], true⟩
    run0.access .sup (FLT_COEF_DATA 63) true = .ok ∧ run0.bit (FLT_COEF_ADDR 63) FLT_COEF_ADDR_BANK = false ∧
    (run0.flag (FLT_COEF_ADDR 63) FLT_COEF_ADDR_BANK).bit (FLT_COEF_ADDR 63) FLT_COEF_ADDR_BANK = true ∧ run0.armed = false ∧
    run0.codeErr (memKey 0x2F (coefAddr 63 1 8191)) = CodeErr.none' ∧ run0.access .sup CXB_LOAD false = .ok ∧
    (({ run0 with learns := [(63, ⟨[(511, w)], true⟩)] }).learnUnit 63).running = true := by decide +kernel
theorem witness_DriveOperations :
    run0.access .sup (DRV_CTL 511) true = .ok ∧ run0.fenced = false ∧ run0.clockUnsafe = false ∧
    run0.bit PWR_STATUS PWR_STATUS_PFL = false ∧ run0.access .sup (DRV_CFG 511) true = .ok ∧
    reservedEncoding (fieldsAt (DRV_CFG 511)) 0x80 = false ∧ (0x80 : Word) &&& reservedBits (fieldsAt (DRV_CFG 511)) = 0 ∧
    (0x80 : Word).getLsbD 7 = true ∧ run0.bit (DRV_CFG 511) DRV_CFG_EN = false := by decide +kernel
theorem witness_ShotsAndTrips :
    let s := starts0 { Pulse.reset with released := [start0] }
    let p := starts0 { Pulse.reset with pend := some start0 }
    let x := starts0 { Pulse.reset with shot := some shot0 }
    (s.pulse 511).released = [start0] ∧ s.bit (DRV_CFG 511) DRV_CFG_EN = true ∧ s.bit (DRV_STATUS 511) DRV_STATUS_LATCH = false ∧
    s.stampIdle 511 start0 = false ∧ s.inIdle 511 start0 = false ∧ s.budgetFull 15 = false ∧ s.tripInput 511 = none ∧
    s.fld (DRV_CFG 511) DRV_CFG_MODE ≠ 1 ∧ p.pendings = [(511, start0)] ∧ (x.pulse 511).shot = some shot0 ∧
    shot0.active = true ∧ shot0.begun < shot0.nrep + 1 ∧ (run0.pair 511).blanked = false := by decide +kernel
theorem witness_Confluence :
    let f : Flight := ⟨0, ⟨0x100, none⟩, [1599]⟩
    run0.cxb.flights = [] ∧ ({ run0 with cxb := { run0.cxb with flights := [f] } }).cxb.flights = [f] ∧ f.dests.Nodup ∧
    run0.access .sup (CXB_ROUTE 1599) true = .ok ∧ run0.routeAllowed .sup 511 0 = true ∧ routeReserved 511 0 = false ∧ run0.tst.run = none ∧
    run0.access .sup CXB_RNOW true = .ok ∧ rnowMay 0 = false ∧ run0.access .sup (CXB_OWN 1599) true = .ok ∧
    cxbSuper .sup = true ∧ cxbSuper (.inst 0) = false ∧ run0.portLocked 1599 = false ∧
    tblGet (fun _ => []) ({ run0 with cxb := { run0.cxb with playout := [(63, [⟨0x100, none⟩])] } }).cxb.playout 63 = [⟨0x100, none⟩] := by
  decide +kernel

/-! ### Memory, logic, chain, host -/

/-- A descriptor of DMA engine 15 that the supervisor core submitted. -/
def desc0 : DmaDesc := ⟨0x6003FFFFE0, 256, 0⟩
/-- A FILL of one word into tile SRAM, of the supervisor core. -/
def fill0 : DmaRun := ⟨1, 0, true, 0, 0x6000000000, 4, 7, 0x100, 256, 0, 0, false, [], false, 0, ⟨0, []⟩⟩
/-- Engine 15 with a queue and a running descriptor. -/
def dmas (q : List DmaDesc) (r : Option DmaRun) : State := (run0.put PWR_TILE_STATE 0).setDma 15 ⟨q, r, []⟩
/-- An NVM line write that waits at the front. -/
def nvms (line : Nat) (u : NvmUse) : State := { run0 with mem := { run0.mem with nvmQ := [⟨line, List.replicate 16 1, u⟩] } }
/-- A device whose host command waits: class and operation, accepted or ready. -/
def hcmd (cls opc : Nat) (p : HPhase) : HCmd :=
  ⟨256, none, 256, 0, BitVec.ofNat 512 (opc + cls * 4096), [], 1, 0, p, 0, 0, false⟩
def hosts (l : List HCmd) : State := { run0 with host := { run0.host with cmds := l } }
/-- A request of this device that device 511 has not answered. -/
def req0 (k : LeatKind) (w : Waiter) : LReq := ⟨0xFFFF, 511, k, [0xFFFF], 1, w⟩
/-- A state in which it is open. -/
def asks (k : LeatKind) (w : Waiter) (s : State) : State := { s with leat := { s.leat with reqs := [req0 k w] } }
/-- Device 511's packet with that sequence number, of its supervisor core. -/
def hd1 : PktHead := ⟨511, 0xFFFF, none, 0⟩
/-- Port 3 has an UP link. -/
def linked : State := (run0.flag (LP_STATUS 3) LP_STATUS_UP).setF (LP_STATUS 3) LP_STATUS_STATE 5
/-- A paired device with a role and a TWIN state. -/
def pair0 (role st : Nat) : State := (linked.setF TWIN_STATUS TWIN_STATUS_ROLE role).setF TWIN_STATUS TWIN_STATUS_STATE st
/-- The headwater that holds a record of device 511 in a state. -/
def admits (st : Nat) : State :=
  (run0.flag LEAT_STATUS LEAT_STATUS_HEADWATER).setF (LEAT_MREC 511) LEAT_MREC_STATE st
/-- The headwater in a state of the boot sequence. -/
def boots (hw st : Nat) (b : Boot) : State :=
  { (run0.setF LEAT_CFG LEAT_CFG_HWSEL hw).setF BOOT_STATUS BOOT_STATUS_STATE st with boot := b }
/-- A calibration command that runs. -/
def cals (o : Option CalOp) : State := { run0 with cal := { run0.cal with op := o } }

/-- Both halves of the line store have failed. -/
def failing : State := (run0.flag NVM_STATUS NVM_STATUS_HALF_W_FAIL).flag NVM_STATUS NVM_STATUS_HALF_E_FAIL

theorem witness_MemoryCommands :
    let p := run0.flag MEM_PATROL MEM_PATROL_EN
    run0.access .sup ECC_LOG_CTL true = .ok ∧ run0.mem.log.length ≤ 32 ∧ p.bit MEM_PATROL MEM_PATROL_EN = true ∧
    p.locOff 0x6000000000 = .mem 0x6000000000 ∧ p.codeErr 0x6000000000 = CodeErr.none' ∧ p.mem.last = none ∧
    ones (0 : Word) + ones (1 : Word) + ones (0 : Word) = 1 ∧ run0.access .sup NVM_CMD true = .ok ∧
    (run0.flag NVM_STATUS NVM_STATUS_BUSY).bit NVM_STATUS NVM_STATUS_BUSY = true ∧ isSuper .sup = true ∧ isSuper (.inst 255) = false ∧
    nvmLogFirst < nvmLogEnd ∧ run0.nvmServing nvmLogFirst ≠ [] ∧
    failing.nvmServing nvmLogFirst = [] ∧
    run0.access .sup MEM_RET_CMD true = .ok ∧ run0.access .sup MEM_SRAM_CMD true = .ok ∧
    ({ run0 with mem := { run0.mem with ret := some ⟨true, 1007, 0, false⟩ } }).mem.ret = some ⟨true, 1007, 0, false⟩ := by decide +kernel
theorem witness_DmaAndNvmLines :
    let s := dmas [desc0] none
    let x := s.readPieces (0x110 + 15) .sup (.mem desc0.addr) 32
    s.dma 15 = ⟨[desc0], none, []⟩ ∧ s.dmaAsleep [s.dev * 2 ^ 39 + desc0.addr] = [] ∧ x.1.length = 8 ∧
    ((s.put PWR_TILE_STATE 1).dmaAsleep [0x6000000000] = [0]) ∧
    ((dmas [] (some fill0)).dma 15).run = some fill0 ∧ (dmas [] (some fill0)).dmaOld fill0 = false ∧ fill0.phase = 0 ∧
    fill0.done < fill0.len ∧ (run0.locHalted (run0.locGlobal 256 fill0.dst)) = false ∧ (dmas [] (some fill0)).dmaAsleep [fill0.dst] = [] ∧
    ((arrives 1279 ⟨0x100, none⟩).takeArrived (1216 + 63)).map (·.1) = some ⟨0x100, none⟩ ∧
    (nvms nvmLogFirst .cmd).nvmFront 0 = some ⟨nvmLogFirst, List.replicate 16 1, .cmd⟩ ∧ run0.halted 28 = false ∧
    run0.halfFailed 1 = false ∧ run0.mem.nvmQ = [] := by decide +kernel
theorem witness_InterruptController :
    let src := fun (p : SrcPhase) => ({ run0 with irq := { run0.irq with src := [(0x9FF, ⟨p, 0x100, true⟩)] } } : State)
    run0.halted 24 = false ∧ ({ run0 with pwr := { run0.pwr with dead := 0x1000000 } }).halted 24 = true ∧
    run0.isEvent 0x9FF = true ∧ run0.isEvent 0x8FF = false ∧ (run0.occur 0x9FF).occurred 0x9FF = true ∧
    ((src .pending).irqSrc 0x9FF).phase = .pending ∧ ((src .claimed).irqSrc 0x9FF).phase = .claimed ∧
    (run0.irqSrc 0x7E7).phase = .idle ∧ run0.access .sup irqClaimAddr true = .ok ∧ run0.access .sup irqClaimAddr false = .ok ∧
    fieldGet IRQ_CLAIM_SRC (0xFFF : Word) = 0xFFF ∧ fieldGet IRQ_DONE_SRC (0x9FF : Word) = 0x9FF ∧
    (src .pending).irqShown .host 0x9FF = true ∧ run0.access .sup IRQ_DONE true = .ok ∧ run0.access .sup IRQ_SWSET true = .ok := by decide +kernel
theorem witness_PinCommands :
    let s := (run0.setF (PIN_CFG 255) PIN_CFG_MUX 2).setF (PIN_OE 15) PIN_OE_OE 0x8000
    let m := (run0.setF (PM_CTL 31) PM_CTL_EN 1).setF (PM_CTL 31) PM_CTL_MODE 1
    run0.access .sup (PIN_OUT 15) true = .ok ∧ run0.access .sup (PIN_OE 15) true = .ok ∧ run0.access .sup (PIN_CFG 255) true = .ok ∧
    (run0.setF (PIN_CFG 255) PIN_CFG_OWN 2).pinOwn 255 = 2 ∧ run0.pinOwn 255 ≠ 2 ∧
    (let v : Word := BitVec.ofNat 32 (2 * 2 ^ (PIN_CFG_OWN : Field).lo); fieldGet PIN_CFG_OWN v = 2 ∧ reservedEncoding (fieldsAt (PIN_CFG 255)) v = false ∧ v &&& reservedBits (fieldsAt (PIN_CFG 255)) = 0) ∧
    reservedEncoding (fieldsAt (PIN_CFG 255)) (run0.shReg (PIN_CFG 255)) = false ∧ run0.armed = false ∧
    run0.access .sup (PIN_FAB 255) true = .ok ∧
    ((arrives 1375 ⟨0x80800000, none⟩).takeArrived (1344 + 31)).map (·.1) = some ⟨0x80800000, none⟩ ∧
    (⟨0x80800000, none⟩ : CWord).poisoned = false ∧ (run0.pgroup 31).fifo = [] ∧
    s.pinMux 255 = 2 ∧ s.pinOe 255 = true ∧ s.sameOwner 255 1375 = true ∧ s.pinOwner .sup 255 = true ∧
    m.bit (PM_CTL 31) PM_CTL_EN = true ∧ m.fld (PM_CTL 31) PM_CTL_MODE = 1 ∧ m.pmWas 31 = false ∧
    run0.access .sup (PM_CTL 31) true = .ok := by decide +kernel
theorem witness_InstancesAndInServiceTest :
    let st := fun (n : Nat) => (run0.flag (INST_CFG 255) INST_CFG_EN).setF (INST_STATE 255) INST_STATE_STATE n
    let t := ((run0.flag TST_CFG TST_CFG_EN).flag CAL_STATUS CAL_STATUS_PUDONE).setF BOOT_SLUICE_STAT BOOT_SLUICE_STAT_DONE 2
    let u := (t.setF TST_CFG TST_CFG_CLS 15).setF TST_CFG TST_CFG_PERIOD 1
    run0.access .sup instCtlBus true = .ok ∧ (st 0).ctxState 255 = ctxStopped ∧ (st 0).bit (INST_CFG 255) INST_CFG_EN = true ∧
    (st 0).bit (INST_STATE 255) INST_STATE_RESET_BUSY = false ∧ (st 0).worksHere = true ∧ (st 1).ctxState 255 = ctxRun ∧
    (st 3).ctxState 255 = ctxHeld ∧ (st 3).fenced = false ∧
    (run0.flag (INST_STATE 255) INST_STATE_RESET_BUSY).bit (INST_STATE 255) INST_STATE_RESET_BUSY = true ∧
    u.tstOn = true ∧ u.tst.run = none ∧ u.tstClass 2 = true ∧ u.passDue = true ∧ u.tstFree 2 0 = true ∧ run0.tstOn = false ∧
    ({ u with tst := { u.tst with run := some (2, 0) } }).tst.run = some (2, 0) ∧
    ({ u with tst := { u.tst with began := some 0, passing := true } }).ns < 0 + u.tstPeriod := by decide +kernel
theorem witness_LogicFabric :
    let st := fun (n : Nat) => run0.setRgState 255 n
    let a := run0.flag OBS_STATUS OBS_STATUS_ARMED
    run0.access .sup (LGC_RG_CTL 255) true = .ok ∧ (st 0).rgState 255 = rgRun ∧ (st 1).rgState 255 = rgStopped ∧
    (st 2).rgState 255 = rgLoading ∧ (st 3).rgState 255 = rgLoaded ∧ (st 4).rgState 255 = 4 ∧
    (run0.region 255).issuerReset = false ∧ run0.locOff 0x6000000000 = .mem 0x6000000000 ∧
    run0.locOff (0x6000000000 + 4095) = .mem (0x6000000000 + 4095) ∧ run0.locOff 0 ≠ .mem 0 ∧
    ((arrives 1215 ⟨0x100, none⟩).takeArrived (960 + 255)).map (·.1) = some ⟨0x100, none⟩ ∧ (run0.lport 255).fifo.length + 1 ≤ 8 ∧
    run0.access .sup OBS_CAP_CTL true = .ok ∧ run0.debugLock = false ∧ (run0.flag BOOT_KEYSTAT BOOT_KEYSTAT_DLOCK).debugLock = true ∧
    reservedEncoding (fieldsAt OBS_CAP_CTL) (0x80000000 : Word) = false ∧ Stamp.beyond run0.capStamp run0.angle = false ∧
    Stamp.beyond (run0.put OBS_CAP_ANG_HI 0x4000).capStamp run0.angle = true ∧
    (a.setF OBS_CAP_CTL OBS_CAP_CTL_TRIG 2).fld OBS_CAP_CTL OBS_CAP_CTL_TRIG = 2 ∧ a.bit OBS_STATUS OBS_STATUS_ARMED = true ∧
    (a.flag (LGC_GC 0) LGC_GC_EN).gcOn a.capGc = true ∧ run0.access .sup OBS_CAP_DATA false = .ok := by decide +kernel
theorem witness_ChainAngleAndMembers :
    let h := run0.flag ANG_STATUS ANG_STATUS_HEADWATER
    let b : State := { run0 with leat := { run0.leat with ports := [(3, ⟨3, 0, LLine.reset⟩)] } }
    let l := member0.flag LEAT_STATUS LEAT_STATUS_DIST_LOST
    (run0.lp 3).bad < 3 ∧ (b.lp 3).bad = 3 ∧ run0.isHead = true ∧ member0.isHead = false ∧ member0.leat.angPort = 0 ∧
    h.bit ANG_STATUS ANG_STATUS_HEADWATER = true ∧ (511 : Fin 512).val ≠ member0.headIdx ∧ (0 : Fin 512).val = member0.headIdx ∧
    (h.flag (LP_STATUS 3) LP_STATUS_UP).anyUp = true ∧ (h.pwr.standby || h.twinStandby) = false ∧
    run0.mstate = mAlone ∧ member0.mstate ≠ mAlone ∧ member0.bit LEAT_STATUS LEAT_STATUS_DIST_LOST = false ∧
    l.bit LEAT_STATUS LEAT_STATUS_DIST_LOST = true ∧ l.fenced = false ∧ l.anyUp = false ∧
    (member0.setF LEAT_CFG LEAT_CFG_DIST_HOLD 1).fld LEAT_CFG LEAT_CFG_DIST_HOLD ≠ 0 ∧ (member0.setF LEAT_CFG LEAT_CFG_DIST_HOLD 0).fld LEAT_CFG LEAT_CFG_DIST_HOLD = 0 ∧
    ((member0.setF LEAT_STATUS LEAT_STATUS_TOPO 2).fld LEAT_STATUS LEAT_STATUS_TOPO = 2) ∧
    (h.flag (LEAT_PATH 511) LEAT_PATH_MEMBER).isMember 511 = true := by decide +kernel
theorem witness_ChainPorts :
    let e := { run0 with pwr := { run0.pwr with waiting := [] } }.setF LEAT_CFG LEAT_CFG_PEN 8
    let r := (((run0.flag (CXB_RR_CFG 63) CXB_RR_CFG_EN).setF (CXB_RR_CFG 63) CXB_RR_CFG_PEER_DEV 511).setF (CXB_RR_CFG 63) CXB_RR_CFG_PEER_SLOT 63)
    bitOf (e.fld LEAT_CFG LEAT_CFG_PEN) 3 = true ∧ e.fld (LP_STATUS 3) LP_STATUS_STATE = 0 ∧ (6, 3) ∉ e.pwr.waiting ∧ (6, 3) ∉ e.pwr.ramping ∧
    (run0.setF (LP_STATUS 3) LP_STATUS_STATE 4).fld (LP_STATUS 3) LP_STATUS_STATE = 4 ∧ linked.lpUp 3 = true ∧
    (linked.lp 3).uid ≠ 1 ∧ (linked.lp 3).uid = 0 ∧ run0.access .sup (LP_CFG 3) true = .ok ∧
    fieldGet LP_CFG_LVLMAX (BitVec.ofNat 32 (2 * 2 ^ (LP_CFG_LVLMAX : Field).lo)) = 2 ∧ run0.access .sup LEAT_CFG true = .ok ∧
    r.bit (CXB_RR_CFG 63) CXB_RR_CFG_EN = true ∧ r.fld (CXB_RR_CFG 63) CXB_RR_CFG_PEER_DEV = 511 ∧
    r.fld (CXB_RR_CFG 63) CXB_RR_CFG_PEER_SLOT = 63 ∧ (1 : Fin 3).val = 1 := by decide +kernel
theorem witness_ChainAdmission :
    let a := admits mReady
    let c := (run0.setMstate mStale).put LEAT_REF_GEN 1
    let g := fun (m : Nat) => ({ (c.setF LEAT_STALE LEAT_STALE_METHOD m) with leat := { c.leat with catching := true } } : State)
    let r := run0.setF LEAT_TRET_STAT LEAT_TRET_STAT_RETIRED 0x8000
    run0.access .sup LEAT_ADMIT true = .ok ∧ a.bit LEAT_STATUS LEAT_STATUS_HEADWATER = true ∧
    a.fld (LEAT_MREC 511) LEAT_MREC_STATE = mReady ∧ a.leat.queue.length < 8 ∧ (run0.setMstate mLeaving).mstate = mLeaving ∧
    run0.access .sup LEAT_STALE true = .ok ∧ c.leat.catching = false ∧ c.mstate = mStale ∧ c.reg LEAT_REF_GEN = c.gen + 1 ∧
    c.twin.pend ≠ some 3 ∧ c.leat.recorded = false ∧ (c.flag (LP_STATUS 3) LP_STATUS_UP).lpUp c.twinPort = true ∧
    (g 0).leat.catching = true ∧ (g 0).gen ≠ (g 0).reg LEAT_REF_GEN ∧ ((g 3).put LEAT_REF_GEN 0).gen = ((g 3).put LEAT_REF_GEN 0).reg LEAT_REF_GEN ∧
    run0.access .sup LEAT_TRET true = .ok ∧ run0.leat.tret = none ∧ bitOf (r.fld LEAT_TRET_STAT LEAT_TRET_STAT_RETIRED) 15 = true ∧
    run0.tileRouted 15 = false ∧ (∀ n : Fin 16, run0.ctxState (240 + n.val) = ctxStopped) ∧
    bitOf ((r.setF LEAT_STALE LEAT_STALE_TILES 0x8000).fld LEAT_STALE LEAT_STALE_TILES) 15 = true := by decide +kernel
theorem witness_ChainPackets :
    let l := asks .mrd (.load 256) (run0.setCtx 256 { Ctx.reset with stall := .mem (.load 16 4 false) true 0 none })
    let u := asks .uop (.urd 256) (run0.setCtx 256 { Ctx.reset with stall := .urd 16 0 0 [] [(511, 0, 0)] })
    run0.locHalted (run0.locOff 0x6000000000) = false ∧ run0.leat.served.find? (fun x => x.src == 511 && x.seq == 0xFFFF) = none ∧
    (let d := { run0 with pwr := { run0.pwr with dead := 0x20000 } }.setF MEM_DDR_MAP MEM_DDR_MAP_INSTALLED 8; d.locOff 0 = .mem 0 ∧ d.locHalted (d.locOff 0) = true) ∧
    hd1.inst.isNone = true ∧ atomicAt (run0.locOff 0x6000000000) = true ∧ run0.locOff 0x6000000000 = .mem 0x6000000000 ∧
    run0.locOff 0 = .bad busRange ∧ run0.leat.uops = [] ∧ run0.openReq 511 0xFFFF = none ∧
    l.openReq 511 0xFFFF = some (req0 .mrd (.load 256)) ∧ (asks .mwr (.store 256 4) run0).openReq 511 0xFFFF = some (req0 .mwr (.store 256 4)) ∧
    (asks .mrd (.burst 15) run0).openReq 511 0xFFFF = some (req0 .mrd (.burst 15)) ∧
    (asks .uop (.unit 255 0 0) run0).openReq 511 0xFFFF = some (req0 .uop (.unit 255 0 0)) ∧
    u.openReq 511 0xFFFF = some (req0 .uop (.urd 256)) ∧ (u.ctx 256).stall = .urd 16 0 0 [] [(511, 0, 0)] ∧
    run0.bit (IRQ_UF_STAT 255) IRQ_UF_STAT_VALID = false ∧ run0.genOf 255 = 0 ∧ l.twinStandby = false ∧ (req0 .mrd (.load 256)).sends < 5 := by
  decide +kernel
theorem witness_TwinPair :
    let own : Digest := ⟨0, 1, 1⟩
    let m := pair0 1 5
    let d := fun (c t : List Digest) => ({ m with twin := { m.twin with closed := c, theirs := t } } : State)
    let ready : State := { (((linked.flag TWIN_CFG TWIN_CFG_EN).setF TWIN_CFG TWIN_CFG_PORT 3).setF (LP_STATUS 3) LP_STATUS_LEVEL 2).flag
      (LP_STATUS 0) LP_STATUS_UP with twin := { run0.twin with partner5120 := true, partnerPos := some true } }
    (pair0 1 6).twinPrimary = true ∧ (pair0 2 5).twinStandby = true ∧ (pair0 2 5).twinState = twMirror ∧
    ((pair0 2 5).flag TWIN_STATUS TWIN_STATUS_PEER_SEL).bit TWIN_STATUS TWIN_STATUS_PEER_SEL = true ∧ (pair0 2 5).twin.faultWait = false ∧
    (pair0 2 5).twin.pend = none ∧ ({ (pair0 1 6) with twin := { (pair0 1 6).twin with took := some 0 } }).ns ≤ 0 + 10000 ∧
    m.digStart 0 = 0 ∧ m.digStart 0x000100000000 ≠ 0 ∧ digOf (d [own] []).twin.closed 0 = some own ∧
    digOf (d [] [own]).twin.theirs 0 = some own ∧ (d [own] []).twin.closed = [own] ∧
    ({ m with twin := { m.twin with unreported := [1] } }).twin.unreported = [1] ∧ run0.access .sup TWIN_CMD true = .ok ∧
    run0.attachRefusal = 3 ∧ ready.attachRefusal = 0 := by decide +kernel

/-- The table of an image of one section for every device, the first bytes of its header, and the two (R593, R594). -/
def entry0 : List Byte := [1, 0, 0xFF, 0xFF, 0, 2, 0, 0, 4] ++ List.replicate 23 0
def top0 : List Byte := [0x53, 0x56, 0x4C, 0x4B, 1, 0, 1, 0, 0, 3, 0, 0, 0, 0, 0, 0, 0, 0, 0, 0, 25, 8, 2, 0, 1, 0, 1, 0] ++
  bytesOf 4 0xFEAD0F16
def zeros0 : List Byte := List.replicate 44 0
def image0 : List Byte := top0 ++ (zeros0 ++ (zeros0 ++ (zeros0 ++ (zeros0 ++ zeros0)))) ++ bytesOf 4 0xD5CB32FA ++ entry0
theorem image0_crc : crc32 (image0.take 252) = 0xD5CB32FA := by
  have z : image0.take 252 = top0 ++ (zeros0 ++ (zeros0 ++ (zeros0 ++ (zeros0 ++ zeros0)))) := by decide +kernel
  have c0 : top0.foldl crcByte 0xFFFFFFFF = 0xAB0F41BD := by decide +kernel
  have c1 : zeros0.foldl crcByte 0xAB0F41BD = 0xD730D440 := by decide +kernel
  have c2 : zeros0.foldl crcByte 0xD730D440 = 0xE21CEED5 := by decide +kernel
  have c3 : zeros0.foldl crcByte 0xE21CEED5 = 0x48FE72E8 := by decide +kernel
  have c4 : zeros0.foldl crcByte 0x48FE72E8 = 0xE16B1775 := by decide +kernel
  have c5 : zeros0.foldl crcByte 0xE16B1775 = 0x2A34CD05 := by decide +kernel
  rw [z, crc32, List.foldl_append, List.foldl_append, List.foldl_append, List.foldl_append, List.foldl_append,
    c0, c1, c2, c3, c4, c5]
  decide
theorem witness_BootLoading_image : ((boots 1 1 Boot.reset).put BOOT_OXBOW 0x08000000).imgCause image0 true = 0 ∧
    (let s := (boots 1 1 Boot.reset).put BOOT_OXBOW 0x08000000
     s.halted 25 = false ∧ s.boot.img = [] ∧ s.bit LEAT_CFG LEAT_CFG_HWSEL = true ∧ s.fld BOOT_STATUS BOOT_STATUS_STATE = 1 ∧
     s.fld BOOT_STATUS BOOT_STATUS_MODE < 2 ∧ s.boot.gone = false ∧ s.pwr.tilesUp = true ∧ 256 ≤ image0.length ∧
     imgTop image0 ≤ image0.length ∧ at' (image0.take (imgTop image0)) 22 2 ≠ 1) := by
  refine ⟨?_, by decide +kernel⟩
  have e : (image0.drop 256).take (32 * imgSects image0) = entry0 := by decide +kernel
  have c : crc32 entry0 = 0xFEAD0F16 := by decide +kernel
  unfold State.imgCause
  rw [image0_crc, e, c]
  decide +kernel
/-- Queue pair 256 runs at level 3, its submission queue holds one command, and the write engine is enabled. -/
def queue0 : State :=
  (((((run0.flag (QP_CFG 256) QP_CFG_EN).setF (QP_CFG 256) QP_CFG_LEVEL 3).setF (QP_CFG 256) QP_CFG_SQS 4).setF (QP_CFG 256) QP_CFG_CQS 4).setF
    BOOT_SLUICE_STAT BOOT_SLUICE_STAT_DONE 8).setQp 256 ⟨0, 1, 0, 0, true, false, false⟩
/-- The body of a command: class, operation and more. -/
def body0 (cls opc more : Nat) : BitVec 512 := BitVec.ofNat 512 (opc + cls * 4096 + more)

theorem witness_HostInterface :
    let f := fun (b : BitVec 512) => queue0.readCmd 256 b []
    let t := { queue0 with jnl := { queue0.jnl with tokens := 1 } }.flag (LEAT_PATH 511) LEAT_PATH_MEMBER
    run0.halted 18 = false ∧ ({ run0 with pwr := { run0.pwr with dead := 0x40000 } }).halted 18 = true ∧ run0.qpAllowed 256 = true ∧
    reservedEncoding (fieldsAt (QP_CFG 256)) (0x80034400 : Word) = false ∧
    queue0.bit (QP_CFG 256) QP_CFG_EN = true ∧ reservedEncoding (fieldsAt (QP_CFG 256)) (queue0.reg (QP_CFG 256) &&& 0x7FFFFFFF) = false ∧
    ringDist 16 0 1 ≤ ringDist 16 0 15 ∧ queue0.wren = true ∧ queue0.bit JNL_STATUS JNL_STATUS_PFAIL = false ∧ queue0.hostTurn = some 256 ∧
    queue0.hostCheckAll (f (body0 4 2 (64 * 2 ^ 256))) (some []) = 0 ∧ queue0.hostLocal (f (body0 4 2 (64 * 2 ^ 256))) = true ∧
    queue0.hostCheckAll (f (body0 0 0 0)) none = 1 ∧ queue0.hostCheckAll (f (body0 1 2 (8 * 2 ^ 256))) none = 0xA ∧
    t.hostCheckAll (f (body0 1 1 0)) (some []) = 0 ∧ t.jnl.tokens ≠ 0 ∧ t.nvmServing (jnlLine (t.jnlPlace t.jnl.pos)) ≠ [] ∧
    t.hostCheckAll (f (body0 1 1 (256 + 511 * 2 ^ 32))) (some []) = 0 ∧ t.hostLocal (f (body0 1 1 (256 + 511 * 2 ^ 32))) = false ∧
    run0.access .sup HOST_MGT true = .ok ∧ run0.access .sup HOST_UART_DATA true = .ok ∧ run0.access .sup HOST_UART_DATA false = .ok ∧
    bitOf (run0.reg SYS_CLK_LOCK).toNat 28 = true ∧ (List.replicate 64 (0 : Byte)).length = 64 := by decide +kernel
theorem witness_BenmosExecution :
    let rows : List (Nat × Nat) := [(1, 1), (1, 2), (1, 3), (1, 4), (1, 5), (2, 1), (3, 1), (3, 2), (3, 3), (3, 4), (3, 5)]
    run0.hostNext = none ∧ (∀ r ∈ rows, (hosts [hcmd r.1 r.2 .accepted]).hostNext = some (hcmd r.1 r.2 .accepted) ∧
      (hcmd r.1 r.2 .accepted).gchk = false ∧ (hcmd r.1 r.2 .accepted).cls = r.1 ∧ (hcmd r.1 r.2 .accepted).opc = r.2) ∧
    (let c := { hcmd 1 1 .accepted with body := body0 1 1 (512 + 2 ^ 384) }; c.gchk = true ∧ run0.gen.toNat ≠ c.at 48 4 ∧
      (hosts [c]).hostNext = some c) ∧
    (hosts [hcmd 1 3 .accepted]).bindCheck [] 0 [] = 0 ∧ run0.mbxOn 256 = false ∧
    (run0.flag HOST_SV_MBX HOST_SV_MBX_EN).mbxOn 256 = true ∧ (∀ k ∈ [1, 2, 3], (hosts [hcmd 4 k .ready]).readyCmd 4 k = some (hcmd 4 k .ready)) ∧
    run0.readyCmd 4 1 = none ∧ run0.nvmServing (jnlLine 0) ≠ [] ∧ failing.nvmServing (jnlLine 0) = [] := by decide +kernel
theorem witness_ForwardedAndTransfers :
    let f := { hcmd 1 1 .forwarded with body := body0 1 1 (256 + 511 * 2 ^ 32), seq := 0xFFFF }
    let a := { asks .benmos (.benmos 256 0) run0 with host := { run0.host with cmds := [f] } }
    let c : HCmd := ⟨256, some (511, 0xFFFF), 256, 0, body0 1 1 0, [], 0, 0, .ready, 0, 0, false⟩
    let t := { queue0 with jnl := { queue0.jnl with tokens := 1 } }
    let g := fun (m : Nat) => ({ run0.setF LEAT_STALE LEAT_STALE_METHOD m with leat := { run0.leat with catching := true } } : State)
    let h := fun (m : Nat) (l : List HCmd) => ({ (g m).flag LEAT_STALE LEAT_STALE_SRC with host := { run0.host with cmds := l } } : State)
    let m := pair0 2 5
    t.leat.served.find? (fun x => x.src == 511 && x.seq == 0xFFFF) = none ∧ t.host.cmds = [] ∧ t.hostCheck c (some []) = 0 ∧
    t.hostLocal c = true ∧ c.op.isSome = true ∧ a.openReq 511 0xFFFF = some (req0 .benmos (.benmos 256 0)) ∧ f.dev = 511 ∧ f.origin = none ∧
    (g 1).leat.catching = true ∧ (g 1).fld LEAT_STALE LEAT_STALE_METHOD = 1 ∧ (g 2).fld LEAT_STALE LEAT_STALE_METHOD ≠ 1 ∧
    run0.locOff 0x6000000000 = .mem 0x6000000000 ∧ (h 1 [hcmd 5 1 .ready]).readyCmd 5 1 = some (hcmd 5 1 .ready) ∧
    (h 1 []).hostCatchup 1 = true ∧ (h 2 [hcmd 5 2 .ready]).readyCmd 5 2 = some (hcmd 5 2 .ready) ∧ (h 2 []).hostCatchup 2 = true ∧
    (entryCmd run0 [] []).seq ≤ run0.jnl.last ∧ (hostPayload (entryCmd run0 [] []).cls (entryCmd run0 [] []).opc) = false ∧
    (run0.flag TWIN_CFG TWIN_CFG_EN).bit TWIN_CFG TWIN_CFG_EN = true ∧ (pair0 1 5).twinState = twMirror ∧ (pair0 1 5).twin.pend = none ∧
    m.twinStandby = true ∧ (pair0 1 6).twinState = twSolo ∧ m.mirrorReq 256 0 (fun _ => true) = none ∧
    m.nvmServing (jnlLine 0) ≠ [] := by decide +kernel
theorem witness_CalibrationCommands :
    let b := run0.flag CAL_STATUS CAL_STATUS_BUSY
    let o := run0.setF BOOT_SLUICE_STAT BOOT_SLUICE_STAT_DONE 2
    let r := (source 3).flag (ANG_SRC_STAT 0) ANG_SRC_STAT_LOCKED
    let a : AmpRun := ⟨3, 0, true, 2 ^ 45, 1, true⟩
    run0.bit CAL_STATUS CAL_STATUS_PUDONE = false ∧ run0.pwr.tilesUp = true ∧ ({ run0 with cal := { run0.cal with running := true } }).cal.running = true ∧
    run0.access .sup CAL_CMD true = .ok ∧ b.bit CAL_STATUS CAL_STATUS_BUSY = true ∧ o.outputsReleased = true ∧ o.fenced = false ∧
    failing.halfFailed 0 = true ∧ run0.halfFailed 0 = false ∧ run0.calRange = none ∧ (run0.put CAL_XADDR_HI 0x60).calRange = some 0x6000000000 ∧
    r.srcKind 0 = 3 ∧ r.bit (ANG_SRC_STAT 0) ANG_SRC_STAT_LOCKED = true ∧ (cals (some .recal)).cal.op = some .recal ∧
    (cals (some .exporting)).cal.op = some .exporting ∧ (cals (some .importing)).cal.op = some .importing ∧
    ({ cals (some .amp) with cal := { (cals (some .amp)).cal with amp := some a } }).cal.amp = some a ∧
    2 ^ 32 ≤ quot a.sum (a.n * 2 ^ 14) * 10 ∧ quot a.sum (a.n * 2 ^ 14) < 2 ^ 32 := by decide +kernel
theorem witness_SluiceKeysAndScan :
    let w := (((run0.setF BOOT_SLUICE_CTL BOOT_SLUICE_CTL_POS1 1).setF BOOT_SLUICE_CTL BOOT_SLUICE_CTL_POS2 2).setF BOOT_SLUICE_CTL BOOT_SLUICE_CTL_POS3 3).setF
      BOOT_SLUICE_CTL BOOT_SLUICE_CTL_LTMO 1
    let b := fun (p : Nat) => ({ w.setF BOOT_SLUICE_STAT BOOT_SLUICE_STAT_POS p with boot := { run0.boot with sluice := true } } : State)
    let c := run0.flag BOOT_CI_CFG BOOT_CI_CFG_EN
    w.access .sup BOOT_SLUICE_CTL true = .ok ∧ w.reg BOOT_SLUICE_CTL &&& 0x3FC0FF00 = 0 ∧ w.fld BOOT_SLUICE_CTL BOOT_SLUICE_CTL_LTMO ≠ 0 ∧
    (b 3).boot.sluice = true ∧ (b 3).bit BOOT_SLUICE_STAT BOOT_SLUICE_STAT_FAIL = false ∧ (b 0).allLocked = true ∧
    ((b 0).put SYS_CLK_LOCK 0).allLocked = false ∧ (b 1).fld BOOT_SLUICE_CTL BOOT_SLUICE_CTL_POS1 = 1 ∧
    ((b 1).flag BOOT_SLUICE_CTL BOOT_SLUICE_CTL_PROGRDY).bit BOOT_SLUICE_CTL BOOT_SLUICE_CTL_PROGRDY = true ∧
    (b 1).fld BOOT_STATUS BOOT_STATUS_STATE = 4 ∧ (b 1).mstate = 0 ∧ run0.access .sup BOOT_KEYCMD true = .ok ∧
    run0.bit BOOT_KEYSTAT BOOT_KEYSTAT_KLOCK = false ∧ run0.nvmServing nvmKeyLine ≠ [] ∧ failing.nvmServing nvmKeyLine = [] ∧
    run0.fld (BOOT_KEYBUF 0) BOOT_KEYBUF_DATA % 256 = 0 ∧
    (run0.flag BOOT_KEYSTAT BOOT_KEYSTAT_HASHSET).bit BOOT_KEYSTAT BOOT_KEYSTAT_HASHSET = true ∧ c.bit BOOT_CI_CFG BOOT_CI_CFG_EN = true ∧
    frameHeld 0x80000FFF = true ∧ c.rgRebuilt 255 = false ∧ c.epState ≠ 4 ∧ (1 : BitVec 1024) &&& c.essential 0x80000FFF ≠ 0 := by decide +kernel
theorem witness_BootLoading :
    let x := boots 1 1 Boot.reset
    let y := boots 1 2 { Boot.reset with img := image0.take 256, answered := [511], syncing := true }
    let v := boots 0 3 { Boot.reset with verifying := true }
    let t := boots 0 3 { Boot.reset with training := [1] }
    (State.reset.put BOOT_STATUS 0).fld BOOT_STATUS BOOT_STATUS_STATE = 0 ∧ (boots 0 0 Boot.reset).pwr.inReset = false ∧
    (boots 0 1 Boot.reset).bit LEAT_CFG LEAT_CFG_HWSEL = false ∧ (boots 0 1 Boot.reset).pwr.tilesUp = true ∧
    (boots 0 3 Boot.reset).boot.cause = 0 ∧ (boots 0 3 Boot.reset).boot.verifying = false ∧ x.bit LEAT_CFG LEAT_CFG_HWSEL = true ∧
    x.halted 25 = false ∧ ({ x with pwr := { x.pwr with dead := 0x2000000 } }).halted 25 = true ∧ x.bit BOOT_LATE BOOT_LATE_BUSY = false ∧
    x.fld BOOT_STATUS BOOT_STATUS_MODE < 2 ∧ y.boot.img.length < imgLen y.boot.img ∧ y.receivers = [0, 511] ∧ y.boot.syncing = true ∧
    v.boot.verifying = true ∧ v.boot.training = [] ∧ imgSigned v.boot.img = false ∧ t.boot.training.contains 1 = true ∧
    ¬ ((t.pwr.waiting ++ t.pwr.ramping).contains (4, 1) = false) ∧
    ({ t with pwr := { t.pwr with waiting := [] } }.pwr.waiting ++ t.pwr.ramping).contains (4, 1) = false ∧
    ([3, 7, 5].min? = some 3) := by decide +kernel

/-! ### Contexts -/

/-- The supervisor core, or context `c`, runs with `x`. -/
def core (c : Nat) (x : Ctx) : State := (run0.setCtxState c ctxRun).setCtx c x
/-- Instance 255 runs with `x`, its first region granting R, W and X everywhere. -/
def inst (x : Ctx) : State :=
  (((core 255 x).put (INST_MPU_BASE_LO 255 0) 0xF).put (INST_MPU_LIM_LO 255 0) 0xFFFFFFFF).put (INST_MPU_LIM_HI 255 0) 0xFFFF
/-- W8 (register 16) holds `v`, W9 1, W10 and W11 a pair: 0x400 away from 0x40000000. -/
def with8 (v : Word) : Ctx := ((Ctx.reset.rset 16 v).rset 17 1).rset 18 0x6000000000
/-- A context that waits. -/
def waits (c : Nat) (w : Stall) (x : Ctx) : State := (core c { x with stall := w }).setCtxState c ctxWait
/-- Handle 4095 of the supervisor core names drive 511, with every right. -/
def handled : State :=
  (((core 256 (with8 4095)).put PWR_TILE_STATE 0).setF INST_SV_HT INST_SV_HT_EN 1 |>.memWrite 0x101 0x6000007FF8
    (bytesOf 4 (unitId 0 0 511).toNat ++ bytesOf 4 0xC00001FF)).2
def entry1 : Handle := ⟨unitId 0 0 511, true, 511⟩

theorem ready_of (s : State) (c : Nat) (h : (s.issues c && !s.checkDue c && ((s.fetch c (s.ctx c).pc).1 == none) &&
    ((s.ctx c).postFail == none) && !s.irqDue c) = true) : s.Ready c := by
  simp only [Bool.and_eq_true, Bool.not_eq_true', beq_iff_eq] at h
  exact ⟨h.1.1.1.1, h.1.1.1.2, h.1.1.2, h.1.2, h.2⟩

theorem witness_IntegerInstructions : (core 256 (with8 7)).Ready 256 ∧ (inst (with8 7)).Ready 255 :=
  ⟨ready_of _ _ (by decide +kernel), ready_of _ _ (by decide +kernel)⟩
theorem witness_ImmediateInstructions : (inst (with8 7)).Ready 255 ∧ (31 : BitVec 16).toNat < 32 ∧ 32 ≤ (32 : BitVec 16).toNat :=
  ⟨ready_of _ _ (by decide +kernel), by decide, by decide⟩
theorem witness_FixedPointInstructions : (inst (with8 7)).Ready 255 ∧ (30 : Fin 32).val % 2 = 0 ∧ (30 : Fin 32).val ≠ 0 :=
  ⟨ready_of _ _ (by decide +kernel), by decide, by decide⟩
theorem witness_BranchesAndJumps : (inst (with8 7)).Ready 255 ∧ ((inst (with8 7)).ctx 255).rget 16 = 7 ∧
    ((inst (with8 8)).ctx 255).rget 16 = 8 := ⟨ready_of _ _ (by decide +kernel), by decide +kernel⟩
theorem witness_WindowInstructions :
    (inst { Ctx.reset with resident := 15 }).Ready 255 ∧ (inst { Ctx.reset with resident := 1 }).Ready 255 ∧
    (inst { Ctx.reset with resident := 14, wt := true }).Ready 255 ∧ ((inst { Ctx.reset with resident := 15 }).ctx 255).wt = false ∧
    ((inst { Ctx.reset with resident := 14, wt := true }).ctx 255).resident = 14 :=
  ⟨ready_of _ _ (by decide +kernel), ready_of _ _ (by decide +kernel), ready_of _ _ (by decide +kernel), by decide +kernel⟩
theorem witness_TrapEntry :
    (inst { Ctx.reset with resident := 14 }).Ready 255 ∧ (inst { Ctx.reset with resident := 15 }).Ready 255 ∧
    legalWord false 0xFFFFFFFF = false ∧ legalWord true 0xFFFFFFFF = false ∧ Ctx.reset.wt = false ∧ Ctx.reset.td = false :=
  ⟨ready_of _ _ (by decide +kernel), ready_of _ _ (by decide +kernel), by decide +kernel⟩
theorem witness_InterruptsAndChecks :
    let x := { Ctx.reset with ie := true, resident := 14 }
    let v : State := { waits 255 (.pull 16) x with irq := ⟨[(0x9FF, ⟨.pending, 0, false⟩)], []⟩ }
    let w := v.put (IRQ_TMASK 0x9FF 7) 0xFFFFFFFF
    let m : State := { core 256 { Ctx.reset with resident := 14 } with mchk := true }
    let f := { Ctx.reset with postFail := some (0x40000000, busEcc) }
    w.halted 1 = false ∧ w.ctxState 255 = 2 ∧ (w.ctx 255).stall.isMem = false ∧ (w.ctx 255).ie = true ∧ (w.ctx 255).wt = false ∧
    w.irqPending (ctxReq 255) = true ∧ w.checkDue 255 = false ∧ (w.ctx 255).td = false ∧ Ctx.reset.ie = false ∧
    m.issues 256 = true ∧ m.mchk = true ∧ (m.ctx 256).td = false ∧ (inst f).issues 255 = true ∧ (inst f).checkDue 255 = false ∧
    ((inst f).ctx 255).postFail = some (0x40000000, busEcc) := by decide +kernel
theorem witness_ControlWordsAndSync :
    (core 256 (with8 0x100)).Ready 256 ∧ (inst (with8 1)).Ready 255 ∧
    ((core 256 (with8 0x100)).ctx 256).rget 16 &&& (0xFFFFFF80 : Word) ≠ 0 ∧ ((inst (with8 1)).ctx 255).rget 16 &&& (0xFFFFFF80 : Word) = 0 ∧
    ((inst Ctx.reset).fetched 255).syncDone 255 31 = true ∧
    ((inst { Ctx.reset with unitOut := 1 }).fetched 255).syncDone 255 4 = false ∧
    ((waits 255 (.sync 31) Ctx.reset).ctx 255).stall = .sync 31 ∧ (waits 255 (.sync 31) Ctx.reset).syncDone 255 31 = true :=
  ⟨ready_of _ _ (by decide +kernel), ready_of _ _ (by decide +kernel), by decide +kernel⟩
theorem witness_LoadInstructions :
    let s := core 256 (with8 0x40000000)
    let w := waits 256 (.mem (.load 16 8 false) false 0x40000000 none) Ctx.reset
    s.Ready 256 ∧ (s.ctx 256).rget 16 = 0x40000000 ∧ (s.fetched 256).accessSub 256 false 0x40000000 4 .r = none ∧
    (s.fetched 256).accessSub 256 false 0x44000000 4 .r ≠ none ∧ (w.ctx 256).stall = .mem (.load 16 8 false) false 0x40000000 none ∧
    w.reach 256 false 0x40000000 = .mem 0x6000000000 ∧ w.ddrHalted 0x6000000000 = false ∧
    ((w.ownFirst 256 (.mem 0x6000000000)).memRead 256 0x6000000000 8).1.isSome = true :=
  ⟨ready_of _ _ (by decide +kernel), by decide +kernel⟩
theorem witness_StoreInstructions :
    let s := core 256 (with8 0x40000000)
    let p : PStore := ⟨false, 0x40000000, [1, 2, 3, 4]⟩
    let full := { with8 0x40000000 with stores := List.replicate 8 p }
    let t := core 256 { Ctx.reset with stores := [p] }
    let w := waits 256 (.store p) { Ctx.reset with stores := [p] }
    s.Ready 256 ∧ (core 256 full).Ready 256 ∧ (s.fetched 256).accessSub 256 false 0x40000000 4 .w = none ∧
    (s.fetched 256).accessSub 256 false 0x44000000 4 .w ≠ none ∧
    (t.ctx 256).stores = [p] ∧ t.reach 256 false 0x40000000 = .mem 0x6000000000 ∧ t.ddrHalted 0x6000000000 = false ∧ t.tst.run = none ∧
    (∀ k : Fin 12, (t.byteAt (0x6000000000 + k)).isSome = true ∧ t.codeErr (0x6000000000 + k) = CodeErr.none') ∧
    (w.ctx 256).stores = [p] ∧ (((w.setCtx 256 { w.ctx 256 with stores := [] }).storeDone 256 p).ctx 256).stall = .store p :=
  ⟨ready_of _ _ (by decide +kernel), ready_of _ _ (by decide +kernel), by decide +kernel⟩
theorem witness_FarAccesses :
    let at' := fun (a : BitVec 64) => Ctx.reset.pset 18 a
    let s := core 256 (at' 0x6000000000)
    let f := (core 256 (at' 0xFFE000000000)).flag (LEAT_PATH 511) LEAT_PATH_MEMBER
    s.Ready 256 ∧ f.Ready 256 ∧ ((s.ctx 256).pget 18).toNat = 0x6000000000 ∧ (s.fetched 256).accessSub 256 true 0x6000000000 8 .r = none ∧
    (s.fetched 256).reach 256 true 0x6000000000 = .mem 0x6000000000 ∧ (s.fetched 256).accessSub 256 true (2 ^ 48) 4 .r = some busRange ∧
    (f.fetched 256).accessSub 256 true 0xFFE000000000 8 .r = none ∧
    (f.fetched 256).reach 256 true 0xFFE000000000 = .far 511 0x6000000000 ∧ (s.fetched 256).accessSub 256 true 0x6000000000 8 .w = none :=
  ⟨ready_of _ _ (by decide +kernel), ready_of _ _ (by decide +kernel), by decide +kernel⟩
theorem witness_AtomicInstructions :
    let s := core 256 (with8 0x40000000)
    let op : MemOp := .cas 16 0 5
    let w := waits 256 (.mem op false 0x40000000 none) Ctx.reset
    let f := (core 256 (Ctx.reset.pset 18 0xFFE000000000)).flag (LEAT_PATH 511) LEAT_PATH_MEMBER
    s.Ready 256 ∧ f.Ready 256 ∧ (s.fetched 256).accessSub 256 false 0x40000000 4 .rw = none ∧
    (s.fetched 256).reach 256 false 0x40000000 = .mem 0x6000000000 ∧ (f.fetched 256).accessSub 256 true 0xFFE000000000 4 .rw = none ∧
    (f.fetched 256).reach 256 true 0xFFE000000000 = .far 511 0x6000000000 ∧
    (w.ctx 256).stall = .mem op false 0x40000000 none ∧ (w.ctx 256).stores = [] ∧ w.reach 256 false 0x40000000 = .mem 0x6000000000 ∧
    (∀ k : Fin 4, w.byteAt (0x6000000000 + k) = some ((0 : Word).extractLsb' (8 * k) 8)) ∧ w.codeErr 0x6000000000 = CodeErr.none' :=
  ⟨ready_of _ _ (by decide +kernel), ready_of _ _ (by decide +kernel), by decide +kernel⟩
theorem witness_WindowSpillAndFill :
    let x := { with8 0x40000000 with wt := true, resident := 14 }
    let v := waits 256 (.mem .spill false 0x40000000 none) x
    let f := waits 256 (.mem .fill false 0x40000000 none) x
    (core 256 x).Ready 256 ∧ ((core 256 x).fetched 256).accessSub 256 false 0x40000000 64 .w = none ∧
    ((core 256 x).fetched 256).accessSub 256 false 0x40000000 64 .r = none ∧ (v.ctx 256).stall = .mem .spill false 0x40000000 none ∧
    v.reach 256 false 0x40000000 = .mem 0x6000000000 ∧ v.ddrHalted 0x6000000000 = false ∧
    ((v.ownFirst 256 (.mem 0x6000000000)).memWrite 256 0x6000000000 (bytesOfWords (List.replicate 16 1))).1 = true ∧
    (f.ctx 256).stall = .mem .fill false 0x40000000 none ∧
    ((f.ownFirst 256 (.mem 0x6000000000)).memRead 256 0x6000000000 64).1 = some (bytesOfWords (List.replicate 16 0)) :=
  ⟨ready_of _ _ (by decide +kernel), by decide +kernel⟩
theorem witness_StreamInstructions :
    let full := List.replicate 16 (⟨1, none⟩ : TxWord)
    let s := { inst Ctx.reset with cxb := { run0.cxb with arrived := [(959, [⟨0x100, none⟩])] } }
    (inst Ctx.reset).Ready 255 ∧ (inst { Ctx.reset with tx := full }).Ready 255 ∧ (inst { Ctx.reset with rx := [1, 2, 3] }).Ready 255 ∧
    (1 : Word).getLsbD 0 = true ∧ ((waits 255 (.push [1] none 4) Ctx.reset).ctx 255).stall = .push [1] none 4 ∧
    (waits 255 (.push [1] (some (0, .fwd)) 8) Ctx.reset).late 0 .fwd 50 = false ∧
    ((waits 255 (.push [1] (some (0, .fwd)) 8) { Ctx.reset with tx := full }).ctx 255).tx.length + 1 = 17 ∧
    tblGet (fun _ => ([] : List CWord)) s.cxb.arrived (streamPort 255) = [⟨0x100, none⟩] ∧ (s.ctx 255).stall = .none :=
  ⟨ready_of _ _ (by decide +kernel), ready_of _ _ (by decide +kernel), ready_of _ _ (by decide +kernel), by decide +kernel⟩
theorem witness_AngleInstructions :
    let w := waits 255 (.until 16 1 0xFFFFFFFF) Ctx.reset
    let z := { w with ang := { w.ang with time := 0x100000000 } }
    (inst Ctx.reset).Ready 255 ∧ ((inst Ctx.reset).fetched 255).late 0 .fwd 50 = false ∧ ((inst Ctx.reset).fetched 255).late (2 ^ 48 - 1) .fwd 50 = true ∧
    2 ^ 46 ≤ ((0x600000000000 : BitVec 48).toNat + 2 ^ 48 - ((inst Ctx.reset).fetched 255).angle.toNat) % 2 ^ 48 ∧
    ((inst Ctx.reset).fetched 255).epEnded = true ∧ ((inst Ctx.reset).setF ANG_EPOCH_STAT ANG_EPOCH_STAT_STATE 4 |>.fetched 255).epEnded = false ∧
    (z.ctx 255).stall = .until 16 1 0xFFFFFFFF ∧ 1 ≤ (z.ang.time - BitVec.ofNat 64 0xFFFFFFFF).toNat ∧
    (z.stq.any fun o => o.kind == kindWait && o.index == 255 && z.due o.stamp o.qual) = false ∧
    ¬ 1 ≤ (({ w with ang := { w.ang with time := 0xFFFFFFFF } }).ang.time - BitVec.ofNat 64 0xFFFFFFFF).toNat :=
  ⟨ready_of _ _ (by decide +kernel), by decide +kernel⟩
theorem witness_UnitInstructions :
    let u := handled.fetched 256
    let t := (u.handle 256 4095).2
    handled.Ready 256 ∧ (inst (with8 4096)).Ready 255 ∧ ((inst (with8 4096)).ctx 255).rget 16 = 4096 ∧
    u.fld ANG_EPOCH_STAT ANG_EPOCH_STAT_STATE ≠ 4 ∧ ((handled.ctx 256).rget 16).toNat = 4095 ∧ (u.handle 256 4095).1 = some entry1 ∧
    (u.handle 256 4094).1 = none ∧ bitOf entry1.rights 8 = true ∧ t.resolve 256 [] entry1 [0, 2] = .ok [unitId 0 0 511] ∧
    t.resolve 256 [] entry1 [3] = .error (ufNoImpl, unitId 0 0 511) ∧ t.farDevs [unitId 0 0 511] = [] ∧ t.tileHolds 0 511 = false ∧
    t.resolve 256 [] entry1 [0] = .ok [unitId 0 0 511] ∧ (u.fetch 256 4).1 = none ∧ Stamp.beyond 0 u.angle = false ∧
    (t.locHalted (t.locLocal 256 0x40000000)) = false ∧
    ((waits 255 (.ops [] [] 0 0) Ctx.reset).ctx 255).stall = .ops [] [] 0 0 ∧ (waits 255 (.ops [] [] 0 0) Ctx.reset).roomFor [] = true :=
  ⟨ready_of _ _ (by decide +kernel), ready_of _ _ (by decide +kernel), by decide +kernel⟩
theorem witness_EpochAndPinInstructions :
    (inst Ctx.reset).Ready 255 ∧ (core 256 Ctx.reset).Ready 256 ∧ (core 256 Ctx.reset).isHead = true ∧ member0.isHead = false :=
  ⟨ready_of _ _ (by decide +kernel), ready_of _ _ (by decide +kernel), by decide +kernel⟩

end Sys2Proof.Tests
end

section
/-! SUPPORT. The scope of the model: every command has an effect in every state, and none touches the queue. -/

namespace Sys2Proof.Machine

/-- A state with the same queue and bytes keeps the queue and the canonical form. -/
theorem Still.kept {s t : State} (h : Still s t) : Kept s t := (Kept.refl s).still h

theorem NextAll.mono {P Q : State → Prop} {o : Host.Outcome State Fault Refusal} (hPQ : ∀ t, P t → Q t)
    (h : NextAll P o) : NextAll Q o := by
  obtain ⟨t, ho, ht⟩ := h
  exact ⟨t, ho, hPQ t ht⟩

theorem NextAll.kept {s : State} {o : Host.Outcome State Fault Refusal} (h : NextAll (Still s) o) :
    NextAll (Kept s) o := h.mono fun _ => Still.kept

/-- Every command answers a next state with the same queue, in which a canonical memory stays canonical: one arm per
command, as in `exec`, by the law of its meaning. -/
theorem exec_kept (i : Instr) (s : State) : NextAll (Kept s) (exec i s) :=
  match i with
  | .registerWrite .. => execRegisterWrite_kept (.refl s)
  | .rsvdCaptureClear .. => (execRsvdCaptureClear_still (.refl s)).kept
  | .counterLoRead .. => (execCounterLoRead_still (.refl s)).kept
  | .counterHiRead .. => (execCounterHiRead_still (.refl s)).kept
  | .counterHoldWrite .. => execCounterHoldWrite_kept (.refl s)
  | .counterLoadWrite .. => execCounterLoadWrite_kept (.refl s)
  | .counterLoadApply .. => (execCounterLoadApply_still (.refl s)).kept
  | .clockLost .. => (execClockLost_still (.refl s)).kept
  | .quadEdge .. => (execQuadEdge_still (.refl s)).kept
  | .indexPulse .. => (execIndexPulse_still (.refl s)).kept
  | .ssiFrame .. => (execSsiFrame_still (.refl s)).kept
  | .sincosSample .. => (execSincosSample_still (.refl s)).kept
  | .mainsZeroCrossing .. => (execMainsZeroCrossing_still (.refl s)).kept
  | .measurementTimeout .. => (execMeasurementTimeout_still (.refl s)).kept
  | .indexTimeout .. => (execIndexTimeout_still (.refl s)).kept
  | .coastExpired => (execCoastExpired_still (.refl s)).kept
  | .angleOutputEmit .. => (execAngleOutputEmit_still (.refl s)).kept
  | .eventRelease => execEventRelease_kept (.refl s)
  | .idleWindowOpen .. => (execIdleWindowOpen_still (.refl s)).kept
  | .idleWindowClose .. => (execIdleWindowClose_still (.refl s)).kept
  | .epochArmRequest .. => (execEpochArmRequest_still (.refl s)).kept
  | .epochCancelRequest .. => (execEpochCancelRequest_still (.refl s)).kept
  | .epochApplyNow .. => (execEpochApplyNow_still (.refl s)).kept
  | .epoReq .. => (execEpoReq_still (.refl s)).kept
  | .epoArm .. => (execEpoArm_still (.refl s)).kept
  | .epoReply .. => (execEpoReply_still (.refl s)).kept
  | .epochDecide => (execEpochDecide_still (.refl s)).kept
  | .epoDecResend => (execEpoDecResend_still (.refl s)).kept
  | .epoDec .. => (execEpoDec_still (.refl s)).kept
  | .epochApply => (execEpochApply_still (.refl s)).kept
  | .epochApplyComplete => execEpochApplyComplete_kept (.refl s)
  | .epochNoDecision => (execEpochNoDecision_still (.refl s)).kept
  | .epoRes .. => (execEpoRes_still (.refl s)).kept
  | .illegalWord .. => execIllegalWord_kept (.refl s)
  | .takeInterrupt .. => (execTakeInterrupt_still (.refl s)).kept
  | .takeMachineCheck => (execTakeMachineCheck_still (.refl s)).kept
  | .memoryResponse .. => execMemoryResponse_kept (.refl s)
  | .storeAccepted .. => execStoreAccepted_kept (.refl s)
  | .postedStoreFailure .. => (execPostedStoreFailure_still (.refl s)).kept
  | .stampQueueRoom .. => execStampQueueRoom_kept (.refl s)
  | .untilTimeout .. => (execUntilTimeout_still (.refl s)).kept
  | .streamRxWord .. => (execStreamRxWord_still (.refl s)).kept
  | .streamTxRoom .. => (execStreamTxRoom_still (.refl s)).kept
  | .syncComplete .. => (execSyncComplete_still (.refl s)).kept
  | .add .. => execAdd_kept (.refl s)
  | .sub .. => execSub_kept (.refl s)
  | .and .. => execAnd_kept (.refl s)
  | .or .. => execOr_kept (.refl s)
  | .xor .. => execXor_kept (.refl s)
  | .sll .. => execSll_kept (.refl s)
  | .srl .. => execSrl_kept (.refl s)
  | .sra .. => execSra_kept (.refl s)
  | .slt .. => execSlt_kept (.refl s)
  | .sltu .. => execSltu_kept (.refl s)
  | .min .. => execMin_kept (.refl s)
  | .max .. => execMax_kept (.refl s)
  | .minu .. => execMinu_kept (.refl s)
  | .maxu .. => execMaxu_kept (.refl s)
  | .mul .. => execMul_kept (.refl s)
  | .mulh .. => execMulh_kept (.refl s)
  | .mulhu .. => execMulhu_kept (.refl s)
  | .clz .. => execClz_kept (.refl s)
  | .addi .. => execAddi_kept (.refl s)
  | .andi .. => execAndi_kept (.refl s)
  | .ori .. => execOri_kept (.refl s)
  | .xori .. => execXori_kept (.refl s)
  | .slti .. => execSlti_kept (.refl s)
  | .sltiu .. => execSltiu_kept (.refl s)
  | .slli .. => execSlli_kept (.refl s)
  | .srli .. => execSrli_kept (.refl s)
  | .srai .. => execSrai_kept (.refl s)
  | .lui .. => execLui_kept (.refl s)
  | .adds .. => execAdds_kept (.refl s)
  | .subs .. => execSubs_kept (.refl s)
  | .negs .. => execNegs_kept (.refl s)
  | .abss .. => execAbss_kept (.refl s)
  | .mulq .. => execMulq_kept (.refl s)
  | .macq .. => execMacq_kept (.refl s)
  | .shrr .. => execShrr_kept (.refl s)
  | .satn .. => execSatn_kept (.refl s)
  | .pks .. => execPks_kept (.refl s)
  | .ldB .. => execLdB_kept (.refl s)
  | .ldBu .. => execLdBu_kept (.refl s)
  | .ldH .. => execLdH_kept (.refl s)
  | .ldHu .. => execLdHu_kept (.refl s)
  | .ldW .. => execLdW_kept (.refl s)
  | .ldD .. => execLdD_kept (.refl s)
  | .stB .. => execStB_kept (.refl s)
  | .stH .. => execStH_kept (.refl s)
  | .stW .. => execStW_kept (.refl s)
  | .stD .. => execStD_kept (.refl s)
  | .ldfB .. => execLdfB_kept (.refl s)
  | .ldfBu .. => execLdfBu_kept (.refl s)
  | .ldfH .. => execLdfH_kept (.refl s)
  | .ldfHu .. => execLdfHu_kept (.refl s)
  | .ldfW .. => execLdfW_kept (.refl s)
  | .ldfD .. => execLdfD_kept (.refl s)
  | .stfB .. => execStfB_kept (.refl s)
  | .stfH .. => execStfH_kept (.refl s)
  | .stfW .. => execStfW_kept (.refl s)
  | .stfD .. => execStfD_kept (.refl s)
  | .amoswap .. => execAmoswap_kept (.refl s)
  | .amoadd .. => execAmoadd_kept (.refl s)
  | .amocas .. => execAmocas_kept (.refl s)
  | .b .. => execB_kept (.refl s)
  | .call .. => execCall_kept (.refl s)
  | .beq .. => execBeq_kept (.refl s)
  | .bne .. => execBne_kept (.refl s)
  | .blt .. => execBlt_kept (.refl s)
  | .bge .. => execBge_kept (.refl s)
  | .bltu .. => execBltu_kept (.refl s)
  | .bgeu .. => execBgeu_kept (.refl s)
  | .jr .. => execJr_kept (.refl s)
  | .callr .. => execCallr_kept (.refl s)
  | .enter .. => execEnter_kept (.refl s)
  | .leave .. => execLeave_kept (.refl s)
  | .rett .. => execRett_kept (.refl s)
  | .retw .. => execRetw_kept (.refl s)
  | .wspill .. => execWspill_kept (.refl s)
  | .wfill .. => execWfill_kept (.refl s)
  | .getc .. => execGetc_kept (.refl s)
  | .setc .. => execSetc_kept (.refl s)
  | .sync .. => execSync_kept (.refl s)
  | .push .. => execPush_kept (.refl s)
  | .pushs .. => execPushs_kept (.refl s)
  | .pull .. => execPull_kept (.refl s)
  | .pullnb .. => execPullnb_kept (.refl s)
  | .pulls .. => execPulls_kept (.refl s)
  | .anow .. => execAnow_kept (.refl s)
  | .tnow .. => execTnow_kept (.refl s)
  | .aadd .. => execAadd_kept (.refl s)
  | .acmp .. => execAcmp_kept (.refl s)
  | .acyc .. => execAcyc_kept (.refl s)
  | .until .. => execUntil_kept (.refl s)
  | .atStamp .. => execAtStamp_kept (.refl s)
  | .uwr .. => execUwr_kept (.refl s)
  | .stg .. => execStg_kept (.refl s)
  | .urd .. => execUrd_kept (.refl s)
  | .wload .. => execWload_kept (.refl s)
  | .ucmdEnable .. => execUcmdEnable_kept (.refl s)
  | .ucmdDisable .. => execUcmdDisable_kept (.refl s)
  | .ucmdStart .. => execUcmdStart_kept (.refl s)
  | .ucmdStop .. => execUcmdStop_kept (.refl s)
  | .ucmdFire .. => execUcmdFire_kept (.refl s)
  | .ucmdTrig .. => execUcmdTrig_kept (.refl s)
  | .ucmdSafe .. => execUcmdSafe_kept (.refl s)
  | .ucmdClear .. => execUcmdClear_kept (.refl s)
  | .arm .. => execArm_kept (.refl s)
  | .epcan .. => execEpcan_kept (.refl s)
  | .epwait .. => execEpwait_kept (.refl s)
  | .pinw .. => execPinw_kept (.refl s)
  | .pinr .. => execPinr_kept (.refl s)
  | .dacUpdate .. => execDacUpdate_kept (.refl s)
  | .cellStreamWord .. => (execCellStreamWord_still (.refl s)).kept
  | .holdTimeout .. => (execHoldTimeout_still (.refl s)).kept
  | .starveTimeout .. => (execStarveTimeout_still (.refl s)).kept
  | .overcurrent .. => (execOvercurrent_still (.refl s)).kept
  | .waveLoadComplete .. => (execWaveLoadComplete_still (.refl s)).kept
  | .celWaveDataRead .. => (execCelWaveDataRead_still (.refl s)).kept
  | .cvgEnable .. => (execCvgEnable_still (.refl s)).kept
  | .cvgDisable .. => (execCvgDisable_still (.refl s)).kept
  | .cvgStart .. => (execCvgStart_still (.refl s)).kept
  | .cvgStop .. => (execCvgStop_still (.refl s)).kept
  | .cvgClear .. => (execCvgClear_still (.refl s)).kept
  | .cvgTrig .. => (execCvgTrig_still (.refl s)).kept
  | .cvgPowerUpDone .. => (execCvgPowerUpDone_still (.refl s)).kept
  | .seqIssue .. => (execSeqIssue_still (.refl s)).kept
  | .conversionEnd .. => (execConversionEnd_still (.refl s)).kept
  | .urgentAngleTrigger .. => (execUrgentAngleTrigger_still (.refl s)).kept
  | .weirUrgentTrigger .. => (execWeirUrgentTrigger_still (.refl s)).kept
  | .cvgParityError .. => (execCvgParityError_still (.refl s)).kept
  | .cvgRefWrite .. => (execCvgRefWrite_still (.refl s)).kept
  | .refRdyChange .. => (execRefRdyChange_still (.refl s)).kept
  | .eddyRunEnd .. => (execEddyRunEnd_still (.refl s)).kept
  | .eddySwap .. => (execEddySwap_still (.refl s)).kept
  | .eddyStale .. => (execEddyStale_still (.refl s)).kept
  | .fltEnable .. => (execFltEnable_still (.refl s)).kept
  | .fltDisable .. => (execFltDisable_still (.refl s)).kept
  | .fltStart .. => (execFltStart_still (.refl s)).kept
  | .fltStop .. => (execFltStop_still (.refl s)).kept
  | .fltClear .. => (execFltClear_still (.refl s)).kept
  | .fltInputWord .. => (execFltInputWord_still (.refl s)).kept
  | .fltProcess .. => (execFltProcess_still (.refl s)).kept
  | .fltCoefWrite .. => (execFltCoefWrite_still (.refl s)).kept
  | .fltCoefRead .. => (execFltCoefRead_still (.refl s)).kept
  | .fltLoadRead .. => (execFltLoadRead_still (.refl s)).kept
  | .learningStart .. => (execLearningStart_still (.refl s)).kept
  | .learningComplete .. => execLearningComplete_kept (.refl s)
  | .drvEnable .. => (execDrvEnable_still (.refl s)).kept
  | .drvDisable .. => (execDrvDisable_still (.refl s)).kept
  | .drvFire .. => (execDrvFire_still (.refl s)).kept
  | .drvSafe .. => (execDrvSafe_still (.refl s)).kept
  | .drvClear .. => (execDrvClear_still (.refl s)).kept
  | .drvCfgWrite .. => (execDrvCfgWrite_still (.refl s)).kept
  | .drvStartRelease .. => (execDrvStartRelease_still (.refl s)).kept
  | .budgetStepBoundary => (execBudgetStepBoundary_still (.refl s)).kept
  | .shotEdge .. => (execShotEdge_still (.refl s)).kept
  | .weirTrip .. => (execWeirTrip_still (.refl s)).kept
  | .blankingExpire .. => (execBlankingExpire_still (.refl s)).kept
  | .cxbWordDeliver .. => (execCxbWordDeliver_still (.refl s)).kept
  | .cxbRouteWrite .. => (execCxbRouteWrite_still (.refl s)).kept
  | .cxbRnowWrite .. => (execCxbRnowWrite_still (.refl s)).kept
  | .cxbOwnWrite .. => (execCxbOwnWrite_still (.refl s)).kept
  | .cxbRouteSwitch .. => (execCxbRouteSwitch_still (.refl s)).kept
  | .borderHoldRepeat => (execBorderHoldRepeat_still (.refl s)).kept
  | .cxbLoadRead .. => (execCxbLoadRead_still (.refl s)).kept
  | .rrPlayout .. => (execRrPlayout_still (.refl s)).kept
  | .lgcEnable .. => (execLgcEnable_still (.refl s)).kept
  | .lgcDisable .. => (execLgcDisable_still (.refl s)).kept
  | .lgcClear .. => (execLgcClear_still (.refl s)).kept
  | .lgcReconf .. => (execLgcReconf_still (.refl s)).kept
  | .reconfLoadEnd .. => execReconfLoadEnd_kept (.refl s)
  | .logicPortRx .. => (execLogicPortRx_still (.refl s)).kept
  | .obsCapArm .. => (execObsCapArm_still (.refl s)).kept
  | .obsTrigger => (execObsTrigger_still (.refl s)).kept
  | .obsCapture => (execObsCapture_still (.refl s)).kept
  | .obsCapDataRead .. => (execObsCapDataRead_still (.refl s)).kept
  | .eccLogPop .. => (execEccLogPop_still (.refl s)).kept
  | .patrolRead .. => (execPatrolRead_still (.refl s)).kept
  | .memRetAdd .. => (execMemRetAdd_still (.refl s)).kept
  | .memRetRemove .. => (execMemRetRemove_still (.refl s)).kept
  | .retCopyEnd => (execRetCopyEnd_still (.refl s)).kept
  | .sramBankDisable .. => (execSramBankDisable_still (.refl s)).kept
  | .sramBankEnable .. => (execSramBankEnable_still (.refl s)).kept
  | .sramCopyEnd => (execSramCopyEnd_still (.refl s)).kept
  | .dmaSubmit .. => (execDmaSubmit_still (.refl s)).kept
  | .dmaDescStart .. => execDmaDescStart_kept (.refl s)
  | .dmaBurstDone .. => execDmaBurstDone_kept (.refl s)
  | .dmaAbort .. => (execDmaAbort_still (.refl s)).kept
  | .dmaStreamRx .. => (execDmaStreamRx_still (.refl s)).kept
  | .nvmCmdGo .. => (execNvmCmdGo_still (.refl s)).kept
  | .nvmLineDurable .. => (execNvmLineDurable_still (.refl s)).kept
  | .nvmHalfFail .. => (execNvmHalfFail_still (.refl s)).kept
  | .instStart .. => execInstStart_kept (.refl s)
  | .instHold .. => execInstHold_kept (.refl s)
  | .instResume .. => execInstResume_kept (.refl s)
  | .instReset .. => execInstReset_kept (.refl s)
  | .functionLevelReset .. => execFunctionLevelReset_kept (.refl s)
  | .resetDrained .. => (execResetDrained_still (.refl s)).kept
  | .irqSourceChange .. => (execIrqSourceChange_still (.refl s)).kept
  | .irqClaimWrite .. => (execIrqClaimWrite_still (.refl s)).kept
  | .irqClaimRead .. => (execIrqClaimRead_still (.refl s)).kept
  | .irqDone .. => (execIrqDone_still (.refl s)).kept
  | .irqSwset .. => (execIrqSwset_still (.refl s)).kept
  | .pinOutWrite .. => (execPinOutWrite_still (.refl s)).kept
  | .pinOeWrite .. => (execPinOeWrite_still (.refl s)).kept
  | .pinCfgWrite .. => (execPinCfgWrite_still (.refl s)).kept
  | .pinFabWrite .. => (execPinFabWrite_still (.refl s)).kept
  | .gpioGroupWord .. => (execGpioGroupWord_still (.refl s)).kept
  | .pinInputChange .. => (execPinInputChange_still (.refl s)).kept
  | .pmWrite .. => (execPmWrite_still (.refl s)).kept
  | .wakePin .. => execWakePin_kept (.refl s)
  | .ang .. => (execAng_still (.refl s)).kept
  | .angSend => (execAngSend_still (.refl s)).kept
  | .hb .. => (execHb_still (.refl s)).kept
  | .hbSend => (execHbSend_still (.refl s)).kept
  | .memb .. => (execMemb_still (.refl s)).kept
  | .wrap _ dev port on _ => (execWrap_still (_dev := dev) (_port := port) (_on := on) (.refl s)).kept
  | .gnot .. => (execGnot_still (.refl s)).kept
  | .strmFlit .. => (execStrmFlit_still (.refl s)).kept
  | .passThrough .. => (execPassThrough_still (.refl s)).kept
  | .mrd .. => execMrd_kept (.refl s)
  | .mwr .. => execMwr_kept (.refl s)
  | .mamo .. => execMamo_kept (.refl s)
  | .mrsp .. => (execMrsp_still (.refl s)).kept
  | .uop .. => execUop_kept (.refl s)
  | .ursp .. => (execUrsp_still (.refl s)).kept
  | .benmosPacket .. => (execBenmosPacket_still (.refl s)).kept
  | .bootPacket .. => execBootPacket_kept (.refl s)
  | .twinPacket .. => execTwinPacket_kept (.refl s)
  | .xferPacket .. => execXferPacket_kept (.refl s)
  | .packetRetry .. => (execPacketRetry_still (.refl s)).kept
  | .packetTimeout .. => (execPacketTimeout_still (.refl s)).kept
  | .leatTrainAttempt .. => (execLeatTrainAttempt_still (.refl s)).kept
  | .trainStepTimeout .. => (execTrainStepTimeout_still (.refl s)).kept
  | .leatPortUp .. => (execLeatPortUp_still (.refl s)).kept
  | .leatPortDown .. => (execLeatPortDown_still (.refl s)).kept
  | .laneLockLoss .. => (execLaneLockLoss_still (.refl s)).kept
  | .lpRetrain .. => (execLpRetrain_still (.refl s)).kept
  | .leatCfgWrite .. => (execLeatCfgWrite_still (.refl s)).kept
  | .tsExchange .. => (execTsExchange_still (.refl s)).kept
  | .distTimeout => (execDistTimeout_still (.refl s)).kept
  | .distHoldExpire => (execDistHoldExpire_still (.refl s)).kept
  | .memberHbTimeout .. => (execMemberHbTimeout_still (.refl s)).kept
  | .leatAdmit .. => (execAdmit_still (.refl s)).kept
  | .gracefulLeave .. => (execGracefulLeave_still (.refl s)).kept
  | .leaveDrainEnd => (execLeaveDrainEnd_still (.refl s)).kept
  | .catchupLocal .. => (execCatchupLocal_still (.refl s)).kept
  | .catchupReplay .. => (execCatchupReplay_still (.refl s)).kept
  | .catchupTransfer .. => (execCatchupTransfer_still (.refl s)).kept
  | .catchupBlank .. => (execCatchupBlank_still (.refl s)).kept
  | .catchupEnd .. => (execCatchupEnd_still (.refl s)).kept
  | .retire .. => execRetire_kept (.refl s)
  | .force .. => execForce_kept (.refl s)
  | .return .. => execReturn_kept (.refl s)
  | .attach .. => (execAttach_still (.refl s)).kept
  | .detach .. => (execDetach_still (.refl s)).kept
  | .swap .. => (execSwap_still (.refl s)).kept
  | .twinPeerChange .. => (execTwinPeerChange_still (.refl s)).kept
  | .twinHbSend => (execTwinHbSend_still (.refl s)).kept
  | .twinHbLost => (execTwinHbLost_still (.refl s)).kept
  | .twinFault .. => (execTwinFault_still (.refl s)).kept
  | .twinFaultWaitExpire => (execTwinFaultWaitExpire_still (.refl s)).kept
  | .twinSenderSilent => (execTwinSenderSilent_still (.refl s)).kept
  | .digestWindowEnd .. => (execDigestWindowEnd_still (.refl s)).kept
  | .twinDigest .. => (execTwinDigest_still (.refl s)).kept
  | .mirrorReplyTimeout => (execMirrorReplyTimeout_still (.refl s)).kept
  | .mirrorJournalTimeout => (execMirrorJournalTimeout_still (.refl s)).kept
  | .qpEnable .. => execQpEnable_kept (.refl s)
  | .qpDisable .. => execQpDisable_kept (.refl s)
  | .sqDoorbell .. => execSqDoorbell_kept (.refl s)
  | .cqDoorbell .. => execCqDoorbell_kept (.refl s)
  | .commandFetch .. => (execCommandFetch_still (.refl s)).kept
  | .commandExecute .. => execCommandExecute_kept (.refl s)
  | .regWrite => execRegWrite_kept (.refl s)
  | .regWriteN => execRegWriteN_kept (.refl s)
  | .bind .. => execBind_kept (.refl s)
  | .epochReq => execEpochReq_kept (.refl s)
  | .applyNow => execApplyNow_kept (.refl s)
  | .post => execPost_kept (.refl s)
  -- Unification of the two meanings loops here unless the arm is taken first.
  | .mailboxDone .. => by unfold exec; exact execMailboxDone_kept (.refl s)
  | .inst => execInst_kept (.refl s)
  | .twin => execTwin_kept (.refl s)
  | .catchup => execCatchup_kept (.refl s)
  | .tile => execTile_kept (.refl s)
  | .fence => execFence_kept (.refl s)
  | .regRead => (execRegRead_still (.refl s)).kept
  | .status => (execStatus_still (.refl s)).kept
  | .jnlRead => (execJnlRead_still (.refl s)).kept
  | .replay .. => execReplay_kept (.refl s)
  | .state => execState_kept (.refl s)
  | .jnlBucketRefill => (execJnlBucketRefill_still (.refl s)).kept
  | .smbusRegRead .. => (execSmbusRegRead_still (.refl s)).kept
  | .smbusRegWrite .. => execSmbusRegWrite_kept (.refl s)
  | .mgtGo .. => (execMgtGo_still (.refl s)).kept
  | .mgtDone .. => (execMgtDone_still (.refl s)).kept
  | .uartTxWrite .. => (execUartTxWrite_still (.refl s)).kept
  | .uartRxRead .. => (execUartRxRead_still (.refl s)).kept
  | .uartRxChar .. => (execUartRxChar_still (.refl s)).kept
  | .powerOnRelease .. => execPowerOnRelease_kept (.refl s)
  | .resetNAssert .. => execResetNAssert_kept (.refl s)
  | .bootRst .. => execBootRst_kept (.refl s)
  | .perst => execPerst_kept (.refl s)
  | .jgo .. => execJgo_kept (.refl s)
  | .flashReadDone .. => execFlashReadDone_kept (.refl s)
  | .bootStart .. => (execBootStart_still (.refl s)).kept
  | .bootEnumTimeout .. => execBootEnumTimeout_kept (.refl s)
  | .bootSectionReport .. => (execBootSectionReport_still (.refl s)).kept
  | .bootSyncTimeout => (execBootSyncTimeout_still (.refl s)).kept
  | .bootVerifyReport .. => (execBootVerifyReport_still (.refl s)).kept
  | .bootGo .. => (execBootGo_still (.refl s)).kept
  | .bootAbort .. => (execBootAbort_still (.refl s)).kept
  | .bootLinkTimeout => execBootLinkTimeout_kept (.refl s)
  | .lateLoad .. => (execLateLoad_still (.refl s)).kept
  | .ddrTrainDone .. => (execDdrTrainDone_still (.refl s)).kept
  | .sluiceGo .. => (execSluiceGo_still (.refl s)).kept
  | .sluiceStep => (execSluiceStep_still (.refl s)).kept
  | .outrel => (execOutrel_still (.refl s)).kept
  | .progrdy .. => (execProgrdy_still (.refl s)).kept
  | .sluiceLockTimeout => (execSluiceLockTimeout_still (.refl s)).kept
  | .setHash .. => (execSetHash_still (.refl s)).kept
  | .setIndex .. => (execSetIndex_still (.refl s)).kept
  | .setOxbow .. => (execSetOxbow_still (.refl s)).kept
  | .lockKey .. => (execLockKey_still (.refl s)).kept
  | .lockDebug .. => (execLockDebug_still (.refl s)).kept
  | .session .. => (execSession_still (.refl s)).kept
  | .ciScanFrame .. => (execCiScanFrame_still (.refl s)).kept
  | .jtagExtest .. => (execJtagExtest_still (.refl s)).kept
  | .calPowerupStart .. => (execCalPowerupStart_still (.refl s)).kept
  | .calPowerupEnd .. => (execCalPowerupEnd_still (.refl s)).kept
  | .recal .. => (execRecal_still (.refl s)).kept
  | .recalEnd .. => (execRecalEnd_still (.refl s)).kept
  | .save .. => (execSave_still (.refl s)).kept
  | .calExport .. => (execExport_still (.refl s)).kept
  | .exportEnd => execExportEnd_kept (.refl s)
  | .calImport .. => (execImport_still (.refl s)).kept
  | .importReadEnd => execImportReadEnd_kept (.refl s)
  | .amp .. => (execAmp_still (.refl s)).kept
  | .ampEnd => (execAmpEnd_still (.refl s)).kept
  | .pwrTileIdle .. => execPwrTileIdle_kept (.refl s)
  | .pwrTileRun .. => execPwrTileRun_kept (.refl s)
  | .pwrTileStandby .. => execPwrTileStandby_kept (.refl s)
  | .wakeItemStart => (execWakeItemStart_still (.refl s)).kept
  | .wakeItemEnd .. => execWakeItemEnd_kept (.refl s)
  | .enterStandby .. => (execEnterStandby_still (.refl s)).kept
  | .standbyTimerWake => execStandbyTimerWake_kept (.refl s)
  | .railFall .. => execRailFall_kept (.refl s)
  | .railGood .. => (execRailGood_still (.refl s)).kept
  | .vioUndervoltage .. => (execVioUndervoltage_still (.refl s)).kept
  | .pfailNLow => (execPfailNLow_still (.refl s)).kept
  | .pfailClockStop => (execPfailClockStop_still (.refl s)).kept
  | .pfailEnd => (execPfailEnd_still (.refl s)).kept
  | .tempReading .. => (execTempReading_still (.refl s)).kept
  | .tshutReset => execTshutReset_kept (.refl s)
  | .tstStepStart .. => (execTstStepStart_still (.refl s)).kept
  | .tstStepEnd .. => execTstStepEnd_kept (.refl s)
  | .tstOverdue => (execTstOverdue_still (.refl s)).kept
  | .pwrTmaxRead .. => (execPwrTmaxRead_still (.refl s)).kept
  | .clockDomainLocked .. => (execClockDomainLocked_still (.refl s)).kept
  | .alwaysOnOscillatorFail => (execAlwaysOnOscillatorFail_still (.refl s)).kept
  | .pcieLinkChange .. => (execPcieLinkChange_still (.refl s)).kept
  | .vioBankGood .. => (execVioBankGood_still (.refl s)).kept
  | .pfailNRise => execPfailNRise_kept (.refl s)
  | .uartCharSent => (execUartCharSent_still (.refl s)).kept
  | .twinHeartbeatArrival => (execTwinHeartbeatArrival_still (.refl s)).kept
  | .mirrorDurableReport .. => (execMirrorDurableReport_still (.refl s)).kept
  | .identityReadDone => (execIdentityReadDone_still (.refl s)).kept
  | .flashSectionData .. => execFlashSectionData_kept (.refl s)
  | .signatureCheckDone => (execSignatureCheckDone_still (.refl s)).kept

/-- Every step answers a next state: a nanosecond of time where the queue is empty, its first command otherwise. -/
theorem step_answers (s : State) : ∃ t, step s = .next t := by
  unfold step
  split
  next => exact ⟨s.tick, rfl⟩
  next c rest _ =>
    obtain ⟨t, ht, -⟩ := exec_kept c { s with pending := rest }
    exact ⟨t, ht⟩

/-- Settles O3: each command's law of what it leaves alone, and the two forms of a step. -/
theorem everyCommandAnswers : Obligations.EveryCommandAnswers :=
  ⟨fun i s => (exec_kept i s).mono fun _ => Kept.pending, step_answers⟩

/-- Settles O1: the second arm of `step`, whose queue is the one given. -/
theorem stepRunsFront : Obligations.StepRunsFront := by
  intro s c rest h
  unfold step
  rw [h]

end Sys2Proof.Machine
end

section
/-! SUPPORT. Register words by their fields (R7, R16, R17): the masks of a register's fields, what a write leaves in each
field, and that the fields of every register of the tables lie in its word without a common bit. -/

namespace Sys2Proof.Machine

/-! ### Masks -/

/-- The bits of a register that its fields cover. -/
def fieldsMask (fs : List Field) : Word := fs.foldl (fun m f => m ||| fieldMask f) 0

theorem reservedBits_eq (fs : List Field) : reservedBits fs = ~~~ fieldsMask fs := rfl

theorem rwsMask_eq (fs : List Field) : rwsMask fs = fieldsMask (fs.filter fun f => f.acc = .rws) := by
  simp [rwsMask, fieldsMask, List.foldl_filter]

theorem fieldsMask_bit (fs : List Field) (i : Nat) :
    (fieldsMask fs).getLsbD i = fs.any fun f => (fieldMask f).getLsbD i := by
  have foldl_bit (m : Word) : (fs.foldl (fun m f => m ||| fieldMask f) m).getLsbD i =
      (m.getLsbD i || fs.any fun f => (fieldMask f).getLsbD i) := by
    induction fs generalizing m with
    | nil => simp
    | cons f r ih => simp [ih, Bool.or_assoc]
  simpa [fieldsMask] using foldl_bit 0

/-- The mask of a list of fields covers each of them. -/
theorem fieldMask_and_fieldsMask {fs : List Field} {f : Field} (hf : f ∈ fs) :
    fieldMask f &&& fieldsMask fs = fieldMask f := by
  apply BitVec.eq_of_getLsbD_eq
  intro i _
  rw [BitVec.getLsbD_and, fieldsMask_bit]
  cases h : (fieldMask f).getLsbD i
  case false => rfl
  case true => exact List.any_eq_true.mpr ⟨f, hf, h⟩

theorem fieldMask_and_rwsMask {fs : List Field} {f : Field} (hf : f ∈ fs) (hr : f.acc = .rws) :
    fieldMask f &&& rwsMask fs = fieldMask f := by
  rw [rwsMask_eq]
  exact fieldMask_and_fieldsMask (List.mem_filter.mpr ⟨hf, by simpa using hr⟩)

/-- A bit of a field is no bit of a field apart from it. -/
theorem fieldMask_bit_of_apart {f g : Field} (hf : f.ok = true) (hg : g.ok = true) (h : Field.apart f g = true) {i : Nat}
    (hi : (fieldMask g).getLsbD i = true) : (fieldMask f).getLsbD i = false := by
  rw [fieldMask_bit g hg, Bool.and_eq_true, decide_eq_true_eq, decide_eq_true_eq] at hi
  simp only [Field.apart, Bool.or_eq_true, decide_eq_true_eq] at h
  rw [fieldMask_bit f hf, Bool.and_eq_false_iff, decide_eq_false_iff_not, decide_eq_false_iff_not]
  omega

/-! ### Words that agree in fields -/

/-- A field reads the same from two words that agree on its bits. -/
theorem fieldGet_congr {f : Field} {v w : Word} (hf : f.ok = true) (h : v &&& fieldMask f = w &&& fieldMask f) :
    fieldGet f v = fieldGet f w := by
  apply Nat.eq_of_testBit_eq
  intro i
  rw [fieldGet_bit, fieldGet_bit]
  by_cases hi : i < fieldWidth f
  case neg => simp [hi]
  have hm : (fieldMask f).getLsbD (i + f.lo) = true := by
    rw [fieldMask_bit f hf]
    unfold fieldWidth at hi
    simp
    omega
  have hb := congrArg (fun x => x.getLsbD (i + f.lo)) h
  simp only [BitVec.getLsbD_and, hm, Bool.and_true] at hb
  rw [hb]

/-- Two words agree in every field of a list. -/
def FieldsAgree (fs : List Field) (v w : Word) : Prop := ∀ f ∈ fs, v &&& fieldMask f = w &&& fieldMask f

theorem FieldsAgree.and_fieldsMask {fs : List Field} {v w : Word} (h : FieldsAgree fs v w) :
    v &&& fieldsMask fs = w &&& fieldsMask fs := by
  apply BitVec.eq_of_getLsbD_eq
  intro i _
  rw [BitVec.getLsbD_and, BitVec.getLsbD_and]
  cases hm : (fieldsMask fs).getLsbD i
  case false => simp
  rw [fieldsMask_bit] at hm
  obtain ⟨f, hf, hi⟩ := List.any_eq_true.mp hm
  have hb := congrArg (fun x => x.getLsbD i) (h f hf)
  simpa [hi] using hb

theorem FieldsAgree.and_rwsMask {fs : List Field} {v w : Word} (h : FieldsAgree fs v w) :
    v &&& rwsMask fs = w &&& rwsMask fs := by
  rw [rwsMask_eq]
  exact FieldsAgree.and_fieldsMask fun f hf => h f (List.mem_filter.mp hf).1

theorem FieldsAgree.reservedEncoding {fs : List Field} {v w : Word} (hok : ∀ f ∈ fs, f.ok = true)
    (h : FieldsAgree fs v w) : reservedEncoding fs v = reservedEncoding fs w := by
  unfold Machine.reservedEncoding
  induction fs with
  | nil => rfl
  | cons f r ih =>
    obtain ⟨hf, hr⟩ := List.forall_mem_cons.mp hok
    obtain ⟨haf, har⟩ := List.forall_mem_cons.mp h
    rw [List.any_cons, List.any_cons, fieldGet_congr hf haf, ih hr har]

theorem writeActive_cons (f : Field) (r : List Field) (old w : Word) :
    writeActive (f :: r) old w = writeActive r (writeActive [f] old w) w := rfl

theorem FieldsAgree.writeActive {fs : List Field} {v w : Word} (hok : ∀ f ∈ fs, f.ok = true)
    (h : FieldsAgree fs v w) (old : Word) : writeActive fs old v = writeActive fs old w := by
  induction fs generalizing old with
  | nil => rfl
  | cons f r ih =>
    obtain ⟨hf, hr⟩ := List.forall_mem_cons.mp hok
    obtain ⟨haf, har⟩ := List.forall_mem_cons.mp h
    have one : Machine.writeActive [f] old v = Machine.writeActive [f] old w := by
      simp only [Machine.writeActive, List.foldl_cons, List.foldl_nil, fieldGet_congr hf haf, haf]
    rw [writeActive_cons, writeActive_cons f r old w, one, ih hr har]

/-- Cutting the reserved bits out of a word leaves its fields. -/
theorem fieldsAgree_cut (fs : List Field) (v : Word) : FieldsAgree fs (v &&& ~~~ reservedBits fs) v := by
  intro f hf
  rw [reservedBits_eq, BitVec.not_not, BitVec.and_assoc, BitVec.and_comm (fieldsMask fs), fieldMask_and_fieldsMask hf]

theorem cut_and_reservedBits (fs : List Field) (v : Word) : v &&& ~~~ reservedBits fs &&& reservedBits fs = 0 := by
  rw [BitVec.and_assoc, BitVec.and_comm (~~~ reservedBits fs), BitVec.and_not_self]
  exact BitVec.and_zero

/-! ### What a write leaves in a field -/

/-- What a write leaves in a field of a register (R7): RW takes the written value, W1C bits written 1 clear, W1S bits
written 1 set, the others stay. -/
def writtenField (old w : Word) (f : Field) : Nat :=
  match f.acc with
  | .rw => fieldGet f w
  | .w1c => fieldGet f (old &&& ~~~ w)
  | .w1s => fieldGet f (old ||| w)
  | .ro | .rc | .wo | .rws => fieldGet f old

theorem fieldGet_writeActive_one (f : Field) (old w : Word) (hf : f.ok = true) :
    fieldGet f (writeActive [f] old w) = writtenField old w f := by
  unfold writeActive writtenField
  rw [List.foldl_cons, List.foldl_nil]
  cases f.acc
  case rw => rw [fieldGet_put_same f _ _ hf]; exact Nat.mod_mod _ _
  case w1c =>
    apply fieldGet_congr hf
    ext i hi
    simp
    grind
  case w1s =>
    apply fieldGet_congr hf
    ext i hi
    simp
    grind
  all_goals rfl

/-- Writing a field leaves the bits outside it. -/
theorem writeActive_one_bit (f : Field) (old w : Word) (hf : f.ok = true) {i : Nat} (hi : i < 32)
    (hm : (fieldMask f).getLsbD i = false) : (writeActive [f] old w).getLsbD i = old.getLsbD i := by
  unfold writeActive
  rw [List.foldl_cons, List.foldl_nil]
  cases f.acc
  case rw =>
    rw [fieldMask_bit f hf, Bool.and_eq_false_iff, decide_eq_false_iff_not, decide_eq_false_iff_not] at hm
    exact (fieldPut_bit f hf old _ i).trans (if_neg (by omega))
  case w1c => simp only [BitVec.getLsbD_and, BitVec.getLsbD_not, hm, hi, Bool.and_false, Bool.not_false, decide_true, Bool.and_true]
  case w1s => simp [hm]
  all_goals rfl

/-- Writing a field leaves the fields apart from it. -/
theorem writeActive_one_apart (f g : Field) (old w : Word) (hf : f.ok = true) (hg : g.ok = true)
    (h : Field.apart f g = true) : writeActive [f] old w &&& fieldMask g = old &&& fieldMask g := by
  apply BitVec.eq_of_getLsbD_eq
  intro i hi
  rw [BitVec.getLsbD_and, BitVec.getLsbD_and]
  cases hm : (fieldMask g).getLsbD i
  case false => simp
  case true => rw [writeActive_one_bit f old w hf hi (fieldMask_bit_of_apart hf hg h hm)]

theorem writeActive_apart {fs : List Field} {g : Field} (hok : ∀ f ∈ fs, f.ok = true) (hg : g.ok = true)
    (h : ∀ f ∈ fs, Field.apart f g = true) (old w : Word) :
    writeActive fs old w &&& fieldMask g = old &&& fieldMask g := by
  induction fs generalizing old with
  | nil => rfl
  | cons f r ih =>
    obtain ⟨hf, hr⟩ := List.forall_mem_cons.mp hok
    obtain ⟨haf, har⟩ := List.forall_mem_cons.mp h
    rw [writeActive_cons, ih hr har, writeActive_one_apart f g old w hf hg haf]

/-- What a write leaves in a field depends on that field of the old word alone. -/
theorem writtenField_congr {f : Field} {old old' : Word} (w : Word) (hf : f.ok = true)
    (h : old &&& fieldMask f = old' &&& fieldMask f) : writtenField old w f = writtenField old' w f := by
  unfold writtenField
  cases f.acc
  case rw => rfl
  case w1c =>
    have hw := congrArg (· &&& ~~~ w) h
    exact fieldGet_congr hf (by simpa only [BitVec.and_assoc, BitVec.and_comm (fieldMask f)] using hw)
  case w1s => exact fieldGet_congr hf (by rw [BitVec.and_or_distrib_right, h, ← BitVec.and_or_distrib_right])
  all_goals exact fieldGet_congr hf h

/-- Fields that lie in a word without a common bit. -/
structure FieldsFit (fs : List Field) : Prop where
  ok : ∀ f ∈ fs, f.ok = true
  apart : fs.Pairwise fun f g => Field.apart f g = true

theorem Field.apart_comm (f g : Field) : Field.apart f g = Field.apart g f := Bool.or_comm _ _

/-- Every field of a register takes what its access code says. -/
theorem fieldGet_writeActive {fs : List Field} (h : FieldsFit fs) (old w : Word) {f : Field} (hf : f ∈ fs) :
    fieldGet f (writeActive fs old w) = writtenField old w f := by
  obtain ⟨hok, hap⟩ := h
  induction fs generalizing old with
  | nil => cases hf
  | cons g r ih =>
    obtain ⟨hg, hr⟩ := List.forall_mem_cons.mp hok
    obtain ⟨hag, har⟩ := List.pairwise_cons.mp hap
    rw [writeActive_cons]
    rcases List.mem_cons.mp hf with rfl | hf
    · have later := writeActive_apart hr hg (fun x hx => (Field.apart_comm x f).trans (hag x hx)) (writeActive [f] old w) w
      rw [fieldGet_congr hg later, fieldGet_writeActive_one f old w hg]
    · rw [ih _ hf hr har]
      exact writtenField_congr w (hr f hf) (writeActive_one_apart g f old w hg (hr f hf) (hag f hf))

/-! ### The register tables -/

/-- Do the fields of a register lie in its word without a common bit? -/
def RegDesc.fits (r : RegDesc) : Bool :=
  r.fields.all Field.ok && decide (r.fields.Pairwise fun f g => Field.apart f g = true)

theorem RegDesc.fieldsFit {r : RegDesc} (h : r.fits = true) : FieldsFit r.fields := by
  obtain ⟨hok, hap⟩ := (Bool.and_eq_true _ _).mp h
  exact ⟨List.all_eq_true.mp hok, of_decide_eq_true hap⟩

/-- The tables of the model, one by one. -/
theorem blockTable_fits (a : Nat) : (blockTable a).all RegDesc.fits = true := by
  unfold blockTable
  split
  · split <;> decide +kernel
  · split <;> decide +kernel

/-- Every register has fields that lie in its word without a common bit. -/
theorem descOf_fieldsFit {k : Nat} {r : RegDesc} (h : descOf k = some r) : FieldsFit r.fields :=
  RegDesc.fieldsFit (List.all_eq_true.mp (blockTable_fits k) r (List.mem_of_find?_eq_some h))

end Sys2Proof.Machine
end

section
/-! SUPPORT. Register writes (R7-R22, R440-R442, R605): what a report changes, and the outcome of a write by verdict, by
place and by the checks of its register. -/

namespace Sys2Proof.Machine

/-! ### Reports (R19, R20) -/

/-- A command that ends changes registers alone, and of them none but those listed. -/
def State.Reports (s t : State) (l : List Nat) : Prop :=
  (∀ b, b ∉ l → t.reg b = s.reg b) ∧ t = { s with regs := t.regs, reply := .done }

/-- The registers of the capture (R20). -/
def captureRegs : List Nat := [SYS_RSVD_SRC, SYS_RSVD_ADDR]

/-- No status register is one of the capture. -/
theorem statusOf_notMem_captureRegs (a : Nat) : statusOf a ∉ captureRegs := by
  rw [captureRegs, List.mem_cons, List.mem_singleton]
  unfold statusOf SYS_STATUS ANG_STATUS CXB_STATUS IRQ_STATUS PIN_STATUS INST_STATUS MEM_STATUS NVM_STATUS LEAT_STATUS
    TWIN_STATUS HOST_STATUS JNL_STATUS BOOT_STATUS CAL_STATUS PWR_STATUS TST_STATUS OBS_STATUS CEL_STATUS CEL_MX_STATUS
    CVG_STATUS CVG_COM_STATUS FLT_STATUS DRV_STATUS DRV_COM_STATUS WEIR_STATUS LGC_STATUS SYS_RSVD_SRC SYS_RSVD_ADDR
  dsimp only
  split <;> omega

/-- A capture changes the registers of the capture alone. -/
theorem State.capture_reg (s : State) (q : Req) (a : Nat) (nothing : Bool) {b : Nat} (hb : b ∉ captureRegs) :
    (s.capture q a nothing).reg b = s.reg b := by
  obtain ⟨hsrc, haddr⟩ : b ≠ SYS_RSVD_SRC ∧ b ≠ SYS_RSVD_ADDR := by simpa [captureRegs] using hb
  unfold State.capture
  split
  · exact State.reg_setF_other s _ b _ _ hsrc
  · rw [State.reg_setF_other _ _ b _ _ hsrc, State.reg_setF_other _ _ b _ _ hsrc, State.setF_flag,
      State.reg_setF_other _ _ b _ _ hsrc, State.reg_put_other s _ b _ haddr]

theorem State.capture_rest (s : State) (q : Req) (a : Nat) (nothing : Bool) :
    s.capture q a nothing = { s with regs := (s.capture q a nothing).regs } := by
  unfold State.capture
  split <;> rfl

theorem State.put_then_answer (s : State) (a : Nat) (v : Word) (x : Reply) :
    (s.put a v).answer x = (s.answer x).put a v := rfl

theorem State.setF_then_answer (s : State) (a : Nat) (f : Field) (n : Nat) (x : Reply) :
    (s.setF a f n).answer x = (s.answer x).setF a f n := rfl

/-- A capture does not read the reply. -/
theorem State.capture_then_answer (s : State) (q : Req) (a : Nat) (nothing : Bool) (x : Reply) :
    (s.capture q a nothing).answer x = (s.answer x).capture q a nothing := by
  unfold State.capture
  rw [State.bit_answer]
  split
  · exact State.setF_then_answer ..
  · rw [State.setF_then_answer, State.setF_then_answer, State.setF_flag, State.setF_then_answer, State.put_then_answer,
      ← State.setF_flag]

theorem State.rsvd_then_answer (s : State) (q : Req) (a : Nat) (nothing : Bool) (x : Reply) :
    (s.rsvd q a nothing).answer x = (s.answer x).rsvd q a nothing := State.capture_then_answer _ q a nothing x

/-- A write that does nothing but set a flag of its block's status register and be captured. -/
theorem State.reports_flag_capture (s : State) (q : Req) (own a : Nat) (nothing : Bool) (f : Field) (hf : f.ok = true)
    (hone : 1 % 2 ^ fieldWidth f = 1) :
    let t := ((s.flag (statusOf own) f).capture q a nothing).answer .done
    t.bit (statusOf own) f = true ∧ s.Reports t (statusOf own :: captureRegs) := by
  refine ⟨?_, ?_, ?_⟩
  · rw [State.bit_answer, State.bit_fld, State.fld,
      State.capture_reg _ q a nothing (statusOf_notMem_captureRegs own), ← State.fld, State.setF_flag,
      State.fld_setF_same s _ f 1 hf, hone]
    rfl
  · intro b hb
    obtain ⟨hs, hc⟩ := not_or.mp (mt List.mem_cons.mpr hb)
    rw [State.reg_answer, State.capture_reg _ q a nothing hc, State.setF_flag, State.reg_setF_other s _ b f 1 hs]
  · rw [State.capture_rest]
    rfl

theorem State.reports_rsvdAt (s : State) (q : Req) (own a : Nat) (nothing : Bool) :
    let t := (s.rsvdAt q own a nothing).answer .done
    t.bit (statusOf own) rsvdWr = true ∧ s.Reports t (statusOf own :: captureRegs) :=
  s.reports_flag_capture q own a nothing rsvdWr rfl rfl

theorem State.reports_stageRej (s : State) (q : Req) (a : Nat) :
    let t := (s.stageRej q a).answer .done
    t.bit (statusOf a) stageWr = true ∧ s.Reports t (statusOf a :: captureRegs) :=
  s.reports_flag_capture q a a true stageWr rfl rfl

/-! ### Verdicts (Table 12.2, R40, R441, R605) -/

theorem State.guardWrite_ok {s : State} {q : Req} {a : Nat} (f : State → State) (h : s.access q a true = .ok) :
    s.guardWrite q a f = (f s).answer .done := by
  unfold State.guardWrite; rw [h]

theorem State.guardWrite_refused {s : State} {q : Req} {a : Nat} (f : State → State)
    (h : s.access q a true = .mpu ∨ s.access q a true = .locked) : s.guardWrite q a f = s.answer (.error busMpu) := by
  unfold State.guardWrite
  rcases h with h | h <;> rw [h]

theorem State.guardWrite_wrej {s : State} {q : Req} {a : Nat} (f : State → State) (h : s.access q a true = .wrej) :
    s.guardWrite q a f = (s.flag BOOT_STATUS BOOT_STATUS_WREJ).answer .done := by
  unfold State.guardWrite; rw [h]

theorem State.guardWrite_dead {s : State} {q : Req} {a : Nat} (f : State → State) (h : s.wayDead q = true) :
    s.guardWrite q a f = s.answer .done := by
  unfold State.guardWrite State.access; rw [h]; rfl

/-! ### Places (R10, R13) -/

/-- The effect of an allowed write at an address of register space: the shadow view is not written (R10). -/
def State.spaceEffect (q : Req) (a : Nat) (v : Word) (s : State) : State :=
  if 0xF8000000 ≤ a then s.rsvdAt q (plainAddr a) a true else s.busEffect q a (s.busKey q a) v

theorem regAddr_iff (a : Nat) : regAddr a = true ↔ 0xF0000000 ≤ a ∧ blockOf (plainAddr a) ≠ .none := by
  simp [regAddr]

theorem State.busWrite_outside (s : State) (q : Req) {a : Nat} (v : Word) (h : a % 4 ≠ 0 ∨ regAddr a = false) :
    s.busWrite q a v = s.answer (.error busRegister) := by
  refine if_pos ?_
  rw [← Bool.not_eq_true, regAddr_iff] at h
  grind

theorem State.busWrite_inside (s : State) (q : Req) {a : Nat} (v : Word) (h4 : a % 4 = 0) (h : regAddr a = true) :
    s.busWrite q a v = s.guardWrite q a (State.spaceEffect q a v) := by
  obtain ⟨hlow, hblock⟩ := (regAddr_iff a).mp h
  refine if_neg ?_
  rintro (hbelow | hnone | hodd)
  · omega
  · exact hblock hnone
  · exact hodd h4

/-- The shadow view, and an address without a register, are reported whole (R10, R13). -/
theorem State.spaceEffect_unwritable (s : State) (q : Req) {a : Nat} (v : Word)
    (h : 0xF8000000 ≤ a ∨ descOf (s.busKey q a) = none) :
    s.spaceEffect q a v = s.rsvdAt q (plainAddr a) a true := by
  unfold State.spaceEffect
  split
  case isTrue => rfl
  case isFalse hlow =>
    have hnone := h.resolve_left hlow
    have hplain : plainAddr a = a := if_neg hlow
    rw [State.busEffect, hnone, hplain]
    rfl

/-! ### Registers without a meaning of their own -/

/-- Blocks whose registers are plain, but for three. -/
def plainBlocks : List Block := [.sys, .ang, .jnl, .tst]

/-- A requester reaches at address k a register of SYS, ANG, JNL or TST that is nothing but its fields `fs`. -/
structure State.ReachesPlain (s : State) (q : Req) (k : Nat) (fs : List Field) : Prop where
  active : k < 0xF8000000
  block : plainBlocks.contains (blockOf k) = true
  special : k ∉ [SYS_CLK_LOST, ANG_CTL, ANG_EPOCH_CTL]
  own : s.busKey q k = k
  record : recordOf k = none
  desc : ∃ r, descOf k = some r ∧ r.kind = .plain ∧ r.fields = fs

theorem State.ReachesPlain.spaceEffect {s : State} {q : Req} {k : Nat} {fs : List Field} (h : s.ReachesPlain q k fs)
    (v : Word) : State.spaceEffect q k v s = s.regWrite q k v := by
  obtain ⟨hactive, hblock, hspecial, hown, hrecord, r, hdesc, hkind, -⟩ := h
  have hk : kindAt k = .plain := by rw [kindAt, hdesc]; exact hkind
  simp only [List.mem_cons, List.not_mem_nil, or_false, not_or] at hspecial
  obtain ⟨hlost, hctl, hepoch⟩ := hspecial
  have hb : blockOf k = .sys ∨ blockOf k = .ang ∨ blockOf k = .jnl ∨ blockOf k = .tst := by
    simpa [plainBlocks] using hblock
  rw [State.spaceEffect, if_neg (by omega), hown, State.busEffect, hdesc, hk, hrecord]
  rcases hb with hb | hb | hb | hb <;> rw [hb] <;> simp [hlost, hctl, hepoch]

/-! ### The checks of a register (R16-R18) and its fields (R7, R9) -/

/-- Is a write rejected because the device is ARMED (R18)? -/
def State.rejectsRws (s : State) (k : Nat) (fs : List Field) (w : Word) : Bool :=
  hasRws fs && s.armed && (w &&& rwsMask fs) != (s.shReg k &&& rwsMask fs)

/-- The register takes a word: its active fields, then its RWS fields into the shadow. -/
def State.takesWord (s : State) (k : Nat) (fs : List Field) (w : Word) : State :=
  let s1 := s.put k (writeActive fs (s.reg k) w)
  if hasRws fs then s1.stage k ((s1.reg k &&& ~~~ rwsMask fs) ||| (w &&& rwsMask fs)) else s1

/-- A write of a register with address k, by its checks. -/
theorem State.regWrite_eq (s : State) (q : Req) {k : Nat} {r : RegDesc} (w : Word) (hk : k < 2 ^ 32)
    (hdesc : descOf k = some r) :
    s.regWrite q k w =
      if reservedEncoding r.fields w then s.rsvd q k true
      else if s.rejectsRws k r.fields w then s.stageRej q k
      else if (w &&& reservedBits r.fields) != 0 then (s.takesWord k r.fields w).rsvd q k false
      else s.takesWord k r.fields w := by
  have ha : busAddr k = k := if_pos hk
  rw [State.regWrite, ha, hdesc]
  rfl

theorem State.takesWord_reg (s : State) (k : Nat) (fs : List Field) (w : Word) (b : Nat) :
    (s.takesWord k fs w).reg b = if b = k then writeActive fs (s.reg k) w else s.reg b := by
  unfold State.takesWord
  dsimp only
  split <;> exact State.reg_put s k b _

theorem State.takesWord_rest (s : State) (k : Nat) (fs : List Field) (w : Word) :
    s.takesWord k fs w = { s with regs := (s.takesWord k fs w).regs, staged := (s.takesWord k fs w).staged } := by
  unfold State.takesWord
  dsimp only
  split <;> rfl

theorem State.takesWord_congr (s : State) (k : Nat) {fs : List Field} {v w : Word} (hok : ∀ f ∈ fs, f.ok = true)
    (h : FieldsAgree fs v w) : s.takesWord k fs v = s.takesWord k fs w := by
  unfold State.takesWord
  rw [h.writeActive hok, h.and_rwsMask]

theorem State.rejectsRws_congr (s : State) (k : Nat) {fs : List Field} {v w : Word} (h : FieldsAgree fs v w) :
    s.rejectsRws k fs v = s.rejectsRws k fs w := by
  unfold State.rejectsRws
  rw [h.and_rwsMask]

/-- The shadow of a register depends on that register and on what is staged for it. -/
theorem State.shReg_congr {s t : State} {b : Nat} (hreg : t.reg b = s.reg b)
    (hst : ∀ d, tblGet d t.staged b = tblGet d s.staged b) : t.shReg b = s.shReg b := by
  have tblGet_default (d d' : Nat → Word) (hd : d b = d' b) (l : Tbl Word) : tblGet d l b = tblGet d' l b := by
    induction l with
    | nil => exact hd
    | cons x r ih => rw [tblGet_cons, tblGet_cons, ih]
  exact (tblGet_default t.reg s.reg hreg t.staged).trans (hst s.reg)

theorem State.takesWord_shReg_other (s : State) (k : Nat) (fs : List Field) (w : Word) {b : Nat} (hb : b ≠ k) :
    (s.takesWord k fs w).shReg b = s.shReg b := by
  refine State.shReg_congr (by rw [State.takesWord_reg, if_neg hb]) fun d => ?_
  unfold State.takesWord
  dsimp only
  split
  · exact (tblGet_put d s.staged k b _).trans (if_neg hb)
  · rfl

/-- A field of the register that took a word (R7). -/
theorem State.takesWord_fld (s : State) (k : Nat) {fs : List Field} (w : Word) (hfit : FieldsFit fs) {f : Field}
    (hf : f ∈ fs) : (s.takesWord k fs w).fld k f = writtenField (s.reg k) w f := by
  rw [State.fld, State.takesWord_reg, if_pos rfl, fieldGet_writeActive hfit _ w hf]

/-- An RWS field of the shadow holds what was written (R9). -/
theorem State.takesWord_shFld (s : State) (k : Nat) {fs : List Field} (w : Word) (hfit : FieldsFit fs) {f : Field}
    (hf : f ∈ fs) (hr : f.acc = .rws) : (s.takesWord k fs w).shFld k f = fieldGet f w := by
  have hhas : hasRws fs = true := List.any_eq_true.mpr ⟨f, hf, by simpa using hr⟩
  have hm : fieldMask f &&& rwsMask fs = fieldMask f := fieldMask_and_rwsMask hf hr
  unfold State.takesWord State.shFld
  rw [if_pos hhas, State.shReg_stage, if_pos rfl]
  apply fieldGet_congr (hfit.ok f hf)
  apply BitVec.eq_of_getLsbD_eq
  intro i _
  have hi := congrArg (fun x => x.getLsbD i) hm
  simp only [BitVec.getLsbD_and, BitVec.getLsbD_or, BitVec.getLsbD_not] at hi ⊢
  cases h : (fieldMask f).getLsbD i
  case false => simp
  case true =>
    rw [h, Bool.true_and] at hi
    simp [hi]

/-! ### REGISTER_WRITE and RSVD_CAPTURE_CLEAR -/

theorem exec_registerWrite_size (s : State) (q : Req) (a v : Word) {n : Nat} (h : n ≠ 4) :
    exec (.registerWrite q (.space a) n v) s = .next (s.answer (.error busRegister)) :=
  congrArg Host.Outcome.next (if_neg h)

theorem exec_registerWrite_word (s : State) (q : Req) (a v : Word) :
    exec (.registerWrite q (.space a) 4 v) s = .next (s.busWrite q a.toNat v) := rfl

/-- A word of register space is written under the rules of access. -/
theorem exec_registerWrite_guarded (s : State) (q : Req) (a v : Word) (h4 : a.toNat % 4 = 0)
    (hr : regAddr a.toNat = true) :
    exec (.registerWrite q (.space a) 4 v) s = .next (s.guardWrite q a.toNat (State.spaceEffect q a.toNat v)) := by
  rw [exec_registerWrite_word, State.busWrite_inside s q v h4 hr]

/-- Before WREN a write sets WREJ alone (R605). -/
theorem State.reports_wrej (s : State) :
    let t := (s.flag BOOT_STATUS BOOT_STATUS_WREJ).answer .done
    t.bit BOOT_STATUS BOOT_STATUS_WREJ = true ∧
      (∀ f, Field.apart BOOT_STATUS_WREJ f = true → t.fld BOOT_STATUS f = s.fld BOOT_STATUS f) ∧
      s.Reports t [BOOT_STATUS] := by
  have hok : BOOT_STATUS_WREJ.ok = true := rfl
  refine ⟨?_, fun f hf => State.fld_setF_apart s _ _ f 1 hok hf, fun b hb => ?_, rfl⟩
  · rw [State.bit_answer, State.bit_fld, State.setF_flag, State.fld_setF_same s _ _ 1 hok]
    rfl
  · exact State.reg_setF_other s _ b _ 1 (List.mem_singleton.not.mp hb)

/-- An allowed write of a plain register comes to its checks. -/
theorem exec_registerWrite_plain {s : State} {q : Req} {a : Word} {fs : List Field} (h4 : a.toNat % 4 = 0)
    (hr : regAddr a.toNat = true) (hok : s.access q a.toNat true = .ok) (hp : s.ReachesPlain q a.toNat fs) (v : Word) :
    exec (.registerWrite q (.space a) 4 v) s = .next ((if reservedEncoding fs v then s.rsvd q a.toNat true
      else if s.rejectsRws a.toNat fs v then s.stageRej q a.toNat
      else if (v &&& reservedBits fs) != 0 then (s.takesWord a.toNat fs v).rsvd q a.toNat false
      else s.takesWord a.toNat fs v).answer .done) := by
  obtain ⟨r, hdesc, -, rfl⟩ := hp.desc
  rw [exec_registerWrite_guarded s q a v h4 hr, State.guardWrite_ok _ hok, hp.spaceEffect,
    State.regWrite_eq s q v a.isLt hdesc]

/-- A register that took a word: its fields, its shadow, and nothing else (R7, R9). -/
theorem State.takesWord_spec (s : State) (k : Nat) {fs : List Field} (w : Word) (hfit : FieldsFit fs) :
    let t := (s.takesWord k fs w).answer .done
    (∀ f ∈ fs, t.fld k f = writtenField (s.reg k) w f) ∧
      (∀ f ∈ fs, f.acc = .rws → t.shFld k f = fieldGet f w) ∧
      (∀ b, b ≠ k → t.reg b = s.reg b ∧ t.shReg b = s.shReg b) ∧
      t = { s with regs := t.regs, staged := t.staged, reply := .done } := by
  refine ⟨fun f hf => s.takesWord_fld k w hfit hf, fun f hf hr => s.takesWord_shFld k w hfit hf hr, fun b hb => ⟨?_, ?_⟩, ?_⟩
  · exact (s.takesWord_reg k fs w b).trans (if_neg hb)
  · exact s.takesWord_shReg_other k fs w hb
  · rw [State.takesWord_rest]
    rfl

/-- Reserved bits written 1 add their report to the write of the other bits and nothing else (R16). -/
theorem exec_registerWrite_reservedBits {s : State} {q : Req} {a v : Word} {fs : List Field} (hfit : FieldsFit fs)
    (h4 : a.toNat % 4 = 0) (hr : regAddr a.toNat = true) (hok : s.access q a.toNat true = .ok)
    (hp : s.ReachesPlain q a.toNat fs) (henc : reservedEncoding fs v = false)
    (hrej : s.rejectsRws a.toNat fs v = false) (hbits : v &&& reservedBits fs ≠ 0) :
    s.Does (.registerWrite q (.space a) 4 v) fun t =>
      ∃ u, exec (.registerWrite q (.space a) 4 (v &&& ~~~ reservedBits fs)) s = .next u ∧ t = u.rsvd q a.toNat false := by
  have hcut : FieldsAgree fs (v &&& ~~~ reservedBits fs) v := fieldsAgree_cut fs v
  refine ⟨((s.takesWord a.toNat fs v).rsvd q a.toNat false).answer .done, ?_, (s.takesWord a.toNat fs v).answer .done, ?_,
    State.rsvd_then_answer ..⟩
  · rw [exec_registerWrite_plain h4 hr hok hp, henc, hrej, if_pos (bne_iff_ne.mpr hbits)]
    rfl
  · rw [exec_registerWrite_plain h4 hr hok hp, hcut.reservedEncoding hfit.ok, State.rejectsRws_congr s _ hcut, henc, hrej,
      cut_and_reservedBits, State.takesWord_congr s _ hfit.ok hcut]
    rfl

theorem fieldsAt_of_desc {k : Nat} {r : RegDesc} (h : descOf k = some r) : fieldsAt k = r.fields := by
  rw [fieldsAt, h]

/-- SYS_RSVD_SRC takes the word 0 as it is. -/
theorem rsvdSrc_takes_zero : ∃ r, descOf SYS_RSVD_SRC = some r ∧ reservedEncoding r.fields 0 = false ∧
    hasRws r.fields = false ∧ writeActive r.fields 0 0 = 0 := by
  have hdef : (descOf SYS_RSVD_SRC).isSome = true := by decide +kernel
  have hzero : reservedEncoding (fieldsAt SYS_RSVD_SRC) 0 = false ∧ hasRws (fieldsAt SYS_RSVD_SRC) = false ∧
      writeActive (fieldsAt SYS_RSVD_SRC) 0 0 = 0 := by decide +kernel
  obtain ⟨r, hr⟩ := Option.isSome_iff_exists.mp hdef
  rw [fieldsAt_of_desc hr] at hzero
  exact ⟨r, hr, hzero⟩

/-- A write of VALID to SYS_RSVD_SRC clears the capture (R22). -/
theorem State.rsvdSrcWrite_valid (s : State) (q : Req) :
    s.rsvdSrcWrite q 0x80000000 = (s.put SYS_RSVD_SRC 0).put SYS_RSVD_SRC 0 := by
  obtain ⟨r, hdesc, henc, hrws, hzero⟩ := rsvdSrc_takes_zero
  have hk : SYS_RSVD_SRC < 2 ^ 32 := by decide
  have hv : (0x80000000 : Word).getLsbD 31 = true := rfl
  have hw : (0x80000000 : Word) &&& 0x7FFFFFFF = 0 := rfl
  unfold State.rsvdSrcWrite
  rw [hv, hw, if_pos rfl, State.regWrite_eq _ q 0 hk hdesc, henc, State.rejectsRws, hrws, State.takesWord, hrws,
    State.reg_put_same, hzero]
  simp

/-- The write of a plain register, by its checks (R7, R9, R16-R18). -/
theorem registerWrite_plainOutcomes {s : State} {q : Req} {a : Word} {r : RegDesc} (v : Word) (hdesc : descOf a.toNat = some r)
    (h4 : a.toNat % 4 = 0) (hr : regAddr a.toNat = true) (hok : s.access q a.toNat true = .ok)
    (hp : s.ReachesPlain q a.toNat r.fields) :
    let k := a.toNat
    let i := Instr.registerWrite q (.space a) 4 v
    let fs := r.fields
    (reservedEncoding fs v = true → s.Does i fun t =>
      t.bit (statusOf k) rsvdWr = true ∧ s.Reports t (statusOf k :: captureRegs)) ∧
    (reservedEncoding fs v = false → s.rejectsRws k fs v = true → s.Does i fun t =>
      t.bit (statusOf k) stageWr = true ∧ s.Reports t (statusOf k :: captureRegs)) ∧
    (reservedEncoding fs v = false → s.rejectsRws k fs v = false → v &&& reservedBits fs = 0 → s.Does i fun t =>
      (∀ f ∈ fs, t.fld k f = writtenField (s.reg k) v f) ∧
      (∀ f ∈ fs, f.acc = .rws → t.shFld k f = fieldGet f v) ∧
      (∀ b, b ≠ k → t.reg b = s.reg b ∧ t.shReg b = s.shReg b) ∧
      t = { s with regs := t.regs, staged := t.staged, reply := .done }) ∧
    (reservedEncoding fs v = false → s.rejectsRws k fs v = false → v &&& reservedBits fs ≠ 0 → s.Does i fun t =>
      ∃ u, exec (.registerWrite q (.space a) 4 (v &&& ~~~ reservedBits fs)) s = .next u ∧ t = u.rsvd q k false) := by
  have hfit := descOf_fieldsFit hdesc
  have hexec := exec_registerWrite_plain h4 hr hok hp v
  refine ⟨fun henc => ?_, fun henc hrej => ?_, fun henc hrej hbits => ?_, fun henc hrej hbits => ?_⟩
  · rw [if_pos henc] at hexec
    exact ⟨_, hexec, s.reports_rsvdAt q a.toNat a.toNat true⟩
  · rw [henc, if_neg Bool.false_ne_true, if_pos hrej] at hexec
    exact ⟨_, hexec, s.reports_stageRej q a.toNat⟩
  · rw [henc, hrej, hbits] at hexec
    exact ⟨_, hexec, s.takesWord_spec a.toNat v hfit⟩
  · exact exec_registerWrite_reservedBits hfit h4 hr hok hp henc hrej hbits

/-- Settles O9: the write's size and place, the verdict on its access, then the checks and the fields of its register. -/
theorem registerWrites : Obligations.RegisterWrites := by
  intro s q a v k i report seen
  refine ⟨fun n hn => exec_registerWrite_size s q a v hn, fun hout => ?outside, fun h4 hr hdead => ?dead,
    fun h4 hr => ⟨fun hacc => ?refused, fun hacc => ?wrej, fun hacc hun => ?unwritable,
      fun hok hlow hblock hspecial hown hrecord r hdesc hplain => ?plain⟩, fun hok => ?clear⟩
  case outside => exact (exec_registerWrite_word s q a v).trans (congrArg _ (s.busWrite_outside q v hout))
  case dead => exact (exec_registerWrite_guarded s q a v h4 hr).trans (congrArg _ (State.guardWrite_dead _ hdead))
  case refused => exact (exec_registerWrite_guarded s q a v h4 hr).trans (congrArg _ (State.guardWrite_refused _ hacc))
  case wrej =>
    exact ⟨_, (exec_registerWrite_guarded s q a v h4 hr).trans (congrArg _ (State.guardWrite_wrej _ hacc)), s.reports_wrej⟩
  case unwritable =>
    refine ⟨_, (exec_registerWrite_guarded s q a v h4 hr).trans (congrArg _ (State.guardWrite_ok _ hacc)), ?_⟩
    rw [State.spaceEffect_unwritable s q v hun]
    exact s.reports_rsvdAt q (plainAddr k) k true
  case plain =>
    obtain ⟨hreserved, hrejected, htaken, hbits⟩ := registerWrite_plainOutcomes v hdesc h4 hr hok
      ⟨hlow, hblock, hspecial, hown, hrecord, r, hdesc, hplain, rfl⟩
    refine ⟨hreserved, hrejected, fun henc hrej hb => ?_, hbits⟩
    obtain ⟨t, ht, hfld, hrest⟩ := htaken henc hrej hb
    exact ⟨t, ht, fun f hf => (hfld f hf).trans (by unfold writtenField; cases f.acc <;> rfl), hrest⟩
  case clear =>
    refine ⟨_, congrArg Host.Outcome.next (State.guardWrite_ok _ hok), ?_, fun b hb => ?_, ?_⟩
    · rw [State.reg_answer, State.rsvdSrcWrite_valid, State.reg_put_same]
    · have hb : b ≠ SYS_RSVD_SRC := List.mem_singleton.not.mp hb
      rw [State.reg_answer, State.rsvdSrcWrite_valid, State.reg_put_other _ _ b _ hb, State.reg_put_other _ _ b _ hb]
    · rw [State.rsvdSrcWrite_valid]
      rfl

end Sys2Proof.Machine
end

section
/-! SUPPORT. A step of the empty queue (R37, log entry 5). -/

namespace Sys2Proof.Machine

/-- Settles O2: the first arm of `step`, and the guard of the nanosecond. -/
theorem emptyQueueStep : Obligations.EmptyQueueStep := by
  intro s h
  have hstep : step s = .next s.tick := by rw [step, h]
  refine ⟨hstep, fun hoff => ?_⟩
  have htick : s.tick = s := by rw [State.tick, if_pos ((Bool.or_eq_true _ _).mpr hoff)]
  rw [hstep, htick]

end Sys2Proof.Machine
end

section
/-! SUPPORT. Reads and writes of active registers, and the event counters behind them (R10, R13, R45-R50). -/

namespace Sys2Proof.Machine

/-! ### Reads of register space (R10, R13, R440-R442) -/

/-- The value of an allowed read at an address of register space: the shadow view shows the staged word (R10). -/
def State.spaceRead (q : Req) (a : Nat) (s : State) : Word × State :=
  if 0xF8000000 ≤ a then (s.shadowView (s.busKey q (plainAddr a)), s) else s.keyRead q a (s.busKey q a)

theorem State.busRead_inside (s : State) (q : Req) {a : Nat} (h4 : a % 4 = 0) (h : regAddr a = true) :
    s.busRead q a = s.guardRead q a (State.spaceRead q a) := by
  obtain ⟨hlow, hblock⟩ := (regAddr_iff a).mp h
  refine if_neg ?_
  rintro (hbelow | hnone | hodd)
  · omega
  · exact hblock hnone
  · exact hodd h4

theorem State.guardRead_ok {s : State} {q : Req} {a : Nat} (f : State → Word × State) (h : s.access q a false = .ok) :
    s.guardRead q a f = (f s).2.answer (.value (f s).1.toNat) := by
  unfold State.guardRead; rw [h]

/-- An allowed read of an active register reads the register at its key. -/
theorem State.busRead_active {s : State} {q : Req} {a : Nat} (hlow : a < 0xF8000000) (h4 : a % 4 = 0)
    (hr : regAddr a = true) (hok : s.access q a false = .ok) :
    s.busRead q a = (s.keyRead q a (s.busKey q a)).2.answer (.value (s.keyRead q a (s.busKey q a)).1.toNat) := by
  rw [State.busRead_inside s q h4 hr, State.guardRead_ok _ hok, State.spaceRead, if_neg (by omega)]

/-- An allowed write of an active register has the effect of the register at its key. -/
theorem State.busWrite_active {s : State} {q : Req} {a : Nat} (v : Word) (hlow : a < 0xF8000000) (h4 : a % 4 = 0)
    (hr : regAddr a = true) (hok : s.access q a true = .ok) :
    s.busWrite q a v = (s.busEffect q a (s.busKey q a) v).answer .done := by
  rw [State.busWrite_inside s q v h4 hr, State.guardWrite_ok _ hok, State.spaceEffect, if_neg (by omega)]

/-! ### A counter at its addresses (R45-R50) -/

/-- A requester reaches at addresses k and k + 4 the two registers of an event counter. -/
structure State.ReachesCounter (s : State) (q : Req) (k : Nat) : Prop where
  active : k + 4 < 0xF8000000
  aligned : k % 4 = 0
  loInside : regAddr k = true
  hiInside : regAddr (k + 4) = true
  loKey : s.busKey q k = k
  hiKey : s.busKey q (k + 4) = k + 4
  loKind : kindAt k = .counterLo
  hiKind : kindAt (k + 4) = .counterHi
  notSource : isSrcPos k = false
  notAngle : k ≠ ANG_POS_LO

theorem descOf_isNone_of_kindAt {k : Nat} (h : kindAt k ≠ .plain) : (descOf k).isNone = false := by
  unfold kindAt at h
  cases hd : descOf k with
  | none => rw [hd] at h; exact absurd rfl h
  | some r => rfl

theorem State.ReachesCounter.notTime {s : State} {q : Req} {k : Nat} (h : s.ReachesCounter q k) : k ≠ ANG_TIME_LO := by
  rintro rfl
  have htime : kindAt ANG_TIME_LO = .timeLo := by decide +kernel
  have hcontra := htime.symm.trans h.loKind
  contradiction

/-- The live value of an event counter. -/
theorem State.ReachesCounter.ctrLive {s : State} {q : Req} {k : Nat} (h : s.ReachesCounter q k) :
    s.ctrLive k = ((s.ctr k).count.toNat, (s.ctr k).ovf) := by
  rw [State.ctrLive, if_neg h.notTime, if_neg h.notAngle, h.notSource, if_neg Bool.false_ne_true, h.loKind]

theorem State.ReachesCounter.ctrBase_hi {s : State} {q : Req} {k : Nat} (h : s.ReachesCounter q k) :
    ctrBase (k + 4) = k := by
  rw [ctrBase, h.hiKind]; rfl

theorem State.ReachesCounter.ctrBase_lo {s : State} {q : Req} {k : Nat} (h : s.ReachesCounter q k) : ctrBase k = k := by
  rw [ctrBase, h.loKind]

/-- The word of a counter's high register. -/
theorem hiWord_counter {k : Nat} (h : kindAt k = .counterHi) (n : Nat) (o : Bool) :
    (hiWord k n o).toNat = o.toNat * 2 ^ 31 + n / 2 ^ 32 % 2 ^ 16 := by
  have ho : o.toNat ≤ 1 := Bool.toNat_le o
  rw [hiWord, h, BitVec.toNat_ofNat]
  omega

/-- Only a requester's shadow changes. -/
def State.setShadow (s : State) (x : Nat) (v : Option CtrShadow) : State :=
  { s with ctrShadow := tblSet (fun _ => none) s.ctrShadow x v }

/-- An answered state with one shadow set. -/
theorem State.setShadow_answered (s : State) (x : Nat) (v : Option CtrShadow) (r : Reply) :
    let t := (s.setShadow x v).answer r
    tblGet (fun _ => none) t.ctrShadow x = v ∧
      (∀ y, y ≠ x → tblGet (fun _ => none) t.ctrShadow y = tblGet (fun _ => none) s.ctrShadow y) ∧
      t = { s with ctrShadow := t.ctrShadow, reply := t.reply } :=
  ⟨tblGet_set_same .., fun y hy => tblGet_set_other _ s.ctrShadow x y v hy, rfl⟩

/-- A read of the low register: the live low bits, and the requester's shadow of the high register (R46). -/
theorem State.ReachesCounter.ctrLoRead {s : State} {q : Req} {k : Nat} (h : s.ReachesCounter q k) :
    s.ctrLoRead q k = (BitVec.ofNat 32 (s.ctr k).count.toNat,
      s.setShadow (shadowKey q (k + 4)) (some ⟨(s.ctr k).count.toNat, (s.ctr k).ovf⟩)) := by
  rw [State.ctrLoRead, h.ctrLive, hiKeys, if_neg h.notTime]
  rfl

/-- A read of the high register: the shadow, which is gone then, else the live value (R47). -/
theorem State.ReachesCounter.ctrHiRead {s : State} {q : Req} {k : Nat} (h : s.ReachesCounter q k) :
    s.ctrHiRead q (k + 4) = match tblGet (fun _ => none) s.ctrShadow (shadowKey q (k + 4)) with
      | some x => (hiWord (k + 4) x.hi x.ovf, s.setShadow (shadowKey q (k + 4)) none)
      | none => (hiWord (k + 4) (s.ctr k).count.toNat (s.ctr k).ovf, s) := by
  rw [State.ctrHiRead, h.ctrBase_hi, h.ctrLive]
  rfl

theorem State.ReachesCounter.keyRead_lo {s : State} {q : Req} {k : Nat} (h : s.ReachesCounter q k) :
    s.keyRead q k k = s.ctrLoRead q k := by
  rw [State.keyRead, h.loKind]

theorem State.ReachesCounter.keyRead_hi {s : State} {q : Req} {k : Nat} (h : s.ReachesCounter q k) :
    s.keyRead q (k + 4) (k + 4) = s.ctrHiRead q (k + 4) := by
  rw [State.keyRead, h.hiKind]

theorem State.ReachesCounter.busEffect_lo {s : State} {q : Req} {k : Nat} (h : s.ReachesCounter q k) (v : Word) :
    s.busEffect q k k v = s.setHeld q k v.toNat := by
  have hdesc := descOf_isNone_of_kindAt (k := k) (by rw [h.loKind]; decide)
  rw [State.busEffect, hdesc, if_neg Bool.false_ne_true, h.loKind]
  dsimp only
  rw [State.ctrWrite, h.loKind, h.ctrBase_lo]

theorem State.ReachesCounter.busEffect_hi {s : State} {q : Req} {k : Nat} (h : s.ReachesCounter q k) {v : Word}
    (hv : v &&& 0x7FFF0000 = 0) : s.busEffect q (k + 4) (k + 4) v = s.ctrLoadAt q k 32 v := by
  have hdesc := descOf_isNone_of_kindAt (k := k + 4) (by rw [h.hiKind]; decide)
  rw [State.busEffect, hdesc, if_neg Bool.false_ne_true, h.hiKind]
  dsimp only
  rw [State.ctrWrite, h.hiKind, h.ctrBase_hi, State.hiReserved, hv]
  rfl

/-! ### The rows of Table 1.9's counters -/

/-- COUNTER_LO_READ returns the low bits and fills the requester's shadow alone (R46). -/
theorem counterLoRead_spec {s : State} {q : Req} {a : Word} (h : s.ReachesCounter q a.toNat)
    (hok : s.access q a.toNat false = .ok) : s.Does (.counterLoRead q a) fun t =>
      t.reply = .value ((s.ctr a.toNat).count.toNat % 2 ^ 32) ∧
      tblGet (fun _ => none) t.ctrShadow (shadowKey q (a.toNat + 4)) =
        some ⟨(s.ctr a.toNat).count.toNat, (s.ctr a.toNat).ovf⟩ ∧
      (∀ y, y ≠ shadowKey q (a.toNat + 4) →
        tblGet (fun _ => none) t.ctrShadow y = tblGet (fun _ => none) s.ctrShadow y) ∧
      t = { s with ctrShadow := t.ctrShadow, reply := t.reply } := by
  have hreach : s.reaches q a [.counterLo, .pairLo, .timeLo, .posLo] = true := by
    rw [State.reaches, h.loKey, h.loKind]; rfl
  have hlow := h.active
  have hread := State.busRead_active (by omega) h.aligned h.loInside hok
  rw [h.loKey, h.keyRead_lo, h.ctrLoRead] at hread
  exact ⟨_, congrArg Host.Outcome.next ((if_pos hreach).trans hread), congrArg Reply.value (BitVec.toNat_ofNat ..),
    s.setShadow_answered ..⟩

/-- COUNTER_HI_READ returns the shadow once, else the live upper bits (R47). -/
theorem counterHiRead_spec {s : State} {q : Req} {a : Word} (h : s.ReachesCounter q a.toNat)
    (hok : s.access q (a.toNat + 4) false = .ok) : s.Does (.counterHiRead q (a + 4)) fun t =>
      (t.reply = match tblGet (fun _ => none) s.ctrShadow (shadowKey q (a.toNat + 4)) with
        | some x => .value (x.ovf.toNat * 2 ^ 31 + x.hi / 2 ^ 32 % 2 ^ 16)
        | none => .value ((s.ctr a.toNat).ovf.toNat * 2 ^ 31 + (s.ctr a.toNat).count.toNat / 2 ^ 32 % 2 ^ 16)) ∧
      tblGet (fun _ => none) t.ctrShadow (shadowKey q (a.toNat + 4)) = none ∧
      (∀ y, y ≠ shadowKey q (a.toNat + 4) →
        tblGet (fun _ => none) t.ctrShadow y = tblGet (fun _ => none) s.ctrShadow y) ∧
      t = { s with ctrShadow := t.ctrShadow, reply := t.reply } := by
  have hlow := h.active
  have haddr : (a + 4).toNat = a.toNat + 4 := by
    rw [BitVec.toNat_add]; exact Nat.mod_eq_of_lt (by simpa using by omega)
  have hreach : s.reaches q (a + 4) [.counterHi, .pairHi, .timeHi, .timeHi2, .posHi] = true := by
    rw [State.reaches, haddr, h.hiKey, h.hiKind]; rfl
  have hread := State.busRead_active (by omega) (by have := h.aligned; omega) h.hiInside hok
  rw [h.hiKey, h.keyRead_hi, h.ctrHiRead] at hread
  have hexec : exec (.counterHiRead q (a + 4)) s = _ :=
    congrArg Host.Outcome.next ((if_pos hreach).trans ((congrArg (s.busRead q) haddr).trans hread))
  refine ⟨_, hexec, ?_⟩
  cases hshadow : tblGet (fun _ => none) s.ctrShadow (shadowKey q (a.toNat + 4)) with
  | some x => exact ⟨congrArg Reply.value (hiWord_counter h.hiKind ..), s.setShadow_answered ..⟩
  | none => exact ⟨congrArg Reply.value (hiWord_counter h.hiKind ..), hshadow, fun _ _ => rfl, rfl⟩

/-- COUNTER_HOLD_WRITE sets the requester's holding register alone (R48). -/
theorem counterHoldWrite_spec {s : State} {q : Req} {a : Word} (v : Word) (h : s.ReachesCounter q a.toNat)
    (hok : s.access q a.toNat true = .ok) : s.Does (.counterHoldWrite q a v) fun t =>
      t.ctrHeld q a.toNat = v.toNat ∧
      (∀ y, y ≠ shadowKey q a.toNat → tblGet (fun _ => 0) t.ctrHold y = tblGet (fun _ => 0) s.ctrHold y) ∧
      t = { s with ctrHold := t.ctrHold, reply := .done } := by
  have hreach : s.reaches q a [.counterLo, .timeLo, .timeHi] = true := by
    rw [State.reaches, h.loKey, h.loKind]; rfl
  have hlow := h.active
  have hwrite := State.busWrite_active v (by omega) h.aligned h.loInside hok
  rw [h.loKey, h.busEffect_lo] at hwrite
  exact ⟨_, congrArg Host.Outcome.next ((if_pos hreach).trans hwrite), tblGet_set_same ..,
    fun y hy => tblGet_set_other _ _ _ _ _ hy, rfl⟩

/-- Does a load that waits for its count edge clear OVF (log entry 91)? -/
def State.loadClears (s : State) (k : Nat) : Bool :=
  match tblGet (fun _ => none) s.ctrLoad k with | some l => l.clrOvf | none => false

/-- Only the load on its way to a counter changes. -/
def State.setLoad (s : State) (k : Nat) (l : CtrLoad) : State :=
  { s with ctrLoad := tblSet (fun _ => none) s.ctrLoad k (some l) }

/-- An answered state with a load on its way and one holding register set. -/
theorem State.setLoad_setHeld_answered (s : State) (q : Req) (k n : Nat) (l : CtrLoad) (r : Reply) :
    let t := ((s.setLoad k l).setHeld q k n).answer r
    tblGet (fun _ => none) t.ctrLoad k = some l ∧ t.ctrHeld q k = n ∧
      (∀ y, y ≠ k → tblGet (fun _ => none) t.ctrLoad y = tblGet (fun _ => none) s.ctrLoad y) ∧
      (∀ y, y ≠ shadowKey q k → tblGet (fun _ => 0) t.ctrHold y = tblGet (fun _ => 0) s.ctrHold y) ∧
      t = { s with ctrHold := t.ctrHold, ctrLoad := t.ctrLoad, reply := r } :=
  ⟨tblGet_set_same (fun _ => none) s.ctrLoad k (some l), tblGet_set_same (fun _ => 0) s.ctrHold (shadowKey q k) n,
    fun y hy => tblGet_set_other _ s.ctrLoad k y (some l) hy,
    fun y hy => tblGet_set_other _ s.ctrHold (shadowKey q k) y n hy, rfl⟩

theorem State.ctrLoadAt_eq (s : State) (q : Req) (k : Nat) (v : Word) : s.ctrLoadAt q k 32 v =
    (s.setLoad k ⟨s.ctrHeld q k % 2 ^ 32 + v.toNat % 2 ^ 16 * 2 ^ 32, v.getLsbD 31 || s.loadClears k⟩).setHeld q k 0 :=
  rfl

/-- COUNTER_LOAD_WRITE requests the load and returns the holding register to 0 (R48). -/
theorem counterLoadWrite_spec {s : State} {q : Req} {a v : Word} (h : s.ReachesCounter q a.toNat)
    (hok : s.access q (a.toNat + 4) true = .ok) (hv : v &&& 0x7FFF0000 = 0) :
    s.Does (.counterLoadWrite q (a + 4) v) fun t =>
      tblGet (fun _ => none) t.ctrLoad a.toNat =
        some ⟨s.ctrHeld q a.toNat % 2 ^ 32 + v.toNat % 2 ^ 16 * 2 ^ 32, v.getLsbD 31 || s.loadClears a.toNat⟩ ∧
      t.ctrHeld q a.toNat = 0 ∧
      (∀ y, y ≠ a.toNat → tblGet (fun _ => none) t.ctrLoad y = tblGet (fun _ => none) s.ctrLoad y) ∧
      (∀ y, y ≠ shadowKey q a.toNat → tblGet (fun _ => 0) t.ctrHold y = tblGet (fun _ => 0) s.ctrHold y) ∧
      t = { s with ctrHold := t.ctrHold, ctrLoad := t.ctrLoad, reply := .done } := by
  have hlow := h.active
  have haddr : (a + 4).toNat = a.toNat + 4 := by
    rw [BitVec.toNat_add]; exact Nat.mod_eq_of_lt (by simpa using by omega)
  have hreach : s.reaches q (a + 4) [.counterHi, .timeHi2] = true := by
    rw [State.reaches, haddr, h.hiKey, h.hiKind]; rfl
  have hwrite := State.busWrite_active v (by omega) (by have := h.aligned; omega) h.hiInside hok
  rw [h.hiKey, h.busEffect_hi hv, State.ctrLoadAt_eq] at hwrite
  exact ⟨_, congrArg Host.Outcome.next ((if_pos hreach).trans ((congrArg (s.busWrite q · v) haddr).trans hwrite)),
    s.setLoad_setHeld_answered ..⟩

theorem ite_clears_eq (c o : Bool) : (if c then false else o) = (!c && o) := by cases c <;> rfl

/-- COUNTER_LOAD_APPLY sets the count or the time, and clears OVF as its load says (R49, R56). -/
theorem counterLoadApply_spec {s : State} {a : Word} {l : CtrLoad}
    (hl : tblGet (fun _ => none) s.ctrLoad a.toNat = some l) (hpos : isSrcPos a.toNat = false) :
    s.Does (.counterLoadApply a) fun t =>
      tblGet (fun _ => none) t.ctrLoad a.toNat = none ∧
      (a.toNat ≠ ANG_TIME_LO →
        t.ctr a.toNat = ⟨BitVec.ofNat 48 l.value, !l.clrOvf && (s.ctr a.toNat).ovf⟩ ∧
        (∀ y, y ≠ a.toNat → t.ctr y = s.ctr y) ∧ t = { s with ctrs := t.ctrs, ctrLoad := t.ctrLoad }) ∧
      (a.toNat = ANG_TIME_LO →
        t = { s with ctrLoad := t.ctrLoad,
                     ang := { s.ang with time := BitVec.ofNat 64 l.value, timeOvf := !l.clrOvf && s.ang.timeOvf } }) := by
  have hdrop : tblGet (fun _ => none) (tblDrop s.ctrLoad a.toNat) a.toNat = none := by rw [tblGet_drop, if_pos rfl]
  by_cases htime : a.toNat = ANG_TIME_LO
  case pos =>
    have hexec : exec (.counterLoadApply a) s = .next { s with
        ctrLoad := tblDrop s.ctrLoad a.toNat
        ang := { s.ang with time := BitVec.ofNat 64 l.value, timeOvf := (if l.clrOvf then false else s.ang.timeOvf) } } := by
      show execCounterLoadApply a s = _
      rw [execCounterLoadApply, hl]
      exact congrArg Host.Outcome.next (if_pos htime)
    exact ⟨_, hexec, hdrop, fun hn => absurd htime hn, fun _ => by rw [ite_clears_eq]⟩
  case neg =>
    have hexec : exec (.counterLoadApply a) s = .next { s.setCtr a.toNat ⟨BitVec.ofNat 48 l.value,
        (if l.clrOvf then false else (s.ctr a.toNat).ovf)⟩ with ctrLoad := tblDrop s.ctrLoad a.toNat } := by
      show execCounterLoadApply a s = _
      rw [execCounterLoadApply, hl, State.ctrApply, hl]
      simp only [if_neg htime, hpos, Bool.false_eq_true, if_false]
    refine ⟨_, hexec, hdrop, fun _ => ⟨?_, fun y hy => ?_, rfl⟩, fun h => absurd h htime⟩
    · rw [← ite_clears_eq]; exact State.ctr_setCtr_same s a.toNat _
    · exact (State.ctr_setCtr s a.toNat y _).trans (if_neg hy)

/-- Settles O10: the two reads, the two writes, the load at its count edge, and a count. -/
theorem counterAccess : Obligations.CounterAccess := by
  intro s q a v k h c waits hi
  refine ⟨fun hact h4 hr hr' hk hk' hlo hhi hsrc hang => ?_, fun l hl hsrc => counterLoadApply_spec hl hsrc, fun hnone => ⟨?_, fun y hy => ?_, ?_⟩⟩
  · have hc : s.ReachesCounter q k := ⟨hact, h4, hr, hr', hk, hk', hlo, hhi, hsrc, hang⟩
    exact ⟨fun hok => counterLoRead_spec hc hok, fun hok => counterHiRead_spec hc hok,
      fun hok _ => counterHoldWrite_spec v hc hok, fun hok hv => counterLoadWrite_spec hc hok hv⟩
  · rw [State.ctr_inc s k k hnone, if_pos rfl]
  · rw [State.ctr_inc s k y hnone, if_neg hy]
  · unfold State.inc State.ctrApply
    rw [hnone]
    rfl

end Sys2Proof.Machine
end

section

/-! SUPPORT. The clause of O12 that fails: a lost clock whose lock returns (CLOCK_DOMAIN_LOCKED). -/

namespace Sys2Proof.Machine

/-- Context 0 is listed twice: its entry waits for a word, and one behind it for the end of an application. -/
def twiceListed : State :=
  { State.reset with
    ctxs := [(0, { Ctx.reset with stall := .pull 0 }), (0, { Ctx.reset with stall := .apply })] }

/-- Refutes O12: CLOCK_DOMAIN_LOCKED lets a context go on for each *entry* of the table that waits for an
application, so in a state that lists a context twice it ends the wait of one that waits for something else. -/
theorem not_clocksRailsAndPfail : ¬ Obligations.ClocksRailsAndPfail := by
  intro h
  obtain ⟨-, -, hlocked, -⟩ := h twiceListed 16 0 0
  obtain ⟨t, ht, -, -, hkept, -⟩ := hlocked
  have hstall : (twiceListed.ctx 0).stall = .pull 0 := by decide
  have hsame : t.ctx 0 = twiceListed.ctx 0 := hkept 0 (by rw [hstall]; decide)
  have hgone : exec (.clockDomainLocked 16) twiceListed = .next t → (t.ctx 0).stall = .none := by
    intro e
    cases e
    decide +kernel
  rw [hsame, hstall] at hgone
  exact absurd (hgone ht) (by decide)

end Sys2Proof.Machine

end

section

/-! SUPPORT. Packets of the chain: requests of other devices, replies to this device's requests, lost requests (R36, R129,
R147, R444, R466, R492). -/

namespace Sys2Proof.Machine

/-! ### Replies (R492) -/

/-- Does the device send no packets: in STANDBY, or as the standby of a pair (R536)? -/
def State.silent (s : State) : Bool := s.pwr.standby || s.twinStandby

/-- From `u` to `t` a request of device `d` got its reply, which is kept for a duplicate (R492). -/
def State.Replied (u t : State) (d q : Nat) (k : LeatKind) (l : List Nat) : Prop :=
  t.out = (if u.silent = true then u.out else u.out ++ [.leat k d (q :: l)]) ∧
  (⟨d, q, k, l⟩ : Served) ∈ t.leat.served ∧ (∀ x ∈ t.leat.served, x ∈ u.leat.served ∨ x = ⟨d, q, k, l⟩) ∧
  t = { u with out := t.out, leat := { u.leat with served := t.leat.served } }

theorem State.answered_eq (u : State) (d q : Nat) (k : LeatKind) (l : List Nat) :
    u.answered d q k l = { u with
      leat := { u.leat with served := (u.leat.served.filter fun x =>
        x.src != d || decide ((q + 65536 - x.seq) % 65536 < 32768)) ++ [⟨d, q, k, l⟩] }
      out := (if u.silent = true then u.out else u.out ++ [.leat k d (q :: l)]) } := by
  unfold State.answered
  cases hs : u.silent with
  | true => exact if_pos hs
  | false => exact if_neg (ne_true_of_eq_false hs)

theorem State.answered_replied (u : State) (d q : Nat) (k : LeatKind) (l : List Nat) :
    u.Replied (u.answered d q k l) d q k l := by
  rw [State.answered_eq]
  refine ⟨rfl, List.mem_append_right _ (List.mem_singleton_self _), fun x hx => ?_, rfl⟩
  rcases List.mem_append.mp hx with hx | hx
  · exact .inl (List.mem_of_mem_filter hx)
  · exact .inr (List.mem_singleton.mp hx)

/-- A packet other than HB and TWIN goes out unless the device is silent. -/
theorem State.chainSend_eq {k : LeatKind} (hb : k ≠ .hb) (ht : k ≠ .twin) (s : State) (d : Nat) (l : List Nat) :
    s.chainSend k d l = { s with out := if s.silent = true then s.out else s.out ++ [.leat k d l] } := by
  have hk : (s.pwr.standby || (s.twinStandby && k != .hb && k != .twin)) = s.silent := by
    rw [bne_iff_ne.mpr hb, bne_iff_ne.mpr ht, Bool.and_true, Bool.and_true]; rfl
  unfold State.chainSend
  rw [hk]
  split <;> rfl

/-! ### Memory requests -/

section
variable {s : State} {c : Instr} {rx : Rx} {hd : PktHead} {addr : BitVec 48} {f : State → List Nat × State}

theorem State.packet_bad {g : State → State} (hc : exec c s = .next (s.packet rx g)) (hok : rx.ok = false) :
    s.Does c fun t => t = s.inc (LP_CRC_LO rx.port.val) :=
  ⟨_, hc, by rw [State.packet, hok]; rfl⟩

theorem State.packet_ok {g : State → State} (hc : exec c s = .next (s.packet rx g)) (hok : rx.ok = true) :
    exec c s = .next (g s) := by
  rw [hc, State.packet, if_pos hok]

theorem State.served_halted {k : LeatKind} (h : s.locHalted (s.locOff (addr.toNat % 2 ^ 39)) = true) :
    s.served addr hd k f = s := if_pos h

theorem State.served_running {k : LeatKind} (h : s.locHalted (s.locOff (addr.toNat % 2 ^ 39)) = false) :
    s.served addr hd k f = s.serve hd k f := if_neg (by rw [h]; decide)

theorem State.serve_duplicate {k : LeatKind} {x : Served}
    (hx : (s.leat.served.find? fun x => x.src == hd.src.val && x.seq == hd.seq.toNat) = some x) :
    s.serve hd k f = s.chainSend x.kind x.src (x.seq :: x.args) := by
  unfold State.serve
  rw [hx]

theorem State.serve_new {k : LeatKind}
    (hx : (s.leat.served.find? fun x => x.src == hd.src.val && x.seq == hd.seq.toNat) = none) :
    s.serve hd k f = (f s).2.answered hd.src.val hd.seq.toNat k (f s).1 := by
  unfold State.serve
  rw [hx]

/-- What a memory request is, up to what it does to the memory. -/
def State.MemRequest (s : State) (c : Instr) (rx : Rx) (hd : PktHead) (addr : BitVec 48) (f : State → List Nat × State) : Prop :=
  exec c s = .next (s.packet rx fun s => s.served addr hd .mrsp f)

theorem State.MemRequest.halted (hc : s.MemRequest c rx hd addr f) (hok : rx.ok = true)
    (h : s.locHalted (s.locOff (addr.toNat % 2 ^ 39)) = true) : exec c s = .next s := by
  rw [State.packet_ok hc hok, State.served_halted h]

theorem State.MemRequest.duplicate (hc : s.MemRequest c rx hd addr f) (hok : rx.ok = true)
    (h : s.locHalted (s.locOff (addr.toNat % 2 ^ 39)) = false) {x : Served}
    (hx : (s.leat.served.find? fun x => x.src == hd.src.val && x.seq == hd.seq.toNat) = some x)
    (hb : x.kind ≠ .hb) (ht : x.kind ≠ .twin) :
    s.Does c fun t => t =
      { s with out := if s.silent = true then s.out else s.out ++ [.leat x.kind x.src (x.seq :: x.args)] } :=
  ⟨_, State.packet_ok hc hok, by rw [State.served_running h, State.serve_duplicate hx, State.chainSend_eq hb ht]⟩

/-- A request not served before gets the reply that its service gives. -/
theorem State.MemRequest.served {l : List Nat} {u : State} (hc : s.MemRequest c rx hd addr f) (hok : rx.ok = true)
    (h : s.locHalted (s.locOff (addr.toNat % 2 ^ 39)) = false)
    (hx : (s.leat.served.find? fun x => x.src == hd.src.val && x.seq == hd.seq.toNat) = none) (hf : f s = (l, u)) :
    s.Does c fun t => u.Replied t hd.src.val hd.seq.toNat .mrsp l :=
  ⟨_, State.packet_ok hc hok, by
    rw [State.served_running h, State.serve_new hx, hf]; exact State.answered_replied u _ _ _ _⟩

end

section
variable (s : State) (rx : Rx) (hd : PktHead) (addr : BitVec 48)

/-- What MRD does here. -/
def State.mrdServe (hd : PktHead) (addr : BitVec 48) (len : Nat) (s : State) : List Nat × State :=
  if !s.reached' hd then ([busNotMember], s)
  else match s.readAt (hdReq hd) .remote (s.locOff (addr.toNat % 2 ^ 39)) len with
    | (.ok l, s) => (0 :: natsOf l, s)
    | (.error e, s) => ([e], s)

/-- What MWR does here. -/
def State.mwrServe (hd : PktHead) (addr : BitVec 48) (d : List Byte) (s : State) : List Nat × State :=
  if !s.reached' hd then ([busNotMember], s)
  else let (e, s) := s.farWrite hd addr.toNat d; ([e.getD 0], s)

/-- What MAMO does at a word of memory. -/
def State.mamoWord (hd : PktHead) (addr : BitVec 48) (op o : Nat) (a b : Word) (s : State) : List Nat × State :=
  match s.amo (hdReq hd) op o a b with
  | (none, s) => ([busEcc], s)
  | (some old, s) =>
    let new : Option Word := match op with
      | 0 => some a
      | 1 => some (old + a)
      | _ => if old = a then some b else none
    let s := match new with
      | some v => s.mirror ([1] ++ hdFields hd ++ [addr.toNat] ++ natsOf (bytesOf 4 v.toNat))
      | none => s
    (0 :: natsOf (bytesOf 4 old.toNat), s)

/-- What MAMO does here. -/
def State.mamoServe (hd : PktHead) (addr : BitVec 48) (op : Nat) (a b : Word) (s : State) : List Nat × State :=
  if !s.reached' hd then ([busNotMember], s)
  else
    let loc := s.locOff (addr.toNat % 2 ^ 39)
    match loc with
    | .mem o => if !atomicAt loc then ([busRange], s) else s.mamoWord hd addr op o a b
    | .bad e => ([e], s)
    | _ => ([busRange], s)

theorem exec_mrd (len : Nat) : s.MemRequest (.mrd rx hd addr len) rx hd addr (State.mrdServe hd addr len) := rfl
theorem exec_mwr (d : List Byte) : s.MemRequest (.mwr rx hd addr d) rx hd addr (State.mwrServe hd addr d) := rfl
theorem exec_mamo (op : Fin 3) (a b : Word) :
    s.MemRequest (.mamo rx hd op addr a b) rx hd addr (State.mamoServe hd addr op.val a b) := rfl

end

section
variable {s u : State} {hd : PktHead} {addr : BitVec 48}

theorem State.mrdServe_away {len : Nat} (h : s.reached' hd = false) : s.mrdServe hd addr len = ([busNotMember], s) := by
  rw [State.mrdServe, h]; rfl

theorem State.mwrServe_away {d : List Byte} (h : s.reached' hd = false) : s.mwrServe hd addr d = ([busNotMember], s) := by
  rw [State.mwrServe, h]; rfl

theorem State.mamoServe_away {op : Nat} {a b : Word} (h : s.reached' hd = false) :
    s.mamoServe hd addr op a b = ([busNotMember], s) := by
  rw [State.mamoServe, h]; rfl

theorem State.mrdServe_ok {len : Nat} {l : List Byte} (h : s.reached' hd = true)
    (hl : s.readAt (hdReq hd) .remote (s.locOff (addr.toNat % 2 ^ 39)) len = (.ok l, u)) :
    s.mrdServe hd addr len = (0 :: natsOf l, u) := by
  rw [State.mrdServe, h, hl]; rfl

theorem State.mrdServe_error {len e : Nat} (h : s.reached' hd = true)
    (hl : s.readAt (hdReq hd) .remote (s.locOff (addr.toNat % 2 ^ 39)) len = (.error e, u)) :
    s.mrdServe hd addr len = ([e], u) := by
  rw [State.mrdServe, h, hl]; rfl

theorem State.mwrServe_here {d : List Byte} {e : Option Nat} (h : s.reached' hd = true)
    (hw : s.writeAt (hdReq hd) .remote (s.locOff (addr.toNat % 2 ^ 39)) d = (e, u)) :
    s.mwrServe hd addr d = ([e.getD 0], u.mirror ([1] ++ hdFields hd ++ [addr.toNat] ++ natsOf d)) := by
  rw [State.mwrServe, h, State.farWrite, hw]; rfl

theorem State.mamoServe_bad {op e : Nat} {a b : Word} (h : s.reached' hd = true)
    (hl : s.locOff (addr.toNat % 2 ^ 39) = .bad e) : s.mamoServe hd addr op a b = ([e], s) := by
  rw [State.mamoServe, h, hl]; rfl

/-- Only a word of memory can be changed by an atomic operation. -/
theorem State.mamoServe_range {op : Nat} {a b : Word} (h : s.reached' hd = true)
    (ha : atomicAt (s.locOff (addr.toNat % 2 ^ 39)) = false) (hl : ∀ e, s.locOff (addr.toNat % 2 ^ 39) ≠ .bad e) :
    s.mamoServe hd addr op a b = ([busRange], s) := by
  rw [State.mamoServe, h]
  dsimp only [Bool.not_true, Bool.false_eq_true, if_false]
  cases hloc : s.locOff (addr.toNat % 2 ^ 39) with
  | bad e => exact absurd hloc (hl e)
  | mem o => rw [hloc] at ha; dsimp only; rw [ha]; rfl
  | _ => rfl

theorem State.mamoServe_word {op o : Nat} {a b : Word} (h : s.reached' hd = true)
    (hl : s.locOff (addr.toNat % 2 ^ 39) = .mem o) (ha : atomicAt (s.locOff (addr.toNat % 2 ^ 39)) = true) :
    s.mamoServe hd addr op a b = s.mamoWord hd addr op o a b := by
  rw [hl] at ha
  rw [State.mamoServe, h, hl]
  dsimp only [Bool.not_true, Bool.false_eq_true, if_false]
  rw [ha]; rfl

theorem State.mamoWord_ecc {op o : Nat} {a b : Word} (h : s.amo (hdReq hd) op o a b = (none, u)) :
    s.mamoWord hd addr op o a b = ([busEcc], u) := by
  rw [State.mamoWord, h]

/-- What the atomic operation stored is sent to the standby. -/
theorem State.mamoWord_done {op : Fin 3} {o : Nat} {a b old : Word} (h : s.amo (hdReq hd) op.val o a b = (some old, u)) :
    let stores := fun (v : Word) => u.mirror ([1] ++ hdFields hd ++ [addr.toNat] ++ natsOf (bytesOf 4 v.toNat))
    s.mamoWord hd addr op.val o a b = (0 :: natsOf (bytesOf 4 old.toNat),
      if op.val = 0 then stores a else if op.val = 1 then stores (old + a) else if old = a then stores b else u) := by
  intro stores
  rw [State.mamoWord, h]
  match op with
  | 0 => rfl
  | 1 => rfl
  | 2 =>
    by_cases he : old = a
    · simp only [he, if_true]; rfl
    · simp only [he, if_false]; rfl

end

/-! ### Unit operations of other devices (R36, R153, R444) -/

/-- The device reports a leaf that does not take a request. -/
def State.tellLeaf (h : HeldUop) (s : State) (x : Word) : State :=
  match s.farLeafFault h.hd x with
  | some f => s.chainSend .ursp h.hd.src.val [h.hd.seq.toNat, 2, hdCode h.hd, h.hd.gen.toNat, x.toNat, f]
  | none => s

/-- The same report, of a leaf that is judged in the state `s`. -/
def State.reportLeaf (s : State) (h : HeldUop) (u : State) (x : Word) : State :=
  match s.farLeafFault h.hd x with
  | some f => if s.silent = true then u
    else { u with out := u.out ++ [.leat .ursp h.hd.src.val [h.hd.seq.toNat, 2, hdCode h.hd, h.hd.gen.toNat, x.toNat, f]] }
  | none => u

theorem State.reportLeaf_out (s : State) (h : HeldUop) (o : List OutMsg) (x : Word) :
    ∃ o', s.reportLeaf h { s with out := o } x = { s with out := o' } := by
  unfold State.reportLeaf
  split
  · split
    · exact ⟨o, rfl⟩
    · exact ⟨_, rfl⟩
  · exact ⟨o, rfl⟩

/-- Whether a leaf takes a request does not depend on what has been sent. -/
theorem State.tellLeaf_eq (s : State) (h : HeldUop) (o : List OutMsg) (x : Word) :
    State.tellLeaf h { s with out := o } x = s.reportLeaf h { s with out := o } x := by
  have hsame : State.farLeafFault { s with out := o } h.hd x = s.farLeafFault h.hd x := rfl
  unfold State.tellLeaf State.reportLeaf
  rw [hsame]
  cases s.farLeafFault h.hd x with
  | none => rfl
  | some f =>
    dsimp only
    rw [State.chainSend_eq (by decide) (by decide), show State.silent { s with out := o } = s.silent from rfl]
    split <;> rfl

/-- So each leaf is judged in the state before all reports. -/
theorem State.tellLeaves_eq (s : State) (h : HeldUop) (l : List Word) :
    l.foldl (State.tellLeaf h) s = l.foldl (s.reportLeaf h) s := by
  have hout (l : List Word) : ∀ o, l.foldl (State.tellLeaf h) { s with out := o } = l.foldl (s.reportLeaf h) { s with out := o } := by
    induction l with
    | nil => exact fun _ => rfl
    | cons x l ih =>
      intro o
      obtain ⟨o', ho⟩ := s.reportLeaf_out h o x
      rw [List.foldl_cons, List.foldl_cons, s.tellLeaf_eq, ho, ih]
  exact hout l s.out

/-- The device reports the leaves that do not take a request. -/
def State.tellLeaves (s : State) (h : HeldUop) : State := h.leaves.foldl (State.tellLeaf h) s

theorem State.uopPerform_urd {s : State} {h : HeldUop} {k : BitVec 4} {off : BitVec 12} {comb : BitVec 3} {l : List Word} {u : State}
    (hr : h.r = .urd k off comb)
    (hl : (s.tellLeaves h).readUnits .remote off.toNat ((h.ops s).map fun o => (o.kind, o.index)) = (l, u)) :
    s.uopPerform h = u.answered h.hd.src.val h.hd.seq.toNat .ursp
      (if l = [] then [0, 0] else [0, 1, (combine comb.toNat l).toNat]) := by
  have he : s.uopPerform h =
      (match (s.tellLeaves h).readUnits .remote off.toNat ((h.ops s).map fun o => (o.kind, o.index)) with
      | (l, u) => u.answered h.hd.src.val h.hd.seq.toNat .ursp (if l = [] then [0, 0] else [0, 1, (combine comb.toNat l).toNat])) := by
    rw [State.uopPerform, hr]; rfl
  rw [he, hl]

theorem State.uopPerform_other {s : State} {h : HeldUop} (hr : ∀ k off comb, h.r ≠ .urd k off comb) :
    s.uopPerform h = (((s.tellLeaves h).handAll (h.ops s) h.st.isSome).2).answered h.hd.src.val h.hd.seq.toNat .ursp [1] := by
  rw [State.uopPerform, State.tellLeaves]
  cases hh : h.r with
  | urd k off comb => exact absurd hh (hr k off comb)
  | _ => rfl

/-! What a tile's wakeup leaves alone: the chain's state, the stamped queue, the memory, what is sent. -/

/-- The parts of the state that a request which waits does not touch. -/
def State.queues (s : State) : Leat × List StOp × Mem × List OutMsg := (s.leat, s.stq, s.mem, s.out)

theorem foldl_keeps {α β : Type} {p : State → β} {f : State → α → State} (hf : ∀ s x, p (f s x) = p s) (l : List α) (s : State) :
    p (l.foldl f s) = p s := by
  induction l generalizing s with
  | nil => rfl
  | cons x l ih => rw [List.foldl_cons, ih, hf]

theorem State.queues_dacFollow (s : State) (l m o : Nat) : (s.dacFollow l m o).queues = s.queues := by
  unfold State.dacFollow
  extract_lets c d
  split <;> rfl

theorem State.queues_setF (s : State) (a : Nat) (f : Field) (x : Nat) : (s.setF a f x).queues = s.queues := rfl

theorem State.queues_put (s : State) (a : Nat) (v : Word) : (s.put a v).queues = s.queues := rfl
theorem State.queues_occur (s : State) (n : Nat) : (s.occur n).queues = s.queues := rfl

theorem State.queues_refreshCell (s : State) (u : Nat) : (s.refreshCell u).queues = s.queues := by
  unfold State.refreshCell
  exact foldl_keeps (p := State.queues) (fun t m => (State.queues_setF _ _ _ _).trans (t.queues_dacFollow _ m _)) _ s

theorem State.queues_setTileState (s : State) (t x : Nat) : (s.setTileState t x).queues = s.queues := by
  unfold State.setTileState
  split
  · rfl
  · exact (State.queues_occur _ _).trans
      ((foldl_keeps (p := State.queues) (fun u k => u.queues_refreshCell (32 * t + k)) _ _).trans (State.queues_put _ _ _))

theorem State.queues_inc (s : State) (a : Nat) : (s.inc a).queues = s.queues := by
  unfold State.inc State.ctrApply
  split <;> rfl

theorem State.queues_wakeAdd (s : State) (rank k : Nat) : (s.wakeAdd rank k).queues = s.queues := by
  unfold State.wakeAdd
  split
  · rfl
  · dsimp only
    split
    · rfl
    · exact State.queues_inc _ _

theorem State.queues_tileWake (s : State) (t : Nat) : (s.tileWake t).queues = s.queues := by
  unfold State.tileWake
  split
  · exact (State.queues_setTileState _ _ _).trans (State.queues_wakeAdd _ _ _)
  · exact (State.queues_setTileState _ _ _).trans (State.queues_wakeAdd _ _ _)
  · rfl

section
variable {s : State} {rx : Rx} {hd : PktHead} {r : UnitReq} {leaves : List Word} {st : Option (Stamp × BitVec 2)}

/-- What UOP does here. -/
def State.uopServe (hd : PktHead) (r : UnitReq) (leaves : List Word) (st : Option (Stamp × BitVec 2)) (s : State) : State :=
  match s.leat.served.find? fun x => x.src == hd.src.val && x.seq == hd.seq.toNat with
  | some x => s.chainSend x.kind x.src (x.seq :: x.args)
  | none => if s.leat.uops.any fun h => h.hd.src == hd.src && h.hd.seq == hd.seq then s else s.uopArrive hd r leaves st

theorem exec_uop : exec (.uop rx hd r leaves st) s = .next (s.packet rx (State.uopServe hd r leaves st)) := rfl

/-- A request as it is kept while it waits. -/
def heldOf (hd : PktHead) (r : UnitReq) (leaves : List Word) (st : Option (Stamp × BitVec 2)) : HeldUop :=
  ⟨hd, r, leaves, st.map fun x => (x.1, qualOf x.2.toNat)⟩

/-- The standby is sent a request that arrives. -/
def State.uopTaken (s : State) (h : HeldUop) : State := s.mirror ([2] ++ hdFields h.hd ++ uopArgs h.r h.st h.leaves s.dev)

theorem State.uopServe_duplicate {x : Served}
    (hx : (s.leat.served.find? fun x => x.src == hd.src.val && x.seq == hd.seq.toNat) = some x) :
    s.uopServe hd r leaves st = s.chainSend x.kind x.src (x.seq :: x.args) := by
  rw [State.uopServe, hx]

variable (hx : (s.leat.served.find? fun x => x.src == hd.src.val && x.seq == hd.seq.toNat) = none)
include hx

theorem State.uopServe_held (hh : (s.leat.uops.any fun y => y.hd.src == hd.src && y.hd.seq == hd.seq) = true) :
    s.uopServe hd r leaves st = s := by
  rw [State.uopServe, hx]
  exact if_pos hh

theorem State.uopServe_new (hh : (s.leat.uops.any fun y => y.hd.src == hd.src && y.hd.seq == hd.seq) = false) :
    s.uopServe hd r leaves st = s.uopArrive hd r leaves st := by
  rw [State.uopServe, hx]
  exact if_neg (ne_true_of_eq_false hh)

end

theorem State.uopArrive_waits {s : State} {hd : PktHead} {r : UnitReq} {leaves : List Word} {st : Option (Stamp × BitVec 2)}
    (hw : (heldOf hd r leaves st).waits (s.uopTaken (heldOf hd r leaves st)) = true) :
    (s.uopArrive hd r leaves st).queues =
      State.queues { s.uopTaken (heldOf hd r leaves st) with leat := { (s.uopTaken (heldOf hd r leaves st)).leat with
        uops := (s.uopTaken (heldOf hd r leaves st)).leat.uops ++ [heldOf hd r leaves st] } } := by
  have he : s.uopArrive hd r leaves st = ((heldOf hd r leaves st).asleep (s.uopTaken (heldOf hd r leaves st))).foldl
      (fun s t => s.tileWake t) { s.uopTaken (heldOf hd r leaves st) with leat := { (s.uopTaken (heldOf hd r leaves st)).leat with
        uops := (s.uopTaken (heldOf hd r leaves st)).leat.uops ++ [heldOf hd r leaves st] } } := if_pos hw
  rw [he]
  exact foldl_keeps (p := State.queues) State.queues_tileWake _ _

theorem State.uopArrive_goes {s : State} {hd : PktHead} {r : UnitReq} {leaves : List Word} {st : Option (Stamp × BitVec 2)}
    (hw : (heldOf hd r leaves st).waits (s.uopTaken (heldOf hd r leaves st)) = false) :
    s.uopArrive hd r leaves st = (s.uopTaken (heldOf hd r leaves st)).uopPerform (heldOf hd r leaves st) :=
  if_neg (ne_true_of_eq_false hw)


/-! ### Replies and lost requests (R129, R133, R147, R466, R492, R524) -/

theorem State.ctx_reqEnd (s : State) (x : LReq) (c : Nat) : (s.reqEnd x).ctx c = s.ctx c := rfl

theorem State.memAnswer_load {s : State} {x : LReq} {c ad sub : Nat} {f : MemOp} {far : Bool} {d : List Byte} (hw : x.who = .load c)
    (hs : (s.ctx c).stall = .mem f far ad none) :
    s.memAnswer x sub d = (s.reqEnd x).setCtx c { s.ctx c with stall := .mem f far ad (some ⟨sub, d⟩) } := by
  unfold State.memAnswer
  rw [hw]
  dsimp only
  rw [State.ctx_reqEnd, hs]

/-- A store's address leaves those under way. -/
def State.storeEnds (s : State) (x : LReq) (c ad : Nat) : State :=
  (s.reqEnd x).setCtx c { s.ctx c with farOut := (s.ctx c).farOut.erase ad }

theorem State.memAnswer_store {s : State} {x : LReq} {c ad sub : Nat} {d : List Byte} (hw : x.who = .store c ad) :
    s.memAnswer x sub d = if sub = 0 then s.storeEnds x c ad else (s.storeEnds x c ad).storeFail c ad sub := by
  unfold State.memAnswer
  rw [hw]
  rfl

/-- A context after a posted store of its has failed: the first failure is kept, of others PSERR (R129). -/
def Ctx.storeFailed (x : Ctx) (ad sub : Nat) : Ctx :=
  if x.postFail = none then { x with postFail := some (ad, sub) } else { x with pserr := true }

theorem State.storeFail_eq (s : State) (c ad sub : Nat) : s.storeFail c ad sub = s.setCtx c ((s.ctx c).storeFailed ad sub) := by
  unfold State.storeFail Ctx.storeFailed
  dsimp only
  cases hp : (s.ctx c).postFail with
  | none => rfl
  | some p => rfl

theorem State.storeEnds_fail (s : State) (x : LReq) (c ad sub : Nat) :
    (s.reqEnd x).Becomes ((s.storeEnds x c ad).storeFail c ad sub) c
      (Ctx.storeFailed { s.ctx c with farOut := (s.ctx c).farOut.erase ad } ad sub) := by
  rw [State.storeFail_eq, State.storeEnds, State.ctx_setCtx_same]
  exact (State.becomes_setCtx _ _ _).again _

theorem State.memAnswer_burst {s : State} {x : LReq} {e sub : Nat} {d : List Byte} (hw : x.who = .burst e) :
    s.memAnswer x sub d = (s.reqEnd x).burstAnswer e sub d := by
  unfold State.memAnswer
  rw [hw]

/-- The unit fault that a context is told of is the first; of others MORE (R466). -/
def State.ReportsFault (u t : State) (i gen leaf sub : Nat) : Prop :=
  (256 ≤ i ∨ u.genOf i ≠ gen → t = u) ∧
  (i < 256 → u.genOf i = gen → u.bit (IRQ_UF_STAT i) IRQ_UF_STAT_VALID = true →
    t.bit (IRQ_UF_STAT i) IRQ_UF_STAT_MORE = true ∧ u.RegsBut t [IRQ_UF_STAT i] ∧ t = { u with regs := t.regs }) ∧
  (i < 256 → u.genOf i = gen → u.bit (IRQ_UF_STAT i) IRQ_UF_STAT_VALID = false →
    t.bit (IRQ_UF_STAT i) IRQ_UF_STAT_VALID = true ∧ t.fld (IRQ_UF_STAT i) IRQ_UF_STAT_SUB = sub % 256 ∧
    t.fld (IRQ_UF_STAT i) IRQ_UF_STAT_GEN = gen % 256 ∧ t.reg (IRQ_UF_UNIT i) = BitVec.ofNat 32 leaf ∧
    u.RegsBut t [IRQ_UF_STAT i, IRQ_UF_UNIT i] ∧ t = { u with regs := t.regs })

theorem irqUfStat_ne_unit (i : Nat) : IRQ_UF_STAT i ≠ IRQ_UF_UNIT i := by
  unfold IRQ_UF_STAT IRQ_UF_UNIT
  omega

theorem fieldWidth_pos {f : Field} (h : f.ok = true) : 0 < fieldWidth f := by
  simp only [Field.ok, Bool.and_eq_true, decide_eq_true_eq] at h
  exact Nat.sub_pos_of_lt (Nat.lt_succ_of_le h.1)

theorem State.bit_setF_one (s : State) (a : Nat) {f : Field} (h : f.ok = true) : (s.setF a f 1).bit a f = true := by
  rw [State.bit_fld, State.fld_setF_same s a f 1 h, Nat.mod_eq_of_lt (Nat.one_lt_two_pow (fieldWidth_pos h).ne')]
  rfl

/-- The state after the first fault is reported. -/
def State.faultShown (u : State) (i gen leaf sub : Nat) : State :=
  (((u.put (IRQ_UF_UNIT i) (BitVec.ofNat 32 leaf)).setF (IRQ_UF_STAT i) IRQ_UF_STAT_VALID 1).setF
    (IRQ_UF_STAT i) IRQ_UF_STAT_SUB sub).setF (IRQ_UF_STAT i) IRQ_UF_STAT_GEN gen

theorem State.unitReport_reports (u : State) (i gen leaf sub : Nat) : u.ReportsFault (u.unitReport i gen leaf sub) i gen leaf sub := by
  refine ⟨fun h => by rw [State.unitReport, if_pos h], fun hi hg hv => ?_, fun hi hg hv => ?_⟩
  · have he : u.unitReport i gen leaf sub = u.setF (IRQ_UF_STAT i) IRQ_UF_STAT_MORE 1 := by
      unfold State.unitReport
      rw [if_neg (by omega), if_pos hv, State.setF_flag]
    rw [he]
    exact ⟨State.bit_setF_one u _ (by decide), fun a ha => State.reg_setF_other u _ a _ _ (by simpa using ha), rfl⟩
  · have he : u.unitReport i gen leaf sub = u.faultShown i gen leaf sub := by
      unfold State.unitReport
      rw [if_neg (by omega), if_neg (ne_true_of_eq_false hv)]
      rfl
    rw [he]
    unfold State.faultShown
    refine ⟨?_, ?_, State.fld_setF_same _ _ _ _ (by decide), ?_, fun a ha => ?_, rfl⟩
    · rw [State.bit_fld, State.fld_setF_apart _ _ _ _ _ (by decide) (by decide),
        State.fld_setF_apart _ _ _ _ _ (by decide) (by decide)]
      exact State.bit_setF_one _ _ (by decide)
    · rw [State.fld_setF_apart _ _ _ _ _ (by decide) (by decide)]
      exact State.fld_setF_same _ _ _ _ (by decide)
    · have hne := (irqUfStat_ne_unit i).symm
      rw [State.reg_setF_other _ _ _ _ _ hne, State.reg_setF_other _ _ _ _ _ hne, State.reg_setF_other _ _ _ _ _ hne,
        State.reg_put_same]
    · obtain ⟨hs, hu⟩ : a ≠ IRQ_UF_STAT i ∧ a ≠ IRQ_UF_UNIT i := by simpa using ha
      rw [State.reg_setF_other _ _ _ _ _ hs, State.reg_setF_other _ _ _ _ _ hs, State.reg_setF_other _ _ _ _ _ hs,
        State.reg_put_other _ _ _ _ hu]

theorem State.unitAnswer_unit {s : State} {x : LReq} {c g lf : Nat} {v : Option Word} (hw : x.who = .unit c g lf) :
    s.unitAnswer x v = (s.reqEnd x).setCtx c { s.ctx c with unitOut := (s.ctx c).unitOut - 1 } := by
  unfold State.unitAnswer
  rw [hw]
  rfl

/-- The last value of a URD completes it. -/
theorem State.unitAnswer_urd {s u : State} {x : LReq} {c comb hn : Nat} {rd : Nat} {v w : Word} {vals : List (Nat × Word)}
    {left : List (Nat × Nat × Word)} (hw : x.who = .urd c) (hs : (s.ctx c).stall = .urd rd comb hn vals left)
    (hl : left.map (·.1) = [x.dst])
    (hv : (s.reqEnd x).urdValue comb (vals ++ left.map fun y => (y.2.1, v)) = (w, u)) :
    s.unitAnswer x (some v) = (u.setCtx c ((u.ctx c).rset rd w)).finish c := by
  obtain ⟨y, rfl, hy⟩ := List.map_eq_singleton_iff.mp hl
  have hfind : [y].find? (fun (z : Nat × Nat × Word) => z.1 == x.dst) = some y := by
    rw [List.find?_cons_of_pos (by rw [hy]; exact beq_self_eq_true _)]
  have hleft : [y].filter (fun (z : Nat × Nat × Word) => z.1 != x.dst) = [] := by
    rw [List.filter_cons_of_neg (by rw [hy]; simp)]; rfl
  unfold State.unitAnswer
  rw [hw]
  dsimp only
  unfold State.urdAnswer
  rw [State.ctx_reqEnd, hs]
  dsimp only
  rw [hfind, hleft, if_pos rfl]
  have hv' : (s.reqEnd x).urdValue comb (vals ++ [(y.2.1, v)]) = (w, u) := hv
  rw [hv']

theorem State.chainSend_of_notStandby {s : State} (h : s.twinStandby = false) (k : LeatKind) (d : Nat) (l : List Nat) :
    s.chainSend k d l = { s with out := if s.pwr.standby then s.out else s.out ++ [.leat k d l] } := by
  unfold State.chainSend
  rw [h, Bool.false_and, Bool.false_and, Bool.or_false]
  split <;> rfl

/-- MRSP and URSP take the open request they answer. -/
def State.mrspTaken (src q : Nat) (sub : Nat) (d : List Byte) (s : State) : State :=
  match s.openReq src q with
  | some r => (s.memAnswer r sub d).mirror ([3, r.issuer, r.gen, sub] ++ natsOf d)
  | none => s

def State.urspTaken (hd : PktHead) (m : UrspMsg) (s : State) : State :=
  match m with
  | .fault u sub =>
    (s.unitReport (hdCode hd) hd.gen.toNat u.toNat sub.toNat).mirror ([5, hdCode hd, hd.gen.toNat] ++ ursFields m)
  | _ =>
    match s.openReq hd.src.val hd.seq.toNat with
    | some r => (s.unitAnswer r (match m with | .value v => v | _ => none)).mirror ([5, r.issuer, r.gen] ++ ursFields m)
    | none => s

section
variable {s : State} {rx : Rx} {hd : PktHead}

theorem exec_mrsp (sub : Byte) (d : List Byte) :
    exec (.mrsp rx hd sub d) s = .next (s.packet rx (State.mrspTaken hd.src.val hd.seq.toNat sub.toNat d)) := rfl

theorem exec_ursp (m : UrspMsg) : exec (.ursp rx hd m) s = .next (s.packet rx (State.urspTaken hd m)) := rfl

theorem State.mrspTaken_none {src q sub : Nat} {d : List Byte} (h : s.openReq src q = none) : s.mrspTaken src q sub d = s := by
  rw [State.mrspTaken, h]

theorem State.mrspTaken_some {src q sub : Nat} {d : List Byte} {x : LReq} (h : s.openReq src q = some x) :
    s.mrspTaken src q sub d = (s.memAnswer x sub d).mirror ([3, x.args.getD 1 0, x.args.getD 2 0, sub] ++ natsOf d) := by
  rw [State.mrspTaken, h]; rfl

theorem State.urspTaken_none {m : UrspMsg} (h : s.openReq hd.src.val hd.seq.toNat = none) (hm : ∀ u f, m ≠ .fault u f) :
    s.urspTaken hd m = s := by
  cases m with
  | fault u f => exact absurd rfl (hm u f)
  | _ => unfold State.urspTaken; dsimp only; rw [h]

theorem State.urspTaken_ack {x : LReq} (h : s.openReq hd.src.val hd.seq.toNat = some x) :
    s.urspTaken hd .ack = (s.unitAnswer x none).mirror ([5, x.args.getD 1 0, x.args.getD 2 0] ++ [1]) := by
  unfold State.urspTaken; dsimp only; rw [h]; rfl

theorem State.urspTaken_value {x : LReq} {v : Word} (h : s.openReq hd.src.val hd.seq.toNat = some x) :
    s.urspTaken hd (.value (some v)) =
      (s.unitAnswer x (some v)).mirror ([5, x.args.getD 1 0, x.args.getD 2 0] ++ [0, 1, v.toNat]) := by
  unfold State.urspTaken; dsimp only; rw [h]; rfl

/-- The fault of a leaf is reported to the context that the header names. -/
theorem exec_ursp_fault (hok : rx.ok = true) (u : Word) (f : Byte) :
    ∃ t, exec (.ursp rx hd (.fault u f)) s = .next (t.mirror ([5, hdCode hd, hd.gen.toNat] ++ [2, u.toNat, f.toNat])) ∧
      s.ReportsFault t (hdCode hd) hd.gen.toNat u.toNat f.toNat :=
  ⟨s.unitReport (hdCode hd) hd.gen.toNat u.toNat f.toNat, State.packet_ok (exec_ursp _) hok, s.unitReport_reports _ _ _ _⟩

end

section
variable {s : State} {dst : Fin 512} {seq : BitVec 16}

theorem exec_packetRetry_none (h : s.openReq dst.val seq.toNat = none) : exec (.packetRetry dst seq) s = .next s := by
  show execPacketRetry dst seq s = _
  rw [execPacketRetry, h]

theorem exec_packetTimeout_none (h : s.openReq dst.val seq.toNat = none) : exec (.packetTimeout dst seq) s = .next s := by
  show execPacketTimeout dst seq s = _
  rw [execPacketTimeout, h]

variable {x : LReq} (hx : s.openReq dst.val seq.toNat = some x)
include hx

theorem exec_packetRetry_silent (h : s.twinStandby = true ∨ 5 ≤ x.sends) : exec (.packetRetry dst seq) s = .next s := by
  show execPacketRetry dst seq s = _
  rw [execPacketRetry, hx]
  exact congrArg Host.Outcome.next (if_pos (by simpa using h))

/-- A further send of a request is counted. -/
def State.sendCounted (s : State) (x : LReq) : State :=
  { s with leat := { s.leat with reqs := s.leat.reqs.map fun y => if y = x then { y with sends := y.sends + 1 } else y } }

/-- A request is sent again as it was sent. -/
def State.resent (s : State) (x : LReq) : State :=
  { s with
    out := (if s.pwr.standby then s.out else s.out ++ [.leat x.kind x.dst x.args])
    leat := { s.leat with reqs := s.leat.reqs.map fun y => if y = x then { y with sends := y.sends + 1 } else y } }

theorem exec_packetRetry_sends (h : s.twinStandby = false) (hn : x.sends < 5) :
    exec (.packetRetry dst seq) s = .next (s.resent x) := by
  show execPacketRetry dst seq s = _
  rw [execPacketRetry, hx]
  have hmap : s.leat.reqs.map (fun y => if y == x then { y with sends := y.sends + 1 } else y)
      = s.leat.reqs.map fun y => if y = x then { y with sends := y.sends + 1 } else y := by simp only [beq_iff_eq]
  dsimp only
  rw [if_neg (by simpa [h] using hn), hmap]
  exact congrArg Host.Outcome.next (State.chainSend_of_notStandby (s := State.sendCounted s x) h x.kind x.dst x.args)

theorem exec_packetTimeout_silent (h : s.twinStandby = true) : exec (.packetTimeout dst seq) s = .next s := by
  show execPacketTimeout dst seq s = _
  rw [execPacketTimeout, hx]
  exact congrArg Host.Outcome.next (if_pos h)

theorem exec_packetTimeout_lost (h : s.twinStandby = false) : exec (.packetTimeout dst seq) s = .next (s.requestLost x) := by
  show execPacketTimeout dst seq s = _
  rw [execPacketTimeout, hx]
  exact congrArg Host.Outcome.next (if_neg (ne_true_of_eq_false h))

end

theorem State.requestLost_mem {s : State} {x : LReq}
    (h : (∃ c, x.who = .load c) ∨ (∃ c ad, x.who = .store c ad) ∨ ∃ e, x.who = .burst e) :
    s.requestLost x = s.memAnswer x busLinkLost [] := by
  unfold State.requestLost
  rcases h with ⟨c, h⟩ | ⟨c, ad, h⟩ | ⟨e, h⟩ <;> rw [h]

theorem State.requestLost_unit {s : State} {x : LReq} {c g lf : Nat} (h : x.who = .unit c g lf) :
    s.requestLost x =
      ((s.reqEnd x).setCtx c { s.ctx c with unitOut := (s.ctx c).unitOut - 1 }).unitReport c g lf ufLinkLost := by
  unfold State.requestLost
  rw [h]
  rfl

theorem State.requestLost_urd {s : State} {x : LReq} {c comb hn rd : Nat} {vals : List (Nat × Word)}
    {left : List (Nat × Nat × Word)} {y : Nat × Nat × Word} (h : x.who = .urd c)
    (hs : (s.ctx c).stall = .urd rd comb hn vals left) (hy : left.find? (fun z => z.1 == x.dst) = some y) :
    s.requestLost x =
      { s with leat := { s.leat with reqs := s.leat.reqs.filter fun z => z.who != Waiter.urd c } }.waitTrap c
        ⟨trUnit, ufLinkLost, false, some (BitVec.ofNat 64 (hn * 2 ^ 32 + y.2.2.toNat))⟩ := by
  have hctx : State.ctx { s with leat := { s.leat with reqs := s.leat.reqs.filter fun z => z.who != Waiter.urd c } } c = s.ctx c := rfl
  unfold State.requestLost
  rw [h]
  dsimp only
  rw [hctx, hs]
  dsimp only
  rw [hy]


/-! ### The statement -/

section
variable {s : State} {rx : Rx} {hd : PktHead} {addr : BitVec 48} {op : Fin 3} {a b : Word} {o : Nat}

/-- MAMO at a word of memory, by its outcome. -/
theorem exec_mamo_word (hok : rx.ok = true) (hl : s.locHalted (s.locOff (addr.toNat % 2 ^ 39)) = false)
    (hx : (s.leat.served.find? fun x => x.src == hd.src.val && x.seq == hd.seq.toNat) = none) (hr : s.reached' hd = true)
    (hm : s.locOff (addr.toNat % 2 ^ 39) = .mem o) (ha : atomicAt (s.locOff (addr.toNat % 2 ^ 39)) = true) :
    (∀ u, s.amo (hdReq hd) op.val o a b = (none, u) →
      s.Does (.mamo rx hd op addr a b) fun t => u.Replied t hd.src.val hd.seq.toNat .mrsp [busEcc]) ∧
    (∀ old u, s.amo (hdReq hd) op.val o a b = (some old, u) →
      let stores := fun (v : Word) => u.mirror ([1] ++ hdFields hd ++ [addr.toNat] ++ natsOf (bytesOf 4 v.toNat))
      s.Does (.mamo rx hd op addr a b) fun t =>
        (if op.val = 0 then stores a else if op.val = 1 then stores (old + a) else if old = a then stores b else u).Replied
          t hd.src.val hd.seq.toNat .mrsp (0 :: natsOf (bytesOf 4 old.toNat))) :=
  have hc := exec_mamo s rx hd addr op a b
  ⟨fun _ hu => hc.served hok hl hx ((State.mamoServe_word hr hm ha).trans (State.mamoWord_ecc hu)),
    fun _ _ hu => hc.served hok hl hx ((State.mamoServe_word hr hm ha).trans (State.mamoWord_done hu))⟩

end

section
variable {s : State} {rx : Rx} {hd : PktHead} {r : UnitReq} {leaves : List Word} {st : Option (Stamp × BitVec 2)}
  (hok : rx.ok = true) (hx : (s.leat.served.find? fun x => x.src == hd.src.val && x.seq == hd.seq.toNat) = none)
include hok hx

theorem exec_uop_held (hh : (s.leat.uops.any fun y => y.hd.src == hd.src && y.hd.seq == hd.seq) = true) :
    exec (.uop rx hd r leaves st) s = .next s := by
  rw [State.packet_ok exec_uop hok, State.uopServe_held hx hh]

theorem exec_uop_arrives (hh : (s.leat.uops.any fun y => y.hd.src == hd.src && y.hd.seq == hd.seq) = false) :
    exec (.uop rx hd r leaves st) s = .next (s.uopArrive hd r leaves st) := by
  rw [State.packet_ok exec_uop hok, State.uopServe_new hx hh]

end

/-- A request that is not the read of units is handed on and acknowledged. -/
theorem State.uopArrive_handed {s : State} {hd : PktHead} {r : UnitReq} {leaves : List Word} {st : Option (Stamp × BitVec 2)}
    (hw : (heldOf hd r leaves st).waits (s.uopTaken (heldOf hd r leaves st)) = false) (hr : ∀ k off comb, r ≠ .urd k off comb) :
    (((s.uopTaken (heldOf hd r leaves st)).tellLeaves (heldOf hd r leaves st)).handAll
      ((heldOf hd r leaves st).ops (s.uopTaken (heldOf hd r leaves st))) st.isSome).2.Replied
      (s.uopArrive hd r leaves st) hd.src.val hd.seq.toNat .ursp [1] := by
  rw [State.uopArrive_goes hw, State.uopPerform_other (h := heldOf hd r leaves st) hr,
    show (heldOf hd r leaves st).st.isSome = st.isSome from Option.isSome_map]
  exact State.answered_replied _ _ _ _ _

/-- A read of units is answered with what the leaves that took it gave. -/
theorem State.uopArrive_read {s u : State} {hd : PktHead} {k : BitVec 4} {off : BitVec 12} {comb : BitVec 3} {leaves : List Word}
    {st : Option (Stamp × BitVec 2)} {l : List Word}
    (hw : (heldOf hd (.urd k off comb) leaves st).waits (s.uopTaken (heldOf hd (.urd k off comb) leaves st)) = false)
    (hl : ((s.uopTaken (heldOf hd (.urd k off comb) leaves st)).tellLeaves (heldOf hd (.urd k off comb) leaves st)).readUnits
      .remote off.toNat (((heldOf hd (.urd k off comb) leaves st).ops (s.uopTaken (heldOf hd (.urd k off comb) leaves st))).map
        fun o => (o.kind, o.index)) = (l, u)) :
    u.Replied (s.uopArrive hd (.urd k off comb) leaves st) hd.src.val hd.seq.toNat .ursp
      (if l = [] then [0, 0] else [0, 1, (combine comb.toNat l).toNat]) := by
  rw [State.uopArrive_goes hw, State.uopPerform_urd (h := heldOf hd (.urd k off comb) leaves st) rfl hl]
  exact State.answered_replied _ _ _ _ _

/-- A posted store that is lost is reported at its context. -/
theorem State.requestLost_store {s : State} {x : LReq} {c ad : Nat} (hw : x.who = .store c ad) :
    ((s.requestLost x).ctx c).farOut = (s.ctx c).farOut.erase ad ∧ (s.requestLost x).leat = (s.reqEnd x).leat ∧
      ((s.ctx c).postFail = none → ((s.requestLost x).ctx c).postFail = some (ad, busLinkLost)) ∧
      ((s.ctx c).postFail ≠ none → ((s.requestLost x).ctx c).pserr = true) := by
  have hlost : s.requestLost x = (s.storeEnds x c ad).storeFail c ad busLinkLost := by
    rw [State.requestLost_mem (.inr (.inl ⟨c, ad, hw⟩)), State.memAnswer_store hw, if_neg (by decide)]
  obtain ⟨hctx, -, hrest⟩ := s.storeEnds_fail x c ad busLinkLost
  rw [hlost, hctx]
  refine ⟨?_, ?_, fun hp => ?_, fun hp => ?_⟩
  · unfold Ctx.storeFailed; split <;> rfl
  · rw [hrest]
  · rw [Ctx.storeFailed, if_pos hp]
  · rw [Ctx.storeFailed, if_neg hp]

/-- Settles O36: by the kinds of packet; what a memory request does, a unit operation and its wait, the replies by the
issuer of the request they answer, and the requests that are sent again or lost. -/
theorem chainPackets : Obligations.ChainPackets := by
  intro s rx hd addr len bs op a b r leaves st sub m bm xm tm dst seq
  refine ⟨?crc, ?halted, ?duplicate, ?away, ?memory, ?unit, ?unasked, ?reply, ?fault, ?noRequest, ?lost⟩
  case crc =>
    rintro hbad c (rfl | rfl | rfl | rfl | rfl | rfl | rfl | rfl | rfl) <;> exact State.packet_bad rfl hbad
  case halted =>
    rintro hok hl c (rfl | rfl | rfl)
    · exact (exec_mrd s rx hd addr len).halted hok hl
    · exact (exec_mwr s rx hd addr bs).halted hok hl
    · exact (exec_mamo s rx hd addr op a b).halted hok hl
  case duplicate =>
    rintro hok hl x hx hb ht c (rfl | rfl | rfl | rfl)
    · exact (exec_mrd s rx hd addr len).duplicate hok hl hx hb ht
    · exact (exec_mwr s rx hd addr bs).duplicate hok hl hx hb ht
    · exact (exec_mamo s rx hd addr op a b).duplicate hok hl hx hb ht
    · exact ⟨_, State.packet_ok exec_uop hok, by rw [State.uopServe_duplicate hx, State.chainSend_eq hb ht]; rfl⟩
  case away =>
    rintro hok hl hx hr c (rfl | rfl | rfl)
    · exact (exec_mrd s rx hd addr len).served hok hl hx (State.mrdServe_away hr)
    · exact (exec_mwr s rx hd addr bs).served hok hl hx (State.mwrServe_away hr)
    · exact (exec_mamo s rx hd addr op a b).served hok hl hx (State.mamoServe_away hr)
  case memory =>
    intro hok hl hx hr
    have hmamo := exec_mamo s rx hd addr op a b
    exact ⟨fun l u h => (exec_mrd s rx hd addr len).served hok hl hx (State.mrdServe_ok hr h),
      fun e u h => (exec_mrd s rx hd addr len).served hok hl hx (State.mrdServe_error hr h),
      fun e u h => (exec_mwr s rx hd addr bs).served hok hl hx (State.mwrServe_here hr h),
      fun ha hb => hmamo.served hok hl hx (State.mamoServe_range hr ha hb),
      fun e he => hmamo.served hok hl hx (State.mamoServe_bad hr he),
      fun o hm ha => exec_mamo_word hok hl hx hr hm ha⟩
  case unit =>
    intro hok hx
    refine ⟨fun hh => exec_uop_held hok hx hh, fun hh => ⟨fun hw => ?_, fun hw => ⟨?_, fun hr => ?_⟩⟩⟩
    · have hq := State.uopArrive_waits (s := s) hw
      simp only [State.queues, Prod.mk.injEq] at hq
      obtain ⟨hleat, hstq, hmem, hout⟩ := hq
      exact ⟨_, exec_uop_arrives hok hx hh, by rw [hleat]; rfl, hstq, hmem, hout⟩
    · rintro k off comb rfl l u hl
      refine ⟨_, exec_uop_arrives hok hx hh, State.uopArrive_read hw ?_⟩
      rw [State.tellLeaves, State.tellLeaves_eq]
      exact hl
    · have ht := State.uopArrive_handed (s := s) hw hr
      rw [State.tellLeaves, State.tellLeaves_eq] at ht
      exact ⟨_, exec_uop_arrives hok hx hh, ht⟩
  case unasked =>
    intro hok hn
    exact ⟨by rw [State.packet_ok (exec_mrsp sub bs) hok, State.mrspTaken_none hn],
      fun hm => by rw [State.packet_ok (exec_ursp m) hok, State.urspTaken_none hn hm]⟩
  case reply =>
    intro hok x hx
    have hmrsp : exec (.mrsp rx hd sub bs) s = .next ((s.memAnswer x sub.toNat bs).mirror
        ([3, x.args.getD 1 0, x.args.getD 2 0, sub.toNat] ++ natsOf bs)) := by
      rw [State.packet_ok (exec_mrsp sub bs) hok, State.mrspTaken_some hx]
    refine ⟨fun c f far ad hw hs => ⟨_, hmrsp, by rw [State.memAnswer_load hw hs]; rfl⟩, fun c ad hw h0 => ⟨_, hmrsp, ?_⟩,
      fun c ad hw h0 => ⟨_, hmrsp, ?_⟩, fun e hw => ⟨_, hmrsp, by rw [State.memAnswer_burst hw]; rfl⟩, ?_, ?_⟩
    · rw [State.memAnswer_store hw, if_pos (by rw [h0]; rfl)]; rfl
    · have hne : sub.toNat ≠ 0 := fun h => h0 (BitVec.eq_of_toNat_eq h)
      rw [State.memAnswer_store hw, if_neg hne]
      exact ⟨_, rfl, s.storeEnds_fail x c ad sub.toNat⟩
    · rintro c g lf hw rfl
      exact ⟨_, State.packet_ok (exec_ursp .ack) hok, by rw [State.urspTaken_ack hx, State.unitAnswer_unit hw]; rfl⟩
    · rintro c v rd comb hn vals left hw rfl hs hl
      refine ⟨_, State.packet_ok (exec_ursp _) hok, fun w u hv => ?_⟩
      rw [State.urspTaken_value hx, State.unitAnswer_urd hw hs hl hv]
  case fault =>
    rintro hok u f rfl
    exact exec_ursp_fault hok u f
  case noRequest => exact fun hn => ⟨exec_packetRetry_none hn, exec_packetTimeout_none hn⟩
  case lost =>
    intro x hx
    refine ⟨fun h => ⟨exec_packetRetry_silent hx (.inl h), exec_packetTimeout_silent hx h⟩,
      fun h => exec_packetRetry_silent hx (.inr h), fun h hn => ⟨_, exec_packetRetry_sends hx h hn, rfl, rfl, rfl⟩, fun h => ?_⟩
    have hlost := exec_packetTimeout_lost hx h
    refine ⟨fun c f far ad hw hs => ⟨_, hlost, ?_⟩, fun c ad hw => ⟨_, hlost, State.requestLost_store hw⟩,
      fun e hw => ⟨_, hlost, ?_⟩, fun c g lf hw => ⟨_, hlost, ?_⟩, fun c rd comb hn vals left y hw hs hy => ⟨_, hlost, ?_⟩⟩
    · rw [State.requestLost_mem (.inl ⟨c, hw⟩), State.memAnswer_load hw hs]; rfl
    · rw [State.requestLost_mem (.inr (.inr ⟨e, hw⟩)), State.memAnswer_burst hw]; rfl
    · rw [State.requestLost_unit hw]
      exact State.unitReport_reports _ c g lf ufLinkLost
    · exact State.requestLost_urd hw hs hy

end Sys2Proof.Machine

end

section

/-! SUPPORT. The host interface: queue pairs, doorbells, the reading of commands, the management mailbox, the UART and the
link (R551-R560, R563, R571, R579, R584, R585). -/

namespace Sys2Proof.Machine

/-! ### What an access to memory leaves of the host interface -/

theorem foldl_snd_keeps {α β γ : Type} {p : State → γ} {f : β × State → α → β × State} (hf : ∀ x y, p (f x y).2 = p x.2)
    (l : List α) (x : β × State) : p (l.foldl f x).2 = p x.2 := by
  induction l generalizing x with
  | nil => rfl
  | cons y l ih => rw [List.foldl_cons, ih, hf]

/-- What the host sees: what is sent, the engine's state, and QP_CFG of each queue pair. -/
def State.hostView (s : State) : List OutMsg × HostIf × (Nat → Word) := (s.out, s.host, fun q => s.reg (QP_CFG q))

theorem State.hostView_put (s : State) {a : Nat} (v : Word) (h : ∀ q, QP_CFG q ≠ a) : (s.put a v).hostView = s.hostView :=
  congrArg (fun f => (s.out, s.host, f)) (funext fun q => State.reg_put_other s a (QP_CFG q) v (h q))

theorem State.hostView_setF (s : State) {a : Nat} (f : Field) (x : Nat) (h : ∀ q, QP_CFG q ≠ a) :
    (s.setF a f x).hostView = s.hostView := s.hostView_put _ h

theorem qpCfg_ne {a : Nat} (h : a < 2 ^ 32) (q : Nat) : QP_CFG q ≠ a := by unfold QP_CFG; omega

theorem State.hostView_inc (s : State) (a : Nat) : (s.inc a).hostView = s.hostView := by
  unfold State.inc State.ctrApply
  split <;> rfl

theorem State.hostView_eccSync (s : State) : s.eccSync.hostView = s.hostView := by
  have hlow (s : State) (k : Nat) (v : Word) (hk : k < 4) : (s.put (ECC_LOG_W k) v).hostView = s.hostView :=
    s.hostView_put v (qpCfg_ne (by unfold ECC_LOG_W; omega))
  unfold State.eccSync
  extract_lets t
  have ht : t.hostView = s.hostView := s.hostView_setF _ _ (qpCfg_ne (by decide))
  split <;> rw [hlow _ 3 _ (by decide), hlow _ 2 _ (by decide), hlow _ 1 _ (by decide), hlow _ 0 _ (by decide), ht]

theorem State.hostView_eccError (s : State) (ue : Bool) (mid req addr : Nat) : (s.eccError ue mid req addr).hostView = s.hostView := by
  unfold State.eccError State.free
  extract_lets t dup
  have ht : t.hostView = s.hostView := s.hostView_inc _
  split
  · exact ht
  · dsimp only
    split
    · exact (State.hostView_eccSync _).trans ht
    · have hlost (u : State) : ((u.inc ECC_LOG_LOST_LO).flag ECC_LOG_CTL ECC_LOG_CTL_OVF).hostView = u.hostView :=
        (State.hostView_setF _ _ _ (qpCfg_ne (by decide))).trans (u.hostView_inc _)
      split
      · exact (State.hostView_eccSync _).trans ((hlost _).trans ht)
      · exact (hlost _).trans ht

theorem State.hostView_codeCheck (s : State) (req mid base : Nat) (w : Bool) : (s.codeCheck req mid base w).2.hostView = s.hostView := by
  unfold State.codeCheck State.free
  extract_lets e n
  split
  · exact s.hostView_eccError _ _ _ _
  split
  · rfl
  split
  · exact s.hostView_eccError _ _ _ _
  split
  · exact s.hostView_eccError _ _ _ _
  · dsimp only
    split
    · exact State.hostView_eccError _ _ _ _ _
    · exact State.hostView_eccError _ _ _ _ _
    · rfl

theorem State.hostView_mem (s : State) (m : Mem) : State.hostView { s with mem := m } = s.hostView := rfl
theorem State.hostView_freeIx (s : State) (n : Nat) : State.hostView { s with freeIx := n } = s.hostView := rfl

theorem State.hostView_codeRead (s : State) (req mid base : Nat) : (s.codeRead req mid base).2.hostView = s.hostView := by
  unfold State.codeRead State.freeBytes State.free
  extract_lets k n old
  have hc := s.hostView_codeCheck req mid base (old.all (·.isSome))
  generalize s.codeCheck req mid base (old.all (·.isSome)) = r at hc ⊢
  rcases r with ⟨_ | _ | _, t⟩
  · exact hc
  · exact hc
  · exact (t.hostView_freeIx _).trans hc

/-- The flip registers lie elsewhere in their block than QP_CFG in its page. -/
theorem State.hostView_flipWrite (s : State) (mid addr base : Nat) : (s.flipWrite mid addr base).2.hostView = s.hostView := by
  have hctl (q : Nat) : QP_CFG q ≠ ECC_FLIP_CTL mid := by unfold QP_CFG ECC_FLIP_CTL; omega
  have hlo (q : Nat) : QP_CFG q ≠ ECC_FLIP_ADDR_LO mid := by unfold QP_CFG ECC_FLIP_ADDR_LO; omega
  have hhi (q : Nat) : QP_CFG q ≠ ECC_FLIP_ADDR_HI mid := by unfold QP_CFG ECC_FLIP_ADDR_HI; omega
  have hdone : ((s.setF (ECC_FLIP_CTL mid) ECC_FLIP_CTL_ARM 0).flag (ECC_FLIP_CTL mid) ECC_FLIP_CTL_DONE).hostView = s.hostView :=
    (State.hostView_setF _ _ _ hctl).trans (s.hostView_setF _ _ hctl)
  unfold State.flipWrite
  extract_lets c at' m e t u
  split
  · show u.hostView = s.hostView
    unfold u
    split
    · exact hdone
    · exact (State.hostView_put _ _ hhi).trans ((State.hostView_put _ _ hlo).trans hdone)
  · rfl

theorem State.hostView_codeStored (s : State) (mid addr base k : Nat) (l : List Byte) :
    ((((s.flipWrite mid addr base).2.putBytes k l).setCodeErr k (s.flipWrite mid addr base).1).hostView) = s.hostView :=
  (State.hostView_mem _ _).trans ((State.hostView_mem _ _).trans (s.hostView_flipWrite mid addr base))

theorem State.hostView_codeWrite (s : State) (req mid base off : Nat) (bs : List Byte) :
    (s.codeWrite req mid base off bs).2.hostView = s.hostView := by
  unfold State.codeWrite
  extract_lets n k
  split
  · exact s.hostView_codeStored mid base base k bs
  · have hr := s.hostView_codeRead req mid base
    generalize s.codeRead req mid base = r at hr ⊢
    rcases r with ⟨_ | old, t⟩
    · exact hr
    · exact (t.hostView_codeStored mid (base + off) base k _).trans hr

theorem State.hostView_memWriteIn (s : State) (req : Nat) (mid : Nat → Nat) (a : Nat) (bs : List Byte) :
    (s.memWriteIn req mid a bs).2.hostView = s.hostView := by
  unfold State.memWriteIn
  refine foldl_snd_keeps (p := State.hostView) (fun x y => ?_) _ (true, s)
  exact State.hostView_codeWrite x.2 req (mid y.1) y.1 y.2.1 y.2.2

theorem State.hostView_memReadIn (s : State) (req : Nat) (mid : Nat → Nat) (a n : Nat) :
    (s.memReadIn req mid a n).2.hostView = s.hostView := by
  unfold State.memReadIn
  refine foldl_snd_keeps (p := State.hostView) (fun x y => ?_) _ (some [], s)
  have hr := State.hostView_codeRead x.2 req (mid y.1) y.1
  rcases x with ⟨acc, t⟩
  dsimp only at hr ⊢
  generalize t.codeRead req (mid y.1) y.1 = r at hr ⊢
  rcases r with ⟨_ | w, u⟩ <;> cases acc <;> exact hr

theorem State.hostView_tstLeave (s : State) : s.tstLeave.hostView = s.hostView := by
  unfold State.tstLeave
  split
  · rfl
  · extract_lets t x y u
    have hu : u.hostView = s.hostView := by
      unfold u
      split <;> rfl
    exact (State.hostView_setF _ _ _ (qpCfg_ne (by decide))).trans ((State.hostView_setF _ _ _ (qpCfg_ne (by decide))).trans hu)

theorem State.hostView_tstAside (s : State) (p : Nat → Nat → Bool) : (s.tstAside p).hostView = s.hostView := by
  unfold State.tstAside
  split
  · rfl
  · split
    · exact (State.hostView_inc _ _).trans (State.hostView_tstLeave _)
    · rfl

theorem State.hostView_bankAccess (s : State) (o n : Nat) : (s.bankAccess o n).hostView = s.hostView := by
  unfold State.bankAccess
  split
  · extract_lets a
    split
    · exact State.hostView_tstAside _ _
    · rfl
  · rfl

theorem State.hostView_memWrite (s : State) (req o : Nat) (bs : List Byte) : (s.memWrite req o bs).2.hostView = s.hostView :=
  (State.hostView_memWriteIn _ _ _ _ _).trans (s.hostView_bankAccess o bs.length)

theorem State.hostView_memRead (s : State) (req o n : Nat) : (s.memRead req o n).2.hostView = s.hostView :=
  (State.hostView_memReadIn _ _ _ _ _).trans (s.hostView_bankAccess o n)

theorem State.hostView_memWords (s : State) (req o n : Nat) : (s.memWords req o n).2.hostView = s.hostView := by
  have hr := s.hostView_memRead req o (4 * n)
  unfold State.memWords
  generalize s.memRead req o (4 * n) = r at hr ⊢
  rcases r with ⟨_ | l, t⟩ <;> exact hr

theorem State.hostView_slotWord (s : State) (t k : Nat) : (s.slotWord t k).2.hostView = s.hostView := by
  have hr := s.hostView_memWords 0x101 (s.slotAddr t k + 64) 1
  unfold State.slotWord
  split <;> simp_all

/-! ### The commands in hand -/

theorem foldl_setF_rest {α : Type} (a : α → Nat) (f : Field) (x : α → Nat) (l : List α) (s : State) :
    l.foldl (fun s q => s.setF (a q) f (x q)) s = { s with regs := (l.foldl (fun s q => s.setF (a q) f (x q)) s).regs } := by
  induction l generalizing s with
  | nil => rfl
  | cons y l ih => rw [List.foldl_cons, ih]; rfl

/-- The list of commands changes the two counts that show it and nothing else. -/
theorem State.setCmds_rest (s : State) (l : List HCmd) :
    s.setCmds l = { s with host := { s.host with cmds := l }, regs := (s.setCmds l).regs } := by
  unfold State.setCmds
  rw [foldl_setF_rest]
  rfl

theorem State.reg_setCmds (s : State) (l : List HCmd) {a : Nat} (hj : a ≠ JNL_INFL) (hq : ∀ q, a ≠ QP_STATUS q) :
    (s.setCmds l).reg a = s.reg a := by
  unfold State.setCmds
  exact (foldl_keeps (p := fun s => s.reg a) (fun s q => State.reg_setF_other s (QP_STATUS q) a _ _ (hq q)) _ _).trans
    (State.reg_put_other _ JNL_INFL a _ hj)

theorem State.mapCmd_rest (s : State) (p : HCmd → Bool) (f : HCmd → Option HCmd) :
    s.mapCmd p f = { s with
      host := { s.host with cmds := s.host.cmds.filterMap fun c => if p c then f c else some c }
      regs := (s.mapCmd p f).regs } := s.setCmds_rest _

theorem State.reg_mapCmd (s : State) (p : HCmd → Bool) (f : HCmd → Option HCmd) {a : Nat} (hj : a ≠ JNL_INFL)
    (hq : ∀ q, a ≠ QP_STATUS q) : (s.mapCmd p f).reg a = s.reg a := s.reg_setCmds _ hj hq

theorem qpStatus_ne {a : Nat} (h : a < 2 ^ 32) (q : Nat) : a ≠ QP_STATUS q := by unfold QP_STATUS; omega

theorem qpCfg_ne_status (p q : Nat) : QP_CFG p ≠ QP_STATUS q := by unfold QP_CFG QP_STATUS; omega

/-- No completion is written for a dropped command (R571). -/
theorem State.complete_dropped (s : State) {c : HCmd} (h : c.dropped = true) (st d : Nat) (j : Bool) : s.complete c st d j = s := by
  unfold State.complete
  exact if_pos h

/-! ### A queue pair is disabled (R557, R571) -/

/-- What a queue pair's reset leaves of the others: what is sent, their state, and QP_CFG. -/
def State.pairView (s : State) : List OutMsg × Tbl Qp × (Nat → Word) := (s.out, s.host.qps, fun q => s.reg (QP_CFG q))

theorem State.pairView_of_hostView {s t : State} (h : t.hostView = s.hostView) : t.pairView = s.pairView :=
  congrArg (fun (v : List OutMsg × HostIf × (Nat → Word)) => (v.1, v.2.1.qps, v.2.2)) h

theorem State.pairView_mapCmd (s : State) (p : HCmd → Bool) (f : HCmd → Option HCmd) : (s.mapCmd p f).pairView = s.pairView := by
  have hreg : (fun q => (s.mapCmd p f).reg (QP_CFG q)) = fun q => s.reg (QP_CFG q) :=
    funext fun q => s.reg_mapCmd p f (qpCfg_ne (by decide) q) (qpCfg_ne_status q)
  unfold State.pairView
  rw [hreg, State.mapCmd_rest]

theorem State.pairView_occur (s : State) (n : Nat) : (s.occur n).pairView = s.pairView := rfl

theorem State.pairView_jnlFailed (s : State) {c : HCmd} (h : c.dropped = true) : (s.jnlFailed c).pairView = s.pairView := by
  unfold State.jnlFailed
  rw [State.complete_dropped _ h]
  exact (State.pairView_occur _ _).trans
    ((State.pairView_of_hostView (State.hostView_inc _ JNL_FAIL_LO)).trans (s.pairView_mapCmd _ _))

theorem State.pairView_endCmd (s : State) {c : HCmd} (h : c.dropped = true) (st d : Nat) : (s.endCmd c st d).pairView = s.pairView := by
  unfold State.endCmd
  split
  · exact s.pairView_jnlFailed h
  · exact State.pairView_mapCmd _ _ _

theorem State.pairView_dropCmds (s : State) (p : HCmd → Bool) : (s.dropCmds p).pairView = s.pairView := by
  unfold State.dropCmds
  refine foldl_keeps (p := State.pairView) (fun s c => ?_) _ s
  split
  · exact (State.pairView_endCmd _ rfl _ _).trans (s.pairView_mapCmd _ _)
  · exact (State.pairView_endCmd _ rfl _ _).trans (s.pairView_mapCmd _ _)
  · exact (State.pairView_endCmd _ rfl _ _).trans ((State.pairView_mapCmd _ _ _).trans
      (State.pairView_of_hostView (s.hostView_memWrite _ _ _)))
  all_goals exact s.pairView_mapCmd _ _

theorem State.dropCmds_none (s : State) {p : HCmd → Bool} (h : ∀ c ∈ s.host.cmds, p c = false) : s.dropCmds p = s := by
  unfold State.dropCmds
  rw [List.filter_eq_nil_iff.mpr fun c hc => ne_true_of_eq_false (h c hc)]
  rfl

/-- Is the command in a mailbox slot? -/
def HCmd.isPosted (c : HCmd) : Bool := match c.phase with | .posted _ => true | _ => false

/-- The commands that the disabling of a queue pair drops. -/
def dropsOf (q : Nat) (c : HCmd) : Bool :=
  if q < 256 then (c.origin.isNone && c.qp == q) || (c.tgt == q && c.cls == 2 && c.isPosted) else c.origin.isNone && c.qp == q

theorem State.qpDisable_eq (s : State) (q : Nat) :
    s.qpDisable q = ((s.setF (QP_CFG q) QP_CFG_EN 0).dropCmds (dropsOf q)).setQp q Qp.reset := by
  unfold State.qpDisable
  dsimp only
  refine congrArg (fun t => State.setQp t q Qp.reset) ?_
  by_cases h : q < 256
  · rw [if_pos h]
    exact congrArg (State.dropCmds _) (funext fun c => (if_pos h).symm)
  · rw [if_neg h]
    exact congrArg (State.dropCmds _) (funext fun c => (if_neg h).symm)

theorem State.qp_setQp (s : State) (q n : Nat) (x : Qp) : (s.setQp q x).qp n = if n = q then x else s.qp n :=
  tblGet_set (fun _ => Qp.reset) s.host.qps q n x

theorem State.qpDisable_view (s : State) (q : Nat) :
    (s.qpDisable q).out = s.out ∧ (∀ n, (s.qpDisable q).reg (QP_CFG n) = (s.setF (QP_CFG q) QP_CFG_EN 0).reg (QP_CFG n)) ∧
      (s.qpDisable q).qp q = Qp.reset ∧ ∀ n, n ≠ q → (s.qpDisable q).qp n = s.qp n := by
  have hv := State.pairView_dropCmds (s.setF (QP_CFG q) QP_CFG_EN 0) (dropsOf q)
  simp only [State.pairView, Prod.mk.injEq] at hv
  obtain ⟨hout, hqps, hreg⟩ := hv
  rw [State.qpDisable_eq]
  refine ⟨hout, fun n => congrFun hreg n, by rw [State.qp_setQp, if_pos rfl], fun n hn => ?_⟩
  rw [State.qp_setQp, if_neg hn]
  exact congrArg (fun t => tblGet (fun _ => Qp.reset) t n) hqps

theorem State.qpDisable_free (s : State) {q : Nat} (h : ∀ c ∈ s.host.cmds, c.qp ≠ q ∧ c.tgt ≠ q) :
    s.qpDisable q = (s.setF (QP_CFG q) QP_CFG_EN 0).setQp q Qp.reset := by
  have hnone : ∀ c ∈ (s.setF (QP_CFG q) QP_CFG_EN 0).host.cmds, dropsOf q c = false := by
    intro c hc
    obtain ⟨hqp, htgt⟩ := h c hc
    simp [dropsOf, hqp, htgt]
  rw [State.qpDisable_eq, State.dropCmds_none _ hnone]


/-! ### Writes to the registers of a queue pair (Table 16.12, R554-R559) -/

theorem qpKey_cfg : ∀ p : Fin 257, ∃ r, descOf (qpKey p.val 0x10) = some r ∧
    r.fields = [QP_CFG_EN, QP_CFG_LEVEL, QP_CFG_CQS, QP_CFG_SQS] := by
  have hdesc : ∀ p : Fin 257, (descOf (qpKey p.val 0x10)).map (·.fields) = some [QP_CFG_EN, QP_CFG_LEVEL, QP_CFG_CQS, QP_CFG_SQS] := by
    decide +kernel
  exact fun p => Option.map_eq_some_iff.mp (hdesc p)

theorem qpKey_sqTail : ∀ p : Fin 257, ∃ r, descOf (qpKey p.val 0x18) = some r ∧ r.fields = [QP_SQ_TAIL_TAIL] := by
  have hdesc : ∀ p : Fin 257, (descOf (qpKey p.val 0x18)).map (·.fields) = some [QP_SQ_TAIL_TAIL] := by decide +kernel
  exact fun p => Option.map_eq_some_iff.mp (hdesc p)

theorem qpKey_cqHead : ∀ p : Fin 257, ∃ r, descOf (qpKey p.val 0x1C) = some r ∧ r.fields = [QP_CQ_HEAD_HEAD] := by
  have hdesc : ∀ p : Fin 257, (descOf (qpKey p.val 0x1C)).map (·.fields) = some [QP_CQ_HEAD_HEAD] := by decide +kernel
  exact fun p => Option.map_eq_some_iff.mp (hdesc p)

theorem qpKey_eq (p : Nat) : qpKey p 0x10 = QP_CFG p := by unfold qpKey QP_CFG; omega

theorem fieldsAt_qpCfg (p : Fin 257) : fieldsAt (QP_CFG p.val) = [QP_CFG_EN, QP_CFG_LEVEL, QP_CFG_CQS, QP_CFG_SQS] := by
  obtain ⟨r, hr, hf⟩ := qpKey_cfg p
  rw [← qpKey_eq, fieldsAt_of_desc hr, hf]

/-- A reserved bit written 1 sets ERR (Table 16.12). -/
def State.qpNoted (s : State) (p : Nat) (b : Bool) : State := if b then s.qpErr p else s

theorem State.qpErr_bit (s : State) (p : Nat) : (s.qpErr p).bit (QP_STATUS p) QP_STATUS_ERR = true :=
  s.bit_setF_one (QP_STATUS p) (by decide)

theorem State.qpErr_regs (s : State) (p : Nat) : s.RegsBut (s.qpErr p) [QP_STATUS p] :=
  fun a ha => State.reg_setF_other s (QP_STATUS p) a _ _ (by simpa using ha)

theorem State.qpNoted_rest (s : State) (p : Nat) (b : Bool) : s.qpNoted p b = { s with regs := (s.qpNoted p b).regs } := by
  cases b <;> rfl

theorem State.qpNoted_bit (s : State) (p : Nat) : (s.qpNoted p true).bit (QP_STATUS p) QP_STATUS_ERR = true := s.qpErr_bit p

theorem State.qpNoted_regs (s : State) (p : Nat) (b : Bool) : s.RegsBut (s.qpNoted p b) (if b then [QP_STATUS p] else []) := by
  cases b
  · exact fun _ _ => rfl
  · exact s.qpErr_regs p

theorem State.qpNoted_cfg (s : State) (p : Nat) (b : Bool) : (s.qpNoted p b).reg (QP_CFG p) = s.reg (QP_CFG p) := by
  apply s.qpNoted_regs p b
  cases b
  · exact List.not_mem_nil
  · exact fun h => qpCfg_ne_status p p (List.mem_singleton.mp h)

section
variable {s : State} (p : Fin 257)

theorem State.qpWrite_halted {off : Nat} {v : Word} {r : RegDesc} (hr : descOf (qpKey p.val off) = some r) (h : s.halted 18 = true) :
    s.qpWrite p.val off v = s := by
  unfold State.qpWrite
  rw [hr]
  exact if_pos h

theorem State.qpWrite_cfg (v : Word) (h : s.halted 18 = false) :
    s.qpWrite p.val 0x10 v = if reservedEncoding (fieldsAt (QP_CFG p.val)) v then s.qpErr p.val
      else (s.qpNoted p.val ((v &&& 0x7FFC00FF) != 0)).qpCfg p.val v := by
  obtain ⟨r, hr, hf⟩ := qpKey_cfg p
  have hres : reservedBits r.fields = 0x7FFC00FF := by rw [hf]; decide
  rw [fieldsAt_qpCfg, ← hf]
  unfold State.qpWrite
  rw [hr]
  dsimp only
  rw [if_neg (ne_true_of_eq_false h), hres]
  rfl

theorem State.qpWrite_sqTail (v : Word) (h : s.halted 18 = false) :
    s.qpWrite p.val 0x18 v = (s.qpNoted p.val ((v &&& 0xFFFFF000) != 0)).sqTail p.val (fieldGet QP_SQ_TAIL_TAIL v) := by
  obtain ⟨r, hr, hf⟩ := qpKey_sqTail p
  have hres : reservedBits r.fields = 0xFFFFF000 := by rw [hf]; decide
  have henc : reservedEncoding r.fields v = false := by rw [hf]; rfl
  unfold State.qpWrite
  rw [hr]
  dsimp only
  rw [if_neg (ne_true_of_eq_false h), if_neg (ne_true_of_eq_false henc), hres]
  rfl

theorem State.qpWrite_cqHead (v : Word) (h : s.halted 18 = false) :
    s.qpWrite p.val 0x1C v = (s.qpNoted p.val ((v &&& 0xFFFFF000) != 0)).cqHead p.val (fieldGet QP_CQ_HEAD_HEAD v) := by
  obtain ⟨r, hr, hf⟩ := qpKey_cqHead p
  have hres : reservedBits r.fields = 0xFFFFF000 := by rw [hf]; decide
  have henc : reservedEncoding r.fields v = false := by rw [hf]; rfl
  unfold State.qpWrite
  rw [hr]
  dsimp only
  rw [if_neg (ne_true_of_eq_false h), if_neg (ne_true_of_eq_false henc), hres]
  rfl

end

/-! ### Enabling and disabling a queue pair (R554-R557, R571) -/

theorem fieldGet_oneBit (k : Nat) (acc : Access) (rsv : List (Nat × Nat)) (v : Word) :
    fieldGet ⟨k, k, acc, rsv⟩ v = (v.getLsbD k).toNat := by
  have hw : fieldWidth ⟨k, k, acc, rsv⟩ = 1 := by simp [fieldWidth]
  rw [fieldGet, hw, BitVec.getLsbD, Nat.toNat_testBit]
  rfl

theorem enOf_set (v : Word) : fieldGet QP_CFG_EN (v ||| 0x80000000) = 1 := by
  unfold QP_CFG_EN
  rw [fieldGet_oneBit, BitVec.getLsbD_or, show BitVec.getLsbD (0x80000000 : Word) 31 = true by decide, Bool.or_true]
  rfl

theorem enOf_clear (v : Word) : fieldGet QP_CFG_EN (v &&& 0x7FFFFFFF) = 0 := by
  unfold QP_CFG_EN
  rw [fieldGet_oneBit, BitVec.getLsbD_and, show BitVec.getLsbD (0x7FFFFFFF : Word) 31 = false by decide, Bool.and_false]
  rfl

theorem reservedOf_enable (v : Word) : (v ||| 0x80000000) &&& 0x7FFC00FF = v &&& 0x7FFC00FF := by
  rw [BitVec.and_comm, BitVec.and_or_distrib_left, show (0x7FFC00FF : Word) &&& 0x80000000 = 0 by decide, BitVec.and_comm]
  exact BitVec.or_zero

/-- The register with EN cleared. -/
theorem cfgOf_disable (v : Word) : fieldPut QP_CFG_EN ((v &&& 0x7FFFFFFF) &&& 0x0003FF00) 0 = v &&& 0x0003FF00 := by
  have hmask : (0x7FFFFFFF : Word) &&& 0x0003FF00 &&& ~~~ fieldMask QP_CFG_EN = 0x0003FF00 := by decide
  unfold fieldPut
  rw [BitVec.and_assoc, BitVec.and_assoc, ← BitVec.and_assoc (0x7FFFFFFF : Word), hmask]
  exact BitVec.or_zero

/-- A refused write sets ERR and changes nothing that the host or the engine sees. -/
def State.QpRefused (s t : State) (p : Nat) : Prop :=
  t.bit (QP_STATUS p) QP_STATUS_ERR = true ∧ s.RegsBut t [QP_STATUS p] ∧ t.host = s.host ∧ t.out = s.out

theorem State.qpErr_refused (s : State) (p : Nat) : s.QpRefused (s.qpErr p) p ∧ s.qpErr p = { s with regs := (s.qpErr p).regs } :=
  ⟨⟨s.qpErr_bit p, s.qpErr_regs p, rfl, rfl⟩, rfl⟩

theorem State.qpNoted_err_refused (s : State) (p : Nat) (b : Bool) :
    s.QpRefused ((s.qpNoted p b).qpErr p) p ∧ (s.qpNoted p b).qpErr p = { s with regs := ((s.qpNoted p b).qpErr p).regs } := by
  have hregs : s.RegsBut ((s.qpNoted p b).qpErr p) [QP_STATUS p] := by
    intro a ha
    rw [(s.qpNoted p b).qpErr_regs p a ha]
    cases b
    · rfl
    · exact s.qpErr_regs p a ha
  cases b
  · exact ⟨⟨State.qpErr_bit _ p, hregs, rfl, rfl⟩, rfl⟩
  · exact ⟨⟨State.qpErr_bit _ p, hregs, rfl, rfl⟩, rfl⟩

theorem State.qpNoted_on (s : State) (p : Nat) (b : Bool) : (s.qpNoted p b).qpOn p = s.qpOn p :=
  congrArg (fun v => fieldGet QP_CFG_EN v != 0) (s.qpNoted_cfg p b)

theorem State.qpNoted_allowed (s : State) (p : Fin 257) (b : Bool) : (s.qpNoted p.val b).qpAllowed p.val = s.qpAllowed p.val := by
  have hreg : (s.qpNoted p.val b).reg (HOST_QP_ALLOW (p.val / 32)) = s.reg (HOST_QP_ALLOW (p.val / 32)) := by
    apply s.qpNoted_regs p.val b
    cases b
    · exact List.not_mem_nil
    · exact fun h => qpStatus_ne (by unfold HOST_QP_ALLOW; omega) _ (List.mem_singleton.mp h)
  unfold State.qpAllowed
  rw [hreg]

theorem State.bit_put_other (s : State) {a k : Nat} (v : Word) (f : Field) (h : k ≠ a) : (s.put a v).bit k f = s.bit k f := by
  rw [State.bit_fld, State.bit_fld, State.fld_put_other s a k v f h]

section
variable {s : State} {p : Fin 257} (v : Word) (h18 : s.halted 18 = false)
include h18

theorem qpEnable_refused (h : s.bit (QP_CFG p.val) QP_CFG_EN = true ∨ reservedEncoding (fieldsAt (QP_CFG p.val)) (v ||| 0x80000000) = true ∨
      s.qpAllowed p.val = false) :
    s.Does (.qpEnable p v) fun t => s.QpRefused t p.val ∧ t = { s with regs := t.regs } := by
  have hexec : exec (.qpEnable p v) s = .next (s.qpWrite p.val 0x10 (v ||| 0x80000000)) := rfl
  rw [State.qpWrite_cfg p _ h18] at hexec
  cases henc : reservedEncoding (fieldsAt (QP_CFG p.val)) (v ||| 0x80000000) with
  | true =>
    rw [if_pos henc] at hexec
    exact ⟨_, hexec, s.qpErr_refused p.val⟩
  | false =>
    rw [if_neg (ne_true_of_eq_false henc)] at hexec
    refine ⟨_, hexec, ?_⟩
    generalize ((v ||| 0x80000000) &&& 0x7FFC00FF != 0) = b
    unfold State.qpCfg
    rw [State.qpNoted_on, State.qpNoted_allowed, enOf_set]
    cases hon : s.qpOn p.val with
    | true => exact s.qpNoted_err_refused p.val b
    | false =>
      rcases h with h | h | h
      · exact absurd (hon.symm.trans h) (by decide)
      · exact absurd (henc.symm.trans h) (by decide)
      · rw [h]
        exact s.qpNoted_err_refused p.val b

theorem qpEnable_taken (hon : s.bit (QP_CFG p.val) QP_CFG_EN = false)
    (henc : reservedEncoding (fieldsAt (QP_CFG p.val)) (v ||| 0x80000000) = false) (hallow : s.qpAllowed p.val = true) :
    s.Does (.qpEnable p v) fun t => t.reg (QP_CFG p.val) = (v ||| 0x80000000) &&& 0x8003FF00 ∧ t.qp p.val = Qp.reset ∧
      (∀ n, n ≠ p.val → t.qp n = s.qp n) ∧ s.RegsBut t [QP_CFG p.val, QP_STATUS p.val] ∧
      ((v &&& 0x7FFC00FF) ≠ 0 → t.bit (QP_STATUS p.val) QP_STATUS_ERR = true) := by
  have hexec : exec (.qpEnable p v) s = .next (((s.qpNoted p.val ((v &&& 0x7FFC00FF) != 0)).put (QP_CFG p.val)
      ((v ||| 0x80000000) &&& 0x8003FF00)).setQp p.val Qp.reset) := by
    show Host.Outcome.next (s.qpWrite p.val 0x10 (v ||| 0x80000000)) = _
    rw [State.qpWrite_cfg p _ h18, if_neg (ne_true_of_eq_false henc), reservedOf_enable]
    unfold State.qpCfg
    rw [State.qpNoted_on, State.qpNoted_allowed, enOf_set, hallow, show s.qpOn p.val = false from hon]
    rfl
  refine ⟨_, hexec, ?_, by rw [State.qp_setQp, if_pos rfl], fun n hn => ?_, fun a ha => ?_, fun hv => ?_⟩
  · exact State.reg_put_same _ _ _
  · rw [State.qp_setQp, if_neg hn]
    cases ((v &&& 0x7FFC00FF) != 0) <;> rfl
  · obtain ⟨hc, hst⟩ : a ≠ QP_CFG p.val ∧ a ≠ QP_STATUS p.val := by simpa using ha
    refine (State.reg_put_other _ _ _ _ hc).trans (s.qpNoted_regs p.val _ a ?_)
    split <;> simp [hst]
  · have hb : ((v &&& 0x7FFC00FF) != 0) = true := bne_iff_ne.mpr hv
    rw [hb]
    exact (State.bit_put_other _ _ _ (qpCfg_ne_status p.val p.val).symm).trans (s.qpNoted_bit p.val)

theorem qpDisable_taken (hon : s.bit (QP_CFG p.val) QP_CFG_EN = true)
    (henc : reservedEncoding (fieldsAt (QP_CFG p.val)) (s.reg (QP_CFG p.val) &&& 0x7FFFFFFF) = false) :
    s.Does (.qpDisable p) fun t => t.reg (QP_CFG p.val) = s.reg (QP_CFG p.val) &&& 0x0003FF00 ∧
      (t.bit (QP_CFG p.val) QP_CFG_EN = false ∧ t.qp p.val = Qp.reset) ∧ (∀ n, n ≠ p.val → t.qp n = s.qp n) ∧ t.out = s.out ∧
      ((∀ c ∈ s.host.cmds, c.qp ≠ p.val ∧ c.tgt ≠ p.val) → t.host.cmds = s.host.cmds ∧ t.mem = s.mem) := by
  let u : State := (s.qpNoted p.val (((s.reg (QP_CFG p.val) &&& 0x7FFFFFFF) &&& 0x7FFC00FF) != 0)).put (QP_CFG p.val)
    ((s.reg (QP_CFG p.val) &&& 0x7FFFFFFF) &&& 0x0003FF00)
  have hexec : exec (.qpDisable p) s = .next (u.qpDisable p.val) := by
    refine (congrArg Host.Outcome.next (if_pos hon)).trans (congrArg Host.Outcome.next ?_)
    rw [State.qpWrite_cfg p _ h18, if_neg (ne_true_of_eq_false henc)]
    unfold State.qpCfg
    rw [State.qpNoted_on, enOf_clear, show s.qpOn p.val = true from hon]
    rfl
  have hu : u = { s with regs := u.regs } := by
    show (State.put _ _ _) = _
    rw [State.qpNoted_rest]; rfl
  obtain ⟨hout, hreg, hqp, hother⟩ := u.qpDisable_view p.val
  have hcfg : (u.qpDisable p.val).reg (QP_CFG p.val) = s.reg (QP_CFG p.val) &&& 0x0003FF00 := by
    rw [hreg, State.reg_setF_same, State.reg_put_same, cfgOf_disable]
  refine ⟨_, hexec, hcfg, ⟨?_, hqp⟩, fun n hn => ?_, ?_, fun hfree => ?_⟩
  · rw [State.bit_fld, State.fld, hreg, State.reg_setF_same, fieldGet_put_same _ _ _ (by decide)]
    rfl
  · rw [hother n hn, hu]; rfl
  · rw [hout, hu]
  · have hcmds : u.host.cmds = s.host.cmds := by rw [hu]
    rw [State.qpDisable_free u (by rwa [hcmds])]
    exact ⟨hcmds, by show u.mem = s.mem; rw [hu]⟩

end

/-! ### Doorbells (R553, R559) -/

theorem State.occurred_occur (s : State) (n : Nat) : (s.occur n).occurred n = true :=
  (tblGet_set (fun _ => false) s.irq.occ n n true).trans (if_pos rfl)

/-- A doorbell that is refused raises source 0x7E6 besides. -/
theorem State.qpNoted_bell (s : State) (p : Nat) (b : Bool) :
    s.QpRefused ((s.qpNoted p b).qpBell p) p ∧ ((s.qpNoted p b).qpBell p).occurred 0x7E6 = true :=
  ⟨(s.qpNoted_err_refused p b).1, State.occurred_occur _ 0x7E6⟩

theorem State.qpNoted_host (s : State) (p : Nat) (b : Bool) : (s.qpNoted p b).host = s.host := by rw [State.qpNoted_rest]

theorem State.qpNoted_qp (s : State) (p n : Nat) (b : Bool) : (s.qpNoted p b).qp n = s.qp n := by
  unfold State.qp; rw [State.qpNoted_host]

theorem State.qpNoted_sqSize (s : State) (p : Nat) (b : Bool) : (s.qpNoted p b).sqSize p = s.sqSize p := by
  unfold State.sqSize State.fld; rw [State.qpNoted_cfg]

theorem State.qpNoted_cqSize (s : State) (p : Nat) (b : Bool) : (s.qpNoted p b).cqSize p = s.cqSize p := by
  unfold State.cqSize State.fld; rw [State.qpNoted_cfg]

/-- A doorbell of a pair took effect: its state becomes `x`; reserved bits written 1 (`w`) set ERR. -/
structure State.Rung (s t : State) (p : Nat) (w : Word) (x : Qp) : Prop where
  pair : t.qp p = x
  others : ∀ n, n ≠ p → t.qp n = s.qp n
  regs : s.RegsBut t (if w = 0 then [] else [QP_STATUS p])
  out : t.out = s.out
  noted : w ≠ 0 → t.bit (QP_STATUS p) QP_STATUS_ERR = true

theorem State.qpNoted_rung (s : State) (p : Nat) (w : Word) (x : Qp) : s.Rung ((s.qpNoted p (w != 0)).setQp p x) p w x where
  pair := by rw [State.qp_setQp, if_pos rfl]
  others n hn := by rw [State.qp_setQp, if_neg hn, State.qpNoted_qp]
  regs := by
    have h := s.qpNoted_regs p (w != 0)
    by_cases hw : w = 0
    · rw [if_pos hw]; exact fun a _ => h a (by simp [hw])
    · rw [if_neg hw]; rwa [if_pos (bne_iff_ne.mpr hw)] at h
  out := by cases (w != 0) <;> rfl
  noted h := by rw [bne_iff_ne.mpr h]; exact s.qpNoted_bit p

section
variable {s : State} {p : Fin 257} {v : Word} (h18 : s.halted 18 = false)
include h18

theorem sqDoorbell_taken (h : (s.bit (QP_CFG p.val) QP_CFG_EN && decide (fieldGet QP_SQ_TAIL_TAIL v < s.sqSize p.val) &&
      decide (ringDist (s.sqSize p.val) (s.qp p.val).sqHead (s.qp p.val).sqTail ≤
        ringDist (s.sqSize p.val) (s.qp p.val).sqHead (fieldGet QP_SQ_TAIL_TAIL v))) = true) :
    s.Does (.sqDoorbell p v) fun t =>
      s.Rung t p.val (v &&& 0xFFFFF000) { s.qp p.val with sqTail := fieldGet QP_SQ_TAIL_TAIL v } := by
  simp only [Bool.and_eq_true, decide_eq_true_eq] at h
  obtain ⟨⟨hon, hlt⟩, hle⟩ := h
  have hexec : exec (.sqDoorbell p v) s = .next ((s.qpNoted p.val ((v &&& 0xFFFFF000) != 0)).setQp p.val
      { s.qp p.val with sqTail := fieldGet QP_SQ_TAIL_TAIL v }) := by
    show Host.Outcome.next (s.qpWrite p.val 0x18 v) = _
    rw [State.qpWrite_sqTail p v h18]
    unfold State.sqTail
    rw [State.qpNoted_on, State.qpNoted_qp, State.qpNoted_sqSize, show s.qpOn p.val = true from hon]
    exact congrArg Host.Outcome.next (if_neg (by simpa [hlt] using hle))
  exact ⟨_, hexec, s.qpNoted_rung _ _ _⟩

theorem sqDoorbell_refused (h : (s.bit (QP_CFG p.val) QP_CFG_EN && decide (fieldGet QP_SQ_TAIL_TAIL v < s.sqSize p.val) &&
      decide (ringDist (s.sqSize p.val) (s.qp p.val).sqHead (s.qp p.val).sqTail ≤
        ringDist (s.sqSize p.val) (s.qp p.val).sqHead (fieldGet QP_SQ_TAIL_TAIL v))) = false) :
    s.Does (.sqDoorbell p v) fun t => s.QpRefused t p.val ∧ t.occurred 0x7E6 = true := by
  have hexec : exec (.sqDoorbell p v) s = .next ((s.qpNoted p.val ((v &&& 0xFFFFF000) != 0)).qpBell p.val) := by
    show Host.Outcome.next (s.qpWrite p.val 0x18 v) = _
    rw [State.qpWrite_sqTail p v h18]
    unfold State.sqTail
    rw [State.qpNoted_on, State.qpNoted_qp, State.qpNoted_sqSize]
    refine congrArg Host.Outcome.next (if_pos ?_)
    simp only [Bool.and_eq_false_iff, decide_eq_false_iff_not, Nat.not_le] at h
    rcases h with (h | h) | h
    · simp [show s.qpOn p.val = false from h]
    · simp [h]
    · simp [h]
  exact ⟨_, hexec, s.qpNoted_bell _ _⟩

theorem cqDoorbell_taken (h : (s.bit (QP_CFG p.val) QP_CFG_EN && decide (fieldGet QP_CQ_HEAD_HEAD v < s.cqSize p.val) &&
      decide (ringDist (s.cqSize p.val) (s.qp p.val).cqHead (fieldGet QP_CQ_HEAD_HEAD v) ≤
        ringDist (s.cqSize p.val) (s.qp p.val).cqHead (s.qp p.val).cqTail)) = true) :
    s.Does (.cqDoorbell p v) fun t => s.Rung t p.val (v &&& 0xFFFFF000)
      { s.qp p.val with cqHead := fieldGet QP_CQ_HEAD_HEAD v, sent := false } := by
  simp only [Bool.and_eq_true, decide_eq_true_eq] at h
  obtain ⟨⟨hon, hlt⟩, hle⟩ := h
  have hexec : exec (.cqDoorbell p v) s = .next ((s.qpNoted p.val ((v &&& 0xFFFFF000) != 0)).setQp p.val
      { s.qp p.val with cqHead := fieldGet QP_CQ_HEAD_HEAD v, sent := false }) := by
    show Host.Outcome.next (s.qpWrite p.val 0x1C v) = _
    rw [State.qpWrite_cqHead p v h18]
    unfold State.cqHead
    rw [State.qpNoted_on, State.qpNoted_qp, State.qpNoted_cqSize, show s.qpOn p.val = true from hon]
    exact congrArg Host.Outcome.next (if_neg (by simpa [hlt] using hle))
  exact ⟨_, hexec, s.qpNoted_rung _ _ _⟩

theorem cqDoorbell_refused (h : (s.bit (QP_CFG p.val) QP_CFG_EN && decide (fieldGet QP_CQ_HEAD_HEAD v < s.cqSize p.val) &&
      decide (ringDist (s.cqSize p.val) (s.qp p.val).cqHead (fieldGet QP_CQ_HEAD_HEAD v) ≤
        ringDist (s.cqSize p.val) (s.qp p.val).cqHead (s.qp p.val).cqTail)) = false) :
    s.Does (.cqDoorbell p v) fun t => s.QpRefused t p.val ∧ t.occurred 0x7E6 = true := by
  have hexec : exec (.cqDoorbell p v) s = .next ((s.qpNoted p.val ((v &&& 0xFFFFF000) != 0)).qpBell p.val) := by
    show Host.Outcome.next (s.qpWrite p.val 0x1C v) = _
    rw [State.qpWrite_cqHead p v h18]
    unfold State.cqHead
    rw [State.qpNoted_on, State.qpNoted_qp, State.qpNoted_cqSize]
    refine congrArg Host.Outcome.next (if_pos ?_)
    simp only [Bool.and_eq_false_iff, decide_eq_false_iff_not, Nat.not_le] at h
    rcases h with (h | h) | h
    · simp [show s.qpOn p.val = false from h]
    · simp [h]
    · simp [h]
  exact ⟨_, hexec, s.qpNoted_bell _ _⟩

end

/-! ### The bucket, the management mailbox, the UART, the link (R551, R579, R584, R585, R587) -/

theorem jnlBucketRefill_spec (s : State) : s.Does .jnlBucketRefill fun t =>
    t.jnl = { s.jnl with tokens := min (s.jnl.tokens + 1) (s.fld JNL_RATE JNL_RATE_BURST) } ∧
    s.FieldTo t JNL_STATUS JNL_STATUS_RWAIT 0 ∧ s.RegsBut t [JNL_STATUS] ∧ t = { s with regs := t.regs, jnl := t.jnl } :=
  ⟨_, rfl, rfl, ⟨State.fld_setF_same _ _ _ _ (by decide), fun g hg => State.fld_setF_apart _ _ _ g _ (by decide) hg⟩,
    fun a ha => State.reg_setF_other _ _ a _ _ (by simpa using ha), rfl⟩

theorem pcieLinkChange_spec (s : State) (up : Bool) (speed : Fin 4) (width : Fin 3) :
    s.Does (.pcieLinkChange up speed width) fun t => t.bit HOST_STATUS HOST_STATUS_LINKUP = up ∧
      t.fld HOST_STATUS HOST_STATUS_SPEED = speed.val ∧ t.fld HOST_STATUS HOST_STATUS_WIDTH = width.val ∧
      s.RegsBut t [HOST_STATUS] ∧ t = { s with regs := t.regs } := by
  refine ⟨_, rfl, ?_, ?_, ?_, fun a ha => ?_, rfl⟩
  · rw [State.bit_fld, State.fld_setF_apart _ _ _ _ _ (by decide) (by decide),
      State.fld_setF_apart _ _ _ _ _ (by decide) (by decide), State.fld_setF_same _ _ _ _ (by decide)]
    cases up <;> rfl
  · rw [State.fld_setF_apart _ _ _ _ _ (by decide) (by decide), State.fld_setF_same _ _ _ _ (by decide)]
    exact Nat.mod_eq_of_lt speed.isLt
  · rw [State.fld_setF_same _ _ _ _ (by decide)]
    exact Nat.mod_eq_of_lt (Nat.lt_of_lt_of_le width.isLt (by decide))
  · have ha : a ≠ HOST_STATUS := by simpa using ha
    rw [State.reg_setF_other _ _ _ _ _ ha, State.reg_setF_other _ _ _ _ _ ha, State.reg_setF_other _ _ _ _ _ ha]

/-- EN of each queue pair after some are disabled. -/
theorem State.qpDisable_on (s : State) (p q : Nat) :
    (s.qpDisable p).bit (QP_CFG q) QP_CFG_EN = if q = p then false else s.bit (QP_CFG q) QP_CFG_EN := by
  obtain ⟨-, hreg, -, -⟩ := s.qpDisable_view p
  rw [State.bit_fld, State.fld, hreg q]
  by_cases h : q = p
  · rw [if_pos h, h]
    exact congrArg (· != 0) (s.fld_setF_same (QP_CFG p) QP_CFG_EN 0 (by decide))
  · rw [if_neg h, State.reg_setF_other s _ _ _ _ (by unfold QP_CFG; omega)]
    rfl

/-- One pair of those that PERST disables. -/
def State.perstPair (s : State) (p : Nat) : State := if s.qpOn p then s.qpDisable p else s

theorem State.perstPair_on (s : State) (p q : Nat) :
    (s.perstPair p).bit (QP_CFG q) QP_CFG_EN = if q = p then false else s.bit (QP_CFG q) QP_CFG_EN := by
  unfold State.perstPair
  by_cases hon : s.qpOn p = true
  · rw [if_pos hon, State.qpDisable_on]
  · rw [if_neg hon]
    by_cases h : q = p
    · rw [if_pos h, h]; exact eq_false_of_ne_true hon
    · rw [if_neg h]

theorem foldl_perstPair_on (l : List Nat) (q : Nat) : ∀ s : State,
    (l.foldl State.perstPair s).bit (QP_CFG q) QP_CFG_EN = if q ∈ l then false else s.bit (QP_CFG q) QP_CFG_EN := by
  induction l with
  | nil => exact fun s => rfl
  | cons p l ih =>
    intro s
    rw [List.foldl_cons, ih, State.perstPair_on]
    by_cases hl : q ∈ l <;> by_cases hp : q = p <;> simp [hl, hp]

theorem foldl_perstPair_off {s : State} (l : List Nat) (h : ∀ p ∈ l, s.bit (QP_CFG p) QP_CFG_EN = false) :
    l.foldl State.perstPair s = s := by
  induction l with
  | nil => rfl
  | cons p l ih =>
    have hp : s.perstPair p = s := if_neg (ne_true_of_eq_false (h p (List.mem_cons_self ..)))
    rw [List.foldl_cons, hp]
    exact ih fun q hq => h q (List.mem_cons_of_mem p hq)

theorem perst_spec (s : State) : s.Does .perst fun t => (∀ n < 257, t.bit (QP_CFG n) QP_CFG_EN = false) ∧
    ((∀ n < 257, s.bit (QP_CFG n) QP_CFG_EN = false) → t = s) := by
  have hexec : exec .perst s = .next ((List.range 257).foldl State.perstPair s) := rfl
  refine ⟨_, hexec, fun n hn => ?_, fun h => foldl_perstPair_off _ fun p hp => h p (List.mem_range.mp hp)⟩
  rw [foldl_perstPair_on, if_pos (List.mem_range.mpr hn)]

/-! ### The management mailbox and the UART (R584, R585) -/

/-- A written word without DONE leaves HOST_MGT as it is. -/
theorem State.regWrite_mgt (s : State) (q : Req) {w : Word} (h : w = 0x80000000 ∨ w = 0) :
    s.regWrite q HOST_MGT w = s.put HOST_MGT (s.reg HOST_MGT) := by
  have hdesc : (descOf HOST_MGT).map (·.fields) = some [HOST_MGT_GO, HOST_MGT_BUSY, HOST_MGT_DONE] := by decide +kernel
  obtain ⟨r, hr, hf⟩ := Option.map_eq_some_iff.mp hdesc
  have hrws : hasRws r.fields = false := by rw [hf]; decide
  have hres : w &&& reservedBits r.fields = 0 := by rw [hf]; rcases h with rfl | rfl <;> decide
  have hdone : w &&& fieldMask HOST_MGT_DONE = 0 := by rcases h with rfl | rfl <;> decide
  have hact : writeActive r.fields (s.reg HOST_MGT) w = s.reg HOST_MGT := by
    rw [hf]
    show s.reg HOST_MGT ||| (w &&& fieldMask HOST_MGT_DONE) = s.reg HOST_MGT
    rw [hdone]
    exact BitVec.or_zero
  have hrej : s.rejectsRws HOST_MGT r.fields w = false := by unfold State.rejectsRws; rw [hrws]; rfl
  have henc : reservedEncoding r.fields w = false := by rw [hf]; rfl
  rw [State.regWrite_eq s q w (by decide) hr, henc, hrej, hres]
  unfold State.takesWord
  rw [hrws, hact]
  rfl

theorem mgtGo_spec {s : State} {q : Req} (h : s.access q HOST_MGT true = .ok) : s.Does (.mgtGo q) fun t =>
    t.bit HOST_MGT HOST_MGT_BUSY = true ∧ s.RegsBut t [HOST_MGT] ∧ t.occurred 0x7E4 = true := by
  have hexec : exec (.mgtGo q) s =
      .next ((((s.put HOST_MGT (s.reg HOST_MGT)).setF HOST_MGT HOST_MGT_BUSY 1).occur 0x7E4).answer .done) := by
    show Host.Outcome.next (s.guardWrite q HOST_MGT fun s => s.mgtWrite q 0x80000000) = _
    rw [State.guardWrite_ok _ h, State.mgtWrite, show (0x80000000 : Word) &&& 0xDFFFFFFF = 0x80000000 by decide,
      State.regWrite_mgt s q (.inl rfl)]
    rfl
  refine ⟨_, hexec, State.bit_setF_one _ _ (by decide), fun a ha => ?_, State.occurred_occur _ _⟩
  have ha : a ≠ HOST_MGT := by simpa using ha
  exact (State.reg_setF_other _ _ _ _ _ ha).trans (State.reg_put_other _ _ _ _ ha)

theorem mgtDone_spec {s : State} {q : Req} (h : s.access q HOST_MGT true = .ok) : s.Does (.mgtDone q) fun t =>
    s.RegsBut t [HOST_MGT] ∧ t.irq = s.irq ∧ (q = .sup ∨ q = .jtag → t.bit HOST_MGT HOST_MGT_BUSY = false) ∧
    (q ≠ .sup → q ≠ .jtag → t.bit HOST_MGT HOST_MGT_BUSY = s.bit HOST_MGT HOST_MGT_BUSY) := by
  have hexec : exec (.mgtDone q) s = .next ((if q = .sup ∨ q = .jtag then
      (s.put HOST_MGT (s.reg HOST_MGT)).setF HOST_MGT HOST_MGT_BUSY 0 else s.put HOST_MGT (s.reg HOST_MGT)).answer .done) := by
    show Host.Outcome.next (s.guardWrite q HOST_MGT fun s => s.mgtWrite q 0x20000000) = _
    rw [State.guardWrite_ok _ h, State.mgtWrite, show (0x20000000 : Word) &&& 0xDFFFFFFF = 0 by decide,
      State.regWrite_mgt s q (.inr rfl)]
    have hdone : (fieldGet HOST_MGT_DONE 0x20000000 = 1 ∧ (q = .sup ∨ q = .jtag)) ↔ (q = .sup ∨ q = .jtag) :=
      and_iff_right (by decide)
    simp only [hdone]
    rfl
  have hput (a : Nat) (ha : a ∉ [HOST_MGT]) : (s.put HOST_MGT (s.reg HOST_MGT)).reg a = s.reg a :=
    State.reg_put_other _ _ _ _ (by simpa using ha)
  by_cases hq : q = .sup ∨ q = .jtag
  · rw [if_pos hq] at hexec
    refine ⟨_, hexec, fun a ha => ?_, rfl, fun _ => ?_, fun hs hj => absurd hq (by simp [hs, hj])⟩
    · exact (State.reg_setF_other _ _ _ _ _ (by simpa using ha)).trans (hput a ha)
    · exact congrArg (· != 0) (State.fld_setF_same (s.put HOST_MGT (s.reg HOST_MGT)) HOST_MGT HOST_MGT_BUSY 0 (by decide))
  · rw [if_neg hq] at hexec
    refine ⟨_, hexec, hput, rfl, fun h => absurd h hq, fun _ _ => ?_⟩
    exact congrArg (fun w => fieldGet HOST_MGT_BUSY w != 0) (State.reg_put_same s HOST_MGT (s.reg HOST_MGT))

/-- The FIFOs of the UART become these, and HOST_UART_STAT shows it. -/
def State.UartFifos (s t : State) (tx rx : List Byte) : Prop :=
  t.host = { s.host with uartTx := tx, uartRx := rx } ∧ s.RegsBut t [HOST_UART_STAT] ∧
  t.bit HOST_UART_STAT HOST_UART_STAT_TXFULL = decide (64 ≤ tx.length) ∧ t.bit HOST_UART_STAT HOST_UART_STAT_RXAV = !rx.isEmpty

theorem toNat_mod_two_ne_zero (b : Bool) : (b.toNat % 2 ^ 1 != 0) = b := by cases b <;> rfl

theorem State.setUart_fifos (s : State) (tx rx : List Byte) : s.UartFifos (s.setUart tx rx) tx rx := by
  refine ⟨rfl, fun a ha => ?_, ?_, ?_⟩
  · have ha : a ≠ HOST_UART_STAT := by simpa using ha
    exact (State.reg_setF_other _ _ _ _ _ ha).trans (State.reg_setF_other _ _ _ _ _ ha)
  · rw [State.setUart, State.bit_fld, State.fld_setF_apart _ _ _ _ _ (by decide) (by decide),
      State.fld_setF_same _ _ _ _ (by decide)]
    exact toNat_mod_two_ne_zero _
  · rw [State.setUart, State.bit_fld, State.fld_setF_same _ _ _ _ (by decide)]
    exact toNat_mod_two_ne_zero _

theorem State.UartFifos.answered {s t : State} {tx rx : List Byte} (h : s.UartFifos t tx rx) (r : Reply) :
    s.UartFifos (t.answer r) tx rx := h

theorem State.UartFifos.sent {s t : State} {tx rx : List Byte} (h : s.UartFifos t tx rx) (m : OutMsg) :
    s.UartFifos (t.send m) tx rx := h

theorem zeroExtend_byte : ∀ ch : Byte, ((ch.zeroExtend 32 : Word) &&& 0xFFFFFF00 != 0) = false ∧
    (ch.zeroExtend 32 : Word).extractLsb' 0 8 = ch ∧ (ch.zeroExtend 32 : Word).toNat = ch.toNat := by decide +kernel

section
variable {s : State} {q : Req} {ch : Byte}

theorem exec_uartTxWrite (h : s.access q HOST_UART_DATA true = .ok) : exec (.uartTxWrite q ch) s = .next
    ((if 64 ≤ s.host.uartTx.length then s else s.setUart (s.host.uartTx ++ [ch]) s.host.uartRx).answer .done) := by
  obtain ⟨hmask, hlow, -⟩ := zeroExtend_byte ch
  show Host.Outcome.next (s.guardWrite q HOST_UART_DATA fun s => s.uartWrite q (ch.zeroExtend 32)) = _
  rw [State.guardWrite_ok _ h, State.uartWrite, hmask, hlow]
  rfl

theorem exec_uartRxRead (h : s.access q HOST_UART_DATA false = .ok) :
    exec (.uartRxRead q) s = .next (s.uartRead.2.answer (.value s.uartRead.1.toNat)) := by
  show Host.Outcome.next (s.guardRead q HOST_UART_DATA State.uartRead) = _
  rw [State.guardRead_ok _ h]

theorem uartRxRead_spec (h : s.access q HOST_UART_DATA false = .ok) :
    (s.host.uartRx = [] → s.Does (.uartRxRead q) fun t => t.reply = .value 0 ∧ t.host = s.host ∧ s.RegsBut t []) ∧
    (∀ c l, s.host.uartRx = c :: l → s.Does (.uartRxRead q) fun t =>
      t.reply = .value c.toNat ∧ s.UartFifos t s.host.uartTx l) := by
  have hexec := exec_uartRxRead h
  constructor
  · intro hrx
    rw [show s.uartRead = (0, s) by rw [State.uartRead, hrx]] at hexec
    exact ⟨_, hexec, rfl, rfl, fun _ _ => rfl⟩
  · intro c l hrx
    rw [show s.uartRead = (c.zeroExtend 32, s.setUart s.host.uartTx l) by rw [State.uartRead, hrx]] at hexec
    exact ⟨_, hexec, congrArg Reply.value (zeroExtend_byte c).2.2, (s.setUart_fifos _ _).answered _⟩

theorem exec_uartRxChar (h : bitOf (s.reg SYS_CLK_LOCK).toNat 28 = true) : exec (.uartRxChar ch) s =
    .next (if s.host.uartRx.length < 64 then s.setUart s.host.uartTx (s.host.uartRx ++ [ch])
      else s.setF HOST_UART_STAT HOST_UART_STAT_OVR 1) := by
  have hrun : s.uartRuns = true := h
  show Host.Outcome.next (if !s.uartRuns then s else _) = _
  rw [hrun]
  rfl

theorem uart_stopped (h : bitOf (s.reg SYS_CLK_LOCK).toNat 28 = false) :
    exec (.uartRxChar ch) s = .next s ∧ exec .uartCharSent s = .next s := by
  have hrun : s.uartRuns = false := h
  constructor
  · show Host.Outcome.next (if !s.uartRuns then s else _) = _
    rw [hrun]
    rfl
  · show execUartCharSent s = _
    rw [execUartCharSent, hrun]

theorem exec_uartCharSent_empty (h : s.host.uartTx = []) : exec .uartCharSent s = .next s := by
  show execUartCharSent s = _
  rw [execUartCharSent, h]
  cases s.uartRuns <;> rfl

theorem exec_uartCharSent (hrun : bitOf (s.reg SYS_CLK_LOCK).toNat 28 = true) {c : Byte} {l : List Byte}
    (h : s.host.uartTx = c :: l) : exec .uartCharSent s = .next ((s.setUart l s.host.uartRx).send (.uart c)) := by
  show execUartCharSent s = _
  rw [execUartCharSent, show s.uartRuns = true from hrun, h]

end

/-! ### Completions (Table 16.3, R562) -/

/-- The queue pair after a completion is written. -/
def Qp.completed (x : Qp) (size : Nat) : Qp :=
  { x with
    cqTail := (x.cqTail + 1) % size
    phase := (if (x.cqTail + 1) % size = 0 then !x.phase else x.phase)
    sent := true }

/-- The completion of a command that is not journalled. -/
def completionOf (c : HCmd) (x : Qp) (st d : Nat) : OutMsg :=
  .completion c.qp x.cqTail (bytesOf 8 0 ++ bytesOf 2 (c.at 2 2) ++ bytesOf 2 x.sqHead ++ bytesOf 1 st ++ bytesOf 1 d ++
    bytesOf 1 x.phase.toNat ++ bytesOf 1 0)

/-- From `s` to `t` a command of a queue pair got its completion. -/
structure State.Completes (s t : State) (c : HCmd) (st d : Nat) : Prop where
  pair : t.qp c.qp = (s.qp c.qp).completed (s.cqSize c.qp)
  cmds : t.host.cmds = s.host.cmds
  rest : t = { s with host := t.host, out := t.out }
  kept : ∀ m ∈ s.out, m ∈ t.out
  sent : completionOf c (s.qp c.qp) st d ∈ t.out

theorem State.complete_completes (s : State) {c : HCmd} (ho : c.origin = none) (hd : c.dropped = false) (st d : Nat) :
    s.Completes (s.complete c st d false) c st d := by
  have hqp (t : State) : (t.setQp c.qp ((s.qp c.qp).completed (s.cqSize c.qp))).qp c.qp =
      (s.qp c.qp).completed (s.cqSize c.qp) := by rw [State.qp_setQp, if_pos rfl]
  let t := (s.send (completionOf c (s.qp c.qp) st d)).setQp c.qp ((s.qp c.qp).completed (s.cqSize c.qp))
  have he : s.complete c st d false = if (s.qp c.qp).sent then t else t.msix (fnOf c.qp) 0 := by
    unfold State.complete
    rw [hd, ho]
    rfl
  rw [he]
  split
  · exact ⟨hqp _, rfl, rfl, fun m hm => List.mem_append_left _ hm, List.mem_append_right _ (List.mem_singleton_self _)⟩
  · exact ⟨hqp _, rfl, rfl, fun m hm => List.mem_append_left _ (List.mem_append_left _ hm),
      List.mem_append_left _ (List.mem_append_right _ (List.mem_singleton_self _))⟩

/-! ### Reading of commands (R558-R560, R563) -/

/-- Does an operation of the command go into the journal? -/
def HCmd.journalled (c : HCmd) : Bool := match c.op with | some o => o.journalled | none => false

/-- A queue pair's turn has come. -/
def State.turnTo (s : State) (n : Nat) : State := { s with host := { s.host with last := n } }

/-- Its head moves past the command that was read. -/
def State.headPast (s : State) (n : Nat) : State :=
  (s.turnTo n).setQp n { s.qp n with sqHead := ((s.qp n).sqHead + 1) % s.sqSize n }

/-- A command goes on as its checks say. -/
def State.fetchChecked (s : State) (n : Nat) (c : HCmd) (payload : Option (List Byte)) : Nat → State
  | 0 => s.hostTake c
  | k => (if k = 0x0A ∧ payload.isNone ∧ c.paddr % 8 = 0 then s.qpReadError n else s).complete c k 0 false

section
variable {s : State} {body : Option (BitVec 512)} {payload : Option (List Byte)} {n : Nat}

theorem exec_commandFetch_idle (h : s.hostReads = false ∨ s.hostTurn = none) : exec (.commandFetch body payload) s = .next s := by
  show execCommandFetch body payload s = _
  unfold execCommandFetch
  cases hr : s.hostReads with
  | false => rfl
  | true =>
    rw [h.resolve_left (by rw [hr]; decide)]
    rfl

variable (hr : s.hostReads = true) (hn : s.hostTurn = some n)
include hr hn

theorem exec_commandFetch_failed : exec (.commandFetch none payload) s = .next ((s.turnTo n).qpReadError n) := by
  show execCommandFetch none payload s = _
  unfold execCommandFetch
  rw [hr, hn]
  rfl

theorem exec_commandFetch_waits {b : BitVec 512}
    (hw : (decide (s.jnl.tokens = 0) && (s.readCmd n b (payload.getD [])).journalled && s.hostLocal (s.readCmd n b (payload.getD []))) = true) :
    exec (.commandFetch (some b) payload) s = .next ((s.turnTo n).setF JNL_STATUS JNL_STATUS_RWAIT 1) := by
  show execCommandFetch (some b) payload s = _
  unfold execCommandFetch
  rw [hr, hn]
  exact congrArg Host.Outcome.next (if_pos hw)

theorem exec_commandFetch_read {b : BitVec 512}
    (hw : (decide (s.jnl.tokens = 0) && (s.readCmd n b (payload.getD [])).journalled && s.hostLocal (s.readCmd n b (payload.getD []))) = false) :
    exec (.commandFetch (some b) payload) s = .next ((s.headPast n).fetchChecked n (s.readCmd n b (payload.getD [])) payload
      (s.hostCheckAll (s.readCmd n b (payload.getD [])) payload)) := by
  show execCommandFetch (some b) payload s = _
  unfold execCommandFetch
  rw [hr, hn]
  refine (congrArg Host.Outcome.next (if_neg (ne_true_of_eq_false hw))).trans (congrArg Host.Outcome.next ?_)
  rfl

end

/-! ### What becomes of a command that is read -/

theorem State.headPast_qp (s : State) (n : Nat) :
    (s.headPast n).qp n = { s.qp n with sqHead := ((s.qp n).sqHead + 1) % s.sqSize n } := by
  rw [State.headPast, State.qp_setQp, if_pos rfl]

theorem State.qpReadError_shows (s : State) (n : Nat) : (s.qpReadError n).qp n = { s.qp n with stopped := true } ∧
    (s.qpReadError n).bit (QP_STATUS n) QP_STATUS_ERR = true ∧ (s.qpReadError n).occurred 0x7E6 = true :=
  ⟨by rw [State.qpReadError, State.qp_setQp, if_pos rfl], s.qpErr_bit n, State.occurred_occur _ 0x7E6⟩

/-- A read error of the queue pair leaves the commands, the journal, the memory and what is sent. -/
theorem State.qpReadError_keeps (s : State) (n : Nat) : (s.qpReadError n).host.cmds = s.host.cmds ∧
    (s.qpReadError n).jnl = s.jnl ∧ (s.qpReadError n).mem = s.mem := ⟨rfl, rfl, rfl⟩

/-- A command that fails a check completes with its status. -/
theorem State.fetchChecked_fails {s : State} {n : Nat} {c : HCmd} {payload : Option (List Byte)} {k : Nat} (hk : k ≠ 0)
    (h : payload ≠ none ∨ k ≠ 0x0A) : s.fetchChecked n c payload k = s.complete c k 0 false := by
  match k, hk with
  | k + 1, _ =>
    refine congrArg (fun t => State.complete t c (k + 1) 0 false) (if_neg ?_)
    rintro ⟨hk, hp, -⟩
    rcases h with h | h
    · exact h (Option.isNone_iff_eq_none.mp hp)
    · exact h hk

/-- A payload that could not be read stops the queue pair. -/
theorem State.fetchChecked_unread (s : State) (n : Nat) (c : HCmd) : s.fetchChecked n c none 0x0A =
    (if c.paddr % 8 = 0 then s.qpReadError n else s).complete c 0x0A 0 false := by
  have hif : (0x0A = 0x0A ∧ (none : Option (List Byte)).isNone ∧ c.paddr % 8 = 0) ↔ c.paddr % 8 = 0 := by simp
  show (if 0x0A = 0x0A ∧ (none : Option (List Byte)).isNone ∧ c.paddr % 8 = 0 then s.qpReadError n else s).complete c 0x0A 0 false = _
  rw [if_congr hif rfl rfl]

theorem State.op_of_checked {s : State} {c : HCmd} {payload : Option (List Byte)} (h : s.hostCheckAll c payload = 0) :
    ∃ o, c.op = some o := by
  cases ho : c.op with
  | some o => exact ⟨o, rfl⟩
  | none =>
    unfold State.hostCheckAll at h
    rw [ho] at h
    exact absurd h Nat.one_ne_zero

/-- A command of this device that is not journalled is kept for its own row. -/
theorem State.hostTake_kept {s : State} {c : HCmd} {o : HOp} (hl : s.hostLocal c = true) (ho : c.op = some o)
    (hj : c.journalled = false) : s.hostTake c = s.setCmds (s.host.cmds ++ [c]) := by
  have hoj : o.journalled = false := by simpa [HCmd.journalled, ho] using hj
  unfold State.hostTake
  rw [hl, ho]
  exact if_neg (ne_true_of_eq_false hoj)

theorem State.hostTake_journalled {s : State} {c : HCmd} {o : HOp} (hl : s.hostLocal c = true) (ho : c.op = some o)
    (hj : c.journalled = true) : s.hostTake c = s.journal c := by
  have hoj : o.journalled = true := by simpa [HCmd.journalled, ho] using hj
  unfold State.hostTake
  rw [hl, ho]
  exact if_pos hoj

theorem State.nvmServing_congr {s t : State} (h : t.reg NVM_STATUS = s.reg NVM_STATUS) (line : Nat) :
    t.nvmServing line = s.nvmServing line := by
  unfold State.nvmServing State.halfFailed State.bit State.fld
  rw [h]

theorem State.twinPrimary_congr {s t : State} (h : t.reg TWIN_STATUS = s.reg TWIN_STATUS) :
    t.twinPrimary = s.twinPrimary ∧ t.twinState = s.twinState := by
  unfold State.twinPrimary State.twinState State.fld
  rw [h]
  exact ⟨rfl, rfl⟩

/-- The command as the journal takes it: its sequence and its place. -/
def State.numbered (s : State) (c : HCmd) : HCmd :=
  { c with seq := s.jnl.last + 1, pos := s.jnlPlace s.jnl.pos, phase := .first }

/-- The journal counts a command; JNL_POS shows the next place. -/
def State.journalCounted (s : State) : State :=
  let next := s.jnlPlace ((s.jnlPlace s.jnl.pos + 1) % 131072)
  { s with jnl := { s.jnl with last := s.jnl.last + 1, pos := next, tokens := s.jnl.tokens - 1 } }.setF JNL_POS JNL_POS_POS next

/-- Its first line is queued. -/
def State.journalQueued (s : State) (c : HCmd) : State :=
  (s.journalCounted.setCmds (s.host.cmds ++ [s.numbered c])).nvmQueue (jnlLine (s.jnlPlace s.jnl.pos))
    (wordsOf (s.numbered c).first) (.jnl (s.jnl.last + 1) false)

theorem State.reg_nvmQueue (s : State) (line : Nat) (d : List Word) (u : NvmUse) (a : Nat) :
    (s.nvmQueue line d u).reg a = s.reg a := rfl

theorem State.journalQueued_shows (s : State) (c : HCmd) :
    (s.journalQueued c).host = { s.host with cmds := s.host.cmds ++ [s.numbered c] } ∧
    (s.journalQueued c).jnl.last = s.jnl.last + 1 ∧ (s.journalQueued c).jnl.tokens = s.jnl.tokens - 1 ∧
    (s.journalQueued c).jnl.pos = s.jnlPlace ((s.jnlPlace s.jnl.pos + 1) % 131072) ∧
    (s.journalQueued c).jnl.head = s.jnl.head ∧
    (s.journalQueued c).mem.nvmQ = s.mem.nvmQ ++
      [⟨jnlLine (s.jnlPlace s.jnl.pos), wordsOf (s.numbered c).first, .jnl (s.jnl.last + 1) false⟩] := by
  rw [State.journalQueued, State.setCmds_rest]
  dsimp only [State.nvmQueue, State.journalCounted, State.setF, State.put]
  exact ⟨rfl, rfl, rfl, rfl, rfl, rfl⟩

/-- The journal fails where no half serves the line, and sends the command on in MIRROR. -/
theorem State.journal_eq (s : State) (c : HCmd) : ∃ x m, s.journal c =
    if ((s.journalCounted.setCmds (s.host.cmds ++ [s.numbered c])).nvmServing (jnlLine (s.jnlPlace s.jnl.pos))).isEmpty then x
    else if (s.journalQueued c).twinPrimary && (s.journalQueued c).twinState == twMirror then m else s.journalQueued c :=
  ⟨_, _, rfl⟩

/-- Outside MIRROR a journalled command is counted, listed, and its first line queued. -/
theorem State.journal_queued {s : State} {c : HCmd} (hs : s.nvmServing (jnlLine (s.jnlPlace s.jnl.pos)) ≠ [])
    (ht : s.twinPrimary = false ∨ s.twinState ≠ twMirror) :
    s.journal c = s.journalQueued c := by
  have hreg {a : Nat} (ha : a < 2 ^ 32) (hp : a ≠ JNL_POS) (hi : a ≠ JNL_INFL) :
      (s.journalCounted.setCmds (s.host.cmds ++ [s.numbered c])).reg a = s.reg a :=
    (State.reg_setCmds _ _ hi (qpStatus_ne ha)).trans (State.reg_setF_other _ _ _ _ _ hp)
  have hserve : ((s.journalCounted.setCmds (s.host.cmds ++ [s.numbered c])).nvmServing (jnlLine (s.jnlPlace s.jnl.pos))).isEmpty = false := by
    rw [State.nvmServing_congr (hreg (by decide) (by decide) (by decide))]
    exact List.isEmpty_eq_false_iff.mpr hs
  have htwin (v : State) (hv : v.reg TWIN_STATUS = s.reg TWIN_STATUS) : (v.twinPrimary && v.twinState == twMirror) = false := by
    obtain ⟨hp, hst⟩ := State.twinPrimary_congr hv
    rw [hp, hst]
    rcases ht with h | h
    · rw [h]; rfl
    · rw [beq_false_of_ne h, Bool.and_false]
  obtain ⟨x, m, he⟩ := s.journal_eq c
  rw [he, if_neg (ne_true_of_eq_false hserve), 
    if_neg (ne_true_of_eq_false (htwin (s.journalQueued c) ((State.reg_nvmQueue _ _ _ _ _).trans
      (hreg (by decide) (by decide) (by decide)))))]

/-- The command that waits for the answer of another device. -/
def State.forwardedAs (s : State) (c : HCmd) : HCmd :=
  { c with phase := .forwarded, seq := tblGet (fun _ => 0) s.leat.seqs c.dev }

/-- What the other device is sent. -/
def State.forwardReq (s : State) (c : HCmd) : LReq :=
  ⟨tblGet (fun _ => 0) s.leat.seqs c.dev, c.dev, .benmos, tblGet (fun _ => 0) s.leat.seqs c.dev :: c.req :: c.gen ::
    ([0] ++ natsOf (bytesOf 64 c.body.toNat) ++ natsOf c.payload), 1, .benmos c.qp (c.at 2 2)⟩

/-- The request to it is open. -/
def State.forwardOpened (s : State) (c : HCmd) : State :=
  { s with leat := { s.leat with
    seqs := tblSet (fun _ => 0) s.leat.seqs c.dev ((tblGet (fun _ => 0) s.leat.seqs c.dev + 1) % 65536)
    reqs := s.leat.reqs ++ [s.forwardReq c] } }

theorem State.request_forward (s : State) (c : HCmd) :
    s.request .benmos c.dev c.req c.gen ([0] ++ natsOf (bytesOf 64 c.body.toNat) ++ natsOf c.payload) (.benmos c.qp (c.at 2 2)) =
      (s.forwardOpened c).chainSend .benmos c.dev (s.forwardReq c).args := rfl

theorem State.hostTake_forwarded {s : State} {c : HCmd} (hl : s.hostLocal c = false) (hsb : s.pwr.standby = false)
    (ht : s.twinStandby = false) :
    (s.hostTake c).host = { s.host with cmds := s.host.cmds ++ [s.forwardedAs c] } ∧ (s.hostTake c).jnl = s.jnl ∧
      s.forwardReq c ∈ (s.hostTake c).leat.reqs ∧ (.leat .benmos c.dev (s.forwardReq c).args : OutMsg) ∈ (s.hostTake c).out := by
  obtain ⟨u, hset⟩ : ∃ u, s.setCmds (s.host.cmds ++ [s.forwardedAs c]) = u := ⟨_, rfl⟩
  have hu : u = { s with host := { s.host with cmds := s.host.cmds ++ [s.forwardedAs c] }, regs := u.regs } := by
    rw [← hset]; exact s.setCmds_rest _
  have htake : s.hostTake c = (u.forwardOpened c).chainSend .benmos c.dev (u.forwardReq c).args := by
    rw [← State.request_forward, ← hset, State.hostTake, hl]
    rfl
  have hleat : u.leat = s.leat := by rw [hu]
  have hreq : u.forwardReq c = s.forwardReq c := by unfold State.forwardReq; rw [hleat]
  have hsilent : (u.forwardOpened c).silent = false := by
    have htw : u.reg TWIN_STATUS = s.reg TWIN_STATUS := by
      rw [← hset]; exact s.reg_setCmds _ (by decide) (qpStatus_ne (by decide))
    have hstand : u.pwr.standby = false := by rw [hu]; exact hsb
    have htwin : u.twinStandby = false := by rw [State.twinStandby, State.fld, htw]; exact ht
    show (u.pwr.standby || u.twinStandby) = false
    rw [hstand, htwin]; rfl
  rw [htake, State.chainSend_eq (by decide) (by decide), hsilent, hreq]
  refine ⟨?_, ?_, List.mem_append_right _ (by rw [hreq]; exact List.mem_singleton_self _), List.mem_append_right _ (List.mem_singleton_self _)⟩
  · show u.host = _; rw [hu]
  · show u.jnl = _; rw [hu]

section
variable {s : State} {payload : Option (List Byte)} {n : Nat} {b : BitVec 512}

theorem commandFetch_failed (hr : s.hostReads = true) (hn : s.hostTurn = some n) : s.Does (.commandFetch none payload) fun t =>
    t.qp n = { s.qp n with stopped := true } ∧ t.host.last = n ∧ t.bit (QP_STATUS n) QP_STATUS_ERR = true ∧
    t.occurred 0x7E6 = true ∧ t.host.cmds = s.host.cmds := by
  obtain ⟨hqp, herr, hocc⟩ := (s.turnTo n).qpReadError_shows n
  exact ⟨_, exec_commandFetch_failed hr hn, hqp, rfl, herr, hocc, rfl⟩

theorem commandFetch_waits (hr : s.hostReads = true) (hn : s.hostTurn = some n)
    (hw : (decide (s.jnl.tokens = 0) && (s.readCmd n b (payload.getD [])).journalled &&
      s.hostLocal (s.readCmd n b (payload.getD []))) = true) :
    s.Does (.commandFetch (some b) payload) fun t => t.bit JNL_STATUS JNL_STATUS_RWAIT = true ∧ s.RegsBut t [JNL_STATUS] ∧
      t.qp n = s.qp n ∧ t.host.cmds = s.host.cmds ∧ t.mem = s.mem :=
  ⟨_, exec_commandFetch_waits hr hn hw, State.bit_setF_one (s.turnTo n) JNL_STATUS (by decide),
    fun a ha => State.reg_setF_other (s.turnTo n) JNL_STATUS a _ _ (by simpa using ha), rfl, rfl, rfl⟩

/-- The command that is read and its queue pair, after the read. -/
def State.TookFrom (s t : State) (n : Nat) : Prop :=
  { s.qp n with sqHead := ((s.qp n).sqHead + 1) % s.sqSize n } = t.qp n ∨ t.qp n =
    { s.qp n with sqHead := ((s.qp n).sqHead + 1) % s.sqSize n, cqTail := ((s.qp n).cqTail + 1) % s.cqSize n,
                  phase := if ((s.qp n).cqTail + 1) % s.cqSize n = 0 then !(s.qp n).phase else (s.qp n).phase, sent := true }

theorem State.tookFrom_of_host {s t : State} (h : t.qp n = (s.headPast n).qp n) : s.TookFrom t n :=
  .inl (h.trans (s.headPast_qp n)).symm

section
variable {c : HCmd} (ho : c.origin = none) (hd : c.dropped = false) (hq : c.qp = n)
include ho hd hq

theorem fetchChecked_fails_spec {k : Nat} (hk : k ≠ 0) (h : payload ≠ none ∨ k ≠ 0x0A) :
    let t := (s.headPast n).fetchChecked n c payload k
    s.TookFrom t n ∧ t.host.cmds = s.host.cmds ∧ t.jnl = s.jnl ∧ t.mem = s.mem ∧
      (.completion n (s.qp n).cqTail (bytesOf 8 0 ++ bytesOf 2 (c.at 2 2) ++ bytesOf 2 (((s.qp n).sqHead + 1) % s.sqSize n) ++
        bytesOf 1 k ++ bytesOf 1 0 ++ bytesOf 1 (s.qp n).phase.toNat ++ bytesOf 1 0) : OutMsg) ∈ t.out := by
  intro t
  have ht : t = (s.headPast n).complete c k 0 false := State.fetchChecked_fails hk h
  obtain ⟨hpair, hcmds, hrest, -, hsent⟩ := (s.headPast n).complete_completes ho hd k 0
  rw [← ht, hq, State.headPast_qp] at hpair
  rw [completionOf, hq, State.headPast_qp, ← ht] at hsent
  rw [← ht] at hcmds hrest
  exact ⟨.inr hpair, hcmds, by rw [hrest]; rfl, by rw [hrest]; rfl, hsent⟩

theorem fetchChecked_unread_spec :
    let t := (s.headPast n).fetchChecked n c none 0x0A
    (t.qp n).stopped = ((s.qp n).stopped || decide (c.paddr % 8 = 0)) ∧ t.host.cmds = s.host.cmds ∧ t.jnl = s.jnl ∧
      t.mem = s.mem ∧ (c.paddr % 8 = 0 → t.bit (QP_STATUS n) QP_STATUS_ERR = true ∧ t.occurred 0x7E6 = true) := by
  intro t
  have ht : t = (if c.paddr % 8 = 0 then (s.headPast n).qpReadError n else s.headPast n).complete c 0x0A 0 false :=
    (s.headPast n).fetchChecked_unread n c
  by_cases h8 : c.paddr % 8 = 0
  · rw [if_pos h8] at ht
    obtain ⟨hpair, hcmds, hrest, -, -⟩ := ((s.headPast n).qpReadError n).complete_completes ho hd 0x0A 0
    obtain ⟨hqp, herr, hocc⟩ := (s.headPast n).qpReadError_shows n
    rw [← ht, hq] at hpair
    rw [← ht] at hcmds hrest
    refine ⟨?_, hcmds, by rw [hrest]; rfl, by rw [hrest]; rfl, fun _ => ⟨by rw [hrest]; exact herr, by rw [hrest]; exact hocc⟩⟩
    rw [hpair, Qp.completed, hqp, decide_eq_true h8, Bool.or_true]
  · rw [if_neg h8] at ht
    obtain ⟨hpair, hcmds, hrest, -, -⟩ := (s.headPast n).complete_completes ho hd 0x0A 0
    rw [← ht, hq] at hpair
    rw [← ht] at hcmds hrest
    refine ⟨?_, hcmds, by rw [hrest]; rfl, by rw [hrest]; rfl, fun h => absurd h h8⟩
    rw [hpair, Qp.completed, State.headPast_qp, decide_eq_false h8, Bool.or_false]

end

section
variable {c : HCmd} {o : HOp} (ho : c.op = some o)
include ho

theorem hostTake_kept_spec (hl : s.hostLocal c = true) (hj : c.journalled = false) :
    let t := (s.headPast n).hostTake c
    s.TookFrom t n ∧ t.host.cmds = s.host.cmds ++ [c] ∧ t.jnl = s.jnl ∧ t.mem = s.mem ∧ t.out = s.out := by
  intro t
  have ht : t = (s.headPast n).setCmds (s.host.cmds ++ [c]) := State.hostTake_kept hl ho hj
  rw [ht, State.setCmds_rest]
  exact ⟨State.tookFrom_of_host rfl, rfl, rfl, rfl, rfl⟩

theorem hostTake_journalled_spec (hl : s.hostLocal c = true) (hj : c.journalled = true)
    (hs : s.nvmServing (jnlLine (s.jnlPlace s.jnl.pos)) ≠ []) (ht : s.twinPrimary = false ∨ s.twinState ≠ twMirror) :
    let t := (s.headPast n).hostTake c
    s.TookFrom t n ∧ t.jnl.last = s.jnl.last + 1 ∧ t.jnl.tokens = s.jnl.tokens - 1 ∧
      t.jnl.pos = s.jnlPlace ((s.jnlPlace s.jnl.pos + 1) % 131072) ∧ t.jnl.head = s.jnl.head ∧
      t.host.cmds = s.host.cmds ++ [s.numbered c] ∧ t.mem.nvmQ = s.mem.nvmQ ++ [⟨jnlLine (s.jnlPlace s.jnl.pos),
        wordsOf (bytesOf 56 c.body.toNat ++ bytesOf 8 (s.jnl.last + 1)), .jnl (s.jnl.last + 1) false⟩] := by
  intro t
  have hplace (p : Nat) : (s.headPast n).jnlPlace p = s.jnlPlace p := rfl
  have hnum : (s.headPast n).numbered c = s.numbered c := rfl
  have hj' : (s.headPast n).jnl = s.jnl := rfl
  have hte : t = (s.headPast n).journalQueued c :=
    (State.hostTake_journalled (s := s.headPast n) hl ho hj).trans
      (State.journal_queued (s := s.headPast n) (by rw [hplace, hj']; exact hs) ht)
  have hfirst : (s.numbered c).first = bytesOf 56 c.body.toNat ++ bytesOf 8 (s.jnl.last + 1) := rfl
  obtain ⟨hhost, hlast, htokens, hpos, hhead, hq⟩ := (s.headPast n).journalQueued_shows c
  rw [hplace, hplace, hj'] at hpos
  rw [hplace, hnum, hj', hfirst] at hq
  rw [hte]
  refine ⟨State.tookFrom_of_host ?_, hlast, htokens, hpos, hhead, by rw [hhost, hnum]; rfl, hq⟩
  unfold State.qp
  rw [hhost]

end

theorem hostTake_forwarded_spec {c : HCmd} (hl : s.hostLocal c = false) (hsb : s.pwr.standby = false) (ht : s.twinStandby = false)
    (hq : c.qp = n) :
    let t := (s.headPast n).hostTake c
    s.TookFrom t n ∧ t.jnl = s.jnl ∧ ∃ seq, t.host.cmds = s.host.cmds ++ [{ c with phase := .forwarded, seq := seq }] ∧
      ∃ r ∈ t.leat.reqs, r.dst = c.dev ∧ r.seq = seq ∧ r.kind = .benmos ∧ r.who = .benmos n (c.at 2 2) ∧
        (.leat .benmos c.dev r.args : OutMsg) ∈ t.out := by
  obtain ⟨hhost, hjnl, hreq, hout⟩ := State.hostTake_forwarded (s := s.headPast n) hl hsb ht
  subst hq
  refine ⟨State.tookFrom_of_host ?_, hjnl, _, by rw [hhost]; rfl, _, hreq, rfl, rfl, rfl, rfl, hout⟩
  unfold State.qp
  rw [hhost]

end

/-- An engine that reads commands sends packets too. -/
theorem State.hostReads_active {s : State} (h : s.hostReads = true) : s.pwr.standby = false ∧ s.twinStandby = false := by
  simp only [State.hostReads, Bool.and_eq_true, Bool.not_eq_true'] at h
  obtain ⟨⟨⟨⟨⟨-, -⟩, -⟩, htwin⟩, hstandby⟩, -⟩ := h
  exact ⟨hstandby, htwin⟩

/-- Settles O38: the registers of a queue pair by their checks, the reading of commands by what the engine, the read and the
checks say, then the bucket, the mailbox, the UART and the link. -/
theorem hostInterface : Obligations.HostInterface := by
  intro s q pair v ch up speed width body payload
  refine ⟨?halted, fun h18 h => qpEnable_refused v h18 h, fun h18 hon henc ha => qpEnable_taken v h18 hon henc ha, ?off,
    ?disable, ⟨?sqTaken, fun h18 h => sqDoorbell_refused h18 h⟩, ⟨?cqTaken, fun h18 h => cqDoorbell_refused h18 h⟩, ⟨?idle, ?fetch⟩,
    jnlBucketRefill_spec s, fun h => ⟨mgtGo_spec h, mgtDone_spec h⟩, ?uart, pcieLinkChange_spec s up speed width, perst_spec s⟩
  case halted =>
    obtain ⟨_, hcfg, -⟩ := qpKey_cfg pair
    obtain ⟨_, hsq, -⟩ := qpKey_sqTail pair
    obtain ⟨_, hcq, -⟩ := qpKey_cqHead pair
    rintro h c (rfl | rfl | rfl | rfl)
    · exact congrArg Host.Outcome.next (State.qpWrite_halted pair hcfg h)
    · refine congrArg Host.Outcome.next ?_
      rw [State.qpWrite_halted pair hcfg h, ite_self]
    · exact congrArg Host.Outcome.next (State.qpWrite_halted pair hsq h)
    · exact congrArg Host.Outcome.next (State.qpWrite_halted pair hcq h)
  case off => exact fun hoff => congrArg Host.Outcome.next (if_neg (ne_true_of_eq_false hoff))
  case disable =>
    intro h18 hon henc
    obtain ⟨t, ht, hcfg, hoff, hothers, hout, hfree⟩ := qpDisable_taken h18 hon (by rwa [fieldsAt_qpCfg] at henc ⊢)
    exact ⟨t, ht, hcfg, hoff, hothers, fun m hm => .inl (by rwa [hout] at hm), hfree⟩
  case sqTaken =>
    intro h18 h
    obtain ⟨t, ht, hpair, hothers, hregs, hout, hnoted⟩ := sqDoorbell_taken h18 h
    exact ⟨t, ht, hpair, hothers, hregs, hout, hnoted⟩
  case cqTaken =>
    intro h18 h
    obtain ⟨t, ht, hpair, hothers, hregs, hout, hnoted⟩ := cqDoorbell_taken h18 h
    exact ⟨t, ht, hpair, hothers, hout, hregs, hnoted⟩
  case idle => exact fun h => exec_commandFetch_idle h
  case fetch =>
    intro hr n hn
    refine ⟨fun hb => by subst hb; exact commandFetch_failed hr hn, ?_⟩
    rintro b rfl
    refine ⟨fun hw => commandFetch_waits hr hn hw, fun hw hk hp => ⟨_, exec_commandFetch_read hr hn hw,
      fetchChecked_fails_spec (s := s) (c := s.readCmd n b (payload.getD [])) rfl rfl rfl hk hp⟩, fun hw hp hk => ?_, fun hw hk => ?_⟩
    · subst hp
      have hexec := exec_commandFetch_read hr hn hw
      rw [hk] at hexec
      exact ⟨_, hexec, fetchChecked_unread_spec (s := s) (c := s.readCmd n b []) rfl rfl rfl⟩
    · obtain ⟨o, ho⟩ := State.op_of_checked hk
      obtain ⟨hsb, htw⟩ := State.hostReads_active hr
      have hexec := exec_commandFetch_read hr hn hw
      rw [hk] at hexec
      exact ⟨fun hl hj => ⟨_, hexec, hostTake_kept_spec ho hl hj⟩,
        fun hl hj hs ht => ⟨_, hexec, hostTake_journalled_spec ho hl hj hs ht⟩,
        fun hl => ⟨_, hexec, hostTake_forwarded_spec hl hsb htw rfl⟩⟩
  case uart =>
    refine ⟨fun h => ⟨fun hlt => ⟨_, exec_uartTxWrite h, ?_⟩, fun hge => ⟨_, exec_uartTxWrite h, ?_⟩⟩, fun h => uartRxRead_spec h,
      fun h => uart_stopped h, fun h => exec_uartCharSent_empty h, fun h hlt => ⟨_, exec_uartRxChar h, ?_⟩,
      fun h hge => ⟨_, exec_uartRxChar h, ?_⟩,
      fun h c l htx => ⟨_, exec_uartCharSent h htx, (s.setUart_fifos _ _).sent _, rfl⟩⟩
    · rw [if_neg (Nat.not_le.mpr hlt)]
      exact (s.setUart_fifos _ _).answered _
    · rw [if_pos hge]
      rfl
    · rw [if_pos hlt]
      exact s.setUart_fifos _ _
    · rw [if_neg (Nat.not_lt.mpr hge)]
      exact ⟨⟨State.fld_setF_same _ _ _ _ (by decide), fun g hg => State.fld_setF_apart _ _ _ g _ (by decide) hg⟩,
        fun a ha => State.reg_setF_other _ _ a _ _ (by simpa using ha), rfl⟩

end Sys2Proof.Machine

end

section

/-! SUPPORT. The execution of Benmos commands, row by row: how a command ends or goes on, BIND, POST and its mailbox slot,
INST, MAILBOX_DONE and the reads (R33, R34, R433, R566-R570). -/

namespace Sys2Proof.Machine

/-! ### Completions and ends of commands (R426, R429, R562, R567) -/

/-- A completion goes to the host or to the device that forwarded the command, and changes nothing else. -/
theorem State.complete_rest (s : State) (c : HCmd) (st d : Nat) (j : Bool) :
    (s.complete c st d j).host.cmds = s.host.cmds ∧ s.complete c st d j = { s with
      host := (s.complete c st d j).host, leat := (s.complete c st d j).leat, out := (s.complete c st d j).out } := by
  unfold State.complete
  extract_lets seq x bytes t u v
  split
  · exact ⟨rfl, rfl⟩
  · split
    · rw [State.answered_eq]; exact ⟨rfl, rfl⟩
    · split <;> exact ⟨rfl, rfl⟩

/-- The count that an increment gives depends on the counters and the loads on their way. -/
theorem State.ctr_inc_congr {s t : State} (hc : t.ctrs = s.ctrs) (hl : t.ctrLoad = s.ctrLoad) (a b : Nat) :
    (t.inc a).ctr b = (s.inc a).ctr b := by
  have hctrs : (t.inc a).ctrs = (s.inc a).ctrs := by
    unfold State.inc State.ctrApply
    rw [hl]
    cases tblGet (fun _ => none) s.ctrLoad a <;> simp only [State.setCtr, State.ctr, hc]
  exact congrArg (fun l => tblGet ctrZero l b) hctrs

theorem State.host_inc (s : State) (a : Nat) : (s.inc a).host = s.host :=
  congrArg (fun (v : List OutMsg × HostIf × (Nat → Word)) => v.2.1) (s.hostView_inc a)

/-- Is an entry of the list the journalled command c? -/
def HCmd.isEntry (c x : HCmd) : Bool := x.seq == c.seq && x.inJournal

/-- From `u` to `t` the execution of a command ended: its second line is queued, or the entry has failed. -/
def State.EndsAs (u t : State) (c : HCmd) (st d : Nat) : Prop :=
  (u.nvmServing (jnlLine c.pos) ≠ [] →
    t.mem = { u.mem with nvmQ := u.mem.nvmQ ++ [⟨jnlLine c.pos + 1, wordsOf (u.second c st d), .jnl c.seq true⟩] } ∧
    t.host.cmds = u.host.cmds.map (fun x => if c.isEntry x then { x with phase := .ended st d } else x) ∧ t.out = u.out) ∧
  (u.nvmServing (jnlLine c.pos) = [] → t.host.cmds = u.host.cmds.filter (fun x => !(c.isEntry x || x == c)) ∧
    t.occurred 0x7E7 = true ∧ t.ctr JNL_FAIL_LO = (u.inc JNL_FAIL_LO).ctr JNL_FAIL_LO)

theorem filterMap_ite_some {α : Type} (p : α → Bool) (f : α → α) (l : List α) :
    l.filterMap (fun x => if p x then some (f x) else some x) = l.map fun x => if p x then f x else x := by
  have he : (fun x => if p x then some (f x) else some x) = some ∘ fun x => if p x then f x else x :=
    funext fun x => (apply_ite some (p x = true) (f x) x).symm
  rw [he, List.filterMap_eq_map]

theorem filterMap_ite_none {α : Type} (p : α → Bool) (l : List α) :
    l.filterMap (fun x => if p x then none else some x) = l.filter fun x => !p x := by
  rw [← List.filterMap_eq_filter]
  congr 1
  funext x
  cases h : p x <;> simp [Option.guard, h]

theorem State.jnlFailed_eq (u : State) (c : HCmd) : u.jnlFailed c =
    (((u.mapCmd (fun x => c.isEntry x || x == c) fun _ => none).complete c 0x0E 0 false).inc JNL_FAIL_LO).occur 0x7E7 := by
  unfold State.jnlFailed HCmd.isEntry
  rfl

theorem State.endCmd_ends (u : State) (c : HCmd) (st d : Nat) : u.EndsAs (u.endCmd c st d) c st d := by
  constructor
  · intro hs
    have he : u.endCmd c st d = (u.nvmQueue (jnlLine c.pos + 1) (wordsOf (u.second c st d)) (.jnl c.seq true)).mapCmd c.isEntry
        fun x => some { x with phase := .ended st d } := if_neg (by simpa using hs)
    rw [he, State.mapCmd_rest]
    exact ⟨rfl, filterMap_ite_some _ _ _, rfl⟩
  · intro hs
    have he : u.endCmd c st d = u.jnlFailed c := if_pos (by rw [hs]; rfl)
    have hmap := u.mapCmd_rest (fun x => c.isEntry x || x == c) fun _ => none
    obtain ⟨hcmds, hrest⟩ := (u.mapCmd (fun x => c.isEntry x || x == c) fun _ => none).complete_rest c 0x0E 0 false
    rw [he, State.jnlFailed_eq]
    refine ⟨?_, State.occurred_occur _ _, ?_⟩
    · rw [State.occur_host, State.host_inc, hcmds, hmap]
      exact filterMap_ite_none _ _
    · exact State.ctr_inc_congr (by rw [hrest, hmap]) (by rw [hrest, hmap]) _ _

theorem State.inc_rest (s : State) (a : Nat) : s.inc a = { s with ctrs := (s.inc a).ctrs, ctrLoad := (s.inc a).ctrLoad } := by
  unfold State.inc State.ctrApply
  cases tblGet (fun _ => none) s.ctrLoad a <;> rfl

/-- What the end of a command can change. -/
theorem State.endCmd_rest (u : State) (c : HCmd) (st d : Nat) : ∃ regs mem host out leat ctrs ctrLoad irq,
    u.endCmd c st d = { u with
      regs := regs, mem := mem, host := host, out := out, leat := leat, ctrs := ctrs, ctrLoad := ctrLoad, irq := irq } := by
  unfold State.endCmd
  split
  · obtain ⟨m, hm⟩ : ∃ m, u.mapCmd (fun x => c.isEntry x || x == c) (fun _ => none) = m := ⟨_, rfl⟩
    obtain ⟨t, ht⟩ : ∃ t, m.complete c 0x0E 0 false = t := ⟨_, rfl⟩
    have hmap : m = { u with host := m.host, regs := m.regs } := by rw [← hm, State.mapCmd_rest]
    have hrest : t = { m with host := t.host, leat := t.leat, out := t.out } := by rw [← ht]; exact (m.complete_rest c _ _ _).2
    rw [State.jnlFailed_eq, hm, ht, State.inc_rest, hrest, hmap]
    exact ⟨_, _, _, _, _, _, _, _, rfl⟩
  · rw [State.mapCmd_rest]
    exact ⟨_, _, _, _, _, _, _, _, rfl⟩

theorem State.reg_inc (s : State) (a k : Nat) : (s.inc a).reg k = s.reg k := by rw [State.inc_rest]; rfl

theorem State.reg_complete (s : State) (c : HCmd) (st d : Nat) (j : Bool) (a : Nat) : (s.complete c st d j).reg a = s.reg a := by
  rw [(s.complete_rest c st d j).2]; rfl

theorem State.reg_endCmd (u : State) (c : HCmd) (st d : Nat) {a : Nat} (hj : a ≠ JNL_INFL) (hq : ∀ q, a ≠ QP_STATUS q) :
    (u.endCmd c st d).reg a = u.reg a := by
  unfold State.endCmd
  split
  · rw [State.jnlFailed_eq]
    exact (State.reg_inc _ _ _).trans ((State.reg_complete _ _ _ _ _ _).trans (u.reg_mapCmd _ _ hj hq))
  · exact State.reg_mapCmd _ _ _ hj hq

/-! ### What a command comes to -/

/-- From `u` to `t` an accepted command came to a phase. -/
def State.ComesTo (u t : State) (c : HCmd) (p : HPhase) : Prop :=
  t.mem = u.mem ∧ t.out = u.out ∧
  t.host.cmds = u.host.cmds.map (fun x => if x.seq == c.seq && x.phase == .accepted then { x with phase := p } else x)

/-- An accepted command comes to a phase. -/
def State.toPhase (u : State) (c : HCmd) (p : HPhase) : State :=
  u.mapCmd (fun x => x.seq == c.seq && x.phase == .accepted) fun x => some { x with phase := p }

theorem State.toPhase_comesTo (u : State) (c : HCmd) (p : HPhase) : u.ComesTo (u.toPhase c p) c p := by
  unfold State.toPhase
  rw [State.mapCmd_rest]
  exact ⟨rfl, rfl, filterMap_ite_some _ _ _⟩

theorem State.toPhase_slot (u : State) (c : HCmd) (p : HPhase) : (u.toPhase c p).host.slot = u.host.slot := by
  unfold State.toPhase
  rw [State.mapCmd_rest]

/-- A command with another generation fails at its check (Table 16.5). -/
theorem State.hostRun_stale {s : State} {c : HCmd} (hg : c.gchk = true) (hn : s.gen.toNat ≠ c.at 48 4) (far : FarReads)
    (elsewhere : Bool) : s.hostRun c far elsewhere = s.endCmd c 0x0B 0 :=
  if_pos (by rw [hg, bne_iff_ne.mpr hn]; rfl)

section
variable {s u : State} {c : HCmd} {far : FarReads} {elsewhere : Bool} (go : c.gchk = true → s.gen.toNat = c.at 48 4)
include go

theorem State.hostRun_ended {st d : Nat} (h : s.hostDo c far elsewhere = (.ended st d, u)) :
    s.hostRun c far elsewhere = u.endCmd c st d := by
  have hgo : (c.gchk && s.gen.toNat != c.at 48 4) = false := by
    cases hg : c.gchk with
    | false => rfl
    | true => rw [go hg, bne_self_eq_false]; rfl
  unfold State.hostRun
  rw [if_neg (ne_true_of_eq_false hgo), h]

theorem State.hostRun_phase {p : HPhase} (h : s.hostDo c far elsewhere = (p, u)) (hp : ∀ st d, p ≠ .ended st d) :
    s.hostRun c far elsewhere = u.toPhase c p := by
  have hgo : (c.gchk && s.gen.toNat != c.at 48 4) = false := by
    cases hg : c.gchk with
    | false => rfl
    | true => rw [go hg, bne_self_eq_false]; rfl
  unfold State.hostRun
  rw [if_neg (ne_true_of_eq_false hgo), h]
  cases p with
  | ended st d => exact absurd rfl (hp st d)
  | _ => rfl

/-- A result at once, or a wait for the end. -/
theorem State.hostRun_result {wait : Bool} {ok r : Nat} (h : s.hostDo c far elsewhere = (hostResult wait ok r, u)) :
    (wait = true → u.ComesTo (s.hostRun c far elsewhere) c .running) ∧
      (wait = false → u.EndsAs (s.hostRun c far elsewhere) c (if r = ok then 0 else 0x10) r) := by
  cases wait with
  | true =>
    rw [State.hostRun_phase go h (by rintro st d ⟨⟩)]
    exact ⟨fun _ => u.toPhase_comesTo c .running, by rintro ⟨⟩⟩
  | false =>
    rw [State.hostRun_ended go h]
    exact ⟨by rintro ⟨⟩, fun _ => u.endCmd_ends c _ _⟩

end

/-! ### Rows (Tables 16.4 and 16.5, R566) -/

/-- The rows of the commands that execute in order: class, operation, command of the model. -/
def HostRow (far : FarReads) (elsewhere : Bool) (r : Nat × Nat × Instr) : Prop := r ∈
  [((1, 1, .regWrite) : Nat × Nat × Instr), (1, 2, .regWriteN), (1, 3, .bind ⟨far, elsewhere⟩), (1, 4, .epochReq), (1, 5, .applyNow), (2, 1, .post),
    (3, 1, .inst), (3, 2, .twin), (3, 3, .catchup), (3, 4, .tile), (3, 5, .fence)]

section
variable {s : State} {far : FarReads} {elsewhere : Bool}

/-- A row runs the command whose turn it is, if it is one of its; BIND with what it read outside the device. -/
theorem exec_hostRow {r : Nat × Nat × Instr} (h : HostRow far elsewhere r) : ∃ f e,
    (r.1 = 1 → r.2.1 = 3 → f = far ∧ e = elsewhere) ∧ exec r.2.2 s = .next (s.hostRow r.1 r.2.1 f e) := by
  simp only [HostRow, List.mem_cons, List.not_mem_nil, or_false] at h
  rcases h with rfl | rfl | rfl | rfl | rfl | rfl | rfl | rfl | rfl | rfl | rfl
  case inr.inr.inl => exact ⟨far, elsewhere, fun _ _ => ⟨rfl, rfl⟩, rfl⟩
  all_goals exact ⟨[], false, fun h1 h3 => absurd (And.intro h1 h3) (by decide), rfl⟩

theorem State.hostRow_none (h : s.hostNext = none) (cls opc : Nat) : s.hostRow cls opc far elsewhere = s := by
  rw [State.hostRow, h]

theorem State.hostRow_other {c : HCmd} (h : s.hostNext = some c) {cls opc : Nat} (hc : c.cls ≠ cls ∨ c.opc ≠ opc) :
    s.hostRow cls opc far elsewhere = s := by
  rw [State.hostRow, h]
  exact if_neg (by tauto)

theorem State.hostRow_run {c : HCmd} (h : s.hostNext = some c) :
    s.hostRow c.cls c.opc far elsewhere = s.hostRun c far elsewhere := by
  rw [State.hostRow, h]
  exact if_pos ⟨rfl, rfl⟩

theorem exec_commandExecute_none (h : s.hostNext = none) : exec (.commandExecute ⟨far, elsewhere⟩) s = .next s := by
  show execCommandExecute ⟨far, elsewhere⟩ s = _
  rw [execCommandExecute, h]

theorem exec_commandExecute {c : HCmd} (h : s.hostNext = some c) :
    exec (.commandExecute ⟨far, elsewhere⟩) s = .next (s.hostRun c far elsewhere) := by
  show execCommandExecute ⟨far, elsewhere⟩ s = _
  rw [execCommandExecute, h]

/-- What the run of a command does, its row and COMMAND_EXECUTE do. -/
theorem hostRun_rows {c : HCmd} (h : s.hostNext = some c) {P : State → Prop}
    (hP : ∀ f e, (c.cls = 1 → c.opc = 3 → f = far ∧ e = elsewhere) → P (s.hostRun c f e)) :
    s.Does (.commandExecute ⟨far, elsewhere⟩) P ∧
      ∀ r, HostRow far elsewhere r → r.1 = c.cls → r.2.1 = c.opc → s.Does r.2.2 P := by
  refine ⟨⟨_, exec_commandExecute h, hP far elsewhere fun _ _ => ⟨rfl, rfl⟩⟩, fun r hr hcls hopc => ?_⟩
  obtain ⟨f, e, hfar, hexec⟩ := exec_hostRow (s := s) hr
  rw [hcls, hopc, State.hostRow_run h] at hexec
  exact ⟨_, hexec, hP f e fun h1 h3 => hfar (hcls.trans h1) (hopc.trans h3)⟩

end

/-! ### The commands (Tables 16.4, 16.8, R568-R570) -/

section
variable {s u : State} {c : HCmd} {far : FarReads} {elsewhere : Bool} (go : c.gchk = true → s.gen.toNat = c.at 48 4)
include go

theorem hostRun_regWrite (h1 : c.cls = 1) (h2 : c.opc = 1) {x : Option (Bool × Bool)}
    (hw : s.hostWrite c.who (c.arg0 % 2 ^ 32) (BitVec.ofNat 32 (c.arg0 / 2 ^ 32)) = (x, u)) :
    (x = none → u.EndsAs (s.hostRun c far elsewhere) c (if c.who = .remote then 4 else 0x10) 0) ∧
      ∀ f, x = some f → u.EndsAs (s.hostRun c far elsewhere) c 0 (f.1.toNat + 2 * f.2.toNat) := by
  constructor
  · rintro rfl
    have hdo : s.hostDo c far elsewhere = (.ended c.refused 0, u) := by
      unfold State.hostDo
      rw [h1, h2]
      rw [hw]
      rfl
    rw [State.hostRun_ended go hdo]
    exact u.endCmd_ends c _ _
  · rintro f rfl
    have hdo : s.hostDo c far elsewhere = (.ended 0 (f.1.toNat + 2 * f.2.toNat), u) := by
      unfold State.hostDo
      rw [h1, h2]
      rw [hw]
      rfl
    rw [State.hostRun_ended go hdo]
    exact u.endCmd_ends c _ _

theorem hostRun_regWriteN (h1 : c.cls = 1) (h2 : c.opc = 2) {st d : Nat}
    (hw : s.hostPairs c (wordsOf c.payload) 0 0 = ((st, d), u)) : u.EndsAs (s.hostRun c far elsewhere) c st d := by
  have hdo : s.hostDo c far elsewhere = (.ended st d, u) := by
    unfold State.hostDo
    rw [h1, h2]
    rw [hw]
    rfl
  rw [State.hostRun_ended go hdo]
  exact u.endCmd_ends c _ _

theorem hostRun_epochReq (h1 : c.cls = 1) (h2 : c.opc = 4) (hu : s.epRequest (BitVec.ofNat 48 c.arg0) false = u) :
    let busy := decide (1 ≤ s.epState ∧ s.epState ≤ 4)
    let wait := !busy && decide (1 ≤ u.epState ∧ u.epState ≤ 4)
    let r := if busy then 0x10 else u.fld ANG_EPOCH_STAT ANG_EPOCH_STAT_RESULT
    (wait = true → u.ComesTo (s.hostRun c far elsewhere) c .running) ∧
      (wait = false → u.EndsAs (s.hostRun c far elsewhere) c (if r = 0 then 0 else 0x10) r) := by
  subst hu
  refine State.hostRun_result go ?_
  unfold State.hostDo
  rw [h1, h2]
  rfl

theorem hostRun_applyNow (h1 : c.cls = 1) (h2 : c.opc = 5) (hu : s.applyNow = u) :
    let r := u.fld ANG_EPOCH_STAT ANG_EPOCH_STAT_RESULT
    (false = true → u.ComesTo (s.hostRun c far elsewhere) c .running) ∧
      (false = false → u.EndsAs (s.hostRun c far elsewhere) c (if r = 0 then 0 else 0x10) r) := by
  subst hu
  refine State.hostRun_result go ?_
  unfold State.hostDo
  rw [h1, h2]
  rfl

theorem hostRun_twin (h1 : c.cls = 3) (h2 : c.opc = 2) (hu : s.twinCmdWrite .host (BitVec.ofNat 32 c.arg0) = u) :
    let wait := u.twin.pend.isSome && u.fld TWIN_RESULT TWIN_RESULT_RESULT == 1
    let r := u.fld TWIN_RESULT TWIN_RESULT_RESULT
    (wait = true → u.ComesTo (s.hostRun c far elsewhere) c .running) ∧
      (wait = false → u.EndsAs (s.hostRun c far elsewhere) c (if r = 0 then 0 else 0x10) r) := by
  subst hu
  refine State.hostRun_result go ?_
  unfold State.hostDo
  rw [h1, h2]
  rfl

theorem hostRun_catchup (h1 : c.cls = 3) (h2 : c.opc = 3) (hu : s.staleWrite .host (BitVec.ofNat 32 c.arg0 ||| 0x80000000) = u) :
    let r := u.fld LEAT_STALE LEAT_STALE_RESULT
    (u.leat.catching = true → u.ComesTo (s.hostRun c far elsewhere) c .running) ∧
      (u.leat.catching = false → u.EndsAs (s.hostRun c far elsewhere) c (if r = 2 then 0 else 0x10) r) := by
  subst hu
  refine State.hostRun_result go ?_
  unfold State.hostDo
  rw [h1, h2]
  rfl

theorem hostRun_tile (h1 : c.cls = 3) (h2 : c.opc = 4) (hu : s.tretWrite .host (BitVec.ofNat 32 c.arg0) = u) :
    let wait := u.leat.tret.isSome && u.fld LEAT_TRET_STAT LEAT_TRET_STAT_RESULT == 1
    let r := u.fld LEAT_TRET_STAT LEAT_TRET_STAT_RESULT
    (wait = true → u.ComesTo (s.hostRun c far elsewhere) c .running) ∧
      (wait = false → u.EndsAs (s.hostRun c far elsewhere) c (if r = 0 then 0 else 0x10) r) := by
  subst hu
  refine State.hostRun_result go ?_
  unfold State.hostDo
  rw [h1, h2]
  rfl

theorem hostRun_fence (h1 : c.cls = 3) (h2 : c.opc = 5) : s.hostRun c far elsewhere = (s.fence 0x05).endCmd c 0 0 := by
  refine State.hostRun_ended go ?_
  unfold State.hostDo
  rw [h1, h2]
  rfl

end

/-! ### BIND (R33, R34) -/

/-- The end of a command shows no cache of the resolution of handles. -/
theorem State.EndsAs.of_caches {u t : State} {c : HCmd} {st d : Nat} {x : Tbl (List CacheLine)} (h : State.EndsAs { u with caches := x } t c st d) :
    u.EndsAs t c st d := by
  obtain ⟨hserved, hfailed⟩ := h
  refine ⟨hserved, fun hs => ?_⟩
  obtain ⟨hcmds, hocc, hctr⟩ := hfailed hs
  exact ⟨hcmds, hocc, hctr.trans (State.ctr_inc_congr (s := u) (t := { u with caches := x }) rfl rfl _ _)⟩

section
variable {s : State} {c : HCmd} {far : FarReads} {elsewhere : Bool} (go : c.gchk = true → s.gen.toNat = c.at 48 4)
  (h1 : c.cls = 1) (h2 : c.opc = 3)
include go h1 h2

theorem hostRun_bind_fails {n : Nat} (hn : s.bindCheck far c.arg0 (wordsOf c.payload) = n) (h0 : n ≠ 0) :
    s.hostRun c far elsewhere = s.endCmd c 0x10 n := by
  refine State.hostRun_ended go ?_
  have hbind : s.bindUnit far elsewhere c.arg0 (wordsOf c.payload) = (n, s) := by
    match n, h0 with
    | n + 1, _ => rw [State.bindUnit, hn]; rfl
  unfold State.hostDo
  rw [h1, h2]
  show (HPhase.ended (if (s.bindUnit far elsewhere c.arg0 (wordsOf c.payload)).1 = 0 then 0 else 0x10)
    (s.bindUnit far elsewhere c.arg0 (wordsOf c.payload)).1, (s.bindUnit far elsewhere c.arg0 (wordsOf c.payload)).2) = _
  rw [hbind]
  dsimp only
  rw [if_neg h0]

theorem hostRun_bind (h0 : s.bindCheck far c.arg0 (wordsOf c.payload) = 0) : s.hostRun c far elsewhere =
    (s.descPut (s.bindLive far elsewhere c.arg0) c.arg0 (wordsOf c.payload)).endCmd c 0 0 := by
  refine State.hostRun_ended go ?_
  have hbind : s.bindUnit far elsewhere c.arg0 (wordsOf c.payload) =
      (0, s.descPut (s.bindLive far elsewhere c.arg0) c.arg0 (wordsOf c.payload)) := by rw [State.bindUnit, h0]; rfl
  unfold State.hostDo
  rw [h1, h2]
  show (HPhase.ended (if (s.bindUnit far elsewhere c.arg0 (wordsOf c.payload)).1 = 0 then 0 else 0x10)
    (s.bindUnit far elsewhere c.arg0 (wordsOf c.payload)).1, (s.bindUnit far elsewhere c.arg0 (wordsOf c.payload)).2) = _
  rw [hbind]
  rfl

end

theorem State.endCmd_compounds (u : State) (c : HCmd) (st d : Nat) : (u.endCmd c st d).cmpd = u.cmpd ∧
    (u.endCmd c st d).cmpdStaged = u.cmpdStaged ∧ (u.endCmd c st d).caches = u.caches := by
  obtain ⟨regs, mem, host, out, leat, ctrs, ctrLoad, irq, he⟩ := u.endCmd_rest c st d
  rw [he]
  exact ⟨rfl, rfl, rfl⟩

/-- A change to a descriptor that a live handle reaches is staged. -/
theorem State.descPut_live {s : State} {i : Nat} (m : List Word) (h : tblGet (fun _ => ([] : List Word)) s.cmpd i ≠ []) :
    s.descPut true i m = { s with cmpdStaged := tblPut s.cmpdStaged i m } := if_pos ⟨h, rfl⟩

/-- Any other takes effect. -/
theorem State.descPut_free {s : State} {live : Bool} {i : Nat} (m : List Word)
    (h : tblGet (fun _ => ([] : List Word)) s.cmpd i = [] ∨ live = false) : s.descPut live i m =
      { s with cmpd := tblSet (fun _ => []) s.cmpd i m, cmpdStaged := tblDrop s.cmpdStaged i, caches := [] } := by
  refine if_neg ?_
  rintro ⟨hne, hlive⟩
  rcases h with h | h
  · exact hne h
  · exact absurd (hlive.symm.trans h) (by decide)

theorem bind_stages {s : State} {c : HCmd} {live : Bool} {i : Nat} {m : List Word}
    (hne : tblGet (fun _ => ([] : List Word)) s.cmpd i ≠ []) (hl : live = true) :
    let t := (s.descPut live i m).endCmd c 0 0
    State.EndsAs { s with cmpdStaged := tblPut s.cmpdStaged i m } t c 0 0 ∧ t.cmpd = s.cmpd := by
  subst hl
  rw [State.descPut_live m hne]
  exact ⟨State.endCmd_ends _ c 0 0, (State.endCmd_compounds _ c 0 0).1⟩

theorem bind_binds {s : State} {c : HCmd} {live : Bool} {i : Nat} {m : List Word}
    (h : tblGet (fun _ => ([] : List Word)) s.cmpd i = [] ∨ live = false) :
    let t := (s.descPut live i m).endCmd c 0 0
    tblGet (fun _ => ([] : List Word)) t.cmpd i = m ∧ t.caches = [] ∧ t.cmpdStaged = tblDrop s.cmpdStaged i ∧
      State.EndsAs { s with cmpd := t.cmpd, cmpdStaged := t.cmpdStaged } t c 0 0 := by
  intro t
  have ht : t = State.endCmd { s with cmpd := tblSet (fun _ => []) s.cmpd i m, cmpdStaged := tblDrop s.cmpdStaged i, caches := [] } c 0 0 := by
    show (s.descPut live i m).endCmd c 0 0 = _
    rw [State.descPut_free m h]
  have hends := State.endCmd_ends { s with cmpd := tblSet (fun _ => []) s.cmpd i m, cmpdStaged := tblDrop s.cmpdStaged i, caches := [] } c 0 0
  obtain ⟨hcmpd, hstaged, hcaches⟩ :=
    State.endCmd_compounds { s with cmpd := tblSet (fun _ => []) s.cmpd i m, cmpdStaged := tblDrop s.cmpdStaged i, caches := [] } c 0 0
  rw [← ht] at hends hcmpd hstaged hcaches
  refine ⟨?_, hcaches, hstaged, ?_⟩
  · rw [hcmpd]
    exact (tblGet_set (fun _ => []) s.cmpd i i m).trans (if_pos rfl)
  · rw [hcmpd, hstaged]
    exact State.EndsAs.of_caches (u := { s with cmpd := tblSet (fun _ => []) s.cmpd i m, cmpdStaged := tblDrop s.cmpdStaged i }) hends

/-! ### POST and its mailbox slot (R569, R570) -/

theorem State.slotWord_host {s u : State} {t k : Nat} {w : Option Word} (h : s.slotWord t k = (w, u)) : u.host = s.host := by
  have hv := s.hostView_slotWord t k
  rw [h] at hv
  exact congrArg (fun (v : List OutMsg × HostIf × (Nat → Word)) => v.2.1) hv

section
variable {s : State} {c : HCmd} {far : FarReads} {elsewhere : Bool} (go : c.gchk = true → s.gen.toNat = c.at 48 4)
  (h1 : c.cls = 2)
include h1

theorem State.hostDo_post : s.hostDo c far elsewhere = s.hostPost c := by
  unfold State.hostDo
  rw [h1]
  rfl

include go

theorem hostRun_post_off (hoff : s.mbxOn c.tgt = false) : s.hostRun c far elsewhere = s.toPhase c .accepted := by
  refine State.hostRun_phase go ?_ (by rintro st d ⟨⟩)
  rw [State.hostDo_post h1]
  exact if_pos (by rw [hoff]; rfl)

theorem hostRun_post_full (hon : s.mbxOn c.tgt = true) {w : Option Word} {u : State}
    (hw : s.slotWord c.tgt (tblGet (fun _ => 0) s.host.slot c.tgt) = (w, u)) (h0 : w ≠ some 0) :
    s.hostRun c far elsewhere = u.toPhase c .accepted := by
  refine State.hostRun_phase go ?_ (by rintro st d ⟨⟩)
  rw [State.hostDo_post h1]
  refine (if_neg (by rw [hon]; decide)).trans ?_
  rw [hw]
  split
  · rename_i heq
    cases heq
    exact absurd rfl h0
  · rename_i heq
    cases heq
    rfl

/-- The next slot of a target's ring is taken. -/
def State.slotTaken (s : State) (t k : Nat) : State :=
  { s with host := { s.host with slot := tblSet (fun _ => 0) s.host.slot t ((k + 1) % 8) } }

theorem hostRun_post_free (hon : s.mbxOn c.tgt = true) {u : State}
    (hw : s.slotWord c.tgt (tblGet (fun _ => 0) s.host.slot c.tgt) = (some 0, u)) : s.hostRun c far elsewhere =
      ((u.memWrite 0x101 (u.slotAddr c.tgt (tblGet (fun _ => 0) s.host.slot c.tgt))
        (bytesOf 56 c.body.toNat ++ bytesOf 8 c.seq ++ bytesOf 4 1)).2.slotTaken c.tgt (tblGet (fun _ => 0) s.host.slot c.tgt)).toPhase
          c (.posted (tblGet (fun _ => 0) s.host.slot c.tgt)) := by
  refine State.hostRun_phase go ?_ (by rintro st d ⟨⟩)
  rw [State.hostDo_post h1]
  refine (if_neg (by rw [hon]; decide)).trans ?_
  rw [hw]
  rfl

end

theorem State.slotTaken_posted (s : State) (c : HCmd) (k : Nat) :
    s.ComesTo ((s.slotTaken c.tgt k).toPhase c (.posted k)) c (.posted k) ∧
      tblGet (fun _ => 0) ((s.slotTaken c.tgt k).toPhase c (.posted k)).host.slot c.tgt = (k + 1) % 8 := by
  refine ⟨(s.slotTaken c.tgt k).toPhase_comesTo c (.posted k), ?_⟩
  rw [State.toPhase_slot]
  exact (tblGet_set (fun _ => 0) s.host.slot c.tgt c.tgt ((k + 1) % 8)).trans (if_pos rfl)

/-! ### INST (R433) -/

theorem fld_badop_lt (s : State) (a : Nat) : s.fld a INST_STATE_BADOP < 2 := Nat.mod_lt _ (by decide)

/-- BADOP of the context shows what the command did, and is kept where it was set before. -/
theorem hostRun_inst {s u : State} {c : HCmd} {far : FarReads} {elsewhere : Bool} (go : c.gchk = true → s.gen.toNat = c.at 48 4)
    (h1 : c.cls = 3) (h2 : c.opc = 1)
    (hu : (s.setF (INST_STATE c.tgt) INST_STATE_BADOP 0).instCmd c.tgt (c.arg0 % 8) = u) :
    let bad := u.bit (INST_STATE c.tgt) INST_STATE_BADOP || decide (5 ≤ c.arg0 % 8)
    ∃ w, w = { u with regs := w.regs } ∧ u.RegsBut w [INST_STATE c.tgt] ∧
      w.EndsAs (s.hostRun c far elsewhere) c (if bad then 0x10 else 0) 0 := by
  intro bad
  let w : State := if s.fld (INST_STATE c.tgt) INST_STATE_BADOP = 1 then u.flag (INST_STATE c.tgt) INST_STATE_BADOP else u
  have hbad : (u.fld (INST_STATE c.tgt) INST_STATE_BADOP = 1 ∨ 5 ≤ c.arg0 % 8) ↔ bad = true := by
    have hlt := fld_badop_lt u (INST_STATE c.tgt)
    simp only [bad, State.bit, Bool.or_eq_true, bne_iff_ne, decide_eq_true_eq]
    omega
  have hdo : s.hostDo c far elsewhere = (.ended (if bad then 0x10 else 0) 0, w) := by
    unfold State.hostDo
    rw [h1, h2]
    show (HPhase.ended (if ((s.setF (INST_STATE c.tgt) INST_STATE_BADOP 0).instCmd c.tgt (c.arg0 % 8)).fld (INST_STATE c.tgt)
        INST_STATE_BADOP = 1 ∨ 5 ≤ c.arg0 % 8 then 0x10 else 0) 0,
      if s.fld (INST_STATE c.tgt) INST_STATE_BADOP = 1 then
        ((s.setF (INST_STATE c.tgt) INST_STATE_BADOP 0).instCmd c.tgt (c.arg0 % 8)).flag (INST_STATE c.tgt) INST_STATE_BADOP
      else (s.setF (INST_STATE c.tgt) INST_STATE_BADOP 0).instCmd c.tgt (c.arg0 % 8)) = _
    rw [hu, if_congr hbad rfl rfl]
  refine ⟨w, ?_, fun a ha => ?_, ?_⟩
  · unfold w
    split <;> rfl
  · unfold w
    split
    · exact State.reg_setF_other u _ a _ _ (by simpa using ha)
    · rfl
  · rw [State.hostRun_ended go hdo]
    exact w.endCmd_ends c _ _

/-! ### MAILBOX_DONE (R570) -/

/-- A slot's command ends with what the slot says. -/
def State.slotEnds (s : State) (t k : Nat) (w : Word) (b : Option (List Byte)) : State :=
  let st := ((b.getD []).getD 0 0).toNat
  match s.host.cmds.find? fun c => c.phase == .posted k && c.tgt == t with
  | some c => if w == 2 && (st == 0 || st == 0x10) then s.endCmd c st ((b.getD []).getD 1 0).toNat else s.endCmd c 0x10 0xFF
  | none => s

section
variable {s u u' : State} {t : Fin 257} {k : Fin 8} {w : Word} {b : Option (List Byte)}

theorem exec_mailboxDone_none (h : s.slotWord t.val k.val = (none, u)) : exec (.mailboxDone t k) s = .next u := by
  show execMailboxDone t k s = _
  rw [execMailboxDone, h]

theorem exec_mailboxDone_idle (h : s.slotWord t.val k.val = (some w, u)) (hw : w = 1 ∨ w = 0) :
    exec (.mailboxDone t k) s = .next u := by
  show execMailboxDone t k s = _
  rw [execMailboxDone, h]
  exact congrArg Host.Outcome.next (if_pos hw)

theorem exec_mailboxDone (h : s.slotWord t.val k.val = (some w, u)) (hw : ¬ (w = 1 ∨ w = 0))
    (hr : u.memRead 0x101 (u.slotAddr t.val k.val + 68) 2 = (b, u')) : exec (.mailboxDone t k) s =
      .next ((u'.slotEnds t.val k.val w b).memWrite 0x101 (u.slotAddr t.val k.val + 64) (bytesOf 4 0)).2 := by
  show execMailboxDone t k s = _
  rw [execMailboxDone, h]
  refine (congrArg Host.Outcome.next (if_neg hw)).trans (congrArg Host.Outcome.next ?_)
  dsimp only
  rw [hr]
  rfl

theorem State.slotEnds_none (hn : s.host.cmds.find? (fun c => c.phase == .posted k.val && c.tgt == t.val) = none) :
    s.slotEnds t.val k.val w b = s := by
  unfold State.slotEnds
  rw [hn]

/-- The command in the slot ends with the status the target wrote, or fails where that is no status. -/
theorem State.slotEnds_ends {c : HCmd} (hc : s.host.cmds.find? (fun c => c.phase == .posted k.val && c.tgt == t.val) = some c) :
    let st := ((b.getD []).getD 0 0).toNat
    let good := decide (w = 2) && (decide (st = 0) || decide (st = 0x10))
    s.EndsAs (s.slotEnds t.val k.val w b) c (if good then st else 0x10) (if good then ((b.getD []).getD 1 0).toNat else 0xFF) := by
  intro st good
  have he : s.slotEnds t.val k.val w b = if good then s.endCmd c st ((b.getD []).getD 1 0).toNat else s.endCmd c 0x10 0xFF := by
    unfold State.slotEnds
    rw [hc]
    rfl
  rw [he]
  split
  · exact s.endCmd_ends c _ _
  · exact s.endCmd_ends c _ _

end

/-! ### READ (Tables 16.4 and 16.7) -/

/-- A command that is not journalled ended, with what it read. -/
def State.ReadEnds (u t : State) (c : HCmd) (st : Nat) (data : List Byte) : Prop :=
  t.host.cmds = u.host.cmds.filter (· != c) ∧
  (c.origin = none → c.dropped = false → (data ≠ [] → (.hostWrite c.paddr data : OutMsg) ∈ t.out) ∧
    completionOf c (u.qp c.qp) st 0 ∈ t.out ∧ (t.qp c.qp).cqTail = ((u.qp c.qp).cqTail + 1) % u.cqSize c.qp) ∧
  (∀ d tag, c.origin = some (d, tag) → u.pwr.standby = false → u.twinStandby = false →
    (.leat .benmos d (tag :: ([1, 0, st, 0, 0] ++ natsOf data)) : OutMsg) ∈ t.out)

/-- A command leaves the list. -/
def State.unlist (u : State) (c : HCmd) : State := u.mapCmd (· == c) fun _ => none

theorem State.unlist_cmds (u : State) (c : HCmd) : (u.unlist c).host.cmds = u.host.cmds.filter (· != c) := by
  rw [State.unlist, State.mapCmd_rest]
  exact filterMap_ite_none (· == c) _

theorem State.unlist_qp (u : State) (c : HCmd) (q : Nat) : (u.unlist c).qp q = u.qp q := by
  rw [State.unlist, State.mapCmd_rest]
  rfl

theorem State.unlist_cqSize (u : State) (c : HCmd) (q : Nat) : (u.unlist c).cqSize q = u.cqSize q := by
  unfold State.cqSize State.fld
  rw [State.unlist, State.reg_mapCmd _ _ _ (qpCfg_ne (by decide) _) (qpCfg_ne_status _)]

theorem State.unlist_silent (u : State) (c : HCmd) : (u.unlist c).silent = u.silent := by
  have htwin : (u.unlist c).twinStandby = u.twinStandby := by
    unfold State.twinStandby State.fld
    rw [State.unlist, State.reg_mapCmd _ _ _ (by decide) (qpStatus_ne (by decide))]
  rw [State.silent, htwin, State.unlist, State.mapCmd_rest]
  rfl

/-- What a command of a queue pair read is written to its payload. -/
def State.payloadSent (u : State) (c : HCmd) (data : List Byte) : State :=
  if data = [] ∨ c.dropped then u else u.send (.hostWrite c.paddr data)

theorem State.payloadSent_eq (u : State) (c : HCmd) (data : List Byte) :
    u.payloadSent c data = { u with out := (u.payloadSent c data).out } := by
  unfold State.payloadSent
  split <;> rfl

theorem State.readEnd_queue (u : State) {c : HCmd} (ho : c.origin = none) (st : Nat) (data : List Byte) :
    u.readEnd c st data = ((u.unlist c).payloadSent c data).complete c st 0 false := by
  unfold State.readEnd
  rw [ho]
  rfl

theorem State.readEnd_forwarded (u : State) {c : HCmd} {d tag : Nat} (ho : c.origin = some (d, tag)) (st : Nat) (data : List Byte) :
    u.readEnd c st data = (u.unlist c).answered d tag .benmos ([1, 0, st, 0, 0] ++ natsOf data) := by
  unfold State.readEnd
  rw [ho]
  rfl

theorem State.answered_host (u : State) (d q : Nat) (k : LeatKind) (l : List Nat) : (u.answered d q k l).host = u.host := by
  rw [State.answered_eq]

theorem State.payloadSent_host (u : State) (c : HCmd) (data : List Byte) : (u.payloadSent c data).host = u.host := by
  rw [State.payloadSent_eq]

theorem State.payloadSent_qp (u : State) (c : HCmd) (data : List Byte) (q : Nat) : (u.payloadSent c data).qp q = u.qp q := by
  rw [State.payloadSent_eq]; rfl

theorem State.payloadSent_cqSize (u : State) (c : HCmd) (data : List Byte) (q : Nat) :
    (u.payloadSent c data).cqSize q = u.cqSize q := by
  rw [State.payloadSent_eq]; rfl

theorem State.readEnd_cmds (u : State) (c : HCmd) (st : Nat) (data : List Byte) :
    (u.readEnd c st data).host.cmds = u.host.cmds.filter (· != c) := by
  refine Eq.trans ?_ (u.unlist_cmds c)
  cases ho : c.origin with
  | some o => rw [State.readEnd_forwarded u ho, State.answered_host]
  | none => rw [State.readEnd_queue u ho, (State.complete_rest _ c st 0 false).1, State.payloadSent_host]

theorem State.readEnd_ends (u : State) (c : HCmd) (st : Nat) (data : List Byte) : u.ReadEnds (u.readEnd c st data) c st data := by
  refine ⟨u.readEnd_cmds c st data, fun ho hd => ?_, fun d tag ho hsb htw => ?_⟩
  · obtain ⟨hpair, -, -, hkept, hsent⟩ := ((u.unlist c).payloadSent c data).complete_completes ho hd st 0
    have hqp : ((u.unlist c).payloadSent c data).qp c.qp = u.qp c.qp := by
      rw [State.payloadSent_qp, State.unlist_qp]
    have hsize : ((u.unlist c).payloadSent c data).cqSize c.qp = u.cqSize c.qp := by
      rw [State.payloadSent_cqSize, State.unlist_cqSize]
    rw [hqp] at hsent
    rw [hqp, hsize] at hpair
    rw [State.readEnd_queue u ho, hpair]
    refine ⟨fun hne => hkept _ ?_, hsent, rfl⟩
    rw [State.payloadSent, if_neg (by simp [hne, hd])]
    exact List.mem_append_right _ (List.mem_singleton_self _)
  · have hsilent : (u.unlist c).silent = false := by rw [State.unlist_silent, State.silent, hsb, htw]; rfl
    rw [State.readEnd_forwarded u ho, State.answered_eq, hsilent]
    exact List.mem_append_right _ (List.mem_singleton_self _)

section
variable {s : State} {c : HCmd}

theorem exec_read_none {opc : Nat} (h : s.readyCmd 4 opc = none) : (opc = 1 → exec .regRead s = .next s) ∧
    (opc = 2 → exec .status s = .next s) ∧ (opc = 3 → exec .jnlRead s = .next s) := by
  refine ⟨?_, ?_, ?_⟩
  · rintro rfl
    show execRegRead s = _
    rw [execRegRead, h]
  · rintro rfl
    show execStatus s = _
    rw [execStatus, h]
  · rintro rfl
    show execJnlRead s = _
    rw [execJnlRead, h]

theorem exec_regRead (h : s.readyCmd 4 1 = some c) {l : List Word} {u : State}
    (hl : s.regRun c.who c.count (c.arg0 % 2 ^ 32) = (some l, u)) : exec .regRead s = .next (u.readEnd c 0 (bytesOfWords l)) := by
  show execRegRead s = _
  rw [execRegRead, h]
  dsimp only
  rw [hl]

theorem exec_regRead_refused (h : s.readyCmd 4 1 = some c) {u : State}
    (hl : s.regRun c.who c.count (c.arg0 % 2 ^ 32) = (none, u)) : exec .regRead s = .next (u.readEnd c c.refused []) := by
  show execRegRead s = _
  rw [execRegRead, h]
  dsimp only
  rw [hl]

theorem exec_status (h : s.readyCmd 4 2 = some c) : exec .status s = .next (s.readEnd c 0 s.statusBlock) := by
  show execStatus s = _
  rw [execStatus, h]

/-- The places of the entries that JNL_READ asks for. -/
def State.readPlaces (s : State) (c : HCmd) : List Nat :=
  (List.range c.count).filterMap fun k =>
    if s.jnl.head < c.arg0 + k then none else (s.jnlSeqs.find? fun x => x.1 == c.arg0 + k).map (·.2)

/-- Their entries, read one by one. -/
def State.entriesRead (s : State) (places : List Nat) : List Byte × State :=
  places.foldl (fun (x : List Byte × State) p => (x.1 ++ (x.2.jnlEntry p).1, (x.2.jnlEntry p).2)) ([], s)

theorem exec_jnlRead (h : s.readyCmd 4 3 = some c) : exec .jnlRead s =
    .next ((s.entriesRead (s.readPlaces c)).2.readEnd c 0 (s.entriesRead (s.readPlaces c)).1) := by
  show execJnlRead s = _
  rw [execJnlRead, h]
  rfl

theorem State.readPlaces_none (h : s.jnl.head < c.arg0) : s.readPlaces c = [] := by
  unfold State.readPlaces
  rw [List.filterMap_eq_nil_iff]
  exact fun k _ => if_pos (Nat.lt_add_right k h)

end

end Sys2Proof.Machine

end

section

/-! SUPPORT. What a fence sets, and that the end of a command leaves it (R97, R123, R217, R310, R433); the execution of
Benmos commands as its obligation states it. -/

namespace Sys2Proof.Machine

/-! ### What a fence sets (R97, R310, R217, R433) -/

theorem foldl_reaches {α : Type} {P : State → Prop} {f : State → α → State} {x : α} (hx : ∀ s, P (f s x))
    (hk : ∀ s y, P s → P (f s y)) {l : List α} (hl : x ∈ l) (s : State) : P (l.foldl f s) := by
  have hkeep : ∀ (l : List α) s, P s → P (l.foldl f s) := fun l => by
    induction l with
    | nil => exact fun _ h => h
    | cons y l ih => exact fun s h => ih _ (hk s y h)
  induction l generalizing s with
  | nil => exact absurd hl List.not_mem_nil
  | cons y l ih =>
    rcases List.mem_cons.mp hl with rfl | hl
    · exact hkeep l _ (hx s)
    · exact ih hl _

/-- The registers in which drives, cells, comparator pairs and contexts show what a fence does to them. -/
def Shown (a : Nat) : Prop :=
  ∃ n, a = DRV_STATUS n ∨ a = CEL_STATUS n ∨ a = WEIR_STATUS n ∨ a = INST_STATE n ∨ a = INST_HELD n

/-- From `s` to `t` no safe latch was cleared, and no register changed but those that show a state. -/
structure State.Keeps (s t : State) : Prop where
  regs : ∀ a, ¬Shown a → t.reg a = s.reg a
  drives : ∀ n, s.bit (DRV_STATUS n) DRV_STATUS_LATCH = true → t.bit (DRV_STATUS n) DRV_STATUS_LATCH = true
  cells : ∀ n, s.bit (CEL_STATUS n) CEL_STATUS_LATCH = true → t.bit (CEL_STATUS n) CEL_STATUS_LATCH = true

theorem State.Keeps.refl (s : State) : s.Keeps s := ⟨fun _ _ => rfl, fun _ h => h, fun _ h => h⟩

theorem State.Keeps.trans {s t u : State} (h : s.Keeps t) (h' : t.Keeps u) : s.Keeps u :=
  ⟨fun a ha => (h'.regs a ha).trans (h.regs a ha), fun n hn => h'.drives n (h.drives n hn), fun n hn => h'.cells n (h.cells n hn)⟩

theorem State.Keeps.of_reg {s t : State} (h : ∀ a, t.reg a = s.reg a) : s.Keeps t := by
  refine ⟨fun a _ => h a, fun n hn => ?_, fun n hn => ?_⟩ <;> rw [State.bit, State.fld, h] <;> exact hn

theorem State.Keeps.foldl {α : Type} {f : State → α → State} (hf : ∀ (s : State) x, s.Keeps (f s x)) (l : List α) (s : State) :
    s.Keeps (l.foldl f s) := by
  induction l generalizing s with
  | nil => exact .refl s
  | cons x l ih => exact (hf s x).trans (ih _)

theorem State.bit_setF_apart (s : State) (a k : Nat) {f g : Field} (x : Nat) (hf : f.ok = true) (h : Field.apart f g = true) :
    (s.setF a f x).bit k g = s.bit k g := by
  rw [State.bit, State.bit]
  by_cases hk : k = a
  · rw [hk, State.fld_setF_apart s a f g x hf h]
  · rw [State.fld_setF_other s a k f g x hk]

theorem State.bit_setF_or {s : State} {a k : Nat} {f : Field} (hf : f.ok = true) (h : s.bit k f = true) :
    (s.setF a f 1).bit k f = true := by
  by_cases hk : k = a
  · rw [hk]; exact s.bit_setF_one a hf
  · rw [State.bit, State.fld_setF_other s a k f f 1 hk]; exact h

theorem shown_drv (n : Nat) : Shown (DRV_STATUS n) := ⟨n, .inl rfl⟩
theorem shown_cel (n : Nat) : Shown (CEL_STATUS n) := ⟨n, .inr (.inl rfl)⟩
theorem shown_weir (n : Nat) : Shown (WEIR_STATUS n) := ⟨n, .inr (.inr (.inl rfl))⟩
theorem shown_state (n : Nat) : Shown (INST_STATE n) := ⟨n, .inr (.inr (.inr (.inl rfl)))⟩
theorem shown_held (n : Nat) : Shown (INST_HELD n) := ⟨n, .inr (.inr (.inr (.inr rfl)))⟩

theorem not_shown_low {a : Nat} (h : a < 0xF1000000) : ¬Shown a := by
  rintro ⟨n, h⟩
  simp only [DRV_STATUS, CEL_STATUS, WEIR_STATUS, INST_STATE, INST_HELD] at h
  omega

theorem not_shown_out (u : Nat) : ¬Shown (CEL_OUT u) := by
  rintro ⟨n, h⟩
  simp only [CEL_OUT, DRV_STATUS, CEL_STATUS, WEIR_STATUS, INST_STATE, INST_HELD] at h
  omega

theorem State.Keeps.put {s : State} {a : Nat} (v : Word) (ha : Shown a) (hd : ∀ n, DRV_STATUS n ≠ a) (hc : ∀ n, CEL_STATUS n ≠ a) :
    s.Keeps (s.put a v) :=
  ⟨fun k hk => State.reg_put_other s a k v fun h => hk (h ▸ ha),
    fun n hn => by rw [State.bit, State.fld_put_other s a _ v _ (hd n)]; exact hn,
    fun n hn => by rw [State.bit, State.fld_put_other s a _ v _ (hc n)]; exact hn⟩

theorem drv_ne_weir (n p : Nat) : DRV_STATUS n ≠ WEIR_STATUS p := by simp only [DRV_STATUS, WEIR_STATUS]; omega
theorem cel_ne_weir (n p : Nat) : CEL_STATUS n ≠ WEIR_STATUS p := by simp only [CEL_STATUS, WEIR_STATUS]; omega
theorem drv_ne_cel (n u : Nat) : DRV_STATUS n ≠ CEL_STATUS u := by simp only [DRV_STATUS, CEL_STATUS]; omega

/-- A field of the state of a drive, which leaves the latch alone or sets it. -/
theorem State.Keeps.setDrv {s : State} {n : Nat} {f : Field} {x : Nat} (hf : f.ok = true)
    (h : Field.apart f DRV_STATUS_LATCH = true ∨ f = DRV_STATUS_LATCH ∧ x = 1) : s.Keeps (s.setF (DRV_STATUS n) f x) := by
  refine ⟨fun k hk => State.reg_setF_other s _ k f x fun h => hk (h ▸ shown_drv n), fun k hk => ?_, fun k hk => ?_⟩
  · rcases h with h | ⟨rfl, rfl⟩
    · exact (s.bit_setF_apart _ _ x hf h).trans hk
    · exact State.bit_setF_or rfl hk
  · rw [State.bit, State.fld_setF_other s _ _ f _ x (drv_ne_cel n k).symm]; exact hk

/-- A field of the state of a cell, which leaves the latch alone or sets it. -/
theorem State.Keeps.setCel {s : State} {n : Nat} {f : Field} {x : Nat} (hf : f.ok = true)
    (h : Field.apart f CEL_STATUS_LATCH = true ∨ f = CEL_STATUS_LATCH ∧ x = 1) : s.Keeps (s.setF (CEL_STATUS n) f x) := by
  refine ⟨fun k hk => State.reg_setF_other s _ k f x fun h => hk (h ▸ shown_cel n), fun k hk => ?_, fun k hk => ?_⟩
  · rw [State.bit, State.fld_setF_other s _ _ f _ x (drv_ne_cel k n)]; exact hk
  · rcases h with h | ⟨rfl, rfl⟩
    · exact (s.bit_setF_apart _ _ x hf h).trans hk
    · exact State.bit_setF_or rfl hk

/-! Drives. -/

theorem State.Keeps.incBy (s : State) (a n : Nat) : s.Keeps (s.incBy a n) := by
  induction n generalizing s with
  | zero => exact .refl s
  | succ n ih => exact (State.Keeps.of_reg fun k => s.reg_inc a k).trans (ih _)

theorem State.Keeps.drvSync (s : State) (n : Nat) : s.Keeps (s.drvSync n) := by
  unfold State.drvSync
  extract_lets p g u v w
  have hu : s.Keeps u := by
    unfold u
    split
    · exact .refl s
    · exact .of_reg fun _ => rfl
  have hv : u.Keeps v := .setDrv rfl (.inl rfl)
  have hw : v.Keeps w := .setDrv rfl (.inl rfl)
  exact hu.trans (hv.trans (hw.trans (.setDrv rfl (.inl rfl))))

theorem State.Keeps.pairSync (s : State) (p : Nat) : s.Keeps (s.pairSync p) := by
  have hput : ∀ (u : State) f x, u.Keeps (u.setF (WEIR_STATUS p) f x) := fun u _ _ =>
    .put _ (shown_weir p) (fun n => drv_ne_weir n p) fun n => cel_ne_weir n p
  exact (((hput _ _ _).trans (hput _ _ _)).trans (hput _ _ _)).trans (hput _ _ _)

theorem State.Keeps.blankEdge (s : State) (n : Nat) (rise : Bool) : s.Keeps (s.blankEdge n rise) := by
  refine .foldl (fun s k => ?_) _ s
  simp only
  split
  · exact State.Keeps.trans (State.Keeps.of_reg (t := s.setPair _ _) fun _ => rfl) (.pairSync _ _)
  · exact .refl s

theorem State.Keeps.endShot (s : State) (n : Nat) : s.Keeps (s.endShot n) := by
  unfold State.endShot
  split
  · exact .refl s
  next x _ =>
    extract_lets _ u v w
    have hu : s.Keeps u := .of_reg fun _ => rfl
    have hv : u.Keeps v := by
      unfold v
      split
      · exact .blankEdge u n false
      · exact .refl u
    have hw : v.Keeps w := by
      unfold w
      split
      · exact .of_reg fun _ => rfl
      · exact .refl v
    exact hu.trans (hv.trans (hw.trans (.drvSync w n)))

theorem State.Keeps.discardStarts (s : State) (n : Nat) : s.Keeps (s.discardStarts n) := by
  unfold State.discardStarts
  extract_lets p k
  split
  next m u hu =>
    have hreg : ∀ a, u.reg a = s.reg a := by
      intro a
      rw [← (Prod.mk.inj hu).2]
      rfl
    exact (State.Keeps.of_reg (t := u.setPulse n _) hreg).trans ((State.Keeps.incBy _ _ _).trans (.drvSync _ n))

theorem State.Keeps.drvSafe (s : State) (n : Nat) : s.Keeps (s.drvSafe n) :=
  (State.Keeps.endShot s n).trans (.discardStarts _ n)

theorem State.bit_latchDrv (s : State) (n cause : Nat) : (s.latchDrv n cause).bit (DRV_STATUS n) DRV_STATUS_LATCH = true := by
  refine (State.Keeps.drvSafe _ n).drives n ?_
  split
  · assumption
  · exact (State.bit_setF_apart _ _ _ _ rfl rfl).trans (s.bit_setF_one _ rfl)

theorem State.Keeps.latchDrv (s : State) (n cause : Nat) : s.Keeps (s.latchDrv n cause) := by
  refine State.Keeps.trans ?_ (.drvSafe _ n)
  split
  · exact .refl s
  · exact (State.Keeps.setDrv rfl (.inr ⟨rfl, rfl⟩)).trans (.setDrv rfl (.inl rfl))

/-! Cells. -/

/-- Which cell governs another is read in CEL_OUT alone. -/
theorem State.governs_congr {s t : State} (h : ∀ m, t.reg (CEL_OUT m) = s.reg (CEL_OUT m)) (u : Nat) : t.governs u = s.governs u := by
  have hf : ∀ m f, t.fld (CEL_OUT m) f = s.fld (CEL_OUT m) f := fun m f => congrArg (fieldGet f) (h m)
  unfold State.governs
  simp only [hf]

theorem State.Keeps.governs {s t : State} (h : s.Keeps t) (u : Nat) : t.governs u = s.governs u :=
  State.governs_congr (fun m => h.regs _ (not_shown_out m)) u

theorem State.mem_boundSet (s : State) (u : Nat) : u ∈ s.boundSet u := by
  unfold State.boundSet
  extract_lets b
  split
  · exact List.mem_cons_self
  · split
    · exact List.mem_map.mpr ⟨0, List.mem_range.mpr (Nat.two_pow_pos _), rfl⟩
    · exact List.mem_cons_self

theorem State.Keeps.refreshCell (s : State) (u : Nat) : s.Keeps (s.refreshCell u) := by
  refine .foldl (fun s m => ?_) _ s
  refine State.Keeps.trans ?_ (.setCel rfl (.inl rfl))
  unfold State.dacFollow
  extract_lets c d
  split
  · exact .refl s
  · exact .of_reg fun _ => rfl

/-- One member of a set is latched. -/
def State.latchMember (cause : Nat) (s : State) (m : Nat) : State :=
  if s.bit (CEL_STATUS m) CEL_STATUS_LATCH then s
  else (s.flag (CEL_STATUS m) CEL_STATUS_LATCH).setF (CEL_STATUS m) CEL_STATUS_LCAUSE cause

theorem State.bit_latchMember (cause : Nat) (s : State) (m : Nat) :
    (s.latchMember cause m).bit (CEL_STATUS m) CEL_STATUS_LATCH = true := by
  unfold State.latchMember
  split
  · assumption
  · exact (State.bit_setF_apart _ _ _ _ rfl rfl).trans (s.bit_setF_one _ rfl)

theorem State.Keeps.latchMember (cause : Nat) (s : State) (m : Nat) : s.Keeps (s.latchMember cause m) := by
  unfold State.latchMember
  split
  · exact .refl s
  · exact (State.Keeps.setCel rfl (.inr ⟨rfl, rfl⟩)).trans (.setCel rfl (.inl rfl))

theorem State.Keeps.latchCell (s : State) (u cause : Nat) : s.Keeps (s.latchCell u cause) :=
  (State.Keeps.foldl (State.Keeps.latchMember cause) _ s).trans (.refreshCell _ u)

theorem State.bit_latchCell {s : State} {u : Nat} (h : s.governs u = u) (cause : Nat) :
    (s.latchCell u cause).bit (CEL_STATUS u) CEL_STATUS_LATCH = true :=
  (State.Keeps.refreshCell _ u).cells u (foldl_reaches (fun s => s.bit_latchMember cause u)
    (fun s m hs => (State.Keeps.latchMember cause s m).cells u hs) (h.symm ▸ s.mem_boundSet u) s)

theorem State.Keeps.cvgFence (s : State) (g : Nat) : s.Keeps (s.cvgFence g) := by
  unfold State.cvgFence
  extract_lets n
  split
  next m u hu =>
    have hreg : ∀ a, u.reg a = s.reg a := by
      intro a
      rw [← (Prod.mk.inj hu).2]
      rfl
    exact (State.Keeps.of_reg (t := u.setGroup g _) hreg).trans (.incBy _ _ _)

/-! Contexts. -/

theorem drv_ne_state (n i : Nat) : DRV_STATUS n ≠ INST_STATE i := by simp only [DRV_STATUS, INST_STATE]; omega
theorem cel_ne_state (n i : Nat) : CEL_STATUS n ≠ INST_STATE i := by simp only [CEL_STATUS, INST_STATE]; omega
theorem drv_ne_held (n i : Nat) : DRV_STATUS n ≠ INST_HELD i := by simp only [DRV_STATUS, INST_HELD]; omega
theorem cel_ne_held (n i : Nat) : CEL_STATUS n ≠ INST_HELD i := by simp only [CEL_STATUS, INST_HELD]; omega

theorem State.Keeps.setCtxState (s : State) (c x : Nat) : s.Keeps (s.setCtxState c x) := by
  unfold State.setCtxState
  split
  · exact .put _ (shown_state c) (fun n => drv_ne_state n c) fun n => cel_ne_state n c
  · exact .of_reg fun _ => rfl

theorem State.Keeps.heldRecord (s : State) (c src code first second : Nat) : s.Keeps (s.heldRecord c src code first second) := by
  unfold State.heldRecord
  split
  · exact .refl s
  · exact .put _ (shown_held c) (fun n => drv_ne_held n c) fun n => cel_ne_held n c

theorem State.reg_endWait (s : State) (c a : Nat) : (s.endWait c).reg a = s.reg a := rfl

theorem State.Keeps.holdCtx (s : State) (c src : Nat) : s.Keeps (s.holdCtx c src) := by
  unfold State.holdCtx
  extract_lets st
  split
  · split
    · exact .of_reg fun _ => rfl
    · exact (State.Keeps.of_reg (s.reg_endWait c)).trans ((State.Keeps.setCtxState _ c _).trans (.heldRecord _ c _ _ _ _))
  · exact .refl s

theorem State.Keeps.wakeSup (s : State) : s.Keeps s.wakeSup := by
  unfold State.wakeSup
  split
  · exact (State.Keeps.of_reg (s.reg_endWait ctxSup)).trans (.setCtxState _ _ _)
  · exact .refl s

/-- A context runs no longer, or a fence holds it when what it waits for in memory has come. -/
def State.Stopped (s : State) (i : Nat) : Prop := (s.ctxState i ≠ ctxRun ∧ s.ctxState i ≠ ctxWait) ∨ (s.ctx i).holdReq = some 2

theorem State.Stopped.congr {s t : State} {i : Nat} (hi : i < 256) (hr : t.reg (INST_STATE i) = s.reg (INST_STATE i))
    (hc : t.ctx i = s.ctx i) (h : s.Stopped i) : t.Stopped i := by
  have hst : t.ctxState i = s.ctxState i := by rw [State.ctxState, State.ctxState, if_pos hi, if_pos hi, State.fld, hr, State.fld]
  unfold State.Stopped
  rw [hst, hc]
  exact h

theorem State.ctx_setCtx_ne (s : State) (x : Ctx) {i c : Nat} (h : i ≠ c) : (s.setCtx c x).ctx i = s.ctx i := by
  rw [State.ctx_setCtx, if_neg h]

theorem State.ctx_heldRecord (s : State) (c src code first second i : Nat) :
    (s.heldRecord c src code first second).ctx i = s.ctx i := by
  unfold State.heldRecord
  split
  · rfl
  · exact State.ctx_put _ _ _ _

theorem State.ctx_setCtxState (s : State) (c x i : Nat) : (s.setCtxState c x).ctx i = s.ctx i := by
  unfold State.setCtxState
  split <;> rfl

theorem state_ne_held (i c : Nat) : INST_STATE i ≠ INST_HELD c := by simp only [INST_STATE, INST_HELD]; omega

theorem State.reg_state_heldRecord (s : State) (c src code first second i : Nat) :
    (s.heldRecord c src code first second).reg (INST_STATE i) = s.reg (INST_STATE i) := by
  unfold State.heldRecord
  split
  · rfl
  · exact State.reg_put_other _ _ _ _ (state_ne_held i c)

theorem State.holdCtx_stops (s : State) {i : Nat} (hi : i < 256) : (s.holdCtx i 2).Stopped i := by
  unfold State.holdCtx
  extract_lets st
  split
  next =>
    split
    · right
      rw [State.ctx_setCtx_same]
    · left
      have hst : (((s.endWait i).setCtxState i ctxHeld).heldRecord i 2 0 0 0).ctxState i = ctxHeld := by
        unfold State.ctxState
        rw [if_pos hi, State.fld, State.reg_state_heldRecord]
        unfold State.setCtxState
        rw [if_pos hi]
        exact State.fld_setF_same _ _ _ _ rfl
      rw [hst]
      exact ⟨by decide, by decide⟩
  next h =>
    left
    exact ⟨fun hr => h (.inl hr), fun hw => h (.inr hw)⟩

theorem State.Stopped.holdCtx {s : State} {i : Nat} (hi : i < 256) (c : Nat) (h : s.Stopped i) : (s.holdCtx c 2).Stopped i := by
  by_cases hc : i = c
  · exact hc ▸ s.holdCtx_stops hi
  · unfold State.holdCtx
    extract_lets st
    split
    · split
      · exact State.Stopped.congr (s := s) hi rfl (State.ctx_setCtx_ne _ _ hc) h
      · refine State.Stopped.congr (s := s) hi ?_ ?_ h
        · rw [State.reg_state_heldRecord]
          unfold State.setCtxState
          split
          · exact State.reg_setF_other _ _ _ _ _ (by simp only [INST_STATE]; omega)
          · rfl
        · rw [State.ctx_heldRecord, State.ctx_setCtxState]
          exact State.ctx_setCtx_ne _ _ hc
    · exact h

theorem State.holdAll_stops (s : State) {i : Nat} (hi : i < 256) : (s.holdAll 2).Stopped i := by
  unfold State.holdAll
  exact foldl_reaches (P := fun t => t.Stopped i) (f := fun s c => s.holdCtx c 2) (fun s => s.holdCtx_stops hi) (fun _ c h => State.Stopped.holdCtx hi c h)
    (List.mem_range.mpr hi) s

theorem State.Stopped.wakeSup {s : State} {i : Nat} (hi : i < 256) (h : s.Stopped i) : s.wakeSup.Stopped i := by
  unfold State.wakeSup
  split
  · have hc : ((s.endWait ctxSup).setCtxState ctxSup ctxRun).ctx i = s.ctx i :=
      (State.ctx_setCtxState _ _ _ _).trans (State.ctx_setCtx_ne _ _ (Nat.ne_of_lt hi))
    exact State.Stopped.congr (s := s) hi rfl hc h
  · exact h

/-! The machine check (R123). -/

theorem getLsbD_mcause {k : Nat} (h : k < 2 ^ 31) : (BitVec.ofNat 32 (2 ^ 31 + k)).getLsbD 31 = true := by
  rw [BitVec.getLsbD_ofNat, Nat.testBit_two_pow_add_eq, Nat.testBit_lt_two_pow h]
  rfl

theorem State.mcause_machineCheck (s : State) (code source first second : Nat) :
    ((s.machineCheck code source first second).ctx ctxSup).mcause =
      if (s.ctx ctxSup).mcause.getLsbD 31 then (s.ctx ctxSup).mcause ||| 0x40000000
      else BitVec.ofNat 32 (2 ^ 31 + second * 2 ^ 25 + first * 2 ^ 20 + code * 2 ^ 9 + source) :=
  congrArg Ctx.mcause (State.ctx_setCtx_same s ctxSup _)

theorem State.deviceCheck_check (s : State) {code : Nat} (hc : code < 2 ^ 11) :
    (s.deviceCheck code).mchk = true ∧ ((s.deviceCheck code).ctx ctxSup).mcause.getLsbD 31 = true := by
  refine ⟨rfl, ?_⟩
  unfold State.deviceCheck
  rw [State.mcause_machineCheck]
  split
  next h => rw [BitVec.getLsbD_or, h]; rfl
  · rw [Nat.zero_mul, Nat.zero_mul, Nat.add_zero, Nat.add_assoc]
    exact getLsbD_mcause (by omega)

theorem State.Keeps.deviceCheck (s : State) (code : Nat) : s.Keeps (s.deviceCheck code) := .of_reg fun _ => rfl

theorem State.Stopped.deviceCheck {s : State} {i : Nat} (hi : i < 256) (code : Nat) (h : s.Stopped i) : (s.deviceCheck code).Stopped i :=
  State.Stopped.congr (s := s) hi rfl (State.ctx_setCtx_ne _ _ (Nat.ne_of_lt hi)) h

/-! The fence. -/

theorem State.reg_twinDrop (s : State) (cause : Nat) {a : Nat} (h : a ≠ TWIN_STATUS) : (s.twinDrop cause).reg a = s.reg a := by
  unfold State.twinDrop
  split
  · exact State.reg_setF_other _ _ _ _ _ h
  · rfl

/-- The part of a fence that follows the latches of the drives. -/
def State.fenceRest (s : State) : State :=
  ((((List.range 64).foldl (fun s g => s.cvgFence g) (s.latchCells 2)).holdAll 2).wakeSup).deviceCheck 0x04

theorem State.fence_eq {s : State} (h : s.fenced = false) (cause : Nat) : s.fence cause =
    ((((s.flag ANG_STATUS ANG_STATUS_FENCED).setF ANG_FENCE ANG_FENCE_CAUSE cause).twinDrop cause).latchDrvs 2).fenceRest :=
  if_neg (ne_true_of_eq_false h)

theorem State.Keeps.latchCells (s : State) (cause : Nat) : s.Keeps (s.latchCells cause) :=
  .foldl (fun s u => .latchCell s u cause) _ s

theorem State.Keeps.afterCells (s : State) :
    s.Keeps (((((List.range 64).foldl (fun s g => s.cvgFence g) s).holdAll 2).wakeSup).deviceCheck 0x04) :=
  (State.Keeps.foldl State.Keeps.cvgFence _ s).trans
    ((State.Keeps.foldl (fun s c => State.Keeps.holdCtx s c 2) _ _).trans ((State.Keeps.wakeSup _).trans (.deviceCheck _ _)))

theorem State.Keeps.fenceRest (s : State) : s.Keeps s.fenceRest := (State.Keeps.latchCells s 2).trans (.afterCells _)

theorem State.latchDrvs_latches (s : State) (cause : Nat) {n : Nat} (hn : n < 512) :
    (s.latchDrvs cause).bit (DRV_STATUS n) DRV_STATUS_LATCH = true :=
  foldl_reaches (fun s => s.bit_latchDrv n cause) (fun s m h => (State.Keeps.latchDrv s m cause).drives n h) (List.mem_range.mpr hn) s

theorem State.latchCells_latches (s : State) (cause : Nat) {u : Nat} (hu : u < 512) :
    (s.latchCells cause).governs u = u → (s.latchCells cause).bit (CEL_STATUS u) CEL_STATUS_LATCH = true := by
  refine foldl_reaches (P := fun t => t.governs u = u → t.bit (CEL_STATUS u) CEL_STATUS_LATCH = true) (fun s hg => ?_)
    (fun s m h hg => ?_) (List.mem_range.mpr hu) s
  · exact State.bit_latchCell (((State.Keeps.latchCell s u cause).governs u).symm.trans hg) cause
  · exact (State.Keeps.latchCell s m cause).cells u (h (((State.Keeps.latchCell s m cause).governs u).symm.trans hg))

/-- A device that was not fenced is fenced with its cause (R97). -/
theorem State.fence_fencedBy {s : State} (h : s.fenced = false) {cause : Nat} (hc : cause < 2 ^ fieldWidth ANG_FENCE_CAUSE) :
    (s.fence cause).FencedBy cause := by
  rw [State.fence_eq h]
  obtain ⟨f, hf⟩ : ∃ f, (s.flag ANG_STATUS ANG_STATUS_FENCED).setF ANG_FENCE ANG_FENCE_CAUSE cause = f := ⟨_, rfl⟩
  rw [hf]
  obtain ⟨d, hd⟩ : ∃ d, (f.twinDrop cause).latchDrvs 2 = d := ⟨_, rfl⟩
  have hreg : ∀ a < 0xF1000000, a ≠ TWIN_STATUS → d.fenceRest.reg a = f.reg a := fun a ha ht =>
    ((State.Keeps.fenceRest d).regs a (not_shown_low ha)).trans <| hd ▸
      ((State.Keeps.foldl (fun s n => .latchDrv s n 2) _ _).regs a (not_shown_low ha)).trans (f.reg_twinDrop cause ht)
  rw [hd]
  exact {
    fenced := by
      rw [State.fenced, State.bit, State.fld, hreg _ (by decide) (by decide), ← hf]
      exact congrArg (· != 0) ((State.fld_setF_other _ _ _ _ _ _ (by decide)).trans (State.fld_setF_same _ _ _ _ rfl))
    cause := by
      rw [State.fld, hreg _ (by decide) (by decide), ← hf]
      exact (State.fld_setF_same _ _ _ _ rfl).trans (Nat.mod_eq_of_lt hc)
    drives := fun n => (State.Keeps.fenceRest d).drives n (hd ▸ State.latchDrvs_latches _ 2 n.isLt)
    cells := fun u hu => (State.Keeps.afterCells (d.latchCells 2)).cells u
      (d.latchCells_latches 2 u.isLt (((State.Keeps.afterCells (d.latchCells 2)).governs u).symm.trans hu))
    contexts := fun i => State.Stopped.deviceCheck i.isLt _ (State.Stopped.wakeSup i.isLt (State.holdAll_stops _ i.isLt))
    check := State.deviceCheck_check _ (by decide) }

/-- Whether a fence holds the device does not depend on the registers in which the end of a command is shown. -/
theorem State.FencedBy.congr {s t : State} {cause : Nat} (h : s.FencedBy cause)
    (hr : ∀ a, a ≠ JNL_INFL → (∀ q, a ≠ QP_STATUS q) → t.reg a = s.reg a) (hc : t.ctxs = s.ctxs) (hm : t.mchk = s.mchk) :
    t.FencedBy cause := by
  have hdrv : ∀ n, t.reg (DRV_STATUS n) = s.reg (DRV_STATUS n) := fun n =>
    hr _ (by simp only [DRV_STATUS, JNL_INFL]; omega) fun q => by simp only [DRV_STATUS, QP_STATUS]; omega
  have hcel : ∀ n, t.reg (CEL_STATUS n) = s.reg (CEL_STATUS n) := fun n =>
    hr _ (by simp only [CEL_STATUS, JNL_INFL]; omega) fun q => by simp only [CEL_STATUS, QP_STATUS]; omega
  have hout : ∀ n, t.reg (CEL_OUT n) = s.reg (CEL_OUT n) := fun n =>
    hr _ (by simp only [CEL_OUT, JNL_INFL]; omega) fun q => by simp only [CEL_OUT, QP_STATUS]; omega
  have hst : ∀ i, t.reg (INST_STATE i) = s.reg (INST_STATE i) := fun i =>
    hr _ (by simp only [INST_STATE, JNL_INFL]; omega) fun q => by simp only [INST_STATE, QP_STATUS]; omega
  have hang : t.reg ANG_STATUS = s.reg ANG_STATUS := hr _ (by decide) fun q => by simp only [ANG_STATUS, QP_STATUS]; omega
  have hfen : t.reg ANG_FENCE = s.reg ANG_FENCE := hr _ (by decide) fun q => by simp only [ANG_FENCE, QP_STATUS]; omega
  have hctx : ∀ i, t.ctx i = s.ctx i := fun i => by rw [State.ctx, hc, State.ctx]
  exact {
    fenced := by rw [State.fenced, State.bit, State.fld, hang]; exact h.fenced
    cause := by rw [State.fld, hfen]; exact h.cause
    drives := fun n => by rw [State.bit, State.fld, hdrv]; exact h.drives n
    cells := fun u hu => by
      rw [State.governs_congr hout] at hu
      rw [State.bit, State.fld, hcel]
      exact h.cells u hu
    contexts := fun i => State.Stopped.congr i.isLt (hst i) (hctx i) (h.contexts i)
    check := by rw [hm, hctx]; exact h.check }

theorem State.FencedBy.endCmd {s : State} {cause : Nat} (h : s.FencedBy cause) (c : HCmd) (st d : Nat) :
    (s.endCmd c st d).FencedBy cause := by
  obtain ⟨regs, mem, host, out, leat, ctrs, ctrLoad, irq, he⟩ := s.endCmd_rest c st d
  exact h.congr (fun a hj hq => s.reg_endCmd c st d hj hq) (by rw [he]) (by rw [he])

/-! ### The statement -/

/-- What a command does when its turn comes, its row and COMMAND_EXECUTE do. -/
theorem hostRun_row {s : State} {c : HCmd} (h : s.hostNext = some c) {far : FarReads} {elsewhere : Bool} {cls opc : Nat} {P : State → Prop}
    (hP : (c.gchk = true → s.gen.toNat = c.at 48 4) → c.cls = cls → c.opc = opc →
      ∀ f e, (cls = 1 → opc = 3 → f = far ∧ e = elsewhere) → P (s.hostRun c f e)) :
    (c.gchk = true → s.gen.toNat = c.at 48 4) → c.cls = cls → c.opc = opc →
      s.Does (.commandExecute ⟨far, elsewhere⟩) P ∧ ∀ r, HostRow far elsewhere r → r.1 = cls → r.2.1 = opc → s.Does r.2.2 P := by
  rintro go rfl rfl
  exact hostRun_rows h (hP go rfl rfl)

/-- POST, by what the slot of the target's ring holds (R569). -/
theorem hostRun_post {s : State} {c : HCmd} {far : FarReads} {elsewhere : Bool} (go : c.gchk = true → s.gen.toNat = c.at 48 4)
    (h1 : c.cls = 2) :
    let t := s.hostRun c far elsewhere
    let k := tblGet (fun _ => 0) s.host.slot c.tgt
    (s.mbxOn c.tgt = false → s.ComesTo t c .accepted ∧ t.host.slot = s.host.slot) ∧
    (s.mbxOn c.tgt = true → ∀ w u, s.slotWord c.tgt k = (w, u) →
      (w ≠ some 0 → u.ComesTo t c .accepted ∧ t.host.slot = s.host.slot) ∧
      (w = some 0 → State.ComesTo (u.memWrite 0x101 (u.slotAddr c.tgt k) (bytesOf 56 c.body.toNat ++ bytesOf 8 c.seq ++ bytesOf 4 1)).2
        t c (.posted k) ∧ tblGet (fun _ => 0) t.host.slot c.tgt = (k + 1) % 8)) := by
  intro t k
  refine ⟨fun hoff => ?_, fun hon w u hw => ⟨fun h0 => ?_, fun h0 => ?_⟩⟩
  · have ht : t = s.toPhase c .accepted := hostRun_post_off go h1 hoff
    exact ht ▸ ⟨s.toPhase_comesTo c .accepted, s.toPhase_slot c .accepted⟩
  · have ht : t = u.toPhase c .accepted := hostRun_post_full go h1 hon hw h0
    exact ht ▸ ⟨u.toPhase_comesTo c .accepted, (u.toPhase_slot c .accepted).trans (congrArg HostIf.slot (State.slotWord_host hw))⟩
  · have ht := hostRun_post_free (far := far) (elsewhere := elsewhere) go h1 hon (h0 ▸ hw)
    obtain ⟨v, hv⟩ : ∃ v, (u.memWrite 0x101 (u.slotAddr c.tgt k)
      (bytesOf 56 c.body.toNat ++ bytesOf 8 c.seq ++ bytesOf 4 1)).2 = v := ⟨_, rfl⟩
    rw [hv] at ht ⊢
    have ht : t = (v.slotTaken c.tgt k).toPhase c (.posted k) := ht
    exact ht ▸ v.slotTaken_posted c k

/-- BIND, by its check and by whether a live handle reaches the descriptor (R33, R34). -/
theorem hostRun_bindEnds {s : State} {c : HCmd} {far : FarReads} {elsewhere : Bool} (go : c.gchk = true → s.gen.toNat = c.at 48 4)
    (h1 : c.cls = 1) (h2 : c.opc = 3) :
    let t := s.hostRun c far elsewhere
    let i := c.arg0
    let m := wordsOf c.payload
    let n := s.bindCheck far i m
    (n ≠ 0 → s.EndsAs t c 0x10 n ∧ t.cmpd = s.cmpd ∧ t.cmpdStaged = s.cmpdStaged) ∧
    (n = 0 → tblGet (fun _ => ([] : List Word)) s.cmpd i ≠ [] → s.bindLive far elsewhere i = true →
      State.EndsAs { s with cmpdStaged := tblPut s.cmpdStaged i m } t c 0 0 ∧ t.cmpd = s.cmpd) ∧
    (n = 0 → tblGet (fun _ => ([] : List Word)) s.cmpd i = [] ∨ s.bindLive far elsewhere i = false →
      tblGet (fun _ => ([] : List Word)) t.cmpd i = m ∧ t.caches = [] ∧ t.cmpdStaged = tblDrop s.cmpdStaged i ∧
      State.EndsAs { s with cmpd := t.cmpd, cmpdStaged := t.cmpdStaged } t c 0 0) := by
  intro t i m n
  refine ⟨fun h0 => ?_, fun h0 hne hl => ?_, fun h0 h => ?_⟩
  · have ht : t = s.endCmd c 0x10 n := hostRun_bind_fails go h1 h2 rfl h0
    obtain ⟨hcmpd, hstaged, -⟩ := s.endCmd_compounds c 0x10 n
    exact ht ▸ ⟨s.endCmd_ends c 0x10 n, hcmpd, hstaged⟩
  · have ht : t = (s.descPut (s.bindLive far elsewhere i) i m).endCmd c 0 0 := hostRun_bind go h1 h2 h0
    exact ht ▸ bind_stages hne hl
  · have ht : t = (s.descPut (s.bindLive far elsewhere i) i m).endCmd c 0 0 := hostRun_bind go h1 h2 h0
    exact ht ▸ bind_binds h

/-- FENCE fences with cause 5, and ends (R97). -/
theorem hostRun_fenceEnds {s : State} {c : HCmd} {far : FarReads} {elsewhere : Bool} (go : c.gchk = true → s.gen.toNat = c.at 48 4)
    (h1 : c.cls = 3) (h2 : c.opc = 5) :
    (s.fenced = false → (s.hostRun c far elsewhere).FencedBy 5) ∧ (s.fence 5).EndsAs (s.hostRun c far elsewhere) c 0 0 := by
  rw [hostRun_fence go h1 h2]
  exact ⟨fun h => (State.fence_fencedBy h (by decide)).endCmd c 0 0, (s.fence 5).endCmd_ends c 0 0⟩

/-- Settles O39: a command that ends does so in `endCmd`, one that goes on comes to its phase in `mapCmd`; each row is then what
`hostDo` says of it, and the fence of FENCE is followed through its latches and its contexts. -/
theorem benmosExecution : Obligations.BenmosExecution := by
  intro s far elsewhere tgt slot accepts ends comesTo results rows readEnds
  refine ⟨fun h r hr => ?none, fun c h => ?run, fun w u hw => ?mailbox, fun cls opc => ?read⟩
  case none =>
    obtain ⟨f, e, -, hexec⟩ := exec_hostRow (s := s) (far := far) (elsewhere := elsewhere) hr
    exact ⟨by rw [hexec, State.hostRow_none h], exec_commandExecute_none h⟩
  case run =>
    intro v go run
    refine ⟨fun r hr hne => ?other, fun hg hn => hostRun_rows h fun f e _ => ?stale, hostRun_row h fun go h1 h2 f e _ => ?regWrite,
      hostRun_row h fun go h1 h2 f e _ st d u hu => hostRun_regWriteN go h1 h2 hu,
      hostRun_row h fun go h1 h2 f e hfe => ?bind,
      hostRun_row h fun go h1 h2 f e _ u hu => hostRun_epochReq go h1 h2 hu,
      hostRun_row h fun go h1 h2 f e _ u hu => hostRun_applyNow go h1 h2 hu,
      hostRun_row h fun go h1 h2 f e _ => hostRun_post go h1,
      hostRun_row h fun go h1 h2 f e _ u hu => hostRun_inst go h1 h2 hu,
      hostRun_row h fun go h1 h2 f e _ u hu => hostRun_twin go h1 h2 hu,
      hostRun_row h fun go h1 h2 f e _ u hu => hostRun_catchup go h1 h2 hu,
      hostRun_row h fun go h1 h2 f e _ u hu => hostRun_tile go h1 h2 hu,
      hostRun_row h fun go h1 h2 f e _ => hostRun_fenceEnds go h1 h2⟩
    case other =>
      obtain ⟨f, e, -, hexec⟩ := exec_hostRow (s := s) (far := far) (elsewhere := elsewhere) hr
      rw [hexec, State.hostRow_other h hne]
    case stale =>
      rw [State.hostRun_stale hg hn]
      exact s.endCmd_ends c 0x0B 0
    case regWrite =>
      intro x u hu
      obtain ⟨hrefused, htaken⟩ := hostRun_regWrite (far := f) (elsewhere := e) go h1 h2 hu
      cases x with
      | none => exact hrefused rfl
      | some flags => exact htaken flags rfl
    case bind =>
      obtain ⟨rfl, rfl⟩ := hfe rfl rfl
      exact hostRun_bindEnds go h1 h2
  case mailbox =>
    refine ⟨?_, ?_⟩
    · rintro (rfl | rfl | rfl)
      · exact exec_mailboxDone_none hw
      · exact exec_mailboxDone_idle hw (.inr rfl)
      · exact exec_mailboxDone_idle hw (.inl rfl)
    · rintro x b u' rfl h0 h1 hr
      have hexec := exec_mailboxDone hw (fun h => h.elim h1 h0) hr
      refine ⟨fun hnone => ⟨_, hexec, ?_⟩, fun c hc => ⟨_, hexec, _, State.slotEnds_ends hc, rfl⟩⟩
      rw [State.slotEnds_none hnone]
  case read =>
    refine ⟨fun h h4 => ?_, fun c h h4 => ⟨?_, ?_, ?_, ?_⟩⟩
    · subst h4
      exact exec_read_none h
    all_goals subst h4
    · rintro rfl l u hl
      cases l with
      | some ws => exact ⟨_, exec_regRead h hl, u.readEnd_ends c 0 _⟩
      | none => exact ⟨_, exec_regRead_refused h hl, u.readEnd_ends c _ []⟩
    · rintro rfl
      exact ⟨_, exec_status h, s.readEnd_ends c 0 s.statusBlock⟩
    · rintro rfl hhead
      have hexec := exec_jnlRead h
      rw [State.readPlaces_none hhead] at hexec
      exact ⟨_, hexec, s.readEnd_ends c 0 []⟩
    · rintro rfl
      refine ⟨_, exec_jnlRead h, fun l u hl => ?_⟩
      have hread : s.entriesRead (s.readPlaces c) = (l, u) := hl
      rw [hread]
      exact u.readEnd_ends c 0 l

end Sys2Proof.Machine

end

section

/-! SUPPORT. The angle instructions, and the waits of UNTIL and EPWAIT (R54, R138-R141, R155, R178, R193). -/

namespace Sys2Proof.Machine

/-! ### Their words (Tables 4.13 and 4.15) -/

theorem isPair_code {r : Fin 32} (h : r.val % 2 = 0 ∧ r.val ≠ 0) : isPair (r.val % 32) = true := by
  rw [Nat.mod_eq_of_lt r.isLt, isPair, h.1, bne_iff_ne.mpr h.2]
  rfl

section
variable {sup : Bool} {rd ra rb : Fin 32}

theorem legal_now {mn : Nat} (hmn : mn ≤ 1) (hd : rd.val % 2 = 0 ∧ rd.val ≠ 0) : legalWord sup (fmtS 0x2D rd 0 0 mn 0) = true := by
  obtain rfl | rfl : mn = 0 ∨ mn = 1 := by omega
  all_goals simp [legalWord, isPair_code hd]

theorem legal_aadd (hd : rd.val % 2 = 0 ∧ rd.val ≠ 0) (ha : ra.val % 2 = 0 ∧ ra.val ≠ 0) :
    legalWord sup (fmtS 0x2D rd ra rb 2 0) = true := by
  simp [legalWord, isPair_code hd, isPair_code ha]

theorem legal_acmp (ha : ra.val % 2 = 0 ∧ ra.val ≠ 0) (hb : rb.val % 2 = 0 ∧ rb.val ≠ 0) :
    legalWord sup (fmtS 0x2D rd ra rb 3 0) = true := by
  simp [legalWord, isPair_code ha, isPair_code hb]

theorem legal_acyc {n : Nat} (hd : rd.val % 2 = 0 ∧ rd.val ≠ 0) (ha : ra.val % 2 = 0 ∧ ra.val ≠ 0) :
    legalWord sup (fmtI 0x2E rd ra n) = true := by
  simp [legalWord, isPair_code hd, isPair_code ha]

theorem legal_until {q : Nat} (ha : ra.val % 2 = 0 ∧ ra.val ≠ 0) (hq : q ≤ 2) : legalWord sup (fmtS 0x2D rd ra rb 4 q) = true := by
  have hq' : q % 32 = q := by omega
  simp [legalWord, isPair_code ha, hq', hq]

theorem legal_epwait : legalWord sup (fmtS 0x38 rd 0 0 2 0) = true := by
  simp [legalWord]

end

/-! ### Stamps modulo 2^48 (R54, R138) -/

/-- A stamp in a pair is its number modulo 2^48, the bits above it 0. -/
theorem Ctx.setStamp_ofInt (x : Ctx) (rd : Nat) (n : Int) :
    x.setStamp rd (BitVec.ofInt 48 n) = x.pset rd (BitVec.ofInt 64 (n % 2 ^ 48)) := by
  have h : (BitVec.ofInt 48 n).setWidth 64 = BitVec.ofInt 64 (n % 2 ^ 48) := by
    apply BitVec.eq_of_toNat_eq
    rw [BitVec.toNat_setWidth, BitVec.toNat_ofInt, BitVec.toNat_ofInt]
    omega
  rw [Ctx.setStamp, h]

theorem stamp_eq_ofInt (a : Stamp) : a = BitVec.ofInt 48 a.toNat := by
  rw [BitVec.ofInt_natCast, BitVec.ofNat_toNat, BitVec.setWidth_eq]

theorem stamp_add_signExtend (a : Stamp) (b : Word) : a + b.signExtend 48 = BitVec.ofInt 48 (a.toNat + b.toInt) := by
  rw [BitVec.ofInt_add, ← stamp_eq_ofInt, BitVec.signExtend]

/-- Whole cycles stand above the 32 bits of the fraction. -/
theorem cycles_eq_ofInt (n : BitVec 16) : (n ++ (0 : BitVec 32) : Stamp) = BitVec.ofInt 48 (n.toInt * 2 ^ 32) := by
  apply BitVec.eq_of_toNat_eq
  rw [BitVec.toNat_append, BitVec.toNat_ofInt, BitVec.toInt_eq_toNat_cond, Nat.shiftLeft_eq]
  have hn := n.isLt
  simp only [BitVec.ofNat_eq_ofNat, BitVec.toNat_ofNat, Nat.zero_mod, Nat.or_zero]
  split <;> omega

theorem stamp_add_cycles (a : Stamp) (n : BitVec 16) :
    a + (n ++ (0 : BitVec 32)) = BitVec.ofInt 48 (a.toNat + n.toInt * 2 ^ 32) := by
  rw [BitVec.ofInt_add, ← stamp_eq_ofInt, cycles_eq_ofInt]

/-- The distance from one stamp up to another (R54). -/
theorem stamp_sub_toNat (a b : Stamp) : (a - b).toNat = (a.toNat + 2 ^ 48 - b.toNat) % 2 ^ 48 := by
  rw [BitVec.toNat_sub]
  have hb := b.isLt
  omega

theorem Stamp.before_iff (a b : Stamp) :
    Stamp.before a b = true ↔ 1 ≤ (b.toNat + 2 ^ 48 - a.toNat) % 2 ^ 48 ∧ (b.toNat + 2 ^ 48 - a.toNat) % 2 ^ 48 < 2 ^ 47 := by
  rw [← stamp_sub_toNat, Stamp.before, decide_eq_true_iff]

theorem Stamp.beyond_iff (a now : Stamp) : Stamp.beyond a now = true ↔
    2 ^ 46 ≤ (a.toNat + 2 ^ 48 - now.toNat) % 2 ^ 48 ∧ (a.toNat + 2 ^ 48 - now.toNat) % 2 ^ 48 < 2 ^ 47 := by
  rw [← stamp_sub_toNat, Stamp.beyond, decide_eq_true_iff]

theorem stamp_eq_iff (a b : Stamp) : a = b ↔ (b.toNat + 2 ^ 48 - a.toNat) % 2 ^ 48 = 0 := by
  rw [← BitVec.toNat_inj]
  have ha := a.isLt
  have hb := b.isLt
  omega

/-- What ACMP writes, by the distance from the first stamp to the second. -/
theorem acmp_result (a b : Stamp) :
    (if a = b then (0 : Word) else if Stamp.before a b then 0xFFFFFFFF else 1) =
      (let d := (b.toNat + 2 ^ 48 - a.toNat) % 2 ^ 48
       if d = 0 then 0 else if d < 2 ^ 47 then BitVec.ofInt 32 (-1) else 1) := by
  dsimp only
  by_cases h0 : (b.toNat + 2 ^ 48 - a.toNat) % 2 ^ 48 = 0
  · rw [if_pos ((stamp_eq_iff a b).mpr h0), if_pos h0]
  · rw [if_neg fun h => h0 ((stamp_eq_iff a b).mp h), if_neg h0]
    by_cases h1 : (b.toNat + 2 ^ 48 - a.toNat) % 2 ^ 48 < 2 ^ 47
    · rw [if_pos ((Stamp.before_iff a b).mpr ⟨Nat.pos_of_ne_zero h0, h1⟩), if_pos h1]
      rfl
    · rw [if_neg fun h => h1 ((Stamp.before_iff a b).mp h).2, if_neg h1]

/-! ### UNTIL (R139-R141, R180) -/

theorem State.ctxState_setCtxState {c : Nat} (s : State) {x : Nat} (hx : x < 4) : (s.setCtxState c x).ctxState c = x := by
  unfold State.setCtxState State.ctxState
  split
  · rw [State.fld_setF_same _ _ _ _ rfl]
    exact Nat.mod_eq_of_lt hx
  · rfl

theorem State.stq_setCtxState (s : State) (c x : Nat) : (s.setCtxState c x).stq = s.stq := by
  unfold State.setCtxState
  split <;> rfl

section
variable {s : State} {c : Fin 257} {rd ra rb : Fin 32} {q : BitVec 2}

/-- What UNTIL does once it is issued. -/
def State.untilDone (c : Fin 257) (rd ra : Fin 32) (q : BitVec 2) (rb : Fin 32) (s : State) : Done :=
  if Stamp.beyond ((s.ctx c).stamp ra) s.angle then angleLate s 1 ((s.ctx c).stamp ra)
  else if s.late ((s.ctx c).stamp ra) (qualOf q.toNat) 50 then angleLate s 2 ((s.ctx c).stamp ra)
  else .wait (s.enqueue ⟨kindWait, c, (s.ctx c).stamp ra, qualOf q.toNat, .until, ctxReq c, s.genOf c⟩)
    (.until rd ((s.ctx c).rget rb).toNat s.ang.time.toNat)

theorem exec_until : exec (.until c rd ra q rb) s = issued c (fmtS 0x2D rd ra rb 4 q.toNat) (State.untilDone c rd ra q rb) s := rfl

/-- A wait that goes into the queue of stamped operations leaves the rest of its context as it was. -/
theorem State.issue_queued {w : Word} {f : State → Done} {o : StOp} {st : Stall} (hr : s.Ready c)
    (hl : legalWord (c.val == ctxSup) w = true) (hm : st.isMem = false)
    (hf : f (s.fetched c) = .wait ((s.fetched c).enqueue o) st) :
    (s.issue c w f).stq = (s.fetched c).stq ++ [o] ∧ (s.issue c w f).ctx c = { s.ctx c with stall := st } ∧
      (s.issue c w f).ctxState c = 2 := by
  rw [State.issue_wait hr hl hf, hm]
  refine ⟨State.stq_setCtxState _ _ _, ?_, State.ctxState_setCtxState _ (by decide)⟩
  rw [State.ctx_setCtxState, State.ctx_setCtx_same, State.enqueue]
  exact congrArg (fun x : Ctx => { x with stall := st }) (s.fetched_ctx c c)

end

/-- A waiting UNTIL that is not held ends with its result: its wait leaves the queue and the next instruction follows. -/
theorem State.untilEnd_ends {s : State} {c rd limit since : Nat} (h : (s.ctx c).stall = .until rd limit since)
    (hh : (s.ctx c).holdReq = none) (v : Word) :
    (s.untilEnd c v).ctx c = { (s.ctx c).rset rd v with pc := (s.ctx c).pc + 4, stall := .none } ∧
      (s.untilEnd c v).ctxState c = 1 ∧
      (s.untilEnd c v).stq = s.stq.filter fun o => !(o.kind == kindWait && o.index == c) := by
  have hset : ∀ x : Ctx, (x.rset rd v).pc = x.pc ∧ (x.rset rd v).holdReq = x.holdReq := fun x => by
    unfold Ctx.rset
    split <;> exact ⟨rfl, rfl⟩
  have hstall : Ctx.rset { s.ctx c with stall := .none } rd v = { (s.ctx c).rset rd v with stall := .none } := by
    unfold Ctx.rset
    split <;> rfl
  obtain ⟨u, hu⟩ : ∃ u, s.unqueue c = u := ⟨_, rfl⟩
  have hx : u.ctx c = { s.ctx c with stall := .none } := by rw [← hu]; exact State.ctx_setCtx_same _ _ _
  have hq : u.stq = s.stq.filter fun o => !(o.kind == kindWait && o.index == c) := by rw [← hu]; rfl
  have he : s.untilEnd c v = (u.setCtx c ((u.ctx c).rset rd v)).finish c := by
    unfold State.untilEnd
    rw [h]
    exact congrArg (fun t : State => (t.setCtx c ((t.ctx c).rset rd v)).finish c) hu
  have hf : s.untilEnd c v = (State.setCtx (State.setCtx (u.setCtx c ((u.ctx c).rset rd v)) c
      { (u.ctx c).rset rd v with pc := ((u.ctx c).rset rd v).pc + 4 }) c
      { (u.ctx c).rset rd v with pc := ((u.ctx c).rset rd v).pc + 4, stall := .none }).setCtxState c ctxRun := by
    have hn : ((u.ctx c).rset rd v).holdReq = none := by rw [(hset _).2, hx]; exact hh
    rw [he, State.finish, State.resumeCtx]
    simp only [State.ctx_setCtx_same]
    rw [hn]
  rw [hf]
  refine ⟨?_, State.ctxState_setCtxState _ (by decide), (State.stq_setCtxState _ _ _).trans hq⟩
  rw [State.ctx_setCtxState, State.ctx_setCtx_same, (hset _).1, hx, hstall]

theorem exec_untilTimeout {s : State} {c : Fin 257} {rd limit since : Nat} (h : (s.ctx c).stall = .until rd limit since) :
    exec (.untilTimeout c) s =
      if limit = 0 || decide ((s.ang.time - BitVec.ofNat 64 since).toNat < limit)
        || s.fld ANG_EPOCH_STAT ANG_EPOCH_STAT_STATE != 4
          && s.stq.any (fun o => o.kind == kindWait && o.index == c.val && s.due o.stamp o.qual) then .next s
      else .next (s.untilEnd c 1) := by
  have he : exec (.untilTimeout c) s = execUntilTimeout c s := rfl
  rw [he, execUntilTimeout, h]

/-- The wait of an UNTIL beyond its limit: the answer by the limit, the time since its issue and the event's release (R139, R93). -/
theorem untilTimeout_keeps {s : State} {c : Fin 257} {rd limit since : Nat} (h : (s.ctx c).stall = .until rd limit since)
    (hn : ¬(limit ≠ 0 ∧ limit ≤ (s.ang.time - BitVec.ofNat 64 since).toNat) ∨
      s.fld ANG_EPOCH_STAT ANG_EPOCH_STAT_STATE ≠ 4 ∧
        (s.stq.any fun o => o.kind == kindWait && o.index == c.val && s.due o.stamp o.qual) = true) :
    exec (.untilTimeout c) s = .next s := by
  rw [exec_untilTimeout h, if_pos]
  simp only [Bool.or_eq_true, Bool.and_eq_true, decide_eq_true_eq, bne_iff_ne]
  rcases hn with hn | hn
  · left
    by_contra hc
    exact hn ⟨fun h0 => hc (.inl h0), Nat.not_lt.mp fun hlt => hc (.inr hlt)⟩
  · exact .inr hn

theorem untilTimeout_ends {s : State} {c : Fin 257} {rd limit since : Nat} (h : (s.ctx c).stall = .until rd limit since)
    (hl : limit ≠ 0 ∧ limit ≤ (s.ang.time - BitVec.ofNat 64 since).toNat)
    (hu : (s.stq.any fun o => o.kind == kindWait && o.index == c.val && s.due o.stamp o.qual) = false ∨
      s.fld ANG_EPOCH_STAT ANG_EPOCH_STAT_STATE = 4) : exec (.untilTimeout c) s = .next (s.untilEnd c 1) := by
  obtain ⟨h0, hpast⟩ := hl
  rw [exec_untilTimeout h, if_neg]
  simp only [Bool.or_eq_true, Bool.and_eq_true, decide_eq_true_eq, bne_iff_ne]
  rintro ((hz | hlt) | ⟨hn, hdue⟩)
  · exact h0 hz
  · exact Nat.not_lt.mpr hpast hlt
  · exact hu.elim (fun hf => ne_true_of_eq_false hf hdue) hn

/-- Settles O58: each instruction issues (Laws/Issue), its word is legal, and its stamp is a number modulo 2^48. -/
theorem angleInstructions : Obligations.AngleInstructions := by
  refine ⟨?issue, ?timeout⟩
  case issue =>
    intro s c rd ra rb imm q hr pair x u p stamped
    have hx : u.ctx c = x := s.fetched_ctx c c
    have hstamp : ∀ {v : Stamp} {n : Int}, v = BitVec.ofInt 48 n → x.setStamp rd v = stamped n := by
      rintro v n rfl
      exact x.setStamp_ofInt rd n
    refine ⟨fun hd => ⟨?anow, ?tnow⟩, fun hd ha => ⟨?aadd, ?acyc⟩, fun ha hb => ?acmp, fun ha hq => ?untils,
      fun he => ?ended, fun he => ?waits⟩
    case anow =>
      refine State.goesOn hr (legal_now (by decide) hd) rfl ?_
      rw [hx, hstamp (stamp_eq_ofInt _)]
    case tnow =>
      refine State.goesOn hr (legal_now (by decide) hd) rfl ?_
      rw [hx]
    case aadd =>
      refine State.goesOn hr (legal_aadd hd ha) rfl ?_
      dsimp only
      rw [hx, hstamp (stamp_add_signExtend _ _)]
    case acyc =>
      refine State.goesOn hr (legal_acyc hd ha) rfl ?_
      dsimp only
      rw [hx, hstamp (stamp_add_cycles _ _)]
    case acmp =>
      intro d
      refine State.goesOn hr (legal_acmp ha hb) rfl ?_
      dsimp only
      rw [hx, acmp_result]
    case untils =>
      intro far beyond qual
      have hl := legal_until (sup := c.val == ctxSup) (rd := rd) (rb := rb) ha hq
      have hb : Stamp.beyond p u.angle = true ↔ beyond := Stamp.beyond_iff p u.angle
      have hdone : State.untilDone c rd ra q rb u = if Stamp.beyond p u.angle then angleLate u 1 p
          else if u.late p qual 50 then angleLate u 2 p
          else .wait (u.enqueue ⟨kindWait, c, p, qual, .until, ctxReq c, u.genOf c⟩) (.until rd (x.rget rb).toNat u.ang.time.toNat) := by
        rw [State.untilDone, hx]
      refine ⟨fun h => State.traps hr hl exec_until ?_, fun h hlate => State.traps hr hl exec_until ?_, fun h hlate => ?_⟩
      · exact hdone.trans (if_pos (hb.mpr h))
      · exact hdone.trans ((if_neg (mt hb.mp h)).trans (if_pos hlate))
      · exact ⟨_, exec_until, State.issue_queued hr hl rfl
          (hdone.trans ((if_neg (mt hb.mp h)).trans (if_neg (ne_true_of_eq_false hlate))))⟩
    case ended =>
      refine State.goesOn hr legal_epwait rfl ((if_pos he).trans ?_)
      rw [hx, State.epResult, Nat.add_comm, Nat.mul_comm]
      rfl
    case waits => exact State.waits hr legal_epwait rfl (if_neg (ne_true_of_eq_false he))
  case timeout =>
    intro s c rd limit since x ended due applying hstall
    exact ⟨untilTimeout_keeps hstall, fun he hu hh => ⟨_, untilTimeout_ends hstall he hu, State.untilEnd_ends hstall hh 1⟩⟩

end Sys2Proof.Machine

end

section

/-! SUPPORT. Arming and decision of an epoch (R89-R92): what contexts that go on leave alone, the checks of R90, the answer to an
ARM, the decision at the headwater and at a participant. -/

namespace Sys2Proof.Machine

/-! ### What a context that goes on leaves alone (R142, R155) -/

/-- The state beside its contexts: every other field, and the registers below the windowed ones of the contexts. -/
def State.besideCtx (s : State) : State × (Nat → Word) :=
  ({ s with regs := [], ctxs := [], supState := 0 }, fun a => if a < 0x100000000 then s.reg a else 0)

theorem State.reg_of_besideCtx {s t : State} (h : t.besideCtx = s.besideCtx) {a : Nat} (ha : a < 0x100000000) : t.reg a = s.reg a := by
  have hv := congrFun (congrArg Prod.snd h) a
  simp only [State.besideCtx] at hv
  rwa [if_pos ha, if_pos ha] at hv

theorem State.besideCtx_put (s : State) {a : Nat} (v : Word) (ha : 0x100000000 ≤ a) : (s.put a v).besideCtx = s.besideCtx := by
  have hreg : ∀ b, (if b < 0x100000000 then (s.put a v).reg b else 0) = if b < 0x100000000 then s.reg b else 0 := fun b => by
    split
    next hb => exact State.reg_put_other s a b v (Nat.ne_of_lt (Nat.lt_of_lt_of_le hb ha))
    next => rfl
  exact congrArg (Prod.mk _) (funext hreg)

theorem State.besideCtx_setCtxState (s : State) (c x : Nat) : (s.setCtxState c x).besideCtx = s.besideCtx := by
  unfold State.setCtxState
  split
  · exact s.besideCtx_put _ (by unfold INST_STATE; omega)
  · rfl

theorem State.besideCtx_heldRecord (s : State) (c src code first second : Nat) :
    (s.heldRecord c src code first second).besideCtx = s.besideCtx := by
  unfold State.heldRecord
  split
  · rfl
  · exact s.besideCtx_put _ (by unfold INST_HELD; omega)

theorem State.besideCtx_resumeCtx (s : State) (c : Nat) : (s.resumeCtx c).besideCtx = s.besideCtx := by
  unfold State.resumeCtx
  split
  · exact (State.besideCtx_heldRecord _ _ _ _ _ _).trans (State.besideCtx_setCtxState _ _ _)
  · exact State.besideCtx_setCtxState _ _ _

theorem State.besideCtx_finish (s : State) (c : Nat) : (s.finish c).besideCtx = s.besideCtx := State.besideCtx_resumeCtx _ _

theorem State.besideCtx_armWake (s : State) : s.armWake.besideCtx = s.besideCtx := by
  unfold State.armWake
  split
  · exact State.besideCtx_finish _ _
  · rfl

/-- Where no hold waits for it, the supervisor core goes on without any register changing. -/
theorem State.regs_armWake {s : State} (h : (s.ctx ctxSup).holdReq = none) : s.armWake.regs = s.regs := by
  unfold State.armWake
  split
  · rw [State.finish, State.resumeCtx]
    simp only [State.ctx_setCtx_same, h]
    rfl
  · rfl

/-! ### What a new STATE of the epoch leaves alone (R155, R568) -/

/-- What waits that end with the epoch do not touch: its records, the shadows, the registers but those of contexts, of
queue pairs and of the journal. -/
def State.epView (s : State) : Epoch × Tbl Word × Tbl (List Word) × (Nat → Word) :=
  (s.ep, s.staged, s.cmpdStaged, fun a => if a < 0x100000000 ∧ a ≠ JNL_INFL then s.reg a else 0)

theorem State.epView_of_besideCtx {s t : State} (h : t.besideCtx = s.besideCtx) : t.epView = s.epView := by
  have hreg : ∀ a, (if a < 0x100000000 ∧ a ≠ JNL_INFL then t.reg a else 0) = if a < 0x100000000 ∧ a ≠ JNL_INFL then s.reg a else 0 :=
    fun a => by
      split
      next ha => exact State.reg_of_besideCtx h ha.1
      next => rfl
  have hrest : (t.ep, t.staged, t.cmpdStaged) = (s.ep, s.staged, s.cmpdStaged) :=
    congrArg (fun v : State × (Nat → Word) => (v.1.ep, v.1.staged, v.1.cmpdStaged)) h
  obtain ⟨hep, hst⟩ := Prod.mk.inj hrest
  obtain ⟨hst, hcmpd⟩ := Prod.mk.inj hst
  unfold State.epView
  rw [funext hreg, hep, hst, hcmpd]

theorem State.reg_of_epView {s t : State} (h : t.epView = s.epView) {a : Nat} (ha : a < 0x100000000) (hj : a ≠ JNL_INFL) :
    t.reg a = s.reg a := by
  have hv := congrFun (congrArg (fun v : Epoch × Tbl Word × Tbl (List Word) × (Nat → Word) => v.2.2.2) h) a
  simp only [State.epView] at hv
  rwa [if_pos ⟨ha, hj⟩, if_pos ⟨ha, hj⟩] at hv

theorem State.ep_of_epView {s t : State} (h : t.epView = s.epView) : t.ep = s.ep := (Prod.mk.inj h).1

theorem State.staged_of_epView {s t : State} (h : t.epView = s.epView) : t.staged = s.staged :=
  (Prod.mk.inj (Prod.mk.inj h).2).1

theorem State.cmpdStaged_of_epView {s t : State} (h : t.epView = s.epView) : t.cmpdStaged = s.cmpdStaged :=
  (Prod.mk.inj (Prod.mk.inj (Prod.mk.inj h).2).2).1

theorem State.epView_endCmd (s : State) (c : HCmd) (st d : Nat) : (s.endCmd c st d).epView = s.epView := by
  have hreg : ∀ a, (if a < 0x100000000 ∧ a ≠ JNL_INFL then (s.endCmd c st d).reg a else 0) =
      if a < 0x100000000 ∧ a ≠ JNL_INFL then s.reg a else 0 := fun a => by
    split
    next ha => exact s.reg_endCmd c st d ha.2 fun q hq => by unfold QP_STATUS at hq; omega
    next => rfl
  obtain ⟨regs, mem, host, out, leat, ctrs, ctrLoad, irq, he⟩ := s.endCmd_rest c st d
  unfold State.epView
  rw [funext hreg, he]

theorem State.epView_hostEnd (s : State) (cls opc st d : Nat) : (s.hostEnd cls opc st d).epView = s.epView :=
  foldl_keeps (p := State.epView) (fun s c => s.epView_endCmd c st d) _ s

theorem State.epView_epWake (s : State) : s.epWake.epView = s.epView := by
  refine foldl_keeps (p := State.epView) (fun t x => ?_) _ (s.occur 0x7B2)
  split
  · exact State.epView_of_besideCtx (State.besideCtx_finish _ _)
  · rfl

/-- A STATE in which the epoch goes on. -/
theorem State.setEpState_goes (s : State) {x : Nat} (h0 : x ≠ 0) (h5 : x ≠ 5) :
    s.setEpState x = (s.setF ANG_EPOCH_STAT ANG_EPOCH_STAT_STATE x).armWake :=
  if_neg fun h => h.elim h0 h5

theorem State.epView_setEpState (s : State) (x : Nat) :
    (s.setEpState x).epView = (s.setF ANG_EPOCH_STAT ANG_EPOCH_STAT_STATE x).epView := by
  have harm := State.epView_of_besideCtx (s.setF ANG_EPOCH_STAT ANG_EPOCH_STAT_STATE x).besideCtx_armWake
  unfold State.setEpState
  extract_lets u r
  split
  · exact (State.epView_hostEnd _ _ _ _ _).trans ((State.epView_epWake _).trans harm)
  · exact harm

theorem State.fld_state_setEpState (s : State) {x : Nat} (hx : x < 8) : (s.setEpState x).epState = x := by
  rw [State.epState, State.fld, State.reg_of_epView (s.epView_setEpState x) (by decide) (by decide)]
  exact (State.fld_setF_same _ _ _ _ rfl).trans (Nat.mod_eq_of_lt hx)

/-- Going on, the device is in the new STATE, and nothing changed beside the contexts. -/
theorem State.regsBut_setEpState {s : State} (hh : (s.ctx ctxSup).holdReq = none) {x : Nat} (h0 : x ≠ 0) (h5 : x ≠ 5) :
    s.RegsBut (s.setEpState x) [ANG_EPOCH_STAT] := fun a ha => by
  have hregs : (s.setEpState x).regs = (s.setF ANG_EPOCH_STAT ANG_EPOCH_STAT_STATE x).regs := by
    rw [s.setEpState_goes h0 h5]
    exact State.regs_armWake hh
  rw [State.reg, hregs]
  exact State.reg_setF_other _ _ _ _ _ (List.ne_of_not_mem_cons ha)

/-! ### An epoch is abandoned (R92) -/

/-- A participant's part and its shadows are gone. -/
def State.epDropped (s : State) : State :=
  { s with staged := [], cmpdStaged := [], ep := { s.ep with part := none, stagedPrimary := false, refused := none } }

theorem State.epAbandon_view (s : State) (st : Nat) : ∃ x, (s.epAbandon st).epView =
    (((s.epDropped.setF ANG_STATUS ANG_STATUS_PSTG 0).setEpResult st).setF ANG_EPOCH_STAT ANG_EPOCH_STAT_STATE x).epView :=
  ⟨_, State.epView_setEpState _ _⟩

/-- What the abandonment of an epoch leaves. -/
structure State.Abandons (s t : State) (st : Nat) : Prop where
  ep : t.ep = { s.ep with part := none, stagedPrimary := false, refused := none }
  staged : t.staged = []
  cmpdStaged : t.cmpdStaged = []
  result : t.fld ANG_EPOCH_STAT ANG_EPOCH_STAT_RESULT = st % 256
  reg : ∀ a < 0x100000000, a ∉ [ANG_STATUS, ANG_EPOCH_STAT, JNL_INFL] → t.reg a = s.reg a

theorem State.epAbandon_abandons (s : State) (st : Nat) : s.Abandons (s.epAbandon st) st := by
  obtain ⟨x, h⟩ := s.epAbandon_view st
  exact {
    ep := State.ep_of_epView h
    staged := State.staged_of_epView h
    cmpdStaged := State.cmpdStaged_of_epView h
    result := by
      rw [State.fld, State.reg_of_epView h (by decide) (by decide)]
      exact (State.fld_setF_apart _ _ _ _ _ rfl rfl).trans (State.fld_setF_same _ _ _ _ rfl)
    reg := fun a ha hne => by
      obtain ⟨hang, hne⟩ := not_or.mp (mt List.mem_cons.mpr hne)
      obtain ⟨hstat, hne⟩ := not_or.mp (mt List.mem_cons.mpr hne)
      rw [State.reg_of_epView h ha (List.ne_of_not_mem_cons hne)]
      exact (State.reg_setF_other _ _ _ _ _ hstat).trans ((State.reg_setF_other _ _ _ _ _ hstat).trans
        (State.reg_setF_other _ _ _ _ _ hang)) }

/-! ### The checks of R90 -/

/-- The state with other ports and queues of the chain. -/
def State.withLeat (s : State) (l : Leat) : State := { s with leat := l }

theorem cellTrace_leat (s : State) (l : Leat) (n u : Nat) : cellTrace (s.withLeat l) n u = cellTrace s n u := by
  induction n generalizing u with
  | zero => rfl
  | succ n ih =>
    rw [cellTrace, cellTrace]
    simp only [ih]
    rfl

/-- The shadows are checked against registers and shadows alone. -/
theorem State.stageOk_leat (s : State) (l : Leat) : (s.withLeat l).stageOk = (s.stageOk.1, s.stageOk.2.withLeat l) := by
  have hcell : (s.withLeat l).cellStageOk = s.cellStageOk := by
    unfold State.cellStageOk
    simp only [cellTrace_leat]
    rfl
  have hrr : (s.withLeat l).rrStage = s.rrStage := rfl
  unfold State.stageOk
  rw [hrr, hcell]
  cases s.rrStage with
  | none => rfl
  | some x => rfl

theorem State.rrStage_lt {s : State} {r c : Nat} (h : s.rrStage = some (r, c)) : r < 64 := by
  have hen : ∀ {p q : Nat → Bool} {k : Nat}, (((List.range 64).filter p).find? q).map (fun r => (r, k)) = some (r, c) → r < 64 :=
    fun hf => by
      obtain ⟨x, hx, hxr⟩ := Option.map_eq_some_iff.mp hf
      obtain ⟨rfl, -⟩ := Prod.mk.inj hxr
      exact List.mem_range.mp (List.mem_of_mem_filter (List.mem_of_find?_eq_some hx))
  unfold State.rrStage at h
  extract_lets en cause first rate at h
  rcases Option.or_eq_some_iff.mp h with h | ⟨-, h⟩
  · rcases Option.or_eq_some_iff.mp h with h | ⟨-, h⟩
    · exact hen h
    · exact hen h
  · rcases Option.or_eq_some_iff.mp h with h | ⟨-, h⟩
    · exact hen h
    · obtain ⟨p, hp, hpr⟩ := Option.map_eq_some_iff.mp h
      obtain ⟨rfl, -⟩ := Prod.mk.inj hpr
      have hp := List.mem_range.mp (List.mem_of_find?_eq_some hp)
      omega

/-- A check of the shadows shows at most the cause of a remote route. -/
theorem State.stageOk_shows (s : State) : s.stageOk.2 = s ∨ ∃ r < 64, ∃ c, s.stageOk.2 = s.setF (CXB_RR_STAT r) CXB_RR_STAT_CAUSE c := by
  unfold State.stageOk
  cases h : s.rrStage with
  | none => exact .inl rfl
  | some x =>
    obtain ⟨r, c⟩ := x
    exact .inr ⟨r, State.rrStage_lt h, c, rfl⟩

theorem State.stageOk_passes {s : State} (h : s.stageOk.1 = true) : s.stageOk.2 = s := by
  unfold State.stageOk at h ⊢
  cases hr : s.rrStage with
  | none => rfl
  | some x => rw [hr] at h; cases h

section
variable {s : State} {n : Word} {e : Stamp}

theorem State.epCheck_generation (h : s.gen + 1 ≠ n) : s.epCheck n e = (0x15, s) := if_pos h

variable (hg : s.gen + 1 = n)
include hg

theorem State.epCheck_window (hi : s.inFullIdle e = false) : s.epCheck n e = (0x13, s) := by
  rw [State.epCheck, if_neg (not_not.mpr hg), hi]
  rfl

variable (hi : s.inFullIdle e = true)
include hi

theorem State.epCheck_stage (hs : s.stageOk.1 = false) : s.epCheck n e = (0x14, s.stageOk.2) := by
  rw [State.epCheck, if_neg (not_not.mpr hg), hi]
  generalize s.stageOk = p at hs
  obtain ⟨b, u⟩ := p
  cases hs
  rfl

theorem State.epCheck_passes (hs : s.stageOk.1 = true) : s.epCheck n e = (0, s) := by
  have hu := State.stageOk_passes hs
  rw [State.epCheck, if_neg (not_not.mpr hg), hi]
  generalize s.stageOk = p at hs hu
  obtain ⟨b, u⟩ := p
  cases hs
  cases hu
  rfl

end

/-! ### A participant answers an ARM (R90) -/

/-- From `s` to `u` nothing changed that decides where an answer goes, no shadow, no byte and nothing that is sent. -/
structure State.SameSender (s u : State) : Prop where
  id : u.reg LEAT_ID = s.reg LEAT_ID
  role : u.reg TWIN_STATUS = s.reg TWIN_STATUS
  pwr : u.pwr = s.pwr
  out : u.out = s.out
  staged : u.staged = s.staged
  mem : u.mem = s.mem

theorem State.sameSender_stageOk (s : State) : s.SameSender s.stageOk.2 := by
  rcases s.stageOk_shows with h | ⟨r, hr, c, h⟩
  · rw [h]
    exact ⟨rfl, rfl, rfl, rfl, rfl, rfl⟩
  · have hne : ∀ a, 0xF0030000 ≤ a → a ≠ CXB_RR_STAT r := fun a ha => by unfold CXB_RR_STAT; omega
    rw [h]
    exact ⟨State.reg_setF_other _ _ _ _ _ (hne _ (by decide)), State.reg_setF_other _ _ _ _ _ (hne _ (by decide)), rfl, rfl, rfl, rfl⟩

/-- The answer to an ARM goes out: from a standby to its primary. -/
def State.armReply (n : Word) : Option (Bool × Nat) × State → State
  | (none, s) => s
  | (some (ok, st), s) =>
    if s.twinStandby then
      let s := s.partnerSend [9, n.toNat, ok.toNat]
      if ok then s else s.twinStale 5
    else s.chainSend .epoReply s.headIdx [n.toNat, s.dev, ok.toNat, st]

theorem State.armReply_sends {s u : State} (h : s.SameSender u) (ht : s.twinStandby = false) (hp : s.pwr.standby = false) (n : Word)
    (ok : Bool) (st : Nat) : State.armReply n (some (ok, st), u) =
      { u with out := s.out ++ [.leat .epoReply s.headIdx [n.toNat, s.dev, ok.toNat, st]] } := by
  have hrole : u.twinStandby = false := by rw [State.twinStandby, State.fld, h.role]; exact ht
  have hhead : u.headIdx = s.headIdx := by rw [State.headIdx, State.fld, h.id, State.headIdx, State.fld]
  have hdev : u.dev = s.dev := by rw [State.dev, State.fld, h.id, State.dev, State.fld]
  have hstandby : u.pwr.standby = false := by rw [h.pwr]; exact hp
  rw [State.armReply, if_neg (ne_true_of_eq_false hrole), State.chainSend_of_notStandby hrole, hhead, hdev, hstandby, h.out]
  rfl

/-- A device that refuses keeps the number of the epoch it refuses. -/
def State.epRefuses (s : State) (n : Word) : State := { s with ep := { s.ep with refused := some n } }

/-- A participant takes part in an epoch. -/
def State.armedFor (s : State) (n : Word) (e : Stamp) : State :=
  { s with ep := { s.ep with part := some ⟨n, e, false, 0⟩, refused := none } }

section
variable {s u : State} {rx : Rx} {n : Word} {e : Stamp} {l : EpochLists}

theorem State.ctrl_ok (h : rx.ok = true) (s : State) (f : State → State) : ∃ x, s.ctrl rx f = f (s.withLeat x) :=
  ⟨_, if_pos h⟩

/-- What an ARM that has come intact does. -/
def State.armTake (n : Word) (e : Stamp) (l : EpochLists) (s : State) : State :=
  if s.isHead then s
  else match s.epRole l with
    | none => s
    | some role => State.armReply n (s.epArm n e role)

theorem exec_epoArm : exec (.epoArm rx n e l) s = .next (s.ctrl rx (State.armTake n e l)) := by
  have hf : (fun s : State => if s.isHead then s
      else match s.epRole l with
        | none => s
        | some role =>
          let (r, s) := s.epArm n e role
          match r with
          | none => s
          | some (ok, st) =>
            if s.twinStandby then
              let s := s.partnerSend [9, n.toNat, ok.toNat]
              if ok then s else s.twinStale 5
            else s.chainSend .epoReply s.headIdx [n.toNat, s.dev, ok.toNat, st]) = State.armTake n e l := by
    funext s
    unfold State.armTake
    cases s.epRole l with
    | none => rfl
    | some role =>
      dsimp only
      generalize s.epArm n e role = p
      obtain ⟨_ | ⟨ok, st⟩, u⟩ := p <;> rfl
  exact congrArg (fun f => Host.Outcome.next (s.ctrl rx f)) hf

/-- An ARM at a member that is not the headwater and not listed to leave. -/
theorem State.armTake_member (hh : s.isHead = false) (hm : s.mstate = mMember)
    (hl : (l.leave.any fun d => d.val == s.dev) = false) : s.armTake n e l = State.armReply n (s.epArm n e 0) := by
  have hrole : s.epRole l = some 0 := (if_pos hm).trans (congrArg some (if_neg (ne_true_of_eq_false hl)))
  rw [State.armTake, hh, hrole]
  rfl

theorem State.epArm_refuses {st : Nat} (hc : s.epCheck n e = (st, u)) (h0 : st ≠ 0) :
    s.epArm n e 0 = (some (false, st), u.epRefuses n) := by
  rw [State.epArm, hc]
  exact if_neg h0

theorem State.epArm_arms (hc : s.epCheck n e = (0, s)) (hp : s.ep.part = none) :
    s.epArm n e 0 = (some (true, 0),
      (s.armedFor n e).setEpState 2) := by
  rw [State.epArm, hc]
  dsimp only
  rw [hp]
  rfl

end

/-- A message of the chain that has come intact is taken up; of the chain's ports the count of bad flits alone changed. -/
theorem does_ctrl {s : State} {rx : Rx} {i : Instr} {f : State → State} {P : State → Prop} (hi : exec i s = .next (s.ctrl rx f))
    (hok : rx.ok = true) (h : ∀ x, P (f (s.withLeat x))) : s.Does i P := by
  obtain ⟨x, hx⟩ := State.ctrl_ok hok s f
  exact ⟨_, hi, hx ▸ h x⟩

section
variable {s : State} {rx : Rx} {n : Word} {e : Stamp} {l : EpochLists} (hok : rx.ok = true) (hh : s.isHead = false)
  (hp : s.ep.part = none) (ht : s.twinStandby = false) (hs : s.pwr.standby = false) (hm : s.mstate = mMember)
  (hl : (l.leave.any fun d => d.val == s.dev) = false)
include hok hh hp ht hs hm hl

/-- A check that fails is answered with its status. -/
theorem epoArm_refused {st : Nat} (h0 : st ≠ 0)
    (hc : ∀ x, ∃ u, (s.withLeat x).epCheck n e = (st, u) ∧ s.SameSender u ∧ u.ep = s.ep) :
    s.Does (.epoArm rx n e l) fun t => t.ep.part = none ∧ t.staged = s.staged ∧
      t.out = s.out ++ [.leat .epoReply s.headIdx [n.toNat, s.dev, 0, st]] ∧ t.mem = s.mem := by
  refine does_ctrl exec_epoArm hok fun x => ?_
  obtain ⟨u, hu, hsame, hep⟩ := hc x
  have hsame' : s.SameSender (u.epRefuses n) := ⟨hsame.id, hsame.role, hsame.pwr, hsame.out, hsame.staged, hsame.mem⟩
  have hpart : (u.epRefuses n).ep.part = none := by rw [State.epRefuses, hep]; exact hp
  rw [State.armTake_member (s := s.withLeat x) hh hm hl, State.epArm_refuses hu h0, State.armReply_sends hsame' ht hs]
  exact ⟨hpart, hsame'.staged, rfl, hsame'.mem⟩

/-- Where the checks pass, the device is ARMED and answers so. -/
theorem epoArm_armed (hg : s.gen + 1 = n) (hi : s.inFullIdle e = true) (hst : s.stageOk.1 = true) :
    s.Does (.epoArm rx n e l) fun t =>
      t.ep.part = some ⟨n, e, false, 0⟩ ∧ t.epState = 2 ∧ t.armed = true ∧ t.staged = s.staged ∧
      t.out = s.out ++ [.leat .epoReply s.headIdx [n.toNat, s.dev, 1, 0]] ∧
      ((s.ctx ctxSup).holdReq = none → s.RegsBut t [ANG_EPOCH_STAT]) := by
  refine does_ctrl exec_epoArm hok fun x => ?_
  have hst' : (s.withLeat x).stageOk.1 = true := by rw [State.stageOk_leat]; exact hst
  obtain ⟨v, hv⟩ : ∃ v, (s.withLeat x).armedFor n e = v := ⟨_, rfl⟩
  have harm : (s.withLeat x).epArm n e 0 = (some (true, 0), v.setEpState 2) := by
    rw [State.epArm_arms (State.epCheck_passes (s := s.withLeat x) hg hi hst') hp, hv]
  have hbeside : (v.setEpState 2).besideCtx = (v.setF ANG_EPOCH_STAT ANG_EPOCH_STAT_STATE 2).besideCtx := by
    rw [v.setEpState_goes (by decide) (by decide)]
    exact State.besideCtx_armWake _
  have hep : (v.setEpState 2).ep = v.ep := congrArg (fun b : State × (Nat → Word) => b.1.ep) hbeside
  have hreg : ∀ a < 0x100000000, a ≠ ANG_EPOCH_STAT → (v.setEpState 2).reg a = s.reg a := fun a ha hne =>
    (State.reg_of_besideCtx hbeside ha).trans ((State.reg_setF_other _ _ _ _ _ hne).trans (by rw [← hv]; rfl))
  have hsame : s.SameSender (v.setEpState 2) := {
    id := hreg _ (by decide) (by decide)
    role := hreg _ (by decide) (by decide)
    pwr := (congrArg (fun b : State × (Nat → Word) => b.1.pwr) hbeside).trans (by rw [← hv]; rfl)
    out := (congrArg (fun b : State × (Nat → Word) => b.1.out) hbeside).trans (by rw [← hv]; rfl)
    staged := (congrArg (fun b : State × (Nat → Word) => b.1.staged) hbeside).trans (by rw [← hv]; rfl)
    mem := (congrArg (fun b : State × (Nat → Word) => b.1.mem) hbeside).trans (by rw [← hv]; rfl) }
  have hpart : (v.setEpState 2).ep.part = some ⟨n, e, false, 0⟩ := by rw [hep, ← hv]; rfl
  rw [State.armTake_member (s := s.withLeat x) hh hm hl, harm, State.armReply_sends hsame ht hs]
  refine ⟨hpart, v.fld_state_setEpState (by decide), by rw [State.armed, hpart]; rfl, hsame.staged, rfl, fun hhold => ?_⟩
  have hbut := State.regsBut_setEpState (s := v) (by rw [← hv]; exact hhold) (x := 2) (by decide) (by decide)
  exact fun a ha => (hbut a ha).trans (by rw [← hv]; rfl)

end

/-! ### The decision at the headwater (R91) -/

theorem State.chainSend_beyondOut (s : State) (k : LeatKind) (d : Nat) (l : List Nat) :
    { s.chainSend k d l with out := [] } = { s with out := [] } := by
  unfold State.chainSend
  split <;> rfl

theorem State.sendDecision_rest (s : State) (h : EpHead) (n : Nat) : ∃ o, s.sendDecision h n = { s with out := o } := by
  have hview : { s.sendDecision h n with out := [] } = { s with out := [] } := by
    unfold State.sendDecision
    split
    · rfl
    · exact foldl_keeps (p := fun u : State => { u with out := [] }) (fun u _ => u.chainSend_beyondOut _ _ _) _ s
  exact ⟨_, congrArg (fun u : State => { u with out := (s.sendDecision h n).out }) hview⟩

theorem State.chainSend_rest (s : State) (k : LeatKind) (d : Nat) (l : List Nat) : ∃ o, s.chainSend k d l = { s with out := o } :=
  ⟨_, congrArg (fun u : State => { u with out := (s.chainSend k d l).out }) (s.chainSend_beyondOut k d l)⟩

/-- The headwater's record with its decision. -/
def EpHead.decidedAs (h : EpHead) (commit : Bool) (st copies : Nat) : EpHead := { h with decided := some (commit, st), copies := copies }

/-- The state with the headwater's record and what has been sent. -/
def State.epTold (s : State) (h : EpHead) (o : List OutMsg) : State := { s with out := o, ep := { s.ep with head := some h } }

/-- The headwater's own part follows its decision. -/
def State.epFollow (s : State) (commit : Bool) (st : Nat) : State :=
  if commit then
    match s.ep.part with
    | some p => State.setEpState { s with ep := { s.ep with part := some { p with commit := true } } } 3
    | none => s
  else s.epAbandon st

/-- A decision goes to every device, and its end to the requester. -/
def State.epTell (s : State) (h : EpHead) (st : Nat) : State :=
  let s := s.sendDecision h 1
  if h.requester ≠ s.dev then s.chainSend .epoRes h.requester [h.n.toNat, st] else s

theorem State.epTell_rest (s : State) (h : EpHead) (st : Nat) : ∃ o, s.epTell h st = { s with out := o } := by
  obtain ⟨o1, h1⟩ := s.sendDecision_rest h 1
  unfold State.epTell
  rw [h1]
  dsimp only
  split
  · obtain ⟨o2, h2⟩ := State.chainSend_rest { s with out := o1 } .epoRes h.requester [h.n.toNat, st]
    exact ⟨o2, h2⟩
  · exact ⟨o1, rfl⟩

theorem State.epDecide_eq (s : State) (h : EpHead) (commit : Bool) (st : Nat) : ∃ o c,
    s.epDecide h commit st = (s.epTold (h.decidedAs commit st c) o).epFollow commit st := by
  obtain ⟨o, ho⟩ := (s.epTold (h.decidedAs commit st (s.fld ANG_EPOCH_CTL ANG_EPOCH_CTL_REPEAT - 1)) s.out).epTell_rest
    (h.decidedAs commit st (s.fld ANG_EPOCH_CTL ANG_EPOCH_CTL_REPEAT - 1)) st
  exact ⟨o, _, congrArg (fun u : State => u.epFollow commit st) ho⟩

/-- A decision to commit: the headwater's own part follows it, and the shadows stay. -/
theorem State.epDecide_commits (s : State) (h : EpHead) (st : Nat) :
    (∃ h', (s.epDecide h true st).ep.head = some h' ∧ h'.decided = some (true, st)) ∧
    (s.epDecide h true st).ep.part = s.ep.part.map (fun p => { p with commit := true }) ∧
    (s.epDecide h true st).staged = s.staged := by
  obtain ⟨o, c, ho⟩ := s.epDecide_eq h true st
  rw [ho]
  obtain ⟨u, hu⟩ : ∃ u, s.epTold (h.decidedAs true st c) o = u := ⟨_, rfl⟩
  have hhead : u.ep.head = some (h.decidedAs true st c) := by rw [← hu]; rfl
  have hpart : u.ep.part = s.ep.part := by rw [← hu]; rfl
  have hstaged : u.staged = s.staged := by rw [← hu]; rfl
  rw [hu, State.epFollow, if_pos rfl, hpart]
  cases hp : s.ep.part with
  | none => exact ⟨⟨_, hhead, rfl⟩, hpart.trans hp, hstaged⟩
  | some p =>
    have hv := State.epView_setEpState { u with ep := { u.ep with part := some { p with commit := true } } } 3
    have hep := State.ep_of_epView hv
    exact ⟨⟨_, (congrArg Epoch.head hep).trans hhead, rfl⟩, congrArg Epoch.part hep,
      (State.staged_of_epView hv).trans hstaged⟩

/-- A decision to abandon. -/
theorem State.epDecide_abandons (s : State) (h : EpHead) (st : Nat) :
    (∃ h', (s.epDecide h false st).ep.head = some h' ∧ h'.decided = some (false, st)) ∧
    (s.epDecide h false st).ep.part = none ∧ (s.epDecide h false st).reg ANG_EPOCH_MISS = s.reg ANG_EPOCH_MISS := by
  obtain ⟨o, c, ho⟩ := s.epDecide_eq h false st
  have ha := (s.epTold (h.decidedAs false st c) o).epAbandon_abandons st
  rw [ho, State.epFollow, if_neg (by decide)]
  exact ⟨⟨_, congrArg Epoch.head ha.ep, rfl⟩, congrArg Epoch.part ha.ep, ha.reg _ (by decide) (by decide)⟩

theorem exec_epochDecide {s : State} {h : EpHead} (hh : s.ep.head = some h) : exec .epochDecide s =
    .next (if h.decided.isSome || !s.leadReached h.e then s
      else match h.parts.find? fun d => !h.armed.contains d with
        | some d => (s.put ANG_EPOCH_MISS (BitVec.ofNat 32 (2 ^ 31 + d))).epDecide h false 0x01
        | none => if s.coasting then s.epDecide h false 0x03 else s.epDecide h true 0) := by
  have he : exec .epochDecide s = execEpochDecide s := rfl
  rw [he, execEpochDecide, hh] <;> rfl

theorem find_unarmed (h : EpHead) : (h.parts.find? fun d => !h.armed.contains d) = none ↔ ∀ d ∈ h.parts, d ∈ h.armed := by
  simp [List.find?_eq_none]

/-- At E less LEAD the headwater commits where every participant is armed and it does not coast, and abandons otherwise. -/
theorem epochDecide_decides {s : State} {h : EpHead} (hh : s.ep.head = some h) (hd : h.decided = none) (hl : s.leadReached h.e = true) :
    s.Does .epochDecide fun t => ∃ h', t.ep.head = some h' ∧
      (h'.decided = if (∀ d ∈ h.parts, d ∈ h.armed) then (if s.coasting then some (false, 0x03) else some (true, 0))
        else some (false, 0x01)) ∧
      ((∀ d ∈ h.parts, d ∈ h.armed) → s.coasting = false → t.ep.part = s.ep.part.map (fun p => { p with commit := true }) ∧
        t.staged = s.staged) ∧
      (¬ ((∀ d ∈ h.parts, d ∈ h.armed) ∧ s.coasting = false) → t.ep.part = none) := by
  refine ⟨_, (exec_epochDecide hh).trans (congrArg _ (if_neg (by simp [hd, hl]))), ?_⟩
  cases hf : h.parts.find? fun d => !h.armed.contains d with
  | some d =>
    have hall : ¬ ∀ d ∈ h.parts, d ∈ h.armed := fun hall => by
      rw [(find_unarmed h).mpr hall] at hf
      cases hf
    obtain ⟨⟨h', hhead, hdec⟩, hpart, -⟩ := (s.put ANG_EPOCH_MISS (BitVec.ofNat 32 (2 ^ 31 + d))).epDecide_abandons h 0x01
    rw [if_neg hall]
    exact ⟨h', hhead, hdec, fun ha => absurd ha hall, fun _ => hpart⟩
  | none =>
    have hall := (find_unarmed h).mp hf
    rw [if_pos hall]
    cases hc : s.coasting with
    | true =>
      obtain ⟨⟨h', hhead, hdec⟩, hpart, -⟩ := s.epDecide_abandons h 0x03
      exact ⟨h', hhead, hdec, fun _ hn => absurd hn (by decide), fun _ => hpart⟩
    | false =>
      obtain ⟨⟨h', hhead, hdec⟩, hpart, hstaged⟩ := s.epDecide_commits h 0
      exact ⟨h', hhead, hdec, fun _ _ => ⟨hpart, hstaged⟩, fun hn => absurd ⟨hall, rfl⟩ hn⟩

/-- A further copy of the decision goes out. -/
theorem epoDecResend_sends {s : State} {h : EpHead} (hh : s.ep.head = some h) (hd : h.decided.isSome = true) (hc : h.copies ≠ 0)
    (hs : s.pwr.standby = false) (ht : s.twinStandby = false) :
    s.Does .epoDecResend fun t => t.ep.head = some { h with copies := h.copies - 1 } ∧
      t.out.length = s.out.length + 1 ∧ t = { s with ep := t.ep, out := t.out } := by
  obtain ⟨⟨c, st⟩, hdec⟩ := Option.isSome_iff_exists.mp hd
  have hsend : s.sendDecision h 1 = { s with out := s.out ++ [.leat .epoDec toAll
      ([h.n.toNat, c.toNat, st] ++ h.join.filter fun d => h.armed.contains d)] } := by
    unfold State.sendDecision
    rw [hdec]
    exact (State.chainSend_of_notStandby ht _ _ _).trans (by rw [hs]; rfl)
  have he : exec .epoDecResend s = .next { s.sendDecision h 1 with
      ep := { (s.sendDecision h 1).ep with head := some { h with copies := h.copies - 1 } } } := by
    have hex : exec .epoDecResend s = execEpoDecResend s := rfl
    rw [hex, execEpoDecResend, hh]
    dsimp only
    rw [if_neg (not_or.mpr ⟨by rw [hdec]; exact Bool.false_ne_true, hc⟩)]
  exact ⟨_, he, rfl, by rw [hsend]; exact List.length_append, by rw [hsend]⟩

/-! ### The answer of a participant at the headwater (R91) -/

section
variable {s : State} {rx : Rx} {n : Word} {h : EpHead} {dev : Fin 512} (hn : h.n = n) (hd : h.decided = none)
  (hp : h.parts.contains dev.val = true)
include hn hd hp

/-- The answer counts: it names the epoch that is not decided yet, and its device is listed. -/
theorem EpHead.reply_counts : ¬(h.n ≠ n ∨ h.decided.isSome ∨ !(h.parts.contains dev.val || h.join.contains dev.val)) := by
  rw [hd, hp]
  exact fun hc => hc.elim (absurd hn) fun hc => hc.elim Bool.false_ne_true Bool.false_ne_true

variable (hok : rx.ok = true) (hh : s.ep.head = some h)
include hok hh

theorem epoReply_armed (st : Byte) : s.Does (.epoReply rx dev n true st) fun t =>
    t.ep.head = some { h with armed := if h.armed.contains dev.val then h.armed else h.armed ++ [dev.val] } ∧
    t.ep.part = s.ep.part ∧ s.RegsBut t [] ∧ t.staged = s.staged := by
  refine does_ctrl rfl hok fun x => ?_
  have hhead : (s.withLeat x).ep.head = some h := hh
  dsimp only
  rw [hhead]
  dsimp only
  rw [if_neg (EpHead.reply_counts hn hd hp), if_pos rfl]
  exact ⟨rfl, rfl, fun _ _ => rfl, rfl⟩

theorem epoReply_refused (st : Byte) : s.Does (.epoReply rx dev n false st) fun t => t.ep.part = none ∧
    t.reg ANG_EPOCH_MISS = BitVec.ofNat 32 (2 ^ 31 + dev.val) ∧
    (∃ h', t.ep.head = some h' ∧ h'.decided = some (false, st.toNat)) := by
  refine does_ctrl rfl hok fun x => ?_
  have hhead : (s.withLeat x).ep.head = some h := hh
  dsimp only
  rw [hhead]
  dsimp only
  rw [if_neg (EpHead.reply_counts hn hd hp), if_neg (by decide), if_pos hp]
  obtain ⟨hdec, hpart, hmiss⟩ :=
    ((s.withLeat x).put ANG_EPOCH_MISS (BitVec.ofNat 32 (2 ^ 31 + dev.val))).epDecide_abandons h st.toNat
  exact ⟨hpart, hmiss.trans (State.reg_put_same _ _ _), hdec⟩

end

/-! ### The decision at a participant (R91, R92) -/

/-- What a decision that has come intact does. -/
def State.decTaken (n : Word) (commit : Bool) (st : Byte) (joined : List (Fin 512)) (s : State) : State :=
  match s.ep.part with
  | none => if !s.isHead && !commit && s.ep.refused == some n then s.epAbandon st.toNat else s
  | some p =>
    if s.isHead || p.n != n || p.commit then s
    else if commit then
      let role := if p.role = 1 ∧ !(joined.any fun d => d.val == s.dev) then 2 else p.role
      { s with ep := { s.ep with part := some { p with commit := true, role := role } } }.setEpState 3
    else s.epAbandon st.toNat

section
variable {s : State} {rx : Rx} {n : Word} {c : Bool} {st : Byte} {joined : List (Fin 512)}

theorem exec_epoDec : exec (.epoDec rx n c st joined) s = .next (s.ctrl rx (State.decTaken n c st joined)) := rfl

/-- The decision of an epoch that the device is not ARMED for, or has the decision of, changes nothing. -/
theorem State.decTaken_nothing (hp : ∀ p, s.ep.part = some p → p.n ≠ n ∨ p.commit = true)
    (hr : s.ep.part.isSome ∨ s.isHead ∨ c ∨ s.ep.refused ≠ some n) : s.decTaken n c st joined = s := by
  unfold State.decTaken
  cases hpart : s.ep.part with
  | none =>
    refine if_neg fun hall => ?_
    simp only [Bool.and_eq_true, Bool.not_eq_true', beq_iff_eq] at hall
    obtain ⟨⟨hhead, hcommit⟩, href⟩ := hall
    rw [hpart, hhead, hcommit] at hr
    simp [href] at hr
  | some p =>
    refine if_pos ?_
    rcases hp p hpart with h | h
    · simp [h]
    · simp [h]

/-- The first COMMIT for the epoch the device is ARMED for. -/
theorem State.decTaken_commits {p : EpPart} (hh : s.isHead = false) (hpart : s.ep.part = some p) (hn : p.n = n) (hc : p.commit = false) :
    (s.decTaken n true st joined).epState = 3 ∧ (s.decTaken n true st joined).staged = s.staged ∧
    ((s.ctx ctxSup).holdReq = none → s.RegsBut (s.decTaken n true st joined) [ANG_EPOCH_STAT]) ∧
    ∃ p', (s.decTaken n true st joined).ep.part = some p' ∧ p'.commit = true ∧ p'.n = n ∧ p'.e = p.e := by
  obtain ⟨role, hrole⟩ : ∃ r, (if p.role = 1 ∧ !(joined.any fun d => d.val == s.dev) then 2 else p.role) = r := ⟨_, rfl⟩
  obtain ⟨v, hv⟩ : ∃ v, { s with ep := { s.ep with part := some { p with commit := true, role := role } } } = v := ⟨_, rfl⟩
  have he : s.decTaken n true st joined = v.setEpState 3 := by
    unfold State.decTaken
    rw [hpart]
    dsimp only
    rw [if_neg (by simp [hh, hn, hc]), if_pos rfl, hrole, hv]
  have hview := v.epView_setEpState 3
  rw [he]
  refine ⟨v.fld_state_setEpState (by decide), ?_, fun hhold a ha => ?_, { p with commit := true, role := role }, ?_, rfl, hn, rfl⟩
  · exact (State.staged_of_epView hview).trans (by rw [← hv]; rfl)
  · exact (State.regsBut_setEpState (s := v) (by rw [← hv]; exact hhold) (by decide) (by decide) a ha).trans (by rw [← hv]; rfl)
  · exact (congrArg Epoch.part (State.ep_of_epView hview)).trans (by rw [← hv]; rfl)

/-- A decision to abandon the epoch the device is ARMED for, or has refused. -/
theorem State.decTaken_abandons (hh : s.isHead = false)
    (hp : (∃ p, s.ep.part = some p ∧ p.n = n ∧ p.commit = false) ∨ s.ep.part = none ∧ s.ep.refused = some n) :
    s.decTaken n false st joined = s.epAbandon st.toNat := by
  unfold State.decTaken
  rcases hp with ⟨p, hpart, hn, hc⟩ | ⟨hpart, href⟩
  · rw [hpart]
    dsimp only
    rw [if_neg (by simp [hh, hn, hc]), if_neg (by decide)]
  · rw [hpart]
    exact if_pos (by simp [hh, href])

end

/-- Settles O17: a message that has come intact is taken up as its meaning says; the wakes of contexts and the ends of host
commands that a new STATE brings leave the epoch's records, the shadows and the registers of the device as they are. -/
theorem epochArmingAndDecision : Obligations.EpochArmingAndDecision := by
  intro s rx n e l dev st joined stat
  refine ⟨fun hok hh hp ht hs hm hl => ⟨fun hg => ?generation, fun hg hi => ?window, fun hg hi hst => ?stage,
      fun hg hi hst => epoArm_armed hok hh hp ht hs hm hl hg hi hst⟩,
    fun hok h hh hn hd hp => ⟨epoReply_armed hn hd hp hok hh st, epoReply_refused hn hd hp hok hh st⟩,
    fun h hh hd => ⟨fun hl => ?early, fun hl => epochDecide_decides hh hd hl⟩,
    fun h hh hd hc hs ht => epoDecResend_sends hh hd hc hs ht,
    fun hok hh p hp hn hc => ⟨?commit, ?abandon⟩, fun hok hh hp hr => ?refusal, fun hok hp c hr => ?later⟩
  case generation =>
    refine epoArm_refused hok hh hp ht hs hm hl (st := 0x15) (by decide) fun x => ?_
    exact ⟨_, State.epCheck_generation (s := s.withLeat x) hg, ⟨rfl, rfl, rfl, rfl, rfl, rfl⟩, rfl⟩
  case window =>
    refine epoArm_refused hok hh hp ht hs hm hl (st := 0x13) (by decide) fun x => ?_
    exact ⟨_, State.epCheck_window (s := s.withLeat x) hg hi, ⟨rfl, rfl, rfl, rfl, rfl, rfl⟩, rfl⟩
  case stage =>
    refine epoArm_refused hok hh hp ht hs hm hl (st := 0x14) (by decide) fun x => ?_
    have hst' : (s.withLeat x).stageOk.1 = false := by rw [State.stageOk_leat]; exact hst
    obtain ⟨hid, hrole, hpwr, hout, hstaged, hmem⟩ := (s.withLeat x).sameSender_stageOk
    have hep : (s.withLeat x).stageOk.2.ep = s.ep := by
      rcases (s.withLeat x).stageOk_shows with h | ⟨r, -, c, h⟩ <;> rw [h] <;> rfl
    exact ⟨_, State.epCheck_stage (s := s.withLeat x) hg hi hst', ⟨hid, hrole, hpwr, hout, hstaged, hmem⟩, hep⟩
  case early => rw [exec_epochDecide hh, hl, if_pos (by simp)]
  case commit => exact does_ctrl exec_epoDec hok fun x => State.decTaken_commits (s := s.withLeat x) hh hp hn hc
  case abandon =>
    refine does_ctrl exec_epoDec hok fun x => ?_
    rw [State.decTaken_abandons (s := s.withLeat x) hh (.inl ⟨p, hp, hn, hc⟩)]
    have ha := (s.withLeat x).epAbandon_abandons st.toNat
    refine ⟨by rw [ha.ep], ha.staged, ha.cmpdStaged, ha.result.trans (Nat.mod_eq_of_lt st.isLt), by rw [State.armed, ha.ep]; rfl⟩
  case refusal =>
    refine does_ctrl exec_epoDec hok fun x => ?_
    rw [State.decTaken_abandons (s := s.withLeat x) hh (.inr ⟨hp, hr⟩)]
    have ha := (s.withLeat x).epAbandon_abandons st.toNat
    exact ⟨by rw [ha.ep], by rw [ha.ep], ha.staged, ha.cmpdStaged, ha.result.trans (Nat.mod_eq_of_lt st.isLt)⟩
  case later =>
    refine does_ctrl exec_epoDec hok fun x => ?_
    rw [State.decTaken_nothing (s := s.withLeat x) hp hr]
    exact ⟨rfl, rfl, fun _ _ => rfl, rfl⟩

end Sys2Proof.Machine

end

section

/-! SUPPORT. What a fence leaves alone (R97, R98): beside latches, discarded operations and held contexts nothing changes. -/

namespace Sys2Proof.Machine

/-- Of the state beside what a fence works on: angle, memory, converters' samples, interrupts, supplies, TAP and reply, and
one counter. -/
def State.beyondFence (k : Nat) (s : State) : Ang × Mem × Cxb × Irq × Pwr × Tap × Reply × Ctr :=
  (s.ang, s.mem, s.cxb, s.irq, s.pwr, s.tap, s.reply, s.ctr k)

section

variable {k : Nat}

theorem State.beyondFence_put (s : State) (a : Nat) (v : Word) : (s.put a v).beyondFence k = s.beyondFence k := rfl
theorem State.beyondFence_setF (s : State) (a : Nat) (f : Field) (x : Nat) : (s.setF a f x).beyondFence k = s.beyondFence k := rfl
theorem State.beyondFence_setPulse (s : State) (n : Nat) (p : Pulse) : (s.setPulse n p).beyondFence k = s.beyondFence k := rfl
theorem State.beyondFence_setPair (s : State) (p : Nat) (x : Pair) : (s.setPair p x).beyondFence k = s.beyondFence k := rfl

theorem State.beyondFence_flag (s : State) (a : Nat) (f : Field) : (s.flag a f).beyondFence k = s.beyondFence k := s.beyondFence_setF a f 1
theorem State.beyondFence_setCell (s : State) (m : Nat) (c : Cell) : (s.setCell m c).beyondFence k = s.beyondFence k := rfl
theorem State.beyondFence_pairSync (s : State) (p : Nat) : (s.pairSync p).beyondFence k = s.beyondFence k := by
  unfold State.pairSync
  rw [State.beyondFence_setF, State.beyondFence_setF, State.beyondFence_setF, State.beyondFence_setF]

theorem State.ctr_inc_other (s : State) {a k : Nat} (h : k ≠ a) : (s.inc a).ctr k = s.ctr k := by
  have happly : (s.ctrApply a).ctr k = s.ctr k := by
    unfold State.ctrApply
    split
    · rfl
    · exact (State.ctr_setCtr _ _ _ _).trans (if_neg h)
  exact ((State.ctr_setCtr _ _ _ _).trans (if_neg h)).trans happly

theorem State.beyondFence_inc (s : State) {a : Nat} (ha : k ≠ a) : (s.inc a).beyondFence k = s.beyondFence k := by
  unfold State.beyondFence
  rw [s.ctr_inc_other ha, State.inc_rest]

theorem State.beyondFence_incBy (s : State) {a : Nat} (ha : k ≠ a) (n : Nat) : (s.incBy a n).beyondFence k = s.beyondFence k := by
  induction n generalizing s with
  | zero => rfl
  | succ n ih => exact (ih _).trans (s.beyondFence_inc ha)

/-! Drives. -/

theorem State.beyondFence_drvSync (s : State) (n : Nat) : (s.drvSync n).beyondFence k = s.beyondFence k := by
  unfold State.drvSync
  extract_lets p g u v w
  have hu : u.beyondFence k = s.beyondFence k := by
    unfold u
    split
    · rfl
    · exact s.beyondFence_setPulse _ _
  rw [State.beyondFence_setF]
  exact ((v.beyondFence_setF _ _ _).trans (u.beyondFence_setF _ _ _)).trans hu

theorem State.beyondFence_blankEdge (s : State) (n : Nat) (rise : Bool) : (s.blankEdge n rise).beyondFence k = s.beyondFence k := by
  refine foldl_keeps (p := State.beyondFence k) (fun s k => ?_) _ s
  dsimp only
  split
  · exact (State.beyondFence_pairSync _ _).trans (s.beyondFence_setPair _ _)
  · rfl

theorem State.beyondFence_endShot (s : State) (n : Nat) : (s.endShot n).beyondFence k = s.beyondFence k := by
  unfold State.endShot
  split
  · rfl
  next x _ =>
    extract_lets _ u v w
    have hv : v.beyondFence k = s.beyondFence k := by
      unfold v
      split
      · exact (u.beyondFence_blankEdge n false).trans (s.beyondFence_setPulse _ _)
      · exact s.beyondFence_setPulse _ _
    have hw : w.beyondFence k = v.beyondFence k := by
      unfold w
      split
      · exact v.beyondFence_setCell _ _
      · rfl
    exact (w.beyondFence_drvSync n).trans (hw.trans hv)

theorem State.beyondFence_drvSafe (hk : k < 0xF1000000) (s : State) (n : Nat) : (s.drvSafe n).beyondFence k = s.beyondFence k :=
  (State.beyondFence_drvSync _ n).trans
    ((State.beyondFence_incBy _ (by unfold DRV_DISC_LO; omega) _).trans (s.beyondFence_endShot n))

theorem State.beyondFence_latchDrv (hk : k < 0xF1000000) (s : State) (n cause : Nat) : (s.latchDrv n cause).beyondFence k = s.beyondFence k := by
  refine (State.beyondFence_drvSafe hk _ n).trans ?_
  split
  · rfl
  · exact (State.beyondFence_setF _ _ _ _).trans (s.beyondFence_flag _ _)

/-! Cells and converters. -/

theorem State.beyondFence_dacFollow (s : State) (l m o : Nat) : (s.dacFollow l m o).beyondFence k = s.beyondFence k := by
  unfold State.dacFollow
  extract_lets c d
  split
  · rfl
  · exact s.beyondFence_setCell _ _

theorem State.beyondFence_refreshCell (s : State) (u : Nat) : (s.refreshCell u).beyondFence k = s.beyondFence k := by
  unfold State.refreshCell
  exact foldl_keeps (p := State.beyondFence k)
    (fun t m => (State.beyondFence_setF _ _ _ _).trans (t.beyondFence_dacFollow _ m _)) _ s

theorem State.beyondFence_latchMember (cause : Nat) (s : State) (m : Nat) : (s.latchMember cause m).beyondFence k = s.beyondFence k := by
  unfold State.latchMember
  split
  · rfl
  · exact (State.beyondFence_setF _ _ _ _).trans (s.beyondFence_flag _ _)

theorem State.beyondFence_latchCell (s : State) (u cause : Nat) : (s.latchCell u cause).beyondFence k = s.beyondFence k :=
  (State.beyondFence_refreshCell _ u).trans (foldl_keeps (p := State.beyondFence k) (State.beyondFence_latchMember cause) _ s)

theorem State.beyondFence_cvgFence (hk : k < 0xF1000000) (s : State) (g : Nat) : (s.cvgFence g).beyondFence k = s.beyondFence k :=
  State.beyondFence_incBy _ (by unfold CVG_DISC_LO; omega) _

/-! Contexts, the twin, the machine check. -/

theorem State.beyondFence_setCtxState (s : State) (c x : Nat) : (s.setCtxState c x).beyondFence k = s.beyondFence k := by
  unfold State.setCtxState
  split
  · exact s.beyondFence_setF _ _ _
  · rfl

theorem State.beyondFence_endWait (s : State) (c : Nat) : (s.endWait c).beyondFence k = s.beyondFence k := rfl

theorem State.beyondFence_heldRecord (s : State) (c src code first second : Nat) :
    (s.heldRecord c src code first second).beyondFence k = s.beyondFence k := by
  unfold State.heldRecord
  split
  · rfl
  · exact s.beyondFence_put _ _

theorem State.beyondFence_holdCtx (s : State) (c src : Nat) : (s.holdCtx c src).beyondFence k = s.beyondFence k := by
  unfold State.holdCtx
  extract_lets st
  split
  · split
    · rfl
    · exact ((State.beyondFence_heldRecord _ _ _ _ _ _).trans (State.beyondFence_setCtxState _ _ _)).trans (s.beyondFence_endWait c)
  · rfl

theorem State.beyondFence_wakeSup (s : State) : s.wakeSup.beyondFence k = s.beyondFence k := by
  unfold State.wakeSup
  split
  · exact (State.beyondFence_setCtxState _ _ _).trans (s.beyondFence_endWait ctxSup)
  · rfl

theorem State.beyondFence_partnerSend (s : State) (l : List Nat) : (s.partnerSend l).beyondFence k = s.beyondFence k := rfl

theorem State.beyondFence_twinDrop (s : State) (cause : Nat) : (s.twinDrop cause).beyondFence k = s.beyondFence k := by
  unfold State.twinDrop
  split
  · exact (State.beyondFence_partnerSend _ _).trans (State.beyondFence_setF _ _ _ _)
  · rfl

theorem State.beyondFence_latchDrvs (hk : k < 0xF1000000) (s : State) (cause : Nat) :
    (s.latchDrvs cause).beyondFence k = s.beyondFence k :=
  foldl_keeps (p := State.beyondFence k) (fun s n => State.beyondFence_latchDrv hk s n cause) _ s

theorem State.beyondFence_latchCells (s : State) (cause : Nat) : (s.latchCells cause).beyondFence k = s.beyondFence k :=
  foldl_keeps (p := State.beyondFence k) (fun s u => s.beyondFence_latchCell u cause) _ s

theorem State.beyondFence_holdAll (s : State) (src : Nat) : (s.holdAll src).beyondFence k = s.beyondFence k :=
  foldl_keeps (p := State.beyondFence k) (fun s c => s.beyondFence_holdCtx c src) _ s

theorem State.beyondFence_deviceCheck (s : State) (code : Nat) : (s.deviceCheck code).beyondFence k = s.beyondFence k := rfl

theorem State.beyondFence_fenceRest (hk : k < 0xF1000000) (s : State) : s.fenceRest.beyondFence k = s.beyondFence k := by
  unfold State.fenceRest
  rw [State.beyondFence_deviceCheck, State.beyondFence_wakeSup, State.beyondFence_holdAll]
  exact (foldl_keeps (p := State.beyondFence k) (State.beyondFence_cvgFence hk) _ _).trans (s.beyondFence_latchCells 2)

theorem State.fence_again {s : State} (h : s.fenced = true) (cause : Nat) : s.fence cause = s.setF ANG_FENCE ANG_FENCE_MORE 1 := if_pos h

/-- A fence changes nothing beside what it works on. -/
theorem State.beyondFence_fence (hk : k < 0xF1000000) (s : State) (cause : Nat) : (s.fence cause).beyondFence k = s.beyondFence k := by
  cases h : s.fenced with
  | true => rw [State.fence_again h, State.beyondFence_setF]
  | false =>
    rw [State.fence_eq h]
    rw [State.beyondFence_fenceRest hk, State.beyondFence_latchDrvs hk, State.beyondFence_twinDrop, State.beyondFence_setF,
      State.beyondFence_flag]

end

/-- Of the registers below the tiles' ranges a fence changes those that show it. -/
theorem State.reg_fence (s : State) (cause : Nat) {a : Nat} (ha : a < 0xF1000000) (hne : a ∉ [ANG_STATUS, ANG_FENCE, TWIN_STATUS]) :
    (s.fence cause).reg a = s.reg a := by
  obtain ⟨hstatus, hne⟩ := not_or.mp (mt List.mem_cons.mpr hne)
  obtain ⟨hfence, hne⟩ := not_or.mp (mt List.mem_cons.mpr hne)
  cases h : s.fenced with
  | true => rw [State.fence_again h]; exact State.reg_setF_other _ _ _ _ _ hfence
  | false =>
    rw [State.fence_eq h]
    have hdrvs := State.Keeps.foldl (fun (s : State) n => .latchDrv s n 2) (List.range 512)
      (((s.flag ANG_STATUS ANG_STATUS_FENCED).setF ANG_FENCE ANG_FENCE_CAUSE cause).twinDrop cause)
    refine ((State.Keeps.fenceRest _).regs a (not_shown_low ha)).trans ((hdrvs.regs a (not_shown_low ha)).trans ?_)
    exact (State.reg_twinDrop _ cause (List.ne_of_not_mem_cons hne)).trans
      ((State.reg_setF_other _ _ _ _ _ hfence).trans (State.reg_setF_other _ _ _ _ _ hstatus))

/-- Fenced or not before, the device is fenced. -/
theorem State.fenced_fence (s : State) {cause : Nat} (hc : cause < 2 ^ fieldWidth ANG_FENCE_CAUSE) : (s.fence cause).fenced = true := by
  cases h : s.fenced with
  | true =>
    rw [State.fence_again h, State.fenced, State.bit, State.fld_setF_other _ _ _ _ _ _ (by decide)]
    exact h
  | false => exact (State.fence_fencedBy h hc).fenced

end Sys2Proof.Machine

end

section

/-! SUPPORT. The angle sources (R58-R76): what the active angle's functions leave alone, what losing a source and a
measurement do to the source and to the others. -/

namespace Sys2Proof.Machine

section

variable {n : Nat} {s t u : State}

/-- The sources, the memory, the arrived words and the interrupts are as they were, and so are the status register and the
count of illegal transitions of source `n`. -/
structure State.KeepsSources (n : Nat) (s t : State) : Prop where
  srcs : t.ang.srcs = s.ang.srcs
  mem : t.mem = s.mem
  cxb : t.cxb = s.cxb
  irq : t.irq = s.irq
  stat : t.reg (ANG_SRC_STAT n) = s.reg (ANG_SRC_STAT n)
  ill : t.ctr (ANG_SRC_ILL_LO n) = s.ctr (ANG_SRC_ILL_LO n)

theorem State.KeepsSources.refl : s.KeepsSources n s := ⟨rfl, rfl, rfl, rfl, rfl, rfl⟩

theorem State.KeepsSources.trans (h : s.KeepsSources n t) (h' : t.KeepsSources n u) : s.KeepsSources n u :=
  ⟨h'.srcs.trans h.srcs, h'.mem.trans h.mem, h'.cxb.trans h.cxb, h'.irq.trans h.irq, h'.stat.trans h.stat, h'.ill.trans h.ill⟩

theorem State.KeepsSources.put {a : Nat} (h : ANG_SRC_STAT n ≠ a) (v : Word) : s.KeepsSources n (s.put a v) :=
  ⟨rfl, rfl, rfl, rfl, s.reg_put_other a _ v h, rfl⟩

theorem State.KeepsSources.setF {a : Nat} (h : ANG_SRC_STAT n ≠ a) (f : Field) (x : Nat) : s.KeepsSources n (s.setF a f x) := .put h _

theorem State.KeepsSources.setAct (l : Loop) : s.KeepsSources n { s with ang := { s.ang with act := l } } :=
  ⟨rfl, rfl, rfl, rfl, rfl, rfl⟩

theorem State.KeepsSources.src (h : s.KeepsSources n t) (m : Nat) : t.src m = s.src m := by
  unfold State.src
  rw [h.srcs]

theorem State.KeepsSources.fld (h : s.KeepsSources n t) (f : Field) : t.fld (ANG_SRC_STAT n) f = s.fld (ANG_SRC_STAT n) f := by
  unfold State.fld
  rw [h.stat]

theorem State.KeepsSources.bit (h : s.KeepsSources n t) (f : Field) : t.bit (ANG_SRC_STAT n) f = s.bit (ANG_SRC_STAT n) f := by
  unfold State.bit
  rw [h.fld]

variable (hn : n < 4)

include hn

theorem srcStat_ne_show : ANG_SRC_STAT n ∉ [ANG_VEL, ANG_STATUS, ANG_FENCE, TWIN_STATUS] := by
  simp only [ANG_SRC_STAT, ANG_VEL, ANG_STATUS, ANG_FENCE, TWIN_STATUS, List.mem_cons, List.not_mem_nil, or_false, not_or]
  omega

theorem State.KeepsSources.fence (cause : Nat) : s.KeepsSources n (s.fence cause) := by
  have hk : ANG_SRC_ILL_LO n < 0xF1000000 := by unfold ANG_SRC_ILL_LO; omega
  have hview := State.beyondFence_fence hk s cause
  simp only [State.beyondFence, Prod.mk.injEq] at hview
  obtain ⟨hang, hmem, hcxb, hirq, -, -, -, hctr⟩ := hview
  exact ⟨congrArg Ang.srcs hang, hmem, hcxb, hirq,
    s.reg_fence cause (by unfold ANG_SRC_STAT; omega) (List.not_mem_of_not_mem_cons (srcStat_ne_show hn)), hctr⟩

theorem State.KeepsSources.actShow : s.KeepsSources n s.actShow := by
  unfold State.actShow
  exact (KeepsSources.put (by unfold ANG_SRC_STAT ANG_VEL; omega) _).trans (.setF (by unfold ANG_SRC_STAT ANG_STATUS; omega) _ _)

theorem State.KeepsSources.coast (m : Nat) : s.KeepsSources n (s.coast m) := by
  unfold State.coast
  extract_lets cyc ang act u v
  have hv : s.KeepsSources n v :=
    KeepsSources.trans (t := u) ⟨rfl, rfl, rfl, rfl, rfl, rfl⟩ (.setF (a := ANG_STATUS) (by unfold ANG_SRC_STAT ANG_STATUS; omega) _ _)
  split
  · exact hv.trans (.fence hn 0x02)
  · exact hv

theorem State.KeepsSources.activeLost : s.KeepsSources n s.activeLost := by
  unfold State.activeLost
  extract_lets m b off
  split
  · exact KeepsSources.trans (t := { s with ang := { s.ang with actOff := off } }) ⟨rfl, rfl, rfl, rfl, rfl, rfl⟩
      ((KeepsSources.setF (by unfold ANG_SRC_STAT ANG_STATUS; omega) _ _).trans (.actShow hn))
  · exact .coast hn m

end

theorem State.src_setSrc (s : State) (n m : Nat) (x : AngSrc) : (s.setSrc n x).src m = if m = n then x else s.src m :=
  tblGet_set _ s.ang.srcs n m x

@[simp] theorem State.src_setSrc_same (s : State) (n : Nat) (x : AngSrc) : (s.setSrc n x).src n = x := by
  rw [State.src_setSrc, if_pos rfl]

section

variable {n : Nat} {s t u : State}

/-- Only source `n` has changed, and of it neither the position nor the last measurement; illegal transitions and index
errors that were shown still are. -/
structure State.Steadies (n : Nat) (s t : State) : Prop where
  others : ∀ m, m ≠ n → t.src m = s.src m
  mem : t.mem = s.mem
  cxb : t.cxb = s.cxb
  pos : (t.src n).pos = (s.src n).pos
  base : (t.src n).base = (s.src n).base
  frame : (t.src n).lastFrame = (s.src n).lastFrame
  last : (t.src n).tLast = (s.src n).tLast
  ill : t.ctr (ANG_SRC_ILL_LO n) = s.ctr (ANG_SRC_ILL_LO n)
  shown : ∀ f ∈ [ANG_SRC_STAT_ILL, ANG_SRC_STAT_ZERR], s.bit (ANG_SRC_STAT n) f = true → t.bit (ANG_SRC_STAT n) f = true

theorem State.Steadies.refl : s.Steadies n s := ⟨fun _ _ => rfl, rfl, rfl, rfl, rfl, rfl, rfl, rfl, fun _ _ h => h⟩

theorem State.Steadies.trans (h : s.Steadies n t) (h' : t.Steadies n u) : s.Steadies n u :=
  ⟨fun m hm => (h'.others m hm).trans (h.others m hm), h'.mem.trans h.mem, h'.cxb.trans h.cxb, h'.pos.trans h.pos,
    h'.base.trans h.base, h'.frame.trans h.frame, h'.last.trans h.last, h'.ill.trans h.ill,
    fun f hf hs => h'.shown f hf (h.shown f hf hs)⟩

theorem State.KeepsSources.steadies (h : s.KeepsSources n t) : s.Steadies n t :=
  ⟨fun m _ => h.src m, h.mem, h.cxb, congrArg _ (h.src n), congrArg _ (h.src n), congrArg _ (h.src n), congrArg _ (h.src n),
    h.ill, fun f _ hs => (h.bit f).trans hs⟩

theorem State.Steadies.setStat (s : State) {f : Field} (x : Nat) (hf : f.ok = true)
    (h : ∀ g ∈ [ANG_SRC_STAT_ILL, ANG_SRC_STAT_ZERR], Field.apart f g = true) : s.Steadies n (s.setF (ANG_SRC_STAT n) f x) :=
  ⟨fun _ _ => rfl, rfl, rfl, rfl, rfl, rfl, rfl, rfl, fun g hg hs => (s.bit_setF_apart _ _ x hf (h g hg)).trans hs⟩

theorem State.Steadies.occur (s : State) (k : Nat) : s.Steadies n (s.occur k) :=
  ⟨fun _ _ => rfl, rfl, rfl, rfl, rfl, rfl, rfl, rfl, fun _ _ h => h⟩

theorem State.Steadies.setSrc {y : AngSrc} (hpos : y.pos = (s.src n).pos) (hbase : y.base = (s.src n).base)
    (hframe : y.lastFrame = (s.src n).lastFrame) (hlast : y.tLast = (s.src n).tLast) : s.Steadies n (s.setSrc n y) := by
  have hn := s.src_setSrc_same n y
  exact ⟨fun m hm => (s.src_setSrc n m y).trans (if_neg hm), rfl, rfl, by rw [hn, hpos], by rw [hn, hbase], by rw [hn, hframe],
    by rw [hn, hlast], rfl, fun _ _ h => h⟩

/-- Two settings of a source that agree on its position and its last measurement. -/
theorem State.Steadies.setSrc_setSrc {x y : AngSrc} (hpos : y.pos = x.pos) (hbase : y.base = x.base)
    (hframe : y.lastFrame = x.lastFrame) (hlast : y.tLast = x.tLast) : (s.setSrc n x).Steadies n (s.setSrc n y) := by
  have hx := s.src_setSrc_same n x
  have hy := s.src_setSrc_same n y
  exact ⟨fun m hm => (s.src_setSrc n m y).trans ((if_neg hm).trans ((s.src_setSrc n m x).trans (if_neg hm)).symm), rfl, rfl,
    by rw [hx, hy, hpos], by rw [hx, hy, hbase], by rw [hx, hy, hframe], by rw [hx, hy, hlast], rfl, fun _ _ h => h⟩

theorem State.Steadies.setLoop (s : State) (l : Loop) : s.Steadies n (s.setLoop n l) := by
  unfold State.setLoop
  extract_lets x u
  have hu : s.Steadies n u := .setSrc rfl rfl rfl rfl
  split
  · exact ⟨hu.others, hu.mem, hu.cxb, hu.pos, hu.base, hu.frame, hu.last,
      (State.ctr_setCtr _ _ _ _).trans (if_neg (by unfold ANG_SRC_ILL_LO ANG_SRC_POS_LO; omega)), hu.shown⟩
  · exact hu

/-- Showing a loop (R70) leaves every source alone. -/
theorem State.srcs_srcShow (s : State) (n : Nat) : (s.srcShow n).ang = s.ang ∧ (s.srcShow n).irq = s.irq := ⟨rfl, rfl⟩

theorem State.Steadies.srcShow (s : State) : s.Steadies n (s.srcShow n) := by
  unfold State.srcShow
  extract_lets l a
  exact (((Steadies.setStat s _ rfl (by decide)).trans (.setStat _ _ rfl (by decide))).trans
    ((Steadies.setStat _ _ rfl (by decide)).trans (.setStat _ _ rfl (by decide)))).trans
      (KeepsSources.put (by unfold ANG_SRC_STAT ANG_SRC_VEL; omega) _).steadies

theorem State.Steadies.tryLock (s : State) : s.Steadies n (s.tryLock n) := by
  unfold State.tryLock
  extract_lets x u v
  split
  · have hv : s.Steadies n v := ((Steadies.setStat s _ rfl (by decide)).trans (.setStat _ _ rfl (by decide))).trans
      (.setSrc rfl rfl rfl rfl)
    split
    · exact hv.trans (KeepsSources.setAct _).steadies
    · exact hv
  · exact .refl

/-- A field of the status that showing a loop leaves alone. -/
theorem State.fld_srcShow (s : State) {f : Field}
    (h : ∀ g ∈ [ANG_SRC_STAT_REV, ANG_SRC_STAT_STILL, ANG_SRC_STAT_CLAMP, ANG_SRC_STAT_BW_LIM], Field.apart g f = true) :
    (s.srcShow n).fld (ANG_SRC_STAT n) f = s.fld (ANG_SRC_STAT n) f := by
  unfold State.srcShow
  extract_lets l a
  rw [State.fld_put_other _ _ _ _ _ (by unfold ANG_SRC_STAT ANG_SRC_VEL; omega), State.fld_setF_apart _ _ _ _ _ rfl (h _ (by simp)),
    State.fld_setF_apart _ _ _ _ _ rfl (h _ (by simp)), State.fld_setF_apart _ _ _ _ _ rfl (h _ (by simp)),
    State.fld_setF_apart _ _ _ _ _ rfl (h _ (by simp))]

/-- A source as losing it leaves it (R72). -/
def AngSrc.lost (x : AngSrc) : AngSrc :=
  { x with
    good := 0, errs := 0, ill := 0, indexed := false, indexAt := none,
    loop := { x.loop with regime := .acquire, locked := false, cap := none, clamp := false } }

/-- Source `n` is declared lost, before the active angle hears of it. -/
def State.losing (s : State) (n cause : Nat) : State :=
  let a := ANG_SRC_STAT n
  let t := (((s.flag a ANG_SRC_STAT_LOST).setF a ANG_SRC_STAT_CAUSE cause).setF a ANG_SRC_STAT_LOCKED 0).occur 0x7B1
  (t.setSrc n (t.src n).lost).srcShow n

theorem State.lose_eq (h : s.bit (ANG_SRC_STAT n) ANG_SRC_STAT_LOST = false) (cause : Nat) : s.lose n cause =
    if s.drives n then (s.losing n cause).activeLost.actShow else s.losing n cause :=
  if_neg (ne_true_of_eq_false h)

theorem State.Steadies.losing (s : State) (cause : Nat) : s.Steadies n (s.losing n cause) := by
  unfold State.losing
  extract_lets a t
  have ht : s.Steadies n t := ((Steadies.setStat s _ rfl (by decide)).trans (.setStat _ _ rfl (by decide))).trans
    ((Steadies.setStat _ _ rfl (by decide)).trans (.occur _ _))
  have hlost : t.Steadies n (t.setSrc n (t.src n).lost) := .setSrc rfl rfl rfl rfl
  exact (ht.trans hlost).trans (.srcShow _)

/-- A source that is being lost shows LOST and its cause, is not LOCKED and raises 0x7B1 (R68, R72). -/
structure State.ShowsLost (t : State) (n cause : Nat) : Prop where
  lost : t.bit (ANG_SRC_STAT n) ANG_SRC_STAT_LOST = true
  unlocked : t.bit (ANG_SRC_STAT n) ANG_SRC_STAT_LOCKED = false
  cause : t.fld (ANG_SRC_STAT n) ANG_SRC_STAT_CAUSE = cause
  raised : tblGet (fun _ => false) t.irq.occ 0x7B1 = true

theorem State.KeepsSources.showsLost {cause : Nat} (h : s.KeepsSources n t) (hs : s.ShowsLost n cause) : t.ShowsLost n cause :=
  ⟨(h.bit _).trans hs.lost, (h.bit _).trans hs.unlocked, (h.fld _).trans hs.cause, by rw [h.irq]; exact hs.raised⟩

theorem State.losing_showsLost (s : State) {cause : Nat} (hc : cause < 2 ^ fieldWidth ANG_SRC_STAT_CAUSE) :
    (s.losing n cause).ShowsLost n cause := by
  obtain ⟨v, hv⟩ : ∃ v, (s.flag (ANG_SRC_STAT n) ANG_SRC_STAT_LOST).setF (ANG_SRC_STAT n) ANG_SRC_STAT_CAUSE cause = v := ⟨_, rfl⟩
  have hfld {f : Field} (hf : ∀ g ∈ [ANG_SRC_STAT_REV, ANG_SRC_STAT_STILL, ANG_SRC_STAT_CLAMP, ANG_SRC_STAT_BW_LIM],
      Field.apart g f = true) :
      (s.losing n cause).fld (ANG_SRC_STAT n) f = (v.setF (ANG_SRC_STAT n) ANG_SRC_STAT_LOCKED 0).fld (ANG_SRC_STAT n) f := by
    subst hv
    exact State.fld_srcShow _ hf
  have hocc : (s.losing n cause).irq = ((v.setF (ANG_SRC_STAT n) ANG_SRC_STAT_LOCKED 0).occur 0x7B1).irq := by
    subst hv
    exact (State.srcs_srcShow _ n).2
  refine ⟨?_, ?_, ?_, by rw [hocc]; exact State.occurred_occur (v.setF (ANG_SRC_STAT n) ANG_SRC_STAT_LOCKED 0) 0x7B1⟩
  · rw [State.bit, hfld (by decide), State.fld_setF_apart _ _ _ _ _ rfl rfl, ← hv, State.fld_setF_apart _ _ _ _ _ rfl rfl]
    exact s.bit_setF_one _ rfl
  · rw [State.bit, hfld (by decide), State.fld_setF_same _ _ _ _ rfl]
    rfl
  · rw [hfld (by decide), State.fld_setF_apart _ _ _ _ _ rfl rfl, ← hv, State.fld_setF_same _ _ _ _ rfl, Nat.mod_eq_of_lt hc]

variable (hn : n < 4)

include hn

theorem State.Steadies.lose (s : State) (cause : Nat) : s.Steadies n (s.lose n cause) := by
  cases h : s.bit (ANG_SRC_STAT n) ANG_SRC_STAT_LOST with
  | true => rw [State.lose, if_pos h]; exact .refl
  | false =>
    rw [State.lose_eq h]
    split
    · exact (Steadies.losing s cause).trans ((KeepsSources.activeLost hn).trans (.actShow hn)).steadies
    · exact .losing s cause

theorem State.lose_showsLost (h : s.bit (ANG_SRC_STAT n) ANG_SRC_STAT_LOST = false) {cause : Nat}
    (hc : cause < 2 ^ fieldWidth ANG_SRC_STAT_CAUSE) : (s.lose n cause).ShowsLost n cause := by
  rw [State.lose_eq h]
  split
  · exact ((KeepsSources.activeLost hn).trans (.actShow hn)).showsLost (s.losing_showsLost hc)
  · exact s.losing_showsLost hc

/-- A measurement of a source moves its loop; of its position and record the age of the last measurement changes. -/
theorem State.Steadies.measure (s : State) (m : BitVec 64) (age : Nat) (unitAt : BitVec 64) (endsErrs tells : Bool) :
    (s.setSrc n { s.src n with tLast := some age }).Steadies n (s.measure n m age unitAt endsErrs tells) := by
  unfold State.measure
  extract_lets x c act
  split
  next l e _ =>
  extract_lets good u ang v w
  have hu : (s.setSrc n { s.src n with tLast := some age }).Steadies n u := by
    refine Steadies.trans ?_ (.setLoop _ l)
    exact .setSrc_setSrc rfl rfl rfl rfl
  have hv : u.Steadies n v := (KeepsSources.setAct act).steadies
  have hw : v.Steadies n w := ((Steadies.tryLock v).trans (.srcShow _)).trans (KeepsSources.actShow hn).steadies
  split
  · exact ((hu.trans hv).trans hw).trans (.lose hn w 0x05)
  · exact (hu.trans hv).trans hw

end


end Sys2Proof.Machine

end

section

/-! O15: measurements of the angle sources (R58-R76, R702, Table 2.5). -/

namespace Sys2Proof.Machine

/-- No source but `n` has changed, and no memory. -/
def State.Owns (s : State) (n : Nat) (t : State) : Prop := (∀ m, m ≠ n → t.src m = s.src m) ∧ t.mem = s.mem

/-- A source that was not lost is lost by a cause (R68, R72). -/
def State.LostBy (s : State) (n : Nat) (t : State) (cause : Nat) : Prop :=
  s.Owns n t ∧ (s.bit (ANG_SRC_STAT n) ANG_SRC_STAT_LOST = false →
    t.bit (ANG_SRC_STAT n) ANG_SRC_STAT_LOST = true ∧ t.bit (ANG_SRC_STAT n) ANG_SRC_STAT_LOCKED = false ∧
    t.fld (ANG_SRC_STAT n) ANG_SRC_STAT_CAUSE = cause ∧ tblGet (fun _ => false) t.irq.occ 0x7B1 = true)

/-- A measurement error (R702): one more in a row, or the source is lost. -/
def State.Fails (s : State) (n : Nat) (t : State) (y : AngSrc) : Prop :=
  if s.fld (ANG_SRC_LOOP n) ANG_SRC_LOOP_ERR_MAX ≤ y.errs + 1 then s.LostBy n t 2
  else s.Owns n t ∧ t.src n = { y with good := 0, errs := y.errs + 1 }

/-- A measurement at an age that leaves the source at a position. -/
def State.Takes (s : State) (n age : Nat) (t : State) (pos : Int) : Prop :=
  s.Owns n t ∧ (t.src n).pos = pos ∧ (t.src n).tLast = some age ∧ (t.src n).base = (s.src n).base

/-- A state in which source `n` alone has moved on and is lost as it was, with its settings. -/
structure State.Advances (n : Nat) (s u : State) : Prop where
  owns : s.Owns n u
  lost : u.bit (ANG_SRC_STAT n) ANG_SRC_STAT_LOST = s.bit (ANG_SRC_STAT n) ANG_SRC_STAT_LOST
  settings : u.fld (ANG_SRC_LOOP n) ANG_SRC_LOOP_ERR_MAX = s.fld (ANG_SRC_LOOP n) ANG_SRC_LOOP_ERR_MAX

section

variable {n age : Nat} {s t u v : State}

theorem State.Owns.refl : s.Owns n s := ⟨fun _ _ => rfl, rfl⟩

theorem State.Owns.trans (h : s.Owns n t) (h' : t.Owns n u) : s.Owns n u :=
  ⟨fun m hm => (h'.1 m hm).trans (h.1 m hm), h'.2.trans h.2⟩

theorem State.Owns.setSrc (s : State) (y : AngSrc) : s.Owns n (s.setSrc n y) :=
  ⟨fun m hm => (s.src_setSrc n m y).trans (if_neg hm), rfl⟩

theorem State.Steadies.owns (h : s.Steadies n t) : s.Owns n t := ⟨h.others, h.mem⟩

theorem State.Fails.owns {y : AngSrc} (h : s.Fails n t y) : s.Owns n t := by
  unfold State.Fails at h
  split at h
  · exact h.1
  · exact h.1

theorem State.Advances.refl : s.Advances n s := ⟨.refl, rfl, rfl⟩

theorem State.Advances.trans (h : s.Advances n t) (h' : t.Advances n u) : s.Advances n u :=
  ⟨h.owns.trans h'.owns, h'.lost.trans h.lost, h'.settings.trans h.settings⟩

theorem State.Advances.setSrc (s : State) (y : AngSrc) : s.Advances n (s.setSrc n y) := ⟨.setSrc s y, rfl, rfl⟩

theorem State.Advances.inc (s : State) (a : Nat) : s.Advances n (s.inc a) := by
  rw [State.inc_rest]
  exact ⟨⟨fun _ _ => rfl, rfl⟩, rfl, rfl⟩

theorem State.Advances.flag (s : State) {f : Field} (hf : f.ok = true) (h : Field.apart f ANG_SRC_STAT_LOST = true) :
    s.Advances n (s.flag (ANG_SRC_STAT n) f) :=
  ⟨⟨fun _ _ => rfl, rfl⟩, s.bit_setF_apart _ _ 1 hf h,
    s.fld_setF_other _ _ _ _ 1 (by unfold ANG_SRC_STAT ANG_SRC_LOOP; omega)⟩

variable (hn : n < 4)

include hn

theorem State.Advances.lostBy (h : s.Advances n u) {cause : Nat} (hc : cause < 2 ^ fieldWidth ANG_SRC_STAT_CAUSE) :
    s.LostBy n (u.lose n cause) cause := by
  refine ⟨h.owns.trans (Steadies.lose hn u cause).owns, fun hlost => ?_⟩
  obtain ⟨h1, h2, h3, h4⟩ := State.lose_showsLost hn (h.lost.trans hlost) hc
  exact ⟨h1, h2, h3, h4⟩

theorem State.Advances.fails (h : s.Advances n u) : s.Fails n (u.srcError n) (u.src n) := by
  unfold State.Fails State.srcError
  extract_lets x v
  have hv : s.Advances n v := h.trans (.setSrc u _)
  rw [hv.settings]
  split
  · exact hv.lostBy hn (by decide)
  · exact ⟨hv.owns, u.src_setSrc_same n _⟩

theorem State.Steadies.srcError (s : State) : s.Steadies n (s.srcError n) := by
  unfold State.srcError
  extract_lets x t
  have hx : s.Steadies n t := .setSrc rfl rfl rfl rfl
  split
  · exact hx.trans (.lose hn t 0x02)
  · exact hx

theorem State.src_measure (s : State) (y : AngSrc) (m : BitVec 64) (age : Nat) (unitAt : BitVec 64) (endsErrs tells : Bool) :
    let x := ((s.setSrc n y).measure n m age unitAt endsErrs tells).src n
    x.lastFrame = y.lastFrame ∧ x.pos = y.pos := by
  have h := Steadies.measure hn (s.setSrc n y) m age unitAt endsErrs tells
  have hy := s.src_setSrc_same n y
  exact ⟨by rw [h.frame, State.src_setSrc_same, hy], by rw [h.pos, State.src_setSrc_same, hy]⟩

theorem State.takes_measure {y : AngSrc} {pos : Int} (hpos : y.pos = pos) (hbase : y.base = (s.src n).base) (m : BitVec 64)
    (age : Nat) (unitAt : BitVec 64) (endsErrs tells : Bool) :
    s.Takes n age ((s.setSrc n y).measure n m age unitAt endsErrs tells) pos := by
  have h := Steadies.measure hn (s.setSrc n y) m age unitAt endsErrs tells
  have hy := s.src_setSrc_same n y
  exact ⟨((State.Owns.setSrc s _).trans (.setSrc _ _)).trans h.owns, by rw [h.pos, State.src_setSrc_same, hy, ← hpos],
    by rw [h.last, State.src_setSrc_same], by rw [h.base, State.src_setSrc_same, hy, ← hbase]⟩

end

/-! Quadrature. -/

/-- An edge moves a source to a position, which is measured. -/
def State.edgeTo (s : State) (n age : Nat) (pos : Int) : State :=
  let m := moved (angleOf (s.loopCfg n).epc 1 pos) (s.src n).base
  (s.setSrc n { s.src n with pos := pos }).measure n m age m false true

/-- One illegal transition more in this cycle (Table 2.5). -/
def State.illegalStep (s : State) (n : Nat) : State :=
  let t := s.setSrc n { s.src n with ill := (s.src n).ill + 1 }
  if t.fld (ANG_SRC_LOOP n) ANG_SRC_LOOP_ERR_MAX < (s.src n).ill + 1 then t.lose n 0x03 else t

theorem State.takes_edgeTo {n : Nat} (hn : n < 4) (s : State) (age : Nat) (pos : Int) : s.Takes n age (s.edgeTo n age pos) pos := by
  unfold State.edgeTo
  exact State.takes_measure hn (y := { s.src n with pos := pos }) rfl rfl _ age _ _ _

theorem State.illegalStep_steadies {n : Nat} (hn : n < 4) (s : State) : s.Steadies n (s.illegalStep n) := by
  have ht : s.Steadies n (s.setSrc n { s.src n with ill := (s.src n).ill + 1 }) := .setSrc rfl rfl rfl rfl
  unfold State.illegalStep
  dsimp only
  split
  · exact ht.trans (.lose hn _ 0x03)
  · exact ht

theorem State.Advances.illegalStep {n : Nat} {s u : State} (hn : n < 4) (h : s.Advances n u) :
    if s.fld (ANG_SRC_LOOP n) ANG_SRC_LOOP_ERR_MAX < (u.src n).ill + 1 then s.LostBy n (u.illegalStep n) 3
    else s.Owns n (u.illegalStep n) ∧ (u.illegalStep n).src n = { u.src n with ill := (u.src n).ill + 1 } := by
  have ht : s.Advances n (u.setSrc n { u.src n with ill := (u.src n).ill + 1 }) := h.trans (.setSrc u _)
  unfold State.illegalStep
  dsimp only
  rw [ht.settings]
  split
  · exact ht.lostBy hn (by decide)
  · exact ⟨ht.owns, u.src_setSrc_same n _⟩

section

variable {s : State} {src : Fin 4} {age : Nat}

theorem quadEdge_idle (h : s.srcTakes src 1 = false ∨ age < 8 * s.fld (ANG_SRC_CFG src) ANG_SRC_CFG_FILT) (e : QuadEdge) :
    exec (.quadEdge src e age) s = .next s :=
  congrArg Host.Outcome.next (if_pos (by rcases h with h | h <;> simp [h]))

variable (ht : s.srcTakes src 1 = true) (hf : 8 * s.fld (ANG_SRC_CFG src) ANG_SRC_CFG_FILT ≤ age)

include ht hf

theorem quadEdge_filtered : ¬(!s.srcTakes src 1 || decide (age < 8 * s.fld (ANG_SRC_CFG src) ANG_SRC_CFG_FILT)) = true := by
  simp [ht, hf]

theorem quadEdge_up : exec (.quadEdge src .up age) s = .next (s.edgeTo src age ((s.src src).pos + s.srcSign src * 1)) :=
  congrArg Host.Outcome.next (if_neg (quadEdge_filtered ht hf))

theorem quadEdge_down : exec (.quadEdge src .down age) s = .next (s.edgeTo src age ((s.src src).pos + s.srcSign src * -1)) :=
  congrArg Host.Outcome.next (if_neg (quadEdge_filtered ht hf))

theorem quadEdge_illegal : exec (.quadEdge src .illegal age) s =
    .next (((s.inc (ANG_SRC_ILL_LO src)).flag (ANG_SRC_STAT src) ANG_SRC_STAT_ILL).illegalStep src) :=
  congrArg Host.Outcome.next (if_neg (quadEdge_filtered ht hf))

end

/-! Index pulses. -/

/-- A source aligned by a mark at `m`, re-based by `d` (log entry 79). -/
def AngSrc.aligned (x : AngSrc) (d : Int) (m : BitVec 64) : AngSrc :=
  { x with base := x.base + d, indexed := true, indexAt := some m, errs := 0 }

/-- A loop whose measured angles move, and the shown one as long as it acquires. -/
def Loop.nudged (l : Loop) (d : Int) : Loop :=
  { l with
    theta := moved l.theta d, vis := if l.regime = .acquire then moved l.vis d else l.vis, cap := l.cap.map (moved · d)
    hist := l.hist.map fun (t, a) => (t, moved a d) }

/-- A pulse beyond ZERR_TH aligns the source with no measurement. -/
def State.alignFar (s : State) (n : Nat) (x : AngSrc) (d : Int) (m : BitVec 64) : State :=
  let t := (s.setSrc n (x.aligned d m)).setLoop n (x.loop.nudged d)
  let t := if s.drives n then { t with ang := { t.ang with act := s.ang.act.nudged d } } else t
  (t.tryLock n).actShow

/-- A pulse within ZERR_TH aligns the source and is a measurement. -/
def State.alignNear (s : State) (n age : Nat) (x : AngSrc) (d : Int) (m : BitVec 64) : State :=
  (s.setSrc n (x.aligned d m)).measure n m age (moved (angleOf (s.loopCfg n).epc 1 x.pos) (x.base + d)) true false

/-- A pulse beyond ZERR_TH of an aligned source is an error (R702). -/
def State.indexWrong (s : State) (n : Nat) (now : BitVec 64) : State :=
  (((s.setSrc n { s.src n with indexAt := some now })).flag (ANG_SRC_STAT n) ANG_SRC_STAT_ZERR).srcError n

/-- ZERR shows a pulse beyond ZERR_TH of an aligned source. -/
def State.zerrIf (s : State) (n : Nat) (b : Bool) : State := if b then s.flag (ANG_SRC_STAT n) ANG_SRC_STAT_ZERR else s

/-- A source's loop has moved on. -/
theorem State.src_setLoop (s : State) (n : Nat) (l : Loop) : ∃ i, (s.setLoop n l).src n = { s.src n with loop := l, ill := i } := by
  refine ⟨if turned (s.src n).loop.vis l.vis then 0 else (s.src n).ill, ?_⟩
  unfold State.setLoop
  extract_lets x t
  split <;> exact s.src_setSrc_same n _

theorem State.src_tryLock (s : State) (n : Nat) : ∃ l, (s.tryLock n).src n = { s.src n with loop := l } := by
  unfold State.tryLock
  extract_lets x t u
  have hu : u.src n = { x with loop := x.loop.lock } := State.src_setSrc_same t n _
  split
  · exact ⟨x.loop.lock, by split <;> exact hu⟩
  · exact ⟨x.loop, rfl⟩

theorem State.Steadies.setSrc_over {n : Nat} {s : State} (x y : AngSrc) : (s.setSrc n y).Steadies n ((s.setSrc n x).setSrc n y) := by
  have hy := s.src_setSrc_same n y
  have hxy := (s.setSrc n x).src_setSrc_same n y
  have h : ((s.setSrc n x).setSrc n y).src n = (s.setSrc n y).src n := hxy.trans hy.symm
  refine ⟨fun m hm => ?_, rfl, rfl, congrArg _ h, congrArg _ h, congrArg _ h, congrArg _ h, rfl, fun _ _ hs => hs⟩
  rw [State.src_setSrc, if_neg hm, State.src_setSrc, if_neg hm, State.src_setSrc, if_neg hm]

section

variable {n : Nat} (hn : n < 4) (s : State) (x : AngSrc) (d : Int) (m : BitVec 64)

include hn

theorem State.Steadies.alignFar : (s.setSrc n (x.aligned d m)).Steadies n (s.alignFar n x d m) := by
  unfold State.alignFar
  extract_lets t a v
  have ht : (s.setSrc n (x.aligned d m)).Steadies n t := .setLoop _ _
  have hv : t.Steadies n v := by
    unfold v
    split
    · exact (KeepsSources.setAct _).steadies
    · exact .refl
  exact (ht.trans hv).trans ((Steadies.tryLock v).trans (KeepsSources.actShow hn).steadies)

theorem State.alignFar_indexed : ((s.alignFar n x d m).src n).indexed = true ∧ ((s.alignFar n x d m).src n).indexAt = some m := by
  unfold State.alignFar
  extract_lets t a v
  have hv : v.src n = t.src n := by
    unfold v
    split <;> rfl
  obtain ⟨i, hi⟩ := State.src_setLoop (s.setSrc n (x.aligned d m)) n (x.loop.nudged d)
  obtain ⟨l, hl⟩ := v.src_tryLock n
  have hx := s.src_setSrc_same n (x.aligned d m)
  rw [(KeepsSources.actShow (s := v.tryLock n) hn).src n, hl, hv, hi, hx]
  exact ⟨rfl, rfl⟩

theorem State.Steadies.alignNear (age : Nat) :
    (s.setSrc n { x.aligned d m with tLast := some age }).Steadies n (s.alignNear n age x d m) := by
  have h := Steadies.measure hn (s.setSrc n (x.aligned d m)) m age (moved (angleOf (s.loopCfg n).epc 1 x.pos) (x.base + d)) true false
  rw [State.src_setSrc_same] at h
  exact (Steadies.setSrc_over _ _).trans h

end

section

variable {s : State} {src : Fin 4} {age : Nat}

theorem indexPulse_idle (h : s.srcTakes src 1 = false) : exec (.indexPulse src age) s = .next s :=
  congrArg Host.Outcome.next (if_pos (by simp [h]))

/-- Where the source stood at an index pulse. -/
def AngSrc.stoodAt (x : AngSrc) (age : Nat) : BitVec 64 := moved x.loop.vis (- (x.loop.omega * age / 8))

/-- The pulse lies beyond ZERR_TH from the nearest marked angle. -/
def State.indexFar (s : State) (n : Nat) (now : BitVec 64) : Bool :=
  decide (s.fld (ANG_SRC_IDX n) ANG_SRC_IDX_ZERR_TH * 2 ^ 48 <
    (gap now (s.marked n now)).natAbs * s.fld (ANG_SRC_EPC n) ANG_SRC_EPC_EPC)

/-- A pulse aligns a source that stood at `now`. -/
def State.alignedBy (s : State) (n age : Nat) (shows : Bool) (now : BitVec 64) : State :=
  let m := s.marked n now
  if s.indexFar n now then (s.zerrIf n shows).alignFar n (s.src n) (gap now m) m
  else (s.zerrIf n shows).alignNear n age (s.src n) (gap now m) m

theorem State.zerrIf_steadies (s : State) (n : Nat) (b : Bool) :
    s.Owns n (s.zerrIf n b) ∧ (b = true → (s.zerrIf n b).bit (ANG_SRC_STAT n) ANG_SRC_STAT_ZERR = true) := by
  cases b with
  | true => exact ⟨⟨fun _ _ => rfl, rfl⟩, fun _ => s.bit_setF_one _ rfl⟩
  | false => exact ⟨.refl, fun h => absurd h Bool.false_ne_true⟩

theorem State.alignedBy_steadies (s : State) (shows : Bool) (now : BitVec 64) :
    ∃ l, ((s.zerrIf src shows).setSrc src { (s.src src).aligned (gap now (s.marked src now)) (s.marked src now) with tLast := l }).Steadies
      src (s.alignedBy src age shows now) := by
  unfold State.alignedBy
  dsimp only
  split
  · exact ⟨_, Steadies.alignFar src.isLt (s.zerrIf src shows) (s.src src) _ _⟩
  · exact ⟨_, Steadies.alignNear src.isLt (s.zerrIf src shows) (s.src src) _ _ age⟩

theorem State.alignedBy_spec (s : State) (shows : Bool) (now : BitVec 64) :
    let t := s.alignedBy src age shows now
    s.Owns src t ∧ (shows = true → t.bit (ANG_SRC_STAT src) ANG_SRC_STAT_ZERR = true) ∧
    ((t.src src).base = (s.src src).base + gap now (s.marked src now) ∧ (t.src src).pos = (s.src src).pos) ∧
    (s.indexFar src now = true → (t.src src).indexed = true ∧ (t.src src).indexAt = some (s.marked src now)) := by
  obtain ⟨l, h⟩ := State.alignedBy_steadies (src := src) (age := age) s shows now
  obtain ⟨howns, hshown⟩ := s.zerrIf_steadies src shows
  refine ⟨(howns.trans (.setSrc _ _)).trans h.owns, fun hb => h.shown _ (by simp) (hshown hb), ⟨?_, ?_⟩, fun hfar => ?_⟩
  · rw [h.base, State.src_setSrc_same]
    rfl
  · rw [h.pos, State.src_setSrc_same]
    rfl
  · rw [State.alignedBy, if_pos hfar]
    exact State.alignFar_indexed src.isLt _ _ _ _

theorem State.indexWrong_spec (s : State) (now : BitVec 64) :
    let t := s.indexWrong src now
    s.Fails src t { s.src src with indexAt := some now } ∧ t.bit (ANG_SRC_STAT src) ANG_SRC_STAT_ZERR = true ∧
    (t.src src).base = (s.src src).base := by
  obtain ⟨u, hu⟩ : ∃ u, (s.setSrc src { s.src src with indexAt := some now }).flag (ANG_SRC_STAT src) ANG_SRC_STAT_ZERR = u := ⟨_, rfl⟩
  have hadv : s.Advances src u := hu ▸ (State.Advances.setSrc s _).trans (.flag _ rfl rfl)
  have hsrc : u.src src = { s.src src with indexAt := some now } := hu ▸ s.src_setSrc_same src _
  have hst : u.Steadies src (u.srcError src) := .srcError src.isLt u
  have hfails := hadv.fails src.isLt
  rw [hsrc] at hfails
  unfold State.indexWrong
  rw [hu]
  refine ⟨hfails, hst.shown _ (by simp) (hu ▸ State.bit_setF_one _ _ rfl), ?_⟩
  rw [hst.base, hsrc]

variable (ht : s.srcTakes src 1 = true) (hz : s.fld (ANG_SRC_IDX src) ANG_SRC_IDX_ZDIV ≠ 0)

include ht hz

theorem indexPulse_runs : ¬(!s.srcTakes src 1 || s.fld (ANG_SRC_IDX src) ANG_SRC_IDX_ZDIV == 0) = true := by
  simp [ht, hz]

theorem indexPulse_eq : exec (.indexPulse src age) s =
    let x := s.src src
    let now := x.stoodAt age
    let m := s.marked src now
    let far := s.indexFar src now
    let u := s.zerrIf src (x.indexed && far)
    .next (if x.indexed && far && s.fld (ANG_SRC_IDX src) ANG_SRC_IDX_ZERR_TH != 0 then s.indexWrong src now
      else if far then u.alignFar src x (gap now m) m else u.alignNear src age x (gap now m) m) :=
  congrArg Host.Outcome.next (if_neg (indexPulse_runs ht hz))

/-- An index pulse beyond ZERR_TH of an aligned source. -/
theorem indexPulse_errs (hx : (s.src src).indexed = true) (hfar : s.indexFar src ((s.src src).stoodAt age) = true)
    (hth : s.fld (ANG_SRC_IDX src) ANG_SRC_IDX_ZERR_TH ≠ 0) :
    exec (.indexPulse src age) s = .next (s.indexWrong src ((s.src src).stoodAt age)) := by
  rw [indexPulse_eq ht hz]
  exact congrArg Host.Outcome.next (if_pos (by rw [hx, hfar, bne_iff_ne.mpr hth]; rfl))

/-- Any other index pulse. -/
theorem indexPulse_aligns (hgood : ¬((s.src src).indexed = true ∧ s.indexFar src ((s.src src).stoodAt age) = true ∧
      s.fld (ANG_SRC_IDX src) ANG_SRC_IDX_ZERR_TH ≠ 0)) :
    exec (.indexPulse src age) s =
      .next (s.alignedBy src age ((s.src src).indexed && s.indexFar src ((s.src src).stoodAt age)) ((s.src src).stoodAt age)) := by
  rw [indexPulse_eq ht hz]
  exact congrArg Host.Outcome.next (if_neg (by simpa [and_assoc] using hgood))

end

/-! Index timeouts. -/

section

variable {s : State} {src : Fin 4}

/-- No index pulse within 1.5 / ZDIV cycle (R72). -/
def State.indexLate (s : State) (n : Nat) (a : BitVec 64) : Bool :=
  decide (3 * 2 ^ 48 ≤ (gap a (s.src n).loop.vis).natAbs * 2 * s.fld (ANG_SRC_IDX n) ANG_SRC_IDX_ZDIV)

theorem indexTimeout_idle (h : s.srcTakes src 1 = false) : exec (.indexTimeout src) s = .next s :=
  congrArg Host.Outcome.next (if_neg (by simp [h]))

theorem indexTimeout_none (h : (s.src src).indexAt = none) : exec (.indexTimeout src) s = .next s :=
  congrArg Host.Outcome.next (if_neg (by simp [h]))

theorem indexTimeout_some (ht : s.srcTakes src 1 = true) (hz : s.fld (ANG_SRC_IDX src) ANG_SRC_IDX_ZDIV ≠ 0) {a : BitVec 64}
    (h : (s.src src).indexAt = some a) :
    exec (.indexTimeout src) s = .next (if s.indexLate src a then s.lose src 0x04 else s) := by
  refine congrArg Host.Outcome.next (if_congr ?_ rfl rfl)
  simp [ht, hz, h, State.indexLate]

end

/-! SSI frames. -/

section

variable {s : State} {src : Fin 4} {age : Nat}

/-- The position a frame holds (R63). -/
def State.framePos (s : State) (n : Nat) (raw : Word) : Nat :=
  let bits := s.fld (ANG_SRC_SSI n) ANG_SRC_SSI_BITS
  let v := raw.toNat % 2 ^ bits
  (if s.bit (ANG_SRC_SSI n) ANG_SRC_SSI_GRAY then fromGray v bits else v) % s.fld (ANG_SRC_EPC n) ANG_SRC_EPC_EPC

/-- A position reached by a step: a measurement, or an error beyond 1/16 cycle (R72). -/
def State.stepTo (s : State) (n age p : Nat) (st : Int) : State :=
  let epc := s.fld (ANG_SRC_EPC n) ANG_SRC_EPC_EPC
  let pos := (s.src n).pos + s.srcSign n * st
  let m := moved (angleOf epc 1 pos) (s.src n).base
  let t := s.setSrc n { s.src n with lastFrame := some p, pos := pos }
  if epc < st.natAbs * 16 then t.srcError n else t.measure n m age m true true

theorem ssiFrame_idle (h : s.srcTakes src 2 = false) (hi lo : Bool) (raw : Word) :
    exec (.ssiFrame src hi lo raw age) s = .next s :=
  congrArg Host.Outcome.next (if_pos (by simp [h]))

theorem ssiFrame_runs (ht : s.srcTakes src 2 = true) : ¬(!s.srcTakes src 2) = true := by simp [ht]

theorem ssiFrame_bad (ht : s.srcTakes src 2 = true) {hi lo : Bool} (h : (hi && lo) = false) (raw : Word) :
    exec (.ssiFrame src hi lo raw age) s = .next (s.srcError src) :=
  congrArg Host.Outcome.next ((if_neg (ssiFrame_runs ht)).trans (if_pos (by rw [← Bool.not_and, h]; rfl)))

theorem ssiFrame_steps (ht : s.srcTakes src 2 = true) (raw : Word) {o : Nat} (h : (s.src src).lastFrame = some o) :
    exec (.ssiFrame src true true raw age) s =
      .next (s.stepTo src age (s.framePos src raw) (shortStep (s.fld (ANG_SRC_EPC src) ANG_SRC_EPC_EPC) o (s.framePos src raw))) := by
  have he : exec (.ssiFrame src true true raw age) s = execSsiFrame src true true raw age s := rfl
  rw [he, execSsiFrame]
  dsimp only
  rw [if_neg (ssiFrame_runs ht), if_neg (by decide), h]
  rfl

theorem State.stepTo_spec (s : State) (p : Nat) (st : Int) :
    let t := s.stepTo src age p st
    let pos := (s.src src).pos + s.srcSign src * st
    (t.src src).lastFrame = some p ∧ (t.src src).pos = pos ∧
    (s.fld (ANG_SRC_EPC src) ANG_SRC_EPC_EPC < st.natAbs * 16 → s.Fails src t { s.src src with lastFrame := some p, pos := pos }) ∧
    (st.natAbs * 16 ≤ s.fld (ANG_SRC_EPC src) ANG_SRC_EPC_EPC → s.Takes src age t pos) := by
  obtain ⟨y, hy⟩ : ∃ y, { s.src src with lastFrame := some p, pos := (s.src src).pos + s.srcSign src * st } = y := ⟨_, rfl⟩
  have hframe : y.lastFrame = some p := by rw [← hy]
  have hpos : y.pos = (s.src src).pos + s.srcSign src * st := by rw [← hy]
  have hbase : y.base = (s.src src).base := by rw [← hy]
  have hput := s.src_setSrc_same src y
  unfold State.stepTo
  dsimp only
  rw [hy]
  split
  next hbig =>
    have ht : (s.setSrc src y).Steadies src ((s.setSrc src y).srcError src) := .srcError src.isLt _
    have hfails := (State.Advances.setSrc s y).fails src.isLt
    rw [hput] at hfails
    exact ⟨by rw [ht.frame, hput, hframe], by rw [ht.pos, hput, hpos], fun _ => hfails, fun hsmall => absurd hbig (Nat.not_lt.mpr hsmall)⟩
  next hsmall =>
    obtain ⟨hf, hp⟩ := s.src_measure src.isLt y _ age _ true true
    exact ⟨hf.trans hframe, hp.trans hpos, fun hbig => absurd hbig hsmall,
      fun _ => State.takes_measure src.isLt hpos hbase _ age _ true true⟩

end

/-! Sine and cosine pairs. -/

section

variable {s : State} {src : Fin 4}

theorem State.takeArrived_eq {s t : State} {d : Nat} {w : CWord} (h : s.takeArrived d = some (w, t)) : t = { s with cxb := t.cxb } := by
  unfold State.takeArrived at h
  split at h
  · exact absurd h (by simp)
  · cases h
    rfl

/-- The running amplitude measurement sees a pair of samples (R627). -/
def State.pairMetered (s : State) (n : Nat) (sn cs : Int) : State :=
  let cycle := (s.src n).loop.vis.extractLsb' 48 16
  { s with cal := { s.cal with amp := s.cal.amp.map fun (r : AmpRun) => r.pair n cycle (sn * sn + cs * cs).toNat } }

/-- The phase of a pair of samples is a measurement (R64). -/
def State.phaseTo (s : State) (n age p : Nat) : State :=
  let st := match (s.src n).lastFrame with | none => (p : Int) | some o => shortStep 65536 o p
  let y := { s.src n with lastFrame := some p, pos := (s.src n).pos + s.srcSign n * st }
  let m := moved (angleOf (s.fld (ANG_SRC_EPC n) ANG_SRC_EPC_EPC) 65536 y.pos) (s.src n).base
  (s.setSrc n y).measure n m age m true true

/-- The amplitude of a pair is beyond the limits around the one in force (R65). -/
def State.badAmplitude (s : State) (n : Nat) (sn cs : Int) : Bool :=
  let q := (sn * sn + cs * cs).toNat
  s.amplitude n != 0 && (decide (2 * q < s.amplitude n * 2 ^ 14) || decide (3 * s.amplitude n * 2 ^ 14 < 2 * q))

/-- A pair of samples is taken (R64, R65, R702). -/
def State.pairTaken (s : State) (n : Nat) (a b : CWord) : State :=
  let sn := sampleOf a.word
  let cs := sampleOf b.word
  match a.stampOf, b.stampOf with
  | some ta, some _ =>
    if s.badAmplitude n sn cs then (s.pairMetered n sn cs).srcError n
    else (s.pairMetered n sn cs).phaseTo n (8 * (s.timeStamp - ta).toNat) (phaseOf sn cs)
  | _, _ => (s.pairMetered n sn cs).srcError n

theorem sincosSample_idle (h : s.srcTakes src 3 = false) : exec (.sincosSample src) s = .next s :=
  congrArg Host.Outcome.next (if_pos (by simp [h]))

theorem sincosSample_pair (ht : s.srcTakes src 3 = true) {u v : CWord × State} (hu : s.takeArrived (1376 + 2 * src) = some u)
    (hv : s.takeArrived (1377 + 2 * src) = some v) :
    ∃ w, exec (.sincosSample src) s = .next ({ s with cxb := w }.pairTaken src u.1 v.1) := by
  obtain ⟨a, s1⟩ := u
  obtain ⟨b, s'⟩ := v
  have he : exec (.sincosSample src) s =
      .next ((match s1.takeArrived (1377 + 2 * src) with | some (_, s2) => s2 | none => s1).pairTaken src a b) := by
    refine congrArg Host.Outcome.next ((if_neg (by simp [ht])).trans ?_)
    rw [hu, hv]
    rfl
  have hs1 : s1 = { s with cxb := s1.cxb } := State.takeArrived_eq hu
  rw [he]
  cases h2 : s1.takeArrived (1377 + 2 * src) with
  | none => exact ⟨s1.cxb, by rw [← hs1]⟩
  | some r =>
    obtain ⟨c, s2⟩ := r
    have hs2 : s2 = { s with cxb := s2.cxb } := by
      rw [State.takeArrived_eq h2, hs1]
    exact ⟨s2.cxb, by rw [← hs2]⟩

theorem State.phaseTo_spec (s : State) (age p : Nat) :
    s.Owns src (s.phaseTo src age p) ∧ ((s.phaseTo src age p).src src).lastFrame = some p := by
  unfold State.phaseTo
  extract_lets st x y m
  have hy : y.lastFrame = some p := rfl
  exact ⟨(State.takes_measure src.isLt (y := y) rfl rfl m age m true true).1,
    (State.src_measure src.isLt s y m age m true true).1.trans hy⟩

theorem State.Advances.pairMetered (s : State) (n : Nat) (sn cs : Int) : s.Advances n (s.pairMetered n sn cs) :=
  ⟨⟨fun _ _ => rfl, rfl⟩, rfl, rfl⟩

theorem State.pairTaken_spec (s : State) (a b : CWord) :
    s.Owns src (s.pairTaken src a b) ∧
    (∀ ta tb, a.stampOf = some ta → b.stampOf = some tb → s.amplitude src = 0 →
      ((s.pairTaken src a b).src src).lastFrame = some (phaseOf (sampleOf a.word) (sampleOf b.word))) ∧
    (a.stampOf = none → s.Fails src (s.pairTaken src a b) (s.src src)) := by
  obtain ⟨u, hu⟩ : ∃ u, s.pairMetered src (sampleOf a.word) (sampleOf b.word) = u := ⟨_, rfl⟩
  have hadv : s.Advances src u := hu ▸ .pairMetered s src _ _
  have hfails : s.Fails src (u.srcError src) (s.src src) := by
    have hsrc : u.src src = s.src src := hu ▸ rfl
    exact hsrc ▸ hadv.fails src.isLt
  have herr : s.Owns src (u.srcError src) := hadv.owns.trans (State.Steadies.srcError src.isLt u).owns
  unfold State.pairTaken
  dsimp only
  rw [hu]
  cases ha : a.stampOf with
  | none => exact ⟨herr, fun ta tb h => (by simp at h), fun _ => hfails⟩
  | some ta =>
    cases hb : b.stampOf with
    | none => exact ⟨herr, fun ta tb _ h => (by simp at h), fun h => (by simp at h)⟩
    | some tb =>
      dsimp only
      obtain ⟨howns, hframe⟩ := u.phaseTo_spec (src := src) (8 * (s.timeStamp - ta).toNat)
        (phaseOf (sampleOf a.word) (sampleOf b.word))
      split
      next hbad =>
        refine ⟨herr, fun _ _ _ _ hamp => ?_, fun h => (by simp at h)⟩
        rw [State.badAmplitude, hamp] at hbad
        exact absurd hbad Bool.false_ne_true
      · exact ⟨hadv.owns.trans howns, fun _ _ _ _ _ => hframe, fun h => (by simp at h)⟩

end

/-! Mains crossings. -/

section

variable {s : State} {src : Fin 4}

/-- A period of a mains source ends (R59, R702). -/
def State.periodTo (s : State) (n age : Nat) (bad : Bool) : State :=
  let pos := (s.src n).pos + s.srcSign n
  let m := moved (angleOf (s.loopCfg n).epc 1 pos) (s.src n).base
  let t := s.setSrc n { s.src n with pos := pos }
  match (s.src n).tLast with
  | none => t.measure n m age m true true
  | some l =>
    if bad || decide (8 * 10 ^ 9 < 40 * (l - age)) || decide (70 * (l - age) < 8 * 10 ^ 9) then
      (t.setSrc n { t.src n with tLast := some age }).srcError n
    else t.measure n m age m true true

/-- The samples of a mains source, and the greatest magnitude among them. -/
def State.mainsWords (s : State) (n : Nat) : List CWord := tblGet (fun _ => []) s.cxb.arrived (1376 + 2 * n)
def State.mainsPeak (s : State) (n : Nat) : Nat :=
  ((s.mainsWords n).map fun w => sampleOf w.word).foldl (fun m v => max m v.natAbs) 0
/-- How many samples it takes to a crossing. -/
def State.mainsCrossing (s : State) (n : Nat) : Option Nat :=
  if s.mainsPeak n = 0 then none else crossing (s.mainsPeak n) false ((s.mainsWords n).map fun w => sampleOf w.word)

/-- The samples up to a crossing are used up. -/
def State.mainsUsed (s : State) (n k : Nat) : State :=
  { s with cxb := { s.cxb with arrived := tblSet (fun _ => []) s.cxb.arrived (1376 + 2 * n) ((s.mainsWords n).drop k) } }

/-- The age of a sample, and where it has no stamp the age given. -/
def State.ageOf (s : State) (w : CWord) (age : Nat) : Nat :=
  match w.stampOf with | some t => 8 * (s.timeStamp - t).toNat | none => age

theorem mainsZeroCrossing_idle (h : s.srcTakes src 4 = false) (age : Nat) : exec (.mainsZeroCrossing src age) s = .next s :=
  congrArg Host.Outcome.next (if_pos (by simp [h]))

theorem mainsZeroCrossing_none (h : s.mainsCrossing src = none) (age : Nat) : exec (.mainsZeroCrossing src age) s = .next s := by
  refine congrArg Host.Outcome.next (ite_eq_left_iff.mpr fun _ => ?_)
  have he : (if s.mainsPeak src = 0 then none else crossing (s.mainsPeak src) false ((s.mainsWords src).map fun w => sampleOf w.word))
    = none := h
  unfold State.mainsPeak State.mainsWords at he
  dsimp only
  rw [he]

theorem mainsZeroCrossing_some (ht : s.srcTakes src 4 = true) {k : Nat} (h : s.mainsCrossing src = some k) (age : Nat) :
    ∃ bad, exec (.mainsZeroCrossing src age) s =
      .next ((s.mainsUsed src k).periodTo src (s.ageOf ((s.mainsWords src).getD (k - 1) ⟨0, none⟩) age) bad) := by
  refine ⟨((s.mainsWords src).take k).any fun w => w.stamp.isNone, congrArg Host.Outcome.next ((if_neg (by simp [ht])).trans ?_)⟩
  have he : (if s.mainsPeak src = 0 then none else crossing (s.mainsPeak src) false ((s.mainsWords src).map fun w => sampleOf w.word))
    = some k := h
  unfold State.mainsPeak State.mainsWords at he
  dsimp only
  rw [he] <;> rfl

theorem State.periodTo_spec (s : State) (age : Nat) (bad : Bool) :
    let t := s.periodTo src age bad
    (t.src src).pos = (s.src src).pos + s.srcSign src ∧ s.Owns src t ∧ t.cxb = s.cxb ∧ (t.src src).tLast = some age := by
  obtain ⟨y, hy⟩ : ∃ y, { s.src src with pos := (s.src src).pos + s.srcSign src } = y := ⟨_, rfl⟩
  have hpos : y.pos = (s.src src).pos + s.srcSign src := by rw [← hy]
  have hput := s.src_setSrc_same src y
  have hsets : s.Owns src ((s.setSrc src y).setSrc src { y with tLast := some age }) := (State.Owns.setSrc s y).trans (.setSrc _ _)
  have hdone {t : State} (h : ((s.setSrc src y).setSrc src { y with tLast := some age }).Steadies src t) :
      (t.src src).pos = (s.src src).pos + s.srcSign src ∧ s.Owns src t ∧ t.cxb = s.cxb ∧ (t.src src).tLast = some age :=
    ⟨by rw [h.pos, State.src_setSrc_same]; exact hpos, hsets.trans h.owns, h.cxb, by rw [h.last, State.src_setSrc_same]⟩
  have hmeasure (m unitAt : BitVec 64) (ends tells : Bool) :
      ((s.setSrc src y).setSrc src { y with tLast := some age }).Steadies src ((s.setSrc src y).measure src m age unitAt ends tells) := by
    have h := Steadies.measure src.isLt (s.setSrc src y) m age unitAt ends tells
    rwa [hput] at h
  unfold State.periodTo
  dsimp only
  rw [hy, hput]
  split
  · exact hdone (hmeasure _ _ true true)
  · split
    · exact hdone (.srcError src.isLt _)
    · exact hdone (hmeasure _ _ true true)

theorem mainsZeroCrossing_spec (ht : s.srcTakes src 4 = true) {k : Nat} (h : s.mainsCrossing src = some k) {w : CWord}
    (hw : (s.mainsWords src)[k - 1]? = some w) (age : Nat) : s.Does (.mainsZeroCrossing src age) fun t =>
    (t.src src).pos = (s.src src).pos + s.srcSign src ∧ s.Owns src t ∧
    tblGet (fun _ => []) t.cxb.arrived (1376 + 2 * src) = (s.mainsWords src).drop k ∧
    (t.src src).tLast = some (s.ageOf w age) := by
  obtain ⟨bad, he⟩ := mainsZeroCrossing_some ht h age
  rw [List.getD_eq_getElem?_getD, hw, Option.getD_some] at he
  obtain ⟨hpos, howns, hcxb, hlast⟩ := (s.mainsUsed src k).periodTo_spec (src := src) (s.ageOf w age) bad
  exact ⟨_, he, hpos, howns, by rw [hcxb]; exact tblGet_set_same _ _ _ _, hlast⟩

end

/-! Timeouts of measurements, coasting, the angle outputs. -/

section

variable {s : State} {src : Fin 4}

/-- No measurement for MISS times the last interval (R72). -/
def State.overdue (s : State) (n : Nat) : Prop :=
  s.fld (ANG_SRC_LOOP n) ANG_SRC_LOOP_MISS * (s.src n).interval ≤ (s.src n).tLast.getD 0 ∧ (s.src n).interval ≠ 0

/-- A slow source stops (R70). -/
def State.stops (s : State) (n : Nat) : State :=
  let t := (s.setSrc n { s.src n with loop := (s.src n).loop.halt }).srcShow n
  if s.drives n then ({ t with ang := { t.ang with act := t.ang.act.halt } }).actShow else t

theorem measurementTimeout_idle (h : (s.src src).on = false ∨ ¬s.overdue src ∨ (s.src src).loop.regime = .still ∨
    s.bit (ANG_SRC_STAT src) ANG_SRC_STAT_LOST = true) : exec (.measurementTimeout src) s = .next s := by
  refine congrArg Host.Outcome.next (if_pos ?_)
  unfold State.overdue at h
  simp only [Bool.or_eq_true, Bool.not_eq_true', beq_iff_eq, decide_eq_true_eq]
  rcases h with h | h | h | h
  · simp [h]
  · by_cases hi : (s.src src).interval = 0
    · simp [hi]
    · simp [hi] at h ⊢
      simp [h]
  · simp [h]
  · simp [h]

theorem measurementTimeout_due (hon : (s.src src).on = true) (hw : s.overdue src) (hr : (s.src src).loop.regime ≠ .still)
    (hl : s.bit (ANG_SRC_STAT src) ANG_SRC_STAT_LOST = false) : exec (.measurementTimeout src) s =
    .next (if (s.src src).loop.omega.natAbs ≤ s.fld (ANG_SRC_STILL src) ANG_SRC_STILL_V_STILL then s.stops src
      else s.lose src 0x01) := by
  obtain ⟨hdue, hi⟩ := hw
  exact congrArg Host.Outcome.next (if_neg (by simp [hon, hi, hr, hl, hdue]))

theorem State.bit_srcShow_still {n : Nat} (s : State) (h : (s.src n).loop.regime = .still) :
    (s.srcShow n).bit (ANG_SRC_STAT n) ANG_SRC_STAT_STILL = true := by
  unfold State.srcShow
  extract_lets l a
  rw [State.bit, State.fld_put_other _ _ _ _ _ (by unfold ANG_SRC_STAT ANG_SRC_VEL; omega), State.fld_setF_apart _ _ _ _ _ rfl rfl,
    State.fld_setF_apart _ _ _ _ _ rfl rfl, decide_eq_true h]
  exact State.bit_setF_one _ _ rfl

theorem State.stops_spec (s : State) :
    let t := s.stops src
    s.Owns src t ∧ t.bit (ANG_SRC_STAT src) ANG_SRC_STAT_STILL = true ∧ (t.src src).loop.omega = 0 ∧
    (t.src src).loop.vis = (s.src src).loop.vis ∧
    t.bit (ANG_SRC_STAT src) ANG_SRC_STAT_LOST = s.bit (ANG_SRC_STAT src) ANG_SRC_STAT_LOST := by
  obtain ⟨u, hu⟩ : ∃ u, s.setSrc src { s.src src with loop := (s.src src).loop.halt } = u := ⟨_, rfl⟩
  have hsrc : u.src src = { s.src src with loop := (s.src src).loop.halt } := hu ▸ s.src_setSrc_same src _
  have hstill : (u.srcShow src).bit (ANG_SRC_STAT src) ANG_SRC_STAT_STILL = true :=
    u.bit_srcShow_still (by rw [hsrc]; rfl)
  have hlost : (u.srcShow src).bit (ANG_SRC_STAT src) ANG_SRC_STAT_LOST = s.bit (ANG_SRC_STAT src) ANG_SRC_STAT_LOST := by
    rw [State.bit, State.fld_srcShow u (by decide), ← hu]
    rfl
  have howns : s.Owns src (u.srcShow src) := (hu ▸ State.Owns.setSrc s _ : s.Owns src u).trans (State.Steadies.srcShow u).owns
  have hshow : (u.srcShow src).src src = { s.src src with loop := (s.src src).loop.halt } := hsrc
  have hkept : (u.srcShow src).KeepsSources src (s.stops src) := by
    unfold State.stops
    rw [hu]
    dsimp only
    split
    · exact (State.KeepsSources.setAct _).trans (.actShow src.isLt)
    · exact .refl
  exact ⟨howns.trans hkept.steadies.owns, (hkept.bit _).trans hstill, by rw [hkept.src, hshow]; rfl, by rw [hkept.src, hshow]; rfl,
    (hkept.bit _).trans hlost⟩

theorem coastExpired_fences : s.Does .coastExpired fun t =>
    if s.coasting ∧ s.ang.coastCycles = 0 then t.fenced = true ∧ (s.fenced = false → t.FencedBy 2) else t = s := by
  by_cases h : s.coasting = true ∧ s.ang.coastCycles = 0
  · refine ⟨s.fence 0x02, congrArg Host.Outcome.next (if_pos (by simp [h])), ?_⟩
    dsimp only
    rw [if_pos h]
    exact ⟨s.fenced_fence (by decide), fun hf => State.fence_fencedBy hf (by decide)⟩
  · refine ⟨s, congrArg Host.Outcome.next (if_neg (by simpa using h)), ?_⟩
    dsimp only
    rw [if_neg h]

theorem angleOutputEmit_offers (hon : (s.src src).on = true) (hp : s.fld ANG_CTL ANG_CTL_OUT_PERIOD ≠ 0) :
    exec (.angleOutputEmit src) s = .next (s.offer (1384 + src)
      (CWord.mk' (BitVec.ofInt 24 ((s.src src).loop.omega / 256) ++ (0 : BitVec 8)) (some ((s.src src).loop.vis.extractLsb' 16 48)) 0)) :=
  congrArg Host.Outcome.next (if_neg (by simp [hon, hp]))

end

theorem quadEdge_illegal_spec {s : State} {src : Fin 4} {age : Nat} (ht : s.srcTakes src 1 = true)
    (hf : 8 * s.fld (ANG_SRC_CFG src) ANG_SRC_CFG_FILT ≤ age) : s.Does (.quadEdge src .illegal age) fun t =>
    t.ctr (ANG_SRC_ILL_LO src) = (s.inc (ANG_SRC_ILL_LO src)).ctr (ANG_SRC_ILL_LO src) ∧
    t.bit (ANG_SRC_STAT src) ANG_SRC_STAT_ILL = true ∧ (t.src src).pos = (s.src src).pos ∧
    if s.fld (ANG_SRC_LOOP src) ANG_SRC_LOOP_ERR_MAX < (s.src src).ill + 1 then s.LostBy src t 3
    else s.Owns src t ∧ t.src src = { s.src src with ill := (s.src src).ill + 1 } := by
  obtain ⟨v, hv⟩ : ∃ v, s.inc (ANG_SRC_ILL_LO src) = v := ⟨_, rfl⟩
  obtain ⟨u, hu⟩ : ∃ u, v.flag (ANG_SRC_STAT src) ANG_SRC_STAT_ILL = u := ⟨_, rfl⟩
  have hsrc : u.src src = s.src src := by
    rw [← hu, ← hv, State.inc_rest]
    rfl
  have hadv : s.Advances src u := hu ▸ hv ▸ (State.Advances.inc s _).trans (.flag _ rfl rfl)
  have hst := State.illegalStep_steadies src.isLt u
  have hspec := hadv.illegalStep src.isLt
  rw [hsrc] at hspec
  refine ⟨u.illegalStep src, ?_, ?_, hst.shown _ (by simp) ?_, by rw [hst.pos, hsrc], hspec⟩
  · rw [quadEdge_illegal ht hf, hv, hu]
  · rw [hst.ill, hv, ← hu]
    rfl
  · rw [← hu]
    exact v.bit_setF_one _ rfl

theorem quadEdge_moves {s : State} {src : Fin 4} {age : Nat} (ht : s.srcTakes src 1 = true)
    (hf : 8 * s.fld (ANG_SRC_CFG src) ANG_SRC_CFG_FILT ≤ age) :
    s.Does (.quadEdge src .up age) (s.Takes src age · ((s.src src).pos + s.srcSign src)) ∧
    s.Does (.quadEdge src .down age) (s.Takes src age · ((s.src src).pos - s.srcSign src)) := by
  have hup : (s.src src).pos + s.srcSign src * 1 = (s.src src).pos + s.srcSign src := by omega
  have hdown : (s.src src).pos + s.srcSign src * -1 = (s.src src).pos - s.srcSign src := by omega
  exact ⟨⟨_, quadEdge_up ht hf, hup ▸ State.takes_edgeTo src.isLt s age _⟩,
    ⟨_, quadEdge_down ht hf, hdown ▸ State.takes_edgeTo src.isLt s age _⟩⟩

theorem indexPulse_spec {s : State} {src : Fin 4} {age : Nat} (ht : s.srcTakes src 1 = true)
    (hz : s.fld (ANG_SRC_IDX src) ANG_SRC_IDX_ZDIV ≠ 0) :
    let x := s.src src
    let now := x.stoodAt age
    let m := s.marked src now
    let th := s.fld (ANG_SRC_IDX src) ANG_SRC_IDX_ZERR_TH
    let far := th * 2 ^ 48 < (gap now m).natAbs * s.fld (ANG_SRC_EPC src) ANG_SRC_EPC_EPC
    let bad := x.indexed = true ∧ far ∧ th ≠ 0
    s.Does (.indexPulse src age) fun t => s.Owns src t ∧
      (x.indexed = true → far → t.bit (ANG_SRC_STAT src) ANG_SRC_STAT_ZERR = true) ∧
      (bad → s.Fails src t { x with indexAt := some now } ∧ (t.src src).base = x.base) ∧
      (¬bad → (t.src src).base = x.base + gap now m ∧ (t.src src).pos = x.pos) ∧
      (¬bad → far → (t.src src).indexed = true ∧ (t.src src).indexAt = some m) := by
  intro x now m th far bad
  have hfar : s.indexFar src now = true ↔ far := decide_eq_true_iff
  by_cases h : bad
  · obtain ⟨hx, hf, hth⟩ := id h
    obtain ⟨hfails, hzerr, hbase⟩ := s.indexWrong_spec (src := src) now
    exact ⟨_, indexPulse_errs ht hz hx (hfar.mpr hf) hth, hfails.owns, fun _ _ => hzerr, fun _ => ⟨hfails, hbase⟩,
      fun hg => absurd h hg, fun hg => absurd h hg⟩
  · obtain ⟨howns, hzerr, hmoved, hindexed⟩ := s.alignedBy_spec (src := src) (age := age) (x.indexed && s.indexFar src now) now
    exact ⟨_, indexPulse_aligns ht hz fun ⟨hx, hf, hth⟩ => h ⟨hx, hfar.mp hf, hth⟩, howns,
      fun hx hf => hzerr (by rw [hx, hfar.mpr hf]; rfl), fun hb => absurd hb h, fun _ => hmoved, fun _ hf => hindexed (hfar.mpr hf)⟩

/-- Settles O15, command by command: what a command does to the source it is for (`State.Takes`, `State.Fails`,
`State.LostBy`), and that it touches no other (`State.Owns`). -/
theorem angleSources : Obligations.AngleSources := by
  intro s src age raw hi lo
  refine ⟨fun h e => quadEdge_idle h e, fun h => ⟨fun e => quadEdge_idle (.inl h) e, indexPulse_idle h, indexTimeout_idle h⟩,
    fun h => ssiFrame_idle h hi lo raw, sincosSample_idle, fun h => mainsZeroCrossing_idle h age, fun ht => ⟨fun hf => ?_,
      quadEdge_illegal_spec ht, fun hz => ⟨?_, fun a ha => ⟨fun hlate => ?_, fun hearly => ?_⟩, indexTimeout_none⟩⟩,
    fun ht => ⟨fun h => ⟨_, ssiFrame_bad ht h raw, (State.Advances.refl).fails src.isLt⟩, fun o ho => ?_⟩, fun ht u v hu hv => ?_,
    fun ht => ⟨fun h => ?_, fun k w hamp hk hw => ?_⟩, measurementTimeout_idle, fun hon hw hr hl => ?_, coastExpired_fences,
    angleOutputEmit_offers⟩
  · exact quadEdge_moves ht hf
  · exact indexPulse_spec ht hz
  · exact ⟨s.lose src 0x04, (indexTimeout_some ht hz ha).trans (congrArg Host.Outcome.next (if_pos (decide_eq_true hlate))),
      State.Advances.refl.lostBy src.isLt (by decide)⟩
  · exact (indexTimeout_some ht hz ha).trans (congrArg Host.Outcome.next (if_neg (by simpa [State.indexLate] using hearly)))
  · exact ⟨_, ssiFrame_steps ht raw ho, State.stepTo_spec s _ _⟩
  · obtain ⟨w, he⟩ := sincosSample_pair ht hu hv
    obtain ⟨howns, hframe, hfails⟩ := State.pairTaken_spec (src := src) { s with cxb := w } u.1 v.1
    exact ⟨_, he, howns, hframe, hfails⟩
  · refine mainsZeroCrossing_none ?_ age
    rcases h with h | h
    · exact if_pos h
    · exact ite_eq_left_iff.mpr fun _ => h
  · exact mainsZeroCrossing_spec ht ((if_neg hamp).trans hk) hw age
  · refine ⟨_, measurementTimeout_due hon hw hr hl, ?_⟩
    dsimp only
    split
    · exact s.stops_spec
    · exact State.Advances.refl.lostBy src.isLt (by decide)

end Sys2Proof.Machine

end

section

/-! SUPPORT. The device reset (R587, R641): what its registers hold, the output states of the cells, what start-up changes. -/

namespace Sys2Proof.Machine

/-! ### What setting a register leaves alone -/

/-- The state beside its registers. -/
def State.besideRegs (s : State) : State := { s with regs := [] }

theorem State.besideRegs_put (s : State) (a : Nat) (v : Word) : (s.put a v).besideRegs = s.besideRegs := rfl

theorem State.besideRegs_setF (s : State) (a : Nat) (f : Field) (x : Nat) : (s.setF a f x).besideRegs = s.besideRegs :=
  s.besideRegs_put a _

theorem State.cells_setF (s : State) (a : Nat) (f : Field) (x : Nat) : (s.setF a f x).cells = s.cells := rfl

theorem State.pwr_setF (s : State) (a : Nat) (f : Field) (x : Nat) : (s.setF a f x).pwr = s.pwr := rfl

theorem State.eq_of_besideRegs {s t : State} (h : t.besideRegs = s.besideRegs) : t = { s with regs := t.regs } :=
  congrArg (fun v : State => { v with regs := t.regs }) h

/-! ### The cells as a reset leaves them -/

theorem resetWord_celOut : ∀ u : Fin 512, resetWord (CEL_OUT u) = 0 := by decide +kernel
theorem resetWord_celStatus : ∀ u : Fin 512, resetWord (CEL_STATUS u) = 0 := by decide +kernel
theorem resetWord_tileState : resetWord PWR_TILE_STATE = 0xFFFFFFFF := by decide +kernel

/-- Cells with their settings at their reset values, none released, and every tile waking (R641, R643). -/
structure State.CellsReset (s : State) : Prop where
  cells : s.cells = []
  out : ∀ u < 512, s.reg (CEL_OUT u) = 0
  rel : ∀ u < 512, s.bit (CEL_STATUS u) CEL_STATUS_REL = false
  tiles : s.reg PWR_TILE_STATE = 0xFFFFFFFF

/-- The output state of a cell that is not released: reset where its rail is off or the reset is held, else safe (R215). -/
def State.resetOut (s : State) (u : Nat) : Nat := if s.railGood (9 + u / 256) ∧ s.pwr.inReset = false then 1 else 0

/-- Showing the output state of a cell. -/
def State.showOut (s : State) (u o : Nat) : State := s.setF (CEL_STATUS u) CEL_STATUS_OUTST o

theorem State.railGood_testBit (s : State) {k : Nat} (hk : k < 11) : s.railGood k = bitOf (s.reg PWR_RAIL).toNat k := by
  unfold State.railGood State.fld fieldGet bitOf
  rw [Nat.testBit_mod_two_pow, Nat.testBit_div_two_pow]
  simp [PWR_RAIL_GOOD, fieldWidth, hk]

theorem waking_tiles : ∀ k : Fin 16, (0xFFFFFFFF#32).toNat / 4 ^ k.val % 4 = 3 := by decide

section

variable {s : State} {u : Nat} (hu : u < 512)

include hu

theorem State.CellsReset.fld_out (h : s.CellsReset) (f : Field) : s.fld (CEL_OUT u) f = 0 := by
  rw [State.fld, h.out u hu, fieldGet]
  simp

theorem State.CellsReset.governs (h : s.CellsReset) : s.governs u = u := by
  rw [State.governs, h.fld_out hu]
  rfl

theorem State.CellsReset.boundSet (h : s.CellsReset) : s.boundSet u = [u] := by
  rw [State.boundSet, h.fld_out hu]
  rfl

theorem State.CellsReset.outState (h : s.CellsReset) : s.outState u = s.resetOut u := by
  have htile : (s.reg PWR_TILE_STATE).toNat / 4 ^ (u / 32) % 4 = 3 := by
    rw [h.tiles]
    exact waking_tiles ⟨u / 32, by omega⟩
  have hrail := s.railGood_testBit (k := 9 + u / 256) (by omega)
  rw [State.outState, htile, h.rel u hu, ← hrail, State.resetOut]
  cases s.railGood (9 + u / 256) <;> cases s.pwr.inReset <;> rfl

theorem State.CellsReset.dacFollow (h : s.CellsReset) {o : Nat} (ho : o < 2) : s.dacFollow u u o = s := by
  unfold State.dacFollow
  extract_lets c d
  have hsafe : ¬(o = 1 ∧ s.fld (CEL_OUT u) CEL_OUT_SAFE = 3) := by
    rw [h.fld_out hu]
    omega
  have hd : d = c.dac := (if_neg hsafe).trans (if_neg (by omega))
  exact if_pos hd

theorem State.CellsReset.refreshCell (h : s.CellsReset) : s.refreshCell u = s.showOut u (s.resetOut u) := by
  have ho : s.resetOut u < 2 := by
    unfold State.resetOut
    split <;> omega
  rw [State.refreshCell, h.governs hu, h.boundSet hu, h.outState hu, List.foldl_cons, List.foldl_nil, h.dacFollow hu ho, State.showOut]

omit hu in
theorem State.CellsReset.showOut (h : s.CellsReset) (o : Nat) : (s.showOut u o).CellsReset := by
  refine ⟨(s.cells_setF _ _ _).trans h.cells, fun v hv => ?_, fun v hv => ?_, ?_⟩
  · rw [State.showOut, State.reg_setF_other _ _ _ _ _ (by unfold CEL_OUT CEL_STATUS; omega)]
    exact h.out v hv
  · rw [State.showOut, State.bit_setF_apart _ _ _ _ rfl rfl]
    exact h.rel v hv
  · rw [State.showOut, State.reg_setF_other _ _ _ _ _ (by unfold PWR_TILE_STATE CEL_STATUS; omega)]
    exact h.tiles

omit hu in
theorem State.resetOut_showOut (s : State) (v o w : Nat) : (s.showOut v o).resetOut w = s.resetOut w := by
  have hrail : (s.showOut v o).railGood (9 + w / 256) = s.railGood (9 + w / 256) := by
    rw [State.railGood, State.showOut, State.fld_setF_other _ _ _ _ _ _ (by unfold PWR_RAIL CEL_STATUS; omega), State.railGood]
  unfold State.resetOut
  rw [hrail, State.showOut, State.pwr_setF]

end

/-- The cells show their output states after a reset. -/
theorem State.CellsReset.refreshCells {s : State} (h : s.CellsReset) :
    s.refreshCells = (List.range 512).foldl (fun t u => t.showOut u (s.resetOut u)) s := by
  have hall : ∀ (l : List Nat) (t : State), (∀ u ∈ l, u < 512) → t.CellsReset → (∀ u, t.resetOut u = s.resetOut u) →
      l.foldl (fun t u => t.refreshCell u) t = l.foldl (fun t u => t.showOut u (s.resetOut u)) t := by
    intro l
    induction l with
    | nil =>
      intro t _ _ _
      rw [List.foldl_nil, List.foldl_nil]
    | cons u l ih =>
      intro t hl ht ho
      obtain ⟨hu, hl⟩ := List.forall_mem_cons.mp hl
      have hstep : t.refreshCell u = t.showOut u (s.resetOut u) := (ht.refreshCell hu).trans (congrArg _ (ho u))
      rw [List.foldl_cons, List.foldl_cons, hstep]
      exact ih _ hl (ht.showOut _) fun v => (t.resetOut_showOut u _ v).trans (ho v)
  exact hall _ s (fun u => List.mem_range.mp) h fun _ => rfl

/-- Showing the output states of cells changes registers alone. -/
theorem State.besideRegs_showOuts (o : Nat → Nat) (l : List Nat) (s : State) :
    (l.foldl (fun t u => t.showOut u (o u)) s).besideRegs = s.besideRegs :=
  foldl_keeps (p := State.besideRegs) (fun t u => t.besideRegs_setF (CEL_STATUS u) CEL_STATUS_OUTST (o u)) l s

/-- It changes the status registers of the cells alone. -/
theorem State.reg_showOuts (o : Nat → Nat) (l : List Nat) (s : State) {a : Nat} (ha : ∀ u ∈ l, a ≠ CEL_STATUS u) :
    (l.foldl (fun t u => t.showOut u (o u)) s).reg a = s.reg a := by
  induction l generalizing s with
  | nil => rfl
  | cons u l ih =>
    obtain ⟨hu, hl⟩ := List.forall_mem_cons.mp ha
    exact (ih _ hl).trans (State.reg_setF_other _ _ _ _ _ hu)

end Sys2Proof.Machine

end

section

/-! SUPPORT. What a device reset leaves (R587, R641, R648, R661). -/

namespace Sys2Proof.Machine

/-! ### The registers that a reset keeps and shows -/

/-- The registers a reset keeps. -/
def resetKeeps (aon sensors : Bool) : List Nat :=
  keptRegs ++ (if aon then alwaysOnRegs else []) ++ (if sensors then (List.range 12).map PWR_TEMP else [])

/-- The registers in which a reset shows the straps, the partner's selection and the wake queue. -/
def resetShows : List Nat := [BOOT_STATUS, LEAT_CFG, TWIN_CFG, PIN_BANKV, TWIN_STATUS, PWR_WAKE_STAT, PWR_STATUS]

/-- The registers that the start of start-up sets (R588). -/
def startUpSets : List Nat := [TST_LOG_HEAD_LO, TST_LOG_HEAD_HI, JNL_SEQ_LO, JNL_SEQ_HI, JNL_POS, BOOT_CI_STATUS]

/-- The blocks of which a reset leaves every register at its reset value. -/
def clearedBlocks : List Block :=
  [Block.ang, .cxb, .irq, .cel, .celMx, .cvg, .cvgCom, .flt, .drv, .drvCom, .weir, .lgcRg, .lgcCom]

theorem resetKeeps_subset {aon sensors : Bool} {a : Nat} (h : a ∈ resetKeeps aon sensors) : a ∈ resetKeeps true true := by
  unfold resetKeeps at h ⊢
  simp only [List.mem_append] at h ⊢
  rcases h with (h | h) | h
  · exact .inl (.inl h)
  · cases aon with
    | true => exact .inl (.inr h)
    | false => exact absurd h List.not_mem_nil
  · cases sensors with
    | true => exact .inr h
    | false => exact absurd h List.not_mem_nil

theorem kept_outside : ∀ a ∈ resetKeeps true true ++ resetShows ++ startUpSets, clearedBlocks.contains (blockOf a) = false ∧
    (a < 0xF1000000 ∨ 0xF2000000 ≤ a) := by decide +kernel

theorem tblGet_foldl_set {α : Type} [DecidableEq α] (d g : Nat → α) (l : List Nat) (t : Tbl α) (b : Nat) :
    tblGet d (l.foldl (fun t a => tblSet d t a (g a)) t) b = if b ∈ l then g b else tblGet d t b := by
  induction l generalizing t with
  | nil => rfl
  | cons a l ih =>
    rw [List.foldl_cons, ih, tblGet_set]
    by_cases hb : b ∈ l
    · rw [if_pos hb, if_pos (List.mem_cons_of_mem a hb)]
    · by_cases hba : b = a
      · rw [if_neg hb, if_pos hba, hba, if_pos List.mem_cons_self]
      · rw [if_neg hb, if_neg hba, if_neg (by simp [hb, hba])]

/-! ### The state before the cells show their output states -/

/-- The state after a reset with nothing sampled. -/
def State.cleared (s : State) (aon sensors held : Bool) : State :=
  { State.reset with
    regs := (resetKeeps aon sensors).foldl (fun t a => tblSet resetWord t a (s.reg a)) []
    reply := s.reply
    freeIx := s.freeIx
    out := s.out
    leat := { Leat.reset with taken := s.out.length }
    pending := s.pending
    mem := { Mem.reset with nvm := s.mem.nvm }
    pwr := { Pwr.reset with pfailN := s.pwr.pfailN, inReset := held } }

/-- The straps are sampled, the partner's selection and the wake queue show. -/
def State.sampled (s : State) (st : Straps) (sel : Nat) : State :=
  ((s.setStraps st).setF TWIN_STATUS TWIN_STATUS_PEER_SEL sel).wakeShow

theorem State.deviceReset_eq (s : State) (st : Straps) (aon sensors held : Bool) : s.deviceReset st aon sensors held =
    ((s.tearLines.cleared aon sensors held).sampled st (s.tearLines.fld TWIN_STATUS TWIN_STATUS_PEER_SEL)).refreshCells := by
  unfold State.deviceReset State.cleared resetKeeps State.sampled
  dsimp only

theorem State.reg_cleared (s : State) (aon sensors held : Bool) (a : Nat) :
    (s.cleared aon sensors held).reg a = if a ∈ resetKeeps aon sensors then s.reg a else resetWord a := by
  unfold State.cleared State.reg
  dsimp only
  exact tblGet_foldl_set resetWord _ (resetKeeps aon sensors) [] a

/-- The state beside the lines of the NVM. -/
def State.besideNvm (s : State) : State := { s with mem := { s.mem with nvm := [] } }

theorem State.tearLines_rest (s : State) : s.tearLines = { s with mem := { s.mem with nvm := s.tearLines.mem.nvm } } := by
  have hview : s.tearLines.besideNvm = s.besideNvm := by
    refine foldl_keeps (p := State.besideNvm) (fun t h => ?_) [0, 1] s
    dsimp only
    split
    · rfl
    · rfl
  exact congrArg (fun t : State => { t with mem := { t.mem with nvm := s.tearLines.mem.nvm } }) hview

theorem State.nvmLine_tearLines (s : State) (l : Nat) : (s.tearLines.nvmLine l).cur = (s.nvmLine l).cur := by
  refine foldl_keeps (p := fun t => (t.nvmLine l).cur) (fun t h => ?_) [0, 1] s
  dsimp only
  split
  next w _ =>
    have hset := tblGet_set (fun _ => NvmLine.blank) t.mem.nvm w.line l { t.nvmLine w.line with torn := true }
    by_cases hl : l = w.line
    · exact (congrArg NvmLine.cur (hset.trans (if_pos hl))).trans (by rw [hl])
    · exact congrArg NvmLine.cur (hset.trans (if_neg hl))
  · rfl

theorem State.reg_sampled (s : State) (st : Straps) (sel : Nat) {a : Nat} (ha : a ∉ resetShows) : (s.sampled st sel).reg a = s.reg a := by
  simp only [resetShows, List.mem_cons, List.not_mem_nil, or_false, not_or] at ha
  obtain ⟨hboot, hleat, htwin, hpin, hsel, hwake, hpwr⟩ := ha
  unfold State.sampled State.wakeShow State.setStraps
  dsimp only
  rw [State.reg_setF_other _ _ _ _ _ hpwr, State.reg_setF_other _ _ _ _ _ hwake, State.reg_setF_other _ _ _ _ _ hwake,
    State.reg_setF_other _ _ _ _ _ hsel, State.reg_setF_other _ _ _ _ _ hpin, State.reg_setF_other _ _ _ _ _ htwin,
    State.reg_setF_other _ _ _ _ _ hleat, State.reg_setF_other _ _ _ _ _ hboot]
  rfl

/-- What was sampled shows. -/
theorem State.sampled_shows (s : State) (st : Straps) (sel : Nat) :
    (s.sampled st sel).fld BOOT_STATUS BOOT_STATUS_MODE = st.mode.toNat ∧
    (s.sampled st sel).bit LEAT_CFG LEAT_CFG_HWSEL = st.hwsel ∧ (s.sampled st sel).bit TWIN_CFG TWIN_CFG_POS = st.posB := by
  obtain ⟨u, hu⟩ : ∃ u, (s.setStraps st).setF TWIN_STATUS TWIN_STATUS_PEER_SEL sel = u := ⟨_, rfl⟩
  have hwake {a : Nat} (f : Field) (hwq : a ≠ PWR_WAKE_STAT) (hst : a ≠ PWR_STATUS) :
      (s.sampled st sel).fld a f = u.fld a f := by
    rw [State.sampled, hu, State.wakeShow, State.fld_setF_other _ _ _ _ _ _ hst, State.fld_setF_other _ _ _ _ _ _ hwq,
      State.fld_setF_other _ _ _ _ _ _ hwq]
  unfold State.setStraps at hu
  unfold State.bit
  rw [hwake BOOT_STATUS_MODE (by decide) (by decide), hwake LEAT_CFG_HWSEL (by decide) (by decide),
    hwake TWIN_CFG_POS (by decide) (by decide), ← hu]
  dsimp only
  refine ⟨?_, ?_, ?_⟩
  · rw [State.fld_setF_other _ _ _ _ _ _ (by decide), State.fld_setF_other _ _ _ _ _ _ (by decide),
      State.fld_setF_other _ _ _ _ _ _ (by decide), State.fld_setF_other _ _ _ _ _ _ (by decide), State.fld_setF_same _ _ _ _ rfl]
    exact Nat.mod_eq_of_lt st.mode.isLt
  · rw [State.fld_setF_other _ _ _ _ _ _ (by decide), State.fld_setF_other _ _ _ _ _ _ (by decide),
      State.fld_setF_other _ _ _ _ _ _ (by decide), State.fld_setF_same _ _ _ _ rfl]
    cases st.hwsel <;> rfl
  · rw [State.fld_setF_other _ _ _ _ _ _ (by decide), State.fld_setF_other _ _ _ _ _ _ (by decide),
      State.fld_setF_same _ _ _ _ rfl]
    cases st.posB <;> rfl

/-- Sampling changes registers and the strap of the VAHI rails alone. -/
theorem State.sampled_rest (s : State) (st : Straps) (sel : Nat) :
    s.sampled st sel = { s with regs := (s.sampled st sel).regs, pwr := { s.pwr with ahi := st.ahi } } := rfl

/-- The state of a reset device before its cells show their output states. -/
def State.resetBase (s : State) (st : Straps) (aon sensors held : Bool) : State :=
  (s.tearLines.cleared aon sensors held).sampled st (s.tearLines.fld TWIN_STATUS TWIN_STATUS_PEER_SEL)

section

variable (s : State) (st : Straps) (aon sensors held : Bool)

theorem State.resetBase_rest : s.resetBase st aon sensors held = { s.tearLines.cleared aon sensors held with
    regs := (s.resetBase st aon sensors held).regs
    pwr := { Pwr.reset with pfailN := s.tearLines.pwr.pfailN, inReset := held, ahi := st.ahi } } :=
  State.sampled_rest (s.tearLines.cleared aon sensors held) st _

theorem State.reg_resetBase {a : Nat} (ha : a ∉ resetShows) :
    (s.resetBase st aon sensors held).reg a = if a ∈ resetKeeps aon sensors then s.reg a else resetWord a := by
  have htear : s.tearLines.reg a = s.reg a := by rw [State.tearLines_rest]; rfl
  rw [State.resetBase, State.reg_sampled _ _ _ ha, State.reg_cleared, htear]

theorem State.reg_resetBase_cleared {a : Nat} (ha : a ∉ resetKeeps true true ++ resetShows ++ startUpSets) :
    (s.resetBase st aon sensors held).reg a = resetWord a := by
  simp only [List.mem_append, not_or] at ha
  obtain ⟨⟨hkeep, hshow⟩, -⟩ := ha
  rw [State.reg_resetBase s st aon sensors held hshow, if_neg fun h => hkeep (resetKeeps_subset h)]

theorem unit_not_kept {a : Nat} (h : 0xF1000000 ≤ a ∧ a < 0xF2000000) : a ∉ resetKeeps true true ++ resetShows ++ startUpSets :=
  fun hm => by have hout := (kept_outside a hm).2; omega

theorem State.cellsReset_resetBase : (s.resetBase st aon sensors held).CellsReset := by
  refine ⟨rfl, fun u hu => ?_, fun u hu => ?_, ?_⟩
  · rw [State.reg_resetBase_cleared _ _ _ _ _ (unit_not_kept (by unfold CEL_OUT; omega))]
    exact resetWord_celOut ⟨u, hu⟩
  · rw [State.bit, State.fld, State.reg_resetBase_cleared _ _ _ _ _ (unit_not_kept (by unfold CEL_STATUS; omega)),
      resetWord_celStatus ⟨u, hu⟩]
    rfl
  · rw [State.reg_resetBase_cleared _ _ _ _ _ (by decide +kernel)]
    exact resetWord_tileState

end

end Sys2Proof.Machine

end

section

/-! SUPPORT. The device reset and the start of start-up as the statements speak of them (R587, R588). -/

namespace Sys2Proof.Machine

/-- The device begins anew (R587): what is as after reset, and what stays. -/
def State.Anew (s t : State) : Prop :=
  t.ctxs = [] ∧ t.supState = ctxStopped ∧ t.stq = [] ∧ t.mem.bytes = [] ∧ t.ctrs = [] ∧
  t.cells = [] ∧ t.pulses = [] ∧ t.cxb = Cxb.reset ∧ t.lgc = Lgc.reset ∧ t.leat = { Leat.reset with taken := s.out.length } ∧
  t.boot = Boot.reset ∧ t.tap = State.reset.tap ∧
  t.ep.part = none ∧ t.out = s.out ∧ t.pending = s.pending ∧ (∀ l, (t.nvmLine l).cur = (s.nvmLine l).cur) ∧
  (∀ a, clearedBlocks.contains (blockOf a) = true → (∀ u : Fin 512, a ≠ CEL_STATUS u) → t.reg a = resetWord a) ∧
  ∀ u : Fin 512, t.fld (CEL_STATUS u) CEL_STATUS_OUTST = (if t.railGood (9 + u / 256) ∧ t.pwr.inReset = false then 1 else 0)
    ∧ t.bit (CEL_STATUS u) CEL_STATUS_LATCH = false ∧ t.bit (CEL_STATUS u) CEL_STATUS_REL = false

/-- A device at its reset values, with what lies outside it and what its NVM holds. -/
def State.blankBy (s : State) (st : Straps) (held : Bool) : State :=
  { State.reset with
    reply := s.reply
    freeIx := s.freeIx
    out := s.out
    leat := { Leat.reset with taken := s.out.length }
    pending := s.pending
    mem := { Mem.reset with nvm := s.mem.nvm }
    pwr := { Pwr.reset with pfailN := s.pwr.pfailN, inReset := held, ahi := st.ahi } }

theorem State.besideRegs_cleared (u : State) (st : Straps) (aon sensors held : Bool) (sel : Nat) :
    ((u.cleared aon sensors held).sampled st sel).besideRegs = (u.blankBy st held).besideRegs := by
  rw [State.sampled_rest]
  unfold State.besideRegs State.cleared State.blankBy
  dsimp only

section

variable (s : State) (st : Straps) (aon sensors held : Bool)

theorem State.deviceReset_showOuts : s.deviceReset st aon sensors held = (List.range 512).foldl
    (fun t u => t.showOut u ((s.resetBase st aon sensors held).resetOut u)) (s.resetBase st aon sensors held) :=
  (s.deviceReset_eq st aon sensors held).trans (s.cellsReset_resetBase st aon sensors held).refreshCells

/-- Beside the registers, a reset leaves the state it had before the cells showed. -/
theorem State.besideRegs_deviceReset :
    (s.deviceReset st aon sensors held).besideRegs = (s.resetBase st aon sensors held).besideRegs := by
  rw [State.deviceReset_showOuts]
  exact State.besideRegs_showOuts _ _ _

theorem State.reg_deviceReset_base {a : Nat} (ha : ∀ u : Fin 512, a ≠ CEL_STATUS u) :
    (s.deviceReset st aon sensors held).reg a = (s.resetBase st aon sensors held).reg a := by
  rw [State.deviceReset_showOuts]
  exact State.reg_showOuts _ _ _ fun u hu => ha ⟨u, List.mem_range.mp hu⟩

theorem notCell_low {a : Nat} (h : a < 0xF1000000) (u : Fin 512) : a ≠ CEL_STATUS u := by
  unfold CEL_STATUS
  omega

/-- A register that a reset keeps or returns to its reset value. -/
theorem State.reg_deviceReset {a : Nat} (ha : a ∉ resetShows) (hc : ∀ u : Fin 512, a ≠ CEL_STATUS u) :
    (s.deviceReset st aon sensors held).reg a = if a ∈ resetKeeps aon sensors then s.reg a else resetWord a := by
  rw [State.reg_deviceReset_base s st aon sensors held hc, State.reg_resetBase s st aon sensors held ha]

/-- Beside its registers, a reset device is as its reset values, its memory and what lies outside say. -/
theorem State.deviceReset_rest : ∃ r m, s.tearLines = { s with mem := m } ∧
    s.deviceReset st aon sensors held = { ({ s with mem := m } : State).blankBy st held with regs := r } := by
  have hbase : (s.resetBase st aon sensors held).besideRegs = (s.tearLines.blankBy st held).besideRegs :=
    s.tearLines.besideRegs_cleared st aon sensors held _
  have heq := State.eq_of_besideRegs ((s.besideRegs_deviceReset st aon sensors held).trans hbase)
  have htear := s.tearLines_rest
  refine ⟨(s.deviceReset st aon sensors held).regs, _, htear, heq.trans ?_⟩
  rw [← htear]

theorem State.pwr_deviceReset : (s.deviceReset st aon sensors held).pwr =
    { Pwr.reset with pfailN := s.pwr.pfailN, inReset := held, ahi := st.ahi } := by
  obtain ⟨r, m, -, hr⟩ := s.deviceReset_rest st aon sensors held
  rw [hr]
  rfl

theorem State.health_deviceReset : (s.deviceReset st aon sensors held).health = [] := by
  obtain ⟨r, m, -, hr⟩ := s.deviceReset_rest st aon sensors held
  rw [hr]
  rfl

theorem State.deviceReset_samples :
    (s.deviceReset st aon sensors held).fld BOOT_STATUS BOOT_STATUS_MODE = st.mode.toNat ∧
    (s.deviceReset st aon sensors held).bit LEAT_CFG LEAT_CFG_HWSEL = st.hwsel ∧
    (s.deviceReset st aon sensors held).bit TWIN_CFG TWIN_CFG_POS = st.posB := by
  unfold State.bit State.fld
  rw [State.reg_deviceReset_base _ _ _ _ _ (notCell_low (by decide)), State.reg_deviceReset_base _ _ _ _ _ (notCell_low (by decide)),
    State.reg_deviceReset_base _ _ _ _ _ (notCell_low (by decide))]
  exact State.sampled_shows _ st _

theorem celStatus_injective {u v : Nat} (h : CEL_STATUS u = CEL_STATUS v) : u = v := by
  unfold CEL_STATUS at h
  omega

/-- The cells after a reset: unlatched, not released, their output states shown (R215). -/
theorem State.cell_deviceReset (u : Fin 512) :
    (s.deviceReset st aon sensors held).fld (CEL_STATUS u) CEL_STATUS_OUTST = (s.resetBase st aon sensors held).resetOut u ∧
    (s.deviceReset st aon sensors held).bit (CEL_STATUS u) CEL_STATUS_LATCH = false ∧
    (s.deviceReset st aon sensors held).bit (CEL_STATUS u) CEL_STATUS_REL = false := by
  obtain ⟨b, hb⟩ : ∃ b, s.resetBase st aon sensors held = b := ⟨_, rfl⟩
  have hzero : b.reg (CEL_STATUS u) = 0 := by
    rw [← hb, State.reg_resetBase_cleared _ _ _ _ _ (unit_not_kept (by unfold CEL_STATUS; omega))]
    exact resetWord_celStatus u
  have hkept {f : Field} (hf : Field.apart CEL_STATUS_OUTST f = true) :
      ((List.range 512).foldl (fun t u => t.showOut u (b.resetOut u)) b).bit (CEL_STATUS u) f = false := by
    have hfold := foldl_keeps (p := fun t => t.bit (CEL_STATUS u) f) (f := fun t v => t.showOut v (b.resetOut v))
      (fun t v => State.bit_setF_apart t _ _ (b.resetOut v) rfl hf) (List.range 512) b
    rw [hfold, State.bit, State.fld, hzero, fieldGet]
    simp
  rw [State.deviceReset_showOuts, hb]
  refine ⟨?_, hkept rfl, hkept rfl⟩
  refine foldl_reaches (P := fun t => t.fld (CEL_STATUS u) CEL_STATUS_OUTST = b.resetOut u) (fun t => ?_) (fun t v ht => ?_)
    (List.mem_range.mpr u.isLt) b
  · rw [State.showOut, State.fld_setF_same _ _ _ _ rfl]
    unfold State.resetOut
    split <;> rfl
  · by_cases hv : CEL_STATUS u = CEL_STATUS v
    · rw [← celStatus_injective hv, State.showOut, State.fld_setF_same _ _ _ _ rfl]
      unfold State.resetOut
      split <;> rfl
    · rw [State.showOut, State.fld_setF_other _ _ _ _ _ _ hv]
      exact ht

theorem State.anew_deviceReset : s.Anew (s.deviceReset st aon sensors held) := by
  have hcells (u : Fin 512) := s.cell_deviceReset st aon sensors held u
  have hregs {a : Nat} (hblock : clearedBlocks.contains (blockOf a) = true) (hc : ∀ u : Fin 512, a ≠ CEL_STATUS u) :
      (s.deviceReset st aon sensors held).reg a = resetWord a := by
    rw [State.reg_deviceReset_base _ _ _ _ _ hc]
    refine State.reg_resetBase_cleared _ _ _ _ _ fun hm => ?_
    rw [(kept_outside a hm).1] at hblock
    exact absurd hblock Bool.false_ne_true
  have hout (u : Nat) : (s.resetBase st aon sensors held).resetOut u =
      if (s.deviceReset st aon sensors held).railGood (9 + u / 256) ∧ (s.deviceReset st aon sensors held).pwr.inReset = false
      then 1 else 0 := by
    have hrail : (s.deviceReset st aon sensors held).railGood (9 + u / 256) =
        (s.resetBase st aon sensors held).railGood (9 + u / 256) := by
      rw [State.railGood, State.fld, State.reg_deviceReset_base _ _ _ _ _ (notCell_low (by decide)), State.railGood, State.fld]
    rw [State.pwr_deviceReset, hrail, State.resetOut, State.resetBase_rest]
  have hnvm := s.nvmLine_tearLines
  obtain ⟨r, m, hm, hr⟩ := s.deviceReset_rest st aon sensors held
  rw [hm] at hnvm
  rw [hr] at hcells hregs hout ⊢
  exact ⟨rfl, rfl, rfl, rfl, rfl, rfl, rfl, rfl, rfl, rfl, rfl, rfl, rfl, rfl, rfl, hnvm, fun a => hregs,
    fun u => ⟨(hcells u).1.trans (hout u), (hcells u).2⟩⟩

end

/-! ### The start of start-up (R588) -/

theorem State.reg_logFind (s : State) {a : Nat} (ha : a ∉ startUpSets) : s.logFind.reg a = s.reg a := by
  simp only [startUpSets, List.mem_cons, not_or] at ha
  obtain ⟨hlo, hhi, -⟩ := ha
  exact (State.reg_put_other _ _ _ _ hhi).trans (State.reg_put_other _ _ _ _ hlo)

theorem State.reg_jnlFind (s : State) {a : Nat} (ha : a ∉ startUpSets) : s.jnlFind.reg a = s.reg a := by
  simp only [startUpSets, List.mem_cons, not_or] at ha
  obtain ⟨-, -, hlo, hhi, hpos, -⟩ := ha
  unfold State.jnlFind State.setHead
  extract_lets l whole h pos j
  rw [State.reg_setF_other _ _ _ _ _ hpos, State.reg_put_other _ _ _ _ hhi, State.reg_put_other _ _ _ _ hlo]
  rfl

/-- The heads of the logs are found, the frames counted. -/
def State.headsFound (s : State) : State := (s.logFind.jnlFind).setF BOOT_CI_STATUS BOOT_CI_STATUS_FRAMES framesHeld

theorem State.reg_headsFound (s : State) {a : Nat} (ha : a ∉ startUpSets) : s.headsFound.reg a = s.reg a := by
  have hframes : a ≠ BOOT_CI_STATUS := fun h => ha (by rw [h]; decide)
  rw [State.headsFound, State.reg_setF_other _ _ _ _ _ hframes, State.reg_jnlFind _ ha, State.reg_logFind _ ha]

theorem State.headsFound_rest (s : State) : ∃ r j, s.headsFound = { s with regs := r, jnl := j } := ⟨_, _, rfl⟩

/-- Start-up begins with registers, the journal and the health log. -/
theorem State.startUp_rest (s : State) : ∃ r j f h, s.startUp = { s with regs := r, jnl := j, freeIx := f, health := h } := by
  obtain ⟨r, j, hr⟩ := s.headsFound_rest
  unfold State.startUp
  extract_lets u c
  have hu : u = { s with regs := r, jnl := j } := hr
  split
  · exact ⟨r, j, s.freeIx, s.health, hu⟩
  · rw [hu]
    exact ⟨r, j, _, _, rfl⟩

theorem State.reg_startUp (s : State) {a : Nat} (ha : a ∉ startUpSets) : s.startUp.reg a = s.reg a := by
  unfold State.startUp
  extract_lets u c
  have hu : u.reg a = s.reg a := s.reg_headsFound ha
  split
  · exact hu
  · exact hu

theorem State.Anew.startUp {s t : State} (h : s.Anew t) : s.Anew t.startUp := by
  have hreg {a : Nat} (ha : a ∉ startUpSets) := t.reg_startUp ha
  have hcell (u : Fin 512) (f : Field) : t.startUp.fld (CEL_STATUS u) f = t.fld (CEL_STATUS u) f := by
    have hout : CEL_STATUS u ∉ resetKeeps true true ++ resetShows ++ startUpSets := unit_not_kept (by unfold CEL_STATUS; omega)
    rw [State.fld, hreg fun hm => hout (List.mem_append_right _ hm), State.fld]
  have hrail (k : Nat) : t.startUp.railGood k = t.railGood k := by
    rw [State.railGood, State.fld, hreg (by decide), State.railGood, State.fld]
  obtain ⟨hctxs, hsup, hstq, hbytes, hctrs, hcells, hpulses, hcxb, hlgc, hleat, hboot, htap, hpart, hout, hpending, hnvm, hregs,
    hunits⟩ := h
  obtain ⟨r, j, f, l, hs⟩ := t.startUp_rest
  rw [hs] at hreg hcell hrail ⊢
  refine ⟨hctxs, hsup, hstq, hbytes, hctrs, hcells, hpulses, hcxb, hlgc, hleat, hboot, htap, hpart, hout, hpending, hnvm,
    fun a hblock hc => ?_, fun u => ?_⟩
  · refine (hreg fun hm => ?_).trans (hregs a hblock hc)
    rw [(kept_outside a (List.mem_append_right _ hm)).1] at hblock
    exact absurd hblock Bool.false_ne_true
  · unfold State.bit
    rw [hcell, hcell, hcell, hrail]
    exact hunits u

end Sys2Proof.Machine

end

section

/-! SUPPORT. The commands that reset the device (R480, R587, R641, R648, R661). -/

namespace Sys2Proof.Machine

/-- What a reset device holds on to is what the state before it held. -/
theorem State.Anew.of_same {s u t : State} (h : u.Anew t) (hsame : u.besideRegs = s.besideRegs) : s.Anew t := by
  obtain ⟨r, rfl⟩ : ∃ r, u = { s with regs := r } := ⟨_, State.eq_of_besideRegs hsame⟩
  exact h

theorem State.Anew.answer {s t : State} (h : s.Anew t) (r : Reply) : s.Anew (t.answer r) := h

section

variable (s : State) (st : Straps)

theorem State.reset_startUp (aon sensors held : Bool) :
    let t := (s.deviceReset st aon sensors held).startUp
    s.Anew t ∧ t.pwr.inReset = held ∧ t.fld BOOT_STATUS BOOT_STATUS_MODE = st.mode.toNat ∧
    t.bit LEAT_CFG LEAT_CFG_HWSEL = st.hwsel ∧ t.bit TWIN_CFG TWIN_CFG_POS = st.posB ∧
    t.reg PWR_LASTLOSS = s.reg PWR_LASTLOSS := by
  have hanew := (s.anew_deviceReset st aon sensors held).startUp
  have hpwr := s.pwr_deviceReset st aon sensors held
  have hsamples := s.deviceReset_samples st aon sensors held
  have hlast : (s.deviceReset st aon sensors held).reg PWR_LASTLOSS = s.reg PWR_LASTLOSS := by
    rw [State.reg_deviceReset _ _ _ _ _ (by decide) (notCell_low (by decide)), if_pos]
    unfold resetKeeps keptRegs
    simp
  obtain ⟨t, ht⟩ : ∃ t, s.deviceReset st aon sensors held = t := ⟨_, rfl⟩
  rw [ht] at hanew hpwr hsamples hlast ⊢
  obtain ⟨r, j, f, l, hs⟩ := t.startUp_rest
  have hheld : t.startUp.pwr.inReset = held := by rw [hs, hpwr]
  unfold State.bit State.fld at hsamples ⊢
  dsimp only
  rw [t.reg_startUp (by decide), t.reg_startUp (by decide), t.reg_startUp (by decide), t.reg_startUp (by decide)]
  exact ⟨hanew, hheld, hsamples.1, hsamples.2.1, hsamples.2.2, hlast⟩

/-- A reset with its cause, which begins start-up. -/
theorem State.causedReset (cause : Nat) :
    let t := ((s.lastLoss cause 0).deviceReset st false false false).startUp
    s.Anew t ∧ t.reg PWR_LASTLOSS = BitVec.ofNat 32 (2 ^ 31 + cause) ∧ t.pwr.inReset = false ∧
    t.fld BOOT_STATUS BOOT_STATUS_MODE = st.mode.toNat ∧ t.bit LEAT_CFG LEAT_CFG_HWSEL = st.hwsel ∧
    t.bit TWIN_CFG TWIN_CFG_POS = st.posB := by
  have hlast : (s.lastLoss cause 0).reg PWR_LASTLOSS = BitVec.ofNat 32 (2 ^ 31 + cause) := by
    rw [State.lastLoss, State.reg_put_same, Nat.zero_mul, Nat.add_zero]
  have hout : (s.lastLoss cause 0).besideRegs = s.besideRegs := s.besideRegs_put _ _
  obtain ⟨u, hu⟩ : ∃ u, s.lastLoss cause 0 = u := ⟨_, rfl⟩
  rw [hu] at hlast hout ⊢
  obtain ⟨hanew, hheld, hmode, hhwsel, hpos, hloss⟩ := u.reset_startUp st false false false
  exact ⟨hanew.of_same hout, hloss.trans hlast, hheld,
    hmode, hhwsel, hpos⟩

end

section

variable {s : State} {st : Straps}

theorem resetNAssert_resets : s.Does (.resetNAssert st) fun t => s.Anew t ∧ t.reg PWR_LASTLOSS = 0x80000006 ∧
    t.pwr.inReset = false ∧ t.fld BOOT_STATUS BOOT_STATUS_MODE = st.mode.toNat ∧ t.bit LEAT_CFG LEAT_CFG_HWSEL = st.hwsel ∧
    t.bit TWIN_CFG TWIN_CFG_POS = st.posB :=
  ⟨_, rfl, s.causedReset st 6⟩

theorem bootRst_resets {q : Req} (hq : bootMay q = true) (ha : s.access q BOOT_CTL true = .ok) : s.Does (.bootRst q) fun t =>
    s.Anew t ∧ t.reg PWR_LASTLOSS = 0x80000007 ∧ t.pwr.inReset = false ∧
    t.fld BOOT_STATUS BOOT_STATUS_MODE = s.fld BOOT_STATUS BOOT_STATUS_MODE := by
  have he : exec (.bootRst q) s = .next (s.bootRst.answer .done) :=
    congrArg Host.Outcome.next ((State.guardWrite_ok _ ha).trans (by rw [if_pos hq]))
  have hstrap : s.straps.mode.toNat = s.fld BOOT_STATUS BOOT_STATUS_MODE :=
    (BitVec.toNat_ofNat _ _).trans (Nat.mod_eq_of_lt (Nat.mod_lt _ (by decide)))
  have hspec := s.causedReset s.straps 7
  rw [← State.bootRst] at hspec
  obtain ⟨t, ht⟩ : ∃ t, s.bootRst = t := ⟨_, rfl⟩
  rw [ht] at hspec he
  obtain ⟨hanew, hloss, hheld, hmode, -, -⟩ := hspec
  exact ⟨_, he, hanew.answer .done, hloss, hheld, hmode.trans hstrap⟩

/-- Rails, PFAIL_N and temperatures let go of a held reset (R641). -/
def State.mayRelease (s : State) (st : Straps) : Prop :=
  (s.pwr.inReset || s.bit PWR_STATUS PWR_STATUS_PFL) ∧ (∀ k : Fin 9, s.railGood k = true) ∧
    (st.ahi = true → s.railGood 9 = true ∧ s.railGood 10 = true) ∧ s.pwr.pfailN = true ∧ s.coolEnough = true

theorem powerOnRelease_releases (h : s.mayRelease st) :
    exec (.powerOnRelease st) s = .next (s.deviceReset st s.pwr.inReset false false).startUp := by
  obtain ⟨hheld, hrails, hahi, hpfail, hcool⟩ := h
  have hall : (List.range 9).all s.railGood = true := List.all_eq_true.mpr fun k hk => hrails ⟨k, List.mem_range.mp hk⟩
  have hvahi : (!st.ahi || (s.railGood 9 && s.railGood 10)) = true := by
    cases h : st.ahi with
    | false => rfl
    | true => obtain ⟨h9, h10⟩ := hahi h; rw [h9, h10]; rfl
  exact congrArg Host.Outcome.next (if_neg (by rw [hheld, hall, hvahi, hpfail, hcool]; decide))

theorem powerOnRelease_holds (h : ¬s.mayRelease st) : exec (.powerOnRelease st) s = .next s := by
  refine congrArg Host.Outcome.next (if_pos (by_contra fun hgo => h ?_))
  simp only [Bool.or_eq_true, Bool.not_eq_true', not_or, Bool.not_eq_false, Bool.and_eq_true] at hgo
  obtain ⟨⟨⟨hheld, hall, hvahi⟩, hpfail⟩, hcool⟩ := hgo
  refine ⟨(Bool.or_eq_true _ _).mpr hheld, fun k => List.all_eq_true.mp hall k (List.mem_range.mpr k.isLt), fun ha => ?_, hpfail, hcool⟩
  rcases hvahi with hvahi | hvahi
  · exact absurd (hvahi.symm.trans ha) Bool.false_ne_true
  · exact hvahi

theorem powerOnRelease_spec {_decidable : Decidable (s.mayRelease st)} : s.Does (.powerOnRelease st) fun t => if s.mayRelease st then
    s.Anew t ∧ t.pwr.inReset = false ∧ t.fld BOOT_STATUS BOOT_STATUS_MODE = st.mode.toNat else t = s := by
  by_cases h : s.mayRelease st
  · obtain ⟨hanew, hheld, hmode, -⟩ := s.reset_startUp st s.pwr.inReset false false
    refine ⟨_, powerOnRelease_releases h, ?_⟩
    beta_reduce
    rw [if_pos h]
    exact ⟨hanew, hheld, hmode⟩
  · refine ⟨_, powerOnRelease_holds h, ?_⟩
    beta_reduce
    rw [if_neg h]

/-- A reset that keeps domain 27 (R648) keeps its registers. -/
theorem State.reg_deviceReset_aon (s : State) (st : Straps) (sensors held : Bool) {a : Nat} (ha : a ∈ alwaysOnRegs) :
    (s.deviceReset st true sensors held).reg a = s.reg a := by
  have hlow : ∀ a ∈ alwaysOnRegs, a ∉ resetShows ∧ a < 0xF1000000 := by decide
  have hkeep : a ∈ resetKeeps true sensors := by
    unfold resetKeeps
    simp [ha]
  rw [State.reg_deviceReset _ _ _ _ _ (hlow a ha).1 (notCell_low (hlow a ha).2), if_pos hkeep]

/-- The device is awake (R648): it begins again at R641 with its reset held, and has kept the wake timer. -/
def State.Awake (s t : State) : Prop :=
  s.Anew t ∧ t.pwr.standby = false ∧ t.pwr.inReset = true ∧
    t.fld PWR_SBY PWR_SBY_TIMER = s.fld PWR_SBY PWR_SBY_TIMER ∧ t.health = []

theorem State.awake_deviceReset (s : State) (st : Straps) : s.Awake (s.deviceReset st true false true) := by
  have hpwr := s.pwr_deviceReset st true false true
  refine ⟨s.anew_deviceReset st true false true, by rw [hpwr]; rfl, by rw [hpwr], ?_, s.health_deviceReset st true false true⟩
  rw [State.fld, s.reg_deviceReset_aon st false true (by decide), State.fld]

theorem State.standbyWake_awake (h : s.pwr.pfailN = true) : s.standbyWake = s.deviceReset s.straps true false true :=
  if_neg (by rw [h]; decide)

theorem State.standbyWake_held (h : s.pwr.pfailN = false) : s.standbyWake = { s with pwr := { s.pwr with wakeHeld := true } } :=
  if_pos (by rw [h]; rfl)

theorem standbyTimerWake_wakes (hs : s.pwr.standby = true) (ht : s.fld PWR_SBY PWR_SBY_TIMER ≠ 0) : s.Does .standbyTimerWake fun t =>
    (s.pwr.pfailN = true → s.Awake t) ∧ (s.pwr.pfailN = false → t = { s with pwr := { s.pwr with wakeHeld := true } }) := by
  have he : exec .standbyTimerWake s = .next s.standbyWake := congrArg Host.Outcome.next (if_pos (by rw [hs, bne_iff_ne.mpr ht]; rfl))
  refine ⟨_, he, fun h => ?_, fun h => State.standbyWake_held h⟩
  rw [State.standbyWake_awake h]
  exact s.awake_deviceReset _

/-- The first wake pin is recorded (R480). -/
def State.wakePinSeen (s : State) (n : Nat) : State :=
  if s.bit PIN_WAKE PIN_WAKE_VALID then s else (s.flag PIN_WAKE PIN_WAKE_VALID).setF PIN_WAKE PIN_WAKE_PIN n

theorem State.wakePinSeen_rest (s : State) (n : Nat) : ∃ r, s.wakePinSeen n = { s with regs := r } := by
  unfold State.wakePinSeen
  split
  · exact ⟨s.regs, rfl⟩
  · exact ⟨_, rfl⟩

theorem State.wakePinSeen_spec (s : State) (n : Fin 256) :
    (s.wakePinSeen n).bit PIN_WAKE PIN_WAKE_VALID = true ∧
    (s.wakePinSeen n).fld PIN_WAKE PIN_WAKE_PIN = (if s.bit PIN_WAKE PIN_WAKE_VALID then s.fld PIN_WAKE PIN_WAKE_PIN else n.val) := by
  cases h : s.bit PIN_WAKE PIN_WAKE_VALID with
  | true =>
    rw [State.wakePinSeen, if_pos h]
    exact ⟨h, rfl⟩
  | false =>
    rw [State.wakePinSeen, if_neg (ne_true_of_eq_false h)]
    refine ⟨(State.bit_setF_apart _ _ _ _ rfl rfl).trans (s.bit_setF_one _ rfl), ?_⟩
    exact (State.fld_setF_same _ _ _ _ rfl).trans (Nat.mod_eq_of_lt n.isLt)

theorem State.reg_wakePinSeen (s : State) (n : Nat) {a : Nat} (ha : a ≠ PIN_WAKE) : (s.wakePinSeen n).reg a = s.reg a := by
  unfold State.wakePinSeen
  split
  · rfl
  · exact (State.reg_setF_other _ _ _ _ _ ha).trans (State.reg_setF_other _ _ _ _ _ ha)

theorem wakePin_wakes {n : Fin 256} (hs : s.pwr.standby = true) (hw : s.bit (PIN_CFG n) PIN_CFG_WAKE = true) :
    s.Does (.wakePin n) fun t =>
      (s.pwr.pfailN = true → s.Awake t) ∧ (s.pwr.pfailN = false → t.pwr.wakeHeld = true ∧ t.pwr.standby = true) ∧
      t.bit PIN_WAKE PIN_WAKE_VALID = true ∧
      t.fld PIN_WAKE PIN_WAKE_PIN = if s.bit PIN_WAKE PIN_WAKE_VALID then s.fld PIN_WAKE PIN_WAKE_PIN else n.val := by
  have he : exec (.wakePin n) s = .next (s.wakePinSeen n).standbyWake :=
    congrArg Host.Outcome.next (if_neg (by rw [hs, hw]; decide))
  have hspec := s.wakePinSeen_spec n
  have htimer := s.reg_wakePinSeen n (a := PWR_SBY) (by decide)
  obtain ⟨r, hr⟩ := s.wakePinSeen_rest n
  obtain ⟨u, hu⟩ : ∃ u, s.wakePinSeen n = u := ⟨_, rfl⟩
  rw [hu] at he hspec htimer hr
  refine ⟨_, he, ?_⟩
  have hpfail : u.pwr.pfailN = s.pwr.pfailN := by rw [hr]
  cases h : s.pwr.pfailN with
  | true =>
    rw [State.standbyWake_awake (hpfail.trans h)]
    obtain ⟨hanew, hstand, hheld, hkept, hhealth⟩ := u.awake_deviceReset u.straps
    have hpin := u.reg_deviceReset_aon u.straps false true (a := PIN_WAKE) (by decide)
    have hsame : u.besideRegs = s.besideRegs := by rw [hr]; rfl
    refine ⟨fun _ => ⟨hanew.of_same hsame, hstand, hheld, hkept.trans ?_, hhealth⟩, fun h => absurd h.symm Bool.false_ne_true, ?_⟩
    · rw [State.fld, htimer, State.fld]
    · unfold State.bit State.fld at hspec ⊢
      rw [hpin]
      exact hspec
  | false =>
    rw [State.standbyWake_held (hpfail.trans h)]
    exact ⟨fun h => absurd h Bool.false_ne_true, fun _ => ⟨rfl, by rw [hr]; exact hs⟩, hspec⟩

theorem temps_apart : ∀ k : Fin 12, PWR_TEMP k ∉ resetShows := by decide

theorem tshutReset_holds (h : s.pwr.tshut = true) : s.Does .tshutReset fun t =>
    s.Anew t ∧ t.pwr.inReset = true ∧ ∀ k : Fin 12, t.reg (PWR_TEMP k) = s.reg (PWR_TEMP k) := by
  have he : exec .tshutReset s = .next (s.deviceReset s.straps true true true) := congrArg Host.Outcome.next (if_pos h)
  refine ⟨_, he, s.anew_deviceReset _ _ _ _, by rw [State.pwr_deviceReset], fun k => ?_⟩
  have hkeep : PWR_TEMP k ∈ resetKeeps true true := by
    unfold resetKeeps
    exact List.mem_append_right _ (List.mem_map_of_mem (List.mem_range.mpr k.isLt))
  rw [State.reg_deviceReset _ _ _ _ _ (temps_apart k) (notCell_low (by unfold PWR_TEMP; omega)), if_pos hkeep]

end

end Sys2Proof.Machine

end

section

/-! SUPPORT. Entering STANDBY (R267, R647). -/

namespace Sys2Proof.Machine

/-! ### The word of PWR_SBY -/

theorem descOf_sby : ∃ r, descOf PWR_SBY = some r ∧ r.fields = [PWR_SBY_KEY, PWR_SBY_TIMER] := by
  have hdesc : (descOf PWR_SBY).map RegDesc.fields = some [PWR_SBY_KEY, PWR_SBY_TIMER] := by decide +kernel
  exact Option.map_eq_some_iff.mp hdesc

/-- A word with the key and no reserved bit is taken. -/
theorem State.regWrite_sby (s : State) (q : Req) {v : Word} (hkey : fieldGet PWR_SBY_KEY v = 0x5B) (hrsv : v &&& 0x00F00000 = 0) :
    ∃ w, s.regWrite q PWR_SBY v = s.put PWR_SBY w := by
  obtain ⟨r, hr, hf⟩ := descOf_sby
  have henc : reservedEncoding r.fields v = false := by
    rw [hf]
    have htimer : PWR_SBY_TIMER.rsv = [] := rfl
    simp only [reservedEncoding, List.any_cons, List.any_nil, hkey, htimer]
    decide
  have hrws : hasRws r.fields = false := by rw [hf]; rfl
  have hbits : (v &&& reservedBits r.fields) = 0 := by
    rw [hf]
    have hmask : reservedBits [PWR_SBY_KEY, PWR_SBY_TIMER] = 0x00F00000 := by decide
    rw [hmask, hrsv]
  rw [State.regWrite_eq s q v (by decide) hr, henc, State.rejectsRws, hrws, hbits, State.takesWord, hrws]
  exact ⟨_, rfl⟩

/-! ### What follows the drives and the cells -/

/-- Only registers of drives, comparator pairs and the state behind them have changed: no cell's status. -/
def State.celReg (u : Nat) (s : State) : Word := s.reg (CEL_STATUS u)

section

variable {u : Nat}

theorem State.celReg_setDrv (s : State) (n : Nat) (f : Field) (x : Nat) : (s.setF (DRV_STATUS n) f x).celReg u = s.celReg u :=
  State.reg_setF_other _ _ _ _ _ (drv_ne_cel n u).symm

theorem State.celReg_setWeir (s : State) (p : Nat) (f : Field) (x : Nat) : (s.setF (WEIR_STATUS p) f x).celReg u = s.celReg u :=
  State.reg_setF_other _ _ _ _ _ (cel_ne_weir u p)

theorem State.celReg_pairSync (s : State) (p : Nat) : (s.pairSync p).celReg u = s.celReg u := by
  unfold State.pairSync
  rw [State.celReg_setWeir, State.celReg_setWeir, State.celReg_setWeir, State.celReg_setWeir]

theorem State.celReg_drvSync (s : State) (n : Nat) : (s.drvSync n).celReg u = s.celReg u := by
  unfold State.drvSync
  extract_lets p g v w x
  have hv : v.celReg u = s.celReg u := by
    unfold v
    split
    · rfl
    · rfl
  rw [State.celReg_setDrv]
  exact ((w.celReg_setDrv _ _ _).trans (v.celReg_setDrv _ _ _)).trans hv

theorem State.celReg_blankEdge (s : State) (n : Nat) (rise : Bool) : (s.blankEdge n rise).celReg u = s.celReg u := by
  refine foldl_keeps (p := State.celReg u) (fun s k => ?_) _ s
  dsimp only
  split
  · exact State.celReg_pairSync _ _
  · rfl

theorem State.celReg_endShot (s : State) (n : Nat) : (s.endShot n).celReg u = s.celReg u := by
  unfold State.endShot
  split
  · rfl
  next x _ =>
    extract_lets _ v w y
    have hw : w.celReg u = v.celReg u := by
      unfold w
      split
      · exact v.celReg_blankEdge n false
      · rfl
    have hy : y.celReg u = w.celReg u := by
      unfold y
      split <;> rfl
    exact (y.celReg_drvSync n).trans (hy.trans hw)

theorem State.celReg_drvHiz (s : State) (n : Nat) : (s.drvHiz n).celReg u = s.celReg u := by
  unfold State.drvHiz
  split
  · exact s.celReg_endShot n
  · exact s.celReg_drvSync n

end

/-- What follows a change of the device's state: registers that show it, no release of a cell, no memory, no supplies. -/
structure State.Follows (s t : State) : Prop where
  keeps : s.Keeps t
  view : t.beyondFence 0 = s.beyondFence 0
  rel : ∀ u, t.bit (CEL_STATUS u) CEL_STATUS_REL = s.bit (CEL_STATUS u) CEL_STATUS_REL

theorem State.Follows.refl (s : State) : s.Follows s := ⟨.refl s, rfl, fun _ => rfl⟩

theorem State.Follows.trans {s t u : State} (h : s.Follows t) (h' : t.Follows u) : s.Follows u :=
  ⟨h.keeps.trans h'.keeps, h'.view.trans h.view, fun n => (h'.rel n).trans (h.rel n)⟩

theorem State.Follows.foldl {f : State → Nat → State} (hf : ∀ (s : State) n, s.Follows (f s n)) (l : List Nat) (s : State) :
    s.Follows (l.foldl f s) := by
  induction l generalizing s with
  | nil => exact .refl s
  | cons n l ih => exact (hf s n).trans (ih _)

theorem State.Follows.refreshCell (s : State) (u : Nat) : s.Follows (s.refreshCell u) := by
  refine ⟨.refreshCell s u, s.beyondFence_refreshCell u, fun n => ?_⟩
  unfold State.refreshCell
  refine foldl_keeps (p := fun t => t.bit (CEL_STATUS n) CEL_STATUS_REL) (fun t m => ?_) _ s
  refine (State.bit_setF_apart _ _ _ _ rfl rfl).trans ?_
  unfold State.dacFollow
  extract_lets c d
  split <;> rfl

theorem State.Follows.drvHiz (s : State) (n : Nat) : s.Follows (s.drvHiz n) := by
  have hrel (u : Nat) : (s.drvHiz n).bit (CEL_STATUS u) CEL_STATUS_REL = s.bit (CEL_STATUS u) CEL_STATUS_REL := by
    have hreg : (s.drvHiz n).reg (CEL_STATUS u) = s.reg (CEL_STATUS u) := s.celReg_drvHiz n
    rw [State.bit, State.fld, hreg, State.bit, State.fld]
  have hkeeps : s.Keeps (s.drvHiz n) := by
    unfold State.drvHiz
    split
    · exact .endShot s n
    · exact .drvSync s n
  have hview : (s.drvHiz n).beyondFence 0 = s.beyondFence 0 := by
    unfold State.drvHiz
    split
    · exact s.beyondFence_endShot n
    · exact s.beyondFence_drvSync n
  exact ⟨hkeeps, hview, hrel⟩

/-! ### The references (R267) -/

/-- A register that is neither the die's reference nor an Eddy slice's state, the memory and the supplies. -/
def State.besideRef (a : Nat) (s : State) : Word × Mem × Pwr := (s.reg a, s.mem, s.pwr)

theorem State.besideRef_put (s : State) {a k : Nat} (h : a ≠ k) (v : Word) : (s.put k v).besideRef a = s.besideRef a := by
  unfold State.besideRef
  rw [State.reg_put_other _ _ _ _ h]
  rfl

theorem State.besideRef_setF (s : State) {a k : Nat} (h : a ≠ k) (f : Field) (x : Nat) :
    (s.setF k f x).besideRef a = s.besideRef a := s.besideRef_put h _

theorem State.besideRef_setGroup (s : State) (a g : Nat) (x : Group) : (s.setGroup g x).besideRef a = s.besideRef a := rfl

theorem State.besideRef_refRdy (s : State) {a d : Nat} (hd : a ≠ CVG_REF d) (hg : ∀ g, a ≠ CVG_EDDY g) (refB ready : Bool) :
    (s.refRdy d refB ready).besideRef a = s.besideRef a := by
  have hstep (t : State) (g x : Nat) : (t.eddyState g x).besideRef a = t.besideRef a := t.besideRef_setF (hg g) _ _
  unfold State.refRdy
  refine (foldl_keeps (p := State.besideRef a) (fun t k => ?_) _ _).trans (s.besideRef_setF hd _ _)
  extract_lets g x mark u e
  have hu : u.besideRef a = t.besideRef a := t.besideRef_setGroup a g _
  split
  · rfl
  · split
    · exact hu
    · split
      · split
        · exact (hstep u g 1).trans hu
        · exact hu
      · exact (hstep u g 3).trans hu

/-- The references of a die are switched off. -/
def State.refOff (s : State) (d : Nat) : State :=
  ((s.refRdy d false false).refRdy d true false).put (CVG_REF d) (s.reg (CVG_REF d) &&& ~~~ 0xF#32)

theorem State.refsOff_eq (s : State) : s.refsOff = (s.refOff 0).refOff 1 := rfl

theorem State.besideRef_refOff (s : State) {a d : Nat} (hd : a ≠ CVG_REF d) (hg : ∀ g, a ≠ CVG_EDDY g) :
    (s.refOff d).besideRef a = s.besideRef a :=
  (State.besideRef_put _ hd _).trans ((State.besideRef_refRdy _ hd hg true false).trans (s.besideRef_refRdy hd hg false false))

theorem State.besideRef_refsOff (s : State) {a : Nat} (hd : ∀ d, a ≠ CVG_REF d) (hg : ∀ g, a ≠ CVG_EDDY g) :
    s.refsOff.besideRef a = s.besideRef a := by
  rw [State.refsOff_eq, State.besideRef_refOff _ (hd 1) hg, State.besideRef_refOff _ (hd 0) hg]

/-- The four low bits of a reference's register are off. -/
theorem fieldGet_refOff (w : Word) {f : Field} (hlo : f.lo < 4) (hw : fieldWidth f = 1) : fieldGet f (w &&& ~~~ 0xF#32) = 0 := by
  have hmask : ∀ i < 4, (0xF#32).getLsbD i = true := by decide
  have hbit : (w &&& ~~~ 0xF#32).toNat.testBit f.lo = false := by
    rw [BitVec.testBit_toNat, BitVec.getLsbD_and, BitVec.getLsbD_not, hmask f.lo hlo]
    simp
  rw [Nat.testBit_eq_decide_div_mod_eq, decide_eq_false_iff_not] at hbit
  rw [fieldGet, hw]
  omega

theorem ref_ne_eddy (d g : Nat) : CVG_REF d ≠ CVG_EDDY g := by
  unfold CVG_REF CVG_EDDY
  omega

theorem State.reg_refOff (s : State) (d : Nat) : (s.refOff d).reg (CVG_REF d) = s.reg (CVG_REF d) &&& ~~~ 0xF#32 :=
  State.reg_put_same _ _ _

theorem State.reg_refsOff (s : State) (e : Fin 2) : ∃ w, s.refsOff.reg (CVG_REF e) = w &&& ~~~ 0xF#32 := by
  rw [State.refsOff_eq]
  have h01 : CVG_REF 0 ≠ CVG_REF 1 := by decide
  match e with
  | 0 => exact ⟨_, (congrArg Prod.fst ((s.refOff 0).besideRef_refOff h01 (ref_ne_eddy 0))).trans (s.reg_refOff 0)⟩
  | 1 => exact ⟨_, (s.refOff 0).reg_refOff 1⟩

/-! ### The whole of the entry -/

/-- Nothing is released and the references are off (R267, R647), before line writes stop and STANDBY shows. -/
def State.standbyQuiet (s : State) : State :=
  let d := s.fld BOOT_SLUICE_STAT BOOT_SLUICE_STAT_DONE
  (s.setF BOOT_SLUICE_STAT BOOT_SLUICE_STAT_DONE (if bitOf d 1 then d - 2 else d)).cellsUnreleased.refsOff

/-- Outputs and balls follow the state STANDBY. -/
def State.standbyFollowed (s : State) : State := s.refreshCells.twinBalls

theorem State.standbyEnter_eq (s : State) : s.standbyEnter =
    ((s.standbyQuiet.nvmBegun.standbyShown).standbyFollowed.lastLoss 5 0).occur 0x814 := rfl

theorem State.Follows.standbyFollowed (s : State) : s.Follows s.standbyFollowed :=
  (State.Follows.foldl State.Follows.refreshCell _ s).trans (.foldl .drvHiz _ _)

theorem State.besideRegs_cellsUnreleased (s : State) : s.cellsUnreleased.besideRegs = s.besideRegs :=
  foldl_keeps (p := State.besideRegs) (fun t u => t.besideRegs_setF (CEL_STATUS u) CEL_STATUS_REL 0) _ s

theorem State.reg_cellsUnreleased (s : State) {a : Nat} (ha : ∀ u, a ≠ CEL_STATUS u) : s.cellsUnreleased.reg a = s.reg a := by
  have hstep (t : State) (u : Nat) : (t.setF (CEL_STATUS u) CEL_STATUS_REL 0).reg a = t.reg a := t.reg_setF_other _ _ _ _ (ha u)
  unfold State.cellsUnreleased
  exact foldl_keeps (p := fun t => t.reg a) (f := fun s u => s.setF (CEL_STATUS u) CEL_STATUS_REL 0) hstep _ s

theorem State.rel_cellsUnreleased (s : State) (u : Fin 512) :
    s.cellsUnreleased.bit (CEL_STATUS u) CEL_STATUS_REL = false := by
  have hzero (t : State) : (t.setF (CEL_STATUS u) CEL_STATUS_REL 0).bit (CEL_STATUS u) CEL_STATUS_REL = false := by
    rw [State.bit, State.fld_setF_same _ _ _ _ rfl]
    rfl
  unfold State.cellsUnreleased
  refine foldl_reaches (P := fun t => t.bit (CEL_STATUS u) CEL_STATUS_REL = false)
    (f := fun s u => s.setF (CEL_STATUS u) CEL_STATUS_REL 0) hzero (fun t v ht => ?_) (List.mem_range.mpr u.isLt) s
  by_cases hv : CEL_STATUS u = CEL_STATUS v
  · rw [← celStatus_injective hv]
    exact hzero t
  · rw [State.bit, State.fld_setF_other _ _ _ _ _ _ hv]
    exact ht

/-- What the entry to STANDBY leaves before line writes stop. -/
structure State.Quiet (s t : State) : Prop where
  mem : t.mem = s.mem
  pwr : t.pwr = s.pwr
  halves : t.reg NVM_STATUS = s.reg NVM_STATUS
  rel : ∀ u : Fin 512, t.bit (CEL_STATUS u) CEL_STATUS_REL = false
  refs : ∀ e : Fin 2, ∃ w, t.reg (CVG_REF e) = w &&& ~~~ 0xF#32

theorem State.standbyQuiet_quiet (s : State) : s.Quiet s.standbyQuiet := by
  obtain ⟨u, hu⟩ : ∃ u, s.setF BOOT_SLUICE_STAT BOOT_SLUICE_STAT_DONE
      (if bitOf (s.fld BOOT_SLUICE_STAT BOOT_SLUICE_STAT_DONE) 1 then s.fld BOOT_SLUICE_STAT BOOT_SLUICE_STAT_DONE - 2
        else s.fld BOOT_SLUICE_STAT BOOT_SLUICE_STAT_DONE) = u := ⟨_, rfl⟩
  have hrest : u.besideRegs = s.besideRegs := hu ▸ s.besideRegs_setF _ _ _
  have hhalves : u.reg NVM_STATUS = s.reg NVM_STATUS := hu ▸ s.reg_setF_other _ _ _ _ (by decide)
  have hcells := u.besideRegs_cellsUnreleased.trans hrest
  have hhalves' : u.cellsUnreleased.reg NVM_STATUS = u.reg NVM_STATUS :=
    u.reg_cellsUnreleased fun n => by unfold NVM_STATUS CEL_STATUS; omega
  have hrel := u.rel_cellsUnreleased
  have hquiet : s.standbyQuiet = u.cellsUnreleased.refsOff := by rw [← hu, State.standbyQuiet]
  obtain ⟨v, hv⟩ : ∃ v, u.cellsUnreleased = v := ⟨_, rfl⟩
  rw [hv] at hcells hhalves' hrel hquiet
  have hlow {a : Nat} (hd : ∀ d, a ≠ CVG_REF d) (hg : ∀ g, a ≠ CVG_EDDY g) := v.besideRef_refsOff hd hg
  have hnvm := hlow (a := NVM_STATUS) (fun d => by unfold NVM_STATUS CVG_REF; omega) fun g => by unfold NVM_STATUS CVG_EDDY; omega
  rw [hquiet]
  refine ⟨?_, ?_, ?_, fun n => ?_, v.reg_refsOff⟩
  · exact (congrArg (fun x => x.2.1) hnvm).trans (congrArg State.mem (State.eq_of_besideRegs hcells))
  · exact (congrArg (fun x => x.2.2) hnvm).trans (congrArg State.pwr (State.eq_of_besideRegs hcells))
  · exact (congrArg Prod.fst hnvm).trans (hhalves'.trans hhalves)
  · have hcel := hlow (a := CEL_STATUS n) (fun d => by unfold CEL_STATUS CVG_REF; omega) fun g => by
      unfold CEL_STATUS CVG_EDDY; omega
    have hreg : v.refsOff.reg (CEL_STATUS n) = v.reg (CEL_STATUS n) := congrArg Prod.fst hcel
    rw [State.bit, State.fld, hreg]
    exact hrel n

/-- Which line write a half has under way is read in the queue and in the halves' failures. -/
theorem State.nvmFront_congr {s t : State} (hmem : t.mem = s.mem) (hreg : t.reg NVM_STATUS = s.reg NVM_STATUS) (h : Nat) :
    t.nvmFront h = s.nvmFront h := by
  have hhalf (k : Nat) : t.halfFailed k = s.halfFailed k := by
    unfold State.halfFailed State.bit State.fld
    rw [hreg]
  unfold State.nvmFront State.nvmOn State.nvmServing
  simp only [hmem, hhalf]

theorem not_shown_ref (d : Nat) : ¬Shown (CVG_REF d) := by
  rintro ⟨n, h⟩
  simp only [CVG_REF, DRV_STATUS, CEL_STATUS, WEIR_STATUS, INST_STATE, INST_HELD] at h
  omega

/-- In STANDBY (R267, R647). -/
structure State.InStandby (s t : State) : Prop where
  standby : t.pwr.standby = true
  shown : t.fld PWR_STATUS PWR_STATUS_STATE = 2
  cause : t.reg PWR_LASTLOSS = 0x80000005
  rel : ∀ u : Fin 512, t.bit (CEL_STATUS u) CEL_STATUS_REL = false
  refs : ∀ e : Fin 2, ∃ w, t.reg (CVG_REF e) = w &&& ~~~ 0xF#32
  writes : ∀ w ∈ t.mem.nvmQ, s.nvmFront 0 = some w ∨ s.nvmFront 1 = some w
  bytes : t.mem.bytes = s.mem.bytes

theorem State.standbyEnter_inStandby (s : State) : s.InStandby s.standbyEnter := by
  have hq := s.standbyQuiet_quiet
  rw [State.standbyEnter_eq]
  obtain ⟨u, hu⟩ : ∃ u, s.standbyQuiet = u := ⟨_, rfl⟩
  rw [hu] at hq ⊢
  obtain ⟨v, hv⟩ : ∃ v, u.nvmBegun.standbyShown = v := ⟨_, rfl⟩
  have hf := State.Follows.standbyFollowed v
  have hreg {a : Nat} (ha : a ≠ PWR_STATUS) : v.reg a = u.reg a := by
    rw [← hv]
    exact State.reg_setF_other _ _ _ _ _ ha
  have hvmem : v.mem = u.nvmBegun.mem := by rw [← hv]; rfl
  have hvpwr : v.pwr.standby = true := by rw [← hv]; rfl
  have hshown : v.fld PWR_STATUS PWR_STATUS_STATE = 2 := by
    rw [← hv]
    exact State.fld_setF_same _ _ _ _ rfl
  rw [hv]
  obtain ⟨w, hw⟩ : ∃ w, v.standbyFollowed = w := ⟨_, rfl⟩
  rw [hw] at hf ⊢
  have hview := hf.view
  simp only [State.beyondFence, Prod.mk.injEq] at hview
  obtain ⟨-, hmem, -, -, hpwr, -⟩ := hview
  obtain ⟨x, hx⟩ : ∃ x, w.lastLoss 5 0 = x := ⟨_, rfl⟩
  have hlast {a : Nat} (ha : a ≠ PWR_LASTLOSS) : x.reg a = w.reg a := by
    rw [← hx, State.lastLoss, State.reg_put_other _ _ _ _ ha]
  have hloss : x.reg PWR_LASTLOSS = 0x80000005 := by
    rw [← hx, State.lastLoss, State.reg_put_same]
    decide
  have hxrest : x.besideRegs = w.besideRegs := by rw [← hx, State.lastLoss, State.besideRegs_put]
  have hxmem : x.mem = u.nvmBegun.mem := (congrArg State.mem (State.eq_of_besideRegs hxrest)).trans (hmem.trans hvmem)
  have hxpwr : x.pwr.standby = true := by
    rw [State.eq_of_besideRegs hxrest, hpwr]
    exact hvpwr
  rw [hx]
  have hwreg {a : Nat} (ha : ¬Shown a) (hl : a ≠ PWR_LASTLOSS) : x.reg a = v.reg a := (hlast hl).trans (hf.keeps.regs a ha)
  refine ⟨hxpwr, ?_, hloss, fun n => ?_, fun e => ?_, fun y hy => ?_, ?_⟩
  · rw [State.fld_occur, State.fld, hwreg (not_shown_low (by decide)) (by decide)]
    exact hshown
  · have hcel : x.reg (CEL_STATUS n) = w.reg (CEL_STATUS n) := hlast (by unfold CEL_STATUS PWR_LASTLOSS; omega)
    have hcel' : v.reg (CEL_STATUS n) = u.reg (CEL_STATUS n) := hreg (by unfold CEL_STATUS PWR_STATUS; omega)
    rw [State.bit, State.fld_occur, State.fld, hcel]
    refine (hf.rel n).trans ?_
    rw [State.bit, State.fld, hcel']
    exact hq.rel n
  · obtain ⟨r, hr⟩ := hq.refs e
    refine ⟨r, ?_⟩
    rw [State.reg_occur, hwreg (not_shown_ref e) (by unfold CVG_REF PWR_LASTLOSS; omega),
      hreg (by unfold CVG_REF PWR_STATUS; omega), hr]
  · have hy' : y ∈ u.nvmBegun.mem.nvmQ := by rw [← hxmem]; exact hy
    have hbegun : [u.nvmFront 0, u.nvmFront 1].contains (some y) = true := (List.mem_filter.mp hy').2
    rw [State.nvmFront_congr hq.mem hq.halves, State.nvmFront_congr hq.mem hq.halves] at hbegun
    simp only [List.contains_cons, List.contains_nil, Bool.or_false, Bool.or_eq_true, beq_iff_eq] at hbegun
    exact hbegun.imp Eq.symm Eq.symm
  · have hbegun : u.nvmBegun.mem.bytes = u.mem.bytes := rfl
    exact (congrArg Mem.bytes hxmem).trans (hbegun.trans (congrArg Mem.bytes hq.mem))

end Sys2Proof.Machine

end

section

/-! SUPPORT. ENTER_STANDBY (R647). -/

namespace Sys2Proof.Machine

/-- A request for STANDBY is refused with a result, and nothing else changes. -/
def State.SbyRefused (s t : State) (r : Nat) : Prop :=
  t.fld PWR_SBY_STAT PWR_SBY_STAT_RESULT = r ∧ s.RegsBut t [PWR_SBY, PWR_SBY_STAT] ∧
    t = { s with regs := t.regs, irq := (s.occur 0x814).irq, reply := .done }

/-- The result of a request that does not lead to STANDBY. -/
def State.sbyResult (s : State) (r : Nat) : State := (s.setF PWR_SBY_STAT PWR_SBY_STAT_RESULT r).occur 0x814

/-- What a request with the key does once its word stands in PWR_SBY. -/
def State.sbyActs (s : State) : State :=
  if (s.mstate = mMember ∨ s.mstate = mLeaving) ∧ !s.fenced then s.sbyResult 1
  else if s.bit PWR_STATUS PWR_STATUS_PFL then s.sbyResult 2
  else s.standbyEnter

section

variable {s : State} {q : Req} {v w : Word}

theorem enterStandby_acts (hq : q = .sup ∨ q = .host) (ha : s.access q PWR_SBY true = .ok) (hkey : fieldGet PWR_SBY_KEY v = 0x5B)
    (hrsv : v &&& 0x00F00000 = 0) : ∃ w, exec (.enterStandby q v) s = .next ((s.put PWR_SBY w).sbyActs.answer .done) := by
  obtain ⟨w, hw⟩ := s.regWrite_sby q hkey hrsv
  have hreq : (q == .sup || q == .host) = true := by rcases hq with rfl | rfl <;> rfl
  have hgo : ¬(fieldGet PWR_SBY_KEY v ≠ 0x5B ∨ (!(q == .sup || q == .host)) = true) := by
    rw [hkey, hreq]
    decide
  refine ⟨w, congrArg Host.Outcome.next ((State.guardWrite_ok _ ha).trans ?_)⟩
  rw [State.sbyWrite, if_neg hgo, hw]
  rfl

theorem State.sbyResult_refused (w : Word) {r : Nat} (hr : r < 256) :
    s.SbyRefused (((s.put PWR_SBY w).sbyResult r).answer .done) r := by
  refine ⟨(State.fld_setF_same _ _ _ _ rfl).trans (Nat.mod_eq_of_lt hr), fun a ha => ?_, rfl⟩
  obtain ⟨hsby, hstat⟩ := not_or.mp (mt List.mem_cons.mpr ha)
  exact (State.reg_setF_other _ _ _ _ _ (List.ne_of_not_mem_cons hstat)).trans (s.reg_put_other _ _ w hsby)

theorem State.inStandby_put (w : Word) : s.InStandby (s.put PWR_SBY w).standbyEnter := by
  have h := (s.put PWR_SBY w).standbyEnter_inStandby
  have hmem : (s.put PWR_SBY w).mem = s.mem := rfl
  have hfront (k : Nat) : (s.put PWR_SBY w).nvmFront k = s.nvmFront k :=
    State.nvmFront_congr hmem (s.reg_put_other _ _ w (by decide)) k
  obtain ⟨hstandby, hshown, hcause, hrel, hrefs, hwrites, hbytes⟩ := h
  refine ⟨hstandby, hshown, hcause, hrel, hrefs, fun y hy => ?_, hbytes.trans (congrArg Mem.bytes hmem)⟩
  rw [← hfront 0, ← hfront 1]
  exact hwrites y hy

/-- A request for STANDBY is refused, or ends in STANDBY. -/
theorem enterStandby_enters (hq : q = .sup ∨ q = .host)
    (ha : s.access q PWR_SBY true = .ok) (hkey : fieldGet PWR_SBY_KEY v = 0x5B) (hrsv : v &&& 0x00F00000 = 0) :
    s.Does (.enterStandby q v) fun t =>
      ((s.mstate = mMember ∨ s.mstate = mLeaving) ∧ s.fenced = false → s.SbyRefused t 1) ∧
      (¬((s.mstate = mMember ∨ s.mstate = mLeaving) ∧ s.fenced = false) →
        (s.bit PWR_STATUS PWR_STATUS_PFL = true → s.SbyRefused t 2) ∧ (s.bit PWR_STATUS PWR_STATUS_PFL = false → s.InStandby t)) := by
  obtain ⟨w, he⟩ := enterStandby_acts hq ha hkey hrsv
  have hmstate : (s.put PWR_SBY w).mstate = s.mstate := s.fld_put_other _ _ w _ (by decide)
  have hfenced : (s.put PWR_SBY w).fenced = s.fenced := s.bit_put_other w _ (by decide)
  have hpfl : (s.put PWR_SBY w).bit PWR_STATUS PWR_STATUS_PFL = s.bit PWR_STATUS PWR_STATUS_PFL := s.bit_put_other w _ (by decide)
  have hrefuses : (((s.put PWR_SBY w).mstate = mMember ∨ (s.put PWR_SBY w).mstate = mLeaving) ∧ (!(s.put PWR_SBY w).fenced) = true) ↔
      ((s.mstate = mMember ∨ s.mstate = mLeaving) ∧ s.fenced = false) := by
    rw [hmstate, hfenced, Bool.not_eq_true']
  refine ⟨_, he, fun hstate => ?_, fun hstate => ⟨fun h => ?_, fun h => ?_⟩⟩
  · have hacts : (s.put PWR_SBY w).sbyActs = (s.put PWR_SBY w).sbyResult 1 := if_pos (hrefuses.mpr hstate)
    rw [hacts]
    exact State.sbyResult_refused w (by decide)
  · have hacts : (s.put PWR_SBY w).sbyActs = (s.put PWR_SBY w).sbyResult 2 :=
      (if_neg (mt hrefuses.mp hstate)).trans (if_pos (hpfl.trans h))
    rw [hacts]
    exact State.sbyResult_refused w (by decide)
  · have hacts : (s.put PWR_SBY w).sbyActs = (s.put PWR_SBY w).standbyEnter :=
      (if_neg (mt hrefuses.mp hstate)).trans (if_neg (ne_true_of_eq_false (hpfl.trans h)))
    have hin := State.inStandby_put (s := s) w
    rw [hacts]
    obtain ⟨t, ht⟩ : ∃ t, (s.put PWR_SBY w).standbyEnter = t := ⟨_, rfl⟩
    rw [ht] at hin ⊢
    exact ⟨hin.standby, hin.shown, hin.cause, hin.rel, hin.refs, hin.writes, hin.bytes⟩

end

/-! ### The test access port (R612, R687, R688) -/

/-- The cells after a scan. -/
def tapLoad (t : Tbl Bool) (scan : List (Fin 791 × Bool)) : Tbl Bool :=
  scan.foldl (fun t x => tblSet (fun _ => false) t x.1.val x.2) t

/-- A scan leaves a cell that it does not name. -/
theorem tapLoad_other {b : Fin 791} (scan : List (Fin 791 × Bool)) (h : ∀ x ∈ scan, x.1 ≠ b) (t : Tbl Bool) :
    tblGet (fun _ => false) (tapLoad t scan) b = tblGet (fun _ => false) t b := by
  induction scan generalizing t with
  | nil => rfl
  | cons x l ih =>
    obtain ⟨hx, hl⟩ := List.forall_mem_cons.mp h
    exact (ih hl _).trans (tblGet_set_other _ t _ _ _ fun hb => hx (Fin.ext hb.symm))

/-- A scan that names each cell once loads the cells it names. -/
theorem tapLoad_named (scan : List (Fin 791 × Bool)) (hnd : (scan.map (·.1)).Nodup) {x : Fin 791 × Bool} (hx : x ∈ scan)
    (t : Tbl Bool) : tblGet (fun _ => false) (tapLoad t scan) x.1 = x.2 := by
  induction scan generalizing t with
  | nil => exact absurd hx List.not_mem_nil
  | cons y l ih =>
    obtain ⟨hy, hl⟩ := List.nodup_cons.mp hnd
    rcases List.mem_cons.mp hx with rfl | hx
    · have hother : ∀ z ∈ l, z.1 ≠ x.1 := fun z hz hzx => by
        have hmem := List.mem_map_of_mem (f := (·.1)) hz
        rw [hzx] at hmem
        exact hy hmem
      exact (tapLoad_other l hother _).trans (tblGet_set_same _ t _ _)
    · exact ih hl hx _

/-- The state after free values have been taken. -/
def State.withFree (s : State) (f : Nat) : State := { s with freeIx := f }

theorem State.tapSample_rest (s : State) (b : Nat) : ∃ f, (s.tapSample b).2 = s.withFree f := by
  unfold State.tapSample
  split
  · exact ⟨s.freeIx, rfl⟩
  · extract_lets known
    cases known with
    | some x => exact ⟨s.freeIx, rfl⟩
    | none => exact ⟨_, rfl⟩

theorem State.tapSample_pin (s : State) {b : Nat} (hb : b < 256) : (s.tapSample b).1 = s.pinIn b := by
  rw [State.tapSample, if_pos hb]

/-- The capture of the lowest n cells. -/
def State.tapCaptured (s : State) (n : Nat) : Nat × State :=
  (List.range n).foldl (fun x b => (x.1 + (x.2.tapSample b).1.toNat * 2 ^ b, (x.2.tapSample b).2)) (0, s)

theorem State.tapCaptured_succ (s : State) (n : Nat) : s.tapCaptured (n + 1) =
    ((s.tapCaptured n).1 + ((s.tapCaptured n).2.tapSample n).1.toNat * 2 ^ n, ((s.tapCaptured n).2.tapSample n).2) := by
  rw [State.tapCaptured, List.range_succ, List.foldl_append]
  rfl

/-- The captured cells hold the input levels of the pins. -/
theorem State.tapCaptured_spec (s : State) (n : Nat) : (s.tapCaptured n).1 < 2 ^ n ∧ (∃ f, (s.tapCaptured n).2 = s.withFree f) ∧
    ∀ b < 256, b < n → (s.tapCaptured n).1.testBit b = s.pinIn b := by
  induction n with
  | zero => exact ⟨Nat.one_pos, ⟨s.freeIx, rfl⟩, fun b _ h => absurd h (Nat.not_lt_zero b)⟩
  | succ n ih =>
    obtain ⟨hlt, ⟨f, hf⟩, hbits⟩ := ih
    rw [State.tapCaptured_succ, hf]
    obtain ⟨g, hg⟩ := (s.withFree f).tapSample_rest n
    refine ⟨?_, ⟨g, hg⟩, fun b hb hbn => ?_⟩
    · have hx := Bool.toNat_le ((s.withFree f).tapSample n).1
      have hmul := Nat.mul_le_mul_right (2 ^ n) hx
      rw [Nat.pow_succ]
      omega
    · dsimp only
      rw [Nat.add_comm, Nat.mul_comm, Nat.testBit_two_pow_mul_add _ hlt]
      split
      next h => exact hbits b hb h
      next h =>
        have hbn : b = n := by omega
        subst hbn
        rw [State.tapSample_pin _ hb, Nat.sub_self]
        have hpin : (s.withFree f).pinIn b = s.pinIn b := rfl
        rw [hpin]
        cases s.pinIn b <;> rfl

/-- Does an instruction load the boundary-scan register? -/
def tapLoads (ir : TapIr) : Bool := ir == .sample || ir == .extest

/-- The boundary-scan register after an instruction. -/
def State.tapCellsAfter (s : State) (ir : TapIr) (scan : List (Fin 791 × Bool)) : Tbl Bool :=
  if tapLoads ir then tapLoad s.tap.scan scan else s.tap.scan

/-- An instruction is active and has answered. -/
def State.tapScanned (s : State) (ir : TapIr) (cells : Tbl Bool) (v f : Nat) : State :=
  { s with tap := ⟨ir, cells, true⟩, reply := .value v, freeIx := f }

theorem State.tapShift_rest (s : State) (ir : TapIr) : ∃ f, (s.tapShift ir).2 = s.withFree f := by
  cases ir with
  | idcode => exact ⟨s.freeIx, rfl⟩
  | bypass => exact ⟨s.freeIx, rfl⟩
  | highz => exact ⟨s.freeIx, rfl⟩
  | sample => exact (s.tapCaptured_spec 791).2.1
  | extest => exact (s.tapCaptured_spec 791).2.1
  | debug => exact ⟨_, rfl⟩

theorem jtagExtest_eq (s : State) (ir : TapIr) (scan : List (Fin 791 × Bool)) : ∃ f, exec (.jtagExtest ir scan) s =
    .next (if s.tapActs ir = .extest ∨ s.tapActs ir = .highz
      then (s.tapScanned (s.tapActs ir) (s.tapCellsAfter (s.tapActs ir) scan) (s.tapShift (s.tapActs ir)).1 f).fence 0x14
      else s.tapScanned (s.tapActs ir) (s.tapCellsAfter (s.tapActs ir) scan) (s.tapShift (s.tapActs ir)).1 f) := by
  obtain ⟨f, hf⟩ := s.tapShift_rest (s.tapActs ir)
  have he : exec (.jtagExtest ir scan) s = execJtagExtest s ir scan := rfl
  refine ⟨f, he.trans ?_⟩
  unfold execJtagExtest
  dsimp only
  rw [hf]
  unfold State.tapScanned State.tapCellsAfter tapLoads tapLoad State.withFree State.answer
  dsimp only

theorem State.tapActs_eq (s : State) (ir : TapIr) :
    s.tapActs ir = if s.debugLock ∧ (ir = .extest ∨ ir = .highz ∨ ir = .debug) then TapIr.bypass else ir := by
  cases ir <;> cases h : s.debugLock <;> simp [State.tapActs, h]

/-- The scanned cells after an instruction that loads them. -/
theorem State.tapCellsAfter_loaded (s : State) {ir : TapIr} (h : ir = .sample ∨ ir = .extest) (scan : List (Fin 791 × Bool)) :
    s.tapCellsAfter ir scan = tapLoad s.tap.scan scan := by
  rcases h with rfl | rfl <;> rfl

theorem State.tapCellsAfter_kept (s : State) {ir : TapIr} (h : ¬(ir = .sample ∨ ir = .extest)) (scan : List (Fin 791 × Bool)) :
    s.tapCellsAfter ir scan = s.tap.scan := by
  obtain ⟨hs, he⟩ := not_or.mp h
  rw [State.tapCellsAfter, tapLoads, beq_false_of_ne hs, beq_false_of_ne he]
  rfl

/-- What an instruction answers. -/
theorem State.tapShift_loaded (s : State) {ir : TapIr} (h : ir = .sample ∨ ir = .extest) (b : Fin 256) :
    (s.tapShift ir).1 / 2 ^ b.val % 2 = (s.pinIn b).toNat := by
  have hcap : (s.tapShift ir).1 = (s.tapCaptured 791).1 := by rcases h with rfl | rfl <;> rfl
  have hbit := (s.tapCaptured_spec 791).2.2 b b.isLt (by omega)
  rw [hcap, ← hbit, Nat.toNat_testBit]

/-- What a fence leaves of the answer. -/
theorem State.tap_fence (s : State) (cause : Nat) : (s.fence cause).tap = s.tap ∧ (s.fence cause).reply = s.reply := by
  have hview := State.beyondFence_fence (k := 0) (by decide) s cause
  simp only [State.beyondFence, Prod.mk.injEq] at hview
  obtain ⟨-, -, -, -, -, htap, hreply, -⟩ := hview
  exact ⟨htap, hreply⟩

theorem State.fenced_tapScanned (s : State) (ir : TapIr) (cells : Tbl Bool) (v f : Nat) :
    (s.tapScanned ir cells v f).fenced = s.fenced := rfl

end Sys2Proof.Machine

end

section

/-! O13: resets, STANDBY and its wakes, the test access port (R587, R641, R647, R648, R661, R688). -/

namespace Sys2Proof.Machine

section

variable {s : State} {ir act : TapIr} {scan : List (Fin 791 × Bool)}

/-- What an instruction that has become active shows (R688): the TAP and the answer. -/
theorem State.tap_spec {t : State} (htap : t.tap = ⟨act, s.tapCellsAfter act scan, true⟩)
    (hreply : t.reply = .value (s.tapShift act).1) :
    t.tap.ir = act ∧ t.tap.tck = true ∧
    (act = .idcode → t.reply = .value 0x1512074D) ∧ (act = .bypass ∨ act = .highz → t.reply = .value 0) ∧
    (act = .sample ∨ act = .extest → ∃ v, t.reply = .value v ∧ ∀ b : Fin 256, v / 2 ^ b.val % 2 = (s.pinIn b).toNat) ∧
    (act = .sample ∨ act = .extest → (scan.map (·.1)).Nodup → ∀ b : Fin 791, tblGet (fun _ => false) t.tap.scan b =
      match scan.find? (fun x => x.1 == b) with | some x => x.2 | none => tblGet (fun _ => false) s.tap.scan b) ∧
    (¬(act = .sample ∨ act = .extest) → t.tap.scan = s.tap.scan) := by
  rw [htap, hreply]
  refine ⟨rfl, rfl, fun h => ?_, fun h => ?_, fun h => ⟨_, rfl, s.tapShift_loaded h⟩, fun h hnd b => ?_,
    fun h => s.tapCellsAfter_kept h scan⟩
  · rw [h]
    rfl
  · rcases h with rfl | rfl <;> rfl
  · dsimp only
    rw [s.tapCellsAfter_loaded h]
    split
    next x hx =>
      have hb : x.1 = b := by simpa using List.find?_some hx
      rw [← hb]
      exact tapLoad_named scan hnd (List.mem_of_find?_eq_some hx) _
    next hx =>
      have hne := List.find?_eq_none.mp hx
      exact tapLoad_other scan (fun x hm hb => hne x hm (by simp [hb])) _

/-- A fence of a fenced device by the TAP only shows one cause more (R98). -/
theorem State.tap_fenced {u : State} (hu : ∃ p r f, u = { s with tap := p, reply := r, freeIx := f }) (hf : s.fenced = true) :
    let t := u.fence 0x14
    t.bit ANG_FENCE ANG_FENCE_MORE = true ∧ t.fld ANG_FENCE ANG_FENCE_CAUSE = s.fld ANG_FENCE ANG_FENCE_CAUSE ∧
    s.RegsBut t [ANG_FENCE] ∧ t = { s with regs := t.regs, tap := t.tap, reply := t.reply, freeIx := t.freeIx } := by
  obtain ⟨p, r, f, rfl⟩ := hu
  have hagain := State.fence_again (s := { s with tap := p, reply := r, freeIx := f }) hf 0x14
  dsimp only
  rw [hagain]
  refine ⟨State.bit_setF_one _ _ rfl, State.fld_setF_apart _ _ _ _ _ rfl rfl, fun a ha => ?_, ?_⟩
  · exact State.reg_setF_other _ _ _ _ _ (List.ne_of_not_mem_cons ha)
  · rfl

theorem jtagExtest_acts (hact : s.tapActs ir = act) : s.Does (.jtagExtest ir scan) fun t =>
    t.tap.ir = act ∧ t.tap.tck = true ∧
    (act = .idcode → t.reply = .value 0x1512074D) ∧ (act = .bypass ∨ act = .highz → t.reply = .value 0) ∧
    (act = .sample ∨ act = .extest → ∃ v, t.reply = .value v ∧ ∀ b : Fin 256, v / 2 ^ b.val % 2 = (s.pinIn b).toNat) ∧
    (act = .sample ∨ act = .extest → (scan.map (·.1)).Nodup → ∀ b : Fin 791, tblGet (fun _ => false) t.tap.scan b =
      match scan.find? (fun x => x.1 == b) with | some x => x.2 | none => tblGet (fun _ => false) s.tap.scan b) ∧
    (¬(act = .sample ∨ act = .extest) → t.tap.scan = s.tap.scan) ∧
    (act ≠ .extest → act ≠ .highz → t = { s with tap := t.tap, reply := t.reply, freeIx := t.freeIx }) ∧
    (act = .extest ∨ act = .highz → s.fenced = false → t.FencedBy 0x14) ∧
    (act = .extest ∨ act = .highz → s.fenced = true → t.bit ANG_FENCE ANG_FENCE_MORE = true ∧
      t.fld ANG_FENCE ANG_FENCE_CAUSE = s.fld ANG_FENCE ANG_FENCE_CAUSE ∧ s.RegsBut t [ANG_FENCE] ∧
      t = { s with regs := t.regs, tap := t.tap, reply := t.reply, freeIx := t.freeIx }) := by
  obtain ⟨f, he⟩ := jtagExtest_eq s ir scan
  rw [hact] at he
  obtain ⟨u, hu⟩ : ∃ u, s.tapScanned act (s.tapCellsAfter act scan) (s.tapShift act).1 f = u := ⟨_, rfl⟩
  have htap : u.tap = ⟨act, s.tapCellsAfter act scan, true⟩ := by rw [← hu]; rfl
  have hreply : u.reply = .value (s.tapShift act).1 := by rw [← hu]; rfl
  have hfenced : u.fenced = s.fenced := by rw [← hu, State.fenced_tapScanned]
  have hrest : ∃ p r f, u = { s with tap := p, reply := r, freeIx := f } := ⟨_, _, _, hu.symm⟩
  rw [hu] at he
  refine ⟨_, he, ?_⟩
  by_cases h : act = .extest ∨ act = .highz
  · rw [if_pos h]
    obtain ⟨htap', hreply'⟩ := u.tap_fence 0x14
    obtain ⟨h1, h2, h3, h4, h5, h6, h7⟩ := State.tap_spec (s := s) (htap'.trans htap) (hreply'.trans hreply)
    exact ⟨h1, h2, h3, h4, h5, h6, h7, fun he hh => absurd h (not_or.mpr ⟨he, hh⟩),
      fun _ hf => State.fence_fencedBy (hfenced.trans hf) (by decide), fun _ hf => State.tap_fenced hrest hf⟩
  · rw [if_neg h]
    obtain ⟨h1, h2, h3, h4, h5, h6, h7⟩ := State.tap_spec (s := s) htap hreply
    obtain ⟨p, r, g, hg⟩ := hrest
    exact ⟨h1, h2, h3, h4, h5, h6, h7, fun _ _ => by rw [hg], fun hh => absurd hh h, fun hh => absurd hh h⟩

end

/-- Settles O13, command by command: resets and wakes begin anew (`State.Anew`), STANDBY is entered or refused
(`State.InStandby`, `State.SbyRefused`), and an instruction of the TAP acts on the TAP and may fence. -/
theorem resetsAndStandby : Obligations.ResetsAndStandby := by
  intro s q st n v
  refine ⟨resetNAssert_resets, bootRst_resets, powerOnRelease_spec, fun hq ha hkey hrsv => ?_, standbyTimerWake_wakes, wakePin_wakes,
    tshutReset_holds, fun ir scan => jtagExtest_acts (s.tapActs_eq ir)⟩
  obtain ⟨t, he, hstate, henters⟩ := enterStandby_enters hq ha hkey hrsv
  refine ⟨t, he, ?_⟩
  dsimp only
  split
  next h => exact hstate h
  next h =>
    obtain ⟨hpfail, hin⟩ := henters h
    split
    next h => exact hpfail h
    next h =>
      have hstandby := hin (eq_false_of_ne_true h)
      refine ⟨hstandby.standby, hstandby.shown, hstandby.cause, hstandby.rel, fun e => ?_, hstandby.writes, hstandby.bytes⟩
      obtain ⟨w, hw⟩ := hstandby.refs e
      unfold State.bit State.fld
      rw [hw, fieldGet_refOff w (by decide) rfl, fieldGet_refOff w (by decide) rfl, fieldGet_refOff w (by decide) rfl,
        fieldGet_refOff w (by decide) rfl]
      exact ⟨rfl, rfl, rfl, rfl⟩

end Sys2Proof.Machine

end

section
/-! SUPPORT. The registers of a window (R104-R106): which physical registers its codes name, and what a register, a pair
and a stamp read after a write. -/

namespace Sys2Proof.Machine

/-! ### The codes of a window -/

/-- Two codes of one window name two registers. -/
theorem physReg_inj {w r q : Nat} (hw : w < 16) (hr : r < 32) (hq : q < 32) (h : physReg w r = physReg w q) : r = q := by
  unfold physReg at h
  dsimp only at h
  split_ifs at h <;> omega

/-- The handoff registers of a window are the first eight windowed registers of the next. -/
theorem physReg_next {w j : Nat} (hw : w < 16) (hj : j < 8) : physReg ((w + 1) % 16) (8 + j) = physReg w (24 + j) := by
  have hback : ((w + 1) % 16 + 15) % 16 = w := by omega
  unfold physReg
  dsimp only
  rw [hback]
  split_ifs <;> omega

/-- A register that is one window's alone has no code in another. -/
theorem physReg_private {w v r q : Nat} (hr : 16 ≤ r ∧ r < 24) (hv : v ≠ w) (hq : q < 32) :
    physReg v q ≠ physReg w r := by
  intro h
  unfold physReg at h
  dsimp only at h
  split_ifs at h <;> omega

/-! ### Reads after writes -/

theorem Ctx.phys_setPhys (x : Ctx) (k j : Nat) (v : Word) : (x.setPhys k v).phys j = if j = k then v else x.phys j :=
  tblGet_set _ x.regs k j v

@[simp] theorem Ctx.rget_zero (x : Ctx) : x.rget 0 = 0 := rfl

@[simp] theorem Ctx.rset_zero (x : Ctx) (v : Word) : x.rset 0 v = x := rfl

theorem Ctx.rget_pos (x : Ctx) {r : Nat} (hr : r ≠ 0) : x.rget r = x.phys (physReg x.wix r) := if_neg hr

theorem Ctx.rset_pos (x : Ctx) {r : Nat} (hr : r ≠ 0) (v : Word) : x.rset r v = x.setPhys (physReg x.wix r) v := if_neg hr

@[simp] theorem Ctx.wix_rset (x : Ctx) (r : Nat) (v : Word) : (x.rset r v).wix = x.wix := by
  unfold Ctx.rset
  split <;> rfl

theorem Ctx.rget_rset_same (x : Ctx) {r : Nat} (hr : r ≠ 0) (v : Word) : (x.rset r v).rget r = v := by
  rw [Ctx.rget_pos _ hr, Ctx.wix_rset, Ctx.rset_pos x hr, Ctx.phys_setPhys, if_pos rfl]

theorem Ctx.rget_rset_other (x : Ctx) {r q : Nat} (hw : x.wix < 16) (hr : r < 32) (hq : q < 32) (hne : q ≠ r) (v : Word) :
    (x.rset r v).rget q = x.rget q := by
  by_cases hr0 : r = 0
  · rw [hr0, Ctx.rset_zero]
  by_cases hq0 : q = 0
  · rw [hq0]
    rfl
  rw [Ctx.rget_pos _ hq0, Ctx.wix_rset, Ctx.rset_pos x hr0, Ctx.phys_setPhys,
    if_neg fun h => hne (physReg_inj hw hq hr h), ← Ctx.rget_pos x hq0]

/-- The same register read in another window. -/
theorem Ctx.rget_inWindow (x : Ctx) (w : Nat) {r : Nat} (hr : r ≠ 0) : Ctx.rget { x with wix := w } r = x.phys (physReg w r) :=
  if_neg hr

/-! ### Pairs and stamps (R105) -/

theorem Ctx.rget_pset_high (x : Ctx) (p : Nat) (d : BitVec 64) : (x.pset p d).rget (p + 1) = d.extractLsb' 32 32 :=
  Ctx.rget_rset_same _ (Nat.succ_ne_zero p) _

theorem Ctx.rget_setStamp_gap (x : Ctx) (p : Nat) (a : Stamp) : ((x.setStamp p a).rget (p + 1)).extractLsb' 16 16 = 0 := by
  rw [Ctx.setStamp, x.rget_pset_high]
  ext i hi
  simp [BitVec.getLsbD_of_ge a (32 + (16 + i)) (by omega)]

section
variable (x : Ctx) {p : Nat} (hw : x.wix < 16) (hp : p + 1 < 32) (h0 : p ≠ 0)
include hw hp h0

theorem Ctx.rget_pset_low (d : BitVec 64) : (x.pset p d).rget p = d.extractLsb' 0 32 := by
  unfold Ctx.pset
  rw [Ctx.rget_rset_other _ (by rwa [Ctx.wix_rset]) hp (by omega) (by omega), Ctx.rget_rset_same x h0]

theorem Ctx.pget_pset (d : BitVec 64) : (x.pset p d).pget p = d := by
  rw [Ctx.pget, x.rget_pset_low hw hp h0, x.rget_pset_high]
  exact BitVec.extractLsb'_append_extractLsb'_eq_extractLsb' (by decide) |>.trans (BitVec.extractLsb'_eq_self)

theorem Ctx.stamp_setStamp (a : Stamp) : (x.setStamp p a).stamp p = a := by
  rw [Ctx.stamp, Ctx.setStamp, x.pget_pset hw hp h0]
  ext i hi
  simp [hi, show i < 64 by omega]

end

/-- Settles O8: the codes of a window name different registers (`physReg_inj`), and the windows meet only as R106 says. -/
theorem registerWindows : Obligations.RegisterWindows := by
  intro x v hw
  refine ⟨x.rget_zero, x.rset_zero v, fun r hr => ?readBack, fun j => ?handoff, fun r w => ?global, fun r hlo hhi w hne q => ?hidden,
    fun p hp h0 d => ?pair, fun p hp h0 a => ?stamp⟩
  case readBack =>
    have hr0 : r.val ≠ 0 := fun h => hr (Fin.ext h)
    exact ⟨x.rget_rset_same hr0 v, fun q hq => x.rget_rset_other hw r.isLt q.isLt (fun h => hq (Fin.ext h)) v⟩
  case handoff =>
    rw [x.rget_inWindow _ (by omega), physReg_next hw j.isLt, Ctx.rget_pos x (by omega)]
  case global =>
    have hcode : ∀ u, physReg u r = r := fun u => if_pos r.isLt
    by_cases h0 : r.val = 0
    · rw [h0]
      rfl
    · rw [x.rget_inWindow _ h0, Ctx.rget_pos x h0, hcode, hcode]
  case hidden =>
    by_cases h0 : q.val = 0
    · rw [h0]
      rfl
    · rw [Ctx.rget_inWindow _ _ h0, Ctx.rget_inWindow _ _ h0, Ctx.rset_pos x (by omega), Ctx.phys_setPhys,
        if_neg (physReg_private ⟨hlo, hhi⟩ hne q.isLt)]
  case pair =>
    have hp1 : p.val + 1 < 32 := by omega
    have hp0 : p.val ≠ 0 := fun h => h0 (Fin.ext h)
    exact ⟨x.rget_pset_low hw hp1 hp0 d, x.rget_pset_high p d, x.pget_pset hw hp1 hp0 d⟩
  case stamp =>
    have hp1 : p.val + 1 < 32 := by omega
    have hp0 : p.val ≠ 0 := fun h => h0 (Fin.ext h)
    exact ⟨x.stamp_setStamp hw hp1 hp0 a, x.rget_setStamp_gap p a⟩

end Sys2Proof.Machine

end

section

/-! SUPPORT. How traps are entered (R114, R116), the window instructions and the returns (R108, R109, R115, R118), interrupts,
machine checks and posted failures at a boundary (R113, R123, R129, R142). -/

namespace Sys2Proof.Machine

/-! ### The entry of a trap (R114, R116) -/

/-- CW_STATUS by its bits (Table 3.12). -/
theorem Ctx.status_eq (x : Ctx) (c : Nat) : x.status c = BitVec.ofNat 32 (x.ie.toNat + 2 * x.td.toNat + 4 * x.wt.toNat +
    8 * (c == 256).toNat + 16 * x.sovr.toNat + 32 * x.pserr.toNat + 64 * x.slate.toNat) := by
  unfold Ctx.status wordOfBits ctxSup
  simp only [List.foldr]
  congr 1
  omega

/-- A context that enters a trap at a trapping point. -/
def Ctx.trapped (x : Ctx) (c : Nat) (t : Trap) (pt : Word) : Ctx :=
  { x with
    tstatus := x.status c
    tpc := pt
    tcause := BitVec.ofNat 32 (t.sub * 256 + t.posted.toNat * 128 + t.cause)
    tval := (t.val.map fun v => v.extractLsb' 0 32).getD x.tval
    tvalh := (t.val.map fun v => v.extractLsb' 32 32).getD x.tvalh
    td := true
    ie := false
    wix := (x.wix + 1) % 16
    resident := x.resident + 1
    pc := x.tbase + BitVec.ofNat 32 (0x40 * t.cause) }

/-- A context that enters a window trap. -/
def Ctx.windowTrapped (x : Ctx) (cause : Nat) (pt : Word) : Ctx :=
  { x with
    wtpc := pt, wt := true, wcause := cause, wfrom := x.wix, wix := (x.wix + 1) % 16
    pc := x.tbase + BitVec.ofNat 32 (0x40 * cause) }

section
variable {s : State} {c : Nat}

theorem State.windowTrap_enters (hwt : (s.ctx c).wt = false) (k : Nat) (pt : Word) :
    s.windowTrap c k pt = s.setCtx c ((s.ctx c).windowTrapped k pt) := by
  exact if_neg (ne_true_of_eq_false hwt)

theorem State.trapEnter_enters (hwt : (s.ctx c).wt = false) (htd : (s.ctx c).td = false) (hres : (s.ctx c).resident ≠ 15)
    (t : Trap) (pt : Word) : s.trapEnter c t pt = (true, s.setCtx c ((s.ctx c).trapped c t pt)) := by
  unfold State.trapEnter
  dsimp only
  rw [if_neg (ne_true_of_eq_false hwt), if_neg (ne_true_of_eq_false htd), if_neg hres]
  obtain ⟨cause, sub, posted, val⟩ := t
  cases val <;> rfl

theorem State.trapEnter_full (hwt : (s.ctx c).wt = false) (htd : (s.ctx c).td = false) (hres : (s.ctx c).resident = 15)
    (t : Trap) (pt : Word) : s.trapEnter c t pt = (false, s.setCtx c ((s.ctx c).windowTrapped trOvf pt)) := by
  unfold State.trapEnter
  dsimp only
  rw [if_neg (ne_true_of_eq_false hwt), if_neg (ne_true_of_eq_false htd), if_pos hres, State.windowTrap_enters hwt]

end

section
variable {s : State} {c : Fin 257} {i : Instr} {t : Trap}

theorem State.Traps.ends (h : s.Traps c i t) (hwt : (s.ctx c).wt = false) (htd : (s.ctx c).td = false)
    (hres : (s.ctx c).resident ≠ 15) : s.Ends c i ((s.ctx c).trapped c t (s.ctx c).pc) := by
  have hx := s.fetched_ctx c c
  rw [State.Traps, State.trapEnter_enters (by rwa [hx]) (by rwa [hx]) (by rwa [hx]), hx] at h
  exact ⟨_, h, State.becomes_setCtx _ _ _⟩

theorem State.Traps.ends_full (h : s.Traps c i t) (hwt : (s.ctx c).wt = false) (htd : (s.ctx c).td = false)
    (hres : (s.ctx c).resident = 15) : s.Ends c i ((s.ctx c).windowTrapped trOvf (s.ctx c).pc) := by
  have hx := s.fetched_ctx c c
  rw [State.Traps, State.trapEnter_full (by rwa [hx]) (by rwa [hx]) (by rwa [hx]), hx] at h
  exact ⟨_, h, State.becomes_setCtx _ _ _⟩

end

/-- A word in CW_TVAL. -/
theorem word_low (w : Word) : (w.setWidth 64).extractLsb' 0 32 = w := by
  ext i hi
  simp [show i < 64 by omega, BitVec.getLsbD_eq_getElem hi]

theorem word_high (w : Word) : (w.setWidth 64).extractLsb' 32 32 = 0 := by
  ext i hi
  simp

/-- An illegal word traps with the word as its value. -/
theorem Ctx.trapped_illegal {x : Ctx} {c : Nat} {w : Word} (hwt : x.wt = false) (htd : x.td = false) :
    x.trapped c ⟨trIllegal, 0, false, some (w.setWidth 64)⟩ x.pc = { x with
      tstatus := BitVec.ofNat 32 (x.ie.toNat + 8 * (c == 256).toNat + 16 * x.sovr.toNat + 32 * x.pserr.toNat +
        64 * x.slate.toNat)
      tpc := x.pc, tcause := 1, tval := w, tvalh := 0, td := true, ie := false
      wix := (x.wix + 1) % 16, resident := x.resident + 1, pc := x.tbase + 0x40 } := by
  simp only [Ctx.trapped, Ctx.status_eq, hwt, htd, Option.map_some, Option.getD_some, word_low, word_high]
  rfl

/-- Settles O49: an illegal word raises ILLEGAL (`State.traps_illegal`), whose entry is R114's, or R116's with every window
in use. -/
theorem trapEntry : Obligations.TrapEntry := by
  intro s c w hr hl x
  have ht : s.Traps c (.illegalWord c w) ⟨trIllegal, 0, false, some (w.setWidth 64)⟩ :=
    State.traps_illegal (f := fun s => .illegal s w) hr hl (if_neg (ne_true_of_eq_false hl))
  refine ⟨fun hwt htd hres => ?_, fun hwt htd hres => ht.ends_full hwt htd hres⟩
  rw [← Ctx.trapped_illegal hwt htd]
  exact ht.ends hwt htd (Nat.ne_of_lt hres)

/-! ### The window instructions and the returns (R108, R109, R115, R118, R165) -/

/-- ENTER, LEAVE, RETT and RETW. -/
theorem legal_windowed (sup : Bool) {mn : Nat} (h : 2 ≤ mn ∧ mn ≤ 5) : legalWord sup (fmtS 0x28 0 0 0 mn 0) = true := by
  obtain rfl | rfl | rfl | rfl : mn = 2 ∨ mn = 3 ∨ mn = 4 ∨ mn = 5 := by omega
  all_goals simp [legalWord]

/-- Settles O48, instruction by instruction: the branch of its meaning, and how that branch settles (Laws/Issue). -/
theorem windowInstructions : Obligations.WindowInstructions := by
  intro s c hr x back
  have hx : (s.fetched c).ctx c = x := s.fetched_ctx c c
  have hl {mn : Nat} := legal_windowed (c.val == ctxSup) (mn := mn)
  refine ⟨fun h => ?enter, fun h => ?enterFull, fun h => ?leave, fun h => ?leaveLast, fun hwt h => ?rett, fun hwt h => ?rettLast,
    fun hwt => ?rettWindow, fun hwt => ?retw, fun hwt => ?retwOutside⟩
  case enter =>
    refine State.goesOn hr (hl (by decide)) rfl ?_
    dsimp only
    rw [hx, if_neg (Nat.ne_of_lt h)]
    rfl
  case enterFull =>
    refine State.windowTraps hr (hl (by decide)) rfl ?_
    dsimp only
    rw [hx, if_pos h]
  case leave =>
    refine State.goesOn hr (hl (by decide)) rfl ?_
    dsimp only
    rw [hx, if_neg (Nat.ne_of_gt h)]
    rfl
  case leaveLast =>
    refine State.windowTraps hr (hl (by decide)) rfl ?_
    dsimp only
    rw [hx, if_pos h]
  case rett =>
    refine State.endsAt (y := x.windowDown.setStatus x.tstatus) hr (hl (by decide)) rfl ?_
    dsimp only
    rw [hx, hwt, if_neg (by decide), if_neg (Nat.ne_of_gt h)]
  case rettLast =>
    refine State.windowTraps hr (hl (by decide)) rfl ?_
    dsimp only
    rw [hx, hwt, if_neg (by decide), if_pos h]
  case rettWindow =>
    refine State.traps hr (hl (by decide)) rfl ?_
    dsimp only
    rw [hx, hwt]
    rfl
  case retw =>
    refine State.endsAt (y := { x with wt := false, wix := x.wfrom }) hr (hl (by decide)) rfl ?_
    dsimp only
    rw [hx, hwt, if_neg (by decide)]
  case retwOutside =>
    refine State.traps hr (hl (by decide)) rfl ?_
    dsimp only
    rw [hx, hwt]
    rfl

/-! ### Interrupts, machine checks and posted failures (R113, R123, R129, R142) -/

section
variable (s : State) (c : Nat)

theorem State.ctx_endWait (d : Nat) :
    (s.endWait c).ctx d = if d = c then { s.ctx c with stall := .none } else s.ctx d := State.ctx_setCtx _ c d _

theorem State.byteAt_setCtxState (x k : Nat) : (s.setCtxState c x).byteAt k = s.byteAt k := by
  unfold State.setCtxState
  split <;> rfl

theorem State.mchk_setCtxState (x : Nat) : (s.setCtxState c x).mchk = s.mchk := by
  unfold State.setCtxState
  split <;> rfl

/-- A context that waits in RUN for nothing more. -/
def State.waitEnded : State := (s.endWait c).setCtxState c ctxRun

theorem State.ctx_waitEnded (d : Nat) :
    (s.waitEnded c).ctx d = if d = c then { s.ctx c with stall := .none } else s.ctx d := by
  rw [State.waitEnded, State.ctx_setCtxState, State.ctx_endWait]

theorem State.ctx_waitEnded_same : (s.waitEnded c).ctx c = { s.ctx c with stall := .none } := by
  rw [State.ctx_waitEnded, if_pos rfl]

theorem State.stq_waitEnded : (s.waitEnded c).stq = s.stq.filter fun o => !(o.kind == kindWait && o.index == c) := by
  rw [State.waitEnded, State.stq_setCtxState]
  rfl

theorem State.byteAt_waitEnded (k : Nat) : (s.waitEnded c).byteAt k = s.byteAt k := by
  rw [State.waitEnded, State.byteAt_setCtxState]
  rfl

theorem State.checkDue_waitEnded : (s.waitEnded c).checkDue c = s.checkDue c := by
  rw [State.checkDue, State.ctx_waitEnded_same, State.waitEnded, State.mchk_setCtxState]
  rfl

end

/-- A context that may take an interrupt takes it, its wait ended. -/
theorem exec_takeInterrupt {s : State} {c : Fin 257} (hstate : s.ctxState c = 1 ∨ s.ctxState c = 2)
    (hmem : (s.ctx c).stall.isMem = false) (hhalt : s.halted 1 = false) (hdue : s.irqDue c = true)
    (hcheck : s.checkDue c = false) (hpost : (s.ctx c).postFail = none) :
    exec (.takeInterrupt c) s = .next ((s.waitEnded c).takeIrq c) := by
  have hst : (s.ctxState c.val == ctxRun || s.ctxState c.val == ctxWait) = true := by
    rcases hstate with h | h <;> rw [h] <;> rfl
  have he : exec (.takeInterrupt c) s = execTakeInterrupt c s := rfl
  rw [he, execTakeInterrupt]
  dsimp only
  rw [hst, hmem, hhalt, hdue]
  change (if (s.waitEnded c).checkDue c then _ else _) = _
  rw [State.checkDue_waitEnded, hcheck, hpost]
  rfl

theorem exec_takeInterrupt_none {s : State} {c : Fin 257} (h : s.irqDue c = false) : exec (.takeInterrupt c) s = .next s := by
  have he : exec (.takeInterrupt c) s = execTakeInterrupt c s := rfl
  rw [he, execTakeInterrupt]
  dsimp only
  rw [h, Bool.and_false, if_neg (by decide)]

theorem irqDue_false {s : State} {c : Nat} (h : (s.ctx c).ie = false ∨ (s.ctx c).wt = true) : s.irqDue c = false := by
  rw [State.irqDue]
  rcases h with h | h <;> simp [h]

section
variable {s : State} {c : Nat}

/-- A posted failure that is taken is pending no more (R129). -/
theorem State.takePosted_enters {a sub : Nat} (hp : (s.ctx c).postFail = some (a, sub)) (hwt : (s.ctx c).wt = false)
    (htd : (s.ctx c).td = false) (hres : (s.ctx c).resident ≠ 15) :
    s.takePosted c = (s.setCtx c ((s.ctx c).trapped c ⟨trBuserr, sub, true, some (BitVec.ofNat 64 a)⟩ (s.ctx c).pc)).setCtx c
      { (s.ctx c).trapped c ⟨trBuserr, sub, true, some (BitVec.ofNat 64 a)⟩ (s.ctx c).pc with postFail := none } := by
  unfold State.takePosted
  rw [hp]
  dsimp only
  rw [State.trapEnter_enters hwt htd hres, hwt, htd]
  dsimp only
  rw [State.ctx_setCtx_same]
  rfl

theorem State.takeCheck_enters (hwt : (s.ctx ctxSup).wt = false) (htd : (s.ctx ctxSup).td = false)
    (hres : (s.ctx ctxSup).resident ≠ 15) :
    s.takeCheck = { s.setCtx ctxSup ((s.ctx ctxSup).trapped ctxSup ⟨trMcheck, 0, false, none⟩ (s.ctx ctxSup).pc) with mchk := false } := by
  unfold State.takeCheck
  rw [State.trapEnter_enters hwt htd hres]
  rfl

end

theorem extract_low_ofNat (a : Nat) : (BitVec.ofNat 64 a).extractLsb' 0 32 = BitVec.ofNat 32 a := by
  apply BitVec.eq_of_toNat_eq
  simp only [BitVec.extractLsb'_toNat, BitVec.toNat_ofNat, Nat.shiftRight_zero]
  omega

theorem extract_high_ofNat (a : Nat) : (BitVec.ofNat 64 a).extractLsb' 32 32 = BitVec.ofNat 32 (a / 2 ^ 32) := by
  apply BitVec.eq_of_toNat_eq
  simp only [BitVec.extractLsb'_toNat, BitVec.toNat_ofNat, Nat.shiftRight_eq_div_pow]
  omega

/-- Settles O50: what is taken at a boundary, and that its entry is R114's. -/
theorem interruptsAndChecks : Obligations.InterruptsAndChecks := by
  refine ⟨?interrupt, fun s c h => exec_takeInterrupt_none (irqDue_false h), ?check, ?posted⟩
  case interrupt =>
    intro s c x hhalt hstate hmem hie hwt hpend hcheck hpost htd hres
    have hdue : s.irqDue c = true := by rw [State.irqDue, hie, hwt, hpend]; rfl
    have hx := s.ctx_waitEnded_same c
    have hirq : (s.waitEnded c).takeIrq c = (s.waitEnded c).setCtx c
        (({ x with stall := .none } : Ctx).trapped c ⟨trInt, 0, false, none⟩ x.pc) := by
      rw [State.takeIrq, State.trapEnter_enters (by rw [hx]; exact hwt) (by rw [hx]; exact htd) (by rw [hx]; exact Nat.ne_of_lt hres), hx]
    refine ⟨_, exec_takeInterrupt hstate hmem hhalt hdue hcheck hpost, ?_⟩
    rw [hirq]
    refine ⟨State.ctx_setCtx_same _ _ _, fun d hd => ?_, State.ctxState_setCtxState _ (by decide), s.byteAt_waitEnded c, s.stq_waitEnded c⟩
    rw [State.ctx_setCtx, if_neg hd, State.ctx_waitEnded, if_neg hd]
  case check =>
    intro s x hiss hmchk htd hwt hres
    have hdue : s.checkDue ctxSup = true := by
      have htd' : (s.ctx ctxSup).td = false := htd
      have hwt' : (s.ctx ctxSup).wt = false := hwt
      rw [State.checkDue, hmchk, htd', hwt']
      rfl
    have he : exec .takeMachineCheck s = .next s.takeCheck := if_pos (by rw [hdue]; exact (Bool.and_true _).trans hiss)
    rw [he, State.takeCheck_enters hwt htd (Nat.ne_of_lt hres)]
    exact ⟨_, rfl, rfl, State.ctx_setCtx_same _ _ _, rfl, fun d hd => (State.ctx_setCtx _ _ _ _).trans (if_neg hd)⟩
  case posted =>
    intro s c a sub x hiss hcheck hp htd hwt hres
    have he : exec (.postedStoreFailure c) s = .next (s.takePosted c) := by
      have he : exec (.postedStoreFailure c) s = execPostedStoreFailure c s := rfl
      rw [he, execPostedStoreFailure, hiss, hp, hcheck]
      rfl
    rw [he, State.takePosted_enters hp hwt htd (Nat.ne_of_lt hres)]
    refine ⟨_, rfl, ?_, rfl, fun d hd => ?_⟩
    · rw [State.ctx_setCtx_same, Ctx.trapped]
      dsimp only [Option.map_some, Option.getD_some]
      rw [extract_low_ofNat, extract_high_ofNat]
      rfl
    · rw [State.ctx_setCtx, if_neg hd, State.ctx_setCtx, if_neg hd]

end Sys2Proof.Machine

end

section

/-! SUPPORT. The control words (R124, R156, R164) and SYNC (R133). -/

namespace Sys2Proof.Machine

/-! ### GETC and SETC -/

/-- The control words of Table 3.12. -/
def cwListed (n : Nat) : Prop := n ≤ 10 ∨ n = 16

theorem cwListed.lt {n : Nat} (h : cwListed n) : n < 32 := by
  unfold cwListed at h
  omega

theorem cwListed.toNat {n : Nat} (h : cwListed n) : (BitVec.ofNat 5 n).toNat = n :=
  (BitVec.toNat_ofNat n 5).trans (Nat.mod_eq_of_lt h.lt)

theorem legal_getc (sup : Bool) (r : Fin 32) {n : Nat} (h : cwListed n) : legalWord sup (fmtS 0x28 r 0 0 8 n) = true := by
  have hn : n % 32 = n := Nat.mod_eq_of_lt h.lt
  simpa [legalWord, hn, cwListed] using h

theorem legal_setc (sup : Bool) (r : Fin 32) {n : Nat} (h : cwListed n) : legalWord sup (fmtS 0x28 0 r 0 9 n) = true := by
  have hn : n % 32 = n := Nat.mod_eq_of_lt h.lt
  simpa [legalWord, hn, cwListed] using h

theorem privWord_low {c n : Nat} (h : n ≤ 10) : privWord c n = false := by
  have hn : n ≠ 16 := by omega
  simp [privWord, hn]

theorem privWord_inst {c : Nat} (h : c ≠ 256) : privWord c 16 = true := by
  simp [privWord, ctxSup, h]

section
variable {s : State} {c : Fin 257} {r : Fin 32} {n : Nat} (hr : s.Ready c) (hn : cwListed n)
include hr hn

theorem getc_goesOn {w : Word} (hp : privWord c n = false) (hw : (s.fetched c).cwRead c n = w) :
    s.GoesOn c (.getc c r (BitVec.ofNat 5 n)) ((s.ctx c).rset r w) := by
  refine State.goesOn hr (by rw [hn.toNat]; exact legal_getc _ r hn) rfl ?_
  rw [hn.toNat, hp, s.fetched_ctx c c, hw]
  rfl

theorem getc_priv (hp : privWord c n = true) : s.Traps c (.getc c r (BitVec.ofNat 5 n))
    ⟨trPriv, 0, false, some ((fmtS 0x28 r 0 0 8 n).setWidth 64)⟩ := by
  refine State.traps hr (by rw [hn.toNat]; exact legal_getc _ r hn) rfl ?_
  rw [hn.toNat, hp]
  rfl

theorem setc_goesOn (hp : privWord c n = false) (hv : (s.ctx c).rget r &&& cwReserved n = 0) :
    s.GoesOn c (.setc c (BitVec.ofNat 5 n) r) ((s.ctx c).cwWrite n ((s.ctx c).rget r)) := by
  refine State.goesOn hr (by rw [hn.toNat]; exact legal_setc _ r hn) rfl ?_
  dsimp only
  rw [hn.toNat, hp, s.fetched_ctx c c, hv]
  rfl

theorem setc_illegal (hv : (s.ctx c).rget r &&& cwReserved n ≠ 0) : s.Traps c (.setc c (BitVec.ofNat 5 n) r)
    ⟨trIllegal, 0, false, some ((fmtS 0x28 0 r 0 9 n).setWidth 64)⟩ := by
  refine State.traps hr (by rw [hn.toNat]; exact legal_setc _ r hn) rfl ?_
  dsimp only
  rw [hn.toNat, s.fetched_ctx c c, if_pos (bne_iff_ne.mpr hv)]
  rfl

theorem setc_priv (hp : privWord c n = true) (hv : (s.ctx c).rget r &&& cwReserved n = 0) :
    s.Traps c (.setc c (BitVec.ofNat 5 n) r) ⟨trPriv, 0, false, some ((fmtS 0x28 0 r 0 9 n).setWidth 64)⟩ := by
  refine State.traps hr (by rw [hn.toNat]; exact legal_setc _ r hn) rfl ?_
  dsimp only
  rw [hn.toNat, s.fetched_ctx c c, hp, hv]
  rfl

end

/-! ### SYNC (R133) -/

theorem legal_sync (sup : Bool) {m : BitVec 5} (h : m ≠ 0) : legalWord sup (fmtS 0x28 0 0 0 10 m.toNat) = true := by
  have hlt : m.toNat % 32 = m.toNat := Nat.mod_eq_of_lt m.isLt
  have hne : m.toNat ≠ 0 := fun h0 => h (BitVec.eq_of_toNat_eq h0)
  simp [legalWord, hlt, hne]

section
variable {s : State} {c : Nat}

/-- A wait that ends with no hold asked for. -/
theorem State.resumeCtx_runs (h : (s.ctx c).holdReq = none) :
    s.resumeCtx c = (s.setCtx c { s.ctx c with stall := .none }).setCtxState c ctxRun := by
  rw [State.resumeCtx, h]

theorem State.ctx_resumeCtx (h : (s.ctx c).holdReq = none) (d : Nat) :
    (s.resumeCtx c).ctx d = if d = c then { s.ctx c with stall := .none } else s.ctx d := by
  rw [State.resumeCtx_runs h, State.ctx_setCtxState, State.ctx_setCtx]

theorem State.ctxState_resumeCtx (h : (s.ctx c).holdReq = none) : (s.resumeCtx c).ctxState c = 1 := by
  rw [State.resumeCtx_runs h]
  exact State.ctxState_setCtxState _ (by decide)

theorem State.byteAt_resumeCtx (s : State) (c k : Nat) : (s.resumeCtx c).byteAt k = s.byteAt k := by
  unfold State.resumeCtx
  split
  · unfold State.heldRecord
    split
    · rw [State.byteAt_setCtxState, State.byteAt_setCtx]
    · rw [State.byteAt_put, State.byteAt_setCtxState, State.byteAt_setCtx]
  · rw [State.byteAt_setCtxState, State.byteAt_setCtx]

/-- A waiting instruction that ends with no hold asked for: the next instruction follows. -/
theorem State.ctx_finish (h : (s.ctx c).holdReq = none) (d : Nat) :
    (s.finish c).ctx d = if d = c then { s.ctx c with pc := (s.ctx c).pc + 4, stall := .none } else s.ctx d := by
  have hx := s.ctx_setCtx_same c { s.ctx c with pc := (s.ctx c).pc + 4 }
  rw [State.finish, State.ctx_resumeCtx (by rw [hx]; exact h), hx]
  split
  next => rfl
  next hd => rw [State.ctx_setCtx, if_neg hd]

theorem State.ctxState_finish (h : (s.ctx c).holdReq = none) : (s.finish c).ctxState c = 1 :=
  State.ctxState_resumeCtx (by rw [State.ctx_setCtx_same]; exact h)

theorem State.byteAt_finish (s : State) (c k : Nat) : (s.finish c).byteAt k = s.byteAt k := State.byteAt_resumeCtx _ c k

end

section
variable {s : State} {c : Fin 257} {m : Nat} (hs : (s.ctx c).stall = .sync m)
include hs

theorem exec_syncComplete : exec (.syncComplete c) s =
    if bitOf m 0 && (s.ctx c).postFail.isSome then .next ((s.resumeCtx c).takePosted c)
    else if s.syncDone c m then .next (s.finish c) else .next s := by
  have he : exec (.syncComplete c) s = execSyncComplete c s := rfl
  rw [he, execSyncComplete, hs]

theorem exec_syncComplete_quiet (hp : bitOf m 0 = true → (s.ctx c).postFail = none) : exec (.syncComplete c) s =
    if s.syncDone c m then .next (s.finish c) else .next s := by
  rw [exec_syncComplete hs, if_neg]
  rw [Bool.and_eq_true]
  rintro ⟨h0, hsome⟩
  rw [hp h0] at hsome
  exact absurd hsome (by decide)

end

/-- Settles O51: the control words one by one, and a SYNC that goes on, waits, ends or raises the posted failure. -/
theorem controlWordsAndSync : Obligations.ControlWordsAndSync := by
  refine ⟨?words, ?issue, ?complete⟩
  case words =>
    intro s c r hr x v b u get set
    have hx : u.ctx c = x := s.fetched_ctx c c
    have hget : ∀ {n w}, n ≤ 10 → u.cwRead c n = w → get n w := fun hn hw => getc_goesOn hr (.inl hn) (privWord_low hn) hw
    have hset : ∀ {n}, n ≤ 10 → set n (cwReserved n) (x.cwWrite n v) := fun hn =>
      ⟨setc_goesOn hr (.inl hn) (privWord_low hn), setc_illegal hr (.inl hn)⟩
    have hsup : c.val = 256 → privWord c 16 = false := fun hc => by rw [hc]; rfl
    refine ⟨hget (by decide) ?_, hget (by decide) (congrArg Ctx.tpc hx), hget (by decide) (congrArg Ctx.tstatus hx),
      hget (by decide) (congrArg Ctx.tcause hx), hget (by decide) (congrArg Ctx.tval hx), hget (by decide) (congrArg Ctx.tvalh hx),
      hget (by decide) (congrArg Ctx.tbase hx), hget (by decide) (congrArg Ctx.wtpc hx), hget (by decide) (congrArg Ctx.wsp hx),
      hget (by decide) (congrArg (fun y : Ctx => BitVec.ofNat 32 (y.resident * 256 + y.wix)) hx), hget (by decide) rfl,
      fun hc => getc_goesOn hr (.inr rfl) (hsup hc) (congrArg Ctx.mcause hx), fun hc => getc_priv hr (.inr rfl) (privWord_inst hc),
      hset (n := 0) (by decide), hset (n := 1) (by decide), hset (n := 2) (by decide), hset (n := 3) (by decide),
      hset (n := 4) (by decide), hset (n := 5) (by decide), hset (n := 6) (by decide), hset (n := 7) (by decide),
      hset (n := 8) (by decide), hset (n := 9) (by decide), hset (n := 10) (by decide),
      fun hc => ⟨setc_goesOn hr (.inr rfl) (hsup hc), setc_illegal hr (.inr rfl)⟩,
      fun hc => setc_priv hr (.inr rfl) (privWord_inst hc)⟩
    exact (congrArg (fun y : Ctx => y.status c) hx).trans (x.status_eq c)
  case issue =>
    intro s c m hr hm
    refine ⟨fun hdone => State.goesOnSame hr (legal_sync _ hm) rfl (if_pos hdone), fun hdone => ?_⟩
    exact State.waits hr (legal_sync _ hm) rfl (if_neg (ne_true_of_eq_false hdone))
  case complete =>
    intro s c m x hs hhold
    refine ⟨fun hdone hp => ⟨s.finish c, ?_, ?_, State.ctxState_finish hhold, fun d hd => ?_, s.byteAt_finish c⟩,
      fun a sub h0 hp htd hwt hres => ?_, fun hdone hp => ?_⟩
    · rw [exec_syncComplete_quiet hs hp, if_pos hdone]
    · rw [State.ctx_finish hhold, if_pos rfl]
    · rw [State.ctx_finish hhold, if_neg hd]
    · have hy : (s.resumeCtx c).ctx c = { x with stall := .none } := by rw [State.ctx_resumeCtx hhold, if_pos rfl]
      have hposted := State.takePosted_enters (s := s.resumeCtx c) (a := a) (sub := sub) (by rw [hy]; exact hp) (by rw [hy]; exact hwt)
        (by rw [hy]; exact htd) (by rw [hy]; exact Nat.ne_of_lt hres)
      refine ⟨(s.resumeCtx c).takePosted c, ?_, ?_⟩
      · rw [exec_syncComplete hs, if_pos]
        rw [h0, hp]
        rfl
      · rw [hposted, State.ctx_setCtx_same, hy]
        exact ⟨rfl, rfl, rfl, rfl⟩
    · rw [exec_syncComplete_quiet hs hp, if_neg (ne_true_of_eq_false hdone)]

end Sys2Proof.Machine

end

section

/-! SUPPORT. Accesses of a context to memory (R125-R127, R130, R170, R172): their checks at issue, what they reach, and what
their responses leave. -/

namespace Sys2Proof.Machine

/-! ### The checks at issue (R125) -/

section
variable {s : State} {c a n : Nat} {far : Bool} {p : Perm} {k : State → Done}

theorem State.accessed_align (h : a % 2 ^ 48 % n ≠ 0 ∨ (regSpace far a ∧ n ≠ 4)) :
    s.accessed c far a n p k = .raise s trAlign 0 (BitVec.ofNat 64 (a % 2 ^ 48)) := if_pos h

theorem State.accessed_refused {sub : Nat} (h : ¬(a % 2 ^ 48 % n ≠ 0 ∨ (regSpace far a ∧ n ≠ 4)))
    (hs : s.accessSub c far a n p = some sub) :
    s.accessed c far a n p k = .raise s trBuserr sub (BitVec.ofNat 64 (a % 2 ^ 48)) := by
  rw [State.accessed, if_neg h, hs]

theorem State.accessed_passes (h : ¬(a % 2 ^ 48 % n ≠ 0 ∨ (regSpace far a ∧ n ≠ 4))) (hs : s.accessSub c far a n p = none) :
    s.accessed c far a n p k = k s := by
  rw [State.accessed, if_neg h, hs]

end

theorem regSpace_local (a : Nat) : regSpace false a = true ↔ 0xF0000000 ≤ a := decide_eq_true_iff

/-- A local address reaches this device. -/
theorem State.locLocal_ne_far (s : State) (c a d o : Nat) : s.locLocal c a ≠ .far d o := by
  have hoff : ∀ g, s.locOff g ≠ .far d o := by
    intro g
    unfold State.locOff
    split_ifs <;> exact Loc.noConfusion
  unfold State.locLocal
  split_ifs
  · exact Loc.noConfusion
  · exact Loc.noConfusion
  · split
    · exact hoff _
    · exact Loc.noConfusion

/-- A read or an atomic operation at this device waits, and nothing else changes. -/
theorem memWait_here {s : State} {c a : Nat} {far : Bool} (op : MemOp) (h : ∀ d o, s.reach c far a ≠ .far d o) :
    memWait c op far a s = .wait s (.mem op far a none) := by
  unfold memWait
  dsimp only
  split
  next d o hd => exact absurd hd (h d o)
  next => rfl

theorem memWait_local (s : State) (c a : Nat) (op : MemOp) : memWait c op false a s = .wait s (.mem op false a none) :=
  memWait_here op fun d o => s.locLocal_ne_far c a d o

/-- The address of a load or a store as a number (R170). -/
theorem State.baseImm_eq (s : State) (c ra : Nat) (imm : BitVec 16) :
    s.baseImm c ra imm = ((((s.ctx c).rget ra).toNat + imm.toInt) % 2 ^ 32).toNat := by
  rw [State.baseImm, BitVec.toNat_add, BitVec.signExtend, BitVec.toNat_ofInt]
  omega

/-! ### The end of an access -/

section
variable {s : State} {c : Nat} {x : Ctx}

/-- A context that takes the result `x` and goes on. -/
theorem State.ctx_ended (h : x.holdReq = none) (d : Nat) : ((s.setCtx c x).finish c).ctx d =
    if d = c then { x with pc := x.pc + 4, stall := .none } else s.ctx d := by
  have hx := s.ctx_setCtx_same c x
  rw [State.ctx_finish (by rw [hx]; exact h), hx]
  split
  next => rfl
  next hd => rw [State.ctx_setCtx, if_neg hd]

theorem State.ctxState_ended (h : x.holdReq = none) : ((s.setCtx c x).finish c).ctxState c = 1 :=
  State.ctxState_finish (by rw [State.ctx_setCtx_same]; exact h)

theorem State.byteAt_ended (s : State) (c : Nat) (x : Ctx) (k : Nat) : ((s.setCtx c x).finish c).byteAt k = s.byteAt k :=
  State.byteAt_finish _ c k

end

/-- A register write changes the registers alone. -/
theorem Ctx.rset_rest (x : Ctx) (r : Nat) (v : Word) : x.rset r v = { x with regs := (x.rset r v).regs } := by
  unfold Ctx.rset
  split <;> rfl

theorem Ctx.holdReq_rset (x : Ctx) (r : Nat) (v : Word) : (x.rset r v).holdReq = x.holdReq := by
  rw [x.rset_rest]

theorem Ctx.pc_rset (x : Ctx) (r : Nat) (v : Word) : (x.rset r v).pc = x.pc := by
  rw [x.rset_rest]

theorem Ctx.holdReq_pset (x : Ctx) (r : Nat) (v : BitVec 64) : (x.pset r v).holdReq = x.holdReq := by
  rw [Ctx.pset, Ctx.holdReq_rset, Ctx.holdReq_rset]

theorem Ctx.pc_pset (x : Ctx) (r : Nat) (v : BitVec 64) : (x.pset r v).pc = x.pc := by
  rw [Ctx.pset, Ctx.pc_rset, Ctx.pc_rset]

theorem Ctx.holdReq_loadReg (x : Ctx) (rd n : Nat) (sg : Bool) (bs : List Byte) : (x.loadReg rd n sg bs).holdReq = x.holdReq := by
  unfold Ctx.loadReg
  split
  · exact x.holdReq_pset _ _
  · exact x.holdReq_rset _ _

theorem Ctx.pc_loadReg (x : Ctx) (rd n : Nat) (sg : Bool) (bs : List Byte) : (x.loadReg rd n sg bs).pc = x.pc := by
  unfold Ctx.loadReg
  split
  · exact x.pc_pset _ _
  · exact x.pc_rset _ _

/-- What a load writes to its register, or to its pair (R170). -/
theorem Ctx.loadReg_eq (x : Ctx) (rd n : Nat) (sg : Bool) (bs : List Byte) : x.loadReg rd n sg bs =
    (let w := natOf bs
     if n = 8 then (x.rset rd (BitVec.ofNat 32 w)).rset (rd + 1) (BitVec.ofNat 32 (w / 2 ^ 32))
     else x.rset rd (BitVec.ofInt 32 (if sg ∧ 2 ^ (8 * n - 1) ≤ w % 2 ^ (8 * n) then ((w % 2 ^ (8 * n) : Nat) : Int) - 2 ^ (8 * n)
       else if sg then ((w % 2 ^ (8 * n) : Nat) : Int) else w))) := by
  unfold Ctx.loadReg
  dsimp only
  split
  next => rw [Ctx.pset, extract_low_ofNat, extract_high_ofNat]
  next =>
    congr 1
    cases sg with
    | false => simp
    | true =>
      unfold sext
      by_cases h : natOf bs % 2 ^ (8 * n) < 2 ^ (8 * n - 1)
      · simp [h, Nat.not_le.mpr h]
      · simp [h, Nat.not_lt.mp h]

section
variable {s v : State} {c : Fin 257} {op : MemOp} {far : Bool} {a o : Nat}

/-- An access to memory of this device whose channel runs is performed at its response (R127). -/
theorem exec_memoryResponse (hs : (s.ctx c).stall = .mem op far a none) (hloc : s.reach c far a = .mem o)
    (hddr : s.ddrHalted o = false) : exec (.memoryResponse c) s = .next (s.memLocal c op far a) := by
  have he : exec (.memoryResponse c) s = execMemoryResponse c s := rfl
  rw [he, execMemoryResponse, hs]
  dsimp only
  rw [hloc]
  dsimp only
  rw [hddr]
  rfl

/-- A load or a fill whose bytes can be read takes them (R127). -/
theorem State.memLocal_read {bs : List Byte} (hop : op.amo = none) (hsp : op ≠ .spill) (hloc : s.reach c far a = .mem o)
    (hread : (s.ownFirst c (.mem o)).memRead c o op.size = (some bs, v)) : s.memLocal c op far a = v.memData c op bs := by
  unfold State.memLocal
  dsimp only
  rw [hloc]
  cases op with
  | load rd n sg => exact congrArg (fun r : Option (List Byte) × State => match r with
      | (some bs, s) => s.memData c (.load rd n sg) bs
      | (none, s) => s.memTrap c a busEcc) hread
  | fill => exact congrArg (fun r : Option (List Byte) × State => match r with
      | (some bs, s) => s.memData c .fill bs
      | (none, s) => s.memTrap c a busEcc) hread
  | spill => exact absurd rfl hsp
  | swap | add | cas => cases hop

end

/-! ### Loads (R170) -/

section
variable {s : State} {c : Fin 257} {rd ra : Fin 32} {imm : BitVec 16}

theorem legal_load (sup : Bool) (r1 r2 : Fin 32) (n : Nat) {m : Nat} (h : 0x10 ≤ m ∧ m ≤ 0x18 ∧ m ≠ 0x15) :
    legalWord sup (fmtI m r1 r2 n) = true := by
  obtain rfl | rfl | rfl | rfl | rfl | rfl | rfl | rfl : m = 16 ∨ m = 17 ∨ m = 18 ∨ m = 19 ∨ m = 20 ∨ m = 22 ∨ m = 23 ∨ m = 24 := by
    omega
  all_goals simp [legalWord]

theorem legal_loadPair (sup : Bool) {r1 : Fin 32} (r2 : Fin 32) (n : Nat) {m : Nat} (h : m = 0x15 ∨ m = 0x19)
    (hp : r1.val % 2 = 0 ∧ r1.val ≠ 0) : legalWord sup (fmtI m r1 r2 n) = true := by
  obtain rfl | rfl := h
  all_goals simp [legalWord, isPair_code hp]

/-- The loads from local addresses, with their sizes and signs. -/
def localLoads (c : Fin 257) (rd ra : Fin 32) (imm : BitVec 16) : List (Instr × Nat × Bool) :=
  [(Instr.ldB c rd ra imm, 1, true), (.ldBu c rd ra imm, 1, false), (.ldH c rd ra imm, 2, true),
    (.ldHu c rd ra imm, 2, false), (.ldW c rd ra imm, 4, false)] ++
    (if rd.val % 2 = 0 ∧ rd.val ≠ 0 then [(Instr.ldD c rd ra imm, 8, false)] else [])

/-- Each load issues its word, whose meaning is `loadFrom`. -/
theorem localLoads_issue (s : State) {i : Instr} {n : Nat} {sg : Bool} (h : (i, n, sg) ∈ localLoads c rd ra imm) :
    ∃ w, legalWord (c.val == ctxSup) w = true ∧ exec i s = issued c w (loadFrom c rd ra imm n sg) s := by
  have hl {m : Nat} := legal_load (c.val == ctxSup) rd ra imm.toNat (m := m)
  unfold localLoads at h
  simp only [List.cons_append, List.nil_append, List.mem_cons, Prod.mk.injEq] at h
  rcases h with ⟨rfl, rfl, rfl⟩ | ⟨rfl, rfl, rfl⟩ | ⟨rfl, rfl, rfl⟩ | ⟨rfl, rfl, rfl⟩ | ⟨rfl, rfl, rfl⟩ | h
  · exact ⟨_, hl (by decide), rfl⟩
  · exact ⟨_, hl (by decide), rfl⟩
  · exact ⟨_, hl (by decide), rfl⟩
  · exact ⟨_, hl (by decide), rfl⟩
  · exact ⟨_, hl (by decide), rfl⟩
  · split at h
    next hp =>
      rw [List.mem_singleton, Prod.mk.injEq, Prod.mk.injEq] at h
      obtain ⟨rfl, rfl, rfl⟩ := h
      exact ⟨_, legal_loadPair _ ra _ (.inl rfl) hp, rfl⟩
    next => cases h

end

/-- Settles O52: the checks of a load at issue, and the register it writes at its response. -/
theorem loadInstructions : Obligations.LoadInstructions := by
  refine ⟨?issue, ?response⟩
  case issue =>
    intro s c rd ra imm hr u a i n sg hi bad v
    obtain ⟨w, hl, he⟩ := localLoads_issue s hi
    have hbase : u.baseImm c ra imm = a.toNat := by
      rw [State.baseImm_eq, s.fetched_ctx c c]
    have hlt : a.toNat < 2 ^ 32 := by omega
    have hmod : a.toNat % 2 ^ 48 = a.toNat := Nat.mod_eq_of_lt (Nat.lt_trans hlt (by decide))
    have hbad : (a.toNat % 2 ^ 48 % n ≠ 0 ∨ (regSpace false a.toNat ∧ n ≠ 4)) ↔ bad := by rw [hmod, regSpace_local]
    have hdone : loadFrom c rd ra imm n sg u = u.accessed c false a.toNat n .r (memWait c (.load rd n sg) false a.toNat) := by
      rw [loadFrom, hbase]
    refine ⟨fun hb => State.traps hr hl he ?_, fun sub hb hs => State.traps hr hl he ?_, fun hb hs => State.waits hr hl he ?_⟩
    · rw [hdone, State.accessed_align (hbad.mpr hb), hmod]
      rfl
    · rw [hdone, State.accessed_refused (mt hbad.mp hb) hs, hmod]
      rfl
    · rw [hdone, State.accessed_passes (mt hbad.mp hb) hs, memWait_local]
  case response =>
    intro s v c rd n sg far a o bs x hs hloc hddr hread hhold w y y'
    have hy : y' = y.loadReg rd n sg bs := (y.loadReg_eq rd n sg bs).symm
    have hh : y'.holdReq = none := by rw [hy, Ctx.holdReq_loadReg]; exact hhold
    have hpc : y'.pc = y.pc := by rw [hy, Ctx.pc_loadReg]
    have hdata : v.memData c (.load rd n sg) bs = (v.setCtx c y').finish c := by rw [hy]; rfl
    refine ⟨(v.setCtx c y').finish c, ?_, ?_, State.ctxState_ended hh, fun d hd => ?_, v.byteAt_ended c y'⟩
    · rw [exec_memoryResponse hs hloc hddr, State.memLocal_read (op := .load rd n sg) rfl MemOp.noConfusion hloc hread, hdata]
    · rw [State.ctx_ended hh, if_pos rfl, hpc]
    · rw [State.ctx_ended hh, if_neg hd]

end Sys2Proof.Machine

end

section

/-! SUPPORT. Bytes and words, intact codewords of the memories (R397, R399, R410), and the atomic operations (R130, R172). -/

namespace Sys2Proof.Machine

/-! ### Bytes of words -/

theorem length_bytesOf (n v : Nat) : (bytesOf n v).length = n := by
  induction n generalizing v with
  | zero => rfl
  | succ n ih => exact congrArg (· + 1) (ih (v / 256))

theorem natOf_bytesOf (n v : Nat) : natOf (bytesOf n v) = v % 2 ^ (8 * n) := by
  induction n generalizing v with
  | zero => exact (Nat.mod_one v).symm
  | succ n ih =>
    rw [bytesOf, natOf, ih, BitVec.toNat_ofNat, Nat.mul_succ, Nat.add_comm (8 * n), Nat.pow_add, Nat.mod_mul]

/-- The bytes of a word, least first. -/
theorem bytesOf_word (w : Word) : bytesOf 4 w.toNat = (List.range 4).map fun k => w.extractLsb' (8 * k) 8 := by
  have hbyte : ∀ k, w.extractLsb' (8 * k) 8 = BitVec.ofNat 8 (w.toNat / 2 ^ (8 * k)) := fun k => by
    apply BitVec.eq_of_toNat_eq
    rw [BitVec.extractLsb'_toNat, BitVec.toNat_ofNat, Nat.shiftRight_eq_div_pow]
  simp only [bytesOf, hbyte, Nat.div_div_eq_div_mul]
  simp [List.range_succ]

theorem getElem_bytesOf_word (w : Word) {k : Nat} (hk : k < 4) : (bytesOf 4 w.toNat)[k]? = some (w.extractLsb' (8 * k) 8) := by
  rw [bytesOf_word, List.getElem?_map, List.getElem?_range hk]
  rfl

theorem ofNat_natOf_bytesOf (w : Word) : BitVec.ofNat 32 (natOf (bytesOf 4 w.toNat)) = w := by
  rw [natOf_bytesOf, Nat.mod_eq_of_lt w.isLt, BitVec.ofNat_toNat, BitVec.setWidth_eq]

/-! ### Intact codewords -/

section
variable {s : State}

/-- A codeword all of whose bytes are written and which has no error reads as its bytes, and nothing changes. -/
theorem State.codeRead_intact {mid base : Nat} {bs : List Byte} (req : Nat) (hlen : bs.length = codeSize mid)
    (hb : ∀ j, j < codeSize mid → s.byteAt (memKey mid base + j) = bs[j]?)
    (he : s.codeErr (memKey mid base) = CodeErr.none') : s.codeRead req mid base = (some bs, s) := by
  have hold : (List.range (codeSize mid)).map (fun j => s.byteAt (memKey mid base + j)) = bs.map some := by
    apply List.ext_getElem?
    intro j
    rw [List.getElem?_map, List.getElem?_map]
    by_cases hj : j < codeSize mid
    · rw [List.getElem?_range hj, Option.map_some, hb j hj, List.getElem?_eq_getElem (hlen ▸ hj)]
      rfl
    · rw [List.getElem?_eq_none (by rw [List.length_range]; omega), List.getElem?_eq_none (by omega)]
      rfl
  have hall : ((bs.map some).all fun x => x.isSome) = true := by simp
  have hget : (bs.map some).map (fun b => b.getD 0) = bs := by simp
  have hcheck : s.codeCheck req mid base true = (.data, s) := by
    unfold State.codeCheck
    rw [he]
    rfl
  unfold State.codeRead
  dsimp only
  rw [hold, hall, hcheck]
  exact congrArg (fun l => (some l, s)) hget

/-- The one-shot flip changes registers alone. -/
theorem State.flipWrite_rest (s : State) (mid addr base : Nat) : ∃ r, (s.flipWrite mid addr base).2 = { s with regs := r } := by
  unfold State.flipWrite
  dsimp only
  split
  · split <;> exact ⟨_, rfl⟩
  · exact ⟨s.regs, rfl⟩

theorem State.bankAccess_quiet (h : s.tst.run = none) (o n : Nat) : s.bankAccess o n = s := by
  rw [State.bankAccess, h]

/-- Tile SRAM: its memories have codewords of four bytes, keyed by their offset, and no clock of theirs stops. -/
theorem State.midOf_sram {o : Nat} (hlo : 0x6000000000 ≤ o) (hhi : o < 0x6004000000) : s.midOf o < 16 := by
  unfold State.midOf
  rw [if_neg (by omega), if_pos (by omega)]
  omega

theorem codeSize_sram {mid : Nat} (h : mid < 16) : codeSize mid = 4 := if_neg (by omega)

theorem memKey_sram {mid : Nat} (h : mid < 16) (a : Nat) : memKey mid a = a := by
  rw [memKey, if_neg (by omega), if_neg (by omega)]

theorem State.ddrHalted_sram {o : Nat} (h : s.midOf o < 16) : s.ddrHalted o = false := by
  have h0 : (s.midOf o == 0x30) = false := beq_eq_false_iff_ne.mpr (by omega)
  have h1 : (s.midOf o == 0x31) = false := beq_eq_false_iff_ne.mpr (by omega)
  rw [State.ddrHalted, h0, h1]
  rfl

end

/-! ### The operation at its target (R130) -/

/-- What an atomic operation stores: 0 swap, 1 add, else compare with `a` and store `b`. -/
def amoStores (op : Nat) (old a b : Word) : Option Word :=
  if op = 0 then some a else if op = 1 then some (old + a) else if old = a then some b else none

theorem amoStores_cas (op : Nat) (old a b : Word) : amoStores (op + 1 + 1) old a b = if old = a then some b else none := by
  simp [amoStores]

/-- An atomic operation on an intact word of tile SRAM: it returns the old word and changes at most that word. -/
theorem State.amo_sram {s : State} {o : Nat} {old : Word} (req op : Nat) (a b : Word) (htst : s.tst.run = none)
    (hlo : 0x6000000000 ≤ o) (hhi : o < 0x6004000000) (h4 : o % 4 = 0)
    (hb : ∀ k, k < 4 → s.byteAt (o + k) = some (old.extractLsb' (8 * k) 8)) (he : s.codeErr o = CodeErr.none') :
    ∃ t, s.amo req op o a b = (some old, t) ∧ t.ctxs = s.ctxs ∧
      (∀ k, k < 4 → t.byteAt (o + k) = some (((amoStores op old a b).getD old).extractLsb' (8 * k) 8)) ∧
      ∀ k, k < o ∨ o + 4 ≤ k → t.byteAt k = s.byteAt k := by
  have hmid : s.midOf o < 16 := State.midOf_sram hlo hhi
  have hbase : o / 4 * 4 = o := Nat.div_mul_cancel (Nat.dvd_of_mod_eq_zero h4)
  have hread : s.codeRead req (s.midOf o) o = (some (bytesOf 4 old.toNat), s) := by
    refine State.codeRead_intact req ?_ (fun j hj => ?_) ?_
    · rw [codeSize_sram hmid, length_bytesOf]
    · rw [codeSize_sram hmid] at hj
      rw [memKey_sram hmid, hb j hj, getElem_bytesOf_word old hj]
    · rw [memKey_sram hmid, he]
  have hold : BitVec.ofNat 32 (natOf (((bytesOf 4 old.toNat).drop (o % 4)).take 4)) = old := by
    rw [h4, List.drop_zero, List.take_of_length_le (Nat.le_of_eq (length_bytesOf 4 _)), ofNat_natOf_bytesOf]
  have hput : ∀ v : Word, (bytesOf 4 old.toNat).take 0 ++ bytesOf 4 v.toNat ++ (bytesOf 4 old.toNat).drop (0 + 4) = bytesOf 4 v.toNat := by
    intro v
    rw [List.take_zero, List.nil_append, List.drop_of_length_le (Nat.le_of_eq (length_bytesOf 4 _)), List.append_nil]
  obtain ⟨r, hflip⟩ := s.flipWrite_rest (s.midOf o) o o
  have hamo : s.amo req op o a b = match amoStores op old a b with
      | none => (some old, s)
      | some v => (some old, (State.putBytes { s with regs := r } o (bytesOf 4 v.toNat)).setCodeErr o (s.flipWrite (s.midOf o) o o).1) := by
    unfold State.amo
    dsimp only
    rw [State.bankAccess_quiet htst, codeSize_sram hmid, hbase, hread]
    dsimp only
    rw [hold, hflip, h4, memKey_sram hmid]
    simp only [hput]
    rcases op with _ | _ | op
    · rfl
    · rfl
    · rw [amoStores_cas]
      rfl
  cases hnew : amoStores op old a b with
  | none =>
    rw [hnew] at hamo
    exact ⟨s, hamo, rfl, hb, fun _ _ => rfl⟩
  | some v =>
    rw [hnew] at hamo
    refine ⟨_, hamo, rfl, fun k hk => ?_, fun k hk => ?_⟩
    · refine (State.byteAt_putBytes _ _ _ _).trans ?_
      rw [length_bytesOf, if_pos (by omega), Nat.add_sub_cancel_left, getElem_bytesOf_word v hk]
      rfl
    · refine (State.byteAt_putBytes _ _ _ _).trans ?_
      rw [length_bytesOf, if_neg (by omega)]
      rfl

/-! ### Issue (R172) -/

section
variable {s : State} {c : Fin 257} {rd ra rb : Fin 32} {f : Bool}

/-- The atomic instructions, what each waits with, and the code and the operands it sends. -/
def atomics (s : State) (c : Fin 257) (rd ra rb : Fin 32) (f : Bool) : List (Instr × MemOp × Nat × List Nat) :=
  let x := s.ctx c
  [(Instr.amoswap c rd ra rb f, MemOp.swap rd (x.rget rb), 0, [(x.rget rb).toNat, 0]),
    (.amoadd c rd ra rb f, .add rd (x.rget rb), 1, [(x.rget rb).toNat, 0]),
    (.amocas c rd ra rb f, .cas rd (x.rget rd) (x.rget rb), 2, [(x.rget rd).toNat, (x.rget rb).toNat])]

theorem legal_atomic (sup : Bool) {mn : Nat} (hmn : mn ≤ 2) (hf : f = true → ra.val % 2 = 0 ∧ ra.val ≠ 0) :
    legalWord sup (fmtS 0x1B rd ra rb mn f.toNat) = true := by
  obtain rfl | rfl | rfl : mn = 0 ∨ mn = 1 ∨ mn = 2 := by omega
  all_goals
    cases f with
    | false => simp [legalWord]
    | true => simp [legalWord, isPair_code (hf rfl)]

/-- Each atomic instruction issues its word, whose meaning is `atomicOp`. -/
theorem atomics_issue {i : Instr} {op : MemOp} {k : Nat} {l : List Nat} (hf : f = true → ra.val % 2 = 0 ∧ ra.val ≠ 0)
    (h : (i, op, k, l) ∈ atomics s c rd ra rb f) : ∃ w g, legalWord (c.val == ctxSup) w = true ∧
      exec i s = issued c w (atomicOp c ra f g) s ∧ g (s.ctx c) = op ∧ ∃ v v' : Word, op.amo = some (k, v, v') ∧ l = [v.toNat, v'.toNat] := by
  have hl {mn : Nat} (hmn : mn ≤ 2) := legal_atomic (rd := rd) (rb := rb) (c.val == ctxSup) hmn hf
  unfold atomics at h
  simp only [List.mem_cons, Prod.mk.injEq, List.not_mem_nil, or_false] at h
  rcases h with ⟨rfl, rfl, rfl, rfl⟩ | ⟨rfl, rfl, rfl, rfl⟩ | ⟨rfl, rfl, rfl, rfl⟩
  · exact ⟨_, _, hl (by decide), rfl, rfl, _, _, rfl, rfl⟩
  · exact ⟨_, _, hl (by decide), rfl, rfl, _, _, rfl, rfl⟩
  · exact ⟨_, _, hl (by decide), rfl, rfl, _, _, rfl, rfl⟩

/-- An atomic operation at a register or beyond finds no memory (R130). -/
theorem State.accessSub_regs {a n : Nat} (h : 0xF0000000 ≤ a) : s.accessSub c false a n .rw = some busRange := by
  have hreach : s.reach c false a = .regs a := if_pos h
  rw [State.accessSub]
  dsimp only
  rw [hreach]
  rfl

theorem State.leat_chainSend (s : State) (k : LeatKind) (d : Nat) (l : List Nat) : (s.chainSend k d l).leat = s.leat := by
  obtain ⟨o, h⟩ := s.chainSend_rest k d l
  rw [h]

theorem State.leat_setCtxState (s : State) (c x : Nat) : (s.setCtxState c x).leat = s.leat := by
  unfold State.setCtxState
  split <;> rfl

/-- A request of a context waits for its answer (R492). -/
theorem State.ctxRequest_reqs (s : State) (c : Nat) (k : LeatKind) (d : Nat) (l : List Nat) (who : Waiter) :
    ∃ q ∈ (s.ctxRequest c k d l who).leat.reqs, q.dst = d ∧ q.kind = k ∧ q.args.drop 3 = l ∧ q.who = who := by
  unfold State.ctxRequest State.request
  dsimp only
  rw [State.leat_chainSend]
  exact ⟨_, List.mem_append_right _ (List.mem_singleton_self _), rfl, rfl, rfl, rfl⟩

/-- An atomic operation on another device is sent there, and waits. -/
theorem memWait_far {u : State} {op : MemOp} {a d o k : Nat} {v v' : Word} (hloc : u.reach c f a = .far d o)
    (hop : op.amo = some (k, v, v')) : memWait c op f a u =
      .wait ((u.ownFirst c (.far d o)).ctxRequest c .mamo d [k, a, v.toNat, v'.toNat] (.load c)) (.mem op f a none) := by
  unfold memWait
  dsimp only
  rw [hloc]
  dsimp only
  rw [hop]

end

theorem State.ownFirst_nil {s : State} {c : Nat} (h : (s.ctx c).stores = []) (loc : Loc) :
    s.ownFirst c loc = s.setCtx c (s.ctx c) := by
  have hx : ({ s.ctx c with stores := [] } : Ctx) = s.ctx c := by rw [← h]
  unfold State.ownFirst
  dsimp only
  rw [h]
  exact congrArg (s.setCtx c) hx

/-- What an atomic operation waits with decides what it stores (R172). -/
theorem MemOp.amo_stores {op : MemOp} {rd : Nat} {old : Word} {new : Option Word}
    (h : (op, new) ∈ (match op with
      | .swap _ v => [(MemOp.swap rd v, some v)]
      | .add _ v => [(.add rd v, some (old + v))]
      | .cas _ w v => [(.cas rd w v, if old = w then some v else none)]
      | _ => [])) :
    ∃ k v w, op.amo = some (k, v, w) ∧ amoStores k old v w = new ∧ ∀ (s : State) (c : Nat) (bs : List Byte),
      s.memData c op bs = (s.setCtx c ((s.ctx c).rset rd (BitVec.ofNat 32 (natOf bs)))).finish c := by
  cases op with
  | swap | add | cas =>
    rw [List.mem_singleton, Prod.mk.injEq] at h
    obtain ⟨hop, rfl⟩ := h
    cases hop
    exact ⟨_, _, _, rfl, rfl, fun _ _ _ => rfl⟩
  | load | spill | fill => cases h

/-- Settles O55: the checks and the wait of an atomic instruction, the request to another device, and the response at an
intact word of tile SRAM (`State.amo_sram`). -/
theorem atomicInstructions : Obligations.AtomicInstructions := by
  refine ⟨?issue, ?response⟩
  case issue =>
    intro s c rd ra rb f hr hf u x a v i op k l hi
    obtain ⟨w, g, hl, he, hg, v1, v2, hop, rfl⟩ := atomics_issue hf hi
    have hx : u.ctx c = x := s.fetched_ctx c c
    have hdone : atomicOp c ra f g u = u.accessed c f a 4 .rw (memWait c op f a) := by
      rw [atomicOp, hx, hg]
    have hbad : (a % 2 ^ 48 % 4 ≠ 0 ∨ (regSpace f a ∧ 4 ≠ 4)) ↔ a % 4 ≠ 0 := by omega
    have htrap : ∀ sub, a % 4 = 0 → u.accessSub c f a 4 .rw = some sub → s.Traps c i ⟨trBuserr, sub, false, v⟩ := fun sub h4 hs =>
      State.traps hr hl he (hdone.trans (State.accessed_refused (mt hbad.mp (not_not_intro h4)) hs))
    refine ⟨fun h4 => State.traps hr hl he (hdone.trans (State.accessed_align (hbad.mpr h4))), htrap, fun hff h4 hreg => ?_,
      fun o h4 hs hloc => ?_, fun d o h4 hs hloc => ?_⟩
    · refine htrap busRange h4 ?_
      rw [hff]
      exact State.accessSub_regs hreg
    · refine State.waits hr hl he ?_
      rw [hdone, State.accessed_passes (mt hbad.mp (not_not_intro h4)) hs,
        memWait_here op fun d o' hd => by rw [hloc] at hd; cases hd]
    · have hwait := hdone.trans ((State.accessed_passes (mt hbad.mp (not_not_intro h4)) hs).trans (memWait_far hloc hop))
      refine ⟨_, he.trans (congrArg Host.Outcome.next (State.issue_wait hr hl hwait)), ?_, ?_⟩
      · rw [State.ctx_setCtxState, State.ctx_setCtx_same]
      · rw [State.leat_setCtxState]
        exact State.ctxRequest_reqs _ _ _ _ _ _
  case response =>
    intro s c op rd a o old new x hs hst hhold htst hloc hlo hhi h4 hb he hnew
    obtain ⟨k, v, w, hop, hstores, hdata⟩ := MemOp.amo_stores hnew
    have hmid : s.midOf o < 16 := State.midOf_sram hlo hhi
    have hbytes : ∀ j, (s.setCtx c x).byteAt j = s.byteAt j := s.byteAt_setCtx c x
    obtain ⟨t, hamo, hctxs, hin, hout⟩ := State.amo_sram (s := s.setCtx c x) c k v w htst hlo hhi h4 (fun j hj => hb j hj) he
    have hlocal : s.memLocal c op false a = t.memData c op (bytesOf 4 old.toNat) := by
      unfold State.memLocal
      dsimp only
      rw [hloc, State.ownFirst_nil hst]
      cases op with
      | swap | add | cas =>
        cases hop
        dsimp only [MemOp.amo]
        rw [hamo]
      | load | spill | fill => cases hop
    have hx : t.ctx c = x := by
      rw [State.ctx, hctxs]
      exact s.ctx_setCtx_same c x
    have hh : (x.rset rd old).holdReq = none := by rw [Ctx.holdReq_rset]; exact hhold
    have hend : t.memData c op (bytesOf 4 old.toNat) = (t.setCtx c (x.rset rd old)).finish c := by
      rw [hdata, hx, ofNat_natOf_bytesOf]
    refine ⟨(t.setCtx c (x.rset rd old)).finish c, ?_, ?_, fun j hj => ?_, fun b hj => ?_⟩
    · rw [exec_memoryResponse hs hloc (State.ddrHalted_sram hmid), hlocal, hend]
    · rw [State.ctx_ended hh, if_pos rfl, Ctx.pc_rset]
    · rw [State.byteAt_ended, hin j hj, hstores]
    · rw [State.byteAt_ended, hout b hj]
      exact hbytes b

end Sys2Proof.Machine

end

section

/-! SUPPORT. The clause of O53 that fails: a posted store that runs past the end of instruction memory. WSPILL and WFILL (R107,
R117, R175). -/

namespace Sys2Proof.Machine

/-! ### A store past the end of its memory (R399) -/

/-- Instance 255 has posted eight bytes for the last word of its tile's instruction memory. -/
def overhang : State :=
  { State.reset with ctxs := [(255, { Ctx.reset with stores := [⟨false, 0x3FFFC, List.replicate 8 1⟩] })] }

theorem byteAt_overhang {k : Nat} (h : 2 ^ 37 ≤ k) : overhang.byteAt k = some 0 := by
  have hc : cleared k = true := decide_eq_true h
  rw [State.byteAt_eq, cellRead]
  exact if_pos hc

/-- Refutes O53: the statement bounds neither the length nor the alignment of a queued store. Eight bytes at the last word of
instruction memory reach offset 0x6100400000, which belongs to no memory there (its identifier is 0x20, a coefficient memory):
the last four bytes do not stand at their offsets. -/
theorem not_storeInstructions : ¬ Obligations.StoreInstructions := by
  intro h
  obtain ⟨-, hstored, -⟩ := h
  have hlow : ∀ k, 0x61003FFFFC - 0x61003FFFFC % 8 ≤ k → 2 ^ 37 ≤ k := fun k hk => by omega
  obtain ⟨t, he, -, hin, -⟩ := hstored overhang 255 ⟨false, 0x3FFFC, List.replicate 8 1⟩ [] 0x61003FFFFC (by decide +kernel)
    (by decide +kernel) (by decide +kernel) (by decide +kernel) rfl (by decide)
    (fun k hk _ => ⟨by rw [byteAt_overhang (hlow k hk)]; rfl, rfl⟩)
  have hkept : exec (.storeAccepted 255) overhang = .next t → t.byteAt (0x61003FFFFC + 4) = some 0 := by
    intro e
    cases e
    decide +kernel
  rw [hin 4 (by decide)] at hkept
  exact absurd (hkept he) (by decide)

/-! ### WSPILL and WFILL at issue (R117, R165) -/

section
variable {s : State} {c : Fin 257} {ra : Fin 32}

theorem legal_windowMove (sup : Bool) (ra : Fin 32) {mn : Nat} (h : mn = 6 ∨ mn = 7) :
    legalWord sup (fmtS 0x28 0 ra 0 mn 0) = true := by
  obtain rfl | rfl := h
  all_goals simp [legalWord]

/-- The two instructions: what each waits with, its minor, the permission it needs and whether it may move a window. -/
def windowMoves (s : State) (c : Fin 257) (ra : Fin 32) : List (Instr × MemOp × Nat × Perm × Bool) :=
  let x := s.ctx c
  [(Instr.wspill c ra, MemOp.spill, 6, Perm.w, decide (2 ≤ x.resident)), (.wfill c ra, .fill, 7, .r, decide (x.resident ≤ 14))]

/-- Each issues its word; where it may move a window its access is made. -/
theorem windowMoves_issue {i : Instr} {op : MemOp} {mn : Nat} {p : Perm} {k : Bool} (h : (i, op, mn, p, k) ∈ windowMoves s c ra) :
    legalWord (c.val == ctxSup) (fmtS 0x28 0 ra 0 mn 0) = true ∧
      exec i s = issued c (fmtS 0x28 0 ra 0 mn 0) (windowMove c ra (fmtS 0x28 0 ra 0 mn 0) op) s ∧
      ∀ u, u.ctx c = s.ctx c → windowMove c ra (fmtS 0x28 0 ra 0 mn 0) op u =
        if !(s.ctx c).wt || !k then .illegal u (fmtS 0x28 0 ra 0 mn 0)
        else u.accessed c false ((s.ctx c).rget ra).toNat 64 p (memWait c op false ((s.ctx c).rget ra).toNat) := by
  unfold windowMoves at h
  simp only [List.mem_cons, Prod.mk.injEq, List.not_mem_nil, or_false] at h
  rcases h with ⟨rfl, rfl, rfl, rfl, rfl⟩ | ⟨rfl, rfl, rfl, rfl, rfl⟩
  · refine ⟨legal_windowMove _ ra (.inl rfl), rfl, fun u hu => ?_⟩
    have hk : decide ((s.ctx c).resident < 2) = !decide (2 ≤ (s.ctx c).resident) := by simp only [← decide_not, Nat.not_le]
    unfold windowMove
    dsimp only
    rw [hu, hk]
    rfl
  · refine ⟨legal_windowMove _ ra (.inr rfl), rfl, fun u hu => ?_⟩
    have hk : decide (14 < (s.ctx c).resident) = !decide ((s.ctx c).resident ≤ 14) := by simp only [← decide_not, Nat.not_le]
    unfold windowMove
    dsimp only
    rw [hu, hk]
    rfl

end

/-! ### The registers they move (R107) -/

/-- The registers of a window in the order of W0-W15. -/
theorem windowRegs_eq (w : Nat) : windowRegs w =
    (List.range 8).map (fun j => 16 + 16 * ((w + 15) % 16) + j) ++ (List.range 8).map (fun j => 8 + 16 * w + j) := by
  unfold windowRegs physReg
  simp [List.range_succ]

theorem mem_windowRegs {w r : Nat} : r ∈ windowRegs w ↔ ∃ j, j < 16 ∧ physReg w (8 + j) = r := by
  simp [windowRegs]

theorem nodup_windowRegs {w : Nat} (hw : w < 16) : (windowRegs w).Nodup :=
  List.Nodup.map_on (fun i hi j hj h => by
    have hi' := List.mem_range.mp hi
    have hj' := List.mem_range.mp hj
    have := physReg_inj hw (by omega) (by omega) h
    omega) List.nodup_range

/-- The oldest window spilled (R107). -/
theorem bytes_spilled (x : Ctx) (w : Nat) : bytesOfWords ((windowRegs w).map x.phys) =
    bytesOfWords ((List.range 8).map (fun j => x.phys (16 + 16 * ((w + 15) % 16) + j)) ++
      (List.range 8).map (fun j => x.phys (8 + 16 * w + j))) := by
  rw [windowRegs_eq, List.map_append, List.map_map, List.map_map]
  rfl

theorem wordOf_bytes (w : Word) :
    (w.extractLsb' 24 8 ++ w.extractLsb' 16 8 ++ w.extractLsb' 8 8 ++ w.extractLsb' 0 8 : Word) = w := by
  ext i hi
  simp only [BitVec.getElem_append, BitVec.getElem_extractLsb']
  split_ifs
  all_goals
    rw [← BitVec.getLsbD_eq_getElem hi]
    congr 1
    omega

theorem wordsOf_bytesOfWords (l : List Word) : wordsOf (bytesOfWords l) = l := by
  induction l with
  | nil => rfl
  | cons w r ih =>
    rw [bytesOfWords, List.flatMap_cons, bytesOf_word]
    exact congrArg₂ List.cons (wordOf_bytes w) ih

/-- Loading words into physical registers, one by one. -/
theorem Ctx.setPhys_all (l : List (Nat × Word)) (x : Ctx) :
    ∃ g, l.foldl (fun x (k, v) => x.setPhys k v) x = { x with regs := g } ∧ ((l.map Prod.fst).Nodup →
      (∀ p ∈ l, Ctx.phys { x with regs := g } p.1 = p.2) ∧
      ∀ r, r ∉ l.map Prod.fst → Ctx.phys { x with regs := g } r = x.phys r) := by
  induction l generalizing x with
  | nil => exact ⟨x.regs, rfl, fun _ => ⟨fun _ h => absurd h List.not_mem_nil, fun _ _ => rfl⟩⟩
  | cons p l ih =>
    obtain ⟨g, hg, hread⟩ := ih (x.setPhys p.1 p.2)
    refine ⟨g, hg, fun hn => ?_⟩
    obtain ⟨hp, hn⟩ := List.nodup_cons.mp hn
    obtain ⟨hin, hout⟩ := hread hn
    refine ⟨fun q hq => ?_, fun r hr => ?_⟩
    · rcases List.mem_cons.mp hq with rfl | hq
      · exact (hout _ hp).trans ((x.phys_setPhys _ _ _).trans (if_pos rfl))
      · exact hin q hq
    · obtain ⟨hrp, hrl⟩ := not_or.mp (mt List.mem_cons.mpr hr)
      exact (hout r hrl).trans ((x.phys_setPhys _ _ _).trans (if_neg hrp))

/-- A window filled with sixteen words (R107). -/
theorem Ctx.filled (x : Ctx) {w : Nat} (hw : w < 16) {ws : List Word} (hlen : ws.length = 16) :
    ∃ g, ((windowRegs w).zip ws).foldl (fun x (k, v) => x.setPhys k v) x = { x with regs := g } ∧
      (∀ j, j < 16 → Ctx.phys { x with regs := g } (physReg w (8 + j)) = ws.getD j 0) ∧
      ∀ r, (∀ j, j < 16 → r ≠ physReg w (8 + j)) → Ctx.phys { x with regs := g } r = x.phys r := by
  have hregs : (windowRegs w).length = 16 := by simp [windowRegs]
  have hfst : ((windowRegs w).zip ws).map Prod.fst = windowRegs w := List.map_fst_zip (by omega)
  obtain ⟨g, hg, hread⟩ := Ctx.setPhys_all ((windowRegs w).zip ws) x
  rw [hfst] at hread
  obtain ⟨hin, hout⟩ := hread (nodup_windowRegs hw)
  refine ⟨g, hg, fun j hj => ?_, fun r hr => hout r fun hmem => ?_⟩
  · have hmem : (physReg w (8 + j), ws.getD j 0) ∈ (windowRegs w).zip ws := by
      rw [List.mem_iff_getElem]
      refine ⟨j, by rw [List.length_zip]; omega, ?_⟩
      rw [List.getElem_zip, List.getD_eq_getElem _ _ (by omega)]
      simp [windowRegs]
    exact hin _ hmem
  · obtain ⟨j, hj, he⟩ := mem_windowRegs.mp hmem
    exact hr j hj he.symm

section
variable {s v : State} {c : Fin 257} {a o : Nat}

/-- A spill whose bytes are written takes one window from the chain (R107). -/
theorem State.memLocal_spill (hloc : s.reach c false a = .mem o)
    (hput : (s.ownFirst c (.mem o)).memWrite c o
      (bytesOfWords ((windowRegs ((s.ownFirst c (.mem o)).ctx c).oldest).map ((s.ownFirst c (.mem o)).ctx c).phys)) = (true, v)) :
    s.memLocal c .spill false a = (v.setCtx c { v.ctx c with resident := (v.ctx c).resident - 1 }).finish c := by
  unfold State.memLocal
  dsimp only
  rw [hloc]
  dsimp only
  rw [hput]
  rfl

end

/-- Settles O56: the checks of WSPILL and WFILL, and the window each moves at its response (`bytes_spilled`, `Ctx.filled`). -/
theorem windowSpillAndFill : Obligations.WindowSpillAndFill := by
  refine ⟨?issue, ?spill, ?fill⟩
  case issue =>
    intro s c ra hr u x a i op mn p k hi
    obtain ⟨hl, he, hdone⟩ := windowMoves_issue hi
    have hdo := hdone u (s.fetched_ctx c c)
    have hmod : a % 2 ^ 48 = a := Nat.mod_eq_of_lt (Nat.lt_trans (x.rget ra).isLt (by decide))
    refine ⟨fun hno => State.traps hr hl he (hdo.trans (if_pos ?_)), fun hwt hk ha => State.traps hr hl he ?_,
      fun hwt hk ha hlow hs => State.waits hr hl he ?_⟩
    · rcases hno with h | h
      · rw [show (s.ctx c).wt = false from h]
        rfl
      · rw [h, Bool.not_false, Bool.or_true]
    · have hgo : ¬((!(s.ctx c).wt || !k) = true) := by rw [show (s.ctx c).wt = true from hwt, hk]; decide
      rw [hdo, if_neg hgo, State.accessed_align (.inl (by rwa [hmod])), hmod]
      rfl
    · have hgo : ¬((!(s.ctx c).wt || !k) = true) := by rw [show (s.ctx c).wt = true from hwt, hk]; decide
      have hok : ¬(a % 2 ^ 48 % 64 ≠ 0 ∨ (regSpace false a ∧ 64 ≠ 4)) := by
        rw [hmod, regSpace_local]
        omega
      rw [hdo, if_neg hgo, State.accessed_passes hok hs, memWait_local]
  case spill =>
    intro s v c a o x hs hloc hddr hhold w regs hput
    have hmove := State.memLocal_spill hloc ((congrArg _ (bytes_spilled x x.oldest)).trans hput)
    refine ⟨_, (exec_memoryResponse hs hloc hddr).trans (congrArg _ hmove), ?_, fun k => State.byteAt_ended _ _ _ k⟩
    rw [State.ctx_ended (by exact hhold), if_pos rfl]
  case fill =>
    intro s v c a o ws x hs hloc hddr hhold hlen hres hread w
    have hw : (x.oldest + 15) % 16 = w := by
      unfold Ctx.oldest
      omega
    obtain ⟨g, hg, hin, hout⟩ := Ctx.filled x (w := w) (by omega) hlen
    have hdata : v.memData c .fill (bytesOfWords ws) =
        (v.setCtx c { x with regs := g, resident := x.resident + 1 }).finish c := by
      unfold State.memData
      dsimp only
      rw [wordsOf_bytesOfWords]
      change (v.setCtx c { ((windowRegs ((x.oldest + 15) % 16)).zip ws).foldl (fun x (k, v) => x.setPhys k v) x with
        resident := (((windowRegs ((x.oldest + 15) % 16)).zip ws).foldl (fun x (k, v) => x.setPhys k v) x).resident + 1 }).finish c = _
      rw [hw, hg]
    refine ⟨(v.setCtx c { x with regs := g, resident := x.resident + 1 }).finish c, ?_, ?_⟩
    · rw [exec_memoryResponse hs hloc hddr, State.memLocal_read (op := .fill) rfl MemOp.noConfusion hloc hread, hdata]
    · rw [State.ctx_ended (by exact hhold), if_pos rfl]
      exact ⟨rfl, rfl, rfl, hin, hout⟩

end Sys2Proof.Machine

end

section

/-! SUPPORT. The stream ports (R134-R137, R177, R191). -/

namespace Sys2Proof.Machine

/-! ### Its words (Table 4.12) -/

theorem notSup {c : Fin 257} (h : c.val ≠ 256) : (c.val == ctxSup) = false := beq_eq_false_iff_ne.mpr h

section
variable {rd ra rb : Fin 32}

theorem legal_push : legalWord false (fmtS 0x2C 0 ra 0 0 0) = true := by
  simp [legalWord]

theorem legal_pushs (hb : rb.val % 2 = 0 ∧ rb.val ≠ 0) : legalWord false (fmtS 0x2C 0 ra rb 1 0) = true := by
  simp [legalWord, isPair_code hb]

theorem legal_pull : legalWord false (fmtS 0x2C rd 0 0 2 0) = true := by
  simp [legalWord]

theorem legal_pullnb (h : rd ≠ ra) : legalWord false (fmtS 0x2C rd ra 0 3 0) = true := by
  have hne : rd.val % 32 ≠ ra.val % 32 := by
    rw [Nat.mod_eq_of_lt rd.isLt, Nat.mod_eq_of_lt ra.isLt]
    exact fun he => h (Fin.ext he)
  simp [legalWord, hne]

theorem legal_pulls (ha : ra.val % 2 = 0 ∧ ra.val ≠ 0) (h : rd ≠ ra) (h1 : rd.val ≠ ra.val + 1) :
    legalWord false (fmtS 0x2C rd ra 0 4 0) = true := by
  have hne : rd.val % 32 ≠ ra.val % 32 := by
    rw [Nat.mod_eq_of_lt rd.isLt, Nat.mod_eq_of_lt ra.isLt]
    exact fun he => h (Fin.ext he)
  have hne1 : rd.val % 32 ≠ ra.val % 32 + 1 := by
    rwa [Nat.mod_eq_of_lt rd.isLt, Nat.mod_eq_of_lt ra.isLt]
  simp [legalWord, isPair_code ha, hne, hne1]

end

/-! ### The transmit queue (R135, R191) -/

theorem State.setBorder_ctxs (s : State) (p : Nat) (b : Bool) : (s.setBorder p b).ctxs = s.ctxs := rfl

/-- Offering a word to the crossbar changes no context. -/
theorem State.offer_ctxs (s : State) (p : Nat) (w : CWord) : (s.offer p w).ctxs = s.ctxs := by
  unfold State.offer
  dsimp only
  split
  · split
    · split
      · exact s.setBorder_ctxs p false
      · exact s.setBorder_ctxs p false
    · rfl
  · split <;> rfl

theorem State.ctx_offer (s : State) (p : Nat) (w : CWord) (d : Nat) : (s.offer p w).ctx d = s.ctx d := by
  rw [State.ctx, State.offer_ctxs]
  rfl

/-- Draining the transmit queue moves no context on. -/
theorem State.pc_txDrain (s : State) (c n : Nat) : ((s.txDrain c n).ctx c).pc = (s.ctx c).pc := by
  induction n generalizing s with
  | zero => rfl
  | succ n ih =>
    unfold State.txDrain
    dsimp only
    split
    next => rfl
    next w r _ =>
      split
      · rfl
      split
      · split
        · rw [ih, State.ctx_offer, State.ctx_setCtx_same]
        · rfl
      · rw [ih, State.ctx_offer, State.ctx_setCtx_same]

theorem State.ctx_enqueue (s : State) (o : StOp) (d : Nat) : (s.enqueue o).ctx d = s.ctx d := rfl

theorem State.pc_txPut (s : State) (c : Nat) (ws : List Word) (st : Option (Stamp × Qual)) :
    ((s.txPut c ws st).ctx c).pc = (s.ctx c).pc := by
  unfold State.txPut
  dsimp only
  split
  next => rw [State.pc_txDrain, State.ctx_setCtx_same]
  next =>
    split
    · rw [State.pc_txDrain, State.ctx_setCtx_same]
    · rw [State.ctx_enqueue, State.ctx_setCtx_same]

/-- The bits of a pair: the even register's below those of the next (R105). -/
theorem Ctx.getLsbD_pget (x : Ctx) (p i : Nat) :
    (x.pget p).getLsbD i = if i < 32 then (x.rget p).getLsbD i else (x.rget (p + 1)).getLsbD (i - 32) := BitVec.getLsbD_append

/-- The three words of PUSHS: the word with bit 0 set, and the stamp in two words (R135, R177). -/
theorem pushsWords_eq (x : Ctx) (ra rb : Nat) : pushsWords x ra rb = [x.rget ra ||| 1, x.rget rb, x.rget (rb + 1) &&& 0xFFFF] := by
  have hmask : ∀ i, (0xFFFF : Word).getLsbD i = decide (i < 16) := fun i => by
    rw [show (0xFFFF : Word) = BitVec.ofNat 32 (2 ^ 16 - 1) from rfl, BitVec.getLsbD_ofNat, Nat.testBit_two_pow_sub_one]
    by_cases hi : i < 16
    · simp [hi, show i < 32 by omega]
    · simp [hi]
  have hlow : (x.stamp rb).extractLsb' 0 32 = x.rget rb := by
    ext i hi
    simp [Ctx.stamp, Ctx.getLsbD_pget, hi]
  have hhigh : ((x.stamp rb).extractLsb' 32 16).setWidth 32 = x.rget (rb + 1) &&& 0xFFFF := by
    apply BitVec.eq_of_getLsbD_eq
    intro i hi
    rw [BitVec.getLsbD_and, hmask]
    by_cases h : i < 16
    · simp [Ctx.stamp, Ctx.getLsbD_pget, h, hi]
    · simp [h]
  rw [pushsWords, hlow, hhigh]

section
variable {s : State} {c : Fin 257} {ws : List Word} {st : Option (Stamp × Qual)}

theorem State.txRoom_iff {x : Ctx} (hx : s.ctx c = x) (n : Nat) : s.txRoom c n = true ↔ x.tx.length + n ≤ 16 := by
  rw [State.txRoom, hx, decide_eq_true_iff]

/-- Words enter the queue where there is room, and the context goes on; without room it waits (R191). -/
theorem pushWords_room (h : (s.ctx c).tx.length + ws.length ≤ 16) (n : Nat) :
    pushWords c ws st n s = .jump (s.txPut c ws st) ((s.ctx c).pc + BitVec.ofNat 32 n) := by
  rw [← s.pc_txPut c ws st]
  exact if_pos ((State.txRoom_iff rfl _).mpr h)

theorem pushWords_full (h : 16 < (s.ctx c).tx.length + ws.length) (n : Nat) : pushWords c ws st n s = .wait s (.push ws st n) :=
  if_neg (mt (State.txRoom_iff rfl _).mp (Nat.not_le.mpr h))

/-- An instruction that pushes words. -/
theorem push_issues {i : Instr} {w : Word} {f : State → Done} (hr : s.Ready c) (hl : legalWord (c.val == ctxSup) w = true)
    (he : exec i s = issued c w f s) (hf : f (s.fetched c) = pushWords c ws none 4 (s.fetched c)) :
    ((s.ctx c).tx.length + ws.length ≤ 16 →
      exec i s = .next (let t := ((s.fetched c).setCtx c { s.ctx c with tx := (s.ctx c).tx ++ ws.map fun w => ⟨w, none⟩ }).txDrain c 17
        t.setCtx c { t.ctx c with pc := (t.ctx c).pc + 4 })) ∧
    (16 < (s.ctx c).tx.length + ws.length → s.Waits c i (.push ws none 4)) := by
  have hx := s.fetched_ctx c c
  refine ⟨fun h => ?_, fun h => State.waits hr hl he (hf.trans (pushWords_full (by rwa [hx]) 4))⟩
  have hpc := (s.fetched c).pc_txPut c ws none
  rw [he, issued, State.issue_jump hr hl (hf.trans (pushWords_room (by rwa [hx]) 4)), ← hpc]
  rw [State.txPut, hx]
  rfl

/-- A PUSH that waits completes once there is room (R191). -/
theorem exec_streamTxRoom {n : Nat} (hs : (s.ctx c).stall = .push ws st n) (h : (s.ctx c).tx.length + ws.length ≤ 16) :
    exec (.streamTxRoom c) s = .next (((s.txPut c ws st).setCtx c
      { (s.txPut c ws st).ctx c with pc := ((s.txPut c ws st).ctx c).pc + BitVec.ofNat 32 n }).resumeCtx c) := by
  have he : exec (.streamTxRoom c) s = execStreamTxRoom c s := rfl
  rw [he, execStreamTxRoom, hs]
  exact if_pos ((State.txRoom_iff rfl _).mpr h)

theorem exec_streamTxRoom_full {n : Nat} (hs : (s.ctx c).stall = .push ws st n) (h : 16 < (s.ctx c).tx.length + ws.length) :
    exec (.streamTxRoom c) s = .next s := by
  have he : exec (.streamTxRoom c) s = execStreamTxRoom c s := rfl
  rw [he, execStreamTxRoom, hs]
  exact if_neg (mt (State.txRoom_iff rfl _).mp (Nat.not_le.mpr h))

end

theorem State.stq_resumeCtx {s : State} {c : Nat} (h : (s.ctx c).holdReq = none) : (s.resumeCtx c).stq = s.stq := by
  rw [State.resumeCtx_runs h, State.stq_setCtxState]
  rfl

/-! ### The receive FIFO (R136, R137) -/

section
variable {x : Ctx} {w : Word} {r : List Word} (rd rf : Nat)

theorem Ctx.pull_cons (h : x.rx = w :: r) : x.pull rd = some ({ x with rx := r }.rset rd w) := by
  rw [Ctx.pull, h]

theorem Ctx.pull_empty (h : x.rx = []) : x.pull rd = none := by
  rw [Ctx.pull, h]

theorem Ctx.pulls_plain (h : x.rx = w :: r) (hw : w.getLsbD 0 = false) :
    x.pulls rd rf = some (({ x with rx := r }.rset rd w).pset rf 0) := by
  rw [Ctx.pulls, h]
  exact if_neg (ne_true_of_eq_false hw)

theorem Ctx.pulls_stamped {a b : Word} (h : x.rx = w :: a :: b :: r) (hw : w.getLsbD 0 = true) :
    x.pulls rd rf = some (({ x with rx := r }.rset rd w).pset rf (b ++ a)) := by
  rw [Ctx.pulls, h]
  exact if_pos hw

theorem Ctx.pulls_empty (h : x.rx = []) : x.pulls rd rf = none := by
  rw [Ctx.pulls, h]

end

/-- A word that arrives where its context waits for nothing goes into the FIFO (R137). -/
theorem exec_streamRxWord {s : State} {i : Fin 256} {w : Word} {r : List CWord}
    (ha : tblGet (fun _ => []) s.cxb.arrived (streamPort i) = ⟨w, none⟩ :: r) (hs : (s.ctx i).stall = .none) :
    exec (.streamRxWord i) s = .next (State.rxPut
      { s with cxb := { s.cxb with arrived := tblSet (fun _ => []) s.cxb.arrived (streamPort i) r } } i w) := by
  have he : exec (.streamRxWord i) s = execStreamRxWord i s := rfl
  have htake : s.takeArrived (streamPort i) =
      some (⟨w, none⟩, { s with cxb := { s.cxb with arrived := tblSet (fun _ => []) s.cxb.arrived (streamPort i) r } }) := by
    rw [State.takeArrived, ha]
  obtain ⟨u, hu⟩ : ∃ u : State, { s with cxb := { s.cxb with arrived := tblSet (fun _ => []) s.cxb.arrived (streamPort i) r } } = u :=
    ⟨_, rfl⟩
  have hx : u.ctx i = s.ctx i := by rw [← hu]; rfl
  rw [hu] at htake ⊢
  have hstall : ((u.rxPut i w).ctx i).stall = .none := by
    unfold State.rxPut
    dsimp only
    split
    · rw [State.ctx_setCtx_same, hx, hs]
    · rw [State.ctx_setCtx_same, hx, hs]
  rw [he, execStreamRxWord, htake]
  dsimp only [CWord.words, List.foldl]
  rw [hstall]

/-- Settles O57: words pushed and their wait (`push_issues`, `exec_streamTxRoom`), words pulled (`Ctx.pull`, `Ctx.pulls`) and a
word that arrives. -/
theorem streamInstructions : Obligations.StreamInstructions := by
  refine ⟨?push, ?pull, ?room, ?stamped, ?arrives⟩
  case push =>
    intro s c ra rb hr hc x u push
    have hx : u.ctx c = x := s.fetched_ctx c c
    refine ⟨push_issues hr (by rw [notSup hc]; exact legal_push) rfl (by rw [hx]), fun h0 h1 => ?_⟩
    refine push_issues hr (by rw [notSup hc]; exact legal_pushs ⟨h0, h1⟩) rfl ?_
    rw [hx, pushsWords_eq]
  case pull =>
    intro s c rd rf hr hc x pair
    have hx : (s.fetched c).ctx c = x := s.fetched_ctx c c
    have hl : ∀ {w}, legalWord false w = true → legalWord (c.val == ctxSup) w = true := fun h => by rw [notSup hc]; exact h
    refine ⟨fun w r hrx => ⟨?_, fun hne => ?_, fun hp hw => ?_, fun a b r' hp hw hr' => ?_⟩, fun hrx => ⟨?_, fun hne => ?_, fun hp => ?_⟩⟩
    · refine State.goesOn hr (hl legal_pull) rfl ?_
      rw [hx, Ctx.pull_cons rd hrx]
    · refine State.goesOn hr (hl (legal_pullnb hne)) rfl ?_
      rw [hx, Ctx.pull_cons rd hrx]
    · obtain ⟨h0, h1, h2, h3⟩ := hp
      refine State.goesOn hr (hl (legal_pulls ⟨h0, h1⟩ h2 h3)) rfl ?_
      rw [hx, Ctx.pulls_plain rd rf hrx hw]
    · obtain ⟨h0, h1, h2, h3⟩ := hp
      refine State.goesOn hr (hl (legal_pulls ⟨h0, h1⟩ h2 h3)) rfl ?_
      rw [hx, Ctx.pulls_stamped rd rf (hr' ▸ hrx) hw]
    · refine State.waits hr (hl legal_pull) rfl ?_
      rw [hx, Ctx.pull_empty rd hrx]
    · refine State.goesOn hr (hl (legal_pullnb hne)) rfl ?_
      rw [hx, Ctx.pull_empty rd hrx]
    · obtain ⟨h0, h1, h2, h3⟩ := hp
      refine State.waits hr (hl (legal_pulls ⟨h0, h1⟩ h2 h3)) rfl ?_
      rw [hx, Ctx.pulls_empty rd rf hrx]
  case room =>
    intro s c ws x hs h
    exact exec_streamTxRoom hs h
  case stamped =>
    intro s c ws st n x hs
    refine ⟨fun h hhold hlate => ?_, fun h => exec_streamTxRoom_full hs h⟩
    obtain ⟨u, hu⟩ : ∃ u, s.txPut c ws (some st) = u := ⟨_, rfl⟩
    have hput : u = (s.setCtx c { x with tx := x.tx ++ ws.map fun w => ⟨w, some st⟩ }).enqueue
        ⟨kindPort, c, st.1, st.2, .words c [], ctxReq c, s.genOf c⟩ := by
      rw [← hu]
      exact if_neg (ne_true_of_eq_false hlate)
    have hctx : u.ctx c = { x with tx := x.tx ++ ws.map fun w => ⟨w, some st⟩ } := by
      rw [hput]
      exact s.ctx_setCtx_same c _
    have hstq : u.stq = s.stq ++ [⟨kindPort, c, st.1, st.2, .words c [], ctxReq c, s.genOf c⟩] := by
      rw [hput]
      rfl
    have hhold' : ((u.setCtx c { u.ctx c with pc := (u.ctx c).pc + BitVec.ofNat 32 n }).ctx c).holdReq = none := by
      rw [State.ctx_setCtx_same, hctx]
      exact hhold
    refine ⟨(u.setCtx c { u.ctx c with pc := (u.ctx c).pc + BitVec.ofNat 32 n }).resumeCtx c, ?_, ?_,
      State.ctxState_resumeCtx hhold', ?_⟩
    · rw [exec_streamTxRoom hs h, hu]
    · rw [State.ctx_resumeCtx hhold', if_pos rfl, State.ctx_setCtx_same, hctx]
    · rw [State.stq_resumeCtx hhold']
      exact hstq
  case arrives =>
    intro s i w r x ha hs
    refine ⟨_, exec_streamRxWord ha hs, ?_⟩
    unfold State.rxPut
    dsimp only
    split
    next h =>
      refine ⟨(State.ctx_setCtx_same _ _ _).trans (if_pos h).symm, fun d hd => ?_, fun k => rfl⟩
      rw [State.ctx_setCtx, if_neg hd]
      rfl
    next h =>
      refine ⟨(State.ctx_setCtx_same _ _ _).trans (if_neg h).symm, fun d hd => ?_, fun k => rfl⟩
      rw [State.ctx_setCtx, if_neg hd]
      rfl

end Sys2Proof.Machine

end

section

/-! SUPPORT. Reads of units leave the index of the device as it was. -/

namespace Sys2Proof.Machine

/-! ### Reads of registers leave the index of the device (R7, R46, R302, R393, R658) -/

section
variable (s : State)

theorem State.id_put {a : Nat} (v : Word) (h : a ≠ LEAT_ID) : (s.put a v).reg LEAT_ID = s.reg LEAT_ID :=
  State.reg_put_other s a LEAT_ID v h.symm

theorem State.id_setF {a : Nat} (f : Field) (x : Nat) (h : a ≠ LEAT_ID) : (s.setF a f x).reg LEAT_ID = s.reg LEAT_ID :=
  State.id_put s _ h

theorem State.id_eccSync : s.eccSync.reg LEAT_ID = s.reg LEAT_ID := by
  have hlow (s : State) (k : Nat) (v : Word) (hk : k < 4) : (s.put (ECC_LOG_W k) v).reg LEAT_ID = s.reg LEAT_ID :=
    s.id_put v (by unfold ECC_LOG_W LEAT_ID; omega)
  unfold State.eccSync
  extract_lets t
  have ht : t.reg LEAT_ID = s.reg LEAT_ID := s.id_setF _ _ (by decide)
  split <;> rw [hlow _ 3 _ (by decide), hlow _ 2 _ (by decide), hlow _ 1 _ (by decide), hlow _ 0 _ (by decide), ht]

theorem State.id_eccError (ue : Bool) (mid req addr : Nat) : (s.eccError ue mid req addr).reg LEAT_ID = s.reg LEAT_ID := by
  unfold State.eccError State.free
  extract_lets t dup
  have ht : t.reg LEAT_ID = s.reg LEAT_ID := s.reg_inc _ _
  split
  · exact ht
  · dsimp only
    split
    · exact (State.id_eccSync _).trans ht
    · have hlost (u : State) : ((u.inc ECC_LOG_LOST_LO).flag ECC_LOG_CTL ECC_LOG_CTL_OVF).reg LEAT_ID = u.reg LEAT_ID :=
        (State.id_setF _ _ _ (by decide)).trans (u.reg_inc _ _)
      split
      · exact (State.id_eccSync _).trans ((hlost _).trans ht)
      · exact (hlost _).trans ht

theorem State.id_codeCheck (req mid base : Nat) (w : Bool) : (s.codeCheck req mid base w).2.reg LEAT_ID = s.reg LEAT_ID := by
  unfold State.codeCheck State.free
  extract_lets e n
  split
  · exact s.id_eccError _ _ _ _
  split
  · rfl
  split
  · exact s.id_eccError _ _ _ _
  split
  · exact s.id_eccError _ _ _ _
  · dsimp only
    split
    · exact State.id_eccError _ _ _ _ _
    · exact State.id_eccError _ _ _ _ _
    · rfl

/-- LEAT_ID has no field that a read clears. -/
theorem State.id_regRead (k : Nat) : (s.regRead k).2.reg LEAT_ID = s.reg LEAT_ID := by
  have hclear : rcMask (fieldsAt LEAT_ID) = 0 := by decide +kernel
  unfold State.regRead
  dsimp only
  by_cases hk : k = LEAT_ID
  · rw [hk, if_pos hclear]
  · split
    · rfl
    · exact s.id_put _ hk

theorem State.id_ctrLoRead (q : Req) (k : Nat) : (s.ctrLoRead q k).2.reg LEAT_ID = s.reg LEAT_ID := by
  unfold State.ctrLoRead hiKeys
  dsimp only
  split <;> rfl

theorem State.id_ctrHiRead (q : Req) (k : Nat) : (s.ctrHiRead q k).2.reg LEAT_ID = s.reg LEAT_ID := by
  unfold State.ctrHiRead
  split <;> rfl

theorem State.id_coefFetch (e b k : Nat) : (s.coefFetch e b k).2.reg LEAT_ID = s.reg LEAT_ID := by
  have hcheck := s.id_codeCheck 0x121 (0x20 + e / 4) (coefAddr e b (k % 8192)) true
  unfold State.coefFetch
  dsimp only
  split
  · rfl
  · generalize s.codeCheck 0x121 (0x20 + e / 4) (coefAddr e b (k % 8192)) true = p at hcheck
    obtain ⟨x, t⟩ := p
    cases x <;> exact hcheck

theorem State.id_incBy (a n : Nat) : (s.incBy a n).reg LEAT_ID = s.reg LEAT_ID := by
  induction n generalizing s with
  | zero => rfl
  | succ n ih => exact (ih (s.inc a)).trans (s.reg_inc _ _)

theorem State.id_coefRead (e : Nat) : (s.coefRead e).2.reg LEAT_ID = s.reg LEAT_ID := by
  have hpoison (u : State) (n : Nat) : (u.coefPoison e n).reg LEAT_ID = u.reg LEAT_ID := by
    unfold State.coefPoison
    split
    · rfl
    · rw [State.id_incBy]
      exact u.id_setF _ _ (by unfold FLT_STATUS LEAT_ID; omega)
  unfold State.coefRead
  extract_lets k bank
  exact (State.id_setF _ _ _ (by unfold FLT_COEF_ADDR LEAT_ID; omega)).trans ((hpoison _ _).trans (s.id_coefFetch e bank k))

theorem State.id_waveDataRead (u : Nat) : (s.waveDataRead u).2.reg LEAT_ID = s.reg LEAT_ID :=
  s.id_setF _ _ (by unfold CEL_WAVE_ADDR LEAT_ID; omega)

theorem State.id_uartRead : s.uartRead.2.reg LEAT_ID = s.reg LEAT_ID := by
  unfold State.uartRead
  split
  · rfl
  · exact (State.id_setF _ _ _ (by decide)).trans (State.id_setF _ _ _ (by decide))

/-- A read of any register at its own address. -/
theorem State.id_keyRead (q : Req) (a : Nat) : (s.keyRead q a a).2.reg LEAT_ID = s.reg LEAT_ID := by
  unfold State.keyRead
  split
  next => exact s.id_ctrLoRead q a
  next => exact s.id_ctrLoRead q a
  next => exact s.id_ctrLoRead q a
  next => exact s.id_ctrLoRead q a
  next => exact s.id_ctrHiRead q a
  next => exact s.id_ctrHiRead q a
  next => exact s.id_ctrHiRead q a
  next => exact s.id_ctrHiRead q a
  next => exact s.id_ctrHiRead q a
  next =>
    split
    · exact s.id_waveDataRead _
    · split
      · exact s.id_coefRead _
      · exact s.id_regRead a
    · exact s.id_setF _ _ (by decide)
    · exact s.id_uartRead
    · exact s.id_regRead a
  next =>
    split
    next h =>
      have hne : a ≠ LEAT_ID := by
        rintro rfl
        exact absurd h.1 (by decide)
      exact (State.id_regRead _ a).trans (s.id_setF _ _ hne)
    split
    · rfl
    split
    · rfl
    split
    · exact s.id_regRead PWR_TMAX
    · exact s.id_regRead a

end

/-- A fold over pairs whose steps keep a property of the state keeps it. -/
theorem foldl_pair_keeps {α β : Type} {P : State → Prop} {f : β × State → α → β × State} (hf : ∀ p x, P p.2 → P (f p x).2)
    (l : List α) (p : β × State) (h : P p.2) : P (l.foldl f p).2 := by
  induction l generalizing p with
  | nil => exact h
  | cons x l ih => exact ih (f p x) (hf p x h)

theorem State.id_urdLocal (s : State) (q : Req) (kinds : List Nat) (off : Nat) (impl : List Word) :
    (s.urdLocal q kinds off impl).2.reg LEAT_ID = s.reg LEAT_ID := by
  have hunits (u : State) (l : List (Nat × Nat)) : (u.readUnits q off l).2.reg LEAT_ID = u.reg LEAT_ID :=
    foldl_pair_keeps (P := fun t => t.reg LEAT_ID = u.reg LEAT_ID)
      (fun p x h => (p.2.id_keyRead q (unitBase x.1 x.2 + off)).trans h) l ([], u) rfl
  refine foldl_pair_keeps (P := fun t => t.reg LEAT_ID = s.reg LEAT_ID) (fun p x h => ?_) impl.zipIdx ([], s) rfl
  dsimp only
  split
  · exact (hunits p.2 _).trans h
  · exact h

theorem State.farDevs_urdLocal (s : State) (q : Req) (kinds : List Nat) (off : Nat) (impl l : List Word) :
    (s.urdLocal q kinds off impl).2.farDevs l = s.farDevs l := by
  have hdev : (s.urdLocal q kinds off impl).2.dev = s.dev := congrArg (fieldGet LEAT_ID_DEV) (s.id_urdLocal q kinds off impl)
  rw [State.farDevs, State.farDevs, hdev]

end Sys2Proof.Machine

end

section

/-! SUPPORT. The unit instructions (R143-R153, R179, R181-R183): their words, the handle and its leaves, and what is done there. -/

namespace Sys2Proof.Machine

/-! ### Their words (Table 4.14) -/

theorem legal_ucmd (sup : Bool) (h a : Nat) {k : Nat} (hk : k ≤ 7) : legalWord sup (fmtUC h k a) = true := by
  obtain ⟨hrd, hop, hlow⟩ := fmtUC_fields h k a
  have hk' : k % 16 ≤ 7 := by omega
  simp [legalWord, hrd, hop, hlow, hk']

/-- The kinds of units an instruction may name (R162). -/
abbrev namesKind (kind : BitVec 4) : Prop := kind.toNat ≤ 4 ∨ kind = 7 ∨ kind = 8

theorem unitKind_of {kind : BitVec 4} (h : namesKind kind) : unitKind kind.toNat = true := by
  rcases h with h | rfl | rfl
  · simp [unitKind, h]
  · rfl
  · rfl

/-- An immediate offset lies within the unit's registers; one in a register is checked as the instruction is performed. -/
def offFits (kind : BitVec 4) : UOff → Prop
  | .imm w => 4 * w.toNat < unitLimit kind.toNat
  | .reg _ => True

section
variable {kind : BitVec 4} {off : UOff} (sup : Bool) (rd h v : Fin 32)

theorem legal_unitReg {ui ux : Nat} (hu : ui = 0x30 ∧ ux = 0x33 ∨ ui = 0x31 ∧ ux = 0x34) (hk : namesKind kind)
    (hfit : offFits kind off) : legalWord sup (unitWord ui ux rd h v kind off) = true := by
  have hkind : kind.toNat % 16 = kind.toNat := Nat.mod_eq_of_lt kind.isLt
  have hunit := unitKind_of hk
  cases off with
  | imm w =>
    have hw : w.toNat % 128 = w.toNat := Nat.mod_eq_of_lt w.isLt
    have hfit' : 4 * w.toNat < unitLimit kind.toNat := hfit
    rcases hu with ⟨rfl, rfl⟩ | ⟨rfl, rfl⟩
    all_goals simp [unitWord, legalWord, hkind, hw, hunit, hfit']
  | reg r =>
    rcases hu with ⟨rfl, rfl⟩ | ⟨rfl, rfl⟩
    all_goals simp [unitWord, legalWord, hkind, hunit, fmtUX_gap]

theorem legal_urd {comb : BitVec 3} (hc : comb.toNat ≤ 5) (hk : namesKind kind) (hfit : offFits kind off) :
    legalWord sup (unitWord 0x32 0x35 rd h comb.toNat kind off) = true := by
  have hkind : kind.toNat % 16 = kind.toNat := Nat.mod_eq_of_lt kind.isLt
  have hunit := unitKind_of hk
  have hc' : comb.toNat < 6 := by omega
  cases off with
  | imm w =>
    obtain ⟨htop, hcomb⟩ := fmtUI_comb 0x32 rd h comb.toNat kind.toNat w.toNat hc'
    have hw : w.toNat % 128 = w.toNat := Nat.mod_eq_of_lt w.isLt
    have hfit' : 4 * w.toNat < unitLimit kind.toNat := hfit
    simp [unitWord, legalWord, hkind, hw, hunit, hfit', htop, hcomb, hc]
  | reg r =>
    obtain ⟨htop, hcomb⟩ := fmtUX_comb 0x35 rd h comb.toNat kind.toNat r.val hc'
    simp [unitWord, legalWord, hkind, hunit, htop, hcomb, hc, fmtUX_gap]

theorem legal_wload : legalWord sup (fmtS 0x37 rd h v 0 0) = true := by
  simp [legalWord]

end

/-! ### The handle and its leaves (R145, R150, R153, R181) -/

/-- Using a leaf list changes the caches alone (R151). -/
theorem State.cacheUse_rest (s : State) (c : Nat) (far : FarReads) (u : Word) : ∃ l, s.cacheUse c far u = { s with caches := l } := by
  unfold State.cacheUse
  split
  · split
    · exact ⟨_, rfl⟩
    · exact ⟨_, rfl⟩
    · exact ⟨s.caches, rfl⟩
  · exact ⟨s.caches, rfl⟩

theorem State.memWords_ctxs (s : State) (req o n : Nat) : (s.memWords req o n).2.ctxs = s.ctxs := by
  have h := s.memRead_ctxs req o (4 * n)
  unfold State.memWords
  generalize s.memRead req o (4 * n) = p at h
  obtain ⟨l, t⟩ := p
  cases l <;> exact h

/-- Reading a handle changes no context. -/
theorem State.handle_ctxs (s : State) (c h : Nat) : (s.handle c h).2.ctxs = s.ctxs := by
  unfold State.handle
  generalize hx : (if c < 256 then _ else _ : Bool × Nat) = x
  obtain ⟨en, base⟩ := x
  dsimp only
  split
  · rfl
  · have hw := s.memWords_ctxs c (base + 8 * h) 2
    generalize s.memWords c (base + 8 * h) 2 = p at hw
    split
    next => exact hw
    next => exact hw

section
variable {u t : State} {c : Nat} {hv : Word} {far : FarReads} {right : Nat} {kinds : List Nat}
  {k : State → Handle → List Word → Done} {e : Handle}

theorem onUnit_applying (ha : u.fld ANG_EPOCH_STAT ANG_EPOCH_STAT_STATE = 4) : onUnit c hv far right kinds k u = .wait u .apply :=
  if_pos ha

section
variable (ha : u.fld ANG_EPOCH_STAT ANG_EPOCH_STAT_STATE ≠ 4)
include ha

theorem onUnit_beyond (hh : 4096 ≤ hv.toNat) :
    onUnit c hv far right kinds k u = unitFault u (hv.toNat % 4096) ufNoHandle 0 := by
  rw [onUnit, if_neg ha, if_pos hh]

variable (hh : hv.toNat < 4096)
include hh

theorem onUnit_noEntry (he : u.handle c hv.toNat = (none, t)) :
    onUnit c hv far right kinds k u = unitFault t (hv.toNat % 4096) ufNoHandle 0 := by
  rw [onUnit, if_neg ha, if_neg (Nat.not_le.mpr hh), Nat.mod_eq_of_lt hh, he]

theorem onUnit_noRight (he : u.handle c hv.toNat = (some e, t)) (hb : bitOf e.rights right = false) :
    onUnit c hv far right kinds k u = unitFault t (hv.toNat % 4096) ufRights e.unit := by
  rw [onUnit, if_neg ha, if_neg (Nat.not_le.mpr hh), Nat.mod_eq_of_lt hh, he]
  dsimp only
  rw [hb]
  rfl

variable (he : u.handle c hv.toNat = (some e, t)) (hb : bitOf e.rights right = true)
include he hb

theorem onUnit_fault {sub : Nat} {w : Word} (hres : t.resolve c far e kinds = .error (sub, w)) :
    onUnit c hv far right kinds k u = unitFault (t.cacheUse c far e.unit) (hv.toNat % 4096) sub w := by
  rw [onUnit, if_neg ha, if_neg (Nat.not_le.mpr hh), Nat.mod_eq_of_lt hh, he]
  dsimp only
  rw [hb, hres]
  rfl

theorem onUnit_leaves {impl : List Word} (hres : t.resolve c far e kinds = .ok impl) :
    onUnit c hv far right kinds k u = k (t.cacheUse c far e.unit) e impl := by
  rw [onUnit, if_neg ha, if_neg (Nat.not_le.mpr hh), Nat.mod_eq_of_lt hh, he]
  dsimp only
  rw [hb, hres]
  rfl

end

end

/-! ### What is done at the leaves (R146-R149, R182) -/

section
variable {s t : State} {c : Fin 257} {i : Instr} {w : Word} {f : State → Done} (hr : s.Ready c)
  (hl : legalWord (c.val == ctxSup) w = true) (he : exec i s = issued c w f s)
include hr hl he

/-- An instruction that traps after its fetch has gone on to `t`. -/
theorem State.trapsFrom {x : Trap} (hf : f (s.fetched c) = .trap t x) : exec i s = .next (t.trapEnter c x (s.ctx c).pc).2 := by
  rw [he, issued, State.issue_trap hr hl hf]

theorem State.nextFrom (hf : f (s.fetched c) = .next t) : exec i s = .next (t.setCtx c ((t.ctx c).onward (s.ctx c).pc)) := by
  rw [he, issued, State.issue_next hr hl hf]

theorem State.jumpFrom {pc : Word} (hf : f (s.fetched c) = .jump t pc) : exec i s = .next (t.setCtx c { t.ctx c with pc := pc }) := by
  rw [he, issued, State.issue_jump hr hl hf]

theorem State.waitFrom {st : Stall} (hf : f (s.fetched c) = .wait t st) :
    exec i s = .next ((t.setCtx c { t.ctx c with stall := st }).setCtxState c (if st.isMem then ctxRun else ctxWait)) := by
  rw [he, issued, State.issue_wait hr hl hf]

/-- An operation at its leaves: it is handed over and the instruction goes on. -/
theorem State.actsFrom {r : UnitReq} {e : Handle} {impl : List Word} {rd : Nat}
    (hf : f (s.fetched c) = unitAct c rd r none t e impl) : exec i s = .next (unitDone t c r none e impl rd 4 (s.ctx c).pc) :=
  State.nextFrom hr hl he hf

end

section
variable {u : State} {c h : Nat} {kind : BitVec 4} {off : UOff} {far : FarReads} {right : Nat}
  {k : Nat → State → Handle → List Word → Done} {x : Ctx} (hx : u.ctx c = x)
include hx

theorem onUnitReg_misaligned (ho : x.unitOff off % 4 ≠ 0) :
    onUnitReg c h kind off far right k u = .raise u trAlign 0 (BitVec.ofNat 64 (x.unitOff off)) := by
  rw [onUnitReg, hx]
  exact if_pos ho

theorem onUnitReg_aligned (ho : x.unitOff off % 4 = 0) : onUnitReg c h kind off far right k u =
    onUnit c (x.rget h) far right [kind.toNat] (fun s e impl =>
      if unitLimit kind.toNat ≤ x.unitOff off then .raise s trBuserr busRange (BitVec.ofNat 64 (x.unitOff off))
      else k (x.unitOff off) s e impl) u := by
  rw [onUnitReg, hx]
  exact if_neg (not_not_intro ho)

end

section
variable {s : State} {c : Fin 257} {rd h v : Fin 32} {kind : BitVec 4} {off : UOff} {a : Byte} {far : FarReads}

/-- The UCMD rows with their codes. -/
def ucmdRows (c : Fin 257) (h : Fin 32) (a : Byte) (far : FarReads) : List (Instr × Nat) :=
  [(Instr.ucmdEnable c h a far, 0), (.ucmdDisable c h a far, 1), (.ucmdStart c h a far, 2), (.ucmdStop c h a far, 3),
    (.ucmdFire c h a far, 4), (.ucmdTrig c h a far, 5), (.ucmdSafe c h a far, 6), (.ucmdClear c h a far, 7)]

theorem ucmdRows_issue {i : Instr} {k : Nat} (hi : (i, k) ∈ ucmdRows c h a far) :
    k ≤ 7 ∧ exec i s = issued c (fmtUC h k a.toNat) (ucmdF c h (BitVec.ofNat 4 k) a far none) s := by
  unfold ucmdRows at hi
  simp only [List.mem_cons, Prod.mk.injEq, List.not_mem_nil, or_false] at hi
  rcases hi with ⟨rfl, rfl⟩ | ⟨rfl, rfl⟩ | ⟨rfl, rfl⟩ | ⟨rfl, rfl⟩ | ⟨rfl, rfl⟩ | ⟨rfl, rfl⟩ | ⟨rfl, rfl⟩ | ⟨rfl, rfl⟩
  all_goals exact ⟨by decide, rfl⟩

/-- UWR and STG with the right each needs. -/
def regRows (x : Ctx) (c : Fin 257) (rd h v : Fin 32) (kind : BitVec 4) (off : UOff) (far : FarReads) : List (Instr × UnitReq × Nat) :=
  [(Instr.uwr c rd h v kind off far, UnitReq.uwr kind (BitVec.ofNat 12 (x.unitOff off)) (x.rget v), 1),
    (.stg c rd h v kind off far, .stg kind (BitVec.ofNat 12 (x.unitOff off)) (x.rget v), 2)]

/-- Each acts on its unit's register at the leaves of its handle. -/
theorem regRows_issue {i : Instr} {r : UnitReq} {n : Nat} (hk : namesKind kind) (hfit : offFits kind off)
    (hi : (i, r, n) ∈ regRows (s.ctx c) c rd h v kind off far) : ∃ (w : Word) (g : State → Done)
      (k : State → Nat → State → Handle → List Word → Done), legalWord (c.val == ctxSup) w = true ∧
      exec i s = issued c w g s ∧ (∀ u : State, u.ctx c = s.ctx c → g u = onUnitReg c h kind off far n (k u) u) ∧
      ∀ u : State, u.ctx c = s.ctx c → k u ((s.ctx c).unitOff off) = unitAct c rd r none := by
  unfold regRows at hi
  simp only [List.mem_cons, Prod.mk.injEq, List.not_mem_nil, or_false] at hi
  rcases hi with ⟨rfl, rfl, rfl⟩ | ⟨rfl, rfl, rfl⟩
  · refine ⟨_, _, fun u o => unitAct c rd (.uwr kind (BitVec.ofNat 12 o) ((u.ctx c).rget v)) none,
      legal_unitReg _ rd h v (.inl ⟨rfl, rfl⟩) hk hfit, rfl, fun u hu => rfl, fun u hu => ?_⟩
    dsimp only
    rw [hu]
  · refine ⟨_, _, fun u o => unitAct c rd (.stg kind (BitVec.ofNat 12 o) ((u.ctx c).rget v)) none,
      legal_unitReg _ rd h v (.inr ⟨rfl, rfl⟩) hk hfit, rfl, fun u hu => rfl, fun u hu => ?_⟩
    dsimp only
    rw [hu]

end

/-- A read of local units whose tiles are awake (R147). -/
theorem urdAct_local {s t : State} {c rd hreg comb o : Nat} {kind : BitVec 4} {e : Handle} {impl : List Word}
    {vals : List (Nat × Word)} (hawake : ∀ w ∈ impl, ∀ y ∈ leafUnits [kind.toNat] w, s.tileHolds y.1 y.2 = false)
    (hfar : s.farDevs impl = []) (hvals : s.urdLocal (ctxReq c) [kind.toNat] o impl = (vals, t)) :
    urdAct c rd hreg comb kind o s e impl =
      .next ((t.urdValue comb vals).2.setCtx c (((t.urdValue comb vals).2.ctx c).rset rd (t.urdValue comb vals).1)) := by
  have hnone : ((impl.filter fun u => uDev u == s.dev).flatMap (leafUnits [kind.toNat])).filterMap
      (fun x => if s.tileHolds x.1 x.2 then unitTile x.1 x.2 else none) = [] := by
    rw [List.filterMap_eq_nil_iff]
    intro y hy
    obtain ⟨w, hw, hyw⟩ := List.mem_flatMap.mp hy
    rw [hawake w (List.mem_of_mem_filter hw) y hyw]
    rfl
  have hfar' : t.farDevs impl = [] := by
    have h := s.farDevs_urdLocal (ctxReq c) [kind.toNat] o impl impl
    rw [hvals] at h
    exact h.trans hfar
  unfold urdAct
  dsimp only
  rw [hnone, hvals]
  dsimp only
  rw [hfar']
  rfl

/-! ### AT (R143, R144, R179) -/

section
variable {c : Fin 257} {ra rd h v b : Fin 32} {kind k : BitVec 4} {a : Byte} {w7 : BitVec 7} {far : FarReads} {st : Stamp × Qual}

/-- What AT does once it is issued. -/
def atDone (c : Fin 257) (ra : Fin 32) (q : BitVec 2) (w : Word) (far : FarReads) (s : State) : Done :=
  match s.fetch c ((s.ctx c).pc + 4) with
  | (some sub, s') => .raise s' trBuserr sub (((s.ctx c).pc + 4).setWidth 64)
  | (none, s') =>
    if !legalWord (c.val == ctxSup) w || !mayFollowAt w then .illegal s' w
    else if Stamp.beyond ((s.ctx c).stamp ra) s'.angle then angleLate s' 1 ((s.ctx c).stamp ra)
    else stampedWord c w far ((s.ctx c).stamp ra, qualOf q.toNat) s'

theorem exec_atStamp (s : State) (q : BitVec 2) (w : Word) :
    exec (.atStamp c ra q w far) s = issued c (fmtS 0x2D 0 ra 0 5 q.toNat) (atDone c ra q w far) s := rfl

theorem legal_at (sup : Bool) {q : Nat} (ha : ra.val % 2 = 0 ∧ ra.val ≠ 0) (hq : q ≤ 2) :
    legalWord sup (fmtS 0x2D 0 ra 0 5 q) = true := by
  have hq' : q % 32 = q := by omega
  simp [legalWord, isPair_code ha, hq', hq]

/-- The instruction after AT, its word fetched, legal and in its place, its stamp within the horizon. -/
theorem atDone_second {u u1 : State} {x : Ctx} {q : BitVec 2} {w : Word} (hx : u.ctx c = x) (hfetch : u.fetch c (x.pc + 4) = (none, u1))
    (hl : legalWord (c.val == ctxSup) w = true) (hm : mayFollowAt w = true) (hb : Stamp.beyond (x.stamp ra) u1.angle = false) :
    atDone c ra q w far u = stampedWord c w far (x.stamp ra, qualOf q.toNat) u1 := by
  unfold atDone
  rw [hx, hfetch]
  dsimp only
  rw [hl, hm, hb]
  rfl

theorem fmtUC_operands (h k a : Nat) : wRa (fmtUC h k a) = h % 32 ∧ wbits (fmtUC h k a) 15 12 = k % 16 ∧ wbits (fmtUC h k a) 11 4 = a % 256 := by
  simp only [wRa, wbits, fmtUC_toNat]
  omega

theorem fmtUI_operands (m rd h v k o : Nat) : wRd (fmtUI m rd h v k o) = rd % 32 ∧ wRa (fmtUI m rd h v k o) = h % 32 := by
  simp only [wRd, wRa, wbits, fmtUI_toNat]
  omega

theorem fmtUX_operands (m rd h v k r : Nat) : wRd (fmtUX m rd h v k r) = rd % 32 ∧ wRa (fmtUX m rd h v k r) = h % 32 ∧
    wbits (fmtUX m rd h v k r) 4 0 = r % 32 := by
  simp only [wRd, wRa, wbits, fmtUX_toNat]
  omega

theorem stampedWord_ucmd (s : State) : stampedWord c (fmtUC h k.toNat a.toNat) far st s = ucmdF c h k a far (some st) s := by
  obtain ⟨hh, hk, ha⟩ := fmtUC_operands h k.toNat a.toNat
  unfold stampedWord
  rw [fmtUC_wMajor]
  dsimp only
  rw [hh, hk, ha, Nat.mod_eq_of_lt h.isLt, Nat.mod_eq_of_lt k.isLt, Nat.mod_eq_of_lt a.isLt, BitVec.ofNat_toNat, BitVec.ofNat_toNat,
    BitVec.setWidth_eq, BitVec.setWidth_eq]
  rfl

theorem stampedWord_uwr (s : State) : stampedWord c (fmtUI 0x30 rd h v kind.toNat w7.toNat) far st s =
    uwrF c rd h v kind (.imm w7) far (some st) s := by
  obtain ⟨hrd, hh⟩ := fmtUI_operands 0x30 rd h v kind.toNat w7.toNat
  unfold stampedWord
  rw [fmtUI_wMajor]
  dsimp only
  rw [hrd, hh, fmtUI_wRb, fmtUI_wKind, fmtUI_wOff, Nat.mod_eq_of_lt rd.isLt, Nat.mod_eq_of_lt h.isLt, Nat.mod_eq_of_lt v.isLt,
    Nat.mod_eq_of_lt kind.isLt, Nat.mod_eq_of_lt w7.isLt, BitVec.ofNat_toNat, BitVec.ofNat_toNat, BitVec.setWidth_eq, BitVec.setWidth_eq]
  rfl

theorem stampedWord_uwrX (s : State) : stampedWord c (fmtUX 0x33 rd h v kind.toNat b) far st s =
    uwrF c rd h v kind (.reg b) far (some st) s := by
  obtain ⟨hrd, hh, hb⟩ := fmtUX_operands 0x33 rd h v kind.toNat b
  unfold stampedWord
  rw [fmtUX_wMajor]
  dsimp only
  rw [hrd, hh, hb, fmtUX_wRb, fmtUX_wKind, Nat.mod_eq_of_lt rd.isLt, Nat.mod_eq_of_lt h.isLt, Nat.mod_eq_of_lt v.isLt,
    Nat.mod_eq_of_lt kind.isLt, Nat.mod_eq_of_lt b.isLt, BitVec.ofNat_toNat, BitVec.setWidth_eq, Fin.ofNat_val_eq_self]
  rfl

theorem stampedWord_pinw (s : State) : stampedWord c (fmtS 0x39 0 v 0 0 0) far st s = pinwF c v (some st) s := by
  unfold stampedWord
  rw [fmtS_wMajor, fmtS_wRa, Nat.mod_eq_of_lt v.isLt]
  rfl

theorem stampedWord_push (s : State) : stampedWord c (fmtS 0x2C 0 v 0 0 0) far st s =
    pushWords c [(s.ctx c).rget v] (some st) 8 s := by
  unfold stampedWord
  rw [fmtS_wMajor, fmtS_wMinor, fmtS_wRa, Nat.mod_eq_of_lt v.isLt]
  rfl

theorem stampedWord_pushs (s : State) : stampedWord c (fmtS 0x2C 0 v b 1 0) far st s =
    pushWords c [(s.ctx c).rget v ||| 1, (s.ctx c).rget b, (s.ctx c).rget (b + 1) &&& 0xFFFF] (some st) 8 s := by
  unfold stampedWord
  rw [fmtS_wMajor, fmtS_wMinor, fmtS_wRa, fmtS_wRb, Nat.mod_eq_of_lt v.isLt, Nat.mod_eq_of_lt b.isLt, ← pushsWords_eq]
  rfl

end

end Sys2Proof.Machine

end

section

/-! SUPPORT. O59: the unit instructions, and AT before one of them. -/

namespace Sys2Proof.Machine

/-! ### Nothing of a handle touches the context -/

section
variable {u t : State} {c h : Nat} {far : FarReads} {e : Handle}

theorem ctx_handle {o : Option Handle} (he : u.handle c h = (o, t)) : t.ctx c = u.ctx c := by
  have hk := u.handle_ctxs c h
  rw [he] at hk
  exact congrArg (fun l => tblGet (fun _ => Ctx.reset) l c) hk

theorem ctx_cacheUse (w : Word) : (t.cacheUse c far w).ctx c = t.ctx c := by
  obtain ⟨l, hl⟩ := t.cacheUse_rest c far w
  rw [hl]
  rfl

theorem tileHolds_cacheUse (w : Word) (k i : Nat) : (t.cacheUse c far w).tileHolds k i = t.tileHolds k i := by
  obtain ⟨l, hl⟩ := t.cacheUse_rest c far w
  rw [hl]
  rfl

theorem farDevs_cacheUse (w : Word) (l : List Word) : (t.cacheUse c far w).farDevs l = t.farDevs l := by
  obtain ⟨m, hm⟩ := t.cacheUse_rest c far w
  rw [hm]
  rfl

end

/-! ### UCMD, UWR, STG, URD and WLOAD -/

section
variable {s t : State} {c : Fin 257} {rd h v n : Fin 32} {kind : BitVec 4} {off : UOff} {a : Byte} {far : FarReads} {i : Instr}
  {e : Handle} {impl : List Word}

/-- What WLOAD does at its leaves. -/
def wloadAct (c : Fin 257) (n a : Nat) (s : State) (e : Handle) (impl : List Word) : Done :=
  if n = 0 then .next s
  else if (List.range n).any fun j => s.locHalted (s.locLocal c (a + 4 * j)) then .wait s .apply
  else match s.wloadWords c a n with
    | (.error sub, s) => .raise s trBuserr sub (BitVec.ofNat 64 a)
    | (.ok ws, s) => unitAct c 0 (.wload ws) none s e impl

theorem wloadAct_none (a : Nat) : wloadAct c 0 a t e impl = .next t := rfl

theorem wloadAct_stands {k a : Nat} (hk : k ≠ 0) (hs : ((List.range k).any fun j => t.locHalted (t.locLocal c (a + 4 * j))) = true) :
    wloadAct c k a t e impl = .wait t .apply := by
  rw [wloadAct, if_neg hk, if_pos hs]

theorem wloadAct_words {k a : Nat} (hk : k ≠ 0) (hs : ((List.range k).any fun j => t.locHalted (t.locLocal c (a + 4 * j))) = false) :
    wloadAct c k a t e impl = match t.wloadWords c a k with
      | (.error sub, s) => .raise s trBuserr sub (BitVec.ofNat 64 a)
      | (.ok ws, s) => unitAct c 0 (.wload ws) none s e impl := by
  rw [wloadAct, if_neg hk, if_neg (ne_true_of_eq_false hs)]

/-- What WLOAD does once it is issued. -/
def wloadF (c : Fin 257) (n h addr : Fin 32) (far : FarReads) (s : State) : Done :=
  let a := ((s.ctx c).rget addr).toNat
  if a % 4 ≠ 0 then .raise s trAlign 0 (BitVec.ofNat 64 a)
  else onUnit c ((s.ctx c).rget h) far 8 [0, 2] (wloadAct c ((s.ctx c).rget n).toNat a) s

theorem wload_issue (addr : Fin 32) : exec (.wload c n h addr far) s = issued c (fmtS 0x37 n h addr 0 0) (wloadF c n h addr far) s := rfl

theorem wloadF_misaligned {u : State} {x : Ctx} {addr : Fin 32} (hx : u.ctx c = x) (ho : (x.rget addr).toNat % 4 ≠ 0) :
    wloadF c n h addr far u = .raise u trAlign 0 (BitVec.ofNat 64 (x.rget addr).toNat) := by
  rw [wloadF, hx]
  exact if_pos ho

theorem wloadF_aligned {u : State} {x : Ctx} {addr : Fin 32} (hx : u.ctx c = x) (ho : (x.rget addr).toNat % 4 = 0) :
    wloadF c n h addr far u =
      onUnit c (x.rget h) far 8 [0, 2] (wloadAct c (x.rget n).toNat (x.rget addr).toNat) u := by
  rw [wloadF, hx]
  exact if_neg (not_not_intro ho)

variable (hr : s.Ready c)
include hr

/-- UWR and STG (R182): ALIGN first. -/
theorem unitReg_misaligned {r : UnitReq} {k : Nat} (hk : namesKind kind) (hfit : offFits kind off)
    (hi : (i, r, k) ∈ regRows (s.ctx c) c rd h v kind off far) (ho : (s.ctx c).unitOff off % 4 ≠ 0) :
    s.Traps c i ⟨trAlign, 0, false, some (BitVec.ofNat 64 ((s.ctx c).unitOff off))⟩ := by
  have hx := s.fetched_ctx c c
  obtain ⟨w, g, f, hl, he, hg, hf⟩ := regRows_issue hk hfit hi
  exact State.traps hr hl he ((hg _ hx).trans (onUnitReg_misaligned hx ho))

/-- RANGE after the faults of the unit, and the operation. -/
theorem unitReg_acts {r : UnitReq} {k : Nat} (hk : namesKind kind) (hfit : offFits kind off)
    (hi : (i, r, k) ∈ regRows (s.ctx c) c rd h v kind off far) (ho : (s.ctx c).unitOff off % 4 = 0)
    (ha : (s.fetched c).fld ANG_EPOCH_STAT ANG_EPOCH_STAT_STATE ≠ 4) (hh : ((s.ctx c).rget h).toNat < 4096)
    (hhd : (s.fetched c).handle c ((s.ctx c).rget h).toNat = (some e, t)) (hb : bitOf e.rights k = true)
    (hres : t.resolve c far e [kind.toNat] = .ok impl) :
    (unitLimit kind.toNat ≤ (s.ctx c).unitOff off → exec i s = .next ((t.cacheUse c far e.unit).trapEnter c
      ⟨trBuserr, busRange, false, some (BitVec.ofNat 64 ((s.ctx c).unitOff off))⟩ (s.ctx c).pc).2) ∧
    ((s.ctx c).unitOff off < unitLimit kind.toNat →
      exec i s = .next (unitDone (t.cacheUse c far e.unit) c r none e impl rd 4 (s.ctx c).pc)) := by
  have hx := s.fetched_ctx c c
  obtain ⟨w, g, f, hl, he, hg, hf⟩ := regRows_issue hk hfit hi
  have hleaf := (hg _ hx).trans ((onUnitReg_aligned hx ho).trans (onUnit_leaves ha hh hhd hb hres))
  refine ⟨fun hlim => State.trapsFrom hr hl he (hleaf.trans (if_pos hlim)), fun hlim => State.actsFrom hr hl he ?_⟩
  rw [hleaf, if_neg (Nat.not_le.mpr hlim), hf _ hx]

theorem urd_reads {comb : BitVec 3} {vals : List (Nat × Word)} {t2 : State} (hk : namesKind kind) (hc : comb.toNat ≤ 5)
    (hfit : offFits kind off) (ho : (s.ctx c).unitOff off % 4 = 0) (hlim : (s.ctx c).unitOff off < unitLimit kind.toNat)
    (ha : (s.fetched c).fld ANG_EPOCH_STAT ANG_EPOCH_STAT_STATE ≠ 4) (hh : ((s.ctx c).rget h).toNat < 4096)
    (hhd : (s.fetched c).handle c ((s.ctx c).rget h).toNat = (some e, t)) (hb : bitOf e.rights 0 = true)
    (hres : t.resolve c far e [kind.toNat] = .ok impl) (hfar : t.farDevs impl = [])
    (hawake : ∀ w ∈ impl, ∀ y ∈ leafUnits [kind.toNat] w, t.tileHolds y.1 y.2 = false)
    (hvals : (t.cacheUse c far e.unit).urdLocal (ctxReq c) [kind.toNat] ((s.ctx c).unitOff off) impl = (vals, t2)) :
    exec (.urd c rd h comb kind off far) s =
      .next (let w := t2.urdValue comb.toNat vals
        let t := w.2.setCtx c ((w.2.ctx c).rset rd w.1)
        t.setCtx c ((t.ctx c).onward (s.ctx c).pc)) := by
  refine State.nextFrom hr (legal_urd _ rd h hc hk hfit) rfl ?_
  refine ((onUnitReg_aligned (s.fetched_ctx c c) ho).trans (onUnit_leaves ha hh hhd hb hres)).trans ?_
  refine (if_neg (Nat.not_le.mpr hlim)).trans ?_
  rw [s.fetched_ctx c c]
  refine urdAct_local (fun w hw y hy => ?_) ((farDevs_cacheUse _ _).trans hfar) hvals
  rw [tileHolds_cacheUse]
  exact hawake w hw y hy


end

/-! ### AT -/

section
variable {s t u1 : State} {c : Fin 257} {ra rd h v : Fin 32} {q : BitVec 2} {w : Word} {far : FarReads} {e : Handle}
  {impl : List Word} (hr : s.Ready c) (hra : ra.val % 2 = 0 ∧ ra.val ≠ 0) (hq : q.toNat ≤ 2)
  (hfetch : (s.fetched c).fetch c ((s.ctx c).pc + 4) = (none, u1)) (hb : Stamp.beyond ((s.ctx c).stamp ra) u1.angle = false)
  (hl : legalWord (c.val == ctxSup) w = true) (hm : mayFollowAt w = true)

/-- Reading the second word changes no context. -/
theorem ctx_second (hfetch : (s.fetched c).fetch c ((s.ctx c).pc + 4) = (none, u1)) : u1.ctx c = s.ctx c := by
  have hk := (s.fetched c).fetch_ctxs c ((s.ctx c).pc + 4)
  rw [hfetch] at hk
  have hc : u1.ctx c = (s.fetched c).ctx c := congrArg (fun l => tblGet (fun _ => Ctx.reset) l c) hk
  rw [hc, s.fetched_ctx]

include hr hra hq hfetch hb hl hm

theorem at_goes {st : Stamp × Qual} (hst : st = ((s.ctx c).stamp ra, qualOf q.toNat))
    (hf : stampedWord c w far st u1 = .jump t ((s.ctx c).pc + 8)) :
    exec (.atStamp c ra q w far) s = .next (t.setCtx c { t.ctx c with pc := (s.ctx c).pc + 8 }) := by
  refine State.jumpFrom hr (legal_at _ hra hq) (exec_atStamp s q w) ?_
  rw [atDone_second (s.fetched_ctx c c) hfetch hl hm hb, ← hst, hf]

theorem at_waits {st : Stamp × Qual} {y : Stall} (hst : st = ((s.ctx c).stamp ra, qualOf q.toNat)) (hy : y.isMem = false)
    (hf : stampedWord c w far st u1 = .wait t y) :
    exec (.atStamp c ra q w far) s = .next ((t.setCtx c { t.ctx c with stall := y }).setCtxState c 2) := by
  rw [State.waitFrom hr (legal_at _ hra hq) (exec_atStamp s q w) ((atDone_second (s.fetched_ctx c c) hfetch hl hm hb).trans (hst ▸ hf)), hy]
  rfl

/-- AT before an instruction on a unit: it is handed over stamped where there is room, and waits otherwise (R143, R144). -/
theorem at_unit {n : Nat} {r : UnitReq} {st : Stamp × Qual} (hst : st = ((s.ctx c).stamp ra, qualOf q.toNat)) (hx : t.ctx c = s.ctx c)
    (hf : stampedWord c w far st u1 = unitAct c n r (some st) t e impl) :
    let ops := t.localOps (ctxReq c) (t.genOf c) r (some st) impl
    let sends := (t.farDevs impl).map fun d => (d, uopArgs r (some st) impl d)
    let done := t.unitGo c ops sends e.unit n true
    (t.roomFor ops = true → exec (.atStamp c ra q w far) s = .next (done.setCtx c { done.ctx c with pc := (s.ctx c).pc + 8 })) ∧
    (t.roomFor ops = false → exec (.atStamp c ra q w far) s =
      .next ((t.setCtx c { t.ctx c with stall := .ops ops sends e.unit.toNat n }).setCtxState c 2)) := by
  refine ⟨fun hroom => at_goes hr hra hq hfetch hb hl hm hst (hf.trans ?_),
    fun hroom => at_waits hr hra hq hfetch hb hl hm hst rfl (hf.trans ?_)⟩
  · rw [← hx]
    exact if_pos hroom
  · exact if_neg (ne_true_of_eq_false hroom)

/-- AT before PUSH and PUSHS. -/
theorem at_push {ws : List Word} {st : Stamp × Qual} (hst : st = ((s.ctx c).stamp ra, qualOf q.toNat))
    (hf : stampedWord c w far st u1 = pushWords c ws (some st) 8 u1) :
    let done := u1.txPut c ws (some st)
    ((s.ctx c).tx.length + ws.length ≤ 16 →
      exec (.atStamp c ra q w far) s = .next (done.setCtx c { done.ctx c with pc := (s.ctx c).pc + 8 })) ∧
    (16 < (s.ctx c).tx.length + ws.length → exec (.atStamp c ra q w far) s =
      .next ((u1.setCtx c { s.ctx c with stall := .push ws (some st) 8 }).setCtxState c 2)) := by
  have hx := ctx_second hfetch
  refine ⟨fun hroom => at_goes hr hra hq hfetch hb hl hm hst (hf.trans ?_), fun hroom => ?_⟩
  · rw [pushWords_room (by rwa [hx]), hx]
    rfl
  · rw [← hx]
    exact at_waits hr hra hq hfetch hb hl hm hst rfl (hf.trans (pushWords_full (by rwa [hx]) 8))

end

/-- A UWR whose checks pass acts at its leaves. -/
theorem uwrF_acts {u t : State} {c : Nat} {x : Ctx} {rd h v : Nat} {kind : BitVec 4} {off : UOff} {far : FarReads}
    {st : Option (Stamp × Qual)} {e : Handle} {impl : List Word} (hx : u.ctx c = x) (ho : x.unitOff off % 4 = 0)
    (hlim : x.unitOff off < unitLimit kind.toNat) (ha : u.fld ANG_EPOCH_STAT ANG_EPOCH_STAT_STATE ≠ 4) (hh : (x.rget h).toNat < 4096)
    (he : u.handle c (x.rget h).toNat = (some e, t)) (hb : bitOf e.rights 1 = true) (hres : t.resolve c far e [kind.toNat] = .ok impl) :
    uwrF c rd h v kind off far st u =
      unitAct c rd (.uwr kind (BitVec.ofNat 12 (x.unitOff off)) (x.rget v)) st (t.cacheUse c far e.unit) e impl := by
  rw [uwrF, onUnitReg_aligned hx ho, onUnit_leaves ha hh he hb hres, hx]
  exact if_neg (Nat.not_le.mpr hlim)

/-- The stamped words that act on a unit: each is legal, may follow AT, and acts at its leaves. -/
theorem atRows_act {u1 t : State} {c : Fin 257} {x : Ctx} {rd h v b : Fin 32} {k kind : BitVec 4} {a : Byte} {w7 : BitVec 7}
    {far : FarReads} {st : Stamp × Qual} {w : Word} {r : UnitReq} {n : Nat} {e : Handle} {impl : List Word} (sup : Bool)
    (hx : u1.ctx c = x) (hk : k.toNat ≤ 7)
    (hi : (w, r, n) ∈ [(fmtUC h k.toNat a.toNat, UnitReq.ucmd k a, 0)] ++
      (if namesKind kind ∧ 4 * w7.toNat < unitLimit kind.toNat
        then [(fmtUI 0x30 rd h v kind.toNat w7.toNat, .uwr kind (BitVec.ofNat 12 (4 * w7.toNat)) (x.rget v), rd.val)] else []) ++
      (if namesKind kind ∧ (x.rget b).toNat % 4 = 0 ∧ (x.rget b).toNat < unitLimit kind.toNat
        then [(fmtUX 0x33 rd h v kind.toNat b, .uwr kind (BitVec.ofNat 12 (x.rget b).toNat) (x.rget v), rd.val)] else []))
    (ha : u1.fld ANG_EPOCH_STAT ANG_EPOCH_STAT_STATE ≠ 4) (hh : (x.rget h).toNat < 4096)
    (he : u1.handle c (x.rget h).toNat = (some e, t)) (hb : bitOf e.rights (reqRight r) = true)
    (hres : t.resolve c far e (reqKinds r) = .ok impl) :
    legalWord sup w = true ∧ mayFollowAt w = true ∧
      stampedWord c w far st u1 = unitAct c n r (some st) (t.cacheUse c far e.unit) e impl := by
  simp only [List.mem_append, List.mem_ite_nil_right, List.mem_singleton, Prod.mk.injEq] at hi
  rcases hi with (⟨rfl, rfl, rfl⟩ | ⟨⟨hkind, hfit⟩, rfl, rfl, rfl⟩) | ⟨⟨hkind, ho, hlim⟩, rfl, rfl, rfl⟩
  · refine ⟨legal_ucmd _ _ _ hk, by rw [mayFollowAt, fmtUC_wMajor]; rfl, ?_⟩
    rw [stampedWord_ucmd, ucmdF, hx]
    exact onUnit_leaves ha hh he hb hres
  · refine ⟨legal_unitReg (off := .imm w7) _ rd h v (.inl ⟨rfl, rfl⟩) hkind hfit, by rw [mayFollowAt, fmtUI_wMajor]; rfl, ?_⟩
    exact (stampedWord_uwr u1).trans (uwrF_acts (off := .imm w7) hx (Nat.mul_mod_right 4 w7.toNat) hfit ha hh he hb hres)
  · refine ⟨legal_unitReg (off := .reg b) _ rd h v (.inl ⟨rfl, rfl⟩) hkind trivial, by rw [mayFollowAt, fmtUX_wMajor]; rfl, ?_⟩
    exact (stampedWord_uwrX u1).trans (uwrF_acts (off := .reg b) hx ho hlim ha hh he hb hres)

/-- So are those that push. -/
theorem atPushRows {u1 : State} {c : Fin 257} {x : Ctx} {v b : Fin 32} {far : FarReads} {st : Stamp × Qual} {w : Word} {ws : List Word}
    (hx : u1.ctx c = x) (hc : c.val ≠ 256)
    (hi : (w, ws) ∈ [(fmtS 0x2C 0 v 0 0 0, [x.rget v])] ++
      (if b.val % 2 = 0 ∧ b.val ≠ 0
        then [(fmtS 0x2C 0 v b 1 0, [x.rget v ||| 1, x.rget b, x.rget (b + 1) &&& 0xFFFF])] else [])) :
    legalWord (c.val == ctxSup) w = true ∧ mayFollowAt w = true ∧ stampedWord c w far st u1 = pushWords c ws (some st) 8 u1 := by
  simp only [List.mem_append, List.mem_ite_nil_right, List.mem_singleton, Prod.mk.injEq] at hi
  rw [notSup hc]
  rcases hi with ⟨rfl, rfl⟩ | ⟨hb, rfl, rfl⟩
  · refine ⟨legal_push, by rw [mayFollowAt, fmtS_wMajor, fmtS_wMinor]; rfl, ?_⟩
    rw [stampedWord_push, hx]
  · refine ⟨legal_pushs hb, by rw [mayFollowAt, fmtS_wMajor, fmtS_wMinor]; rfl, ?_⟩
    rw [stampedWord_pushs, hx]

theorem legal_pinw (v : Fin 32) : legalWord false (fmtS 0x39 0 v 0 0 0) = true := by
  simp [legalWord]

theorem execStampQueueRoom_ops {s : State} {c : Fin 257} {l : List StOp} {sends : List (Nat × List Nat)} {leaf rd : Nat}
    (hs : (s.ctx c).stall = .ops l sends leaf rd) : exec (.stampQueueRoom c) s = .next (if s.roomFor l then
      let t := s.unitGo c l sends (BitVec.ofNat 32 leaf) rd true
      (t.setCtx c { t.ctx c with pc := (t.ctx c).pc + 8 }).resumeCtx c else s) := by
  have he : exec (.stampQueueRoom c) s = execStampQueueRoom c s := rfl
  rw [he, execStampQueueRoom, hs]

/-- Settles O59: the checks of a handle in their order, its leaves, and AT before an instruction. -/
theorem unitInstructions : Obligations.UnitInstructions := by
  unfold Obligations.UnitInstructions
  refine ⟨fun s c rd h v kind off a far hr => ?_, fun s u1 c ra rd h v b q k kind a w7 far hr he hne hq => ?_,
    fun s c l sends leaf rd hs => ?_⟩
  case refine_1 =>
    intro u x hv o fault ucmds applying
    have hx : u.ctx c = x := s.fetched_ctx c c
    have hoff : (match off with | .imm w => 4 * w.toNat < unitLimit kind.toNat | .reg _ => True) → offFits kind off := by
      cases off <;> exact id
    refine ⟨fun i k hi => ?_, fun hk hfit i r n hi => ?_, fun comb e t impl vals t2 hk hc hfit ho hlim ha hh he hb hres hfar hawake hvals =>
      urd_reads hr hk hc (hoff hfit) ho hlim ha hh he hb hres hfar hawake hvals, fun n addr e t impl => ?_⟩
    · obtain ⟨hk, hx7⟩ := ucmdRows_issue (s := s) hi
      have hl := legal_ucmd (c.val == ctxSup) h a.toNat hk
      have hf : ucmdF c h (BitVec.ofNat 4 k) a far none u = onUnit c (x.rget h) far (reqRight (.ucmd (BitVec.ofNat 4 k) a))
          (reqKinds (.ucmd (BitVec.ofNat 4 k) a)) (unitAct c 0 (.ucmd (BitVec.ofNat 4 k) a) none) u := by rw [ucmdF, hx]
      exact ⟨fun ha => State.waits hr hl hx7 (hf.trans (onUnit_applying ha)),
        fun ha hh => State.traps hr hl hx7 (hf.trans (onUnit_beyond ha hh)),
        fun t ha hh he => State.trapsFrom hr hl hx7 (hf.trans (onUnit_noEntry ha hh he)),
        fun e t ha hh he hb => State.trapsFrom hr hl hx7 (hf.trans (onUnit_noRight ha hh he hb)),
        fun e t sub w ha hh he hb hres => State.trapsFrom hr hl hx7 (hf.trans (onUnit_fault ha hh he hb hres)),
        fun e t impl ha hh he hb hres => State.actsFrom hr hl hx7 (hf.trans (onUnit_leaves ha hh he hb hres))⟩
    · exact ⟨unitReg_misaligned hr hk (hoff hfit) hi,
        fun e t impl ho ha hh he hb hres => unitReg_acts hr hk (hoff hfit) hi ho ha hh he hb hres⟩
    · intro k a
      have hl := legal_wload (c.val == ctxSup) n h addr
      have hi := wload_issue (s := s) (c := c) (n := n) (h := h) (far := far) addr
      refine ⟨fun ho => State.traps hr hl hi (wloadF_misaligned hx ho), fun ho ha hh he hb hres => ?_⟩
      intro t2 stands
      have hleaf : wloadF c n h addr far u = wloadAct c k a t2 e impl := (wloadF_aligned hx ho).trans (onUnit_leaves ha hh he hb hres)
      refine ⟨fun hk => State.nextFrom hr hl hi (hleaf.trans ?_),
        fun hs => ?_, fun sub t3 hk hs hw => State.trapsFrom hr hl hi (hleaf.trans ?_), fun ws t3 hk hs hw =>
          State.actsFrom hr hl hi (hleaf.trans ?_)⟩
      · rw [hk, wloadAct_none]
      · have hk : k ≠ 0 := fun hk => by simp [stands, hk] at hs
        exact State.waitFrom hr hl hi (hleaf.trans (wloadAct_stands hk hs))
      · rw [wloadAct_words hk hs, hw]
        rfl
      · rw [wloadAct_words hk hs, hw]
  case refine_2 =>
    intro x p st val at' onward uwr off hk hfetch hb
    have hx : u1.ctx c = x := ctx_second hfetch
    refine ⟨fun w r n hi e t impl ha hh hhd hrt hres => ?_, fun hc => ?_, fun hc w ws hi => ?_⟩
    · obtain ⟨hl, hm, hf⟩ := atRows_act (st := (p, qualOf q.toNat)) (c.val == ctxSup) hx hk hi ha hh hhd hrt hres
      have hxt : (t.cacheUse c far e.unit).ctx c = x := by rw [ctx_cacheUse, ctx_handle hhd, hx]
      exact at_unit hr ⟨he, hne⟩ hq hfetch hb hl hm rfl hxt hf
    · have hl : legalWord (c.val == ctxSup) (fmtS 0x39 0 v 0 0 0) = true := by rw [notSup hc]; exact legal_pinw v
      have hm : mayFollowAt (fmtS 0x39 0 v 0 0 0) = true := by rw [mayFollowAt, fmtS_wMajor, fmtS_wMinor]; rfl
      intro o i
      have hf : stampedWord c (fmtS 0x39 0 v 0 0 0) far (p, qualOf q.toNat) u1 =
          if u1.roomFor [o] then .jump (u1.hand o true) (x.pc + 8) else .wait u1 (.ops [o] [] 0 0) := by
        rw [stampedWord_pinw, pinwF, hx]
      refine ⟨fun hroom => at_goes hr ⟨he, hne⟩ hq hfetch hb hl hm rfl (hf.trans (if_pos hroom)), fun hroom => ?_⟩
      rw [← hx]
      exact at_waits hr ⟨he, hne⟩ hq hfetch hb hl hm rfl rfl (hf.trans (if_neg (ne_true_of_eq_false hroom)))
    · obtain ⟨hl, hm, hf⟩ := atPushRows (u1 := u1) (far := far) (st := (p, qualOf q.toNat)) hx hc hi
      exact at_push hr ⟨he, hne⟩ hq hfetch hb hl hm rfl hf
  case refine_3 =>
    refine ⟨fun h => ?_, fun h => ?_⟩
    · rw [execStampQueueRoom_ops hs, if_pos h]
    · rw [execStampQueueRoom_ops hs, if_neg (ne_true_of_eq_false h)]

end Sys2Proof.Machine
end

section

/-! SUPPORT. O60: ARM, EPCAN, PINW and PINR (R155, R184, R194). -/

namespace Sys2Proof.Machine

section
variable (sup : Bool) (r : Fin 32)

theorem legal_arm (hr : r.val % 2 = 0 ∧ r.val ≠ 0) : legalWord sup (fmtS 0x38 0 r 0 0 0) = true := by
  simp [legalWord, isPair_code hr]

theorem legal_epcan : legalWord sup (fmtS 0x38 0 0 0 1 0) = true := by
  simp [legalWord]

theorem legal_pinr : legalWord false (fmtS 0x39 r 0 0 1 0) = true := by
  simp [legalWord]

/-- The supervisor core has no tile of its own (R184). -/
theorem illegal_pins : legalWord true (fmtS 0x39 0 r 0 0 0) = false ∧ legalWord true (fmtS 0x39 r 0 0 1 0) = false := by
  simp [legalWord]

end

/-- The high bits of a stamp. -/
theorem stamp_high (e : Stamp) : (e.extractLsb' 32 16).toNat = e.toNat / 2 ^ 32 := by
  have := e.isLt
  rw [BitVec.extractLsb'_toNat, Nat.shiftRight_eq_div_pow]
  omega

theorem ctxReq_inst {c : Fin 257} (hc : c.val ≠ 256) : ctxReq c = .inst ⟨c.val % 256, by omega⟩ := by
  have hlt : c.val < 256 := by omega
  rw [ctxReq, dif_pos hlt]
  simp only [Nat.mod_eq_of_lt hlt]

/-- Settles O60. -/
theorem epochAndPinInstructions : Obligations.EpochAndPinInstructions := by
  intro s c r hr u x arm can on pair
  have hx : u.ctx c = x := s.fetched_ctx c c
  refine ⟨fun hc => ⟨fun hp => ?_, ?_⟩, fun hc => ⟨fun hp => ?_, ?_⟩, fun hc => ⟨?_, ?_⟩, fun hc => ⟨?_, ?_⟩⟩
  · exact State.traps hr (legal_arm _ r hp) rfl (if_pos hc)
  · exact State.traps hr (legal_epcan _) rfl (if_pos hc)
  · refine ⟨fun hh => State.nextFrom hr (legal_arm _ r hp) rfl ?_, fun hh => State.waitFrom (st := .arm) hr (legal_arm _ r hp) rfl ?_⟩
    all_goals
      refine (if_neg (not_not_intro hc)).trans ?_
      rw [stamp_high] at hh ⊢
      rw [hx]
    · exact if_pos hh
    · exact if_neg (ne_true_of_eq_false hh)
  · exact State.nextFrom hr (legal_epcan _) rfl (if_neg (not_not_intro hc))
  · refine State.nextFrom hr (by rw [notSup hc]; exact legal_pinw r) rfl ?_
    rw [pinwF, hx, ctxReq_inst hc]
  · refine State.goesOn hr (by rw [notSup hc]; exact legal_pinr r) rfl ?_
    rw [hx]
  · exact State.traps_illegal hr (by rw [hc]; exact (illegal_pins r).1) rfl
  · exact State.traps_illegal hr (by rw [hc]; exact (illegal_pins r).2) rfl

end Sys2Proof.Machine
end

section

/-! SUPPORT. The clause of O11 that fails: an abort that the register network does not bring (R40). -/

namespace Sys2Proof.Machine

/-- DMA engine 0 runs a descriptor, and domain 24, the register network's own, has lost its clock. -/
def severed : State :=
  { State.reset with
    pwr := { State.reset.pwr with dead := 0x01000000 }
    mem := { State.reset.mem with dma := [(0, ⟨[], some ⟨0, 0, false, 0, 0, 0, 0, 0, 0, 0, 0, false, [], false, 0, ⟨0, []⟩⟩, []⟩)] } }

/-- Nothing reaches a register there, not even what the supervisor core writes. -/
theorem exec_dmaAbort_severed : exec (.dmaAbort .sup 0) severed = .next (severed.answer .done) := rfl

/-- Refutes O11: the statement asks no access of the supervisor core's DMA_ABORT. With the clock of the register network lost the
write is silent, and the running descriptor is not marked. -/
theorem not_submissionsAndManagement : ¬ Obligations.SubmissionsAndManagement := by
  unfold Obligations.SubmissionsAndManagement
  intro h
  obtain ⟨t, ht, hrun, -⟩ := (h severed .sup 0 0 0).2.1 rfl
  rw [exec_dmaAbort_severed] at ht
  cases ht
  exact absurd hrun (by decide)

end Sys2Proof.Machine
end

section

/-! SUPPORT. The clause of O31 that fails: an open window of a number that the idle processor does not have. -/

namespace Sys2Proof.Machine

/-- The in-service test may begin a pass of class 1. The one open window is number 0xEFC0, whose control word lies at
`ANG_IDLE_CTL 0xEFC0 = TST_PROG`; the count of the last pass there reads as a scope of tile 0. -/
def strayWindow : State :=
  let s := (State.reset.put TST_CFG 0x80020001).put TST_PROG 1
  let t := (s.flag CAL_STATUS CAL_STATUS_PUDONE).setF BOOT_SLUICE_STAT BOOT_SLUICE_STAT_DONE 2
  { t with ang := { t.ang with windows := [0xEFC0] } }

/-- Comparator 0 is free, until the pass has cleared TST_PROG. -/
theorem strayWindow_free : strayWindow.tstFree 1 0 = true ∧ strayWindow.passBegin.tstFree 1 0 = false := by decide +kernel

theorem strayWindow_may : strayWindow.tstOn = true ∧ strayWindow.tst.run = none ∧ strayWindow.tstClass 1 = true ∧
    strayWindow.tst.passing = false ∧ strayWindow.passDue = true := by decide +kernel

/-- Refutes O31: the statement reads whether an item is free before the pass begins and bounds no window's number; the pass clears
TST_PROG, the item is free no more, and the step does not run. -/
theorem not_instancesAndInServiceTest : ¬ Obligations.InstancesAndInServiceTest := by
  unfold Obligations.InstancesAndInServiceTest
  intro h
  obtain ⟨hon, hrun, hcls, hpass, hdue⟩ := strayWindow_may
  obtain ⟨hfree, hthen⟩ := strayWindow_free
  obtain ⟨-, hstarts, -⟩ := h.2 strayWindow 1 0 false 0 0 0
  obtain ⟨t, ht, hruns, -⟩ := hstarts ⟨hon, hrun, hcls, .inr hdue⟩ ⟨hfree, fun hp => absurd (hpass.symm.trans hp) (by decide)⟩
  have hstays : exec (.tstStepStart 1 0) strayWindow = .next strayWindow := by
    have he : exec (.tstStepStart 1 0) strayWindow = execTstStepStart 1 0 strayWindow := rfl
    rw [he, execTstStepStart, if_neg (by simp [hon, hrun, hcls, hdue])]
    exact congrArg _ (if_pos (by simp [hthen]))
  rw [hstays] at ht
  cases ht
  rw [hrun] at hruns
  cases hruns

end Sys2Proof.Machine
end

section

/-! SUPPORT. O6: what registers read after reset. -/

namespace Sys2Proof.Machine

/-- A register reads 0 after reset where every row that describes its address does. -/
theorem resetWord_zero {a : Nat} (h : ∀ r ∈ blockTable a, descMatches a r = true → r.reset = 0) : resetWord a = 0 := by
  unfold resetWord
  split
  next r hr => exact h r (List.mem_of_find?_eq_some hr) (List.find?_some hr)
  next => rfl

theorem blockTable_instk {a : Nat} (h : a / 0x100000000 = 1) : blockTable a = regTableInstk := by
  rw [blockTable, if_pos (by omega), h]
  rfl

theorem blockTable_irqk {a : Nat} (h : a / 0x100000000 = 3) : blockTable a = regTableIrqk := by
  rw [blockTable, if_pos (by omega), h]
  rfl

theorem regTableInstk_reset : ∀ r ∈ regTableInstk, r.reset = 0 := by decide

/-- INST_STATE reads 0 (R448). -/
theorem reg_instState_reset (i : Fin 256) : State.reset.reg (INST_STATE i) = 0 := by
  have := i.isLt
  refine resetWord_zero fun r hr _ => regTableInstk_reset r ?_
  rwa [blockTable_instk (by unfold INST_STATE; omega)] at hr

/-- Of the interrupt registers only IRQ_CLAIM resets to another value than 0, and it lies below the tables of the sources. -/
theorem regTableIrqk_reset {a : Nat} (ha : 0x300000000 ≤ a) : ∀ r ∈ regTableIrqk, descMatches a r = true → r.reset = 0 := by
  intro r hr hm
  have hrows : ∀ r ∈ regTableIrqk, r.reset = 0 ∨ r.base = 0x200000024 ∧ r.dims = [(512, 0x100)] := by decide
  refine (hrows r hr).resolve_right fun ⟨hb, hd⟩ => ?_
  rw [descMatches, hb, hd] at hm
  simp only [dimsMatch, Bool.and_eq_true, decide_eq_true_eq] at hm
  omega

/-- A register of a source reads 0 (R457). -/
theorem reg_irqSource_reset {a : Nat} (h : a / 0x100000000 = 3) : State.reset.reg a = 0 := by
  refine resetWord_zero fun r hr hm => regTableIrqk_reset (a := a) (by omega) r ?_ hm
  rwa [blockTable_irqk h] at hr

/-- Every context is STOPPED (R102). -/
theorem ctxState_reset (c : Fin 257) : State.reset.ctxState c = ctxStopped := by
  unfold State.ctxState
  split
  next hc =>
    rw [State.fld, reg_instState_reset ⟨c, hc⟩]
    rfl
  next => rfl

/-- Settles O6. -/
theorem resetState : Obligations.ResetState := by
  have hregs : ∀ r : Fin 32, Ctx.reset.rget r = 0 := by decide
  refine ⟨rfl, rfl, rfl, rfl, rfl, by decide, rfl, fun c => ⟨ctxState_reset c, rfl, rfl, rfl, rfl, hregs⟩, fun i => ?_,
    fun n => ⟨?_, fun j => ?_⟩, by decide, by decide, rfl⟩
  · rw [State.fld, reg_instState_reset]
    rfl
  · have := n.isLt
    rw [State.fld, reg_irqSource_reset (by unfold IRQ_TCTL; omega)]
    rfl
  · have := n.isLt
    have := j.isLt
    exact reg_irqSource_reset (by unfold IRQ_TMASK; omega)

end Sys2Proof.Machine
end

section

/-! SUPPORT. The integer, immediate and fixed-point instructions (R160, R167-R169): their words, what their results are as numbers,
and how each goes on. -/

namespace Sys2Proof.Machine

/-! ### Their words (Tables 4.4, 4.5 and 4.6) -/

section
variable (sup : Bool) (rd ra rb : Fin 32)

theorem legal_clz : legalWord sup (fmtR 0x01 rd ra 0 0x11) = true := by
  simp [legalWord, fmtR]

theorem legal_immediate {m : Nat} (n : Nat) (h : 3 ≤ m ∧ m ≤ 8) : legalWord sup (fmtI m rd ra n) = true := by
  obtain rfl | rfl | rfl | rfl | rfl | rfl : m = 3 ∨ m = 4 ∨ m = 5 ∨ m = 6 ∨ m = 7 ∨ m = 8 := by omega
  all_goals simp [legalWord]

theorem legal_lui (n : Nat) : legalWord sup (fmtI 0x0C rd 0 n) = true := by
  simp [legalWord]

/-- A shift by an immediate is legal where imm16[15:5] is 0 (R168). -/
theorem legalWord_shift {m : Nat} (n : Nat) (h : 9 ≤ m ∧ m ≤ 11) :
    legalWord sup (fmtI m rd ra n) = (wbits (fmtI m rd ra n) 15 5 == 0) := by
  obtain rfl | rfl | rfl : m = 9 ∨ m = 10 ∨ m = 11 := by omega
  all_goals simp [legalWord]

theorem legal_shift {m n : Nat} (h : 9 ≤ m ∧ m ≤ 11) (hn : n < 32) : legalWord sup (fmtI m rd ra n) = true := by
  rw [legalWord_shift sup rd ra n h, fmtI_shift m rd ra n hn]
  rfl

theorem illegal_shift {m n : Nat} (h : 9 ≤ m ∧ m ≤ 11) (hlo : 32 ≤ n) (hhi : n < 65536) :
    legalWord sup (fmtI m rd ra n) = false := by
  have hbits : wbits (fmtI m rd ra n) 15 5 = n / 32 := by
    simp only [wbits, fmtI_toNat]
    omega
  rw [legalWord_shift sup rd ra n h, hbits, beq_eq_false_iff_ne]
  omega

/-- ADDS, SUBS, MULQ, SHRR and PKS. -/
theorem legal_fixed {mn : Nat} (h : mn = 0 ∨ mn = 1 ∨ mn = 4 ∨ mn = 6 ∨ mn = 8) : legalWord sup (fmtS 0x02 rd ra rb mn 0) = true := by
  obtain rfl | rfl | rfl | rfl | rfl := h
  all_goals simp [legalWord]

/-- NEGS and ABSS. -/
theorem legal_fixedUnary {mn : Nat} (h : mn = 2 ∨ mn = 3) : legalWord sup (fmtS 0x02 rd ra 0 mn 0) = true := by
  obtain rfl | rfl := h
  all_goals simp [legalWord]

theorem legal_satn (n : Nat) : legalWord sup (fmtS 0x02 rd ra 0 7 n) = true := by
  simp [legalWord]

theorem legal_macq (h : rd.val % 2 = 0 ∧ rd.val ≠ 0) : legalWord sup (fmtS 0x02 rd ra rb 5 0) = true := by
  simp [legalWord, isPair_code h]

end

/-! ### Their results as numbers (R160, R167, R168) -/

section
variable (a b : Word) (n : Nat)

theorem ofNat_toNat : BitVec.ofNat 32 a.toNat = a := (BitVec.ofNat_toNat 32 a).trans (BitVec.setWidth_eq a)

theorem ofInt_toNat : BitVec.ofInt 32 a.toNat = a := (BitVec.ofInt_natCast 32 a.toNat).trans (ofNat_toNat a)

theorem sub_eq_ofInt : a - b = BitVec.ofInt 32 (a.toNat - b.toNat) := by
  rw [Int.sub_eq_add_neg, BitVec.ofInt_add, BitVec.ofInt_neg, ofInt_toNat, ofInt_toNat, BitVec.sub_eq_add_neg]

theorem mul_eq_ofNat : a * b = BitVec.ofNat 32 (a.toNat * b.toNat) := by
  rw [BitVec.ofNat_mul, ofNat_toNat, ofNat_toNat]

theorem shiftLeft_eq_ofNat : a <<< n = BitVec.ofNat 32 (a.toNat * 2 ^ n) := by
  apply BitVec.eq_of_toNat_eq
  rw [BitVec.toNat_shiftLeft, Nat.shiftLeft_eq, BitVec.toNat_ofNat]

theorem ushiftRight_eq_ofNat : a >>> n = BitVec.ofNat 32 (a.toNat / 2 ^ n) := by
  rw [← Nat.shiftRight_eq_div_pow, ← BitVec.toNat_ushiftRight, ofNat_toNat]

theorem sshiftRight_eq_ofInt : a.sshiftRight n = BitVec.ofInt 32 (a.toInt / 2 ^ n) := by
  rw [BitVec.sshiftRight_eq, Int.shiftRight_eq_div_pow, Nat.cast_pow, Nat.cast_ofNat]

theorem flagWord_slt : flagWord (a.slt b) = if a.toInt < b.toInt then 1 else 0 := by
  simp [flagWord, BitVec.slt_eq_decide]

theorem flagWord_ult : flagWord (a.ult b) = if a.toNat < b.toNat then 1 else 0 := by
  simp [flagWord, BitVec.ult_eq_decide]

theorem ofInt_min_toInt : (if a.slt b then a else b) = BitVec.ofInt 32 (min a.toInt b.toInt) := by
  rw [min_def_lt, apply_ite (BitVec.ofInt 32), BitVec.ofInt_toInt, BitVec.ofInt_toInt, BitVec.slt_eq_decide]
  simp only [decide_eq_true_eq]

theorem ofInt_max_toInt : (if a.slt b then b else a) = BitVec.ofInt 32 (max a.toInt b.toInt) := by
  rw [max_def_lt, apply_ite (BitVec.ofInt 32), BitVec.ofInt_toInt, BitVec.ofInt_toInt, BitVec.slt_eq_decide]
  simp only [decide_eq_true_eq]

theorem ofNat_min_toNat : (if a.ult b then a else b) = BitVec.ofNat 32 (min a.toNat b.toNat) := by
  rw [min_def_lt, apply_ite (BitVec.ofNat 32), ofNat_toNat, ofNat_toNat, BitVec.ult_eq_decide]
  simp only [decide_eq_true_eq]

theorem ofNat_max_toNat : (if a.ult b then b else a) = BitVec.ofNat 32 (max a.toNat b.toNat) := by
  rw [max_def_lt, apply_ite (BitVec.ofNat 32), ofNat_toNat, ofNat_toNat, BitVec.ult_eq_decide]
  simp only [decide_eq_true_eq]

end

/-- The number of leading zeros: the first one, if any, stands below them. -/
theorem clz_spec (a : Word) : ∃ n : Nat, n ≤ 32 ∧ a.toNat < 2 ^ (32 - n) ∧ (n < 32 → 2 ^ (31 - n) ≤ a.toNat) ∧
    clz a = BitVec.ofNat 32 n := by
  by_cases h : a = 0
  · exact ⟨32, le_rfl, by rw [h]; decide, fun hn => absurd hn (by decide), congrArg _ (if_pos h)⟩
  · have h0 : a.toNat ≠ 0 := fun hn => h (BitVec.eq_of_toNat_eq hn)
    have hlog : a.toNat.log2 < 32 := (Nat.log2_lt h0).mpr a.isLt
    have hlt : 32 - (31 - a.toNat.log2) = a.toNat.log2 + 1 := by omega
    have hle : 31 - (31 - a.toNat.log2) = a.toNat.log2 := by omega
    exact ⟨31 - a.toNat.log2, by omega, by rw [hlt]; exact Nat.lt_log2_self, fun _ => by rw [hle]; exact Nat.log2_self_le h0,
      congrArg _ (if_neg h)⟩

section
variable (a : Word) (imm : BitVec 16)

/-- The sign-extended immediate. -/
theorem sextI_eq : sextI imm = BitVec.ofInt 32 imm.toInt := rfl

theorem add_sextI : a + sextI imm = BitVec.ofInt 32 (a.toNat + imm.toInt) := by
  rw [BitVec.ofInt_add, ofInt_toNat, sextI_eq]

theorem toInt_sextI : (sextI imm).toInt = imm.toInt := BitVec.toInt_signExtend_of_le (by decide)

theorem toNat_zextI : (zextI imm).toNat = imm.toNat := BitVec.toNat_setWidth_of_le (by decide)

theorem zextI_eq : zextI imm = BitVec.ofNat 32 imm.toNat := (BitVec.ofNat_toNat 32 imm).symm

theorem and_zextI : a &&& zextI imm = BitVec.ofNat 32 (a.toNat &&& imm.toNat) := by
  rw [BitVec.ofNat_and, ofNat_toNat, zextI_eq]

theorem or_zextI : a ||| zextI imm = BitVec.ofNat 32 (a.toNat ||| imm.toNat) := by
  rw [BitVec.ofNat_or, ofNat_toNat, zextI_eq]

theorem xor_zextI : a ^^^ zextI imm = BitVec.ofNat 32 (a.toNat ^^^ imm.toNat) := by
  rw [BitVec.ofNat_xor, ofNat_toNat, zextI_eq]

theorem ofNat_upper : BitVec.ofNat 32 (imm.toNat * 2 ^ 16) = imm ++ (0 : BitVec 16) := by
  apply BitVec.eq_of_toNat_eq
  have := imm.isLt
  rw [BitVec.toNat_append, BitVec.toNat_ofNat, Nat.shiftLeft_eq, Nat.mod_eq_of_lt (by omega)]
  exact (Nat.or_zero _).symm

end

/-! ### The exact result, clamped (R169) -/

theorem clampTo_eq {lo hi : Int} (h : lo ≤ hi) (i : Int) : clampTo lo hi i = max lo (min hi i) := by
  unfold clampTo
  split_ifs <;> omega

theorem sat32_eq (i : Int) : sat32 i = BitVec.ofInt 32 (max (-2 ^ 31) (min (2 ^ 31 - 1) i)) :=
  congrArg _ (clampTo_eq (by decide) i)

theorem satn_eq (n : Nat) (a : Word) : satn n a = BitVec.ofInt 32 (max (-2 ^ n) (min (2 ^ n - 1) a.toInt)) := by
  have hpos : (0 : Int) < 2 ^ n := Int.pow_pos (by decide)
  exact congrArg _ (clampTo_eq (by omega) a.toInt)

theorem shrr_eq (a b : Word) : shrr a b = BitVec.ofInt 32
    (if shAmt b = 0 then a.toInt else (a.toInt + 2 ^ (shAmt b - 1)) / 2 ^ shAmt b) := by
  unfold shrr
  split
  next h => rw [h, if_pos rfl, BitVec.ofInt_toInt]
  next n h => rw [h, if_neg n.succ_ne_zero]; rfl

/-- The bits of a sample word (Table 4.6). -/
theorem getLsbD_sampleWord {k : Nat} (v : BitVec k) (p q : BitVec 1) (r : BitVec 5) (i : Nat) :
    (v ++ p ++ q ++ r ++ (0 : BitVec 1)).getLsbD i =
      if i = 0 then false else if i < 6 then r.getLsbD (i - 1) else if i < 7 then q.getLsbD (i - 6)
      else if i < 8 then p.getLsbD (i - 7) else v.getLsbD (i - 8) := by
  have hr : i - 1 < 5 ↔ i < 6 := by omega
  have hq : i - 6 < 1 ↔ i < 7 := by omega
  have hp : i - 7 < 1 ↔ i < 8 := by omega
  have h0 : (0 : BitVec 1).getLsbD i = false := BitVec.getLsbD_zero
  simp only [BitVec.getLsbD_append, Nat.lt_one_iff, Nat.sub_sub, Nat.reduceAdd, h0] at hr hq hp ⊢
  simp only [hr, hq, hp]

theorem setWidth_ofInt (v : Int) : BitVec.ofInt 24 v = (BitVec.ofInt 32 v).setWidth 24 := by
  apply BitVec.eq_of_toNat_eq
  simp only [BitVec.toNat_ofInt, BitVec.toNat_setWidth]
  omega

/-- A word with the value above and the low bits of `b`, SAT set where `f` is: the flag bits one by one, and above them the
value alone. -/
theorem sampleWord_eq (v : Int) (b : Word) (f : BitVec 1) :
    (BitVec.ofInt 32 v <<< 8) ||| (b &&& (0xFE : Word)) ||| ((f.setWidth 32 : Word) <<< 6) =
      BitVec.ofInt 24 v ++ b.extractLsb' 7 1 ++ (b.extractLsb' 6 1 ||| f) ++ b.extractLsb' 1 5 ++ (0 : BitVec 1) := by
  apply BitVec.eq_of_getLsbD_eq
  intro i hi
  refine Eq.trans ?_ (getLsbD_sampleWord _ _ _ _ i).symm
  rcases Nat.lt_or_ge i 8 with h | h
  · interval_cases i <;> simp
  · have hmask : (0xFE : Word).getLsbD i = false :=
      (BitVec.getLsbD_setWidth 32 (254#8) i).trans (by rw [BitVec.getLsbD_of_ge _ i h, Bool.and_false])
    have hf : f.getLsbD (i - 6) = false := BitVec.getLsbD_of_ge _ _ (by omega)
    have hi8 : i - 8 < 24 := by omega
    rw [if_neg (by omega), if_neg (by omega), if_neg (by omega), if_neg (by omega), setWidth_ofInt]
    simp only [BitVec.getLsbD_or, BitVec.getLsbD_and, BitVec.getLsbD_shiftLeft, BitVec.getLsbD_setWidth, hmask, hf, hi, hi8, h.not_gt]
    simp

/-- PKS sets SAT also where the clamp acted. -/
theorem pks_eq {a b : Word} {v : Int} (hv : clampTo (-(2 ^ 23)) (2 ^ 23 - 1) a.toInt = v) :
    pks a b = BitVec.ofInt 24 v ++ b.extractLsb' 7 1 ++ (b.extractLsb' 6 1 ||| if v = a.toInt then 0 else 1) ++
      b.extractLsb' 1 5 ++ (0 : BitVec 1) := by
  unfold pks
  dsimp only
  rw [hv]
  split
  · exact BitVec.or_zero.symm.trans (sampleWord_eq v b 0)
  · exact sampleWord_eq v b 1

/-! ### The instructions go on with them -/

section
variable {s : State} {c : Fin 257} {rd ra rb : Fin 32} {i : Instr} {v : Word} (hr : s.Ready c)
include hr

theorem integer_goesOn {mn : Nat} (hmn : mn ≤ 0x10) {f : Word → Word → Word}
    (he : exec i s = issued c (fmtR 0x01 rd ra rb mn) (alu c rd ra rb f) s)
    (hv : f ((s.ctx c).rget ra) ((s.ctx c).rget rb) = v) : s.GoesOn c i ((s.ctx c).rset rd v) :=
  State.goesOn_alu hr (legal_integer _ rd ra rb mn hmn) he hv

theorem immediate_goesOn {m : Nat} {imm : BitVec 16} (hm : 3 ≤ m ∧ m ≤ 8) {f : Word → Word}
    (he : exec i s = issued c (fmtI m rd ra imm.toNat) (aluI c rd ra f) s) (hv : f ((s.ctx c).rget ra) = v) :
    s.GoesOn c i ((s.ctx c).rset rd v) :=
  State.goesOn_aluI hr (legal_immediate _ rd ra imm.toNat hm) he hv

theorem fixed_goesOn {mn : Nat} (hmn : mn = 0 ∨ mn = 1 ∨ mn = 4 ∨ mn = 6 ∨ mn = 8) {f : Word → Word → Word}
    (he : exec i s = issued c (fmtS 0x02 rd ra rb mn 0) (alu c rd ra rb f) s)
    (hv : f ((s.ctx c).rget ra) ((s.ctx c).rget rb) = v) : s.GoesOn c i ((s.ctx c).rset rd v) :=
  State.goesOn_alu hr (legal_fixed _ rd ra rb hmn) he hv

theorem fixedUnary_goesOn {mn : Nat} (hmn : mn = 2 ∨ mn = 3) {f : Word → Word}
    (he : exec i s = issued c (fmtS 0x02 rd ra 0 mn 0) (aluI c rd ra f) s) (hv : f ((s.ctx c).rget ra) = v) :
    s.GoesOn c i ((s.ctx c).rset rd v) :=
  State.goesOn_aluI hr (legal_fixedUnary _ rd ra hmn) he hv

end

end Sys2Proof.Machine
end

section

/-! O44, O45, O46: the instructions of Tables 4.4, 4.5 and 4.6. -/

namespace Sys2Proof.Machine

/-- Settles O44: each row of Table 4.4 is a word of the integer class whose result is the row's number. -/
theorem integerInstructions : Obligations.IntegerInstructions := by
  intro s c rd ra rb hr x a b n
  obtain ⟨k, hk, hlt, hle, hclz⟩ := clz_spec a
  refine ⟨?add, ?sub, ?and, ?or, ?xor, ?sll, ?srl, ?sra, ?slt, ?sltu, ?min, ?max, ?minu, ?maxu, ?mul, ?mulh, ?mulhu,
    k, hk, hlt, hle, ?clz⟩
  case add => exact integer_goesOn hr (by decide) rfl (BitVec.add_def a b)
  case sub => exact integer_goesOn hr (by decide) rfl (sub_eq_ofInt a b)
  case and => exact integer_goesOn hr (by decide) rfl rfl
  case or => exact integer_goesOn hr (by decide) rfl rfl
  case xor => exact integer_goesOn hr (by decide) rfl rfl
  case sll => exact integer_goesOn hr (by decide) rfl (shiftLeft_eq_ofNat a n)
  case srl => exact integer_goesOn hr (by decide) rfl (ushiftRight_eq_ofNat a n)
  case sra => exact integer_goesOn hr (by decide) rfl (sshiftRight_eq_ofInt a n)
  case slt => exact integer_goesOn hr (by decide) rfl (flagWord_slt a b)
  case sltu => exact integer_goesOn hr (by decide) rfl (flagWord_ult a b)
  case min => exact integer_goesOn hr (by decide) rfl (ofInt_min_toInt a b)
  case max => exact integer_goesOn hr (by decide) rfl (ofInt_max_toInt a b)
  case minu => exact integer_goesOn hr (by decide) rfl (ofNat_min_toNat a b)
  case maxu => exact integer_goesOn hr (by decide) rfl (ofNat_max_toNat a b)
  case mul => exact integer_goesOn hr (by decide) rfl (mul_eq_ofNat a b)
  case mulh => exact integer_goesOn hr (by decide) rfl rfl
  case mulhu => exact integer_goesOn hr (by decide) rfl rfl
  case clz => exact State.goesOn_aluI hr (legal_clz _ rd ra) rfl hclz

/-- Settles O45: each row of Table 4.5, and the shifts whose reserved bits are not 0. -/
theorem immediateInstructions : Obligations.ImmediateInstructions := by
  intro s c rd ra imm hr x a n
  refine ⟨?addi, ?andi, ?ori, ?xori, ?slti, ?sltiu, ?lui, fun hn => ?shifts, fun hn i w hi => ?reserved⟩
  case addi => exact immediate_goesOn hr (by decide) rfl (add_sextI a imm)
  case andi => exact immediate_goesOn hr (by decide) rfl (and_zextI a imm)
  case ori => exact immediate_goesOn hr (by decide) rfl (or_zextI a imm)
  case xori => exact immediate_goesOn hr (by decide) rfl (xor_zextI a imm)
  case slti => exact immediate_goesOn hr (by decide) rfl (by rw [flagWord_slt, toInt_sextI])
  case sltiu => exact immediate_goesOn hr (by decide) rfl (by rw [flagWord_ult, toNat_zextI])
  case lui => exact State.goesOn_aluI hr (legal_lui _ rd imm.toNat) rfl (ofNat_upper imm)
  case shifts =>
    have hmod : n % 32 = n := Nat.mod_eq_of_lt hn
    have hl {m : Nat} (hm : 9 ≤ m ∧ m ≤ 11) := legal_shift (c.val == ctxSup) rd ra hm hn
    refine ⟨State.goesOn_aluI hr (hl (by decide)) rfl ?_, State.goesOn_aluI hr (hl (by decide)) rfl ?_,
      State.goesOn_aluI hr (hl (by decide)) rfl ?_⟩
    · rw [hmod, shiftLeft_eq_ofNat]
    · rw [hmod, ushiftRight_eq_ofNat]
    · rw [hmod, sshiftRight_eq_ofInt]
  case reserved =>
    have hl {m : Nat} (hm : 9 ≤ m ∧ m ≤ 11) := illegal_shift (c.val == ctxSup) rd ra hm hn imm.isLt
    simp only [List.mem_cons, List.not_mem_nil, or_false, Prod.mk.injEq] at hi
    obtain ⟨rfl, rfl⟩ | ⟨rfl, rfl⟩ | ⟨rfl, rfl⟩ := hi
    all_goals exact State.traps_illegal hr (hl (by decide)) rfl

/-- Settles O46: each row of Table 4.6, its clamp as `clampTo_eq` gives it. -/
theorem fixedPointInstructions : Obligations.FixedPointInstructions := by
  intro s c rd ra rb k hr x a b n sat
  refine ⟨?adds, ?subs, ?negs, ?abss, ?mulq, ?shrr, ?satn, ?pks, fun heven hpos => ?macq⟩
  case adds => exact fixed_goesOn hr (by decide) rfl (sat32_eq (a + b))
  case subs => exact fixed_goesOn hr (by decide) rfl (sat32_eq (a - b))
  case negs => exact fixedUnary_goesOn hr (by decide) rfl (sat32_eq (-a))
  case abss => exact fixedUnary_goesOn hr (by decide) rfl (by rw [Int.natCast_natAbs]; exact sat32_eq |a|)
  case mulq => exact fixed_goesOn hr (by decide) rfl (sat32_eq ((a * b + 2 ^ 30) / 2 ^ 31))
  case shrr => exact fixed_goesOn hr (by decide) rfl (shrr_eq (x.rget ra) (x.rget rb))
  case satn => exact State.goesOn_aluI hr (legal_satn _ rd ra k.toNat) rfl (satn_eq k.toNat (x.rget ra))
  case pks => exact fixed_goesOn hr (by decide) rfl (pks_eq (clampTo_eq (by decide) a))
  case macq =>
    refine State.goesOn hr (legal_macq _ rd ra rb ⟨heven, hpos⟩) rfl ?_
    dsimp only
    rw [s.fetched_ctx c c, clampTo_eq (by decide)]

end Sys2Proof.Machine
end

section

/-! SUPPORT. The branches, calls and jumps (R110, R160, R173, R174). -/

namespace Sys2Proof.Machine

/-! ### Their words (Tables 4.1, 4.10 and 4.11) -/

section
variable (sup : Bool)

theorem legal_jumpFar {m : Nat} (n : Nat) (h : m = 0x20 ∨ m = 0x21) : legalWord sup (fmtJ m n) = true := by
  obtain rfl | rfl := h
  all_goals simp [legalWord]

theorem legal_branch (ra rb : Fin 32) {m : Nat} (n : Nat) (h : 0x22 ≤ m ∧ m ≤ 0x27) : legalWord sup (fmtB m ra rb n) = true := by
  obtain rfl | rfl | rfl | rfl | rfl | rfl : m = 0x22 ∨ m = 0x23 ∨ m = 0x24 ∨ m = 0x25 ∨ m = 0x26 ∨ m = 0x27 := by omega
  all_goals simp [legalWord]

/-- JR and CALLR. -/
theorem legal_jumpReg (ra : Fin 32) {mn : Nat} (h : mn ≤ 1) : legalWord sup (fmtS 0x28 0 ra 0 mn 0) = true := by
  obtain rfl | rfl : mn = 0 ∨ mn = 1 := by omega
  all_goals simp [legalWord]

end

/-! ### Where they go (R160, R173) -/

/-- Four times the sign-extended displacement, from the address of the branch. -/
theorem branchTo_eq (pc : Word) {n : Nat} (d : BitVec n) : branchTo pc n d = BitVec.ofInt 32 (pc.toNat + 4 * d.toInt) := by
  rw [BitVec.ofInt_add, BitVec.ofInt_mul, ofInt_toNat]
  rfl

theorem jumpTo_aligned {t : Word} (h : t.toNat % 4 = 0) (s : State) (f : State → State) : jumpTo s f t = .jump (f s) t :=
  if_neg (not_not_intro h)

theorem jumpTo_misaligned {t : Word} (h : t.toNat % 4 ≠ 0) (s : State) (f : State → State) :
    jumpTo s f t = .trap s ⟨trAlign, 0, false, some (t.setWidth 64)⟩ :=
  if_pos h

/-- W23 takes the address of the word after the one fetched (R110). -/
theorem link_fetched (s : State) (c : Nat) :
    (s.fetched c).link c = (s.fetched c).setCtx c ((s.ctx c).rset 31 ((s.ctx c).pc + 4)) := by
  rw [State.link, s.fetched_ctx]
  rfl

section
variable {s : State} {c : Fin 257} {ra rb : Fin 32} {i : Instr} (hr : s.Ready c)
include hr

/-- A conditional branch goes to its target exactly where its comparison holds. -/
theorem branch_ends {m : Nat} {d : BitVec 16} {p : Word → Word → Bool} {P : Prop} [Decidable P] (hm : 0x22 ≤ m ∧ m ≤ 0x27)
    (he : exec i s = issued c (fmtB m ra rb d.toNat) (branchIf c ra rb d p) s)
    (hp : p ((s.ctx c).rget ra) ((s.ctx c).rget rb) = true ↔ P) :
    s.Ends c i { s.ctx c with pc := if P then BitVec.ofInt 32 ((s.ctx c).pc.toNat + 4 * d.toInt) else (s.ctx c).pc + 4 } := by
  have hl := legal_branch (c.val == ctxSup) ra rb d.toNat hm
  have hx := s.fetched_ctx c c
  by_cases h : P
  · rw [if_pos h, ← branchTo_eq]
    refine State.endsJump hr hl he ?_
    rw [branchIf, hx]
    exact if_pos (hp.mpr h)
  · rw [if_neg h]
    refine State.goesOnSame hr hl he ?_
    rw [branchIf, hx]
    exact if_neg fun ht => h (hp.mp ht)

/-- A register target whose bits [1:0] are not 0 raises ALIGN, and W23 is not written (R173). -/
theorem jumpReg_misaligned {mn : Nat} {f : State → State} (hmn : mn ≤ 1) (h : ((s.ctx c).rget ra).toNat % 4 ≠ 0)
    (he : exec i s = issued c (fmtS 0x28 0 ra 0 mn 0) (fun s => jumpTo s f ((s.ctx c).rget ra)) s) :
    s.Traps c i ⟨trAlign, 0, false, some (((s.ctx c).rget ra).setWidth 64)⟩ := by
  refine State.traps hr (legal_jumpReg _ ra hmn) he ?_
  rw [s.fetched_ctx c c, jumpTo_misaligned h]

end

/-- Settles O47, instruction by instruction: the target of its meaning, and what it writes. -/
theorem branchesAndJumps : Obligations.BranchesAndJumps := by
  intro s c ra rb hr x a b
  have hx : (s.fetched c).ctx c = x := s.fetched_ctx c c
  refine ⟨fun d => ⟨?b, ?call⟩, fun d => ⟨?beq, ?bne, ?blt, ?bge, ?bltu, ?bgeu⟩, fun h => ⟨?jr, ?callr⟩,
    fun h => ⟨?jrAlign, ?callrAlign⟩⟩
  case b =>
    refine State.endsJump hr (legal_jumpFar _ d.toNat (.inl rfl)) rfl ?_
    rw [hx, branchTo_eq]
  case call =>
    refine State.endsAt hr (legal_jumpFar _ d.toNat (.inr rfl)) rfl ?_
    rw [hx, branchTo_eq, link_fetched]
  case beq => exact branch_ends hr (by decide) rfl beq_iff_eq
  case bne => exact branch_ends hr (by decide) rfl bne_iff_ne
  case blt => exact branch_ends hr (by decide) rfl BitVec.slt_iff_toInt_lt
  case bge => exact branch_ends hr (by decide) rfl (by rw [Bool.not_eq_true', ← Bool.not_eq_true, BitVec.slt_iff_toInt_lt, not_lt])
  case bltu => exact branch_ends hr (by decide) rfl BitVec.ult_iff_toNat_lt
  case bgeu => exact branch_ends hr (by decide) rfl (by rw [Bool.not_eq_true', ← Bool.not_eq_true, BitVec.ult_iff_toNat_lt, not_lt])
  case jr =>
    refine State.endsJump hr (legal_jumpReg _ ra (by decide)) rfl ?_
    rw [hx, jumpTo_aligned h]
    rfl
  case callr =>
    refine State.endsAt hr (legal_jumpReg _ ra (by decide)) rfl ?_
    rw [hx, jumpTo_aligned h, link_fetched]
  case jrAlign => exact jumpReg_misaligned hr (by decide) h rfl
  case callrAlign => exact jumpReg_misaligned hr (by decide) h rfl

end Sys2Proof.Machine
end

section

/-! O7: the fetch of an instruction word (R157, R398, R400). -/

namespace Sys2Proof.Machine

section
variable {s : State} {pc : Word}

theorem State.fetch_beyond (h : 0x40000 ≤ pc.toNat) (c : Nat) : s.fetch c pc = (some busRange, s) := if_pos h

/-- A word at a multiple of four is one codeword of four bytes. -/
theorem cutCodes_word {a : Nat} (h : a % 4 = 0) : cutCodes 4 4 a (List.replicate 4 0) = [(a, 0, [0, 0, 0, 0])] := by
  have hbase : a / 4 * 4 = a := Nat.div_mul_cancel (Nat.dvd_of_mod_eq_zero h)
  simp [cutCodes, h, hbase, List.replicate]

/-- An intact word of the supervisor core's local store reads as it stands: nothing is logged and nothing corrected. -/
theorem State.memReadIn_localStore {a : Nat} (req : Nat) (h4 : a % 4 = 0)
    (hb : ∀ j : Fin 4, (s.byteAt (2 ^ 40 + a + j)).isSome = true) (he : s.codeErr (2 ^ 40 + a) = CodeErr.none') :
    ∃ bytes, s.memReadIn req (fun _ => 0x41) a 4 = (some bytes, s) := by
  have hread : s.codeRead req 0x41 a = (some (List.ofFn fun j => (s.byteAt (2 ^ 40 + a + j)).get (hb j)), s) := by
    refine State.codeRead_intact (mid := 0x41) req List.length_ofFn (fun j hj => ?_) he
    rw [List.getElem?_ofFn, dif_pos (show j < 4 from hj)]
    exact (Option.some_get _).symm
  have hsize : codeSize 0x41 = 4 := rfl
  rw [State.memReadIn, hsize, cutCodes_word h4, List.foldl_cons, List.foldl_nil]
  dsimp only
  rw [hread]
  exact ⟨_, rfl⟩

theorem State.fetch_intact (hlt : pc.toNat < 0x40000) (h4 : pc.toNat % 4 = 0)
    (hb : ∀ j : Fin 4, (s.byteAt (2 ^ 40 + pc.toNat + j)).isSome = true) (he : s.codeErr (2 ^ 40 + pc.toNat) = CodeErr.none') :
    s.fetch ctxSup pc = (none, s) := by
  obtain ⟨bytes, hread⟩ := State.memReadIn_localStore ctxSup h4 hb he
  unfold State.fetch
  dsimp only
  rw [if_neg (Nat.not_le.mpr hlt), if_pos rfl, hread]

end

/-- Settles O7: reading memory changes no context (`State.fetched_ctx`), and an intact codeword is read with nothing logged
(`State.memReadIn_localStore`). -/
theorem fetchFrame : Obligations.FetchFrame := by
  intro s c
  refine ⟨s.fetched_ctx c, fun h => ⟨?beyond, fun hr => ?notReady⟩, fun hlt h4 hb he => ?intact⟩
  case beyond => exact congrArg Prod.snd (State.fetch_beyond h c)
  case notReady =>
    have hf := hr.fetch
    rw [State.fetch_beyond h] at hf
    cases hf
  case intact =>
    have hf := State.fetch_intact hlt h4 hb he
    exact ⟨congrArg Prod.snd hf, congrArg Prod.fst hf⟩

end Sys2Proof.Machine
end

section

/-! SUPPORT. What the operations of the analogue cells do to a bound set (R217, R225-R228): folds over its members, what a safe
latch sets and leaves alone. -/

namespace Sys2Proof.Machine

/-! ### Folds over the members of a set -/

/-- A fold whose step works on one member changes each listed member once, and nothing of the others. -/
theorem foldl_pointwise {σ α : Type} {P : σ → Prop} {V : σ → Nat → α} {f : σ → Nat → σ} {g : Nat → α → α} {l : List Nat}
    (hl : l.Nodup) (hP : ∀ s, P s → ∀ m ∈ l, P (f s m))
    (hV : ∀ s, P s → ∀ m ∈ l, ∀ k, V (f s m) k = if k = m then g m (V s m) else V s k) {s : σ} (hs : P s) (k : Nat) :
    V (l.foldl f s) k = if k ∈ l then g k (V s k) else V s k := by
  induction l generalizing s with
  | nil => rfl
  | cons m l ih =>
    obtain ⟨hm, hl⟩ := List.nodup_cons.mp hl
    have hstep := hV s hs m List.mem_cons_self k
    rw [List.foldl_cons, ih hl (fun s hs x hx => hP s hs x (.tail m hx)) (fun s hs x hx => hV s hs x (.tail m hx))
      (hP s hs m List.mem_cons_self), hstep]
    by_cases hk : k = m
    · rw [if_neg (hk ▸ hm), if_pos hk, if_pos (hk ▸ List.mem_cons_self), hk]
    · simp only [List.mem_cons, hk, false_or, if_false]

/-! ### Cells and the sets they are bound in -/

theorem State.cell_setCell (s : State) (u k : Nat) (c : Cell) : (s.setCell u c).cell k = if k = u then c else s.cell k :=
  tblGet_set _ s.cells u k c

@[simp] theorem State.cell_setCell_same (s : State) (u : Nat) (c : Cell) : (s.setCell u c).cell u = c := by
  rw [State.cell_setCell, if_pos rfl]

theorem State.cell_setCell_other (s : State) {u k : Nat} (c : Cell) (h : k ≠ u) : (s.setCell u c).cell k = s.cell k := by
  rw [State.cell_setCell, if_neg h]

theorem State.cell_setF (s : State) (a : Nat) (f : Field) (x k : Nat) : (s.setF a f x).cell k = s.cell k := rfl

theorem State.setF_rest (s : State) (a : Nat) (f : Field) (x : Nat) :
    s.setF a f x = { s with regs := (s.setF a f x).regs, cells := (s.setF a f x).cells } := by
  rw [State.setF_cells]
  rfl

/-- Changes of registers and cells alone, one after the other. -/
theorem State.rest_trans {s t u : State} (h : t = { s with regs := t.regs, cells := t.cells })
    (h' : u = { t with regs := u.regs, cells := u.cells }) : u = { s with regs := u.regs, cells := u.cells } :=
  h'.trans (congrArg (fun x : State => { x with regs := u.regs, cells := u.cells }) h)

theorem State.cell_inc (s : State) (a k : Nat) : (s.inc a).cell k = s.cell k := by
  rw [State.inc_rest]
  rfl

theorem State.nodup_boundSet (s : State) (l : Nat) : (s.boundSet l).Nodup := by
  unfold State.boundSet
  extract_lets b
  split
  · simp
  · split
    · exact List.nodup_range.map (add_right_injective l)
    · exact List.nodup_singleton l

/-- A set has at most 16 members (R226). -/
theorem State.lt_of_mem_boundSet {s : State} {l m : Nat} (h : m ∈ s.boundSet l) : m < l + 16 := by
  have hsize : s.fld (CEL_OUT l) CEL_OUT_PSIZE < 2 ^ 2 := Nat.mod_lt _ (by decide)
  have hpow : 2 ^ (s.fld (CEL_OUT l) CEL_OUT_PSIZE + 1) ≤ 2 ^ 4 := Nat.pow_le_pow_right (by decide) (by omega)
  unfold State.boundSet at h
  extract_lets b at h
  split at h
  · simp only [List.mem_cons, List.not_mem_nil, or_false] at h
    omega
  · split at h
    · obtain ⟨i, hi, rfl⟩ := List.mem_map.mp h
      have := List.mem_range.mp hi
      omega
    · rw [List.mem_singleton.mp h]
      omega

theorem State.boundSet_congr {s t : State} {l : Nat} (h : t.reg (CEL_OUT l) = s.reg (CEL_OUT l)) : t.boundSet l = s.boundSet l := by
  have hf : ∀ f, t.fld (CEL_OUT l) f = s.fld (CEL_OUT l) f := fun f => congrArg (fieldGet f) h
  unfold State.boundSet
  rw [hf, hf]

theorem State.memberCode_congr {s t : State} {m : Nat} (h : t.reg (CEL_OUT m) = s.reg (CEL_OUT m)) (x : BitVec 14) :
    t.memberCode m x = s.memberCode m x := by
  have hf : ∀ f, t.fld (CEL_OUT m) f = s.fld (CEL_OUT m) f := fun f => congrArg (fieldGet f) h
  unfold State.memberCode
  rw [hf]

theorem State.Keeps.boundSet {s t : State} (h : s.Keeps t) (l : Nat) : t.boundSet l = s.boundSet l :=
  State.boundSet_congr (h.regs _ (not_shown_out l))

theorem celOut_ne_status (u m : Nat) : CEL_OUT u ≠ CEL_STATUS m := by
  simp only [CEL_OUT, CEL_STATUS]
  omega

/-! ### What the state of a set changes (R215-R219) -/

/-- From `s` to `t` of the cells of a set the DAC latches and of their status registers the listed fields may have changed,
nothing else. -/
structure State.SetChanges (set : List Nat) (fs : List Field) (s t : State) : Prop where
  dacs : ∀ m, ∃ d, t.cell m = { s.cell m with dac := d }
  others : ∀ m, m ∉ set → t.cell m = s.cell m
  fields : ∀ m g, (∀ f ∈ fs, Field.apart f g = true) → t.fld (CEL_STATUS m) g = s.fld (CEL_STATUS m) g
  regs : s.RegsBut t (set.map CEL_STATUS)
  rest : t = { s with regs := t.regs, cells := t.cells }

namespace State.SetChanges

variable {set : List Nat} {fs gs : List Field} {s t u : State}

theorem refl (s : State) : s.SetChanges set fs s := ⟨fun _ => ⟨_, rfl⟩, fun _ _ => rfl, fun _ _ _ => rfl, fun _ _ => rfl, rfl⟩

theorem trans (h : s.SetChanges set fs t) (h' : t.SetChanges set fs u) : s.SetChanges set fs u where
  dacs m := by
    obtain ⟨d, hd⟩ := h.dacs m
    obtain ⟨d', hd'⟩ := h'.dacs m
    exact ⟨d', by rw [hd', hd]⟩
  others m hm := (h'.others m hm).trans (h.others m hm)
  fields m g hg := (h'.fields m g hg).trans (h.fields m g hg)
  regs a ha := (h'.regs a ha).trans (h.regs a ha)
  rest := State.rest_trans h.rest h'.rest

theorem mono (h : s.SetChanges set fs t) (hsub : fs ⊆ gs) : s.SetChanges set gs t :=
  ⟨h.dacs, h.others, fun m g hg => h.fields m g fun f hf => hg f (hsub hf), h.regs, h.rest⟩

theorem foldl {f : State → Nat → State} (hf : ∀ (s : State), ∀ m ∈ set, s.SetChanges set fs (f s m)) (s : State) :
    s.SetChanges set fs (set.foldl f s) :=
  List.foldlRecOn set f (.refl s) fun t ht m hm => ht.trans (hf t m hm)

theorem setF {m : Nat} {f : Field} (hm : m ∈ set) (hf : f ∈ fs) (hok : f.ok = true) (x : Nat) :
    s.SetChanges set fs (s.setF (CEL_STATUS m) f x) where
  dacs k := ⟨(s.cell k).dac, s.cell_setF _ _ _ k⟩
  others k _ := s.cell_setF _ _ _ k
  fields k g hg := by
    by_cases hk : k = m
    · rw [hk, State.fld_setF_apart _ _ _ _ _ hok (hg f hf)]
    · exact State.fld_setF_other _ _ _ _ _ _ fun h => hk (celStatus_injective h)
  regs a ha := State.reg_setF_other _ _ _ _ _ fun h => ha (h ▸ List.mem_map_of_mem hm)
  rest := s.setF_rest _ _ _

theorem dacFollow {m : Nat} (hm : m ∈ set) (l o : Nat) : s.SetChanges set fs (s.dacFollow l m o) := by
  unfold State.dacFollow
  extract_lets c d
  split
  · exact .refl s
  · refine ⟨fun k => ?_, fun k hk => State.cell_setCell_other _ _ fun h => hk (h ▸ hm), fun _ _ _ => rfl, fun _ _ => rfl, rfl⟩
    rw [State.cell_setCell]
    split
    next hk => exact ⟨d, by rw [hk]⟩
    · exact ⟨_, rfl⟩

theorem latchMember {m : Nat} (hm : m ∈ set) (cause : Nat) :
    s.SetChanges set [CEL_STATUS_LATCH, CEL_STATUS_LCAUSE] (s.latchMember cause m) := by
  unfold State.latchMember
  split
  · exact .refl s
  · exact (setF hm (by decide) rfl 1).trans (.setF hm (by decide) rfl cause)

theorem refreshCell (s : State) (u : Nat) : s.SetChanges (s.boundSet (s.governs u)) [CEL_STATUS_OUTST] (s.refreshCell u) :=
  foldl (fun _ _ hm => (dacFollow hm _ _).trans (.setF hm (by decide) rfl _)) s

end State.SetChanges

/-- The fields of a status register that a safe latch can change. -/
def latchFields : List Field := [CEL_STATUS_LATCH, CEL_STATUS_LCAUSE, CEL_STATUS_OUTST]

/-- The members of a set are latched, one by one. -/
def State.latchSet (s : State) (u cause : Nat) : State := (s.boundSet (s.governs u)).foldl (State.latchMember cause) s

theorem State.Keeps.latchSet (s : State) (u cause : Nat) : s.Keeps (s.latchSet u cause) :=
  State.Keeps.foldl (State.Keeps.latchMember cause) _ s

theorem State.SetChanges.refresh_latchSet (s : State) (u cause : Nat) :
    (s.latchSet u cause).SetChanges (s.boundSet (s.governs u)) [CEL_STATUS_OUTST] (s.latchCell u cause) := by
  have hk := State.Keeps.latchSet s u cause
  have h := State.SetChanges.refreshCell (s.latchSet u cause) u
  rwa [hk.governs, hk.boundSet] at h

theorem State.SetChanges.latchCell (s : State) (u cause : Nat) :
    s.SetChanges (s.boundSet (s.governs u)) latchFields (s.latchCell u cause) := by
  have hset : s.SetChanges (s.boundSet (s.governs u)) [CEL_STATUS_LATCH, CEL_STATUS_LCAUSE] (s.latchSet u cause) :=
    .foldl (fun _ _ hm => .latchMember hm cause) s
  exact (hset.mono (by decide)).trans ((State.SetChanges.refresh_latchSet s u cause).mono (by decide))

/-- The safe latch of a cell and its cause. -/
def State.latch (s : State) (m : Nat) : Bool × Nat := (s.bit (CEL_STATUS m) CEL_STATUS_LATCH, s.fld (CEL_STATUS m) CEL_STATUS_LCAUSE)

/-- The latch is set; the first cause stays (R217). -/
def latchedBy (cause : Nat) (x : Bool × Nat) : Bool × Nat := (true, if x.1 then x.2 else cause)

theorem State.latch_congr {s t : State} {m : Nat} (hl : t.fld (CEL_STATUS m) CEL_STATUS_LATCH = s.fld (CEL_STATUS m) CEL_STATUS_LATCH)
    (hc : t.fld (CEL_STATUS m) CEL_STATUS_LCAUSE = s.fld (CEL_STATUS m) CEL_STATUS_LCAUSE) : t.latch m = s.latch m := by
  rw [State.latch, State.bit, hl, hc, State.latch, State.bit]

theorem State.latch_latchMember (s : State) {cause : Nat} (hc : cause < 16) (m k : Nat) :
    (s.latchMember cause m).latch k = if k = m then latchedBy cause (s.latch m) else s.latch k := by
  by_cases hk : k = m
  · have hbit := s.bit_latchMember cause m
    rw [if_pos hk, hk, State.latch, hbit]
    unfold State.latchMember State.latch latchedBy
    by_cases hl : s.bit (CEL_STATUS m) CEL_STATUS_LATCH = true
    · simp only [hl, if_true]
    · simp only [hl, if_false, Bool.false_eq_true]
      rw [State.fld_setF_same _ _ _ _ rfl]
      exact congrArg _ (Nat.mod_eq_of_lt hc)
  · have hreg : (s.latchMember cause m).reg (CEL_STATUS k) = s.reg (CEL_STATUS k) :=
      (State.SetChanges.latchMember (set := [m]) List.mem_cons_self cause).regs _
        fun h => hk (celStatus_injective (List.mem_singleton.mp h))
    rw [if_neg hk]
    exact State.latch_congr (congrArg _ hreg) (congrArg _ hreg)

/-- Every member of the set is latched. -/
theorem State.latch_latchCell (s : State) {u m cause : Nat} (hc : cause < 16) (hm : m ∈ s.boundSet (s.governs u)) :
    (s.latchCell u cause).latch m = latchedBy cause (s.latch m) := by
  have href := (State.SetChanges.refresh_latchSet s u cause).fields m
  rw [State.latch_congr (href _ (by decide)) (href _ (by decide))]
  exact (foldl_pointwise (P := fun _ => True) (V := State.latch) (g := fun _ => latchedBy cause) (s.nodup_boundSet _)
    (fun _ _ _ _ => trivial) (fun t _ m _ k => t.latch_latchMember hc m k) trivial m).trans (if_pos hm)

end Sys2Proof.Machine

end

section

/-! SUPPORT. What latches a set (Table 5.7): a cause that flags a member and latches the set, and the commands that bring one
(R214, R217, R220, R222). -/

namespace Sys2Proof.Machine

section

variable {s t u : State} {l cause : Nat} {f : Field}

/-- The set of a cell is latched, with the cause where none stood; no register changed but the status of the cell and of the set. -/
def State.LatchedSet (s t : State) (l cause : Nat) : Prop :=
  (∀ m ∈ s.boundSet (s.governs l), t.bit (CEL_STATUS m) CEL_STATUS_LATCH = true ∧
    t.fld (CEL_STATUS m) CEL_STATUS_LCAUSE =
      if s.bit (CEL_STATUS m) CEL_STATUS_LATCH then s.fld (CEL_STATUS m) CEL_STATUS_LCAUSE else cause) ∧
  s.RegsBut t (CEL_STATUS l :: (s.boundSet (s.governs l)).map CEL_STATUS)

/-- A flag of a status register beside the latch. -/
structure Field.BesideLatch (f : Field) : Prop where
  ok : f.ok = true
  apart : ∀ g ∈ latchFields, Field.apart g f = true

/-- A cell is flagged and its set latched: `t` has the registers of `s` with the flag set. -/
theorem State.latchedSet_latchCell (hc : cause < 16) (hf : f.BesideLatch) (ht : ∀ a, t.reg a = (s.flag (CEL_STATUS l) f).reg a) :
    s.LatchedSet (t.latchCell l cause) l cause ∧ (t.latchCell l cause).bit (CEL_STATUS l) f = true := by
  have hother : ∀ a, a ≠ CEL_STATUS l → t.reg a = s.reg a := fun a ha => (ht a).trans (State.reg_setF_other _ _ _ _ _ ha)
  have hout : ∀ m, t.reg (CEL_OUT m) = s.reg (CEL_OUT m) := fun m => hother _ (celOut_ne_status m l)
  have hset : t.boundSet (t.governs l) = s.boundSet (s.governs l) := by
    rw [State.governs_congr hout, State.boundSet_congr (hout _)]
  have hfld : ∀ m, ∀ g ∈ latchFields, t.fld (CEL_STATUS m) g = s.fld (CEL_STATUS m) g := by
    intro m g hg
    rw [State.fld, ht, ← State.fld]
    by_cases hm : m = l
    · rw [hm]
      exact s.fld_setF_apart _ _ _ _ hf.ok ((Field.apart_comm f g).trans (hf.apart g hg))
    · exact s.fld_setF_other _ _ _ _ _ fun h => hm (celStatus_injective h)
  have hch := State.SetChanges.latchCell t l cause
  rw [hset] at hch
  refine ⟨⟨fun m hm => ?_, fun a ha => ?_⟩, ?_⟩
  · have hlatch := t.latch_latchCell hc (hset.symm ▸ hm)
    rw [State.latch_congr (hfld m _ (by decide)) (hfld m _ (by decide))] at hlatch
    exact Prod.mk.inj hlatch
  · obtain ⟨hal, ham⟩ := not_or.mp (mt List.mem_cons.mpr ha)
    exact (hch.regs a ham).trans (hother a hal)
  · rw [State.bit, hch.fields l f hf.apart, State.fld, ht, ← State.fld, ← State.bit]
    exact s.bit_setF_one _ hf.ok

/-- But for its DAC latch a cell is as it was. -/
theorem State.SetChanges.cell_but_dac {set : List Nat} {fs : List Field} (h : s.SetChanges set fs t) (m : Nat) :
    { t.cell m with dac := (s.cell m).dac } = s.cell m := by
  obtain ⟨d, hd⟩ := h.dacs m
  rw [hd]

/-- A cell that stays otherwise as it is is flagged, and its set latched. -/
theorem State.flag_latchCell (s : State) (l : Nat) (hc : cause < 16) (hf : f.BesideLatch) {t : State}
    (ht : (s.flag (CEL_STATUS l) f).latchCell l cause = t) : s.LatchedSet t l cause ∧ t.bit (CEL_STATUS l) f = true ∧
    (∀ m, { t.cell m with dac := (s.cell m).dac } = s.cell m) ∧ t = { s with regs := t.regs, cells := t.cells } := by
  obtain ⟨hlatch, hflag⟩ := State.latchedSet_latchCell (s := s) (t := s.flag (CEL_STATUS l) f) hc hf fun _ => rfl
  have hch := State.SetChanges.latchCell (s.flag (CEL_STATUS l) f) l cause
  rw [ht] at hlatch hflag hch
  refine ⟨hlatch, hflag, fun m => ?_, State.rest_trans (s.setF_rest _ _ _) hch.rest⟩
  have hdac := hch.cell_but_dac m
  rwa [State.setF_flag, State.cell_setF] at hdac

/-- A command that either does what it says or leaves the state as it is. -/
theorem State.does_ite {i : Instr} {p : Prop} [Decidable p] {A : State → Prop} (h : p → s.Does i A)
    (hn : ¬p → exec i s = .next s) : s.Does i fun t => if p then A t else t = s := by
  by_cases hp : p
  · simp only [if_pos hp]
    exact h hp
  · simp only [if_neg hp]
    exact ⟨s, hn hp, rfl⟩

end

section

variable (s : State) (u : Fin 512)

/-- HOLD_TIMEOUT latches the set with cause 5 (R222). -/
theorem holdTimeout_latches (h : ((s.cell u).held && !(s.cell u).holdEnd) = true) : s.Does (.holdTimeout u) fun t =>
    s.LatchedSet t u 5 ∧ t.bit (CEL_STATUS u) CEL_STATUS_HTO = true ∧
    { t.cell u with dac := (s.cell u).dac } = { s.cell u with held := false, timedOut := true } ∧
    (∀ m, m ≠ u.val → { t.cell m with dac := (s.cell m).dac } = s.cell m) ∧ t = { s with regs := t.regs, cells := t.cells } := by
  obtain ⟨c, hc⟩ : ∃ c, { s.cell u with held := false, timedOut := true } = c := ⟨_, rfl⟩
  obtain ⟨t, ht⟩ : ∃ t, ((s.setCell u c).flag (CEL_STATUS u) CEL_STATUS_HTO).latchCell u 5 = t := ⟨_, rfl⟩
  obtain ⟨hlatch, hflag, hcell, hrest⟩ := (s.setCell u c).flag_latchCell u (by decide) ⟨rfl, by decide⟩ ht
  refine ⟨t, ?_, hlatch, hflag, ?_, fun m hm => ?_, hrest⟩
  · rw [← ht, ← hc]
    exact if_pos h
  · have hdac := hcell u
    rw [State.cell_setCell_same] at hdac
    rw [hc, ← hdac, ← hc]
  · have hdac := hcell m
    rwa [State.cell_setCell_other _ _ hm] at hdac

/-- STARVE_TIMEOUT latches the set with cause 6 (R220). -/
theorem starveTimeout_latches (h : s.governs u = u ∧ s.fld (CEL_OUT u) CEL_OUT_MODE = 1 ∧
      s.fld (CEL_HOLD u) CEL_HOLD_STARVE ≠ 0 ∧ 2 ≤ s.outState u) : s.Does (.starveTimeout u) fun t =>
    s.LatchedSet t u 6 ∧ t.bit (CEL_STATUS u) CEL_STATUS_STARVE = true ∧
    (∀ m, { t.cell m with dac := (s.cell m).dac } = s.cell m) ∧ t = { s with regs := t.regs, cells := t.cells } := by
  obtain ⟨t, ht⟩ : ∃ t, (s.flag (CEL_STATUS u) CEL_STATUS_STARVE).latchCell u 6 = t := ⟨_, rfl⟩
  refine ⟨t, ?_, s.flag_latchCell u (by decide) ⟨rfl, by decide⟩ ht⟩
  rw [← ht]
  exact if_pos h

/-- OVERCURRENT flags the member, and under OC_SAFE latches the set with cause 7 (R214, R228). -/
theorem overcurrent_flags : s.Does (.overcurrent u) fun t =>
    t.bit (CEL_STATUS u) CEL_STATUS_OC = true ∧ (∀ m, { t.cell m with dac := (s.cell m).dac } = s.cell m) ∧
    t = { s with regs := t.regs, cells := t.cells } ∧
    if s.bit (CEL_OUT (s.governs u)) CEL_OUT_OC_SAFE then s.LatchedSet t u 7
      else s.RegsBut t [CEL_STATUS u] ∧ t.cells = s.cells := by
  obtain ⟨v, hv⟩ : ∃ v, s.flag (CEL_STATUS u) CEL_STATUS_OC = v := ⟨_, rfl⟩
  have hother : ∀ a, a ≠ CEL_STATUS u → v.reg a = s.reg a := fun a ha => hv ▸ s.reg_setF_other _ _ _ _ ha
  have hout : ∀ m, v.reg (CEL_OUT m) = s.reg (CEL_OUT m) := fun m => hother _ (celOut_ne_status m u)
  have hcell : ∀ m, v.cell m = s.cell m := fun m => hv ▸ s.cell_setF _ _ _ m
  have hsafe : v.bit (CEL_OUT (v.governs u)) CEL_OUT_OC_SAFE = s.bit (CEL_OUT (s.governs u)) CEL_OUT_OC_SAFE := by
    rw [State.bit, State.fld, hout, State.governs_congr hout, ← State.fld, ← State.bit]
  have hexec : exec (.overcurrent u) s =
      if v.bit (CEL_OUT (v.governs u)) CEL_OUT_OC_SAFE then .next (v.latchCell u 7) else .next v := by
    rw [← hv]
    rfl
  rw [hsafe] at hexec
  by_cases h : s.bit (CEL_OUT (s.governs u)) CEL_OUT_OC_SAFE = true
  · obtain ⟨t, ht⟩ : ∃ t, v.latchCell u 7 = t := ⟨_, rfl⟩
    obtain ⟨hlatch, hflag, hdac, hrest⟩ := s.flag_latchCell u (by decide) ⟨rfl, by decide⟩ ((congrArg (·.latchCell u 7) hv).trans ht)
    simp only [if_pos h, ht] at hexec ⊢
    exact ⟨t, hexec, hflag, hdac, hrest, hlatch⟩
  · simp only [if_neg h] at hexec ⊢
    refine ⟨v, hexec, hv ▸ s.bit_setF_one _ rfl, fun m => ?_, hv ▸ s.setF_rest _ _ _,
      fun a ha => hother a fun h => ha (List.mem_singleton.mpr h), hv ▸ s.setF_cells _ _ _⟩
    rw [hcell]

end

/-! ### Causes that still hold (R217) -/

/-- Every member of a set is latched. -/
def State.AllLatched (s : State) (set : List Nat) : Prop := ∀ m ∈ set, s.bit (CEL_STATUS m) CEL_STATUS_LATCH = true

theorem State.AllLatched.keeps {s t : State} {set : List Nat} (h : s.AllLatched set) (hk : s.Keeps t) : t.AllLatched set :=
  fun m hm => hk.cells m (h m hm)

/-- A cause that may hold latches the set where it holds. -/
def State.latchIf (s : State) (b : Bool) (l cause : Nat) : State := if b then s.latchCell l cause else s

theorem State.Keeps.latchIf (s : State) (b : Bool) (l cause : Nat) : s.Keeps (s.latchIf b l cause) := by
  unfold State.latchIf
  split
  · exact .latchCell s l cause
  · exact .refl s

theorem State.allLatched_latchCell (s : State) (l : Nat) {cause : Nat} (hc : cause < 16) :
    (s.latchCell l cause).AllLatched (s.boundSet (s.governs l)) :=
  fun _ hm => congrArg Prod.fst (s.latch_latchCell hc hm)

theorem State.allLatched_latchIf {s t : State} (h : s.Keeps t) (l : Nat) {cause : Nat} (hc : cause < 16) :
    (t.latchIf true l cause).AllLatched (s.boundSet (s.governs l)) := by
  have hl := t.allLatched_latchCell l hc
  rwa [h.governs, h.boundSet] at hl

theorem State.clockUnsafe_latchCell (s : State) (l cause : Nat) : (s.latchCell l cause).clockUnsafe = s.clockUnsafe := by
  rw [(State.SetChanges.latchCell s l cause).rest]
  rfl

theorem State.relatch_eq (s : State) (l : Nat) : s.relatch l =
    ((s.latchIf s.fenced l 2).latchIf s.clockUnsafe l 3).latchIf (s.bit PWR_STATUS PWR_STATUS_PFL) l 4 := by
  have hclock : (s.latchIf s.fenced l 2).clockUnsafe = s.clockUnsafe := by
    unfold State.latchIf
    split
    · exact s.clockUnsafe_latchCell l 2
    · rfl
  have hpfl : ((s.latchIf s.fenced l 2).latchIf s.clockUnsafe l 3).bit PWR_STATUS PWR_STATUS_PFL =
      s.bit PWR_STATUS PWR_STATUS_PFL := by
    have hk := (State.Keeps.latchIf s s.fenced l 2).trans (.latchIf _ s.clockUnsafe l 3)
    rw [State.bit, State.fld, hk.regs _ (not_shown_low (by decide)), State.bit, State.fld]
  unfold State.relatch
  rw [← State.latchIf, ← State.latchIf, ← State.latchIf, hclock, hpfl]

theorem State.Keeps.relatch (s : State) (l : Nat) : s.Keeps (s.relatch l) := by
  rw [State.relatch_eq]
  exact (State.Keeps.latchIf _ _ _ _).trans ((State.Keeps.latchIf _ _ _ _).trans (.latchIf _ _ _ _))

/-- A cause of the latch that is present. -/
def State.latchCause (s : State) : Bool := s.fenced || s.clockUnsafe || s.bit PWR_STATUS PWR_STATUS_PFL

theorem State.relatch_calm {s : State} (h : s.latchCause = false) (l : Nat) : s.relatch l = s := by
  simp only [State.latchCause, Bool.or_eq_false_iff] at h
  obtain ⟨⟨hf, hc⟩, hp⟩ := h
  rw [State.relatch_eq, hf, hc, hp]
  rfl

theorem State.allLatched_relatch {s : State} (h : s.latchCause = true) (l : Nat) :
    (s.relatch l).AllLatched (s.boundSet (s.governs l)) := by
  have hk2 := State.Keeps.latchIf s s.fenced l 2
  have hk3 := State.Keeps.latchIf (s.latchIf s.fenced l 2) s.clockUnsafe l 3
  have hk4 := State.Keeps.latchIf ((s.latchIf s.fenced l 2).latchIf s.clockUnsafe l 3) (s.bit PWR_STATUS PWR_STATUS_PFL) l 4
  rw [State.relatch_eq]
  simp only [State.latchCause, Bool.or_eq_true] at h
  obtain (hf | hc) | hp := h
  · exact State.AllLatched.keeps (hf ▸ State.allLatched_latchIf (.refl s) l (by decide)) (hk3.trans hk4)
  · exact State.AllLatched.keeps (hc ▸ State.allLatched_latchIf hk2 l (by decide)) hk4
  · exact hp ▸ State.allLatched_latchIf (hk2.trans hk3) l (by decide)

end Sys2Proof.Machine

end

section

/-! SUPPORT. The waveform banks (R210): the end of a load, and the read of a code. -/

namespace Sys2Proof.Machine

theorem State.regsBut_setF (s : State) (a : Nat) (f : Field) (x : Nat) : s.RegsBut (s.setF a f x) [a] :=
  fun _ hk => State.reg_setF_other _ _ _ _ _ fun h => hk (List.mem_singleton.mpr h)

theorem State.fieldTo_setF (s : State) (a : Nat) {f : Field} {x : Nat} (hok : f.ok = true) (hx : x < 2 ^ fieldWidth f) :
    s.FieldTo (s.setF a f x) a f x :=
  ⟨(s.fld_setF_same a f x hok).trans (Nat.mod_eq_of_lt hx), fun g hg => s.fld_setF_apart a f g x hok hg⟩

/-- The cell when a load of its inactive bank is complete. -/
def State.loaded (s : State) (l n : Nat) : Cell :=
  if s.bit (CEL_WAVE l) CEL_WAVE_ACTIVE then { s.cell l with lenA := n, loading := none }
  else { s.cell l with lenB := n, loading := none }

theorem waveLoadComplete_loads (s : State) (u : Fin 512) : s.Does (.waveLoadComplete u) fun t => match (s.cell u).loading with
    | none => t = s
    | some (n, _) => s.FieldTo t (CEL_WAVE u) CEL_WAVE_READY 1 ∧ s.RegsBut t [CEL_WAVE u] ∧ t.cell u = s.loaded u n ∧
        (∀ m, m ≠ u.val → t.cell m = s.cell m) ∧ t = { s with regs := t.regs, cells := t.cells } := by
  have hexec : exec (.waveLoadComplete u) s = match (s.cell u).loading with
      | none => .next s
      | some (n, _) => .next ((s.setCell u (s.loaded u n)).flag (CEL_WAVE u) CEL_WAVE_READY) := rfl
  cases hl : (s.cell u).loading with
  | none =>
    rw [hl] at hexec
    exact ⟨s, hexec, rfl⟩
  | some p =>
    rw [hl] at hexec
    obtain ⟨v, hv⟩ : ∃ v, s.setCell u (s.loaded u p.1) = v := ⟨_, rfl⟩
    have hcell : ∀ m, v.cell m = if m = u.val then s.loaded u p.1 else s.cell m := fun m => hv ▸ s.cell_setCell _ m _
    have hto := v.fieldTo_setF (CEL_WAVE u) (f := CEL_WAVE_READY) (x := 1) rfl (by decide)
    have hbut := v.regsBut_setF (CEL_WAVE u) CEL_WAVE_READY 1
    have hrest := v.setF_rest (CEL_WAVE u) CEL_WAVE_READY 1
    refine ⟨_, hexec, ?_⟩
    simp only [hv, State.setF_flag]
    refine ⟨hv ▸ hto, hv ▸ hbut, ?_, fun m hm => ?_, hv ▸ hrest⟩
    · rw [State.cell_setF, hcell, if_pos rfl]
    · rw [State.cell_setF, hcell, if_neg hm]

/-- A code in the place of a sample is a register word. -/
theorem toNat_codeWord (x : BitVec 14) : (BitVec.ofNat 32 (x.toNat * 0x40000)).toNat = x.toNat * 0x40000 := by
  rw [BitVec.toNat_ofNat]
  exact Nat.mod_eq_of_lt (by have := x.isLt; omega)

/-- The bank that CEL_WAVE_ADDR selects. -/
def State.addrBank (s : State) (l : Nat) : Tbl (BitVec 14) :=
  if s.bit (CEL_WAVE l) CEL_WAVE_ACTIVE == s.bit (CEL_WAVE_ADDR l) CEL_WAVE_ADDR_BANK then (s.cell l).bankA else (s.cell l).bankB

theorem celWaveDataRead_reads {s : State} {q : Req} {u : Fin 512} (h : s.access q (CEL_WAVE_DATA u) false = .ok) :
    s.Does (.celWaveDataRead q u) fun t =>
      t.reply = .value ((bankCode (s.addrBank u) (s.fld (CEL_WAVE_ADDR u) CEL_WAVE_ADDR_INDEX)).toNat * 0x40000) ∧
      s.FieldTo t (CEL_WAVE_ADDR u) CEL_WAVE_ADDR_INDEX ((s.fld (CEL_WAVE_ADDR u) CEL_WAVE_ADDR_INDEX + 1) % 4096) ∧
      s.RegsBut t [CEL_WAVE_ADDR u] ∧ t = { s with regs := t.regs, reply := t.reply } := by
  obtain ⟨a, ha⟩ : ∃ a, CEL_WAVE_ADDR u = a := ⟨_, rfl⟩
  have hlt : (s.fld a CEL_WAVE_ADDR_INDEX + 1) % 4096 < 2 ^ fieldWidth CEL_WAVE_ADDR_INDEX := Nat.mod_lt _ (by decide)
  refine ⟨_, congrArg Host.Outcome.next (State.guardRead_ok _ h), ?_⟩
  simp only [State.waveDataRead, toNat_codeWord, ha]
  exact ⟨ha ▸ rfl, s.fieldTo_setF a rfl hlt, s.regsBut_setF a _ _, rfl⟩

end Sys2Proof.Machine

end

section

/-! SUPPORT. A code reaches the DACs of a set (R203-R205, R213, R225, R226). -/

namespace Sys2Proof.Machine

/-! ### Offering an echo word -/

theorem State.offer_rest (s : State) (p : Nat) (w : CWord) :
    s.offer p w = { s with regs := (s.offer p w).regs, cxb := (s.offer p w).cxb } := by
  unfold State.offer
  dsimp only
  split
  · split
    · split <;> rfl
    · rfl
  · split <;> rfl

theorem State.cell_offer (s : State) (p : Nat) (w : CWord) (k : Nat) : (s.offer p w).cell k = s.cell k := by
  rw [State.offer_rest]
  rfl

/-- The end of a border state shows in registers of the crossbar alone. -/
theorem State.reg_setBorder (s : State) (p : Nat) (b : Bool) {a : Nat} (hp : p < 2 ^ 20) (ha : 0xF1000000 ≤ a) :
    (s.setBorder p b).reg a = s.reg a :=
  (State.reg_setF_other _ _ _ _ _ (by unfold CXB_STATUS; omega)).trans
    (State.reg_put_other _ _ _ _ (by unfold CXB_BSTAT; omega))

theorem State.reg_offer (s : State) {p : Nat} (w : CWord) {a : Nat} (hp : p < 2 ^ 20) (ha : 0xF1000000 ≤ a) :
    (s.offer p w).reg a = s.reg a := by
  have hborder := s.reg_setBorder p false hp ha
  unfold State.offer
  dsimp only
  split
  · split
    · split <;> exact hborder
    · rfl
  · split <;> rfl

/-- What the crossbar makes of a word depends on the crossbar alone. -/
theorem State.cxb_offer_congr {s t : State} (h : t.cxb = s.cxb) (p : Nat) (w : CWord) : (t.offer p w).cxb = (s.offer p w).cxb := by
  have hborder : t.inBorder p = s.inBorder p := congrArg (fun x : Cxb => tblGet (fun _ => false) x.border p) h
  have hdests : t.destsOf p = s.destsOf p := by rw [State.destsOf, h, State.destsOf]
  have hended : (t.setBorder p false).cxb = (s.setBorder p false).cxb := congrArg (fun x : Cxb => { x with
    border := tblSet (fun _ => false) x.border p false, released := tblSet (fun _ => false) x.released p false }) h
  have hendedDests : (t.setBorder p false).destsOf p = (s.setBorder p false).destsOf p := hdests
  unfold State.offer
  dsimp only
  rw [hborder, h, hdests, hendedDests]
  split
  · split
    · split
      · exact hended
      · simp only [hended]
    · exact h
  · split
    · exact h
    · rfl

/-! ### Changes around a set -/

/-- From `s` to `t` no cell beside a set changed, nor CEL_OUT, the memory or what is sent. -/
structure State.Around (set : List Nat) (s t : State) : Prop where
  others : ∀ m, m ∉ set → t.cell m = s.cell m
  settings : ∀ m, t.reg (CEL_OUT m) = s.reg (CEL_OUT m)
  mem : t.mem = s.mem
  out : t.out = s.out

namespace State.Around

variable {set : List Nat} {s t u : State}

theorem refl (s : State) : s.Around set s := ⟨fun _ _ => rfl, fun _ => rfl, rfl, rfl⟩

theorem trans (h : s.Around set t) (h' : t.Around set u) : s.Around set u :=
  ⟨fun m hm => (h'.others m hm).trans (h.others m hm), fun m => (h'.settings m).trans (h.settings m), h'.mem.trans h.mem,
    h'.out.trans h.out⟩

theorem mono {set' : List Nat} (h : s.Around set t) (hsub : set ⊆ set') : s.Around set' t :=
  ⟨fun m hm => h.others m fun hm' => hm (hsub hm'), h.settings, h.mem, h.out⟩

theorem foldl {f : State → Nat → State} (hf : ∀ (s : State), ∀ m ∈ set, s.Around set (f s m)) (s : State) :
    s.Around set (set.foldl f s) :=
  List.foldlRecOn set f (.refl s) fun t ht m hm => ht.trans (hf t m hm)

theorem setCell {m : Nat} (hm : m ∈ set) (c : Cell) : s.Around set (s.setCell m c) :=
  ⟨fun _ hk => State.cell_setCell_other _ _ fun h => hk (h ▸ hm), fun _ => rfl, rfl, rfl⟩

theorem setF {a : Nat} (ha : ∀ m, CEL_OUT m ≠ a) (f : Field) (x : Nat) : s.Around set (s.setF a f x) :=
  ⟨fun k _ => s.cell_setF a f x k, fun m => s.reg_setF_other a _ f x (ha m), rfl, rfl⟩

theorem inc (a : Nat) : s.Around set (s.inc a) :=
  ⟨fun k _ => s.cell_inc a k, fun _ => s.reg_inc a _, by rw [State.inc_rest], by rw [State.inc_rest]⟩

theorem offer {m : Nat} (hm : m < 2 ^ 20) (w : CWord) : s.Around set (s.offer m w) :=
  ⟨fun k _ => s.cell_offer m w k, fun k => s.reg_offer w hm (by unfold CEL_OUT; omega), by rw [State.offer_rest],
    by rw [State.offer_rest]⟩

theorem enqueue (o : StOp) : s.Around set (s.enqueue o) := ⟨fun _ _ => rfl, fun _ => rfl, rfl, rfl⟩

theorem boundSet (h : s.Around set t) (l : Nat) : t.boundSet l = s.boundSet l := State.boundSet_congr (h.settings l)

theorem memberCode (h : s.Around set t) (m : Nat) (x : BitVec 14) : t.memberCode m x = s.memberCode m x :=
  State.memberCode_congr (h.settings m) x

theorem governs (h : s.Around set t) (u : Nat) : t.governs u = s.governs u := State.governs_congr h.settings u

end State.Around

/-- The output state of a set is shown and its DAC latches follow it. -/
theorem State.SetChanges.around {set : List Nat} {fs : List Field} {s t : State} (h : s.SetChanges set fs t) : s.Around set t := by
  refine ⟨h.others, fun m => h.regs _ fun hm => ?_, by rw [h.rest], by rw [h.rest]⟩
  obtain ⟨k, -, hk⟩ := List.mem_map.mp hm
  exact celOut_ne_status m k hk.symm

/-! ### A code is applied -/

/-- A cell that has been sent a code, in an output state. -/
def Cell.driven (c : Cell) (x : BitVec 14) (sat : Bool) (o : Nat) : Cell :=
  { c with code := x, sat := sat, dac := if 2 ≤ o then x else c.dac }

/-- One member of a set is sent its code, and offers its echo word (R213); `e` is ECHO. -/
def State.driveMember (o e : Nat) (code : BitVec 14) (sat inPlay : Bool) (first : Option Stamp) (s : State) (m : Nat) : State :=
  let t := s.setCell m ((s.cell m).driven (s.memberCode m code) sat o)
  if 2 ≤ o ∧ (e = 1 ∨ (e = 2 ∧ inPlay)) then
    t.offer m (echoWord (s.memberCode m code) (o == 2) sat (if e = 2 then first else none))
  else t

section

variable (s : State) (l : Nat) (o e : Nat) (code : BitVec 14) (sat inPlay : Bool) (first : Option Stamp)

theorem State.applyCode_eq : s.applyCode l code sat inPlay first =
    (s.boundSet l).foldl (State.driveMember (s.outState l) (s.fld (CEL_OUT l) CEL_OUT_ECHO) code sat inPlay first) s := rfl

theorem State.cell_driveMember (m k : Nat) : (s.driveMember o e code sat inPlay first m).cell k =
    if k = m then (s.cell m).driven (s.memberCode m code) sat o else s.cell k := by
  unfold State.driveMember
  extract_lets t
  have ht : t.cell k = if k = m then (s.cell m).driven (s.memberCode m code) sat o else s.cell k := s.cell_setCell m k _
  split
  · rw [State.cell_offer, ht]
  · exact ht

theorem State.Around.driveMember {set : List Nat} {m : Nat} (hm : m ∈ set) (hlt : m < 2 ^ 20) :
    s.Around set (s.driveMember o e code sat inPlay first m) := by
  unfold State.driveMember
  extract_lets t
  have ht : s.Around set t := .setCell hm _
  split
  · exact ht.trans (.offer hlt _)
  · exact ht

variable {l} (hl : l < 512)

include hl

theorem State.small_boundSet {m : Nat} (hm : m ∈ s.boundSet l) : m < 2 ^ 20 := by
  have := State.lt_of_mem_boundSet hm
  omega

theorem State.Around.applyCode : s.Around (s.boundSet l) (s.applyCode l code sat inPlay first) :=
  .foldl (fun t _ hm => .driveMember t _ _ _ _ _ _ hm (s.small_boundSet hl hm)) s

/-- Each member of the set is sent the code, and no other cell (R225, R226). -/
theorem State.cell_applyCode (k : Nat) : (s.applyCode l code sat inPlay first).cell k =
    if k ∈ s.boundSet l then (s.cell k).driven (s.memberCode k code) sat (s.outState l) else s.cell k := by
  rw [State.applyCode_eq]
  refine foldl_pointwise (P := State.Around (s.boundSet l) s) (V := State.cell)
    (g := fun m c => c.driven (s.memberCode m code) sat (s.outState l)) (s.nodup_boundSet l)
    (fun t ht m hm => ht.trans (.driveMember _ _ _ _ _ _ _ hm (s.small_boundSet hl hm))) (fun t ht m _ k => ?_) (.refl s) k
  rw [State.cell_driveMember, ht.memberCode]

theorem State.reg_applyCode {a : Nat} (ha : 0xF1000000 ≤ a) : (s.applyCode l code sat inPlay first).reg a = s.reg a := by
  rw [State.applyCode_eq]
  refine List.foldlRecOn (motive := fun t : State => t.reg a = s.reg a) _ _ rfl fun t ht m hm => ?_
  unfold State.driveMember
  extract_lets v
  split
  · exact (v.reg_offer _ (s.small_boundSet hl hm) ha).trans ht
  · exact ht

omit hl in
/-- Without an echo an update changes cells alone. -/
theorem State.applyCode_quiet (h : ¬(2 ≤ s.outState l ∧ (s.fld (CEL_OUT l) CEL_OUT_ECHO = 1 ∨
    (s.fld (CEL_OUT l) CEL_OUT_ECHO = 2 ∧ inPlay = true)))) : s.applyCode l code sat inPlay first =
      { s with cells := (s.applyCode l code sat inPlay first).cells } := by
  rw [State.applyCode_eq]
  refine List.foldlRecOn (motive := fun t : State => t = { s with cells := t.cells }) _ _ rfl fun t ht m _ => ?_
  unfold State.driveMember
  extract_lets v
  rw [if_neg h]
  exact congrArg (fun x : State => { x with cells := v.cells }) ht

omit hl in
/-- A cell bound to no other offers its echo word (R213). -/
theorem State.applyCode_echo (ho : 2 ≤ s.outState l) (he : s.fld (CEL_OUT l) CEL_OUT_ECHO = 1) (hset : s.boundSet l = [l]) :
    (s.applyCode l code sat inPlay none).cxb = (s.offer l (echoWord (s.memberCode l code) (s.outState l == 2) sat none)).cxb := by
  rw [State.applyCode_eq, hset, List.foldl_cons, List.foldl_nil, State.driveMember, if_pos ⟨ho, .inl he⟩, ite_self]
  exact State.cxb_offer_congr (s := s) (t := s.setCell l _) rfl _ _

end

/-! ### What reaches a set -/

/-- From `s` to `t` the set of a cell was sent a code, a member inverted where it is DIFF_N; no other cell changed, nor CEL_OUT,
the memory or what is sent. -/
structure State.Sends (l : Nat) (x : BitVec 14) (sat : Bool) (s t : State) : Prop where
  around : s.Around (s.boundSet l) t
  codes : ∀ m ∈ s.boundSet l, (t.cell m).code = s.memberCode m x ∧ (t.cell m).sat = sat

section

variable {s t u : State} {l : Nat} {x : BitVec 14} {sat : Bool}

theorem State.Sends.applyCode (hl : l < 512) (inPlay : Bool) (first : Option Stamp) :
    s.Sends l x sat (s.applyCode l x sat inPlay first) := by
  refine ⟨.applyCode s x sat inPlay first hl, fun m hm => ?_⟩
  rw [State.cell_applyCode s x sat inPlay first hl, if_pos hm]
  exact ⟨rfl, rfl⟩

theorem State.Sends.after (h : s.Around (s.boundSet l) t) (h' : t.Sends l x sat u) : s.Sends l x sat u := by
  have hset := h.boundSet l
  refine ⟨h.trans (hset ▸ h'.around), fun m hm => ?_⟩
  rw [← h.memberCode m x]
  exact h'.codes m (hset.symm ▸ hm)

theorem State.Sends.before (h : s.Sends l x sat t) (h' : t.Around (s.boundSet l) u)
    (hc : ∀ m, (u.cell m).code = (t.cell m).code) (hs : ∀ m, (u.cell m).sat = (t.cell m).sat) : s.Sends l x sat u := by
  refine ⟨h.around.trans h', fun m hm => ?_⟩
  rw [hc, hs]
  exact h.codes m hm

/-- What the statement says of a code that reaches a set. -/
theorem State.Sends.drives (h : s.Sends l x sat t) (hg : s.governs l = l) :
    (∀ m ∈ s.boundSet (s.governs l), (t.cell m).code = s.memberCode m x ∧ (t.cell m).sat = sat) ∧
    (∀ m, m ∉ s.boundSet (s.governs l) → m ≠ l → t.cell m = s.cell m) ∧ t.mem = s.mem ∧ t.out = s.out := by
  rw [hg]
  exact ⟨h.codes, fun m hm _ => h.around.others m hm, h.around.mem, h.around.out⟩

end

end Sys2Proof.Machine

end

section

/-! SUPPORT. DAC_UPDATE (R203-R205, R207, R208, R210-R213, R221, R222): the modes CONST and WAVE, and the samples of STREAM. -/

namespace Sys2Proof.Machine

/-! ### The update of a governing cell -/

section

variable {s : State} {u : Fin 512}

theorem dacUpdate_stays (h : s.halted 14 = true ∨ ((s.cell u).lateQ = [] ∧ s.governs u ≠ u)) : exec (.dacUpdate u) s = .next s := by
  refine congrArg Host.Outcome.next ?_
  obtain hhalt | ⟨hlate, hgov⟩ := h
  · exact if_pos hhalt
  · by_cases hhalt : s.halted 14 = true
    · exact if_pos hhalt
    · have hnow : s.lateNow u = s := if_pos (by rw [hlate]; rfl)
      rw [if_neg hhalt, hnow]
      exact if_neg hgov

theorem dacUpdate_runs (hhalt : s.halted 14 = false) (hlate : (s.cell u).lateQ = []) (hgov : s.governs u = u) :
    exec (.dacUpdate u) s = .next (s.dacUpdate u) := by
  have hnow : s.lateNow u = s := if_pos (by rw [hlate]; rfl)
  refine congrArg Host.Outcome.next ?_
  rw [if_neg (ne_true_of_eq_false hhalt), hnow]
  exact if_pos hgov

end

section

variable {s : State} {l : Nat}

theorem State.dacUpdate_const (hm : s.fld (CEL_OUT l) CEL_OUT_MODE = 0) :
    s.dacUpdate l = (s.relatch l).applyCode l (regCode ((s.relatch l).reg (CEL_CONST l))) false false none := by
  have hmode : (s.relatch l).fld (CEL_OUT l) CEL_OUT_MODE = 0 := by
    rw [State.fld, (State.Keeps.relatch s l).regs _ (not_shown_out l), ← State.fld, hm]
  unfold State.dacUpdate
  dsimp only
  rw [hmode]
  rfl

theorem State.dacUpdate_stream (hc : s.latchCause = false) (hm : s.fld (CEL_OUT l) CEL_OUT_MODE = 1) :
    s.dacUpdate l = s.streamUpdate l := by
  unfold State.dacUpdate
  dsimp only
  rw [State.relatch_calm hc, hm]
  rfl

theorem State.dacUpdate_wave (hc : s.latchCause = false) (hm : 2 ≤ s.fld (CEL_OUT l) CEL_OUT_MODE) :
    s.dacUpdate l = s.waveUpdate l := by
  obtain ⟨k, hk⟩ := Nat.exists_eq_add_of_le' hm
  unfold State.dacUpdate
  dsimp only
  rw [State.relatch_calm hc, hk]
  rfl

variable (hl : l < 512)

include hl

/-- A set that a cause latches stays latched by an update in CONST mode. -/
theorem State.dacUpdate_latches (hc : s.latchCause = true) (hm : s.fld (CEL_OUT l) CEL_OUT_MODE = 0) :
    (s.dacUpdate l).AllLatched (s.boundSet (s.governs l)) := by
  intro m hmem
  rw [State.dacUpdate_const hm, State.bit, State.fld, State.reg_applyCode _ _ _ _ _ hl (by unfold CEL_STATUS; omega)]
  exact State.allLatched_relatch hc l m hmem

/-! ### WAVE (R204, R212) -/

theorem State.waveUpdate_idle (hp : (s.cell l).playing = none) :
    s.Sends l (regCode (s.reg (CEL_WAVE l))) false (s.waveUpdate l) := by
  unfold State.waveUpdate
  rw [hp]
  exact .applyCode hl _ _

/-- What an update of a cell that plays index `k` of its active bank does. -/
theorem State.waveUpdate_plays {k : Nat} (hp : (s.cell l).playing = some k) :
    if k < (s.activeBank l).2 then
      s.Sends l (bankCode (s.activeBank l).1 k) false (s.waveUpdate l) ∧ ((s.waveUpdate l).cell l).playing = some (k + 1)
    else s.Sends l (regCode (s.reg (CEL_WAVE l))) false (s.waveUpdate l) ∧ ((s.waveUpdate l).cell l).playing = none := by
  have hsent : ∀ (p : Option Nat) (x : BitVec 14) (b : Bool),
      s.Sends l x false ((s.setCell l { s.cell l with playing := p }).applyCode l x false b none) ∧
      (((s.setCell l { s.cell l with playing := p }).applyCode l x false b none).cell l).playing = p := by
    intro p x b
    refine ⟨.after (.setCell (s.mem_boundSet l) _) (.applyCode hl _ _), ?_⟩
    rw [State.cell_applyCode _ _ _ _ _ hl, if_pos (State.mem_boundSet _ l), State.cell_setCell_same]
    rfl
  unfold State.waveUpdate
  rw [hp]
  dsimp only
  split
  · exact hsent _ _ _
  · exact hsent _ _ _

end

/-! ### The samples of the FIFO (R207, R208) -/

theorem CWord.stampOf_eq_none {w : CWord} : w.stampOf = none ↔ w.stamp = none := Option.map_eq_none_iff

section

variable {s t : State} {l : Nat}

/-- A sample without a stamp at the head of the FIFO needs no preparation. -/
theorem State.fifoHead_plain (h : ∀ w ∈ (s.cell l).fifo, w.stamp = none) (n : Nat) : s.fifoHead l n = s := by
  cases n with
  | zero => rfl
  | succ n =>
    unfold State.fifoHead
    cases hf : (s.cell l).fifo with
    | nil => rfl
    | cons w r =>
      have hw : w.stampOf = none := CWord.stampOf_eq_none.mpr (h w (hf ▸ List.mem_cons_self))
      simp only [hw]

/-- What becomes of a stamped sample that comes to the head of the FIFO (R208). -/
theorem State.fifoHead_stamped {w : CWord} {r : List CWord} {x : Stamp} (hf : (s.cell l).fifo = w :: r) (hx : w.stampOf = some x)
    (n : Nat) : s.fifoHead l (n + 1) =
      if Stamp.beyond x s.angle then ((s.setCell l { s.cell l with fifo := r }).dropSample l).fifoHead l n
      else if s.late x .fwd 86 then (s.inc (CEL_LATE_LO l)).setCell l { s.cell l with headDue := true }
      else s.enqueue ⟨0, l, x, .fwd, .stream w, .sup, 0⟩ := by
  rw [State.fifoHead, hf]
  dsimp only
  rw [hx]

/-- From `s` to `t` of the cells the FIFO of one and the mark at its head may have changed, and neither CEL_OUT nor the memory
nor what is sent. -/
structure State.HeadMoves (l : Nat) (s t : State) : Prop where
  around : s.Around [l] t
  cell : ∃ f h, t.cell l = { s.cell l with fifo := f, headDue := h }

/-- What the FIFO has no part in stays. -/
theorem State.HeadMoves.proj {β : Type} (h : s.HeadMoves l t) {p : Cell → β} (hp : ∀ c f b, p { c with fifo := f, headDue := b } = p c)
    (m : Nat) : p (t.cell m) = p (s.cell m) := by
  by_cases hm : m = l
  · obtain ⟨f, b, hc⟩ := h.cell
    rw [hm, hc, hp]
  · rw [h.around.others m fun h => hm (List.mem_singleton.mp h)]

theorem State.HeadMoves.trans {u : State} (h : s.HeadMoves l t) (h' : t.HeadMoves l u) : s.HeadMoves l u := by
  obtain ⟨f, b, hc⟩ := h.cell
  obtain ⟨f', b', hc'⟩ := h'.cell
  exact ⟨h.around.trans h'.around, f', b', by rw [hc', hc]⟩

theorem State.HeadMoves.setCell (f : List CWord) (h : Bool) : s.HeadMoves l (s.setCell l { s.cell l with fifo := f, headDue := h }) :=
  ⟨.setCell List.mem_cons_self _, f, h, s.cell_setCell_same l _⟩

/-- Changes beside the cells and CEL_OUT. -/
theorem State.HeadMoves.of_around (h : s.Around [] t) : s.HeadMoves l t :=
  ⟨h.mono (List.nil_subset _), _, _, h.others l List.not_mem_nil⟩

theorem State.Around.dropSample (s : State) (l : Nat) : s.Around [] (s.dropSample l) :=
  (State.Around.setF (fun m => celOut_ne_status m l) CEL_STATUS_DROP 1).trans (.inc _)

theorem State.HeadMoves.fifoHead (l n : Nat) : ∀ s : State, s.HeadMoves l (s.fifoHead l n) := by
  induction n with
  | zero => exact fun s => .of_around (.refl s)
  | succ n ih =>
    intro s
    cases hf : (s.cell l).fifo with
    | nil =>
      rw [State.fifoHead_plain (by rw [hf]; exact fun _ h => absurd h List.not_mem_nil)]
      exact .of_around (.refl s)
    | cons w r =>
      cases hx : w.stampOf with
      | none =>
        have hstay : s.fifoHead l (n + 1) = s := by
          unfold State.fifoHead
          simp only [hf, hx]
        rw [hstay]
        exact .of_around (.refl s)
      | some x =>
        rw [State.fifoHead_stamped hf hx]
        split
        · exact (HeadMoves.setCell r (s.cell l).headDue).trans ((HeadMoves.of_around (.dropSample _ l)).trans (ih _))
        · split
          · refine (HeadMoves.of_around (.inc (CEL_LATE_LO l))).trans ?_
            have hset := HeadMoves.setCell (s := s.inc (CEL_LATE_LO l)) (l := l) (s.cell l).fifo true
            rwa [State.cell_inc] at hset
          · exact .of_around (.enqueue _)

end

/-! ### A sample or the code in force goes to the DACs (R207) -/

/-- From `s` to `t` a code went to a set, and the hold of the cell stands as it did. -/
structure State.Streams (l : Nat) (x : BitVec 14) (sat : Bool) (s t : State) : Prop where
  sends : s.Sends l x sat t
  held : (t.cell l).held = (s.cell l).held
  holdPend : (t.cell l).holdPend = (s.cell l).holdPend
  holdEnd : (t.cell l).holdEnd = (s.cell l).holdEnd

section

variable {s : State} {l : Nat} (hl : l < 512)

include hl

/-- The code in force is applied once more; the FIFO stays. -/
theorem State.keepCode_streams :
    s.Streams l (s.cell l).code (s.cell l).sat (s.keepCode l) ∧ ((s.keepCode l).cell l).fifo = (s.cell l).fifo := by
  have hcell := s.cell_applyCode (s.cell l).code (s.cell l).sat false none hl l
  rw [if_pos (s.mem_boundSet l)] at hcell
  have hkeep : s.keepCode l = s.applyCode l (s.cell l).code (s.cell l).sat false none := rfl
  rw [hkeep]
  exact ⟨⟨.applyCode hl _ _, by rw [hcell]; rfl, by rw [hcell]; rfl, by rw [hcell]; rfl⟩, by rw [hcell]; rfl⟩

/-- The sample at the head of the FIFO is applied; the next one comes to its head. -/
theorem State.takeSample_streams {w : CWord} {r : List CWord} (hf : (s.cell l).fifo = w :: r) :
    s.Streams l (codeOfWord w.word).1 (codeOfWord w.word).2 (s.takeSample l) ∧
    ((∀ x ∈ r, x.stamp = none) → ((s.takeSample l).cell l).fifo = r) := by
  obtain ⟨v, hv⟩ : ∃ v, s.setCell l { s.cell l with fifo := r, headDue := false } = v := ⟨_, rfl⟩
  obtain ⟨a, ha⟩ : ∃ a, v.applyCode l (codeOfWord w.word).1 (codeOfWord w.word).2 false none = a := ⟨_, rfl⟩
  have htake : s.takeSample l = a.fifoHead l 4 := by
    rw [← ha, ← hv]
    unfold State.takeSample
    rw [hf]
  have haround : s.Around (s.boundSet l) v := hv ▸ .setCell (s.mem_boundSet l) _
  have hcell : a.cell l = ({ s.cell l with fifo := r, headDue := false } : Cell).driven (v.memberCode l (codeOfWord w.word).1)
      (codeOfWord w.word).2 (v.outState l) := by
    have happ := v.cell_applyCode (codeOfWord w.word).1 (codeOfWord w.word).2 false none hl l
    rw [if_pos (v.mem_boundSet l), ha] at happ
    rw [happ, ← hv, State.cell_setCell_same]
  have hsent : s.Sends l (codeOfWord w.word).1 (codeOfWord w.word).2 a := by
    rw [← ha]
    exact .after haround (.applyCode hl _ _)
  have hhead := State.HeadMoves.fifoHead l 4 a
  have hset : [l] ⊆ s.boundSet l := List.cons_subset.mpr ⟨s.mem_boundSet l, List.nil_subset _⟩
  rw [htake]
  refine ⟨⟨hsent.before (hhead.around.mono hset) (hhead.proj (p := (·.code)) fun _ _ _ => rfl)
    (hhead.proj (p := (·.sat)) fun _ _ _ => rfl), ?_, ?_, ?_⟩, fun hr => ?_⟩
  · rw [hhead.proj (p := (·.held)) fun _ _ _ => rfl, hcell]
    rfl
  · rw [hhead.proj (p := (·.holdPend)) fun _ _ _ => rfl, hcell]
    rfl
  · rw [hhead.proj (p := (·.holdEnd)) fun _ _ _ => rfl, hcell]
    rfl
  · rw [State.fifoHead_plain (by rw [hcell]; exact hr), hcell]
    rfl

end

/-! ### Holds (R221, R222) -/

/-- A hold that a word has ended is over. -/
def State.unheld (s : State) (l : Nat) : State :=
  if (s.cell l).holdEnd then s.setCell l { s.cell l with held := false, holdEnd := false } else s

/-- A pending hold engages. -/
def State.engageIf (s : State) (l : Nat) (b : Bool) : State := if b then s.engage l else s

/-- May an update take a sample: a word ended the hold, or no hold stands, is pending or has timed out (log entry 9)? -/
def State.starts (s : State) (l : Nat) : Bool :=
  (s.cell l).holdEnd || !((s.cell l).held || (s.cell l).holdPend || (s.cell l).timedOut)

theorem State.streamUpdate_starts {s : State} {l : Nat} (h : s.starts l = true) :
    s.streamUpdate l = (((s.unheld l).nextSample l).engageIf l (s.cell l).holdPend).refreshCell l := by
  unfold State.starts at h
  unfold State.streamUpdate State.unheld State.engageIf
  dsimp only
  cases he : (s.cell l).holdEnd with
  | true => simp
  | false =>
    rw [he, Bool.false_or, Bool.not_eq_true'] at h
    simp [h]

theorem State.streamUpdate_holds {s : State} {l : Nat} (h : s.starts l = false) :
    s.streamUpdate l = ((s.engageIf l (s.cell l).holdPend).keepCode l).refreshCell l := by
  unfold State.starts at h
  rw [Bool.or_eq_false_iff, Bool.not_eq_false'] at h
  obtain ⟨he, hh⟩ := h
  unfold State.streamUpdate State.engageIf
  simp [he, hh]

theorem State.unheld_around (s : State) (l : Nat) : s.Around [l] (s.unheld l) := by
  unfold State.unheld
  split
  · exact .setCell List.mem_cons_self _
  · exact .refl s

theorem State.cell_unheld (s : State) (l : Nat) : (s.unheld l).cell l =
    { s.cell l with held := (s.cell l).held && !(s.cell l).holdEnd, holdEnd := false } := by
  unfold State.unheld
  cases he : (s.cell l).holdEnd with
  | true => simp
  | false =>
    simp only [Bool.false_eq_true, if_false, Bool.not_false, Bool.and_true]
    rw [← he]

/-- From `s` to `t` a hold engaged where `b` says so; codes and FIFO stay. -/
structure State.Engages (l : Nat) (b : Bool) (s t : State) : Prop where
  around : s.Around (s.boundSet l) t
  code : ∀ m, (t.cell m).code = (s.cell m).code
  sat : ∀ m, (t.cell m).sat = (s.cell m).sat
  fifo : (t.cell l).fifo = (s.cell l).fifo
  held : (t.cell l).held = (b || (s.cell l).held)
  holdPend : (t.cell l).holdPend = (!b && (s.cell l).holdPend)
  holdEnd : (t.cell l).holdEnd = (s.cell l).holdEnd

theorem State.Engages.engage (s : State) (l : Nat) : s.Engages l true (s.engage l) := by
  obtain ⟨v, hv⟩ : ∃ v, (s.boundSet l).foldl (fun s m => s.setCell m { s.cell m with heldCode := (s.cell m).dac }) s = v := ⟨_, rfl⟩
  have hcell : ∀ k, v.cell k = if k ∈ s.boundSet l then { s.cell k with heldCode := (s.cell k).dac } else s.cell k := by
    intro k
    rw [← hv]
    exact foldl_pointwise (P := fun _ => True) (V := State.cell) (g := fun _ c => { c with heldCode := c.dac }) (s.nodup_boundSet l)
      (fun _ _ _ _ => trivial) (fun t _ m _ k => t.cell_setCell m k _) trivial k
  have hproj : ∀ {β : Type} (p : Cell → β), (∀ c x, p { c with heldCode := x } = p c) → ∀ m, p (v.cell m) = p (s.cell m) := by
    intro β p hp m
    rw [hcell]
    split
    · exact hp _ _
    · rfl
  have haround : s.Around (s.boundSet l) v := hv ▸ .foldl (fun _ _ hm => .setCell hm _) s
  have hlast : ∀ m, (v.setCell l { v.cell l with held := true, holdPend := false }).cell m =
      if m = l then { v.cell l with held := true, holdPend := false } else v.cell m := fun m => v.cell_setCell l m _
  have hengage : s.engage l = v.setCell l { v.cell l with held := true, holdPend := false } := by
    rw [← hv]
    rfl
  have hlater : ∀ {β : Type} (p : Cell → β), (∀ c x y, p { c with held := x, holdPend := y } = p c) → ∀ m,
      p ((s.engage l).cell m) = p (v.cell m) := by
    intro β p hp m
    rw [hengage, hlast]
    split
    next h => rw [h, hp]
    · rfl
  refine ⟨?_, fun m => ?_, fun m => ?_, ?_, ?_, ?_, ?_⟩
  · rw [hengage]
    exact haround.trans (.setCell (s.mem_boundSet l) _)
  · exact (hlater (·.code) (fun _ _ _ => rfl) m).trans (hproj (·.code) (fun _ _ => rfl) m)
  · exact (hlater (·.sat) (fun _ _ _ => rfl) m).trans (hproj (·.sat) (fun _ _ => rfl) m)
  · exact (hlater (·.fifo) (fun _ _ _ => rfl) l).trans (hproj (·.fifo) (fun _ _ => rfl) l)
  · rw [hengage, State.cell_setCell_same, Bool.true_or]
  · rw [hengage, State.cell_setCell_same, Bool.not_true, Bool.false_and]
  · exact (hlater (·.holdEnd) (fun _ _ _ => rfl) l).trans (hproj (·.holdEnd) (fun _ _ => rfl) l)

theorem State.Engages.engageIf (s : State) (l : Nat) (b : Bool) : s.Engages l b (s.engageIf l b) := by
  cases b with
  | true => exact .engage s l
  | false => exact ⟨.refl s, fun _ => rfl, fun _ => rfl, rfl, rfl, rfl, rfl⟩

end Sys2Proof.Machine

end

section

/-! SUPPORT. An update in STREAM mode (R207, R208, R221, R222), and DAC_UPDATE as the statement speaks of it. -/

namespace Sys2Proof.Machine

/-- What the DAC latches have no part in stays. -/
theorem State.SetChanges.proj {set : List Nat} {fs : List Field} {s t : State} {β : Type} (h : s.SetChanges set fs t) {p : Cell → β}
    (hp : ∀ c d, p { c with dac := d } = p c) (m : Nat) : p (t.cell m) = p (s.cell m) := by
  obtain ⟨d, hd⟩ := h.dacs m
  rw [hd, hp]

section

variable {s t : State} {l : Nat} {x : BitVec 14} {sat : Bool}

/-- The end of an update: the output state is shown. -/
theorem State.Sends.refreshed (h : s.Sends l x sat t) (hg : s.governs l = l) : s.Sends l x sat (t.refreshCell l) := by
  have href := State.SetChanges.refreshCell t l
  have haround := href.around
  rw [h.around.governs, hg, h.around.boundSet] at haround
  exact h.before haround (href.proj (p := (·.code)) fun _ _ => rfl) (href.proj (p := (·.sat)) fun _ _ => rfl)

theorem State.Sends.engaged (h : s.Sends l x sat t) (b : Bool) : s.Sends l x sat (t.engageIf l b) := by
  have heng := State.Engages.engageIf t l b
  exact h.before (h.around.boundSet l ▸ heng.around) heng.code heng.sat

/-- A hold engages after a code has been sent, and the output state is shown. -/
theorem State.cell_engaged_refreshed (s : State) (l : Nat) (b : Bool) :
    (((s.engageIf l b).refreshCell l).cell l).fifo = (s.cell l).fifo ∧
    (((s.engageIf l b).refreshCell l).cell l).held = (b || (s.cell l).held) ∧
    (((s.engageIf l b).refreshCell l).cell l).holdPend = (!b && (s.cell l).holdPend) ∧
    (((s.engageIf l b).refreshCell l).cell l).holdEnd = (s.cell l).holdEnd := by
  have heng := State.Engages.engageIf s l b
  have href := State.SetChanges.refreshCell (s.engageIf l b) l
  exact ⟨(href.proj (p := (·.fifo)) (fun _ _ => rfl) l).trans heng.fifo,
    (href.proj (p := (·.held)) (fun _ _ => rfl) l).trans heng.held,
    (href.proj (p := (·.holdPend)) (fun _ _ => rfl) l).trans heng.holdPend,
    (href.proj (p := (·.holdEnd)) (fun _ _ => rfl) l).trans heng.holdEnd⟩

theorem State.nextSample_due {w : CWord} {r : List CWord} (hf : (s.cell l).fifo = w :: r)
    (hd : w.stamp.isNone = true ∨ (s.cell l).headDue = true) : s.nextSample l = s.takeSample l := by
  unfold State.nextSample
  rw [hf]
  exact if_pos (Bool.or_eq_true_iff.mpr hd)

theorem State.nextSample_empty (hf : (s.cell l).fifo = []) : s.nextSample l = s.keepCode l := by
  unfold State.nextSample
  rw [hf]

/-- The hold of a cell after an update. -/
def Cell.heldNext (c : Cell) : Bool := c.holdPend || (c.held && !c.holdEnd)

variable (hl : l < 512) (hg : s.governs l = l)

include hl hg

omit hl in
/-- What an update that starts with a code sent from the state without the ended hold comes to. -/
theorem State.streamUpdate_sends (hs : s.starts l = true) (h : (s.unheld l).Streams l x sat ((s.unheld l).nextSample l)) :
    s.Sends l x sat (s.streamUpdate l) ∧ ((s.streamUpdate l).cell l).fifo = (((s.unheld l).nextSample l).cell l).fifo ∧
    ((s.streamUpdate l).cell l).held = (s.cell l).heldNext ∧ ((s.streamUpdate l).cell l).holdPend = false ∧
    ((s.streamUpdate l).cell l).holdEnd = false := by
  have hset : [l] ⊆ s.boundSet l := List.cons_subset.mpr ⟨s.mem_boundSet l, List.nil_subset _⟩
  have hsent : s.Sends l x sat ((s.unheld l).nextSample l) := .after ((s.unheld_around l).mono hset) h.sends
  obtain ⟨hfifo, hheld, hpend, hend⟩ := State.cell_engaged_refreshed ((s.unheld l).nextSample l) l (s.cell l).holdPend
  rw [State.streamUpdate_starts hs]
  refine ⟨(hsent.engaged _).refreshed hg, hfifo, ?_, ?_, ?_⟩
  · rw [hheld, h.held, State.cell_unheld]
    rfl
  · rw [hpend, h.holdPend, State.cell_unheld, Bool.not_and_self]
  · rw [hend, h.holdEnd, State.cell_unheld]

/-- The oldest due sample goes to the set. -/
theorem State.streamUpdate_takes (hs : s.starts l = true) {w : CWord} {r : List CWord} (hf : (s.cell l).fifo = w :: r)
    (hd : w.stamp.isNone = true ∨ (s.cell l).headDue = true) :
    s.Sends l (codeOfWord w.word).1 (codeOfWord w.word).2 (s.streamUpdate l) ∧
    ((∀ x ∈ r, x.stamp = none) → ((s.streamUpdate l).cell l).fifo = r) ∧
    ((s.streamUpdate l).cell l).held = (s.cell l).heldNext ∧ ((s.streamUpdate l).cell l).holdPend = false ∧
    ((s.streamUpdate l).cell l).holdEnd = false := by
  have hf' : ((s.unheld l).cell l).fifo = w :: r := by rw [State.cell_unheld, hf]
  have hd' : w.stamp.isNone = true ∨ ((s.unheld l).cell l).headDue = true := by rwa [State.cell_unheld]
  obtain ⟨htake, hrest⟩ := State.takeSample_streams hl hf'
  rw [← State.nextSample_due hf' hd'] at htake hrest
  obtain ⟨hsent, hfifo, hhold⟩ := State.streamUpdate_sends hg hs htake
  exact ⟨hsent, fun hr => hfifo.trans (hrest hr), hhold⟩

/-- No sample is taken: the code in force stays. -/
theorem State.streamUpdate_keeps (h : s.starts l = false ∨ (s.cell l).fifo = []) :
    s.Sends l (s.cell l).code (s.cell l).sat (s.streamUpdate l) ∧ ((s.streamUpdate l).cell l).fifo = (s.cell l).fifo ∧
    ((s.streamUpdate l).cell l).held = (s.cell l).heldNext := by
  by_cases hs : s.starts l = true
  · have hf : (s.cell l).fifo = [] := h.resolve_left (ne_false_of_eq_true hs)
    have hf' : ((s.unheld l).cell l).fifo = [] := by rw [State.cell_unheld, hf]
    obtain ⟨hkeep, hfifo'⟩ := State.keepCode_streams (s := s.unheld l) hl
    rw [← State.nextSample_empty hf', State.cell_unheld] at hkeep hfifo'
    obtain ⟨hsent, hfifo, hheld, -, -⟩ := State.streamUpdate_sends hg hs hkeep
    exact ⟨hsent, hfifo.trans hfifo', hheld⟩
  · have hs := eq_false_of_ne_true hs
    have heng := State.Engages.engageIf s l (s.cell l).holdPend
    obtain ⟨hkeep, hfifo⟩ := State.keepCode_streams (s := s.engageIf l (s.cell l).holdPend) hl
    have href := State.SetChanges.refreshCell ((s.engageIf l (s.cell l).holdPend).keepCode l) l
    have hend : (s.cell l).holdEnd = false := by
      unfold State.starts at hs
      exact (Bool.or_eq_false_iff.mp hs).1
    rw [heng.code, heng.sat] at hkeep
    rw [State.streamUpdate_holds hs]
    refine ⟨(hkeep.sends.after heng.around).refreshed hg, ?_, ?_⟩
    · exact (href.proj (p := (·.fifo)) (fun _ _ => rfl) l).trans (hfifo.trans heng.fifo)
    · rw [href.proj (p := (·.held)) (fun _ _ => rfl) l, hkeep.held, heng.held, Cell.heldNext, hend, Bool.not_false, Bool.and_true]

end

end Sys2Proof.Machine

end

section

/-! SUPPORT. The words of a stream (R207-R209, R221, R222): what becomes of each. -/

namespace Sys2Proof.Machine

theorem State.ctrs_inc_congr {s t : State} (hc : t.ctrs = s.ctrs) (hl : t.ctrLoad = s.ctrLoad) (a : Nat) :
    (t.inc a).ctrs = (s.inc a).ctrs := by
  unfold State.inc State.ctrApply
  rw [hl]
  cases tblGet (fun _ => none) s.ctrLoad a <;> simp only [State.setCtr, State.ctr, hc]

/-! ### The command -/

section

variable {s s' : State} {u : Fin 512} {w : CWord}

theorem cellStreamWord_none (h : s.takeArrived u = none) : exec (.cellStreamWord u) s = .next s := by
  show execCellStreamWord u s = _
  unfold execCellStreamWord
  rw [h]

theorem cellStreamWord_discards (h : s.takeArrived u = some (w, s')) (hn : s.governs u ≠ u ∨ s.fld (CEL_OUT u) CEL_OUT_MODE ≠ 1) :
    exec (.cellStreamWord u) s = .next s' := by
  show execCellStreamWord u s = _
  unfold execCellStreamWord
  rw [h, State.takeArrived_eq h]
  exact if_neg fun hgm => hn.elim (fun hg => hg hgm.1) fun hm => hm hgm.2

theorem cellStreamWord_takes (h : s.takeArrived u = some (w, s')) (hg : s.governs u = u) (hm : s.fld (CEL_OUT u) CEL_OUT_MODE = 1) :
    exec (.cellStreamWord u) s = .next (s'.cellWord u w) := by
  show execCellStreamWord u s = _
  unfold execCellStreamWord
  rw [h, State.takeArrived_eq h]
  exact if_pos ⟨hg, hm⟩

end

section

variable {s : State} {l : Nat} {w : CWord}

/-! ### Words that are not poisoned -/

/-- A sample ends the hold of a cell (R222). -/
def Cell.resumed (c : Cell) : Cell := { c with holdPend := false, holdEnd := c.held, timedOut := false }

/-- The cell with a sample at the end of its FIFO. -/
def Cell.accepts (c : Cell) (w : CWord) : Cell := { c.resumed with fifo := c.fifo ++ [w] }

/-- A sample stands at the end of the FIFO. -/
def State.accepted (s : State) (l : Nat) (w : CWord) : State := (s.setCell l (s.cell l).resumed).setCell l ((s.cell l).accepts w)

theorem State.cell_accepted (s : State) (l : Nat) (w : CWord) : (s.accepted l w).cell l = (s.cell l).accepts w :=
  State.cell_setCell_same _ _ _

theorem State.cellWord_room (hp : w.poisoned = false) (hf : wordFlag w.word 1 = false) (hr : (s.cell l).fifo.length < 4) :
    s.cellWord l w = if (s.cell l).fifo.isEmpty then (s.accepted l w).fifoHead l 1 else s.accepted l w := by
  unfold State.cellWord
  simp only [hp, hf, Bool.false_eq_true, if_false, State.cell_setCell_same]
  rw [if_pos hr]
  rfl

theorem State.cellWord_full (hp : w.poisoned = false) (hf : wordFlag w.word 1 = false) (hr : 4 ≤ (s.cell l).fifo.length) :
    s.cellWord l w = (s.setCell l (s.cell l).resumed).dropSample l := by
  unfold State.cellWord
  simp only [hp, hf, Bool.false_eq_true, if_false, State.cell_setCell_same]
  rw [if_neg (Nat.not_lt.mpr hr)]
  rfl

/-- Only one cell changed, and nothing else. -/
def State.OnlyCell (l : Nat) (x : Cell) (s t : State) : Prop :=
  t.cell l = x ∧ (∀ m, m ≠ l → t.cell m = s.cell m) ∧ t = { s with cells := t.cells }

theorem State.OnlyCell.setCell (s : State) (l : Nat) (x : Cell) : s.OnlyCell l x (s.setCell l x) :=
  ⟨s.cell_setCell_same l x, fun _ hm => s.cell_setCell_other x hm, rfl⟩

theorem State.OnlyCell.thenSetCell {t : State} {x : Cell} (h : s.OnlyCell l x t) (y : Cell) : s.OnlyCell l y (t.setCell l y) := by
  obtain ⟨-, hother, hrest⟩ := h
  exact ⟨t.cell_setCell_same l y, fun m hm => (t.cell_setCell_other y hm).trans (hother m hm),
    congrArg (fun v : State => { v with cells := (t.setCell l y).cells }) hrest⟩

theorem State.OnlyCell.accepted (s : State) (l : Nat) (w : CWord) : s.OnlyCell l ((s.cell l).accepts w) (s.accepted l w) :=
  (OnlyCell.setCell s l _).thenSetCell _

theorem State.OnlyCell.regs_ctrs {t : State} {x : Cell} (h : s.OnlyCell l x t) :
    (∀ a, t.reg a = s.reg a) ∧ t.ctrs = s.ctrs ∧ t.ctrLoad = s.ctrLoad := by
  obtain ⟨-, -, hrest⟩ := h
  rw [hrest]
  exact ⟨fun _ => rfl, rfl, rfl⟩

/-- A word with HOLD engages a hold with the next update, unless one stands (R221). -/
theorem State.cellWord_engages (hp : w.poisoned = false) (hf : wordFlag w.word 1 = true) :
    s.OnlyCell l (if (s.cell l).held && !(s.cell l).holdEnd then s.cell l else { s.cell l with holdPend := true })
      (s.cellWord l w) := by
  unfold State.cellWord
  simp only [hp, hf, Bool.false_eq_true, if_false, if_true]
  by_cases hh : ((s.cell l).held && !(s.cell l).holdEnd) = true
  · simp only [if_pos hh]
    exact ⟨rfl, fun _ _ => rfl, rfl⟩
  · simp only [if_neg hh]
    exact .setCell s l _

/-- A sample that comes to no empty FIFO, or bears no stamp, waits there (R207). -/
theorem State.cellWord_waits (hp : w.poisoned = false) (hf : wordFlag w.word 1 = false) (hr : (s.cell l).fifo.length < 4)
    (h : (s.cell l).fifo ≠ [] ∨ w.stamp = none) : s.OnlyCell l ((s.cell l).accepts w) (s.cellWord l w) := by
  have hacc := State.OnlyCell.accepted s l w
  rw [State.cellWord_room hp hf hr]
  split
  next he =>
    have he : (s.cell l).fifo = [] := List.isEmpty_iff.mp he
    rw [State.fifoHead_plain]
    · exact hacc
    · intro x hx
      rw [State.cell_accepted, Cell.accepts, he, List.nil_append] at hx
      rw [List.mem_singleton.mp hx]
      exact h.resolve_left fun hn => hn he
  · exact hacc

/-- A sample is dropped and counted (R207, R208). -/
def State.Drops (l : Nat) (s t : State) : Prop :=
  t.bit (CEL_STATUS l) CEL_STATUS_DROP = true ∧ t.ctrs = (s.inc (CEL_DROP_LO l)).ctrs ∧ s.RegsBut t [CEL_STATUS l]

theorem State.OnlyCell.drops {t : State} {x : Cell} (h : s.OnlyCell l x t) : s.Drops l (t.dropSample l) := by
  obtain ⟨hregs, hctrs, hload⟩ := h.regs_ctrs
  have hreg : ∀ a, (t.dropSample l).reg a = (t.flag (CEL_STATUS l) CEL_STATUS_DROP).reg a := fun a => State.reg_inc _ _ a
  refine ⟨?_, State.ctrs_inc_congr ((t.setF_ctrs _ _ _).trans hctrs) ((t.setF_ctrLoad _ _ _).trans hload) _, fun a ha => ?_⟩
  · rw [State.bit, State.fld, hreg, ← State.fld, ← State.bit]
    exact t.bit_setF_one _ rfl
  · rw [hreg]
    exact (t.regsBut_setF _ _ _ a ha).trans (hregs a)

theorem State.cell_dropSample (s : State) (l k : Nat) : (s.dropSample l).cell k = s.cell k :=
  (State.Around.dropSample s l).others k List.not_mem_nil

theorem State.cellWord_drops (hp : w.poisoned = false) (hf : wordFlag w.word 1 = false) (hr : 4 ≤ (s.cell l).fifo.length) :
    s.Drops l (s.cellWord l w) ∧ ((s.cellWord l w).cell l).fifo = (s.cell l).fifo := by
  rw [State.cellWord_full hp hf hr, State.cell_dropSample, State.cell_setCell_same]
  exact ⟨(OnlyCell.setCell s l _).drops, rfl⟩

/-- A stamped sample that comes to an empty FIFO (R208). -/
theorem State.cellWord_stamped (hp : w.poisoned = false) (hf : wordFlag w.word 1 = false) (he : (s.cell l).fifo = []) {x : Stamp}
    (hx : w.stampOf = some x) : s.cellWord l w =
      if Stamp.beyond x s.angle then ((s.accepted l w).setCell l { (s.cell l).accepts w with fifo := [] }).dropSample l
      else if s.late x .fwd 86 then ((s.accepted l w).inc (CEL_LATE_LO l)).setCell l { (s.cell l).accepts w with headDue := true }
      else (s.accepted l w).enqueue ⟨0, l, x, .fwd, .stream w, .sup, 0⟩ := by
  have hhead : ((s.accepted l w).cell l).fifo = [w] := by rw [State.cell_accepted, Cell.accepts, he, List.nil_append]
  rw [State.cellWord_room hp hf (by rw [he]; decide), he, if_pos List.isEmpty_nil, State.fifoHead_stamped hhead hx,
    State.cell_accepted]
  rfl

theorem Cell.fifo_accepts {c : Cell} (he : c.fifo = []) (w : CWord) : (c.accepts w).fifo = [w] := by
  rw [Cell.accepts, he, List.nil_append]

section

variable (hp : w.poisoned = false) (hf : wordFlag w.word 1 = false) (he : (s.cell l).fifo = []) {x : Stamp} (hx : w.stampOf = some x)

include hp hf he hx

theorem State.cellWord_beyond (hb : Stamp.beyond x s.angle = true) :
    s.Drops l (s.cellWord l w) ∧ ((s.cellWord l w).cell l).fifo = [] := by
  rw [State.cellWord_stamped hp hf he hx, if_pos hb, State.cell_dropSample, State.cell_setCell_same]
  exact ⟨((OnlyCell.accepted s l w).thenSetCell _).drops, rfl⟩

theorem State.cellWord_late (hb : Stamp.beyond x s.angle = false) (hlate : s.late x .fwd 86 = true) :
    ((s.cellWord l w).cell l).fifo = [w] ∧ ((s.cellWord l w).cell l).headDue = true ∧
    (s.cellWord l w).ctrs = (s.inc (CEL_LATE_LO l)).ctrs ∧ s.RegsBut (s.cellWord l w) [] := by
  rw [State.cellWord_stamped hp hf he hx, if_neg (ne_true_of_eq_false hb), if_pos hlate, State.cell_setCell_same]
  obtain ⟨hregs, hctrs, hload⟩ := (OnlyCell.accepted s l w).regs_ctrs
  obtain ⟨v, hv⟩ : ∃ v, (s.accepted l w).inc (CEL_LATE_LO l) = v := ⟨_, rfl⟩
  have hcount : v.ctrs = (s.inc (CEL_LATE_LO l)).ctrs := hv ▸ State.ctrs_inc_congr hctrs hload _
  have hreg : ∀ a, v.reg a = s.reg a := fun a => hv ▸ (State.reg_inc _ _ a).trans (hregs a)
  rw [hv]
  exact ⟨Cell.fifo_accepts he w, rfl, hcount, fun a _ => hreg a⟩

theorem State.cellWord_queues (hb : Stamp.beyond x s.angle = false) (hlate : s.late x .fwd 86 = false) :
    ((s.cellWord l w).cell l).fifo = [w] ∧ (s.cellWord l w).stq = s.stq ++ [⟨0, l, x, .fwd, .stream w, .sup, 0⟩] ∧
    s.RegsBut (s.cellWord l w) [] := by
  rw [State.cellWord_stamped hp hf he hx, if_neg (ne_true_of_eq_false hb), if_neg (ne_true_of_eq_false hlate)]
  have hcell : ((s.accepted l w).enqueue ⟨0, l, x, .fwd, .stream w, .sup, 0⟩).cell l = (s.cell l).accepts w := s.cell_accepted l w
  rw [hcell]
  exact ⟨Cell.fifo_accepts he w, rfl, fun a _ => (OnlyCell.accepted s l w).regs_ctrs.1 a⟩

end

/-! ### Poisoned words (R209) -/

/-- A poisoned word is flagged and counted, and under POISON_SAFE latches the set; the FIFO stays. -/
structure State.Poisons (l : Nat) (s t : State) : Prop where
  flag : t.bit (CEL_STATUS l) CEL_STATUS_POISON = true
  count : t.ctrs = (s.inc (CEL_POIS_LO l)).ctrs
  fifo : (t.cell l).fifo = (s.cell l).fifo
  safe : s.bit (CEL_OUT l) CEL_OUT_POISON_SAFE = true → s.LatchedSet t l 8
  plain : s.bit (CEL_OUT l) CEL_OUT_POISON_SAFE = false → s.RegsBut t [CEL_STATUS l]

theorem State.Poisons.setCell {t : State} (h : s.Poisons l t) {c : Cell} (hc : c.fifo = (t.cell l).fifo) :
    s.Poisons l (t.setCell l c) :=
  ⟨h.flag, h.count, by rw [State.cell_setCell_same, hc, h.fifo], h.safe, h.plain⟩

theorem State.cellPoison_poisons (s : State) (l : Nat) : s.Poisons l (s.cellPoison l) := by
  obtain ⟨v, hv⟩ : ∃ v, (s.flag (CEL_STATUS l) CEL_STATUS_POISON).inc (CEL_POIS_LO l) = v := ⟨_, rfl⟩
  have hreg : ∀ a, v.reg a = (s.flag (CEL_STATUS l) CEL_STATUS_POISON).reg a := fun a => hv ▸ State.reg_inc _ _ a
  have hbit : v.bit (CEL_STATUS l) CEL_STATUS_POISON = true := by
    rw [State.bit, State.fld, hreg, ← State.fld, ← State.bit]
    exact s.bit_setF_one _ rfl
  have hother : ∀ a, a ≠ CEL_STATUS l → v.reg a = s.reg a := fun a ha => (hreg a).trans (s.reg_setF_other _ _ _ _ ha)
  have hcount : v.ctrs = (s.inc (CEL_POIS_LO l)).ctrs := by
    rw [← hv]
    exact State.ctrs_inc_congr (s.setF_ctrs _ _ _) (s.setF_ctrLoad _ _ _) _
  have hcell : v.cell l = s.cell l := by rw [← hv, State.cell_inc, State.setF_flag, State.cell_setF]
  have hsafe : v.bit (CEL_OUT l) CEL_OUT_POISON_SAFE = s.bit (CEL_OUT l) CEL_OUT_POISON_SAFE := by
    rw [State.bit, State.fld, hother _ (celOut_ne_status l l), ← State.fld, ← State.bit]
  have hpoison : s.cellPoison l = if s.bit (CEL_OUT l) CEL_OUT_POISON_SAFE then v.latchCell l 8 else v := by
    rw [← hsafe, ← hv]
    rfl
  rw [hpoison]
  split
  next hb =>
    have hch := State.SetChanges.latchCell v l 8
    obtain ⟨hlatch, hflag⟩ := State.latchedSet_latchCell (s := s) (cause := 8) (f := CEL_STATUS_POISON) (by decide)
      ⟨rfl, by decide⟩ hreg
    refine ⟨hflag, ?_, ?_, fun _ => hlatch, fun hn => absurd hb (ne_true_of_eq_false hn)⟩
    · exact (congrArg State.ctrs hch.rest).trans hcount
    · rw [hch.proj (p := (·.fifo)) fun _ _ => rfl, hcell]
  next hb =>
    exact ⟨hbit, hcount, by rw [hcell], fun h => absurd h hb, fun _ a ha => hother a fun h => ha (List.mem_singleton.mpr h)⟩

theorem State.cellWord_poisons (hp : w.poisoned = true) : s.Poisons l (s.cellWord l w) := by
  have hpois := s.cellPoison_poisons l
  unfold State.cellWord
  simp only [hp, if_true]
  split
  · split
    · exact hpois
    · exact hpois.setCell rfl
  · exact hpois.setCell rfl

end

end Sys2Proof.Machine

end

section

/-! O19: the analogue cells (R203-R228). -/

namespace Sys2Proof.Machine

section

variable {s : State} {u : Fin 512}

/-- CONST (R203, R204, R213): the constant goes to every member of the set. -/
theorem dacUpdate_constant (hc : s.latchCause = false) (hm : s.fld (CEL_OUT u) CEL_OUT_MODE = 0) :
    s.Sends u (regCode (s.reg (CEL_CONST u))) false (s.dacUpdate u) ∧
    (∀ m ∈ s.boundSet u, ((s.dacUpdate u).cell m).dac =
      if 2 ≤ s.outState u then s.memberCode m (regCode (s.reg (CEL_CONST u))) else (s.cell m).dac) ∧
    (s.fld (CEL_OUT u) CEL_OUT_ECHO = 0 ∨ s.outState u < 2 → s.dacUpdate u = { s with cells := (s.dacUpdate u).cells }) ∧
    (s.fld (CEL_OUT u) CEL_OUT_ECHO = 1 → 2 ≤ s.outState u → s.boundSet u = [u.val] → (s.dacUpdate u).cxb =
      (s.offer u (echoWord (s.memberCode u (regCode (s.reg (CEL_CONST u)))) (s.outState u == 2) false none)).cxb) := by
  have hupdate : s.dacUpdate u = s.applyCode u (regCode (s.reg (CEL_CONST u))) false false none := by
    rw [State.dacUpdate_const hm, State.relatch_calm hc]
  rw [hupdate]
  refine ⟨.applyCode u.isLt _ _, fun m hmem => ?_, fun hquiet => s.applyCode_quiet _ _ _ _ ?_,
    fun he ho hset => s.applyCode_echo _ _ _ ho he hset⟩
  · rw [State.cell_applyCode _ _ _ _ _ u.isLt, if_pos hmem]
    rfl
  · omega

end

/-- Settles O19: an update sends one code to the whole set (`State.Sends`), by mode; a word of the stream changes one cell, or is
dropped, or poisons the cell; a cause flags the member and latches the set (`State.latchedSet_latchCell`). -/
theorem cellOutputs : Obligations.CellOutputs := by
  intro s q u l c set stat mode cause sent drives latched onlyCell dropped onlyDac starts
  refine ⟨dacUpdate_stays, fun hg hhalt hlate => ?update, cellStreamWord_none,
    fun w s' ht => ⟨cellStreamWord_discards ht, fun hg hm => ?words⟩,
    State.does_ite (holdTimeout_latches s u) fun h => if_neg h, State.does_ite (starveTimeout_latches s u) fun h => if_neg h,
    overcurrent_flags s u, waveLoadComplete_loads s u, celWaveDataRead_reads⟩
  case update =>
    have hrun := dacUpdate_runs hhalt hlate hg
    refine ⟨fun hc hm => ⟨_, hrun, State.dacUpdate_latches u.isLt hc hm⟩,
      fun hc => ⟨fun hm => ?const, fun hm => ?take, fun hm hkeep => ?keep, fun hm hp => ?idle, fun hm k hp => ?play⟩⟩
    case const =>
      obtain ⟨hsent, hdac, hquiet, hecho⟩ := dacUpdate_constant hc hm
      have hset : s.boundSet (s.governs u) = s.boundSet u := congrArg s.boundSet hg
      refine ⟨_, hrun, hsent.drives hg, fun m hmem => hdac m (hset ▸ hmem), fun h => ⟨fun a _ => ?_, hquiet h⟩,
        fun he ho hone => hecho he ho (hset ▸ hone)⟩
      rw [hquiet h]
      rfl
    case take =>
      intro hs w r hf hd
      obtain ⟨hsent, hrest⟩ := State.streamUpdate_takes u.isLt hg hs hf hd
      rw [← State.dacUpdate_stream hc hm] at hsent hrest
      exact ⟨_, hrun, hsent.drives hg, hrest⟩
    case keep =>
      obtain ⟨hsent, hrest⟩ := State.streamUpdate_keeps u.isLt hg hkeep
      rw [← State.dacUpdate_stream hc hm] at hsent hrest
      exact ⟨_, hrun, hsent.drives hg, hrest⟩
    case idle =>
      have hsent := State.waveUpdate_idle u.isLt hp
      rw [← State.dacUpdate_wave hc hm] at hsent
      exact ⟨_, hrun, hsent.drives hg⟩
    case play =>
      have hplay := State.waveUpdate_plays u.isLt hp
      rw [← State.dacUpdate_wave hc hm] at hplay
      refine ⟨_, hrun, ?_⟩
      split
      next hk =>
        rw [if_pos hk] at hplay
        exact ⟨hplay.1.drives hg, hplay.2⟩
      next hk =>
        rw [if_neg hk] at hplay
        exact ⟨hplay.1.drives hg, hplay.2⟩
  case words =>
    have htake := cellStreamWord_takes ht hg hm
    obtain ⟨y, rfl⟩ : ∃ y, s' = { s with cxb := y } := ⟨_, State.takeArrived_eq ht⟩
    refine ⟨fun hp hf => ⟨_, htake, State.cellWord_engages hp hf⟩,
      fun hp hf => ⟨fun hr h => ?wait, fun x he hx => ?stamped, fun hr => ?full⟩, fun hp => ?poison⟩
    case wait => exact ⟨_, htake, State.cellWord_waits hp hf hr h⟩
    case stamped =>
      exact ⟨fun hb => ⟨_, htake, State.cellWord_beyond hp hf he hx hb⟩,
        fun hb hl => ⟨_, htake, State.cellWord_late hp hf he hx hb hl⟩,
        fun hb hl => ⟨_, htake, State.cellWord_queues (s := { s with cxb := y }) hp hf he hx hb hl⟩⟩
    case full => exact ⟨_, htake, State.cellWord_drops hp hf hr⟩
    case poison =>
      obtain ⟨hflag, hcount, hfifo, hsafe, hplain⟩ := State.cellWord_poisons (s := { s with cxb := y }) (l := u) hp
      exact ⟨_, htake, hflag, hcount, hfifo, hsafe, hplain⟩

end Sys2Proof.Machine

end
